-- ==== Sys2Proof/Word.lean ====
section
/-!
DEFINITION. Sys2Proof/Word.lean: the plain number and table types of the LN8464 model.

The LN8464 is a block of registers, counters, timers and queues whose contents the spec states as numbers in a unit (10 mV, 1 ms, counts);
they are natural numbers here, and every write through `Machine/Ops.lean` reduces them to the width the spec gives.
-/
namespace Sys2Proof

/-- A time or a length of time in nanoseconds. -/
abbrev Ns := Nat

/-- A byte as it stands in host memory, in a frame or in a record. -/
abbrev Byte := Nat

/-- A sparse table: pairs of an index and a value, the indices strictly rising.  What an index without an entry holds is
said where the table is read. -/
abbrev Tab (α : Type) := List (Nat × α)

end Sys2Proof
end

