-- ==== Sys2Proof/Machine/Types/Cmd.lean ====
section
/-!
DEFINITION. Sys2Proof/Machine/Types/Cmd.lean: a command descriptor (R88), the completion codes (R13), measured quantities.
-/
namespace Sys2Proof.Machine

/-- Where a command comes from: a command ring of the host, a Fife core's channel socket (R759), or the journal of a Shadow that takes over
(R719). -/
inductive Src where
  | host
  | core (c : Nat)
  | journal
  deriving DecidableEq, Repr

/-- A command descriptor of 32 bytes (R88), with the ring and the entry it was fetched from.  `param` holds bytes 16 to 31,
byte 16 in bits 7:0. -/
structure Cmd where
  pf     : Nat
  ring   : Nat
  slot   : Nat
  src    : Src := .host
  op     : Nat
  flags  : Nat
  tag    : Nat
  object : Nat
  seq    : Nat
  maxlat : Nat
  rsv    : Nat := 0
  param  : Nat
  deriving DecidableEq, Repr

/-- The completion codes of R13. -/
inductive Code where
  | done | doneClamped | deferred | refusedBudget | refusedPolicy | refusedSecurity | refusedState
  | abortedReset | cancelled | sentLateCancel | faulted | unverified | masterFrozen
  deriving DecidableEq, Repr

/-- A value's sample time: on the monotonic count, and in network time (R629). -/
structure Stamp where
  at_  : Ns
  time : Nat
  deriving DecidableEq, Repr

/-- Measured quantities that a hardware event carries: current (16-bit pattern in the block's unit) and Tj + 50. -/
structure Meas where
  i    : Nat
  tj   : Nat
  /-- for how long a channel has been in current limit without a break, ns (R166); none when it is not in limit -/
  lim  : Option Ns := none
  /-- output voltage, or the drain voltage of a low-side channel, 10 mV -/
  vout : Nat := 0
  /-- for how long the condition that the row reports has held without a break, ns -/
  held : Ns := 0
  deriving DecidableEq, Repr

/-- A quantity `v` read at the object or group `n`. -/
structure Seen where
  n : Nat
  v : Nat
  deriving DecidableEq, Repr

/-- A quantity `v` that has stood without a break for `held` ns. -/
structure Lasting where
  v    : Nat
  held : Ns
  deriving DecidableEq, Repr

/-- What an off-state test reads (R231 to R234): the output with the test current, 10 mV, and whether a clamp event has not ended yet. -/
structure OffSeen where
  v     : Nat
  clamp : Bool
  deriving DecidableEq, Repr

/-- A dip of a coil current (R411, R412): its lowest sample after BOOST's start, 10 µs per unit, the fall below the highest value before it and the rise
after it, mA. -/
structure DipSeen where
  t    : Nat
  fall : Nat
  rise : Nat
  deriving DecidableEq, Repr

/-- A commutation ripple (R454): the bridge current, 10 mA as a 16-bit pattern, how far the filtered current had fallen below 0 before it rose through it,
10 mA, and the back-EMF of open terminals, 10 mV. -/
structure RippleSeen where
  i    : Nat
  fall : Nat
  emf  : Nat
  deriving DecidableEq, Repr

/-- What a segment measurement reads (R242): the channel's measured values and the drifts in % of its active segments, in their order. -/
structure SegSeen where
  meas   : Meas
  drifts : List Nat
  deriving DecidableEq, Repr

/-- One sample of a running object's current, mA, of a paralleled group its sum, and whether it was taken in an on-time (R226, R286). -/
structure LoadSeen where
  obj : Nat
  i   : Nat
  on  : Bool
  deriving DecidableEq, Repr

/-- One sample of the global measurements (R54, R944), in their registers' units. -/
structure Sample where
  vbat  : Nat
  volt  : List Nat
  curr  : List Nat
  tcase : Nat
  tdie  : List Nat
  pd    : Nat
  vbst  : Nat
  loads : List LoadSeen
  /-- running boost phases: channel, and the energy drawn from VBST so far, 0.1 mJ (R392) -/
  boosts : List (Nat × Nat)
  /-- present measurements of output objects: object ID, current, Tj, ΔT (R218, R376, R431, R464) -/
  meas : List (Nat × Meas)
  deriving DecidableEq, Repr

end Sys2Proof.Machine
end

