-- ==== Sys2Proof/Machine/Types/Core.lean ====
section
/-!
DEFINITION. Sys2Proof/Machine/Types/Core.lean: the Fife cores and the Shawm pair (R745 to R785).
-/
namespace Sys2Proof.Machine

/-- What holds a bundle (R760, R762, R765). -/
inductive Hold where
  /-- TMR.WAIT and TMR.WAITM, with the deadline -/
  | wait (t : Nat)
  | waitMs (t : Nat)
  /-- MBX.RX on an empty queue -/
  | rx
  /-- a channel trigger, with the commands that have not had their first answer -/
  | chan (cs : List Cmd)
  /-- SHW.JOIN -/
  | join
  deriving DecidableEq, Repr

/-- What the comparator records of a disagreement (R774): kind, bundle, values of copies A and B, socket or data address. -/
structure Mismatch where
  kind : Nat
  pc   : Nat
  a    : Nat
  b    : Nat
  at_  : Nat
  deriving DecidableEq, Repr

/-- One core, or one copy of the Shawm pair. -/
structure Core where
  /-- X0 to X63 -/
  x     : Tab Nat := []
  /-- guards: g1 to g7 in bits 7:1 -/
  g     : Nat := 0
  /-- operand latches, result sockets and BR.LINK, by socket address -/
  sock  : Tab Nat := []
  /-- bundle to be issued next, or held -/
  pc    : Nat := 0
  /-- bundle that follows a held one -/
  next  : Nat := 0
  holds : List Hold := []
  /-- instruction memory, by bundle address, and data memory, by word address; an absent entry holds 0 -/
  imem  : Tab Nat := []
  dmem  : Tab Nat := []
  /-- mailbox queue, oldest first -/
  mbx   : List Nat := []
  /-- words of a host message that has not been sent -/
  msg   : List Nat := []
  /-- MBX.ST: no send has been dropped since the last successful one -/
  sent  : Bool := true
  /-- a copy of the Shawm pair has stopped at an illegal bundle or a fault -/
  stopped : Bool := false
  deriving DecidableEq, Repr

structure CoreState where
  /-- logical cores C0 to C3 -/
  cores  : Tab Core := []
  /-- the Shawm pair in lockstep, copy A in split; copy B in split -/
  shawm  : Core := {}
  copyB  : Core := {}
  /-- copy B runs, has halted, or waits in SHW.JOIN -/
  runB   : Bool := false
  /-- an armed fault injection: kind 1 to 3, and the handshakes left (R777) -/
  inj    : Option (Nat × Nat) := none
  /-- monotonic time of the last SHW.HB and SHW.TWREF -/
  hbAt   : Option Ns := none
  twAt   : Option Ns := none
  /-- when the pair split; SPLITMAX has stopped copy B (R781) -/
  splitAt : Ns := 0
  forced  : Bool := false
  /-- a LOCKSTEP_MISMATCH is to be raised after the reset (R774) -/
  mismatch : Bool := false
  /-- how many channel triggers have been issued, for their descriptors (the model's own count) -/
  issued  : Nat := 0
  /-- bundles that boot loaded from the active firmware: core 0 to 3, 8 for the Shawm pair (R767) -/
  image  : Tab (Tab Nat) := []
  deriving DecidableEq, Repr

end Sys2Proof.Machine
end

