-- ==== Sys2Proof/Machine/Types/Host.lean ====
section
/-!
DEFINITION. Sys2Proof/Machine/Types/Host.lean: the state of the host attachment (R78 to R145): functions, rings, commands in flight, and what
the module sends to host memory.
-/
namespace Sys2Proof.Machine

/-- A command from its fetch to its final completion (R112). -/
structure InFlight where
  cmd      : Cmd
  /-- completion ring bound to the command ring at the fetch -/
  cpl      : Nat := 0
  /-- the command has started (R116) -/
  started  : Bool := false
  /-- the command's point of no return has passed (R122) -/
  begun    : Bool := false
  /-- a DEFERRED completion has been decided for it (R14), with the planned service time -/
  deferred : Bool := false
  planned  : Nat := 0
  /-- fields of the descriptor that were clamped (R136) -/
  clamps   : Nat := 0
  /-- HR_FUNC.GEN at the fetch (R128) -/
  gen      : Nat := 0
  /-- monotonic time of the fetch -/
  since    : Nat := 0
  /-- CANCEL commands that wait for this command's final completion (R121, R123) -/
  cancels  : List Cmd := []
  /-- the owners at the fetch, under which the command completes (R83) -/
  owners   : Tab Nat := []
  /-- sub-code of the DEFERRED completion -/
  deferSub : Nat := 0
  deriving DecidableEq, Repr

/-- A command ring's registers and indices (R97, R145). -/
structure CmdRing where
  baseLo   : Nat := 0
  baseHi   : Nat := 0
  log2sz   : Nat := 4
  cplsel   : Nat := 0
  rpri     : Nat := 3
  en       : Bool := false
  head     : Nat := 0
  tail     : Nat := 0
  hwbLo    : Nat := 0
  hwbHi    : Nat := 0
  /-- a fetch has failed, and the ring has not been enabled again (R111) -/
  stopped  : Bool := false
  fetcherr : Bool := false
  dberr    : Nat := 0
  /-- CMDn_SEQ.LAST; before the first accepted command the ring accepts any SEQ that exceeds it (R115) -/
  last     : Nat := 0
  deriving DecidableEq, Repr

/-- A completion ring or an event ring (R97, R142, R145). -/
structure OutRing where
  baseLo  : Nat := 0
  baseHi  : Nat := 0
  log2sz  : Nat := 4
  vec     : Nat := 0
  modcnt  : Nat := 1
  modtime : Nat := 0
  en      : Bool := false
  tail    : Nat := 0
  head    : Nat := 0
  /-- SKIPDEF of a completion ring -/
  skipdef : Nat := 0
  /-- LOST of the event ring (R140) -/
  lost    : Nat := 0
  /-- the next event written carries the LOST flag -/
  lostFlag : Bool := false
  /-- EVSEQ of the next event -/
  evseq   : Nat := 0
  dberr   : Nat := 0
  /-- entries written since the last MSI-X message, and the time of the first of them (R142) -/
  unsig   : Nat := 0
  unsigAt : Nat := 0
  deriving DecidableEq, Repr

/-- A completion of 16 bytes (R92). -/
structure Completion where
  tag   : Nat
  code  : Code
  ring  : Nat
  phase : Nat
  sub   : Nat
  slot  : Nat
  time  : Nat
  deriving DecidableEq, Repr

/-- An event of 32 bytes (R93).  `data` holds bytes 16 to 31, byte 16 in bits 7:0. -/
structure Event where
  type   : Nat
  phase  : Nat := 0
  lost   : Bool := false
  merge  : Nat := 0
  object : Nat
  seq    : Nat := 0
  time   : Nat
  data   : Nat
  deriving DecidableEq, Repr

/-- What the module sends to the host: posted writes (R942) and MSI-X messages. -/
inductive HostWrite where
  /-- a completion, into entry `idx` of completion ring `ring` of function `pf` -/
  | completion (pf ring idx : Nat) (c : Completion)
  /-- an event, into entry `idx` of the event ring of function `pf` -/
  | event (pf idx : Nat) (e : Event)
  /-- a head write-back of a command ring (R100) -/
  | headWb (pf ring head : Nat)
  /-- result data at a host address -/
  | result (pf addr : Nat) (bytes : List Byte)
  /-- a frame into the receive queue of a channel (R559): segment number, entry, bytes -/
  | rxEntry (pf seg idx : Nat) (bytes : List Byte)
  /-- an MSI-X message: vector, and the message address and data of its table entry -/
  | msix (pf vec addr data : Nat)
  deriving DecidableEq, Repr

/-- The function that a write or a message belongs to. -/
def HostWrite.pf : HostWrite → Nat
  | .completion pf _ _ _ => pf | .event pf _ _ => pf | .headWb pf _ _ => pf | .result pf _ _ => pf | .rxEntry pf _ _ _ => pf | .msix pf _ _ _ => pf

/-- A completion, an event or an MSI-X message of a frozen function, held until its release (R131, R132; log entry 55). -/
inductive Held where
  | completion (cpl : Nat) (c : Completion)
  | event (e : Event)
  | msix (vec : Nat)
  deriving DecidableEq, Repr

/-- A physical function (R79, R145). -/
structure Func where
  enable  : Bool := false
  frozen  : Bool := false
  gen     : Nat := 0
  stale   : Nat := 0
  aborted : Nat := 0
  ownsel  : Nat := 0
  /-- mask bits and pending bits of the 16 MSI-X vectors (R80, R144) -/
  vecMask : Nat := 0xFFFF
  vecPend : Nat := 0
  /-- message address, 64 bits, and message data of the 16 entries of the MSI-X table in BAR4 (R80) -/
  vecAddr : Tab Nat := []
  vecData : Tab Nat := []
  /-- CLOG_SEL.WIN (R141) -/
  clogSel : Nat := 0
  /-- FLT_CTL of each block: IEN in bit 0, VEC in bits 7:4 (R816) -/
  fltCtl  : Tab Nat := []
  /-- held completions, events and messages of a freeze, oldest first -/
  held    : List Held := []
  /-- the tails that doorbells had set when the freeze came (R132), by command ring: entries before them are completed with MASTER_FROZEN -/
  frzTail : Tab Nat := []
  deriving DecidableEq, Repr

/-- The host attachment. -/
structure HostState where
  fns      : Tab Func := []
  /-- command rings, ring n of function k at 32k + n -/
  cmdRings : Tab CmdRing := []
  /-- completion rings, ring m of function k at 32k + m -/
  cplRings : Tab OutRing := []
  /-- event rings, by function -/
  evtRings : Tab OutRing := []
  /-- owners that differ from R81, by object ID -/
  owners   : Tab Nat := []
  /-- commands in flight, oldest first -/
  inflight : List InFlight := []
  /-- completions decided in the present step, oldest first: function, completion ring, completion.  They are written after the step's result data and
  events (R119) -/
  outbox   : List (Nat × Nat × Completion) := []
  /-- the command ring fetched from last, by RPRI: ring n of function k is 32k + n (R114) -/
  lastRing : Tab Nat := []
  /-- commands that blocks still run under an earlier HR_FUNC.GEN: they have begun, and their replies will be discarded (R128, R129) -/
  staleCmds : List Cmd := []
  /-- the PCIe link is in L0 -/
  linkUp   : Bool := false
  /-- PE_PERST_N is asserted, as last seen -/
  perst    : Bool := false
  /-- posted writes that wait for the link, newest first -/
  waiting  : List HostWrite := []
  /-- posted writes and messages sent, newest first -/
  sent     : List HostWrite := []
  /-- the value that the last setup read returned -/
  readback : Nat := 0
  /-- doorbell writes that take effect at LOGIC_RDY (R821), oldest first: function, page offset, value -/
  earlyDb  : List (Nat × Nat × Nat) := []
  /-- events held for the event rings after a return from Stop (R843), oldest first -/
  wakeEvents : List Event := []
  /-- functions whose ring has not yet received the held events -/
  wakeOwed : List Nat := []
  /-- answers to commands that cores issued or a journal replayed, newest first: command, code, sub-code (R760) -/
  answers : List (Cmd × Code × Nat) := []
  /-- functions frozen within this step by a ring access, with the address (R875, R876): their freeze has still to be carried out -/
  viols : List (Nat × Nat) := []
  /-- PE_PERST_N was asserted while die C was in reset (R943) -/
  perstLatched : Bool := false
  deriving DecidableEq, Repr

end Sys2Proof.Machine
end

