-- ==== Sys2Proof/Machine/Types/Fault.lean ====
section
/-!
DEFINITION. Sys2Proof/Machine/Types/Fault.lean: block fault state, history queues, clamp logs, freezes, violations and retirement records
(R135 to R141, R787 to R817, R876).
-/
namespace Sys2Proof.Machine

/-- One entry of a history queue (R799). -/
structure HistEntry where
  event   : Event
  merged  : Bool := false
  fault   : Bool := false
  refused : Bool := false
  count   : Nat
  deriving DecidableEq, Repr

/-- Fault state of a block (R789, R816). -/
structure Blk where
  active  : Bool := false
  merge   : Nat := 0
  firstev : Nat := 0
  faults  : Nat := 0
  refused : Nat := 0
  evcnt   : Nat := 0
  /-- history queue, newest first -/
  hist    : List HistEntry := []
  deriving DecidableEq, Repr

/-- A clamp log entry (R141). -/
structure ClampEntry where
  offset  : Nat
  lsb     : Nat
  width   : Nat
  src     : Nat
  pf      : Nat
  req     : Nat
  applied : Nat
  tag     : Nat := 0
  object  : Nat := 0xFFFF
  deriving DecidableEq, Repr

/-- A window's clamp log (R138). -/
structure ClampLog where
  entries : Tab ClampEntry := []
  next    : Nat := 0
  total   : Nat := 0
  deriving DecidableEq, Repr

/-- A violation log entry (R876, R879): `kind` 0 a setup write, 1 DMA. -/
structure Violation where
  pf   : Nat
  kind : Nat
  win  : Nat := 0
  off  : Nat := 0
  addr : Nat := 0
  time : Nat
  deriving DecidableEq, Repr

/-- A record of the retirement log (R811). -/
structure Retirement where
  kind    : Nat
  reason  : Nat
  unit    : Nat
  element : Nat
  flags   : Nat
  index   : Nat
  time    : Nat
  deriving DecidableEq, Repr

/-- An event that a power die keeps while die C is absent (R270). -/
structure KeptEvent where
  type   : Nat
  object : Nat
  data   : Nat
  fault  : Bool
  time   : Nat
  deriving DecidableEq, Repr

/-- What an SRAM array holds, where the spec gives a failing row an effect of its own (R805, R806). -/
inductive ArrayUse where
  /-- packet memory, with the numbers of the stored frames in the row -/
  | packet (frames : List Nat)
  /-- a bank of the frame identity table -/
  | fit (bank : Nat)
  /-- memory of logical core `k`: the address that the core reports, and the data words in the row -/
  | core (k faddr : Nat) (words : List Nat)
  | other
  deriving DecidableEq, Repr

/-- An error that the scrub finds (R804): array and row, uncorrectable or not, and what the array holds. -/
structure ScrubHit where
  array : Nat
  row   : Nat
  hard  : Bool := false
  use   : ArrayUse
  deriving DecidableEq, Repr

/-- Fault handling and spare capacity. -/
structure FaultState where
  blks     : Tab Blk := []
  clogs    : Tab ClampLog := []
  frzcnt   : Nat := 0
  lastrsn  : Nat := 0
  viols    : Tab Violation := []
  violNext : Nat := 0
  violCnt  : Nat := 0
  /-- events kept by the power dies, oldest first -/
  kept     : List KeptEvent := []
  /-- corrected errors since power-up, row r of array a at 65536a + r (R804) -/
  ecc      : Tab Nat := []
  /-- the last pass of the scrub, the last calibration of the converters (R804) -/
  scrubAt  : Option Ns := none
  calAt    : Option Ns := none
  /-- hardware lines to the Shawm pair (R790): blocks whose fault has been signalled -/
  shawm    : List Nat := []
  deriving DecidableEq, Repr

end Sys2Proof.Machine
end

