-- ==== Sys2Proof/Machine/Types/Net.lean ====
section
/-!
DEFINITION. Sys2Proof/Machine/Types/Net.lean: CAN, LIN and Ethernet: frames, queues, the frame identity table, packet memory, network sleep
(R540 to R678): what no register shows.
-/
namespace Sys2Proof.Machine

/-- A CAN or LIN frame.  `id` is the ID word of R547 (for LIN bits 5:0 the identifier, 7:6 its parity); `fmt` is FMT of R559: 0 classical, 1 FD, 2 FD
with BRS, 3 XL, 4 LIN; `flags` are those of R559; `hdr` is the 8-byte XL header of R548. -/
structure Frame where
  id    : Nat
  fmt   : Nat
  flags : Nat := 0
  hdr   : List Byte := []
  data  : List Byte := []
  deriving DecidableEq, Repr

/-- An Ethernet frame without FCS: destination and source address in wire order, VLAN tag, R-TAG number, EtherType, payload after it. -/
structure EthFrame where
  da   : List Byte
  sa   : List Byte
  tci  : Option Nat := none
  rtag : Option Nat := none
  type : Nat
  body : List Byte
  deriving DecidableEq, Repr

/-- What a transmit queue holds: a bus frame, an Ethernet frame, or a bus frame from channel `bus` that leaves as an IEEE 1722 message. -/
inductive Body where
  | bus (f : Frame)
  | eth (f : EthFrame)
  | acf (f : Frame) (bus : Nat)
  deriving DecidableEq, Repr

/-- Why a frame is sent: a host command; FIT entry `e`; the segment's own keep-alive (R648); a reference message (R573); a gPTP message (R622); an
out-of-band heartbeat (R725); a release message (R894). -/
inductive From where
  | cmd (c : Cmd)
  | route (e : Nat)
  | own
  | ref
  | sync
  | oob
  | rel
  deriving DecidableEq, Repr

/-- A frame in a transmit queue. -/
structure Tx where
  ord   : Nat
  frm   : From
  body  : Body
  /-- sample of the value it carries; none when there is none, or for a frame that no rule judges -/
  stamp : Option Stamp := none
  /-- the entry that judges it, with a host frame's command in `frm` (R638) -/
  entry : Option Nat := none
  /-- DEADLINE of an unmatched ETH_SEND that is judged by itself (R638) -/
  limit : Option Nat := none
  /-- this copy counts for its entry (R644) -/
  lead  : Bool := true
  tc    : Nat := 0
  /-- the stored frame in packet memory -/
  sn    : Nat := 0
  deriving DecidableEq, Repr

/-- A frame on the bus or on a port's line, as it is sent. -/
structure OnBus where
  tx     : Tx
  frame  : Body
  marked : Bool := false
  /-- network time of its start -/
  sof    : Nat
  /-- a CANCEL has been latched (R555) -/
  cancel : Bool := false
  deriving DecidableEq, Repr

/-- A collision table entry (R570). -/
structure Coll where
  id      : Nat
  blocked : Bool := false
  count   : Nat := 0
  pos     : Nat := 0
  born    : Nat
  deriving DecidableEq, Repr

/-- A CAN channel. -/
structure CanCh where
  queue   : List Tx := []
  bus     : Option OnBus := none
  /-- monotonic time of the last bus-off (R567) -/
  offAt   : Ns := 0
  /-- error counters of ISO 11898-1, unsaturated -/
  tec     : Nat := 0
  rec_    : Nat := 0
  coll    : Tab Coll := []
  collSeq : Nat := 0
  changed : Nat := 0
  /-- the eight counts of READ_COUNTERS -/
  counts  : Tab Nat := []
  /-- network time of the previous reference message's SOF, and the last REFPER multiple served -/
  tmSof   : Option Nat := none
  tmLast  : Nat := 0
  deriving DecidableEq, Repr

/-- Source of a LIN response (R584, R604). -/
structure LinResp where
  data  : List Byte
  cks   : Bool := false
  /-- end of its freshness; `once` sends it in one response only -/
  ends  : Ns := 0
  once  : Bool := false
  /-- the entry that judges it, and its sample -/
  entry : Option Nat := none
  stamp : Option Stamp := none
  deriving DecidableEq, Repr

/-- What the response that a LIN channel has on its bus has recorded, in case that it does not finish (R74): when it ends, its identifier, the source that
it used up, and the entry and count that it counted for. -/
structure LinOut where
  ends  : Ns
  id    : Nat
  once  : Option LinResp := none
  count : Option (Nat × Nat) := none
  deriving DecidableEq, Repr

/-- A LIN channel. -/
structure LinCh where
  resp   : Tab LinResp := []
  /-- a master request has been published since 3Ch was last sent (R582) -/
  mreq   : Bool := false
  /-- LIN_SCHED that waits for the end of the slot: table, stop, command -/
  req    : Option (Nat × Bool × Cmd) := none
  slotAt : Ns := 0
  /-- a schedule has sent no header yet -/
  fresh  : Bool := true
  /-- LIN_SLEEP and NM_NEED or LIN_WAKE commands whose frame or pulse runs -/
  sleeps : List Cmd := []
  wakes  : List Cmd := []
  /-- when the go-to-sleep frame or the wake pulse that runs began -/
  opAt   : Ns := 0
  /-- the last response that the module sent: identifier and data -/
  sent   : Option (Nat × List Byte) := none
  /-- the end of the header on the bus, and the response on it -/
  headAt : Ns := 0
  out    : Option LinOut := none
  counts : Tab Nat := []
  changed : Nat := 0
  deriving DecidableEq, Repr

/-- A port. -/
structure Port where
  queue  : List Tx := []
  line   : Option OnBus := none
  /-- the gates as the last change left them (R600) -/
  gates  : Nat := 255
  changed : Nat := 0
  counts : Tab Nat := []
  deriving DecidableEq, Repr

/-- Moderation of a receive queue (R557, R562). -/
structure RxQ where
  unsig   : Nat := 0
  unsigAt : Ns := 0
  /-- RXQ_FULL has been raised since space was last available -/
  full    : Bool := false
  deriving DecidableEq, Repr

/-- The latest value of a FIT entry, with the channel it came from (R627). -/
structure Value where
  body  : Body
  bus   : Nat := 0
  stamp : Stamp
  deriving DecidableEq, Repr

/-- Vector recovery of 802.1CB (R612). -/
structure Recov where
  any   : Bool := true
  seq   : Nat := 0
  hist  : Nat := 0
  last  : Ns := 0
  deriving DecidableEq, Repr

/-- An entry of the frame identity table: its 64 bytes as a number, and what it has gathered. -/
structure FitEntry where
  word    : Nat := 0
  counts  : Tab Nat := []
  /-- R-TAG sequence number and AVTP sequence number of the next send -/
  rseq    : Nat := 0
  aseq    : Nat := 0
  value   : Option Value := none
  /-- since when samples count (R617, R630) -/
  since   : Ns := 0
  /-- flow meter: frames × 10^8, and when it was last filled (R601) -/
  tokens  : Nat := 0
  fillAt  : Ns := 0
  recov   : Recov := {}
  /-- monotonic time of the last delivery on E0 and on E1, and whether PATH_SILENT has been raised (R613) -/
  lastE   : Option Ns × Option Ns := (none, none)
  startAt : Ns := 0
  silent  : Bool × Bool := (false, false)
  /-- last periodic send, as a multiple of PERIOD -/
  sent    : Nat := 0
  deriving DecidableEq, Repr

/-- A frame in packet memory: cells of its client's reservation and of the shared pool, and egress copies still to leave (R605). -/
structure Stored where
  client : Nat
  own    : Nat
  shared : Nat
  copies : Nat
  /-- the ETH_SEND that it serves, and whether a copy was marked -/
  cmd    : Option Cmd := none
  marked : Bool := false
  /-- R-TAG and AVTP sequence numbers, taken when its first copy starts (R610, R611, R619) -/
  nums   : Option (Nat × Nat) := none
  deriving DecidableEq, Repr

/-- A learned address (R592). -/
structure MacEntry where
  mac  : List Byte
  vid  : Nat
  port : Nat
  at_  : Ns
  deriving DecidableEq, Repr

/-- A node table entry (R664, R665): KEEPT is held in ns. -/
structure Node where
  nid   : Nat
  kacnt : Nat := 0
  kept  : Nat := 0
  last  : Ns := 0
  deriving DecidableEq, Repr

/-- What a sleeping segment's wake detector sees (R655 to R657). -/
inductive BusSign where
  /-- dominant phases of a CAN wake-up pattern: the shortest of them, and the length of the whole pattern, ns -/
  | pattern (phase whole : Nat)
  /-- a dominant level on LIN followed by a recessive one -/
  | dominant (len : Nat)
  /-- signal energy on an Ethernet pair -/
  | energy (len : Nat)
  /-- a classical frame without error; `remote`: it is a remote frame -/
  | frame (remote ide : Bool) (id dlc : Nat) (data : Nat)
  /-- a frame with a stuff, form or CRC error -/
  | badFrame
  /-- an FD or XL frame -/
  | fdFrame
  deriving DecidableEq, Repr

/-- A segment's sleep agreement (R650). -/
structure Seg where
  /-- end of TKA, of TPREP, and the next own keep-alive -/
  tkaAt  : Ns := 0
  prepAt : Ns := 0
  kaAt   : Ns := 0
  /-- end of the host's hold; none without limit (R653), and end of the forward hold -/
  holdAt : Option Ns := none
  fwdAt  : Ns := 0
  needs  : List Cmd := []
  /-- the first own keep-alive of this NEED has ended -/
  kaOk   : Bool := false
  /-- since when the present keeper is charged, and since when the segment has been in READY or PREP (R665, R666) -/
  keptAt : Ns := 0
  openAt : Ns := 0
  /-- the start of the present STUCKT of NM_KEEPER (R666) -/
  stuckAt : Ns := 0
  /-- monotonic time of the last frame on the lines, and since when the slice times their silence (R659, R661) -/
  busAt  : Ns := 0
  idleAt : Ns := 0
  nodes  : Tab Node := []
  /-- network time of the latched wake, its kind and whether it was latched from SA4 on (R671, R672) -/
  wakeAt : Nat := 0
  wakeKind : Nat := 0
  inStop : Bool := false
  /-- the detector is armed (R668) -/
  armed  : Bool := false
  /-- the frame-error count of the selective-wake slice (R657) -/
  swErr  : Nat := 0
  /-- a sleep request waits for die C's answer since (R661) -/
  fsAt   : Option Ns := none
  deriving DecidableEq, Repr

structure NetState where
  can     : Tab CanCh := []
  lin     : Tab LinCh := []
  ports   : Tab Port := []
  rxq     : Tab RxQ := []
  segs    : Tab Seg := []
  fit     : Tab FitEntry := []
  /-- FIT_DATA0 to FIT_DATA15 -/
  staging : Nat := 0
  /-- FIT_WD and FIT_HIT: entries whose bit is 1 -/
  wd      : List Nat := []
  hit     : List Nat := []
  stored  : Tab Stored := []
  nextSn  : Nat := 1
  nextOrd : Nat := 1
  macs    : List MacEntry := []
  /-- gate lists, entry k of port p at 128p + k, as QBV_ENT reads -/
  gateList : Tab Nat := []
  /-- good Syncs in a row, and monotonic time of the next Sync as grandmaster -/
  syncOk  : Nat := 0
  syncAt  : Ns := 0
  deriving DecidableEq, Repr

end Sys2Proof.Machine
end

