-- ==== Sys2Proof/Machine/Types/Power.lean ====
section
/-!
DEFINITION. Sys2Proof/Machine/Types/Power.lean: power states and start-up (R818 to R846), pins of the power chapter included.
-/
namespace Sys2Proof.Machine

/-- Where die C stands between power-up, Run and Stop (R820, R828, R838). -/
inductive Phase where
  /-- VKEEP is lost: nothing runs (R818) -/
  | unpowered
  /-- die C is held in reset (R48, R820) -/
  | resetHold
  | regulator
  | oscillator
  | memory
  | logic
  | run
  /-- Stop entry, in the phase that ends at abort point SAk, k = 1 to 6, or the Rails phase as 7 (R828) -/
  | entering (k : Nat)
  | stop
  deriving DecidableEq, Repr

/-- What the checks of the Logic phase find, and what is measured in it (R310, R769, R770, R809, R820, R873, R909, R920, R922, R924). -/
structure BootCheck where
  /-- the signatures of the images in slots A and B verify under their headers' keys -/
  sigA     : Bool := true
  sigB     : Bool := true
  /-- the trial image fails a self-test -/
  testFail : Bool := false
  /-- logical cores whose self-test fails, 4 for C4 while it is spare, and whether their data memory has an uncorrectable error -/
  cores    : List (Nat × Bool) := []
  /-- CAN channels whose slice fails its loopback self-test (R804) -/
  cans     : List Nat := []
  /-- the migration routine faults -/
  fault    : Bool := false
  /-- the hand-over passes its CRC -/
  handover : Bool := true
  /-- items of secure storage whose tag fails: the item's number, and what it holds: 0 to 15 a token record, 16 the release keys, 17 another item -/
  items    : List (Nat × Nat) := []
  /-- currents of the objects that the power dies have held on -/
  loads    : List LoadSeen := []
  deriving DecidableEq, Repr

/-- The hand-over of R919: object, class and remembered current; segment, state and keeper; loop, state, SP, SPEFF and INTEG. -/
structure Handover where
  loads : List (Nat × Nat × Option Nat) := []
  segs  : List (Nat × Nat × Nat) := []
  loops : List (Nat × Nat × Nat × Nat × Nat) := []
  deriving DecidableEq, Repr

/-- Power sequencing state that no setup register shows. -/
structure PowerState where
  phase     : Phase := .resetHold
  /-- the present start: 0 power-up, 1 return from Stop, 2 warm reset, 4 retained image lost (PWR_STAT.START) -/
  start     : Nat := 0
  /-- monotonic time at which the present phase began -/
  phaseAt   : Ns := 0
  /-- monotonic time of the wake or of the reset release -/
  bootAt    : Ns := 0
  /-- P0, P1 and P2 have their logic supply (R40) -/
  dieUp     : List Bool := [true, true, true]
  /-- monotonic time at which each power die last started (R819) -/
  dieAt     : List Ns := [0, 0, 0]
  /-- power dies that kept their logic supply through the last power-up reset (R824) -/
  dieKept   : List Bool := [false, false, false]
  /-- die C is held in reset by VBAT (R48), not by a notice of its own -/
  brownout  : Bool := false
  /-- a forced Stop request runs (R825) -/
  forced    : Bool := false
  /-- a bit of PWR_WAKESRC has been set and no event has carried it (R788, log entry 43) -/
  wakeNew   : Bool := false
  /-- a wake arrived during the present entry phase (R830) -/
  wakeHit   : Bool := false
  /-- abort point of an entry abandoned after SA3, carried to BOOT_DONE (R830) -/
  abortPt   : Nat := 0
  /-- monotonic time at which Stop began -/
  stopAt    : Ns := 0
  /-- network time of the first wake latch (R847) -/
  firstWake : Ns := 0
  /-- a valid retained image stands in MRAM -/
  retained  : Bool := false
  /-- PE_WAKE_N is driven low, and since when (R842) -/
  peWake    : Bool := false
  peWakeAt  : Ns := 0
  /-- the 40 MHz reference is present -/
  refPresent : Bool := true
  /-- a loss of the reference while die C could not report it (R73, R822): REFCLK_LOSS is still to be set -/
  refOwed   : Bool := false
  /-- start of the present window of the fabric monitor (R77) -/
  windowAt  : Ns := 0
  /-- network time has been set by SET_TIME or gPTP (R823) -/
  timeSet   : Bool := false
  /-- a value of PACE_REQUEST that waits for the end of the present change (R68), and the target of that change -/
  paceNext  : Option Nat := none
  paceTo    : Nat := 1
  /-- the last 1 ms window met the present mode's minimum (R792) -/
  fabricOk  : Bool := true
  /-- PCIe ingress and Reed link ingress are at present throttled (R60, R61) -/
  throttled : Bool × Bool := (false, false)
  /-- since when every GNDP terminal has been within 1.0 V of GND (R792); none while one is not -/
  gndOkAt   : Option Ns := some 0
  /-- the ROM supervisor runs for want of a valid image (R915) -/
  recovery  : Bool := false
  /-- an update restart runs since (R918); the hand-over written before it (R919) -/
  restartAt : Option Ns := none
  handover  : Option Handover := none
  /-- when the heartbeat of a trial first carried READY = 1 (R921) -/
  trialAt   : Ns := 0
  /-- die C was reset while authorisation ran (R897) -/
  lostAuth  : Bool := false
  /-- the wake timer restarts after REG_RDY timed out: time of the next try (R839) -/
  retryAt   : Ns := 0
  deriving DecidableEq, Repr

end Sys2Proof.Machine
end

