-- ==== Sys2Proof/Machine/Types/Twin.lean ====
section
/-!
DEFINITION. Sys2Proof/Machine/Types/Twin.lean: the twin agent: images, journal, lines, swaps and handover (R679 to R744).
-/
namespace Sys2Proof.Machine

/-- What an object is to do (R712, R717): 0 off, 1 on, 2 PWM, 3 hold; DUTY; ISET of a string or the hold level of a valve. -/
structure TwTarget where
  kind  : Nat := 0
  duty  : Nat := 0
  level : Nat := 0
  deriving DecidableEq, Repr

/-- An object record of an image (R712). -/
structure ImgObj where
  obj     : Nat
  mode    : Nat
  cls     : Nat
  st      : Nat
  target  : TwTarget
  /-- measured current, 10 mA -/
  cur     : Nat
  /-- TIL or TLRN, and ACC -/
  learned : Nat
  acc     : Nat
  /-- last command performed: SEQ, function, ring -/
  seq     : Nat
  pf      : Nat
  ring    : Nat
  changed : Nat
  deriving DecidableEq, Repr

/-- A loop record of an image (R711). -/
structure ImgLoop where
  loop  : Nat
  stat  : Nat
  sp    : Nat
  speff : Nat
  integ : Nat
  fb    : Nat
  out   : Nat
  flags : Nat
  satt  : Nat
  last  : Nat
  deriving DecidableEq, Repr

/-- An image (R711, R712); the spec gives sections 4 and 5 no byte layout. -/
structure Image where
  cycle   : Nat
  size    : Nat
  snap    : Nat
  serial  : Nat
  version : Nat := 0
  /-- section 1: LASTSEQ of ring n of function k, at 32k + n -/
  seqs    : Tab Nat := []
  objs    : List ImgObj := []
  loops   : List ImgLoop := []
  /-- section 4: object, class, remembered current; the reserve peaks of the budgets -/
  loads   : List (Nat × Nat × Option Nat) := []
  reserve : List Nat := []
  /-- section 5: segment, state, keeper; gPTP state and offset; cycle counts of the time masters -/
  segs    : List (Nat × Nat × Nat) := []
  gptp    : Nat × Nat := (0, 0)
  cycles  : List (Nat × Nat) := []
  /-- section 6: entry and value -/
  fit     : List (Nat × Option Value) := []
  /-- section 7: words of C0 to C3 from BASE on -/
  core    : List (List Nat) := []
  deriving DecidableEq, Repr

/-- A journaled command (R714 to R716) and when it was fetched. -/
structure JEntry where
  cmd : Cmd
  at_ : Ns
  deriving DecidableEq, Repr

/-- A drive message (R698): the object, what it is to do, and the edge in network time. -/
structure DriveMsg where
  obj    : Nat
  target : TwTarget
  edge   : Nat
  deriving DecidableEq, Repr

/-- Messages on the Reed link, newest first in `TwinState.sent`. -/
inductive ReedMsg where
  /-- role, state, low 16 bits of the newest cycle number (R686) -/
  | heartbeat (role state cycle : Nat)
  | drive (d : DriveMsg)
  | image (i : Image) (xfer : Ns)
  /-- swap control: 0 begin, 1 proofs passed, 2 proofs failed -/
  | swap (k : Nat)
  deriving DecidableEq, Repr

/-- A Solstice swap (R729 to R736): 0 waits for its preconditions, 1 Prove, 2 Final image, 3 Handoff, 4 Settle. -/
structure Swap where
  phase : Nat
  /-- commands to complete with it; none for a swap that fell due by itself -/
  cmds  : List Cmd := []
  /-- it fell due by time (R730) -/
  due   : Bool := false
  since : Ns
  /-- the Final image phase has begun -/
  finalAt : Ns := 0
  /-- start of the handoff -/
  offAt : Ns := 0
  deriving DecidableEq, Repr

structure TwinState where
  /-- the module pulls PAIR_ROLE low, PAIR_OK low -/
  holdRole : Bool := false
  holdOk   : Bool := false
  /-- the partner is seen to hold PAIR_ROLE, PAIR_OK -/
  peerRole : Bool := false
  peerOk   : Bool := false
  /-- start of CLAIM with the line released; when PAIR_ROLE was claimed -/
  claimAt  : Ns := 0
  roleAt   : Ns := 0
  /-- a valid heartbeat from the partner is present -/
  hbeat    : Bool := false
  /-- the agent's heartbeat runs; the last one sent -/
  beats    : Bool := false
  beatAt   : Ns := 0
  /-- the digests differ (R691) -/
  cfgBad   : Bool := false
  /-- number of the newest cycle, and when it ended -/
  cycle    : Nat := 0
  cycleAt  : Ns := 0
  /-- the image being sent, and since when -/
  active   : Option Image := none
  /-- monotonic time of the active image's snapshot -/
  snapAt   : Ns := 0
  journal  : List JEntry := []
  /-- objects whose partner channel is lost (R700) -/
  lost     : List Nat := []
  /-- last drive messages sent, by object -/
  driven   : Tab TwTarget := []
  /-- SEQ, function and ring of the last command performed, by object -/
  performed : Tab (Nat × Nat × Nat) := []
  swap     : Option Swap := none
  /-- TW_JOIN commands and when they were served -/
  joins    : List (Cmd × Ns) := []
  /-- start of the present SINCE count; next retry of a swap that fell due -/
  sinceAt  : Ns := 0
  retryAt  : Ns := 0
  /-- the ignition has risen, with the time of the edge (R729) -/
  ignAt    : Option Ns := none
  /-- last OOB heartbeat sent and received -/
  oobSent  : Ns := 0
  oobAt    : Ns := 0
  /-- the module held the Lead role when the pair was last parted (R740) -/
  wasLead  : Bool := false
  /-- in CLAIM after a return from Stop (R740) -/
  fromStop : Bool := false
  /-- PAIR_ROLE has read back correctly since (R792) -/
  lineOkAt : Option Ns := some 0
  /-- the counts of READ_COUNTERS -/
  counts   : Tab Nat := []
  /-- end of the off-state test window that the agent has granted -/
  windowAt : Ns := 0
  /-- TW_EQUINOX that runs, and its failure -/
  equinox  : Option Cmd := none
  sent     : List ReedMsg := []
  deriving DecidableEq, Repr

end Sys2Proof.Machine
end

