-- ==== Sys2Proof/Syntax.lean ====
section
/-!
DEFINITION. Sys2Proof/Syntax.lean: the commands of the block, one constructor per row of spec/opcode_table.json.

The first operand `dt` of every command is the time in nanoseconds since the previous command: the spec's block has
no clock of its own, and every command says how much time has passed when it arrives.  An operand `c` is a command
descriptor (R88), `o` an object ID, `pf` a function.
-/
namespace Sys2Proof
open Sys2Proof.Machine

/-- The commands of the block. -/
inductive Instr where
  /-- `SETUP_WRITE`. `pf` writes `v`, `size` bytes wide, at `off` of window `win`; `fail`: a self-test that the write starts fails, `lost`: a core memory has an uncorrectable error. -/
  | setupWrite (dt : Nat) (pf win off size v : Nat) (fail lost : Bool)
  /-- `RC_READ`. `pf` reads `size` bytes at `off` of window `win`. -/
  | rcRead (dt : Nat) (pf win off size : Nat)
  /-- `DB_CMD`. The host writes command-ring doorbell `n`. -/
  | dbCmd (dt : Nat) (pf n v : Nat)
  /-- `DB_CPL`. The host writes completion-ring doorbell `m`. -/
  | dbCpl (dt : Nat) (pf m v : Nat)
  /-- `DB_EVT`. The host writes the event-ring doorbell. -/
  | dbEvt (dt : Nat) (pf v : Nat)
  /-- `COMMAND_FETCH`. The fetch engine takes up descriptors of ring `n`; `fail`: the read of the ring failed. -/
  | commandFetch (dt : Nat) (pf n : Nat) (batch : List Cmd) (fail : Bool)
  /-- `DMA_READ_FAIL`. A read of host memory for command `c` did not complete. -/
  | dmaReadFail (dt : Nat) (c : Cmd)
  /-- `NOP`. Opcode 0000h. -/
  | nop (dt : Nat) (c : Cmd)
  /-- `CANCEL`. Opcode 0001h. -/
  | cancel (dt : Nat) (c : Cmd)
  /-- `SET_TIME`. Opcode 0002h. -/
  | setTime (dt : Nat) (c : Cmd)
  /-- `READ_STATUS`. Opcode 1000h. -/
  | readStatus (dt : Nat) (c : Cmd)
  /-- `READ_HISTORY`. Opcode 1001h. -/
  | readHistory (dt : Nat) (c : Cmd)
  /-- `READ_COUNTERS`. Opcode 1002h. -/
  | readCounters (dt : Nat) (c : Cmd)
  /-- `READ_RETIREMENTS`. Opcode 1005h. -/
  | readRetirements (dt : Nat) (c : Cmd)
  /-- `READ_IDENTITY`. Opcode 1006h. -/
  | readIdentity (dt : Nat) (c : Cmd)
  /-- `CMD_RING_ENABLE`. EN of command ring `n` is set. -/
  | cmdRingEnable (dt : Nat) (pf n : Nat)
  /-- `CMD_RING_DISABLE`. EN of command ring `n` is cleared. -/
  | cmdRingDisable (dt : Nat) (pf n : Nat)
  /-- `CPL_RING_ENABLE`. EN of completion ring `m` is set. -/
  | cplRingEnable (dt : Nat) (pf m : Nat)
  /-- `CPL_RING_DISABLE`. EN of completion ring `m` is cleared. -/
  | cplRingDisable (dt : Nat) (pf m : Nat)
  /-- `EVT_RING_ENABLE`. EN of the event ring is set. -/
  | evtRingEnable (dt : Nat) (pf : Nat)
  /-- `EVT_RING_DISABLE`. EN of the event ring is cleared. -/
  | evtRingDisable (dt : Nat) (pf : Nat)
  /-- `OWNER_CHANGE`. PF0 writes the owner `v` of object `o`. -/
  | ownerChange (dt : Nat) (o v : Nat)
  /-- `MSIX_MODTIME_EXPIRY`. MODTIME has passed for completion ring `m` (kind 0), the event ring (1) or the receive queue of segment `m` (2). -/
  | msixModtimeExpiry (dt : Nat) (pf kind m : Nat)
  /-- `MSIX_UNMASK`. The host masks or unmasks MSI-X vector `v`. -/
  | msixUnmask (dt : Nat) (pf v : Nat) (mask : Bool)
  /-- `FUNCTION_LEVEL_RESET`. The host resets function `pf`. -/
  | functionLevelReset (dt : Nat) (pf : Nat)
  /-- `PE_PERST_ASSERT`. PE_PERST_N is asserted. -/
  | pePerstAssert (dt : Nat)
  /-- `POWER_UP_RESET`. VBAT rises after VKEEP was lost. -/
  | powerUpReset (dt : Nat)
  /-- `DIE_C_BROWNOUT`. VBAT falls below 4.8 V. -/
  | dieCBrownout (dt : Nat)
  /-- `DIE_C_RESET_RELEASE`. VBAT has been above 5.3 V for 1 ms, and die C leaves reset. -/
  | dieCResetRelease (dt : Nat)
  /-- `WARM_RESET`. A reset of die C with VKEEP up begins. -/
  | warmReset (dt : Nat)
  /-- `REG_RDY`. The regulator is ready. -/
  | regRdy (dt : Nat)
  /-- `OSC_RDY`. The reference has run 256 steady cycles and TB2 to TB9 are locked. -/
  | oscRdy (dt : Nat)
  /-- `MEM_RDY`. The arrays are cleared, or the retained image has been read; `ok`: its CRC-32C is right. -/
  | memRdy (dt : Nat) (ok : Bool)
  /-- `LOGIC_RDY`. The start-up checks end; `b` is what they find. -/
  | logicRdy (dt : Nat) (b : BootCheck)
  /-- `OSC_RDY_TIMEOUT`. 10 ms have passed since REG_RDY without OSC_RDY. -/
  | oscRdyTimeout (dt : Nat)
  /-- `REG_RDY_TIMEOUT`. 5 ms have passed without REG_RDY at a wake. -/
  | regRdyTimeout (dt : Nat)
  /-- `PE_WAKE_RELEASE`. The time of PE_WAKE_N has passed. -/
  | peWakeRelease (dt : Nat)
  /-- `NET_DECLARE`. `pf` writes `v` to GLB_NETCFG.NET. -/
  | netDeclare (dt : Nat) (pf v : Nat)
  /-- `OV_FREEZE`. The supply of group `g` has stayed above VS_OV for 10 µs; `volt` in 10 mV. -/
  | ovFreeze (dt : Nat) (g volt : Nat)
  /-- `OV_RELEASE`. The supply of group `g` is below the VS_OV release threshold. -/
  | ovRelease (dt : Nat) (g volt : Nat)
  /-- `OV_SUSTAINED`. A freeze of group `g` has lasted 500 ms. -/
  | ovSustained (dt : Nat) (g : Nat)
  /-- `OV_SUSTAINED_RELEASE`. The supply of group `g` has stayed below the release threshold for 1 ms. -/
  | ovSustainedRelease (dt : Nat) (g : Nat)
  /-- `GROUND_OFFSET`. The largest GNDP-to-GND voltage, in mV, without its sign. -/
  | groundOffset (dt : Nat) (mv : Nat)
  /-- `CASE_OVERTEMP`. A reading of TCASE, as GLB_TCASE holds it. -/
  | caseOvertemp (dt : Nat) (tc : Nat)
  /-- `PACE_REQUEST`. `pf` writes `v` to GLB_PACE.REQ. -/
  | paceRequest (dt : Nat) (pf v : Nat)
  /-- `PACE_SETTLED`. VCORE has settled. -/
  | paceSettled (dt : Nat)
  /-- `FABRIC_WINDOW`. A 1 ms window ends: rate in 10,000 transfers/s, demands of PCIe, Reed link and the rest in 10 Mbit/s. -/
  | fabricWindow (dt : Nat) (rate pcie reed rest : Nat)
  /-- `REFCLK_LOSS`. No 40 MHz edge for 2 µs. -/
  | refclkLoss (dt : Nat)
  /-- `REFCLK_RETURN`. The 40 MHz reference has returned. -/
  | refclkReturn (dt : Nat)
  /-- `OUT_OFF`. OUT_OFF of an HS or LS channel reaches its die. -/
  | outOff (dt : Nat) (c : Cmd)
  /-- `OUT_ON`. OUT_ON; `vd` is the drain voltage of an LS channel before the gate drive, 10 mV per unit (R946). -/
  | outOn (dt : Nat) (c : Cmd) (vd : Nat)
  /-- `OUT_PWM`. OUT_PWM; `vd` as for OUT_ON. -/
  | outPwm (dt : Nat) (c : Cmd) (vd : Nat)
  /-- `CLEAR_FAULT`. CLEAR_FAULT of an HS or LS channel. -/
  | clearFault (dt : Nat) (c : Cmd)
  /-- `CH_CONFIG`. CH_CONFIG writes CFG0 to CFG3. -/
  | chConfig (dt : Nat) (c : Cmd)
  /-- `LEARN_RESET`. LEARN_RESET of an HS or LS channel. -/
  | learnReset (dt : Nat) (c : Cmd)
  /-- `DIAG_CHECK`. DIAG_CHECK of an HS or LS channel. -/
  | diagCheck (dt : Nat) (c : Cmd)
  /-- `DIAG_CHECK_TIMEOUT`. The deadline of the waiting DIAG_CHECKs of `o` is checked. -/
  | diagCheckTimeout (dt : Nat) (o : Nat)
  /-- `W1C_FAULT_CLEAR`. `pf` writes `v` to the register of W1C bits at `off` of window `win`. -/
  | w1cFaultClear (dt : Nat) (pf win off v : Nat)
  /-- `CH_OUTCOME_REACHED`. The output of channel or isolated output `o.n` has settled, that of a channel at `o.v`: the output of HS, the drain of LS, 10 mV per unit. -/
  | chOutcomeReached (dt : Nat) (o : Seen)
  /-- `PWM_PERIOD_START`. A PWM period of channel or bridge `o.n` starts; `lim`: a half has reached ILIM in it (R448); `o.v`: drain voltage of an LS channel before the gate drive, 10 mV per unit. -/
  | pwmPeriodStart (dt : Nat) (o : Seen) (lim : Bool)
  /-- `OVERCURRENT_TRIP`. The limit dwell of `o` reaches TLIM. -/
  | overcurrentTrip (dt : Nat) (o : Nat) (m : Meas)
  /-- `SHORT_TRIP`. `o` is in limit with its output below V_SHORT for TSCB. -/
  | shortTrip (dt : Nat) (o : Nat) (m : Meas)
  /-- `CLAMP_EVENT_END`. A clamp event of energy `e` (0.1 mJ) of an HS, LS or SV channel ends. -/
  | clampEventEnd (dt : Nat) (o e : Nat)
  /-- `REVERSE_CURRENT`. Reverse current through HS channel `o` for 2 µs. -/
  | reverseCurrent (dt : Nat) (o : Nat) (m : Meas)
  /-- `REVERSE_RECLOSE`. The forward voltage across `o.n` is `o.v` mV. -/
  | reverseReclose (dt : Nat) (o : Seen)
  /-- `THERMAL_TRIP`. A sample of Tj, tripping from 175 °C on. -/
  | thermalTrip (dt : Nat) (o : Nat) (m : Meas)
  /-- `DELTA_T_TRIP`. A sample of ΔT, tripping from DT_OFF on. -/
  | deltaTTrip (dt : Nat) (o : Nat) (m : Meas)
  /-- `THERMAL_RESTART`. A sample of a channel in THERM_WAIT. -/
  | thermalRestart (dt : Nat) (o : Nat) (m : Meas)
  /-- `INRUSH_DWELL_EXPIRY`. The dwell of an inrush reaches TLIM_INR. -/
  | inrushDwellExpiry (dt : Nat) (o : Nat) (m : Meas)
  /-- `INRUSH_OFF_END`. TOFF has elapsed. -/
  | inrushOffEnd (dt : Nat) (o : Nat)
  /-- `INRUSH_END`. The current has stayed below ILIM for 100 µs; `lim` is the total time in limit, µs. -/
  | inrushEnd (dt : Nat) (o lim : Nat) (m : Meas)
  /-- `INRUSH_TIMEOUT`. The inrush time reaches 100 ms. -/
  | inrushTimeout (dt : Nat) (o : Nat) (m : Meas)
  /-- `SAG_SET`. The voltage `g.v` of group VS`g.n` has fallen, 10 mV per unit. -/
  | sagSet (dt : Nat) (g : Seen)
  /-- `SAG_CLEAR`. The voltage `g.v` of group VS`g.n` has come back, 10 mV per unit. -/
  | sagClear (dt : Nat) (g : Seen)
  /-- `DIAG_ON_SAMPLE`. An on-state current sample of `a` units of 0.5 mA, of an HS, LS, SV, HB or IO object. -/
  | diagOnSample (dt : Nat) (o a : Nat)
  /-- `OFF_STATE_TEST`. An off-state test of channel `o`: output without and with test current, 10 mV per unit. -/
  | offStateTest (dt : Nat) (o v0 : Nat) (v1 : OffSeen)
  /-- `OVERLOAD_DETECT`. The current `a.v` of channel `o`, units of 0.5 mA, has stayed at or above IWARN for `a.held` ns. -/
  | overloadDetect (dt : Nat) (o : Nat) (a : Lasting)
  /-- `VERDICT_STALE`. The freshness deadline of `o` is checked. -/
  | verdictStale (dt : Nat) (o : Nat)
  /-- `SEGMENT_MEASURE`. The drifts of the active segments of channel `o`, and the current they are taken at. -/
  | segmentMeasure (dt : Nat) (o : Nat) (ds : SegSeen)
  /-- `SEGMENT_FAULT`. Segment `seg` of channel `o` shows a gate fault or an abnormal current. -/
  | segmentFault (dt : Nat) (o seg : Nat)
  /-- `LIMP_N_ASSERT`. LIMP_N has been low for 200 µs. -/
  | limpNAssert (dt : Nat)
  /-- `LIMP_N_RELEASE`. LIMP_N has been released for 10 ms. -/
  | limpNRelease (dt : Nat)
  /-- `LH_CHANGE`. The filtered levels of the LH lands change. -/
  | lhChange (dt : Nat) (mask : Nat)
  /-- `HEARTBEAT`. A heartbeat of the Shawm pair, with READY. -/
  | heartbeat (dt : Nat) (ready : Bool)
  /-- `HEARTBEAT_LOSS`. No heartbeat for 20 ms with the reset notice released. -/
  | heartbeatLoss (dt : Nat)
  /-- `LIMP_RELEASE`. `pf` writes 1 to LIMP_CTL.RELEASE. -/
  | limpRelease (dt : Nat) (pf : Nat)
  /-- `HOLD_WINDOW_EXPIRY`. The hold window of object `o` runs out. -/
  | holdWindowExpiry (dt : Nat) (o : Nat)
  /-- `PAIRED_HEARTBEAT_GAP`. 2 ms without a heartbeat for the PAIRED object `o`. -/
  | pairedHeartbeatGap (dt : Nat) (o : Nat)
  /-- `POWER_DIE_SERVE`. With die C absent, a power die serves one queued switch-on of group `g` (7: of no group). -/
  | powerDieServe (dt : Nat) (g vd : Nat)
  /-- `DEMAND_SERVED`. The first waiting demand that fits is served; `vd` as for OUT_ON. -/
  | demandServed (dt : Nat) (vd : Nat)
  /-- `DEMAND_LATENCY_EXPIRY`. The allowed latency of the waiting command of object `o` has passed. -/
  | demandLatencyExpiry (dt : Nat) (o : Nat)
  /-- `BUDGET_SHED`. A budget has been exceeded for its shedding time. -/
  | budgetShed (dt : Nat)
  /-- `CLAIM_RENEW`. A sample of the module: voltages, currents, temperatures, VBST, and currents of running objects. -/
  | claimRenew (dt : Nat) (x : Sample)
  /-- `GROUP_CUT`. Group `g` (0: VBAT) has stayed below VS_UV (`level` 0) or VS_UV0 (1) for 50 µs; `volt` in 10 mV. -/
  | groupCut (dt : Nat) (g level volt : Nat)
  /-- `CUT_RELEASE`. The group has stayed above the threshold plus HYS for 1 ms. -/
  | cutRelease (dt : Nat) (g level volt : Nat)
  /-- `RESTART_SLOT`. The restart slot of class `c` in group `g` has come. -/
  | restartSlot (dt : Nat) (g c : Nat)
  /-- `SLOT_CANCEL`. The group falls below the cut threshold again before a slot. -/
  | slotCancel (dt : Nat) (g level volt : Nat)
  /-- `DIM_UPDATE`. The 1 ms voltage of group `g`. -/
  | dimUpdate (dt : Nat) (g volt : Nat)
  /-- `LED_OFF`. LED_OFF. -/
  | ledOff (dt : Nat) (c : Cmd)
  /-- `LED_ON`. LED_ON. -/
  | ledOn (dt : Nat) (c : Cmd)
  /-- `LED_DIM`. LED_DIM. -/
  | ledDim (dt : Nat) (c : Cmd)
  /-- `LD_CLEAR_FAULT`. CLEAR_FAULT of a string. -/
  | ldClearFault (dt : Nat) (c : Cmd)
  /-- `LD_DIAG_CHECK`. DIAG_CHECK of a string. -/
  | ldDiagCheck (dt : Nat) (c : Cmd)
  /-- `LD_CONFIG`. LD_CONFIG writes CFG0 to CFG3. -/
  | ldConfig (dt : Nat) (c : Cmd)
  /-- `TCOMP_LOAD`. TCOMP_LOAD. -/
  | tcompLoad (dt : Nat) (c : Cmd)
  /-- `TCCOMMIT`. `pf` writes `v` to LD_TCCOMMIT. -/
  | tccommit (dt : Nat) (pf v : Nat)
  /-- `LD_SOFTSTART_DONE`. The anode of string `n` has reached VLO. -/
  | ldSoftstartDone (dt : Nat) (n : Nat)
  /-- `LD_SOFTSTART_TIMEOUT`. The anode of string `n` is below VLO after 1 ms. -/
  | ldSoftstartTimeout (dt : Nat) (n : Nat)
  /-- `LD_OPEN_STRING`. The open condition of R354 has lasted 100 µs. -/
  | ldOpenString (dt : Nat) (n : Nat) (m : Meas)
  /-- `LD_SHORT`. The short condition of R354 holds. -/
  | ldShort (dt : Nat) (n : Nat) (m : Meas)
  /-- `LD_THERMAL`. A sample of the stage's Tj, acting from 175 °C on. -/
  | ldThermal (dt : Nat) (n : Nat) (m : Meas)
  /-- `LD_THERMAL_RESTART`. A sample of a string in THERM_WAIT. -/
  | ldThermalRestart (dt : Nat) (n : Nat) (m : Meas)
  /-- `HEADROOM_SET`. String `n` runs at maximum duty below 90 % of ITGT. -/
  | headroomSet (dt : Nat) (n : Nat)
  /-- `HEADROOM_CLEAR`. The current has been within 10 % of ITGT for 10 ms. -/
  | headroomClear (dt : Nat) (n : Nat)
  /-- `NTC_FAULT`. The NTC of string `n` has read out of range for 30 ms. -/
  | ntcFault (dt : Nat) (n : Nat)
  /-- `NTC_RECOVER`. The NTC of string `n` has read in range for 1 s. -/
  | ntcRecover (dt : Nat) (n : Nat)
  /-- `TCOMP_SAMPLE`. The 10 ms sample of string `n`; `t` the reading of its NTC land, mV. -/
  | tcompSample (dt : Nat) (n t : Nat)
  /-- `DIM_PERIOD_START`. A dimming period of string `n` starts. -/
  | dimPeriodStart (dt : Nat) (n : Nat)
  /-- `LD_MEASURE`. A measurement of string `n`: `a` mA, `v` in 20 mV. -/
  | ldMeasure (dt : Nat) (n a v : Nat)
  /-- `MX_OFF`. MX_OFF. -/
  | mxOff (dt : Nat) (c : Cmd)
  /-- `MX_ON`. MX_ON. -/
  | mxOn (dt : Nat) (c : Cmd)
  /-- `MX_BRIGHT`. MX_BRIGHT. -/
  | mxBright (dt : Nat) (c : Cmd)
  /-- `MX_CLEAR_FAULT`. CLEAR_FAULT of the matrix. -/
  | mxClearFault (dt : Nat) (c : Cmd)
  /-- `MX_CONFIG`. MX_CONFIG writes CFG0 and CFG1. -/
  | mxConfig (dt : Nat) (c : Cmd)
  /-- `MX_FRAME`. MX_FRAME; `px` is the frame as host memory holds it. -/
  | mxFrame (dt : Nat) (c : Cmd) (px : List Byte)
  /-- `MX_SWAP_REQUEST`. `pf` writes 1 to MX_CTL.SWAP. -/
  | mxSwapRequest (dt : Nat) (pf : Nat)
  /-- `MX_FRAME_BOUNDARY`. The last line slot ends; `lows` marks the LEDs whose column fell below 0.3 V. -/
  | mxFrameBoundary (dt : Nat) (lows : Nat)
  /-- `MX_ROW_SHORT`. A row switch has been in its limit for 20 µs. -/
  | mxRowShort (dt : Nat)
  /-- `SV_OFF`. SV_OFF. -/
  | svOff (dt : Nat) (c : Cmd)
  /-- `SV_ON`. SV_ON. -/
  | svOn (dt : Nat) (c : Cmd)
  /-- `SV_HOLD`. SV_HOLD. -/
  | svHold (dt : Nat) (c : Cmd)
  /-- `SV_CLEAR_FAULT`. CLEAR_FAULT of a solenoid channel. -/
  | svClearFault (dt : Nat) (c : Cmd)
  /-- `SV_DIAG_CHECK`. DIAG_CHECK of a solenoid channel. -/
  | svDiagCheck (dt : Nat) (c : Cmd)
  /-- `SV_CONFIG`. SV_CONFIG writes CFG0 to CFG3. -/
  | svConfig (dt : Nat) (c : Cmd)
  /-- `SV_LEARN_RESET`. LEARN_RESET of a solenoid channel. -/
  | svLearnReset (dt : Nat) (c : Cmd)
  /-- `SV_CONFIG2`. SV_CONFIG2 writes CFG4 and CFG5. -/
  | svConfig2 (dt : Nat) (c : Cmd)
  /-- `BOOST_END`. TBST has elapsed on channel `n`: energy drawn (0.1 mJ), highest current (mA), time to IBST (µs, FFFFh none), VBST (10 mV). -/
  | boostEnd (dt : Nat) (n e imax ti vbst : Nat)
  /-- `PEAK_END`. TPK has elapsed on channel `n`. -/
  | peakEnd (dt : Nat) (n : Nat)
  /-- `DECAY_END`. The coil current of channel `n` is below 10 mA; `e` was recovered (0.1 mJ). -/
  | decayEnd (dt : Nat) (n e : Nat)
  /-- `ARMATURE_DIP`. A dip on channel `n`. -/
  | armatureDip (dt : Nat) (n : Nat) (d : DipSeen)
  /-- `ARMATURE_STUCK`. The search window of channel `n` has closed. -/
  | armatureStuck (dt : Nat) (n : Nat)
  /-- `SV_SHORT`. The drain switch of channel `n` has been in its limit for 10 µs. -/
  | svShort (dt : Nat) (n : Nat) (m : Meas)
  /-- `BANK_SHORT`. The high side of bank `b` (A, B, C, SV12 to SV15) has been in its limit for 20 µs. -/
  | bankShort (dt : Nat) (b : Nat)
  /-- `SV_THERMAL`. A sample of the drain's Tj, acting from 175 °C on. -/
  | svThermal (dt : Nat) (n : Nat) (m : Meas)
  /-- `SV_THERMAL_RESTART`. A sample of a channel in THERM_WAIT. -/
  | svThermalRestart (dt : Nat) (n : Nat) (m : Meas)
  /-- `SV_OFF_TEST`. The off-state coil test of channel `n`; drain voltage in 10 mV. -/
  | svOffTest (dt : Nat) (n v : Nat)
  /-- `BST_OFF`. BST_OFF. -/
  | bstOff (dt : Nat) (c : Cmd)
  /-- `BST_ON`. BST_ON. -/
  | bstOn (dt : Nat) (c : Cmd)
  /-- `BST_CLEAR_FAULT`. CLEAR_FAULT of the boost converter. -/
  | bstClearFault (dt : Nat) (c : Cmd)
  /-- `BST_CONFIG`. BST_CONFIG. -/
  | bstConfig (dt : Nat) (c : Cmd)
  /-- `BST_READY`. VBST (10 mV) has reached VSET. -/
  | bstReady (dt : Nat) (vbst : Nat)
  /-- `BST_SHORT`. VBST (10 mV) 2 ms or more after the start. -/
  | bstShort (dt : Nat) (vbst : Nat)
  /-- `BST_THERMAL`. A sample of the converter's Tj. -/
  | bstThermal (dt : Nat) (m : Meas)
  /-- `BST_OVERVOLTAGE_STOP`. VBST (10 mV) above 68 V. -/
  | bstOvervoltageStop (dt : Nat) (vbst : Nat)
  /-- `BST_OVERVOLTAGE_RESUME`. VBST (10 mV) below 66 V. -/
  | bstOvervoltageResume (dt : Nat) (vbst : Nat)
  /-- `BST_HEADROOM_SET`. VS6 above VSET - 3 V, in 10 mV. -/
  | bstHeadroomSet (dt : Nat) (vs6 vbst : Nat)
  /-- `BST_HEADROOM_CLEAR`. VS6 has been below VSET - 4 V for 10 ms, in 10 mV. -/
  | bstHeadroomClear (dt : Nat) (vs6 : Nat)
  /-- `HB_OFF`. HB_OFF. -/
  | hbOff (dt : Nat) (c : Cmd)
  /-- `HB_DRIVE`. HB_DRIVE. -/
  | hbDrive (dt : Nat) (c : Cmd)
  /-- `HB_BRAKE`. HB_BRAKE. -/
  | hbBrake (dt : Nat) (c : Cmd)
  /-- `HB_CLEAR_FAULT`. CLEAR_FAULT of a bridge. -/
  | hbClearFault (dt : Nat) (c : Cmd)
  /-- `HB_DIAG_CHECK`. DIAG_CHECK of a bridge. -/
  | hbDiagCheck (dt : Nat) (c : Cmd)
  /-- `HB_MOVE`. HB_MOVE. -/
  | hbMove (dt : Nat) (c : Cmd)
  /-- `HB_SETPOS`. HB_SETPOS. -/
  | hbSetpos (dt : Nat) (c : Cmd)
  /-- `HB_CONFIG`. HB_CONFIG writes CFG0 to CFG3. -/
  | hbConfig (dt : Nat) (c : Cmd)
  /-- `HB_CONFIG2`. HB_CONFIG2 writes CFG4. -/
  | hbConfig2 (dt : Nat) (c : Cmd)
  /-- `RIPPLE_COUNT`. A ripple on bridge `n`: ripples per second, and what was measured. -/
  | rippleCount (dt : Nat) (n rate : Nat) (a : RippleSeen)
  /-- `HB_STALL`. Bridge `n` may have stalled; current in 10 mA, and for how long it has stood at ISTALL or above. -/
  | hbStall (dt : Nat) (n : Nat) (a : Lasting)
  /-- `HB_TMAX_EXPIRY`. TMAX of bridge `n` is checked. -/
  | hbTmaxExpiry (dt : Nat) (n : Nat)
  /-- `HB_TRAP`. The current of bridge `n` exceeds its mean, both in 10 mA. -/
  | hbTrap (dt : Nat) (n a mean : Nat)
  /-- `HB_RAMP_END`. The ramp of bridge `n` ends. -/
  | hbRampEnd (dt : Nat) (n : Nat)
  /-- `HB_REVERSE_END`. TREV of bridge `n` has elapsed. -/
  | hbReverseEnd (dt : Nat) (n : Nat)
  /-- `HB_SHORT`. A switch of bridge `n` that is on shows the drain-to-source voltage `m.vout`. -/
  | hbShort (dt : Nat) (n : Nat) (m : Meas)
  /-- `HB_THERMAL`. A sample of the junction temperature, acting from 175 °C on. -/
  | hbThermal (dt : Nat) (n : Nat) (m : Meas)
  /-- `HB_THERMAL_RESTART`. A sample of a bridge in THERM_WAIT. -/
  | hbThermalRestart (dt : Nat) (n : Nat) (m : Meas)
  /-- `HB_OPEN_DETECT`. The current of bridge `n` has stayed below 100 mA for 200 ms. -/
  | hbOpenDetect (dt : Nat) (n : Nat)
  /-- `LOOP_OPEN`. LOOP_OPEN. -/
  | loopOpen (dt : Nat) (c : Cmd)
  /-- `LOOP_CLOSE`. LOOP_CLOSE. -/
  | loopClose (dt : Nat) (c : Cmd)
  /-- `LOOP_SETPOINT`. LOOP_SETPOINT. -/
  | loopSetpoint (dt : Nat) (c : Cmd)
  /-- `CLEAR_FLAGS`. CLEAR_FLAGS. -/
  | clearFlags (dt : Nat) (c : Cmd)
  /-- `LOOP_CONFIG`. LOOP_CONFIG. -/
  | loopConfig (dt : Nat) (c : Cmd)
  /-- `LOOP_COEF`. LOOP_COEF. -/
  | loopCoef (dt : Nat) (c : Cmd)
  /-- `LOOP_LIMITS`. LOOP_LIMITS. -/
  | loopLimits (dt : Nat) (c : Cmd)
  /-- `LOOP_SLEW`. LOOP_SLEW. -/
  | loopSlew (dt : Nat) (c : Cmd)
  /-- `LOOP_SAMPLE`. The sample instant of loop `n`: age of its source's newest value, ns, and the value, a 64-bit pattern of Q15.16 or the reading of an NTC land, mV. -/
  | loopSample (dt : Nat) (n age raw : Nat)
  /-- `SW_CONFIG`. SW_CONFIG writes SW_CFG0 and SW_CFG1. -/
  | swConfig (dt : Nat) (c : Cmd)
  /-- `SW_SAMPLE`. Input `n` is sampled at `vin`, 0.01 V per unit. -/
  | swSample (dt : Nat) (n vin : Nat)
  /-- `STATIC_WAKE`. The land of static input `n` has stood at `vin`, 10 mV, for 100 µs. -/
  | staticWake (dt : Nat) (n : Nat) (vin : Lasting)
  /-- `POLL_WAKE`. A poll of input `n` reads `vin`, 0.01 V per unit. -/
  | pollWake (dt : Nat) (n vin : Nat)
  /-- `II_CONFIG`. II_CONFIG writes II_CFG0 and II_CFG1. -/
  | iiConfig (dt : Nat) (c : Cmd)
  /-- `COUNT_CLEAR`. COUNT_CLEAR of II00 to II03. -/
  | countClear (dt : Nat) (c : Cmd)
  /-- `WIRE_BREAK`. The current of isolated input `n`, `a` in 10 µA, has stayed on one side of WBTH for 10 ms. -/
  | wireBreak (dt : Nat) (n : Nat) (a : Lasting)
  /-- `IO_OUT_ON`. OUT_ON of an isolated output. -/
  | ioOutOn (dt : Nat) (c : Cmd)
  /-- `IO_OUT_OFF`. OUT_OFF of an isolated output. -/
  | ioOutOff (dt : Nat) (c : Cmd)
  /-- `IO_CLEAR_FAULT`. CLEAR_FAULT of an isolated output. -/
  | ioClearFault (dt : Nat) (c : Cmd)
  /-- `IO_DIAG_CHECK`. DIAG_CHECK of an isolated output. -/
  | ioDiagCheck (dt : Nat) (c : Cmd)
  /-- `IO_CONFIG`. IO_CONFIG writes IO_CFG. -/
  | ioConfig (dt : Nat) (c : Cmd)
  /-- `IO_OVERCURRENT`. Isolated output `n` has been in its current limit for 2 ms; current in mA. -/
  | ioOvercurrent (dt : Nat) (n : Nat) (m : Meas)
  /-- `IO_THERMAL_TRIP`. A sample of an isolated output, tripping from 175 °C on. -/
  | ioThermalTrip (dt : Nat) (n : Nat) (m : Meas)
  /-- `IO_THERMAL_RESTART`. A sample of an isolated output in THERM_WAIT. -/
  | ioThermalRestart (dt : Nat) (n : Nat) (m : Meas)
  /-- `VFLD_UV`. VFLD, in 10 mV, has stayed below 16.0 V for 100 µs. -/
  | vfldUv (dt : Nat) (v : Nat)
  /-- `VFLD_RESTART`. VFLD has stayed above 17.0 V for 1 ms, and the next output in turn restarts. -/
  | vfldRestart (dt : Nat) (v : Nat)
  /-- `BARRIER_UPLINK_FRAME`. An uplink slot's frame: CRC result, number, input voltages (10 mV) and currents (10 µA), edges of II00 to II03, VFLD (10 mV). -/
  | barrierUplinkFrame (dt : Nat) (crc : Bool) (seq : Nat) (vins iin rises falls : List Nat) (vfld : Nat)
  /-- `BARRIER_DOWNLINK_FRAME`. A downlink slot's frame reaches the field side. -/
  | barrierDownlinkFrame (dt : Nat) (crc : Bool) (seq : Nat)
  /-- `BARRIER_LOSS`. A side has found three bad or missing frames in a row; `field`: the field side declares first. -/
  | barrierLoss (dt : Nat) (field : Bool)
  /-- `FIELD_POWER_LOSS`. The field side loses its power. -/
  | fieldPowerLoss (dt : Nat)
  /-- `CAN_SEND`. CAN_SEND; `rcd` is what the host's memory holds at the record's address. -/
  | canSend (dt : Nat) (c : Cmd) (rcd : List Byte)
  /-- `ID_UNBLOCK`. ID_UNBLOCK of an identifier. -/
  | idUnblock (dt : Nat) (c : Cmd)
  /-- `RX_RELEASE`. RX_RELEASE of a receive queue. -/
  | rxRelease (dt : Nat) (c : Cmd)
  /-- `LIN_PUBLISH`. LIN_PUBLISH. -/
  | linPublish (dt : Nat) (c : Cmd)
  /-- `LIN_SCHED`. LIN_SCHED. -/
  | linSched (dt : Nat) (c : Cmd)
  /-- `LIN_SLEEP`. LIN_SLEEP. -/
  | linSleep (dt : Nat) (c : Cmd)
  /-- `LIN_WAKE`. LIN_WAKE. -/
  | linWake (dt : Nat) (c : Cmd)
  /-- `CAN_ENABLE`. `pf` writes CAN_CTL.EN = 1 of channel `n`; `fail`: the loopback self-test fails. -/
  | canEnable (dt : Nat) (pf n : Nat) (fail : Bool)
  /-- `RXQ_ENABLE`. `pf` writes EN = 1 of the receive queue of segment `g`. -/
  | rxqEnable (dt : Nat) (pf g : Nat)
  /-- `CAN_FRAME_RECEIVED`. A whole CAN or LIN frame on segment `g`; its start was `lag` ns ago. -/
  | canFrameReceived (dt : Nat) (g : Nat) (f : Frame) (lag : Nat)
  /-- `CAN_FRAME_SENT`. The frame on CAN segment `g` ends, with the measured delay; on a LIN segment a go-to-sleep frame or a wake pulse ends. -/
  | canFrameSent (dt : Nat) (g tdc : Nat)
  /-- `CAN_ARBITRATION_LOST`. The frame on channel `n` loses arbitration. -/
  | canArbitrationLost (dt : Nat) (n : Nat)
  /-- `CAN_ERROR_FRAME`. An error frame on channel `n`: type, position, as transmitter, the bit error of R569, ISO 11898-1's exceptions. -/
  | canErrorFrame (dt : Nat) (n type pos : Nat) (tx coll exempt : Bool) (more : Nat)
  /-- `CAN_BUS_OFF`. Channel `n` goes bus-off. -/
  | canBusOff (dt : Nat) (n : Nat)
  /-- `CAN_BUS_OFF_RECOVERY`. Channel `n` has seen 128 times 11 recessive bits. -/
  | canBusOffRecovery (dt : Nat) (n : Nat)
  /-- `CAN_CANCEL_LATCH`. The channel latches a CANCEL of command `c`. -/
  | canCancelLatch (dt : Nat) (c : Cmd)
  /-- `TM_REFERENCE_DUE`. Network time reaches a multiple of REFPER; `past`: a reference message on the bus is past its point of no return. -/
  | tmReferenceDue (dt : Nat) (n : Nat) (past : Bool)
  /-- `LIN_SLOT`. A slot of commander `n` ends, with the error that it had, and the next header is sent. -/
  | linSlot (dt : Nat) (n : Nat) (err : Option Nat)
  /-- `LIN_HEADER_RECEIVED`. Responder `n` receives a header; an error of it or of the response. -/
  | linHeaderReceived (dt : Nat) (n id : Nat) (err : Option Nat)
  /-- `ETH_FRAME_RECEIVED`. A whole frame on port `p`: FCS result, bytes without FCS, time since its start. -/
  | ethFrameReceived (dt : Nat) (p : Nat) (fcs : Bool) (bs : List Byte) (lag : Nat)
  /-- `ETH_SEND`. ETH_SEND; `rcd` is what the host's memory holds at the record's address. -/
  | ethSend (dt : Nat) (c : Cmd) (rcd : List Byte)
  /-- `ETH_FRAME_SENT`. The FCS ends on port `p`. -/
  | ethFrameSent (dt : Nat) (p : Nat)
  /-- `FIT_READ`. `pf` writes 01b to FIT_CMD.OP. -/
  | fitRead (dt : Nat) (pf : Nat)
  /-- `FIT_COMMIT`. `pf` writes 10b to FIT_CMD.OP. -/
  | fitCommit (dt : Nat) (pf : Nat)
  /-- `FIT_CLEAR_COUNTERS`. `pf` writes 11b to FIT_CMD.OP. -/
  | fitClearCounters (dt : Nat) (pf : Nat)
  /-- `FRAME_EGRESS_START`. A start of frame or a preamble on segment `g`. -/
  | frameEgressStart (dt : Nat) (g : Nat)
  /-- `FIT_PERIODIC_SEND`. The periodic time of entry `e`. -/
  | fitPeriodicSend (dt : Nat) (e : Nat)
  /-- `FRESH_LOST`. The age of entry `e` passes DEADLINE. -/
  | freshLost (dt : Nat) (e : Nat)
  /-- `QBV_GATE_CHANGE`. A gate interval of port `p` ends. -/
  | qbvGateChange (dt : Nat) (p : Nat)
  /-- `PATH_SILENT`. Port `p` has been silent for LATENT on the stream of entry `e`. -/
  | pathSilent (dt : Nat) (e p : Nat)
  /-- `GPTP_SYNC`. A Sync is received; the offset in ns, 64-bit pattern. -/
  | gptpSync (dt : Nat) (ofs : Nat)
  /-- `GPTP_HOLDOVER`. Three Sync intervals have passed without one. -/
  | gptpHoldover (dt : Nat)
  /-- `GPTP_SYNC_SEND`. A Sync is due as grandmaster. -/
  | gptpSyncSend (dt : Nat)
  /-- `MAC_AGING`. Address table entries older than AGE are removed. -/
  | macAging (dt : Nat)
  /-- `LINK_STATE`. The link of port `p` changes. -/
  | linkState (dt : Nat) (p : Nat) (up : Bool) (sqi : Nat)
  /-- `NM_NEED`. NM_NEED. -/
  | nmNeed (dt : Nat) (c : Cmd)
  /-- `NM_RELEASE`. NM_RELEASE. -/
  | nmRelease (dt : Nat) (c : Cmd)
  /-- `NM_ENABLE`. `pf` writes NM_CFG.EN = 1 of segment `g`. -/
  | nmEnable (dt : Nat) (pf g : Nat)
  /-- `NM_DISABLE`. `pf` writes NM_CFG.EN = 0 of segment `g`. -/
  | nmDisable (dt : Nat) (pf g : Nat)
  /-- `KEEPALIVE_SEND`. KAPER has elapsed on segment `g`. -/
  | keepaliveSend (dt : Nat) (g : Nat)
  /-- `TKA_EXPIRY`. TKA has elapsed on segment `g`. -/
  | tkaExpiry (dt : Nat) (g : Nat)
  /-- `TPREP_EXPIRY`. TPREP has elapsed on segment `g`. -/
  | tprepExpiry (dt : Nat) (g : Nat)
  /-- `NEED_HOLD_END`. The NM_NEED hold of segment `g` ends. -/
  | needHoldEnd (dt : Nat) (g : Nat)
  /-- `FWD_HOLD_END`. The forward hold of segment `g` ends. -/
  | fwdHoldEnd (dt : Nat) (g : Nat)
  /-- `SEGMENT_WAKE`. The wake detector of segment `g` sees a sign on its bus. -/
  | segmentWake (dt : Nat) (g : Nat) (b : BusSign)
  /-- `FAILSAFE_SLEEP_REQUEST`. The slice of segment `g` sends a sleep request; `answered`: die C answers it. -/
  | failsafeSleepRequest (dt : Nat) (g : Nat) (answered : Bool)
  /-- `FAILSAFE_TIMEOUT`. TFS has passed without an answer. -/
  | failsafeTimeout (dt : Nat) (g : Nat)
  /-- `NM_KEEPER`. Segment `g` has been kept awake for STUCKT. -/
  | nmKeeper (dt : Nat) (g : Nat)
  /-- `LIN_SILENCE_SLEEP`. The bus of LIN responder `n` has been silent for 4.0 s. -/
  | linSilenceSleep (dt : Nat) (n : Nat)
  /-- `NODE_TABLE_CLEAR`. `pf` writes NM_NSEL with SEG = `g` and CLR = 1. -/
  | nodeTableClear (dt : Nat) (pf g : Nat)
  /-- `TW_JOIN`. TW_JOIN. -/
  | twJoin (dt : Nat) (c : Cmd)
  /-- `TW_PART`. TW_PART. -/
  | twPart (dt : Nat) (c : Cmd)
  /-- `TW_SOLSTICE`. TW_SOLSTICE; `peer`: the partner's preconditions hold. -/
  | twSolstice (dt : Nat) (c : Cmd) (peer : Bool)
  /-- `TW_EQUINOX`. Opcode 5001h on the twin; the partner holds a verified staged image, which reads format 0102h. -/
  | twEquinox (dt : Nat) (c : Cmd) (peer fmt : Bool)
  /-- `TW_ENABLE`. `pf` writes TW_CFG.EN = 1. -/
  | twEnable (dt : Nat) (pf : Nat)
  /-- `TW_DISABLE`. `pf` writes TW_CFG.EN = 0. -/
  | twDisable (dt : Nat) (pf : Nat)
  /-- `CLAIM_DELAY_EXPIRY`. The claim delay ends; PREF and serial number of a module that claimed within the same 1 ms, and its pair configuration. -/
  | claimDelayExpiry (dt : Nat) (rival : Option (Bool × Nat)) (same : List Nat)
  /-- `PAIR_ROLE_LOW`. The partner, of pair configuration `same`, holds PAIR_ROLE low; the new Lead's delays in µs at the end of a handoff. -/
  | pairRoleLow (dt : Nat) (same : List Nat) (det on : Nat)
  /-- `PAIR_OK_LOW`. The partner holds PAIR_OK low with its heartbeat present. -/
  | pairOkLow (dt : Nat)
  /-- `TW_HEARTBEAT_SEND`. A heartbeat is due. -/
  | twHeartbeatSend (dt : Nat)
  /-- `TW_HEARTBEAT_LOSS`. No heartbeat for 30 µs: the partner's lines, whether it left by TW_PART, the delays of a takeover in µs. -/
  | twHeartbeatLoss (dt : Nat) (role ok parted : Bool) (det on : Nat)
  /-- `PAIR_ROLE_RELEASED`. PAIR_ROLE reads released. -/
  | pairRoleReleased (dt : Nat) (det on : Nat)
  /-- `HEARTBEAT_RESTORED`. A heartbeat has been present for 1 ms. -/
  | heartbeatRestored (dt : Nat)
  /-- `REED_LANE_LOSS`. Lane `k` has had no block lock for 1 ms. -/
  | reedLaneLoss (dt : Nat) (k : Nat)
  /-- `MIRROR_SNAPSHOT`. A mirror cycle ends. -/
  | mirrorSnapshot (dt : Nat)
  /-- `IMAGE_RECEIVED`. An image arrives `took` ns after its snapshot. -/
  | imageReceived (dt : Nat) (im : Image) (whole crc : Bool) (took : Nat)
  /-- `MIRROR_LATE`. A transfer is late; its time in µs. -/
  | mirrorLate (dt : Nat) (us : Nat)
  /-- `DRIVE_MESSAGE`. A shared-drive message, `late` ns after its edge. -/
  | driveMessage (dt : Nat) (d : DriveMsg) (late : Nat)
  /-- `PARTNER_LOST`. The partner's channel of object `o` stops with a cause, or is back. -/
  | partnerLost (dt : Nat) (o cause : Nat) (back : Bool)
  /-- `JOURNAL_TIMEOUT`. 1.0 s has passed for journaled commands. -/
  | journalTimeout (dt : Nat)
  /-- `OOB_HEARTBEAT_SEND`. OOBPER has passed. -/
  | oobHeartbeatSend (dt : Nat)
  /-- `OOB_HEARTBEAT_RECEIVED`. An OOB heartbeat of the partner; `later`: this module claimed later. -/
  | oobHeartbeatReceived (dt : Nat) (role serial : Nat) (later : Bool)
  /-- `LINE_FAULT`. Line `k`, pulled low, reads released for 10 µs, or reads back correctly again. -/
  | lineFault (dt : Nat) (k : Nat) (bad : Bool)
  /-- `SOLSTICE_DUE`. A swap falls due: 0 ignition, 1 time, 2 the partner, 3 the preconditions now hold. -/
  | solsticeDue (dt : Nat) (why : Nat) (peer : Bool)
  /-- `SWAP_PRECOND_TIMEOUT`. 10 s have passed without the preconditions. -/
  | swapPrecondTimeout (dt : Nat)
  /-- `SWAP_PROVE_DONE`. The proofs end; the number of the failed one, or 0. -/
  | swapProveDone (dt : Nat) (fail : Nat)
  /-- `TAKEOVER_SLOW`. 100 µs have passed since the handoff. -/
  | takeoverSlow (dt : Nat)
  /-- `EQUINOX_STEP`. A step of the handover ends. -/
  | equinoxStep (dt : Nat) (step : Nat) (fail sig peer : Bool)
  /-- `OFFTEST_WINDOW`. A 10 ms test window begins; the objects whose partner channel is off. -/
  | offtestWindow (dt : Nat) (first : Bool) (off : List Nat)
  /-- `BUNDLE_ISSUE`. Core `k` issues its bundle; `ecc`: an uncorrectable memory error, with its address. -/
  | bundleIssue (dt : Nat) (k : Nat) (ecc : Option Nat) (vd : Nat)
  /-- `CHANNEL_TRIGGER_ANSWER`. The channel triggers of core `k` may have their first answers. -/
  | channelTriggerAnswer (dt : Nat) (k vd : Nat)
  /-- `TMR_WAIT_EXPIRY`. A deadline of core `k` passes. -/
  | tmrWaitExpiry (dt : Nat) (k : Nat)
  /-- `MBX_RX_WAKE`. A word stands in the queue of core `k`, which waits for one. -/
  | mbxRxWake (dt : Nat) (k : Nat)
  /-- `FIFE_RUN`. `pf` writes RUN = 1 of core `k`. -/
  | fifeRun (dt : Nat) (pf k : Nat)
  /-- `FIFE_HALT`. `pf` writes RUN = 0 of core `k`. -/
  | fifeHalt (dt : Nat) (pf k : Nat)
  /-- `FIFE_RESTART`. `pf` writes RESTART = 1 of core `k`. -/
  | fifeRestart (dt : Nat) (pf k : Nat)
  /-- `FIFE_BIST`. `pf` writes BIST = 1 of core `k`; `fail`: the self-test fails, `lost`: its data memory has an uncorrectable error. -/
  | fifeBist (dt : Nat) (pf k : Nat) (fail lost : Bool)
  /-- `FIFE_MEM_ACCESS`. `pf` reads FIFE_MDATA0, or writes a word to it. -/
  | fifeMemAccess (dt : Nat) (pf : Nat) (w : Option Nat)
  /-- `LOCKSTEP_MISMATCH`. The comparator disagrees. -/
  | lockstepMismatch (dt : Nat) (m : Mismatch)
  /-- `SHAWM_JOIN`. Copy and verify of a join end; the difference found. -/
  | shawmJoin (dt : Nat) (diff : Option Mismatch)
  /-- `SPLITMAX_EXPIRY`. SPLITMAX has passed since the split. -/
  | splitmaxExpiry (dt : Nat)
  /-- `LOCKSTEP_LOST_DEBUG`. Invasive debug halts or steps a copy. -/
  | lockstepLostDebug (dt : Nat)
  /-- `FLT_ACTIVE_CLEAR`. `pf` writes 1 to FLT_STAT.ACTIVE of block `w`. -/
  | fltActiveClear (dt : Nat) (pf w : Nat)
  /-- `FRZ_REL`. `pf` writes function `k` and a reason code to FRZ_REL. -/
  | frzRel (dt : Nat) (pf k reason : Nat)
  /-- `SRAM_SCRUB`. The scrub of all arrays, with the errors found. -/
  | sramScrub (dt : Nat) (hits : List ScrubHit)
  /-- `ADC_CALIBRATION`. Offset drifts in LSB of the converters in die C, P0, P1 and P2. -/
  | adcCalibration (dt : Nat) (drifts : List Int)
  /-- `STOP_REQUEST`. `pf` writes PWR_REQ.STOP = 1, with FORCE. -/
  | stopRequest (dt : Nat) (pf : Nat) (force : Bool)
  /-- `STOP_DRAIN_END`. No command is in flight but DEFERRED ones: SA2. -/
  | stopDrainEnd (dt : Nat)
  /-- `STOP_DRAIN_TIMEOUT`. The Drain phase has lasted 50 ms. -/
  | stopDrainTimeout (dt : Nat)
  /-- `STOP_OUTPUTS_END`. The Outputs phase ends: SA3. -/
  | stopOutputsEnd (dt : Nat)
  /-- `STOP_SAVE_END`. The Save phase ends: SA4. -/
  | stopSaveEnd (dt : Nat)
  /-- `STOP_COMMIT_END`. The Commit phase ends: SA5. -/
  | stopCommitEnd (dt : Nat)
  /-- `STOP_CLOCKS_END`. The Clocks phase ends: SA6. -/
  | stopClocksEnd (dt : Nat)
  /-- `STOP_RAILS_END`. The rails are off: Stop begins. -/
  | stopRailsEnd (dt : Nat)
  /-- `STOP_TIMER_WAKE`. The wake timer expires. -/
  | stopTimerWake (dt : Nat)
  /-- `TOKEN_IRQ_WAKE`. TK_IRQ_N has been low for 50 µs. -/
  | tokenIrqWake (dt : Nat)
  /-- `PE_PERST_RELEASE`. PE_PERST_N rises. -/
  | pePerstRelease (dt : Nat)
  /-- `SEC_PROVISION`. Opcode 5010h with the record read and the verdict of its signature. -/
  | secProvision (dt : Nat) (c : Cmd) (rcd : List Byte) (sig : Bool)
  /-- `KEY_SLOT_PROGRAM`. Opcode 5011h with a record of TYPE 0002h, OP 01h or 02h. -/
  | keySlotProgram (dt : Nat) (c : Cmd) (rcd : List Byte) (sig : Bool)
  /-- `KEY_SLOT_REVOKE`. Opcode 5011h with a record of TYPE 0002h, OP 10h to 12h. -/
  | keySlotRevoke (dt : Nat) (c : Cmd) (rcd : List Byte) (sig : Bool)
  /-- `LC_TO_FIELD`. Opcode 5011h with a record of TYPE 0003h, OP 01h. -/
  | lcToField (dt : Nat) (c : Cmd) (rcd : List Byte) (sig : Bool)
  /-- `LC_TO_FIELD_SERVICE`. Opcode 5011h with a record of TYPE 0003h, OP 02h. -/
  | lcToFieldService (dt : Nat) (c : Cmd) (rcd : List Byte) (sig : Bool)
  /-- `LC_BACK_TO_FIELD`. Opcode 5011h with a record of TYPE 0003h, OP 03h. -/
  | lcBackToField (dt : Nat) (c : Cmd) (rcd : List Byte) (sig : Bool)
  /-- `LC_TO_RETIRED`. Opcode 5011h with a record of TYPE 0003h, OP 04h. -/
  | lcToRetired (dt : Nat) (c : Cmd) (rcd : List Byte) (sig : Bool)
  /-- `SEC_ATTEST`. Opcode 5013h; the host's nonce in the buffer, and the partner's serial number. -/
  | secAttest (dt : Nat) (c : Cmd) (nonce : List Byte) (partner : Nat)
  /-- `FIELD_SERVICE_EXPIRY`. SVCMIN minutes of FIELD_SERVICE have passed. -/
  | fieldServiceExpiry (dt : Nat)
  /-- `DAP_CHALLENGE`. DAP_CTL.CHAL is set. -/
  | dapChallenge (dt : Nat)
  /-- `DAP_SUBMIT`. DAP_CTL.SUBMIT is set with REQ, the record in DAP_RESP and the verdict of its signature. -/
  | dapSubmit (dt : Nat) (req : Nat) (rcd : List Byte) (sig : Bool)
  /-- `DAP_LEAVE`. DAP_CTL.LEAVE is set. -/
  | dapLeave (dt : Nat)
  /-- `DAP_NONCE_EXPIRY`. The nonce is 60 s old. -/
  | dapNonceExpiry (dt : Nat)
  /-- `DAP_LOCKOUT_END`. The authentication lock-out ends. -/
  | dapLockoutEnd (dt : Nat)
  /-- `DBGMAX_WRITE`. `pf` writes `v` to SEC_DBG.DBGMAX. -/
  | dbgmaxWrite (dt : Nat) (pf v : Nat)
  /-- `DMA_LOCK`. `pf` writes SEC_DMALOCK.LOCK = 1. -/
  | dmaLock (dt : Nat) (pf : Nat)
  /-- `ACC_SEARCH`. `pf` writes ACC_CTL.SEARCH = 1. -/
  | accSearch (dt : Nat) (pf : Nat)
  /-- `ACC_DEAUTH`. `pf` writes ACC_CTL.DEAUTH = 1. -/
  | accDeauth (dt : Nat) (pf : Nat)
  /-- `TOKEN_FRAME_RECEIVED`. A token frame arrives on LF/UHF; `overlap`: another overlaps it. -/
  | tokenFrameReceived (dt : Nat) (uhf : Bool) (bs : List Byte) (overlap : Bool)
  /-- `SEARCH_SLOT_END`. The running slot of a search round ends. -/
  | searchSlotEnd (dt : Nat)
  /-- `RESPONSE_TIMEOUT`. The response time of a challenge has passed. -/
  | responseTimeout (dt : Nat)
  /-- `SESSION_TIMEOUT`. The session's time has passed. -/
  | sessionTimeout (dt : Nat)
  /-- `RELEASE_MESSAGE`. The release message falls due. -/
  | releaseMessage (dt : Nat) (past : Bool)
  /-- `AUTH_TIMEOUT`. The authorisation's time has passed. -/
  | authTimeout (dt : Nat)
  /-- `ACC_LOCKOUT_END`. The access lock-out ends. -/
  | accLockoutEnd (dt : Nat)
  /-- `LOCKOUT_STORE`. The lock-out time is stored. -/
  | lockoutStore (dt : Nat)
  /-- `ACC_ENROL`. Opcode 5020h with the record read and the verdict of its signature. -/
  | accEnrol (dt : Nat) (c : Cmd) (rcd : List Byte) (sig : Bool)
  /-- `ACC_REVOKE`. Opcode 5021h with the record read and the verdict of its signature. -/
  | accRevoke (dt : Nat) (c : Cmd) (rcd : List Byte) (sig : Bool)
  /-- `ACC_INSTALL_KEYS`. Opcode 5021h with the record, the verdict of its signature and of the GCM tag. -/
  | accInstallKeys (dt : Nat) (c : Cmd) (rcd : List Byte) (sig tag : Bool)
  /-- `UPD_STAGE`. Opcode 5030h with the bytes read. -/
  | updStage (dt : Nat) (c : Cmd) (chunk : List Byte)
  /-- `UPD_VERIFY`. Opcode 5031h with the verdict of the image's signature. -/
  | updVerify (dt : Nat) (c : Cmd) (sig : Bool)
  /-- `UPD_COMMIT`. Opcode 5032h with the verdict of the re-check. -/
  | updCommit (dt : Nat) (c : Cmd) (sig : Bool)
  /-- `UPD_CONFIRM`. Opcode 5033h. -/
  | updConfirm (dt : Nat) (c : Cmd)
  /-- `UPD_ABORT`. Opcode 5034h. -/
  | updAbort (dt : Nat) (c : Cmd)
  /-- `SET_DEFAULTS`. Opcode 5035h. -/
  | setDefaults (dt : Nat) (c : Cmd)
  /-- `AUTO_CONFIRM`. CONFIRMT has passed with AUTOCONF = 1, or the rejoin of a handover has ended. -/
  | autoConfirm (dt : Nat)
  /-- `TRIAL_TIMEOUT`. CONFIRMT has passed without a confirmation. -/
  | trialTimeout (dt : Nat)
  /-- `VKEEP_LOSS`. VBAT has stayed below 3.0 V for 1 ms; bit `k` of `kept`: power die Pk keeps its logic supply from its load supplies. -/
  | vkeepLoss (dt : Nat) (kept : Nat)
  /-- `PCIE_LINK_DOWN`. The PCIe link goes down. -/
  | pcieLinkDown (dt : Nat)
  /-- `PCIE_LINK_UP`. The PCIe link comes up. -/
  | pcieLinkUp (dt : Nat)
  /-- `REED_LANE_LOCK`. Lane `k` gains block lock. -/
  | reedLaneLock (dt : Nat) (k : Nat)
  /-- `TW_JOIN_TIMEOUT`. 100 ms have passed since a TW_JOIN. -/
  | twJoinTimeout (dt : Nat)
  /-- `TWIN_REFRESH_TIMEOUT`. The Shawm pair has not refreshed the agent for 100 µs. -/
  | twinRefreshTimeout (dt : Nat)
  /-- `OOB_HEARTBEAT_SILENT`. No OOB heartbeat for 3 periods. -/
  | oobHeartbeatSilent (dt : Nat)
  /-- `BARRIER_FRAME_MISSING`. No frame arrives in a slot of the uplink, or of the downlink. -/
  | barrierFrameMissing (dt : Nat) (uplink : Bool)
  deriving DecidableEq, Repr

end Sys2Proof
end

