-- ==== Sys2Proof/Config.lean ====
section
/-!
DEFINITION. Sys2Proof/Config.lean: the values that the spec leaves open.  Each is an opaque constant: no proof can see what it is, so that a
statement about it holds for every value.
-/
namespace Sys2Proof.Config

/-- Sub-code of a switch-on command whose HS or LS channel latches with CLAMP_LOCK before its outcome is reached: R213 lists none (log entry 20). -/
opaque clampLockSub : Nat → Nat

/-- DATA of MX_TRIP, by cause code and matrix state: R379 gives the layout for LD channel events only (log entry 21). -/
opaque mxTripData : Nat → Nat → Nat

/-- A claim that divides by the group's supply while that supply reads 0: by the object and the power in µW (log entry 22). -/
opaque noSupplyClaim : Nat → Nat → Nat

/-- Temperature, 1/8 °C as an integer, for an NTC reading of 0 mV, or of V3 or more, at which R343's formula has no value (log entry 85): by string and reading. -/
opaque ntcEdge : Nat → Nat → Int

/-- On-current of an object in PWM at duty 0 without an on-time sample: R286 divides by the duty (log entry 86); by the object and its 1 ms average in mA. -/
opaque noDutyCurrent : Nat → Nat → Nat

/-- Sub-code of an isolated output's OUT_ON that R524 cuts before its outcome is reached: R537 lists none (log entry 20). -/
opaque vfldUvSub : Nat → Nat

/-- Data byte of an INLINE frame beyond the eight that its descriptor carries (R547, R549): by its index (log entry 23). -/
opaque inlineTail : Nat → Nat

/-- The receive error counter after a frame received well while it is above 127: ISO 11898-1 lets it take a value from 119 to 127 (log entry 24). -/
opaque recAfter : Nat → Nat

/-- How far a slew moves network time at one Sync, by the measured offset, both as signed ns (R624, log entry 25). -/
opaque slew : Int → Int

/-- ALU.F[0] after a bitwise operation: R754 gives it for additions and subtractions (log entry 32); by operation, A and T. -/
opaque logicCarry : Nat → Nat → Nat → Bool

/-- A byte of a READ_STATUS or READ_COUNTERS result that the spec does not lay out: opcode, object, time of the read, byte number (log entry 45). -/
opaque unstatedResult : Nat → Nat → Nat → Nat → Nat

/-- A field's value in the default settings of section kind 04h, whose layout R908 does not give: section, field number, index (log entry 41). -/
opaque defaultSetting : List Nat → Nat → Nat → Nat

/-- A field's value after the migration routine of section kind 05h: section, old schema, field number, index, old value (log entry 41). -/
opaque migrated : List Nat → Nat → Nat → Nat → Nat → Nat

/-- Spare SRAM rows of all arrays together (R804 gives 2 % of the rows of arrays whose sizes it does not state; log entry 51). -/
opaque sramSpares : Nat

/-- Spare SRAM rows of an array (R804 gives 2 % of rows whose number it does not state), and cells of packet memory in a row (log entry 51). -/
opaque arraySpares : Nat → Nat
opaque rowCells : Nat → Nat

/-- A word of a core's data memory after its row was lost (R805): core, address, time (log entry 54). -/
opaque lostWord : Nat → Nat → Nat → Nat

/-- The SHAKE256 digest of the settings in the attestation report: R923 does not lay the values out; by field number, index and value (log entry 51). -/
opaque settingsDigest : List (Nat × Nat × Nat) → Nat

/-! ### Cryptography

AES-128, AES-CMAC, AES-256-GCM, SHAKE256 and Ed448 are standards that the spec names and does not restate.  The model takes their functions as they are
named (log entry 27); in every number byte 0 is in bits 7:0. -/

/-- AES-128 of a block under a key. -/
opaque aes128 : Nat → Nat → Nat

/-- AES-CMAC of a message under a key. -/
opaque aesCmac : Nat → List Nat → Nat

/-- The plaintext of AES-256-GCM under the transport key of R900: nonce, additional data, ciphertext. -/
opaque transportPlain : List Nat → List Nat → List Nat → Nat

/-- The 64-byte SHAKE256 digest of a message. -/
opaque shake256 : List Nat → Nat

/-- The signature of R848 of a message under the device identity key, 114 bytes. -/
opaque deviceSign : List Nat → Nat

/-- The n-th value drawn from the random source, whatever its width. -/
opaque random : Nat → Nat

/-- The session frame number of R888 of the first sealed frame of a session (log entry 28). -/
opaque firstSealed : Nat

end Sys2Proof.Config
end

