-- ==== Sys2Proof/Machine/Types/Reg.lean ====
section
/-!
DEFINITION. Sys2Proof/Machine/Types/Reg.lean: what a setup-register field is (R11, R19, R134).
-/
namespace Sys2Proof.Machine

/-- The access types of R19. -/
inductive Acc where
  | ro | rw | w1c | wo | rc
  deriving DecidableEq, Repr

/-- The range to which R134 clamps a written field. -/
inductive Rng where
  /-- every value of the field's width is in range -/
  | any
  /-- the nearest of the two limits replaces a value outside them -/
  | range (lo hi : Nat)
  /-- a value above `hi` is replaced by `sub` -/
  | above (hi sub : Nat)
  /-- the range depends on other fields or on state: `clampDep` of Machine/Setup.lean -/
  | dep
  deriving DecidableEq, Repr

/-- Where a run of a field's indices stands: indices `first` to `first + cnt - 1`, `per` of them at `off + stride * k`, and the
next `per` of them `stride2` further. -/
structure Loc where
  win : Nat
  off : Nat
  per : Nat
  stride : Nat
  stride2 : Nat
  first : Nat
  cnt : Nat
  deriving DecidableEq, Repr

/-- One named bit field of the setup registers. -/
structure Field where
  /-- the field's own number, the key of the register file -/
  id : Nat
  /-- lowest bit -/
  lo : Nat
  width : Nat
  acc : Acc
  /-- reset value at each index (R20) -/
  rst : Nat → Nat
  rng : Rng
  locs : List Loc

end Sys2Proof.Machine
end

