-- ==== Sys2Proof/Machine/Regs.lean ====
section
/-!
DEFINITION. Sys2Proof/Machine/Regs.lean: the setup registers of BAR0, one `Field` per named bit field, as the register
tables of the spec give them (R54, R76, R77, R218 to R220, R277 to R280, R323, R376 to R378, R431, R432, R464, R496, R497, R538, R539,
R589, R590, R642 to R644, R676, R678, R744, R784, R785, R816, R846, R879, R903, R927).  A field that the spec repeats for several
objects carries one index; `locs` says at which window and offset each index stands.  `rst` is the reset value, `rng` the range a write
is clamped to (R134), where `.dep` marks a range that depends on other fields (`clampDep` in Machine/Setup.lean).
-/
namespace Sys2Proof.Machine.Reg
open Sys2Proof.Machine

/-! ### R54 -/
def GLB_NETCFG_NET : Field := ⟨0, 0, 2, .rw, (fun _ => 2), (.range 0 2), [⟨0, 0x200, 1, 0, 0, 0, 1⟩]⟩
def GLB_VBAT_VBAT : Field := ⟨1, 0, 16, .ro, (fun _ => 0), .any, [⟨0, 0x204, 1, 0, 0, 0, 1⟩]⟩
def GLB_TCASE_TC : Field := ⟨2, 0, 16, .ro, (fun _ => 0), .any, [⟨0, 0x220, 1, 0, 0, 0, 1⟩]⟩
def GLB_TDIE_P0 : Field := ⟨3, 0, 8, .ro, (fun _ => 0), .any, [⟨0, 0x224, 1, 0, 0, 0, 1⟩]⟩
def GLB_TDIE_P1 : Field := ⟨4, 8, 8, .ro, (fun _ => 0), .any, [⟨0, 0x224, 1, 0, 0, 0, 1⟩]⟩
def GLB_TDIE_P2 : Field := ⟨5, 16, 8, .ro, (fun _ => 0), .any, [⟨0, 0x224, 1, 0, 0, 0, 1⟩]⟩
def GLB_TDIE_C : Field := ⟨6, 24, 8, .ro, (fun _ => 0), .any, [⟨0, 0x224, 1, 0, 0, 0, 1⟩]⟩
def GLB_OVSTAT_OV : Field := ⟨7, 0, 6, .ro, (fun _ => 0), .any, [⟨0, 0x228, 1, 0, 0, 0, 1⟩]⟩
def GLB_OVSTAT_OVS : Field := ⟨8, 8, 6, .w1c, (fun _ => 0), .any, [⟨0, 0x228, 1, 0, 0, 0, 1⟩]⟩
def GLB_OVSTAT_OVCNT : Field := ⟨9, 16, 8, .rc, (fun _ => 0), .any, [⟨0, 0x228, 1, 0, 0, 0, 1⟩]⟩
def GLB_PDISS_PD : Field := ⟨10, 0, 16, .ro, (fun _ => 0), .any, [⟨0, 0x22c, 1, 0, 0, 0, 1⟩]⟩
def GLB_PDISS_PLIM : Field := ⟨11, 16, 16, .ro, (fun _ => 0xfa0), .any, [⟨0, 0x22c, 1, 0, 0, 0, 1⟩]⟩
/-! ### R76 -/
def GLB_PACE_REQ : Field := ⟨12, 0, 2, .rw, (fun _ => 1), (.range 0 2), [⟨0, 0x100, 1, 0, 0, 0, 1⟩]⟩
def GLB_PACE_CUR : Field := ⟨13, 4, 2, .ro, (fun _ => 1), .any, [⟨0, 0x100, 1, 0, 0, 0, 1⟩]⟩
def GLB_PACE_BUSY : Field := ⟨14, 8, 1, .ro, (fun _ => 0), .any, [⟨0, 0x100, 1, 0, 0, 0, 1⟩]⟩
def GLB_PACE_REJ_MIRROR : Field := ⟨15, 12, 1, .w1c, (fun _ => 0), .any, [⟨0, 0x100, 1, 0, 0, 0, 1⟩]⟩
def GLB_PACECNT_CHG : Field := ⟨16, 0, 16, .rc, (fun _ => 0), .any, [⟨0, 0x104, 1, 0, 0, 0, 1⟩]⟩
/-! ### R77 -/
def TB_CFG_TB1SRC : Field := ⟨17, 0, 1, .rw, (fun _ => 0), .any, [⟨2, 0, 1, 0, 0, 0, 1⟩]⟩
def TB_STAT_LOCK : Field := ⟨18, 0, 9, .ro, (fun _ => 0), .any, [⟨2, 4, 1, 0, 0, 0, 1⟩]⟩
def TB_STAT_REFBKP : Field := ⟨19, 9, 1, .ro, (fun _ => 0), .any, [⟨2, 4, 1, 0, 0, 0, 1⟩]⟩
def TB_STAT_REFCLK_LOSS : Field := ⟨20, 16, 1, .w1c, (fun _ => 0), .any, [⟨2, 4, 1, 0, 0, 0, 1⟩]⟩
def TB_STAT_FABRIC_SLOW : Field := ⟨21, 17, 1, .w1c, (fun _ => 0), .any, [⟨2, 4, 1, 0, 0, 0, 1⟩]⟩
def TB_FABRATE_RATE : Field := ⟨22, 0, 16, .ro, (fun _ => 0), .any, [⟨2, 8, 1, 0, 0, 0, 1⟩]⟩
def TB_FABRATE_MIN : Field := ⟨23, 16, 16, .rc, (fun _ => 0xffff), .any, [⟨2, 8, 1, 0, 0, 0, 1⟩]⟩
def TB_FABLOAD_DEMAND : Field := ⟨24, 0, 16, .ro, (fun _ => 0), .any, [⟨2, 0xc, 1, 0, 0, 0, 1⟩]⟩
def TB_THROTTLE_PCIE : Field := ⟨25, 0, 16, .rc, (fun _ => 0), .any, [⟨2, 0x10, 1, 0, 0, 0, 1⟩]⟩
def TB_THROTTLE_REED : Field := ⟨26, 16, 16, .rc, (fun _ => 0), .any, [⟨2, 0x10, 1, 0, 0, 0, 1⟩]⟩
/-! ### R218 -/
def CH_CFG0_ILIM : Field := ⟨27, 0, 8, .rw, (fun i => if i < 8 then 0x28 else if i < 24 then 0x20 else if i < 48 then 0x30 else 0x18), .dep, [⟨8, 0, 48, 0x20, 0, 0, 48⟩, ⟨9, 0, 16, 0x20, 0, 48, 16⟩]⟩
def CH_CFG0_ILIM_INR : Field := ⟨28, 8, 8, .rw, (fun i => if i < 8 then 0x50 else if i < 24 then 0x40 else if i < 48 then 0x60 else 0), .dep, [⟨8, 0, 48, 0x20, 0, 0, 48⟩]⟩
def CH_CFG0_TLIM : Field := ⟨29, 16, 8, .rw, (fun i => if i < 8 then 0x14 else 0x0A), (.range 1 200), [⟨8, 0, 48, 0x20, 0, 0, 48⟩, ⟨9, 0, 16, 0x20, 0, 48, 16⟩]⟩
def CH_CFG0_TSCB : Field := ⟨30, 24, 8, .rw, (fun _ => 5), (.range 2 50), [⟨8, 0, 48, 0x20, 0, 0, 48⟩, ⟨9, 0, 16, 0x20, 0, 48, 16⟩]⟩
def CH_CFG1_NRETRY : Field := ⟨31, 0, 4, .rw, (fun _ => 8), .any, [⟨8, 4, 48, 0x20, 0, 0, 48⟩]⟩
def CH_CFG1_TOFF : Field := ⟨32, 4, 5, .rw, (fun _ => 5), (.range 1 25), [⟨8, 4, 48, 0x20, 0, 0, 48⟩]⟩
def CH_CFG1_TLIM_INR : Field := ⟨33, 10, 8, .rw, (fun _ => 0x64), (.range 1 250), [⟨8, 4, 48, 0x20, 0, 0, 48⟩]⟩
def CH_CFG1_TLATCH : Field := ⟨34, 18, 1, .rw, (fun _ => 0), .any, [⟨8, 4, 48, 0x20, 0, 0, 48⟩, ⟨9, 4, 16, 0x20, 0, 48, 16⟩]⟩
def CH_CFG1_DT_OFF : Field := ⟨35, 20, 7, .rw, (fun _ => 0x3c), (.range 20 80), [⟨8, 4, 48, 0x20, 0, 0, 48⟩, ⟨9, 4, 16, 0x20, 0, 48, 16⟩]⟩
def CH_CFG1_DT_HYS : Field := ⟨36, 27, 5, .rw, (fun _ => 0x14), .dep, [⟨8, 4, 48, 0x20, 0, 0, 48⟩, ⟨9, 4, 16, 0x20, 0, 48, 16⟩]⟩
def CH_CFG2_PER : Field := ⟨37, 0, 12, .rw, (fun _ => 0xc8), (.range 50 4000), [⟨8, 8, 48, 0x20, 0, 0, 48⟩, ⟨9, 8, 16, 0x20, 0, 48, 16⟩]⟩
def CH_CFG2_PHASE : Field := ⟨38, 16, 8, .rw, (fun _ => 0), .any, [⟨8, 8, 48, 0x20, 0, 0, 48⟩, ⟨9, 8, 16, 0x20, 0, 48, 16⟩]⟩
def CH_CFG2_SLEW : Field := ⟨39, 24, 2, .rw, (fun _ => 1), .any, [⟨8, 8, 48, 0x20, 0, 0, 48⟩, ⟨9, 8, 16, 0x20, 0, 48, 16⟩]⟩
def CH_CFG3_PARSZ : Field := ⟨40, 0, 2, .rw, (fun _ => 0), .dep, [⟨8, 0xc, 48, 0x20, 0, 0, 48⟩, ⟨9, 0xc, 16, 0x20, 0, 48, 16⟩]⟩
def CH_OUT_DUTY : Field := ⟨41, 0, 16, .ro, (fun _ => 0), .any, [⟨8, 0x10, 48, 0x20, 0, 0, 48⟩, ⟨9, 0x10, 16, 0x20, 0, 48, 16⟩]⟩
def CH_OUT_TIL : Field := ⟨42, 16, 16, .ro, (fun i => if i < 8 then 0x1388 else if i < 24 then 0x0BB8 else if i < 48 then 0x03E8 else 0), .any, [⟨8, 0x10, 48, 0x20, 0, 0, 48⟩, ⟨9, 0x10, 16, 0x20, 0, 48, 16⟩]⟩
def CH_STAT_STATE : Field := ⟨43, 0, 4, .ro, (fun _ => 0), .any, [⟨8, 0x14, 48, 0x20, 0, 0, 48⟩, ⟨9, 0x14, 16, 0x20, 0, 48, 16⟩]⟩
def CH_STAT_CAUSE : Field := ⟨44, 4, 4, .ro, (fun _ => 0), .any, [⟨8, 0x14, 48, 0x20, 0, 0, 48⟩, ⟨9, 0x14, 16, 0x20, 0, 48, 16⟩]⟩
def CH_STAT_RETRIES : Field := ⟨45, 8, 4, .ro, (fun _ => 0), .any, [⟨8, 0x14, 48, 0x20, 0, 0, 48⟩]⟩
def CH_STAT_INR : Field := ⟨46, 12, 1, .ro, (fun _ => 0), .any, [⟨8, 0x14, 48, 0x20, 0, 0, 48⟩]⟩
def CH_STAT_REVOPEN : Field := ⟨47, 13, 1, .ro, (fun _ => 0), .any, [⟨8, 0x14, 48, 0x20, 0, 0, 48⟩]⟩
def CH_STAT_DERATED : Field := ⟨48, 14, 1, .ro, (fun _ => 0), .any, [⟨8, 0x14, 48, 0x20, 0, 0, 48⟩, ⟨9, 0x14, 16, 0x20, 0, 48, 16⟩]⟩
def CH_STAT_FAULT : Field := ⟨49, 15, 1, .w1c, (fun _ => 0), .any, [⟨8, 0x14, 48, 0x20, 0, 0, 48⟩, ⟨9, 0x14, 16, 0x20, 0, 48, 16⟩]⟩
def CH_STAT_SEGACT : Field := ⟨50, 16, 5, .ro, (fun _ => 0x10), .any, [⟨8, 0x14, 48, 0x20, 0, 0, 48⟩, ⟨9, 0x14, 16, 0x20, 0, 48, 16⟩]⟩
def CH_STAT_SPARES : Field := ⟨51, 21, 2, .ro, (fun _ => 2), .any, [⟨8, 0x14, 48, 0x20, 0, 0, 48⟩, ⟨9, 0x14, 16, 0x20, 0, 48, 16⟩]⟩
def CH_STAT_PWM : Field := ⟨52, 23, 1, .ro, (fun _ => 0), .any, [⟨8, 0x14, 48, 0x20, 0, 0, 48⟩, ⟨9, 0x14, 16, 0x20, 0, 48, 16⟩]⟩
def CH_ACC_ACC : Field := ⟨53, 0, 16, .ro, (fun i => if i < 8 then 0x1770 else if i < 24 then 0x07D0 else if i < 48 then 0x0258 else 0x0096), .any, [⟨8, 0x18, 48, 0x20, 0, 0, 48⟩, ⟨9, 0x18, 16, 0x20, 0, 48, 16⟩]⟩
def CH_ACC_ELAST : Field := ⟨54, 16, 16, .ro, (fun _ => 0), .any, [⟨8, 0x18, 48, 0x20, 0, 0, 48⟩, ⟨9, 0x18, 16, 0x20, 0, 48, 16⟩]⟩
def CH_MEAS_IOUT : Field := ⟨55, 0, 16, .ro, (fun _ => 0), .any, [⟨8, 0x1c, 48, 0x20, 0, 0, 48⟩, ⟨9, 0x1c, 16, 0x20, 0, 48, 16⟩]⟩
def CH_MEAS_TJ : Field := ⟨56, 16, 8, .ro, (fun _ => 0), .any, [⟨8, 0x1c, 48, 0x20, 0, 0, 48⟩, ⟨9, 0x1c, 16, 0x20, 0, 48, 16⟩]⟩
def CH_MEAS_DT : Field := ⟨57, 24, 8, .ro, (fun _ => 0), .any, [⟨8, 0x1c, 48, 0x20, 0, 0, 48⟩, ⟨9, 0x1c, 16, 0x20, 0, 48, 16⟩]⟩
/-! ### R220 -/
def HS_LATCH0 : Field := ⟨58, 0, 32, .ro, (fun _ => 0), .any, [⟨8, 0xc00, 1, 0, 0, 0, 1⟩]⟩
def HS_LATCH1 : Field := ⟨59, 0, 16, .ro, (fun _ => 0), .any, [⟨8, 0xc04, 1, 0, 0, 0, 1⟩]⟩
def HS_GRP_SAG : Field := ⟨60, 0, 4, .ro, (fun _ => 0), .any, [⟨8, 0xc08, 1, 0, 0, 0, 1⟩]⟩
def HS_GRP_SAGCNT : Field := ⟨61, 16, 16, .rc, (fun _ => 0), .any, [⟨8, 0xc08, 1, 0, 0, 0, 1⟩]⟩
/-! ### R277 -/
def DG_DCFG0_IOL : Field := ⟨62, 0, 8, .rw, (fun _ => 0xa), .dep, [⟨8, 0x600, 48, 0x10, 0, 0, 48⟩, ⟨9, 0x600, 16, 0x10, 0, 48, 16⟩]⟩
def DG_DCFG0_FINE : Field := ⟨63, 8, 1, .rw, (fun _ => 0), .any, [⟨8, 0x600, 48, 0x10, 0, 0, 48⟩, ⟨9, 0x600, 16, 0x10, 0, 48, 16⟩]⟩
def DG_DCFG0_OFFTEST : Field := ⟨64, 9, 1, .rw, (fun _ => 0), .any, [⟨8, 0x600, 48, 0x10, 0, 0, 48⟩, ⟨9, 0x600, 16, 0x10, 0, 48, 16⟩]⟩
def DG_DCFG0_ITEST : Field := ⟨65, 10, 2, .rw, (fun _ => 1), (.above 2 2), [⟨8, 0x600, 48, 0x10, 0, 0, 48⟩, ⟨9, 0x600, 16, 0x10, 0, 48, 16⟩]⟩
def DG_DCFG0_VOL_OFF : Field := ⟨66, 12, 4, .rw, (fun _ => 4), (.range 0 14), [⟨8, 0x600, 48, 0x10, 0, 0, 48⟩, ⟨9, 0x600, 16, 0x10, 0, 48, 16⟩]⟩
def DG_DCFG0_LOWDUTY : Field := ⟨67, 16, 2, .rw, (fun _ => 0), (.above 2 2), [⟨8, 0x600, 48, 0x10, 0, 0, 48⟩, ⟨9, 0x600, 16, 0x10, 0, 48, 16⟩]⟩
def DG_DCFG0_NFILT : Field := ⟨68, 18, 4, .rw, (fun _ => 2), .any, [⟨8, 0x600, 48, 0x10, 0, 0, 48⟩, ⟨9, 0x600, 16, 0x10, 0, 48, 16⟩]⟩
def DG_DCFG0_DFRESH : Field := ⟨69, 22, 8, .rw, (fun _ => 0xa), (.range 1 255), [⟨8, 0x600, 48, 0x10, 0, 0, 48⟩, ⟨9, 0x600, 16, 0x10, 0, 48, 16⟩]⟩
def DG_DCFG1_IWARN : Field := ⟨70, 0, 8, .rw, (fun _ => 0), .any, [⟨8, 0x604, 48, 0x10, 0, 0, 48⟩, ⟨9, 0x604, 16, 0x10, 0, 48, 16⟩]⟩
def DG_DCFG1_TOVL : Field := ⟨71, 8, 8, .rw, (fun _ => 0xa), (.range 1 255), [⟨8, 0x604, 48, 0x10, 0, 0, 48⟩, ⟨9, 0x604, 16, 0x10, 0, 48, 16⟩]⟩
def DG_DCFG1_DRIFT : Field := ⟨72, 24, 8, .ro, (fun _ => 0), .any, [⟨8, 0x604, 48, 0x10, 0, 0, 48⟩, ⟨9, 0x604, 16, 0x10, 0, 48, 16⟩]⟩
def DG_DSTAT_VERDICT : Field := ⟨73, 0, 4, .ro, (fun _ => 0), .any, [⟨8, 0x608, 48, 0x10, 0, 0, 48⟩, ⟨9, 0x608, 16, 0x10, 0, 48, 16⟩]⟩
def DG_DSTAT_METHOD : Field := ⟨74, 4, 3, .ro, (fun _ => 0), .any, [⟨8, 0x608, 48, 0x10, 0, 0, 48⟩, ⟨9, 0x608, 16, 0x10, 0, 48, 16⟩]⟩
def DG_DSTAT_AGE : Field := ⟨75, 8, 8, .ro, (fun _ => 0xff), .any, [⟨8, 0x608, 48, 0x10, 0, 0, 48⟩, ⟨9, 0x608, 16, 0x10, 0, 48, 16⟩]⟩
def DG_DSTAT_ILOW : Field := ⟨76, 16, 16, .ro, (fun _ => 0), .any, [⟨8, 0x608, 48, 0x10, 0, 0, 48⟩, ⟨9, 0x608, 16, 0x10, 0, 48, 16⟩]⟩
def DG_DCNT_OPENCNT : Field := ⟨77, 0, 16, .rc, (fun _ => 0), .any, [⟨8, 0x60c, 48, 0x10, 0, 0, 48⟩, ⟨9, 0x60c, 16, 0x10, 0, 48, 16⟩]⟩
def DG_DCNT_UNVCNT : Field := ⟨78, 16, 16, .rc, (fun _ => 0), .any, [⟨8, 0x60c, 48, 0x10, 0, 0, 48⟩, ⟨9, 0x60c, 16, 0x10, 0, 48, 16⟩]⟩
/-! ### R278 -/
def LH_LHR0_LSRC : Field := ⟨79, 0, 4, .rw, (fun _ => 0), (.above 8 0), [⟨8, 0x900, 48, 8, 0, 0, 48⟩, ⟨9, 0x900, 16, 8, 0, 48, 16⟩, ⟨0xb, 0x900, 12, 8, 0, 64, 12⟩, ⟨0xd, 0x900, 16, 8, 0, 76, 16⟩, ⟨0xa, 0x900, 12, 8, 0, 92, 12⟩, ⟨0xc, 0x900, 1, 8, 0, 104, 1⟩]⟩
def LH_LHR0_LSTATE : Field := ⟨80, 4, 2, .rw, (fun _ => 0), .any, [⟨8, 0x900, 48, 8, 0, 0, 48⟩, ⟨9, 0x900, 16, 8, 0, 48, 16⟩, ⟨0xb, 0x900, 12, 8, 0, 64, 12⟩, ⟨0xd, 0x900, 16, 8, 0, 76, 16⟩, ⟨0xa, 0x900, 12, 8, 0, 92, 12⟩, ⟨0xc, 0x900, 1, 8, 0, 104, 1⟩]⟩
def LH_LHR0_EXEMPT : Field := ⟨81, 6, 1, .rw, (fun _ => 0), .any, [⟨8, 0x900, 48, 8, 0, 0, 48⟩, ⟨9, 0x900, 16, 8, 0, 48, 16⟩, ⟨0xb, 0x900, 12, 8, 0, 64, 12⟩, ⟨0xd, 0x900, 16, 8, 0, 76, 16⟩, ⟨0xa, 0x900, 12, 8, 0, 92, 12⟩, ⟨0xc, 0x900, 1, 8, 0, 104, 1⟩]⟩
def LH_LHR0_LINV : Field := ⟨82, 7, 1, .rw, (fun _ => 0), .any, [⟨8, 0x900, 48, 8, 0, 0, 48⟩, ⟨9, 0x900, 16, 8, 0, 48, 16⟩, ⟨0xb, 0x900, 12, 8, 0, 64, 12⟩, ⟨0xd, 0x900, 16, 8, 0, 76, 16⟩, ⟨0xa, 0x900, 12, 8, 0, 92, 12⟩, ⟨0xc, 0x900, 1, 8, 0, 104, 1⟩]⟩
def LH_LHR0_LDUTY : Field := ⟨83, 8, 8, .rw, (fun _ => 0), .any, [⟨8, 0x900, 48, 8, 0, 0, 48⟩, ⟨9, 0x900, 16, 8, 0, 48, 16⟩, ⟨0xb, 0x900, 12, 8, 0, 64, 12⟩, ⟨0xd, 0x900, 16, 8, 0, 76, 16⟩, ⟨0xa, 0x900, 12, 8, 0, 92, 12⟩, ⟨0xc, 0x900, 1, 8, 0, 104, 1⟩]⟩
def LH_LHR0_HOLDW : Field := ⟨84, 16, 8, .rw, (fun _ => 0x32), (.range 0 200), [⟨8, 0x900, 48, 8, 0, 0, 48⟩, ⟨9, 0x900, 16, 8, 0, 48, 16⟩, ⟨0xb, 0x900, 12, 8, 0, 64, 12⟩, ⟨0xd, 0x900, 16, 8, 0, 76, 16⟩, ⟨0xa, 0x900, 12, 8, 0, 92, 12⟩, ⟨0xc, 0x900, 1, 8, 0, 104, 1⟩]⟩
def LH_LHR0_ORPH : Field := ⟨85, 24, 2, .rw, (fun _ => 1), (.above 2 1), [⟨8, 0x900, 48, 8, 0, 0, 48⟩, ⟨9, 0x900, 16, 8, 0, 48, 16⟩, ⟨0xb, 0x900, 12, 8, 0, 64, 12⟩, ⟨0xd, 0x900, 16, 8, 0, 76, 16⟩, ⟨0xa, 0x900, 12, 8, 0, 92, 12⟩, ⟨0xc, 0x900, 1, 8, 0, 104, 1⟩]⟩
def LH_LHR0_DBGPOL : Field := ⟨86, 26, 2, .rw, (fun _ => 2), .any, [⟨8, 0x900, 48, 8, 0, 0, 48⟩, ⟨9, 0x900, 16, 8, 0, 48, 16⟩, ⟨0xb, 0x900, 12, 8, 0, 64, 12⟩, ⟨0xd, 0x900, 16, 8, 0, 76, 16⟩, ⟨0xa, 0x900, 12, 8, 0, 92, 12⟩, ⟨0xc, 0x900, 1, 8, 0, 104, 1⟩]⟩
def LH_LHR0_PAIRED : Field := ⟨87, 28, 1, .rw, (fun _ => 0), .dep, [⟨8, 0x900, 48, 8, 0, 0, 48⟩, ⟨9, 0x900, 16, 8, 0, 48, 16⟩, ⟨0xb, 0x900, 12, 8, 0, 64, 12⟩, ⟨0xd, 0x900, 16, 8, 0, 76, 16⟩, ⟨0xa, 0x900, 12, 8, 0, 92, 12⟩, ⟨0xc, 0x900, 1, 8, 0, 104, 1⟩]⟩
def LH_LHR1_INLIMP : Field := ⟨88, 0, 1, .ro, (fun _ => 0), .any, [⟨8, 0x904, 48, 8, 0, 0, 48⟩, ⟨9, 0x904, 16, 8, 0, 48, 16⟩, ⟨0xb, 0x904, 12, 8, 0, 64, 12⟩, ⟨0xd, 0x904, 16, 8, 0, 76, 16⟩, ⟨0xa, 0x904, 12, 8, 0, 92, 12⟩, ⟨0xc, 0x904, 1, 8, 0, 104, 1⟩]⟩
def LH_LHR1_INHOLD : Field := ⟨89, 1, 1, .ro, (fun _ => 0), .any, [⟨8, 0x904, 48, 8, 0, 0, 48⟩, ⟨9, 0x904, 16, 8, 0, 48, 16⟩, ⟨0xb, 0x904, 12, 8, 0, 64, 12⟩, ⟨0xd, 0x904, 16, 8, 0, 76, 16⟩, ⟨0xa, 0x904, 12, 8, 0, 92, 12⟩, ⟨0xc, 0x904, 1, 8, 0, 104, 1⟩]⟩
def LH_LHR1_ORPHANED : Field := ⟨90, 2, 1, .ro, (fun _ => 0), .any, [⟨8, 0x904, 48, 8, 0, 0, 48⟩, ⟨9, 0x904, 16, 8, 0, 48, 16⟩, ⟨0xb, 0x904, 12, 8, 0, 64, 12⟩, ⟨0xd, 0x904, 16, 8, 0, 76, 16⟩, ⟨0xa, 0x904, 12, 8, 0, 92, 12⟩, ⟨0xc, 0x904, 1, 8, 0, 104, 1⟩]⟩
def LH_LHR1_HOLDLEFT : Field := ⟨91, 8, 8, .ro, (fun _ => 0), .any, [⟨8, 0x904, 48, 8, 0, 0, 48⟩, ⟨9, 0x904, 16, 8, 0, 48, 16⟩, ⟨0xb, 0x904, 12, 8, 0, 64, 12⟩, ⟨0xd, 0x904, 16, 8, 0, 76, 16⟩, ⟨0xa, 0x904, 12, 8, 0, 92, 12⟩, ⟨0xc, 0x904, 1, 8, 0, 104, 1⟩]⟩
/-! ### R280 -/
def LIMP_STAT_ACTIVE : Field := ⟨92, 0, 1, .ro, (fun _ => 0), .any, [⟨8, 0xd00, 1, 0, 0, 0, 1⟩]⟩
def LIMP_STAT_CAUSE : Field := ⟨93, 1, 2, .ro, (fun _ => 0), .any, [⟨8, 0xd00, 1, 0, 0, 0, 1⟩]⟩
def LIMP_STAT_HBLOSS : Field := ⟨94, 3, 3, .ro, (fun _ => 0), .any, [⟨8, 0xd00, 1, 0, 0, 0, 1⟩]⟩
def LIMP_STAT_LH : Field := ⟨95, 8, 8, .ro, (fun _ => 0), .any, [⟨8, 0xd00, 1, 0, 0, 0, 1⟩]⟩
def LIMP_STAT_LIMPN : Field := ⟨96, 16, 1, .ro, (fun _ => 0), .any, [⟨8, 0xd00, 1, 0, 0, 0, 1⟩]⟩
def LIMP_STAT_LIMPCNT : Field := ⟨97, 24, 8, .rc, (fun _ => 0), .any, [⟨8, 0xd00, 1, 0, 0, 0, 1⟩]⟩
def LIMP_CTL_RELEASE : Field := ⟨98, 0, 1, .wo, (fun _ => 0), .any, [⟨8, 0xd04, 1, 0, 0, 0, 1⟩]⟩
def HOLD_STAT_HOLDCNT : Field := ⟨99, 0, 16, .rc, (fun _ => 0), .any, [⟨8, 0xd08, 1, 0, 0, 0, 1⟩]⟩
def HOLD_STAT_ORPHCNT : Field := ⟨100, 16, 16, .rc, (fun _ => 0), .any, [⟨8, 0xd08, 1, 0, 0, 0, 1⟩]⟩
/-! ### R323 -/
def ARB_CFG_RSVMODE : Field := ⟨101, 0, 2, .rw, (fun _ => 1), .any, [⟨0xe, 0, 1, 0, 0, 0, 1⟩]⟩
def ARB_CFG_PREEMPT : Field := ⟨102, 4, 1, .rw, (fun _ => 1), .any, [⟨0xe, 0, 1, 0, 0, 0, 1⟩]⟩
def ARB_CFG_RSVPCT : Field := ⟨103, 8, 5, .rw, (fun _ => 0xa), (.range 0 25), [⟨0xe, 0, 1, 0, 0, 0, 1⟩]⟩
def ARB_DEFLAT01_DL0 : Field := ⟨104, 0, 16, .rw, (fun _ => 0x64), (.range 1 65535), [⟨0xe, 4, 1, 0, 0, 0, 1⟩]⟩
def ARB_DEFLAT01_DL1 : Field := ⟨105, 16, 16, .rw, (fun _ => 0x3e8), (.range 1 65535), [⟨0xe, 4, 1, 0, 0, 0, 1⟩]⟩
def ARB_DEFLAT23_DL2 : Field := ⟨106, 0, 16, .rw, (fun _ => 0x2710), (.range 1 65535), [⟨0xe, 8, 1, 0, 0, 0, 1⟩]⟩
def ARB_DEFLAT23_DL3 : Field := ⟨107, 16, 16, .rw, (fun _ => 0xffff), (.range 1 65535), [⟨0xe, 8, 1, 0, 0, 0, 1⟩]⟩
def ARB_UV_VS_UV0 : Field := ⟨108, 0, 8, .rw, (fun _ => 0x18), .dep, [⟨0xe, 0x10, 6, 4, 0, 0, 6⟩]⟩
def ARB_UV_VS_UV : Field := ⟨109, 8, 8, .rw, (fun _ => 0x20), .dep, [⟨0xe, 0x10, 6, 4, 0, 0, 6⟩]⟩
def ARB_UV_VS_DIM : Field := ⟨110, 16, 8, .rw, (fun _ => 0x2a), (.range 28 232), [⟨0xe, 0x10, 6, 4, 0, 0, 6⟩]⟩
def ARB_UV_HYS : Field := ⟨111, 24, 4, .rw, (fun _ => 2), (.range 1 15), [⟨0xe, 0x10, 6, 4, 0, 0, 6⟩]⟩
def ARB_GRPSTAT_CUT : Field := ⟨112, 0, 6, .ro, (fun _ => 0), .any, [⟨0xe, 0x30, 1, 0, 0, 0, 1⟩]⟩
def ARB_GRPSTAT_CUT0 : Field := ⟨113, 8, 6, .ro, (fun _ => 0), .any, [⟨0xe, 0x30, 1, 0, 0, 0, 1⟩]⟩
def ARB_GRPSTAT_DIM : Field := ⟨114, 16, 6, .ro, (fun _ => 0), .any, [⟨0xe, 0x30, 1, 0, 0, 0, 1⟩]⟩
def ARB_GRPSTAT_CUTCNT : Field := ⟨115, 24, 8, .rc, (fun _ => 0), .any, [⟨0xe, 0x30, 1, 0, 0, 0, 1⟩]⟩
def ARB_GRPSTAT_CUTB : Field := ⟨116, 6, 1, .ro, (fun _ => 0), .any, [⟨0xe, 0x30, 1, 0, 0, 0, 1⟩]⟩
def ARB_GRPSTAT_CUT0B : Field := ⟨117, 14, 1, .ro, (fun _ => 0), .any, [⟨0xe, 0x30, 1, 0, 0, 0, 1⟩]⟩
def ARB_DIMK_K5 : Field := ⟨118, 0, 8, .ro, (fun _ => 0xff), .any, [⟨0xe, 0x34, 1, 0, 0, 0, 1⟩]⟩
def ARB_DIMK_K6 : Field := ⟨119, 8, 8, .ro, (fun _ => 0xff), .any, [⟨0xe, 0x34, 1, 0, 0, 0, 1⟩]⟩
def ARB_PEND_PEND : Field := ⟨120, 0, 13, .ro, (fun _ => 0), .any, [⟨0xe, 0x38, 1, 0, 0, 0, 1⟩]⟩
def ARB_CNT_DEFCNT : Field := ⟨121, 0, 16, .rc, (fun _ => 0), .any, [⟨0xe, 0x3c, 1, 0, 0, 0, 1⟩]⟩
def ARB_CNT_REFCNT : Field := ⟨122, 16, 16, .rc, (fun _ => 0), .any, [⟨0xe, 0x3c, 1, 0, 0, 0, 1⟩]⟩
def ARB_CNT2_SHEDCNT : Field := ⟨123, 0, 16, .rc, (fun _ => 0), .any, [⟨0xe, 0x40, 1, 0, 0, 0, 1⟩]⟩
def ARB_CNT2_POLCNT : Field := ⟨124, 16, 16, .rc, (fun _ => 0), .any, [⟨0xe, 0x40, 1, 0, 0, 0, 1⟩]⟩
def ARB_USE_USED : Field := ⟨125, 0, 16, .ro, (fun _ => 0), .any, [⟨0xe, 0x80, 14, 4, 0, 0, 14⟩]⟩
def ARB_USE_LIMIT : Field := ⟨126, 16, 16, .ro, (fun i => ([0x0FA0, 0x0708, 0x04B0, 0x0640, 0x1770, 0x1770, 0x1770, 0x1770, 0x1770, 0x1770, 0x3A98, 0x1770, 0x2710, 0] : List Nat).getD i 0), .any, [⟨0xe, 0x80, 14, 4, 0, 0, 14⟩]⟩
def ARB_RSV_RSV : Field := ⟨127, 0, 16, .ro, (fun _ => 0), .any, [⟨0xe, 0xc0, 14, 4, 0, 0, 14⟩]⟩
def ARB_RSV_PEAK : Field := ⟨128, 16, 16, .rc, (fun _ => 0), .any, [⟨0xe, 0xc0, 14, 4, 0, 0, 14⟩]⟩
def ARB_LOGCNT_NEXT : Field := ⟨129, 0, 5, .ro, (fun _ => 0), .any, [⟨0xe, 0x100, 1, 0, 0, 0, 1⟩]⟩
def ARB_LOGCNT_TOTAL : Field := ⟨130, 16, 16, .ro, (fun _ => 0), .any, [⟨0xe, 0x100, 1, 0, 0, 0, 1⟩]⟩
/-! ### R376 -/
def LD_CFG0_ISET : Field := ⟨131, 0, 11, .rw, (fun _ => 0x64), (.range 20 2000), [⟨0xb, 0, 12, 0x40, 0, 0, 12⟩]⟩
def LD_CFG0_FSW : Field := ⟨132, 16, 8, .rw, (fun _ => 0x64), (.range 40 220), [⟨0xb, 0, 12, 0x40, 0, 0, 12⟩]⟩
def LD_CFG0_SWPH : Field := ⟨133, 24, 4, .rw, (fun _ => 0), .any, [⟨0xb, 0, 12, 0x40, 0, 0, 12⟩]⟩
def LD_CFG1_DPER : Field := ⟨134, 0, 12, .rw, (fun _ => 0xc8), (.range 100 2000), [⟨0xb, 4, 12, 0x40, 0, 0, 12⟩]⟩
def LD_CFG1_PHASE : Field := ⟨135, 16, 8, .rw, (fun _ => 0), .any, [⟨0xb, 4, 12, 0x40, 0, 0, 12⟩]⟩
def LD_CFG1_HYB : Field := ⟨136, 24, 1, .rw, (fun _ => 0), .any, [⟨0xb, 4, 12, 0x40, 0, 0, 12⟩]⟩
def LD_CFG2_VOVP : Field := ⟨137, 0, 8, .rw, (fun _ => 0x80), (.range 40 224), [⟨0xb, 8, 12, 0x40, 0, 0, 12⟩]⟩
def LD_CFG2_VLO : Field := ⟨138, 8, 8, .rw, (fun _ => 0x20), .dep, [⟨0xb, 8, 12, 0x40, 0, 0, 12⟩]⟩
def LD_CFG2_VSHORT : Field := ⟨139, 16, 8, .rw, (fun _ => 8), (.range 4 60), [⟨0xb, 8, 12, 0x40, 0, 0, 12⟩]⟩
def LD_CFG2_DFRESH : Field := ⟨140, 24, 8, .rw, (fun _ => 0xa), (.range 1 255), [⟨0xb, 8, 12, 0x40, 0, 0, 12⟩]⟩
def LD_CFG3_ISOLO : Field := ⟨141, 0, 11, .rw, (fun _ => 0), .dep, [⟨0xb, 0xc, 12, 0x40, 0, 0, 12⟩]⟩
def LD_CFG3_TSRC : Field := ⟨142, 12, 2, .rw, (fun _ => 2), .any, [⟨0xb, 0xc, 12, 0x40, 0, 0, 12⟩]⟩
def LD_CFG3_TNTC : Field := ⟨143, 16, 4, .rw, (fun _ => 0), (.range 0 11), [⟨0xb, 0xc, 12, 0x40, 0, 0, 12⟩]⟩
def LD_CFG3_NTCB : Field := ⟨144, 20, 9, .rw, (fun _ => 0x158), (.range 300 450), [⟨0xb, 0xc, 12, 0x40, 0, 0, 12⟩]⟩
def LD_OUT_DUTY : Field := ⟨145, 0, 16, .ro, (fun _ => 0), .any, [⟨0xb, 0x10, 12, 0x40, 0, 0, 12⟩]⟩
def LD_OUT_DEFF : Field := ⟨146, 16, 16, .ro, (fun _ => 0), .any, [⟨0xb, 0x10, 12, 0x40, 0, 0, 12⟩]⟩
def LD_STAT_STATE : Field := ⟨147, 0, 3, .ro, (fun _ => 0), .any, [⟨0xb, 0x14, 12, 0x40, 0, 0, 12⟩]⟩
def LD_STAT_CAUSE : Field := ⟨148, 4, 4, .ro, (fun _ => 0), .any, [⟨0xb, 0x14, 12, 0x40, 0, 0, 12⟩]⟩
def LD_STAT_VERDICT : Field := ⟨149, 8, 4, .ro, (fun _ => 0), .any, [⟨0xb, 0x14, 12, 0x40, 0, 0, 12⟩]⟩
def LD_STAT_HEADROOM : Field := ⟨150, 12, 1, .ro, (fun _ => 0), .any, [⟨0xb, 0x14, 12, 0x40, 0, 0, 12⟩]⟩
def LD_STAT_NTCFAULT : Field := ⟨151, 13, 1, .ro, (fun _ => 0), .any, [⟨0xb, 0x14, 12, 0x40, 0, 0, 12⟩]⟩
def LD_STAT_SOLO : Field := ⟨152, 14, 1, .ro, (fun _ => 0), .any, [⟨0xb, 0x14, 12, 0x40, 0, 0, 12⟩]⟩
def LD_STAT_FAULT : Field := ⟨153, 15, 1, .w1c, (fun _ => 0), .any, [⟨0xb, 0x14, 12, 0x40, 0, 0, 12⟩]⟩
def LD_STAT_AGE : Field := ⟨154, 16, 8, .ro, (fun _ => 0xff), .any, [⟨0xb, 0x14, 12, 0x40, 0, 0, 12⟩]⟩
def LD_MEAS_IMEAS : Field := ⟨155, 0, 11, .ro, (fun _ => 0), .any, [⟨0xb, 0x18, 12, 0x40, 0, 0, 12⟩]⟩
def LD_MEAS_VSTR : Field := ⟨156, 16, 12, .ro, (fun _ => 0), .any, [⟨0xb, 0x18, 12, 0x40, 0, 0, 12⟩]⟩
def LD_TEMP_TS : Field := ⟨157, 0, 8, .ro, (fun _ => 0), .any, [⟨0xb, 0x1c, 12, 0x40, 0, 0, 12⟩]⟩
def LD_TEMP_GAPP : Field := ⟨158, 16, 16, .ro, (fun _ => 0x1000), .any, [⟨0xb, 0x1c, 12, 0x40, 0, 0, 12⟩]⟩
/-! ### R377 -/
def LD_GCFG_SPREAD : Field := ⟨159, 0, 2, .rw, (fun _ => 2), .any, [⟨0xb, 0xc00, 1, 0, 0, 0, 1⟩]⟩
def LD_GCFG_SWAUTO : Field := ⟨160, 2, 1, .rw, (fun _ => 1), .any, [⟨0xb, 0xc00, 1, 0, 0, 0, 1⟩]⟩
def LD_TCCOMMIT : Field := ⟨161, 0, 12, .wo, (fun _ => 0), .any, [⟨0xb, 0xc04, 1, 0, 0, 0, 1⟩]⟩
def LD_LATCH : Field := ⟨162, 0, 12, .ro, (fun _ => 0), .any, [⟨0xb, 0xc08, 1, 0, 0, 0, 1⟩]⟩
/-! ### R378 -/
def MX_CFG0_ICOL : Field := ⟨163, 0, 6, .rw, (fun _ => 0x14), (.range 1 60), [⟨0xc, 0, 1, 0, 0, 0, 1⟩]⟩
def MX_CFG0_NROWSM1 : Field := ⟨164, 8, 3, .rw, (fun _ => 7), .any, [⟨0xc, 0, 1, 0, 0, 0, 1⟩]⟩
def MX_CFG0_LINE : Field := ⟨165, 12, 7, .rw, (fun _ => 0x64), (.range 40 104), [⟨0xc, 0, 1, 0, 0, 0, 1⟩]⟩
def MX_CFG0_BLANK : Field := ⟨166, 19, 5, .rw, (fun _ => 2), .dep, [⟨0xc, 0, 1, 0, 0, 0, 1⟩]⟩
def MX_CFG0_SUPSRC : Field := ⟨167, 24, 1, .rw, (fun _ => 0), .dep, [⟨0xc, 0, 1, 0, 0, 0, 1⟩]⟩
def MX_CFG1_VMX : Field := ⟨168, 0, 7, .rw, (fun _ => 0x32), (.range 30 120), [⟨0xc, 4, 1, 0, 0, 0, 1⟩]⟩
def MX_CFG1_MXFRESH : Field := ⟨169, 8, 8, .rw, (fun _ => 0xa), (.range 1 255), [⟨0xc, 4, 1, 0, 0, 0, 1⟩]⟩
def MX_CFG1_COLEN : Field := ⟨170, 16, 16, .rw, (fun _ => 0xffff), .any, [⟨0xc, 4, 1, 0, 0, 0, 1⟩]⟩
def MX_STAT_STATE : Field := ⟨171, 0, 2, .ro, (fun _ => 0), .any, [⟨0xc, 0xc, 1, 0, 0, 0, 1⟩]⟩
def MX_STAT_SWAPPEND : Field := ⟨172, 2, 1, .ro, (fun _ => 0), .any, [⟨0xc, 0xc, 1, 0, 0, 0, 1⟩]⟩
def MX_STAT_VERDICT : Field := ⟨173, 4, 4, .ro, (fun _ => 0), .any, [⟨0xc, 0xc, 1, 0, 0, 0, 1⟩]⟩
def MX_STAT_FAULT : Field := ⟨174, 8, 1, .w1c, (fun _ => 0), .any, [⟨0xc, 0xc, 1, 0, 0, 0, 1⟩]⟩
def MX_STAT_FRAMES : Field := ⟨175, 16, 16, .ro, (fun _ => 0), .any, [⟨0xc, 0xc, 1, 0, 0, 0, 1⟩]⟩
/-! ### R431 -/
def SV_CFG0_IBST : Field := ⟨176, 0, 8, .rw, (fun _ => 0x14), (.range 10 160), [⟨0xd, 0, 16, 0x40, 0, 0, 16⟩]⟩
def SV_CFG0_IPK : Field := ⟨177, 8, 8, .rw, (fun _ => 0x20), (.range 8 240), [⟨0xd, 0, 16, 0x40, 0, 0, 16⟩]⟩
def SV_CFG0_IHOLD : Field := ⟨178, 16, 9, .rw, (fun _ => 0x1e), .dep, [⟨0xd, 0, 16, 0x40, 0, 0, 16⟩]⟩
def SV_CFG1_TBST : Field := ⟨179, 0, 10, .rw, (fun _ => 0x64), (.range 1 1000), [⟨0xd, 4, 16, 0x40, 0, 0, 16⟩]⟩
def SV_CFG1_TPK : Field := ⟨180, 16, 10, .rw, (fun _ => 0x64), (.range 0 1000), [⟨0xd, 4, 16, 0x40, 0, 0, 16⟩]⟩
def SV_CFG2_FHOLD : Field := ⟨181, 0, 6, .rw, (fun _ => 0x14), (.range 10 40), [⟨0xd, 8, 16, 0x40, 0, 0, 16⟩]⟩
def SV_CFG2_BNRPOL : Field := ⟨182, 8, 2, .rw, (fun _ => 0), (.above 2 2), [⟨0xd, 8, 16, 0x40, 0, 0, 16⟩]⟩
def SV_CFG2_TBNR : Field := ⟨183, 16, 8, .rw, (fun _ => 0xa), (.range 1 255), [⟨0xd, 8, 16, 0x40, 0, 0, 16⟩]⟩
def SV_CFG2_STUCKPOL : Field := ⟨184, 24, 1, .rw, (fun _ => 0), .any, [⟨0xd, 8, 16, 0x40, 0, 0, 16⟩]⟩
def SV_CFG2_RECOV : Field := ⟨185, 25, 1, .rw, (fun _ => 1), .any, [⟨0xd, 8, 16, 0x40, 0, 0, 16⟩]⟩
def SV_CFG3_FWLO : Field := ⟨186, 0, 10, .rw, (fun _ => 0x14), (.range 0 1022), [⟨0xd, 0xc, 16, 0x40, 0, 0, 16⟩]⟩
def SV_CFG3_FWHI : Field := ⟨187, 16, 10, .rw, (fun _ => 0xc8), .dep, [⟨0xd, 0xc, 16, 0x40, 0, 0, 16⟩]⟩
def SV_CFG4_DIPTH : Field := ⟨188, 0, 8, .rw, (fun _ => 8), (.range 1 255), [⟨0xd, 0x10, 16, 0x40, 0, 0, 16⟩]⟩
def SV_CFG4_WPCT : Field := ⟨189, 8, 6, .rw, (fun _ => 0x14), (.range 5 50), [⟨0xd, 0x10, 16, 0x40, 0, 0, 16⟩]⟩
def SV_CFG4_DFRESH : Field := ⟨190, 16, 8, .rw, (fun _ => 0xa), (.range 1 255), [⟨0xd, 0x10, 16, 0x40, 0, 0, 16⟩]⟩
def SV_CFG4_OFFTEST : Field := ⟨191, 24, 1, .rw, (fun _ => 0), .any, [⟨0xd, 0x10, 16, 0x40, 0, 0, 16⟩]⟩
def SV_CFG5_EINIT : Field := ⟨192, 0, 10, .rw, (fun _ => 0x32), (.range 1 1000), [⟨0xd, 0x14, 16, 0x40, 0, 0, 16⟩]⟩
def SV_STAT_STATE : Field := ⟨193, 0, 4, .ro, (fun _ => 0), .any, [⟨0xd, 0x18, 16, 0x40, 0, 0, 16⟩]⟩
def SV_STAT_CAUSE : Field := ⟨194, 4, 4, .ro, (fun _ => 0), .any, [⟨0xd, 0x18, 16, 0x40, 0, 0, 16⟩]⟩
def SV_STAT_VERDICT : Field := ⟨195, 8, 4, .ro, (fun _ => 0), .any, [⟨0xd, 0x18, 16, 0x40, 0, 0, 16⟩]⟩
def SV_STAT_ARM : Field := ⟨196, 12, 2, .ro, (fun _ => 0), .any, [⟨0xd, 0x18, 16, 0x40, 0, 0, 16⟩]⟩
def SV_STAT_LEARNED : Field := ⟨197, 14, 1, .ro, (fun _ => 0), .any, [⟨0xd, 0x18, 16, 0x40, 0, 0, 16⟩]⟩
def SV_STAT_FAULT : Field := ⟨198, 15, 1, .w1c, (fun _ => 0), .any, [⟨0xd, 0x18, 16, 0x40, 0, 0, 16⟩]⟩
def SV_STAT_NOBOOST : Field := ⟨199, 16, 1, .ro, (fun _ => 0), .any, [⟨0xd, 0x18, 16, 0x40, 0, 0, 16⟩]⟩
def SV_STAT_AGE : Field := ⟨200, 24, 8, .ro, (fun _ => 0xff), .any, [⟨0xd, 0x18, 16, 0x40, 0, 0, 16⟩]⟩
def SV_MEAS_IMEAS : Field := ⟨201, 0, 16, .ro, (fun _ => 0), .any, [⟨0xd, 0x1c, 16, 0x40, 0, 0, 16⟩]⟩
def SV_MEAS_TLRN : Field := ⟨202, 16, 16, .ro, (fun _ => 0), .any, [⟨0xd, 0x1c, 16, 0x40, 0, 0, 16⟩]⟩
def SV_ACT0_TDET : Field := ⟨203, 0, 16, .ro, (fun _ => 0xffff), .any, [⟨0xd, 0x20, 16, 0x40, 0, 0, 16⟩]⟩
def SV_ACT0_TIBST : Field := ⟨204, 16, 16, .ro, (fun _ => 0xffff), .any, [⟨0xd, 0x20, 16, 0x40, 0, 0, 16⟩]⟩
def SV_ACT1_EBST : Field := ⟨205, 0, 16, .ro, (fun _ => 0), .any, [⟨0xd, 0x24, 16, 0x40, 0, 0, 16⟩]⟩
def SV_ACT1_EREC : Field := ⟨206, 16, 16, .ro, (fun _ => 0), .any, [⟨0xd, 0x24, 16, 0x40, 0, 0, 16⟩]⟩
def SV_ACT2_VBST0 : Field := ⟨207, 0, 16, .ro, (fun _ => 0), .any, [⟨0xd, 0x28, 16, 0x40, 0, 0, 16⟩]⟩
def SV_ACT2_ACC : Field := ⟨208, 16, 16, .ro, (fun _ => 0x96), .any, [⟨0xd, 0x28, 16, 0x40, 0, 0, 16⟩]⟩
def SV_ACT3_EREM : Field := ⟨209, 0, 16, .ro, (fun _ => 0x1f4), .any, [⟨0xd, 0x2c, 16, 0x40, 0, 0, 16⟩]⟩
/-! ### R432 -/
def BST_CFG_VSET : Field := ⟨210, 0, 8, .rw, (fun _ => 0x50), (.range 60 130), [⟨0xd, 0xc00, 1, 0, 0, 0, 1⟩]⟩
def BST_CFG_CBST : Field := ⟨211, 8, 8, .rw, (fun _ => 0x64), (.range 47 220), [⟨0xd, 0xc00, 1, 0, 0, 0, 1⟩]⟩
def BST_CFG_PCH : Field := ⟨212, 16, 8, .rw, (fun _ => 0x14), (.range 2 60), [⟨0xd, 0xc00, 1, 0, 0, 0, 1⟩]⟩
def BST_CFG1_VFLOOR : Field := ⟨213, 0, 8, .rw, (fun _ => 0x3c), .dep, [⟨0xd, 0xc04, 1, 0, 0, 0, 1⟩]⟩
def BST_STAT_VBST : Field := ⟨214, 0, 16, .ro, (fun _ => 0), .any, [⟨0xd, 0xc08, 1, 0, 0, 0, 1⟩]⟩
def BST_STAT_STATE : Field := ⟨215, 16, 3, .ro, (fun _ => 0), .any, [⟨0xd, 0xc08, 1, 0, 0, 0, 1⟩]⟩
def BST_STAT_HEADROOM : Field := ⟨216, 19, 1, .ro, (fun _ => 0), .any, [⟨0xd, 0xc08, 1, 0, 0, 0, 1⟩]⟩
def BST_STAT_FAULT : Field := ⟨217, 20, 1, .w1c, (fun _ => 0), .any, [⟨0xd, 0xc08, 1, 0, 0, 0, 1⟩]⟩
def BST_STAT_CAUSE : Field := ⟨218, 21, 3, .ro, (fun _ => 0), .any, [⟨0xd, 0xc08, 1, 0, 0, 0, 1⟩]⟩
def BST_EN_DEFICIT : Field := ⟨219, 0, 16, .ro, (fun _ => 0x320), .any, [⟨0xd, 0xc0c, 1, 0, 0, 0, 1⟩]⟩
def BST_EN_ELIM : Field := ⟨220, 16, 16, .ro, (fun _ => 0x15e), .any, [⟨0xd, 0xc0c, 1, 0, 0, 0, 1⟩]⟩
def SV_BANK_BOOSTING : Field := ⟨221, 0, 7, .ro, (fun _ => 0), .any, [⟨0xd, 0xc10, 1, 0, 0, 0, 1⟩]⟩
def SV_BANK_BLATCH : Field := ⟨222, 8, 7, .ro, (fun _ => 0), .any, [⟨0xd, 0xc10, 1, 0, 0, 0, 1⟩]⟩
def SV_BANK_BKDEF : Field := ⟨223, 16, 16, .rc, (fun _ => 0), .any, [⟨0xd, 0xc10, 1, 0, 0, 0, 1⟩]⟩
def SV_LATCH : Field := ⟨224, 0, 16, .ro, (fun _ => 0), .any, [⟨0xd, 0xc14, 1, 0, 0, 0, 1⟩]⟩
/-! ### R464 -/
def HB_CFG0_MODE : Field := ⟨225, 0, 2, .rw, (fun _ => 0), .dep, [⟨0xa, 0, 12, 0x40, 0, 0, 12⟩]⟩
def HB_CFG0_DECAY : Field := ⟨226, 4, 1, .rw, (fun _ => 0), .any, [⟨0xa, 0, 12, 0x40, 0, 0, 12⟩]⟩
def HB_CFG0_STOPMODE : Field := ⟨227, 5, 2, .rw, (fun _ => 0), (.above 2 0), [⟨0xa, 0, 12, 0x40, 0, 0, 12⟩]⟩
def HB_CFG0_PWMF : Field := ⟨228, 8, 8, .rw, (fun _ => 0x64), (.range 10 200), [⟨0xa, 0, 12, 0x40, 0, 0, 12⟩]⟩
def HB_CFG0_DT : Field := ⟨229, 16, 5, .rw, (fun _ => 0xa), (.range 2 40), [⟨0xa, 0, 12, 0x40, 0, 0, 12⟩]⟩
def HB_CFG0_ILIM : Field := ⟨230, 24, 8, .rw, (fun _ => 0x50), (.range 20 160), [⟨0xa, 0, 12, 0x40, 0, 0, 12⟩]⟩
def HB_CFG1_TRAMP : Field := ⟨231, 0, 8, .rw, (fun _ => 5), (.range 0 50), [⟨0xa, 4, 12, 0x40, 0, 0, 12⟩]⟩
def HB_CFG1_TREV : Field := ⟨232, 8, 8, .rw, (fun _ => 0x14), .any, [⟨0xa, 4, 12, 0x40, 0, 0, 12⟩]⟩
def HB_CFG1_TSTALL : Field := ⟨233, 16, 8, .rw, (fun _ => 0x32), (.range 5 255), [⟨0xa, 4, 12, 0x40, 0, 0, 12⟩]⟩
def HB_CFG1_ISTALL : Field := ⟨234, 24, 8, .rw, (fun _ => 0x40), .dep, [⟨0xa, 4, 12, 0x40, 0, 0, 12⟩]⟩
def HB_CFG2_RIPTH : Field := ⟨235, 0, 8, .rw, (fun _ => 8), (.range 1 255), [⟨0xa, 8, 12, 0x40, 0, 0, 12⟩]⟩
def HB_CFG2_TMAX : Field := ⟨236, 8, 8, .rw, (fun _ => 0x64), (.range 1 255), [⟨0xa, 8, 12, 0x40, 0, 0, 12⟩]⟩
def HB_CFG2_PARKSW : Field := ⟨237, 16, 6, .rw, (fun _ => 0), .any, [⟨0xa, 8, 12, 0x40, 0, 0, 12⟩]⟩
def HB_CFG2_PARKEN : Field := ⟨238, 22, 1, .rw, (fun _ => 0), .any, [⟨0xa, 8, 12, 0x40, 0, 0, 12⟩]⟩
def HB_CFG2_PARKLVL : Field := ⟨239, 23, 1, .rw, (fun _ => 0), .any, [⟨0xa, 8, 12, 0x40, 0, 0, 12⟩]⟩
def HB_CFG2_LDIR : Field := ⟨240, 24, 1, .rw, (fun _ => 0), .any, [⟨0xa, 8, 12, 0x40, 0, 0, 12⟩]⟩
def HB_CFG3_TRAPTH : Field := ⟨241, 0, 8, .rw, (fun _ => 0), .any, [⟨0xa, 0xc, 12, 0x40, 0, 0, 12⟩]⟩
def HB_CFG3_REVCNT : Field := ⟨242, 8, 8, .rw, (fun _ => 0), .any, [⟨0xa, 0xc, 12, 0x40, 0, 0, 12⟩]⟩
def HB_CFG3_DFRESH : Field := ⟨243, 16, 8, .rw, (fun _ => 0xa), (.range 1 255), [⟨0xa, 0xc, 12, 0x40, 0, 0, 12⟩]⟩
def HB_CFG3_TRAPDIR : Field := ⟨244, 24, 1, .rw, (fun _ => 0), .any, [⟨0xa, 0xc, 12, 0x40, 0, 0, 12⟩]⟩
def HB_CFG4_TZLO : Field := ⟨245, 0, 16, .rw, (fun _ => 0), .any, [⟨0xa, 0x10, 12, 0x40, 0, 0, 12⟩]⟩
def HB_CFG4_TZHI : Field := ⟨246, 16, 16, .rw, (fun _ => 0), .any, [⟨0xa, 0x10, 12, 0x40, 0, 0, 12⟩]⟩
def HB_OUT_DUTY : Field := ⟨247, 0, 16, .ro, (fun _ => 0), .any, [⟨0xa, 0x14, 12, 0x40, 0, 0, 12⟩]⟩
def HB_OUT_DEFF : Field := ⟨248, 16, 16, .ro, (fun _ => 0), .any, [⟨0xa, 0x14, 12, 0x40, 0, 0, 12⟩]⟩
def HB_STAT_STATE : Field := ⟨249, 0, 4, .ro, (fun _ => 0), .any, [⟨0xa, 0x18, 12, 0x40, 0, 0, 12⟩]⟩
def HB_STAT_CAUSE : Field := ⟨250, 4, 4, .ro, (fun _ => 0), .any, [⟨0xa, 0x18, 12, 0x40, 0, 0, 12⟩]⟩
def HB_STAT_VERDICT : Field := ⟨251, 8, 4, .ro, (fun _ => 0), .any, [⟨0xa, 0x18, 12, 0x40, 0, 0, 12⟩]⟩
def HB_STAT_DIR : Field := ⟨252, 12, 1, .ro, (fun _ => 0), .any, [⟨0xa, 0x18, 12, 0x40, 0, 0, 12⟩]⟩
def HB_STAT_POSVALID : Field := ⟨253, 13, 1, .ro, (fun _ => 0), .any, [⟨0xa, 0x18, 12, 0x40, 0, 0, 12⟩]⟩
def HB_STAT_INLIMIT : Field := ⟨254, 14, 1, .ro, (fun _ => 0), .any, [⟨0xa, 0x18, 12, 0x40, 0, 0, 12⟩]⟩
def HB_STAT_FAULT : Field := ⟨255, 15, 1, .w1c, (fun _ => 0), .any, [⟨0xa, 0x18, 12, 0x40, 0, 0, 12⟩]⟩
def HB_STAT_AGE : Field := ⟨256, 16, 8, .ro, (fun _ => 0xff), .any, [⟨0xa, 0x18, 12, 0x40, 0, 0, 12⟩]⟩
def HB_MEAS_IMEAS : Field := ⟨257, 0, 16, .ro, (fun _ => 0), .any, [⟨0xa, 0x1c, 12, 0x40, 0, 0, 12⟩]⟩
def HB_MEAS_RIPRATE : Field := ⟨258, 16, 16, .ro, (fun _ => 0), .any, [⟨0xa, 0x1c, 12, 0x40, 0, 0, 12⟩]⟩
def HB_POS_POS : Field := ⟨259, 0, 16, .ro, (fun _ => 0), .any, [⟨0xa, 0x20, 12, 0x40, 0, 0, 12⟩]⟩
def HB_POS_TARGET : Field := ⟨260, 16, 16, .ro, (fun _ => 0), .any, [⟨0xa, 0x20, 12, 0x40, 0, 0, 12⟩]⟩
/-! ### R496 -/
def LP_CFG0_KIND : Field := ⟨261, 0, 4, .rw, (fun _ => 0), (.above 5 0), [⟨0x10, 0, 48, 0x40, 0, 0, 48⟩]⟩
def LP_CFG0_FBSRC : Field := ⟨262, 4, 3, .rw, (fun _ => 0), (.above 3 0), [⟨0x10, 0, 48, 0x40, 0, 0, 48⟩]⟩
def LP_CFG0_FBIDX : Field := ⟨263, 8, 4, .rw, (fun _ => 0), (.range 0 11), [⟨0x10, 0, 48, 0x40, 0, 0, 48⟩]⟩
def LP_CFG0_FBMISS : Field := ⟨264, 12, 4, .rw, (fun _ => 3), .any, [⟨0x10, 0, 48, 0x40, 0, 0, 48⟩]⟩
def LP_CFG0_OBJECT : Field := ⟨265, 16, 16, .rw, (fun _ => 0xffff), .any, [⟨0x10, 0, 48, 0x40, 0, 0, 48⟩]⟩
def LP_CFG1_PERIOD : Field := ⟨266, 0, 14, .rw, (fun _ => 0x3e8), (.range 20 10000), [⟨0x10, 4, 48, 0x40, 0, 0, 48⟩]⟩
def LP_CFG1_DEN : Field := ⟨267, 14, 1, .rw, (fun _ => 0), .any, [⟨0x10, 4, 48, 0x40, 0, 0, 48⟩]⟩
def LP_CFG1_POL : Field := ⟨268, 16, 2, .rw, (fun _ => 0), (.above 2 2), [⟨0x10, 4, 48, 0x40, 0, 0, 48⟩]⟩
def LP_CFG1_TSAT : Field := ⟨269, 18, 12, .rw, (fun _ => 0x32), .any, [⟨0x10, 4, 48, 0x40, 0, 0, 48⟩]⟩
def LP_KP : Field := ⟨270, 0, 32, .rw, (fun _ => 0), .any, [⟨0x10, 8, 48, 0x40, 0, 0, 48⟩]⟩
def LP_KI : Field := ⟨271, 0, 32, .rw, (fun _ => 0), .any, [⟨0x10, 0xc, 48, 0x40, 0, 0, 48⟩]⟩
def LP_KD : Field := ⟨272, 0, 32, .rw, (fun _ => 0), .any, [⟨0x10, 0x10, 48, 0x40, 0, 0, 48⟩]⟩
def LP_KF : Field := ⟨273, 0, 32, .rw, (fun _ => 0), .any, [⟨0x10, 0x14, 48, 0x40, 0, 0, 48⟩]⟩
def LP_FOFS : Field := ⟨274, 0, 32, .rw, (fun _ => 0), .any, [⟨0x10, 0x18, 48, 0x40, 0, 0, 48⟩]⟩
def LP_OUTMIN : Field := ⟨275, 0, 32, .rw, (fun _ => 0), .dep, [⟨0x10, 0x1c, 48, 0x40, 0, 0, 48⟩]⟩
def LP_OUTMAX : Field := ⟨276, 0, 32, .rw, (fun _ => 0), .dep, [⟨0x10, 0x20, 48, 0x40, 0, 0, 48⟩]⟩
def LP_OFIX : Field := ⟨277, 0, 32, .rw, (fun _ => 0), .dep, [⟨0x10, 0x24, 48, 0x40, 0, 0, 48⟩]⟩
def LP_RISE : Field := ⟨278, 0, 32, .rw, (fun _ => 0x7fffffff), .dep, [⟨0x10, 0x28, 48, 0x40, 0, 0, 48⟩]⟩
def LP_FALL : Field := ⟨279, 0, 32, .rw, (fun _ => 0x7fffffff), .dep, [⟨0x10, 0x2c, 48, 0x40, 0, 0, 48⟩]⟩
def LP_SP : Field := ⟨280, 0, 32, .rw, (fun _ => 0), .any, [⟨0x10, 0x30, 48, 0x40, 0, 0, 48⟩]⟩
def LP_STAT_STATE : Field := ⟨281, 0, 2, .ro, (fun _ => 0), .any, [⟨0x10, 0x34, 48, 0x40, 0, 0, 48⟩]⟩
def LP_STAT_OUTSAT : Field := ⟨282, 2, 1, .ro, (fun _ => 0), .any, [⟨0x10, 0x34, 48, 0x40, 0, 0, 48⟩]⟩
def LP_STAT_FBVALID : Field := ⟨283, 3, 1, .ro, (fun _ => 0), .any, [⟨0x10, 0x34, 48, 0x40, 0, 0, 48⟩]⟩
def LP_STAT_EVER : Field := ⟨284, 4, 1, .ro, (fun _ => 0), .any, [⟨0x10, 0x34, 48, 0x40, 0, 0, 48⟩]⟩
def LP_STAT_OPENRSN : Field := ⟨285, 8, 4, .ro, (fun _ => 0), .any, [⟨0x10, 0x34, 48, 0x40, 0, 0, 48⟩]⟩
def LP_FB : Field := ⟨286, 0, 32, .ro, (fun _ => 0), .any, [⟨0x10, 0x38, 48, 0x40, 0, 0, 48⟩]⟩
def LP_OUT : Field := ⟨287, 0, 32, .ro, (fun _ => 0), .any, [⟨0x10, 0x3c, 48, 0x40, 0, 0, 48⟩]⟩
/-! ### R497 -/
def LP_SPEFF : Field := ⟨288, 0, 32, .ro, (fun _ => 0), .any, [⟨0x10, 0xc00, 48, 0x10, 0, 0, 48⟩]⟩
def LP_INTEG : Field := ⟨289, 0, 32, .ro, (fun _ => 0), .any, [⟨0x10, 0xc04, 48, 0x10, 0, 0, 48⟩]⟩
def LP_FLAGS : Field := ⟨290, 0, 8, .w1c, (fun _ => 0), .any, [⟨0x10, 0xc08, 48, 0x10, 0, 0, 48⟩]⟩
def LP_FLAGS_OUTLIM : Field := ⟨291, 8, 1, .w1c, (fun _ => 0), .any, [⟨0x10, 0xc08, 48, 0x10, 0, 0, 48⟩]⟩
def LP_FLAGS_SATTO : Field := ⟨292, 9, 1, .w1c, (fun _ => 0), .any, [⟨0x10, 0xc08, 48, 0x10, 0, 0, 48⟩]⟩
def LP_FLAGS_FBLOST : Field := ⟨293, 10, 1, .w1c, (fun _ => 0), .any, [⟨0x10, 0xc08, 48, 0x10, 0, 0, 48⟩]⟩
def LP_FLAGS_SATCNT : Field := ⟨294, 16, 16, .rc, (fun _ => 0), .any, [⟨0x10, 0xc08, 48, 0x10, 0, 0, 48⟩]⟩
def LP_SATT_SATT : Field := ⟨295, 0, 16, .ro, (fun _ => 0), .any, [⟨0x10, 0xc0c, 48, 0x10, 0, 0, 48⟩]⟩
def LP_SATT_MISS : Field := ⟨296, 16, 4, .ro, (fun _ => 0), .any, [⟨0x10, 0xc0c, 48, 0x10, 0, 0, 48⟩]⟩
def LP_ACT0 : Field := ⟨297, 0, 32, .ro, (fun _ => 0), .any, [⟨0x10, 0xf00, 1, 0, 0, 0, 1⟩]⟩
def LP_ACT1 : Field := ⟨298, 0, 16, .ro, (fun _ => 0), .any, [⟨0x10, 0xf04, 1, 0, 0, 0, 1⟩]⟩
def LP_STICKY0 : Field := ⟨299, 0, 32, .ro, (fun _ => 0), .any, [⟨0x10, 0xf08, 1, 0, 0, 0, 1⟩]⟩
def LP_STICKY1 : Field := ⟨300, 0, 16, .ro, (fun _ => 0), .any, [⟨0x10, 0xf0c, 1, 0, 0, 0, 1⟩]⟩
/-! ### R538 -/
def SW_CFG0_WET : Field := ⟨301, 0, 2, .rw, (fun _ => 0), .any, [⟨0x11, 0, 64, 0x10, 0, 0, 64⟩]⟩
def SW_CFG0_PULL : Field := ⟨302, 2, 1, .rw, (fun _ => 0), .any, [⟨0x11, 0, 64, 0x10, 0, 0, 64⟩]⟩
def SW_CFG0_SAMPLED : Field := ⟨303, 3, 1, .rw, (fun _ => 0), .dep, [⟨0x11, 0, 64, 0x10, 0, 0, 64⟩]⟩
def SW_CFG0_THRHI : Field := ⟨304, 8, 8, .rw, (fun _ => 0x1c), (.range 4 160), [⟨0x11, 0, 64, 0x10, 0, 0, 64⟩]⟩
def SW_CFG0_THRLO : Field := ⟨305, 16, 8, .rw, (fun _ => 0x14), .dep, [⟨0x11, 0, 64, 0x10, 0, 0, 64⟩]⟩
def SW_CFG0_DEBN : Field := ⟨306, 24, 4, .rw, (fun _ => 3), .any, [⟨0x11, 0, 64, 0x10, 0, 0, 64⟩]⟩
def SW_CFG1_SPER : Field := ⟨307, 0, 8, .rw, (fun _ => 0xa), .dep, [⟨0x11, 4, 64, 0x10, 0, 0, 64⟩]⟩
def SW_CFG1_WAKE : Field := ⟨308, 8, 2, .rw, (fun _ => 0), (.above 2 2), [⟨0x11, 4, 64, 0x10, 0, 0, 64⟩]⟩
def SW_CFG1_WEDGE : Field := ⟨309, 10, 2, .rw, (fun _ => 0), (.above 2 0), [⟨0x11, 4, 64, 0x10, 0, 0, 64⟩]⟩
def SW_CFG1_EVEN : Field := ⟨310, 12, 1, .rw, (fun _ => 0), .any, [⟨0x11, 4, 64, 0x10, 0, 0, 64⟩]⟩
def SW_CFG1_INV : Field := ⟨311, 13, 1, .rw, (fun _ => 0), .any, [⟨0x11, 4, 64, 0x10, 0, 0, 64⟩]⟩
def SW_CFG1_SWET : Field := ⟨312, 14, 1, .rw, (fun _ => 0), .any, [⟨0x11, 4, 64, 0x10, 0, 0, 64⟩]⟩
def SW_STAT_LEVEL : Field := ⟨313, 0, 1, .ro, (fun _ => 0), .any, [⟨0x11, 8, 64, 0x10, 0, 0, 64⟩]⟩
def SW_STAT_VALID : Field := ⟨314, 1, 1, .ro, (fun _ => 0), .any, [⟨0x11, 8, 64, 0x10, 0, 0, 64⟩]⟩
def SW_STAT_RAW : Field := ⟨315, 2, 1, .ro, (fun _ => 0), .any, [⟨0x11, 8, 64, 0x10, 0, 0, 64⟩]⟩
def SW_STAT_CHG : Field := ⟨316, 16, 16, .rc, (fun _ => 0), .any, [⟨0x11, 8, 64, 0x10, 0, 0, 64⟩]⟩
def SW_MEAS_VIN : Field := ⟨317, 0, 16, .ro, (fun _ => 0), .any, [⟨0x11, 0xc, 64, 0x10, 0, 0, 64⟩]⟩
def SW_LVL0 : Field := ⟨318, 0, 32, .ro, (fun _ => 0), .any, [⟨0x11, 0x800, 1, 0, 0, 0, 1⟩]⟩
def SW_LVL1 : Field := ⟨319, 0, 32, .ro, (fun _ => 0), .any, [⟨0x11, 0x804, 1, 0, 0, 0, 1⟩]⟩
def SW_VALID0 : Field := ⟨320, 0, 32, .ro, (fun _ => 0), .any, [⟨0x11, 0x808, 1, 0, 0, 0, 1⟩]⟩
def SW_VALID1 : Field := ⟨321, 0, 32, .ro, (fun _ => 0), .any, [⟨0x11, 0x80c, 1, 0, 0, 0, 1⟩]⟩
def SW_STOPCFG_PROFILE : Field := ⟨322, 0, 3, .rw, (fun _ => 1), (.above 3 3), [⟨0x11, 0x810, 1, 0, 0, 0, 1⟩]⟩
def SW_STOPCFG_TPOLL : Field := ⟨323, 4, 1, .rw, (fun _ => 0), .any, [⟨0x11, 0x810, 1, 0, 0, 0, 1⟩]⟩
def SW_STOPCFG_WPOLLN : Field := ⟨324, 8, 2, .rw, (fun _ => 0), .any, [⟨0x11, 0x810, 1, 0, 0, 0, 1⟩]⟩
def SW_STOPCFG_TPERC : Field := ⟨325, 16, 16, .rw, (fun _ => 0x14), (.range 1 6000), [⟨0x11, 0x810, 1, 0, 0, 0, 1⟩]⟩
def SW_WAKE0 : Field := ⟨326, 0, 32, .w1c, (fun _ => 0), .any, [⟨0x11, 0x818, 1, 0, 0, 0, 1⟩]⟩
def SW_WAKE1 : Field := ⟨327, 0, 32, .w1c, (fun _ => 0), .any, [⟨0x11, 0x81c, 1, 0, 0, 0, 1⟩]⟩
def SW_WETSUM_SUM : Field := ⟨328, 0, 8, .ro, (fun _ => 0), .any, [⟨0x11, 0x820, 1, 0, 0, 0, 1⟩]⟩
/-! ### R539 -/
def II_CFG0_MODE : Field := ⟨329, 0, 2, .rw, (fun _ => 0), (.above 2 0), [⟨0x12, 0, 16, 0x10, 0, 0, 16⟩]⟩
def II_CFG0_ILIM : Field := ⟨330, 2, 2, .rw, (fun _ => 1), (.above 2 2), [⟨0x12, 0, 16, 0x10, 0, 0, 16⟩]⟩
def II_CFG0_THRHI : Field := ⟨331, 8, 8, .rw, (fun _ => 0x30), (.range 8 160), [⟨0x12, 0, 16, 0x10, 0, 0, 16⟩]⟩
def II_CFG0_THRLO : Field := ⟨332, 16, 8, .rw, (fun _ => 0x20), .dep, [⟨0x12, 0, 16, 0x10, 0, 0, 16⟩]⟩
def II_CFG0_DEBN : Field := ⟨333, 24, 4, .rw, (fun _ => 3), .any, [⟨0x12, 0, 16, 0x10, 0, 0, 16⟩]⟩
def II_CFG0_WBEN : Field := ⟨334, 28, 1, .rw, (fun _ => 0), .any, [⟨0x12, 0, 16, 0x10, 0, 0, 16⟩]⟩
def II_CFG0_EVEN : Field := ⟨335, 29, 1, .rw, (fun _ => 0), .any, [⟨0x12, 0, 16, 0x10, 0, 0, 16⟩]⟩
def II_CFG0_INV : Field := ⟨336, 30, 1, .rw, (fun _ => 0), .any, [⟨0x12, 0, 16, 0x10, 0, 0, 16⟩]⟩
def II_CFG1_SPER : Field := ⟨337, 0, 8, .rw, (fun _ => 0x14), (.range 1 200), [⟨0x12, 4, 16, 0x10, 0, 0, 16⟩]⟩
def II_CFG1_WBTH : Field := ⟨338, 8, 8, .rw, (fun _ => 0x14), .dep, [⟨0x12, 4, 16, 0x10, 0, 0, 16⟩]⟩
def II_CFG1_CNTEDGE : Field := ⟨339, 16, 2, .rw, (fun _ => 0), .any, [⟨0x12, 4, 4, 0x10, 0, 0, 4⟩]⟩
def II_STAT_LEVEL : Field := ⟨340, 0, 1, .ro, (fun _ => 0), .any, [⟨0x12, 8, 16, 0x10, 0, 0, 16⟩]⟩
def II_STAT_VALID : Field := ⟨341, 1, 1, .ro, (fun _ => 0), .any, [⟨0x12, 8, 16, 0x10, 0, 0, 16⟩]⟩
def II_STAT_RAW : Field := ⟨342, 2, 1, .ro, (fun _ => 0), .any, [⟨0x12, 8, 16, 0x10, 0, 0, 16⟩]⟩
def II_STAT_WIREBRK : Field := ⟨343, 3, 1, .ro, (fun _ => 0), .any, [⟨0x12, 8, 16, 0x10, 0, 0, 16⟩]⟩
def II_STAT_CNTRST : Field := ⟨344, 4, 1, .w1c, (fun _ => 0), .any, [⟨0x12, 8, 16, 0x10, 0, 0, 16⟩]⟩
def II_STAT_IIN : Field := ⟨345, 16, 16, .ro, (fun _ => 0), .any, [⟨0x12, 8, 16, 0x10, 0, 0, 16⟩]⟩
def II_CNT_COUNT : Field := ⟨346, 0, 32, .ro, (fun _ => 0), .any, [⟨0x12, 0xc, 16, 0x10, 0, 0, 16⟩]⟩
def IO_CFG_IOL : Field := ⟨347, 0, 7, .rw, (fun _ => 5), (.range 1 100), [⟨0x12, 0x400, 8, 0x10, 0, 0, 8⟩]⟩
def IO_CFG_DFRESH : Field := ⟨348, 8, 8, .rw, (fun _ => 0xa), (.range 1 255), [⟨0x12, 0x400, 8, 0x10, 0, 0, 8⟩]⟩
def IO_STAT_STATE : Field := ⟨349, 0, 3, .ro, (fun _ => 0), .any, [⟨0x12, 0x404, 8, 0x10, 0, 0, 8⟩]⟩
def IO_STAT_CAUSE : Field := ⟨350, 4, 4, .ro, (fun _ => 0), .any, [⟨0x12, 0x404, 8, 0x10, 0, 0, 8⟩]⟩
def IO_STAT_VERDICT : Field := ⟨351, 8, 4, .ro, (fun _ => 0), .any, [⟨0x12, 0x404, 8, 0x10, 0, 0, 8⟩]⟩
def IO_STAT_FAULT : Field := ⟨352, 15, 1, .w1c, (fun _ => 0), .any, [⟨0x12, 0x404, 8, 0x10, 0, 0, 8⟩]⟩
def IO_STAT_IOUT : Field := ⟨353, 16, 16, .ro, (fun _ => 0), .any, [⟨0x12, 0x404, 8, 0x10, 0, 0, 8⟩]⟩
def BAR_STAT_UP : Field := ⟨354, 0, 1, .ro, (fun _ => 0), .any, [⟨0x12, 0x800, 1, 0, 0, 0, 1⟩]⟩
def BAR_STAT_LOST : Field := ⟨355, 8, 1, .w1c, (fun _ => 0), .any, [⟨0x12, 0x800, 1, 0, 0, 0, 1⟩]⟩
def BAR_STAT_LOSSCNT : Field := ⟨356, 16, 16, .rc, (fun _ => 0), .any, [⟨0x12, 0x800, 1, 0, 0, 0, 1⟩]⟩
def BAR_ERR_UPBAD : Field := ⟨357, 0, 16, .rc, (fun _ => 0), .any, [⟨0x12, 0x804, 1, 0, 0, 0, 1⟩]⟩
def BAR_ERR_DNBAD : Field := ⟨358, 16, 16, .rc, (fun _ => 0), .any, [⟨0x12, 0x804, 1, 0, 0, 0, 1⟩]⟩
def BAR_VFLD_VFLD : Field := ⟨359, 0, 16, .ro, (fun _ => 0), .any, [⟨0x12, 0x808, 1, 0, 0, 0, 1⟩]⟩
def BAR_VFLD_VFLDUV : Field := ⟨360, 16, 1, .ro, (fun _ => 0), .any, [⟨0x12, 0x808, 1, 0, 0, 0, 1⟩]⟩
def IO_LATCH : Field := ⟨361, 0, 8, .ro, (fun _ => 0), .any, [⟨0x12, 0x80c, 1, 0, 0, 0, 1⟩]⟩
/-! ### R589 -/
def CAN_CTL_EN : Field := ⟨362, 0, 1, .rw, (fun _ => 0), .dep, [⟨0x14, 0, 4, 0x400, 0, 0, 4⟩, ⟨0x15, 0, 4, 0x400, 0, 4, 4⟩, ⟨0x16, 0, 4, 0x400, 0, 8, 4⟩, ⟨0x17, 0, 4, 0x400, 0, 12, 4⟩]⟩
def CAN_CTL_FMT : Field := ⟨363, 1, 2, .rw, (fun _ => 1), (.above 2 2), [⟨0x14, 0, 4, 0x400, 0, 0, 4⟩, ⟨0x15, 0, 4, 0x400, 0, 4, 4⟩, ⟨0x16, 0, 4, 0x400, 0, 8, 4⟩, ⟨0x17, 0, 4, 0x400, 0, 12, 4⟩]⟩
def CAN_CTL_COLLMAX : Field := ⟨364, 8, 8, .rw, (fun _ => 0x10), .any, [⟨0x14, 0, 4, 0x400, 0, 0, 4⟩, ⟨0x15, 0, 4, 0x400, 0, 4, 4⟩, ⟨0x16, 0, 4, 0x400, 0, 8, 4⟩, ⟨0x17, 0, 4, 0x400, 0, 12, 4⟩]⟩
def CAN_NBT_NBRP : Field := ⟨365, 0, 6, .rw, (fun _ => 1), (.range 1 32), [⟨0x14, 4, 4, 0x400, 0, 0, 4⟩, ⟨0x15, 4, 4, 0x400, 0, 4, 4⟩, ⟨0x16, 4, 4, 0x400, 0, 8, 4⟩, ⟨0x17, 4, 4, 0x400, 0, 12, 4⟩]⟩
def CAN_NBT_NTSEG1 : Field := ⟨366, 8, 8, .rw, (fun _ => 0x7f), (.range 1 255), [⟨0x14, 4, 4, 0x400, 0, 0, 4⟩, ⟨0x15, 4, 4, 0x400, 0, 4, 4⟩, ⟨0x16, 4, 4, 0x400, 0, 8, 4⟩, ⟨0x17, 4, 4, 0x400, 0, 12, 4⟩]⟩
def CAN_NBT_NTSEG2 : Field := ⟨367, 16, 7, .rw, (fun _ => 0x20), (.range 1 127), [⟨0x14, 4, 4, 0x400, 0, 0, 4⟩, ⟨0x15, 4, 4, 0x400, 0, 4, 4⟩, ⟨0x16, 4, 4, 0x400, 0, 8, 4⟩, ⟨0x17, 4, 4, 0x400, 0, 12, 4⟩]⟩
def CAN_NBT_NSJW : Field := ⟨368, 24, 7, .rw, (fun _ => 0x20), .dep, [⟨0x14, 4, 4, 0x400, 0, 0, 4⟩, ⟨0x15, 4, 4, 0x400, 0, 4, 4⟩, ⟨0x16, 4, 4, 0x400, 0, 8, 4⟩, ⟨0x17, 4, 4, 0x400, 0, 12, 4⟩]⟩
def CAN_DBT_DBRP : Field := ⟨369, 0, 6, .rw, (fun _ => 1), (.range 1 32), [⟨0x14, 8, 4, 0x400, 0, 0, 4⟩, ⟨0x15, 8, 4, 0x400, 0, 4, 4⟩, ⟨0x16, 8, 4, 0x400, 0, 8, 4⟩, ⟨0x17, 8, 4, 0x400, 0, 12, 4⟩]⟩
def CAN_DBT_DTSEG1 : Field := ⟨370, 8, 6, .rw, (fun _ => 0x1f), (.range 1 63), [⟨0x14, 8, 4, 0x400, 0, 0, 4⟩, ⟨0x15, 8, 4, 0x400, 0, 4, 4⟩, ⟨0x16, 8, 4, 0x400, 0, 8, 4⟩, ⟨0x17, 8, 4, 0x400, 0, 12, 4⟩]⟩
def CAN_DBT_DTSEG2 : Field := ⟨371, 16, 5, .rw, (fun _ => 8), (.range 1 31), [⟨0x14, 8, 4, 0x400, 0, 0, 4⟩, ⟨0x15, 8, 4, 0x400, 0, 4, 4⟩, ⟨0x16, 8, 4, 0x400, 0, 8, 4⟩, ⟨0x17, 8, 4, 0x400, 0, 12, 4⟩]⟩
def CAN_DBT_DSJW : Field := ⟨372, 24, 5, .rw, (fun _ => 8), .dep, [⟨0x14, 8, 4, 0x400, 0, 0, 4⟩, ⟨0x15, 8, 4, 0x400, 0, 4, 4⟩, ⟨0x16, 8, 4, 0x400, 0, 8, 4⟩, ⟨0x17, 8, 4, 0x400, 0, 12, 4⟩]⟩
def CAN_TDC_TDCEN : Field := ⟨373, 0, 1, .rw, (fun _ => 1), .any, [⟨0x14, 0x10, 4, 0x400, 0, 0, 4⟩, ⟨0x15, 0x10, 4, 0x400, 0, 4, 4⟩, ⟨0x16, 0x10, 4, 0x400, 0, 8, 4⟩, ⟨0x17, 0x10, 4, 0x400, 0, 12, 4⟩]⟩
def CAN_TDC_TDCO : Field := ⟨374, 8, 8, .rw, (fun _ => 0x20), .any, [⟨0x14, 0x10, 4, 0x400, 0, 0, 4⟩, ⟨0x15, 0x10, 4, 0x400, 0, 4, 4⟩, ⟨0x16, 0x10, 4, 0x400, 0, 8, 4⟩, ⟨0x17, 0x10, 4, 0x400, 0, 12, 4⟩]⟩
def CAN_TDC_XTDCO : Field := ⟨375, 24, 8, .rw, (fun _ => 6), .any, [⟨0x14, 0x10, 4, 0x400, 0, 0, 4⟩, ⟨0x15, 0x10, 4, 0x400, 0, 4, 4⟩, ⟨0x16, 0x10, 4, 0x400, 0, 8, 4⟩, ⟨0x17, 0x10, 4, 0x400, 0, 12, 4⟩]⟩
def CAN_TDC_TDCV : Field := ⟨376, 16, 8, .ro, (fun _ => 0), .any, [⟨0x14, 0x10, 4, 0x400, 0, 0, 4⟩, ⟨0x15, 0x10, 4, 0x400, 0, 4, 4⟩, ⟨0x16, 0x10, 4, 0x400, 0, 8, 4⟩, ⟨0x17, 0x10, 4, 0x400, 0, 12, 4⟩]⟩
def CAN_XCVR_MODE : Field := ⟨377, 0, 3, .rw, (fun _ => 0), (.above 4 1), [⟨0x14, 0x14, 4, 0x400, 0, 0, 4⟩, ⟨0x15, 0x14, 4, 0x400, 0, 4, 4⟩, ⟨0x16, 0x14, 4, 0x400, 0, 8, 4⟩, ⟨0x17, 0x14, 4, 0x400, 0, 12, 4⟩]⟩
def CAN_XCVR_XLFAST : Field := ⟨378, 3, 1, .rw, (fun _ => 0), .any, [⟨0x14, 0x14, 4, 0x400, 0, 0, 4⟩, ⟨0x15, 0x14, 4, 0x400, 0, 4, 4⟩, ⟨0x16, 0x14, 4, 0x400, 0, 8, 4⟩, ⟨0x17, 0x14, 4, 0x400, 0, 12, 4⟩]⟩
def CAN_XCVR_SLICE : Field := ⟨379, 8, 1, .ro, (fun _ => 0), .any, [⟨0x14, 0x14, 4, 0x400, 0, 0, 4⟩, ⟨0x15, 0x14, 4, 0x400, 0, 4, 4⟩, ⟨0x16, 0x14, 4, 0x400, 0, 8, 4⟩, ⟨0x17, 0x14, 4, 0x400, 0, 12, 4⟩]⟩
def CAN_STAT_STATE : Field := ⟨380, 0, 2, .ro, (fun _ => 3), .any, [⟨0x14, 0x18, 4, 0x400, 0, 0, 4⟩, ⟨0x15, 0x18, 4, 0x400, 0, 4, 4⟩, ⟨0x16, 0x18, 4, 0x400, 0, 8, 4⟩, ⟨0x17, 0x18, 4, 0x400, 0, 12, 4⟩]⟩
def CAN_STAT_EWARN : Field := ⟨381, 2, 1, .ro, (fun _ => 0), .any, [⟨0x14, 0x18, 4, 0x400, 0, 0, 4⟩, ⟨0x15, 0x18, 4, 0x400, 0, 4, 4⟩, ⟨0x16, 0x18, 4, 0x400, 0, 8, 4⟩, ⟨0x17, 0x18, 4, 0x400, 0, 12, 4⟩]⟩
def CAN_STAT_RECOVERING : Field := ⟨382, 3, 1, .ro, (fun _ => 0), .any, [⟨0x14, 0x18, 4, 0x400, 0, 0, 4⟩, ⟨0x15, 0x18, 4, 0x400, 0, 4, 4⟩, ⟨0x16, 0x18, 4, 0x400, 0, 8, 4⟩, ⟨0x17, 0x18, 4, 0x400, 0, 12, 4⟩]⟩
def CAN_STAT_TEC : Field := ⟨383, 8, 8, .ro, (fun _ => 0), .any, [⟨0x14, 0x18, 4, 0x400, 0, 0, 4⟩, ⟨0x15, 0x18, 4, 0x400, 0, 4, 4⟩, ⟨0x16, 0x18, 4, 0x400, 0, 8, 4⟩, ⟨0x17, 0x18, 4, 0x400, 0, 12, 4⟩]⟩
def CAN_STAT_REC : Field := ⟨384, 16, 8, .ro, (fun _ => 0), .any, [⟨0x14, 0x18, 4, 0x400, 0, 0, 4⟩, ⟨0x15, 0x18, 4, 0x400, 0, 4, 4⟩, ⟨0x16, 0x18, 4, 0x400, 0, 8, 4⟩, ⟨0x17, 0x18, 4, 0x400, 0, 12, 4⟩]⟩
def CAN_STAT_TXQN : Field := ⟨385, 24, 8, .ro, (fun _ => 0), .any, [⟨0x14, 0x18, 4, 0x400, 0, 0, 4⟩, ⟨0x15, 0x18, 4, 0x400, 0, 4, 4⟩, ⟨0x16, 0x18, 4, 0x400, 0, 8, 4⟩, ⟨0x17, 0x18, 4, 0x400, 0, 12, 4⟩]⟩
def CAN_ERRCNT_BOCNT : Field := ⟨386, 0, 16, .rc, (fun _ => 0), .any, [⟨0x14, 0x1c, 4, 0x400, 0, 0, 4⟩, ⟨0x15, 0x1c, 4, 0x400, 0, 4, 4⟩, ⟨0x16, 0x1c, 4, 0x400, 0, 8, 4⟩, ⟨0x17, 0x1c, 4, 0x400, 0, 12, 4⟩]⟩
def CAN_ERRCNT_ERRFR : Field := ⟨387, 16, 16, .rc, (fun _ => 0), .any, [⟨0x14, 0x1c, 4, 0x400, 0, 0, 4⟩, ⟨0x15, 0x1c, 4, 0x400, 0, 4, 4⟩, ⟨0x16, 0x1c, 4, 0x400, 0, 8, 4⟩, ⟨0x17, 0x1c, 4, 0x400, 0, 12, 4⟩]⟩
def CAN_TXRX_TXOK : Field := ⟨388, 0, 16, .rc, (fun _ => 0), .any, [⟨0x14, 0x20, 4, 0x400, 0, 0, 4⟩, ⟨0x15, 0x20, 4, 0x400, 0, 4, 4⟩, ⟨0x16, 0x20, 4, 0x400, 0, 8, 4⟩, ⟨0x17, 0x20, 4, 0x400, 0, 12, 4⟩]⟩
def CAN_TXRX_RXOK : Field := ⟨389, 16, 16, .rc, (fun _ => 0), .any, [⟨0x14, 0x20, 4, 0x400, 0, 0, 4⟩, ⟨0x15, 0x20, 4, 0x400, 0, 4, 4⟩, ⟨0x16, 0x20, 4, 0x400, 0, 8, 4⟩, ⟨0x17, 0x20, 4, 0x400, 0, 12, 4⟩]⟩
def CAN_LASTERR_TYPE : Field := ⟨390, 0, 3, .ro, (fun _ => 0), .any, [⟨0x14, 0x24, 4, 0x400, 0, 0, 4⟩, ⟨0x15, 0x24, 4, 0x400, 0, 4, 4⟩, ⟨0x16, 0x24, 4, 0x400, 0, 8, 4⟩, ⟨0x17, 0x24, 4, 0x400, 0, 12, 4⟩]⟩
def CAN_LASTERR_TX : Field := ⟨391, 3, 1, .ro, (fun _ => 0), .any, [⟨0x14, 0x24, 4, 0x400, 0, 0, 4⟩, ⟨0x15, 0x24, 4, 0x400, 0, 4, 4⟩, ⟨0x16, 0x24, 4, 0x400, 0, 8, 4⟩, ⟨0x17, 0x24, 4, 0x400, 0, 12, 4⟩]⟩
def CAN_LASTERR_POS : Field := ⟨392, 16, 12, .ro, (fun _ => 0), .any, [⟨0x14, 0x24, 4, 0x400, 0, 0, 4⟩, ⟨0x15, 0x24, 4, 0x400, 0, 4, 4⟩, ⟨0x16, 0x24, 4, 0x400, 0, 8, 4⟩, ⟨0x17, 0x24, 4, 0x400, 0, 12, 4⟩]⟩
def RXQ_BASE_LO_ADDR : Field := ⟨393, 12, 20, .rw, (fun _ => 0), .any, [⟨0x14, 0x40, 4, 0x400, 0, 0, 4⟩, ⟨0x15, 0x40, 4, 0x400, 0, 4, 4⟩, ⟨0x16, 0x40, 4, 0x400, 0, 8, 4⟩, ⟨0x17, 0x40, 4, 0x400, 0, 12, 4⟩, ⟨0x18, 0x40, 8, 0x200, 0, 16, 8⟩, ⟨0x19, 0x40, 10, 0x100, 0, 24, 10⟩]⟩
def RXQ_BASE_HI_ADDR : Field := ⟨394, 0, 32, .rw, (fun _ => 0), .any, [⟨0x14, 0x44, 4, 0x400, 0, 0, 4⟩, ⟨0x15, 0x44, 4, 0x400, 0, 4, 4⟩, ⟨0x16, 0x44, 4, 0x400, 0, 8, 4⟩, ⟨0x17, 0x44, 4, 0x400, 0, 12, 4⟩, ⟨0x18, 0x44, 8, 0x200, 0, 16, 8⟩, ⟨0x19, 0x44, 10, 0x100, 0, 24, 10⟩]⟩
def RXQ_CFG_LOG2SZ : Field := ⟨395, 0, 4, .rw, (fun _ => 4), (.range 4 10), [⟨0x14, 0x48, 4, 0x400, 0, 0, 4⟩, ⟨0x15, 0x48, 4, 0x400, 0, 4, 4⟩, ⟨0x16, 0x48, 4, 0x400, 0, 8, 4⟩, ⟨0x17, 0x48, 4, 0x400, 0, 12, 4⟩, ⟨0x18, 0x48, 8, 0x200, 0, 16, 8⟩, ⟨0x19, 0x48, 10, 0x100, 0, 24, 10⟩]⟩
def RXQ_CFG_ENTSZ : Field := ⟨396, 4, 2, .rw, (fun _ => 0), .dep, [⟨0x14, 0x48, 4, 0x400, 0, 0, 4⟩, ⟨0x15, 0x48, 4, 0x400, 0, 4, 4⟩, ⟨0x16, 0x48, 4, 0x400, 0, 8, 4⟩, ⟨0x17, 0x48, 4, 0x400, 0, 12, 4⟩, ⟨0x18, 0x48, 8, 0x200, 0, 16, 8⟩, ⟨0x19, 0x48, 10, 0x100, 0, 24, 10⟩]⟩
def RXQ_CFG_VEC : Field := ⟨397, 8, 4, .rw, (fun _ => 0), .any, [⟨0x14, 0x48, 4, 0x400, 0, 0, 4⟩, ⟨0x15, 0x48, 4, 0x400, 0, 4, 4⟩, ⟨0x16, 0x48, 4, 0x400, 0, 8, 4⟩, ⟨0x17, 0x48, 4, 0x400, 0, 12, 4⟩, ⟨0x18, 0x48, 8, 0x200, 0, 16, 8⟩, ⟨0x19, 0x48, 10, 0x100, 0, 24, 10⟩]⟩
def RXQ_CFG_MODCNT : Field := ⟨398, 12, 8, .rw, (fun _ => 1), (.range 1 255), [⟨0x14, 0x48, 4, 0x400, 0, 0, 4⟩, ⟨0x15, 0x48, 4, 0x400, 0, 4, 4⟩, ⟨0x16, 0x48, 4, 0x400, 0, 8, 4⟩, ⟨0x17, 0x48, 4, 0x400, 0, 12, 4⟩, ⟨0x18, 0x48, 8, 0x200, 0, 16, 8⟩, ⟨0x19, 0x48, 10, 0x100, 0, 24, 10⟩]⟩
def RXQ_CFG_MODTIME : Field := ⟨399, 20, 10, .rw, (fun _ => 0), .any, [⟨0x14, 0x48, 4, 0x400, 0, 0, 4⟩, ⟨0x15, 0x48, 4, 0x400, 0, 4, 4⟩, ⟨0x16, 0x48, 4, 0x400, 0, 8, 4⟩, ⟨0x17, 0x48, 4, 0x400, 0, 12, 4⟩, ⟨0x18, 0x48, 8, 0x200, 0, 16, 8⟩, ⟨0x19, 0x48, 10, 0x100, 0, 24, 10⟩]⟩
def RXQ_CFG_ALL : Field := ⟨400, 30, 1, .rw, (fun _ => 0), .any, [⟨0x14, 0x48, 4, 0x400, 0, 0, 4⟩, ⟨0x15, 0x48, 4, 0x400, 0, 4, 4⟩, ⟨0x16, 0x48, 4, 0x400, 0, 8, 4⟩, ⟨0x17, 0x48, 4, 0x400, 0, 12, 4⟩, ⟨0x18, 0x48, 8, 0x200, 0, 16, 8⟩, ⟨0x19, 0x48, 10, 0x100, 0, 24, 10⟩]⟩
def RXQ_CFG_EN : Field := ⟨401, 31, 1, .rw, (fun _ => 0), .any, [⟨0x14, 0x48, 4, 0x400, 0, 0, 4⟩, ⟨0x15, 0x48, 4, 0x400, 0, 4, 4⟩, ⟨0x16, 0x48, 4, 0x400, 0, 8, 4⟩, ⟨0x17, 0x48, 4, 0x400, 0, 12, 4⟩, ⟨0x18, 0x48, 8, 0x200, 0, 16, 8⟩, ⟨0x19, 0x48, 10, 0x100, 0, 24, 10⟩]⟩
def RXQ_IDX_TAIL : Field := ⟨402, 0, 16, .ro, (fun _ => 0), .any, [⟨0x14, 0x4c, 4, 0x400, 0, 0, 4⟩, ⟨0x15, 0x4c, 4, 0x400, 0, 4, 4⟩, ⟨0x16, 0x4c, 4, 0x400, 0, 8, 4⟩, ⟨0x17, 0x4c, 4, 0x400, 0, 12, 4⟩, ⟨0x18, 0x4c, 8, 0x200, 0, 16, 8⟩, ⟨0x19, 0x4c, 10, 0x100, 0, 24, 10⟩]⟩
def RXQ_IDX_HEAD : Field := ⟨403, 16, 16, .ro, (fun _ => 0), .any, [⟨0x14, 0x4c, 4, 0x400, 0, 0, 4⟩, ⟨0x15, 0x4c, 4, 0x400, 0, 4, 4⟩, ⟨0x16, 0x4c, 4, 0x400, 0, 8, 4⟩, ⟨0x17, 0x4c, 4, 0x400, 0, 12, 4⟩, ⟨0x18, 0x4c, 8, 0x200, 0, 16, 8⟩, ⟨0x19, 0x4c, 10, 0x100, 0, 24, 10⟩]⟩
def RXQ_STAT_DROP : Field := ⟨404, 0, 16, .rc, (fun _ => 0), .any, [⟨0x14, 0x50, 4, 0x400, 0, 0, 4⟩, ⟨0x15, 0x50, 4, 0x400, 0, 4, 4⟩, ⟨0x16, 0x50, 4, 0x400, 0, 8, 4⟩, ⟨0x17, 0x50, 4, 0x400, 0, 12, 4⟩, ⟨0x18, 0x50, 8, 0x200, 0, 16, 8⟩, ⟨0x19, 0x50, 10, 0x100, 0, 24, 10⟩]⟩
def RXQ_STAT_TOOBIG : Field := ⟨405, 16, 16, .rc, (fun _ => 0), .any, [⟨0x14, 0x50, 4, 0x400, 0, 0, 4⟩, ⟨0x15, 0x50, 4, 0x400, 0, 4, 4⟩, ⟨0x16, 0x50, 4, 0x400, 0, 8, 4⟩, ⟨0x17, 0x50, 4, 0x400, 0, 12, 4⟩, ⟨0x18, 0x50, 8, 0x200, 0, 16, 8⟩, ⟨0x19, 0x50, 10, 0x100, 0, 24, 10⟩]⟩
def TM_CFG_TMEN : Field := ⟨406, 0, 1, .rw, (fun _ => 0), .any, [⟨0x14, 0x60, 4, 0x400, 0, 0, 4⟩, ⟨0x15, 0x60, 4, 0x400, 0, 4, 4⟩, ⟨0x16, 0x60, 4, 0x400, 0, 8, 4⟩, ⟨0x17, 0x60, 4, 0x400, 0, 12, 4⟩]⟩
def TM_CFG_REFPER : Field := ⟨407, 16, 16, .rw, (fun _ => 0x64), (.range 10 65535), [⟨0x14, 0x60, 4, 0x400, 0, 0, 4⟩, ⟨0x15, 0x60, 4, 0x400, 0, 4, 4⟩, ⟨0x16, 0x60, 4, 0x400, 0, 8, 4⟩, ⟨0x17, 0x60, 4, 0x400, 0, 12, 4⟩]⟩
def TM_ID_ID : Field := ⟨408, 0, 29, .rw, (fun _ => 0), .dep, [⟨0x14, 0x64, 4, 0x400, 0, 0, 4⟩, ⟨0x15, 0x64, 4, 0x400, 0, 4, 4⟩, ⟨0x16, 0x64, 4, 0x400, 0, 8, 4⟩, ⟨0x17, 0x64, 4, 0x400, 0, 12, 4⟩]⟩
def TM_ID_IDE : Field := ⟨409, 29, 1, .rw, (fun _ => 0), .any, [⟨0x14, 0x64, 4, 0x400, 0, 0, 4⟩, ⟨0x15, 0x64, 4, 0x400, 0, 4, 4⟩, ⟨0x16, 0x64, 4, 0x400, 0, 8, 4⟩, ⟨0x17, 0x64, 4, 0x400, 0, 12, 4⟩]⟩
def TM_STAT_CYCLE : Field := ⟨410, 0, 6, .ro, (fun _ => 0), .any, [⟨0x14, 0x68, 4, 0x400, 0, 0, 4⟩, ⟨0x15, 0x68, 4, 0x400, 0, 4, 4⟩, ⟨0x16, 0x68, 4, 0x400, 0, 8, 4⟩, ⟨0x17, 0x68, 4, 0x400, 0, 12, 4⟩]⟩
def TM_STAT_PENDING : Field := ⟨411, 8, 1, .ro, (fun _ => 0), .any, [⟨0x14, 0x68, 4, 0x400, 0, 0, 4⟩, ⟨0x15, 0x68, 4, 0x400, 0, 4, 4⟩, ⟨0x16, 0x68, 4, 0x400, 0, 8, 4⟩, ⟨0x17, 0x68, 4, 0x400, 0, 12, 4⟩]⟩
def TM_STAT_CONFLICT : Field := ⟨412, 9, 1, .w1c, (fun _ => 0), .any, [⟨0x14, 0x68, 4, 0x400, 0, 0, 4⟩, ⟨0x15, 0x68, 4, 0x400, 0, 4, 4⟩, ⟨0x16, 0x68, 4, 0x400, 0, 8, 4⟩, ⟨0x17, 0x68, 4, 0x400, 0, 12, 4⟩]⟩
def TM_STAT_LATE : Field := ⟨413, 16, 16, .rc, (fun _ => 0), .any, [⟨0x14, 0x68, 4, 0x400, 0, 0, 4⟩, ⟨0x15, 0x68, 4, 0x400, 0, 4, 4⟩, ⟨0x16, 0x68, 4, 0x400, 0, 8, 4⟩, ⟨0x17, 0x68, 4, 0x400, 0, 12, 4⟩]⟩
/-! ### R590 -/
def LIN_CFG_EN : Field := ⟨414, 0, 1, .rw, (fun _ => 0), .any, [⟨0x18, 0, 8, 0x200, 0, 0, 8⟩]⟩
def LIN_CFG_ROLE : Field := ⟨415, 1, 1, .rw, (fun _ => 0), .any, [⟨0x18, 0, 8, 0x200, 0, 0, 8⟩]⟩
def LIN_CFG_TERM : Field := ⟨416, 2, 1, .rw, (fun _ => 0), .any, [⟨0x18, 0, 8, 0x200, 0, 0, 8⟩]⟩
def LIN_CFG_V24 : Field := ⟨417, 3, 1, .rw, (fun _ => 0), .any, [⟨0x18, 0, 8, 0x200, 0, 0, 8⟩]⟩
def LIN_CFG_BAUD : Field := ⟨418, 8, 16, .rw, (fun _ => 0x4b00), (.range 1000 20000), [⟨0x18, 0, 8, 0x200, 0, 0, 8⟩]⟩
def LIN_STAT_STATE : Field := ⟨419, 0, 3, .ro, (fun _ => 0), .any, [⟨0x18, 4, 8, 0x200, 0, 0, 8⟩]⟩
def LIN_STAT_TABLE : Field := ⟨420, 3, 1, .ro, (fun _ => 0), .any, [⟨0x18, 4, 8, 0x200, 0, 0, 8⟩]⟩
def LIN_STAT_SLOT : Field := ⟨421, 4, 5, .ro, (fun _ => 0), .any, [⟨0x18, 4, 8, 0x200, 0, 0, 8⟩]⟩
def LIN_STAT_ERRCNT : Field := ⟨422, 16, 16, .rc, (fun _ => 0), .any, [⟨0x18, 4, 8, 0x200, 0, 0, 8⟩]⟩
/-! ### R642 -/
def ETH_PCFG_EN : Field := ⟨423, 0, 1, .rw, (fun _ => 0), .any, [⟨0x19, 0, 10, 0x100, 0, 0, 10⟩]⟩
def ETH_PCFG_MS : Field := ⟨424, 1, 1, .rw, (fun _ => 0), .any, [⟨0x19, 0, 10, 0x100, 0, 0, 10⟩]⟩
def ETH_PCFG_LEARN : Field := ⟨425, 2, 1, .rw, (fun _ => 1), .any, [⟨0x19, 0, 10, 0x100, 0, 0, 10⟩]⟩
def ETH_PCFG_MAXFRM : Field := ⟨426, 4, 12, .rw, (fun _ => 0x5f2), (.range 1522 2160), [⟨0x19, 0, 10, 0x100, 0, 0, 10⟩]⟩
def ETH_PCFG_PVID : Field := ⟨427, 16, 12, .rw, (fun _ => 1), .any, [⟨0x19, 0, 10, 0x100, 0, 0, 10⟩]⟩
def ETH_PCPMAP : Field := ⟨428, 0, 24, .rw, (fun _ => 0xfac688), .any, [⟨0x19, 4, 10, 0x100, 0, 0, 10⟩]⟩
def ETH_STAT_LINK : Field := ⟨429, 0, 1, .ro, (fun _ => 0), .any, [⟨0x19, 8, 10, 0x100, 0, 0, 10⟩]⟩
def ETH_STAT_SQI : Field := ⟨430, 1, 3, .ro, (fun _ => 0), .any, [⟨0x19, 8, 10, 0x100, 0, 0, 10⟩]⟩
def ETH_STAT_LINKCHG : Field := ⟨431, 16, 16, .rc, (fun _ => 0), .any, [⟨0x19, 8, 10, 0x100, 0, 0, 10⟩]⟩
def ETH_TRAF_RXFR : Field := ⟨432, 0, 16, .rc, (fun _ => 0), .any, [⟨0x19, 0xc, 10, 0x100, 0, 0, 10⟩]⟩
def ETH_TRAF_TXFR : Field := ⟨433, 16, 16, .rc, (fun _ => 0), .any, [⟨0x19, 0xc, 10, 0x100, 0, 0, 10⟩]⟩
def ETH_DROP_BADFCS : Field := ⟨434, 0, 8, .rc, (fun _ => 0), .any, [⟨0x19, 0x10, 10, 0x100, 0, 0, 10⟩]⟩
def ETH_DROP_NOMEM : Field := ⟨435, 8, 8, .rc, (fun _ => 0), .any, [⟨0x19, 0x10, 10, 0x100, 0, 0, 10⟩]⟩
def ETH_DROP_QBVDROP : Field := ⟨436, 16, 8, .rc, (fun _ => 0), .any, [⟨0x19, 0x10, 10, 0x100, 0, 0, 10⟩]⟩
def ETH_DROP_TOOLONG : Field := ⟨437, 24, 8, .rc, (fun _ => 0), .any, [⟨0x19, 0x10, 10, 0x100, 0, 0, 10⟩]⟩
def ETH_RSV_PRSV : Field := ⟨438, 0, 15, .rw, (fun _ => 0x40), .dep, [⟨0x19, 0x14, 10, 0x100, 0, 0, 10⟩]⟩
def ETH_RSV_SHMAX : Field := ⟨439, 16, 15, .rw, (fun _ => 0x1000), .any, [⟨0x19, 0x14, 10, 0x100, 0, 0, 10⟩]⟩
def QBV_CFG_EN : Field := ⟨440, 0, 1, .rw, (fun _ => 0), .any, [⟨0x19, 0x18, 10, 0x100, 0, 0, 10⟩]⟩
def QBV_CFG_LEN : Field := ⟨441, 8, 7, .rw, (fun _ => 0), (.range 1 128), [⟨0x19, 0x18, 10, 0x100, 0, 0, 10⟩]⟩
def QBV_CYCLE : Field := ⟨442, 0, 32, .rw, (fun _ => 0xf4240), (.range 1000 4294967295), [⟨0x19, 0x1c, 10, 0x100, 0, 0, 10⟩]⟩
def QBV_BASE_LO : Field := ⟨443, 0, 32, .rw, (fun _ => 0), .any, [⟨0x19, 0x20, 10, 0x100, 0, 0, 10⟩]⟩
def QBV_BASE_HI : Field := ⟨444, 0, 32, .rw, (fun _ => 0), .any, [⟨0x19, 0x24, 10, 0x100, 0, 0, 10⟩]⟩
/-! ### R643 -/
def ETH_HOSTMAC_LO : Field := ⟨445, 0, 32, .rw, (fun _ => 0), .any, [⟨0x19, 0xc00, 1, 0, 0, 0, 1⟩]⟩
def ETH_HOSTMAC_HI : Field := ⟨446, 0, 16, .rw, (fun _ => 0), .any, [⟨0x19, 0xc04, 1, 0, 0, 0, 1⟩]⟩
def ETH_GCFG_AGE : Field := ⟨447, 0, 12, .rw, (fun _ => 0x12c), (.range 10 3600), [⟨0x19, 0xc08, 1, 0, 0, 0, 1⟩]⟩
def ETH_GCFG_XLTYPE : Field := ⟨448, 16, 8, .rw, (fun _ => 0x7c), (.range 0 127), [⟨0x19, 0xc08, 1, 0, 0, 0, 1⟩]⟩
def ETH_PMEM_FREE : Field := ⟨449, 0, 15, .ro, (fun _ => 0x5120), .any, [⟨0x19, 0xc0c, 1, 0, 0, 0, 1⟩]⟩
def ETH_PMEM_MINFREE : Field := ⟨450, 16, 15, .rc, (fun _ => 0x7fff), .any, [⟨0x19, 0xc0c, 1, 0, 0, 0, 1⟩]⟩
def GPTP_CFG_ROLE : Field := ⟨451, 0, 2, .rw, (fun _ => 0), (.above 2 2), [⟨0x19, 0xc10, 1, 0, 0, 0, 1⟩]⟩
def GPTP_CFG_FPORT : Field := ⟨452, 4, 4, .rw, (fun _ => 0), .any, [⟨0x19, 0xc10, 1, 0, 0, 0, 1⟩]⟩
def GPTP_CFG_PORTS : Field := ⟨453, 16, 10, .rw, (fun _ => 0), .any, [⟨0x19, 0xc10, 1, 0, 0, 0, 1⟩]⟩
def GPTP_CFG_SYNCLOG : Field := ⟨454, 28, 4, .rw, (fun _ => 0xd), .dep, [⟨0x19, 0xc10, 1, 0, 0, 0, 1⟩]⟩
def GPTP_STAT_STATE : Field := ⟨455, 0, 3, .ro, (fun _ => 0), .any, [⟨0x19, 0xc14, 1, 0, 0, 0, 1⟩]⟩
def GPTP_STAT_STEPS : Field := ⟨456, 16, 16, .rc, (fun _ => 0), .any, [⟨0x19, 0xc14, 1, 0, 0, 0, 1⟩]⟩
def GPTP_OFS : Field := ⟨457, 0, 32, .ro, (fun _ => 0), .any, [⟨0x19, 0xc18, 1, 0, 0, 0, 1⟩]⟩
def CB_CFG_HIST : Field := ⟨458, 0, 6, .rw, (fun _ => 0x10), (.range 2 32), [⟨0x19, 0xc20, 1, 0, 0, 0, 1⟩]⟩
def CB_CFG_RESET : Field := ⟨459, 8, 8, .rw, (fun _ => 0xa), (.range 1 255), [⟨0x19, 0xc20, 1, 0, 0, 0, 1⟩]⟩
def CB_CFG_LATENT : Field := ⟨460, 16, 16, .rw, (fun _ => 0x3e8), (.range 10 65535), [⟨0x19, 0xc20, 1, 0, 0, 0, 1⟩]⟩
def CB_STAT_DISCARD : Field := ⟨461, 0, 16, .rc, (fun _ => 0), .any, [⟨0x19, 0xc24, 1, 0, 0, 0, 1⟩]⟩
def CB_STAT_ROGUE : Field := ⟨462, 16, 16, .rc, (fun _ => 0), .any, [⟨0x19, 0xc24, 1, 0, 0, 0, 1⟩]⟩
def CB_STAT2_OOO : Field := ⟨463, 0, 16, .rc, (fun _ => 0), .any, [⟨0x19, 0xc28, 1, 0, 0, 0, 1⟩]⟩
def CB_STAT2_LOST : Field := ⟨464, 16, 16, .rc, (fun _ => 0), .any, [⟨0x19, 0xc28, 1, 0, 0, 0, 1⟩]⟩
def QBV_SEL_PORT : Field := ⟨465, 0, 4, .rw, (fun _ => 0), .any, [⟨0x19, 0xc40, 1, 0, 0, 0, 1⟩]⟩
def QBV_SEL_ENTRY : Field := ⟨466, 8, 7, .rw, (fun _ => 0), .any, [⟨0x19, 0xc40, 1, 0, 0, 0, 1⟩]⟩
def ETH_VLAN_VID : Field := ⟨467, 0, 12, .rw, (fun _ => 0), .any, [⟨0x19, 0xe00, 64, 4, 0, 0, 64⟩]⟩
def ETH_VLAN_MEMBERS : Field := ⟨468, 16, 10, .rw, (fun _ => 0), .any, [⟨0x19, 0xe00, 64, 4, 0, 0, 64⟩]⟩
def ETH_VLAN_UNTAG : Field := ⟨469, 26, 1, .rw, (fun _ => 0), .any, [⟨0x19, 0xe00, 64, 4, 0, 0, 64⟩]⟩
def ETH_VLAN_EN : Field := ⟨470, 31, 1, .rw, (fun _ => 0), .any, [⟨0x19, 0xe00, 64, 4, 0, 0, 64⟩]⟩
/-! ### R644 -/
def FIT_IDX_INDEX : Field := ⟨471, 0, 14, .rw, (fun _ => 0), .any, [⟨0x1a, 0, 1, 0, 0, 0, 1⟩]⟩
def FIT_CMD_OP : Field := ⟨472, 0, 2, .wo, (fun _ => 0), .any, [⟨0x1a, 4, 1, 0, 0, 0, 1⟩]⟩
def FIT_STAT_BUSY : Field := ⟨473, 0, 1, .ro, (fun _ => 0), .any, [⟨0x1a, 8, 1, 0, 0, 0, 1⟩]⟩
def FIT_STAT_USED : Field := ⟨474, 16, 15, .ro, (fun _ => 0), .any, [⟨0x1a, 8, 1, 0, 0, 0, 1⟩]⟩
def FIT_GSTAT_UNMATCHED : Field := ⟨475, 0, 16, .rc, (fun _ => 0), .any, [⟨0x1a, 0xc, 1, 0, 0, 0, 1⟩]⟩
def FIT_GSTAT_NOFIT : Field := ⟨476, 16, 16, .rc, (fun _ => 0), .any, [⟨0x1a, 0xc, 1, 0, 0, 0, 1⟩]⟩
def FIT_SEQ_SEQ : Field := ⟨477, 0, 16, .ro, (fun _ => 0), .any, [⟨0x1a, 0x10, 1, 0, 0, 0, 1⟩]⟩
def FIT_SEQ_AGE : Field := ⟨478, 16, 16, .ro, (fun _ => 0xffff), .any, [⟨0x1a, 0x10, 1, 0, 0, 0, 1⟩]⟩
/-! ### R676 -/
def NM_CFG_EN : Field := ⟨479, 0, 1, .rw, (fun _ => 0), .any, [⟨0x1c, 0, 34, 0x40, 0, 0, 34⟩]⟩
def NM_CFG_ARM : Field := ⟨480, 1, 1, .rw, (fun _ => 1), .any, [⟨0x1c, 0, 34, 0x40, 0, 0, 34⟩]⟩
def NM_CFG_SWEN : Field := ⟨481, 2, 1, .rw, (fun _ => 0), .any, [⟨0x1c, 0, 34, 0x40, 0, 0, 34⟩]⟩
def NM_CFG_SWFD : Field := ⟨482, 3, 1, .rw, (fun _ => 1), .any, [⟨0x1c, 0, 34, 0x40, 0, 0, 34⟩]⟩
def NM_CFG_NIDBYTE : Field := ⟨483, 4, 3, .rw, (fun _ => 0), .any, [⟨0x1c, 0, 34, 0x40, 0, 0, 34⟩]⟩
def NM_CFG_OWNID : Field := ⟨484, 8, 8, .rw, (fun _ => 0), .any, [⟨0x1c, 0, 34, 0x40, 0, 0, 34⟩]⟩
def NM_CFG_PARENT : Field := ⟨485, 16, 6, .rw, (fun i => i), .dep, [⟨0x1c, 0x400, 8, 0x40, 0, 16, 8⟩]⟩
def NM_TIME_TKA : Field := ⟨486, 0, 16, .rw, (fun _ => 0xc8), (.range 10 65535), [⟨0x1c, 4, 34, 0x40, 0, 0, 34⟩]⟩
def NM_TIME_TPREP : Field := ⟨487, 16, 8, .rw, (fun _ => 0xa), (.range 1 255), [⟨0x1c, 4, 34, 0x40, 0, 0, 34⟩]⟩
def NM_TIME_KAPER : Field := ⟨488, 24, 8, .rw, (fun _ => 0x32), .dep, [⟨0x1c, 4, 34, 0x40, 0, 0, 34⟩]⟩
def NM_KAID_ID : Field := ⟨489, 0, 29, .rw, (fun _ => 0), .dep, [⟨0x1c, 8, 34, 0x40, 0, 0, 34⟩]⟩
def NM_KAID_IDE : Field := ⟨490, 29, 1, .rw, (fun _ => 0), .any, [⟨0x1c, 8, 34, 0x40, 0, 0, 34⟩]⟩
def NM_EDA_HI : Field := ⟨491, 0, 16, .rw, (fun _ => 0), .any, [⟨0x1c, 0xc, 34, 0x40, 0, 0, 34⟩]⟩
def NM_STAT_STATE : Field := ⟨492, 0, 3, .ro, (fun _ => 0), .any, [⟨0x1c, 0x10, 34, 0x40, 0, 0, 34⟩]⟩
def NM_STAT_HOSTNEED : Field := ⟨493, 3, 1, .ro, (fun _ => 0), .any, [⟨0x1c, 0x10, 34, 0x40, 0, 0, 34⟩]⟩
def NM_STAT_FWDNEED : Field := ⟨494, 4, 1, .ro, (fun _ => 0), .any, [⟨0x1c, 0x10, 34, 0x40, 0, 0, 34⟩]⟩
def NM_STAT_KEEPER : Field := ⟨495, 8, 8, .ro, (fun _ => 0xff), .any, [⟨0x1c, 0x10, 34, 0x40, 0, 0, 34⟩]⟩
def NM_CNT_WAKES : Field := ⟨496, 0, 16, .rc, (fun _ => 0), .any, [⟨0x1c, 0x14, 34, 0x40, 0, 0, 34⟩]⟩
def NM_CNT_FSCNT : Field := ⟨497, 16, 16, .rc, (fun _ => 0), .any, [⟨0x1c, 0x14, 34, 0x40, 0, 0, 34⟩]⟩
def NM_SWID_SWID : Field := ⟨498, 0, 29, .rw, (fun _ => 0), .any, [⟨0x1c, 0x18, 34, 0x40, 0, 0, 34⟩]⟩
def NM_SWID_SWIDE : Field := ⟨499, 29, 1, .rw, (fun _ => 0), .any, [⟨0x1c, 0x18, 34, 0x40, 0, 0, 34⟩]⟩
def NM_SWMASK : Field := ⟨500, 0, 29, .rw, (fun _ => 0x1fffffff), .any, [⟨0x1c, 0x1c, 34, 0x40, 0, 0, 34⟩]⟩
def NM_SWCTL_SWDLC : Field := ⟨501, 0, 4, .rw, (fun _ => 0), (.range 0 8), [⟨0x1c, 0x20, 34, 0x40, 0, 0, 34⟩]⟩
def NM_SWDATA_LO : Field := ⟨502, 0, 32, .rw, (fun _ => 0), .any, [⟨0x1c, 0x24, 34, 0x40, 0, 0, 34⟩]⟩
def NM_SWDATA_HI : Field := ⟨503, 0, 32, .rw, (fun _ => 0), .any, [⟨0x1c, 0x28, 34, 0x40, 0, 0, 34⟩]⟩
/-! ### R678 -/
def NM_GCFG_TFS : Field := ⟨504, 0, 8, .rw, (fun _ => 0x14), (.range 1 255), [⟨0x1c, 0xc00, 1, 0, 0, 0, 1⟩]⟩
def NM_GCFG_TFSIDLE : Field := ⟨505, 8, 8, .rw, (fun _ => 0x32), (.range 1 255), [⟨0x1c, 0xc00, 1, 0, 0, 0, 1⟩]⟩
def NM_GCFG_STUCKT : Field := ⟨506, 16, 8, .rw, (fun _ => 0x3c), .any, [⟨0x1c, 0xc00, 1, 0, 0, 0, 1⟩]⟩
def NM_GCFG_FWDHOLD : Field := ⟨507, 24, 8, .rw, (fun _ => 0x14), (.range 1 255), [⟨0x1c, 0xc00, 1, 0, 0, 0, 1⟩]⟩
def NM_GSTAT_ALLSLEEP : Field := ⟨508, 0, 1, .ro, (fun _ => 0), .any, [⟨0x1c, 0xc04, 1, 0, 0, 0, 1⟩]⟩
def NM_NSEL_SEG : Field := ⟨509, 0, 6, .rw, (fun _ => 0), .any, [⟨0x1c, 0xc20, 1, 0, 0, 0, 1⟩]⟩
def NM_NSEL_CLR : Field := ⟨510, 8, 1, .wo, (fun _ => 0), .any, [⟨0x1c, 0xc20, 1, 0, 0, 0, 1⟩]⟩
/-! ### R744 -/
def TW_CFG_EN : Field := ⟨511, 0, 1, .rw, (fun _ => 0), .any, [⟨0x1d, 0, 1, 0, 0, 0, 1⟩]⟩
def TW_CFG_PREF : Field := ⟨512, 1, 1, .rw, (fun _ => 0), .any, [⟨0x1d, 0, 1, 0, 0, 0, 1⟩]⟩
def TW_CFG_OOBKIND : Field := ⟨513, 2, 2, .rw, (fun _ => 1), .dep, [⟨0x1d, 0, 1, 0, 0, 0, 1⟩]⟩
def TW_CFG_OOBSEG : Field := ⟨514, 4, 6, .rw, (fun _ => 0), .dep, [⟨0x1d, 0, 1, 0, 0, 0, 1⟩]⟩
def TW_CFG_OOBPER : Field := ⟨515, 16, 8, .rw, (fun _ => 0xa), (.range 1 255), [⟨0x1d, 0, 1, 0, 0, 0, 1⟩]⟩
def TW_CYC_CYCLE : Field := ⟨516, 0, 12, .rw, (fun _ => 0x1f4), .dep, [⟨0x1d, 4, 1, 0, 0, 0, 1⟩]⟩
def TW_OOBID_ID : Field := ⟨517, 0, 29, .rw, (fun _ => 0), .dep, [⟨0x1d, 8, 1, 0, 0, 0, 1⟩]⟩
def TW_OOBID_IDE : Field := ⟨518, 29, 1, .rw, (fun _ => 0), .any, [⟨0x1d, 8, 1, 0, 0, 0, 1⟩]⟩
def TW_OOBDA_HI : Field := ⟨519, 0, 16, .rw, (fun _ => 0), .any, [⟨0x1d, 0xc, 1, 0, 0, 0, 1⟩]⟩
def TW_SOL_IGNSW : Field := ⟨520, 0, 6, .rw, (fun _ => 0), .any, [⟨0x1d, 0x10, 1, 0, 0, 0, 1⟩]⟩
def TW_SOL_IGNEN : Field := ⟨521, 6, 1, .rw, (fun _ => 0), .any, [⟨0x1d, 0x10, 1, 0, 0, 0, 1⟩]⟩
def TW_SOL_IGNDLY : Field := ⟨522, 8, 8, .rw, (fun _ => 0x1e), (.range 1 255), [⟨0x1d, 0x10, 1, 0, 0, 0, 1⟩]⟩
def TW_ISEL_FITLO : Field := ⟨523, 0, 14, .rw, (fun _ => 0), .any, [⟨0x1d, 0x14, 1, 0, 0, 0, 1⟩]⟩
def TW_ISEL_FITCNT : Field := ⟨524, 16, 15, .rw, (fun _ => 0), .dep, [⟨0x1d, 0x14, 1, 0, 0, 0, 1⟩]⟩
def TW_CORE_BASE : Field := ⟨525, 0, 15, .rw, (fun _ => 0), .any, [⟨0x1d, 0x20, 4, 4, 0, 0, 4⟩]⟩
def TW_CORE_COUNT : Field := ⟨526, 16, 16, .rw, (fun _ => 0), .dep, [⟨0x1d, 0x20, 4, 4, 0, 0, 4⟩]⟩
def TW_ISIZE_SIZE : Field := ⟨527, 0, 20, .ro, (fun _ => 0xf00), .any, [⟨0x1d, 0x30, 1, 0, 0, 0, 1⟩]⟩
def TW_ISIZE_XFER : Field := ⟨528, 20, 12, .ro, (fun _ => 0x11), .any, [⟨0x1d, 0x30, 1, 0, 0, 0, 1⟩]⟩
def TW_STAT_STATE : Field := ⟨529, 0, 3, .ro, (fun _ => 0), .any, [⟨0x1d, 0x40, 1, 0, 0, 0, 1⟩]⟩
def TW_STAT_ROLE : Field := ⟨530, 3, 2, .ro, (fun _ => 0), .any, [⟨0x1d, 0x40, 1, 0, 0, 0, 1⟩]⟩
def TW_STAT_ROLELINE : Field := ⟨531, 5, 1, .ro, (fun _ => 0), .any, [⟨0x1d, 0x40, 1, 0, 0, 0, 1⟩]⟩
def TW_STAT_OKLINE : Field := ⟨532, 6, 1, .ro, (fun _ => 0), .any, [⟨0x1d, 0x40, 1, 0, 0, 0, 1⟩]⟩
def TW_STAT_LANES : Field := ⟨533, 7, 2, .ro, (fun _ => 0), .any, [⟨0x1d, 0x40, 1, 0, 0, 0, 1⟩]⟩
def TW_STAT_OOBOK : Field := ⟨534, 9, 1, .ro, (fun _ => 0), .any, [⟨0x1d, 0x40, 1, 0, 0, 0, 1⟩]⟩
def TW_AGE_AGE : Field := ⟨535, 0, 16, .ro, (fun _ => 0xffff), .any, [⟨0x1d, 0x44, 1, 0, 0, 0, 1⟩]⟩
def TW_AGE_MISS : Field := ⟨536, 16, 16, .rc, (fun _ => 0), .any, [⟨0x1d, 0x44, 1, 0, 0, 0, 1⟩]⟩
def TW_CNT_TAKEOVERS : Field := ⟨537, 0, 16, .rc, (fun _ => 0), .any, [⟨0x1d, 0x48, 1, 0, 0, 0, 1⟩]⟩
def TW_CNT_SWAPS : Field := ⟨538, 16, 16, .rc, (fun _ => 0), .any, [⟨0x1d, 0x48, 1, 0, 0, 0, 1⟩]⟩
def TW_JRNL_USED : Field := ⟨539, 0, 11, .ro, (fun _ => 0), .any, [⟨0x1d, 0x4c, 1, 0, 0, 0, 1⟩]⟩
def TW_JRNL_NOTLEAD : Field := ⟨540, 16, 16, .rc, (fun _ => 0), .any, [⟨0x1d, 0x4c, 1, 0, 0, 0, 1⟩]⟩
def TW_SOLSTAT_SINCE : Field := ⟨541, 0, 16, .ro, (fun _ => 0), .any, [⟨0x1d, 0x50, 1, 0, 0, 0, 1⟩]⟩
def TW_SOLSTAT_LASTDET : Field := ⟨542, 16, 8, .ro, (fun _ => 0), .any, [⟨0x1d, 0x50, 1, 0, 0, 0, 1⟩]⟩
def TW_SOLSTAT_LASTON : Field := ⟨543, 24, 8, .ro, (fun _ => 0), .any, [⟨0x1d, 0x50, 1, 0, 0, 0, 1⟩]⟩
def TW_FLAGS_UNPROVEN : Field := ⟨544, 0, 1, .w1c, (fun _ => 0), .any, [⟨0x1d, 0x54, 1, 0, 0, 0, 1⟩]⟩
def TW_FLAGS_LINEFLT : Field := ⟨545, 1, 1, .w1c, (fun _ => 0), .any, [⟨0x1d, 0x54, 1, 0, 0, 0, 1⟩]⟩
def TW_FLAGS_DUALLEAD : Field := ⟨546, 2, 1, .w1c, (fun _ => 0), .any, [⟨0x1d, 0x54, 1, 0, 0, 0, 1⟩]⟩
def TW_EQ_STEP : Field := ⟨547, 0, 3, .ro, (fun _ => 0), .any, [⟨0x1d, 0x58, 1, 0, 0, 0, 1⟩]⟩
def TW_OBJ_MODE : Field := ⟨548, 0, 2, .rw, (fun _ => 0), .dep, [⟨0x1d, 0x100, 92, 4, 0, 0, 92⟩]⟩
def TW_OBJ_STBY : Field := ⟨549, 2, 1, .ro, (fun _ => 0), .any, [⟨0x1d, 0x100, 92, 4, 0, 0, 92⟩]⟩
/-! ### R784 -/
def FIFE_CCFG_PF : Field := ⟨550, 0, 2, .rw, (fun _ => 1), .dep, [⟨0x1e, 0, 4, 0x40, 0, 0, 4⟩]⟩
def FIFE_CCFG_PRIO : Field := ⟨551, 4, 2, .rw, (fun _ => 2), .any, [⟨0x1e, 0, 4, 0x40, 0, 0, 4⟩]⟩
def FIFE_CTL_RUN : Field := ⟨552, 0, 1, .rw, (fun _ => 0), .any, [⟨0x1e, 4, 4, 0x40, 0, 0, 4⟩]⟩
def FIFE_CTL_RESTART : Field := ⟨553, 1, 1, .wo, (fun _ => 0), .any, [⟨0x1e, 4, 4, 0x40, 0, 0, 4⟩]⟩
def FIFE_CTL_BIST : Field := ⟨554, 2, 1, .wo, (fun _ => 0), .any, [⟨0x1e, 4, 4, 0x40, 0, 0, 4⟩]⟩
def FIFE_STAT_STATE : Field := ⟨555, 0, 2, .ro, (fun _ => 0), .any, [⟨0x1e, 8, 4, 0x40, 0, 0, 4⟩]⟩
def FIFE_STAT_CAUSE : Field := ⟨556, 4, 4, .ro, (fun _ => 0), .any, [⟨0x1e, 8, 4, 0x40, 0, 0, 4⟩]⟩
def FIFE_STAT_PHYS : Field := ⟨557, 8, 3, .ro, (fun i => i), .any, [⟨0x1e, 8, 4, 0x40, 0, 0, 4⟩]⟩
def FIFE_STAT_DATALOST : Field := ⟨558, 11, 1, .ro, (fun _ => 0), .any, [⟨0x1e, 8, 4, 0x40, 0, 0, 4⟩]⟩
def FIFE_STAT_PC : Field := ⟨559, 16, 14, .ro, (fun _ => 0), .any, [⟨0x1e, 8, 4, 0x40, 0, 0, 4⟩]⟩
def FIFE_CNT : Field := ⟨560, 0, 32, .rc, (fun _ => 0), .any, [⟨0x1e, 0xc, 4, 0x40, 0, 0, 4⟩]⟩
def FIFE_FLT_FADDR : Field := ⟨561, 0, 16, .ro, (fun _ => 0), .any, [⟨0x1e, 0x10, 4, 0x40, 0, 0, 4⟩]⟩
def FIFE_MSEL_CORE : Field := ⟨562, 0, 2, .rw, (fun _ => 0), .any, [⟨0x1e, 0x800, 1, 0, 0, 0, 1⟩]⟩
def FIFE_MSEL_MEM : Field := ⟨563, 4, 1, .rw, (fun _ => 0), .any, [⟨0x1e, 0x800, 1, 0, 0, 0, 1⟩]⟩
def FIFE_MSEL_AINC : Field := ⟨564, 7, 1, .rw, (fun _ => 0), .any, [⟨0x1e, 0x800, 1, 0, 0, 0, 1⟩]⟩
def FIFE_MSEL_ADDR : Field := ⟨565, 16, 15, .rw, (fun _ => 0), .any, [⟨0x1e, 0x800, 1, 0, 0, 0, 1⟩]⟩
def FIFE_MDATA0 : Field := ⟨566, 0, 32, .rw, (fun _ => 0), .any, [⟨0x1e, 0x804, 1, 0, 0, 0, 1⟩]⟩
def FIFE_MDATA1 : Field := ⟨567, 0, 32, .ro, (fun _ => 0), .any, [⟨0x1e, 0x808, 1, 0, 0, 0, 1⟩]⟩
def FIFE_SPARE_C4 : Field := ⟨568, 0, 2, .ro, (fun _ => 0), .any, [⟨0x1e, 0x810, 1, 0, 0, 0, 1⟩]⟩
def FIFE_SPARE_SERVES : Field := ⟨569, 4, 2, .ro, (fun _ => 0), .any, [⟨0x1e, 0x810, 1, 0, 0, 0, 1⟩]⟩
def FIFE_SPARE_RETIRED : Field := ⟨570, 8, 5, .ro, (fun _ => 0), .any, [⟨0x1e, 0x810, 1, 0, 0, 0, 1⟩]⟩
/-! ### R785 -/
def SHW_STAT_MODE : Field := ⟨571, 0, 2, .ro, (fun _ => 0), .any, [⟨0x1f, 0, 1, 0, 0, 0, 1⟩]⟩
def SHW_STAT_LLDBG : Field := ⟨572, 2, 1, .w1c, (fun _ => 0), .any, [⟨0x1f, 0, 1, 0, 0, 0, 1⟩]⟩
def SHW_STAT_PC : Field := ⟨573, 16, 14, .ro, (fun _ => 0), .any, [⟨0x1f, 0, 1, 0, 0, 0, 1⟩]⟩
def SHW_CFG_SPLITMAX : Field := ⟨574, 0, 7, .rw, (fun _ => 0xa), (.range 1 100), [⟨0x1f, 4, 1, 0, 0, 0, 1⟩]⟩
def SHW_MM0_KIND : Field := ⟨575, 0, 2, .ro, (fun _ => 0), .any, [⟨0x1f, 8, 1, 0, 0, 0, 1⟩]⟩
def SHW_MM0_PC : Field := ⟨576, 16, 14, .ro, (fun _ => 0), .any, [⟨0x1f, 8, 1, 0, 0, 0, 1⟩]⟩
def SHW_MM1_VALA : Field := ⟨577, 0, 16, .ro, (fun _ => 0), .any, [⟨0x1f, 0xc, 1, 0, 0, 0, 1⟩]⟩
def SHW_MM1_VALB : Field := ⟨578, 16, 16, .ro, (fun _ => 0), .any, [⟨0x1f, 0xc, 1, 0, 0, 0, 1⟩]⟩
def SHW_MM2_WHERE : Field := ⟨579, 0, 16, .ro, (fun _ => 0), .any, [⟨0x1f, 0x10, 1, 0, 0, 0, 1⟩]⟩
def SHW_MMT_LO : Field := ⟨580, 0, 32, .ro, (fun _ => 0), .any, [⟨0x1f, 0x14, 1, 0, 0, 0, 1⟩]⟩
def SHW_MMT_HI : Field := ⟨581, 0, 32, .ro, (fun _ => 0), .any, [⟨0x1f, 0x18, 1, 0, 0, 0, 1⟩]⟩
def SHW_CNT_MISMATCH : Field := ⟨582, 0, 16, .ro, (fun _ => 0), .any, [⟨0x1f, 0x1c, 1, 0, 0, 0, 1⟩]⟩
def SHW_CNT_SPLITS : Field := ⟨583, 16, 16, .rc, (fun _ => 0), .any, [⟨0x1f, 0x1c, 1, 0, 0, 0, 1⟩]⟩
def SHW_HB_HBAGE : Field := ⟨584, 0, 16, .ro, (fun _ => 0xffff), .any, [⟨0x1f, 0x20, 1, 0, 0, 0, 1⟩]⟩
def SHW_HB_TWAGE : Field := ⟨585, 16, 16, .ro, (fun _ => 0xffff), .any, [⟨0x1f, 0x20, 1, 0, 0, 0, 1⟩]⟩
/-! ### R816 -/
def FLT_GLB_GROUND_OFFSET : Field := ⟨586, 0, 1, .w1c, (fun _ => 0), .any, [⟨5, 0x608, 1, 0, 0, 0, 1⟩]⟩
def FLT_GLB_CASE_OVERTEMP : Field := ⟨587, 1, 1, .w1c, (fun _ => 0), .any, [⟨5, 0x608, 1, 0, 0, 0, 1⟩]⟩
def SPR_SEG_RETIRED : Field := ⟨588, 0, 16, .ro, (fun _ => 0), .any, [⟨5, 0xa00, 1, 0, 0, 0, 1⟩]⟩
def SPR_SEG_DERATED : Field := ⟨589, 16, 8, .ro, (fun _ => 0), .any, [⟨5, 0xa00, 1, 0, 0, 0, 1⟩]⟩
def SPR_SRAM_ROWS : Field := ⟨590, 0, 16, .ro, (fun _ => 0), .any, [⟨5, 0xa04, 1, 0, 0, 0, 1⟩]⟩
def SPR_SRAM_EXHAUSTED : Field := ⟨591, 16, 8, .ro, (fun _ => 0), .any, [⟨5, 0xa04, 1, 0, 0, 0, 1⟩]⟩
def SPR_MISC_FITSP : Field := ⟨592, 0, 2, .ro, (fun _ => 2), .any, [⟨5, 0xa08, 1, 0, 0, 0, 1⟩]⟩
def SPR_MISC_FITLOST : Field := ⟨593, 2, 2, .ro, (fun _ => 0), .any, [⟨5, 0xa08, 1, 0, 0, 0, 1⟩]⟩
def SPR_MISC_CANSP : Field := ⟨594, 4, 1, .ro, (fun _ => 1), .any, [⟨5, 0xa08, 1, 0, 0, 0, 1⟩]⟩
def SPR_MISC_ADCSP : Field := ⟨595, 8, 4, .ro, (fun _ => 0), .any, [⟨5, 0xa08, 1, 0, 0, 0, 1⟩]⟩
def SPR_MISC_ADCLOST : Field := ⟨596, 12, 4, .ro, (fun _ => 0), .any, [⟨5, 0xa08, 1, 0, 0, 0, 1⟩]⟩
def SPR_LOG_COUNT : Field := ⟨597, 0, 16, .ro, (fun _ => 0), .any, [⟨5, 0xa0c, 1, 0, 0, 0, 1⟩]⟩
/-! ### R846 -/
def PWR_REQ_STOP : Field := ⟨598, 0, 1, .wo, (fun _ => 0), .any, [⟨3, 0, 1, 0, 0, 0, 1⟩]⟩
def PWR_REQ_FORCE : Field := ⟨599, 1, 1, .wo, (fun _ => 0), .any, [⟨3, 0, 1, 0, 0, 0, 1⟩]⟩
def PWR_RES_CODE : Field := ⟨600, 0, 8, .ro, (fun _ => 0), .any, [⟨3, 4, 1, 0, 0, 0, 1⟩]⟩
def PWR_RES_ABORT : Field := ⟨601, 8, 3, .ro, (fun _ => 0), .any, [⟨3, 4, 1, 0, 0, 0, 1⟩]⟩
def PWR_RES_SUBCODE : Field := ⟨602, 16, 16, .ro, (fun _ => 0), .any, [⟨3, 4, 1, 0, 0, 0, 1⟩]⟩
def PWR_STAT_STATE : Field := ⟨603, 0, 2, .ro, (fun _ => 2), .any, [⟨3, 8, 1, 0, 0, 0, 1⟩]⟩
def PWR_STAT_RDY : Field := ⟨604, 4, 4, .ro, (fun _ => 0), .any, [⟨3, 8, 1, 0, 0, 0, 1⟩]⟩
def PWR_STAT_START : Field := ⟨605, 8, 4, .ro, (fun _ => 0), .any, [⟨3, 8, 1, 0, 0, 0, 1⟩]⟩
def PWR_CFG_PEWAKE : Field := ⟨606, 0, 1, .rw, (fun _ => 1), .any, [⟨3, 0xc, 1, 0, 0, 0, 1⟩]⟩
def PWR_CFG_TKWAKE : Field := ⟨607, 1, 1, .rw, (fun _ => 1), .any, [⟨3, 0xc, 1, 0, 0, 0, 1⟩]⟩
def PWR_CFG_PERSTWAKE : Field := ⟨608, 2, 1, .rw, (fun _ => 0), .any, [⟨3, 0xc, 1, 0, 0, 0, 1⟩]⟩
def PWR_WAKESRC : Field := ⟨609, 0, 6, .w1c, (fun _ => 0), .any, [⟨3, 0x10, 1, 0, 0, 0, 1⟩]⟩
def PWR_TMR : Field := ⟨610, 0, 32, .rw, (fun _ => 0), .any, [⟨3, 0x14, 1, 0, 0, 0, 1⟩]⟩
def PWR_STOPT : Field := ⟨611, 0, 32, .ro, (fun _ => 0), .any, [⟨3, 0x18, 1, 0, 0, 0, 1⟩]⟩
def PWR_CNT_STOPS : Field := ⟨612, 0, 8, .rc, (fun _ => 0), .any, [⟨3, 0x1c, 1, 0, 0, 0, 1⟩]⟩
def PWR_CNT_ABANDONED : Field := ⟨613, 8, 8, .rc, (fun _ => 0), .any, [⟨3, 0x1c, 1, 0, 0, 0, 1⟩]⟩
def PWR_CNT_REGFAIL : Field := ⟨614, 16, 8, .rc, (fun _ => 0), .any, [⟨3, 0x1c, 1, 0, 0, 0, 1⟩]⟩
def PWR_RDY_REGT : Field := ⟨615, 0, 8, .ro, (fun _ => 0), .any, [⟨3, 0x20, 1, 0, 0, 0, 1⟩]⟩
def PWR_RDY_OSCT : Field := ⟨616, 8, 8, .ro, (fun _ => 0), .any, [⟨3, 0x20, 1, 0, 0, 0, 1⟩]⟩
def PWR_RDY_MEMT : Field := ⟨617, 16, 8, .ro, (fun _ => 0), .any, [⟨3, 0x20, 1, 0, 0, 0, 1⟩]⟩
def PWR_RDY_LOGT : Field := ⟨618, 24, 8, .ro, (fun _ => 0), .any, [⟨3, 0x20, 1, 0, 0, 0, 1⟩]⟩
def PWR_IEST : Field := ⟨619, 0, 16, .ro, (fun _ => 0x9e2), .any, [⟨3, 0x24, 1, 0, 0, 0, 1⟩]⟩
/-! ### R879 -/
def SEC_LC_STATE : Field := ⟨620, 0, 3, .ro, (fun _ => 0), .any, [⟨4, 0, 1, 0, 0, 0, 1⟩]⟩
def SEC_LC_SVCLEFT : Field := ⟨621, 16, 16, .ro, (fun _ => 0), .any, [⟨4, 0, 1, 0, 0, 0, 1⟩]⟩
def SEC_DBG_LEVEL : Field := ⟨622, 0, 2, .ro, (fun _ => 0), .any, [⟨4, 4, 1, 0, 0, 0, 1⟩]⟩
def SEC_DBG_DBGMAX : Field := ⟨623, 4, 2, .rw, (fun _ => 2), .dep, [⟨4, 4, 1, 0, 0, 0, 1⟩]⟩
def SEC_DBG_OBSEVER : Field := ⟨624, 8, 1, .ro, (fun _ => 0), .any, [⟨4, 4, 1, 0, 0, 0, 1⟩]⟩
def SEC_DBG_INVEVER : Field := ⟨625, 9, 1, .ro, (fun _ => 0), .any, [⟨4, 4, 1, 0, 0, 0, 1⟩]⟩
def SEC_DBG_FAILS : Field := ⟨626, 12, 4, .ro, (fun _ => 0), .any, [⟨4, 4, 1, 0, 0, 0, 1⟩]⟩
def SEC_DBG_LOCKLEFT : Field := ⟨627, 16, 16, .ro, (fun _ => 0), .any, [⟨4, 4, 1, 0, 0, 0, 1⟩]⟩
def SEC_SLOTS_PROG : Field := ⟨628, 0, 3, .ro, (fun _ => 0), .any, [⟨4, 8, 1, 0, 0, 0, 1⟩]⟩
def SEC_SLOTS_REVOKED : Field := ⟨629, 4, 3, .ro, (fun _ => 0), .any, [⟨4, 8, 1, 0, 0, 0, 1⟩]⟩
def SEC_SLOTS_FWSLOT : Field := ⟨630, 8, 2, .ro, (fun _ => 0), .any, [⟨4, 8, 1, 0, 0, 0, 1⟩]⟩
def SEC_CTR : Field := ⟨631, 0, 32, .ro, (fun _ => 0), .any, [⟨4, 0xc, 1, 0, 0, 0, 1⟩]⟩
def SEC_SERIAL_LO : Field := ⟨632, 0, 32, .ro, (fun _ => 0), .any, [⟨4, 0x10, 1, 0, 0, 0, 1⟩]⟩
def SEC_SERIAL_HI : Field := ⟨633, 0, 32, .ro, (fun _ => 0), .any, [⟨4, 0x14, 1, 0, 0, 0, 1⟩]⟩
def SEC_DMALOCK_LOCK : Field := ⟨634, 0, 1, .rw, (fun _ => 0), .any, [⟨4, 0x18, 1, 0, 0, 0, 1⟩]⟩
def SEC_VCNT_VIOLS : Field := ⟨635, 0, 16, .rc, (fun _ => 0), .any, [⟨4, 0x1c, 1, 0, 0, 0, 1⟩]⟩
def SEC_VCNT_NEXT : Field := ⟨636, 16, 3, .ro, (fun _ => 0), .any, [⟨4, 0x1c, 1, 0, 0, 0, 1⟩]⟩
/-! ### R903 -/
def ACC_CFG_RELCH : Field := ⟨637, 0, 4, .rw, (fun _ => 0), .any, [⟨0x20, 0, 1, 0, 0, 0, 1⟩]⟩
def ACC_CFG_TKEN : Field := ⟨638, 4, 1, .rw, (fun _ => 0), .any, [⟨0x20, 0, 1, 0, 0, 0, 1⟩]⟩
def ACC_CFG_LFEN : Field := ⟨639, 5, 1, .rw, (fun _ => 0), .any, [⟨0x20, 0, 1, 0, 0, 0, 1⟩]⟩
def ACC_CFG_AUTHT : Field := ⟨640, 8, 8, .rw, (fun _ => 0x1e), .any, [⟨0x20, 0, 1, 0, 0, 0, 1⟩]⟩
def ACC_CFG_LOCKT : Field := ⟨641, 16, 6, .rw, (fun _ => 0xa), (.range 1 60), [⟨0x20, 0, 1, 0, 0, 0, 1⟩]⟩
def ACC_CFG_STARTSW : Field := ⟨642, 22, 6, .rw, (fun _ => 0), .any, [⟨0x20, 0, 1, 0, 0, 0, 1⟩]⟩
def ACC_CFG_STARTEN : Field := ⟨643, 28, 1, .rw, (fun _ => 0), .any, [⟨0x20, 0, 1, 0, 0, 0, 1⟩]⟩
def ACC_RELID_ID : Field := ⟨644, 0, 29, .rw, (fun _ => 0), .dep, [⟨0x20, 4, 1, 0, 0, 0, 1⟩]⟩
def ACC_RELID_IDE : Field := ⟨645, 29, 1, .rw, (fun _ => 0), .any, [⟨0x20, 4, 1, 0, 0, 0, 1⟩]⟩
def ACC_LF_LFI : Field := ⟨646, 0, 7, .rw, (fun _ => 0x32), (.range 20 100), [⟨0x20, 8, 1, 0, 0, 0, 1⟩]⟩
def ACC_CTL_SEARCH : Field := ⟨647, 0, 1, .wo, (fun _ => 0), .any, [⟨0x20, 0xc, 1, 0, 0, 0, 1⟩]⟩
def ACC_CTL_DEAUTH : Field := ⟨648, 1, 1, .wo, (fun _ => 0), .any, [⟨0x20, 0xc, 1, 0, 0, 0, 1⟩]⟩
def ACC_STAT_STATE : Field := ⟨649, 0, 2, .ro, (fun _ => 0), .any, [⟨0x20, 0x10, 1, 0, 0, 0, 1⟩]⟩
def ACC_STAT_HOLDER : Field := ⟨650, 4, 4, .ro, (fun _ => 0), .any, [⟨0x20, 0x10, 1, 0, 0, 0, 1⟩]⟩
def ACC_STAT_RELKEYS : Field := ⟨651, 8, 1, .ro, (fun _ => 0), .any, [⟨0x20, 0x10, 1, 0, 0, 0, 1⟩]⟩
def ACC_STAT_LOCKLEFT : Field := ⟨652, 16, 16, .ro, (fun _ => 0), .any, [⟨0x20, 0x10, 1, 0, 0, 0, 1⟩]⟩
def ACC_CNT_WINFAILS : Field := ⟨653, 0, 8, .ro, (fun _ => 0), .any, [⟨0x20, 0x14, 1, 0, 0, 0, 1⟩]⟩
def ACC_CNT_COLL : Field := ⟨654, 8, 8, .rc, (fun _ => 0), .any, [⟨0x20, 0x14, 1, 0, 0, 0, 1⟩]⟩
def ACC_CNT_AUTHOK : Field := ⟨655, 16, 16, .rc, (fun _ => 0), .any, [⟨0x20, 0x14, 1, 0, 0, 0, 1⟩]⟩
def ACC_CNT2_UNKNOWN : Field := ⟨656, 0, 16, .rc, (fun _ => 0), .any, [⟨0x20, 0x18, 1, 0, 0, 0, 1⟩]⟩
def ACC_CNT2_FAILTOT : Field := ⟨657, 16, 16, .rc, (fun _ => 0), .any, [⟨0x20, 0x18, 1, 0, 0, 0, 1⟩]⟩
def ACC_RELCTR : Field := ⟨658, 0, 32, .ro, (fun _ => 0), .any, [⟨0x20, 0x1c, 1, 0, 0, 0, 1⟩]⟩
/-! ### R927 -/
def UPD_STAT_STATE : Field := ⟨659, 0, 3, .ro, (fun _ => 0), .any, [⟨0x21, 0, 1, 0, 0, 0, 1⟩]⟩
def UPD_STAT_ACTIVE : Field := ⟨660, 4, 1, .ro, (fun _ => 0), .any, [⟨0x21, 0, 1, 0, 0, 0, 1⟩]⟩
def UPD_STAT_FALLBACK : Field := ⟨661, 5, 1, .ro, (fun _ => 0), .any, [⟨0x21, 0, 1, 0, 0, 0, 1⟩]⟩
def UPD_STAT_LASTFAIL : Field := ⟨662, 8, 4, .ro, (fun _ => 0), .any, [⟨0x21, 0, 1, 0, 0, 0, 1⟩]⟩
def UPD_CFG_CONFIRMT : Field := ⟨663, 0, 8, .rw, (fun _ => 0x3c), (.range 10 255), [⟨0x21, 4, 1, 0, 0, 0, 1⟩]⟩
def UPD_CFG_AUTOCONF : Field := ⟨664, 8, 1, .rw, (fun _ => 0), .any, [⟨0x21, 4, 1, 0, 0, 0, 1⟩]⟩
def UPD_CFG_RECLOSE : Field := ⟨665, 9, 1, .rw, (fun _ => 1), .any, [⟨0x21, 4, 1, 0, 0, 0, 1⟩]⟩
def UPD_VERA : Field := ⟨666, 0, 32, .ro, (fun _ => 0), .any, [⟨0x21, 8, 1, 0, 0, 0, 1⟩]⟩
def UPD_VERB : Field := ⟨667, 0, 32, .ro, (fun _ => 0), .any, [⟨0x21, 0xc, 1, 0, 0, 0, 1⟩]⟩
def UPD_SVN_FUSED : Field := ⟨668, 0, 7, .ro, (fun _ => 0), .any, [⟨0x21, 0x10, 1, 0, 0, 0, 1⟩]⟩
def UPD_SVN_STAGED : Field := ⟨669, 16, 7, .ro, (fun _ => 0), .any, [⟨0x21, 0x10, 1, 0, 0, 0, 1⟩]⟩
def UPD_BYTES : Field := ⟨670, 0, 32, .ro, (fun _ => 0), .any, [⟨0x21, 0x14, 1, 0, 0, 0, 1⟩]⟩
def SET_STAT_SCHEMA : Field := ⟨671, 0, 16, .ro, (fun _ => 0), .any, [⟨0x21, 0x18, 1, 0, 0, 0, 1⟩]⟩
def SET_STAT_RESULT : Field := ⟨672, 16, 2, .ro, (fun _ => 0), .any, [⟨0x21, 0x18, 1, 0, 0, 0, 1⟩]⟩
def SET_STAT_REASON : Field := ⟨673, 20, 4, .ro, (fun _ => 0), .any, [⟨0x21, 0x18, 1, 0, 0, 0, 1⟩]⟩
def UPD_RST_LAST : Field := ⟨674, 0, 16, .ro, (fun _ => 0), .any, [⟨0x21, 0x1c, 1, 0, 0, 0, 1⟩]⟩
def UPD_RST_COUNT : Field := ⟨675, 16, 16, .rc, (fun _ => 0), .any, [⟨0x21, 0x1c, 1, 0, 0, 0, 1⟩]⟩
/-! ### R54 -/
def GLB_VS_VOLT : Field := ⟨676, 0, 16, .ro, (fun _ => 0), .any, [⟨0, 0x208, 6, 4, 0, 0, 6⟩]⟩
def GLB_VS_CURR : Field := ⟨677, 16, 16, .ro, (fun _ => 0), .any, [⟨0, 0x208, 6, 4, 0, 0, 6⟩]⟩
/-! ### R589 -/
def CAN_XBT_DBRP : Field := ⟨678, 0, 6, .rw, (fun _ => 1), (.range 1 32), [⟨0x14, 0xc, 4, 0x400, 0, 0, 4⟩, ⟨0x15, 0xc, 4, 0x400, 0, 4, 4⟩, ⟨0x16, 0xc, 4, 0x400, 0, 8, 4⟩, ⟨0x17, 0xc, 4, 0x400, 0, 12, 4⟩]⟩
def CAN_XBT_DTSEG1 : Field := ⟨679, 8, 6, .rw, (fun _ => 5), (.range 1 63), [⟨0x14, 0xc, 4, 0x400, 0, 0, 4⟩, ⟨0x15, 0xc, 4, 0x400, 0, 4, 4⟩, ⟨0x16, 0xc, 4, 0x400, 0, 8, 4⟩, ⟨0x17, 0xc, 4, 0x400, 0, 12, 4⟩]⟩
def CAN_XBT_DTSEG2 : Field := ⟨680, 16, 5, .rw, (fun _ => 2), (.range 1 31), [⟨0x14, 0xc, 4, 0x400, 0, 0, 4⟩, ⟨0x15, 0xc, 4, 0x400, 0, 4, 4⟩, ⟨0x16, 0xc, 4, 0x400, 0, 8, 4⟩, ⟨0x17, 0xc, 4, 0x400, 0, 12, 4⟩]⟩
def CAN_XBT_DSJW : Field := ⟨681, 24, 5, .rw, (fun _ => 2), .dep, [⟨0x14, 0xc, 4, 0x400, 0, 0, 4⟩, ⟨0x15, 0xc, 4, 0x400, 0, 4, 4⟩, ⟨0x16, 0xc, 4, 0x400, 0, 8, 4⟩, ⟨0x17, 0xc, 4, 0x400, 0, 12, 4⟩]⟩
/-! ### R678 -/
def NM_AWAKE0 : Field := ⟨682, 0, 32, .ro, (fun _ => 0), .any, [⟨0x1c, 0xc08, 1, 0, 0, 0, 1⟩]⟩
def NM_AWAKE1 : Field := ⟨683, 0, 2, .ro, (fun _ => 0), .any, [⟨0x1c, 0xc0c, 1, 0, 0, 0, 1⟩]⟩
def NM_WLATCH0 : Field := ⟨684, 0, 32, .w1c, (fun _ => 0), .any, [⟨0x1c, 0xc10, 1, 0, 0, 0, 1⟩]⟩
def NM_WLATCH1 : Field := ⟨685, 0, 2, .w1c, (fun _ => 0), .any, [⟨0x1c, 0xc14, 1, 0, 0, 0, 1⟩]⟩
/-! ### R879 -/
def SEC_DMAW_BASE_LO_EN : Field := ⟨686, 0, 1, .rw, (fun _ => 0), .any, [⟨4, 0x100, 16, 0x10, 0, 0, 16⟩]⟩
def SEC_DMAW_BASE_LO_ADDR : Field := ⟨687, 12, 20, .rw, (fun _ => 0), .any, [⟨4, 0x100, 16, 0x10, 0, 0, 16⟩]⟩
def SEC_DMAW_BASE_HI : Field := ⟨688, 0, 32, .rw, (fun _ => 0), .any, [⟨4, 0x104, 16, 0x10, 0, 0, 16⟩]⟩
def SEC_DMAW_LIM_LO_ADDR : Field := ⟨689, 12, 20, .rw, (fun _ => 0xfffff), .any, [⟨4, 0x108, 16, 0x10, 0, 0, 16⟩]⟩
def SEC_DMAW_LIM_HI : Field := ⟨690, 0, 32, .rw, (fun _ => 0xffffffff), .any, [⟨4, 0x10c, 16, 0x10, 0, 0, 16⟩]⟩
/-! ### R590 -/
def LIN_SLOT_FID : Field := ⟨691, 0, 6, .rw, (fun _ => 0), .any, [⟨0x18, 0x100, 64, 4, 0x200, 0, 512⟩]⟩
def LIN_SLOT_TYPE : Field := ⟨692, 6, 2, .rw, (fun _ => 0), .dep, [⟨0x18, 0x100, 64, 4, 0x200, 0, 512⟩]⟩
def LIN_SLOT_LENM1 : Field := ⟨693, 8, 3, .rw, (fun _ => 0), .any, [⟨0x18, 0x100, 64, 4, 0x200, 0, 512⟩]⟩
def LIN_SLOT_CKS : Field := ⟨694, 12, 1, .rw, (fun _ => 0), .any, [⟨0x18, 0x100, 64, 4, 0x200, 0, 512⟩]⟩
def LIN_SLOT_DELAY : Field := ⟨695, 16, 8, .rw, (fun _ => 0xa), (.range 1 255), [⟨0x18, 0x100, 64, 4, 0x200, 0, 512⟩]⟩
/-! ### R376 -/
def LD_GAIN_LO : Field := ⟨696, 0, 16, .rw, (fun _ => 0x1000), (.range 0 8192), [⟨0xb, 0x20, 8, 4, 0x40, 0, 96⟩]⟩
def LD_GAIN_HI : Field := ⟨697, 16, 16, .rw, (fun _ => 0x1000), (.range 0 8192), [⟨0xb, 0x20, 8, 4, 0x40, 0, 96⟩]⟩
/-! ### R676 -/
def NM_KAID_TOP : Field := ⟨698, 30, 2, .rw, (fun _ => 0), .any, [⟨0x1c, 0x608, 10, 0x40, 0, 24, 10⟩]⟩
/-! ### R744 -/
def TW_OOBID_TOP : Field := ⟨699, 30, 2, .rw, (fun _ => 0), .any, [⟨0x1d, 8, 1, 0, 0, 0, 1⟩]⟩

/-- LS_LATCH (R220). -/
def LS_LATCH : Field := ⟨700, 0, 16, .ro, (fun _ => 0), .any, [⟨9, 0xc00, 1, 0, 0, 0, 1⟩]⟩
/-- HB_LATCH (R465). -/
def HB_LATCH : Field := ⟨701, 0, 12, .ro, (fun _ => 0), .any, [⟨0xa, 0xc00, 1, 0, 0, 0, 1⟩]⟩
def win00_0 : List Field :=
  [GLB_NETCFG_NET, GLB_VBAT_VBAT, GLB_TCASE_TC, GLB_TDIE_P0, GLB_TDIE_P1, GLB_TDIE_P2, GLB_TDIE_C, GLB_OVSTAT_OV, GLB_OVSTAT_OVS, GLB_OVSTAT_OVCNT, GLB_PDISS_PD, GLB_PDISS_PLIM, GLB_PACE_REQ, GLB_PACE_CUR, GLB_PACE_BUSY, GLB_PACE_REJ_MIRROR, GLB_PACECNT_CHG, GLB_VS_VOLT, GLB_VS_CURR]
/-- The fields of window 00h. -/
def win00 : List Field := win00_0
def win02_0 : List Field :=
  [TB_CFG_TB1SRC, TB_STAT_LOCK, TB_STAT_REFBKP, TB_STAT_REFCLK_LOSS, TB_STAT_FABRIC_SLOW, TB_FABRATE_RATE, TB_FABRATE_MIN, TB_FABLOAD_DEMAND, TB_THROTTLE_PCIE, TB_THROTTLE_REED]
/-- The fields of window 02h. -/
def win02 : List Field := win02_0
def win03_0 : List Field :=
  [PWR_REQ_STOP, PWR_REQ_FORCE, PWR_RES_CODE, PWR_RES_ABORT, PWR_RES_SUBCODE, PWR_STAT_STATE, PWR_STAT_RDY, PWR_STAT_START, PWR_CFG_PEWAKE, PWR_CFG_TKWAKE, PWR_CFG_PERSTWAKE, PWR_WAKESRC, PWR_TMR, PWR_STOPT, PWR_CNT_STOPS, PWR_CNT_ABANDONED, PWR_CNT_REGFAIL, PWR_RDY_REGT, PWR_RDY_OSCT, PWR_RDY_MEMT, PWR_RDY_LOGT, PWR_IEST]
/-- The fields of window 03h. -/
def win03 : List Field := win03_0
def win04_0 : List Field :=
  [SEC_LC_STATE, SEC_LC_SVCLEFT, SEC_DBG_LEVEL, SEC_DBG_DBGMAX, SEC_DBG_OBSEVER, SEC_DBG_INVEVER, SEC_DBG_FAILS, SEC_DBG_LOCKLEFT, SEC_SLOTS_PROG, SEC_SLOTS_REVOKED, SEC_SLOTS_FWSLOT, SEC_CTR, SEC_SERIAL_LO, SEC_SERIAL_HI, SEC_DMALOCK_LOCK, SEC_VCNT_VIOLS, SEC_VCNT_NEXT, SEC_DMAW_BASE_LO_EN, SEC_DMAW_BASE_LO_ADDR, SEC_DMAW_BASE_HI, SEC_DMAW_LIM_LO_ADDR, SEC_DMAW_LIM_HI]
/-- The fields of window 04h. -/
def win04 : List Field := win04_0
def win05_0 : List Field :=
  [FLT_GLB_GROUND_OFFSET, FLT_GLB_CASE_OVERTEMP, SPR_SEG_RETIRED, SPR_SEG_DERATED, SPR_SRAM_ROWS, SPR_SRAM_EXHAUSTED, SPR_MISC_FITSP, SPR_MISC_FITLOST, SPR_MISC_CANSP, SPR_MISC_ADCSP, SPR_MISC_ADCLOST, SPR_LOG_COUNT]
/-- The fields of window 05h. -/
def win05 : List Field := win05_0
def win08_0 : List Field :=
  [CH_CFG0_ILIM, CH_CFG0_ILIM_INR, CH_CFG0_TLIM, CH_CFG0_TSCB, CH_CFG1_NRETRY, CH_CFG1_TOFF, CH_CFG1_TLIM_INR, CH_CFG1_TLATCH, CH_CFG1_DT_OFF, CH_CFG1_DT_HYS, CH_CFG2_PER, CH_CFG2_PHASE, CH_CFG2_SLEW, CH_CFG3_PARSZ, CH_OUT_DUTY, CH_OUT_TIL, CH_STAT_STATE, CH_STAT_CAUSE, CH_STAT_RETRIES, CH_STAT_INR, CH_STAT_REVOPEN, CH_STAT_DERATED, CH_STAT_FAULT, CH_STAT_SEGACT, CH_STAT_SPARES, CH_STAT_PWM, CH_ACC_ACC, CH_ACC_ELAST, CH_MEAS_IOUT, CH_MEAS_TJ, CH_MEAS_DT, HS_LATCH0, HS_LATCH1, HS_GRP_SAG, HS_GRP_SAGCNT, DG_DCFG0_IOL, DG_DCFG0_FINE, DG_DCFG0_OFFTEST, DG_DCFG0_ITEST, DG_DCFG0_VOL_OFF]
def win08_1 : List Field :=
  [DG_DCFG0_LOWDUTY, DG_DCFG0_NFILT, DG_DCFG0_DFRESH, DG_DCFG1_IWARN, DG_DCFG1_TOVL, DG_DCFG1_DRIFT, DG_DSTAT_VERDICT, DG_DSTAT_METHOD, DG_DSTAT_AGE, DG_DSTAT_ILOW, DG_DCNT_OPENCNT, DG_DCNT_UNVCNT, LH_LHR0_LSRC, LH_LHR0_LSTATE, LH_LHR0_EXEMPT, LH_LHR0_LINV, LH_LHR0_LDUTY, LH_LHR0_HOLDW, LH_LHR0_ORPH, LH_LHR0_DBGPOL, LH_LHR0_PAIRED, LH_LHR1_INLIMP, LH_LHR1_INHOLD, LH_LHR1_ORPHANED, LH_LHR1_HOLDLEFT, LIMP_STAT_ACTIVE, LIMP_STAT_CAUSE, LIMP_STAT_HBLOSS, LIMP_STAT_LH, LIMP_STAT_LIMPN, LIMP_STAT_LIMPCNT, LIMP_CTL_RELEASE, HOLD_STAT_HOLDCNT, HOLD_STAT_ORPHCNT]
/-- The fields of window 08h. -/
def win08 : List Field := win08_0 ++ win08_1
def win09_0 : List Field :=
  [CH_CFG0_ILIM, CH_CFG0_TLIM, CH_CFG0_TSCB, CH_CFG1_TLATCH, CH_CFG1_DT_OFF, CH_CFG1_DT_HYS, CH_CFG2_PER, CH_CFG2_PHASE, CH_CFG2_SLEW, CH_CFG3_PARSZ, CH_OUT_DUTY, CH_OUT_TIL, CH_STAT_STATE, CH_STAT_CAUSE, CH_STAT_DERATED, CH_STAT_FAULT, CH_STAT_SEGACT, CH_STAT_SPARES, CH_STAT_PWM, CH_ACC_ACC, CH_ACC_ELAST, CH_MEAS_IOUT, CH_MEAS_TJ, CH_MEAS_DT, DG_DCFG0_IOL, DG_DCFG0_FINE, DG_DCFG0_OFFTEST, DG_DCFG0_ITEST, DG_DCFG0_VOL_OFF, DG_DCFG0_LOWDUTY, DG_DCFG0_NFILT, DG_DCFG0_DFRESH, DG_DCFG1_IWARN, DG_DCFG1_TOVL, DG_DCFG1_DRIFT, DG_DSTAT_VERDICT, DG_DSTAT_METHOD, DG_DSTAT_AGE, DG_DSTAT_ILOW, DG_DCNT_OPENCNT]
def win09_1 : List Field :=
  [DG_DCNT_UNVCNT, LH_LHR0_LSRC, LH_LHR0_LSTATE, LH_LHR0_EXEMPT, LH_LHR0_LINV, LH_LHR0_LDUTY, LH_LHR0_HOLDW, LH_LHR0_ORPH, LH_LHR0_DBGPOL, LH_LHR0_PAIRED, LH_LHR1_INLIMP, LH_LHR1_INHOLD, LH_LHR1_ORPHANED, LH_LHR1_HOLDLEFT]
/-- The fields of window 09h. -/
def win09 : List Field := win09_0 ++ win09_1 ++ [LS_LATCH]
def win0A_0 : List Field :=
  [LH_LHR0_LSRC, LH_LHR0_LSTATE, LH_LHR0_EXEMPT, LH_LHR0_LINV, LH_LHR0_LDUTY, LH_LHR0_HOLDW, LH_LHR0_ORPH, LH_LHR0_DBGPOL, LH_LHR0_PAIRED, LH_LHR1_INLIMP, LH_LHR1_INHOLD, LH_LHR1_ORPHANED, LH_LHR1_HOLDLEFT, HB_CFG0_MODE, HB_CFG0_DECAY, HB_CFG0_STOPMODE, HB_CFG0_PWMF, HB_CFG0_DT, HB_CFG0_ILIM, HB_CFG1_TRAMP, HB_CFG1_TREV, HB_CFG1_TSTALL, HB_CFG1_ISTALL, HB_CFG2_RIPTH, HB_CFG2_TMAX, HB_CFG2_PARKSW, HB_CFG2_PARKEN, HB_CFG2_PARKLVL, HB_CFG2_LDIR, HB_CFG3_TRAPTH, HB_CFG3_REVCNT, HB_CFG3_DFRESH, HB_CFG3_TRAPDIR, HB_CFG4_TZLO, HB_CFG4_TZHI, HB_OUT_DUTY, HB_OUT_DEFF, HB_STAT_STATE, HB_STAT_CAUSE, HB_STAT_VERDICT]
def win0A_1 : List Field :=
  [HB_STAT_DIR, HB_STAT_POSVALID, HB_STAT_INLIMIT, HB_STAT_FAULT, HB_STAT_AGE, HB_MEAS_IMEAS, HB_MEAS_RIPRATE, HB_POS_POS, HB_POS_TARGET]
/-- The fields of window 0Ah. -/
def win0A : List Field := win0A_0 ++ win0A_1 ++ [HB_LATCH]
def win0B_0 : List Field :=
  [LH_LHR0_LSRC, LH_LHR0_LSTATE, LH_LHR0_EXEMPT, LH_LHR0_LINV, LH_LHR0_LDUTY, LH_LHR0_HOLDW, LH_LHR0_ORPH, LH_LHR0_DBGPOL, LH_LHR0_PAIRED, LH_LHR1_INLIMP, LH_LHR1_INHOLD, LH_LHR1_ORPHANED, LH_LHR1_HOLDLEFT, LD_CFG0_ISET, LD_CFG0_FSW, LD_CFG0_SWPH, LD_CFG1_DPER, LD_CFG1_PHASE, LD_CFG1_HYB, LD_CFG2_VOVP, LD_CFG2_VLO, LD_CFG2_VSHORT, LD_CFG2_DFRESH, LD_CFG3_ISOLO, LD_CFG3_TSRC, LD_CFG3_TNTC, LD_CFG3_NTCB, LD_OUT_DUTY, LD_OUT_DEFF, LD_STAT_STATE, LD_STAT_CAUSE, LD_STAT_VERDICT, LD_STAT_HEADROOM, LD_STAT_NTCFAULT, LD_STAT_SOLO, LD_STAT_FAULT, LD_STAT_AGE, LD_MEAS_IMEAS, LD_MEAS_VSTR, LD_TEMP_TS]
def win0B_1 : List Field :=
  [LD_TEMP_GAPP, LD_GCFG_SPREAD, LD_GCFG_SWAUTO, LD_TCCOMMIT, LD_LATCH, LD_GAIN_LO, LD_GAIN_HI]
/-- The fields of window 0Bh. -/
def win0B : List Field := win0B_0 ++ win0B_1
def win0C_0 : List Field :=
  [LH_LHR0_LSRC, LH_LHR0_LSTATE, LH_LHR0_EXEMPT, LH_LHR0_LINV, LH_LHR0_LDUTY, LH_LHR0_HOLDW, LH_LHR0_ORPH, LH_LHR0_DBGPOL, LH_LHR0_PAIRED, LH_LHR1_INLIMP, LH_LHR1_INHOLD, LH_LHR1_ORPHANED, LH_LHR1_HOLDLEFT, MX_CFG0_ICOL, MX_CFG0_NROWSM1, MX_CFG0_LINE, MX_CFG0_BLANK, MX_CFG0_SUPSRC, MX_CFG1_VMX, MX_CFG1_MXFRESH, MX_CFG1_COLEN, MX_STAT_STATE, MX_STAT_SWAPPEND, MX_STAT_VERDICT, MX_STAT_FAULT, MX_STAT_FRAMES]
/-- The fields of window 0Ch. -/
def win0C : List Field := win0C_0
def win0D_0 : List Field :=
  [LH_LHR0_LSRC, LH_LHR0_LSTATE, LH_LHR0_EXEMPT, LH_LHR0_LINV, LH_LHR0_LDUTY, LH_LHR0_HOLDW, LH_LHR0_ORPH, LH_LHR0_DBGPOL, LH_LHR0_PAIRED, LH_LHR1_INLIMP, LH_LHR1_INHOLD, LH_LHR1_ORPHANED, LH_LHR1_HOLDLEFT, SV_CFG0_IBST, SV_CFG0_IPK, SV_CFG0_IHOLD, SV_CFG1_TBST, SV_CFG1_TPK, SV_CFG2_FHOLD, SV_CFG2_BNRPOL, SV_CFG2_TBNR, SV_CFG2_STUCKPOL, SV_CFG2_RECOV, SV_CFG3_FWLO, SV_CFG3_FWHI, SV_CFG4_DIPTH, SV_CFG4_WPCT, SV_CFG4_DFRESH, SV_CFG4_OFFTEST, SV_CFG5_EINIT, SV_STAT_STATE, SV_STAT_CAUSE, SV_STAT_VERDICT, SV_STAT_ARM, SV_STAT_LEARNED, SV_STAT_FAULT, SV_STAT_NOBOOST, SV_STAT_AGE, SV_MEAS_IMEAS, SV_MEAS_TLRN]
def win0D_1 : List Field :=
  [SV_ACT0_TDET, SV_ACT0_TIBST, SV_ACT1_EBST, SV_ACT1_EREC, SV_ACT2_VBST0, SV_ACT2_ACC, SV_ACT3_EREM, BST_CFG_VSET, BST_CFG_CBST, BST_CFG_PCH, BST_CFG1_VFLOOR, BST_STAT_VBST, BST_STAT_STATE, BST_STAT_HEADROOM, BST_STAT_FAULT, BST_STAT_CAUSE, BST_EN_DEFICIT, BST_EN_ELIM, SV_BANK_BOOSTING, SV_BANK_BLATCH, SV_BANK_BKDEF, SV_LATCH]
/-- The fields of window 0Dh. -/
def win0D : List Field := win0D_0 ++ win0D_1
def win0E_0 : List Field :=
  [ARB_CFG_RSVMODE, ARB_CFG_PREEMPT, ARB_CFG_RSVPCT, ARB_DEFLAT01_DL0, ARB_DEFLAT01_DL1, ARB_DEFLAT23_DL2, ARB_DEFLAT23_DL3, ARB_UV_VS_UV0, ARB_UV_VS_UV, ARB_UV_VS_DIM, ARB_UV_HYS, ARB_GRPSTAT_CUT, ARB_GRPSTAT_CUT0, ARB_GRPSTAT_DIM, ARB_GRPSTAT_CUTCNT, ARB_GRPSTAT_CUTB, ARB_GRPSTAT_CUT0B, ARB_DIMK_K5, ARB_DIMK_K6, ARB_PEND_PEND, ARB_CNT_DEFCNT, ARB_CNT_REFCNT, ARB_CNT2_SHEDCNT, ARB_CNT2_POLCNT, ARB_USE_USED, ARB_USE_LIMIT, ARB_RSV_RSV, ARB_RSV_PEAK, ARB_LOGCNT_NEXT, ARB_LOGCNT_TOTAL]
/-- The fields of window 0Eh. -/
def win0E : List Field := win0E_0
def win10_0 : List Field :=
  [LP_CFG0_KIND, LP_CFG0_FBSRC, LP_CFG0_FBIDX, LP_CFG0_FBMISS, LP_CFG0_OBJECT, LP_CFG1_PERIOD, LP_CFG1_DEN, LP_CFG1_POL, LP_CFG1_TSAT, LP_KP, LP_KI, LP_KD, LP_KF, LP_FOFS, LP_OUTMIN, LP_OUTMAX, LP_OFIX, LP_RISE, LP_FALL, LP_SP, LP_STAT_STATE, LP_STAT_OUTSAT, LP_STAT_FBVALID, LP_STAT_EVER, LP_STAT_OPENRSN, LP_FB, LP_OUT, LP_SPEFF, LP_INTEG, LP_FLAGS, LP_FLAGS_OUTLIM, LP_FLAGS_SATTO, LP_FLAGS_FBLOST, LP_FLAGS_SATCNT, LP_SATT_SATT, LP_SATT_MISS, LP_ACT0, LP_ACT1, LP_STICKY0, LP_STICKY1]
/-- The fields of window 10h. -/
def win10 : List Field := win10_0
def win11_0 : List Field :=
  [SW_CFG0_WET, SW_CFG0_PULL, SW_CFG0_SAMPLED, SW_CFG0_THRHI, SW_CFG0_THRLO, SW_CFG0_DEBN, SW_CFG1_SPER, SW_CFG1_WAKE, SW_CFG1_WEDGE, SW_CFG1_EVEN, SW_CFG1_INV, SW_CFG1_SWET, SW_STAT_LEVEL, SW_STAT_VALID, SW_STAT_RAW, SW_STAT_CHG, SW_MEAS_VIN, SW_LVL0, SW_LVL1, SW_VALID0, SW_VALID1, SW_STOPCFG_PROFILE, SW_STOPCFG_TPOLL, SW_STOPCFG_WPOLLN, SW_STOPCFG_TPERC, SW_WAKE0, SW_WAKE1, SW_WETSUM_SUM]
/-- The fields of window 11h. -/
def win11 : List Field := win11_0
def win12_0 : List Field :=
  [II_CFG0_MODE, II_CFG0_ILIM, II_CFG0_THRHI, II_CFG0_THRLO, II_CFG0_DEBN, II_CFG0_WBEN, II_CFG0_EVEN, II_CFG0_INV, II_CFG1_SPER, II_CFG1_WBTH, II_CFG1_CNTEDGE, II_STAT_LEVEL, II_STAT_VALID, II_STAT_RAW, II_STAT_WIREBRK, II_STAT_CNTRST, II_STAT_IIN, II_CNT_COUNT, IO_CFG_IOL, IO_CFG_DFRESH, IO_STAT_STATE, IO_STAT_CAUSE, IO_STAT_VERDICT, IO_STAT_FAULT, IO_STAT_IOUT, BAR_STAT_UP, BAR_STAT_LOST, BAR_STAT_LOSSCNT, BAR_ERR_UPBAD, BAR_ERR_DNBAD, BAR_VFLD_VFLD, BAR_VFLD_VFLDUV, IO_LATCH]
/-- The fields of window 12h. -/
def win12 : List Field := win12_0
def win14_0 : List Field :=
  [CAN_CTL_EN, CAN_CTL_FMT, CAN_CTL_COLLMAX, CAN_NBT_NBRP, CAN_NBT_NTSEG1, CAN_NBT_NTSEG2, CAN_NBT_NSJW, CAN_DBT_DBRP, CAN_DBT_DTSEG1, CAN_DBT_DTSEG2, CAN_DBT_DSJW, CAN_TDC_TDCEN, CAN_TDC_TDCO, CAN_TDC_XTDCO, CAN_TDC_TDCV, CAN_XCVR_MODE, CAN_XCVR_XLFAST, CAN_XCVR_SLICE, CAN_STAT_STATE, CAN_STAT_EWARN, CAN_STAT_RECOVERING, CAN_STAT_TEC, CAN_STAT_REC, CAN_STAT_TXQN, CAN_ERRCNT_BOCNT, CAN_ERRCNT_ERRFR, CAN_TXRX_TXOK, CAN_TXRX_RXOK, CAN_LASTERR_TYPE, CAN_LASTERR_TX, CAN_LASTERR_POS, RXQ_BASE_LO_ADDR, RXQ_BASE_HI_ADDR, RXQ_CFG_LOG2SZ, RXQ_CFG_ENTSZ, RXQ_CFG_VEC, RXQ_CFG_MODCNT, RXQ_CFG_MODTIME, RXQ_CFG_ALL, RXQ_CFG_EN]
def win14_1 : List Field :=
  [RXQ_IDX_TAIL, RXQ_IDX_HEAD, RXQ_STAT_DROP, RXQ_STAT_TOOBIG, TM_CFG_TMEN, TM_CFG_REFPER, TM_ID_ID, TM_ID_IDE, TM_STAT_CYCLE, TM_STAT_PENDING, TM_STAT_CONFLICT, TM_STAT_LATE, CAN_XBT_DBRP, CAN_XBT_DTSEG1, CAN_XBT_DTSEG2, CAN_XBT_DSJW]
/-- The fields of window 14h. -/
def win14 : List Field := win14_0 ++ win14_1
def win15_0 : List Field :=
  [CAN_CTL_EN, CAN_CTL_FMT, CAN_CTL_COLLMAX, CAN_NBT_NBRP, CAN_NBT_NTSEG1, CAN_NBT_NTSEG2, CAN_NBT_NSJW, CAN_DBT_DBRP, CAN_DBT_DTSEG1, CAN_DBT_DTSEG2, CAN_DBT_DSJW, CAN_TDC_TDCEN, CAN_TDC_TDCO, CAN_TDC_XTDCO, CAN_TDC_TDCV, CAN_XCVR_MODE, CAN_XCVR_XLFAST, CAN_XCVR_SLICE, CAN_STAT_STATE, CAN_STAT_EWARN, CAN_STAT_RECOVERING, CAN_STAT_TEC, CAN_STAT_REC, CAN_STAT_TXQN, CAN_ERRCNT_BOCNT, CAN_ERRCNT_ERRFR, CAN_TXRX_TXOK, CAN_TXRX_RXOK, CAN_LASTERR_TYPE, CAN_LASTERR_TX, CAN_LASTERR_POS, RXQ_BASE_LO_ADDR, RXQ_BASE_HI_ADDR, RXQ_CFG_LOG2SZ, RXQ_CFG_ENTSZ, RXQ_CFG_VEC, RXQ_CFG_MODCNT, RXQ_CFG_MODTIME, RXQ_CFG_ALL, RXQ_CFG_EN]
def win15_1 : List Field :=
  [RXQ_IDX_TAIL, RXQ_IDX_HEAD, RXQ_STAT_DROP, RXQ_STAT_TOOBIG, TM_CFG_TMEN, TM_CFG_REFPER, TM_ID_ID, TM_ID_IDE, TM_STAT_CYCLE, TM_STAT_PENDING, TM_STAT_CONFLICT, TM_STAT_LATE, CAN_XBT_DBRP, CAN_XBT_DTSEG1, CAN_XBT_DTSEG2, CAN_XBT_DSJW]
/-- The fields of window 15h. -/
def win15 : List Field := win15_0 ++ win15_1
def win16_0 : List Field :=
  [CAN_CTL_EN, CAN_CTL_FMT, CAN_CTL_COLLMAX, CAN_NBT_NBRP, CAN_NBT_NTSEG1, CAN_NBT_NTSEG2, CAN_NBT_NSJW, CAN_DBT_DBRP, CAN_DBT_DTSEG1, CAN_DBT_DTSEG2, CAN_DBT_DSJW, CAN_TDC_TDCEN, CAN_TDC_TDCO, CAN_TDC_XTDCO, CAN_TDC_TDCV, CAN_XCVR_MODE, CAN_XCVR_XLFAST, CAN_XCVR_SLICE, CAN_STAT_STATE, CAN_STAT_EWARN, CAN_STAT_RECOVERING, CAN_STAT_TEC, CAN_STAT_REC, CAN_STAT_TXQN, CAN_ERRCNT_BOCNT, CAN_ERRCNT_ERRFR, CAN_TXRX_TXOK, CAN_TXRX_RXOK, CAN_LASTERR_TYPE, CAN_LASTERR_TX, CAN_LASTERR_POS, RXQ_BASE_LO_ADDR, RXQ_BASE_HI_ADDR, RXQ_CFG_LOG2SZ, RXQ_CFG_ENTSZ, RXQ_CFG_VEC, RXQ_CFG_MODCNT, RXQ_CFG_MODTIME, RXQ_CFG_ALL, RXQ_CFG_EN]
def win16_1 : List Field :=
  [RXQ_IDX_TAIL, RXQ_IDX_HEAD, RXQ_STAT_DROP, RXQ_STAT_TOOBIG, TM_CFG_TMEN, TM_CFG_REFPER, TM_ID_ID, TM_ID_IDE, TM_STAT_CYCLE, TM_STAT_PENDING, TM_STAT_CONFLICT, TM_STAT_LATE, CAN_XBT_DBRP, CAN_XBT_DTSEG1, CAN_XBT_DTSEG2, CAN_XBT_DSJW]
/-- The fields of window 16h. -/
def win16 : List Field := win16_0 ++ win16_1
def win17_0 : List Field :=
  [CAN_CTL_EN, CAN_CTL_FMT, CAN_CTL_COLLMAX, CAN_NBT_NBRP, CAN_NBT_NTSEG1, CAN_NBT_NTSEG2, CAN_NBT_NSJW, CAN_DBT_DBRP, CAN_DBT_DTSEG1, CAN_DBT_DTSEG2, CAN_DBT_DSJW, CAN_TDC_TDCEN, CAN_TDC_TDCO, CAN_TDC_XTDCO, CAN_TDC_TDCV, CAN_XCVR_MODE, CAN_XCVR_XLFAST, CAN_XCVR_SLICE, CAN_STAT_STATE, CAN_STAT_EWARN, CAN_STAT_RECOVERING, CAN_STAT_TEC, CAN_STAT_REC, CAN_STAT_TXQN, CAN_ERRCNT_BOCNT, CAN_ERRCNT_ERRFR, CAN_TXRX_TXOK, CAN_TXRX_RXOK, CAN_LASTERR_TYPE, CAN_LASTERR_TX, CAN_LASTERR_POS, RXQ_BASE_LO_ADDR, RXQ_BASE_HI_ADDR, RXQ_CFG_LOG2SZ, RXQ_CFG_ENTSZ, RXQ_CFG_VEC, RXQ_CFG_MODCNT, RXQ_CFG_MODTIME, RXQ_CFG_ALL, RXQ_CFG_EN]
def win17_1 : List Field :=
  [RXQ_IDX_TAIL, RXQ_IDX_HEAD, RXQ_STAT_DROP, RXQ_STAT_TOOBIG, TM_CFG_TMEN, TM_CFG_REFPER, TM_ID_ID, TM_ID_IDE, TM_STAT_CYCLE, TM_STAT_PENDING, TM_STAT_CONFLICT, TM_STAT_LATE, CAN_XBT_DBRP, CAN_XBT_DTSEG1, CAN_XBT_DTSEG2, CAN_XBT_DSJW]
/-- The fields of window 17h. -/
def win17 : List Field := win17_0 ++ win17_1
def win18_0 : List Field :=
  [RXQ_BASE_LO_ADDR, RXQ_BASE_HI_ADDR, RXQ_CFG_LOG2SZ, RXQ_CFG_ENTSZ, RXQ_CFG_VEC, RXQ_CFG_MODCNT, RXQ_CFG_MODTIME, RXQ_CFG_ALL, RXQ_CFG_EN, RXQ_IDX_TAIL, RXQ_IDX_HEAD, RXQ_STAT_DROP, RXQ_STAT_TOOBIG, LIN_CFG_EN, LIN_CFG_ROLE, LIN_CFG_TERM, LIN_CFG_V24, LIN_CFG_BAUD, LIN_STAT_STATE, LIN_STAT_TABLE, LIN_STAT_SLOT, LIN_STAT_ERRCNT, LIN_SLOT_FID, LIN_SLOT_TYPE, LIN_SLOT_LENM1, LIN_SLOT_CKS, LIN_SLOT_DELAY]
/-- The fields of window 18h. -/
def win18 : List Field := win18_0
def win19_0 : List Field :=
  [RXQ_BASE_LO_ADDR, RXQ_BASE_HI_ADDR, RXQ_CFG_LOG2SZ, RXQ_CFG_ENTSZ, RXQ_CFG_VEC, RXQ_CFG_MODCNT, RXQ_CFG_MODTIME, RXQ_CFG_ALL, RXQ_CFG_EN, RXQ_IDX_TAIL, RXQ_IDX_HEAD, RXQ_STAT_DROP, RXQ_STAT_TOOBIG, ETH_PCFG_EN, ETH_PCFG_MS, ETH_PCFG_LEARN, ETH_PCFG_MAXFRM, ETH_PCFG_PVID, ETH_PCPMAP, ETH_STAT_LINK, ETH_STAT_SQI, ETH_STAT_LINKCHG, ETH_TRAF_RXFR, ETH_TRAF_TXFR, ETH_DROP_BADFCS, ETH_DROP_NOMEM, ETH_DROP_QBVDROP, ETH_DROP_TOOLONG, ETH_RSV_PRSV, ETH_RSV_SHMAX, QBV_CFG_EN, QBV_CFG_LEN, QBV_CYCLE, QBV_BASE_LO, QBV_BASE_HI, ETH_HOSTMAC_LO, ETH_HOSTMAC_HI, ETH_GCFG_AGE, ETH_GCFG_XLTYPE, ETH_PMEM_FREE]
def win19_1 : List Field :=
  [ETH_PMEM_MINFREE, GPTP_CFG_ROLE, GPTP_CFG_FPORT, GPTP_CFG_PORTS, GPTP_CFG_SYNCLOG, GPTP_STAT_STATE, GPTP_STAT_STEPS, GPTP_OFS, CB_CFG_HIST, CB_CFG_RESET, CB_CFG_LATENT, CB_STAT_DISCARD, CB_STAT_ROGUE, CB_STAT2_OOO, CB_STAT2_LOST, QBV_SEL_PORT, QBV_SEL_ENTRY, ETH_VLAN_VID, ETH_VLAN_MEMBERS, ETH_VLAN_UNTAG, ETH_VLAN_EN]
/-- The fields of window 19h. -/
def win19 : List Field := win19_0 ++ win19_1
def win1A_0 : List Field :=
  [FIT_IDX_INDEX, FIT_CMD_OP, FIT_STAT_BUSY, FIT_STAT_USED, FIT_GSTAT_UNMATCHED, FIT_GSTAT_NOFIT, FIT_SEQ_SEQ, FIT_SEQ_AGE]
/-- The fields of window 1Ah. -/
def win1A : List Field := win1A_0
def win1C_0 : List Field :=
  [NM_CFG_EN, NM_CFG_ARM, NM_CFG_SWEN, NM_CFG_SWFD, NM_CFG_NIDBYTE, NM_CFG_OWNID, NM_CFG_PARENT, NM_TIME_TKA, NM_TIME_TPREP, NM_TIME_KAPER, NM_KAID_ID, NM_KAID_IDE, NM_EDA_HI, NM_STAT_STATE, NM_STAT_HOSTNEED, NM_STAT_FWDNEED, NM_STAT_KEEPER, NM_CNT_WAKES, NM_CNT_FSCNT, NM_SWID_SWID, NM_SWID_SWIDE, NM_SWMASK, NM_SWCTL_SWDLC, NM_SWDATA_LO, NM_SWDATA_HI, NM_GCFG_TFS, NM_GCFG_TFSIDLE, NM_GCFG_STUCKT, NM_GCFG_FWDHOLD, NM_GSTAT_ALLSLEEP, NM_NSEL_SEG, NM_NSEL_CLR, NM_AWAKE0, NM_AWAKE1, NM_WLATCH0, NM_WLATCH1, NM_KAID_TOP]
/-- The fields of window 1Ch. -/
def win1C : List Field := win1C_0
def win1D_0 : List Field :=
  [TW_CFG_EN, TW_CFG_PREF, TW_CFG_OOBKIND, TW_CFG_OOBSEG, TW_CFG_OOBPER, TW_CYC_CYCLE, TW_OOBID_ID, TW_OOBID_IDE, TW_OOBDA_HI, TW_SOL_IGNSW, TW_SOL_IGNEN, TW_SOL_IGNDLY, TW_ISEL_FITLO, TW_ISEL_FITCNT, TW_CORE_BASE, TW_CORE_COUNT, TW_ISIZE_SIZE, TW_ISIZE_XFER, TW_STAT_STATE, TW_STAT_ROLE, TW_STAT_ROLELINE, TW_STAT_OKLINE, TW_STAT_LANES, TW_STAT_OOBOK, TW_AGE_AGE, TW_AGE_MISS, TW_CNT_TAKEOVERS, TW_CNT_SWAPS, TW_JRNL_USED, TW_JRNL_NOTLEAD, TW_SOLSTAT_SINCE, TW_SOLSTAT_LASTDET, TW_SOLSTAT_LASTON, TW_FLAGS_UNPROVEN, TW_FLAGS_LINEFLT, TW_FLAGS_DUALLEAD, TW_EQ_STEP, TW_OBJ_MODE, TW_OBJ_STBY, TW_OOBID_TOP]
/-- The fields of window 1Dh. -/
def win1D : List Field := win1D_0
def win1E_0 : List Field :=
  [FIFE_CCFG_PF, FIFE_CCFG_PRIO, FIFE_CTL_RUN, FIFE_CTL_RESTART, FIFE_CTL_BIST, FIFE_STAT_STATE, FIFE_STAT_CAUSE, FIFE_STAT_PHYS, FIFE_STAT_DATALOST, FIFE_STAT_PC, FIFE_CNT, FIFE_FLT_FADDR, FIFE_MSEL_CORE, FIFE_MSEL_MEM, FIFE_MSEL_AINC, FIFE_MSEL_ADDR, FIFE_MDATA0, FIFE_MDATA1, FIFE_SPARE_C4, FIFE_SPARE_SERVES, FIFE_SPARE_RETIRED]
/-- The fields of window 1Eh. -/
def win1E : List Field := win1E_0
def win1F_0 : List Field :=
  [SHW_STAT_MODE, SHW_STAT_LLDBG, SHW_STAT_PC, SHW_CFG_SPLITMAX, SHW_MM0_KIND, SHW_MM0_PC, SHW_MM1_VALA, SHW_MM1_VALB, SHW_MM2_WHERE, SHW_MMT_LO, SHW_MMT_HI, SHW_CNT_MISMATCH, SHW_CNT_SPLITS, SHW_HB_HBAGE, SHW_HB_TWAGE]
/-- The fields of window 1Fh. -/
def win1F : List Field := win1F_0
def win20_0 : List Field :=
  [ACC_CFG_RELCH, ACC_CFG_TKEN, ACC_CFG_LFEN, ACC_CFG_AUTHT, ACC_CFG_LOCKT, ACC_CFG_STARTSW, ACC_CFG_STARTEN, ACC_RELID_ID, ACC_RELID_IDE, ACC_LF_LFI, ACC_CTL_SEARCH, ACC_CTL_DEAUTH, ACC_STAT_STATE, ACC_STAT_HOLDER, ACC_STAT_RELKEYS, ACC_STAT_LOCKLEFT, ACC_CNT_WINFAILS, ACC_CNT_COLL, ACC_CNT_AUTHOK, ACC_CNT2_UNKNOWN, ACC_CNT2_FAILTOT, ACC_RELCTR]
/-- The fields of window 20h. -/
def win20 : List Field := win20_0
def win21_0 : List Field :=
  [UPD_STAT_STATE, UPD_STAT_ACTIVE, UPD_STAT_FALLBACK, UPD_STAT_LASTFAIL, UPD_CFG_CONFIRMT, UPD_CFG_AUTOCONF, UPD_CFG_RECLOSE, UPD_VERA, UPD_VERB, UPD_SVN_FUSED, UPD_SVN_STAGED, UPD_BYTES, SET_STAT_SCHEMA, SET_STAT_RESULT, SET_STAT_REASON, UPD_RST_LAST, UPD_RST_COUNT]
/-- The fields of window 21h. -/
def win21 : List Field := win21_0
/-- The fields of each window (R9); a window without a table entry here has none. -/
def byWindow (w : Nat) : List Field :=
  match w with
  | 0 => win00
  | 2 => win02
  | 3 => win03
  | 4 => win04
  | 5 => win05
  | 8 => win08
  | 9 => win09
  | 0xa => win0A
  | 0xb => win0B
  | 0xc => win0C
  | 0xd => win0D
  | 0xe => win0E
  | 0x10 => win10
  | 0x11 => win11
  | 0x12 => win12
  | 0x14 => win14
  | 0x15 => win15
  | 0x16 => win16
  | 0x17 => win17
  | 0x18 => win18
  | 0x19 => win19
  | 0x1a => win1A
  | 0x1c => win1C
  | 0x1d => win1D
  | 0x1e => win1E
  | 0x1f => win1F
  | 0x20 => win20
  | 0x21 => win21
  | _ => []

end Sys2Proof.Machine.Reg
end

