-- ==== Sys2Proof/Machine/Types/Access.lean ====
section
/-!
DEFINITION. Sys2Proof/Machine/Types/Access.lean: the access object: searches, sessions, authorisation and lock-out (R881 to R905).
-/
namespace Sys2Proof.Machine

/-- Where a search or session stands (R889). -/
inductive AccPhase where
  | idle
  /-- the rounds of a search -/
  | rounds
  /-- CHALLENGE and the response window -/
  | response
  /-- CONFIRM and the acknowledge window -/
  | acknowledge
  /-- a completed session that has not ended (R888) -/
  | session
  deriving DecidableEq, Repr

/-- An ACC_ENROL that has passed its record's checks (R901): serial, token slot, TK0, and COUNT. -/
structure Enrol where
  cmd    : Cmd
  serial : Nat
  slot   : Nat
  key    : Nat
  count  : Nat
  deriving DecidableEq, Repr

structure AccState where
  phase    : AccPhase := .idle
  /-- the search runs in UHF mode, else in transponder mode (R884) -/
  uhf      : Bool := false
  round    : Nat := 0
  /-- the slot of the round that runs, and its end -/
  slot     : Nat := 0
  slotEnd  : Ns := 0
  /-- a bad frame or an overlap in this slot; a collision in this round (R885) -/
  bad      : Bool := false
  collided : Bool := false
  /-- candidates: token slot, and the search slot of the last round in which each was heard (R886) -/
  cands    : List (Nat × Nat) := []
  /-- candidates that have not been challenged, in their order; the present one -/
  queue    : List Nat := []
  token    : Nat := 0
  serial   : Nat := 0
  key      : Nat := 0
  /-- RC, RT and the session key (R887) -/
  rc       : Nat := 0
  rt       : Nat := 0
  ks       : Nat := 0
  /-- the running window: when it opens and the latest time at which it closes -/
  opens    : Ns := 0
  closes   : Ns := 0
  /-- end of the last frame of the session (R888) -/
  lastAt   : Ns := 0
  /-- ACC_ENROL commands that wait for the session to end, and the one that runs -/
  enrols   : List Enrol := []
  enrol    : Option Enrol := none
  /-- the key generated for the token that is being enrolled (R901) -/
  newKey   : Nat := 0
  /-- times of the failures of the last 10 min (R892) -/
  fails    : List Ns := []
  /-- end of the lock-out, its length in minutes, and when the time left was stored (R893) -/
  lockEnd  : Option Ns := none
  lockMin  : Nat := 0
  storedAt : Ns := 0
  /-- the last success of a running authorisation; its HOLDER -/
  authAt   : Option Ns := none
  holder   : Nat := 0
  /-- the last authorisation's end (R896) -/
  endedAt  : Option Ns := none
  /-- CTR of the next message, and when it falls due (R894, R895) -/
  ctr      : Nat := 0
  relAt    : Ns := 0
  /-- withdraw messages still to send (R897) -/
  withdraw : Nat := 0
  /-- REL_LATE with byte 20 = 1 has been raised since keys were installed -/
  spent    : Bool := false
  /-- network time of the last change of STATE (R904), the counts of READ_COUNTERS -/
  changed  : Nat := 0
  counts   : Tab Nat := []
  /-- frames sent on LF, newest first, and the end of the newest -/
  lf       : List (List Byte) := []
  lfEnd    : Ns := 0
  deriving DecidableEq, Repr

end Sys2Proof.Machine
end

