-- ==== Sys2Proof/Machine/Types/Arb.lean ====
section
/-!
DEFINITION. Sys2Proof/Machine/Types/Arb.lean: the budget arbiter's claims, waiting demands and decision log (R283 to R325).

Budgets 0 to 13 are those of R283; 14 to 20 are the bank budgets of R302 (banks A, B, C and SV12 to SV15), each with room for one
boost phase.  Amounts are in mA on budgets 4 to 12, in µW on 0 to 3, in 0.1 mJ on 13 and in phases on 14 to 20.
-/
namespace Sys2Proof.Machine

/-- An amount on a budget; `off` and `dur` place a transient claim within its demand's transient. -/
structure Claim where
  b   : Nat
  amt : Nat
  off : Ns := 0
  dur : Ns := 0
  deriving DecidableEq, Repr

/-- What a demand asks to be done when it is served. -/
inductive DKind where
  /-- a switch-on or a duty rise by command: the value that the block keeps for it -/
  | on (a b : Nat)
  /-- a restart after a thermal wait -/
  | restart
  /-- a restart slot after a cut (R318) or after a sustained overvoltage (R46) -/
  | slot
  /-- a switch-on by limp-home or an orphan policy (R256): 0 fully on, else 1 + duty in 1/255 -/
  | limp (a : Nat)
  deriving DecidableEq, Repr

/-- A demand (R285, R291). -/
structure Demand where
  obj     : Nat
  cls     : Nat
  kind    : DKind
  cmd     : Option Cmd
  arrival : Ns
  /-- arrival plus allowed latency (R294); none for internal demands (R300) -/
  latest  : Option Ns
  stand   : List Claim
  trans   : List Claim
  /-- length of the transient (R295) -/
  dur     : Ns
  deriving DecidableEq, Repr

/-- Claims and history of an object (R284 to R288). -/
structure Load where
  /-- the object runs: its claims count -/
  on       : Bool := false
  cls      : Nat := 3
  stand    : List Claim := []
  trans    : List Claim := []
  dur      : Ns := 0
  /-- planned end of the transient -/
  transEnd : Ns := 0
  /-- the transient has not ended -/
  inTrans  : Bool := false
  /-- when the object was switched on, and when its transient ended (R286, R305) -/
  onAt     : Ns := 0
  measFrom : Ns := 0
  /-- remembered current, mA; none before the first switch-off (R286, R287) -/
  rem      : Option Nat := none
  /-- shed, and its current has not fallen yet (R307): time of the shed -/
  shedAt   : Option Ns := none
  /-- the object is in a limp state or an orphan state taken from its limp record (R307) -/
  limp     : Bool := false
  /-- on-current by the last measured 1 ms average, mA; none before one since the switch-on (R286) -/
  avg      : Option Nat := none
  /-- when the standing claims were last renewed (R286) -/
  renewed  : Ns := 0
  /-- cut by the group monitor, and whether it waits for a restart slot (R316, R318) -/
  cut      : Bool := false
  deriving DecidableEq, Repr

/-- A decision log entry (R324). -/
structure ArbLog where
  tag      : Nat
  object   : Nat
  code     : Code
  cls      : Nat
  pf       : Nat
  internal : Bool
  sub      : Nat
  time     : Nat
  deriving DecidableEq, Repr

/-- Sag and overvoltage handling of a supply group (R312 to R319, R41 to R46). -/
structure Group where
  /-- restart slots to come after the release of a cut (R318): when, by class -/
  slots     : Tab Ns := []
  /-- restart slots to come after the release of R46 -/
  ovSlots   : Tab Ns := []
  /-- freeze of R42: since when -/
  frozenAt  : Ns := 0
  /-- the sustained switch-off of R46 stands -/
  sustained : Bool := false
  /-- the present freeze has lasted 500 ms -/
  ovCut     : Bool := false
  /-- 1 ms average of the voltage, 10 mV (R182, R944) -/
  avg       : Nat := 0
  /-- the dimming factor of R315, as a ratio: how far the average lies above VS_UV, and the span from VS_UV to VS_DIM -/
  kNum      : Nat := 1
  kDen      : Nat := 1
  /-- since when SAG is set, and the spans of the last 10 ms in which it was (R182, R194) -/
  sagAt     : Option Ns := none
  sags      : List (Ns × Ns) := []
  deriving DecidableEq, Repr

structure ArbState where
  /-- claims by object ID -/
  loads   : Tab Load := []
  /-- waiting demands, in order of arrival -/
  waiting : List Demand := []
  log     : Tab ArbLog := []
  /-- groups 0 to 6 -/
  groups  : Tab Group := []
  /-- since when a budget's usage has exceeded its limit (R305), by b -/
  ovr    : Tab Ns := []
  /-- last shed (R305) -/
  lastShed : Ns := 0
  /-- budgets for which ARB_WARN stands -/
  warned  : List Nat := []
  /-- switch-ons and restarts that the power dies queued while die C is absent (R256); what the arbiter held stays in `waiting` (R309) -/
  dieQueue : List Demand := []
  /-- last switch-on that a power die served in each group (R256) -/
  lastServe : Tab Ns := []
  /-- samples of the last 1 ms, newest first (R944): group voltages at 0 to 6, group currents at 8 + n, currents of objects at 1000h + ID, those taken in an
  on-time at 2000h + ID too -/
  samples   : Tab (List (Ns × Nat)) := []
  deriving DecidableEq, Repr

end Sys2Proof.Machine
end

