-- ==== Sys2Proof/Machine/Types/In.lean ====
section
/-!
DEFINITION. Sys2Proof/Machine/Types/In.lean: the switch input front end and the isolated bank (R498 to R537): what no register shows.
-/
namespace Sys2Proof.Machine

/-- A switch input. -/
structure SwIn where
  /-- the comparator's last reading (R502) -/
  cmp     : Bool := false
  /-- the debounced level before INV (R503), and how many samples in a row have read `cmp` -/
  deb     : Bool := false
  run     : Nat := 0
  /-- network time of the last change of LEVEL (R536) -/
  changed : Nat := 0
  /-- the last sample that agreed with the debounced level (R627) -/
  smp     : Option Stamp := none
  /-- monotonic time of the last sample (R503) -/
  sampleAt : Option Ns := none
  /-- the debounced level held at Stop entry, how many polls in a row have differed from it, and when the last poll was (R509, R511) -/
  held    : Bool := false
  polls   : Nat := 0
  pollAt  : Option Ns := none
  /-- network time of the latched wake, and whether a poll latched it (R513, R514) -/
  wakeAt  : Nat := 0
  polled  : Bool := false
  deriving DecidableEq, Repr

/-- An isolated input. -/
structure IiIn where
  raw     : Bool := false
  deb     : Bool := false
  run     : Nat := 0
  /-- frames since the last sample (R517) -/
  frames  : Nat := 0
  changed : Nat := 0
  smp     : Option Stamp := none
  /-- COUNT_CLEAR commands that wait for an uplink frame with the count at 0 -/
  clears  : List Cmd := []
  /-- the field side has been told to clear the count -/
  told    : Bool := false
  deriving DecidableEq, Repr

/-- An isolated input as the field side knows it: MODE, THRHI and THRLO of the last good downlink frame, and the comparator's last reading (R516). -/
structure IiField where
  mode  : Nat := 0
  thrhi : Nat := 0x30
  thrlo : Nat := 0x20
  cmp   : Bool := false
  deriving DecidableEq, Repr

/-- One direction of the barrier link, as its receiver sees it (R530). -/
structure BarSide where
  /-- good frames in a row, bad or missing frames in a row -/
  good : Nat := 0
  bad  : Nat := 0
  /-- the sequence number of the next slot, once a good frame has set it -/
  seq? : Option Nat := none
  /-- monotonic time of the last slot (R529) -/
  slotAt : Option Ns := none
  deriving DecidableEq, Repr

structure InState where
  sw      : Tab SwIn := []
  ii      : Tab IiIn := []
  /-- uplink as die C sees it, downlink as the field side sees it -/
  up      : BarSide := {}
  dn      : BarSide := {}
  /-- bad or missing downlink frames that the field side has not reported yet -/
  dnBad   : Nat := 0
  /-- monotonic time of the last barrier loss, or of the start of die C -/
  lostAt  : Ns := 0
  /-- II_CONFIG commands that wait for the next downlink frame -/
  configs : List Cmd := []
  /-- the field side's edge counts and edge choices (R520) -/
  counts  : Tab Nat := []
  edges   : Tab Nat := []
  /-- the field side's comparators (R516) -/
  field   : Tab IiField := []
  /-- the field side has lost its power, and die C has not been told yet (R521) -/
  restarted : Bool := false
  /-- the last good uplink frame while the barrier was up (R627) -/
  upAt    : Option Stamp := none
  /-- monotonic time of the last restart turn (R524) -/
  turnAt  : Ns := 0
  deriving DecidableEq, Repr

end Sys2Proof.Machine
end

