-- ==== Sys2Proof/Machine/Types/Nv.lean ====
section
/-!
DEFINITION. Sys2Proof/Machine/Types/Nv.lean: fuses and MRAM (R3, R811, R848 to R874, R881, R906 to R928): what power-up reset does not touch.
-/
namespace Sys2Proof.Machine

/-- A root-key slot (R849); the digest's byte 0 is in bits 7:0. -/
structure KeySlot where
  programmed : Bool := false
  revoked    : Bool := false
  digest     : Nat := 0
  deriving DecidableEq, Repr

/-- A token record (R881, R902): 0 empty, 1 enrolled, 2 revoked; the key's byte 0 is in bits 7:0. -/
structure TokenRec where
  state  : Nat := 0
  serial : Nat := 0
  key    : Nat := 0
  deriving DecidableEq, Repr

/-- A firmware slot (R906): the image's bytes by offset, an absent one being 00h; whether it has been found valid and not been staged into since
(R910), and the highest staged offset + length. -/
structure FwSlot where
  valid : Bool := false
  bytes : Tab Byte := []
  top   : Nat := 0
  deriving DecidableEq, Repr

/-- A settings copy (R923): the values of fields that differ from their reset values.  `live`: the copy follows the setup registers (log entry 40). -/
structure SetCopy where
  /-- the digest matches -/
  ok     : Bool := false
  live   : Bool := false
  schema : Nat := 0
  vals   : Tab (Tab Nat) := []
  deriving DecidableEq, Repr

structure NvState where
  /-- lifecycle fuses: 0 BLANK, 1 PROVISIONED, 2 FIELD, 4 RETIRED -/
  lc       : Nat := 0
  slots    : Tab KeySlot := []
  secCtr   : Nat := 0
  serial   : Nat := 0
  /-- the identity record and the identity certificate (R870, R871) -/
  identity : List Byte := []
  certificate : List Byte := []
  /-- an erasure record stands without the RETIRED fuse (R857) -/
  erased   : Bool := false
  powerUps : Nat := 0
  tokens   : Tab TokenRec := []
  /-- K_ENC and K_MAC (R900) -/
  relKeys  : Option (Nat × Nat) := none
  /-- the ceiling of R895 -/
  relCtr   : Nat := 0
  /-- firmware slots A and B, at 0 and 1 -/
  fw       : Tab FwSlot := []
  /-- UPD_STAT.STATE, 0 IDLE to 5 RECOVERY (R927) -/
  updState : Nat := 0
  active   : Nat := 0
  fallback : Bool := false
  lastFail : Nat := 0
  fusedSvn : Nat := 0
  /-- settings copies of slots A and B -/
  copies   : Tab SetCopy := []
  /-- TW_EQ.STEP (R738) -/
  eqStep   : Nat := 0
  /-- the trial that runs belongs to an Equinox handover (R921) -/
  eqTrial  : Bool := false
  /-- the retirement log, oldest first (R811) -/
  retired  : List Retirement := []
  /-- event archive entries of retirements made while die C was absent (R247, R813) -/
  unlogged : List Retirement := []
  /-- cells of packet memory that have left the pool, and FIT banks lost (R806, R807) -/
  lostCells : Nat := 0
  lostBanks : List Nat := []
  /-- physical cores whose memory has lost a row beyond the spares (R806) -/
  badMem    : List Nat := []
  /-- stored access lock-out: the failure times, and the time left (R893) -/
  lockout  : Ns := 0
  fails    : List Ns := []
  deriving DecidableEq, Repr

end Sys2Proof.Machine
end

