-- ==== Sys2Proof/Machine/Types/Out.lean ====
section
/-!
DEFINITION. Sys2Proof/Machine/Types/Out.lean: what the output objects, the limp-and-hold logic, the power dies and the loops hold beside their
setup registers (R146 to R282, R326 to R497).
-/
namespace Sys2Proof.Machine

/-- Hidden state common to every output object (HS, LS, HB, LD, MX, SV, BST); the last lines are used by HS and LS only. -/
structure Obj where
  /-- target: 0 off, 1 on, 2 PWM -/
  target   : Nat := 0
  /-- the switch-on command whose outcome has not been reached (R154) -/
  cmd      : Option Cmd := none
  /-- the commands that complete when a new duty or level takes effect, oldest first (R163, R349, R370, R427, R438) -/
  chg      : List Cmd := []
  /-- duty or level that takes effect at the next period start -/
  next     : Option Nat := none
  /-- duty or level in effect -/
  duty     : Nat := 0
  /-- monotonic time of the last switch-on or restart, and of the last switch-off -/
  onAt     : Ns := 0
  lastOff  : Ns := 0
  /-- monotonic time of the last measurement that set the verdict (R224); none since power-up or since a latch was cleared -/
  measAt   : Option Ns := none
  /-- monotonic time of the last measurement, whatever came of it (AGE of R277, R376, R431, R464) -/
  tookAt   : Option Ns := none
  /-- consecutive absent results (R228, R234) -/
  absent   : Nat := 0
  /-- DIAG_CHECK commands that wait for a measurement, and their starts (R240) -/
  checks   : List (Cmd × Ns) := []
  /-- the counts of READ_COUNTERS -/
  counts   : Tab Nat := []
  /-- network time of the last state change (R216) -/
  changed  : Nat := 0
  /-- a restart demand has been made and waits -/
  asked    : Bool := false
  /-- inrush time collected, since when it runs, and when INR_OFF began (R190, R193) -/
  inrTime  : Ns := 0
  inrRun   : Option Ns := none
  offAt    : Ns := 0
  /-- monotonic time for which ACC stands (R172) -/
  accAt    : Ns := 0
  /-- LS: drain voltage last measured, and VDOFF of the last gate-drive start (R946), 10 mV -/
  vdrain   : Nat := 0
  vdoff    : Nat := 0
  /-- since when the channel has been in current limit without a break (R166) -/
  limAt    : Option Ns := none
  /-- consecutive measurements with +25 % drift, by segment (R243), the drift last measured, %, and retired segments of the 18 -/
  drifts   : Tab Nat := []
  driftPct : Tab Nat := []
  retired  : List Nat := []
  segAt    : Option Ns := none
  /-- monotonic time of the last off-state test (R231) -/
  testAt   : Option Ns := none
  /-- PWM or dimming periods started since the first (R237, R356), and the start of the last one, or the switch-on (R162, R335) -/
  period   : Nat := 0
  perAt    : Ns := 0
  deriving DecidableEq, Repr

/-- An LED string beside `Obj` (R326 to R361). -/
structure Led where
  /-- remembered string voltage, 20 mV per unit; none before the first measurement (R352) -/
  vrem     : Option Nat := none
  /-- set current of a closed loop, in place of CFG0.ISET (R467) -/
  loopIset : Option Nat := none
  /-- applied gain table of 16 points (R348); an absent point holds 4,096 -/
  gains    : Tab Nat := []
  /-- G has been set since power-up or since a change of the source (R346) -/
  gSet     : Bool := false
  /-- consecutive measurements between VSHORT and VLO (R357) -/
  shorts   : Nat := 0
  /-- limp duty in force (R336) -/
  limp     : Bool := false
  /-- ISET in effect since the last start of a dimming period, or since the switch-on (R339) -/
  iset     : Nat := 0
  /-- length of the running dimming period, in TB8 counts (R341) -/
  per      : Nat := 0
  /-- last temperature sample (R342), and last measurement (R356) -/
  tempAt   : Option Ns := none
  measAt   : Option Ns := none
  deriving DecidableEq, Repr

/-- The LED matrix beside `Obj` (R362 to R375): pixel buffers, GDUTY, maps. -/
structure Matrix where
  front    : List Byte := List.replicate 128 0
  back     : List Byte := List.replicate 128 0
  gduty    : Nat := 0
  /-- column current in force while the demand of a rise of ICOL waits; none for CFG0.ICOL (R371) -/
  icol     : Option Nat := none
  /-- start and length of the frame that is scanned (R365) -/
  frameAt  : Ns := 0
  frameLen : Ns := 0
  /-- MX_FRAME commands that wait for their swap -/
  swapCmds : List Cmd := []
  /-- LEDs marked in MX_OPEN, and consecutive low frames of each -/
  openMap  : Nat := 0
  low      : Tab Nat := []
  /-- time of each LED's last measurement -/
  measAt   : Tab Ns := []
  deriving DecidableEq, Repr

/-- A solenoid channel beside `Obj` (R380 to R428). -/
structure Valve where
  /-- hold level of a limp state or a loop, 1 mA per unit; none for CFG0.IHOLD (R402, R424) -/
  hold     : Option Nat := none
  /-- hold level in force in the running actuation, mA -/
  level    : Nat := 0
  /-- when HOLD began, and when a change of the hold level was served that waits for the next chop period (R427) -/
  holdAt   : Ns := 0
  chgAt    : Ns := 0
  /-- monotonic and network time of the last BOOST start, and end of the present phase -/
  startAt  : Ns := 0
  startNt  : Nat := 0
  phaseEnd : Ns := 0
  /-- settings taken at the start of the actuation: IBST in mA, FHOLD in kHz, TBST and TPK in ns (R427) -/
  ibst     : Nat := 0
  fhold    : Nat := 0
  tbst     : Ns := 0
  tpk      : Ns := 0
  /-- the fixed search window taken at the start, 10 µs per unit -/
  fwlo     : Nat := 0
  fwhi     : Nat := 0
  /-- a boost phase from VBST runs, its claim in 0.1 mJ and the part drawn (R392) -/
  boosting : Bool := false
  claim    : Nat := 0
  drawn    : Nat := 0
  /-- EREM has been measured (R394) -/
  eremSet  : Bool := false
  /-- armature: the window is still open, a dip was found only in the fixed window, the actuation had to wait -/
  judging  : Bool := false
  fixedWin : Bool := false
  waited   : Bool := false
  /-- commands that complete with the running actuation (R405) -/
  extra    : List Cmd := []
  deriving DecidableEq, Repr

/-- A motor bridge group beside `Obj`, at its leader (R433 to R463). -/
structure Bridge where
  /-- goal of the motion: none, 0 position, 1 end stop, 2 park -/
  goal     : Option Nat := none
  /-- an HB_MOVE runs, as against an HB_DRIVE -/
  move     : Bool := false
  startAt  : Ns := 0
  /-- the ramp's end; none when no ramp runs -/
  rampEnd  : Option Ns := none
  /-- REVERSE ends at, and the drive that follows: direction and duty -/
  revEnd   : Ns := 0
  after    : Option (Nat × Nat) := none
  /-- a trap's reversal runs, with the ripples left (R457) -/
  trap     : Option Nat := none
  /-- ripples since the ramp's end, and when the last one and RUN came -/
  ripples  : Nat := 0
  rippleAt : Ns := 0
  runAt    : Ns := 0
  /-- a motion that TMAX bounds: an HB_MOVE, or the drive of a limp state (R443, R461) -/
  timed    : Bool := false
  /-- the brake switches have opened for the rest of the PWM period (R447) -/
  brakeLim : Bool := false
  /-- peak current of the motion, 10 mA -/
  peak     : Nat := 0
  /-- which brake is applied: 0 low, 1 high -/
  brake    : Nat := 0
  deriving DecidableEq, Repr

/-- A control loop beside its registers (R467 to R494). -/
structure Loop where
  /-- LOOP_CLOSE whose outcome has not been reached, and its BUMPLESS -/
  cmd      : Option Cmd := none
  bumpless : Bool := false
  /-- the next valid sample is the first after closing or resuming -/
  first    : Bool := true
  /-- feedback of the last valid sample, as a 32-bit pattern, and when it was taken -/
  fbprev   : Nat := 0
  validNt  : Nat := 0
  /-- consecutive samples with outsat = 1 (R491) -/
  satRun   : Nat := 0
  /-- last sample instant, or the start of CLOSING (R472) -/
  sampleAt : Ns := 0
  counts   : Tab Nat := []
  deriving DecidableEq, Repr

/-- Limp-and-hold state of an object with a record (R263 to R274), by record index. -/
structure Limp where
  /-- end of the hold window -/
  holdEnd  : Ns := 0
  /-- a debug policy of R272 holds the object -/
  dbgHeld  : Bool := false
  /-- a limp state fell due while the group was frozen (R45) -/
  due      : Bool := false
  /-- an orphan policy fell due while the group was frozen (R45) -/
  orphDue  : Bool := false
  deriving DecidableEq, Repr

structure OutState where
  /-- output objects, by object ID -/
  objs     : Tab Obj := []
  leds     : Tab Led := []
  mx       : Matrix := {}
  valves   : Tab Valve := []
  bridges  : Tab Bridge := []
  loops    : Tab Loop := []
  limps    : Tab Limp := []
  /-- VS6 first below VSET - 4 V, for HEADROOM (R386); BST switching stopped by R387 -/
  bstStop  : Bool := false
  bstOnAt  : Ns := 0
  /-- the reset notice is asserted (R250) -/
  notice   : Bool := true
  /-- last heartbeat at the power dies, whether one has come since the notice was released, and its READY bit (R249) -/
  hbAt     : Ns := 0
  hbSeen   : Bool := false
  hbReady  : Bool := false
  /-- when the notice was released -/
  noticeAt : Ns := 0
  /-- objects held, released and orphaned in the running hold (R281) -/
  held     : Nat := 0
  released : Nat := 0
  orphaned : Nat := 0
  /-- paired objects for which the twin agent grants this module an off-state test window (R236, R701) -/
  testWin  : List Nat := []
  /-- functions frozen by a ring access, whose objects have still to take their orphan policies (R271) -/
  orphanDue : List Nat := []
  /-- Tj + 50 of the stages of P2 other than channels as last measured, by object ID, and of each power die's own sensor (R54, R183) -/
  stageTj  : Tab Nat := []
  dieTj    : List Nat := [0, 0, 0]
  deriving DecidableEq, Repr

end Sys2Proof.Machine
end

