-- ==== Sys2Proof/Machine/Types/Sec.lean ====
section
/-!
DEFINITION. Sys2Proof/Machine/Types/Sec.lean: lifecycle and debug state that die C holds (R855, R862 to R868).
-/
namespace Sys2Proof.Machine

structure SecState where
  /-- end of FIELD_SERVICE, while it lasts (R855) -/
  svcEnd   : Option Ns := none
  /-- the nonce (byte 0 in bits 7:0), when it was made, and whether it still serves a response (R864) -/
  nonce    : Nat := 0
  nonceAt  : Ns := 0
  nonceOk  : Bool := false
  /-- DAP_STAT.RESULT -/
  result   : Nat := 0
  /-- consecutive failures, not saturated; end of the lock-out of R867 -/
  fails    : Nat := 0
  lockEnd  : Option Ns := none
  /-- how many values have been drawn from the random source (the model's own count) -/
  draws    : Nat := 0
  deriving DecidableEq, Repr

end Sys2Proof.Machine
end

