-- ==== Sys2Proof/Machine/State.lean ====
section
/-!
DEFINITION. Sys2Proof/Machine/State.lean: the state of the module, its reset value, and the reasons a step can stop.
-/
namespace Sys2Proof.Machine

/-- Everything the spec gives the module.  A setup register field is at home in `regs`, unless INVENTORY.md names another
home; what no register shows stands in the block's own structure. -/
structure State where
  /-- monotonic time since power-up, ns -/
  now     : Ns
  /-- network time, ns (R17) -/
  ntime   : Nat
  /-- commands that wait, first in, first out -/
  pending : List Instr
  /-- setup register fields: field number, then index; an absent entry holds the field's reset value -/
  regs    : Tab (Tab Nat)
  host    : HostState
  flt     : FaultState
  pwr     : PowerState
  arb     : ArbState
  out     : OutState
  inp     : InState
  net     : NetState
  twin    : TwinState
  core    : CoreState
  nv      : NvState
  sec     : SecState
  acc     : AccState
  deriving DecidableEq, Repr

/-- The module right after a power-up reset (R20, R818, R820): die C is held in reset, every register reads its reset value. -/
def State.reset : State where
  now := 0
  ntime := 0
  pending := []
  regs := []
  host := {}
  flt := {}
  pwr := {}
  arb := {}
  out := {}
  inp := {}
  net := {}
  twin := {}
  core := {}
  nv := {}
  sec := {}
  acc := {}

/-- No command of this model stops with a fault: the spec gives every command an effect. -/
inductive Fault where
  /-- Raised by nobody; the spec's faults are states and events of the module, not stops. -/
  | never
  deriving DecidableEq, Repr

/-- Reasons for which a step is refused. -/
inductive Refusal where
  /-- A command that the model does not give a meaning yet, by its mnemonic.  Safe: nothing is claimed of it. -/
  | notModelled (mnemonic : String)
  deriving DecidableEq, Repr

end Sys2Proof.Machine
end

