-- ==== Sys2Proof/Machine/Tab.lean ====
section
/-!
DEFINITION. Sys2Proof/Machine/Tab.lean: reading and writing a sparse table.  Entries stand in strictly rising order of their index, so
that equal tables are equal lists.
-/
namespace Sys2Proof.Machine

/-- The entry at index `k`, `d` where there is none. -/
def tget {α : Type} (d : α) : Tab α → Nat → α
  | [], _ => d
  | (j, v) :: t, k => if j = k then v else tget d t k

/-- The table with `v` at index `k`. -/
def tput {α : Type} : Tab α → Nat → α → Tab α
  | [], k, v => [(k, v)]
  | (j, w) :: t, k, v =>
    if k < j then (k, v) :: (j, w) :: t
    else if k = j then (k, v) :: t
    else (j, w) :: tput t k v

/-- The table without index `k`. -/
def tdel {α : Type} : Tab α → Nat → Tab α
  | [], _ => []
  | (j, w) :: t, k => if j = k then t else (j, w) :: tdel t k

/-- A memory whose unlisted addresses hold 0 takes `v` at address `a`: writing 0 removes the entry, so that equal memories are equal lists. -/
def memPut (m : Tab Nat) (a v : Nat) : Tab Nat := if v = 0 then tdel m a else tput m a v

/-- The indices strictly rise. -/
def tsorted {α : Type} : Tab α → Bool
  | [] => true
  | [_] => true
  | (i, _) :: (j, w) :: t => decide (i < j) && tsorted ((j, w) :: t)

/-- The canonical form of a memory: addresses strictly rise, and no entry holds 0, which an unlisted address reads as. -/
def Memory.wf (m : Tab Nat) : Bool := tsorted m && m.all fun e => e.2 != 0

/-- A register file is canonical: the fields and, in each field, the indices strictly rise. -/
def regsCanon (t : Tab (Tab Nat)) : Prop := tsorted t = true ∧ ∀ e ∈ t, tsorted e.2 = true

end Sys2Proof.Machine
end

