-- ==== Sys2Proof/Machine/Ops.lean ====
section
/-!
DEFINITION. Sys2Proof/Machine/Ops.lean: the operations that every meaning uses: time, the register file, the host's rings, events and fault state,
completions.  An operation writes only the components of State that stand in its record update, so that what it leaves
alone can be read off its text.
-/
namespace Sys2Proof.Machine

/-! ### Numbers -/

/-- Bits `lo` up of `v`, `w` of them. -/
def bits (v lo w : Nat) : Nat := v / 2 ^ lo % 2 ^ w

/-- Bit `k` of `v`. -/
def bit (v k : Nat) : Bool := bits v k 1 == 1

/-- 1 for true. -/
def b2n (b : Bool) : Nat := if b then 1 else 0

/-- `v` with bit `k` set, cleared. -/
def setBit (v k : Nat) : Nat := if bit v k then v else v + 2 ^ k
def clrBit (v k : Nat) : Nat := if bit v k then v - 2 ^ k else v

/-- The `w`-bit pattern `v` as a two's complement number. -/
def sgn (w v : Nat) : Int := if v % 2 ^ w < 2 ^ (w - 1) then ((v % 2 ^ w : Nat) : Int) else ((v % 2 ^ w : Nat) : Int) - ((2 ^ w : Nat) : Int)

/-- The `w`-bit two's complement pattern of `i`. -/
def unsgn (w : Nat) (i : Int) : Nat := (i % ((2 ^ w : Nat) : Int)).toNat

/-- Byte `k` of a descriptor's PARAM or an event's DATA, `k` counted as the spec counts it, from 16. -/
def byteOf (v k n : Nat) : Nat := bits v (8 * (k - 16)) (8 * n)

/-- `v` placed at byte `k` of an event's DATA (R93). -/
def atByte (k v : Nat) : Nat := v * 2 ^ (8 * (k - 16))

/-- `n` bytes of `v`, least significant first. -/
def leBytes : Nat → Nat → List Byte
  | 0, _ => []
  | n + 1, v => v % 256 :: leBytes n (v / 256)

/-- The number that bytes spell, least significant first. -/
def ofLe : List Byte → Nat
  | [] => 0
  | b :: t => b % 256 + 256 * ofLe t

/-- `v + n`, at most the highest value of `w` bits. -/
def satAdd (w v n : Nat) : Nat := min (v + n) (2 ^ w - 1)

/-- The nearest of `lo` and `hi` replaces a value outside them. -/
def clampNat (lo hi v : Nat) : Nat := if v < lo then lo else if hi < v then hi else v

/-- `k` copies of bit `true` for each index below `n` at which `p` holds, as a bit mask. -/
def maskOf (p : Nat → Bool) : Nat → Nat
  | 0 => 0
  | n + 1 => maskOf p n + (if p n then 2 ^ n else 0)

/-- Rounds `a / b` up. -/
def ceilDiv (a b : Nat) : Nat := if b = 0 then 0 else (a + b - 1) / b

/-! ### Time -/

/-- Time passes: `dt` ns on the monotonic count and on network time. -/
def State.tick (dt : Ns) (s : State) : State :=
  { s with now := s.now + dt, ntime := (s.ntime + dt) % 2 ^ 64 }

/-- `t` ns have passed since `last`. -/
def State.since (s : State) (last : Option Ns) (t : Ns) : Bool := match last with | some x => decide (x + t ≤ s.now) | none => true

/-! ### The register file -/

/-- The value of field `f` at index `i`. -/
def State.rd (s : State) (f : Field) (i : Nat := 0) : Nat := tget (f.rst i) (tget [] s.regs f.id) i

/-- Field `f` at index `i` takes `v`, reduced to its width. -/
def State.wr (s : State) (f : Field) (i v : Nat) : State :=
  { s with regs := tput s.regs f.id (tput (tget [] s.regs f.id) i (v % 2 ^ f.width)) }

/-- A one-bit field. -/
def State.flag (s : State) (f : Field) (i : Nat := 0) : Bool := s.rd f i == 1
def State.wrb (s : State) (f : Field) (i : Nat) (b : Bool) : State := s.wr f i (b2n b)

/-- A counter field rises by `n` and saturates. -/
def State.bump (s : State) (f : Field) (i : Nat) (n : Nat := 1) : State := s.wr f i (satAdd f.width (s.rd f i) n)

/-- The field returns to its reset value. -/
def State.rstField (s : State) (f : Field) (i : Nat) : State := s.wr f i (f.rst i)

/-- Several fields at one index return to their reset values. -/
def State.rstFields (s : State) (fs : List Field) (i : Nat) : State := fs.foldl (fun s f => s.rstField f i) s

/-! ### Functions and rings -/

def State.fn (s : State) (k : Nat) : Func := tget {} s.host.fns k
def State.cmdRing (s : State) (pf n : Nat) : CmdRing := tget {} s.host.cmdRings (32 * pf + n)
def State.cplRing (s : State) (pf m : Nat) : OutRing := tget {} s.host.cplRings (32 * pf + m)
def State.evtRing (s : State) (pf : Nat) : OutRing := tget {} s.host.evtRings pf

def HostState.setFn (h : HostState) (k : Nat) (f : Func) : HostState := { h with fns := tput h.fns k f }
def HostState.setCmdRing (h : HostState) (pf n : Nat) (r : CmdRing) : HostState := { h with cmdRings := tput h.cmdRings (32 * pf + n) r }
def HostState.setCplRing (h : HostState) (pf m : Nat) (r : OutRing) : HostState := { h with cplRings := tput h.cplRings (32 * pf + m) r }
def HostState.setEvtRing (h : HostState) (pf : Nat) (r : OutRing) : HostState := { h with evtRings := tput h.evtRings pf r }

def State.setFn (s : State) (k : Nat) (f : Func) : State := { s with host := s.host.setFn k f }
def State.setCmdRing (s : State) (pf n : Nat) (r : CmdRing) : State := { s with host := s.host.setCmdRing pf n r }
def State.setCplRing (s : State) (pf m : Nat) (r : OutRing) : State := { s with host := s.host.setCplRing pf m r }
def State.setEvtRing (s : State) (pf : Nat) (r : OutRing) : State := { s with host := s.host.setEvtRing pf r }

/-- Owner of an object after power-up reset (R81). -/
def defOwner (obj : Nat) : Nat := if obj = 0x0400 then 0 else if obj = 0x0500 then 3 else 1

/-- The owner of a listed object (R81, R82). -/
def State.owner (s : State) (obj : Nat) : Nat := tget (defOwner obj) s.host.owners obj

/-- Die C serves its blocks, the arbiter and the power dies: from LOGIC_RDY of a start to the Clocks phase of a Stop entry (R310, R821). -/
def State.dieC (s : State) : Bool :=
  match s.pwr.phase with
  | .run | .entering _ => true
  | _ => false

/-- Die C is present in the sense of the power dies: its reset is released and it is powered. -/
def State.dieCOut (s : State) : Bool :=
  match s.pwr.phase with
  | .unpowered | .resetHold | .stop => false
  | _ => true

/-! ### Posted writes and MSI-X -/

/-- A posted write leaves the module, or waits for the link (R942). -/
def HostState.post (h : HostState) (w : HostWrite) : HostState :=
  if h.linkUp then { h with sent := w :: h.sent } else { h with waiting := w :: h.waiting }

/-- The writes that have waited for the link are sent, in their order; those of a frozen function wait for its release (R131, R942). -/
def HostState.sendWaiting (h : HostState) : HostState :=
  if !h.linkUp then h
  else
    let stays := fun (w : HostWrite) => (tget {} h.fns w.pf : Func).frozen
    { h with sent := h.waiting.filter (fun w => !stays w) ++ h.sent, waiting := h.waiting.filter stays }

/-- A vector is signalled: the message is sent, or its pending bit set while it is masked (R144), or it waits for a frozen function's release
(R131; DEDUCED, log entry 55: the message is a write to host memory). -/
def HostState.signal (h : HostState) (pf vec : Nat) : HostState :=
  let f : Func := tget {} h.fns pf
  if f.frozen then h.setFn pf { f with held := f.held ++ [.msix vec] }
  else if bit f.vecMask vec then h.setFn pf { f with vecPend := setBit f.vecPend vec }
  else h.post (.msix pf vec (tget 0 f.vecAddr vec) (tget 0 f.vecData vec))

/-- Entries in the ring that the host has not released. -/
def OutRing.used (r : OutRing) : Nat := (r.tail + 65536 - r.head) % 65536

/-- Entries of the ring (R97). -/
def OutRing.size (r : OutRing) : Nat := 2 ^ r.log2sz

/-- PHASE of the next entry (R102). -/
def OutRing.phase (r : OutRing) : Nat := if r.tail / r.size % 2 = 0 then 1 else 0

/-- The ring's tail moves past a written entry, and the entry counts towards MODCNT (R142). -/
def OutRing.advance (r : OutRing) (now : Ns) : OutRing :=
  { r with tail := (r.tail + 1) % 65536, unsig := r.unsig + 1, unsigAt := if r.unsig = 0 then now else r.unsigAt }

/-- The vector is due at once: MODCNT entries are unsignalled, or MODTIME is 0 (R142, R143). -/
def OutRing.due (r : OutRing) : Bool := decide (r.modcnt ≤ r.unsig) || r.modtime == 0

/-- Address of entry `idx` (R98). -/
def OutRing.addr (r : OutRing) (sz : Nat) : Nat := r.baseHi * 2 ^ 32 + r.baseLo * 4096 + sz * (r.tail % r.size)

/-- A DMA of `len` bytes at `addr` lies inside the function's enabled ranges, or the function has none enabled (R875). -/
def State.dmaOk (s : State) (pf addr len : Nat) : Bool :=
  let en := fun r => s.flag Reg.SEC_DMAW_BASE_LO_EN (4 * pf + r)
  let lo := fun r => s.rd Reg.SEC_DMAW_BASE_HI (4 * pf + r) * 2 ^ 32 + s.rd Reg.SEC_DMAW_BASE_LO_ADDR (4 * pf + r) * 4096
  let hi := fun r => s.rd Reg.SEC_DMAW_LIM_HI (4 * pf + r) * 2 ^ 32 + s.rd Reg.SEC_DMAW_LIM_LO_ADDR (4 * pf + r) * 4096 + 4095
  let rs := (List.range 4).filter en
  -- the lowest byte not yet covered moves past every range that holds it; four ranges need four rounds
  let step := fun a => rs.foldl (fun a r => if lo r ≤ a && a ≤ hi r then max a (hi r + 1) else a) a
  rs.isEmpty || decide (addr + len ≤ step (step (step (step addr))))

/-! ### Events -/

/-- A ring write outside the function's DMA ranges is not made: the function is frozen and the entry held (R132, R875, R876). -/
def HostState.outside (h : HostState) (pf addr : Nat) (x : Held) : HostState :=
  let f : Func := tget {} h.fns pf
  let h := h.setFn pf { f with frozen := true, held := f.held ++ [x] }
  { h with viols := h.viols ++ [(pf, addr)] }

/-- One event enters the event ring of `pf`, or is held, discarded or counted as R132, R140 and R948 say.  `ok`: a DMA of a function, at an address
and of a length, lies inside its ranges. -/
def HostState.putEvent (ok : Nat → Nat → Nat → Bool) (now : Ns) (h : HostState) (pf : Nat) (e : Event) : HostState :=
  let f := tget {} h.fns pf
  let r := tget ({} : OutRing) h.evtRings pf
  if f.frozen then h.setFn pf { f with held := f.held ++ [.event e] }
  else if !r.en then h.setEvtRing pf { r with lost := satAdd 16 r.lost 1, lostFlag := true }
  else if r.used = r.size then
    h.setEvtRing pf { r with lost := satAdd 16 r.lost 1, lostFlag := true, evseq := (r.evseq + 1) % 65536 }
  else if !ok pf (r.addr 32) 32 then h.outside pf (r.addr 32) (.event e)
  else
    let e' := { e with phase := r.phase, lost := r.lostFlag, seq := r.evseq }
    let r' := { r.advance now with lostFlag := false, evseq := (r.evseq + 1) % 65536 }
    let h' := h.post (.event pf (r.tail % r.size) e')
    if r'.due then (h'.setEvtRing pf { r' with unsig := 0 }).signal pf r.vec else h'.setEvtRing pf r'

/-- The functions whose event rings receive an event of `obj` (R139): the owner and PF2, or PF0 and PF2. -/
def State.routes (s : State) (obj : Nat) : List Nat :=
  if obj = 0xFFFF then [0, 2] else if s.owner obj = 2 then [2] else [s.owner obj, 2]

/-- The block of an event type or sub-code (R787): windows 15h to 17h belong to block 14h, 1Bh to itself. -/
def blockOf (type : Nat) : Nat := let w := type / 256; if w = 0x15 ∨ w = 0x16 ∨ w = 0x17 then 0x14 else w

def State.blk (s : State) (w : Nat) : Blk := tget {} s.flt.blks w

/-- The block's fault state after a fault (R789, R791): the count that the event carries, and the new state. -/
def Blk.noteFault (b : Blk) (type : Nat) : Blk :=
  if b.active then { b with merge := satAdd 8 b.merge 1, faults := satAdd 16 b.faults 1 }
  else { b with active := true, merge := 0, firstev := type % 256, faults := satAdd 16 b.faults 1 }

/-- An event enters the history queue (R797). -/
def Blk.remember (b : Blk) (e : Event) (merged fault refused : Bool) : Blk :=
  { b with evcnt := (b.evcnt + 1) % 65536, hist := ({ event := e, merged, fault, refused, count := (b.evcnt + 1) % 65536 } :: b.hist).take 8 }

/-- FLT_CTL of block `w` in function `pf`: IEN and VEC; 00F1h at reset (R816). -/
def Func.ctl (f : Func) (w : Nat) : Nat := tget 0xF1 f.fltCtl w

/-- The block interrupt of R790, to each function that receives the event and has IEN set. -/
def HostState.blockInt (h : HostState) (w : Nat) (pfs : List Nat) : HostState :=
  pfs.foldl (fun h k => let c := (tget {} h.fns k : Func).ctl w; if bit c 0 then h.signal k (bits c 4 4) else h) h

/-- An event of a running die C: history, fault state, block interrupt, rings. -/
def State.deliver (s : State) (type obj data time : Nat) (fault : Bool) (pfs : List Nat) : State :=
  let w := blockOf type
  let b0 := s.blk w
  let b1 := if fault then b0.noteFault type else b0
  let e : Event := { type, object := obj, merge := if fault then b1.merge else 0, time, data }
  let b2 := b1.remember e (fault && b0.active) fault false
  let h1 := if fault && !b0.active then s.host.blockInt w pfs else s.host
  { s with
    flt := { s.flt with
      blks := tput s.flt.blks w b2
      shawm := if fault && !s.flt.shawm.contains w then w :: s.flt.shawm else s.flt.shawm }
    host := pfs.foldl (fun h k => h.putEvent s.dmaOk s.now k e) h1 }

/-- The blocks whose events arise in a power die, which keeps them while die C is absent (R270): the output blocks, the group monitors' cuts, restarts
and dimming (R320), and the overvoltage bits of window 00h. -/
def powerDieBlock (w : Nat) : Bool := [0x00, 0x08, 0x09, 0x0A, 0x0B, 0x0C, 0x0D, 0x0E].contains w

/-- The module raises an event to `pfs`.  While die C is absent the power dies keep theirs (R270), and no other block raises any. -/
def State.raiseTo (s : State) (type obj data : Nat) (fault : Bool) (pfs : List Nat) : State :=
  if s.dieC then s.deliver type obj data s.ntime fault pfs
  else { s with flt := { s.flt with
    kept := if powerDieBlock (blockOf type) then s.flt.kept ++ [{ type, object := obj, data, fault, time := s.ntime }] else s.flt.kept } }

/-- An event that is no fault, routed by R139. -/
def State.raise (s : State) (type obj data : Nat) : State := s.raiseTo type obj data false (s.routes obj)

/-- An event that is a fault of its block (R788). -/
def State.raiseFault (s : State) (type obj data : Nat) : State := s.raiseTo type obj data true (s.routes obj)

/-- A W1C flag goes from 0 to 1 and raises its event as a fault (R788); a flag that is set already raises nothing. -/
def State.setFlag (s : State) (f : Field) (i : Nat) (type obj data : Nat) : State :=
  if s.flag f i then s else (s.wr f i 1).raiseFault type obj data

/-- A fault flag with no event of its own: FLAG_SET of block `w` (R945), with the flag's window, offset and bit. -/
def State.flagSet (s : State) (f : Field) (i w off b : Nat) : State :=
  s.setFlag f i (blockOf (w * 256) * 256 + 0x8F) 0xFFFF (atByte 16 w + atByte 18 off + atByte 20 b)

/-- An event also enters the history queue of the block it concerns (R798). -/
def State.alsoIn (s : State) (w type obj data : Nat) (refused : Bool) : State :=
  { s with flt := { s.flt with blks := tput s.flt.blks w ((s.blk w).remember { type, object := obj, time := s.ntime, data } false false refused) } }

/-! ### The clamp log -/

/-- A clamp enters the log of window `w` (R138). -/
def State.logClamp (s : State) (w : Nat) (e : ClampEntry) : State :=
  let l := tget ({} : ClampLog) s.flt.clogs w
  { s with flt := { s.flt with
    clogs := tput s.flt.clogs w { entries := tput l.entries l.next e, next := (l.next + 1) % 16, total := satAdd 16 l.total 1 } } }

/-- Several clamps in order. -/
def State.logClamps (s : State) (w : Nat) (es : List ClampEntry) : State := es.foldl (fun s e => s.logClamp w e) s

/-! ### Commands in flight -/

/-- The same command: two commands in flight differ in their function or their tag (R112). -/
def sameCmd (a b : Cmd) : Bool := a == b

/-- The in-flight record of `c`. -/
def State.flight (s : State) (c : Cmd) : Option InFlight := s.host.inflight.find? (fun r => sameCmd r.cmd c)

/-- The in-flight record of `c` changes. -/
def State.modFlight (s : State) (c : Cmd) (f : InFlight → InFlight) : State :=
  { s with host := { s.host with inflight := s.host.inflight.map (fun r => if sameCmd r.cmd c then f r else r) } }

def State.dropFlight (s : State) (c : Cmd) : State :=
  { s with host := { s.host with inflight := s.host.inflight.filter (fun r => !sameCmd r.cmd c) } }

/-- Final completions owed to completion ring `m` of `pf` (CPLm_STAT.OWED): commands in flight, and completions that are not yet written. -/
def HostState.owed (h : HostState) (pf m : Nat) : Nat :=
  (h.inflight.filter (fun r => r.cmd.pf == pf && r.cpl == m && r.cmd.src == .host)).length
  + (h.outbox.filter (fun x => x.1 == pf && x.2.1 == m)).length
  + ((tget {} h.fns pf : Func).held.filter (fun x => match x with | .completion k _ => k == m | _ => false)).length

/-- A completion enters completion ring `m` of `pf` (R92, R101, R102, R142), or is held while the function is frozen (R132). -/
def HostState.putCompletion (ok : Nat → Nat → Nat → Bool) (now : Ns) (h : HostState) (pf m : Nat) (c : Completion) : HostState :=
  let f : Func := tget {} h.fns pf
  let r := tget ({} : OutRing) h.cplRings (32 * pf + m)
  if f.frozen then h.setFn pf { f with held := f.held ++ [.completion m c] }
  else if !r.en then h
  else if !ok pf (r.addr 16) 16 then h.outside pf (r.addr 16) (.completion m c)
  else
    let c' := { c with phase := r.phase }
    let r' := r.advance now
    let h' := h.post (.completion pf m (r.tail % r.size) c')
    if r'.due then (h'.setCplRing pf m { r' with unsig := 0 }).signal pf r.vec else h'.setCplRing pf m r'

/-- Free entries of a completion ring. -/
def OutRing.free (r : OutRing) : Nat := r.size - r.used

/-- The final completion of a command is decided: DONE becomes DONE_CLAMPED when fields were clamped (R136), and SENT_LATE_CANCEL when a CANCEL has waited
for it (R121); it is written at the end of the step (R119).  A command that did not come from a host ring has no completion of its own. -/
def HostState.answer (h : HostState) (r : InFlight) (code : Code) (sub time : Nat) : HostState :=
  let c := r.cmd
  let code := if code = .done ∧ !r.cancels.isEmpty then .sentLateCancel else if code = .done ∧ 0 < r.clamps then .doneClamped else code
  let k : Completion := { tag := c.tag, code, ring := c.ring, phase := 0, sub, slot := c.slot, time }
  let f : Func := tget {} h.fns c.pf
  let f := if code = .abortedReset then { f with aborted := satAdd 16 f.aborted 1 } else f
  let h := h.setFn c.pf f
  match c.src with
  | .host => { h with outbox := h.outbox ++ [(c.pf, r.cpl, k)] }
  | _ => { h with answers := (c, code, sub) :: h.answers }

/-- The final completion of one command, which is in flight no longer. -/
def HostState.finishOne (h : HostState) (r : InFlight) (code : Code) (sub time : Nat) : HostState :=
  { h with inflight := h.inflight.filter (fun x => !sameCmd x.cmd r.cmd) }.answer r code sub time

/-- CANCEL commands that have waited for a target complete DONE after it (R123), and so on for commands that waited for those. -/
def HostState.finishWaiting (time : Nat) : Nat → HostState → List Cmd → HostState
  | 0, h, _ => h
  | n + 1, h, cs => cs.foldl (fun h c =>
      match h.inflight.find? (fun r => sameCmd r.cmd c) with
      | none => h
      | some r => HostState.finishWaiting time n (h.finishOne { r with cancels := [] } .done 0 time) r.cancels) h

/-- The final completion of `c`, with code and sub-code as they go to the host. -/
def HostState.finish (h : HostState) (c : Cmd) (code : Code) (sub time : Nat) : HostState :=
  match h.inflight.find? (fun r => sameCmd r.cmd c) with
  | none => h
  | some r => HostState.finishWaiting time h.inflight.length (h.finishOne r code sub time) r.cancels

/-- A command in flight gets its final completion (R13, R17). -/
def State.completeFlight (s : State) (c : Cmd) (code : Code) (sub : Nat := 0) : State := { s with host := s.host.finish c code sub s.ntime }

/-- A fetched command is completed without being taken up: a check of R96 has failed, or a freeze has caught it (R112, R132). -/
def State.turnAway (s : State) (c : Cmd) (code : Code) (sub : Nat := 0) : State :=
  { s with host := s.host.answer { cmd := c, cpl := (s.cmdRing c.pf c.ring).cplsel } code sub s.ntime }

/-- The completions decided in the step go to their rings (R101, R119). -/
def State.sendCpls (s : State) : State :=
  { s with host := s.host.outbox.foldl (fun h x => h.putCompletion s.dmaOk s.now x.1 x.2.1 x.2.2) { s.host with outbox := [] } }

/-- A reply that carries an earlier GEN is discarded and counted in HR_STALE.STALE (R128). -/
def HostState.discard (h : HostState) (c : Cmd) : HostState :=
  let f : Func := tget {} h.fns c.pf
  { h.setFn c.pf { f with stale := satAdd 16 f.stale 1 } with staleCmds := h.staleCmds.erase c }

/-- The block that runs `c` replies with its outcome: the module completes it, or discards a stale reply (R13, R128). -/
def State.complete (s : State) (c : Cmd) (code : Code) (sub : Nat := 0) : State :=
  if s.host.staleCmds.contains c then { s with host := s.host.discard c } else s.completeFlight c code sub

/-- A DEFERRED completion with the planned service time, omitted and counted when the ring has no spare room (R14, R15, R110). -/
def State.defer (s : State) (c : Cmd) (planned sub : Nat) : State :=
  let s := s.modFlight c (fun r => { r with deferred := true, planned, deferSub := sub })
  match s.flight c with
  | none => s
  | some r =>
    if c.src ≠ .host then s
    else
      let ring := s.cplRing c.pf r.cpl
      if ring.free > s.host.owed c.pf r.cpl then
        let k : Completion := { tag := c.tag, code := .deferred, ring := c.ring, phase := 0, sub, slot := c.slot, time := planned }
        { s with host := { s.host with outbox := s.host.outbox ++ [(c.pf, r.cpl, k)] } }
      else s.setCplRing c.pf r.cpl { ring with skipdef := satAdd 16 ring.skipdef 1 }

/-- The command's effect begins: its point of no return (R122). -/
def State.begin (s : State) (c : Cmd) : State := s.modFlight c (fun r => { r with begun := true })

/-- A field of the descriptor was clamped: the clamp is logged in the window of the object (R135, R136). -/
def State.descClamp (s : State) (c : Cmd) (w byteOff lsb width req applied : Nat) : State :=
  if req = applied then s
  else (s.modFlight c (fun r => { r with clamps := r.clamps + 1 })).logClamp w
    { offset := byteOff, lsb, width, src := 1, pf := c.pf, req, applied, tag := c.tag, object := c.object }

end Sys2Proof.Machine
end

