-- ==== Sys2Proof/Machine/Operands.lean ====
section
/-!
DEFINITION. Sys2Proof/Machine/Operands.lean: object IDs, the objects' places (window, die, supply group, record index), and the forms a command
descriptor's operands take (R6, R35, R84, R88, R89, R146).
-/
namespace Sys2Proof.Machine

/-- The kinds of object of R6. -/
inductive Kind where
  | hs | ls | hb | ld | mx | sv | bst | sw | ii | io | can | lin | eth | loop | twin | access
  deriving DecidableEq, Repr

/-- Kind and number of a listed object (R6). -/
def objKind (o : Nat) : Option (Kind × Nat) :=
  if o < 0x30 then some (.hs, o)
  else if 0x40 ≤ o ∧ o < 0x50 then some (.ls, o - 0x40)
  else if 0x60 ≤ o ∧ o < 0x6C then some (.hb, o - 0x60)
  else if 0x80 ≤ o ∧ o < 0x8C then some (.ld, o - 0x80)
  else if o = 0xA0 then some (.mx, 0)
  else if 0xC0 ≤ o ∧ o < 0xD0 then some (.sv, o - 0xC0)
  else if o = 0xD0 then some (.bst, 0)
  else if 0x100 ≤ o ∧ o < 0x140 then some (.sw, o - 0x100)
  else if 0x140 ≤ o ∧ o < 0x150 then some (.ii, o - 0x140)
  else if 0x150 ≤ o ∧ o < 0x158 then some (.io, o - 0x150)
  else if 0x200 ≤ o ∧ o < 0x210 then some (.can, o - 0x200)
  else if 0x210 ≤ o ∧ o < 0x218 then some (.lin, o - 0x210)
  else if 0x220 ≤ o ∧ o < 0x22A then some (.eth, o - 0x220)
  else if 0x300 ≤ o ∧ o < 0x330 then some (.loop, o - 0x300)
  else if o = 0x400 then some (.twin, 0)
  else if o = 0x500 then some (.access, 0)
  else none

/-- Setup window whose chapter owns the kind (R6, R94). -/
def kindWin : Kind → Nat
  | .hs => 0x08 | .ls => 0x09 | .hb => 0x0A | .ld => 0x0B | .mx => 0x0C | .sv => 0x0D | .bst => 0x0D | .sw => 0x11 | .ii => 0x12
  | .io => 0x12 | .can => 0x14 | .lin => 0x18 | .eth => 0x19 | .loop => 0x10 | .twin => 0x1D | .access => 0x20

def isKind (k : Kind) (o : Nat) : Bool := match objKind o with | some (k', _) => k' == k | none => false

/-- Window whose chapter defines an object's codes (R94); window 01h for object FFFFh. -/
def objWin (o : Nat) : Nat := match objKind o with | some (k, _) => kindWin k | none => 0x01

/-- Window of an object, whose clamp log takes the clamps of its descriptors (R6, R135): CANn stands in window 14h + n div 4. -/
def clampWin (o : Nat) : Nat := match objKind o with | some (.can, n) => 0x14 + n / 4 | some (k, _) => kindWin k | none => 0x01

/-- Number of an object within its kind. -/
def objNum (o : Nat) : Nat := match objKind o with | some (_, n) => n | none => 0

/-- Index of an HS or LS object in the channel registers: HSn at n, LSn at 48 + n. -/
def chIx (o : Nat) : Nat := if o < 0x30 then o else 48 + (o - 0x40)
/-- The object ID of a channel index. -/
def chObj (i : Nat) : Nat := if i < 48 then i else 0x40 + (i - 48)

/-- Index of an object that has a limp-and-hold record (R278): HS 0 to 47, LS 48 to 63, LD 64 to 75, SV 76 to 91, HB 92 to 103, MX 104. -/
def recIx (o : Nat) : Option Nat :=
  match objKind o with
  | some (.hs, n) => some n | some (.ls, n) => some (48 + n) | some (.ld, n) => some (64 + n) | some (.sv, n) => some (76 + n)
  | some (.hb, n) => some (92 + n) | some (.mx, _) => some 104 | _ => none

/-- The object ID of a record index. -/
def recObj (i : Nat) : Nat :=
  if i < 48 then i else if i < 64 then 0x40 + (i - 48) else if i < 76 then 0x80 + (i - 64)
  else if i < 92 then 0xC0 + (i - 76) else if i < 104 then 0x60 + (i - 92) else 0xA0

/-- Record indices in ascending order of object ID (R256). -/
def recOrder : List Nat :=
  List.range 64 ++ (List.range 12).map (· + 92) ++ (List.range 12).map (· + 64) ++ [104] ++ (List.range 16).map (· + 76)

/-- Supply group of an object that draws on one (R35): 1 to 6, and 0 for the VBAT group of the LS channels (R314). -/
def groupOf (o : Nat) : Option Nat :=
  match objKind o with
  | some (.hs, n) => some (if n < 4 then 1 else if n < 8 then 2 else if n < 12 then 1 else if n < 16 then 2 else if n < 24 then 3 else 4)
  | some (.ls, _) => some 0
  | some (.hb, n) => some (if n < 6 then 5 else 6)
  | some (.ld, n) => some (if n < 6 then 5 else 6)
  | some (.mx, _) => some 6 | some (.sv, _) => some 6 | some (.bst, _) => some 6
  | _ => none

/-- Power die of an object: 0 P0, 1 P1, 2 P2. -/
def dieOf (o : Nat) : Option Nat :=
  match objKind o with
  | some (.hs, n) => some (if n < 24 then 0 else 1)
  | some (.ls, _) => some 2 | some (.hb, _) => some 2 | some (.ld, _) => some 2 | some (.mx, _) => some 2 | some (.sv, _) => some 2
  | some (.bst, _) => some 2
  | _ => none

/-! ### Channel classes (R146) -/

/-- Class of a channel index: 0 L, 1 M, 2 S, 3 LS. -/
def chClass (i : Nat) : Nat := if i < 8 then 0 else if i < 24 then 1 else if i < 48 then 2 else 3

def byClass (l m s ls : Nat) (i : Nat) : Nat := match chClass i with | 0 => l | 1 => m | 2 => s | _ => ls

/-- Nominal continuous current, mA. -/
def nominal : Nat → Nat := byClass 20000 8000 3000 1500
/-- ILIM range in class steps, and the step in units of 0.125 A. -/
def ilimLo : Nat → Nat := byClass 20 20 32 16
def ilimHi : Nat → Nat := byClass 120 100 144 48
def ilimStep : Nat → Nat := byClass 8 4 1 1
/-- Maximum on-resistance at 25 °C and at 150 °C, µΩ. -/
def ron25 : Nat → Nat := byClass 2800 9000 31000 190000
def ron150 : Nat → Nat := byClass 4600 15000 51000 320000
/-- Reverse threshold, mA (R153). -/
def revThr : Nat → Nat := byClass 2000 1000 300 0
/-- E_BUD in 0.1 mJ and τ in ns (R172). -/
def ebud : Nat → Nat := byClass 24000 8000 2400 600
def accTau : Nat → Nat := byClass 1600000000 800000000 400000000 250000000
/-- Coarse step of the open-load threshold, in 0.5 mA (R227). -/
def iolStep : Nat → Nat := byClass 100 40 20 10

/-! ### Exponential decay

`e^(-t/τ)` is reckoned in fixed point of 64 bits, by powers of `1/e` and a series for the rest, and the result rounded to the nearest
unit.  DESIGN CHOICE (log entry 12): the spec gives the exponential and no rounding. -/

/-- 2^64. -/
def fx : Nat := 2 ^ 64
/-- 2^64 / e, rounded. -/
def fxInvE : Nat := 6786177901268885275

/-- The alternating series of `e^(-x)`, `x` in fixed point below 1: sum and term so far. -/
def expSeries : Nat → Nat → Nat → Nat → Bool → Nat → Nat
  | 0, _, _, _, _, acc => acc
  | n + 1, k, x, term, neg, acc =>
    let term' := term * x / fx / k
    expSeries n (k + 1) x term' (!neg) (if neg then acc - term' else acc + term')

/-- `e^(-n)` in fixed point. -/
def expPow : Nat → Nat
  | 0 => fx
  | n + 1 => expPow n * fxInvE / fx

/-- `v × e^(-t/τ)`, rounded to the nearest unit; past 45 time constants nothing is left of a 64-bit value. -/
def decay (v t tau : Nat) : Nat :=
  if tau = 0 then 0
  else
    let n := t / tau
    if 45 < n then 0
    else
      let x := (t % tau) * fx / tau
      (v * (expPow n * expSeries 24 1 x fx true fx / fx) + fx / 2) / fx

/-! ### Command descriptors -/

/-- PRIO, FENCE and the reserved bits of FLAGS (R88). -/
def Cmd.prio (c : Cmd) : Nat := bits c.flags 0 2
def Cmd.fence (c : Cmd) : Bool := bit c.flags 2
/-- Bytes `k` to `k + n - 1` of the descriptor's PARAM as a number. -/
def Cmd.arg (c : Cmd) (k n : Nat) : Nat := byteOf c.param k n
/-- Bits `lo` up, `w` of them, of byte `k` on. -/
def Cmd.argBits (c : Cmd) (k lo w : Nat) : Nat := bits c.param (8 * (k - 16) + lo) w
/-- Number of the object. -/
def Cmd.num (c : Cmd) : Nat := objNum c.object

/-- The priority class that acts (R85): class 0 only for PF0, class 1 instead for the others. -/
def Cmd.cls (c : Cmd) : Nat := if c.prio = 0 ∧ c.pf ≠ 0 then 1 else c.prio

/-! ### MRAM (R849, R881, R906, R907) -/

/-- The number in bytes `k` to `k + n - 1` of a record or a frame, least significant byte first. -/
def recNum (r : List Byte) (k n : Nat) : Nat := ofLe ((List.range n).map fun j => r.getD (k + j) 0 % 256)

/-- Bytes `k` to `k + n - 1`, absent ones 0. -/
def recBytes (r : List Byte) (k n : Nat) : List Byte := (List.range n).map fun j => r.getD (k + j) 0 % 256

/-- The SHAKE256 digest of 64 bytes (R848, R907); byte 0 is in bits 7:0. -/
def shake (bs : List Byte) : Nat := Config.shake256 bs % 2 ^ 512

/-- Bytes `k` to `k + n - 1` of a firmware slot's image. -/
def FwSlot.bytesAt (f : FwSlot) (k n : Nat) : List Byte := (List.range n).map fun j => tget 0 f.bytes (k + j) % 256

/-- The number in those bytes. -/
def FwSlot.num (f : FwSlot) (k n : Nat) : Nat := ofLe (f.bytesAt k n)

def NvState.fwSlot (n : NvState) (k : Nat) : FwSlot := tget {} n.fw k
def NvState.keySlot (n : NvState) (k : Nat) : KeySlot := tget {} n.slots k
def NvState.token (n : NvState) (k : Nat) : TokenRec := tget {} n.tokens k

/-- UPD_VERA, UPD_VERB: 0 when the slot is invalid (R927). -/
def NvState.fwVersion (n : NvState) (k : Nat) : Nat := if (n.fwSlot k).valid then (n.fwSlot k).num 8 4 else 0

end Sys2Proof.Machine
end

