-- ==== Sys2Proof/Machine/Arbiter.lean ====
section
/-!
DEFINITION. Sys2Proof/Machine/Arbiter.lean: budgets, usage, fit and plan of the budget arbiter, its answers and its decision log (R283 to R304, R51).
-/
namespace Sys2Proof.Machine

/-! ### Limits (R51, R283, R290) -/

/-- TCASE in units of 0.125 °C. -/
def State.tcase (s : State) : Int := sgn 16 (s.rd Reg.GLB_TCASE_TC)

/-- The module limit of R51, in 10 mW: 40 W up to 95 °C, 2 W less for each kelvin above, 0 from 115 °C on. -/
def plimAt (t8 : Int) : Nat := if t8 ≤ 760 then 4000 else if 920 ≤ t8 then 0 else (4000 - 25 * (t8 - 760)).toNat

/-- Rounds `a / b` to the nearest whole number, halves up. -/
def roundDiv (a b : Nat) : Nat := if b = 0 then 0 else (2 * a + b) / (2 * b)

/-- ELIM of R391, 0.1 mJ per unit. -/
def State.elim (s : State) : Nat :=
  roundDiv (s.rd Reg.BST_CFG_CBST * (s.rd Reg.BST_CFG_VSET ^ 2 - s.rd Reg.BST_CFG1_VFLOOR ^ 2)) 800

/-- The deficit of R392 for a VBST in units of 10 mV, 0.1 mJ per unit. -/
def State.deficit (s : State) : Nat :=
  roundDiv (s.rd Reg.BST_CFG_CBST * (2500 * s.rd Reg.BST_CFG_VSET ^ 2 - s.rd Reg.BST_STAT_VBST ^ 2)) 2000000

/-- The present limit of budget `b` in its register unit (R283); a bank budget has room for one phase. -/
def State.limitReg (s : State) (b : Nat) : Nat :=
  let p := plimAt s.tcase
  if b = 0 then p
  else if b = 1 then 1800 * p / 4000 else if b = 2 then 1200 * p / 4000 else if b = 3 then 1600 * p / 4000
  else if b < 10 then 6000
  else if b = 10 then 15000 else if b = 11 then 6000 else if b = 12 then 10000
  else if b = 13 then (if [1, 2].contains (s.rd Reg.BST_STAT_STATE) then s.elim else 0)
  else 1

/-- Internal units per register unit: µW in 10 mW, mA in 10 mA. -/
def unitOf (b : Nat) : Nat := if b ≤ 3 then 10000 else if b ≤ 12 then 10 else 1

def State.limitOf (s : State) (b : Nat) : Nat := s.limitReg b * unitOf b

/-- The reserve in percent (R290). -/
def State.rsvPct (s : State) : Nat :=
  match s.rd Reg.ARB_CFG_RSVMODE with
  | 0 => 5 | 1 => 10 | 2 => 20 | _ => s.rd Reg.ARB_CFG_RSVPCT

/-- What a demand of class `c` may fill budget `b` to (R289). -/
def State.roomFor (s : State) (c b : Nat) : Nat :=
  let l := s.limitOf b
  if c = 0 ∨ 13 < b then l else l - l * s.rsvPct / 100

/-- Averaging time of a budget (R283); 0 for one that is judged at the instant. -/
def avgTime (b : Nat) : Ns := if b ≤ 3 then 100000000 else if b ≤ 12 then 1000000 else 0

/-- What a transient claim counts for (R284). -/
def transWeight (cl : Claim) : Nat :=
  let t := avgTime cl.b
  if t = 0 ∨ t ≤ cl.dur then cl.amt else cl.amt * cl.dur / t

/-! ### Usage and plans -/

/-- An amount on a budget during a span of time. -/
structure Item where
  b   : Nat
  amt : Nat
  beg : Ns
  fin : Option Ns
  deriving DecidableEq, Repr

/-- Items of a transient that begins at `t0`, lasts `dur` and is planned to end at `e`, and of the standing claims.  A standing claim on a budget of
the transient counts from the transient's end, every other one from its beginning.  Boost energy never ends by itself: it is recharged (R395). -/
def spanItems (t0 e : Ns) (dur : Ns) (trans stand : List Claim) : List Item :=
  trans.map (fun c => { b := c.b, amt := transWeight c, beg := t0 + c.off
                        fin := if c.b = 13 then none else if dur ≤ c.off + c.dur then some e else some (t0 + c.off + c.dur) })
  ++ stand.map (fun c => { b := c.b, amt := c.amt, beg := if trans.any (fun x => x.b == c.b) then e else t0, fin := none })

/-- What a load counts for; boost energy is reckoned from the deficit instead (R392). -/
def loadItems (now : Ns) (l : Load) : List Item :=
  if !l.on then (match l.shedAt with
    | some t => l.stand.map fun c => { b := c.b, amt := c.amt, beg := 0, fin := some (max (t + 1000000) (now + 1)) }
    | none => [])
  else if l.inTrans then
    (spanItems (l.transEnd - l.dur) (max l.transEnd (now + 1)) l.dur l.trans l.stand).filter fun i => i.b != 13
  else l.stand.map fun c => { b := c.b, amt := c.amt, beg := 0, fin := none }

/-- What a demand would count for, served at `t`. -/
def demandItems (t : Ns) (d : Demand) : List Item := spanItems t (t + d.dur) d.dur d.trans d.stand

/-- The deficit and the parts of running boosts not yet drawn (R392). -/
def State.boostUse (s : State) : Nat :=
  s.deficit + (s.out.valves.map fun p => if p.2.boosting then p.2.claim - p.2.drawn else 0).foldl (· + ·) 0

/-- BST runs: CHARGING or READY. -/
def State.bstRuns (s : State) : Bool := [1, 2].contains (s.rd Reg.BST_STAT_STATE)

/-- Energy that the converter adds in `dt`, 0.1 mJ per unit (R395). -/
def State.recharge (s : State) (dt : Ns) : Nat := if s.bstRuns then s.rd Reg.BST_CFG_PCH * dt / 200000 else 0

/-- Sum of the items of `b` that count at `t`. -/
def sumAt (is : List Item) (b : Nat) (t : Ns) : Nat :=
  is.foldl (fun n i => if i.b = b ∧ i.beg ≤ t ∧ (match i.fin with | none => true | some e => decide (t < e)) = true then n + i.amt else n) 0

/-- Usage of `b` at `t` by the items `is`; for boost energy beside the deficit, less what is recharged until then. -/
def State.usageAt (s : State) (is : List Item) (b : Nat) (t : Ns) : Nat :=
  if b = 13 then s.boostUse + sumAt is 13 t - s.recharge (t - s.now) else sumAt is b t

/-- All items of the running loads. -/
def State.items (s : State) : List Item := s.arb.loads.flatMap fun p => loadItems s.now p.2

/-- Present usage of `b`, in its internal unit (R284). -/
def State.usage (s : State) (b : Nat) : Nat := s.usageAt s.items b s.now

/-- The budgets that a demand touches. -/
def Demand.budgets (d : Demand) : List Nat := ((d.trans ++ d.stand).map (·.b)).eraseDups

/-- Largest amount that a demand asks of `b` on its own (R299). -/
def Demand.own (d : Demand) (b : Nat) : Nat :=
  let is := demandItems 0 d
  is.foldl (fun n i => max n (sumAt is b i.beg)) 0

/-- The budgets on which `d`, served at `t`, does not fit beside `is`: at `t`, or when a later claim of its own begins (R292, R295). -/
def State.misfits (s : State) (is : List Item) (d : Demand) (t : Ns) : List Nat :=
  let mine := demandItems t d
  d.budgets.filter fun b => (mine.filter fun i => i.b == b).any fun i =>
    let own := sumAt mine b i.beg
    decide (s.roomFor d.cls b < s.usageAt is b i.beg + own) && decide (0 < own)

/-- Orders waiting demands (R291): class, moment of arrival, object ID. -/
def Demand.ahead (x y : Demand) : Bool :=
  x.cls < y.cls || (x.cls == y.cls && (x.arrival < y.arrival || (x.arrival == y.arrival && x.obj < y.obj)))

def insertDemand (d : Demand) : List Demand → List Demand
  | [] => [d]
  | e :: t => if d.ahead e then d :: e :: t else e :: insertDemand d t

/-- The budgets on which a waiting demand waits: those that it does not fit, and boost energy with its bank (R397). -/
def State.waitsOn (s : State) (e : Demand) : List Nat :=
  let m := s.misfits s.items e s.now
  if m.any (13 < ·) then 13 :: m else m

/-- Demands ahead of `d` that wait on a budget of `d`. -/
def State.aheadOf (s : State) (d : Demand) : List Demand :=
  s.arb.waiting.filter fun e => e.ahead d && (s.waitsOn e).any d.budgets.contains

/-- Sorts a list by insertion. -/
def insertBy {α : Type} (le : α → α → Bool) (x : α) : List α → List α
  | [] => [x]
  | y :: t => if le x y then x :: y :: t else y :: insertBy le x t
def sortBy {α : Type} (le : α → α → Bool) : List α → List α
  | [] => []
  | x :: t => insertBy le x (sortBy le t)

/-- The moment at which recharging has made room for `d` on the boost energy, beside `is` (R395). -/
def State.chargeMoment (s : State) (is : List Item) (d : Demand) : List Ns :=
  let mine := sumAt (demandItems 0 d) 13 0
  let all := s.boostUse + (is.foldl (fun n i => if i.b = 13 then n + i.amt else n) 0) + mine
  let pch := s.rd Reg.BST_CFG_PCH
  if mine = 0 ∨ !s.bstRuns ∨ pch = 0 then [] else [s.now + ceilDiv ((all - s.roomFor d.cls 13) * 200000) pch]

/-- Planned ends after `t0`, ascending, `t0` first. -/
def moments (is : List Item) (more : List Ns) (t0 : Ns) : List Ns :=
  let es := (is.filterMap (·.fin) ++ more) |>.filter (fun e => t0 < e)
  t0 :: sortBy (fun a b => decide (a ≤ b)) es.eraseDups

/-- The first moment from `t0` on at which `d` fits beside `is`, and the budgets that did not fit at the moment before it (R295). -/
def State.firstFit (s : State) (is : List Item) (d : Demand) (t0 : Ns) : Option (Ns × List Nat) :=
  (moments is (s.chargeMoment is d) t0).foldl
    (fun (st : Option (Ns × List Nat) × List Nat) t =>
      match st with
      | (some r, _) => (some r, [])
      | (none, prev) => let m := s.misfits is d t; if m.isEmpty then (some (t, prev), []) else (none, m))
    (none, []) |>.1

/-- The plan of R295: the demands ahead are placed first, each at the first moment at which it fits, then `d`.  None when one of them, or `d`,
never fits as the planned ends take effect.  The second part is the budgets whose fit comes last: `d`'s own, or, when `d` fits with the last demand ahead,
those that held that one (R296). -/
def State.plan (s : State) (d : Demand) : Option (Ns × List Nat) :=
  let ahead := s.aheadOf d
  let r := ahead.foldl
    (fun (st : Option (List Item × Ns × List Nat)) e =>
      match st with
      | none => none
      | some (is, t0, last) =>
        match s.firstFit is e t0 with
        | none => none
        | some (t, prev) => some (is ++ demandItems t e, t, if prev.isEmpty then last else prev))
    (some (s.items, s.now, []))
  match r with
  | none => none
  | some (is, t0, last) =>
    match s.firstFit is d t0 with
    | some (t, []) => some (t, d.budgets.filter last.contains)
    | x => x

/-- R292: the demand fits now, and no demand ahead waits on one of its budgets. -/
def State.fitsNow (s : State) (d : Demand) : Bool := (s.misfits s.items d s.now).isEmpty && (s.aheadOf d).isEmpty

/-- The budget that binds (R296): a bank budget before every other, else the lowest. -/
def binding (bs : List Nat) : Nat := if bs.any (13 < ·) then 14 else bs.foldl min 13

/-- Sub-code of a binding budget (R325): BANK_BUSY for a bank budget. -/
def budgetSub (b : Nat) : Nat := if 13 < b then 0x0E05 else 0x0E10 + b

/-- The budgets at which `d` stands when it does not fit now: its own misfits, or those of the demands ahead of it. -/
def State.standing (s : State) (d : Demand) : List Nat :=
  let m := s.misfits s.items d s.now
  if m.isEmpty then d.budgets.filter fun b => (s.aheadOf d).any fun e => (s.waitsOn e).contains b else m

/-- The budget that binds, `bs` being those whose fit comes last in the plan: that one, or when there are several, or none, the lowest that the demand does not
fit now; a bank budget among them binds before every other (R296). -/
def State.binds (s : State) (d : Demand) (bs : List Nat) : Nat :=
  match bs with
  | [b] => binding [b]
  | _ => binding (s.standing d ++ bs.filter (13 < ·))

/-- The arbiter's answer to a demand. -/
inductive Answer where
  | serve
  | defer (planned : Ns) (b : Nat)
  | refuse (b : Nat)
  | never
  deriving DecidableEq, Repr

/-- What a demand of class `c` may fill `b` to on its own (R299); boost energy is judged against ELIM, whatever BST's state is (R396). -/
def State.ownRoom (s : State) (c b : Nat) : Nat :=
  if b = 13 then (let l := s.elim; if c = 0 then l else l - l * s.rsvPct / 100) else s.roomFor c b

/-- R292, R295 to R300. -/
def State.judge (s : State) (d : Demand) : Answer :=
  if d.budgets.any (fun b => decide (s.ownRoom d.cls b < d.own b)) && d.cmd.isSome then .never
  else if s.fitsNow d then .serve
  else
    match s.plan d, d.latest with
    | none, none => .defer s.now (s.binds d [])
    | none, some _ => .refuse (s.binds d [])
    | some (t, bs), none => .defer t (s.binds d bs)
    | some (t, bs), some l => if t ≤ l then .defer t (s.binds d bs) else .refuse (s.binds d bs)

/-! ### Loads and the log -/

def State.load (s : State) (o : Nat) : Load := tget {} s.arb.loads o
def State.setLoad (s : State) (o : Nat) (l : Load) : State := { s with arb := { s.arb with loads := tput s.arb.loads o l } }
def State.group (s : State) (g : Nat) : Group := tget {} s.arb.groups g
def State.setGroup (s : State) (g : Nat) (x : Group) : State := { s with arb := { s.arb with groups := tput s.arb.groups g x } }

/-- An outcome enters the decision log and the counters (R304, R323, R324). -/
def State.arbLog (s : State) (d : Demand) (code : Code) (sub : Nat) : State :=
  let i := s.rd Reg.ARB_LOGCNT_NEXT
  let e : ArbLog := { tag := match d.cmd with | some c => c.tag | none => 0, object := d.obj, code, cls := d.cls
                      pf := match d.cmd with | some c => c.pf | none => s.owner d.obj, internal := d.cmd.isNone, sub, time := s.ntime }
  let s := { s with arb := { s.arb with log := tput s.arb.log i e } }
  let s := (s.wr Reg.ARB_LOGCNT_NEXT 0 ((i + 1) % 32)).bump Reg.ARB_LOGCNT_TOTAL 0
  match code with
  | .deferred => s.bump Reg.ARB_CNT_DEFCNT 0
  | .refusedBudget => s.bump Reg.ARB_CNT_REFCNT 0
  | .refusedPolicy => s.bump Reg.ARB_CNT2_POLCNT 0
  | _ => s

/-- Since when a budget's usage has exceeded its limit (R305). -/
def State.noteOver (s : State) : State :=
  let os := (List.range 13).filter fun b => decide (s.limitOf b < s.usage b)
  { s with arb := { s.arb with ovr := os.map (fun b => (b, tget s.now s.arb.ovr b)), warned := s.arb.warned.filter os.contains } }

/-- USED of a budget: its present usage in the register unit (R323). -/
def State.usedReg (s : State) (b : Nat) : Nat := min (s.usage b / unitOf b) 0xFFFF

/-- USED and PEAK of every budget follow the claims (R323), and what R305 judges. -/
def State.showUse (s0 : State) : State :=
  let s := s0.noteOver
  (List.range 14).foldl (fun s b =>
    let u := s.usedReg b
    let s := s.wr Reg.ARB_USE_USED b u
    if s.rd Reg.ARB_RSV_PEAK b < u then s.wr Reg.ARB_RSV_PEAK b u else s) s

/-- The waiting demands at which `p` holds leave the queues. -/
def State.unwait (s : State) (p : Demand → Bool) : State :=
  let s := { s with arb := { s.arb with waiting := s.arb.waiting.filter (fun d => !p d), dieQueue := s.arb.dieQueue.filter (fun d => !p d) } }
  s.wr Reg.ARB_PEND_PEND 0 s.arb.waiting.length

/-- The object's demand that no command made is withdrawn, or made anew. -/
def State.unwaitOwn (s : State) (o : Nat) : State := s.unwait fun d => d.obj == o && d.cmd.isNone

/-- A demand waits (R291). -/
def State.await (s : State) (d : Demand) : State :=
  let s := if s.dieC then { s with arb := { s.arb with waiting := insertDemand d s.arb.waiting } }
    else { s with arb := { s.arb with dieQueue := s.arb.dieQueue ++ [d] } }
  s.wr Reg.ARB_PEND_PEND 0 s.arb.waiting.length

/-! ### Averages (R944) -/

/-- A sample joins those of the last 1 ms. -/
def State.sampled (s : State) (k v : Nat) : State :=
  { s with arb := { s.arb with samples := tput s.arb.samples k ((s.now, v) :: (tget [] s.arb.samples k).filter fun p => decide (s.now < p.1 + 1000000)) } }

/-- Mean of samples, to the nearest unit (DESIGN CHOICE, log entry 86). -/
def meanOf (xs : List (Ns × Nat)) : Nat := roundDiv ((xs.map (·.2)).foldl (· + ·) 0) xs.length

/-- The running mean of a quantity over the samples of the last 1 ms. -/
def State.mean (s : State) (k : Nat) : Nat := meanOf ((tget [] s.arb.samples k).filter fun p => decide (s.now < p.1 + 1000000))

/-- The transient of an object ends (R286). -/
def State.endTransient (s : State) (o : Nat) : State :=
  let l := s.load o
  if l.on && l.inTrans then (s.setLoad o { l with inTrans := false, trans := [], measFrom := s.now }).showUse else s

/-- The object switches off: its claims end, and its on-current is remembered, at most `ilim` (R286). -/
def State.release (s : State) (o : Nat) (ilim : Nat) : State :=
  let l := s.load o
  if !l.on then s
  else
    let rem := match l.avg with | none => l.rem | some a => some (min a ilim)
    (s.setLoad o { l with on := false, stand := [], trans := [], inTrans := false, rem, avg := none }).showUse

/-- The object's claims stay while it waits to run again (R196): nothing changes but that it does not count as running for measurement. -/
def State.allowedLatency (s : State) (c : Cmd) (cls : Nat) : Ns :=
  let n := if c.maxlat ≠ 0 then c.maxlat
    else match cls with
      | 0 => s.rd Reg.ARB_DEFLAT01_DL0 | 1 => s.rd Reg.ARB_DEFLAT01_DL1
      | 2 => s.rd Reg.ARB_DEFLAT23_DL2 | _ => s.rd Reg.ARB_DEFLAT23_DL3
  n * 10000

/-- The object's record shows a limp state, "keep" included (R253, R307). -/
def State.recInLimp (s : State) (o : Nat) : Bool := match recIx o with | some r => s.flag Reg.LH_LHR1_INLIMP r | none => false

/-- The sheddable objects in the order of R305: class 3, 2, 1, most recently switched on first. -/
def State.sheddable (s : State) : List Nat :=
  let xs := s.arb.loads.filter fun p => p.2.on && decide (0 < p.2.cls) && !p.2.limp && !s.recInLimp p.1
  (sortBy (fun a b => decide (a.2.cls > b.2.cls ∨ (a.2.cls = b.2.cls ∧ a.2.onAt ≥ b.2.onAt))) xs).map (·.1)

/-- The object claims on the budget. -/
def State.claimsOn (s : State) (b o : Nat) : Bool := (s.load o).stand.any (fun c => c.b == b) || (s.load o).trans.any (fun c => c.b == b)

/-- The items of R284 without the standing claims of the objects `gone`, and with those of the class 0 demands that wait already (R306). -/
def State.itemsWithout (s : State) (gone : List Nat) : List Item :=
  (s.arb.loads.flatMap fun p => loadItems s.now (if gone.contains p.1 then { p.2 with stand := [] } else p.2))
  ++ (s.arb.waiting.filter fun d => d.cls == 0).flatMap fun d => demandItems s.now d

/-- The fewest objects from the front of `os` whose claims, once gone beside those of `gone`, let a class 0 demand fit (R306). -/
def State.preemptSet (s : State) (d : Demand) (gone : List Nat) : List Nat → List Nat → Option (List Nat)
  | os, pick =>
    if (s.misfits (s.itemsWithout (gone ++ pick)) d s.now).isEmpty then some pick
    else match os with
      | [] => none
      | o :: rest => s.preemptSet d gone rest (pick ++ [o])

end Sys2Proof.Machine
end

