-- ==== Sys2Proof/Machine/Opcodes.lean ====
section
/-!
DEFINITION. Sys2Proof/Machine/Opcodes.lean: the opcodes of every chapter, the objects they act on and the parameter bits they use, and who may issue
them (R84, R89, R90, R96, R859, R862).
-/
namespace Sys2Proof.Machine

/-- What an opcode acts on. -/
inductive Target where
  /-- the module as a whole: object FFFFh -/
  | whole
  /-- objects of these kinds -/
  | kinds (ks : List Kind)
  /-- every listed object -/
  | any
  /-- FFFFh or the access object -/
  | wholeOrAccess
  deriving DecidableEq, Repr

structure OpInfo where
  op     : Nat
  target : Target
  /-- parameter bits that the opcode's table does not mark as reserved (R941): all of them but in R154, R493 and R547 -/
  used   : Nat := 2 ^ 128 - 1
  deriving DecidableEq, Repr

/-- Bits of bytes `k` to `k + n - 1` of PARAM. -/
def pBytes (k n : Nat) : Nat := (2 ^ (8 * n) - 1) * 2 ^ (8 * (k - 16))
/-- The lowest `w` bits of byte `k` on. -/
def pBits (k w : Nat) : Nat := (2 ^ w - 1) * 2 ^ (8 * (k - 16))

def opTable0 : List OpInfo :=
  [ { op := 0x0000, target := .whole }, { op := 0x0001, target := .whole }, { op := 0x0002, target := .whole },
    { op := 0x1000, target := .any }, { op := 0x1001, target := .any }, { op := 0x1002, target := .any },
    { op := 0x1005, target := .whole }, { op := 0x1006, target := .whole } ]

/-- "Parameter bytes not listed are reserved and 0" holds for HS, LS (R154) and the loops (R493); the bits of a listed byte that a row does not name are
not marked (DEDUCED, log entry 84). -/
def opTable2 : List OpInfo :=
  [ { op := 0x2001, target := .kinds [.hs, .ls], used := 0 },
    { op := 0x2001, target := .kinds [.hb, .ld, .mx, .sv, .bst, .io] },
    { op := 0x2001, target := .kinds [.loop], used := pBytes 16 1 },
    { op := 0x2002, target := .kinds [.hs, .ls], used := pBytes 16 1 },
    { op := 0x2002, target := .kinds [.hb, .ld, .mx, .sv, .bst, .io] },
    { op := 0x2002, target := .kinds [.loop], used := pBytes 16 1 },
    { op := 0x2003, target := .kinds [.hs, .ls], used := pBytes 16 3 },
    { op := 0x2003, target := .kinds [.hb, .ld, .mx, .sv] },
    { op := 0x2003, target := .kinds [.loop], used := pBytes 16 4 },
    { op := 0x2004, target := .kinds [.hs, .ls, .loop], used := 0 },
    { op := 0x2004, target := .kinds [.hb, .ld, .mx, .sv, .bst, .io] },
    { op := 0x2005, target := .kinds [.hs, .ls], used := 0 },
    { op := 0x2005, target := .kinds [.hb, .ld, .sv, .io] },
    { op := 0x2006, target := .kinds [.hb, .ii] },
    { op := 0x2007, target := .kinds [.hb] },
    { op := 0x2010, target := .kinds [.can, .lin, .eth] },
    { op := 0x2011, target := .kinds [.can] },
    { op := 0x2012, target := .kinds [.lin] }, { op := 0x2013, target := .kinds [.lin] }, { op := 0x2014, target := .kinds [.lin] },
    { op := 0x2015, target := .kinds [.can, .lin, .eth] }, { op := 0x2016, target := .kinds [.can, .lin, .eth] },
    { op := 0x2020, target := .kinds [.twin] }, { op := 0x2021, target := .kinds [.twin] }, { op := 0x2022, target := .kinds [.twin] } ]

def opTable3 : List OpInfo :=
  [ { op := 0x3001, target := .kinds [.hs, .ls] },
    { op := 0x3001, target := .kinds [.hb, .ld, .sv, .mx, .bst, .sw, .ii, .io] },
    { op := 0x3001, target := .kinds [.loop], used := pBytes 16 8 },
    { op := 0x3002, target := .kinds [.hs, .ls], used := 0 },
    { op := 0x3002, target := .kinds [.sv] },
    { op := 0x3003, target := .kinds [.ld] },
    { op := 0x3004, target := .kinds [.mx] },
    { op := 0x3005, target := .kinds [.hb, .sv] },
    { op := 0x3006, target := .kinds [.loop] },
    { op := 0x3007, target := .kinds [.loop] },
    { op := 0x3008, target := .kinds [.loop], used := pBytes 16 8 } ]

/-- ACC_ENROL and ACC_RECORD, whose object the spec does not name, carry FFFFh or 0500h (DESIGN CHOICE, log entry 84). -/
def opTable45 : List OpInfo :=
  [ { op := 0x4001, target := .kinds [.can], used := pBits 16 31 + pBits 20 2 + pBits 21 1 + pBytes 22 10 },
    { op := 0x4001, target := .kinds [.lin, .eth] },
    { op := 0x5001, target := .kinds [.twin] },
    { op := 0x5010, target := .whole }, { op := 0x5011, target := .whole }, { op := 0x5013, target := .whole },
    { op := 0x5020, target := .wholeOrAccess }, { op := 0x5021, target := .wholeOrAccess },
    { op := 0x5030, target := .whole }, { op := 0x5031, target := .whole }, { op := 0x5032, target := .whole },
    { op := 0x5033, target := .whole }, { op := 0x5034, target := .whole }, { op := 0x5035, target := .whole } ]

/-- Every opcode of the spec. -/
def opTable : List OpInfo := opTable0 ++ opTable2 ++ opTable3 ++ opTable45

def Target.accepts (t : Target) (o : Nat) : Bool :=
  match t with
  | .whole => o == 0xFFFF
  | .kinds ks => match objKind o with | some (k, _) => ks.contains k | none => false
  | .any => (objKind o).isSome
  | .wholeOrAccess => o == 0xFFFF || o == 0x500

/-- The opcode's row for this object, if it has one. -/
def opFor (op o : Nat) : Option OpInfo := opTable.find? fun r => r.op == op && r.target.accepts o

/-- The parameter bits of an opcode that are not reserved; for an object that does not accept it, those that some object's row of it uses (R96). -/
def paramUsed (op o : Nat) : Nat :=
  match opFor op o with
  | some r => r.used
  | none => (opTable.filter (·.op == op)).foldl (fun u r => Nat.lor u r.used) 0

/-- The opcode is defined for some object (R96). -/
def opDefined (op : Nat) : Bool := decide (op / 4096 ≤ 5) && opTable.any (·.op == op)

/-- The opcode takes FFFFh, or it takes an object (R89). -/
def opTakesWhole (op : Nat) : Bool := opTable.any fun r => r.op == op && r.target.accepts 0xFFFF
def opTakesObject (op : Nat) : Bool := opTable.any fun r => r.op == op && r.target != .whole

/-! ### Lifecycle (R859, R862) -/

/-- The update opcodes of class 5h. -/
def isUpdateOp (op : Nat) : Bool := decide (0x5030 ≤ op ∧ op ≤ 0x5035)

/-- The lifecycle table of R862 admits the opcode: `lc` as coded in report byte 52. -/
def lifecycleAdmits (lc op : Nat) : Bool :=
  let cls := op / 4096
  match lc with
  | 0 => cls == 0 || cls == 1 || op == 0x5010 || op == 0x5013 || op == 0x5011
  | 1 => true
  | 2 => cls != 5 || isUpdateOp op || op == 0x5013 || op == 0x5011 || op == 0x5001
  | 3 => true
  | _ => cls == 0 || cls == 1 || op == 0x5013

end Sys2Proof.Machine
end

