-- ==== Sys2Proof/Machine/Arrive.lean ====
section
/-!
DEFINITION. Sys2Proof/Machine/Arrive.lean: how a command is fetched, checked, taken up or held back (R84, R96, R109, R112 to R118), and how a function
is frozen (R131, R800, R875, R876).
-/
namespace Sys2Proof.Machine

/-- The lifecycle state, coded as report byte 52 (R855): FIELD_SERVICE lies on top of FIELD. -/
def State.lifecycle (s : State) : Nat := if s.nv.lc = 2 ∧ s.sec.svcEnd.isSome then 3 else s.nv.lc

/-- Every chapter of the manual acts (R862): firmware runs. -/
def State.fullFunction (s : State) : Bool := s.lifecycle == 1 || s.lifecycle == 2 || s.lifecycle == 3

/-! ### Checks of R96 -/

/-- Reserved bits of the parameters that a plain mask does not give (R547): CAN_SEND's fields that depend on FMT and IDE. -/
def paramExtra (c : Cmd) : Bool :=
  if c.op = 0x4001 ∧ isKind .can c.object then
    let ide := c.argBits 16 29 1
    let rtr := c.argBits 16 30 1
    let fmt := c.arg 20 1 % 4
    if fmt = 3 then ide == 0 && rtr == 0 && c.argBits 16 11 18 == 0 && c.argBits 21 0 1 == 0
    else (ide == 1 || c.argBits 16 11 18 == 0) && (rtr == 0 || fmt == 0)
  else true

/-- Reserved bits and bytes are 0: those of the descriptor, and those that the opcode's table marks (R941). -/
def flagsOk (c : Cmd) : Bool :=
  decide (c.flags < 8) && c.rsv == 0 && (!opDefined c.op || (Nat.land c.param (paramUsed c.op c.object) == c.param % 2 ^ 128 && paramExtra c))

/-- The object check of R96: the sub-code when it fails. -/
def objectCheck (c : Cmd) : Option Nat :=
  if c.object = 0xFFFF then (if opTakesWhole c.op then none else some 0x0101)
  else if (objKind c.object).isNone then some 0x0101
  else if !opTakesObject c.op then some 0x0101
  else if (opFor c.op c.object).isNone then some 0x0102
  else none

/-- The permission check of R84 and R859: the sub-code when it fails; in RECOVERY also R915 (log entry 49).  A class or an opcode that the function may not
issue at all gives CLASS_FORBIDDEN, SET_TIME from PF1 to PF3 among them, an object beyond its set NOT_OWNER (DEDUCED, log entry 16). -/
def State.permCheck (s : State) (c : Cmd) : Option Nat :=
  let cls := c.op / 4096
  let owned := s.owner c.object == c.pf
  let r : Option Nat :=
    match cls with
    | 0 => if c.op = 0x0002 ∧ c.pf ≠ 0 then some 0x0108 else none
    | 1 =>
      if c.object = 0xFFFF then
        (if c.op = 0x1005 ∧ c.pf = 3 then some 0x0108 else none)
      else if c.pf = 3 ∧ c.object ≠ 0x0400 ∧ c.object ≠ 0x0500 then some 0x0107 else none
    | 2 => if 1 < c.pf then some 0x0108 else if owned then none else some 0x0107
    | 3 => if 1 < c.pf then some 0x0108 else if owned then none else some 0x0107
    | 4 => if 1 < c.pf then some 0x0108 else if owned then none else some 0x0107
    | _ => if c.pf = 3 then none else some 0x0108
  match r with
  | some e => some e
  | none =>
    if !lifecycleAdmits s.lifecycle c.op then some 0x0401
    else if s.pwr.recovery && !(cls == 0 || cls == 1 || (isUpdateOp c.op && c.pf == 3)) then some 0x0401
    else none

/-- SEQ exceeds the last accepted SEQ in 32-bit serial arithmetic (R115); a difference of exactly 2^31, which that arithmetic leaves undefined, does not
(DESIGN CHOICE, log entry 84). -/
def seqNewer (seq last : Nat) : Bool :=
  let d := (seq + 2 ^ 32 - last % 2 ^ 32) % 2 ^ 32
  decide (0 < d ∧ d < 2 ^ 31)

/-- The checks of this chapter, in their order: the first that fails (R96). -/
def State.checks (s : State) (c : Cmd) : Option (Code × Nat) :=
  if !flagsOk c then some (.refusedPolicy, 0x0103)
  else if !opDefined c.op then some (.refusedPolicy, 0x0102)
  else
    match objectCheck c with
    | some e => some (.refusedPolicy, e)
    | none =>
      match s.permCheck c with
      | some e => some (.refusedSecurity, e)
      | none =>
        if s.host.inflight.any (fun r => r.cmd.pf == c.pf && r.cmd.tag == c.tag && r.cmd.src == .host) && c.src == .host then
          some (.refusedState, 0x0105)
        else if c.src = .host ∧ !seqNewer c.seq (s.cmdRing c.pf c.ring).last then some (.refusedState, 0x0104)
        else none

/-! ### Twin pairs (R702, R714, R726, R731) -/

/-- The object is paired (R682), or a loop bound to one that is. -/
def State.pairedObj (s : State) (o : Nat) : Bool :=
  match recIx o with
  | some r => decide (r < 92) && s.rd Reg.TW_OBJ_MODE r != 0
  | none => match objKind o with
    | some (.loop, n) => (match recIx (s.rd Reg.LP_CFG0_OBJECT n) with
        | some r => s.rd Reg.LP_CFG0_KIND n != 0 && decide (r < 92) && s.rd Reg.TW_OBJ_MODE r != 0
        | none => false)
    | _ => false

/-- A class 2h command to a paired object or loop. -/
def State.pairCmd (s : State) (c : Cmd) : Bool := c.op / 4096 == 2 && s.pairedObj c.object

/-- The Shadow takes the command into the journal (R702). -/
def State.journals (s : State) (c : Cmd) : Bool := s.rd Reg.TW_STAT_ROLE == 2 && c.src == .host && s.pairCmd c


/-- The journal is full (R714). -/
def State.journalFull (s : State) : Bool := decide (1024 ≤ s.twin.journal.length)

/-- The Shadow's journal is full, and the ring delivers commands to it (R714). -/
def State.journalBars (s : State) (pf n : Nat) : Bool :=
  s.journalFull && s.rd Reg.TW_STAT_ROLE == 2 && s.twin.journal.any fun e => e.cmd.pf == pf && e.cmd.ring == n

/-- A command enters the journal, or completes LINK_LOST while the link is lost (R714, R726). -/
def State.journal (s : State) (c : Cmd) : State :=
  if s.rd Reg.TW_STAT_STATE = 6 then s.complete c .refusedState 0x1D07
  else
    let s := s.modFlight c fun r => { r with started := true }
    { s with twin := { s.twin with journal := s.twin.journal ++ [{ cmd := c, at_ := s.now }] } }

/-- The Final image and Handoff phases of a swap keep the Lead from starting the command (R731). -/
def State.swapHolds (s : State) (c : Cmd) : Bool :=
  (match s.twin.swap with | some w => w.phase == 2 || w.phase == 3 | none => false) && s.rd Reg.TW_STAT_ROLE == 1 && s.pairCmd c

/-- The last command performed on a paired object is kept for its image record (R712). -/
def State.notePerformed (s : State) (c : Cmd) : State :=
  if s.pairedObj c.object then { s with twin := { s.twin with performed := tput s.twin.performed c.object (c.seq, c.pf, c.ring) } } else s

/-! ### Fetching -/

/-- Commands in flight of a function, and of all functions (HR_TAGS). -/
def State.ownTags (s : State) (pf : Nat) : Nat := (s.host.inflight.filter fun r => r.cmd.pf == pf && r.cmd.src == .host).length
def State.allTags (s : State) : Nat := (s.host.inflight.filter fun r => r.cmd.src == .host).length

/-- A function's guaranteed share (R113). -/
def tagShare (pf : Nat) : Nat := if pf ≤ 1 then 1024 else 256

/-- Tags drawn from the common pool of 1,536. -/
def State.poolUsed (s : State) : Nat := ((List.range 4).map fun k => s.ownTags k - tagShare k).foldl (· + ·) 0

/-- The function has a tag left in its share or in the pool (R113). -/
def State.tagFree (s : State) (pf : Nat) : Bool := decide (s.ownTags pf < tagShare pf) || decide (s.poolUsed < 1536)

/-- Die C fetches: it is in Run, or in the Check phase of a Stop request (R828). -/
def State.fetching (s : State) : Bool :=
  match s.pwr.phase with
  | .run => true
  | .entering k => k == 1
  | _ => false

/-- The ring may fetch one command more (R107, R109, R111, R113, R131). -/
def State.canFetch (s : State) (pf n : Nat) : Bool :=
  let r := s.cmdRing pf n
  s.fetching && s.host.linkUp && (s.fn pf).enable && !(s.fn pf).frozen && r.en && !r.stopped && s.tagFree pf
  && decide ((s.cplRing pf r.cplsel).free > s.host.owed pf r.cplsel)
  && !s.journalBars pf n

/-- A ring that may fetch has an entry to fetch, as its index. -/
def State.fetchable (s : State) (k : Nat) : Bool := let r := s.cmdRing (k / 32) (k % 32); s.canFetch (k / 32) (k % 32) && r.head != r.tail

/-- It is the ring's turn (R114): no ring that may fetch has a lower RPRI, and none of the same RPRI comes before it after the one that was fetched from
last.  A fetch, and every other read of host memory, begins and ends within one command, so that the outstanding reads stay below R114's bounds (log entry 83). -/
def State.fetchTurn (s : State) (pf n : Nat) : Bool :=
  let k := 32 * pf + n
  let pri := fun (j : Nat) => (s.cmdRing (j / 32) (j % 32)).rpri
  let last := tget 127 s.host.lastRing (pri k)
  let place := fun (j : Nat) => (j + 127 - last) % 128
  (List.range 128).all fun j => j == k || !s.fetchable j || decide (pri k < pri j) || (pri j == pri k && decide (place k < place j))

/-- The command enters the list of commands in flight (R112), under the owners of that moment (R83). -/
def State.pushFlight (s : State) (c : Cmd) : State :=
  { s with host := { s.host with inflight := s.host.inflight ++
    [{ cmd := c, cpl := (s.cmdRing c.pf c.ring).cplsel, gen := (s.fn c.pf).gen, since := s.now, owners := s.host.owners }] } }

/-- The owner of an object when the command was fetched (R83). -/
def State.ownerFor (s : State) (c : Cmd) (o : Nat) : Nat :=
  match s.flight c with | some r => tget (defOwner o) r.owners o | none => s.owner o

/-- The checks of R96 on a command just fetched: it is in flight, or completed with the first failed check.  The second part says that it was accepted.
A priority class 0 of another function than PF0 becomes class 1, which counts as a clamp (R85). -/
def State.takeIn (s : State) (c : Cmd) : State × Bool :=
  match s.checks c with
  | some (code, sub) => (s.turnAway c code sub, false)
  | none =>
    let s := s.pushFlight c
    let s := match c.src with
      | .host => let r := s.cmdRing c.pf c.ring; s.setCmdRing c.pf c.ring { r with last := c.seq }
      | _ => s
    let s := if c.prio = 0 ∧ c.pf ≠ 0 then s.descClamp c (clampWin c.object) 2 0 2 0 1 else s
    (s, true)

/-! ### Withdrawing commands

Resets, freezes, an FLR and CANCEL take commands out of the blocks that hold them (R122, R125, R129, R132). -/

def keepCmd (p : Cmd → Bool) (c : Option Cmd) : Option Cmd := c.filter fun c => !p c

def Obj.forget (p : Cmd → Bool) (x : Obj) : Obj :=
  { x with cmd := keepCmd p x.cmd, chg := x.chg.filter fun c => !p c, checks := x.checks.filter fun y => !p y.1 }

def Demand.goes (p : Cmd → Bool) (d : Demand) : Bool := match d.cmd with | some c => p c | none => false

/-- The frame is sent for such a command. -/
def Tx.goes (p : Cmd → Bool) (t : Tx) : Bool := match t.frm with | .cmd c => p c | _ => false

def OutState.forget (p : Cmd → Bool) (x : OutState) : OutState :=
  { x with
    objs := x.objs.map fun e => (e.1, e.2.forget p)
    mx := { x.mx with swapCmds := x.mx.swapCmds.filter fun c => !p c }
    valves := x.valves.map fun e => (e.1, { e.2 with extra := e.2.extra.filter fun c => !p c })
    loops := x.loops.map fun e => (e.1, { e.2 with cmd := keepCmd p e.2.cmd }) }

def InState.forget (p : Cmd → Bool) (x : InState) : InState :=
  { x with
    ii := x.ii.map fun e => (e.1, { e.2 with clears := e.2.clears.filter fun c => !p c })
    configs := x.configs.filter fun c => !p c }

def LinCh.forget (p : Cmd → Bool) (x : LinCh) : LinCh :=
  { x with
    req := x.req.filter fun r => !p r.2.2
    sleeps := x.sleeps.filter fun c => !p c
    wakes := x.wakes.filter fun c => !p c }

def NetState.forget (p : Cmd → Bool) (x : NetState) : NetState :=
  { x with
    can := x.can.map fun e => (e.1, { e.2 with queue := e.2.queue.filter fun t => !t.goes p })
    lin := x.lin.map fun e => (e.1, e.2.forget p)
    ports := x.ports.map fun e => (e.1, { e.2 with queue := e.2.queue.filter fun t => !t.goes p })
    segs := x.segs.map fun e => (e.1, { e.2 with needs := e.2.needs.filter fun c => !p c })
    stored := x.stored.filter fun e => match e.2.cmd with | some c => !p c | none => true }

def TwinState.forget (p : Cmd → Bool) (x : TwinState) : TwinState :=
  { x with
    journal := x.journal.filter fun e => !p e.cmd
    swap := x.swap.map fun w => { w with cmds := w.cmds.filter fun c => !p c }
    joins := x.joins.filter fun e => !p e.1
    equinox := keepCmd p x.equinox }

def AccState.forget (p : Cmd → Bool) (x : AccState) : AccState :=
  { x with
    enrols := x.enrols.filter fun e => !p e.cmd
    enrol := x.enrol.filter fun e => !p e.cmd }

/-- No block holds a command at which `p` holds any more; the list of commands in flight is left alone. -/
def State.forget (s : State) (p : Cmd → Bool) : State :=
  let s := { s with
    out := s.out.forget p
    inp := s.inp.forget p
    net := s.net.forget p
    twin := s.twin.forget p
    acc := s.acc.forget p
    arb := { s.arb with
      waiting := s.arb.waiting.filter fun d => !d.goes p
      dieQueue := s.arb.dieQueue.filter fun d => !d.goes p } }
  let s := s.wr Reg.ARB_PEND_PEND 0 s.arb.waiting.length
  s.net.can.foldl (fun s e => s.wr Reg.CAN_STAT_TXQN e.1 (e.2.queue.length + b2n e.2.bus.isSome)) s

/-- Commands of a function that have not begun, as a test on commands. -/
def State.notBegun (s : State) (pf : Nat) (c : Cmd) : Bool :=
  c.pf == pf && match s.flight c with | some r => !r.begun | none => false

/-! ### Freezing -/

/-- Tails of the function's command rings, for the commands that a freeze catches (R132). -/
def State.ringTails (s : State) (pf : Nat) : Tab Nat :=
  (List.range 32).filterMap fun n => let r := s.cmdRing pf n; if r.en && r.head != r.tail then some (n, r.tail) else none

/-- DATA of ACCESS_VIOLATION: the log entry (R879, R880). -/
def Violation.data (v : Violation) : Nat :=
  (v.pf + 16 * v.kind + 256 * v.win + 65536 * v.off) + v.addr % 2 ^ 64 * 2 ^ 32 + v.time % 2 ^ 32 * 2 ^ 96

/-- An access-window violation: it is logged, the function is frozen, and its objects' orphan policies fall due (R132, R271, R760, R800, R876). -/
def State.freeze (s : State) (v : Violation) : State :=
  let tails := s.ringTails v.pf
  let f := s.fn v.pf
  let cores := s.host.inflight.filter fun r => r.cmd.pf == v.pf && r.cmd.src != .host && !r.begun
  let s := s.forget (s.notBegun v.pf)
  let s := cores.foldl (fun s r => s.complete r.cmd .masterFrozen) s
  let s := s.setFn v.pf { f with frozen := true, frzTail := tails }
  let s := { s with
    flt := { s.flt with
      viols := tput s.flt.viols s.flt.violNext v, violNext := (s.flt.violNext + 1) % 8
      violCnt := satAdd 16 s.flt.violCnt 1, frzcnt := satAdd 8 s.flt.frzcnt 1 }
    out := { s.out with orphanDue := s.out.orphanDue ++ [v.pf] } }
  (s.raise 0x0484 0xFFFF v.data).raiseFault 0x0184 0xFFFF (atByte 16 v.pf)

/-- A frozen function's accesses are not judged (R877). -/
def State.violate (s : State) (v : Violation) : State := if (s.fn v.pf).frozen then s else s.freeze v

/-- A DMA for a function: inside its ranges, or a violation (R875).  The second part says that it may be made. -/
def State.dma (s : State) (pf addr len : Nat) : State × Bool :=
  if s.dmaOk pf addr len then (s, true)
  else (s.violate { pf, kind := 1, addr, time := s.ntime }, false)

/-! ### Taking entries from a command ring (R97 to R100) -/

/-- The descriptor of ring `n` at HEAD is the command `c`. -/
def State.atHead (s : State) (c : Cmd) : Bool :=
  let r := s.cmdRing c.pf c.ring
  r.head != r.tail && c.slot == r.head % 2 ^ r.log2sz && !((s.fn c.pf).frzTail.any fun e => e.1 == c.ring)

/-- HEAD moves past one entry, and the ring has had its turn (R114). -/
def State.takeEntry (s : State) (pf n : Nat) : State :=
  let r := s.cmdRing pf n
  let s := s.setCmdRing pf n { r with head := (r.head + 1) % 65536 }
  { s with host := { s.host with lastRing := tput s.host.lastRing r.rpri (32 * pf + n) } }

/-- Address of the entry at HEAD. -/
def CmdRing.addr (r : CmdRing) : Nat := r.baseHi * 2 ^ 32 + r.baseLo * 4096 + 32 * (r.head % 2 ^ r.log2sz)

/-- HEAD is written to the head write-back address (R100). -/
def State.headWb (s : State) (pf n : Nat) : State :=
  let r := s.cmdRing pf n
  let d := s.dma pf (r.hwbHi * 2 ^ 32 + r.hwbLo * 4) 4
  if d.2 then { d.1 with host := d.1.host.post (.headWb pf n r.head) } else d.1

/-- Records of the same ring that precede `c`. -/
def earlier (c : Cmd) : List InFlight → List InFlight
  | [] => []
  | r :: t => if sameCmd r.cmd c then [] else if r.cmd.pf == c.pf && r.cmd.ring == c.ring && r.cmd.src == c.src then r :: earlier c t else earlier c t

/-- A command that comes after the records `e` of its ring is held back: by an earlier command to its object (R117), by its own FENCE (R118), or by a swap
of the twin pair (R731). -/
def State.holds (s : State) (c : Cmd) (e : List InFlight) : Bool :=
  s.swapHolds c || (c.object != 0xFFFF && e.any (fun r => r.cmd.object == c.object)) || (c.fence && !e.isEmpty)

/-- The command may not start yet: it is held back, or an earlier command of its ring that has not been taken up stands before it: one that nothing holds back, or
one with FENCE set (R116 to R118).  Rings do not wait for each other: a command that waits at the arbiter has not reached its object yet (R116, R120;
DEDUCED, log entry 26). -/
def State.heldBack (s : State) (c : Cmd) : Bool :=
  let e := earlier c s.host.inflight
  s.holds c e || e.any (fun r => !r.started && (r.cmd.fence || !s.holds r.cmd (earlier r.cmd s.host.inflight)))

/-- The command reaches its block: a command in flight that nothing holds back starts; a command not seen before is fetched and checked first.
The second part says that it starts now. -/
def State.arrive (s : State) (c : Cmd) : State × Bool :=
  if !s.dieC || (c.src == .host && (s.fn c.pf).frozen) then (s, false)
  else
    match s.flight c with
    | some r =>
      if r.started then (s, false)
      else if s.journals c then (if s.journalFull then s else s.journal c, false)
      else if s.heldBack c then (s, false)
      else (s.modFlight c (fun r => { r with started := true }), true)
    | none =>
      if c.src ≠ .host ∨ !s.canFetch c.pf c.ring ∨ !s.atHead c ∨ !s.fetchTurn c.pf c.ring ∨ (s.journals c && s.journalFull) then (s, false)
      else
        let d := s.dma c.pf (s.cmdRing c.pf c.ring).addr 32
        if !d.2 then (d.1, false) else
        let a := (d.1.takeEntry c.pf c.ring).takeIn c
        let s1 := a.1.headWb c.pf c.ring
        let ok := a.2
        if (s1.fn c.pf).frozen then (s1, false)
        else if ok && s1.journals c then (s1.journal c, false)
        else if !ok || s1.heldBack c then (s1, false) else (s1.modFlight c (fun r => { r with started := true }), true)

/-- The command's object is on a power die that has no logic supply (R40). -/
def State.unserved (s : State) (c : Cmd) : Bool := match dieOf c.object with | some d => !s.pwr.dieUp.getD d false | none => false

/-- A command row: time passes, the command arrives, and `body` serves it when it starts.  A command to an object of a power die without logic supply
completes ABORTED_RESET (R127; log entry 56). -/
def State.serve (s : State) (dt : Ns) (c : Cmd) (body : State → State) : State :=
  let r := (s.tick dt).arrive c
  if !r.2 then r.1 else if r.1.unserved c then r.1.complete c .abortedReset else body (r.1.notePerformed c)

/-- The descriptor spells a command of opcode `op` to an object of a kind in `ks`, or to no object where `ks` is empty or the opcode takes FFFFh too. -/
def spells (c : Cmd) (op : Nat) (ks : List Kind) : Bool :=
  c.op == op && (match objKind c.object with | some (k, _) => ks.contains k | none => ks.isEmpty || (c.object == 0xFFFF && opTakesWhole op))

/-- As `serve`, for a row whose opcode is `op` on an object of kind `k`; a descriptor that does not spell the row's command is none of its commands, and
only time passes. -/
def State.serveOp (s : State) (dt : Ns) (c : Cmd) (op : Nat) (ks : List Kind) (body : State → State) : State :=
  if spells c op ks then s.serve dt c body else s.tick dt

/-- Posts result data for a command (R91, R942). -/
def State.postResult (s : State) (pf addr : Nat) (bytes : List Byte) : State := { s with host := s.host.post (.result pf addr bytes) }

/-- A command that writes `bytes` to the buffer in bytes 16 to 25 of its PARAM: BAD_BUFFER, a violation, or the result and DONE (R91, R119, R876). -/
def State.answerWith (s : State) (c : Cmd) (bytes : List Byte) : State :=
  let addr := c.arg 16 8
  let len := c.arg 24 2
  if addr % 8 ≠ 0 ∨ len < bytes.length then s.complete c .refusedPolicy 0x0109
  else
    let r := s.dma c.pf addr bytes.length
    if r.2 then (r.1.postResult c.pf addr bytes).complete c .done else r.1.complete c .masterFrozen

end Sys2Proof.Machine
end

