-- ==== Sys2Proof/Machine/Outputs.lean ====
section
/-!
DEFINITION. Sys2Proof/Machine/Outputs.lean: what the output objects HS, LS, HB, LD, MX, SV and BST have in common: state codes, causes, events,
verdicts, and how an object leaves its on path (R206 to R217, R221 to R224, R240, R379, R430, R466, R947).
-/
namespace Sys2Proof.Machine

/-! ### Places -/

/-- Index of an output object in its window's registers. -/
def ix (o : Nat) : Nat :=
  match objKind o with
  | some (.hs, n) => n | some (.ls, n) => 48 + n | some (_, n) => n | none => 0

def State.obj (s : State) (o : Nat) : Obj := tget {} s.out.objs o
def State.setObj (s : State) (o : Nat) (x : Obj) : State := { s with out := { s.out with objs := tput s.out.objs o x } }
def State.modObj (s : State) (o : Nat) (f : Obj → Obj) : State := s.setObj o (f (s.obj o))
def State.led (s : State) (n : Nat) : Led := tget {} s.out.leds n
def State.modLed (s : State) (n : Nat) (f : Led → Led) : State := { s with out := { s.out with leds := tput s.out.leds n (f (s.led n)) } }
def State.valve (s : State) (n : Nat) : Valve := tget {} s.out.valves n
def State.modValve (s : State) (n : Nat) (f : Valve → Valve) : State := { s with out := { s.out with valves := tput s.out.valves n (f (s.valve n)) } }
def State.bridge (s : State) (n : Nat) : Bridge := tget {} s.out.bridges n
def State.modBridge (s : State) (n : Nat) (f : Bridge → Bridge) : State := { s with out := { s.out with bridges := tput s.out.bridges n (f (s.bridge n)) } }
def State.limp (s : State) (r : Nat) : Limp := tget {} s.out.limps r
def State.modLimp (s : State) (r : Nat) (f : Limp → Limp) : State := { s with out := { s.out with limps := tput s.out.limps r (f (s.limp r)) } }
def State.modMx (s : State) (f : Matrix → Matrix) : State := { s with out := { s.out with mx := f s.out.mx } }

/-- A switch input and an isolated input. -/
def State.sw (s : State) (n : Nat) : SwIn := tget {} s.inp.sw n
def State.modSw (s : State) (n : Nat) (f : SwIn → SwIn) : State := { s with inp := { s.inp with sw := tput s.inp.sw n (f (s.sw n)) } }
def State.ii (s : State) (n : Nat) : IiIn := tget {} s.inp.ii n
def State.modIi (s : State) (n : Nat) (f : IiIn → IiIn) : State := { s with inp := { s.inp with ii := tput s.inp.ii n (f (s.ii n)) } }

/-- STAT.STATE of a kind (the isolated outputs share these places). -/
def stField : Kind → Field
  | .ld => Reg.LD_STAT_STATE | .sv => Reg.SV_STAT_STATE | .hb => Reg.HB_STAT_STATE | .mx => Reg.MX_STAT_STATE | .bst => Reg.BST_STAT_STATE
  | .io => Reg.IO_STAT_STATE | _ => Reg.CH_STAT_STATE
/-- STAT.FAULT of a kind. -/
def faultField : Kind → Field
  | .ld => Reg.LD_STAT_FAULT | .sv => Reg.SV_STAT_FAULT | .hb => Reg.HB_STAT_FAULT | .mx => Reg.MX_STAT_FAULT | .bst => Reg.BST_STAT_FAULT
  | .io => Reg.IO_STAT_FAULT | _ => Reg.CH_STAT_FAULT
/-- STAT.CAUSE of a kind; MX has none. -/
def causeField : Kind → Option Field
  | .ld => some Reg.LD_STAT_CAUSE | .sv => some Reg.SV_STAT_CAUSE | .hb => some Reg.HB_STAT_CAUSE | .mx => none
  | .bst => some Reg.BST_STAT_CAUSE | .io => some Reg.IO_STAT_CAUSE | _ => some Reg.CH_STAT_CAUSE
/-- The verdict of a kind; BST has none. -/
def verdField : Kind → Option Field
  | .hs => some Reg.DG_DSTAT_VERDICT | .ls => some Reg.DG_DSTAT_VERDICT | .ld => some Reg.LD_STAT_VERDICT | .sv => some Reg.SV_STAT_VERDICT
  | .hb => some Reg.HB_STAT_VERDICT | .mx => some Reg.MX_STAT_VERDICT | .io => some Reg.IO_STAT_VERDICT | _ => none

/-- State code of LATCHED, THERM_WAIT and SUPPLY_WAIT (R218, R376, R378, R431, R432, R464); 99 where a kind has no such state. -/
def stLatched : Kind → Nat | .hs => 6 | .ls => 6 | .ld => 5 | .sv => 7 | .hb => 7 | .mx => 3 | .bst => 5 | .io => 4 | _ => 99
def stTherm : Kind → Nat | .hs => 4 | .ls => 4 | .ld => 3 | .sv => 5 | .hb => 5 | .bst => 3 | .io => 2 | _ => 99
def stSupply : Kind → Nat | .hs => 5 | .ls => 5 | .ld => 4 | .sv => 6 | .hb => 6 | .mx => 2 | .bst => 4 | .io => 3 | _ => 99

def kindOf (o : Nat) : Kind := match objKind o with | some (k, _) => k | none => .access

/-- The object is an output object. -/
def isOutput (o : Nat) : Bool := [Kind.hs, .ls, .hb, .ld, .mx, .sv, .bst].contains (kindOf o)

def State.st (s : State) (o : Nat) : Nat := s.rd (stField (kindOf o)) (ix o)
def State.latched (s : State) (o : Nat) : Bool := s.st o == stLatched (kindOf o)
def State.waits (s : State) (o : Nat) : Bool := s.st o == stTherm (kindOf o) || s.st o == stSupply (kindOf o)

/-- The object is on its on path: ON, INR_ON and INR_OFF of a channel, SOFTSTART and ON, BOOST to HOLD, RAMP, RUN and REVERSE, CHARGING and READY. -/
def onPath (k : Kind) (st : Nat) : Bool :=
  match k with
  | .hs => [1, 2, 3].contains st | .ls => [1, 2, 3].contains st | .ld => [1, 2].contains st | .sv => [1, 2, 3].contains st
  | .hb => [1, 2, 4].contains st | .mx => st == 1 | .bst => [1, 2].contains st | _ => false
def State.isOn (s : State) (o : Nat) : Bool := onPath (kindOf o) (s.st o)

/-- STATE takes a value; the network time of the change is kept (R216). -/
def State.setSt (s : State) (o v : Nat) : State := (s.wr (stField (kindOf o)) (ix o) v).modObj o fun x => { x with changed := s.ntime }

/-- The power die of an object has its logic supply (R40). -/
def State.supplied (s : State) (o : Nat) : Bool :=
  match dieOf o with | some d => s.pwr.dieUp.getD d false | none => s.dieC

/-- A count of READ_COUNTERS rises (R217, R429). -/
def State.count (s : State) (o k : Nat) (n : Nat := 1) : State := s.modObj o fun x => { x with counts := tput x.counts k (satAdd 32 (tget 0 x.counts k) n) }

/-- Supply of an object: its group's, or VBAT for the LS channels, 10 mV per unit. -/
def State.groupVolt (s : State) (g : Nat) : Nat := if g = 0 then s.rd Reg.GLB_VBAT_VBAT else s.rd Reg.GLB_VS_VOLT (g - 1)
def State.supply (s : State) (o : Nat) : Nat := match groupOf o with | some g => s.groupVolt g | none => 0

/-- The object's group is frozen under R42. -/
def State.groupFrozen (s : State) (g : Nat) : Bool := g != 0 && bit (s.rd Reg.GLB_OVSTAT_OV) (g - 1)
def State.ovFrozen (s : State) (o : Nat) : Bool := match groupOf o with | some g => s.groupFrozen g | none => false

/-- The classes 1 to 3, and class 0, of a group are cut (R314, R316). -/
def State.cut13 (s : State) (g : Nat) : Bool := if g = 0 then s.flag Reg.ARB_GRPSTAT_CUTB else bit (s.rd Reg.ARB_GRPSTAT_CUT) (g - 1)
def State.cut0 (s : State) (g : Nat) : Bool := if g = 0 then s.flag Reg.ARB_GRPSTAT_CUT0B else bit (s.rd Reg.ARB_GRPSTAT_CUT0) (g - 1)
def State.cutFor (s : State) (o cls : Nat) : Bool :=
  match groupOf o with | some g => if cls = 0 then s.cut0 g else s.cut13 g | none => false

/-- The duty or level that an object has been set to: the one that waits for the next period, else the one in effect. -/
def State.setDuty (s : State) (o : Nat) : Nat := let x := s.obj o; match x.next with | some d => d | none => x.duty

/-! ### Causes -/

/-- What takes an object off its on path. -/
inductive Cause where
  | short | overcurrent | inrushFail | thermal | deltaT | uvCut | clampLock | overvoltage | openString | openCoil | bankShort | rowShort
  deriving DecidableEq, Repr

/-- STAT.CAUSE codes (R214, R376, R430, R432, R464). -/
def causeCode (k : Kind) (c : Cause) : Nat :=
  match k, c with
  | .ld, .openString => 1 | .ld, .short => 2 | .ld, .thermal => 3 | .ld, .uvCut => 4 | .ld, .overvoltage => 5
  | .sv, .openCoil => 1 | .sv, .short => 2 | .sv, .thermal => 3 | .sv, .uvCut => 4 | .sv, .overvoltage => 5 | .sv, .bankShort => 6 | .sv, .clampLock => 7
  | .bst, .short => 1 | .bst, .thermal => 2 | .bst, .uvCut => 3 | .bst, .overvoltage => 4
  | .hb, .short => 1 | .hb, .thermal => 2 | .hb, .uvCut => 3 | .hb, .overvoltage => 4
  | .io, .overcurrent => 1 | .io, .thermal => 2 | .io, .uvCut => 3
  | .mx, .rowShort => 3 | .mx, .uvCut => 1 | .mx, .overvoltage => 2
  | _, .short => 1 | _, .overcurrent => 2 | _, .inrushFail => 3 | _, .thermal => 4 | _, .deltaT => 5 | _, .uvCut => 6 | _, .clampLock => 7
  | _, .overvoltage => 8 | _, _ => 0

/-- Low byte of a cause's FAULTED sub-code (R213, R379, R430, R466). -/
def causeSub (k : Kind) (c : Cause) : Nat :=
  match k, c with
  | .ld, .openString => 0x10 | .ld, .short => 0x11 | .ld, .thermal => 0x12 | .ld, .uvCut => 0x13 | .ld, .overvoltage => 0x14
  | .mx, .uvCut => 0x13 | .mx, .overvoltage => 0x14 | .mx, .rowShort => 0x17
  | .sv, .openCoil => 0x10 | .sv, .short => 0x11 | .sv, .thermal => 0x12 | .sv, .uvCut => 0x13 | .sv, .overvoltage => 0x14 | .sv, .bankShort => 0x16
  | .sv, .clampLock => 0x17
  | .bst, .short => 0x11 | .bst, .thermal => 0x12 | .bst, .uvCut => 0x13 | .bst, .overvoltage => 0x14
  | .io, .thermal => 0x12
  | .hb, .short => 0x10 | .hb, .thermal => 0x12 | .hb, .uvCut => 0x13 | .hb, .overvoltage => 0x14
  | _, .short => 0x10 | _, .overcurrent => 0x11 | _, .inrushFail => 0x12 | _, .thermal => 0x13 | _, .deltaT => 0x14 | _, .uvCut => 0x15
  | _, .overvoltage => 0x16 | _, _ => 0

/-- The sub-code of a cause for an object. -/
def subOf (o : Nat) (c : Cause) : Nat :=
  match kindOf o, c with
  | .hs, .clampLock => Config.clampLockSub o
  | .ls, .clampLock => Config.clampLockSub o
  | .io, .uvCut => Config.vfldUvSub o
  | k, c => objWin o * 256 + causeSub k c

/-! ### Events -/

/-- When the power die of an object last started. -/
def State.dieStart (s : State) (o : Nat) : Ns := match dieOf o with | some d => s.pwr.dieAt.getD d 0 | none => 0

/-- The present value of a channel's accumulator ACC (R172), for HS, LS and SV; it decays from the last clamp event or the start of its die (R175). -/
def State.accNow (s : State) (o : Nat) : Nat :=
  let t := s.now - max (s.obj o).accAt (s.dieStart o)
  match kindOf o with
  | .sv => decay (s.rd Reg.SV_ACT2_ACC (ix o)) t (accTau 48)
  | _ => decay (s.rd Reg.CH_ACC_ACC (ix o)) t (accTau (ix o))

/-- Tj + 50 of an object's stage as last measured; the die's reading before its first sample. -/
def State.tjOf (s : State) (o : Nat) : Nat :=
  match kindOf o with
  | .hs => s.rd Reg.CH_MEAS_TJ (ix o)
  | .ls => s.rd Reg.CH_MEAS_TJ (ix o)
  | _ => let t := tget 0 s.out.stageTj o; if t = 0 then s.rd Reg.GLB_TDIE_P2 else t

/-- DATA of an object's events (R215, R379, R430, R466). -/
def State.evData (s : State) (o : Nat) : Nat :=
  let i := ix o
  let sup := s.supply o
  let vbst := s.rd Reg.BST_STAT_VBST
  match kindOf o with
  | .ld =>
    atByte 16 (s.rd Reg.LD_STAT_CAUSE i) + atByte 17 (s.rd Reg.LD_STAT_VERDICT i) + atByte 18 (s.rd Reg.LD_MEAS_IMEAS i) + atByte 20 sup
    + atByte 22 (s.rd Reg.LD_TEMP_TS i) + atByte 23 (s.rd Reg.GLB_TDIE_P2) + atByte 24 (s.rd Reg.LD_MEAS_VSTR i) + atByte 26 (s.rd Reg.LD_TEMP_GAPP i)
  | .sv =>
    atByte 16 (s.rd Reg.SV_STAT_CAUSE i) + atByte 17 (s.rd Reg.SV_STAT_VERDICT i) + atByte 18 (s.rd Reg.SV_MEAS_IMEAS i) + atByte 20 sup
    + atByte 22 vbst + atByte 24 (s.rd Reg.GLB_TDIE_P2) + atByte 26 (s.accNow o)
  | .bst => atByte 16 (s.rd Reg.BST_STAT_CAUSE) + atByte 20 sup + atByte 22 vbst + atByte 24 (s.rd Reg.GLB_TDIE_P2)
  | .hb =>
    atByte 16 (s.rd Reg.HB_STAT_CAUSE i) + atByte 17 (s.rd Reg.HB_STAT_VERDICT i) + atByte 18 (s.rd Reg.HB_MEAS_IMEAS i) + atByte 20 sup
    + atByte 22 (s.tjOf o) + atByte 24 (s.rd Reg.HB_POS_POS i)
  | .mx => Config.mxTripData (s.rd Reg.MX_STAT_STATE) (s.rd Reg.MX_STAT_VERDICT)
  | .io => atByte 16 (s.rd Reg.IO_STAT_CAUSE i) + atByte 18 (s.rd Reg.IO_STAT_IOUT i) + atByte 20 (s.rd Reg.BAR_VFLD_VFLD)
  | _ =>
    atByte 16 (s.rd Reg.CH_STAT_CAUSE i) + atByte 17 (s.rd Reg.CH_STAT_RETRIES i) + atByte 18 (s.rd Reg.CH_MEAS_IOUT i) + atByte 20 sup
    + atByte 22 (s.rd Reg.CH_MEAS_TJ i) + atByte 23 (s.rd Reg.CH_MEAS_DT i) + atByte 24 (s.accNow o) + atByte 26 (s.rd Reg.CH_ACC_ELAST i)

/-- An event of an object's window, with the object's DATA. -/
def State.objEvent (s : State) (o yy : Nat) : State := s.raise (objWin o * 256 + yy) o (s.evData o)
def State.objFault (s : State) (o yy : Nat) : State := s.raiseFault (objWin o * 256 + yy) o (s.evData o)

/-! ### Measurements -/

/-- The leader of channel index `i` (R199): itself when it is single. -/
def State.chLeader (s : State) (i : Nat) : Nat :=
  if s.rd Reg.CH_CFG3_PARSZ (i - i % 4) = 2 then i - i % 4 else if s.rd Reg.CH_CFG3_PARSZ (i - i % 2) = 1 then i - i % 2 else i

/-- The active limit of a channel, mA: ILIM_INR during an inrush, else ILIM; each member of a group has the leader's (R165, R202). -/
def State.limitMa (s : State) (o : Nat) : Nat :=
  let i := s.chLeader (chIx o)
  s.rd (if s.st o = 2 then Reg.CH_CFG0_ILIM_INR else Reg.CH_CFG0_ILIM) i * ilimStep i * 125

/-- Number of channels that a PARSZ value joins. -/
def parCount (v : Nat) : Nat := if v = 1 then 2 else if 2 ≤ v then 4 else 1

/-- A measured channel current, signed, mA. -/
def Meas.ma (m : Meas) : Int := 10 * sgn 16 m.i

/-- The channel is in current limit: it regulates, and its current is within the 10 % tolerance of the active limit (R165). -/
def State.inLimit (s : State) (o : Nat) (m : Meas) : Bool :=
  m.lim.isSome && decide (9 * (s.limitMa o : Int) ≤ 10 * m.ma) && (s.st o == 1 || s.st o == 2)

/-- The span from `a` to `b` in ns within [`t`, `u`]. -/
def spanWithin (t u a b : Ns) : Ns := min u b - max t a

/-- Time within [`t`, now] in which SAG of the object's group was set (R194). -/
def State.sagTime (s : State) (o : Nat) (t : Ns) : Ns :=
  match groupOf o with
  | some g =>
    let x : Group := tget {} s.arb.groups g
    (x.sags.map fun p => spanWithin t s.now p.1 p.2).foldl (· + ·) 0 + (match x.sagAt with | some a => s.now - max t a | none => 0)
  | none => 0

/-- The limit dwell of one channel (R166); it stands still while SAG is set in INR_ON (R194). -/
def State.dwell (s : State) (o : Nat) : Ns :=
  match (s.obj o).limAt with
  | some t => (s.now - t) - (if s.st o = 2 then s.sagTime o t else 0)
  | none => 0

/-- Hottest of a power die's own sensor and its channel and stage sensors (R54, R183). -/
def State.hottest (s : State) (d : Nat) : Nat :=
  let chans := match d with | 0 => List.range 24 | 1 => (List.range 24).map (24 + ·) | _ => (List.range 16).map (48 + ·)
  let ts := chans.map (fun i => s.rd Reg.CH_MEAS_TJ i) ++ (if d = 2 then s.out.stageTj.map (·.2) else [])
  ts.foldl max (s.out.dieTj.getD d 0)

/-- GLB_TDIE of a power die follows its sensors. -/
def State.showDie (s : State) (d : Nat) : State :=
  s.wr (match d with | 0 => Reg.GLB_TDIE_P0 | 1 => Reg.GLB_TDIE_P1 | _ => Reg.GLB_TDIE_P2) 0 (s.hottest d)

/-- ΔT = Tj - TCASE in units of 0.125 K (R183). -/
def State.deltaT (s : State) (tj : Nat) : Int := 8 * ((tj : Int) - 50) - s.tcase

/-- A channel's measurement: MEAS, the drain voltage, and whether the channel is in limit; the limit dwell began no earlier than the gate drive, and is 0
again when the current has fallen below the limit (R166, R183).  DT shows ΔT to the nearest kelvin (DESIGN CHOICE, log entry 81). -/
def State.chMeasure (s : State) (o : Nat) (m : Meas) : State :=
  let i := ix o
  let lim := if s.inLimit o m then m.lim else none
  let s := ((s.wr Reg.CH_MEAS_IOUT i m.i).wr Reg.CH_MEAS_TJ i m.tj).wr Reg.CH_MEAS_DT i (unsgn 8 (max (-128) (min 127 ((s.deltaT m.tj + 4) / 8))))
  let s := s.modObj o fun x => { x with vdrain := m.vout, limAt := lim.map fun l => max x.onAt (s.now - l) }
  s.showDie (match dieOf o with | some d => d | none => 0)

/-- A stage's measurement of its temperature. -/
def State.stageMeasure (s : State) (o : Nat) (m : Meas) : State :=
  ({ s with out := { s.out with stageTj := tput s.out.stageTj o m.tj } } : State).showDie 2

/-- The registers of a measurement that an event carries. -/
def State.measure (s : State) (o : Nat) (m : Meas) : State :=
  let i := ix o
  match kindOf o with
  | .ld => (s.wr Reg.LD_MEAS_IMEAS i m.i).stageMeasure o m
  | .sv => (s.wr Reg.SV_MEAS_IMEAS i m.i).stageMeasure o m
  | .hb => (s.wr Reg.HB_MEAS_IMEAS i m.i).stageMeasure o m
  | .hs => s.chMeasure o m
  | .ls => s.chMeasure o m
  | _ => s.stageMeasure o m

/-! ### Free-running periods (R162, R335, R438) -/

/-- Between the counts `a` and `b` of a free-running counter lies a multiple of `per` plus `off`. -/
def countPassed (per off a b : Nat) : Bool := decide (0 < per) && decide ((a + per - off % per) / per < (b + per - off % per) / per)

/-- A multiple of `per` plus `off`, in counts of `unit` ns from the power-up reset, lies after `t` and not after now.  A period may start late, never
twice (DESIGN CHOICE, log entry 82: the counts of TB8 and TB9 start at 0 at the power-up reset). -/
def State.boundary (s : State) (unit per off : Nat) (t : Ns) : Bool := countPassed per off (t / unit) (s.now / unit)

/-- The count of TB9, 80 MHz (log entry 82). -/
def tb9 (t : Ns) : Nat := 2 * t / 25

/-! ### Verdicts (R221 to R224, R240) -/

/-- The verdict that a latch holds (R222, R357, R421, R453). -/
def latchVerdict (k : Kind) (cause : Nat) : Option Nat :=
  match k with
  | .hs => if cause = 1 then some 5 else if cause = 2 then some 4 else none
  | .ls => if cause = 1 then some 5 else if cause = 2 then some 4 else none
  | .ld => if cause = 1 then some 2 else if cause = 2 then some 3 else none
  | .sv => if cause = 1 then some 2 else if cause = 2 ∨ cause = 6 then some 3 else none
  | .hb => if cause = 1 then some 3 else none
  | .mx => if cause = 3 then some 3 else none
  | .io => some 3
  | _ => none

/-- Sub-code with which a DIAG_CHECK ends when the verdict is a fault (R240, R357, R421, R453). -/
def verdictSub (o v cause : Nat) : Nat :=
  let yy := match kindOf o with
    | .ld => match v with | 2 => 0x10 | 3 => 0x11 | 4 => 0x15 | _ => 0x16
    | .sv => if v = 2 then 0x10 else if cause = 6 then 0x16 else 0x11
    | .hb => if v = 2 then 0x15 else 0x10
    | .io => if v = 2 then 0x13 else 0x11
    | _ => match v with | 2 => 0x17 | 3 => 0x18 | 4 => 0x19 | _ => 0x10
  objWin o * 256 + yy

/-- The verdict of an object takes a value: an event 90h + code when it changes, and the counters of R277. -/
def State.setVerdict (s : State) (o v : Nat) : State :=
  match verdField (kindOf o) with
  | none => s
  | some f =>
    if s.rd f (ix o) = v then s
    else
      let s := s.wr f (ix o) v
      let ch := isKind .hs o || isKind .ls o
      let s := if ch ∧ v = 2 then s.bump Reg.DG_DCNT_OPENCNT (ix o) else if ch ∧ v = 0 then s.bump Reg.DG_DCNT_UNVCNT (ix o) else s
      s.objEvent o (0x90 + v)

/-- The waiting DIAG_CHECKs of an object complete (R240). -/
def State.endChecks (s : State) (o : Nat) (code : Code) (sub : Nat) : State :=
  let cs := (s.obj o).checks
  cs.foldl (fun s p => s.complete p.1 code sub) (s.modObj o fun x => { x with checks := [] })

/-- CAUSE of an object; 0 where it has none. -/
def State.causeOf (s : State) (o : Nat) : Nat :=
  match kindOf o, causeField (kindOf o) with
  | .mx, _ => if s.st o = 3 then 3 else 0
  | _, some f => s.rd f (ix o)
  | _, none => 0

/-- CAUSE after a start of `o`: an automatic restart keeps it, as CH_RESTART and its like report it; another start clears it (DEDUCED, R214). -/
def State.keptCause (s : State) (o : Nat) : Nat := if s.waits o then s.causeOf o else 0

/-- A measurement sets or confirms verdict `v` (R224, R240); a verdict that a latch holds stays. -/
def State.judged (s : State) (o v : Nat) : State :=
  if s.latched o && (latchVerdict (kindOf o) (s.causeOf o)).isSome then s
  else
    let s := s.modObj o fun x => { x with measAt := some s.now, tookAt := some s.now }
    let s := s.setVerdict o v
    if v = 1 then s.endChecks o .done 0 else s.endChecks o .faulted (verdictSub o v (s.causeOf o))

/-- A verdict that no measurement forms (R331, R357). -/
def State.verdictSet (s : State) (o v : Nat) : State := (s.setVerdict o v).endChecks o .faulted (verdictSub o v (s.causeOf o))

/-- A measurement was taken, whether it forms a verdict or not: AGE starts again (R277, R376). -/
def State.took (s : State) (o : Nat) : State := s.modObj o fun x => { x with tookAt := some s.now }

/-- Freshness deadline of an object's verdict, in ns (R224). -/
def State.dfresh (s : State) (o : Nat) : Ns :=
  let i := ix o
  10000000 * (match kindOf o with
    | .ld => s.rd Reg.LD_CFG2_DFRESH i | .sv => s.rd Reg.SV_CFG4_DFRESH i | .hb => s.rd Reg.HB_CFG3_DFRESH i | .mx => s.rd Reg.MX_CFG1_MXFRESH
    | .io => s.rd Reg.IO_CFG_DFRESH i
    | _ => s.rd Reg.DG_DCFG0_DFRESH i)

/-- The verdict becomes UNVERIFIED, as after a latch is cleared (R223): the object counts as unmeasured. -/
def State.unverify (s : State) (o : Nat) : State := (s.modObj o fun x => { x with measAt := none, absent := 0 }).setVerdict o 0


/-! ### Leaving the on path -/

/-- Limit to the remembered current (R286): the object's ILIM in mA, of a paralleled group that of every member (R202), of a paralleled half-bridge that of
both members of the side. -/
def State.ilimMa (s : State) (o : Nat) : Nat :=
  let i := ix o
  match kindOf o with
  | .hs => s.rd Reg.CH_CFG0_ILIM i * ilimStep i * 125 * parCount (s.rd Reg.CH_CFG3_PARSZ i)
  | .ls => s.rd Reg.CH_CFG0_ILIM i * ilimStep i * 125 * parCount (s.rd Reg.CH_CFG3_PARSZ i)
  | .hb => s.rd Reg.HB_CFG0_ILIM i * 250 * (if 2 ≤ s.rd Reg.HB_CFG0_MODE i ∧ i % 2 = 0 then 2 else 1)
  | _ => 1000000

/-- The commands that wait for an outcome of the object end. -/
def State.endCmds (s : State) (o : Nat) (code : Code) (sub : Nat) : State :=
  let x := s.obj o
  let s := s.modObj o fun x => { x with cmd := none, chg := [] }
  (x.cmd.toList ++ x.chg).foldl (fun s c => s.complete c code sub) s

/-- The pending switch-on of an object completes DONE. -/
def State.cmdDone (s : State) (o : Nat) : State :=
  match (s.obj o).cmd with
  | some c => (s.modObj o fun x => { x with cmd := none }).complete c .done
  | none => s

/-- The pending changes of an object complete DONE. -/
def State.chgDone (s : State) (o : Nat) : State :=
  let cs := (s.obj o).chg
  cs.foldl (fun s c => s.complete c .done) (s.modObj o fun x => { x with chg := [] })

/-- The demands of the object that wait while the object is on its on path end with it (R212, R947); a restart demand is withdrawn. -/
def State.endWaiting (s : State) (o : Nat) (code : Code) (sub : Nat) : State :=
  let ds := (s.arb.waiting ++ s.arb.dieQueue).filter fun d => d.obj == o
  (ds.filterMap (·.cmd)).foldl (fun s c => s.complete c code sub) ((s.unwait fun d => d.obj == o).modObj o fun x => { x with asked := false })

/-- Sub-code ENDED_EARLY (R213, R358, R404); HB, MX and BST have none. -/
def endedEarly (o : Nat) : Nat := if isKind .hs o || isKind .ls o || isKind .ld o || isKind .sv o then objWin o * 256 + 0x0A else 0

/-- A bank of R302 by channel number: A, B, C are 0 to 2, SV12 to SV15 are 3 to 6. -/
def bankOf (n : Nat) : Nat := if n < 12 then n / 4 else n - 9

/-- The object's claims end; in a wait before an inrush has ended the reservation stays (R196). -/
def State.dropLoad (s : State) (o : Nat) (keep : Bool) : State := if keep then s else s.release o (s.ilimMa o)

/-- The object is switched off by a command, a shed, limp-home, an orphan policy or a debug policy, without a cause: commands whose outcome was not
reached complete DONE with ENDED_EARLY (R947, R358, R404). -/
def State.turnOff (s : State) (o st : Nat) : State :=
  let was := s.isOn o
  let s := s.endCmds o .done (endedEarly o)
  let s := if was || s.waits o then s.endWaiting o .done (endedEarly o) else s
  let s := s.dropLoad o false
  let s := s.setLoad o { s.load o with limp := false }
  let s := if s.st o = st then s else s.setSt o st
  s.modObj o fun x => { x with target := 0, duty := 0, next := none, lastOff := if was then s.now else x.lastOff, inrRun := none, inrTime := 0 }

/-- Network of counters of READ_COUNTERS for a cause of an HS or LS channel (R217). -/
def causeCount : Cause → Option Nat
  | .short => some 1 | .overcurrent => some 2 | .inrushFail => some 3 | .thermal => some 4 | .deltaT => some 5 | .uvCut => some 6
  | .overvoltage => some 6 | .clampLock => some 7 | _ => none

/-- The object leaves its on path with a cause, into a wait state or into LATCHED: commands complete FAULTED (R212), the claims end unless an inrush
keeps them, and the trip event is raised, a fault when the object latches (R206, R788). -/
def State.trip (s : State) (o : Nat) (c : Cause) (st : Nat) : State :=
  let k := kindOf o
  let latch := st == stLatched k
  let keep := !latch && isKind .hs o && s.flag Reg.CH_STAT_INR (ix o)
  let s := s.endCmds o .faulted (subOf o c)
  let s := s.endWaiting o .faulted (subOf o c)
  let s := s.dropLoad o keep
  let s := (s.setSt o st).modObj o fun x => { x with lastOff := s.now, duty := if latch then 0 else (match x.next with | some d => d | none => x.duty), next := none
                                                     inrTime := x.inrTime + (match x.inrRun with | some t => s.now - t | none => 0), inrRun := none }
  let s := match causeField k with | some f => s.wr f (ix o) (causeCode k c) | none => s
  let s := match causeCount c with | some n => if isKind .hs o || isKind .ls o then s.count o n else s | none => s
  if latch then
    let s := s.wr (faultField k) (ix o) 1
    let s := if isKind .hs o then s.wr Reg.CH_STAT_INR (ix o) 0 else s
    let s := match latchVerdict k (causeCode k c) with
      | some v => (s.setVerdict o v).endChecks o .faulted (verdictSub o v (causeCode k c))
      | none => s
    s.objFault o 0x81
  else s.objEvent o 0x81

/-! ### Checks before a control command (R201, R207, R257, R272, R44, R316) -/

/-- LIMP_ACTIVE or HELD for an object with a limp-and-hold record. -/
def State.limpBar (s : State) (o : Nat) : Option (Code × Nat) :=
  match recIx o with
  | none => none
  | some r =>
    if s.flag Reg.LIMP_STAT_ACTIVE then some (.refusedState, objWin o * 256 + 0x06)
    else if (s.limp r).dbgHeld then some (.refusedState, objWin o * 256 + 0x07)
    else none

/-- OVERVOLTAGE for a command that would change an object of a frozen group (R44). -/
def State.ovBar (s : State) (o : Nat) : Option (Code × Nat) :=
  if s.ovFrozen o then some (.refusedState, objWin o * 256 + causeSub (kindOf o) .overvoltage) else none

/-- The first refusal of a list of checks. -/
def firstBar : List (Option (Code × Nat)) → Option (Code × Nat)
  | [] => none
  | some r :: _ => some r
  | none :: t => firstBar t

/-- A refusal when `b` holds. -/
def barIf (b : Bool) (code : Code) (sub : Nat) : Option (Code × Nat) := if b then some (code, sub) else none

/-- LATCHED and RESTART_PENDING for a switch-on. -/
def State.onBar (s : State) (o : Nat) : Option (Code × Nat) :=
  firstBar [barIf (s.latched o) .refusedState (objWin o * 256 + 1), barIf (s.waits o) .refusedState (objWin o * 256 + 2)]


/-! ### Loops bound to an object (R488) -/

/-- The loop that is not OPEN and bound to `o`. -/
def State.loopOn (s : State) (o : Nat) : Option Nat :=
  (List.range 48).find? fun n => s.rd Reg.LP_CFG0_OBJECT n == o && s.rd Reg.LP_STAT_STATE n != 0

/-- LOOP_BOUND. -/
def State.loopBar (s : State) (o : Nat) : Option (Code × Nat) := barIf (s.loopOn o).isSome .refusedState 0x1002

/-! ### Claims -/

/-- The claims of an object that begins to run (R284, R288). -/
def State.claimOn (s : State) (o cls : Nat) (stand trans : List Claim) (dur : Ns) (limp : Bool) : State :=
  let l := s.load o
  (s.setLoad o { l with
    on := true, cls, stand, trans, dur, transEnd := s.now + dur, inTrans := !trans.isEmpty, onAt := s.now, measFrom := s.now
    shedAt := none, cut := false, limp, avg := none }).showUse

/-- A transient of a running object begins (R351). -/
def State.claimTrans (s : State) (o : Nat) (trans : List Claim) (dur : Ns) : State :=
  (s.setLoad o { s.load o with trans, dur, transEnd := s.now + dur, inTrans := true }).showUse

/-- The standing claims of a running object take values; its class stays that of the demand that switched it on (R288). -/
def State.claimSet (s : State) (o : Nat) (stand : List Claim) : State := (s.setLoad o { s.load o with stand }).showUse

/-- What the claims on budget `b` come to. -/
def claimSum (cs : List Claim) (b : Nat) : Nat := ((cs.filter fun c => c.b == b).map (·.amt)).foldl (· + ·) 0

/-- What the claims `new` ask beyond `old`. -/
def claimsOver (new old : List Claim) : List Claim :=
  new.filterMap fun c => let has := claimSum old c.b; if has < c.amt then some { c with amt := c.amt - has } else none

/-- The claims `more` beside `old`, budget by budget. -/
def addClaims (old more : List Claim) : List Claim :=
  old.map (fun c => { c with amt := c.amt + claimSum more c.b }) ++ more.filter fun c => !old.any fun x => x.b == c.b

/-- A rise of a running object is served: the difference joins its standing claims (R285). -/
def State.claimRise (s : State) (o : Nat) (more : List Claim) : State := s.claimSet o (addClaims (s.load o).stand more)

/-- A switch-on of the demand's class in a group that is cut for it (R317): no rise of an object that runs. -/
def State.cutRefuses (s : State) (d : Demand) : Bool := !s.isOn d.obj && s.cutFor d.obj d.cls

/-- The class that a demand of command `c` carries; class 0 of PF0 counts as class 1 while lockstep is lost for debug (R311). -/
def State.demandClass (s : State) (c : Cmd) : Nat :=
  if s.flag Reg.SHW_STAT_LLDBG ∧ c.cls = 0 then 1 else c.cls

/-- A clamp of R311 is recorded for a class 0 command of PF0. -/
def State.demandClamp (s : State) (c : Cmd) : State :=
  if s.flag Reg.SHW_STAT_LLDBG ∧ c.cls = 0 then s.descClamp c (clampWin c.object) 2 0 2 0 1 else s

/-- The demand of a command. -/
def State.cmdDemand (s : State) (c : Cmd) (kind : DKind) (stand trans : List Claim) (dur : Ns) : Demand :=
  let cls := s.demandClass c
  { obj := c.object, cls, kind, cmd := some c, arrival := s.now, latest := some (s.now + s.allowedLatency c cls), stand, trans, dur }

/-- The demand of a restart, of limp-home or of an orphan policy (R288, R300). -/
def State.ownDemand (s : State) (o cls : Nat) (kind : DKind) (stand trans : List Claim) (dur : Ns) : Demand :=
  { obj := o, cls, kind, cmd := none, arrival := s.now, latest := none, stand, trans, dur }

end Sys2Proof.Machine
end

