-- ==== Sys2Proof/Machine/Faults.lean ====
section
/-!
DEFINITION. Sys2Proof/Machine/Faults.lean: refused clears, retirement records and spares (R149 to R151, R793, R798, R805 to R817).
-/
namespace Sys2Proof.Machine

/-- Window, offset and bit of an output object's STAT.FAULT. -/
def faultPlace (o : Nat) : Nat × Nat × Nat :=
  let n := objNum o
  match kindOf o with
  | .ld => (0x0B, 0x14 + 0x40 * n, 15) | .sv => (0x0D, 0x18 + 0x40 * n, 15) | .hb => (0x0A, 0x18 + 0x40 * n, 15)
  | .mx => (0x0C, 0x0C, 8) | .bst => (0x0D, 0xC08, 20) | .ls => (0x09, 0x14 + 0x20 * n, 15) | _ => (0x08, 0x14 + 0x20 * n, 15)

/-- A clear of block `w` is refused (R793, R798, R817): REFUSED rises, FLT_CLEAR_REFUSED is raised and enters the block's history too. -/
def State.clearRefused (s : State) (w win off b pf obj : Nat) : State :=
  let data := atByte 16 w + atByte 17 win + atByte 18 off + atByte 20 b + atByte 21 pf + atByte 22 obj
  let x := s.blk w
  let s := { s with flt := { s.flt with blks := tput s.flt.blks w { x with refused := satAdd 16 x.refused 1 } } }
  let rs := s.routes obj
  let s := s.raiseTo 0x0581 obj data false (if rs.contains pf then rs else rs ++ [pf])
  if w = 5 then s else s.alsoIn w 0x0581 obj data true

/-- The 16 bytes of a retirement record (R811). -/
def Retirement.data (r : Retirement) : Nat :=
  atByte 16 r.kind + atByte 17 r.reason + atByte 18 r.unit + atByte 20 r.element + atByte 21 r.flags + atByte 22 r.index + atByte 24 r.time

/-- A retirement is recorded (R811): die C appends the record and raises RESOURCE_RETIRED.  While die C is absent a power die's retirement waits for
the next boot (R247, R813). -/
def State.retire (s : State) (kind reason unit element : Nat) (spare lost : Bool) : State :=
  let flags := b2n spare + 2 * b2n lost
  if !s.dieC then
    { s with nv := { s.nv with unlogged := s.nv.unlogged ++ [{ kind, reason, unit, element, flags := flags + 4, index := 0, time := s.ntime }] } }
  else
    let r : Retirement := { kind, reason, unit, element, flags, index := s.nv.retired.length, time := s.ntime }
    let s := { s with nv := { s.nv with retired := s.nv.retired ++ [r] } }
    let s := s.wr Reg.SPR_LOG_COUNT 0 s.nv.retired.length
    let obj := if kind = 1 ∨ kind = 6 then unit else 0xFFFF
    let s := s.raise 0x0582 obj r.data
    if kind = 1 ∨ kind = 6 then s.alsoIn (blockOf (objWin unit * 256)) 0x0582 obj r.data false else s

/-- The records that a boot appends for retirements made while die C was absent (R813). -/
def State.logMissed (s : State) : State :=
  let rs := s.nv.unlogged
  let s := { s with nv := { s.nv with unlogged := [] } }
  rs.foldl (fun s r =>
    let r : Retirement := { r with index := s.nv.retired.length }
    let s := { s with nv := { s.nv with retired := s.nv.retired ++ [r] } }
    let s := (s.wr Reg.SPR_LOG_COUNT 0 s.nv.retired.length).raise 0x0582 (if r.kind = 1 then r.unit else 0xFFFF) r.data
    if r.kind = 1 then s.alsoIn (objWin r.unit) 0x0582 r.unit r.data false else s) s

/-- SPARES_OUT (R806, R809, R817). -/
def State.sparesOut (s : State) (kind unit : Nat) : State := s.raise 0x0583 0xFFFF (atByte 16 kind + atByte 18 unit)

end Sys2Proof.Machine
end

