-- ==== Sys2Proof/Machine/Channel.lean ====
section
/-!
DEFINITION. Sys2Proof/Machine/Channel.lean: the HS and LS channels (R146 to R220): paralleled groups, claims, switching on and off, trips, restarts,
clearing.
-/
namespace Sys2Proof.Machine

/-! ### Paralleled groups (R199 to R205) -/


/-- The channel indices that leader `i` leads, itself included. -/
def State.chMembers (s : State) (i : Nat) : List Nat := (List.range (parCount (s.rd Reg.CH_CFG3_PARSZ i))).map (i + ·)

/-- PAR_MEMBER (R201). -/
def State.chMemberBar (s : State) (o : Nat) : Option (Code × Nat) :=
  barIf (s.chLeader (chIx o) != chIx o) .refusedState (objWin o * 256 + 4)

/-- The object whose limp-and-hold record and commands rule channel object `o`. -/
def State.chLead (s : State) (o : Nat) : Nat := chObj (s.chLeader (chIx o))

/-! ### Figures with derating (R150, R935) -/

/-- Retirements beyond the two spares. -/
def State.derated (s : State) (i : Nat) : Nat := (s.obj (chObj i)).retired.length - 2

/-- The channel's nominal current, mA. -/
def State.chNominal (s : State) (i : Nat) : Nat := nominal i * (16 - s.derated i) / 16

/-- The upper end of the ILIM range, in class steps. -/
def State.chIlimHi (s : State) (i : Nat) : Nat := ilimHi i * (16 - s.derated i) / 16

/-- Tj of a channel in °C; TCASE until the first sample (R188). -/
def State.chTj (s : State) (i : Nat) : Int :=
  let t := s.rd Reg.CH_MEAS_TJ i
  if t = 0 then s.tcase / 8 else (t : Int) - 50

/-- Maximum on-resistance at the present Tj, µΩ (R935, R810). -/
def State.chRon (s : State) (i : Nat) : Nat :=
  let r := (ron25 i : Int) + ((ron150 i : Int) - (ron25 i : Int)) * (s.chTj i - 25) / 125
  r.toNat * (16 + s.derated i) / 16

/-! ### Claims (R285) -/

/-- Remembered current of a channel or a paralleled group, at the leader, mA (R286, R287). -/
def State.chRem (s : State) (i : Nat) : Nat :=
  match (s.load (chObj i)).rem with
  | some v => v
  | none => ((s.chMembers i).map s.chNominal).foldl (· + ·) 0

/-- Claims of a current and a dissipation of an object: group (but for LS), die, die dissipation, module dissipation. -/
def objClaims (o ma uw : Nat) : List Claim :=
  let d := match dieOf o with | some d => d | none => 0
  (match groupOf o with | some g => if g = 0 then [] else [{ b := 3 + g, amt := ma }] | none => [])
  ++ [{ b := 10 + d, amt := ma }, { b := 1 + d, amt := uw }, { b := 0, amt := uw }]

/-- Standing claims of a channel that runs at `duty`. -/
def State.chStand (s : State) (i duty : Nat) : List Claim :=
  let ms := s.chMembers i
  let rem := s.chRem i
  let one := rem / ms.length
  let p := (ms.map fun m => one * one * s.chRon m / 1000000).foldl (· + ·) 0
  objClaims (chObj i) (rem * duty / 65535) (p * duty / 65535)

/-- Transient claims of an inrush: ILIM_INR of every member, and half the supply times that. -/
def State.chTil (s : State) (i : Nat) : Ns := s.rd Reg.CH_OUT_TIL i * 1000

def State.chTrans (s : State) (i : Nat) : List Claim :=
  let ma := s.rd Reg.CH_CFG0_ILIM_INR i * ilimStep i * 125 * (s.chMembers i).length
  (objClaims (chObj i) ma (5 * s.supply (chObj i) * ma)).map fun c => { c with dur := s.chTil i }

/-- The duty that counts: fully on for an on target. -/
def State.chDuty (s : State) (o : Nat) : Nat := let x := s.obj o; if x.target = 1 then 65535 else s.setDuty o

/-! ### Gate on -/

/-- An orphan state ends when a control command is served (R267). -/
def State.commanded (s : State) (o : Nat) : State :=
  match recIx o with | some r => s.wr Reg.LH_LHR1_ORPHANED r 0 | none => s

/-- A gate drive starts: the drain voltage measured before it becomes VDOFF; below 1.0 V, VBAT stands for it (R946). -/
def State.noteGate (s : State) (o : Nat) : State :=
  s.modObj o fun x => { x with vdoff := if x.vdrain < 100 then s.rd Reg.GLB_VBAT_VBAT else x.vdrain }

/-- The channels of the group start: state ON or INR_ON, with a limit dwell of 0 (R195, R202, R211).  A switch-on closes the reverse-blocking switch, and
starts the count of absent results afresh, which a turn-off carries into the off-state tests (DESIGN CHOICE, log entry 81). -/
def State.chGate (s : State) (i : Nat) (inr : Bool) : State :=
  (s.chMembers i).foldl (fun s m =>
    let o := chObj m
    let s := (((s.setSt o (if inr then 2 else 1)).count o 0).wr Reg.CH_STAT_REVOPEN m 0).noteGate o
    s.modObj o fun x => { x with onAt := s.now, absent := 0, limAt := none, perAt := s.now, inrRun := if inr then some s.now else none }) s

/-- The limit dwell of a group is the longest among its members (R205). -/
def State.grpDwell (s : State) (i : Nat) : Ns := ((s.chMembers i).map fun m => s.dwell (chObj m)).foldl max 0

/-- The target of the group's leader, STAT.PWM of its members. -/
def State.chTarget (s : State) (i target : Nat) : State :=
  let s := s.modObj (chObj i) fun x => { x with target }
  (s.chMembers i).foldl (fun s m => s.wrb Reg.CH_STAT_PWM m (target == 2)) s

/-- A switch-on is served: claims, states, target, and what waits for the outcome (R154, R157, R160, R164, R189, R196). -/
def State.chStart (s : State) (i cls target duty : Nat) (inr : Bool) (limp : Bool) (cmd : Option Cmd) : State :=
  let o := chObj i
  let eff := if target = 1 then 65535 else duty
  let s := s.claimOn o cls (s.chStand i eff) (if inr then s.chTrans i else []) (if inr then s.chTil i else 0) limp
  let s := s.chTarget i target
  let s := (s.chMembers i).foldl (fun s m =>
    let s := (s.wr Reg.CH_STAT_CAUSE m 0).wrb Reg.CH_STAT_INR m inr
    if inr then s.wr Reg.CH_STAT_RETRIES m 0 else s) s
  let s := s.chGate i inr
  let s := if target = 2 && cmd.isSome then s.wr Reg.CH_OUT_DUTY i duty else s
  let s := match cmd with | some c => (s.begin c).commanded o | none => s
  s.modObj o fun x => { x with cmd, next := some eff, period := 0, inrTime := 0, asked := false }

/-- A change of a running channel is served (R158, R163): a rise claims (new - old DUTY) / 65,535 of the remembered current beside what stands (R285). -/
def State.chChange (s : State) (i target duty : Nat) (cmd : Option Cmd) : State :=
  let o := chObj i
  let eff := if target = 1 then 65535 else duty
  let s := s.claimRise o (s.chStand i (eff - s.chDuty o))
  let s := s.chTarget i target
  let s := if target = 2 && cmd.isSome then s.wr Reg.CH_OUT_DUTY i duty else s
  let s := match cmd with | some c => (s.begin c).commanded o | none => s
  s.modObj o fun x => { x with chg := x.chg ++ cmd.toList, next := some eff }

/-- A restart is served (R178, R186, R196): a kept reservation counts for TIL from now on. -/
def State.chResume (s : State) (i cls : Nat) : State :=
  let o := chObj i
  let inr := s.flag Reg.CH_STAT_INR i
  let til := s.chTil i
  let s := if inr then s.setLoad o { s.load o with
      transEnd := s.now + til, dur := til, trans := (s.load o).trans.map fun c => { c with dur := til }, inTrans := true, on := true }
    else s.claimOn o cls (s.chStand i (s.chDuty o)) [] 0 (s.load o).limp
  let s := s.chGate i inr
  let s := s.modObj o fun x => { x with asked := false, next := some (s.chDuty o) }
  (s.chMembers i).foldl (fun s m => s.objEvent (chObj m) 0x82) s

/-! ### Off, trips -/

/-- The group switches off without a cause; a latched channel keeps its latch, and its target becomes off (R207). -/
def State.chOff (s : State) (i : Nat) : State :=
  if s.latched (chObj i) then (s.chTarget i 0)
  else
    let s := (s.chMembers i).foldl (fun s m =>
      (((s.turnOff (chObj m) 0).wr Reg.CH_STAT_CAUSE m 0).wr Reg.CH_STAT_INR m 0)) s
    s.chTarget i 0

/-- Every member trips with the same cause (R203). -/
def State.chTrip (s : State) (i : Nat) (c : Cause) (st : Nat) : State :=
  (s.chMembers i).foldl (fun s m => s.trip (chObj m) c st) s

/-- THERM_WAIT or LATCHED by CFG1.TLATCH (R184). -/
def State.chThermal (s : State) (i : Nat) : State := s.chTrip i .thermal (if s.flag Reg.CH_CFG1_TLATCH i then 6 else 4)

/-! ### Clearing (R208 to R210) -/

/-- The cause of the channel's latch has gone. -/
def State.chGone (s : State) (m : Nat) : Bool :=
  match s.rd Reg.CH_STAT_CAUSE m with
  | 4 => decide (s.rd Reg.CH_MEAS_TJ m ≤ 200)
  | 7 => decide (2 * s.accNow (chObj m) ≤ ebud m)
  | _ => true

/-- The group returns to OFF: latch, cause and verdict cleared, CH_CLEARED. -/
def State.chClear (s : State) (i : Nat) : State :=
  let s := (s.chMembers i).foldl (fun s m =>
    let o := chObj m
    let s := ((s.setSt o 0).wr Reg.CH_STAT_CAUSE m 0).wr Reg.CH_STAT_FAULT m 0
    (s.unverify o).objEvent o 0x86) s
  s.chTarget i 0

/-! ### Service of demands -/

/-- A switch-on by command, packed as a demand: target, duty, inrush, and whether the channel was running. -/
def chKind (target duty : Nat) (inr rise : Bool) : DKind := .on (target + 4 * b2n inr + 8 * b2n rise) duty

/-- A channel's demand is served. -/
def State.chServe (s : State) (d : Demand) : State :=
  let i := chIx d.obj
  match d.kind with
  | .on a b =>
    if 8 ≤ a then (if s.isOn d.obj then s.chChange i (a % 4) b d.cmd else match d.cmd with | some c => (s.commanded d.obj).complete c .done | none => s)
    else if s.isOn d.obj then
      (match d.cmd with
      | some c =>
        if (s.obj d.obj).target = a % 4 ∧ (a % 4 = 1 ∨ s.setDuty d.obj = b) then (s.commanded d.obj).complete c .done
        else s.chChange i (a % 4) b d.cmd
      | none => s)
    else s.chStart i d.cls (a % 4) b (a / 4 % 2 == 1) false d.cmd
  | .limp a => if s.isOn d.obj then s else s.chStart i 0 (if a = 0 then 1 else 2) ((a - 1) * 257) (isKind .hs d.obj) true none
  | _ => if s.waits d.obj then s.chResume i d.cls else s

/-- The demand of a restart. -/
def State.chRestart (s : State) (o : Nat) (kind : DKind) : Demand :=
  let i := chIx o
  s.ownDemand o (s.load o).cls kind (if s.flag Reg.CH_STAT_INR i then [] else s.chStand i (s.chDuty o)) [] 0

/-- What a limp record or an orphan policy asks of an object (R253, R266). -/
inductive Want where
  | off | on | pwm (d : Nat) | keep
  deriving DecidableEq, Repr

/-- A limp or orphan state is taken (R253 to R256): the change at once, and the demand of a switch-on where one is needed. -/
def State.chWant (s : State) (o : Nat) (w : Want) : State × List Demand :=
  let i := chIx o
  if s.latched o then (s, [])
  else
    let go := fun (t duty a : Nat) =>
      if s.waits o then (((s.chTarget i t).modObj o fun x => { x with next := some duty }), [])
      else if s.isOn o then ((s.chChange i t duty none).setLoad o { (s.chChange i t duty none).load o with limp := true }, [])
      else (s, [s.ownDemand o 0 (.limp a) (s.chStand i duty)
        (if isKind .hs o then s.chTrans i else []) (if isKind .hs o then s.chTil i else 0)])
    match w with
    | .keep => (s, [])
    | .off => (if s.st o = 0 then s else s.chOff i, [])
    | .on => go 1 65535 0
    | .pwm d => go 2 (d * 257) (d + 1)

end Sys2Proof.Machine
end

