-- ==== Sys2Proof/Machine/Led.lean ====
section
/-!
DEFINITION. Sys2Proof/Machine/Led.lean: the LED strings and the LED matrix (R326 to R379): targets, gains, claims, starting, stopping, measuring.
-/
namespace Sys2Proof.Machine

def ldObj (n : Nat) : Nat := 0x80 + n
def mxObj : Nat := 0xA0

/-- A power in µW drawn from `v` (10 mV per unit) at 88 % efficiency, as a current in mA. -/
def buckMa (o uw v : Nat) : Nat := if v = 0 then Config.noSupplyClaim o uw else uw * 10 / (88 * v)

/-! ### Strings -/

/-- ISET as set: a closed loop's output (R467), or ISOLO while the partner's string is lost and the record pairs it (R361).  It takes effect at the next start
of a dimming period (R339). -/
def State.ldIset (s : State) (n : Nat) : Nat :=
  let solo := s.rd Reg.LD_CFG3_ISOLO n
  match (s.led n).loopIset with
  | some v => v
  | none => if s.flag Reg.LD_STAT_SOLO n && s.flag Reg.LH_LHR0_PAIRED (64 + n) && solo != 0 then solo else s.rd Reg.LD_CFG0_ISET n

/-- ITGT for a set current, in mA (R328). -/
def State.ldItgt (s : State) (n iset : Nat) : Nat := min 2000 (roundDiv (iset * s.rd Reg.LD_TEMP_GAPP n) 4096)

/-- Remembered string voltage, 20 mV per unit; VOVP after power-up (R352). -/
def State.ldVrem (s : State) (n : Nat) : Nat :=
  match (s.led n).vrem with | some v => v | none => s.rd Reg.LD_CFG2_VOVP n * 25 / 2

/-- Standing claims of a string at `duty` and a set current (R351). -/
def State.ldStand (s : State) (n duty iset : Nat) : List Claim :=
  let p := s.ldItgt n iset * s.ldVrem n * 20 * duty / 65535
  objClaims (ldObj n) (buckMa (ldObj n) p (s.supply (ldObj n))) (8 * p / 100 + 60000)

/-- The transient of an LED_ON or a restart: ITGT × VREM from the supply for 1 ms, on the current budgets, beside the standing claims `stand`. -/
def State.ldTransBy (s : State) (n iset : Nat) (stand : List Claim) : List Claim :=
  let o := ldObj n
  let full := buckMa o (s.ldItgt n iset * s.ldVrem n * 20) (s.supply o)
  ((objClaims o full 0).filter fun c => decide (4 ≤ c.b)).map fun c => { c with amt := c.amt + claimSum stand c.b, dur := 1000000 }

/-- The transient of a start at `duty`. -/
def State.ldTrans (s : State) (n duty iset : Nat) : List Claim := s.ldTransBy n iset (s.ldStand n duty iset)

/-- The dimming period, in TB8 counts of 10 ns (R335). -/
def State.ldPer (s : State) (n : Nat) : Nat := s.rd Reg.LD_CFG1_DPER n * 1000

/-- On-time of a duty in steps of 10 ns, as R335 has it. -/
def State.ldExact (s : State) (n duty : Nat) : Nat := roundDiv (s.ldPer n * duty) 65535

/-- On-time of a duty in steps of 10 ns: a duty above 0 whose on-time would be below 1 µs runs 1 µs (R335, R337, R338). -/
def State.ldOnTime (s : State) (n duty : Nat) : Nat := if duty = 0 then 0 else max 100 (s.ldExact n duty)

/-- The string's current during its on-times, mA: with HYB 1, ITGT × r where the on-time would be the fraction r of 1 µs, and ITGT / 16 below 1/16 (R338). -/
def State.ldCurrent (s : State) (n duty : Nat) : Nat :=
  let itgt := s.ldItgt n (s.led n).iset
  let t := s.ldExact n duty
  if duty = 0 then 0 else if !s.flag Reg.LD_CFG1_HYB n ∨ 100 ≤ t then itgt else if 16 * t < 100 then roundDiv itgt 16 else roundDiv (itgt * t) 100

/-- The duty as recorded: the least one that reaches 1 µs, with HYB 1 1/16 µs, where `duty` above 0 does not (R337, R338; DESIGN CHOICE, log entry 85). -/
def State.ldMinDuty (s : State) (n duty : Nat) : Nat :=
  let least := if s.flag Reg.LD_CFG1_HYB n then 7 else 100
  if duty = 0 ∨ least ≤ s.ldExact n duty then duty else min 65535 (ceilDiv (least * 65535) (s.ldPer n))

/-- The duty that acts before R337 (R336): the limp duty in a limp state, DUTY × k for the classes 1 to 3, DUTY otherwise; k is the ratio of R315. -/
def State.ldAct (s : State) (n cls : Nat) (limp : Bool) (duty : Nat) : Nat :=
  let g := s.group (if n < 6 then 5 else 6)
  if limp ∨ cls = 0 then duty else roundDiv (duty * g.kNum) g.kDen

/-- DEFF of a duty for a class. -/
def State.ldDeffAs (s : State) (n cls : Nat) (limp : Bool) (duty : Nat) : Nat := s.ldMinDuty n (s.ldAct n cls limp duty)

/-- The string is in a limp state, "keep" included (R253, R315, R336). -/
def State.ldLimp (s : State) (n : Nat) : Bool := (s.led n).limp || (s.load (ldObj n)).limp || s.recInLimp (ldObj n)

/-- DEFF of a duty for the string's present class. -/
def State.ldDeff (s : State) (n duty : Nat) : Nat := s.ldDeffAs n (s.load (ldObj n)).cls (s.ldLimp n) duty

/-! ### Switching and dimming periods (R333, R334, R339 to R341) -/

/-- The string's stage runs. -/
def State.ldOnNow (s : State) (n : Nat) : Bool := s.supplied (ldObj n) && s.isOn (ldObj n)

/-- How many of a set of strings come before `n`, and how many there are. -/
def placeIn (n : Nat) (ms : List Nat) : Nat × Nat := ((ms.filter (· < n)).length, ms.length)

/-- Offset of a string's switching periods in TB9 counts of 12.5 ns, of which FSW × 10 kHz makes 8,000 / FSW (R334). -/
def State.ldSwOffset (s : State) (n : Nat) : Nat :=
  let fsw := s.rd Reg.LD_CFG0_FSW n
  if s.flag Reg.LD_GCFG_SWAUTO then
    let p := placeIn n ((List.range 12).filter fun m => s.ldOnNow m && s.rd Reg.LD_CFG0_FSW m == fsw && groupOf (ldObj m) == groupOf (ldObj n))
    roundDiv (8000 * p.1) (fsw * p.2)
  else roundDiv (8000 * s.rd Reg.LD_CFG0_SWPH n) (16 * fsw)

/-- TB9 count on which the `j`-th switching period of a string starts: the fractional generator drops what is left of a count, so that the average period is
that of FSW (R333). -/
def State.ldSwEdge (s : State) (n j : Nat) : Nat := s.ldSwOffset n + j * 8000 / s.rd Reg.LD_CFG0_FSW n

/-- Offset of a string's dimming periods in TB8 counts (R340). -/
def State.ldPhase (s : State) (n : Nat) : Nat :=
  let per := s.ldPer n
  let mode := s.rd Reg.LD_GCFG_SPREAD
  let p := placeIn n ((List.range 12).filter fun m => s.ldOnNow m && s.ldPer m == per && (mode == 1 || groupOf (ldObj m) == groupOf (ldObj n)))
  match mode with
  | 0 => 0
  | 3 => roundDiv (per * s.rd Reg.LD_CFG1_PHASE n) 256
  | _ => roundDiv (per * p.1) p.2

/-- The first count from `c` on that lies `off` past a multiple of `per`. -/
def nextPoint (c per off : Nat) : Nat := if per = 0 then c else c + (per + off % per - c % per) % per

/-- The TB8 count of the string's next dimming period: the first point of its phase after the present period, or after the end of its soft start (R341). -/
def State.ldNext (s : State) (n : Nat) : Nat :=
  let x := s.obj (ldObj n)
  nextPoint (if x.period = 0 then ceilDiv x.perAt 10 else x.perAt / 10 + (s.led n).per) (s.ldPer n) (s.ldPhase n)

/-! ### Starting and stopping -/

/-- A string starts (R353, R358); an ISET that the command carries is written. -/
def State.ldStart (s : State) (n cls duty : Nat) (iset : Option Nat) (limp : Bool) (cmd : Option Cmd) : State :=
  let o := ldObj n
  let s := match iset with | some v => s.wr Reg.LD_CFG0_ISET n v | none => s
  let i := s.ldIset n
  let deff := s.ldDeffAs n cls limp duty
  let s := s.claimOn o cls (s.ldStand n deff i) (s.ldTrans n deff i) 1000000 limp
  let s := if limp then s else s.wr Reg.LD_OUT_DUTY n duty
  let s := (s.setSt o 1).wr Reg.LD_STAT_CAUSE n (s.keptCause o)
  let s := match cmd with | some c => (s.begin c).commanded o | none => s
  let s := (s.modLed n fun l => { l with limp, shorts := 0, iset := i }).count o 0
  s.modObj o fun x => { x with target := 1, cmd, next := some duty, onAt := s.now, asked := false, period := 0 }

/-- What a running string's standing claims rise by at a new duty and set current. -/
def State.ldMore (s : State) (n duty iset : Nat) : List Claim :=
  claimsOver (s.ldStand n (s.ldDeffAs n (s.load (ldObj n)).cls false duty) iset) (s.ldStand n (s.ldDeff n (s.setDuty (ldObj n))) (s.ldIset n))

/-- New DUTY and ISET of a running string, from the next dimming period on (R339); an LED_ON, `on`, carries its transient claim (R351). -/
def State.ldChange (s : State) (n duty : Nat) (iset : Option Nat) (on : Bool) (cmd : Option Cmd) : State :=
  let o := ldObj n
  let s := s.claimRise o (s.ldMore n duty (match iset with | some v => v | none => s.ldIset n))
  let s := match iset with | some v => s.wr Reg.LD_CFG0_ISET n v | none => s
  let s := if on then s.claimTrans o (s.ldTransBy n (s.ldIset n) (s.load o).stand) 1000000 else s
  let s := s.wr Reg.LD_OUT_DUTY n duty
  let s := match cmd with | some c => (s.begin c).commanded o | none => s
  let s := s.modLed n fun l => { l with limp := false }
  s.modObj o fun x => { x with chg := x.chg ++ cmd.toList, next := some duty }

/-- A string stops without a cause. -/
def State.ldOff (s : State) (n : Nat) : State :=
  if s.latched (ldObj n) then s.modObj (ldObj n) fun x => { x with target := 0 }
  else ((((s.turnOff (ldObj n) 0).wr Reg.LD_STAT_CAUSE n 0).wr Reg.LD_OUT_DEFF n 0).modLed n fun l => { l with limp := false })

/-- A string stops with a cause. -/
def State.ldTrip (s : State) (n : Nat) (c : Cause) (st : Nat) : State := (s.trip (ldObj n) c st).wr Reg.LD_OUT_DEFF n 0

/-- A latched string returns to OFF (R349). -/
def State.ldClear (s : State) (n : Nat) : State :=
  let o := ldObj n
  let s := ((s.setSt o 0).wr Reg.LD_STAT_CAUSE n 0).wr Reg.LD_STAT_FAULT n 0
  (s.unverify o).modObj o fun x => { x with target := 0 }

/-- A demand of a string is served; `.on a b`: `a` is 0 to keep ISET, else ISET + 1, and `b` the duty. -/
def State.ldServe (s : State) (d : Demand) : State :=
  let n := objNum d.obj
  match d.kind with
  | .on a b =>
    let iset := if a = 0 then none else some (a - 1)
    if s.isOn d.obj then s.ldChange n b iset (!d.trans.isEmpty) d.cmd else s.ldStart n d.cls b iset false d.cmd
  | .limp a => if s.isOn d.obj then s else s.ldStart n 0 a none true none
  | _ => if s.waits d.obj then
      (s.ldStart n d.cls (s.setDuty d.obj) none (s.led n).limp none).objEvent d.obj 0x82 else s

/-- The demand of a string that starts without a command, as `cls` and in a limp state or not. -/
def State.ldOwn (s : State) (n cls : Nat) (limp : Bool) (kind : DKind) (duty : Nat) : Demand :=
  let deff := s.ldDeffAs n cls limp duty
  s.ownDemand (ldObj n) cls kind (s.ldStand n deff (s.ldIset n)) (s.ldTrans n deff (s.ldIset n)) 1000000

/-- The demand of a string's restart (R350). -/
def State.ldRestart (s : State) (o : Nat) (kind : DKind) : Demand :=
  let n := objNum o
  s.ldOwn n (s.load o).cls (s.led n).limp kind (s.setDuty o)

/-- Limp and orphan states of a string (R359). -/
def State.ldWant (s : State) (o : Nat) (w : Want) : State × List Demand :=
  let n := objNum o
  if s.latched o then (s, [])
  else
    let go := fun (duty : Nat) =>
      if s.waits o then ((s.modLed n fun l => { l with limp := true }).modObj o fun x => { x with duty, next := none }, [])
      else if s.isOn o then
        (((s.modLed n fun l => { l with limp := true }).modObj o fun x => { x with next := some duty }).setLoad o { s.load o with limp := true }, [])
      else (s, [s.ldOwn n 0 true (.limp duty) duty])
    match w with
    | .keep => (s, [])
    | .off => (if s.st o = 0 then s else s.ldOff n, [])
    | .on => go 65535
    | .pwm d => go (d * 257)

/-! ### Temperature compensation (R342 to R348) -/

/-- 2^64 × ln 2. -/
def fxLn2 : Nat := 12786308645202655660

/-- The series of artanh, `z` in fixed point: sum over the odd powers from `k` on. -/
def artanhSeries : Nat → Nat → Nat → Nat → Nat → Nat
  | 0, _, _, _, acc => acc
  | n + 1, k, z2, p, acc => artanhSeries n (k + 2) z2 (p * z2 / fx) (acc + p / k)

/-- 2^64 × ln (a / b) of a ratio not below 1. -/
def lnUp (a b : Nat) : Nat :=
  let e := Nat.log2 (a / b)
  let m := a * fx / (b * 2 ^ e)
  let z := (m - fx) * fx / (m + fx)
  e * fxLn2 + 2 * artanhSeries 24 1 (z * z / fx) z 0

/-- 2^64 × ln (a / b). -/
def lnFx (a b : Nat) : Int := if b ≤ a then (lnUp a b : Int) else -(lnUp b a : Int)

/-- Temperature, 1/8 °C, of an NTC land that reads `mv` mV: R_NTC / 10 kΩ is what V3, 3,300 mV, leaves of it, and 1/T = 1/298.15 K + ln (R_NTC / 10 kΩ) / B with
B = NTCB × 10 K (R343), to the nearest 1/8 °C (DESIGN CHOICE, log entry 85). -/
def State.ntcTemp (s : State) (n mv : Nat) : Int :=
  if mv = 0 ∨ 3300 ≤ mv then Config.ntcEdge n mv
  else
    let b : Int := (s.rd Reg.LD_CFG3_NTCB n * 10 : Nat)
    let den := 100 * b * fx + 29815 * lnFx mv (3300 - mv)
    (80 * 29815 * b * fx / den - 21852 + 5) / 10

/-- Point `k` of a string's applied table. -/
def State.ldGain (s : State) (n k : Nat) : Nat := tget 0x1000 (s.led n).gains k

/-- The table gain at a temperature in 1/8 °C, interpolated and rounded (R345). -/
def State.ldTable (s : State) (n : Nat) (t8 : Int) : Nat :=
  let x := t8 + 320
  if x ≤ 0 then s.ldGain n 0
  else
    let k := x.toNat / 88
    if 15 ≤ k then s.ldGain n 15
    else
      let a : Int := s.ldGain n k
      let b : Int := s.ldGain n (k + 1)
      let num := a * 88 + (b - a) * ((x.toNat % 88 : Nat) : Int)
      ((2 * num + 88) / 176).toNat

/-- The shadow table of a string becomes its applied table (R348). -/
def State.ldCommit (s : State) (n : Nat) : State :=
  s.modLed n fun l => { l with gains := (List.range 16).map fun k =>
    (k, min 8192 (if k % 2 = 0 then s.rd Reg.LD_GAIN_LO (8 * n + k / 2) else s.rd Reg.LD_GAIN_HI (8 * n + k / 2))) }

/-- Shadow point `k` of a string takes a gain; larger values are clamped to 8,192 (R345). -/
def State.ldShadow (s : State) (n k v : Nat) : State :=
  if k % 2 = 0 then s.wr Reg.LD_GAIN_LO (8 * n + k / 2) (min 8192 v) else s.wr Reg.LD_GAIN_HI (8 * n + k / 2) (min 8192 v)

/-- G moves towards the table gain (R346). -/
def State.ldMoveGain (s : State) (n : Nat) (t8 : Int) : State :=
  let want := s.ldTable n t8
  let g := s.rd Reg.LD_TEMP_GAPP n
  let g' := if !(s.led n).gSet then want else if want > g then min want (g + 64) else max want (g - 64)
  let ts := (t8 + 400) / 8
  ((s.wr Reg.LD_TEMP_GAPP n g').wr Reg.LD_TEMP_TS n (clampNat 0 255 ts.toNat)).modLed n fun l => { l with gSet := true, tempAt := some s.now }

/-! ### The matrix -/

/-- Number of columns that a COLEN enables. -/
def mxCols (colen : Nat) : Nat := ((List.range 16).filter fun c => bit colen c).length

/-- Standing claims of the matrix at GDUTY (R371): column current, LINE, BLANK, COLEN, SUPSRC, VMX. -/
def State.mxStandAt (s : State) (icol line blank colen : Nat) (sup : Bool) (vmx0 gduty : Nat) : List Claim :=
  let a := icol * mxCols colen * (line - blank) * gduty / (line * 255)
  let v := s.supply mxObj
  if sup then
    let vmx := vmx0 * 100
    objClaims mxObj (buckMa mxObj (a * vmx) v) (a * (vmx - 2000) + 8 * a * vmx / 100)
  else objClaims mxObj a (a * (10 * v - 2000))

/-- Those claims at a column current and GDUTY, and the present configuration. -/
def State.mxStand (s : State) (icol gduty : Nat) : List Claim :=
  s.mxStandAt icol (s.rd Reg.MX_CFG0_LINE) (s.rd Reg.MX_CFG0_BLANK) (s.rd Reg.MX_CFG1_COLEN) (s.flag Reg.MX_CFG0_SUPSRC) (s.rd Reg.MX_CFG1_VMX) gduty

/-- Those claims at the configuration of an image, CFG1 in bits 63:32. -/
def State.mxStandImage (s : State) (v gduty : Nat) : List Claim :=
  s.mxStandAt (bits v 0 6) (bits v 12 7) (bits v 19 5) (bits v 48 16) (bit v 24) (bits v 32 7) gduty

/-- The column current in force. -/
def State.mxIcol (s : State) : Nat := match s.out.mx.icol with | some v => v | none => s.rd Reg.MX_CFG0_ICOL

/-- GDUTY as set: the one that waits for the next frame, else the one in effect. -/
def State.mxSet (s : State) : Nat := match (s.obj mxObj).next with | some v => v | none => s.out.mx.gduty

/-- Length of a frame at the present configuration (R365). -/
def State.mxFrame (s : State) : Ns := (s.rd Reg.MX_CFG0_NROWSM1 + 1) * s.rd Reg.MX_CFG0_LINE * 1000

/-- The row whose line slot is scanned now (R365). -/
def State.mxRow (s : State) : Nat := (s.now - s.out.mx.frameAt) / (s.rd Reg.MX_CFG0_LINE * 1000) % (s.rd Reg.MX_CFG0_NROWSM1 + 1)

/-- The matrix starts scanning: its first frame begins. -/
def State.mxStart (s : State) (cls gduty : Nat) (limp : Bool) (cmd : Option Cmd) : State :=
  let s := s.modMx fun m => { m with gduty, icol := none, frameAt := s.now, frameLen := s.mxFrame, low := [] }
  let s := s.claimOn mxObj cls (s.mxStand s.mxIcol gduty) [] 0 limp
  let s := s.setSt mxObj 1
  let s := s.modObj mxObj fun x => { x with target := 1, onAt := s.now, asked := false, next := none }
  match cmd with | some c => ((s.begin c).commanded mxObj).complete c .done | none => s

/-- GDUTY changes from the next frame on. -/
def State.mxChange (s : State) (gduty : Nat) (cmd : Option Cmd) : State :=
  let s := s.claimRise mxObj (claimsOver (s.mxStand s.mxIcol gduty) (s.mxStand s.mxIcol s.mxSet))
  let s := match cmd with | some c => (s.begin c).commanded mxObj | none => s
  s.modObj mxObj fun x => { x with chg := x.chg ++ cmd.toList, next := some gduty }

def State.mxOff (s : State) : State :=
  if s.latched mxObj then s.modObj mxObj fun x => { x with target := 0 } else s.turnOff mxObj 0

/-- The matrix returns to OFF from its latch. -/
def State.mxClear (s : State) : State :=
  let s := ((s.setSt mxObj 0).wr Reg.MX_STAT_FAULT 0 0)
  (s.unverify mxObj).modObj mxObj fun x => { x with target := 0 }

/-- The LED is lit in the front buffer: its row is scanned, its column enabled, its pixel above 0. -/
def State.mxLit (s : State) (b : Nat) : Bool :=
  decide (b / 16 ≤ s.rd Reg.MX_CFG0_NROWSM1) && bit (s.rd Reg.MX_CFG1_COLEN) (b % 16) && decide (0 < s.out.mx.front.getD b 0)

/-- Pixel on-time of LED `b` in steps of 10 ns (R366). -/
def State.mxOnTime (s : State) (b : Nat) : Nat :=
  let x := (s.rd Reg.MX_CFG0_LINE - s.rd Reg.MX_CFG0_BLANK) * s.out.mx.front.getD b 0 * s.out.mx.gduty
  if x = 0 then 0 else max 10 (roundDiv (100 * x) 65025)

/-- The LED's pixel on-time is 4 µs or more, so that its column is measured (R374). -/
def State.mxMeasured (s : State) (b : Nat) : Bool := s.mxLit b && decide (400 ≤ s.mxOnTime b)

/-- LED `b` is marked in MX_UNVER (R375). -/
def State.mxUnver (s : State) (b : Nat) : Bool :=
  match tget none (s.out.mx.measAt.map fun p => (p.1, some p.2)) b with
  | none => true
  | some t => decide (s.dfresh mxObj < s.now - t)

/-- The MX verdict from the maps (R375, R378). -/
def State.mxJudge (s : State) : State :=
  if s.latched mxObj then s
  else
    let lit := (List.range 128).filter s.mxLit
    let v := if lit.any (fun b => bit s.out.mx.openMap b) then 2 else if lit.any s.mxUnver then 0 else 1
    s.setVerdict mxObj v

/-- CFG0 and CFG1 of an MX_CONFIG, as range-checked: CFG1 in bits 63:32. -/
def State.mxImage (s : State) (v : Nat) : State :=
  let s := (((s.wr Reg.MX_CFG0_ICOL 0 (bits v 0 6)).wr Reg.MX_CFG0_NROWSM1 0 (bits v 8 3)).wr Reg.MX_CFG0_LINE 0 (bits v 12 7)).wr Reg.MX_CFG0_BLANK 0
    (bits v 19 5)
  let s := (s.wr Reg.MX_CFG0_SUPSRC 0 (bits v 24 1)).wr Reg.MX_CFG1_VMX 0 (bits v 32 7)
  (((s.wr Reg.MX_CFG1_MXFRESH 0 (bits v 40 8)).wr Reg.MX_CFG1_COLEN 0 (bits v 48 16)).modMx fun m => { m with icol := none }).mxJudge

/-- A demand of the matrix is served; kinds: 0 on, 1 GDUTY, 2 an MX_CONFIG that raises ICOL, 3 a setup write that has raised it. -/
def State.mxServe (s : State) (d : Demand) : State :=
  match d.kind with
  | .on 2 b =>
    let s := if s.isOn mxObj then s.claimRise mxObj (claimsOver (s.mxStandImage b s.mxSet) (s.mxStand s.mxIcol s.mxSet)) else s
    let s := s.mxImage b
    match d.cmd with | some c => (s.begin c).complete c .done | none => s
  | .on 3 b =>
    let s := if s.isOn mxObj then s.claimRise mxObj (claimsOver (s.mxStand b s.mxSet) (s.mxStand s.mxIcol s.mxSet)) else s
    s.modMx fun m => { m with icol := none }
  | .on 0 b => if s.isOn mxObj then s.mxChange b d.cmd else s.mxStart d.cls b false d.cmd
  | .on _ b => if s.isOn mxObj then s.mxChange b d.cmd else match d.cmd with | some c => s.complete c .done | none => s
  | .limp a => if s.isOn mxObj then s else s.mxStart 0 a true none
  | _ => if s.waits mxObj then s.mxStart d.cls s.out.mx.gduty (s.load mxObj).limp none else s

def State.mxRestart (s : State) (kind : DKind) : Demand :=
  s.ownDemand mxObj (s.load mxObj).cls kind (s.mxStand s.mxIcol s.out.mx.gduty) [] 0

def State.mxWant (s : State) (w : Want) : State × List Demand :=
  if s.latched mxObj then (s, [])
  else
    let go := fun (g : Nat) =>
      if s.waits mxObj then (s.modMx fun m => { m with gduty := g }, [])
      else if s.isOn mxObj then
        let t := s.setLoad mxObj { s.load mxObj with limp := true }
        if s.mxSet < g then (t, [s.ownDemand mxObj 0 (.on 1 g) (claimsOver (s.mxStand s.mxIcol g) (s.mxStand s.mxIcol s.mxSet)) [] 0])
        else (t.modObj mxObj fun x => { x with next := some g }, [])
      else (s, [s.ownDemand mxObj 0 (.limp g) (s.mxStand s.mxIcol g) [] 0])
    match w with
    | .keep => (s, [])
    | .off => (if s.st mxObj = 0 then s else s.mxOff, [])
    | .on => go 255
    | .pwm d => go d

end Sys2Proof.Machine
end

