-- ==== Sys2Proof/Machine/Valve.lean ====
section
/-!
DEFINITION. Sys2Proof/Machine/Valve.lean: the solenoid channels and the boost converter (R380 to R432): claims, phases, switching off, learning.
-/
namespace Sys2Proof.Machine

def svObj (n : Nat) : Nat := 0xC0 + n
def bstObj : Nat := 0xD0

/-! ### Settings in physical units -/

def State.svIbst (s : State) (n : Nat) : Nat := s.rd Reg.SV_CFG0_IBST n * 50
def State.svIpk (s : State) (n : Nat) : Nat := s.rd Reg.SV_CFG0_IPK n * 25
/-- The hold level that the next actuation will have, mA (R401, R402, R424). -/
def State.svNextMa (s : State) (n : Nat) : Nat := match (s.valve n).hold with | some v => v | none => s.rd Reg.SV_CFG0_IHOLD n * 10
/-- The hold level in force, mA: that of the running actuation, which new settings leave as it is (R427). -/
def State.svHoldMa (s : State) (n : Nat) : Nat := if s.isOn (svObj n) then (s.valve n).level else s.svNextMa n
/-- The hold level last set: one that waits for a chop period before the one in force (R427). -/
def State.svSetMa (s : State) (n : Nat) : Nat := match (s.obj (svObj n)).next with | some v => v | none => s.svHoldMa n
/-- The hold level of a running or coming actuation is set by a limp state, the twin or a loop: none for CFG0.IHOLD. -/
def State.svLevel (s : State) (n : Nat) (v : Option Nat) : State :=
  (s.modValve n fun x => { x with hold := v, level := match v with | some l => l | none => s.rd Reg.SV_CFG0_IHOLD n * 10 }).modObj (svObj n) fun x =>
    { x with next := none }
def State.svTbst (s : State) (n : Nat) : Ns := s.rd Reg.SV_CFG1_TBST n * 10000
def State.svTpk (s : State) (n : Nat) : Ns := s.rd Reg.SV_CFG1_TPK n * 100000
/-- EREM: EINIT until a boost has been measured (R394). -/
def State.svErem (s : State) (n : Nat) : Nat := if (s.valve n).eremSet then s.rd Reg.SV_ACT3_EREM n else s.rd Reg.SV_CFG5_EINIT n * 10

/-- VBMAX of R409, 10 mV per unit. -/
def State.vbmax (s : State) : Nat := min (s.rd Reg.BST_CFG_VSET * 50 + 400) 6800

/-! ### Claims (R393) -/

def svStand (n holdMa : Nat) : List Claim := objClaims (svObj n) holdMa (holdMa * 1000 + 50000)

/-- The transient of an actuation, with boost from VBST or without. -/
def State.svTrans (s : State) (n : Nat) (boost : Bool) : List Claim :=
  let tb := s.svTbst n
  let tp := s.svTpk n
  let ipk := s.svIpk n
  let diss := ((objClaims (svObj n) 0 (ipk * 2000)).filter fun c => decide (c.b ≤ 3)).map fun c => { c with dur := tb + tp }
  let cur : Nat → Nat → Nat → List Claim := fun ma off dur => ((objClaims (svObj n) ma 0).filter fun c => decide (4 ≤ c.b)).map fun c => { c with off, dur }
  if boost then
    [{ b := 13, amt := s.svErem n, dur := tb }, { b := 14 + bankOf n, amt := 1, dur := tb }] ++ cur ipk 0 (tb + tp) ++ diss
  else cur (s.svIbst n) 0 tb ++ cur ipk tb tp ++ diss

/-! ### The actuation -/

/-- A time rounded up to a count of TB8, 10 ns (R400). -/
def tb8 (t : Ns) : Ns := 10 * ((t + 9) / 10)

/-- A solenoid channel of a supplied P2 in BOOST, PEAK or HOLD. -/
def State.svRuns (s : State) (n : Nat) : Bool := decide (n < 16) && s.supplied (svObj n) && s.isOn (svObj n)

/-- What a bank's high side is connected to (R382). -/
inductive Rail where
  | off | vbst | vs6
  deriving DecidableEq, Repr

/-- The high side of bank `b`: VBST while a member boosts, VS6 while one runs otherwise, a boost phase from VS6 included (R382, R383, R398). -/
def State.svRail (s : State) (b : Nat) : Rail :=
  if bit (s.rd Reg.SV_BANK_BLATCH) b then .off
  else if (List.range 16).any fun n => bankOf n == b && s.svRuns n && (s.valve n).boosting then .vbst
  else if (List.range 16).any fun n => bankOf n == b && s.svRuns n then .vs6
  else .off

/-- Voltage across the coil during its decay, 10 mV (R407, R408). -/
def State.svDecayVolt (s : State) (n : Nat) : Nat :=
  let v := s.rd Reg.BST_STAT_VBST
  if !s.flag Reg.SV_CFG2_RECOV n then 50
  else match s.svRail (bankOf n) with
    | .vbst => 70
    | .vs6 => v + 70 - s.supply (svObj n)
    | .off => v + 140

/-- SV_BANK.BOOSTING of a bank. -/
def State.svBankSet (s : State) (n : Nat) (b : Bool) : State :=
  let v := s.rd Reg.SV_BANK_BOOSTING
  s.wr Reg.SV_BANK_BOOSTING 0 (if b then setBit v (bankOf n) else clrBit v (bankOf n))

/-- The boost phase ends, or is cut short: EBST and EREM take the energy drawn in it, and the bank and the boost energy are free (R394, R410). -/
def State.svBoostDone (s : State) (n : Nat) : State :=
  let v := s.valve n
  if !v.boosting then s
  else
    let e := min 0xFFFF v.drawn
    let s := (s.wr Reg.SV_ACT1_EBST n e).wr Reg.SV_ACT3_EREM n e
    let s := (s.modValve n fun v => { v with boosting := false, claim := 0, drawn := 0, eremSet := true }).svBankSet n false
    let l := s.load (svObj n)
    (s.setLoad (svObj n) { l with trans := l.trans.filter fun c => decide (c.b ≤ 12) }).showUse

/-- BOOST starts (R400, R406, R426). -/
def State.svStart (s : State) (n cls : Nat) (boost : Bool) (hold : Option Nat) (limp waited : Bool) (cmd : Option Cmd) : State :=
  let o := svObj n
  let s := s.svLevel n hold
  let s := s.claimOn o cls (svStand n (s.valve n).level) (s.svTrans n boost) (s.svTbst n + s.svTpk n) limp
  let s := (s.setSt o 1).wr Reg.SV_STAT_CAUSE n (s.keptCause o)
  let t := tb8 s.now
  let s := ((s.wrb Reg.SV_STAT_NOBOOST n (!boost)).wr Reg.SV_STAT_ARM n 0).wr Reg.SV_ACT0_TDET n 0xFFFF
  let s := (s.wr Reg.SV_ACT0_TIBST n 0xFFFF).wr Reg.SV_ACT2_VBST0 n (s.rd Reg.BST_STAT_VBST)
  let s := s.modValve n fun v => { v with
    startAt := t, startNt := s.ntime, ibst := s.svIbst n, fhold := s.rd Reg.SV_CFG2_FHOLD n
    tbst := s.svTbst n, tpk := s.svTpk n, phaseEnd := t + s.svTbst n
    fwlo := 5 * s.rd Reg.SV_CFG3_FWLO n, fwhi := 5 * s.rd Reg.SV_CFG3_FWHI n
    boosting := boost, claim := s.svErem n, drawn := 0, judging := true, fixedWin := false, waited, extra := [] }
  let s := if boost then s.svBankSet n true else s.count o 3
  let s := s.count o 0
  let s := match cmd with | some c => (s.begin c).commanded o | none => s
  s.modObj o fun x => { x with target := 1, cmd, onAt := s.now, asked := false }

/-- DATA of SV_ACTUATION (R430). -/
def State.svActData (s : State) (n : Nat) : Nat :=
  let v := s.valve n
  atByte 16 (s.rd Reg.SV_STAT_ARM n)
  + atByte 17 (b2n (s.flag Reg.SV_STAT_NOBOOST n) + 2 * b2n v.fixedWin + 4 * b2n v.waited)
  + atByte 18 (s.rd Reg.SV_ACT0_TDET n) + atByte 20 (s.rd Reg.SV_ACT0_TIBST n) + atByte 22 (s.rd Reg.SV_ACT2_VBST0 n)
  + atByte 24 (s.rd Reg.SV_ACT1_EBST n) + atByte 26 (s.rd Reg.SV_ACT1_EREC n) + atByte 28 (s.supply (svObj n))

def State.svActuation (s : State) (n : Nat) : State := s.raise 0x0D83 (svObj n) (s.svActData n)

/-- The commands that share the running actuation end (R405). -/
def State.svEndExtra (s : State) (n : Nat) (code : Code) (sub : Nat) : State :=
  let es := (s.valve n).extra
  es.foldl (fun s c => s.complete c code sub) (s.modValve n fun v => { v with extra := [] })

/-- Learning of R414: TDET of a dip found with boost from VBST. -/
def State.svLearn (s : State) (n : Nat) : State :=
  let tdet := s.rd Reg.SV_ACT0_TDET n
  let arm := s.rd Reg.SV_STAT_ARM n
  if (arm = 1 ∨ arm = 3) ∧ !s.flag Reg.SV_STAT_NOBOOST n then
    if s.flag Reg.SV_STAT_LEARNED n then
      let t := s.rd Reg.SV_MEAS_TLRN n
      s.wr Reg.SV_MEAS_TLRN n (roundDiv (7 * t + tdet) 8)
    else (s.wr Reg.SV_MEAS_TLRN n tdet).wr Reg.SV_STAT_LEARNED n 1
  else s

/-- The actuation's judgement ends with it: ARM is 00b while the window is open, STUCK when it closed without a dip, and a dip is learned and counted
(R414, R415, R417, R429; an actuation that ends between its window and HOLD is judged too: DEDUCED, log entry 87). -/
def State.svJudge (s : State) (n : Nat) (shut : Bool) : State :=
  let o := svObj n
  let v := s.valve n
  let arm := s.rd Reg.SV_STAT_ARM n
  let s := if !shut && decide (s.now < v.startAt + v.fwhi * 10000) then s.wr Reg.SV_STAT_ARM n 0
    else if arm = 0 ∨ arm = 2 then (s.wr Reg.SV_STAT_ARM n 2).count o 2
    else (s.count o 1).svLearn n
  s.modValve n fun v => { v with judging := false }

/-- The channel leaves its drive for DECAY by a command, a shed, limp-home or a policy (R404, R407, R417). -/
def State.svOff (s : State) (n : Nat) : State :=
  let o := svObj n
  let st := s.st o
  if s.latched o then s.modObj o fun x => { x with target := 0 }
  else if st = 1 ∨ st = 2 ∨ st = 3 then
    let s := s.svBoostDone n
    let s := if st = 3 then s else (s.svJudge n false).svActuation n
    let s := (s.svEndExtra n .done (endedEarly o)).turnOff o 4
    s.modValve n fun v => { v with hold := none }
  else if s.waits o then ((s.turnOff o 0).wr Reg.SV_STAT_CAUSE n 0).modValve n fun v => { v with hold := none }
  else s.modObj o fun x => { x with target := 0 }

/-- The channel stops with a cause. -/
def State.svTrip (s : State) (n : Nat) (c : Cause) (st : Nat) : State :=
  let o := svObj n
  let was := s.st o
  let s := s.svBoostDone n
  let s := if was = 1 ∨ was = 2 then (s.svJudge n false).svActuation n else s
  let s := s.svEndExtra n .faulted (subOf o c)
  let s := s.count o 6
  let s := if c = .clampLock then s.count o 7 else s
  s.trip o c st

/-- A hold chop period starts: a level that waits is in force, and the commands that set it complete (R427). -/
def State.svChopStart (s : State) (n : Nat) : State :=
  let o := svObj n
  let s := match (s.obj o).next with
    | some v => (s.modValve n fun x => { x with level := v }).modObj o fun x => { x with next := none }
    | none => s
  s.chgDone o

/-- The chop periods of HOLD, FHOLD of them in 1 ms from HOLD's start on: one has started since a change was served (R401, R427; DEDUCED, log entry 87). -/
def State.svChopDue (s : State) (n : Nat) : Bool :=
  let v := s.valve n
  let x := s.obj (svObj n)
  let k := fun (t : Ns) => (t - v.holdAt) * v.fhold / 1000000
  s.st (svObj n) == 3 && (x.next.isSome || !x.chg.isEmpty) && decide (k v.chgAt < k s.now)

/-- A loop sets the hold level, for the next chop period (R402, R473). -/
def State.svLoopLevel (s : State) (n lv : Nat) : State :=
  let s := if s.svChopDue n then s.svChopStart n else s
  (s.modValve n fun v => { v with hold := some lv, chgAt := s.now }).modObj (svObj n) fun x => { x with next := some lv }

/-- Chop periods that have started. -/
def State.chops (s : State) : State := (List.range 16).foldl (fun s n => if s.svChopDue n then s.svChopStart n else s) s

/-- HOLD begins (R404, R414, R415, R417, R427). -/
def State.svHold (s : State) (n : Nat) : State :=
  let o := svObj n
  let s := (((s.setSt o 3).endTransient o).modValve n fun v => { v with holdAt := s.now }).svJudge n true
  let s := (s.svActuation n).svChopStart n
  let stuck := s.rd Reg.SV_STAT_ARM n == 2
  let code := if stuck then Code.faulted else .done
  let sub := if stuck then 0x0D15 else if s.flag Reg.SV_STAT_NOBOOST n then 0x0D09 else 0
  let s := match (s.obj o).cmd with
    | some c => (s.modObj o fun x => { x with cmd := none }).complete c code sub
    | none => s
  let s := s.svEndExtra n code sub
  if stuck && s.flag Reg.SV_CFG2_STUCKPOL n then s.svOff n else s

/-- A latched valve channel returns to OFF (R420). -/
def State.svGone (s : State) (n : Nat) : Bool :=
  match s.rd Reg.SV_STAT_CAUSE n with
  | 3 => decide (s.tjOf (svObj n) ≤ 200)
  | 7 => decide (2 * s.accNow (svObj n) ≤ ebud 48)
  | _ => true

def State.svClear (s : State) (n : Nat) : State :=
  let o := svObj n
  let bank := s.rd Reg.SV_STAT_CAUSE n == 6
  let s := ((s.setSt o 0).wr Reg.SV_STAT_CAUSE n 0).wr Reg.SV_STAT_FAULT n 0
  -- the bank's own latch ends with the last member latched by it
  let still := (List.range 16).any fun m => bankOf m == bankOf n && s.latched (svObj m) && s.rd Reg.SV_STAT_CAUSE m == 6
  let s := if bank && !still then s.wr Reg.SV_BANK_BLATCH 0 (clrBit (s.rd Reg.SV_BANK_BLATCH) (bankOf n)) else s
  (s.unverify o).modObj o fun x => { x with target := 0 }

/-- Energy of a clamp event enters the accumulator (R171, R409); the second part says that it reached E_BUD (R173). -/
def State.addClamp (s : State) (o e : Nat) : State × Bool :=
  let i := ix o
  let v := s.accNow o + e
  let s := s.modObj o fun x => { x with accAt := s.now }
  match kindOf o with
  | .sv => (s.wr Reg.SV_ACT2_ACC i (min v 0xFFFF), decide (ebud 48 ≤ v))
  | _ => ((s.wr Reg.CH_ACC_ACC i (min v 0xFFFF)).wr Reg.CH_ACC_ELAST i (min e 0xFFFF), decide (ebud i ≤ v))

/-! ### Demands (R398, R399) -/

/-- The demand fails only on the boost energy. -/
def State.svOnlyBoost (s : State) (d : Demand) : Bool :=
  let m := s.misfits s.items d s.now
  m == [13]

/-- BOOST_NOT_READY (R398, R430). -/
def State.boostNotReady (s : State) (n : Nat) : State :=
  (s.raise 0x0D84 (svObj n)
    (atByte 16 (s.rd Reg.SV_CFG2_BNRPOL n) + atByte 18 (min 0xFFFF (s.usage 13)) + atByte 20 (min 0xFFFF (s.limitOf 13))
     + atByte 22 (s.rd Reg.BST_STAT_VBST))).count (svObj n) 4

/-- The hold level of a running actuation rises: the difference joins its claims (R285, R427). -/
def State.svRise (s : State) (n v : Nat) : State := s.claimRise (svObj n) (claimsOver (svStand n v) (svStand n (s.svSetMa n)))

/-- A demand of a valve channel is served; `.on 2 b` is a change of the hold level to `b` (10 mA per unit), `.limp a` the level `a` in mA, 0 for IHOLD. -/
def State.svServe (s : State) (d : Demand) : State :=
  let n := objNum d.obj
  let waited := decide (d.arrival < s.now)
  let boost := d.trans.any fun c => c.b == 13
  match d.kind with
  | .on 2 b =>
    let s := if s.isOn d.obj then
        ((s.svRise n (b * 10)).modObj d.obj fun x => { x with next := some (b * 10), chg := x.chg ++ d.cmd.toList }).modValve n fun v => { v with chgAt := s.now }
      else s
    let s := (s.wr Reg.SV_CFG0_IHOLD n b).modValve n fun v => { v with hold := none }
    match d.cmd with
    | some c => let s := (s.begin c).commanded d.obj; if s.isOn d.obj then s else s.complete c .done
    | none => s
  | .on _ _ =>
    if s.isOn d.obj then
      (match d.cmd with
        | some c =>
          if s.st d.obj = 3 then (s.commanded d.obj).complete c .done
          else ((s.begin c).commanded d.obj).modValve n fun v => { v with extra := v.extra ++ [c] }
        | none => s)
    else s.svStart n d.cls boost none false waited d.cmd
  | .limp a =>
    let lv := if a = 0 then none else some a
    if s.isOn d.obj then (s.svRise n (match lv with | some l => l | none => s.rd Reg.SV_CFG0_IHOLD n * 10)).svLevel n lv
    else s.svStart n 0 boost lv true waited none
  | _ => if s.waits d.obj then (s.svStart n d.cls boost (s.valve n).hold (s.load d.obj).limp waited none).objEvent d.obj 0x82 else s

/-- The demand of a full actuation by a restart, limp-home or an orphan policy. -/
def State.svOwn (s : State) (o cls : Nat) (kind : DKind) (boost : Bool) : Demand :=
  let n := objNum o
  s.ownDemand o cls kind (svStand n (s.svNextMa n)) (s.svTrans n boost) (s.svTbst n + s.svTpk n)

/-- As `svOwn`, without boost when only the boost energy is missing and BNRPOL is NO_BOOST (R399). -/
def State.svOwnPolicy (s : State) (o cls : Nat) (kind : DKind) : Demand :=
  let d := s.svOwn o cls kind true
  if s.svOnlyBoost d && s.rd Reg.SV_CFG2_BNRPOL (objNum o) == 1 then s.svOwn o cls kind false else d

/-! ### The boost converter (R384 to R391) -/

/-- Claims of the converter (R389): PCH is in units of 0.5 W. -/
def State.bstStand (s : State) : List Claim :=
  let p := s.rd Reg.BST_CFG_PCH * 500000
  let v := s.supply bstObj
  objClaims bstObj (if v = 0 then Config.noSupplyClaim bstObj p else p * 10 / (85 * v)) (18 * p / 100)

def State.bstStart (s : State) (cls : Nat) (cmd : Option Cmd) : State :=
  let s := s.claimOn bstObj cls s.bstStand [] 0 false
  let s := (s.setSt bstObj 1).wr Reg.BST_STAT_CAUSE 0 (s.keptCause bstObj)
  let s := { s with out := { s.out with bstOnAt := s.now, bstStop := false } }
  let s := match cmd with | some c => s.begin c | none => s
  s.modObj bstObj fun x => { x with target := 1, cmd, onAt := s.now, asked := false }

def State.bstOff (s : State) : State :=
  if s.latched bstObj then s.modObj bstObj fun x => { x with target := 0 }
  else ((s.turnOff bstObj 0).wr Reg.BST_STAT_CAUSE 0 0).wr Reg.BST_STAT_HEADROOM 0 0

def State.bstClear (s : State) : State :=
  let s := ((s.setSt bstObj 0).wr Reg.BST_STAT_CAUSE 0 0).wr Reg.BST_STAT_FAULT 0 0
  s.modObj bstObj fun x => { x with target := 0 }

/-- A BST_ON to a running converter reaches its outcome at VSET or with HEADROOM (R388). -/
def State.bstAgain (s : State) (c : Cmd) : State :=
  if s.st bstObj = 2 ∨ s.flag Reg.BST_STAT_HEADROOM then s.complete c .done
  else (s.begin c).modObj bstObj fun x => { x with chg := x.chg ++ [c] }

def State.bstServe (s : State) (d : Demand) : State :=
  if s.isOn bstObj then (match d.cmd with | some c => s.bstAgain c | none => s) else s.bstStart d.cls d.cmd

def State.bstOwn (s : State) (cls : Nat) (kind : DKind) : Demand := s.ownDemand bstObj cls kind s.bstStand [] 0

/-- Limp and orphan states of a valve channel (R390, R424): the converter is started too where it is OFF.  The level of LDUTY is rounded down to 1 mA, and a
channel that runs already only takes the level, a rise as a demand (DEDUCED, log entry 87). -/
def State.svWant (s : State) (o : Nat) (w : Want) : State × List Demand :=
  let n := objNum o
  if s.latched o then (s, [])
  else
    let go := fun (level : Option Nat) =>
      let lv := match level with | some l => l | none => s.rd Reg.SV_CFG0_IHOLD n * 10
      if s.waits o then (s.svLevel n level, [])
      else if s.isOn o then
        let s := s.setLoad o { s.load o with limp := true }
        if lv ≤ s.svSetMa n then (s.svLevel n level, [])
        else (s, [s.ownDemand o 0 (.limp (match level with | some l => l | none => 0)) (claimsOver (svStand n lv) (svStand n (s.svSetMa n))) [] 0])
      else
        let s' := s.modValve n fun v => { v with hold := level }
        let d := s'.svOwnPolicy o 0 (.limp (match level with | some l => l | none => 0))
        (s', (if s.st bstObj = 0 then [s.bstOwn 0 (.limp 0)] else []) ++ [d])
    match w with
    | .keep => (s, [])
    | .off => (if s.st o = 0 ∨ s.st o = 4 then s else s.svOff n, [])
    | .on => go none
    | .pwm d => go (some (max 50 (s.rd Reg.SV_CFG0_IHOLD n * 10 * d / 255)))

end Sys2Proof.Machine
end

