-- ==== Sys2Proof/Machine/Bridge.lean ====
section
/-!
DEFINITION. Sys2Proof/Machine/Bridge.lean: the motor bridges (R433 to R463): groups, claims, drives, motions and their ends.
-/
namespace Sys2Proof.Machine

def hbObj (n : Nat) : Nat := 0x60 + n

/-! ### Groups (R433, R434) -/

/-- Leader of half-bridge `n`. -/
def State.hbLeader (s : State) (n : Nat) : Nat :=
  let q := n - n % 4
  let p := n - n % 2
  if (q = 0 ∨ q = 8) ∧ s.rd Reg.HB_CFG0_MODE q = 3 then q
  else if s.rd Reg.HB_CFG0_MODE p = 1 ∨ s.rd Reg.HB_CFG0_MODE p = 2 then p else n

/-- Number of half-bridges that a MODE joins. -/
def hbCount (mode : Nat) : Nat := match mode with | 0 => 1 | 1 => 2 | 2 => 2 | _ => 4

/-- The half-bridges that leader `n` leads. -/
def State.hbMembers (s : State) (n : Nat) : List Nat :=
  (List.range (if s.hbLeader n = n ∧ n % 2 = 0 then hbCount (s.rd Reg.HB_CFG0_MODE n) else 1)).map (n + ·)

/-- PAR_MEMBER (R436). -/
def State.hbMemberBar (s : State) (o : Nat) : Option (Code × Nat) := barIf (s.hbLeader (objNum o) != objNum o) .refusedState 0x0A04

/-- Members on the driven side. -/
def State.hbSide (s : State) (n : Nat) : Nat := if 2 ≤ s.rd Reg.HB_CFG0_MODE n ∧ n % 2 = 0 then 2 else 1

/-! ### Claims (R437, R458) -/

/-- Maximum on-resistance of a switch at the group's present Tj, µΩ; 16 mΩ at 25 °C, 27 mΩ at 150 °C, on a line (R437, R458). -/
def State.hbRon (s : State) (n : Nat) : Nat :=
  let t := s.tjOf (hbObj n)
  let tj : Int := if t = 0 then s.tcase / 8 else (t : Int) - 50
  (16000 + 11000 * (tj - 25) / 125).toNat

/-- IREM (R458), mA. -/
def State.hbRem (s : State) (n : Nat) : Nat :=
  match (s.load (hbObj n)).rem with | some v => v | none => if s.hbSide n = 2 then 20000 else 10000

def State.hbStand (s : State) (n duty : Nat) : List Claim :=
  let i := s.hbRem n
  objClaims (hbObj n) (i * duty / 65535) (i * i * 2 * s.hbRon n / (s.hbSide n * 1000000) + 3000 * s.rd Reg.HB_CFG0_PWMF n)

/-- Length of the transient: TRAMP + 20 ms. -/
def State.hbTransDur (s : State) (n : Nat) : Ns := s.rd Reg.HB_CFG1_TRAMP n * 10000000 + 20000000

def State.hbTrans (s : State) (n : Nat) : List Claim :=
  let k := s.hbSide n
  let i := k * s.rd Reg.HB_CFG0_ILIM n * 250
  (objClaims (hbObj n) i (i * i * 2 * s.hbRon n / (k * 1000000))).map fun c => { c with dur := s.hbTransDur n }

/-- The PWM period in 10 ns; the duty raised to the minimum on-time of 1 µs, and also held on where the off-time would be below 1 µs (R438, R440). -/
def State.hbPer (s : State) (n : Nat) : Nat := 1000000 / max 1 (s.rd Reg.HB_CFG0_PWMF n)
def State.hbRaise (s : State) (n duty : Nat) : Nat :=
  if duty = 0 ∨ 100 ≤ roundDiv (s.hbPer n * duty) 65535 then duty else min 65535 (ceilDiv (100 * 65535) (s.hbPer n))
/-- The on-time of a PWM period in 10 ns: 1 µs at the least, and the whole period where the off-time would be below 1 µs (R438, R440). -/
def State.hbOnTime (s : State) (n deff : Nat) : Nat :=
  let t := max 100 (roundDiv (s.hbPer n * deff) 65535)
  if deff = 0 then 0 else if s.hbPer n < t + 100 then s.hbPer n else t
/-- DEFF of a duty: what its on-time comes to. -/
def State.hbMinDuty (s : State) (n duty : Nat) : Nat :=
  if duty ≠ 0 ∧ s.hbOnTime n duty = s.hbPer n then 65535 else s.hbRaise n duty

/-! ### Starting (R442 to R446) -/

/-- What is driven: direction, duty, no ramp, and the goal of a motion with its target. -/
structure Drive where
  dir    : Nat
  duty   : Nat
  noramp : Bool := false
  goal   : Option Nat := none
  target : Nat := 0
  move   : Bool := false
  /-- a motion that TMAX bounds (R443, R461) -/
  timed  : Bool := false
  deriving DecidableEq, Repr

/-- The switch of a half-bridge that conducts. -/
inductive Half where
  | none | high | low
  deriving DecidableEq, Repr

/-- Both switches of a half are off for this long at every change between them, ns (R439). -/
def State.hbDead (s : State) (n : Nat) : Ns := 50 * s.rd Reg.HB_CFG0_DT n

/-- The switch of half-bridge `m` that conducts, in a group that `n` leads, in the on-time or the off-time of a period (R433, R441, R442, R446, R447). -/
def State.hbHalf (s : State) (n m : Nat) (onTime : Bool) : Half :=
  let brake := fun (k : Nat) => match k with | 0 => Half.low | 1 => Half.high | _ => Half.none
  let sideA := decide (m < n + s.hbSide n)
  match s.st (hbObj n) with
  | 1 | 2 =>
    if onTime then (if sideA == (s.rd Reg.HB_STAT_DIR n == 0) then .high else .low)
    else if s.flag Reg.HB_CFG0_DECAY n then .none else .low
  | 3 => if (s.bridge n).brakeLim then .none else brake (s.bridge n).brake
  | 4 => brake (s.rd Reg.HB_CFG0_STOPMODE n)
  | _ => .none

/-- The members show the leader's state. -/
def State.hbSt (s : State) (n v : Nat) : State := (s.hbMembers n).foldl (fun s m => s.setSt (hbObj m) v) s

/-- The bridge starts to drive: with a ramp, or at once (R445). -/
def State.hbGo (s : State) (n : Nat) (d : Drive) : State :=
  let ramp := !d.noramp && s.rd Reg.HB_CFG1_TRAMP n != 0
  let s := s.hbSt n (if ramp then 1 else 2)
  let s := ((s.wr Reg.HB_STAT_DIR n d.dir).wr Reg.HB_OUT_DUTY n d.duty).wr Reg.HB_OUT_DEFF n (if ramp then 0 else s.hbMinDuty n d.duty)
  let s := s.modObj (hbObj n) fun x => { x with next := some d.duty, absent := 0 }
  s.modBridge n fun b => { b with
    rampEnd := if ramp then some (s.now + s.rd Reg.HB_CFG1_TRAMP n * 10000000) else none, ripples := 0, runAt := s.now, brakeLim := false }

/-- A drive or a motion is served from OFF, BRAKE or a wait state. -/
def State.hbStart (s : State) (n cls : Nat) (d : Drive) (limp : Bool) (cmd : Option Cmd) : State :=
  let o := hbObj n
  let s := s.claimOn o cls (s.hbStand n d.duty) (s.hbTrans n) (s.hbTransDur n) limp
  let s := (s.wr Reg.HB_STAT_CAUSE n (s.keptCause o)).wr Reg.HB_POS_TARGET n d.target
  let s := (s.modBridge n fun b => { b with
    goal := d.goal, move := d.move, timed := d.timed, startAt := s.now, after := none, trap := none, peak := 0 }).hbGo n d
  let s := match cmd with | some c => (s.begin c).commanded o | none => s
  (s.modObj o fun x => { x with target := 1, cmd, onAt := s.now, asked := false }).count o 0

/-- DATA of HB_MOTION_END (R466). -/
def State.hbEndData (s : State) (n reason : Nat) : Nat :=
  let b := s.bridge n
  atByte 16 reason + atByte 17 (s.rd Reg.HB_STAT_DIR n) + atByte 18 (s.rd Reg.HB_POS_POS n) + atByte 20 b.peak
  + atByte 24 (min (2 ^ 32 - 1) ((s.now - b.startAt) / 1000000))

/-- HB_MOTION_END. -/
def State.hbMotionEnd (s : State) (n reason : Nat) : State := s.raise 0x0A83 (hbObj n) (s.hbEndData n reason)

/-- A drive in the other direction: STOPMODE for TREV in REVERSE, then a start with a ramp (R446); a motion that it stops ends with reason 6 (R443). -/
def State.hbReverse (s : State) (n cls : Nat) (d : Drive) (cmd : Option Cmd) : State :=
  let o := hbObj n
  let end0 := if s.st o = 4 then (s.bridge n).revEnd else s.now + s.rd Reg.HB_CFG1_TREV n * 1000000
  let s := if (s.bridge n).move then s.hbMotionEnd n 6 else s
  let s := s.claimOn o cls (s.hbStand n d.duty) (s.hbTrans n) (s.hbTransDur n) (s.load o).limp
  let s := (s.hbSt n 4).wr Reg.HB_POS_TARGET n d.target
  let s := ((s.wr Reg.HB_OUT_DUTY n d.duty).wr Reg.HB_OUT_DEFF n 0).wr Reg.HB_STAT_INLIMIT n 0
  let s := s.modBridge n fun b => { b with
    goal := d.goal, move := d.move, timed := d.timed, startAt := s.now, rampEnd := none, trap := none, peak := 0
    revEnd := end0, after := some (d.dir, d.duty) }
  let s := match cmd with | some c => (s.begin c).commanded o | none => s
  s.modObj o fun x => { x with target := 1, chg := x.chg ++ cmd.toList }

/-- A drive in the running direction changes the duty, the goal and the target (R438, R446). -/
def State.hbChange (s : State) (n : Nat) (d : Drive) (cmd : Option Cmd) : State :=
  let o := hbObj n
  let s := s.claimRise o (claimsOver (s.hbStand n d.duty) (s.hbStand n (s.rd Reg.HB_OUT_DUTY n)))
  let s := (s.wr Reg.HB_OUT_DUTY n d.duty).wr Reg.HB_POS_TARGET n d.target
  let s := s.modBridge n fun b => { b with
    goal := d.goal, move := d.move, timed := d.timed, startAt := if d.timed then s.now else b.startAt, trap := none
    after := match b.after with | some _ => some (d.dir, d.duty) | none => none }
  let s := match cmd with | some c => (s.begin c).commanded o | none => s
  s.modObj o fun x => { x with target := 1, chg := x.chg ++ cmd.toList, next := some d.duty }

/-! ### Ending (R443, R447) -/

/-- STOPMODE is applied: a brake, or coast. -/
def State.hbStop (s : State) (n : Nat) (mode : Nat) : State :=
  let o := hbObj n
  let s := s.endCmds o .done (endedEarly o)
  let s := s.dropLoad o false
  let s := ((s.hbSt n (if mode = 2 then 0 else 3)).wr Reg.HB_OUT_DEFF n 0).wr Reg.HB_STAT_INLIMIT n 0
  let s := s.modBridge n fun b => { b with
    goal := none, move := false, timed := false, rampEnd := none, after := none, trap := none, brake := mode, brakeLim := false }
  s.modObj o fun x => { x with target := 0, lastOff := s.now }

/-- A motion or a drive ends by itself: the event and STOPMODE (R443, R456). -/
def State.hbEnd (s : State) (n reason : Nat) : State := (s.hbMotionEnd n reason).hbStop n (s.rd Reg.HB_CFG0_STOPMODE n)

/-- The bridge drives or reverses. -/
def State.hbRuns (s : State) (n : Nat) : Bool := s.isOn (hbObj n)

/-- Every switch off (HB_OFF, a shed, a policy): coast; a running motion or drive ends with reason 6. -/
def State.hbOff (s : State) (n : Nat) : State :=
  let o := hbObj n
  if s.latched o then s.modObj o fun x => { x with target := 0 }
  else if s.waits o then
    let s := s.endWaiting o .done (endedEarly o)
    ((s.hbSt n 0).wr Reg.HB_STAT_CAUSE n 0).modObj o fun x => { x with target := 0 }
  else
    let s := if s.hbRuns n then s.hbMotionEnd n 6 else s
    (s.endWaiting o .done (endedEarly o)).hbStop n 2

/-- An orphan state of off, or a limp state of off without a park run, applies STOPMODE (R461, R462). -/
def State.hbStopMode (s : State) (n : Nat) : State :=
  let o := hbObj n
  if s.latched o ∨ s.st o = 0 then s
  else if s.waits o then s.hbOff n
  else if s.hbRuns n then (s.hbMotionEnd n 6).hbStop n (s.rd Reg.HB_CFG0_STOPMODE n) else s

/-- The group trips or is cut (R449, R450, R460): a motion ends with reason 7, and its target becomes STOPMODE. -/
def State.hbTrip (s : State) (n : Nat) (c : Cause) (st : Nat) : State :=
  let o := hbObj n
  let mv := (s.bridge n).move
  let s := if s.hbRuns n && (mv || st == 7) then s.hbMotionEnd n 7 else s
  let s := if c = .short then s.wr Reg.HB_STAT_POSVALID n 0 else s
  let s := s.trip o c st
  let s := ((s.hbMembers n).filter (· != n)).foldl (fun s m =>
    let s := s.setSt (hbObj m) st
    let s := s.wr Reg.HB_STAT_CAUSE m (causeCode .hb c)
    if st = 7 then s.wr Reg.HB_STAT_FAULT m 1 else s) s
  let s := ((s.wr Reg.HB_OUT_DEFF n 0).wr Reg.HB_STAT_INLIMIT n 0).count o 6
  let s := s.modBridge n fun b => { b with rampEnd := none, after := none, trap := none }
  if mv then (s.modBridge n fun b => { b with move := false, goal := none, brake := s.rd Reg.HB_CFG0_STOPMODE n }).modObj o fun x => { x with target := 0 } else s

/-- A latched group returns to OFF (R451). -/
def State.hbClear (s : State) (n : Nat) : State :=
  let s := (s.hbMembers n).foldl (fun s m => ((s.setSt (hbObj m) 0).wr Reg.HB_STAT_CAUSE m 0).wr Reg.HB_STAT_FAULT m 0) s
  (s.unverify (hbObj n)).modObj (hbObj n) fun x => { x with target := 0 }

/-! ### Demands -/

/-- The drive that an HB_DRIVE or HB_MOVE descriptor asks for. -/
def hbDriveOf (c : Cmd) (duty : Nat) : Drive :=
  { dir := c.argBits 16 0 1, duty, noramp := c.argBits 16 1 1 == 1
    goal := if c.op = 0x2006 then some (min 2 (c.argBits 16 2 2)) else none, target := if c.op = 0x2006 then c.arg 20 2 else 0, move := c.op == 0x2006, timed := c.op == 0x2006 }

/-- The drive of the limp state On or PWM (R461). -/
def State.hbLimpDrive (s : State) (n dir duty : Nat) (park : Bool) : Drive :=
  { dir, duty, goal := if park || s.flag Reg.HB_CFG2_PARKEN n then some 2 else none, move := park, timed := true }

/-- The direction in which the bridge runs, or will run after REVERSE. -/
def State.hbDir (s : State) (n : Nat) : Nat :=
  match s.st (hbObj n), (s.bridge n).after with | 4, some a => a.1 | _, _ => s.rd Reg.HB_STAT_DIR n

/-- A bridge's demand is served; `.on a b`: `a` is 0 for a start, 1 for a reversal, 2 for a duty rise, and `b` the duty; `.limp a`: duty, direction in
bit 16, a park run in bit 17. -/
def State.hbServe (s : State) (d : Demand) : State :=
  let n := objNum d.obj
  match d.kind with
  | .on _ b =>
    match d.cmd with
    | none => s
    | some c =>
      let v := hbDriveOf c b
      if !s.hbRuns n then s.hbStart n d.cls v false (some c)
      else if v.dir = s.hbDir n then s.hbChange n v (some c) else s.hbReverse n d.cls v (some c)
  | .limp a =>
    let v := s.hbLimpDrive n (a / 65536 % 2) (a % 65536) (a / 131072 == 1)
    if !s.hbRuns n then s.hbStart n 0 v true none
    else if v.dir = s.hbDir n then s.hbChange n v none else s.hbReverse n 0 v none
  | _ =>
    if s.waits d.obj then
      (s.hbStart n d.cls { dir := s.rd Reg.HB_STAT_DIR n, duty := s.rd Reg.HB_OUT_DUTY n, goal := (s.bridge n).goal, timed := (s.load d.obj).limp }
        (s.load d.obj).limp none).objEvent d.obj 0x82
    else s

def State.hbDemand (s : State) (o cls : Nat) (kind : DKind) (duty : Nat) : Demand :=
  s.ownDemand o cls kind (s.hbStand (objNum o) duty) (s.hbTrans (objNum o)) (s.hbTransDur (objNum o))

/-- The park input reads PARKLVL (R443): the debounced level of SW[PARKSW], before INV (R503, R505; DEDUCED); while the front end is unpowered every park
input counts as reading it (R506). -/
def State.hbParked (s : State) (n : Nat) : Bool :=
  s.pwr.brownout || b2n (s.sw (s.rd Reg.HB_CFG2_PARKSW n)).deb == s.rd Reg.HB_CFG2_PARKLVL n

/-- Limp and orphan states of a bridge (R461). -/
def State.hbWant (s : State) (o : Nat) (w : Want) : State × List Demand :=
  let n := objNum o
  let ldir := s.rd Reg.HB_CFG2_LDIR n
  if s.latched o then (s, [])
  else
    let go := fun (dir duty park : Nat) =>
      if s.waits o then
        let g := (s.hbLimpDrive n dir duty (park == 1)).goal
        let s := ((s.wr Reg.HB_OUT_DUTY n duty).wr Reg.HB_STAT_DIR n dir).modBridge n fun b => { b with goal := g }
        (s.setLoad o { s.load o with limp := true }, [])
      else (s, [s.hbDemand o 0 (.limp (duty + 65536 * dir + 131072 * park)) duty])
    match w with
    | .keep => (s, [])
    | .off => if s.flag Reg.HB_CFG2_PARKEN n && !s.hbParked n && !s.waits o then go (1 - ldir) 65535 1 else (s.hbStopMode n, [])
    | .on => go ldir 65535 0
    | .pwm d => go ldir (d * 257) 0

end Sys2Proof.Machine
end

