-- ==== Sys2Proof/Machine/Loop.lean ====
section
/-!
DEFINITION. Sys2Proof/Machine/Loop.lean: Q15.16 arithmetic, the binding of the control loops, their claims and the start of a close (R467 to R485).
-/
namespace Sys2Proof.Machine

def lpObj (n : Nat) : Nat := 0x300 + n
def State.loop (s : State) (n : Nat) : Loop := tget {} s.out.loops n
def State.modLoop (s : State) (n : Nat) (f : Loop → Loop) : State := { s with out := { s.out with loops := tput s.out.loops n (f (s.loop n)) } }
def State.loopCount (s : State) (n k : Nat) (by_ : Nat := 1) : State :=
  s.modLoop n fun l => { l with counts := tput l.counts k (satAdd 32 (tget 0 l.counts k) by_) }

/-- The object that loop `n` names. -/
def State.loopObj (s : State) (n : Nat) : Nat := s.rd Reg.LP_CFG0_OBJECT n

/-- The output object that a demand of `o` draws on: the one that a loop is bound to, else `o` itself. -/
def State.drawnBy (s : State) (o : Nat) : Nat := if isKind .loop o then s.loopObj (objNum o) else o

/-! ### Q15.16 (R474, R475) -/

def qMax : Int := 2147483647
def qMin : Int := -2147483648

/-- A result that saturates, and whether it did. -/
def qSat (x : Int) : Int × Bool := if x > qMax then (qMax, true) else if x < qMin then (qMin, true) else (x, false)

/-- A product: exact, rounded to the nearest step with ties toward plus infinity, then saturated. -/
def qMul (a b : Int) : Int × Bool := qSat ((a * b + 32768) / 65536)

/-- A register as a signed number. -/
def State.q (s : State) (f : Field) (n : Nat) : Int := sgn 32 (s.rd f n)
def State.wq (s : State) (f : Field) (n : Nat) (v : Int) : State := s.wr f n (unsgn 32 v)

/-! ### Binding (R467 to R469) -/

/-- OBJECT is an object of KIND; a bridge must lead its group. -/
def State.loopBound (s : State) (n : Nat) : Bool :=
  let o := s.loopObj n
  match s.rd Reg.LP_CFG0_KIND n with
  | 1 => isKind .ld o
  | 2 => isKind .sv o
  | 3 => isKind .hb o && s.hbLeader (objNum o) == objNum o
  | 4 => isKind .hb o && s.hbLeader (objNum o) == objNum o
  | 5 => isKind .hs o || isKind .ls o
  | _ => false

/-- The bound object is in the driven state of its kind (R467). -/
def State.loopDriven (s : State) (n : Nat) : Bool :=
  let o := s.loopObj n
  match s.rd Reg.LP_CFG0_KIND n with
  | 1 => s.st o == 2 | 2 => s.st o == 3 | 3 => s.st o == 2 | 4 => s.st o == 2 | 5 => s.st o == 1 | _ => false


/-- A value brought into a range. -/
def clampInt (lo hi v : Int) : Int := if v < lo then lo else if hi < v then hi else v

/-- The output quantity as the object takes it: mA, or a duty. -/
def State.loopLevel (s : State) (n : Nat) (out : Int) : Nat :=
  let v := out.toNat
  match s.rd Reg.LP_CFG0_KIND n with
  | 1 => clampNat 20 2000 (roundDiv (v * 1000) 65536)
  | 2 => clampNat 50 (max 50 (s.rd Reg.SV_CFG0_IPK (objNum (s.loopObj n)) * 25)) (roundDiv (v * 1000) 65536)
  | _ => min 65535 (roundDiv (v * 65535) 65536)

/-- The object's present setting of the output quantity, in Q15.16 (R482). -/
def State.loopSetting (s : State) (n : Nat) : Int :=
  let o := s.loopObj n
  let k := objNum o
  match s.rd Reg.LP_CFG0_KIND n with
  | 1 => (roundDiv (s.ldIset k * 65536) 1000 : Nat)
  | 2 => (roundDiv (s.svSetMa k * 65536) 1000 : Nat)
  | 5 => (roundDiv (s.chDuty o * 65536) 65535 : Nat)
  | _ => (roundDiv (s.rd Reg.HB_OUT_DUTY k * 65536) 65535 : Nat)

/-- Standing claims of the bound object with the output quantity at OUTMAX (R484). -/
def State.loopStand (s : State) (n : Nat) : List Claim :=
  let o := s.loopObj n
  let lv := s.loopLevel n (s.q Reg.LP_OUTMAX n)
  match s.rd Reg.LP_CFG0_KIND n with
  | 1 => s.ldStand (objNum o) (s.ldDeff (objNum o) (s.setDuty o)) lv
  | 2 => svStand (objNum o) lv
  | 5 => s.chStand (chIx o) lv
  | _ => s.hbStand (objNum o) lv

/-- What the loop's close claims beyond the object's present claims (R484). -/
def State.loopExtra (s : State) (n : Nat) : List Claim :=
  claimsOver (s.loopStand n) (s.load (s.loopObj n)).stand

/-! ### Events (R495) -/

/-- LP_FLAGS[15:0]. -/
def State.loopFlags (s : State) (n : Nat) : Nat :=
  s.rd Reg.LP_FLAGS n + 256 * s.rd Reg.LP_FLAGS_OUTLIM n + 512 * s.rd Reg.LP_FLAGS_SATTO n + 1024 * s.rd Reg.LP_FLAGS_FBLOST n

def State.loopData (s : State) (n b17 : Nat) : Nat :=
  atByte 16 (s.rd Reg.LP_STAT_OPENRSN n) + atByte 17 b17 + atByte 18 (s.loopFlags n) + atByte 20 (s.rd Reg.LP_FB n) + atByte 24 (s.rd Reg.LP_OUT n)
  + atByte 28 (s.rd Reg.LP_SPEFF n)

def State.loopEvent (s : State) (n yy b17 : Nat) : State := s.raise (0x1000 + yy) (lpObj n) (s.loopData n b17)

/-- LOOP_CLOSE is served: the loop is CLOSING, and the object's claims stand at OUTMAX (R481, R485, R489). -/
def State.loopEngage (s : State) (d : Demand) : State :=
  let n := objNum d.obj
  let o := s.loopObj n
  let s := s.claimSet o (s.loopStand n)
  let s := (s.wr Reg.LP_STAT_STATE n 1).wr Reg.LP_SATT_MISS n 0
  let bump := match d.cmd with | some c => c.argBits 16 0 1 == 1 && s.flag Reg.LP_STAT_EVER n | none => false
  (s.modLoop n fun l => { l with cmd := d.cmd, bumpless := bump, first := true, satRun := 0, sampleAt := s.now }).loopCount n 0

end Sys2Proof.Machine
end

