-- ==== Sys2Proof/Machine/Objects.lean ====
section
/-!
DEFINITION. Sys2Proof/Machine/Objects.lean: what the arbiter, the supply monitors and the limp-and-hold logic do to an output object of any kind:
switching off, shedding, cutting, restarting, serving demands, limp-home, orphan policies (R253 to R274, R291 to R320).
-/
namespace Sys2Proof.Machine

/-- The object that leads `o`'s paralleled group; `o` itself when it is single. -/
def State.leadOf (s : State) (o : Nat) : Nat :=
  match kindOf o with
  | .hs => s.chLead o | .ls => s.chLead o | .hb => hbObj (s.hbLeader (objNum o)) | _ => o

/-- The object switches off as by its off command. -/
def State.objOff (s : State) (o : Nat) : State :=
  match kindOf o with
  | .hs => s.chOff (s.chLeader (chIx o)) | .ls => s.chOff (s.chLeader (chIx o)) | .ld => s.ldOff (objNum o) | .mx => s.mxOff
  | .sv => s.svOff (objNum o) | .bst => s.bstOff | .hb => s.hbOff (s.hbLeader (objNum o)) | _ => s

/-- The object leaves its on path with a cause. -/
def State.objTrip (s : State) (o : Nat) (c : Cause) (st : Nat) : State :=
  match kindOf o with
  | .hs => s.chTrip (s.chLeader (chIx o)) c st | .ls => s.chTrip (s.chLeader (chIx o)) c st | .ld => s.ldTrip (objNum o) c st
  | .sv => s.svTrip (objNum o) c st | .hb => s.hbTrip (s.hbLeader (objNum o)) c st
  | .bst => (s.trip o c st).wr Reg.BST_STAT_HEADROOM 0 0 | .mx => s.trip o c st | _ => s

/-- The claims of an object that a loop is bound to stand at OUTMAX (R485). -/
def State.loopClaims (s : State) (o : Nat) : State :=
  match s.loopOn o with
  | some n => if (s.load o).on then s.claimSet o (s.loopStand n) else s
  | none => s

/-- A demand is served. -/
def State.objServe (s : State) (d : Demand) : State :=
  State.loopClaims (o := d.obj) <| match kindOf d.obj with
  | .hs => s.chServe d | .ls => s.chServe d | .ld => s.ldServe d | .mx => s.mxServe d | .sv => s.svServe d | .bst => s.bstServe d
  | .hb => s.hbServe d | .loop => s.loopEngage d | _ => s

/-- Limp and orphan states by kind. -/
def State.objWant (s : State) (o : Nat) (w : Want) : State × List Demand :=
  match kindOf o with
  | .hs => s.chWant o w | .ls => s.chWant o w | .ld => s.ldWant o w | .mx => s.mxWant w | .sv => s.svWant o w | .hb => s.hbWant o w
  | _ => (s, [])

/-- The demand of an automatic restart, of a restart slot or of an overvoltage slot; a bound object claims at OUTMAX (R485). -/
def State.restartDemand (s : State) (o : Nat) (kind : DKind) : Demand :=
  (fun d : Demand => match s.loopOn o with | some n => { d with stand := s.loopStand n } | none => d) <| match kindOf o with
  | .ld => s.ldRestart o kind | .mx => s.mxRestart kind | .sv => s.svOwnPolicy o (s.load o).cls kind | .bst => s.bstOwn (s.load o).cls kind
  | .hb => s.hbDemand o (s.load o).cls kind (s.rd Reg.HB_OUT_DUTY (objNum o)) | _ => s.chRestart o kind

/-! ### Shedding (R305 to R308) -/

/-- A shed: ARB_SHED, the log and the counter; the object switches off as by its off command, and its claims count until its current has fallen. -/
def State.shed (s : State) (o b : Nat) : State :=
  let l := s.load o
  let data := atByte 16 b + atByte 17 l.cls + atByte 18 (min 0xFFFF (s.usage b / unitOf b)) + atByte 20 (min 0xFFFF (s.limitReg b))
  let s := (s.raise 0x0E81 o data).bump Reg.ARB_CNT2_SHEDCNT 0
  let s := s.arbLog { obj := o, cls := l.cls, kind := .restart, cmd := none, arrival := s.now, latest := none, stand := [], trans := [], dur := 0 } .done 0x0E81
  let s := s.objOff o
  let s := { s with arb := { s.arb with lastShed := s.now } }
  (s.setLoad o { s.load o with stand := l.stand, shedAt := some s.now }).showUse

/-- A class 0 demand that does not fit the full limit sheds what lets it fit, unless objects that are shed already make the room (R306).  The second part says
that the demand now waits for the currents of shed objects to fall, whatever its latency. -/
def State.preempt (s : State) (d : Demand) : State × Bool :=
  let m := s.misfits s.items d s.now
  if d.cls = 0 && s.flag Reg.ARB_CFG_PREEMPT && !m.isEmpty then
    let gone := (s.arb.loads.filter fun p => p.2.shedAt.isSome).map (·.1)
    match s.preemptSet d gone (s.sheddable.filter fun o => m.any fun b => s.claimsOn b o) [] with
    | some os => (os.foldl (fun s o => s.shed o (binding (m.filter (· < 14)))) s, true)
    | none => (s, false)
  else (s, false)

/-! ### Demands -/

/-- A command's demand completes with a refusal, which enters the decision log (R304). -/
def State.refuse (s : State) (c : Cmd) (d : Demand) (code : Code) (sub : Nat) : State := (s.complete c code sub).arbLog d code sub

/-- A command's demand reaches the arbiter (R292 to R300, R304, R306, R317). -/
def State.submit (s : State) (d : Demand) : State :=
  match d.cmd with
  | none => s
  | some c =>
    if s.cutRefuses d then s.refuse c d .refusedPolicy 0x0E02
    else
      let p := (s.demandClamp c).preempt d
      let s := p.1
      let d := if p.2 then { d with latest := none } else d
      let bank := fun (s : State) (b : Nat) => if 13 < b then (s.bump Reg.SV_BANK_BKDEF 0).count d.obj 5 else s
      match s.judge d with
      | .serve => (s.objServe d).arbLog d .done 0
      | .defer t b => bank (((s.await d).defer c (s.ntime + (t - s.now)) (budgetSub b)).arbLog d .deferred (budgetSub b)) b
      | .refuse b => s.refuse c d .refusedBudget (budgetSub b)
      | .never => s.refuse c d .refusedPolicy 0x0E01

/-- The group of an object in the tables of the power dies; 7 for none. -/
def groupKey (o : Nat) : Nat := match groupOf o with | some g => g | none => 7

/-- The demand is a switch-on by limp-home or an orphan policy. -/
def Demand.isLimp (d : Demand) : Bool := match d.kind with | .limp _ => true | _ => false

/-- The last switch-on that a power die or limp-home made in a group lies 1 ms back, 0.98 ms at the least (R256, R262, log entry 7). -/
def State.spaced (s : State) (g : Nat) : Bool :=
  match tget none (s.arb.lastServe.map fun p => (p.1, some p.2)) g with | none => true | some t => decide (t + 980000 ≤ s.now)

/-- A switch-on whose spacing counts is served in the group. -/
def State.noteServe (s : State) (o : Nat) : State := { s with arb := { s.arb with lastServe := tput s.arb.lastServe (groupKey o) s.now } }

/-- The power die may serve a switch-on of the group: none was served within the last 1 ms, and none waits (R256). -/
def State.dieMayServe (s : State) (o : Nat) : Bool :=
  s.spaced (groupKey o) && !((s.arb.waiting ++ s.arb.dieQueue).any fun d => groupKey d.obj == groupKey o)

/-- P2 judges the boost budgets of a valve demand itself (R425). -/
def State.dieFits (s : State) (d : Demand) : Bool := (s.misfits s.items d s.now).all fun b => decide (b < 13)

/-- A power die serves a demand by itself. -/
def State.dieServe (s : State) (d : Demand) : State := (s.noteServe d.obj).objServe d

/-- While die C runs, the limp switch-ons of a group keep the spacing of R262 too. -/
def State.limpSpaced (s : State) (d : Demand) : Bool := !d.isLimp || s.spaced (groupKey d.obj)

/-- The arbiter serves a demand. -/
def State.arbServe (s : State) (d : Demand) : State := (if d.isLimp then s.noteServe d.obj else s).objServe d

/-- A restart, a limp or an orphan switch-on (R256, R300, R309, R398): by the arbiter while die C runs, by the power die while it is absent.  A frozen group
keeps it waiting (R42, R181). -/
def State.submitOwn (s : State) (d : Demand) : State :=
  let s := if isKind .sv d.obj && s.svOnlyBoost (s.svOwn d.obj d.cls d.kind true) then s.boostNotReady (objNum d.obj) else s
  let s := (s.unwaitOwn d.obj).modObj d.obj fun x => { x with asked := true }
  if s.dieC then
    let s := (s.preempt d).1
    if !s.ovFrozen d.obj && !s.cutFor d.obj d.cls && s.limpSpaced d && s.fitsNow d then (s.arbServe d).modObj d.obj fun x => { x with asked := false } else s.await d
  else if !s.ovFrozen d.obj && !s.cutFor d.obj d.cls && s.dieMayServe d.obj && s.dieFits d then
    (s.dieServe d).modObj d.obj fun x => { x with asked := false }
  else s.await d

/-- ICOL of a running matrix is written by a setup write: a rise is a demand, and the old column current stays in force until it is served (R371; DESIGN
CHOICE, log entry 85). -/
def State.mxIcolSet (s : State) (old v : Nat) : State :=
  let now := match s.out.mx.icol with | some x => x | none => old
  if !s.isOn mxObj then s
  else if now < v then
    let s := s.modMx fun m => { m with icol := some now }
    s.submitOwn (s.ownDemand mxObj (s.load mxObj).cls (.on 3 v) (claimsOver (s.mxStand v s.mxSet) (s.mxStand now s.mxSet)) [] 0)
  else (s.unwaitOwn mxObj).modMx fun m => { m with icol := none }

/-- Several demands in order. -/
def State.submitAll (s : State) (ds : List Demand) : State := ds.foldl State.submitOwn s

/-! ### Limp-home (R252 to R261) -/

/-- Since when the dies have waited for a heartbeat (R251, R274). -/
def State.hbSince (s : State) : Ns := max s.out.hbAt s.out.noticeAt

/-- The record that rules the object of record `r`: its leader's in a paralleled group (R201, R436). -/
def State.ruleRec (s : State) (r : Nat) : Nat := match recIx (s.leadOf (recObj r)) with | some k => k | none => r

/-- A PAIRED object is off once 2 ms have passed without a heartbeat with the notice released, unless LIMP_N is asserted (R274, R275). -/
def State.pairedOff (s : State) (r : Nat) : Bool :=
  s.flag Reg.LH_LHR0_PAIRED (s.ruleRec r) && !s.out.notice && !s.flag Reg.LIMP_STAT_LIMPN && decide (s.hbSince + 2000000 ≤ s.now)

/-- The state that record `r` selects in limp-home (R253, R274). -/
def State.limpState (s : State) (r : Nat) : Want :=
  let src := s.rd Reg.LH_LHR0_LSRC r
  let duty := s.rd Reg.LH_LHR0_LDUTY r
  let ls := s.rd Reg.LH_LHR0_LSTATE r
  if s.flag Reg.LH_LHR0_EXEMPT r || s.pairedOff r then .off
  else if src = 0 then (match ls with | 0 => .off | 1 => .on | 2 => .keep | _ => .pwm duty)
  else if bit (s.rd Reg.LIMP_STAT_LH) (src - 1) != s.flag Reg.LH_LHR0_LINV r then (if ls = 3 then .pwm duty else .on)
  else .off

/-- The record acts: its object leads its group. -/
def State.recActs (s : State) (r : Nat) : Bool := s.leadOf (recObj r) == recObj r

/-- An object takes a state; EXEMPT coasts a bridge (R461).  Nothing moves on a power die without supply (R40). -/
def State.takeState (s : State) (r : Nat) (w : Want) (exempt : Bool) : State :=
  let o := recObj r
  if !s.supplied o then s
  else if exempt && isKind .hb o then (if s.st o = 0 then s else s.hbOff (objNum o))
  else let p := s.objWant o w; p.1.submitAll p.2

/-- Control commands to the object that have not begun complete REFUSED_STATE with low byte `yy`: their waiting demands are withdrawn (R257, R272). -/
def State.dropCmds (s : State) (o yy : Nat) : State :=
  let cs := if s.dieC then (s.host.inflight.filter fun r => r.cmd.object == o && r.cmd.op / 4096 == 2 && !r.begun).map InFlight.cmd else []
  cs.foldl (fun s c => (s.forget fun d => sameCmd d c).complete c .refusedState (objWin o * 256 + yy)) s

/-- Control commands to the object that have not begun complete LIMP_ACTIVE (R257), and a limp or orphan demand is withdrawn; an automatic restart
waits on. -/
def State.limpDrop (s : State) (o : Nat) : State :=
  let s := s.dropCmds o 6
  if (s.arb.waiting ++ s.arb.dieQueue).any fun d => d.obj == o && d.isLimp then (s.unwaitOwn o).modObj o fun x => { x with asked := false } else s

/-- Limp-home acts on record `r`; a frozen group keeps it for the end of the freeze (R42, R45).  INLIMP is set by limp-home only, at the record of the object
that leads: a limp state taken by an orphan or a debug policy leaves it 0 (DESIGN CHOICE, log entry 81). -/
def State.limpApply (s : State) (r : Nat) : State :=
  let o := recObj r
  if !s.recActs r || !s.supplied o then s
  else
    let s := (s.limpDrop o).wr Reg.LH_LHR1_INLIMP r 1
    if s.ovFrozen o then s.modLimp r fun l => { l with due := true }
    else s.takeState r (s.limpState r) (s.flag Reg.LH_LHR0_EXEMPT r)

/-- The records that a cause of limp-home moves: a heartbeat loss does not move an object in hold (R264), and an object in a limp state is in it
already. -/
def State.limpMoves (s : State) (cause r : Nat) : Bool :=
  !s.flag Reg.LH_LHR1_INLIMP r && !(cause == 2 && s.flag Reg.LH_LHR1_INHOLD r)

/-- Limp-home begins, or a further cause joins it (R252, R264, R280, R281). -/
def State.limpEnter (s : State) (cause : Nat) : State :=
  let c := Nat.lor (s.rd Reg.LIMP_STAT_CAUSE) cause
  let was := s.flag Reg.LIMP_STAT_ACTIVE
  let s := s.wr Reg.LIMP_STAT_CAUSE 0 c
  let s := if was then s
    else ((s.wr Reg.LIMP_STAT_ACTIVE 0 1).bump Reg.LIMP_STAT_LIMPCNT 0).raise 0x088A 0xFFFF (atByte 16 c + atByte 17 (s.rd Reg.LIMP_STAT_LH))
  recOrder.foldl (fun s r => if s.limpMoves cause r then s.limpApply r else s) s

/-- At the end of limp-home an object keeps its state and takes it as its target (R260). -/
def State.limpKeep (s : State) (r : Nat) : State :=
  let o := recObj r
  let s := (s.wr Reg.LH_LHR1_INLIMP r 0).modLimp r fun l => { l with due := false }
  let s := if s.st o = 0 then (s.unwaitOwn o).modObj o fun x => { x with asked := false } else s
  let s := s.setLoad o { s.load o with limp := false }
  match kindOf o with
  | .ld => if (s.led (objNum o)).limp then (s.wr Reg.LD_OUT_DUTY (objNum o) (s.setDuty o)).modLed (objNum o) fun l => { l with limp := false } else s
  | _ => s

/-- A cause of limp-home ends, and limp-home with the last one (R259, R281). -/
def State.limpExit (s : State) (cause : Nat) : State :=
  let c := s.rd Reg.LIMP_STAT_CAUSE
  let left := c - Nat.land c cause
  if !s.flag Reg.LIMP_STAT_ACTIVE then s
  else if left ≠ 0 then s.wr Reg.LIMP_STAT_CAUSE 0 left
  else
    let s := (s.wr Reg.LIMP_STAT_ACTIVE 0 0).wr Reg.LIMP_STAT_CAUSE 0 0
    let s := s.raise 0x088B 0xFFFF (atByte 16 c)
    recOrder.foldl State.limpKeep s

/-! ### Orphan policies (R266 to R273) -/

/-- The effective hold window in ns, and the effective orphan policy (R273), of the record that rules (R201). -/
def State.holdw (s : State) (r : Nat) : Ns :=
  (if s.flag Reg.LH_LHR0_PAIRED (s.ruleRec r) then 2 else s.rd Reg.LH_LHR0_HOLDW (s.ruleRec r)) * 1000000
def State.orph (s : State) (r : Nat) : Nat := if s.flag Reg.LH_LHR0_PAIRED (s.ruleRec r) then 1 else s.rd Reg.LH_LHR0_ORPH (s.ruleRec r)

/-- The state of an orphan policy is taken; limp-home overrides it (R267). -/
def State.orphanState (s : State) (r : Nat) : State :=
  if s.flag Reg.LIMP_STAT_ACTIVE then s
  else
    match s.orph r with
    | 0 => s
    | 2 => s.takeState r (s.limpState r) (s.flag Reg.LH_LHR0_EXEMPT r)
    | _ => if isKind .hb (recObj r) then s.hbStopMode (objNum (recObj r)) else s.takeState r .off false

/-- An object applies its orphan policy (R266, R271); a frozen group keeps it for the end of the freeze (R45).  A member of a paralleled group
follows its leader (R201, R436). -/
def State.orphan (s : State) (r : Nat) : State :=
  let s := (s.wr Reg.LH_LHR1_ORPHANED r 1).bump Reg.HOLD_STAT_ORPHCNT 0
  if !s.recActs r then s
  else if s.ovFrozen (recObj r) then s.modLimp r fun l => { l with orphDue := true }
  else s.orphanState r

/-- An isolated output. -/
def ioObj (n : Nat) : Nat := 0x150 + n

/-- Isolated output `n` is off by a command, a policy or Stop: commands that have not reached their outcome complete DONE with no sub-code of their own. -/
def State.ioOff (s : State) (n : Nat) : State :=
  let o := ioObj n
  let s := s.endCmds o .done 0
  let s := s.modObj o fun x => { x with target := 0 }
  if s.st o = 0 ∨ s.st o = 4 then s else (s.setSt o 0).wr Reg.IO_STAT_CAUSE n 0

/-- The isolated outputs of function `pf` switch off (R528). -/
def State.ioOffOf (s : State) (pf : Nat) : State :=
  (List.range 8).foldl (fun s n => if s.owner (ioObj n) = pf then s.ioOff n else s) s

/-- The objects of a frozen function apply their orphan policies (R271); that of an isolated output is off (R528). -/
def State.orphanAll (s : State) (pf : Nat) : State :=
  (recOrder.foldl (fun s r => if s.owner (recObj r) = pf then s.orphan r else s) s).ioOffOf pf

/-- Freezes by ring accesses are carried out, and the orphan policies that fell due with a freeze are applied. -/
def State.settleOnce (s : State) : State :=
  let vs := s.host.viols
  let s := { s with host := { s.host with viols := [] } }
  let s := vs.foldl (fun s v => s.freeze { pf := v.1, kind := 1, addr := v.2, time := s.ntime }) s
  let ds := s.out.orphanDue
  let s := { s with out := { s.out with orphanDue := [] } }
  ds.foldl State.orphanAll s

/-- Each of the four functions freezes at most once in a step. -/
def State.settle (s : State) : State := Nat.repeat State.settleOnce 5 s

/-! ### Cuts and restarts of a group (R46, R316 to R319) -/

/-- Objects of a group, in ascending object ID; members of a paralleled group are left to their leader. -/
def State.groupObjs (s : State) (g : Nat) : List Nat :=
  ((List.range 0xD1).filter fun o => isOutput o && groupOf o == some g).filter fun o => s.leadOf o == o

/-- Number of objects that leader `o` stands for. -/
def State.width (s : State) (o : Nat) : Nat :=
  match kindOf o with
  | .hs => (s.chMembers (chIx o)).length | .ls => (s.chMembers (chIx o)).length | .hb => (s.hbMembers (objNum o)).length | _ => 1

/-- The objects that a cut reaches: running or in THERM_WAIT, of class 1 to 3 and not in a limp state for the first level; every one for the second.  A bridge
in BRAKE draws nothing: a sag's cut leaves it (R458). -/
def State.cutHits (s : State) (o level : Nat) : Bool :=
  (s.isOn o || s.st o == stTherm (kindOf o)) && (level == 1 || (decide (0 < (s.load o).cls) && !(s.load o).limp && !s.recInLimp o))

/-- The objects that the switch-off of R46 reaches, a bridge in BRAKE among them (R460). -/
def State.ovHits (s : State) (o : Nat) : Bool := s.cutHits o 1 || (isKind .hb o && s.st o == 3)

/-- A cut object goes to SUPPLY_WAIT. -/
def State.cutObj (s : State) (o : Nat) (c : Cause) : State :=
  (s.objTrip o c (stSupply (kindOf o))).setLoad o { (s.objTrip o c (stSupply (kindOf o))).load o with cut := true }

/-- GRP_CUT and GRP_RESTART (R321, R325). -/
def State.grpEvent (s : State) (yy g b17 n : Nat) : State :=
  s.raise (0x0E00 + yy) 0xFFFF (atByte 16 g + atByte 17 b17 + atByte 18 (s.groupVolt g) + atByte 20 n)

/-- The bits of ARB_GRPSTAT. -/
def State.setCut (s : State) (g : Nat) (level : Nat) (b : Bool) : State :=
  if g = 0 then s.wrb (if level = 0 then Reg.ARB_GRPSTAT_CUTB else Reg.ARB_GRPSTAT_CUT0B) 0 b
  else
    let f := if level = 0 then Reg.ARB_GRPSTAT_CUT else Reg.ARB_GRPSTAT_CUT0
    let v := s.rd f
    s.wr f 0 (if b then setBit v (g - 1) else clrBit v (g - 1))

/-- Restart demands of class `c` in a group at a slot (R318): the objects that wait with the slot's cause. -/
def State.slotObjs (s : State) (g c : Nat) (cause : Cause) : List Nat :=
  (s.groupObjs g).filter fun o =>
    s.st o == stSupply (kindOf o) && (s.load o).cls == c && (isKind .mx o || s.causeOf o == causeCode (kindOf o) cause)

/-- The restart of an object at a slot; a motion is not restarted, and a bridge that braked brakes again, which is no demand (R458, R460). -/
def State.restart (s : State) (o : Nat) (kind : DKind) : State :=
  if isKind .hb o && (s.obj o).target == 0 then s.hbStop (objNum o) (s.bridge (objNum o)).brake
  else s.submitOwn (s.restartDemand o kind)

end Sys2Proof.Machine
end

