-- ==== Sys2Proof/Machine/LoopLaw.lean ====
section
/-!
DEFINITION. Sys2Proof/Machine/LoopLaw.lean: the control law, and how a loop is suspended, resumed and opened (R478 to R492).
-/
namespace Sys2Proof.Machine

/-! ### Applying an output -/

/-- The object uses output `out` of loop `n` in place of its own setting (R467, R402). -/
def State.loopApply (s : State) (n : Nat) (out : Int) : State :=
  let o := s.loopObj n
  let k := objNum o
  let lv := s.loopLevel n out
  match s.rd Reg.LP_CFG0_KIND n with
  | 1 => s.modLed k fun l => { l with loopIset := some (clampNat 20 2000 lv) }
  | 2 => s.svLoopLevel k lv
  | 5 => (s.chTarget (chIx o) 2).modObj o fun x => { x with next := some lv }
  | _ => (s.modObj o fun x => { x with next := some lv })

/-- The last applied output becomes the object's own setting; a valve keeps it as the level of the running actuation only (R490). -/
def State.loopKeep (s : State) (n : Nat) : State :=
  let o := s.loopObj n
  let k := objNum o
  match s.rd Reg.LP_CFG0_KIND n with
  | 1 => match (s.led k).loopIset with
    | some v => (s.wr Reg.LD_CFG0_ISET k v).modLed k fun l => { l with loopIset := none }
    | none => s
  | 2 => s.modValve k fun v => { v with hold := none }
  | 5 => s.wr Reg.CH_OUT_DUTY (chIx o) (s.setDuty o)
  | _ => s.wr Reg.HB_OUT_DUTY k (s.setDuty o)

/-! ### Opening (R489 to R492) -/

/-- The loop becomes OPEN with a reason; a LOOP_CLOSE that has not engaged completes. -/
def State.loopToOpen (s : State) (n reason : Nat) (code : Code) (sub : Nat) : State :=
  let s := (s.wr Reg.LP_STAT_STATE n 0).wr Reg.LP_STAT_OPENRSN n reason
  let s := match (s.loop n).cmd with
    | some c => (s.modLoop n fun l => { l with cmd := none }).complete c code sub
    | none => s
  let o := s.loopObj n
  let s := s.setLoad o { s.load o with measFrom := s.now }
  let s := if reason = 4 then s.loopCount n 7 else s
  s.loopEvent n 0x82 0

/-- An opening mode acts on the object (R490). -/
def State.loopMode (s : State) (n mode : Nat) : State :=
  match mode with
  | 0 => s.loopKeep n
  | 1 => (s.loopApply n (s.q Reg.LP_OFIX n)).loopKeep n
  | _ =>
    let s := s.loopKeep n
    let o := s.loopObj n
    if isKind .hb o then s.hbStopMode (objNum o) else s.objOff o

/-- The object holds a state that suspends a closed loop: a wait, a limp state, a freeze, a hold, a debug hold, RAMP or REVERSE. -/
def State.loopHeld (s : State) (n : Nat) : Bool :=
  let o := s.loopObj n
  s.waits o || s.ovFrozen o || (isKind .hb o && (s.st o == 1 || s.st o == 4))
  || (match recIx o with
      | some r => s.flag Reg.LH_LHR1_INLIMP r || s.flag Reg.LH_LHR1_INHOLD r || (s.limp r).dbgHeld
      | none => false)

/-- The object has turned off, latched, or taken an orphan state. -/
def State.loopGone (s : State) (n : Nat) : Bool :=
  let o := s.loopObj n
  s.latched o || (!s.isOn o && !s.waits o) || (match recIx o with | some r => s.flag Reg.LH_LHR1_ORPHANED r | none => false)

/-- A loop follows its object (R489). -/
def State.loopStep (s : State) (n : Nat) : State :=
  let st := s.rd Reg.LP_STAT_STATE n
  if st = 0 then s
  else if s.loopGone n then (s.loopKeep n).loopToOpen n 4 .refusedState 0x1003
  else if st = 2 && s.loopHeld n then ((s.wr Reg.LP_STAT_STATE n 3).loopCount n 5).loopEvent n 0x85 1
  else if st = 3 && !s.loopHeld n && s.loopDriven n then
    ((s.wr Reg.LP_STAT_STATE n 2).modLoop n fun l => { l with first := true }).loopEvent n 0x85 0
  else s

/-- Every loop follows its object. -/
def State.follow (s : State) : State := (List.range 48).foldl State.loopStep s

/-! ### The control law (R478) -/

/-- A stage saturated: its sticky flag, SATCNT, ARITH_SAT when the flag was 0 (R476, R477). -/
def State.loopSat (s : State) (n k : Nat) (sat : Bool) : State :=
  if !sat then s
  else
    let v := s.rd Reg.LP_FLAGS n
    let s := (s.bump Reg.LP_FLAGS_SATCNT n).loopCount n 4
    if bit v k then s else (s.wr Reg.LP_FLAGS n (setBit v k)).raiseFault 0x1086 (lpObj n) ((s.wr Reg.LP_FLAGS n (setBit v k)).loopData n 0)

/-- An invalid sample (R478, R479, R489). -/
def State.loopMiss (s : State) (n : Nat) : State :=
  let m := s.rd Reg.LP_SATT_MISS n + 1
  let s := ((s.wr Reg.LP_SATT_MISS n (min 15 m)).wr Reg.LP_STAT_FBVALID n 0).loopCount n 3
  if s.rd Reg.LP_CFG0_FBMISS n + 1 ≤ m then
    let s := s.loopCount n 2
    if s.rd Reg.LP_STAT_STATE n = 1 then s.loopToOpen n 3 .faulted 0x1010
    else
      let s := if s.flag Reg.LP_FLAGS_FBLOST n then s else (s.wr Reg.LP_FLAGS_FBLOST n 1).raiseFault 0x1084 (lpObj n) ((s.wr Reg.LP_FLAGS_FBLOST n 1).loopData n 0)
      (s.loopMode n (s.rd Reg.LP_CFG1_POL n)).loopToOpen n 3 .done 0
  else s

/-- The numbers that a valid sample computes. -/
structure Law where
  fb    : Int
  speff : Int
  integ : Int
  out   : Int
  outsat : Bool
  /-- every saturation, by its stage: SAT_FB, SAT_SP, SAT_E, SAT_P, SAT_I, SAT_D, SAT_FF, SAT_SUM -/
  sats  : List Nat
  deriving DecidableEq, Repr

/-- A sum of terms, and how many of its additions saturate. -/
def qSum (xs : List Int) : Int × Nat := xs.foldl (fun a x => let r := qSat (a.1 + x); (r.1, if r.2 then a.2 + 1 else a.2)) (0, 0)

/-- The stage's entry for an operation that saturates. -/
def satOf (k : Nat) (b : Bool) : List Nat := if b then [k] else []

/-- The steps of R478 for a valid feedback `raw`; `fbprev`, `speff0` and `integ0` are held from the sample before. -/
def law (raw sp rise fall kp ki kd kf fofs omin omax fbprev speff0 integ0 : Int) (den : Bool) : Law :=
  let f := qSat raw
  let fb := f.1
  let up := qSat (speff0 + rise)
  let dn := qSat (speff0 - fall)
  let speff := if sp > speff0 then min sp up.1 else if sp < speff0 then max sp dn.1 else speff0
  let satSp := (decide (sp > speff0) && up.2) || (decide (sp < speff0) && dn.2)
  let e := qSat (speff - fb)
  let p := qMul kp e.1
  let ff0 := qMul kf speff
  let ff := qSat (ff0.1 + fofs)
  let dd := qSat (fbprev - fb)
  let d := if den then qMul kd dd.1 else (0, false)
  let i0 := qMul ki e.1
  let ic := qSat (integ0 + i0.1)
  let u0 := qSum [ff.1, p.1, ic.1, d.1]
  let ic' := if u0.1 > omax ∧ ic.1 > integ0 then integ0 else if u0.1 < omin ∧ ic.1 < integ0 then integ0 else ic.1
  let u1 := qSum [ff.1, p.1, ic', d.1]
  let hi := decide (u1.1 ≥ omax)
  let u2 := if hi then omax else u1.1
  let lo := decide (u2 ≤ omin)
  let out := if lo then omin else u2
  { fb, speff, integ := ic', out, outsat := hi || lo
    sats := satOf 0 f.2 ++ satOf 1 satSp ++ satOf 2 e.2 ++ satOf 3 p.2 ++ satOf 4 i0.2 ++ satOf 4 ic.2 ++ satOf 5 (den && dd.2) ++ satOf 5 d.2
      ++ satOf 6 ff0.2 ++ satOf 6 ff.2 ++ List.replicate (u0.2 + u1.2) 7 }

/-- LOOP_CLOSE reaches its outcome when the object first uses the output (R473, R481): at its next period start. -/
def State.loopOutcome (s : State) (n : Nat) (c : Cmd) : State :=
  (s.modLoop n fun l => { l with cmd := none }).modObj (s.loopObj n) fun x => { x with chg := x.chg ++ [c] }

/-- A valid sample of a CLOSING or CLOSED loop (R478, R482, R489, R491). -/
def State.loopValid (s : State) (n : Nat) (raw : Int) : State :=
  let l := s.loop n
  let closing := s.rd Reg.LP_STAT_STATE n == 1
  let fb0 := (qSat raw).1
  let speff0 := if l.first then fb0 else s.q Reg.LP_SPEFF n
  let prev := if l.first then fb0 else sgn 32 l.fbprev
  let integ0 := if !closing then s.q Reg.LP_INTEG n
    else if l.bumpless then (qSat ((qSat (s.loopSetting n - (qMul (s.q Reg.LP_KF n) fb0).1)).1 - s.q Reg.LP_FOFS n)).1 else 0
  let r := law raw (s.q Reg.LP_SP n) (s.q Reg.LP_RISE n) (s.q Reg.LP_FALL n) (s.q Reg.LP_KP n) (s.q Reg.LP_KI n) (s.q Reg.LP_KD n)
    (s.q Reg.LP_KF n) (s.q Reg.LP_FOFS n) (s.q Reg.LP_OUTMIN n) (s.q Reg.LP_OUTMAX n) prev speff0 integ0 (s.flag Reg.LP_CFG1_DEN n)
  let run := if r.outsat then l.satRun + 1 else 0
  let us := run * s.rd Reg.LP_CFG1_PERIOD n
  let s := (((s.wq Reg.LP_FB n r.fb).wq Reg.LP_SPEFF n r.speff).wq Reg.LP_INTEG n r.integ).wq Reg.LP_OUT n r.out
  let s := (((s.wrb Reg.LP_STAT_OUTSAT n r.outsat).wr Reg.LP_STAT_FBVALID n 1).wr Reg.LP_SATT_MISS n 0).wr Reg.LP_SATT_SATT n (min 0xFFFF (us / 10000))
  let s := s.modLoop n fun l => { l with first := false, fbprev := unsgn 32 r.fb, validNt := s.ntime, satRun := run }
  let s := r.sats.foldl (fun s k => s.loopSat n k true) s
  let s := if r.outsat then s.flagSet Reg.LP_FLAGS_OUTLIM n 0x10 (0xC08 + 16 * n) 8 else s
  let s := s.loopApply n r.out
  if closing then
    let s := (s.wr Reg.LP_STAT_STATE n 2).wr Reg.LP_STAT_EVER n 1
    let s := s.loopEvent n 0x81 0
    match l.cmd with
    | some c => (s.begin c).loopOutcome n c
    | none => s
  else
    let t := s.rd Reg.LP_CFG1_TSAT n
    if t ≠ 0 ∧ t * 100000 ≤ us then
      let s := s.loopCount n 1
      let s := if s.flag Reg.LP_FLAGS_SATTO n then s.loopEvent n 0x83 0
        else (s.wr Reg.LP_FLAGS_SATTO n 1).raiseFault 0x1083 (lpObj n) ((s.wr Reg.LP_FLAGS_SATTO n 1).loopData n 0)
      (s.loopMode n (s.rd Reg.LP_CFG1_POL n)).loopToOpen n 2 .done 0
    else s

/-- Every loop opens with a reason, its STAT and results return to their reset values but for EVER (R492). -/
def State.loopsOpen (s : State) (reason : Nat) : State :=
  (List.range 48).foldl (fun s n =>
    let was := s.rd Reg.LP_STAT_STATE n
    let s := if was = 0 then s else s.loopKeep n
    let s := s.rstFields [Reg.LP_STAT_STATE, Reg.LP_STAT_OUTSAT, Reg.LP_STAT_FBVALID, Reg.LP_FB, Reg.LP_OUT, Reg.LP_SPEFF, Reg.LP_INTEG, Reg.LP_FLAGS,
      Reg.LP_FLAGS_OUTLIM, Reg.LP_FLAGS_SATTO, Reg.LP_FLAGS_FBLOST, Reg.LP_FLAGS_SATCNT, Reg.LP_SATT_SATT, Reg.LP_SATT_MISS] n
    let s := s.modLoop n fun l => { l with cmd := none, first := true, satRun := 0 }
    if was = 0 then s else s.loopToOpen n reason .abortedReset 0) s

/-! ### Drive messages (R698) -/

def State.tw (s : State) (f : TwinState → TwinState) : State := { s with twin := f s.twin }
def State.twSt (s : State) : Nat := s.rd Reg.TW_STAT_STATE
def State.twRole (s : State) : Nat := s.rd Reg.TW_STAT_ROLE
def State.reed (s : State) (m : ReedMsg) : State := if s.pwr.refPresent then s.tw fun t => { t with sent := m :: t.sent } else s

/-- The target that an object has now. -/
def State.targetNow (s : State) (o : Nat) : TwTarget :=
  let n := objNum o
  let on := (s.obj o).target
  match kindOf o with
  | .sv => { kind := if on = 0 then 0 else 3, level := s.svSetMa n }
  | .ld => { kind := if on = 0 then 0 else 1, duty := s.setDuty o, level := s.rd Reg.LD_CFG0_ISET n }
  | _ => { kind := on, duty := s.chDuty o }

/-- Mode of a paired object, by record index (R682). -/
def State.twMode (s : State) (p : Nat) : Nat := if p < 92 then s.rd Reg.TW_OBJ_MODE p else 0
/-- Record indices of the paired objects of a mode, in ascending order of object ID; 0 for every mode. -/
def State.pairs (s : State) (mode : Nat) : List Nat := recOrder.filter fun p => let m := s.twMode p; m != 0 && (mode == 0 || m == mode)

/-- The Lead sends a drive message for a shared-drive object whose target has changed, for the edge 16 µs after service. -/
def State.driveMsg (s : State) (p : Nat) : State :=
  let o := recObj p
  let t := s.targetNow o
  if s.rd Reg.TW_OBJ_MODE p ≠ 2 ∨ tget {} s.twin.driven o = t then s
  else (s.tw fun x => { x with driven := tput x.driven o t }).reed (.drive { obj := o, target := t, edge := s.ntime + 16000 })

def State.drives (s : State) : State := if s.twSt = 3 then (List.range 76).foldl State.driveMsg s else s

/-! ### Takeover targets (R713, R717) -/

/-- An object's target as command `c` leaves it. -/
def TwTarget.after (t : TwTarget) (c : Cmd) : TwTarget :=
  match objKind c.object with
  | some (.sv, _) =>
    if c.op = 0x2001 then { t with kind := 0 } else if c.op = 0x2002 then { t with kind := 3 }
    else if c.op = 0x2003 then { t with level := c.arg 16 2 * 10 } else t
  | some (.ld, _) =>
    let iset := if c.arg 18 2 = 0 then t.level else c.arg 18 2
    if c.op = 0x2001 then { t with kind := 0 } else if c.op = 0x2002 then { kind := 1, duty := c.arg 16 2, level := iset }
    else if c.op = 0x2003 then { t with duty := c.arg 16 2, level := iset } else t
  | _ =>
    if c.op = 0x2001 then { t with kind := 0 } else if c.op = 0x2002 then { t with kind := 1, duty := 65535 }
    else if c.op = 0x2003 then { t with kind := 2, duty := c.arg 16 2 } else t

/-- A command is to the object, or to a loop bound to it. -/
def State.aimsAt (s : State) (o : Nat) (c : Cmd) : Bool :=
  match objKind c.object with | some (.loop, n) => s.loopBound n && s.loopObj n == o | _ => c.object == o

/-- The loop is not OPEN; at the Shadow, by the image's record. -/
def State.loopRuns (s : State) (n : Nat) : Bool :=
  if s.twRole = 2 then (match s.twin.active with | some i => i.loops.any fun r => r.loop == n && r.stat != 0 | none => false)
  else s.rd Reg.LP_STAT_STATE n != 0

/-- An object's target as a command to it, or to its loop, leaves it: a LOOP_OPEN may switch the object off or give it the loop's fixed output (R490). -/
def State.targetAfter (s : State) (t : TwTarget) (c : Cmd) : TwTarget :=
  match objKind c.object with
  | some (.loop, n) =>
    if c.op ≠ 0x2001 ∨ c.argBits 16 0 2 = 0 ∨ s.loopRuns n = false then t
    else if 2 ≤ c.argBits 16 0 2 then { t with kind := 0 }
    else
      let lv := s.loopLevel n (s.q Reg.LP_OFIX n)
      (match s.rd Reg.LP_CFG0_KIND n with
      | 5 => { t with kind := 2, duty := lv } | _ => { t with level := lv })
  | _ => t.after c

/-- The target of an object once every command taken up for it has taken effect (R713). -/
def State.targetOf (s : State) (o : Nat) : TwTarget :=
  (s.host.inflight.filter fun r => s.aimsAt o r.cmd && r.cmd.op / 4096 == 2).foldl (fun t r => s.targetAfter t r.cmd) (s.targetNow o)

/-- LASTSEQ of a ring in an image; 0 where it has none. -/
def Image.last (i : Image) (pf ring : Nat) : Option Nat := (i.seqs.find? fun p => p.1 == 32 * pf + ring).map (·.2)

/-- The image covers the command: its SEQ is at or below its ring's LASTSEQ (R715). -/
def Image.covers (i : Image) (c : Cmd) : Bool := match i.last c.pf c.ring with | some l => !seqNewer c.seq l | none => false

/-- Journal entries whose command is still in flight, in ring order: function, then ring number, ascending (R719). -/
def State.journalOrder (s : State) : List JEntry :=
  let es := s.twin.journal.filter fun e => (s.flight e.cmd).isSome
  sortBy (fun (a b : JEntry) => decide (32 * a.cmd.pf + a.cmd.ring ≤ 32 * b.cmd.pf + b.cmd.ring)) es

/-- Takeover target of an object (R717). -/
def State.takeTarget (s : State) (o : Nat) : TwTarget :=
  match s.twin.active with
  | none => {}
  | some i =>
    let t0 : TwTarget := match i.objs.find? fun r => r.obj == o with | some r => r.target | none => {}
    (s.journalOrder.filter fun e => s.aimsAt o e.cmd && !i.covers e.cmd).foldl (fun t e => s.targetAfter t e.cmd) t0

/-- The Shadow's claims for hot-standby objects whose target is on, and BST for those in HOLD (R695, R696). -/
def State.standbyClaims (s : State) : State :=
  (s.pairs 1).foldl (fun s p =>
    let o := recObj p
    let t := s.takeTarget o
    if !s.flag Reg.TW_OBJ_STBY p || s.isOn o then s
    else if t.kind = 0 then
      (if (s.load o).on then (s.setLoad o { s.load o with on := false, stand := [], limp := false }).showUse else s)
    else
      let r := match s.twin.active with | some i => i.objs.find? fun (r : ImgObj) => r.obj == o | none => none
      let ma := match r with | some r => r.cur * 10 | none => 0
      let cls := match r with | some r => r.cls | none => 3
      let s := (s.setLoad o { s.load o with on := true, cls, stand := objClaims o ma 0, trans := [], inTrans := false, limp := true }).showUse
      if isKind .sv o && t.kind == 3 && s.st bstObj == 0 && !(s.obj bstObj).asked then s.submitOwn (s.bstOwn 0 (.limp 0)) else s) s

/-- What the Shadow keeps ready for its targets (R695, R696). -/
def State.shadows (s : State) : State := if s.twRole = 2 then s.standbyClaims else s

/-- What may move an output object beside the row itself: orphan policies that have fallen due, the loops, drive messages, the
claims of standby objects. -/
def State.moves (s : State) : State := s.settle.follow.chops.drives.shadows

/-- The step's completions are written; a write outside its function's ranges freezes it (R876), which moves objects again. -/
def State.deliverOnce (s : State) : State := let t := s.sendCpls; if t.host.viols.isEmpty then t else t.moves

/-- What every row ends with: the objects that it moves, then the completions, which its events precede (R119).  Each of the four functions freezes at
most once in a step. -/
def State.done (s : State) : State := Nat.repeat State.deliverOnce 5 s.moves

end Sys2Proof.Machine
end

