-- ==== Sys2Proof/Machine/Clamp.lean ====
section
/-!
DEFINITION. Sys2Proof/Machine/Clamp.lean: the range check of written fields, its order and its log (R134 to R138, R18, R941), with the locks and the
dependent ranges that the chapters give.
-/
namespace Sys2Proof.Machine

/-- Index of the register at `win`, `off` among the indices of a location. -/
def Loc.at (l : Loc) (win off : Nat) : Option Nat :=
  if l.win ≠ win ∨ off < l.off then none
  else
    let d := off - l.off
    let q := if l.stride2 = 0 then 0 else d / l.stride2
    let r := if l.stride2 = 0 then d else d % l.stride2
    let k := if l.stride = 0 then 0 else r / l.stride
    if (if l.stride = 0 then r = 0 else r % l.stride = 0) ∧ k < l.per ∧ q * l.per + k < l.cnt then some (l.first + q * l.per + k) else none

/-- Index of the register at `win`, `off`, when the field stands there. -/
def Field.at (f : Field) (win off : Nat) : Option Nat := f.locs.findSome? fun l => l.at win off

/-- Window and offset of the field at an index. -/
def Field.place (f : Field) (i : Nat) : Nat × Nat :=
  match f.locs.find? fun l => decide (l.first ≤ i ∧ i < l.first + l.cnt) with
  | some l => let k := i - l.first; (l.win, l.off + l.stride * (k % l.per) + l.stride2 * (k / l.per))
  | none => (0, 0)

/-- A field of a write: its index, where it stands (the offset of its register, or of its word in a descriptor, R141) and the value asked for. -/
structure Put where
  f   : Field
  i   : Nat
  off : Nat
  v   : Nat

/-- The fields of one register, lowest bit first. -/
def fieldsAt (win off : Nat) : List (Field × Nat) :=
  sortBy (fun a b => decide (a.1.lo ≤ b.1.lo)) ((Reg.byWindow win).filterMap fun f => match f.at win off with | some i => some (f, i) | none => none)

/-- The RW fields of a word written at `win`, `off`; reserved bits carry nothing (R18). -/
def putsOf (win off word : Nat) : List Put :=
  (fieldsAt win off).filterMap fun p => if p.1.acc = .rw then some { f := p.1, i := p.2, off, v := bits word p.1.lo p.1.width } else none

/-- Field `f` is one of `fs`. -/
def Field.isIn (f : Field) (fs : List Field) : Bool := fs.any fun g => g.id == f.id

/-- Values that the fields of the present write have taken so far: field, index, value. -/
abbrev Done := List (Nat × Nat × Nat)

/-- The value of a field that another field's range depends on (R134). -/
def State.look (s : State) (dn : Done) (f : Field) (i : Nat := 0) : Nat :=
  match dn.find? fun d => d.1 == f.id && d.2.1 == i with | some d => d.2.2 | none => s.rd f i

/-! ### Fields that keep their present value -/

/-- The loop fields that R486 locks. -/
def lpLocked : List Field :=
  [Reg.LP_CFG0_KIND, Reg.LP_CFG0_FBSRC, Reg.LP_CFG0_FBIDX, Reg.LP_CFG0_FBMISS, Reg.LP_CFG0_OBJECT, Reg.LP_CFG1_PERIOD, Reg.LP_CFG1_DEN, Reg.LP_CFG1_POL,
   Reg.LP_CFG1_TSAT, Reg.LP_KP, Reg.LP_KI, Reg.LP_KD, Reg.LP_KF, Reg.LP_FOFS, Reg.LP_OUTMIN, Reg.LP_OUTMAX, Reg.LP_OFIX]

/-- CFG0 to CFG3 of a channel. -/
def chCfg : List Field :=
  [Reg.CH_CFG0_ILIM, Reg.CH_CFG0_ILIM_INR, Reg.CH_CFG0_TLIM, Reg.CH_CFG0_TSCB, Reg.CH_CFG1_NRETRY, Reg.CH_CFG1_TOFF, Reg.CH_CFG1_TLIM_INR,
   Reg.CH_CFG1_TLATCH, Reg.CH_CFG1_DT_OFF, Reg.CH_CFG1_DT_HYS, Reg.CH_CFG2_PER, Reg.CH_CFG2_PHASE, Reg.CH_CFG2_SLEW, Reg.CH_CFG3_PARSZ]

def lhRec : List Field :=
  [Reg.LH_LHR0_LSRC, Reg.LH_LHR0_LSTATE, Reg.LH_LHR0_EXEMPT, Reg.LH_LHR0_LINV, Reg.LH_LHR0_LDUTY, Reg.LH_LHR0_HOLDW, Reg.LH_LHR0_ORPH,
   Reg.LH_LHR0_DBGPOL, Reg.LH_LHR0_PAIRED]

/-- The CAN settings that R543 locks. -/
def canLocked : List Field :=
  [Reg.CAN_CTL_FMT, Reg.CAN_NBT_NBRP, Reg.CAN_NBT_NTSEG1, Reg.CAN_NBT_NTSEG2, Reg.CAN_NBT_NSJW, Reg.CAN_DBT_DBRP, Reg.CAN_DBT_DTSEG1,
   Reg.CAN_DBT_DTSEG2, Reg.CAN_DBT_DSJW, Reg.CAN_XBT_DBRP, Reg.CAN_XBT_DTSEG1, Reg.CAN_XBT_DTSEG2, Reg.CAN_XBT_DSJW, Reg.CAN_TDC_TDCEN,
   Reg.CAN_TDC_TDCO, Reg.CAN_TDC_XTDCO, Reg.CAN_XCVR_MODE, Reg.CAN_XCVR_XLFAST]

def rxqLocked : List Field := [Reg.RXQ_BASE_LO_ADDR, Reg.RXQ_BASE_HI_ADDR, Reg.RXQ_CFG_LOG2SZ, Reg.RXQ_CFG_ENTSZ, Reg.RXQ_CFG_ALL]

/-- The wake settings that R677 locks in SLEEP. -/
def nmLocked : List Field :=
  [Reg.NM_SWID_SWID, Reg.NM_SWID_SWIDE, Reg.NM_SWMASK, Reg.NM_SWCTL_SWDLC, Reg.NM_SWDATA_LO, Reg.NM_SWDATA_HI, Reg.NM_CFG_ARM, Reg.NM_CFG_SWEN,
   Reg.NM_CFG_SWFD]

def linSlot : List Field := [Reg.LIN_SLOT_FID, Reg.LIN_SLOT_TYPE, Reg.LIN_SLOT_LENM1, Reg.LIN_SLOT_CKS, Reg.LIN_SLOT_DELAY]

def dmaRange : List Field :=
  [Reg.SEC_DMAW_BASE_LO_EN, Reg.SEC_DMAW_BASE_LO_ADDR, Reg.SEC_DMAW_BASE_HI, Reg.SEC_DMAW_LIM_LO_ADDR, Reg.SEC_DMAW_LIM_HI]

/-- Every RW field of window 1Dh but EN (R744). -/
def twLocked : List Field :=
  [Reg.TW_CFG_PREF, Reg.TW_CFG_OOBKIND, Reg.TW_CFG_OOBSEG, Reg.TW_CFG_OOBPER, Reg.TW_CYC_CYCLE, Reg.TW_OOBID_ID, Reg.TW_OOBID_IDE, Reg.TW_OOBID_TOP,
   Reg.TW_OOBDA_HI, Reg.TW_SOL_IGNSW, Reg.TW_SOL_IGNEN, Reg.TW_SOL_IGNDLY, Reg.TW_ISEL_FITLO, Reg.TW_ISEL_FITCNT, Reg.TW_CORE_BASE,
   Reg.TW_CORE_COUNT, Reg.TW_OBJ_MODE]

/-- The field keeps its present value, whatever is written: `src` is 0 for a setup write, 1 for a command's register image. -/
def State.fieldLocked (s : State) (pf src : Nat) (f : Field) (i : Nat) : Bool :=
  (f.isIn lhRec && (pf != 0 || s.flag Reg.LIMP_STAT_ACTIVE))
  || (src == 0 && f.isIn chCfg && s.chLeader i != i)
  || (f.isIn lpLocked && s.rd Reg.LP_STAT_STATE i != 0)
  || (f.isIn [Reg.LD_CFG0_ISET] && (match s.loopOn (ldObj i) with | some n => s.rd Reg.LP_CFG0_KIND n == 1 | none => false))
  || (f.isIn [Reg.SV_CFG0_IHOLD] && (match s.loopOn (svObj i) with | some n => s.rd Reg.LP_CFG0_KIND n == 2 | none => false))
  || (f.isIn canLocked && s.flag Reg.CAN_CTL_EN i)
  || (f.isIn rxqLocked && s.flag Reg.RXQ_CFG_EN i)
  || (f.isIn [Reg.TM_ID_ID, Reg.TM_ID_IDE] && s.flag Reg.TM_CFG_TMEN i)
  || (f.isIn [Reg.LIN_CFG_ROLE, Reg.LIN_CFG_BAUD, Reg.LIN_CFG_V24] && s.flag Reg.LIN_CFG_EN i)
  || (f.isIn linSlot && s.rd Reg.LIN_STAT_STATE (i / 64) == 2 && s.rd Reg.LIN_STAT_TABLE (i / 64) == i % 64 / 32)
  || (f.isIn [Reg.QBV_CFG_LEN, Reg.QBV_CYCLE, Reg.QBV_BASE_LO, Reg.QBV_BASE_HI] && s.flag Reg.QBV_CFG_EN i)
  || (f.isIn nmLocked && s.rd Reg.NM_STAT_STATE i == 4)
  || (f.isIn twLocked && s.flag Reg.TW_CFG_EN)
  || (f.isIn (Reg.SEC_DMALOCK_LOCK :: dmaRange) && s.flag Reg.SEC_DMALOCK_LOCK)

/-! ### Ranges that depend on other fields -/

/-- Present members of the group that channel `i` leads, and of the group that `v` would form. -/
def State.parFree (s : State) (i v : Nat) : Bool :=
  (List.range (max (parCount v) (parCount (s.rd Reg.CH_CFG3_PARSZ i)))).all fun k => s.st (chObj (i + k)) == 0

/-- PARSZ (R199, R200). -/
def State.parsz (s : State) (i v : Nat) : Nat :=
  let v := if v = 3 then 2 else v
  let v := if (v = 1 ∧ i % 2 ≠ 0) ∨ (v = 2 ∧ i % 4 ≠ 0) then 0 else v
  if v = s.rd Reg.CH_CFG3_PARSZ i ∨ s.parFree i v then v else s.rd Reg.CH_CFG3_PARSZ i

/-- A legal MODE for half-bridge `n` (R434). -/
def State.hbModeIn (s : State) (n v : Nat) : Nat :=
  if n % 2 = 1 then 0
  else if (n = 2 ∨ n = 10) ∧ s.rd Reg.HB_CFG0_MODE (n - 2) = 3 then 0
  else if v = 3 ∧ n ≠ 0 ∧ n ≠ 8 then 1 else v

/-- Every channel of the old and of the new group is OFF (R435). -/
def State.hbFree (s : State) (n v : Nat) : Bool :=
  (List.range (max (hbCount v) (hbCount (s.rd Reg.HB_CFG0_MODE n)))).all fun k => s.st (hbObj (n + k)) == 0

def State.hbMode (s : State) (n v : Nat) : Nat :=
  let v := s.hbModeIn n v
  if v = s.rd Reg.HB_CFG0_MODE n ∨ s.hbFree n v then v else s.rd Reg.HB_CFG0_MODE n

/-- SUPSRC may change: MX and LD11 are OFF (R363). -/
def State.mxFree (s : State) : Bool := s.st mxObj == 0 && s.st (ldObj 11) == 0

/-- Wetting current of WET in mA (R499). -/
def wetMa : Nat → Nat | 1 => 2 | 2 => 10 | 3 => 15 | _ => 0

/-- Sum of the continuous wetting currents of the inputs but `i` (R501). -/
def State.wetSum (s : State) (i : Nat) : Nat :=
  ((List.range 64).map fun k => if k = i ∨ s.flag Reg.SW_CFG0_SAMPLED k then 0 else wetMa (s.rd Reg.SW_CFG0_WET k)).foldl (· + ·) 0

/-- ILIM of an isolated input in units of 10 µA (R516). -/
def iiIlim : Nat → Nat | 0 => 100 | 1 => 200 | _ => 400

/-- Image size of R711, in bytes. -/
def imageSize (objs loops fit words : Nat) : Nat := 3840 + 32 * objs + 64 * loops + 16 * fit + 2 * words

/-- Transfer time of R706 in ns, for a rate in 0.1 Gbit/s. -/
def xferNs (size rate : Nat) : Nat := ceilDiv (size * 80) rate + 15000

/-- Object ID of entry `p` of TW_OBJ (R744). -/
def twObj (p : Nat) : Nat := recObj p
/-- Objects with a mode other than 00b, entry `p` reading `v`. -/
def State.paired (s : State) (dn : Done) : List Nat := (List.range 92).filter fun p => s.look dn Reg.TW_OBJ_MODE p != 0

/-- SIZE as the write would leave it (R711). -/
def State.sizeWith (s : State) (dn : Done) : Nat :=
  let ps := s.paired dn
  let ls := (List.range 48).filter fun n => s.loopBound n && ps.any fun p => twObj p == s.loopObj n
  imageSize ps.length ls.length (s.look dn Reg.TW_ISEL_FITCNT) (((List.range 4).map fun c => s.look dn Reg.TW_CORE_COUNT c).foldl (· + ·) 0)

/-- R707 keeps the present value. -/
def State.sizeBad (s : State) (dn : Done) : Bool :=
  let z := s.sizeWith dn
  let rate := if s.rd Reg.GLB_PACE_CUR = 0 then 152 else 200
  decide (524288 < z) || decide (s.look dn Reg.TW_CYC_CYCLE * 500 < xferNs z rate)

/-- A value of an image field, or the present value when R707 refuses it. -/
def State.imageFit (s : State) (dn : Done) (f : Field) (i v : Nat) : Nat :=
  if s.sizeBad ((f.id, i, v) :: dn) then s.rd f i else v

/-- PRSV of the other ports (R607). -/
def State.rsvOthers (s : State) (i : Nat) : Nat :=
  ((List.range 10).map fun k => if k = i then 0 else s.rd Reg.ETH_RSV_PRSV k).foldl (· + ·) 0
/-- Cells of R606 that belong to no port. -/
def rsvFixed : Nat := 8192 + 16 * 68 + 8 * 4 + 2048

/-- A 29-bit identifier without IDE keeps its lowest 11 bits. -/
def stdId (ide v : Nat) : Nat := if ide = 0 then v % 2048 else v

/-- The output range of a loop's KIND as the write leaves it (R467, R468). -/
def State.lpRange (s : State) (dn : Done) (n : Nat) : Int × Int :=
  let o := s.look dn Reg.LP_CFG0_OBJECT n
  match s.look dn Reg.LP_CFG0_KIND n with
  | 0 => (qMin, qMax)
  | 1 => (1311, 131072)
  | 2 => (3277, ((s.rd Reg.SV_CFG0_IPK (objNum o) * 25 * 65536 / 1000 : Nat) : Int))
  | _ => (0, 65536)

/-- Channels, converters and drives. -/
def State.clampOut (s : State) (dn : Done) (f : Field) (i v : Nat) : Option Nat :=
  let lk := fun (f : Field) (i : Nat) => s.look dn f i
  if f.id = Reg.CH_CFG0_ILIM.id then some (clampNat (ilimLo i) (s.chIlimHi i) v)
  else if f.id = Reg.CH_CFG0_ILIM_INR.id then some (clampNat (lk Reg.CH_CFG0_ILIM i) (s.chIlimHi i) v)
  else if f.id = Reg.CH_CFG1_DT_HYS.id then some (clampNat 5 (min 30 (lk Reg.CH_CFG1_DT_OFF i - 10)) v)
  else if f.id = Reg.CH_CFG3_PARSZ.id then some (s.parsz i v)
  else if f.id = Reg.DG_DCFG0_IOL.id then some (if lk Reg.DG_DCFG0_FINE i = 1 then clampNat 2 100 v else max 1 v)
  else if f.id = Reg.ARB_UV_VS_UV0.id then some (clampNat 0x18 (lk Reg.ARB_UV_VS_DIM i - 4) v)
  else if f.id = Reg.ARB_UV_VS_UV.id then some (clampNat (lk Reg.ARB_UV_VS_UV0 i) (lk Reg.ARB_UV_VS_DIM i - 4) v)
  else if f.id = Reg.LD_CFG2_VLO.id then some (clampNat (lk Reg.LD_CFG2_VSHORT i + 4) (lk Reg.LD_CFG2_VOVP i - 4) v)
  else if f.id = Reg.LD_CFG3_ISOLO.id then some (if v < 10 then 0 else clampNat 20 2000 v)
  else if f.id = Reg.MX_CFG0_BLANK.id then some (clampNat 0 (min 20 (lk Reg.MX_CFG0_LINE i - 20)) v)
  else if f.id = Reg.MX_CFG0_SUPSRC.id then some (if v = s.rd f i ∨ s.mxFree then v else s.rd f i)
  else if f.id = Reg.SV_CFG0_IHOLD.id then some (clampNat 5 (min 400 (lk Reg.SV_CFG0_IPK i * 25 / 10)) v)
  else if f.id = Reg.SV_CFG3_FWHI.id then
    some (clampNat (lk Reg.SV_CFG3_FWLO i + 1) ((lk Reg.SV_CFG1_TBST i * 10 + lk Reg.SV_CFG1_TPK i * 100) / 50) v)
  else if f.id = Reg.BST_CFG1_VFLOOR.id then some (clampNat 40 (lk Reg.BST_CFG_VSET i - 4) v)
  else if f.id = Reg.HB_CFG0_MODE.id then some (s.hbMode i v)
  else if f.id = Reg.HB_CFG1_ISTALL.id then some (clampNat 4 (lk Reg.HB_CFG0_ILIM i) v)
  else if f.id = Reg.LH_LHR0_PAIRED.id then some (if i < 92 then b2n (s.rd Reg.TW_OBJ_MODE i != 0) else 0)
  else none

/-- Loops and inputs. -/
def State.clampIn (s : State) (dn : Done) (f : Field) (i v : Nat) : Option Nat :=
  let lk := fun (f : Field) (i : Nat) => s.look dn f i
  let r := s.lpRange dn i
  let q := fun (lo hi : Int) => some (unsgn 32 (clampInt lo hi (sgn 32 v)))
  if f.id = Reg.LP_OUTMIN.id then q r.1 r.2
  else if f.id = Reg.LP_OUTMAX.id then q (max r.1 (sgn 32 (lk Reg.LP_OUTMIN i))) r.2
  else if f.id = Reg.LP_OFIX.id then q r.1 r.2
  else if f.id = Reg.LP_RISE.id then q 1 qMax
  else if f.id = Reg.LP_FALL.id then q 1 qMax
  else if f.id = Reg.SW_CFG0_THRLO.id then some (clampNat 2 (lk Reg.SW_CFG0_THRHI i - 2) v)
  else if f.id = Reg.SW_CFG0_SAMPLED.id then
    some (if v = 0 ∧ lk Reg.SW_CFG0_WET i ≠ 0 ∧ 10 < s.wetSum i + wetMa (lk Reg.SW_CFG0_WET i) then 1 else v)
  else if f.id = Reg.SW_CFG1_SPER.id then some (clampNat (if lk Reg.SW_CFG0_SAMPLED i = 1 then 0x32 else 1) 200 v)
  else if f.id = Reg.II_CFG0_THRLO.id then some (clampNat 4 (lk Reg.II_CFG0_THRHI i - 4) v)
  else if f.id = Reg.II_CFG1_WBTH.id then some (clampNat 5 (if lk Reg.II_CFG0_MODE i = 0 then min 100 (iiIlim (lk Reg.II_CFG0_ILIM i) / 2) else 100) v)
  else none

/-- The settings of CAN channel `i` are inside the limits of R544; bit times count TB2 periods (R541). -/
def State.canTimingOk (s : State) (dn : Done) (i : Nat) : Bool :=
  let lk := fun (f : Field) => s.look dn f i
  let n := lk Reg.CAN_NBT_NBRP * (1 + lk Reg.CAN_NBT_NTSEG1 + lk Reg.CAN_NBT_NTSEG2)
  let d := lk Reg.CAN_DBT_DBRP * (1 + lk Reg.CAN_DBT_DTSEG1 + lk Reg.CAN_DBT_DTSEG2)
  let x := lk Reg.CAN_XBT_DBRP * (1 + lk Reg.CAN_XBT_DTSEG1 + lk Reg.CAN_XBT_DTSEG2)
  let m := lk Reg.CAN_XCVR_MODE
  decide (80 ≤ n) && (lk Reg.CAN_CTL_FMT == 0 || decide ((if m = 3 then 10 else 40) ≤ d))
  && (lk Reg.CAN_CTL_FMT != 2 || decide ((if lk Reg.CAN_XCVR_XLFAST = 1 then 4 else 8) ≤ x)) && decide (2 ≤ m ∧ m ≤ 4)

/-- Networks, twin pair, cores, security. -/
def State.clampNet (s : State) (dn : Done) (pf : Nat) (f : Field) (i v : Nat) : Option Nat :=
  let lk := fun (f : Field) (i : Nat) => s.look dn f i
  if f.id = Reg.CAN_CTL_EN.id then some (if v = 1 ∧ s.rd f i = 0 ∧ !s.canTimingOk dn i then 0 else v)
  else if f.id = Reg.RXQ_CFG_ENTSZ.id then some (if i < 24 then min 2 v else v)
  else if f.id = Reg.CAN_NBT_NSJW.id then some (clampNat 1 (lk Reg.CAN_NBT_NTSEG2 i) v)
  else if f.id = Reg.CAN_DBT_DSJW.id then some (clampNat 1 (lk Reg.CAN_DBT_DTSEG2 i) v)
  else if f.id = Reg.CAN_XBT_DSJW.id then some (clampNat 1 (lk Reg.CAN_XBT_DTSEG2 i) v)
  else if f.id = Reg.TM_ID_ID.id then some (stdId (lk Reg.TM_ID_IDE i) v)
  else if f.id = Reg.ACC_RELID_ID.id then some (stdId (lk Reg.ACC_RELID_IDE i) v)
  else if f.id = Reg.NM_KAID_ID.id then some (if i < 16 then stdId (lk Reg.NM_KAID_IDE i) v else v)
  else if f.id = Reg.NM_CFG_PARENT.id then some (if v < 16 ∨ (24 ≤ v ∧ v ≤ 33) then v else i)
  else if f.id = Reg.NM_TIME_KAPER.id then some (clampNat 1 (min 255 (lk Reg.NM_TIME_TKA i / 4)) v)
  else if f.id = Reg.LIN_SLOT_TYPE.id then some (if v = 3 ∧ s.rd Reg.LIN_CFG_ROLE (i / 64) = 0 then 0 else v)
  else if f.id = Reg.ETH_RSV_PRSV.id then
    some (clampNat (4 * ceilDiv (lk Reg.ETH_PCFG_MAXFRM i) 128) (32768 - rsvFixed - s.rsvOthers i) v)
  else if f.id = Reg.GPTP_CFG_SYNCLOG.id then some (unsgn 4 (clampInt (-5) 0 (sgn 4 v)))
  else if f.id = Reg.TW_CFG_OOBKIND.id then some (if v = 2 then 2 else 1)
  else if f.id = Reg.TW_CFG_OOBSEG.id then some (if lk Reg.TW_CFG_OOBKIND i = 2 then clampNat 24 33 v else clampNat 0 15 v)
  else if f.id = Reg.TW_OOBID_ID.id then some (if s.rd Reg.TW_CFG_OOBKIND = 2 then v else stdId (lk Reg.TW_OOBID_IDE i) v)
  else if f.id = Reg.TW_ISEL_FITCNT.id then some (s.imageFit dn f i (min v (16384 - lk Reg.TW_ISEL_FITLO i)))
  else if f.id = Reg.TW_CORE_COUNT.id then some (s.imageFit dn f i (min v (32768 - lk Reg.TW_CORE_BASE i)))
  else if f.id = Reg.TW_OBJ_MODE.id then some (s.imageFit dn f i (if 2 ≤ v then (if 76 ≤ i then 1 else 2) else v))
  else if f.id = Reg.TW_CYC_CYCLE.id then some (s.imageFit dn f i (clampNat 250 2000 v))
  else if f.id = Reg.FIFE_CCFG_PF.id then some (if v = 0 ∧ pf ≠ 0 then s.rd f i else v)
  else if f.id = Reg.SEC_DBG_DBGMAX.id then some (min v (s.rd f i))
  else none

/-- A field whose range depends on other fields or on the module's state. -/
def State.clampDep (s : State) (dn : Done) (pf : Nat) (f : Field) (i v : Nat) : Nat :=
  match s.clampOut dn f i v with
  | some x => x
  | none =>
    match s.clampIn dn f i v with
    | some x => x
    | none => match s.clampNet dn pf f i v with | some x => x | none => v

/-- The value that a field takes. -/
def State.clampOne (s : State) (pf src : Nat) (dn : Done) (p : Put) : Nat :=
  if s.fieldLocked pf src p.f p.i then s.rd p.f p.i
  else
    match p.f.rng with
    | .any => p.v
    | .range lo hi => clampNat lo hi p.v
    | .above hi sub => if hi < p.v then sub else p.v
    | .dep => s.clampDep dn pf p.f p.i p.v

def Rng.isDep : Rng → Bool | .dep => true | _ => false

/-! ### A write -/

/-- Fields that a write checks again although it does not carry them: SPER with SW_CFG0 (R500, R501), the output limits with KIND (R468).  Their clamps
carry the register's offset, in a descriptor too, which does not hold them (DESIGN CHOICE, log entry 84). -/
def State.implied (s : State) (ps : List Put) : List Put :=
  ps.flatMap fun p =>
    let has := fun (f : Field) => ps.any fun q => q.f.id == f.id && q.i == p.i
    let again := fun (f : Field) => if has f then [] else [{ f, i := p.i, off := (f.place p.i).2, v := s.rd f p.i : Put }]
    if p.f.id = Reg.SW_CFG0_SAMPLED.id then again Reg.SW_CFG1_SPER
    else if p.f.id = Reg.LP_CFG0_KIND.id ∧ s.rd Reg.LP_STAT_STATE p.i = 0 then again Reg.LP_OUTMIN ++ again Reg.LP_OUTMAX ++ again Reg.LP_OFIX
    else []

/-- The fields of a write in the order of their checks, each with the value it takes (R134). -/
def State.clampAll (s : State) (pf src : Nat) (ps : List Put) : List (Put × Nat) :=
  let all := ps ++ s.implied ps
  let order := all.filter (fun p => !p.f.rng.isDep) ++ all.filter (fun p => p.f.rng.isDep)
  (order.foldl (fun (a : List (Put × Nat) × Done) p =>
    let v := s.clampOne pf src a.2 p % 2 ^ p.f.width
    (a.1 ++ [(p, v)], (p.f.id, p.i, v) :: a.2)) ([], [])).1

/-- The clamps of a write, as they enter the log. -/
def clampsOf (src pf tag obj : Nat) (r : List (Put × Nat)) : List ClampEntry :=
  (r.filter fun x => x.1.v != x.2).map fun x =>
    { offset := x.1.off, lsb := x.1.f.lo, width := x.1.f.width, src, pf, req := x.1.v, applied := x.2, tag, object := obj }

/-- What a field whose value was `old` moves elsewhere when it takes `v`: PAIRED with a mode (R683), the MODE of HB02 and HB10 (R434), the first sample
of a new temperature source (R346), VALID and LEVEL of an input (R503, R504). -/
def State.wrote (s : State) (p : Put) (old v : Nat) : State :=
  if p.f.id = Reg.TW_OBJ_MODE.id then s.wrb Reg.LH_LHR0_PAIRED p.i (v != 0)
  else if p.f.id = Reg.HB_CFG0_MODE.id ∧ v = 3 then s.wr Reg.HB_CFG0_MODE (p.i + 2) 0
  else if (p.f.id = Reg.LD_CFG3_TSRC.id ∨ p.f.id = Reg.LD_CFG3_TNTC.id) ∧ old ≠ v then s.modLed p.i fun l => { l with gSet := false }
  else if p.f.id = Reg.SW_CFG0_DEBN.id then (s.wr Reg.SW_STAT_VALID p.i 0).modSw p.i fun x => { x with run := 0 }
  else if p.f.id = Reg.II_CFG0_DEBN.id then (s.wr Reg.II_STAT_VALID p.i 0).modIi p.i fun x => { x with run := 0 }
  else if p.f.id = Reg.SW_CFG1_INV.id ∧ old ≠ v then (s.wr Reg.SW_STAT_LEVEL p.i (1 - s.rd Reg.SW_STAT_LEVEL p.i)).modSw p.i fun x => { x with changed := s.ntime }
  else if p.f.id = Reg.II_CFG0_INV.id ∧ old ≠ v then (s.wr Reg.II_STAT_LEVEL p.i (1 - s.rd Reg.II_STAT_LEVEL p.i)).modIi p.i fun x => { x with changed := s.ntime }
  else s

/-- The fields of a write take their values, and the clamps enter the log of window `w` (R135). -/
def State.putAll (s : State) (w src pf tag obj : Nat) (r : List (Put × Nat)) : State :=
  (r.foldl (fun s x => (s.wr x.1.f x.1.i x.2).wrote x.1 (s.rd x.1.f x.1.i) x.2) s).logClamps w (clampsOf src pf tag obj r)

/-- A register image that a command carries: bytes `k` on hold the words of the registers at `win`, `off` on (R941). -/
def imagePuts (c : Cmd) (win off n : Nat) (k : Nat := 16) : List Put :=
  (List.range n).flatMap fun j => (putsOf win (off + 4 * j) (c.arg (k + 4 * j) 4)).map fun p => { p with off := k + 4 * j }

/-- The image is written, and its clamps count for the command (R136). -/
def State.putImage (s : State) (c : Cmd) (win : Nat) (ps : List Put) : State :=
  let r := s.clampAll c.pf 1 ps
  let k := (clampsOf 1 c.pf c.tag c.object r).length
  (s.putAll win 1 c.pf c.tag c.object r).modFlight c fun x => { x with clamps := x.clamps + k }

/-- CONFIG_CLAMPED to the writing function's own ring (R137, R139), while die C starts too, when window 01h takes writes already (R821). -/
def State.clampEvent (s : State) (pf win first n : Nat) : State :=
  if n = 0 then s else s.deliver 0x0181 0xFFFF (atByte 16 win + atByte 17 first + atByte 18 n) s.ntime false [pf]

/-- The clamps of one setup write into window `w` are logged and reported (R135, R137, R138). -/
def State.logSetup (s : State) (w pf : Nat) (es : List ClampEntry) : State :=
  (s.logClamps w es).clampEvent pf w (tget ({} : ClampLog) s.flt.clogs w).next es.length

/-- A one-field clamp of a setup write. -/
def State.clampBit (s : State) (w pf offset lsb width req applied : Nat) : State :=
  s.logSetup w pf [{ offset, lsb, width, src := 0, pf, req, applied }]

end Sys2Proof.Machine
end

