-- ==== Sys2Proof/Machine/ChannelRows.lean ====
section
/-!
DEFINITION. Sys2Proof/Machine/ChannelRows.lean: the meanings of the HS and LS commands and events (R154 to R220).
-/
namespace Sys2Proof.Machine

/-- What every meaning answers. -/
abbrev Answered := Host.Outcome State Fault Refusal

/-- A command completes with the first refusal of `bars`, or `go` serves it. -/
def State.orElse (s : State) (c : Cmd) (bars : List (Option (Code × Nat))) (go : State → State) : State :=
  match firstBar bars with
  | some (k, e) => s.complete c k e
  | none => go s


/-- The index of the leader of a channel object. -/
def State.chIdx (s : State) (o : Nat) : Nat := s.chLeader (chIx o)

/-- The object is an HS or LS channel of a supplied power die. -/
def State.isCh (s : State) (o : Nat) : Bool := (isKind .hs o || isKind .ls o) && s.supplied o

/-! ### Commands -/

/-- R161: a duty whose on-time would be shorter than 4 µs, in steps of 10 ns. -/
def State.chMinDuty (s : State) (i duty : Nat) : Nat :=
  let per := s.rd Reg.CH_CFG2_PER i * 1000
  if duty = 0 ∨ 400 ≤ roundDiv (per * duty) 65535 then duty else min 65535 (ceilDiv (400 * 65535) per)

/-- The drain voltage measured before a gate drive of an LS channel, of every member of its group (R946). -/
def State.noteVd (s : State) (o vd : Nat) : State :=
  if isKind .ls o then (s.chMembers (s.chLeader (chIx o))).foldl (fun s m => s.modObj (chObj m) fun x => { x with vdrain := vd }) s else s

/-- A channel's switch-on command (R154 to R161, R207, R317): `inrByte` says where INR stands in the descriptor, `vd` is the drain voltage of R946.  A
duty rise is a demand whatever it claims (R156). -/
def State.chOnCmd (s : State) (c : Cmd) (target duty0 : Nat) (inrByte vd : Nat) : State :=
  let o := c.object
  let i := chIx o
  let hs := isKind .hs o
  let inr0 := c.argBits inrByte 0 1
  let duty := if target = 2 then s.chMinDuty i duty0 else 65535
  let same := s.isOn o && (s.obj o).target == target && (target == 1 || s.setDuty o == duty)
  s.orElse c [s.chMemberBar o, s.limpBar o, s.onBar o] fun s =>
    let s := if target = 2 then s.descClamp c (objWin o) 16 0 16 duty0 duty else s
    let s := if hs then s else s.descClamp c (objWin o) inrByte 0 1 inr0 0
    if same then (s.commanded o).complete c .done
    else
      s.orElse c [s.ovBar o, if target = 2 then s.loopBar o else none] fun s =>
        if s.isOn o then
          let old := s.chDuty o
          if target = 2 && decide (duty ≤ old) then s.chChange i target duty (some c)
          else s.submit (s.cmdDemand c (chKind target duty false true) (s.chStand i (duty - old)) [] 0)
        else
          let inr := hs && inr0 == 1
          let s := s.noteVd o vd
          s.submit (s.cmdDemand c (chKind target duty inr false) (s.chStand i duty)
            (if inr then s.chTrans i else []) (if inr then s.chTil i else 0))

/-- `OUT_OFF` (R154, R207, R211, R947). -/
def execOutOff (dt : Nat) (c : Cmd) (s : State) : Answered :=
  .next (s.serveOp dt c 0x2001 [.hs, .ls] fun s =>
    let o := c.object
    s.orElse c [s.chMemberBar o, s.limpBar o, if s.st o = 0 ∨ s.latched o then none else s.ovBar o] fun s =>
      (((s.begin c).chOff (chIx o)).commanded o).complete c .done).done

/-- `OUT_ON` (R154 to R158). -/
def execOutOn (dt : Nat) (c : Cmd) (vd : Nat) (s : State) : Answered :=
  .next (s.serveOp dt c 0x2002 [.hs, .ls] fun s => s.chOnCmd c 1 65535 16 vd).done

/-- `OUT_PWM` (R154 to R164). -/
def execOutPwm (dt : Nat) (c : Cmd) (vd : Nat) (s : State) : Answered :=
  .next (s.serveOp dt c 0x2003 [.hs, .ls] fun s => s.chOnCmd c 2 (c.arg 16 2) 18 vd).done

/-- A CLEAR_FAULT whose cause persists (R209, R793, R798). -/
def State.clearPersists (s : State) (c : Cmd) (sub : Nat) : State :=
  let o := c.object
  let p := faultPlace o
  (s.clearRefused (objWin o) p.1 p.2.1 p.2.2 c.pf o).complete c .refusedState sub

/-- `CLEAR_FAULT` (R208 to R210). -/
def execClearFault (dt : Nat) (c : Cmd) (s : State) : Answered :=
  .next (s.serveOp dt c 0x2004 [.hs, .ls] fun s =>
    let o := c.object
    let i := chIx o
    s.orElse c [s.chMemberBar o, s.limpBar o] fun s =>
      if !s.latched o then (s.commanded o).complete c .done
      else if !(s.chMembers i).all s.chGone then s.clearPersists c (objWin o * 256 + 3)
      else s.orElse c [s.ovBar o] fun s => (((s.begin c).chClear i).commanded o).complete c .done).done

/-- PARSZ of a CH_CONFIG would change while a channel of the group is not OFF (R200).  It is compared after its clamps (DESIGN CHOICE, log entry 81). -/
def State.parBar (s : State) (o v : Nat) : Option (Code × Nat) :=
  let i := chIx o
  let v := if v = 3 then 2 else v
  let v := if (v = 1 ∧ i % 2 ≠ 0) ∨ (v = 2 ∧ i % 4 ≠ 0) then 0 else v
  barIf (v != s.rd Reg.CH_CFG3_PARSZ i && !s.parFree i v) .refusedState (objWin o * 256 + 5)

/-- `CH_CONFIG` (R154, R200, R201, R941). -/
def execChConfig (dt : Nat) (c : Cmd) (s : State) : Answered :=
  .next (s.serveOp dt c 0x3001 [.hs, .ls] fun s =>
    let o := c.object
    let w := objWin o
    s.orElse c [s.chMemberBar o, s.parBar o (c.argBits 28 0 2)] fun s =>
      ((s.begin c).putImage c w (imagePuts c w (0x20 * objNum o) 4)).complete c .done).done

/-- `LEARN_RESET` (R198). -/
def execLearnReset (dt : Nat) (c : Cmd) (s : State) : Answered :=
  .next (s.serveOp dt c 0x3002 [.hs, .ls] fun s =>
    s.orElse c [s.chMemberBar c.object] fun s => ((s.begin c).rstField Reg.CH_OUT_TIL (chIx c.object)).complete c .done).done

/-- An on-demand check is taken up, which ends an orphan state (R267): at once where a latch holds the verdict, otherwise it waits for a
measurement (R240). -/
def State.checkCmd (s : State) (c : Cmd) : State :=
  let o := c.object
  let s := s.commanded o
  match (if s.latched o then latchVerdict (kindOf o) (s.causeOf o) else none) with
  | some v => s.complete c .faulted (verdictSub o v (s.causeOf o))
  | none => s.modObj o fun x => { x with checks := x.checks ++ [(c, s.now)] }

/-- `DIAG_CHECK` (R240, R241). -/
def execDiagCheck (dt : Nat) (c : Cmd) (s : State) : Answered :=
  .next (s.serveOp dt c 0x2005 [.hs, .ls] fun s => s.orElse c [s.chMemberBar c.object, s.limpBar c.object] fun s => s.checkCmd c).done

/-! ### Outcomes -/


/-- The output `v` of a channel that is on, 10 mV: within 10 % of the supply, or for LS the drain at or below 10 % of VDOFF (R154, R946). -/
def State.settled (s : State) (o v : Nat) : Bool :=
  if isKind .ls o then decide (10 * v ≤ (s.obj o).vdoff) else decide (9 * s.supply o ≤ 10 * v)

/-- `CH_OUTCOME_REACHED`: the output of an OUT_ON has settled, that of a channel at `o.v`, 10 mV (R154, R535, R946). -/
def execChOutcomeReached (dt : Nat) (o : Seen) (s : State) : Answered :=
  let s := s.tick dt
  .next (if s.isCh o.n && s.st o.n == 1 && (s.obj o.n).target == 1 && s.settled o.n o.v then
    let s := s.cmdDone o.n
    if (s.obj o.n).next.isNone then s.chgDone o.n else s
  else if isKind .io o.n && s.dieC && s.st o.n == 1 && decide (9 * s.rd Reg.BAR_VFLD_VFLD ≤ 10 * o.v) then s.cmdDone o.n
  else s).done

/-! ### Trips -/

/-- The object is on, in the states from which level 1 and level 2 trips act. -/
def State.chOn (s : State) (o : Nat) : Bool := s.isCh o && s.isOn o

/-- `OVERCURRENT_TRIP`: outside an inrush the limit dwell has reached TLIM (R165 to R167, R205). -/
def execOvercurrentTrip (dt o : Nat) (m : Meas) (s : State) : Answered :=
  let s := s.tick dt
  let t := s.measure o m
  let i := s.chIdx o
  .next (if s.isCh o && s.st o == 1 && decide (s.rd Reg.CH_CFG0_TLIM i * 10000 ≤ t.grpDwell i) then t.chTrip i .overcurrent 6 else s).done

/-- The output is below V_SHORT: under 1.5 V, or for LS the drain above 3.0 V (R168). -/
def belowShort (o : Nat) (m : Meas) : Bool := if isKind .ls o then decide (300 < m.vout) else decide (m.vout < 150)

/-- `SHORT_TRIP`: the channel has been in current limit with its output below V_SHORT for TSCB (R168, R169). -/
def execShortTrip (dt o : Nat) (m : Meas) (s : State) : Answered :=
  let s := s.tick dt
  let t := s.measure o m
  let i := s.chIdx o
  .next (if s.isCh o && s.inLimit o m && belowShort o m && decide (s.rd Reg.CH_CFG0_TSCB i * 10000 ≤ min m.held (s.now - (s.obj o).onAt)) then
    t.chTrip i .short 6 else s).done

/-- `CLAMP_EVENT_END` (R171, R173, R204, R409): `e` in 0.1 mJ; a recovering valve channel's drain clamp acts from VBMAX on. -/
def execClampEventEnd (dt o e : Nat) (s : State) : Answered :=
  let s := s.tick dt
  .next (if s.isCh o then
      let r := s.addClamp o e
      if r.2 then r.1.chTrip (r.1.chIdx o) .clampLock 6 else r.1
    else if isKind .sv o && s.supplied o && s.flag Reg.SV_CFG2_RECOV (objNum o) && decide (s.vbmax ≤ s.rd Reg.BST_STAT_VBST) then
      let r := s.addClamp o e
      if r.2 then r.1.svTrip (objNum o) .clampLock 7 else r.1
    else s).done

/-- `REVERSE_CURRENT`: current has flowed from the output into the supply above the class's threshold for 2 µs (R153). -/
def execReverseCurrent (dt o : Nat) (m : Meas) (s : State) : Answered :=
  let s := s.tick dt
  .next (if isKind .hs o && s.supplied o && (s.st o == 1 || s.st o == 2) && !s.flag Reg.CH_STAT_REVOPEN (chIx o)
      && decide (m.ma < -(revThr (chIx o) : Int)) && decide (2000 ≤ m.held) then
    ((s.measure o m).wr Reg.CH_STAT_REVOPEN (chIx o) 1).objEvent o 0x84 else s).done

/-- `REVERSE_RECLOSE`: the forward voltage across the channel is `mv` mV, above 50 (R153). -/
def execReverseReclose (dt : Nat) (o : Seen) (s : State) : Answered :=
  let s := s.tick dt
  .next (if isKind .hs o.n && s.supplied o.n && decide (50 < o.v) then s.wr Reg.CH_STAT_REVOPEN (chIx o.n) 0 else s).done

/-- `THERMAL_TRIP` (R184, R187). -/
def execThermalTrip (dt o : Nat) (m : Meas) (s : State) : Answered :=
  let s := s.tick dt
  .next (if s.chOn o && decide (225 ≤ m.tj) then (s.measure o m).chThermal (s.chIdx o) else s).done

/-- `DELTA_T_TRIP` (R185, R187). -/
def execDeltaTTrip (dt o : Nat) (m : Meas) (s : State) : Answered :=
  let s := s.tick dt
  .next (if s.chOn o && decide (8 * ((s.rd Reg.CH_CFG1_DT_OFF (s.chIdx o) : Nat) : Int) ≤ s.deltaT m.tj) then
    (s.measure o m).chTrip (s.chIdx o) .deltaT 4 else s).done

/-- A channel at `tj` + 50 °C has cooled: Tj at or below 150 °C, ΔT at or below DT_OFF - DT_HYS of its leader (R186). -/
def State.cooled (s : State) (i tj : Nat) : Bool :=
  decide (tj ≤ 200) && decide (s.deltaT tj ≤ 8 * ((s.rd Reg.CH_CFG1_DT_OFF i - s.rd Reg.CH_CFG1_DT_HYS i : Nat) : Int))

/-- `THERMAL_RESTART`: the channel, and every member of the group that it leads, has cooled (R186, R181, R203). -/
def execThermalRestart (dt o : Nat) (m : Meas) (s : State) : Answered :=
  let s := s.tick dt
  let i := s.chIdx o
  let t := s.measure o m
  .next (if s.isCh o && i == chIx o && s.st o == 4 && !(s.obj o).asked && (s.chMembers i).all (fun k => s.cooled i (t.tjOf (chObj k))) then
    t.submitOwn (t.restartDemand o .restart)
  else s).done

/-! ### Inrush (R189 to R197) -/

/-- Every member of a group takes a state. -/
def State.chStates (s : State) (i v : Nat) : State := (s.chMembers i).foldl (fun s m => s.setSt (chObj m) v) s

/-- SAG of the channel's group (R182). -/
def State.sag (s : State) (o : Nat) : Bool := match groupOf o with | some g => g != 0 && bit (s.rd Reg.HS_GRP_SAG) (g - 1) | none => false

/-- `INRUSH_DWELL_EXPIRY`: the limit dwell has reached TLIM_INR (R189 to R191, R194, R205). -/
def execInrushDwellExpiry (dt o : Nat) (m : Meas) (s : State) : Answered :=
  let s := s.tick dt
  let t := s.measure o m
  let i := s.chIdx o
  .next (if isKind .hs o && s.isCh o && s.st o == 2 && !s.sag o && decide (s.rd Reg.CH_CFG1_TLIM_INR i * 10000 ≤ t.grpDwell i) then
      let n := t.rd Reg.CH_STAT_RETRIES i
      if n < t.rd Reg.CH_CFG1_NRETRY i then
        let s := (t.chStates i 3).wr Reg.CH_STAT_RETRIES i (n + 1)
        (s.chMembers i).foldl (fun s m => s.modObj (chObj m) fun x => { x with offAt := s.now, lastOff := s.now, limAt := none }) s
      else t.chTrip i .inrushFail 6
    else s).done

/-- `INRUSH_OFF_END` (R190, R181). -/
def execInrushOffEnd (dt o : Nat) (s : State) : Answered :=
  let s := s.tick dt
  let i := s.chIdx o
  .next (if isKind .hs o && s.isCh o && s.st o == 3 && !s.ovFrozen o
      && decide ((s.obj o).offAt + s.rd Reg.CH_CFG1_TOFF i * 20000 ≤ s.now) then
    (s.chMembers i).foldl (fun s m => s.modObj (chObj m) fun x => { x with onAt := s.now, limAt := none }) (s.chStates i 2)
  else s).done

/-- `INRUSH_END`: the current has stayed below ILIM for 100 µs (R192, R197); `lim` is the total time in limit, µs.  TIL saturates at its 16 bits, and a
tie is rounded up (DESIGN CHOICE, log entry 81). -/
def execInrushEnd (dt o lim : Nat) (m : Meas) (s : State) : Answered :=
  let s := s.tick dt
  let i := s.chIdx o
  .next (if isKind .hs o && s.isCh o && s.st o == 2 && decide (m.ma < ((s.rd Reg.CH_CFG0_ILIM i * ilimStep i * 125 : Nat) : Int))
      && decide (100000 ≤ min m.held (s.now - (s.obj o).onAt)) then
      let l := chObj i
      let s := s.measure o m
      let til := s.rd Reg.CH_OUT_TIL i
      let s := (s.wr Reg.CH_OUT_TIL i (min 0xFFFF (roundDiv (7 * til + lim) 8))).chStates i 1
      let s := (s.chMembers i).foldl (fun s m => (s.wr Reg.CH_STAT_INR m 0).modObj (chObj m) fun x => { x with inrRun := none, inrTime := 0 }) s
      let s := (s.endTransient l).cmdDone l
      s.raise 0x0883 l (s.evData l + atByte 28 (min (2 ^ 32 - 1) lim))
    else s).done

/-- Inrush time of a channel so far (R193). -/
def State.inrSoFar (s : State) (o : Nat) : Ns :=
  let x := s.obj o
  x.inrTime + (match x.inrRun with | some t => s.now - t | none => 0)

/-- `INRUSH_TIMEOUT` (R193). -/
def execInrushTimeout (dt o : Nat) (m : Meas) (s : State) : Answered :=
  let s := s.tick dt
  .next (if isKind .hs o && s.isCh o && (s.st o == 2 || s.st o == 3) && decide (100000000 ≤ s.inrSoFar (s.chLead o)) then
    (s.measure o m).chTrip (s.chIdx o) .inrushFail 6 else s).done

/-! ### Sag of a supply group (R182) -/

/-- `SAG_SET`: the group's voltage, 10 mV, lies more than 8 % below its 1 ms average. -/
def execSagSet (dt : Nat) (g : Seen) (s : State) : Answered :=
  let s := s.tick dt
  let v := s.rd Reg.HS_GRP_SAG
  .next (if 1 ≤ g.n ∧ g.n ≤ 4 ∧ bit v (g.n - 1) = false ∧ 100 * g.v < 92 * (s.group g.n).avg then
    ((s.wr Reg.HS_GRP_SAG 0 (setBit v (g.n - 1))).bump Reg.HS_GRP_SAGCNT 0).setGroup g.n { s.group g.n with sagAt := some s.now } else s).done

/-- `SAG_CLEAR`: the voltage is back within 4 % of that average. -/
def execSagClear (dt : Nat) (g : Seen) (s : State) : Answered :=
  let s := s.tick dt
  let x := s.group g.n
  let spans := (match x.sagAt with | some t => (t, s.now) :: x.sags | none => x.sags).filter fun p => decide (s.now < p.2 + 10000000)
  .next (if 1 ≤ g.n ∧ g.n ≤ 4 ∧ 96 * x.avg ≤ 100 * g.v then
    (s.wr Reg.HS_GRP_SAG 0 (clrBit (s.rd Reg.HS_GRP_SAG) (g.n - 1))).setGroup g.n { x with sagAt := none, sags := spans } else s).done

end Sys2Proof.Machine
end

