-- ==== Sys2Proof/Machine/DiagRows.lean ====
section
/-!
DEFINITION. Sys2Proof/Machine/DiagRows.lean: load diagnostics: on-state samples, off-state tests, staleness, segments (R221 to R247, R421, R453, R527).
-/
namespace Sys2Proof.Machine

/-! ### On-state samples -/

/-- The measurement converter of an object's die is lost (R808): bits 0 to 3 of ADCLOST are die C, P0, P1 and P2. -/
def State.adcLost (s : State) (o : Nat) : Bool :=
  !isKind .io o && bit (s.rd Reg.SPR_MISC_ADCLOST) (match dieOf o with | some d => d + 1 | none => 0)

/-- The open-load threshold of a channel in units of 0.5 mA (R227). -/
def State.iol (s : State) (i : Nat) : Nat :=
  if s.flag Reg.DG_DCFG0_FINE i then s.rd Reg.DG_DCFG0_IOL i else s.rd Reg.DG_DCFG0_IOL i * iolStep i

/-- The overload warning in units of 0.5 mA; 0 for off (R229). -/
def State.iwarn (s : State) (i : Nat) : Nat := s.rd Reg.DG_DCFG1_IWARN i * ilimStep i * 250

/-- On-time of a channel's duty in steps of 10 ns (R160, R226). -/
def State.chOnTime (s : State) (i : Nat) : Nat := roundDiv (s.rd Reg.CH_CFG2_PER i * 1000 * (s.obj (s.chLead (chObj i))).duty) 65535

/-- How a channel that is on is measured now (R226, R237): 1 on-state, 2 stretch, none when the method takes no on-state sample. -/
def State.onMethod (s : State) (i : Nat) : Option Nat :=
  let l := s.chLeader i
  let x := s.obj (chObj l)
  if x.target = 1 then some 1
  else if x.duty = 0 then none
  else if x.duty = 65535 then some 1
  else if 800 ≤ s.chOnTime l then some 1
  else if s.rd Reg.DG_DCFG0_LOWDUTY i = 1 ∧ 0 < x.period ∧ (x.period - 1) % 64 = 0 then some 2
  else none

/-- An absent result is the `n`-th in a row: it sets OPEN once `need` of them have come (R228, R234). -/
def State.absentNow (s : State) (o need : Nat) : State :=
  let k := (s.obj o).absent + 1
  let s := s.modObj o fun x => { x with absent := k }
  if need ≤ k then s.judged o 2 else s

/-- A present result sets OK. -/
def State.presentNow (s : State) (o : Nat) : State := (s.modObj o fun x => { x with absent := 0 }).judged o 1

/-- A sample of a channel that is on is due (R226): every 1 ms while it is fully on, else once per period, in the last 2 µs of the on-time, which method
2 stretches to 8 µs. -/
def State.sampleDue (s : State) (i m : Nat) : Bool :=
  let x := s.obj (s.chLead (chObj i))
  let last := match (s.obj (chObj i)).tookAt with | some t => t + 1 | none => 0
  if x.target = 1 ∨ x.duty = 65535 then decide (last + 999999 ≤ s.now) || last == 0
  else
    let from_ := x.perAt + (if m = 2 then 8000 else 10 * s.chOnTime (s.chLeader i)) - 2000
    decide (last ≤ from_) && decide (from_ ≤ s.now)

/-- An on-state sample of a channel, `a` in units of 0.5 mA (R226 to R230). -/
def State.chSample (s : State) (o a : Nat) : State :=
  let i := chIx o
  if !(s.isCh o && s.st o == 1 && decide ((s.obj o).onAt + 1000000 ≤ s.now)) then s
  else
    match s.onMethod i with
    | none => s
    | some m =>
      if !s.sampleDue i m then s else
      let s := ((s.wr Reg.DG_DSTAT_ILOW i (min 0xFFFF a)).wr Reg.DG_DSTAT_METHOD i m).took o
      let nf := s.rd Reg.DG_DCFG0_NFILT i + 1
      if s.rd Reg.DG_DSTAT_VERDICT i = 4 ∧ s.iwarn i ≠ 0 then
        if s.iwarn i ≤ a then s.judged o 4
        else if s.iol i ≤ a then s.presentNow o
        else
          let s := s.modObj o fun x => { x with absent := 0 }
          if nf = 1 then s.absentNow o 1 else (s.modObj o fun x => { x with absent := 1 }).setVerdict o 0
      else if s.iol i ≤ a then s.presentNow o
      else s.absentNow o nf

/-- The last measurement of the object lies `t` ns or more back. -/
def State.apart (s : State) (o : Nat) (t : Ns) : Bool := s.since (s.obj o).tookAt t

/-- A hold sample of a valve channel, every 1 ms: within ±20 % of the hold level it sets OK (R421). -/
def State.svSample (s : State) (o a : Nat) : State :=
  let n := objNum o
  let h := 2 * s.svHoldMa n
  if !(s.supplied o && s.st o == 3 && s.apart o 1000000) then s
  else
    let s := (s.wr Reg.SV_MEAS_IMEAS n (a / 2)).took o
    if 8 * h ≤ 10 * a ∧ 10 * a ≤ 12 * h then s.presentNow o else s

/-- A sample of a bridge after the ramp at DEFF of 25 % or more, every 10 ms (R453). -/
def State.hbSample (s : State) (o a : Nat) : State :=
  let n := objNum o
  if !(s.supplied o && s.hbLeader n == n && s.st o == 2 && decide (16384 ≤ s.rd Reg.HB_OUT_DEFF n) && s.apart o 10000000) then s
  else if 200 ≤ a then (s.took o).presentNow o else s.took o

/-- A sample of an isolated output in ON, every 1 ms (R527). -/
def State.ioSample (s : State) (o a : Nat) : State :=
  let n := objNum o
  if !(s.dieC && s.st o == 1 && s.apart o 1000000) then s
  else
    let s := (s.wr Reg.IO_STAT_IOUT n (min 0xFFFF (a / 2))).took o
    if 2 * s.rd Reg.IO_CFG_IOL n ≤ a then s.presentNow o else s.absentNow o 2

/-- `DIAG_ON_SAMPLE`: a current sample of `a` units of 0.5 mA. -/
def execDiagOnSample (dt o a : Nat) (s : State) : Answered :=
  let s := s.tick dt
  .next (if s.adcLost o then s else match kindOf o with
    | .hs => s.chSample o a | .ls => s.chSample o a | .sv => s.svSample o a | .hb => s.hbSample o a | .io => s.ioSample o a | _ => s).done

/-- `OVERLOAD_DETECT` (R229): the current, `a.v` units of 0.5 mA, has stayed at or above IWARN without a break, for TOVL at the least. -/
def execOverloadDetect (dt o : Nat) (a : Lasting) (s : State) : Answered :=
  let s := s.tick dt
  let i := chIx o
  .next (if s.isCh o && !s.adcLost o && s.st o == 1 && s.iwarn i != 0 && decide (s.iwarn i ≤ a.v)
      && decide (s.rd Reg.DG_DCFG1_TOVL i * 1000000 ≤ min a.held (s.now - (s.obj o).onAt)) then
    ((s.wr Reg.DG_DSTAT_ILOW i (min 0xFFFF a.v)).took o).judged o 4 else s).done

/-! ### Off-state test (R231 to R237) -/

/-- The channel counts as off for diagnostics: its gate is off, or it runs PWM at duty 0. -/
def State.chIsOff (s : State) (o : Nat) : Bool :=
  let l := s.chLead o
  (s.st o != 1 && s.st o != 2) || (s.st o == 1 && (s.obj l).target == 2 && (s.obj l).duty == 0 && (s.obj l).next.isNone)

/-- A test may run: OFFTEST on a channel that has been off for 1 ms, every 10 ms, or the low-duty method 00b in each off-time of 700 µs or more, from
100 µs after the on-time to 100 µs before the next; a PAIRED channel only in the windows of the twin agent (R231, R236, R237). -/
def State.offTestOk (s : State) (o : Nat) : Bool :=
  let i := chIx o
  let x := s.obj (s.chLead o)
  let l := s.chLeader i
  let per := s.rd Reg.CH_CFG2_PER l * 1000
  let offFrom := x.perAt + 10 * s.chOnTime l
  let last := match (s.obj o).testAt with | some t => t + 1 | none => 0
  let low := s.st o == 1 && x.target == 2 && s.rd Reg.DG_DCFG0_LOWDUTY i == 0 && decide (0 < x.duty ∧ s.chOnTime l < 800)
    && decide (70000 ≤ per - s.chOnTime l) && decide (offFrom + 100000 ≤ s.now) && decide (s.now + 100000 ≤ x.perAt + 10 * per) && decide (last ≤ offFrom)
  ((s.chIsOff o && s.flag Reg.DG_DCFG0_OFFTEST i && decide (x.lastOff + 1000000 ≤ s.now) && (last == 0 || last ≤ x.lastOff || decide (last + 9999999 ≤ s.now))) || low)
  && (!s.flag Reg.LH_LHR0_PAIRED i || (s.out.testWin.contains o && decide (s.now < s.twin.windowAt)))

/-- `OFF_STATE_TEST`: `v0` the output with no test current, `v1` the output or drain with it, 10 mV per unit; while a clamp event has not ended, no test
runs (R231 to R234). -/
def execOffStateTest (dt o v0 : Nat) (v1 : OffSeen) (s : State) : Answered :=
  let s := s.tick dt
  let i := chIx o
  .next (if !(s.isCh o && s.offTestOk o) || s.adcLost o || v1.clamp then s
    else
      let s := (s.wr Reg.DG_DSTAT_METHOD i 3).modObj o fun x => { x with tookAt := some s.now, testAt := some s.now }
      let vol := 100 + 50 * s.rd Reg.DG_DCFG0_VOL_OFF i
      if isKind .hs o && decide (s.supply o < 2 * v0) then (s.modObj o fun x => { x with absent := 0 }).judged o 3
      else if (if isKind .hs o then vol ≤ v1.v else v1.v ≤ vol) then s.absentNow o (s.rd Reg.DG_DCFG0_NFILT i + 1)
      else s.presentNow o).done

/-! ### Staleness -/

/-- DFRESH has passed since the last measurement that set the verdict (R224). -/
def State.isStale (s : State) (o : Nat) : Bool :=
  match (s.obj o).measAt with
  | some t => decide (t + s.dfresh o ≤ s.now)
  | none => true

/-- A latch holds the verdict (R222). -/
def State.verdictHeld (s : State) (o : Nat) : Bool := s.latched o && (latchVerdict (kindOf o) (s.causeOf o)).isSome

/-- `VERDICT_STALE` (R224, R239, R357, R375). -/
def execVerdictStale (dt o : Nat) (s : State) : Answered :=
  let s := s.tick dt
  .next (match verdField (kindOf o) with
    | none => s
    | some _ => if isKind .mx o then s.mxJudge else if s.isStale o && !s.verdictHeld o then s.setVerdict o 0 else s).done

/-- `DIAG_CHECK_TIMEOUT` (R240, R241). -/
def execDiagCheckTimeout (dt o : Nat) (s : State) : Answered :=
  let s := s.tick dt
  let late := fun (p : Cmd × Ns) => decide (p.2 + s.dfresh o ≤ s.now)
  let old := (s.obj o).checks.filter late
  .next (old.foldl (fun s p => s.complete p.1 .unverified 0) (s.modObj o fun x => { x with checks := x.checks.filter fun p => !late p })).done

/-! ### Segments (R148 to R151, R242 to R247) -/

/-- The active segments of a channel in ascending order: 16 of 18, less the retirements beyond the spares. -/
def State.activeSegs (s : State) (o : Nat) : List Nat := ((List.range 18).filter fun k => !(s.obj o).retired.contains k).take 16

/-- The top of the ILIM range falls: a field above it is lowered, with SRC 11b in the clamp log (R151). -/
def State.lowerIlim (s : State) (o : Nat) (f : Field) : State :=
  let i := chIx o
  let hi := s.chIlimHi i
  let v := s.rd f i
  if v ≤ hi then s
  else (s.wr f i hi).logClamp (objWin o)
    { offset := 0x20 * objNum o, lsb := f.lo, width := f.width, src := 3, pf := s.owner o, req := v, applied := hi, tag := 0, object := o }

/-- DRIFT shows the worst drift of the active segments (R246, R277); a segment that has not been measured yet counts with 0. -/
def State.showDrift (s : State) (o : Nat) : State :=
  s.wr Reg.DG_DCFG1_DRIFT (chIx o) (min 255 (((s.activeSegs o).map fun k => tget 0 (s.obj o).driftPct k).foldl max 0))

/-- A segment is retired for good (R246, R149 to R151). -/
def State.retireSeg (s : State) (o seg reason : Nat) : State :=
  if (s.obj o).retired.contains seg then s
  else
    let i := chIx o
    let s := s.modObj o fun x => { x with retired := x.retired ++ [seg], driftPct := tdel x.driftPct seg, drifts := tdel x.drifts seg }
    let n := (s.obj o).retired.length
    let s := (s.wr Reg.CH_STAT_SEGACT i (min 16 (18 - n))).wr Reg.CH_STAT_SPARES i (2 - n)
    let s := s.showDrift o
    let s := (s.bump Reg.SPR_SEG_RETIRED 0).objEvent o 0x88
    let s := s.retire 1 reason o seg (decide (n ≤ 2)) (decide (2 < n))
    if n ≤ 2 then s
    else
      let s := if n = 3 then s.bump Reg.SPR_SEG_DERATED 0 else s
      let s := (s.wr Reg.CH_STAT_DERATED i 1).objEvent o 0x85
      let s := s.lowerIlim o Reg.CH_CFG0_ILIM
      if isKind .hs o then s.lowerIlim o Reg.CH_CFG0_ILIM_INR else s

/-- `SEGMENT_MEASURE`: the drifts in % of the active segments, in their order, at a current of at least 25 % of nominal that has stayed within 5 % for
1 ms (R242, R243, R246). -/
def execSegmentMeasure (dt o : Nat) (ds : SegSeen) (s : State) : Answered :=
  let s := s.tick dt
  let m := ds.meas
  let due := match (s.obj o).segAt with | some t => decide (t + 10000000000 ≤ s.now) | none => true
  let flows := decide ((s.chNominal (chIx o) : Int) ≤ 4 * m.ma) && decide (1000000 ≤ min m.held (s.now - (s.obj o).onAt))
  .next (if !(s.isCh o && (s.st o == 1 || s.st o == 2) && due && flows) then s
    else
      let s := s.measure o m
      let segs := (s.activeSegs o).zip ds.drifts
      let s := s.modObj o fun x => { x with
        segAt := some s.now
        drifts := segs.foldl (fun t p => tput t p.1 (if 25 ≤ p.2 then tget 0 t p.1 + 1 else 0)) x.drifts
        driftPct := segs.foldl (fun t p => tput t p.1 p.2) x.driftPct }
      let s := s.showDrift o
      (segs.filter fun p => decide (16 ≤ tget 0 (s.obj o).drifts p.1)).foldl (fun s p => s.retireSeg o p.1 1) s).done

/-- `SEGMENT_FAULT` (R244). -/
def execSegmentFault (dt o seg : Nat) (s : State) : Answered :=
  let s := s.tick dt
  .next (if s.isCh o && (s.activeSegs o).contains seg then s.retireSeg o seg 2 else s).done

end Sys2Proof.Machine
end

