-- ==== Sys2Proof/Machine/ArbiterRows.lean ====
section
/-!
DEFINITION. Sys2Proof/Machine/ArbiterRows.lean: what the arbiter and the supply-group monitors do in time (R286, R298, R305 to R310, R312 to R320).
-/
namespace Sys2Proof.Machine

/-! ### Waiting demands -/

/-- The waiting demand may be served now: it fits (R292), its group is not frozen (R42), no cut of its class stands (R317), and a limp switch-on keeps its
spacing (R262). -/
def State.ready (s : State) (d : Demand) : Bool :=
  s.fitsNow d && !s.ovFrozen (s.drawnBy d.obj) && (d.cmd.isSome || !s.cutFor d.obj d.cls) && s.limpSpaced d

/-- A waiting demand is served and enters the log (R298, R304); a command whose class is cut meanwhile is refused (R317). -/
def State.serveWaiting (s : State) (d : Demand) (vd : Nat) : State :=
  let s := (s.unwait (· == d)).modObj d.obj fun x => { x with asked := x.asked && d.cmd.isSome }
  match d.cmd with
  | some c =>
    if s.cutRefuses d then s.refuse c d .refusedPolicy 0x0E02
    else ((s.noteVd d.obj vd).arbServe d).arbLog d .done 0
  | none => ((s.noteVd d.obj vd).arbServe d).arbLog d .done 0

/-- The 1 ms transients of string starts and the transients of bridge starts end at their planned time (R351, R437). -/
def State.endDue (s : State) : State :=
  ((s.arb.loads.filter fun p => p.2.inTrans && decide (p.2.transEnd ≤ s.now) && (isKind .ld p.1 || isKind .hb p.1)).map (·.1)).foldl State.endTransient s

/-- `DEMAND_SERVED`: the first waiting demand, in the order of R291, that may be served (R298, R300, R304). -/
def execDemandServed (dt vd : Nat) (s : State) : Answered :=
  let s := (s.tick dt).endDue
  .next (if !s.dieC then s
    else match s.arb.waiting.find? s.ready with
      | some d => s.serveWaiting d vd
      | none => s).done

/-- The demand's allowed latency has passed. -/
def Demand.late (d : Demand) (now : Ns) : Bool := match d.latest with | some l => decide (l ≤ now) | none => false

/-- `DEMAND_LATENCY_EXPIRY` (R298): the waiting command of object `o`. -/
def execDemandLatencyExpiry (dt o : Nat) (s : State) : Answered :=
  let s := s.tick dt
  .next (match s.arb.waiting.find? (fun d : Demand => d.obj == o && d.late s.now) with
    | some d =>
      let b := s.binds d (match s.plan d with | some (_, bs) => bs | none => [])
      let s := s.unwait (· == d)
      match d.cmd with
      | some c => s.refuse c d .refusedBudget (budgetSub b)
      | none => s
    | none => s).done

/-! ### Shedding -/

/-- The budget has exceeded its limit for its shedding time (R305). -/
def State.mustShed (s : State) (b : Nat) : Bool :=
  match tget none (s.arb.ovr.map fun p => (p.1, some p.2)) b with
  | some t => decide (t + (if b ≤ 3 then 100000000 else 10000000) ≤ s.now)
  | none => false

/-- ARB_WARN (R308), once while the excess lasts. -/
def State.warn (s : State) (b : Nat) : State :=
  if s.arb.warned.contains b then s
  else
    let data := atByte 16 b + atByte 18 (min 0xFFFF (s.usage b / unitOf b)) + atByte 20 (min 0xFFFF (s.limitReg b))
    ({ s with arb := { s.arb with warned := b :: s.arb.warned } }).raise 0x0E84 0xFFFF data

/-- The object to shed for budget `b`. -/
def State.shedFor (s : State) (b : Nat) : Option Nat := s.sheddable.find? (s.claimsOn b)

/-- `BUDGET_SHED` (R305, R307, R308): one object, 1 ms or more after the last shed, for the lowest exceeded budget on which one claims; ARB_WARN for those on
which none does. -/
def execBudgetShed (dt : Nat) (s : State) : Answered :=
  let s := (s.tick dt).endDue
  let full := (List.range 13).filter s.mustShed
  let t := (full.filter fun b => (s.shedFor b).isNone).foldl State.warn s
  .next (if !s.dieC then s
    else match full.findSome? fun b => (s.shedFor b).map fun o => (b, o) with
      | none => t
      | some (b, o) => if s.arb.lastShed = 0 ∨ s.arb.lastShed + 1000000 ≤ s.now then t.shed o b else t).done

/-! ### Renewal of the standing claims (R286, R310) -/

/-- The standing claims of an object from its measured average and on-current, mA. -/
def State.measuredStand (s : State) (o avg on : Nat) : List Claim :=
  match kindOf o with
  | .ld => objClaims o avg (8 * (avg * s.supply o * 88 / 10) / 100 + 60000)
  | .mx =>
    if s.flag Reg.MX_CFG0_SUPSRC then
      let p := avg * s.supply o * 88 / 10
      let vmx := s.rd Reg.MX_CFG1_VMX * 100
      objClaims o avg (p / vmx * (vmx - 2000) + 8 * p / 100)
    else objClaims o avg (avg * (10 * s.supply o - 2000))
  | .sv => svStand (objNum o) avg
  | .bst => objClaims o avg (18 * (avg * s.supply o * 85 / 10) / 100)
  | .hb =>
    let n := objNum o
    objClaims o avg (on * on * 2 * s.hbRon n / (s.hbSide n * 1000000) + 3000 * s.rd Reg.HB_CFG0_PWMF n)
  | _ =>
    let i := chIx o
    let ms := s.chMembers i
    let one := on / ms.length
    objClaims o avg ((ms.map fun m => one * one * s.chRon m / 1000000).foldl (· + ·) 0 * s.chDuty o / 65535)

/-- The samples of one object's current join those of the last 1 ms (R944). -/
def State.sampleLoad (s : State) (a : LoadSeen) : State :=
  let o := s.leadOf a.obj
  let s := s.sampled (0x1000 + o) a.i
  if a.on then s.sampled (0x2000 + o) a.i else s

/-- The measured 1 ms average of an object's current, mA. -/
def State.avgOf (s : State) (o : Nat) : Nat := s.mean (0x1000 + o)

/-- On-current of an object (R286): fully on, its 1 ms average; in PWM, the mean of its on-time samples of the last 1 ms, else the average divided by the duty. -/
def State.onCurrent (s : State) (o : Nat) : Nat :=
  let duty := match kindOf o with
    | .hs => if (s.obj o).target = 2 then some (s.chDuty o) else none
    | .ls => if (s.obj o).target = 2 then some (s.chDuty o) else none
    | .hb => let d := s.rd Reg.HB_OUT_DEFF (objNum o); if d = 65535 then none else some d
    | _ => none
  match duty with
  | none => s.avgOf o
  | some d =>
    if ((tget [] s.arb.samples (0x2000 + o)).filter fun p => decide (s.now < p.1 + 1000000)).isEmpty then
      (if d = 0 then Config.noDutyCurrent o (s.avgOf o) else s.avgOf o * 65535 / d)
    else s.mean (0x2000 + o)

/-- One object's average renews its claims, each 1 ms: not before a whole 1 ms since its transient ended, not while a loop holds them (R485); a shed
object's claims end once its current has fallen (R307). -/
def State.renewOne (s : State) (a : LoadSeen) : State :=
  let o := s.leadOf a.obj
  let s := s.sampleLoad a
  let l := s.load o
  if l.on then
    if l.inTrans ∨ s.now < max l.measFrom l.renewed + 1000000 then s
    else
      let on := s.onCurrent o
      let s := s.setLoad o { l with avg := some on, renewed := s.now }
      if (s.loopOn o).isSome then s else s.setLoad o { s.load o with stand := s.measuredStand o (s.avgOf o) on }
  else
    match l.shedAt with
    | some _ =>
      let claim := (l.stand.filter fun c => decide (10 ≤ c.b ∧ c.b ≤ 12)).foldl (fun n c => n + c.amt) 0
      if 20 * s.avgOf o < claim then s.setLoad o { l with stand := [], shedAt := none } else s
    | none => s

/-- The group's voltage as its monitor reads it now: the register shows it, and the 1 ms average takes it in (R54, R944). -/
def State.setVolt (s : State) (g v : Nat) : State :=
  let s := (if g = 0 then s.wr Reg.GLB_VBAT_VBAT 0 v else s.wr Reg.GLB_VS_VOLT (g - 1) v).sampled g v
  s.setGroup g { s.group g with avg := s.mean g }

/-- V: the 1 ms average of the group's voltage with the sample `v` (R315, R944). -/
def State.vAvg (s : State) (g v : Nat) : Nat := ((s.setVolt g v).group g).avg

/-- The global registers of a sample (R54), and the measurement registers of the objects that it lists. -/
def State.globals (s : State) (x : Sample) : State :=
  let s := x.meas.foldl (fun s p => if [Kind.hs, .ls, .ld, .sv, .hb].contains (kindOf p.1) then s.measure p.1 p.2 else s) s
  let s := s.setVolt 0 x.vbat
  let s := (List.range 6).foldl (fun s n =>
    let s := (s.setVolt (n + 1) (x.volt.getD n 0)).sampled (8 + n) (x.curr.getD n 0)
    s.wr Reg.GLB_VS_CURR n (s.mean (8 + n))) s
  let s := (s.wr Reg.GLB_TCASE_TC 0 x.tcase).wr Reg.GLB_PDISS_PD 0 x.pd
  let s := (s.wr Reg.BST_STAT_VBST 0 x.vbst)
  let s := x.boosts.foldl (fun s p => s.modValve p.1 fun v => if v.boosting then { v with drawn := p.2 } else v) s
  let s : State := { s with out := { s.out with dieTj := (List.range 3).map fun d => x.tdie.getD d 0 } }
  (((s.showDie 0).showDie 1).showDie 2).wr Reg.GLB_TDIE_C 0 (x.tdie.getD 3 0)

/-! ### Group monitor (R312 to R321) -/

/-- Index of a group's thresholds: the VBAT group shares ARB_UV1 (R314). -/
def uvIx (g : Nat) : Nat := g - 1

/-- Cut threshold of level 0 (VS_UV) or 1 (VS_UV0), 10 mV per unit. -/
def State.cutAt (s : State) (g level : Nat) : Nat := 25 * s.rd (if level = 0 then Reg.ARB_UV_VS_UV else Reg.ARB_UV_VS_UV0) (uvIx g)

/-- The power die of a group. -/
def groupDie (g : Nat) : Nat := if g = 0 then 2 else if g ≤ 3 then 0 else if g = 4 then 1 else 2

/-- The group's monitor runs. -/
def State.monitors (s : State) (g : Nat) : Bool := decide (g ≤ 6) && s.pwr.dieUp.getD (groupDie g) false


/-- A cut of `level` stands. -/
def State.isCut (s : State) (g level : Nat) : Bool := if level = 0 then s.cut13 g else s.cut0 g

/-- The restart slots of a level are cancelled: classes 1 to 3 for VS_UV, class 0 for VS_UV0. -/
def State.cancelSlots (s : State) (g level : Nat) : State :=
  let x := s.group g
  s.setGroup g { x with slots := x.slots.filter fun p => if level = 0 then p.1 = 0 else p.1 ≠ 0 }

/-- The cut comes into force: the running objects that it reaches, GRP_CUT unless `quiet` and none was running. -/
def State.cutGroup (s : State) (g level : Nat) (quiet : Bool) : State :=
  let s := (s.setCut g level true).cancelSlots g level
  let os := (s.groupObjs g).filter fun o => s.cutHits o level
  let n := (os.map s.width).foldl (· + ·) 0
  let ran := os.any s.isOn
  let s := (os.foldl (fun s o => s.cutObj o .uvCut) s).bump Reg.ARB_GRPSTAT_CUTCNT 0
  if quiet && !ran then s else s.grpEvent 0x82 g level n

/-- `GROUP_CUT`: the voltage has stayed below the threshold for 50 µs (R316, R320). -/
def execGroupCut (dt g level volt : Nat) (s : State) : Answered :=
  let s := s.tick dt
  .next (if s.monitors g && decide (level ≤ 1) && !s.isCut g level && decide (s.vAvg g volt < s.cutAt g level) then
    (s.setVolt g volt).cutGroup g level false else s).done

/-- `CUT_RELEASE`: the voltage has stayed above the threshold plus HYS for 1 ms (R318). -/
def execCutRelease (dt g level volt : Nat) (s : State) : Answered :=
  let s := s.tick dt
  .next (if s.monitors g && decide (level ≤ 1) && s.isCut g level && decide (s.cutAt g level + 25 * s.rd Reg.ARB_UV_HYS (uvIx g) < s.vAvg g volt) then
      let s := (s.setVolt g volt).setCut g level false
      let x := s.group g
      s.setGroup g { x with slots := (if level = 0 then [1, 2, 3] else [0]).foldl (fun t c => tput t c (s.now + 2000000 * c)) x.slots }
    else s).done

/-- The slot of class `c` has come, 2 % before its time at the earliest (R322, log entry 7). -/
def slotDue (t : Tab Ns) (c now : Nat) : Bool :=
  match tget none (t.map fun p => (p.1, some p.2)) c with | some x => decide (x ≤ now + 40000 * c) | none => false

/-- A slot's restarts become demands, in ascending object ID, and GRP_RESTART is raised (R318, R321). -/
def State.runSlot (s : State) (g c : Nat) (cause : Cause) (kind : DKind) : State :=
  let os := (s.slotObjs g c cause).filter fun o => !(s.obj o).asked
  let n := (os.map s.width).foldl (· + ·) 0
  (os.foldl (fun s o => s.restart o kind) s).grpEvent 0x83 g c n

/-- `RESTART_SLOT` of class `c`, after a cut or after the release of R46 (R46, R318, R320). -/
def execRestartSlot (dt g c : Nat) (s : State) : Answered :=
  let s := s.tick dt
  .next (if !s.monitors g then s
    else
      let x := s.group g
      let s := if slotDue x.slots c s.now then (s.setGroup g { x with slots := tdel x.slots c }).runSlot g c .uvCut .slot else s
      let x := s.group g
      if slotDue x.ovSlots c s.now then (s.setGroup g { x with ovSlots := tdel x.ovSlots c }).runSlot g c .overvoltage .slot else s).done

/-- `SLOT_CANCEL`: the voltage falls below the cut threshold before a slot (R319). -/
def execSlotCancel (dt g level volt : Nat) (s : State) : Answered :=
  let s := s.tick dt
  let mine := (s.group g).slots.any fun p => if level = 0 then p.1 ≠ 0 else p.1 = 0
  .next (if s.monitors g && decide (level ≤ 1) && mine && decide (s.vAvg g volt < s.cutAt g level) then
    (s.setVolt g volt).cutGroup g level true else s).done

/-- `DIM_UPDATE` of a group, each 1 ms (R315): k of VS5 and VS6, and the begin and end of dimming. -/
def execDimUpdate (dt g volt : Nat) (s : State) : Answered :=
  let s := s.tick dt
  .next (if !(s.monitors g && g != 0) then s
    else
      let v := s.vAvg g volt
      let s := s.setVolt g volt
      let dim := 25 * s.rd Reg.ARB_UV_VS_DIM (uvIx g)
      let uv := s.cutAt g 0
      let low := decide (v < dim)
      let s := s.setGroup g (if low then { s.group g with kNum := v - uv, kDen := dim - uv } else { s.group g with kNum := 1, kDen := 1 })
      let k := if !low then 255 else min 255 (roundDiv (255 * (v - uv)) (dim - uv))
      let s := if g = 5 then s.wr Reg.ARB_DIMK_K5 0 k else if g = 6 then s.wr Reg.ARB_DIMK_K6 0 k else s
      let v := s.rd Reg.ARB_GRPSTAT_DIM
      if bit v (g - 1) == low then s
      else
        let s := s.wr Reg.ARB_GRPSTAT_DIM 0 (if low then setBit v (g - 1) else clrBit v (g - 1))
        s.raise 0x0E85 0xFFFF (atByte 16 g + atByte 17 (b2n low) + atByte 18 volt)).done

/-- `POWER_DIE_SERVE` of group `g` (7: objects of no group), with die C absent (R256, R309, R425): what the
arbiter held first, in its order, then the die's own by object ID. -/
def execPowerDieServe (dt g vd : Nat) (s : State) : Answered :=
  let s := s.tick dt
  let q := (s.arb.waiting ++ sortBy (fun a b : Demand => decide (a.obj ≤ b.obj)) s.arb.dieQueue).filter fun d => groupKey d.obj == g
  .next (if s.dieC ∨ !s.spaced g then s
    else match q.find? (fun d => s.supplied d.obj && !s.ovFrozen d.obj && !s.cutFor d.obj d.cls && s.dieFits d) with
      | some d => ((s.unwait (· == d)).modObj d.obj fun x => { x with asked := x.asked && d.cmd.isSome }).noteVd d.obj vd |>.dieServe d
      | none => s).done

end Sys2Proof.Machine
end

