-- ==== Sys2Proof/Machine/SupplyRows.lean ====
section
/-!
DEFINITION. Sys2Proof/Machine/SupplyRows.lean: the declared net, overvoltage, ground offset, case temperature (R32, R41 to R46, R53, R303, R312), and
the fabric, the timebases and Pace (R55 to R77).
-/
namespace Sys2Proof.Machine

/-- One bit of a W1C field goes from 0 to 1 and raises FLAG_SET (R788, R945); `b` is its place in the field, `f.lo + b` in the register. -/
def State.flagBit (s : State) (f : Field) (i b w off : Nat) : State :=
  let v := s.rd f i
  if bit v b then s else (s.wr f i (setBit v b)).raiseFault (blockOf (w * 256) * 256 + 0x8F) 0xFFFF (atByte 16 w + atByte 18 off + atByte 20 (f.lo + b))

/-! ### The declared net -/

/-- VS_UV0, VS_UV, VS_DIM and HYS of a net, 0.25 V per unit (R312). -/
def netSet : Nat → Nat × Nat × Nat × Nat
  | 0 => (24, 32, 42, 2) | 1 => (48, 64, 80, 4) | _ => (96, 120, 160, 8)

/-- A write of NET loads the net's undervoltage set into all six groups (R312). -/
def State.netDeclared (s : State) : State :=
  let t := netSet (s.rd Reg.GLB_NETCFG_NET)
  (List.range 6).foldl (fun s n =>
    (((s.wr Reg.ARB_UV_VS_UV0 n t.1).wr Reg.ARB_UV_VS_UV n t.2.1).wr Reg.ARB_UV_VS_DIM n t.2.2.1).wr Reg.ARB_UV_HYS n t.2.2.2) s

/-- VS_OV and its release threshold, 10 mV per unit (R41). -/
def State.ovAt (s : State) : Nat := match s.rd Reg.GLB_NETCFG_NET with | 0 => 3000 | 1 => 5000 | _ => 5800
def State.ovRelease (s : State) : Nat := s.ovAt - 200

/-! ### Overvoltage (R42 to R46) -/

/-- Deferred commands of a frozen group complete OVERVOLTAGE, and their outcome enters the log (R303, R304); a LOOP_CLOSE is one of its bound object. -/
def State.dropDeferred (s : State) (g : Nat) : State :=
  (s.arb.waiting.filter fun d => d.cmd.isSome && groupOf (s.drawnBy d.obj) == some g).foldl (fun s d =>
    let o := s.drawnBy d.obj
    let sub := objWin o * 256 + causeSub (kindOf o) .overvoltage
    let s := s.unwait (· == d)
    match d.cmd with
    | some c => (s.complete c .refusedState sub).arbLog d .refusedState sub
    | none => s) s

/-- The inrush time of a group's channels stands still during a freeze (R193), and runs on after it. -/
def State.inrushHold (s : State) (g : Nat) (hold : Bool) : State :=
  ((List.range 48).filter fun o => groupOf o == some g && (s.st o == 2 || s.st o == 3)).foldl (fun s o =>
    s.modObj o fun x =>
      if hold then { x with inrTime := x.inrTime + (match x.inrRun with | some t => s.now - t | none => 0), inrRun := none }
      else { x with inrRun := some s.now }) s

/-- `OV_FREEZE`: the supply has stayed above VS_OV for 10 µs (R42, R46, R303). -/
def execOvFreeze (dt g volt : Nat) (s : State) : Answered :=
  let s := s.tick dt
  .next (if 1 ≤ g ∧ g ≤ 6 ∧ s.monitors g ∧ !s.groupFrozen g ∧ s.ovAt < volt then
      let s := (s.setVolt g volt).wr Reg.GLB_OVSTAT_OV 0 (setBit (s.rd Reg.GLB_OVSTAT_OV) (g - 1))
      let s := s.bump Reg.GLB_OVSTAT_OVCNT 0
      let x := s.group g
      let s := s.setGroup g { x with frozenAt := s.now, ovSlots := [], ovCut := false, sustained := x.sustained || !x.ovSlots.isEmpty }
      (s.inrushHold g true).dropDeferred g
    else s).done

/-- What fell due for a record during the freeze is applied (R45). -/
def State.afterFreeze (s : State) (r : Nat) : State :=
  let l := s.limp r
  let s := s.modLimp r fun l => { l with due := false, orphDue := false }
  if l.due && s.flag Reg.LH_LHR1_INLIMP r then s.takeState r (s.limpState r) (s.flag Reg.LH_LHR0_EXEMPT r)
  else if l.orphDue then s.orphanState r else s

/-- `OV_RELEASE`: the supply is below the release threshold (R45). -/
def execOvRelease (dt g volt : Nat) (s : State) : Answered :=
  let s := s.tick dt
  .next (if 1 ≤ g ∧ g ≤ 6 ∧ s.groupFrozen g ∧ volt < s.ovRelease then
      let s := (s.setVolt g volt).wr Reg.GLB_OVSTAT_OV 0 (clrBit (s.rd Reg.GLB_OVSTAT_OV) (g - 1))
      let s := s.inrushHold g false
      (recOrder.filter fun r => groupOf (recObj r) == some g).foldl State.afterFreeze s
    else s).done

/-- `OV_SUSTAINED`: a freeze has lasted 500 ms (R46). -/
def execOvSustained (dt g : Nat) (s : State) : Answered :=
  let s := s.tick dt
  let x := s.group g
  .next (if 1 ≤ g ∧ g ≤ 6 ∧ s.groupFrozen g ∧ !x.ovCut ∧ x.frozenAt + 500000000 ≤ s.now then
      let s := s.setGroup g { x with sustained := true, ovCut := true }
      let os := (s.groupObjs g).filter s.ovHits
      let n := (os.map s.width).foldl (· + ·) 0
      let s := os.foldl (fun s o => s.cutObj o .overvoltage) s
      (s.grpEvent 0x82 g 2 n).flagBit Reg.GLB_OVSTAT_OVS 0 (g - 1) 0 0x0228
    else s).done

/-- `OV_SUSTAINED_RELEASE`: the supply has stayed below the release threshold for 1 ms (R46). -/
def execOvSustainedRelease (dt g : Nat) (s : State) : Answered :=
  let s := s.tick dt
  let x := s.group g
  .next (if 1 ≤ g ∧ g ≤ 6 ∧ x.sustained ∧ !s.groupFrozen g then
    s.setGroup g { x with sustained := false, ovSlots := (List.range 4).map fun c => (c, s.now + 2000000 * c) } else s).done

/-! ### Global faults -/

/-- `GROUND_OFFSET`: the largest GNDP-to-GND voltage, mV, without its sign (R32, R792). -/
def execGroundOffset (dt mv : Nat) (s : State) : Answered :=
  let s := s.tick dt
  .next (if !s.dieC then s
    else if 1000 < mv then ({ s with pwr := { s.pwr with gndOkAt := none } }).flagSet Reg.FLT_GLB_GROUND_OFFSET 0 5 0x608 0
    else { s with pwr := { s.pwr with gndOkAt := match s.pwr.gndOkAt with | some t => some t | none => some s.now } }).done

/-- `CASE_OVERTEMP`: a reading of TCASE, 16-bit pattern, 0.125 °C per unit (R53). -/
def execCaseOvertemp (dt tc : Nat) (s : State) : Answered :=
  let s := (s.tick dt).wr Reg.GLB_TCASE_TC 0 tc
  .next (if s.dieC && decide (840 < s.tcase) then s.flagSet Reg.FLT_GLB_CASE_OVERTEMP 0 5 0x608 1 else s).done

/-! ### Pace (R65 to R69) -/

/-- The module is Lead or Shadow of a twin pair. -/
def State.inPair (s : State) : Bool := s.rd Reg.TW_STAT_ROLE == 1 || s.rd Reg.TW_STAT_ROLE == 2

/-- Mode `v` is requested while no change runs. -/
def State.paceStart (s : State) (v : Nat) : State :=
  if v = 0 ∧ s.rd Reg.GLB_PACE_CUR ≠ 0 ∧ s.inPair ∧ s.rd Reg.TW_CYC_CYCLE * 500 < xferNs (s.sizeWith []) 152 then
    s.flagSet Reg.GLB_PACE_REJ_MIRROR 0 0 0x0100 12
  else
    let s := s.wr Reg.GLB_PACE_REQ 0 v
    let cur := s.rd Reg.GLB_PACE_CUR
    if v = cur then s
    else
      let s := { (s.wr Reg.GLB_PACE_BUSY 0 1) with pwr := { s.pwr with paceTo := v } }
      if v < cur then s.wr Reg.GLB_PACE_CUR 0 v else s

/-- A write of REQ, already clamped (R68, R69). -/
def State.paceRequest (s : State) (v : Nat) : State :=
  if s.flag Reg.GLB_PACE_BUSY then { (s.wr Reg.GLB_PACE_REQ 0 v) with pwr := { s.pwr with paceNext := some v } } else s.paceStart v

/-- `PACE_SETTLED` (R66, R68): a value written meanwhile is taken up.  A change between PACE_LOW and PACE_HIGH counts once in CHG, and a PACE_LOW written
meanwhile that R69 refuses leaves REQ at the present mode (DESIGN CHOICE, log entry 80). -/
def execPaceSettled (dt : Nat) (s : State) : Answered :=
  let s := s.tick dt
  .next (if !s.flag Reg.GLB_PACE_BUSY then s
    else
      let mode := s.pwr.paceTo
      let nx := s.pwr.paceNext
      let s := ((s.wr Reg.GLB_PACE_CUR 0 mode).wr Reg.GLB_PACE_BUSY 0 0).bump Reg.GLB_PACECNT_CHG 0
      let s := { s with pwr := { s.pwr with paceNext := none } }
      match nx with
      | some v => (s.wr Reg.GLB_PACE_REQ 0 mode).paceStart v
      | none => s).done

/-! ### Fabric and timebases (R59 to R64, R73 to R77) -/

/-- The minimum rate of the present mode, in 10 k transfers/s (R55). -/
def State.minRate (s : State) : Nat := match s.rd Reg.GLB_PACE_CUR with | 0 => 15625 | 1 => 25000 | _ => 32000

/-- The end of the present 1 ms window of the fabric monitor: by TB5, or by the backup oscillator, 2 % early at most (R77, log entry 7). -/
def State.windowEnd (s : State) : Ns := s.pwr.windowAt + (if s.flag Reg.TB_STAT_REFBKP then 980000 else 1000000)

/-- `FABRIC_WINDOW`: the measured rate in 10,000 transfers/s and the demands of PCIe ingress, the Reed link and all other clients, 10 Mbit/s per unit, over
the window that ends now.  RATE shows whole M transfers/s, cut off (DESIGN CHOICE, log entry 80). -/
def execFabricWindow (dt rate pcie reed rest : Nat) (s : State) : Answered :=
  let s := s.tick dt
  .next (if !s.dieC || decide (s.now < s.windowEnd) then s
    else
      let bkp := s.flag Reg.TB_STAT_REFBKP
      let pcie := if bkp then 0 else pcie
      let reed := if bkp then 0 else if s.rd Reg.GLB_PACE_CUR = 0 then min reed 1520 else reed
      let slow := decide (rate < s.minRate)
      let ovr := fun (d : Nat) => decide (rate * 384 < d * 1000)
      let tp := ovr (pcie + reed + rest) && decide (1200 < pcie)
      let tr := ovr (min pcie 1200 + reed + rest) && decide (0 < reed)
      let whole := min (rate / 100) 0xFFFF
      let s := (s.wr Reg.TB_FABRATE_RATE 0 whole).wr Reg.TB_FABLOAD_DEMAND 0 (min (pcie + reed + rest) 0xFFFF)
      let s := if whole < s.rd Reg.TB_FABRATE_MIN then s.wr Reg.TB_FABRATE_MIN 0 whole else s
      let s := if tp then s.bump Reg.TB_THROTTLE_PCIE 0 else s
      let s := if tr then s.bump Reg.TB_THROTTLE_REED 0 else s
      let s := { s with pwr := { s.pwr with fabricOk := !slow, throttled := (tp, tr), windowAt := s.now } }
      if slow then s.flagSet Reg.TB_STAT_FABRIC_SLOW 0 2 4 17 else s).done

end Sys2Proof.Machine
end

