-- ==== Sys2Proof/Machine/LedRows.lean ====
section
/-!
DEFINITION. Sys2Proof/Machine/LedRows.lean: the meanings of the LED string and LED matrix commands and events (R326 to R379).
-/
namespace Sys2Proof.Machine

/-! ### String commands -/

/-- MX_SUPPLY: LD11 feeds the matrix (R363). -/
def State.mxBar (s : State) (n : Nat) : Option (Code × Nat) := barIf (n == 11 && s.flag Reg.MX_CFG0_SUPSRC) .refusedState 0x0B08

/-- LED_ON and LED_DIM (R337, R339, R349, R350, R353, R488). -/
def State.ldCmd (s : State) (c : Cmd) (on : Bool) : State :=
  let o := c.object
  let n := objNum o
  let duty0 := c.arg 16 2
  let iset0 := c.arg 18 2
  let duty := duty0
  let cls := s.demandClass c
  s.orElse c [s.mxBar n, s.limpBar o, s.onBar o, if iset0 = 0 then none else s.loopBar o] fun s =>
    let s := s.descClamp c 0x0B 16 0 16 duty0 (s.ldMinDuty n duty0)
    let iv := clampNat 20 2000 iset0
    let s := if iset0 = 0 then s else s.descClamp c 0x0B 18 0 16 iset0 iv
    let iset := if iset0 = 0 then none else some iv
    let a := if iset0 = 0 then 0 else iv + 1
    if !on && s.st o == 0 then
      let s := match iset with | some v => s.wr Reg.LD_CFG0_ISET n v | none => s
      (((s.begin c).wr Reg.LD_OUT_DUTY n duty).commanded o).complete c .done
    else
      s.orElse c [s.ovBar o] fun s =>
        let now := s.ldIset n
        let want := match iset with | some v => v | none => now
        if s.isOn o then
          let more := s.ldMore n duty want
          if on then s.submit (s.cmdDemand c (.on a duty) more (s.ldTransBy n want more) 1000000)
          else if s.ldItgt n now * s.setDuty o < s.ldItgt n want * duty then s.submit (s.cmdDemand c (.on a duty) more [] 0)
          else s.ldChange n duty iset false (some c)
        else
          let deff := s.ldDeffAs n cls false duty
          s.submit (s.cmdDemand c (.on a duty) (s.ldStand n deff want) (s.ldTrans n deff want) 1000000)

/-- `LED_OFF` (R349). -/
def execLedOff (dt : Nat) (c : Cmd) (s : State) : Answered :=
  .next (s.serveOp dt c 0x2001 [.ld] fun s =>
    let o := c.object
    let n := objNum o
    s.orElse c [s.mxBar n, s.limpBar o, if s.st o = 0 ∨ s.latched o then none else s.ovBar o] fun s =>
      (((s.begin c).ldOff n).commanded o).complete c .done).done

/-- `LED_ON` (R349, R353). -/
def execLedOn (dt : Nat) (c : Cmd) (s : State) : Answered := .next (s.serveOp dt c 0x2002 [.ld] fun s => s.ldCmd c true).done

/-- `LED_DIM` (R339, R349). -/
def execLedDim (dt : Nat) (c : Cmd) (s : State) : Answered := .next (s.serveOp dt c 0x2003 [.ld] fun s => s.ldCmd c false).done

/-- The cause of a string's latch has gone (R349). -/
def State.ldGone (s : State) (n : Nat) : Bool := s.rd Reg.LD_STAT_CAUSE n != 3 || decide (s.tjOf (ldObj n) ≤ 200)

/-- `LD_CLEAR_FAULT` (R349). -/
def execLdClearFault (dt : Nat) (c : Cmd) (s : State) : Answered :=
  .next (s.serveOp dt c 0x2004 [.ld] fun s =>
    let o := c.object
    let n := objNum o
    s.orElse c [s.mxBar n, s.limpBar o] fun s =>
      if !s.latched o then (s.commanded o).complete c .done
      else if !s.ldGone n then s.clearPersists c 0x0B03
      else s.orElse c [s.ovBar o] fun s => (((s.begin c).ldClear n).commanded o).complete c .done).done

/-- `LD_DIAG_CHECK` (R349, R357). -/
def execLdDiagCheck (dt : Nat) (c : Cmd) (s : State) : Answered :=
  .next (s.serveOp dt c 0x2005 [.ld] fun s => s.orElse c [s.mxBar (objNum c.object), s.limpBar c.object] fun s => s.checkCmd c).done

/-- `LD_CONFIG` (R349). -/
def execLdConfig (dt : Nat) (c : Cmd) (s : State) : Answered :=
  .next (s.serveOp dt c 0x3001 [.ld] fun s =>
    ((s.begin c).putImage c 0x0B (imagePuts c 0x0B (0x40 * objNum c.object) 4)).complete c .done).done

/-- `TCOMP_LOAD` (R348, R349). -/
def execTcompLoad (dt : Nat) (c : Cmd) (s : State) : Answered :=
  .next (s.serveOp dt c 0x3003 [.ld] fun s =>
    let n := objNum c.object
    let k0 := c.arg 16 1
    let k := min 12 (k0 - k0 % 4)
    let s := (s.begin c).descClamp c 0x0B 16 0 8 k0 k
    let s := (List.range 4).foldl (fun s j =>
      let g := c.arg (24 + 2 * j) 2
      (s.descClamp c 0x0B (24 + 2 * j) 0 16 g (min 8192 g)).ldShadow n (k + j) g) s
    (if c.argBits 17 0 1 = 1 then s.ldCommit n else s).complete c .done).done

/-! ### String events -/

/-- A string in SOFTSTART or ON. -/
def State.ldRuns (s : State) (n : Nat) : Bool := decide (n < 12) && s.supplied (ldObj n) && s.isOn (ldObj n)

/-- `LD_SOFTSTART_DONE`: dimming begins (R341, R353). -/
def execLdSoftstartDone (dt n : Nat) (s : State) : Answered :=
  let s := s.tick dt
  .next (if s.ldRuns n && s.st (ldObj n) == 1 then (s.setSt (ldObj n) 2).modObj (ldObj n) fun x => { x with perAt := s.now, period := 0 } else s).done

/-- `LD_SOFTSTART_TIMEOUT` (R353): 1 ms with the anode below VLO. -/
def execLdSoftstartTimeout (dt n : Nat) (s : State) : Answered :=
  let s := s.tick dt
  .next (if s.ldRuns n && s.st (ldObj n) == 1 && decide ((s.obj (ldObj n)).onAt + 1000000 ≤ s.now) then s.ldTrip n .short 5 else s).done

/-- `LD_OPEN_STRING` (R354). -/
def execLdOpenString (dt n : Nat) (m : Meas) (s : State) : Answered :=
  let s := s.tick dt
  .next (if s.ldRuns n then (s.measure (ldObj n) m).ldTrip n .openString 5 else s).done

/-- `LD_SHORT` (R354). -/
def execLdShort (dt n : Nat) (m : Meas) (s : State) : Answered :=
  let s := s.tick dt
  .next (if s.ldRuns n then (s.measure (ldObj n) m).ldTrip n .short 5 else s).done

/-- `LD_THERMAL` (R354). -/
def execLdThermal (dt n : Nat) (m : Meas) (s : State) : Answered :=
  let s := s.tick dt
  .next (if s.ldRuns n && decide (225 ≤ m.tj) then (s.measure (ldObj n) m).ldTrip n .thermal 3 else s).done

/-- `LD_THERMAL_RESTART` (R354). -/
def execLdThermalRestart (dt n : Nat) (m : Meas) (s : State) : Answered :=
  let s := s.tick dt
  let o := ldObj n
  .next (if n < 12 ∧ s.supplied o ∧ s.st o = 3 ∧ !(s.obj o).asked ∧ m.tj ≤ 200 then
    let s := s.measure o m
    s.submitOwn (s.restartDemand o .restart) else s).done

/-- `HEADROOM_SET` (R331, R357, R379). -/
def execHeadroomSet (dt n : Nat) (s : State) : Answered :=
  let s := s.tick dt
  .next (if s.ldRuns n && s.st (ldObj n) == 2 && !s.flag Reg.LD_STAT_HEADROOM n then
    ((s.wr Reg.LD_STAT_HEADROOM n 1).objEvent (ldObj n) 0x84).verdictSet (ldObj n) 5 else s).done

/-- `HEADROOM_CLEAR` (R331). -/
def execHeadroomClear (dt n : Nat) (s : State) : Answered :=
  let s := s.tick dt
  .next (if n < 12 ∧ s.supplied (ldObj n) then s.wr Reg.LD_STAT_HEADROOM n 0 else s).done

/-- `NTC_FAULT` (R344). -/
def execNtcFault (dt n : Nat) (s : State) : Answered :=
  let s := s.tick dt
  .next (if n < 12 ∧ s.supplied (ldObj n) ∧ !s.flag Reg.LD_STAT_NTCFAULT n then
    (s.wr Reg.LD_STAT_NTCFAULT n 1).objEvent (ldObj n) 0x83 else s).done

/-- `NTC_RECOVER` (R344). -/
def execNtcRecover (dt n : Nat) (s : State) : Answered :=
  let s := s.tick dt
  .next (if n < 12 ∧ s.supplied (ldObj n) then s.wr Reg.LD_STAT_NTCFAULT n 0 else s).done

/-- The temperature of a string's source in 1/8 °C, `mv` being the reading of the NTC it names (R342 to R344). -/
def State.ldSource (s : State) (n mv : Nat) : Int :=
  match s.rd Reg.LD_CFG3_TSRC n with
  | 0 => if s.flag Reg.LD_STAT_NTCFAULT n then s.tcase else s.ntcTemp n mv
  | 1 => if s.flag Reg.LD_STAT_NTCFAULT (s.rd Reg.LD_CFG3_TNTC n) then s.tcase else s.ntcTemp n mv
  | 2 => s.tcase
  | _ => 8 * ((s.rd Reg.GLB_TDIE_P2 : Int) - 50)

/-- `TCOMP_SAMPLE`: string `n`'s sample, 10 ms after the last; `t` the reading of the NTC it names, mV (R342 to R346). -/
def execTcompSample (dt n t : Nat) (s : State) : Answered :=
  let s := s.tick dt
  let due : Bool := match (s.led n).tempAt with | some a => decide (a + 10000000 ≤ s.now) | none => true
  .next (if n < 12 ∧ s.supplied (ldObj n) ∧ due then s.ldMoveGain n (s.ldSource n t) else s).done

/-- `DIM_PERIOD_START`: the string's next period has come; DUTY, ISET and k take effect, and the commands that wait for it complete (R335 to R341, R349). -/
def execDimPeriodStart (dt n : Nat) (s : State) : Answered :=
  let s := s.tick dt
  let o := ldObj n
  let c := s.ldNext n
  let per := s.ldPer n
  .next (if s.ldRuns n && s.st o == 2 && decide (10 * c ≤ s.now) then
      let d := s.setDuty o
      -- a period that is reported late keeps the string's phase
      let at_ := 10 * (c + (s.now / 10 - c) / per * per)
      let s := (s.modObj o fun x => { x with duty := d, next := none, period := x.period + 1, perAt := at_ }).wr Reg.LD_OUT_DEFF n (s.ldDeff n d)
      let s := s.modLed n fun l => { l with iset := s.ldIset n, per }
      (s.cmdDone o).chgDone o
    else s).done

/-- The string's voltage and current can be measured in this period, 1 ms after the last measurement (R356). -/
def State.ldMeasured (s : State) (n : Nat) : Bool :=
  let d := s.rd Reg.LD_OUT_DEFF n
  let p := (s.obj (ldObj n)).period
  d != 0 && (decide (400 ≤ s.ldOnTime n d) || decide (0 < p ∧ (p - 1) % 64 = 0))
  && (match (s.led n).measAt with | some t => decide (t + 1000000 ≤ s.now) | none => true)

/-- `LD_MEASURE`: a current of `a` mA and a string voltage of `v` units of 20 mV (R352, R356, R357). -/
def execLdMeasure (dt n a v : Nat) (s : State) : Answered :=
  let s := s.tick dt
  let o := ldObj n
  .next (if !(s.ldRuns n && s.st o == 2 && s.ldMeasured n) then s
    else
      let s := ((s.wr Reg.LD_MEAS_IMEAS n a).wr Reg.LD_MEAS_VSTR n v).modLed n fun l => { l with vrem := some v, measAt := some s.now }
      let s := s.took o
      let lo := s.rd Reg.LD_CFG2_VLO n * 25
      let itgt := s.ldItgt n (s.led n).iset
      if s.flag Reg.LD_STAT_HEADROOM n then s.judged o 5
      else if s.rd Reg.LD_CFG2_VSHORT n * 25 ≤ 2 * v ∧ 2 * v < lo then
        let k := (s.led n).shorts + 1
        let s := s.modLed n fun l => { l with shorts := k }
        if 3 ≤ k then s.judged o 4 else s
      else
        let s := s.modLed n fun l => { l with shorts := 0 }
        if lo ≤ 2 * v ∧ 2 * v ≤ s.rd Reg.LD_CFG2_VOVP n * 25 ∧ 9 * itgt ≤ 10 * a ∧ 10 * a ≤ 11 * itgt then s.judged o 1 else s).done

/-! ### The matrix -/

/-- MX_ON and MX_BRIGHT (R370, R371). -/
def State.mxCmd (s : State) (c : Cmd) (on : Bool) : State :=
  let g := c.arg 16 1
  s.orElse c [s.limpBar mxObj, s.onBar mxObj] fun s =>
    if !on && s.st mxObj == 0 then (((s.begin c).modMx fun m => { m with gduty := g }).commanded mxObj).complete c .done
    else
      s.orElse c [s.ovBar mxObj] fun s =>
        let icol := s.mxIcol
        if s.isOn mxObj then
          if on ∨ s.mxSet < g then s.submit (s.cmdDemand c (.on 1 g) (claimsOver (s.mxStand icol g) (s.mxStand icol s.mxSet)) [] 0)
          else s.mxChange g (some c)
        else s.submit (s.cmdDemand c (.on 0 g) (s.mxStand icol g) [] 0)

/-- `MX_OFF` (R370). -/
def execMxOff (dt : Nat) (c : Cmd) (s : State) : Answered :=
  .next (s.serveOp dt c 0x2001 [.mx] fun s =>
    s.orElse c [s.limpBar mxObj, if s.st mxObj = 0 ∨ s.latched mxObj then none else s.ovBar mxObj] fun s =>
      (((s.begin c).mxOff).commanded mxObj).complete c .done).done

/-- `MX_ON` (R370). -/
def execMxOn (dt : Nat) (c : Cmd) (s : State) : Answered := .next (s.serveOp dt c 0x2002 [.mx] fun s => s.mxCmd c true).done

/-- `MX_BRIGHT` (R370). -/
def execMxBright (dt : Nat) (c : Cmd) (s : State) : Answered := .next (s.serveOp dt c 0x2003 [.mx] fun s => s.mxCmd c false).done

/-- `MX_CLEAR_FAULT` (R370). -/
def execMxClearFault (dt : Nat) (c : Cmd) (s : State) : Answered :=
  .next (s.serveOp dt c 0x2004 [.mx] fun s =>
    s.orElse c [s.limpBar mxObj] fun s =>
      if !s.latched mxObj then (s.commanded mxObj).complete c .done
      else s.orElse c [s.ovBar mxObj] fun s => (((s.begin c).mxClear).commanded mxObj).complete c .done).done

/-- The word that a list of checked fields of a descriptor gives for its word at byte `off`. -/
def packAt (r : List (Put × Nat)) (off : Nat) : Nat := (r.filter fun x => x.1.off == off).foldl (fun n x => n + x.2 * 2 ^ x.1.f.lo) 0

/-- `MX_CONFIG` (R363, R370, R371): a rise of ICOL while scanning is a demand. -/
def execMxConfig (dt : Nat) (c : Cmd) (s : State) : Answered :=
  .next (s.serveOp dt c 0x3001 [.mx] fun s =>
    let sup := c.argBits 16 24 1
    s.orElse c [barIf (sup != s.rd Reg.MX_CFG0_SUPSRC && !s.mxFree) .refusedState 0x0C05] fun s =>
      let r := s.clampAll c.pf 1 (imagePuts c 0x0C 0 2)
      let w := packAt r 16
      let es := clampsOf 1 c.pf c.tag c.object r
      let s := (s.logClamps 0x0C es).modFlight c fun x => { x with clamps := x.clamps + es.length }
      if s.isOn mxObj && decide (s.mxIcol < bits w 0 6) then
        let v := w + 2 ^ 32 * packAt r 20
        s.orElse c [s.ovBar mxObj] fun s =>
          s.submit (s.cmdDemand c (.on 2 v) (claimsOver (s.mxStandImage v s.mxSet) (s.mxStand s.mxIcol s.mxSet)) [] 0)
      else ((s.begin c).mxImage (w + 2 ^ 32 * packAt r 20)).complete c .done).done

/-- A swap is requested (R368). -/
def State.mxSwap (s : State) : State := s.wr Reg.MX_STAT_SWAPPEND 0 1

/-- `MX_FRAME`: `px` is what the host's memory holds at the frame's address (R91, R368, R370). -/
def execMxFrame (dt : Nat) (c : Cmd) (px : List Byte) (s : State) : Answered :=
  .next (s.serveOp dt c 0x3004 [.mx] fun s =>
    let addr := c.arg 16 8
    if addr % 8 ≠ 0 then s.complete c .refusedPolicy 0x0109
    else
      let r := s.dma c.pf addr 128
      if !r.2 then r.1.complete c .masterFrozen
      else
        let s := (r.1.begin c).modMx fun m => { m with back := (List.range 128).map fun k => px.getD k 0 % 256 }
        if c.argBits 24 0 1 = 1 then s.mxSwap.modMx fun m => { m with swapCmds := m.swapCmds ++ [c] } else s.complete c .done).done

/-- One LED's measurement in the frame that ends (R374, R375); a frame in which it is not measured breaks a run of low ones. -/
def State.mxLed (s : State) (lows b : Nat) : State :=
  if !s.mxMeasured b then (if tget 0 s.out.mx.low b = 0 then s else s.modMx fun m => { m with low := tdel m.low b })
  else
    s.modMx fun m =>
      if bit lows b then
        let k := tget 0 m.low b + 1
        { m with low := tput m.low b k, openMap := if 2 ≤ k then setBit m.openMap b else m.openMap, measAt := tput m.measAt b s.now }
      else { m with low := tput m.low b 0, openMap := clrBit m.openMap b, measAt := tput m.measAt b s.now }

/-- `MX_FRAME_BOUNDARY`: the last line slot of the frame ends; bit b of `lows` says that LED b's column fell below 0.3 V in it (R365, R368, R370, R374,
R375). -/
def execMxFrameBoundary (dt lows : Nat) (s : State) : Answered :=
  let s := s.tick dt
  .next (if !(s.supplied mxObj && s.st mxObj == 1 && decide (s.out.mx.frameAt + s.out.mx.frameLen ≤ s.now)) then s
    else
      let s := (List.range 128).foldl (fun s b => s.mxLed lows b) s
      let s := s.wr Reg.MX_STAT_FRAMES 0 (s.rd Reg.MX_STAT_FRAMES + 1)
      let s := if s.flag Reg.MX_STAT_SWAPPEND then
          let cs := s.out.mx.swapCmds
          let s := (s.modMx fun m => { m with front := m.back, back := m.front, swapCmds := [] }).wr Reg.MX_STAT_SWAPPEND 0 0
          cs.foldl (fun s c => s.complete c .done) s
        else s
      let s := match (s.obj mxObj).next with
        | some g => (s.modMx fun m => { m with gduty := g }).modObj mxObj fun x => { x with next := none }
        | none => s
      let s := s.modMx fun m => { m with frameAt := m.frameAt + (s.now - m.frameAt) / max 1 m.frameLen * m.frameLen, frameLen := s.mxFrame }
      s.mxJudge.chgDone mxObj).done

/-- `MX_ROW_SHORT` (R373). -/
def execMxRowShort (dt : Nat) (s : State) : Answered :=
  let s := s.tick dt
  .next (if s.supplied mxObj && s.st mxObj == 1 then s.objTrip mxObj .rowShort 3 else s).done

end Sys2Proof.Machine
end

