-- ==== Sys2Proof/Machine/ValveRows.lean ====
section
/-!
DEFINITION. Sys2Proof/Machine/ValveRows.lean: the meanings of the solenoid channel and boost converter commands and events (R380 to R432).
-/
namespace Sys2Proof.Machine

/-! ### Solenoid commands -/

/-- `SV_OFF` (R407, R426, R427). -/
def execSvOff (dt : Nat) (c : Cmd) (s : State) : Answered :=
  .next (s.serveOp dt c 0x2001 [.sv] fun s =>
    let o := c.object
    s.orElse c [s.limpBar o, if s.st o = 0 ∨ s.latched o then none else s.ovBar o] fun s =>
      (((s.begin c).svOff (objNum o)).commanded o).complete c .done).done

/-- An actuation demand that may fail only on the boost energy: BNRPOL decides (R301, R396, R398). -/
def State.svSubmit (s : State) (d : Demand) (c : Cmd) : State :=
  let n := objNum d.obj
  if s.cutRefuses d ∨ s.judge d = .never ∨ !s.svOnlyBoost d then s.submit d
  else
    let s := s.boostNotReady n
    match s.rd Reg.SV_CFG2_BNRPOL n with
    | 0 =>
      let t := s.now + s.rd Reg.SV_CFG2_TBNR n * 1000000
      s.submit { d with latest := match d.latest with | some l => some (min l t) | none => some t }
    | 1 => s.submit { d with trans := s.svTrans n false }
    | _ => (s.complete c .refusedBudget 0x0E1D).arbLog d .refusedBudget 0x0E1D

/-- `SV_ON` (R404 to R406, R427). -/
def execSvOn (dt : Nat) (c : Cmd) (s : State) : Answered :=
  .next (s.serveOp dt c 0x2002 [.sv] fun s =>
    let o := c.object
    let n := objNum o
    s.orElse c [s.limpBar o, s.onBar o] fun s =>
      if s.st o = 3 then (s.commanded o).complete c .done
      else if s.isOn o then ((s.begin c).commanded o).modValve n fun v => { v with extra := v.extra ++ [c] }
      else s.orElse c [s.ovBar o] fun s =>
        s.svSubmit (s.cmdDemand c (.on 0 0) (svStand n (s.svNextMa n)) (s.svTrans n true) (s.svTbst n + s.svTpk n)) c).done

/-- `SV_HOLD` (R427, R488): a rise is a demand; the outcome is the next hold chop period, of a channel that does not run the setting itself. -/
def execSvHold (dt : Nat) (c : Cmd) (s : State) : Answered :=
  .next (s.serveOp dt c 0x2003 [.sv] fun s =>
    let o := c.object
    let n := objNum o
    let v0 := c.arg 16 2
    let v := clampNat 5 (max 5 (min 400 (s.rd Reg.SV_CFG0_IPK n * 25 / 10))) v0
    s.orElse c [s.limpBar o, s.onBar o, s.loopBar o] fun s =>
      let s := s.descClamp c 0x0D 16 0 16 v0 v
      let now := s.svSetMa n
      if s.isOn o then
        s.orElse c [s.ovBar o] fun s =>
          if now < v * 10 then s.submit (s.cmdDemand c (.on 2 v) (claimsOver (svStand n (v * 10)) (svStand n now)) [] 0)
          else s.svServe { s.cmdDemand c (.on 2 v) [] [] 0 with cls := (s.load o).cls }
      else (((s.begin c).wr Reg.SV_CFG0_IHOLD n v).commanded o).complete c .done).done

/-- `SV_CLEAR_FAULT` (R420). -/
def execSvClearFault (dt : Nat) (c : Cmd) (s : State) : Answered :=
  .next (s.serveOp dt c 0x2004 [.sv] fun s =>
    let o := c.object
    let n := objNum o
    s.orElse c [s.limpBar o] fun s =>
      if !s.latched o then (s.commanded o).complete c .done
      else if !s.svGone n then s.clearPersists c 0x0D03
      else s.orElse c [s.ovBar o] fun s => (((s.begin c).svClear n).commanded o).complete c .done).done

/-- `SV_DIAG_CHECK` (R421). -/
def execSvDiagCheck (dt : Nat) (c : Cmd) (s : State) : Answered :=
  .next (s.serveOp dt c 0x2005 [.sv] fun s => s.orElse c [s.limpBar c.object] fun s => s.checkCmd c).done

/-- `SV_CONFIG` (R427). -/
def execSvConfig (dt : Nat) (c : Cmd) (s : State) : Answered :=
  .next (s.serveOp dt c 0x3001 [.sv] fun s =>
    ((s.begin c).putImage c 0x0D (imagePuts c 0x0D (0x40 * objNum c.object) 4)).complete c .done).done

/-- `SV_LEARN_RESET` (R416). -/
def execSvLearnReset (dt : Nat) (c : Cmd) (s : State) : Answered :=
  .next (s.serveOp dt c 0x3002 [.sv] fun s =>
    let n := objNum c.object
    (((s.begin c).wr Reg.SV_STAT_LEARNED n 0).wr Reg.SV_MEAS_TLRN n 0).complete c .done).done

/-- `SV_CONFIG2` (R427). -/
def execSvConfig2 (dt : Nat) (c : Cmd) (s : State) : Answered :=
  .next (s.serveOp dt c 0x3005 [.sv] fun s =>
    ((s.begin c).putImage c 0x0D (imagePuts c 0x0D (0x40 * objNum c.object + 0x10) 2)).complete c .done).done

/-! ### The actuation -/

/-- `BOOST_END`, TBST − 30 ns after BOOST's start at the earliest: energy `e` drawn from VBST (0.1 mJ), highest current `imax` (mA), time to IBST `ti` (µs, FFFFh for not reached), VBST now
(R394, R400, R410, R418). -/
def execBoostEnd (dt n e imax ti vbst : Nat) (s : State) : Answered :=
  let s := s.tick dt
  let o := svObj n
  let v := s.valve n
  .next (if !(s.svRuns n && s.st o == 1 && decide (v.phaseEnd ≤ s.now + 30)) then s
    else
      let s := ((s.wr Reg.SV_ACT1_EBST n (min 0xFFFF e)).wr Reg.SV_ACT0_TIBST n (min 0xFFFF ti)).wr Reg.BST_STAT_VBST 0 vbst
      let s := s.modValve n fun v => { v with drawn := e }
      if imax * 10 < v.ibst then s.svTrip n .openCoil 7
      else
        let s := s.svBoostDone n
        if v.tpk = 0 then s.svHold n else (s.setSt o 2).modValve n fun v => { v with phaseEnd := tb8 s.now + v.tpk }).done

/-- `PEAK_END`, TPK − 30 ns after PEAK's start at the earliest (R400, R404, R415, R417). -/
def execPeakEnd (dt n : Nat) (s : State) : Answered :=
  let s := s.tick dt
  let v := s.valve n
  .next (if s.svRuns n && s.st (svObj n) == 2 && decide (v.phaseEnd ≤ s.now + 30) then s.svHold n else s).done

/-- `DECAY_END`: the coil current is below 10 mA; `e` was recovered, 0.1 mJ, nothing when RECOV is 0 (R407, R408, R426). -/
def execDecayEnd (dt n e : Nat) (s : State) : Answered :=
  let s := s.tick dt
  let o := svObj n
  .next (if n < 16 ∧ s.supplied o ∧ !s.isOn o ∧ s.st o ≠ 0 then
    let s := s.wr Reg.SV_ACT1_EREC n (if s.flag Reg.SV_CFG2_RECOV n then min 0xFFFF e else 0)
    if s.st o = 4 then s.setSt o 0 else s else s).done

/-- The learned window, 10 µs per unit, bounded by the fixed one (R413). -/
def State.svWindow (s : State) (n : Nat) : Nat × Nat :=
  let t := s.rd Reg.SV_MEAS_TLRN n
  let w := s.rd Reg.SV_CFG4_WPCT n
  let v := s.valve n
  (max v.fwlo (roundDiv (t * (100 - w)) 100), min v.fwhi (roundDiv (t * (100 + w)) 100))

/-- The samples that show a dip count: its depth and its rise reach DIPTH, and it does not lie in the first 200 µs of PEAK (R412). -/
def State.svDipCounts (s : State) (n : Nat) (d : DipSeen) : Bool :=
  let v := s.valve n
  let th := 5 * s.rd Reg.SV_CFG4_DIPTH n
  decide (th ≤ d.fall ∧ th ≤ d.rise ∧ v.startAt + 10000 * d.t ≤ s.now) && !decide (v.tbst ≤ 10000 * d.t ∧ 10000 * d.t < v.tbst + 200000)

/-- `ARMATURE_DIP` (R411 to R413): the first dip of the learned window; one only in the rest of the fixed window counts as moved outside it. -/
def execArmatureDip (dt n : Nat) (d : DipSeen) (s : State) : Answered :=
  let s := s.tick dt
  let o := svObj n
  let v := s.valve n
  let t := d.t
  let learned := s.flag Reg.SV_STAT_LEARNED n && !s.flag Reg.SV_STAT_NOBOOST n
  let win := s.svWindow n
  let inside := !learned || decide (win.1 ≤ t ∧ t ≤ win.2)
  let arm := s.rd Reg.SV_STAT_ARM n
  .next (if !(s.svRuns n && (s.st o == 1 || s.st o == 2) && v.judging && decide (v.fwlo ≤ t ∧ t ≤ v.fwhi) && s.svDipCounts n d) then s
    else if !inside && arm != 0 then s
    else
      let s := (s.wr Reg.SV_STAT_ARM n (if inside then 1 else 3)).wr Reg.SV_ACT0_TDET n t
      s.modValve n fun v => { v with fixedWin := !inside, judging := !inside }).done

/-- `ARMATURE_STUCK`: the window has closed (R415). -/
def execArmatureStuck (dt n : Nat) (s : State) : Answered :=
  let s := s.tick dt
  let o := svObj n
  let v := s.valve n
  .next (if s.svRuns n && (s.st o == 1 || s.st o == 2) && v.judging && decide (v.startAt + v.fwhi * 10000 ≤ s.now) then
    let s := if s.rd Reg.SV_STAT_ARM n = 0 then s.wr Reg.SV_STAT_ARM n 2 else s
    s.modValve n fun v => { v with judging := false }
  else s).done

/-- `SV_SHORT`: the drain switch has been in its limit, 10 A - 10 % at the least, for 10 µs (R418). -/
def execSvShort (dt n : Nat) (m : Meas) (s : State) : Answered :=
  let s := s.tick dt
  .next (if s.svRuns n && decide (9000 ≤ m.i ∧ 10000 ≤ m.held) then (s.measure (svObj n) m).svTrip n .short 7 else s).done

/-- `BANK_SHORT` of bank `b`: 0 to 2 for A to C, 3 to 6 for SV12 to SV15 (R383). -/
def execBankShort (dt b : Nat) (s : State) : Answered :=
  let s := s.tick dt
  let ms := (List.range 16).filter fun n => bankOf n == b
  .next (if ms.any s.svRuns then
    let s := s.wr Reg.SV_BANK_BLATCH 0 (setBit (s.rd Reg.SV_BANK_BLATCH) b)
    (ms.filter fun n => !s.latched (svObj n)).foldl (fun s n => s.svTrip n .bankShort 7) s
  else s).done

/-- `SV_THERMAL` (R419). -/
def execSvThermal (dt n : Nat) (m : Meas) (s : State) : Answered :=
  let s := s.tick dt
  .next (if s.svRuns n && decide (225 ≤ m.tj) then (s.measure (svObj n) m).svTrip n .thermal 5 else s).done

/-- `SV_THERMAL_RESTART` (R419, R423). -/
def execSvThermalRestart (dt n : Nat) (m : Meas) (s : State) : Answered :=
  let s := s.tick dt
  let o := svObj n
  .next (if n < 16 ∧ s.supplied o ∧ s.st o = 5 ∧ !(s.obj o).asked ∧ m.tj ≤ 200 then
    let s := s.measure o m
    s.submitOwn (s.restartDemand o .restart) else s).done

/-- `SV_OFF_TEST`, every 10 ms: the drain voltage with the test current, 10 mV per unit (R421). -/
def execSvOffTest (dt n v : Nat) (s : State) : Answered :=
  let s := s.tick dt
  let o := svObj n
  let due : Bool := match (s.obj o).testAt with | some t => decide (t + 10000000 ≤ s.now) | none => true
  .next (if n < 16 ∧ s.supplied o ∧ s.st o = 0 ∧ s.flag Reg.SV_CFG4_OFFTEST n ∧ due ∧ !s.adcLost o then
    let s := s.modObj o fun x => { x with tookAt := some s.now, testAt := some s.now }
    (if 250 ≤ v then s.presentNow o else s.absentNow o 2) else s).done

/-! ### The boost converter -/

/-- `BST_OFF` (R388). -/
def execBstOff (dt : Nat) (c : Cmd) (s : State) : Answered :=
  .next (s.serveOp dt c 0x2001 [.bst] fun s =>
    s.orElse c [if s.st bstObj = 0 ∨ s.latched bstObj then none else s.ovBar bstObj] fun s => ((s.begin c).bstOff).complete c .done).done

/-- `BST_ON` (R388, R389). -/
def execBstOn (dt : Nat) (c : Cmd) (s : State) : Answered :=
  .next (s.serveOp dt c 0x2002 [.bst] fun s =>
    s.orElse c [s.onBar bstObj] fun s =>
      if s.isOn bstObj then s.bstAgain c
      else s.orElse c [s.ovBar bstObj] fun s => s.submit (s.cmdDemand c (.on 0 0) s.bstStand [] 0)).done

/-- `BST_CLEAR_FAULT` (R388). -/
def execBstClearFault (dt : Nat) (c : Cmd) (s : State) : Answered :=
  .next (s.serveOp dt c 0x2004 [.bst] fun s =>
    if !s.latched bstObj then s.complete c .done
    else s.orElse c [s.ovBar bstObj] fun s => ((s.begin c).bstClear).complete c .done).done

/-- `BST_CONFIG` (R388). -/
def execBstConfig (dt : Nat) (c : Cmd) (s : State) : Answered :=
  .next (s.serveOp dt c 0x3001 [.bst] fun s =>
    s.orElse c [barIf (s.st bstObj != 0) .refusedState 0x0D05] fun s =>
      ((s.begin c).putImage c 0x0D (imagePuts c 0x0D 0xC00 2)).complete c .done).done

/-- The converter runs. -/
def State.bstOn (s : State) : Bool := s.supplied bstObj && s.isOn bstObj

/-- The commands that wait for the converter complete. -/
def State.bstDone (s : State) : State := (s.cmdDone bstObj).chgDone bstObj

/-- `BST_READY`: VBST has reached VSET - 2 % at the least (R385, R388, R430). -/
def execBstReady (dt vbst : Nat) (s : State) : Answered :=
  let s := s.tick dt
  .next (if s.bstOn && s.st bstObj == 1 && decide (98 * (s.rd Reg.BST_CFG_VSET * 50) ≤ 100 * vbst) then
    (((s.wr Reg.BST_STAT_VBST 0 vbst).setSt bstObj 2).objEvent bstObj 0x85).bstDone else s).done

/-- `BST_SHORT` (R387). -/
def execBstShort (dt vbst : Nat) (s : State) : Answered :=
  let s := s.tick dt
  .next (if s.bstOn && s.st bstObj == 1 && decide (vbst < 500) && decide (s.out.bstOnAt + 2000000 ≤ s.now) then
    (s.wr Reg.BST_STAT_VBST 0 vbst).objTrip bstObj .short 5 else s).done

/-- `BST_THERMAL`: a sample of the converter's Tj: THERM_WAIT from 175 °C on, the restart demand from 150 °C down (R387). -/
def execBstThermal (dt : Nat) (m : Meas) (s : State) : Answered :=
  let s := s.tick dt
  .next (if s.bstOn && decide (225 ≤ m.tj) then (s.measure bstObj m).objTrip bstObj .thermal 3
    else if s.supplied bstObj ∧ s.st bstObj = 3 ∧ !(s.obj bstObj).asked ∧ m.tj ≤ 200 then
      let s := s.measure bstObj m
      s.submitOwn (s.restartDemand bstObj .restart)
    else s).done

/-- Switching stands still, or runs on (R387). -/
def State.bstHalt (s : State) (b : Bool) : State := { s with out := { s.out with bstStop := b } }

/-- `BST_OVERVOLTAGE_STOP` (R387). -/
def execBstOvervoltageStop (dt vbst : Nat) (s : State) : Answered :=
  let s := s.tick dt
  .next (if s.bstOn && decide (6800 < vbst) then (s.wr Reg.BST_STAT_VBST 0 vbst).bstHalt true else s).done

/-- `BST_OVERVOLTAGE_RESUME` (R387). -/
def execBstOvervoltageResume (dt vbst : Nat) (s : State) : Answered :=
  let s := s.tick dt
  .next (if s.out.bstStop && decide (vbst < 6600) then (s.wr Reg.BST_STAT_VBST 0 vbst).bstHalt false else s).done

/-- `BST_HEADROOM_SET`: VS6 and VBST, 10 mV per unit (R386, R388). -/
def execBstHeadroomSet (dt vs6 vbst : Nat) (s : State) : Answered :=
  let s := s.tick dt
  .next (if s.bstOn && decide (s.rd Reg.BST_CFG_VSET * 50 < vs6 + 300) then
    ((((s.setVolt 6 vs6).wr Reg.BST_STAT_VBST 0 vbst).wr Reg.BST_STAT_HEADROOM 0 1)).bstDone else s).done

/-- `BST_HEADROOM_CLEAR`: VS6 has been below VSET - 4 V for 10 ms (R386). -/
def execBstHeadroomClear (dt vs6 : Nat) (s : State) : Answered :=
  let s := s.tick dt
  .next (if s.supplied bstObj && decide (vs6 + 400 < s.rd Reg.BST_CFG_VSET * 50) then (s.setVolt 6 vs6).wr Reg.BST_STAT_HEADROOM 0 0 else s).done

end Sys2Proof.Machine
end

