-- ==== Sys2Proof/Machine/BridgeRows.lean ====
section
/-!
DEFINITION. Sys2Proof/Machine/BridgeRows.lean: the meanings of the motor bridge commands and events (R433 to R466), and the PWM period start of the
channels and the bridges (R162 to R164, R438, R445).
-/
namespace Sys2Proof.Machine

/-! ### Commands -/

/-- `HB_OFF` (R442). -/
def execHbOff (dt : Nat) (c : Cmd) (s : State) : Answered :=
  .next (s.serveOp dt c 0x2001 [.hb] fun s =>
    let o := c.object
    s.orElse c [s.hbMemberBar o, s.limpBar o, if s.st o = 0 ∨ s.latched o then none else s.ovBar o] fun s =>
      (((s.begin c).hbOff (objNum o)).commanded o).complete c .done).done

/-- HB_DRIVE and HB_MOVE (R440, R444, R446, R458, R488). -/
def State.hbCmd (s : State) (c : Cmd) : State :=
  let o := c.object
  let n := objNum o
  let duty0 := c.arg 18 2
  let duty := s.hbRaise n duty0
  let goal := c.argBits 16 2 2
  s.orElse c [s.hbMemberBar o, s.limpBar o, s.onBar o, s.loopBar o,
      barIf (c.op == 0x2006 && goal == 0 && !s.flag Reg.HB_STAT_POSVALID n) .refusedState 0x0A09] fun s =>
    let s := if c.op = 0x2006 then s.descClamp c 0x0A 16 2 2 goal (min 2 goal) else s
    let s := s.descClamp c 0x0A 18 0 16 duty0 duty
    s.orElse c [s.ovBar o] fun s =>
      let v := hbDriveOf c duty
      if s.hbRuns n && v.dir == s.hbDir n then
        let old := s.rd Reg.HB_OUT_DUTY n
        if old < duty then s.submit (s.cmdDemand c (.on 2 duty) (claimsOver (s.hbStand n duty) (s.hbStand n old)) [] 0)
        else s.hbChange n v (some c)
      else s.submit (s.cmdDemand c (.on (if s.hbRuns n then 1 else 0) duty) (s.hbStand n duty) (s.hbTrans n) (s.hbTransDur n))

/-- `HB_DRIVE` (R442, R446). -/
def execHbDrive (dt : Nat) (c : Cmd) (s : State) : Answered := .next (s.serveOp dt c 0x2002 [.hb] fun s => s.hbCmd c).done

/-- `HB_MOVE` (R443, R444). -/
def execHbMove (dt : Nat) (c : Cmd) (s : State) : Answered := .next (s.serveOp dt c 0x2006 [.hb] fun s => s.hbCmd c).done

/-- `HB_BRAKE` (R442, R447). -/
def execHbBrake (dt : Nat) (c : Cmd) (s : State) : Answered :=
  .next (s.serveOp dt c 0x2003 [.hb] fun s =>
    let o := c.object
    let n := objNum o
    let m0 := c.argBits 16 0 2
    let m := if 1 < m0 then 0 else m0
    s.orElse c [s.hbMemberBar o, s.limpBar o, s.onBar o] fun s =>
      let s := s.descClamp c 0x0A 16 0 2 m0 m
      s.orElse c [s.ovBar o] fun s =>
        let s := s.begin c
        let s := if s.hbRuns n then s.hbMotionEnd n 6 else s
        (((s.endWaiting o .done 0).hbStop n m).commanded o).complete c .done).done

/-- `HB_CLEAR_FAULT` (R451). -/
def execHbClearFault (dt : Nat) (c : Cmd) (s : State) : Answered :=
  .next (s.serveOp dt c 0x2004 [.hb] fun s =>
    let o := c.object
    let n := objNum o
    s.orElse c [s.hbMemberBar o, s.limpBar o] fun s =>
      if !s.latched o then (s.commanded o).complete c .done
      else if s.rd Reg.HB_STAT_CAUSE n = 2 ∧ 200 < s.tjOf o then s.clearPersists c 0x0A03
      else s.orElse c [s.ovBar o] fun s => (((s.begin c).hbClear n).commanded o).complete c .done).done

/-- `HB_DIAG_CHECK` (R453). -/
def execHbDiagCheck (dt : Nat) (c : Cmd) (s : State) : Answered :=
  .next (s.serveOp dt c 0x2005 [.hb] fun s => s.orElse c [s.hbMemberBar c.object, s.limpBar c.object] fun s => s.checkCmd c).done

/-- `HB_SETPOS` (R442). -/
def execHbSetpos (dt : Nat) (c : Cmd) (s : State) : Answered :=
  .next (s.serveOp dt c 0x2007 [.hb] fun s =>
    let o := c.object
    let n := objNum o
    s.orElse c [s.hbMemberBar o, s.limpBar o] fun s =>
      ((((s.begin c).wr Reg.HB_POS_POS n (c.arg 16 2)).wr Reg.HB_STAT_POSVALID n 1).commanded o).complete c .done).done

/-- A MODE of HB_CONFIG that would change while a bridge of the group is not OFF (R435). -/
def State.modeBar (s : State) (o v : Nat) : Option (Code × Nat) :=
  let n := objNum o
  let v := s.hbModeIn n v
  barIf (v != s.rd Reg.HB_CFG0_MODE n && !s.hbFree n v) .refusedState 0x0A05

/-- `HB_CONFIG` (R435, R436, R442). -/
def execHbConfig (dt : Nat) (c : Cmd) (s : State) : Answered :=
  .next (s.serveOp dt c 0x3001 [.hb] fun s =>
    let o := c.object
    s.orElse c [s.hbMemberBar o, s.modeBar o (c.argBits 16 0 2)] fun s =>
      ((s.begin c).putImage c 0x0A (imagePuts c 0x0A (0x40 * objNum o) 4)).complete c .done).done

/-- `HB_CONFIG2` (R436, R442). -/
def execHbConfig2 (dt : Nat) (c : Cmd) (s : State) : Answered :=
  .next (s.serveOp dt c 0x3005 [.hb] fun s =>
    let o := c.object
    s.orElse c [s.hbMemberBar o] fun s =>
      ((s.begin c).putImage c 0x0A (imagePuts c 0x0A (0x40 * objNum o + 0x10) 1)).complete c .done).done

/-! ### Motions -/

/-- The leader of a bridge group of a supplied P2. -/
def State.hbLive (s : State) (n : Nat) : Bool := decide (n < 12) && s.supplied (hbObj n) && s.hbLeader n == n

/-- A current sample enters MEAS and the motion's peak. -/
def State.hbAmps (s : State) (n a : Nat) : State :=
  let m := (sgn 16 a).natAbs
  (s.wr Reg.HB_MEAS_IMEAS n a).modBridge n fun b => { b with peak := max b.peak m }

/-- A ripple counts: in RAMP to REVERSE a fall of RIPTH at a rate of 40 Hz to 8 kHz, in coast a back-EMF of 0.5 V or more (R454). -/
def State.hbRipples (s : State) (n rate : Nat) (a : RippleSeen) : Bool :=
  if [1, 2, 3, 4].contains (s.st (hbObj n)) then decide (40 ≤ rate ∧ rate ≤ 8000 ∧ s.rd Reg.HB_CFG2_RIPTH n ≤ a.fall) else decide (50 ≤ a.emf)

/-- `RIPPLE_COUNT`: one ripple, at `rate` ripples per second (R443, R454, R455, R457). -/
def execRippleCount (dt n rate : Nat) (a : RippleSeen) (s : State) : Answered :=
  let s := s.tick dt
  .next (if !(s.hbLive n && s.hbRipples n rate a) then s
    else
      let up := s.rd Reg.HB_STAT_DIR n == 0
      let pos := (s.rd Reg.HB_POS_POS n + (if up then 1 else 65535)) % 65536
      let s := ((s.wr Reg.HB_POS_POS n pos).wr Reg.HB_MEAS_RIPRATE n (min 0xFFFF rate)).hbAmps n a.i
      let s := s.modBridge n fun b => { b with ripples := b.ripples + 1, rippleAt := s.now }
      let b := s.bridge n
      let drives := s.st (hbObj n) == 1 || s.st (hbObj n) == 2
      if !drives then s
      else match b.trap with
        | some k => if k ≤ 1 then s.hbEnd n 4 else s.modBridge n fun b => { b with trap := some (k - 1) }
        | none => if b.goal = some 0 ∧ pos = s.rd Reg.HB_POS_TARGET n then s.hbEnd n 0 else s).done

/-- The bridge has stalled: in RUN, for TSTALL, no ripple has come, or the current has stood at ISTALL or above (R456). -/
def State.hbStalled (s : State) (n : Nat) (a : Lasting) : Bool :=
  let b := s.bridge n
  let t := s.rd Reg.HB_CFG1_TSTALL n * 1000000
  decide (max b.runAt b.rippleAt + t ≤ s.now)
  || (decide (25 * s.rd Reg.HB_CFG1_ISTALL n ≤ (sgn 16 a.v).natAbs) && decide (t ≤ min a.held (s.now - b.runAt)))

/-- `HB_STALL`: the current `a.v`, 10 mA, and for how long it has stood at ISTALL or above (R443, R456). -/
def execHbStall (dt n : Nat) (a : Lasting) (s : State) : Answered :=
  let s := s.tick dt
  .next (if !(s.hbLive n && s.st (hbObj n) == 2 && decide (6554 ≤ s.rd Reg.HB_OUT_DEFF n) && s.hbStalled n a) then s
    else
      let s := s.hbAmps n a.v
      if (s.bridge n).goal = some 1 then
        ((s.wr Reg.HB_POS_POS n (s.rd Reg.HB_POS_TARGET n)).wr Reg.HB_STAT_POSVALID n 1).hbEnd n 1
      else if (s.bridge n).trap.isSome then s.hbEnd n 4
      else s.hbEnd n 3).done

/-- `HB_TMAX_EXPIRY` (R443, R461): of a motion, the drive of a limp state among them. -/
def execHbTmaxExpiry (dt n : Nat) (s : State) : Answered :=
  let s := s.tick dt
  let b := s.bridge n
  .next (if s.hbLive n && s.hbRuns n && b.timed && decide (b.startAt + s.rd Reg.HB_CFG2_TMAX n * 100000000 ≤ s.now) then s.hbEnd n 5 else s).done

/-- POS lies in the trap zone (R457). -/
def State.inZone (s : State) (n : Nat) : Bool :=
  let p := sgn 16 (s.rd Reg.HB_POS_POS n)
  decide (sgn 16 (s.rd Reg.HB_CFG4_TZLO n) ≤ p) && decide (p ≤ sgn 16 (s.rd Reg.HB_CFG4_TZHI n))

/-- `HB_TRAP`: the current `a` exceeds the mean `mean` by TRAPTH, both in 10 mA (R457, R466). -/
def execHbTrap (dt n a mean : Nat) (s : State) : Answered :=
  let s := s.tick dt
  let th := s.rd Reg.HB_CFG3_TRAPTH n
  .next (if !(s.hbLive n && s.st (hbObj n) == 2 && th != 0 && s.rd Reg.HB_STAT_DIR n == s.rd Reg.HB_CFG3_TRAPDIR n && s.inZone n
      && decide (16 ≤ (s.bridge n).ripples) && (s.bridge n).trap.isNone && decide ((sgn 16 mean).natAbs + 10 * th < (sgn 16 a).natAbs)) then s
    else
      let s := s.hbAmps n a
      let s := s.raise 0x0A84 (hbObj n) (atByte 18 (s.rd Reg.HB_POS_POS n) + atByte 20 a + atByte 22 mean)
      let s := (s.hbSt n 4).wr Reg.HB_OUT_DEFF n 0
      s.modBridge n fun b => { b with
        trap := some (s.rd Reg.HB_CFG3_REVCNT n), revEnd := s.now + s.rd Reg.HB_CFG1_TREV n * 1000000, rampEnd := none
        after := some (1 - s.rd Reg.HB_STAT_DIR n, s.rd Reg.HB_OUT_DUTY n) }).done

/-- `HB_RAMP_END` (R445). -/
def execHbRampEnd (dt n : Nat) (s : State) : Answered :=
  let s := s.tick dt
  let o := hbObj n
  .next (if s.hbLive n && s.st o == 1 && (match (s.bridge n).rampEnd with | some t => decide (t ≤ s.now) | none => true) then
    let s := (s.hbSt n 2).wr Reg.HB_OUT_DEFF n (s.hbMinDuty n (s.rd Reg.HB_OUT_DUTY n))
    s.modBridge n fun b => { b with rampEnd := none, ripples := 0, runAt := s.now }
  else s).done

/-- `HB_REVERSE_END`: TREV has elapsed, and the opposite drive starts with a ramp (R446, R457). -/
def execHbReverseEnd (dt n : Nat) (s : State) : Answered :=
  let s := s.tick dt
  let b := s.bridge n
  .next (if !(s.hbLive n && s.st (hbObj n) == 4 && decide (b.revEnd ≤ s.now)) then s
    else if b.trap = some 0 then s.hbEnd n 4
    else match b.after with
      | some a => (s.modBridge n fun b => { b with after := none }).hbGo n { dir := a.1, duty := a.2 }
      | none => s.hbEnd n 6).done

/-- `HB_SHORT`: a switch that is on shows a drain-to-source voltage `m.vout` above 3.0 V for 1 µs (R449, R452). -/
def execHbShort (dt n : Nat) (m : Meas) (s : State) : Answered :=
  let s := s.tick dt
  .next (if s.hbLive n && (s.hbRuns n || s.st (hbObj n) == 3) && decide (300 < m.vout ∧ 1000 ≤ m.held) then (s.measure (hbObj n) m).hbTrip n .short 7 else s).done

/-- `HB_THERMAL` (R450, R460). -/
def execHbThermal (dt n : Nat) (m : Meas) (s : State) : Answered :=
  let s := s.tick dt
  .next (if s.hbLive n && (s.hbRuns n || s.st (hbObj n) == 3) && decide (225 ≤ m.tj) then (s.measure (hbObj n) m).hbTrip n .thermal 5 else s).done

/-- `HB_THERMAL_RESTART` (R450, R460). -/
def execHbThermalRestart (dt n : Nat) (m : Meas) (s : State) : Answered :=
  let s := s.tick dt
  let o := hbObj n
  .next (if s.hbLive n && s.st o == 5 && !(s.obj o).asked && decide (m.tj ≤ 200) then (s.measure o m).restart o .restart else s).done

/-- `HB_OPEN_DETECT`: the current has stayed below 100 mA for 200 ms (R453). -/
def execHbOpenDetect (dt n : Nat) (s : State) : Answered :=
  let s := s.tick dt
  .next (if s.hbLive n && s.st (hbObj n) == 2 && decide (16384 ≤ s.rd Reg.HB_OUT_DEFF n) && decide ((s.bridge n).runAt + 200000000 ≤ s.now)
    && !s.adcLost (hbObj n) then s.judged (hbObj n) 2 else s).done

/-! ### Period starts -/

/-- A PWM period of a bridge starts: the ramp steps, a new duty acts, the start completes (R438, R442, R445, R448); `lim` says that a half has reached
ILIM in the period. -/
def State.hbPeriod (s : State) (n : Nat) (lim : Bool) : State :=
  let o := hbObj n
  let d := s.setDuty o
  let b := s.bridge n
  let s := s.wrb Reg.HB_STAT_INLIMIT n lim
  let full := s.rd Reg.HB_CFG1_TRAMP n * 10000000
  let deff := match b.rampEnd with
    | some t => if t ≤ s.now then d else d * (full - (t - s.now)) / max 1 full
    | none => d
  let s := s.wr Reg.HB_OUT_DEFF n (s.hbMinDuty n deff)
  let s := if b.rampEnd.isSome then s else s.modObj o fun x => { x with duty := d, next := none }
  ((s.modObj o fun x => { x with perAt := s.now }).cmdDone o).chgDone o

/-- TB8's count has reached a start of the bridge's PWM period since the last one (R438). -/
def State.hbPeriodDue (s : State) (n : Nat) : Bool := s.boundary 10 (s.hbPer n) 0 (s.obj (hbObj n)).perAt

/-- In BRAKE a period starts with the brake switches closed; they open for the rest of it when a half reaches ILIM (R447). -/
def State.hbBrakePeriod (s : State) (n : Nat) (lim : Bool) : State :=
  (s.modObj (hbObj n) fun x => { x with perAt := s.now }).modBridge n fun b => { b with brakeLim := lim }

/-- A PWM period of a channel starts (R162 to R164): its on-time is a gate-drive start (R946), and a first period of duty 0 leaves the channel off since
the end of its last on-time (R237). -/
def State.chPeriod (s : State) (o : Nat) : State :=
  let d := s.setDuty o
  let pwm := (s.obj o).target == 2
  let ended := (s.obj o).perAt + 10 * s.chOnTime (chIx o)
  let s := if d = 0 then s else (s.chMembers (chIx o)).foldl (fun s m => s.noteGate (chObj m)) s
  let s := s.modObj o fun x => { x with
    duty := d, next := none, period := x.period + 1, perAt := s.now, lastOff := if d = 0 ∧ x.duty ≠ 0 then min s.now ended else x.lastOff }
  if pwm then (s.cmdDone o).chgDone o else s

/-- TB8's count has reached a start of the channel's period, PHASE / 256 of it, since the last one (R160, R162). -/
def State.chPeriodDue (s : State) (i : Nat) : Bool :=
  let per := s.rd Reg.CH_CFG2_PER i * 1000
  s.boundary 10 per (per * s.rd Reg.CH_CFG2_PHASE i / 256) (s.obj (chObj i)).perAt

/-- `PWM_PERIOD_START` of a channel or bridge group, at its leader; `lim`: a half of the bridge has reached ILIM in the period, `o.v`: drain voltage of
an LS channel before the gate drive, 10 mV. -/
def execPwmPeriodStart (dt : Nat) (o : Seen) (lim : Bool) (s : State) : Answered :=
  let s := s.tick dt
  .next (match kindOf o.n with
    | .hb =>
      if !(s.hbLive (objNum o.n) && s.hbPeriodDue (objNum o.n)) then s
      else if s.st o.n == 1 || s.st o.n == 2 then s.hbPeriod (objNum o.n) lim
      else if s.st o.n == 3 then s.hbBrakePeriod (objNum o.n) lim
      else s
    | _ => if s.isCh o.n && s.chLead o.n == o.n && s.st o.n == 1 && s.chPeriodDue (chIx o.n) then (s.noteVd o.n o.v).chPeriod o.n else s).done

end Sys2Proof.Machine
end

