-- ==== Sys2Proof/Machine/LoopRows.lean ====
section
/-!
DEFINITION. Sys2Proof/Machine/LoopRows.lean: the meanings of the control loop commands and of a loop's sample (R467 to R497).
-/
namespace Sys2Proof.Machine

/-- IS_CLOSED (R486). -/
def State.closedBar (s : State) (n : Nat) : Option (Code × Nat) := barIf (s.rd Reg.LP_STAT_STATE n != 0) .refusedState 0x1001

/-- `LOOP_OPEN` (R489, R490, R493). -/
def execLoopOpen (dt : Nat) (c : Cmd) (s : State) : Answered :=
  .next (s.serveOp dt c 0x2001 [.loop] fun s =>
    let n := objNum c.object
    let m0 := c.argBits 16 0 2
    let m := min 2 m0
    let open0 := s.rd Reg.LP_STAT_STATE n == 0
    s.orElse c [if open0 || m == 0 then none else s.ovBar (s.loopObj n)] fun s =>
      let s := s.descClamp c 0x10 16 0 2 m0 m
      if open0 then s.complete c .done
      else (((s.begin c).loopMode n m).loopToOpen n 1 .done 0).complete c .done).done

/-- The limits of a loop as a LOOP_CLOSE checks them again (R468). -/
def State.limitPuts (s : State) (n : Nat) : List Put :=
  [{ f := Reg.LP_OUTMIN, i := n, off := 0x40 * n + 0x1C, v := s.rd Reg.LP_OUTMIN n }, { f := Reg.LP_OUTMAX, i := n, off := 0x40 * n + 0x20, v := s.rd Reg.LP_OUTMAX n },
   { f := Reg.LP_OFIX, i := n, off := 0x40 * n + 0x24, v := s.rd Reg.LP_OFIX n }]

/-- `LOOP_CLOSE` (R468, R469, R483, R484, R489). -/
def execLoopClose (dt : Nat) (c : Cmd) (s : State) : Answered :=
  .next (s.serveOp dt c 0x2002 [.loop] fun s =>
    let n := objNum c.object
    let o := s.loopObj n
    let taken := (List.range 48).any fun m => m != n && s.loopObj m == o && s.rd Reg.LP_STAT_STATE m != 0
    let bump := c.argBits 16 0 1
    let cls := s.demandClass c
    s.orElse c [barIf (s.loopBound n && s.ownerFor c o != c.pf) .refusedSecurity 0x0107, barIf (!s.loopBound n) .refusedPolicy 0x1004,
        barIf taken .refusedPolicy 0x1005, barIf (!s.loopDriven n) .refusedState 0x1003, s.closedBar n,
        s.ovBar o] fun s =>
      let s := if s.flag Reg.LP_STAT_EVER n then s else s.descClamp c 0x10 16 0 1 bump 0
      let s := s.putImage c 0x10 (s.limitPuts n)
      let d : Demand := { s.cmdDemand c (.on 0 0) (s.loopExtra n) [] 0 with cls }
      if (s.loopExtra n).isEmpty then s.loopEngage d else s.submit d).done

/-- `LOOP_SETPOINT` (R487, R493). -/
def execLoopSetpoint (dt : Nat) (c : Cmd) (s : State) : Answered :=
  .next (s.serveOp dt c 0x2003 [.loop] fun s => ((s.begin c).wr Reg.LP_SP (objNum c.object) (c.arg 16 4)).complete c .done).done

/-- `CLEAR_FLAGS` (R477, R493). -/
def execClearFlags (dt : Nat) (c : Cmd) (s : State) : Answered :=
  .next (s.serveOp dt c 0x2004 [.loop] fun s =>
    let n := objNum c.object
    ((((s.begin c).wr Reg.LP_FLAGS n 0).wr Reg.LP_FLAGS_OUTLIM n 0).wr Reg.LP_FLAGS_SATTO n 0).wr Reg.LP_FLAGS_FBLOST n 0 |>.complete c .done).done

/-- A configuration command of a loop: refused while it is not OPEN (R486). -/
def State.loopImage (s : State) (c : Cmd) (off k : Nat) : State :=
  let n := objNum c.object
  match s.closedBar n with
  | some (code, e) => (s.loopCount n 6).complete c code e
  | none => ((s.begin c).putImage c 0x10 (imagePuts c 0x10 (0x40 * n + off) k)).complete c .done

/-- `LOOP_CONFIG` (R486, R493). -/
def execLoopConfig (dt : Nat) (c : Cmd) (s : State) : Answered := .next (s.serveOp dt c 0x3001 [.loop] fun s => s.loopImage c 0 2).done

/-- `LOOP_COEF` (R486, R493). -/
def execLoopCoef (dt : Nat) (c : Cmd) (s : State) : Answered := .next (s.serveOp dt c 0x3006 [.loop] fun s => s.loopImage c 8 4).done

/-- `LOOP_LIMITS` (R468, R486, R493). -/
def execLoopLimits (dt : Nat) (c : Cmd) (s : State) : Answered := .next (s.serveOp dt c 0x3007 [.loop] fun s => s.loopImage c 0x18 4).done

/-- `LOOP_SLEW` (R487, R493). -/
def execLoopSlew (dt : Nat) (c : Cmd) (s : State) : Answered :=
  .next (s.serveOp dt c 0x3008 [.loop] fun s =>
    ((s.begin c).putImage c 0x10 (imagePuts c 0x10 (0x40 * objNum c.object + 0x28) 2)).complete c .done).done

/-- The feedback of loop `n` in Q15.16 before it saturates (R343, R470): `raw` is its own measurement as a 64-bit pattern, or the reading of the NTC's
land in mV. -/
def State.loopFeed (s : State) (n raw : Nat) : Int :=
  let o := s.loopObj n
  match s.rd Reg.LP_CFG0_FBSRC n with
  | 1 => 8192 * s.ntcTemp (s.rd Reg.LP_CFG0_FBIDX n) raw
  | 2 => s.tcase * 8192
  | 3 => 65536 * (((if isKind .hs o ∨ isKind .ls o then s.tjOf o else s.rd Reg.GLB_TDIE_P2 : Nat) : Int) - 50)
  | _ => sgn 64 raw

/-- Refresh interval of loop `n`'s feedback source, ns (R467, R470). -/
def State.loopRefresh (s : State) (n : Nat) : Ns :=
  let o := s.loopObj n
  match s.rd Reg.LP_CFG0_FBSRC n with
  | 1 => 10000000
  | 2 => 10000000
  | 3 => 20000
  | _ =>
    match s.rd Reg.LP_CFG0_KIND n with
    | 2 => 1000000 / max 1 (s.valve (objNum o)).fhold
    | 3 => 10 * s.hbPer (objNum o)
    | 5 => if (s.obj (s.chLead o)).target = 1 ∨ s.chDuty o = 65535 then 1000000 else 10000 * s.rd Reg.CH_CFG2_PER (s.chIdx o)
    | _ => 1000000

/-- Loop `n`'s sample instant has come since the last one: TB9's count is (n × 80) mod (PERIOD × 80), modulo PERIOD × 80 (R472). -/
def State.loopDue (s : State) (n : Nat) : Bool :=
  countPassed (80 * s.rd Reg.LP_CFG1_PERIOD n) (80 * n) (tb9 (s.loop n).sampleAt) (tb9 s.now)

/-- `LOOP_SAMPLE`: loop `n`'s sample instant; the source's newest value is `age` ns old, and valid up to twice its refresh interval (R471, R472, R478,
R479, R808). -/
def execLoopSample (dt n age raw : Nat) (s : State) : Answered :=
  let s := s.tick dt
  let st := s.rd Reg.LP_STAT_STATE n
  let lost := s.rd Reg.LP_CFG0_FBSRC n == 0 && s.adcLost (s.loopObj n)
  let ntc := s.rd Reg.LP_CFG0_FBSRC n == 1 && s.flag Reg.LD_STAT_NTCFAULT (s.rd Reg.LP_CFG0_FBIDX n)
  .next (if s.dieC && decide (n < 48) && (st == 1 || st == 2) && s.loopDue n then
    let s := s.modLoop n fun l => { l with sampleAt := s.now }
    (if decide (age ≤ 2 * s.loopRefresh n) && !ntc && !lost then s.loopValid n (s.loopFeed n raw) else s.loopMiss n) else s).done

end Sys2Proof.Machine
end

