-- ==== Sys2Proof/Machine/InputRows.lean ====
section
/-!
DEFINITION. Sys2Proof/Machine/InputRows.lean: switch inputs, isolated inputs and outputs, and the serial barrier (R498 to R537).
-/
namespace Sys2Proof.Machine

/-! ### Switch inputs -/

/-- `SW_CONFIG` (R499 to R504, R535). -/
def execSwConfig (dt : Nat) (c : Cmd) (s : State) : Answered :=
  .next (s.serveOp dt c 0x3001 [.sw] fun s =>
    ((s.begin c).putImage c 0x11 (imagePuts c 0x11 (0x10 * objNum c.object) 2)).complete c .done).done

/-- The comparator of input `n` at `vin` (10 mV): between the thresholds it keeps its last reading (R502). -/
def State.swRead (s : State) (n vin : Nat) : Bool :=
  if s.rd Reg.SW_CFG0_THRHI n * 25 ≤ vin then true else if vin ≤ s.rd Reg.SW_CFG0_THRLO n * 25 then false else (s.sw n).cmp

/-- Debouncing: the new run of agreeing samples after a sample of `v`. -/
def agree (last v : Bool) (run : Nat) : Nat := if last == v then min 16 (run + 1) else 1

/-- Motions whose park input has come to read PARKLVL end (R443). -/
def State.parkCheck (s : State) : State :=
  (List.range 12).foldl (fun s n =>
    if s.hbLive n && s.hbRuns n && (s.bridge n).goal == some 2 && s.hbParked n then s.hbEnd n 2 else s) s

/-- A sample of input `n` (R502 to R504, R537). -/
def State.swTake (s : State) (n vin : Nat) : State :=
  let v := s.swRead n vin
  let x := s.sw n
  let run := agree x.cmp v x.run
  let ok := decide (s.rd Reg.SW_CFG0_DEBN n + 1 ≤ run)
  let s := s.modSw n fun x => { x with cmp := v, run, sampleAt := some s.now }
  let s := (s.wr Reg.SW_MEAS_VIN n (min 6000 vin)).wrb Reg.SW_STAT_RAW n v
  if !ok then (if v == x.deb && s.flag Reg.SW_STAT_VALID n then s.modSw n fun x => { x with smp := some ⟨s.now, s.ntime⟩ } else s)
  else
    let s := (s.wr Reg.SW_STAT_VALID n 1).modSw n fun x => { x with smp := some ⟨s.now, s.ntime⟩ }
    if v == x.deb then s
    else
      let level := b2n (v != s.flag Reg.SW_CFG1_INV n)
      let s := s.modSw n fun x => { x with deb := v, changed := s.ntime }
      let s := (s.wr Reg.SW_STAT_LEVEL n level).bump Reg.SW_STAT_CHG n
      let s := if level = 1 ∧ s.flag Reg.TW_SOL_IGNEN ∧ s.rd Reg.TW_SOL_IGNSW = n then s.tw fun t => { t with ignAt := some s.now } else s
      if s.flag Reg.SW_CFG1_EVEN n then
        s.raise 0x1181 (0x100 + n) (atByte 16 level + atByte 17 1 + atByte 18 (s.rd Reg.SW_MEAS_VIN n))
      else s

/-- The front end samples: it has its supply and the module is not in Stop (R505 to R507). -/
def State.frontEnd (s : State) : Bool :=
  !s.pwr.brownout && (match s.pwr.phase with | .unpowered => false | .stop => false | _ => true)

/-- A sample of input `n` is due: SPER after the one before (R503). -/
def State.swDue (s : State) (n : Nat) : Bool := s.since (s.sw n).sampleAt (s.rd Reg.SW_CFG1_SPER n * 100000)

/-- The poll period (R511). -/
def State.pollPeriod (s : State) : Ns :=
  match s.rd Reg.SW_STOPCFG_PROFILE with
  | 0 => 1000000000 | 1 => 200000000 | 2 => 50000000 | _ => s.rd Reg.SW_STOPCFG_TPERC * 10000000

/-- TPOLL: one or two periods of TB1, which counts at 32,768 Hz (R511). -/
def State.tpoll (s : State) : Ns := if s.flag Reg.SW_STOPCFG_TPOLL then 61035 else 30518

/-- The wetting current of input `n` at this moment in mA, from VBAT into the switch or, negative, to GND (R499): without a pause or from 64 µs before a
sample instant (R500, R501), in Stop over the TPOLL before the comparison of a poll (R507, R509), and none from a front end without supply (R506). -/
def State.swWet (s : State) (n : Nat) : Int :=
  let x := s.sw n
  let ma := fun (k : Nat) => if s.flag Reg.SW_CFG0_PULL n then -(k : Int) else (k : Int)
  if s.frontEnd then
    if !s.flag Reg.SW_CFG0_SAMPLED n || s.since x.sampleAt (s.rd Reg.SW_CFG1_SPER n * 100000 - 64000) then ma (wetMa (s.rd Reg.SW_CFG0_WET n)) else 0
  else if s.pwr.phase == .stop && !s.pwr.brownout && s.rd Reg.SW_CFG1_WAKE n == 2 && s.since x.pollAt (s.pollPeriod - s.tpoll) then
    ma (if s.flag Reg.SW_CFG1_SWET n then 10 else 2)
  else 0

/-- A wake of input `n` is latched (R513). -/
def State.swLatch (s : State) (n : Nat) (poll : Bool) : State :=
  let f := if n < 32 then Reg.SW_WAKE0 else Reg.SW_WAKE1
  (s.wr f 0 (setBit (s.rd f) (n % 32))).modSw n fun x => { x with wakeAt := s.ntime, polled := poll }

/-- WEDGE accepts a debounced level, before INV, that becomes `v` (R510). -/
def State.edgeOk (s : State) (n : Nat) (v : Bool) : Bool :=
  let up := v != s.flag Reg.SW_CFG1_INV n
  match s.rd Reg.SW_CFG1_WEDGE n with | 1 => up | 2 => !up | _ => true

/-- A static input's comparator has changed for 100 µs, 70 µs at the least: `vin` (10 mV) is what the land has stood at (R508, R510).  The second part
says that a wake was latched. -/
def State.swStatic (s : State) (n : Nat) (vin : Lasting) : State × Bool :=
  let v := s.swRead n vin.v
  if decide (n < 64) && s.rd Reg.SW_CFG1_WAKE n == 1 && (s.sw n).cmp != v && decide (70000 ≤ vin.held) then
    let ok := s.edgeOk n v
    let s := s.modSw n fun x => { x with cmp := v }
    if ok then (s.swLatch n false, true) else (s, false)
  else (s, false)

/-- A Stop poll of input `n` at `vin` (R509, R510). -/
def State.swPoll (s : State) (n vin : Nat) : State × Bool :=
  if decide (n < 64) && s.rd Reg.SW_CFG1_WAKE n == 2 && s.since (s.sw n).pollAt s.pollPeriod then
    let v := s.swRead n vin
    let x := s.sw n
    let polls := if v != x.held && s.edgeOk n v then x.polls + 1 else 0
    let s := s.modSw n fun x => { x with cmp := v, polls, pollAt := some s.now }
    if s.rd Reg.SW_STOPCFG_WPOLLN + 1 ≤ polls then (s.swLatch n true, true) else (s, false)
  else (s, false)

/-! ### Isolated inputs: commands -/

/-- `II_CONFIG`: completes with the next downlink frame (R516, R519, R535). -/
def execIiConfig (dt : Nat) (c : Cmd) (s : State) : Answered :=
  .next (s.serveOp dt c 0x3001 [.ii] fun s =>
    let s := (s.begin c).putImage c 0x12 (imagePuts c 0x12 (0x10 * objNum c.object) 2)
    { s with inp := { s.inp with configs := s.inp.configs ++ [c] } }).done

/-- `COUNT_CLEAR` (R520, R535). -/
def execCountClear (dt : Nat) (c : Cmd) (s : State) : Answered :=
  .next (s.serveOp dt c 0x2006 [.ii] fun s =>
    let n := objNum c.object
    if 3 < n then s.complete c .refusedPolicy 0x120A
    else (s.begin c).modIi n fun x => { x with clears := x.clears ++ [c], told := false }).done

/-- `WIRE_BREAK`: the input current `a` (10 µA) has stayed below WBTH, or at or above it again, for 10 ms (R518). -/
def execWireBreak (dt n : Nat) (a : Lasting) (s : State) : Answered :=
  let s := s.tick dt
  let low := decide (a.v < s.rd Reg.II_CFG1_WBTH n)
  let broken := s.flag Reg.II_STAT_WIREBRK n
  .next (if decide (16 ≤ n) || !s.dieC || !s.flag Reg.BAR_STAT_UP || low == broken || (low && !s.flag Reg.II_CFG0_WBEN n) || decide (a.held < 10000000) then s
  else
    let s := (s.wr Reg.II_STAT_IIN n a.v).wrb Reg.II_STAT_WIREBRK n low
    let s := (s.wr Reg.II_STAT_VALID n 0).modIi n fun x => { x with run := 0 }
    s.raise 0x1282 (0x140 + n) (atByte 16 (b2n low) + atByte 18 (min 0xFFFF a.v))).done

/-! ### Isolated outputs -/


/-- The output leaves ON with a cause, into a wait or into LATCHED; IO_TRIP reports a trip (R526, R537). -/
def State.ioTrip (s : State) (n : Nat) (c : Cause) (st : Nat) : State :=
  let o := ioObj n
  let latch := st == 4
  let s := s.endCmds o .faulted (subOf o c)
  let s := (s.setSt o st).wr Reg.IO_STAT_CAUSE n (causeCode .io c)
  if latch then
    let s := (s.wr Reg.IO_STAT_FAULT n 1).setVerdict o 3
    (s.endChecks o .faulted 0x1211).raiseFault 0x1285 o (s.evData o)
  else if c = .uvCut then s
  else s.raise 0x1285 o (s.evData o)

/-- The output switches on again (R526). -/
def State.ioRestart (s : State) (n : Nat) : State :=
  let s := (s.setSt (ioObj n) 1).modObj (ioObj n) fun x => { x with onAt := s.now }
  s.raise 0x1286 (ioObj n) (s.evData (ioObj n))


/-- `IO_OUT_ON` (R525, R526). -/
def execIoOutOn (dt : Nat) (c : Cmd) (s : State) : Answered :=
  .next (s.serveOp dt c 0x2002 [.io] fun s =>
    let o := c.object
    let n := objNum o
    s.orElse c [s.onBar o] fun s =>
      if s.st o = 1 then s.complete c .done
      else s.orElse c [barIf (!s.flag Reg.BAR_STAT_UP) .refusedState 0x1208, barIf (decide (s.rd Reg.BAR_VFLD_VFLD < 1600)) .refusedState 0x1209] fun s =>
        (((s.begin c).setSt o 1).wr Reg.IO_STAT_CAUSE n 0).modObj o fun x => { x with cmd := some c, target := 1, onAt := s.now }).done

/-- `IO_OUT_OFF` (R526). -/
def execIoOutOff (dt : Nat) (c : Cmd) (s : State) : Answered :=
  .next (s.serveOp dt c 0x2001 [.io] fun s => ((s.begin c).ioOff (objNum c.object)).complete c .done).done

/-- `IO_CLEAR_FAULT`: OVERCURRENT, the one cause that latches, has gone at once (R526). -/
def execIoClearFault (dt : Nat) (c : Cmd) (s : State) : Answered :=
  .next (s.serveOp dt c 0x2004 [.io] fun s =>
    let o := c.object
    if !s.latched o then s.complete c .done
    else
      let s := (((s.begin c).setSt o 0).wr Reg.IO_STAT_FAULT (objNum o) 0).wr Reg.IO_STAT_CAUSE (objNum o) 0
      (s.unverify o).complete c .done).done

/-- `IO_DIAG_CHECK` (R527). -/
def execIoDiagCheck (dt : Nat) (c : Cmd) (s : State) : Answered := .next (s.serveOp dt c 0x2005 [.io] fun s => s.checkCmd c).done

/-- `IO_CONFIG` (R535). -/
def execIoConfig (dt : Nat) (c : Cmd) (s : State) : Answered :=
  .next (s.serveOp dt c 0x3001 [.io] fun s =>
    ((s.begin c).putImage c 0x12 (imagePuts c 0x12 (0x400 + 0x10 * objNum c.object) 1)).complete c .done).done

/-- A measurement of an isolated output: current in mA. -/
def State.ioMeasure (s : State) (n : Nat) (m : Meas) : State := s.wr Reg.IO_STAT_IOUT n (min 0xFFFF m.i)

/-- `IO_OVERCURRENT`: the output has been in its current limit of 0.9 A ± 20 % for 2 ms ± 10 % (R523, R526). -/
def execIoOvercurrent (dt n : Nat) (m : Meas) (s : State) : Answered :=
  let s := s.tick dt
  .next (if decide (n < 8) && s.dieC && s.st (ioObj n) == 1 && decide (720 ≤ m.i) && decide (1800000 ≤ min m.held (s.now - (s.obj (ioObj n)).onAt)) then
    (s.ioMeasure n m).ioTrip n .overcurrent 4 else s).done

/-- `IO_THERMAL_TRIP` (R526). -/
def execIoThermalTrip (dt n : Nat) (m : Meas) (s : State) : Answered :=
  let s := s.tick dt
  .next (if decide (n < 8) && s.dieC && s.st (ioObj n) == 1 && decide (225 ≤ m.tj) then (s.ioMeasure n m).ioTrip n .thermal 2 else s).done

/-- `IO_THERMAL_RESTART` (R526). -/
def execIoThermalRestart (dt n : Nat) (m : Meas) (s : State) : Answered :=
  let s := s.tick dt
  .next (if decide (n < 8) && s.dieC && s.st (ioObj n) == 2 && decide (m.tj ≤ 200) then s.ioRestart n else s).done

/-- VFLD_UV (R537). -/
def State.vfldEvent (s : State) (cut : Bool) : State := s.raise 0x1287 0xFFFF (atByte 16 (b2n cut) + atByte 20 (s.rd Reg.BAR_VFLD_VFLD))

/-- `VFLD_UV`: VFLD, `v` in 10 mV, has stayed below 16.0 V for 100 µs (R524). -/
def execVfldUv (dt v : Nat) (s : State) : Answered :=
  let s := s.tick dt
  .next (if !(s.dieC && decide (v < 1600) && !s.flag Reg.BAR_VFLD_VFLDUV) then s
  else
    let s := (s.wr Reg.BAR_VFLD_VFLD 0 v).wr Reg.BAR_VFLD_VFLDUV 0 1
    let s := (List.range 8).foldl (fun s n => if s.st (ioObj n) = 1 ∨ s.st (ioObj n) = 2 then s.ioTrip n .uvCut 3 else s) s
    s.vfldEvent true).done

/-- `VFLD_RESTART`: VFLD has stayed above 17.0 V for 1 ms and the next output in turn restarts, 1 ms after the one before (R524). -/
def execVfldRestart (dt v : Nat) (s : State) : Answered :=
  let s := s.tick dt
  let first := s.flag Reg.BAR_VFLD_VFLDUV
  .next (if !(s.dieC && decide (1700 < v) && (first || decide (s.inp.turnAt + 1000000 ≤ s.now))) then s
  else
    let s := { s.wr Reg.BAR_VFLD_VFLD 0 v with inp := { s.inp with turnAt := s.now } }
    let s := if first then (s.wr Reg.BAR_VFLD_VFLDUV 0 0).vfldEvent false else s
    match (List.range 8).find? fun n => s.st (ioObj n) == 3 with
    | some n => s.ioRestart n
    | none => s).done

/-! ### The serial barrier -/

/-- A frame of number `seq` with a good or a bad CRC, or a missing frame (`none`), as its receiver judges it: the number follows when it is the last good
one's plus the slots since (R530).  After a loss any number is taken (DEDUCED). -/
def BarSide.take (b : BarSide) (now : Ns) (f : Option (Bool × Nat)) : BarSide × Bool :=
  let ok := match f with
    | none => false
    | some (crc, seq) => crc && (match b.seq? with | none => true | some e => e == seq % 16)
  if ok then
    let q := match f with | some (_, q) => (q + 1) % 16 | none => 0
    ({ good := min 8 (b.good + 1), bad := 0, seq? := some q, slotAt := some now }, true)
  else
    let bad := min 3 (b.bad + 1)
    ({ good := 0, bad, seq? := if bad = 3 then none else b.seq?.map fun q => (q + 1) % 16, slotAt := some now }, false)

/-- The next slot has come: 49.5 µs after the one before at the earliest, and a frame up to 5 µs before its slot (R529, R530, R534). -/
def State.barDue (s : State) (b : BarSide) : Bool := s.since b.slotAt 44500

/-- The thresholds of isolated input `n` in the field side, 10 mV: those of the IEC types, or THRHI and THRLO (R516). -/
def IiField.high (x : IiField) : Nat := match x.mode with | 1 => 1200 | 2 => 900 | _ => x.thrhi * 25
def IiField.low (x : IiField) : Nat := match x.mode with | 1 => 1000 | 2 => 700 | _ => x.thrlo * 25

/-- The comparator at `vin` (10 mV); between the thresholds it keeps its last reading (R516; DEDUCED from R502, log entry 88). -/
def IiField.read (x : IiField) (vin : Nat) : Bool := if x.high ≤ vin then true else if vin ≤ x.low then false else x.cmp

/-- The field side's comparators read the voltages `vins`. -/
def State.fieldRead (s : State) (vins : List Nat) : State :=
  { s with inp := { s.inp with field := (List.range 16).foldl (fun t n =>
      let x := tget {} t n
      tput t n { x with cmp := x.read (vins.getD n 0) }) s.inp.field } }

/-- The raw levels that the field side reports. -/
def State.fieldRaw (s : State) : Nat := maskOf (fun n => (tget ({} : IiField) s.inp.field n).cmp) 16

/-- A good downlink frame carries the configuration of the inputs (R516, R520, R535). -/
def State.fieldConfig (s : State) : State :=
  { s with inp := { s.inp with
    edges := (List.range 4).foldl (fun t n => tput t n (s.rd Reg.II_CFG1_CNTEDGE n)) s.inp.edges
    field := (List.range 16).foldl (fun t n => tput t n { tget ({} : IiField) t n with
      mode := s.rd Reg.II_CFG0_MODE n, thrhi := s.rd Reg.II_CFG0_THRHI n, thrlo := s.rd Reg.II_CFG0_THRLO n }) s.inp.field } }

/-- Debounced sample of isolated input `n` from an uplink frame (R517). -/
def State.iiTake (s : State) (n : Nat) (v : Bool) : State :=
  let x := s.ii n
  if x.frames + 1 < s.rd Reg.II_CFG1_SPER n then s.modIi n fun x => { x with frames := x.frames + 1 }
  else
    let run := agree x.raw v x.run
    let s := s.modIi n fun x => { x with raw := v, run, frames := 0 }
    let stamp := fun (s : State) => s.modIi n fun x => { x with smp := some ⟨s.now, s.ntime⟩ }
    if run < s.rd Reg.II_CFG0_DEBN n + 1 then (if v == x.deb && s.flag Reg.II_STAT_VALID n then stamp s else s)
    else
      let s := stamp s
      let s := if s.flag Reg.II_STAT_WIREBRK n then s else s.wr Reg.II_STAT_VALID n 1
      if v == x.deb then s
      else
        let level := b2n (v != s.flag Reg.II_CFG0_INV n)
        let s := (s.modIi n fun x => { x with deb := v, changed := s.ntime }).wr Reg.II_STAT_LEVEL n level
        if s.flag Reg.II_CFG0_EVEN n then
          s.raise 0x1281 (0x140 + n) (atByte 16 level + atByte 17 (s.rd Reg.II_STAT_VALID n) + atByte 18 (s.rd Reg.II_STAT_IIN n))
        else s

/-- The edges that the field side counts (R520), as it was last configured. -/
def State.fieldCount (s : State) (rises falls : List Nat) : State :=
  let one := fun (n : Nat) =>
    let e := tget 0 s.inp.edges n
    (if bit e 0 then rises.getD n 0 else 0) + (if bit e 1 then falls.getD n 0 else 0)
  { s with inp := { s.inp with counts := (List.range 4).foldl (fun t n => tput t n ((tget 0 t n + one n) % 2 ^ 32)) s.inp.counts } }

/-- CNTRST of the counting inputs (R521, R945). -/
def State.countsRestarted (s : State) : State :=
  (List.range 4).foldl (fun s n => s.flagSet Reg.II_STAT_CNTRST n 0x12 (0x10 * n + 8) 4) { s with inp := { s.inp with restarted := false } }

/-- What a good uplink frame carries (R517, R520, R532): the eighth good frame in a row reports that the field side's last eight were good, so that
recovery takes the eight slots of R534. -/
def State.upGood (s : State) (raw : Nat) (iin : List Nat) (vfld : Nat) : State :=
  let s := if s.inp.restarted then s.countsRestarted else s
  let s := (s.wr Reg.BAR_VFLD_VFLD 0 vfld).bump Reg.BAR_ERR_DNBAD 0 s.inp.dnBad
  let s := { s with inp := { s.inp with dnBad := 0 } }
  let s := (List.range 4).foldl (fun s n =>
    let k := tget 0 s.inp.counts n
    let s := s.wr Reg.II_CNT_COUNT n k
    if k = 0 ∧ (s.ii n).told then
      let cs := (s.ii n).clears
      cs.foldl (fun s c => s.complete c .done) (s.modIi n fun x => { x with clears := [], told := false })
    else s) s
  let s := (List.range 16).foldl (fun s n => (s.wrb Reg.II_STAT_RAW n (bit raw n)).wr Reg.II_STAT_IIN n (iin.getD n 0)) s
  if s.flag Reg.BAR_STAT_UP then
    (List.range 16).foldl (fun s n => s.iiTake n (bit raw n)) { s with inp := { s.inp with upAt := some ⟨s.now, s.ntime⟩ } }
  else if s.inp.up.good = 8 ∧ s.inp.dn.good = 8 then
    (s.wr Reg.BAR_STAT_UP 0 1).raise 0x1284 0xFFFF (atByte 16 ((s.now - s.inp.lostAt) / 1000 % 2 ^ 32))
  else s

/-- An uplink slot's frame: CRC result and sequence number; input voltages (10 mV), currents (10 µA), edges of II00 to II03 since the last slot, VFLD
(10 mV) (R516, R529, R530). -/
def State.uplink (s : State) (crc : Bool) (seq : Nat) (vins iin rises falls : List Nat) (vfld : Nat) : State :=
  if !s.barDue s.inp.up then s
  else
    let s := (s.fieldCount rises falls).fieldRead vins
    if !s.dieC then s
    else
      let r := s.inp.up.take s.now (some (crc, seq))
      let s := { s with inp := { s.inp with up := r.1 } }
      if r.2 then s.upGood s.fieldRaw iin vfld else s.bump Reg.BAR_ERR_UPBAD 0

/-- The field side judges a downlink frame or its absence. -/
def State.dnTake (s : State) (f : Option (Bool × Nat)) : State × Bool :=
  let r := s.inp.dn.take s.now f
  ({ s with inp := { s.inp with dn := r.1, dnBad := if r.2 then s.inp.dnBad else s.inp.dnBad + 1 } }, r.2)

/-- `BARRIER_DOWNLINK_FRAME` (R529, R530, R535): the frame carries the configuration and the clears that wait. -/
def execBarrierDownlinkFrame (dt : Nat) (crc : Bool) (seq : Nat) (s : State) : Answered :=
  let s := s.tick dt
  .next (if !s.dieC || !s.barDue s.inp.dn then s
  else
    let r := s.dnTake (some (crc, seq))
    let s := r.1
    let s := if !r.2 then s else
      let s := s.fieldConfig
      (List.range 4).foldl (fun s n =>
        if (s.ii n).clears.isEmpty then s
        else ({ s with inp := { s.inp with counts := tput s.inp.counts n 0 } } : State).modIi n fun x => { x with told := true }) s
    let cs := s.inp.configs
    cs.foldl (fun s c => s.complete c .done) { s with inp := { s.inp with configs := [] } }).done

/-- `BARRIER_FRAME_MISSING` (R530): of the uplink at die C, or of the downlink at the field side. -/
def execBarrierFrameMissing (dt : Nat) (uplink : Bool) (s : State) : Answered :=
  let s := s.tick dt
  .next (if uplink then
    if !s.dieC || !s.barDue s.inp.up then s else ({ s with inp := { s.inp with up := (s.inp.up.take s.now none).1 } } : State).bump Reg.BAR_ERR_UPBAD 0
  else if !s.barDue s.inp.dn then s else (s.dnTake none).1).done

/-- `BARRIER_LOSS`: a side has found three bad or missing frames in a row; `field` says that the field side declares first (R526, R531). -/
def execBarrierLoss (dt : Nat) (field : Bool) (s : State) : Answered :=
  let s := s.tick dt
  .next (if !(s.dieC && s.flag Reg.BAR_STAT_UP && (if field then s.inp.dn.bad == 3 else s.inp.up.bad == 3)) then s
  else
    let first := !s.flag Reg.BAR_STAT_LOST
    let s := ((s.wr Reg.BAR_STAT_UP 0 0).wr Reg.BAR_STAT_LOST 0 1).bump Reg.BAR_STAT_LOSSCNT 0
    let s := { s with inp := { s.inp with lostAt := s.now, up := { s.inp.up with good := 0 } } }
    let s := (List.range 8).foldl (fun s n =>
      let o := ioObj n
      let s := (s.endCmds o .faulted 0x1208).endChecks o .faulted 0x1208
      let s := if s.st o = 0 ∨ s.st o = 4 then s else s.setSt o 0
      (s.wr Reg.IO_STAT_CAUSE n 4).modObj o fun x => { x with target := 0 }) s
    let s := (List.range 16).foldl (fun s n => (s.wr Reg.II_STAT_VALID n 0).modIi n fun x => { x with run := 0, frames := 0 }) s
    s.raiseTo 0x1283 0xFFFF (atByte 16 (b2n field)) first (s.routes 0xFFFF)).done

/-- `FIELD_POWER_LOSS` (R521). -/
def execFieldPowerLoss (dt : Nat) (s : State) : Answered :=
  let s := s.tick dt
  let s := { s with inp := { s.inp with counts := [], edges := [], field := [], dn := {}, dnBad := 0, restarted := true } }
  .next (if s.dieC then s.countsRestarted else s).done

end Sys2Proof.Machine
end

