-- ==== Sys2Proof/Machine/Net.lean ====
section
/-!
DEFINITION. Sys2Proof/Machine/Net.lean: segments, receive queues, packet memory, transmit queues, and the fields of the frame identity table
(R546 to R564, R594 to R617, R627 to R632, R646).
-/
namespace Sys2Proof.Machine

/-! ### Places -/

/-- Object of a segment, and segment of an object (R646). -/
def segObj (g : Nat) : Nat := if g < 16 then 0x200 + g else if g < 24 then 0x210 + (g - 16) else 0x220 + (g - 24)
def objSeg (o : Nat) : Nat := match objKind o with | some (.can, n) => n | some (.lin, n) => 16 + n | some (.eth, n) => 24 + n | _ => 34

def State.can (s : State) (n : Nat) : CanCh := tget {} s.net.can n
def State.modCan (s : State) (n : Nat) (f : CanCh → CanCh) : State := { s with net := { s.net with can := tput s.net.can n (f (s.can n)) } }
def State.lin (s : State) (n : Nat) : LinCh := tget {} s.net.lin n
def State.modLin (s : State) (n : Nat) (f : LinCh → LinCh) : State := { s with net := { s.net with lin := tput s.net.lin n (f (s.lin n)) } }
def State.port (s : State) (p : Nat) : Port := tget {} s.net.ports p
def State.modPort (s : State) (p : Nat) (f : Port → Port) : State := { s with net := { s.net with ports := tput s.net.ports p (f (s.port p)) } }
def State.seg (s : State) (g : Nat) : Seg := tget {} s.net.segs g
def State.modSeg (s : State) (g : Nat) (f : Seg → Seg) : State := { s with net := { s.net with segs := tput s.net.segs g (f (s.seg g)) } }
def State.fit (s : State) (e : Nat) : FitEntry := tget {} s.net.fit e
def State.modFit (s : State) (e : Nat) (f : FitEntry → FitEntry) : State := { s with net := { s.net with fit := tput s.net.fit e (f (s.fit e)) } }
def State.rxq (s : State) (g : Nat) : RxQ := tget {} s.net.rxq g
def State.modRxq (s : State) (g : Nat) (f : RxQ → RxQ) : State := { s with net := { s.net with rxq := tput s.net.rxq g (f (s.rxq g)) } }

/-- A saturating 32-bit count of a table. -/
def bumpT (t : Tab Nat) (k : Nat) : Tab Nat := tput t k (satAdd 32 (tget 0 t k) 1)

/-- A count of READ_COUNTERS (R587). -/
def State.canCount (s : State) (n k : Nat) : State := s.modCan n fun x => { x with counts := bumpT x.counts k }
def State.linCount (s : State) (n k : Nat) : State := s.modLin n fun x => { x with counts := bumpT x.counts k }
def State.segCount (s : State) (g canK linK : Nat) : State := if g < 16 then s.canCount g canK else if g < 24 then s.linCount (g - 16) linK else s

/-- STATE of a segment's sleep agreement, and PREP or SLEEP, in which nothing is transmitted (R652). -/
def State.nmSt (s : State) (g : Nat) : Nat := s.rd Reg.NM_STAT_STATE g
def State.nmQuiet (s : State) (g : Nat) : Bool := s.nmSt g == 3 || s.nmSt g == 4

/-- Something has been seen on the lines of segment `g` (R659, R661). -/
def State.lineSeen (s : State) (g : Nat) : State := s.modSeg g fun x => { x with busAt := s.now }

/-- The CAN, LIN and Ethernet interfaces run: die C serves and the reference is present (R74). -/
def State.buses (s : State) : Bool := s.dieC && s.pwr.refPresent

/-! ### Frame identity table (R614) -/

/-- `w` bits from bit `lo` of byte `k` of an entry. -/
def State.fitBits (s : State) (e k lo w : Nat) : Nat := bits (s.fit e).word (8 * k + lo) w
def State.fitKind (s : State) (e : Nat) : Nat := s.fitBits e 0 0 4
def State.fitEven (s : State) (e : Nat) : Bool := s.fitBits e 0 5 1 == 1
def State.fitEth (s : State) (e : Nat) : Nat := s.fitBits e 20 0 10
def State.fitCan (s : State) (e : Nat) : Nat := s.fitBits e 20 10 16
def State.fitLin (s : State) (e : Nat) : Nat := s.fitBits e 24 0 8
def State.fitRtag (s : State) (e : Nat) : Bool := s.fitBits e 2 4 1 == 1
def State.fitDeadline (s : State) (e : Nat) : Ns := s.fitBits e 26 0 16 * 100000
def State.fitPeriod (s : State) (e : Nat) : Nat := s.fitBits e 48 0 16
def State.fitOut (s : State) (e : Nat) : Nat := s.fitBits e 28 0 32

/-- Counters of an entry: 0 MATCH, 1 SENT, 2 WITHHELD, 3 MARKED, 4 POLICED, 5 DROPPED (R644). -/
def State.fitCount (s : State) (e k : Nat) : State := s.modFit e fun x => { x with counts := bumpT x.counts k }

/-- Bytes of a number in wire order. -/
def beBytes (n v : Nat) : List Byte := (leBytes n v).reverse
def ofBe (bs : List Byte) : Nat := ofLe bs.reverse

/-- What the age rule decides of a value with this stamp (R631): 0 fresh, 1 withheld, 2 marked. -/
def State.ageRule (s : State) (e : Nat) (t : Option Stamp) : Nat :=
  let fresh := match t with | some x => decide (s.now ≤ x.at_ + s.fitDeadline e) | none => false
  if fresh then 0 else if s.fitBits e 2 6 1 = 1 then 2 else 1

/-- INVVAL written into FIELD of the data (R615, R631). -/
def State.markBytes (s : State) (e : Nat) (bs : List Byte) : List Byte :=
  let p := s.fitBits e 50 0 11
  let n := s.fitBits e 51 3 5 + 1
  let v := ofLe bs
  leBytes bs.length (v % 2 ^ p + s.fitBits e 52 0 32 % 2 ^ n * 2 ^ p + v / 2 ^ (p + n) * 2 ^ (p + n))

def State.markBody (s : State) (e : Nat) (b : Body) : Body :=
  match b with
  | .bus f => .bus { f with data := s.markBytes e f.data }
  | .eth f => .eth { f with body := s.markBytes e f.body }
  | .acf f n => .acf { f with data := s.markBytes e f.data } n

/-! ### Packet memory (R605 to R609) -/

/-- Number of the host among the clients of packet memory; the segments are the others. -/
def hostClient : Nat := 34

/-- Reserved cells of a client (R606). -/
def State.reserved (s : State) (k : Nat) : Nat := if k < 16 then 68 else if k < 24 then 4 else if k < 34 then s.rd Reg.ETH_RSV_PRSV (k - 24) else 2048

/-- Cells of the shared pool. -/
def State.poolSize (s : State) : Nat := 32768 - (8192 + ((List.range 35).map s.reserved).foldl (· + ·) 0) - s.nv.lostCells

def State.sharedUsed (s : State) : Nat := (s.net.stored.map fun x => x.2.shared).foldl (· + ·) 0
def State.ownUsed (s : State) (k : Nat) : Nat := (s.net.stored.map fun x => if x.2.client = k then x.2.own else 0).foldl (· + ·) 0
def State.sharedOf (s : State) (k : Nat) : Nat := (s.net.stored.map fun x => if x.2.client = k then x.2.shared else 0).foldl (· + ·) 0

/-- ETH_PMEM follows the pool. -/
def State.showPool (s : State) : State :=
  let free := s.poolSize - s.sharedUsed
  (s.wr Reg.ETH_PMEM_FREE 0 free).wr Reg.ETH_PMEM_MINFREE 0 (min free (s.rd Reg.ETH_PMEM_MINFREE))

/-- Cells for `n` of them: of the reservation first, then of the pool (R608); none when they cannot be set aside. -/
def State.cellsFor (s : State) (k n : Nat) : Option (Nat × Nat) :=
  let own := min n (s.reserved k - s.ownUsed k)
  let sh := n - own
  let lim := if 24 ≤ k ∧ k < 34 then s.rd Reg.ETH_RSV_SHMAX (k - 24) else 32768
  if sh = 0 ∨ (sh + s.sharedUsed ≤ s.poolSize ∧ s.sharedOf k + sh ≤ lim) then some (own, sh) else none

def cells (len : Nat) : Nat := ceilDiv len 128

/-- A frame of `len` bytes is stored for `copies` egress copies; `most` is the length set aside while it arrived.  None when there is no room. -/
def State.storeFrame (s : State) (k len most copies : Nat) (cmd : Option Cmd) : State × Option Nat :=
  match s.cellsFor k (cells most), s.cellsFor k (cells len) with
  | some _, some (own, shared) =>
    if copies = 0 then (s, some 0)
    else
      let sn := s.net.nextSn
      let x : Stored := { client := k, own, shared, copies, cmd }
      (({ s with net := { s.net with stored := tput s.net.stored sn x, nextSn := sn + 1 } } : State).showPool, some sn)
  | _, _ => (s, none)

/-- An egress copy has left or is dropped; the second part is the frame's record when it was the last. -/
def State.copyLeft (s : State) (sn : Nat) : State × Option Stored :=
  match s.net.stored.find? fun x => x.1 == sn with
  | none => (s, none)
  | some (_, x) =>
    if x.copies ≤ 1 then (({ s with net := { s.net with stored := tdel s.net.stored sn } } : State).showPool, some x)
    else ({ s with net := { s.net with stored := tput s.net.stored sn { x with copies := x.copies - 1 } } }, none)

/-- A stored ETH_SEND has had a copy marked (R638). -/
def State.noteMark (s : State) (sn : Nat) : State :=
  match s.net.stored.find? fun x => x.1 == sn with
  | some (_, x) => { s with net := { s.net with stored := tput s.net.stored sn { x with marked := true } } }
  | none => s

/-! ### Transmit queues -/

/-- Order of arbitration (R551): base part, IDE, extension. -/
def arbKey (id : Nat) : Nat := id % 2048 * 2 ^ 19 + bits id 29 1 * 2 ^ 18 + bits id 11 18

/-- Frames queued or on the bus (TXQN). -/
def CanCh.held (x : CanCh) : Nat := x.queue.length + (if x.bus.isSome then 1 else 0)

def State.showTxq (s : State) (n : Nat) : State := s.wr Reg.CAN_STAT_TXQN n (s.can n).held

/-- A number for the next frame that enters a queue. -/
def State.order (s : State) : Nat × State := (s.net.nextOrd, { s with net := { s.net with nextOrd := s.net.nextOrd + 1 } })

def State.canPush (s : State) (n : Nat) (t : Tx) : State :=
  let (o, s) := s.order
  (s.modCan n fun x => { x with queue := x.queue ++ [{ t with ord := o }] }).showTxq n

/-- The channel's CAN_CTL.FMT enables a frame format (R550). -/
def State.fmtOn (s : State) (n fmt : Nat) : Bool :=
  match fmt with | 0 => true | 3 => s.rd Reg.CAN_CTL_FMT n == 2 | _ => decide (1 ≤ s.rd Reg.CAN_CTL_FMT n)

/-- A routed frame may join the channel's queue (R603, R652). -/
def State.canTakes (s : State) (n fmt : Nat) : Bool :=
  decide ((s.can n).held < 32) && s.flag Reg.CAN_CTL_EN n && s.rd Reg.CAN_STAT_STATE n != 2 && s.fmtOn n fmt && !s.nmQuiet n

/-- Bytes of a frame without FCS, padded to 60. -/
def EthFrame.len (f : EthFrame) : Nat :=
  max 60 (14 + (if f.tci.isSome then 4 else 0) + (if f.rtag.isSome then 6 else 0) + f.body.length)

/-- Bit time of a port in units of 0.1 ns (R591). -/
def portBit (p : Nat) : Nat := if p < 2 then 1 else if p < 6 then 10 else 100

/-- Time on the line of `len` bytes, with preamble, FCS and gap, ns. -/
def lineNs (p len : Nat) : Ns := ceilDiv ((len + 4 + 8 + 12) * 8 * portBit p) 10

/-- Entry `k` of a port's gate list: gates and interval (R600). -/
def State.gate (s : State) (p k : Nat) : Nat × Ns := let v := tget 0x0F4240FF s.net.gateList (128 * p + k); (v % 256, v / 256)

/-- The intervals of one cycle, from its start: gates and length; all gates are open after the list. -/
def State.gateCycle (s : State) (p : Nat) : List (Nat × Ns) :=
  let cyc := s.rd Reg.QBV_CYCLE p
  let r := (List.range (s.rd Reg.QBV_CFG_LEN p)).foldl (fun (a : List (Nat × Ns) × Ns) k =>
    let g := s.gate p k
    let n := min g.2 (cyc - a.2)
    if n = 0 then a else (a.1 ++ [(g.1, n)], a.2 + n)) ([], 0)
  if r.2 < cyc then r.1 ++ [(255, cyc - r.2)] else r.1

/-- Position in the cycle. -/
def State.gatePos (s : State) (p : Nat) : Ns :=
  let base := s.rd Reg.QBV_BASE_HI p * 2 ^ 32 + s.rd Reg.QBV_BASE_LO p
  let cyc := max 1 (s.rd Reg.QBV_CYCLE p)
  if base ≤ s.ntime then (s.ntime - base) % cyc else (cyc - (base - s.ntime) % cyc) % cyc

/-- Gates at a position of a cycle. -/
def gatesAt : List (Nat × Ns) → Ns → Nat
  | [], _ => 255
  | (g, n) :: t, x => if x < n then g else gatesAt t (x - n)

/-- Time for which gate `c` stays open from position `x` on. -/
def openFor (c : Nat) : List (Nat × Ns) → Ns → Ns
  | [], _ => 0
  | (g, n) :: t, x => if n ≤ x then openFor c t (x - n) else if bit g c then (n - x) + openFor c t 0 else 0

/-- The longest time for which gate `c` stays open in a row, up to the end of a second cycle. -/
def longestOpen (c : Nat) : List (Nat × Ns) → Ns → Ns
  | [], run => run
  | (g, n) :: t, run => if bit g c then longestOpen c t (run + n) else max run (longestOpen c t 0)

/-- A frame of class `c` and `len` bytes fits in some open interval of its class (R599). -/
def State.everFits (s : State) (p c len : Nat) : Bool :=
  !s.flag Reg.QBV_CFG_EN p || (let l := s.gateCycle p; decide (lineNs p len ≤ longestOpen c (l ++ l) 0) || l.all fun g => bit g.1 c)

/-- A frame of class `c` may start now (R599): its gate is open and stays open long enough. -/
def State.mayStart (s : State) (p c len : Nat) : Bool :=
  !s.flag Reg.QBV_CFG_EN p ||
    (let l := s.gateCycle p
     bit (s.port p).gates c && (decide (lineNs p len ≤ openFor c (l ++ l) (s.gatePos p)) || l.all fun g => bit g.1 c))

/-- A copy joins a port's queue; one that fits no open interval is dropped (R599).  The second part says that it joined. -/
def State.portPush (s : State) (p : Nat) (t : Tx) (len : Nat) : State × Bool :=
  if s.everFits p t.tc len then
    let (o, s) := s.order
    (s.modPort p fun x => { x with queue := x.queue ++ [{ t with ord := o }] }, true)
  else ((s.bump Reg.ETH_DROP_QBVDROP p).copyLeft t.sn |>.1, false)

/-! ### Receive queues (R557 to R564) -/

/-- Bytes of an entry (R558, R597). -/
def State.entSize (s : State) (g : Nat) : Nat := match s.rd Reg.RXQ_CFG_ENTSZ g with | 0 => 32 | 1 => 80 | 2 => 2080 | _ => 2176

/-- Entries that the host has not released. -/
def State.rxUsed (s : State) (g : Nat) : Nat := (s.rd Reg.RXQ_IDX_TAIL g + 65536 - s.rd Reg.RXQ_IDX_HEAD g) % 65536
def State.rxSize (s : State) (g : Nat) : Nat := 2 ^ s.rd Reg.RXQ_CFG_LOG2SZ g

/-- A frame is dropped for want of room in its queue or in packet memory. -/
def State.rxDrop (s : State) (g : Nat) : State := if g < 16 then (s.bump Reg.RXQ_STAT_DROP g).canCount g 4 else s.bump Reg.RXQ_STAT_DROP g

/-- A received frame is placed in the queue of segment `g` (R557 to R562, R876); `data` is what stands from byte 16 on. -/
def State.rxPlace (s : State) (g id fmt flags len time : Nat) (data : List Byte) : State :=
  let o := segObj g
  let pf := s.owner o
  let tail := s.rd Reg.RXQ_IDX_TAIL g
  if !s.flag Reg.RXQ_CFG_EN g then s
  else if s.entSize g < data.length + 16 then s.bump Reg.RXQ_STAT_TOOBIG g
  else if s.rxUsed g = s.rxSize g then
    let s := s.rxDrop g
    if (s.rxq g).full then s else (s.raise (objWin o * 256 + 0x84) o (atByte 16 tail)).modRxq g fun q => { q with full := true }
  else if (s.fn pf).frozen then s.rxDrop g
  else
    let idx := tail % s.rxSize g
    let addr := s.rd Reg.RXQ_BASE_HI_ADDR g * 2 ^ 32 + s.rd Reg.RXQ_BASE_LO_ADDR g * 4096 + s.entSize g * idx
    let r := s.dma pf addr (16 + data.length)
    if !r.2 then r.1
    else
      let s := r.1
      let phase := if tail / s.rxSize g % 2 = 0 then 1 else 0
      let bytes := leBytes 4 id ++ [fmt + 128 * phase, flags] ++ leBytes 2 len ++ leBytes 8 time ++ data
      let s : State := { s.wr Reg.RXQ_IDX_TAIL g ((tail + 1) % 65536) with host := s.host.post (.rxEntry pf g idx bytes) }
      let q := s.rxq g
      let n := q.unsig + 1
      if s.rd Reg.RXQ_CFG_MODCNT g ≤ n ∨ s.rd Reg.RXQ_CFG_MODTIME g = 0 then
        let s := s.modRxq g fun q => { q with unsig := 0 }
        { s with host := s.host.signal pf (s.rd Reg.RXQ_CFG_VEC g) }
      else s.modRxq g fun q => { q with unsig := n, unsigAt := if q.unsig = 0 then s.now else q.unsigAt }

/-- A bus frame's entry (R559). -/
def State.rxBus (s : State) (g : Nat) (f : Frame) (time : Nat) : State := s.rxPlace g f.id f.fmt f.flags f.data.length time (f.hdr ++ f.data)

end Sys2Proof.Machine
end

