-- ==== Sys2Proof/Machine/NetSleep.lean ====
section
/-!
DEFINITION. Sys2Proof/Machine/NetSleep.lean: the sleep agreement of a segment (R646 to R666): its states, its keepers, its wakes.
-/
namespace Sys2Proof.Machine

/-! ### Nodes (R664, R665) -/

/-- The keeper is charged up to now. -/
def State.charge (s : State) (g : Nat) : State :=
  let k := s.rd Reg.NM_STAT_KEEPER g
  let t := s.now - (s.seg g).keptAt
  let open_ := s.nmSt g == 2 || s.nmSt g == 3
  s.modSeg g fun x => { x with
    keptAt := s.now
    nodes := if open_ && k != 255 then x.nodes.map fun p => if p.2.nid = k then (p.1, { p.2 with kept := p.2.kept + t }) else p else x.nodes }

/-- The slot that a node takes: its own, a free one, or the one with the lowest KACNT, among equals the least recently seen. -/
def nodeSlot (t : Tab Node) (nid : Nat) : Nat :=
  match t.find? fun p => p.2.nid == nid with
  | some p => p.1
  | none =>
    match (List.range 16).find? fun j => !(t.any fun p => p.1 == j) with
    | some j => j
    | none =>
      match sortBy (fun (a b : Nat × Node) => decide (a.2.kacnt < b.2.kacnt) || (a.2.kacnt == b.2.kacnt && decide (a.2.last ≤ b.2.last))) t with
      | p :: _ => p.1
      | [] => 0

/-- A keep-alive frame of node `nid` is counted. -/
def State.noteNode (s : State) (g nid : Nat) : State :=
  s.modSeg g fun x =>
    let j := nodeSlot x.nodes nid
    let n := match x.nodes.find? fun p => p.1 == j with | some p => if p.2.nid = nid then p.2 else { nid } | none => { nid }
    { x with nodes := tput x.nodes j { n with kacnt := satAdd 16 n.kacnt 1, last := s.now } }

/-! ### States (R650) -/

def State.tka (s : State) (g : Nat) : Ns := s.rd Reg.NM_TIME_TKA g * 10000000

/-- STATE takes a value, and NM_STATE reports it. -/
def State.nmSet (s : State) (g new : Nat) : State :=
  let old := s.nmSt g
  if old = new then s
  else
    let s := s.charge g
    let opens := (new = 2 ∨ new = 3) ∧ old ≠ 2 ∧ old ≠ 3
    let s := s.modSeg g fun x => { x with
      openAt := if opens then s.now else x.openAt
      stuckAt := if opens then s.now else x.stuckAt
      idleAt := if old = 0 ∨ old = 4 then s.now else x.idleAt
      armed := if new = 4 then s.flag Reg.NM_CFG_ARM g else x.armed
      swErr := 0
      fsAt := none }
    (s.wr Reg.NM_STAT_STATE g new).raise 0x1C81 (segObj g) (atByte 16 g + atByte 17 old + atByte 18 new)

/-- A LIN channel goes to sleep: its schedule ends (R586, R659). -/
def State.linSleep (s : State) (n : Nat) : State :=
  let s := if s.rd Reg.LIN_STAT_STATE n = 0 then s else (s.wr Reg.LIN_STAT_STATE n 3).modLin n fun x => { x with changed := s.ntime }
  if s.nmSt (16 + n) = 0 then s else s.nmSet (16 + n) 4

/-- A LIN channel is awake. -/
def State.linAwake (s : State) (n : Nat) : State :=
  if s.rd Reg.LIN_STAT_STATE n = 3 then (s.wr Reg.LIN_STAT_STATE n 1).modLin n fun x => { x with changed := s.ntime } else s

/-- A go-to-sleep frame or a wake pulse of channel `n` begins, unless one runs (R586). -/
def State.linOp (s : State) (n : Nat) : State :=
  s.modLin n fun x => { x with opAt := if x.sleeps.isEmpty && x.wakes.isEmpty then s.now else x.opAt }

/-- Commander `n` has a parent, and it sleeps (R659, R660). -/
def State.linParent (s : State) (n : Nat) : Option Nat :=
  let p := s.rd Reg.NM_CFG_PARENT (16 + n)
  if s.flag Reg.LIN_CFG_ROLE n ∧ s.nmSt (16 + n) ≠ 0 ∧ p ≠ 16 + n then some p else none

/-- Commanders under a parent that enters or leaves SLEEP follow it (R659). -/
def State.linFollow (s : State) (g : Nat) (asleep : Bool) : State :=
  (List.range 8).foldl (fun s n =>
    if s.linParent n != some g then s
    else if asleep then (if s.nmSt (16 + n) = 1 then s else s.linSleep n)
    else if s.nmSt (16 + n) = 4 then (s.nmSet (16 + n) 2).linAwake n else s) s

/-- A segment changes its state, and the LIN commanders under it follow. -/
def State.nmTo (s : State) (g new : Nat) : State :=
  let old := s.nmSt g
  let s := s.nmSet g new
  if g < 24 ∧ 16 ≤ g then s
  else if new = 4 ∧ old ≠ 4 then s.linFollow g true
  else if old = 4 ∧ new ≠ 4 then s.linFollow g false
  else s

/-- READY, with TKA running; `keeper` as it then reads. -/
def State.nmReady (s : State) (g keeper : Nat) : State :=
  let s := (s.nmTo g 2).charge g
  (s.wr Reg.NM_STAT_KEEPER g keeper).modSeg g fun x => { x with tkaAt := s.now + s.tka g }

/-! ### Own keep-alives (R648) -/

/-- The host's MAC address (R643). -/
def State.hostMac (s : State) : List Byte := leBytes 4 (s.rd Reg.ETH_HOSTMAC_LO) ++ leBytes 2 (s.rd Reg.ETH_HOSTMAC_HI)

/-- The segment's own keep-alive frame. -/
def State.kaFrame (s : State) (g : Nat) : Body :=
  let b := s.rd Reg.NM_CFG_NIDBYTE g
  let own := s.rd Reg.NM_CFG_OWNID g
  if g < 16 then
    .bus { id := s.rd Reg.NM_KAID_ID g + s.rd Reg.NM_KAID_IDE g * 2 ^ 29, fmt := 0
           data := (List.range 8).map fun k => if k = b then own else if k = (b + 1) % 8 then 1 else 0 }
  else
    let da := s.rd Reg.NM_KAID_ID g + s.rd Reg.NM_KAID_IDE g * 2 ^ 29 + s.rd Reg.NM_KAID_TOP g * 2 ^ 30
    .eth { da := leBytes 4 da ++ leBytes 2 (s.rd Reg.NM_EDA_HI g), sa := s.hostMac, type := 0x88B5
           body := (List.range 46).map fun k => if k = b then own else 0 }

/-- An own keep-alive is queued, and the next one is due KAPER later. -/
def State.kaSend (s : State) (g : Nat) : State :=
  let s := s.modSeg g fun x => { x with kaAt := s.now + s.rd Reg.NM_TIME_KAPER g * 10000000 }
  let t : Tx := { ord := 0, frm := .own, body := s.kaFrame g }
  if g < 16 then (if s.canTakes g 0 then s.canPush g t else s)
  else if 24 ≤ g then (s.portPush (g - 24) { t with tc := bits (s.rd Reg.ETH_PCPMAP (g - 24)) 0 3 } 60).1
  else s

/-! ### NEED -/

/-- The NM_NEED commands of a segment reach their outcome; a HOLD runs from it (R653, R674). -/
def State.needsDone (s : State) (g : Nat) : State :=
  let cs := (s.seg g).needs
  let s := s.modSeg g fun x => { x with needs := [], kaOk := true }
  cs.foldl (fun s c =>
    let h := c.arg 16 2
    (s.modSeg g fun x => { x with holdAt := if h = 0 then none else some (s.now + h * 100000000) }).complete c .done) s

/-- The segment is in NEED: its transceiver is normal, its own keep-alive goes out at once. -/
def State.nmNeed (s : State) (g : Nat) : State :=
  if s.nmSt g = 1 then s
  else
    let s := (s.nmTo g 1).modSeg g fun x => { x with kaOk := false }
    if 16 ≤ g ∧ g < 24 then (s.linOp (g - 16)).linAwake (g - 16) else s.kaSend g

/-- No hold is left: READY, with no keeper (R650). -/
def State.nmLeave (s : State) (g : Nat) : State :=
  if s.nmSt g ≠ 1 ∨ s.flag Reg.NM_STAT_HOSTNEED g ∨ s.flag Reg.NM_STAT_FWDNEED g then s
  else
    let s := s.nmReady g 255
    if 16 ≤ g ∧ g < 24 then
      match s.linParent (g - 16) with
      | some p => if s.nmSt p = 4 then s.linSleep (g - 16) else s
      | none => s
    else s

/-- A wake is reported (R672, R675). -/
def State.wakeEvent (s : State) (g kind : Nat) (inStop : Bool) : State :=
  s.raise 0x1C82 (segObj g) (atByte 16 g + atByte 17 kind + atByte 18 (b2n inStop))

/-- A forward wake puts a segment into NEED for FWDHOLD (R654). -/
def State.forwardWake (s : State) (g : Nat) : State :=
  if s.nmSt g = 0 then s
  else
    let s := if s.nmSt g = 4 then s.wakeEvent g 3 false else s
    let s := (s.wr Reg.NM_STAT_FWDNEED g 1).modSeg g fun x => { x with fwdAt := s.now + s.rd Reg.NM_GCFG_FWDHOLD * 100000000 }
    s.nmNeed g

/-- Forward wake of several segments, given as the EGRESS fields of an entry. -/
def State.forwardAll (s : State) (eth can lin : Nat) : State :=
  let s := (List.range 16).foldl (fun s n => if bit can n then s.forwardWake n else s) s
  let s := (List.range 8).foldl (fun s n => if bit lin n then s.forwardWake (16 + n) else s) s
  (List.range 10).foldl (fun s p => if bit eth p then s.forwardWake (24 + p) else s) s

/-- A keep-alive frame of node `nid` on segment `g` (R650, R651, R664). -/
def State.keepAlive (s : State) (g nid : Nat) : State :=
  let s := (s.charge g).noteNode g nid
  let st := s.nmSt g
  if st = 2 ∨ st = 3 then s.nmReady g nid
  else if st = 1 then (s.wr Reg.NM_STAT_KEEPER g nid).modSeg g fun x => { x with tkaAt := s.now + s.tka g }
  else s

/-! ### Wakes (R655 to R660) -/

/-- A wake is latched (R658). -/
def State.wakeLatch (s : State) (g kind : Nat) (inStop : Bool) : State :=
  let f := if g < 32 then Reg.NM_WLATCH0 else Reg.NM_WLATCH1
  ((s.wr f 0 (setBit (s.rd f) (g % 32))).bump Reg.NM_CNT_WAKES g).modSeg g fun x => { x with wakeAt := s.ntime, wakeKind := kind, inStop }

/-- The segment wakes as from SLEEP; a LIN segment's wake acts on its parent (R650, R659, R660). -/
def State.segAwake (s : State) (g : Nat) : State :=
  if s.nmSt g ≠ 4 then s
  else
    let s := s.nmReady g 255
    if 16 ≤ g ∧ g < 24 then
      let s := s.linAwake (g - 16)
      let p := s.rd Reg.NM_CFG_PARENT g
      if p = g then s else s.forwardWake p
    else s

/-- The detector of a sleeping segment may report a wake. -/
def State.detects (s : State) (g : Nat) : Bool := decide (g < 34) && s.nmSt g == 4 && (s.seg g).armed

/-- The access object holds the release channel in NEED, while authorisation lasts and for 1 s after it (R896). -/
def State.relHold (s : State) (g : Nat) : Bool :=
  g == s.rd Reg.ACC_CFG_RELCH && (s.acc.authAt.isSome || match s.acc.endedAt with | some t => decide (s.now < t + 1000000000) | none => false)

/-- Every enabled segment sleeps (R667, R678). -/
def State.allSleep (s : State) : Bool := (List.range 34).all fun g => !s.flag Reg.NM_CFG_EN g || s.nmSt g == 4

end Sys2Proof.Machine
end

