-- ==== Sys2Proof/Machine/Avtp.lean ====
section
/-!
DEFINITION. Sys2Proof/Machine/Avtp.lean: Ethernet frames as bytes, and CAN and LIN frames inside IEEE 1722 PDUs (R614, R619 to R621).  The bit places of
the standards that the spec names (802.1Q, 802.1CB, IEEE 1722-2016) are PRESUMED (log entry 33).
-/
namespace Sys2Proof.Machine

/-! ### Ethernet frames -/

/-- The frame that its bytes from the destination address on spell. -/
def parseEth (bs : List Byte) : EthFrame :=
  let da := bs.take 6
  let sa := (bs.drop 6).take 6
  let r := bs.drop 12
  let (tci, r) : Option Nat × List Byte := if ofBe (r.take 2) = 0x8100 then (some (ofBe ((r.drop 2).take 2)), r.drop 4) else (none, r)
  let (rtag, r) : Option Nat × List Byte := if ofBe (r.take 2) = 0xF1C1 then (some (ofBe ((r.drop 4).take 2)), r.drop 6) else (none, r)
  { da, sa, tci, rtag, type := ofBe (r.take 2), body := r.drop 2 }

/-- The EtherType of IEEE 1722. -/
def avtpType : Nat := 0x22F0

/-- The stream ID of an AVTP PDU of the two formats, its message bytes, and whether its lengths are in order. -/
def avtpParts (f : EthFrame) : Option (Nat × Option (List Byte)) :=
  if f.type ≠ avtpType then none
  else
    let b := f.body
    let sub := b.getD 0 0
    let sid := ofBe ((b.drop 4).take 8)
    if sub = 0x82 then
      let n := b.getD 1 0 % 8 * 256 + b.getD 2 0
      some (sid, if n ≤ (b.drop 12).length then some ((b.drop 12).take n) else none)
    else if sub = 0x05 then
      let n := ofBe ((b.drop 20).take 2)
      some (sid, if n ≤ (b.drop 24).length then some ((b.drop 24).take n) else none)
    else none

/-! ### ACF messages -/

/-- Zero bytes up to a quadlet. -/
def padQuad (bs : List Byte) : List Byte := bs ++ List.replicate ((4 - bs.length % 4) % 4) 0

/-- First two bytes of a message of `q` quadlets. -/
def acfHead (type q : Nat) : List Byte := beBytes 2 (type * 512 + q)

/-- The message that carries a frame of channel `bus` (R619, R620); none when it does not fit. -/
def acfOf (xlType : Nat) (f : Frame) (bus : Nat) (t : Option Stamp) : Option (List Byte) :=
  let mtv := if t.isSome then 1 else 0
  let ts := beBytes 8 (match t with | some x => x.time | none => 0)
  let n := f.data.length
  let pad := (4 - n % 4) % 4
  if f.fmt = 3 then
    if 2024 < n then none
    else
      let body := padQuad f.data
      some (acfHead xlType (5 + body.length / 4) ++ [f.hdr.getD 1 0 % 2 + 2 * mtv, bus % 32] ++ ts ++ beBytes 2 (f.id % 2048)
        ++ [f.hdr.getD 0 0, f.hdr.getD 2 0] ++ ((List.range 4).map fun k => f.hdr.getD (4 + k) 0) ++ body)
  else if f.fmt = 4 then
    let body := padQuad f.data
    some (acfHead 3 (3 + body.length / 4) ++ [pad * 64 + mtv * 32 + bus % 32, f.id % 64] ++ ts ++ body)
  else
    let body := padQuad f.data
    let ide := bits f.id 29 1
    let cid := if ide = 1 then f.id % 2048 * 2 ^ 18 + bits f.id 11 18 else f.id % 2048
    let flags := pad * 64 + mtv * 32 + bits f.id 30 1 * 16 + ide * 8 + (if f.fmt = 2 then 4 else 0) + (if f.fmt = 0 then 0 else 2) + f.flags % 2
    some (acfHead 1 (4 + body.length / 4) ++ [flags, bus % 32] ++ ts ++ beBytes 4 cid ++ body)

/-- The PDU with one message (R619). -/
def avtpBody (tscf : Bool) (sid : List Byte) (seq : Nat) (t : Option Stamp) (msg : List Byte) : List Byte :=
  if tscf then
    [0x05, 0x80 + (if t.isSome then 1 else 0), seq, 0] ++ sid ++ beBytes 4 (match t with | some x => x.time % 2 ^ 32 | none => 0) ++ [0, 0, 0, 0]
      ++ beBytes 2 msg.length ++ [0, 0] ++ msg
  else [0x82, 0x80 + msg.length / 256 % 8, msg.length % 256, seq] ++ sid ++ msg

/-- A received message: the frame, and its time stamp when it has one. -/
structure Acf where
  frame : Frame
  time  : Option Nat

/-- A CAN frame from an ACF message's fields: flags, identifier, payload with its padding. -/
def acfCan (flags cid : Nat) (body : List Byte) : Frame :=
  let ide := bits flags 3 1
  let n := body.length - bits flags 6 2
  { id := (if ide = 1 then cid / 2 ^ 18 % 2048 + cid % 2 ^ 18 * 2048 + 2 ^ 29 else cid % 2048) + bits flags 4 1 * 2 ^ 30
    fmt := if bits flags 1 1 = 0 then 0 else if bits flags 2 1 = 1 then 2 else 1
    flags := flags % 2, data := body.take n }

/-- The messages of a PDU, in order; messages of other types are skipped.  None when their lengths do not add up, or there are more than `fuel` (R621). -/
def acfList (xlType : Nat) : Nat → List Byte → Option (List Acf)
  | _, [] => some []
  | 0, _ => none
  | fuel + 1, bs =>
    let type := bs.getD 0 0 / 2
    let n := 4 * (bs.getD 0 0 % 2 * 256 + bs.getD 1 0)
    if n = 0 ∨ bs.length < n then none
    else
      match acfList xlType fuel (bs.drop n) with
      | none => none
      | some rest =>
        let m := bs.take n
        let b2 := m.getD 2 0
        let ts := ofBe ((m.drop 4).take 8)
        if type = xlType ∧ 20 ≤ n then
          some ({ frame := { id := ofBe ((m.drop 12).take 2) % 2048, fmt := 3
                             hdr := [m.getD 14 0, b2 % 2, m.getD 15 0, 0] ++ (m.drop 16).take 4, data := m.drop 20 }
                  time := if bits b2 1 1 = 1 then some ts else none } :: rest)
        else if type = 1 ∧ 16 ≤ n then
          some ({ frame := acfCan b2 (ofBe ((m.drop 12).take 4) % 2 ^ 29) (m.drop 16), time := if bits b2 5 1 = 1 then some ts else none } :: rest)
        else if type = 2 ∧ 8 ≤ n then some ({ frame := acfCan b2 (ofBe ((m.drop 4).take 4) % 2 ^ 29) (m.drop 8), time := none } :: rest)
        else if type = 3 ∧ 12 ≤ n then
          let body := m.drop 12
          some ({ frame := { id := m.getD 3 0 % 64, fmt := 4, data := body.take (body.length - bits b2 6 2) }
                  time := if bits b2 5 1 = 1 then some ts else none } :: rest)
        else some rest

end Sys2Proof.Machine
end

