-- ==== Sys2Proof/Machine/Gateway.lean ====
section
/-!
DEFINITION. Sys2Proof/Machine/Gateway.lean: lookup, samples, flow meters, and the forms in which a matched frame leaves (R594 to R617, R627 to R636,
R647, R654).
-/
namespace Sys2Proof.Machine

/-! ### Lookup (R594) -/

/-- INGRESS codes: a segment's own, and the host's (R614). -/
def ingressOf (g : Nat) : Nat := if g < 24 then g else 0x20 + (g - 24)
def hostIngress : Nat := 0x30

/-- TCI of a frame: an untagged frame has the PVID of its port and PCP 0. -/
def State.tciOf (s : State) (g : Nat) (f : EthFrame) : Nat :=
  match f.tci with | some t => t | none => if 24 ≤ g ∧ g < 34 then s.rd Reg.ETH_PCFG_PVID (g - 24) else 0

/-- The kind under which a frame is looked up, its key, and the key's width; an Ethernet frame may be looked up as one or as a stream. -/
def State.keysOf (s : State) (g : Nat) (b : Body) : List (Nat × Nat × Nat) :=
  match b with
  | .bus f => if f.fmt = 4 then [(2, f.id % 64, 6)] else [(1, f.id + f.fmt * 2 ^ 32, 40)]
  | .acf _ _ => []
  | .eth f =>
    (3, ofLe (f.da ++ beBytes 2 (s.tciOf g f)), 64) ::
      (match avtpParts f with | some (sid, _) => [(4, ofLe (beBytes 8 sid), 64)] | none => [])

/-- Entry `e` matches a frame of ingress `ing` with these keys. -/
def State.fitMatches (s : State) (e ing : Nat) (keys : List (Nat × Nat × Nat)) : Bool :=
  let i := s.fitBits e 1 0 8
  s.fitBits e 0 4 1 == 1 && (i == ing || (i == 0x2F && s.fitRtag e && (ing == 0x20 || ing == 0x21)))
  && keys.any fun k => k.1 == s.fitKind e && Nat.land (Nat.xor k.2.1 (s.fitBits e 4 0 k.2.2)) (s.fitBits e 12 0 k.2.2) == 0

/-- The entry that acts: the matching one with the lowest index. -/
def State.lookup (s : State) (ing : Nat) (keys : List (Nat × Nat × Nat)) : Option Nat :=
  (s.net.fit.find? fun x => s.fitMatches x.1 ing keys).map (·.1)

/-- MATCH and FIT_HIT (R644). -/
def State.noteMatch (s : State) (e : Nat) : State :=
  let s := s.fitCount e 0
  if s.net.hit.contains e then s else { s with net := { s.net with hit := e :: s.net.hit } }

/-- The flow meter of an entry (R601): the second part says that the frame passes. -/
def State.meter (s : State) (e : Nat) : State × Bool :=
  let rate := s.fitBits e 56 0 16
  if rate = 0 then (s, true)
  else
    let x := s.fit e
    let tok := min (s.fitBits e 58 0 8 * 100000000) (x.tokens + rate * (s.now - x.fillAt))
    if 100000000 ≤ tok then (s.modFit e fun x => { x with tokens := tok - 100000000, fillAt := s.now }, true)
    else ((s.modFit e fun x => { x with tokens := tok, fillAt := s.now }).fitCount e 4, false)

/-! ### Samples (R627 to R630, R635, R636) -/

/-- A new sample clears the entry's FIT_WD bit and raises FRESH_BACK. -/
def State.freshBack (s : State) (e : Nat) (t : Stamp) : State :=
  if s.net.wd.contains e then
    let s := { s with net := { s.net with wd := s.net.wd.filter (· != e) } }
    if s.fitEven e then s.raise 0x1A82 0xFFFF (atByte 16 e + atByte 24 t.time) else s
  else s

/-- The entry's latest value is replaced whole. -/
def State.sample (s : State) (e : Nat) (v : Value) : State := (s.modFit e fun x => { x with value := some v }).freshBack e v.stamp

/-- Source object and field of a published value. -/
def State.srcObj (s : State) (e : Nat) : Nat := s.fitBits e 60 0 16
def State.srcFld (s : State) (e : Nat) : Nat := min 3 (s.fitBits e 59 0 8)

/-- The stamp of a published value's source, while it is valid (R504, R521, R531, R627). -/
def State.srcStamp (s : State) (e : Nat) : Option Stamp :=
  let o := s.srcObj e
  let n := objNum o
  match s.srcFld e with
  | 0 =>
    if isKind .sw o then (if s.flag Reg.SW_STAT_VALID n then (s.sw n).smp else none)
    else if isKind .ii o then (if s.flag Reg.II_STAT_VALID n then (s.ii n).smp else none)
    else none
  | 3 => if isKind .ii o && decide (n < 4) && s.flag Reg.BAR_STAT_UP && !s.flag Reg.II_STAT_CNTRST n then s.inp.upAt else none
  | _ => if isOutput o || isKind .io o then some ⟨s.now, s.ntime⟩ else none

/-- The value of a published value's source. -/
def State.srcValue (s : State) (e : Nat) : Nat :=
  let o := s.srcObj e
  let n := objNum o
  match s.srcFld e with
  | 0 => if isKind .sw o then s.rd Reg.SW_STAT_LEVEL n else s.rd Reg.II_STAT_LEVEL n
  | 1 => match verdField (kindOf o) with | some f => s.rd f (ix o) | none => 0
  | 2 => s.st o
  | _ => s.rd Reg.II_CNT_COUNT n % 65536

/-- The stamp of an entry's latest value; none when it has no sample (R630). -/
def State.entryStamp (s : State) (e : Nat) : Option Stamp :=
  let x := s.fit e
  let t := if s.fitKind e = 5 ∧ (s.srcFld e = 0 ∨ s.srcFld e = 3) then s.srcStamp e else x.value.map (·.stamp)
  match t with
  | some t => if x.since ≤ t.at_ then some t else none
  | none => none

/-- Published entries whose source has been sampled anew are no longer withdrawn (R636). -/
def State.freshInputs (s : State) : State :=
  s.net.wd.foldl (fun s e =>
    if s.fitKind e = 5 then
      match s.entryStamp e with
      | some t => if s.now ≤ t.at_ + s.fitDeadline e then s.freshBack e t else s
      | none => s
    else s) s

/-- The data of a published value: the source's value right-aligned in FIELD, over TEMPLATE (R628). -/
def State.published (s : State) (e : Nat) : List Byte :=
  let n := clampNat 1 8 (s.fitBits e 12 0 8)
  let p := s.fitBits e 50 0 11
  let w := s.fitBits e 51 3 5 + 1
  let t := s.fitBits e 4 0 (8 * n)
  leBytes n (t % 2 ^ p + s.srcValue e % 2 ^ w * 2 ^ p + t / 2 ^ (p + w) * 2 ^ (p + w))

/-! ### Forms of R602 -/

/-- A classical data frame with identifier OUTID. -/
def State.outFrame (s : State) (e : Nat) (data : List Byte) : Frame := { id := s.fitOut e % 2 ^ 30, fmt := 0, data := data.take 8 }

/-- Frames that a value becomes on a CAN channel. -/
def State.asCan (s : State) (e : Nat) (b : Body) (t : Option Stamp) : List (Frame × Option Stamp) :=
  match s.fitKind e, b with
  | 1, .bus f => [(if s.fitBits e 3 0 1 = 1 then { f with id := s.fitOut e % 2 ^ 30 + bits f.id 30 1 * 2 ^ 30 } else f, t)]
  | 2, .bus f => [(s.outFrame e f.data, t)]
  | 5, .bus f => [(s.outFrame e f.data, t)]
  | 4, .eth f =>
    match avtpParts f with
    | some (_, some ms) =>
      match acfList (s.rd Reg.ETH_GCFG_XLTYPE) 16 ms with
      | some l => (l.filter fun m => m.frame.fmt != 4).map fun m => (m.frame, match m.time with | some n => some ⟨s.now - (s.ntime - n), n⟩ | none => t)
      | none => []
    | _ => []
  | _, _ => []

/-- Responses that a value becomes on a LIN channel: identifier, data, sample. -/
def State.asLin (s : State) (e : Nat) (b : Body) (t : Option Stamp) : List (Nat × List Byte × Option Stamp) :=
  let id := s.fitOut e % 64
  match s.fitKind e, b with
  | 1, .bus f => if f.fmt = 0 ∧ bits f.id 30 1 = 0 then [(id, f.data.take 8, t)] else []
  | 2, .bus f => [(id, f.data, t)]
  | 5, .bus f => [(id, f.data, t)]
  | 4, .eth f =>
    match avtpParts f with
    | some (_, some ms) =>
      match acfList (s.rd Reg.ETH_GCFG_XLTYPE) 16 ms with
      | some l => (l.filter fun m => m.frame.fmt == 4).map fun m =>
          (m.frame.id % 64, m.frame.data, match m.time with | some n => some ⟨s.now - (s.ntime - n), n⟩ | none => t)
      | none => []
    | _ => []
  | _, _ => []

/-- What a value leaves as on a port. -/
def State.asEth (s : State) (e bus : Nat) (b : Body) : Option Body :=
  match s.fitKind e, b with
  | 3, .eth f => some (.eth f)
  | 4, .eth f => some (.eth f)
  | 5, .bus f => some (.acf (s.outFrame e f.data) bus)
  | 1, .bus f => some (.acf f bus)
  | 2, .bus f => some (.acf f bus)
  | _, _ => none

/-- Length that a frame occupies in packet memory, and the longest of its format (R605, R608). -/
def Body.len : Body → Nat
  | .bus f => f.hdr.length + f.data.length | .acf f _ => f.hdr.length + f.data.length | .eth f => f.len
def fmtMax : Nat → Nat | 0 => 8 | 1 => 64 | 2 => 64 | 3 => 2056 | _ => 8

/-- Length on the line of what leaves a port. -/
def portLen : Body → Nat
  | .eth f => f.len
  | .acf f _ => max 60 (14 + 4 + 24 + 20 + f.hdr.length + f.data.length)
  | .bus _ => 60

/-- A response's source (R584, R604). -/
def State.setResp (s : State) (n id : Nat) (r : LinResp) : State :=
  s.modLin n fun x => { x with resp := tput x.resp id r, mreq := x.mreq || id == 0x3C }

/-- One frame or value is sent on an entry's egress (R602 to R604, R610, R633); `client` holds it in packet memory, `cmd` is the ETH_SEND that it serves. -/
def State.sendValue (s : State) (e client bus : Nat) (b : Body) (t : Option Stamp) (cmd : Option Cmd) : State :=
  -- LIN: the entry becomes the source of the response
  let s := (List.range 8).foldl (fun s n =>
    if !bit (s.fitLin e) n then s
    else (s.asLin e b t).foldl (fun s r =>
      if s.nmQuiet (16 + n) then s.fitCount e 5
      else s.setResp n r.1 { data := r.2.1, entry := some e, stamp := r.2.2 }) s) s
  -- CAN and Ethernet copies that their queues take; the others are dropped
  let cans := (List.range 16).filter fun n => bit (s.fitCan e) n
  let frames := cans.flatMap fun n => (s.asCan e b t).map fun f => (n, f)
  let okC := frames.filter fun x => s.canTakes x.1 x.2.1.fmt
  let ports := match s.asEth e bus b with
    | none => []
    | some x => ((List.range 10).filter fun p => bit (s.fitEth e) p).map fun p => (p, x)
  let noFit := match s.asEth e bus b with | some (.acf f _) => f.fmt == 3 && decide (2024 < f.data.length) | _ => false
  let okP := ports.filter fun x => s.flag Reg.ETH_PCFG_EN x.1 && !s.nmQuiet (24 + x.1) && !noFit
  let lost := (frames.length - okC.length) + (if noFit then 1 else ports.length - okP.length)
  let s := (List.range lost).foldl (fun s _ => s.fitCount e 5) s
  let s := if noFit && !ports.isEmpty then s.bump Reg.FIT_GSTAT_NOFIT 0 else s
  let n := okC.length + okP.length
  if n = 0 then (match cmd with | some c => s.complete c .done | none => s)
  else
    let r := s.storeFrame client b.len b.len n cmd
    match r.2 with
    | none =>
      let s := if client < 24 then r.1.rxDrop client else r.1.bump Reg.ETH_DROP_NOMEM (match cmd with | some c => objNum c.object | none => client - 24)
      match cmd with | some c => s.complete c .refusedState 0x1902 | none => s
    | some sn =>
      let s := r.1
      let tc := s.fitBits e 2 0 3
      let base : Tx := { ord := 0, frm := match cmd with | some c => .cmd c | none => .route e, body := b, stamp := t, entry := some e, tc, sn }
      let s := (okC.zip (List.range okC.length)).foldl (fun s x =>
        s.canPush x.1.1 { base with frm := .route e, body := .bus x.1.2.1, stamp := x.1.2.2, lead := x.2 == 0 }) s
      (okP.zip (List.range okP.length)).foldl (fun s x =>
        (s.portPush x.1.1 { base with body := x.1.2, lead := okC.isEmpty && x.2 == 0 } (portLen x.1.2)).1) s

/-! ### Ingress of CAN and LIN frames -/

/-- The WAKE roles of a matched entry (R647, R654): `nid` is the data byte that may name a node. -/
def State.wakeRoles (s : State) (e g nid : Nat) : State :=
  let w := s.fitBits e 0 6 2
  let s := if (w = 1 ∨ w = 3) ∧ g < 34 then s.keepAlive g nid else s
  if w = 2 ∨ w = 3 then s.forwardAll (s.fitEth e) (s.fitCan e) (s.fitLin e) else s

/-- The latest value is sent on arrival (R633), not with PERIOD above 0 (R634). -/
def State.sendNow (s : State) (e client bus : Nat) (b : Body) (t : Stamp) : State :=
  if s.fitPeriod e = 0 then s.sendValue e client bus b (some t) none else s

/-- A whole CAN or LIN frame has been received on segment `g` (R557, R594 to R601, R608, R609). -/
def State.ingest (s : State) (g : Nat) (f : Frame) (t : Stamp) : State :=
  if (s.cellsFor g (cells (fmtMax f.fmt))).isNone then s.rxDrop g
  else
    let all := s.flag Reg.RXQ_CFG_ALL g
    match s.lookup (ingressOf g) (s.keysOf g (.bus f)) with
    | none => if all then s.rxBus g f t.time else s.bump Reg.FIT_GSTAT_UNMATCHED 0
    | some e =>
      let r := (s.noteMatch e).meter e
      if !r.2 then r.1
      else
        let s := r.1.wakeRoles e g (f.data.getD (r.1.rd Reg.NM_CFG_NIDBYTE g) 0)
        let s := s.sample e { body := .bus f, bus := if g < 16 then g else g - 16, stamp := t }
        let s := if all || s.fitBits e 2 5 1 == 1 then s.rxBus g f t.time else s
        s.sendNow e g (if g < 16 then g else g - 16) (.bus f) t

end Sys2Proof.Machine
end

