-- ==== Sys2Proof/Machine/CanRows.lean ====
section
/-!
DEFINITION. Sys2Proof/Machine/CanRows.lean: CAN and LIN channels: sending, receiving, errors, collisions, reference messages, LIN schedules
(R546 to R587).
-/
namespace Sys2Proof.Machine

/-! ### CAN_SEND -/

/-- Valid FD data lengths (R549). -/
def fdLen (n : Nat) : Nat :=
  if n ≤ 8 then n else if n ≤ 12 then 12 else if n ≤ 16 then 16 else if n ≤ 20 then 20 else if n ≤ 24 then 24 else if n ≤ 32 then 32
  else if n ≤ 48 then 48 else 64

/-- Identity of an identifier: its bits and IDE. -/
def idKey (id : Nat) : Nat := id % 2 ^ 30

/-- The identifier is blocked on channel `n` (R571). -/
def State.idBlocked (s : State) (n id : Nat) : Bool := (s.can n).coll.any fun x => x.2.blocked && idKey x.2.id == idKey id

/-- The reference identifier of channel `n`. -/
def State.tmId (s : State) (n : Nat) : Nat := s.rd Reg.TM_ID_ID n + s.rd Reg.TM_ID_IDE n * 2 ^ 29

/-- Bars of a CAN_SEND (R550, R551, R566, R571, R652). -/
def State.canSendBars (s : State) (n id fmt : Nat) : List (Option (Code × Nat)) :=
  [barIf (!s.flag Reg.CAN_CTL_EN n) .refusedState 0x1401, barIf (s.nmQuiet n) .refusedState 0x1C02, barIf (!s.fmtOn n fmt) .refusedState 0x1405,
   barIf (s.flag Reg.TM_CFG_TMEN n && idKey id == s.tmId n) .refusedPolicy 0x1408, barIf (s.idBlocked n id) .refusedPolicy 0x1404,
   barIf (s.rd Reg.CAN_STAT_STATE n == 2) .refusedState 0x1403, barIf (decide (32 ≤ (s.can n).held)) .refusedState 0x1402]

/-- `CAN_SEND`: `rcd` is what the host's memory holds at the record's address (R547 to R552). -/
def execCanSend (dt : Nat) (c : Cmd) (rcd : List Byte) (s : State) : Answered :=
  .next (s.serveOp dt c 0x4001 [.can] fun s =>
    let n := objNum c.object
    let id := c.arg 16 4
    let fmt := c.arg 20 1 % 4
    let inl := c.argBits 21 0 1 == 1
    let len0 := c.arg 22 2
    let len := if fmt = 3 then clampNat 1 2048 len0 else if fmt = 0 then min 8 len0 else min 64 len0
    s.orElse c (s.canSendBars n id fmt) fun s =>
      let s := s.descClamp c (clampWin c.object) 22 0 16 len0 len
      let addr := c.arg 24 8
      let hdr := if fmt = 3 then 8 else 0
      let raw := if inl then (List.range len).map fun k => if k < 8 then c.arg (24 + k) 1 else Config.inlineTail k % 256
                 else ((List.range len).map fun k => rcd.getD (hdr + k) 0 % 256)
      let full := if fmt = 1 ∨ fmt = 2 then fdLen len else len
      let data := if bits id 30 1 = 1 then List.replicate full 0 else raw ++ List.replicate (full - len) 0xCC
      let f : Frame := { id, fmt, hdr := (List.range hdr).map fun k => rcd.getD k 0 % 256, data }
      let go := fun (s : State) => s.canPush n { ord := 0, frm := .cmd c, body := .bus f }
      if inl then go s
      else if addr % 8 ≠ 0 then s.complete c .refusedPolicy 0x0109
      else let r := s.dma c.pf addr (hdr + len); if r.2 then go r.1 else r.1.complete c .masterFrozen).done

/-- The collision entry of an identifier, changed by `f`. -/
def onColl (t : Tab Coll) (id : Nat) (f : Coll → Coll) : Tab Coll := t.map fun p => if idKey p.2.id = idKey id then (p.1, f p.2) else p

/-- `ID_UNBLOCK` (R572). -/
def execIdUnblock (dt : Nat) (c : Cmd) (s : State) : Answered :=
  .next (s.serveOp dt c 0x2011 [.can] fun s =>
    ((s.begin c).modCan (objNum c.object) fun x => { x with coll := onColl x.coll (c.arg 16 4) fun e => { e with blocked := false, count := 0 } }).complete c .done).done

/-- HEAD of a receive queue moves to a value between HEAD and TAIL (R563). -/
def State.rxRelease (s : State) (c : Cmd) : State :=
  let g := objSeg c.object
  let head := s.rd Reg.RXQ_IDX_HEAD g
  if (s.rd Reg.RXQ_IDX_TAIL g + 65536 - head) % 65536 < (c.arg 16 2 + 65536 - head) % 65536 then
    s.complete c .refusedPolicy (objWin c.object * 256 + 6)
  else
    let s := (s.begin c).wr Reg.RXQ_IDX_HEAD g (c.arg 16 2)
    (if s.rxUsed g < s.rxSize g then s.modRxq g fun q => { q with full := false } else s).complete c .done

/-- `RX_RELEASE` of a CAN, LIN or Ethernet queue (R563). -/
def execRxRelease (dt : Nat) (c : Cmd) (s : State) : Answered :=
  .next (s.serveOp dt c 0x2010 [.can, .lin, .eth] fun s => s.rxRelease c).done

/-! ### States -/

/-- CAN_STATE (R565, R588). -/
def State.canEvent (s : State) (n : Nat) : State :=
  s.raise 0x1481 (0x200 + n) (atByte 16 (s.rd Reg.CAN_STAT_STATE n) + atByte 17 (s.rd Reg.CAN_STAT_EWARN n) + atByte 18 (s.rd Reg.CAN_STAT_TEC n)
    + atByte 19 (s.rd Reg.CAN_STAT_REC n))

/-- CAN_STAT follows the error counters; a change of state or of EWARN raises CAN_STATE (R565). -/
def State.canShow (s : State) (n st : Nat) : State :=
  let x := s.can n
  let warn := b2n (decide (96 ≤ x.tec) || decide (96 ≤ x.rec_))
  let moved := st != s.rd Reg.CAN_STAT_STATE n || warn != s.rd Reg.CAN_STAT_EWARN n
  let s := (((s.wr Reg.CAN_STAT_STATE n st).wr Reg.CAN_STAT_EWARN n warn).wr Reg.CAN_STAT_TEC n (min 255 x.tec)).wr Reg.CAN_STAT_REC n (min 255 x.rec_)
  if moved then (s.modCan n fun x => { x with changed := s.ntime }).canEvent n else s

/-- The state that the counters give a running channel. -/
def State.canActive (s : State) (n : Nat) : Nat := let x := s.can n; if 128 ≤ x.tec ∨ 128 ≤ x.rec_ then 1 else 0

/-- A running channel: enabled, and not bus-off; the interfaces stop while the reference is lost (R74). -/
def State.canRuns (s : State) (n : Nat) : Bool := decide (n < 16) && s.buses && s.flag Reg.CAN_CTL_EN n && decide (s.rd Reg.CAN_STAT_STATE n ≤ 1)

/-- A frame leaves the channel without having been sent: its command completes, its cells are free. -/
def State.canGone (s : State) (t : Tx) (code : Code) (sub : Nat) : State :=
  let s := (s.copyLeft t.sn).1
  match t.frm with | .cmd c => s.complete c code sub | _ => s

/-- Every queued frame and the frame on the bus leave (R566, R127). -/
def State.canFlush (s : State) (n : Nat) (code : Code) (sub : Nat) : State :=
  let x := s.can n
  let ts := (match x.bus with | some b => [b.tx] | none => []) ++ x.queue
  (ts.foldl (fun s t => s.canGone t code sub) (s.modCan n fun x => { x with queue := [], bus := none })).showTxq n

/-- EN goes from 0 to 1: the channel starts error-active (R544, R809). -/
def State.canStart (s : State) (n : Nat) : State := (s.modCan n fun x => { x with tec := 0, rec_ := 0, bus := none }).canShow n 0

/-- EN goes to 0: the channel stops, and its commands complete ABORTED_RESET (R127). -/
def State.canStop (s : State) (n : Nat) : State :=
  let s := s.canFlush n .abortedReset 0
  ((s.modCan n fun x => { x with tec := 0, rec_ := 0 }).wr Reg.CAN_STAT_RECOVERING n 0).canShow n 3

/-- The channel's slice was retired without a spare (R809). -/
def State.canDead (s : State) (n : Nat) : Bool := s.nv.retired.any fun r => r.kind == 6 && r.unit == segObj n && bit r.flags 1

/-- The loopback self-test of channel `n` (R804, R809): the spare slice takes over from a slice that fails; the second part says that the channel has a
slice. -/
def State.canTest (s : State) (n : Nat) (fail : Bool) : State × Bool :=
  let o := segObj n
  if s.canDead n then (s.sparesOut 6 o, false)
  else if !fail then (s, true)
  else if s.flag Reg.SPR_MISC_CANSP then
    (((s.wr Reg.SPR_MISC_CANSP 0 0).wr Reg.CAN_XCVR_SLICE n 1).retire 6 5 o 0xFF true false, true)
  else ((s.retire 6 5 o 0xFF false true).sparesOut 6 o, false)

/-- An enabled channel starts with die C: a channel without a slice has its EN clamped to 0 (R809). -/
def State.canBoot (s : State) (n : Nat) (fail : Bool) : State :=
  let t := s.canTest n fail
  if t.2 then t.1.canStart n
  else (t.1.wr Reg.CAN_CTL_EN n 0).logClamp (0x14 + n / 4)
    { offset := 0x400 * (n % 4), lsb := Reg.CAN_CTL_EN.lo, width := 1, src := 3, pf := s.owner (segObj n), req := 1, applied := 0, object := segObj n }

/-! ### Starting a frame -/

/-- The frame that the channel offers: the lowest identifier, and among equals the one queued first (R551). -/
def bestTx (ref : Nat) (q : List Tx) : Option Tx :=
  let key := fun (t : Tx) => match t.body with | .bus f => arbKey (if t.frm = From.ref then ref else f.id) | _ => 0
  (sortBy (fun a b => decide (key a < key b) || (key a == key b && decide (a.ord ≤ b.ord))) q).head?

/-- The data of a reference message (R573, R575). -/
def State.refData (s : State) (n : Nat) : List Byte :=
  let t := (s.can n).tmSof
  s.rd Reg.TM_STAT_CYCLE n :: (match t with | some x => leBytes 7 x | none => List.replicate 7 0xFF)

/-- A start of frame on channel `n`: the frame is judged, and offered, marked or withdrawn (R573, R631, R632).  A listen-only transceiver sends
nothing, and its frames stay queued (R545; DEDUCED, log entry 89). -/
def State.canSof (s : State) (n : Nat) : State :=
  if !s.canRuns n || s.nmQuiet n || (s.can n).bus.isSome || s.rd Reg.CAN_XCVR_MODE n == 4 then s
  else
    match bestTx (s.tmId n) (s.can n).queue with
    | none => s
    | some t =>
      let s := s.modCan n fun x => { x with queue := x.queue.filter fun u => u.ord != t.ord }
      let put := fun (b : Body) (marked : Bool) => ((s.modCan n fun x => { x with bus := some { tx := t, frame := b, marked, sof := s.ntime } }).showTxq n).lineSeen n
      let esi := fun (b : Body) => match b with
        | .bus f => .bus { f with flags := if f.fmt = 1 ∨ f.fmt = 2 then s.rd Reg.CAN_STAT_STATE n else f.flags } | b => b
      match t.frm, t.entry with
      | .ref, _ => put (.bus { id := s.tmId n, fmt := 0, data := s.refData n }) false
      | _, some e =>
        match s.ageRule e t.stamp with
        | 0 => put (esi t.body) false
        | 1 => let s := (s.copyLeft t.sn).1.showTxq n; if t.lead then s.fitCount e 2 else s
        | _ => put (esi (s.markBody e t.body)) true
      | _, none => put (esi t.body) false

/-! ### Ends of a frame -/

/-- SENT or MARKED of the entry whose copy has been sent (R644). -/
def State.sentCount (s : State) (t : Tx) (marked : Bool) : State :=
  match t.entry with
  | some e => if t.lead then s.fitCount e (if marked then 3 else 1) else s
  | none => s

/-- The last copy of a stored frame has left: its ETH_SEND completes (R641, R638). -/
def State.storedDone (s : State) (t : Tx) : State :=
  let r := s.copyLeft t.sn
  match r.2 with
  | some x => match x.cmd with | some c => r.1.complete c .done (if x.marked then 0x190C else 0) | none => r.1
  | none => r.1

/-- The frame on channel `n` has been sent while a reset holds die C: the channel then stops, and the frame's command has ended with the reset (R568). -/
def State.canLast (s : State) (n : Nat) (b : OnBus) : State :=
  let s := ((s.bump Reg.CAN_TXRX_TXOK n).canCount n 0).modCan n fun x => { x with bus := none }
  if b.tx.frm = .ref then s.wr Reg.TM_STAT_CYCLE n ((s.rd Reg.TM_STAT_CYCLE n + 1) % 64) else s

/-- A LIN bit time × `k`, ns. -/
def State.linNs (s : State) (n k : Nat) : Ns := k * 1000000000 / max 1 (s.rd Reg.LIN_CFG_BAUD n)

/-- The go-to-sleep frame that channel `n` sends, of 124 bits, or else its wake pulse of 1 ms ends (R586, R674). -/
def State.linOpEnd (s : State) (n : Nat) : State :=
  let x := s.lin n
  if !x.sleeps.isEmpty then
    if s.now < x.opAt + s.linNs n 124 then s
    else
      let s := ((s.modLin n fun x => { x with sleeps := [], opAt := s.now }).linSleep n).lineSeen (16 + n)
      x.sleeps.foldl (fun s c => s.complete c .done) s
  else if s.now < x.opAt + 1000000 then s
  else
    let s := s.modLin n fun x => { x with wakes := [] }
    let s := if x.wakes.isEmpty then s else (s.linAwake n).lineSeen (16 + n)
    let s := x.wakes.foldl (fun s c => s.complete c .done) s
    if (s.seg (16 + n)).needs.isEmpty then s else s.needsDone (16 + n)

/-- `CAN_FRAME_SENT`: on CAN the frame's EOF ends, with the measured delay `tdc`; on LIN the go-to-sleep frame or the wake pulse ends (R542, R546, R570,
R575, R586, R674). -/
def execCanFrameSent (dt g tdc : Nat) (s : State) : Answered :=
  let s := s.tick dt
  .next (if g < 16 then
    match (s.can g).bus with
    | none => s
    | some b =>
      if !s.canRuns g then s.canLast g b else
      let id := match b.frame with | .bus f => f.id | _ => 0
      let fd := match b.frame with | .bus f => f.fmt != 0 | _ => false
      let s := s.modCan g fun x => { x with bus := none, tec := x.tec - 1, coll := onColl x.coll id fun e => { e with count := 0 } }
      let s := if fd && s.flag Reg.CAN_TDC_TDCEN g then s.wr Reg.CAN_TDC_TDCV g tdc else s
      let s := (((s.bump Reg.CAN_TXRX_TXOK g).canCount g 0).showTxq g).lineSeen g
      let s := s.canShow g (s.canActive g)
      let s := (s.sentCount b.tx b.marked).storedDone b.tx
      match b.tx.frm with
      | .cmd c => s.complete c .done
      | .own => s.needsDone g
      | .ref => (s.wr Reg.TM_STAT_CYCLE g ((s.rd Reg.TM_STAT_CYCLE g + 1) % 64)).modCan g fun x => { x with tmSof := some b.sof }
      | _ => s
  else if g < 24 ∧ s.buses then s.linOpEnd (g - 16) else s).done

/-- A frame that lost arbitration or was destroyed is offered again, unless its CANCEL has been latched (R553, R555). -/
def State.canRetry (s : State) (n : Nat) (b : OnBus) : State :=
  let s := s.modCan n fun x => { x with bus := none }
  if b.cancel then (s.canGone b.tx .cancelled 0).showTxq n
  else (s.modCan n fun x => { x with queue := sortBy (fun a c => decide (a.ord ≤ c.ord)) (b.tx :: x.queue) }).showTxq n

/-- `CAN_ARBITRATION_LOST` (R553, R555); while a reset holds die C nothing is offered again (R568). -/
def execCanArbitrationLost (dt n : Nat) (s : State) : Answered :=
  let s := s.tick dt
  .next (match (s.can n).bus with
    | some b => if s.canRuns n then s.canRetry n b else s.modCan n fun x => { x with bus := none }
    | none => s).done

/-! ### Collisions (R569 to R571) -/

/-- Slot of the collision table for an identifier; none when all eight are blocked by others. -/
def collSlot (t : Tab Coll) (id : Nat) : Option Nat :=
  match t.find? fun p => idKey p.2.id == idKey id with
  | some p => some p.1
  | none =>
    match (List.range 8).find? fun j => !(t.any fun p => p.1 == j) with
    | some j => some j
    | none =>
      (sortBy (fun (a b : Nat × Coll) => decide (a.2.count < b.2.count) || (a.2.count == b.2.count && decide (a.2.born ≤ b.2.born)))
        (t.filter fun p => !p.2.blocked)).head?.map (·.1)

/-- Frames of a blocked identifier complete REFUSED_POLICY with ID_BLOCKED. -/
def State.canBlock (s : State) (n id : Nat) : State :=
  let hit := fun (t : Tx) => (match t.frm with | .cmd _ => true | _ => false) && (match t.body with | .bus f => idKey f.id == idKey id | _ => false)
  let x := s.can n
  let ts := (match x.bus with | some b => if hit b.tx then [b.tx] else [] | none => []) ++ x.queue.filter hit
  let s := s.modCan n fun x => { x with
    queue := x.queue.filter fun t => !hit t, bus := match x.bus with | some b => if hit b.tx then none else some b | none => none }
  ((ts.foldl (fun s t => s.canGone t .refusedPolicy 0x1404) s).showTxq n).raise 0x1483 (0x200 + n) (atByte 16 (idKey id))

/-- A collision of the frame on the bus, at bit position `pos`. -/
def State.collide (s : State) (n id fmt pos : Nat) : State :=
  let x := s.can n
  match collSlot x.coll id with
  | none => s.raise 0x1482 (0x200 + n) (atByte 16 (idKey id) + atByte 20 pos + atByte 23 fmt)
  | some j =>
    let old := match x.coll.find? fun p => p.1 == j with | some p => if idKey p.2.id = idKey id then p.2 else { id, born := x.collSeq } | none => { id, born := x.collSeq }
    let e := { old with count := satAdd 8 old.count 1, pos }
    let max := s.rd Reg.CAN_CTL_COLLMAX n
    let blocks := max != 0 && decide (max ≤ e.count) && !old.blocked
    let s := s.modCan n fun x => { x with coll := tput x.coll j { e with blocked := old.blocked || blocks }, collSeq := x.collSeq + 1 }
    let s := (s.canCount n 5).raise 0x1482 (0x200 + n) (atByte 16 (idKey id) + atByte 20 pos + atByte 22 e.count + atByte 23 fmt)
    if blocks then (s.canCount n 6).canBlock n id else s

/-- Bit position `pos` lies after the arbitration field of a frame: 13 bits from SOF on with a base identifier, 33 with an extended one (R554, R569). -/
def afterArb (f : Frame) (pos : Nat) : Bool := decide ((if f.fmt != 3 && bits f.id 29 1 == 1 then 33 else 13) ≤ pos)

/-- `CAN_ERROR_FRAME`: an error of type 1 bit, 2 stuff, 3 form, 4 ACK, 5 CRC at `pos`; `tx` as transmitter; `coll`: a recessive bit was sent and a dominant
one sampled, before the CRC delimiter, which after the point of no return is a collision; `exempt` and `more` the exceptions and the added eights of ISO
11898-1's counting rules (R553, R555, R565, R569). -/
def execCanErrorFrame (dt n type pos : Nat) (tx coll exempt : Bool) (more : Nat) (s : State) : Answered :=
  let s := s.tick dt
  .next (if !s.canRuns n then s.modCan n fun x => { x with bus := none }
  else
    let s := s.lineSeen n
    let s := s.modCan n fun x => { x with
      tec := if tx then x.tec + (if exempt then 0 else 8) + 8 * more else x.tec
      rec_ := if tx then x.rec_ else x.rec_ + 1 + 8 * more }
    let s := (((s.wr Reg.CAN_LASTERR_TYPE n type).wr Reg.CAN_LASTERR_TX n (b2n tx)).wr Reg.CAN_LASTERR_POS n pos).bump Reg.CAN_ERRCNT_ERRFR n
    let s := s.canCount n 2
    let s := s.canShow n (s.canActive n)
    match (s.can n).bus with
    | none => s
    | some b =>
      if !tx then s
      else
        let s := s.canRetry n b
        match b.frame with
        | .bus f => if coll && type == 1 && afterArb f pos then s.collide n f.id f.fmt pos else s
        | _ => s).done

/-- `CAN_BUS_OFF` (R566, R567). -/
def execCanBusOff (dt n : Nat) (s : State) : Answered :=
  let s := s.tick dt
  .next (if s.canRuns n && decide (256 ≤ (s.can n).tec) then
    let s := (s.canFlush n .faulted 0x1403).modCan n fun x => { x with offAt := s.now }
    ((((s.bump Reg.CAN_ERRCNT_BOCNT n).canCount n 3).wr Reg.CAN_STAT_RECOVERING n 1)).canShow n 2
  else s).done

/-- A nominal bit in periods of TB2 (R541). -/
def State.canBit (s : State) (n : Nat) : Nat := s.rd Reg.CAN_NBT_NBRP n * (1 + s.rd Reg.CAN_NBT_NTSEG1 n + s.rd Reg.CAN_NBT_NTSEG2 n)

/-- `CAN_BUS_OFF_RECOVERY`: the channel has seen 128 times 11 recessive bits, which takes 1,408 bit times of 12.5 ns × `canBit` at the least (R567). -/
def execCanBusOffRecovery (dt n : Nat) (s : State) : Answered :=
  let s := s.tick dt
  .next (if decide (n < 16) && s.buses && s.rd Reg.CAN_STAT_STATE n == 2 && decide ((s.can n).offAt + 17600 * s.canBit n ≤ s.now) then
    ((s.wr Reg.CAN_STAT_RECOVERING n 0).modCan n fun x => { x with tec := 0, rec_ := 0 }).canShow n 0
  else s).done

/-- `CAN_CANCEL_LATCH`: the channel latches a CANCEL of the command `c` (R555, R556). -/
def execCanCancelLatch (dt : Nat) (c : Cmd) (s : State) : Answered :=
  let s := s.tick dt
  let n := objNum c.object
  let mine := fun (t : Tx) => match t.frm with | .cmd d => sameCmd c d | _ => false
  .next (if !isKind .can c.object || !(match s.flight c with | some r => !r.cancels.isEmpty | none => false) then s
  else
    match (s.can n).bus with
    | some b => if mine b.tx then s.modCan n fun x => { x with bus := some { b with cancel := true } }
                else ((s.modCan n fun x => { x with queue := x.queue.filter fun t => !mine t }).showTxq n).complete c .cancelled
    | none => ((s.modCan n fun x => { x with queue := x.queue.filter fun t => !mine t }).showTxq n).complete c .cancelled).done

/-! ### Reference messages (R573 to R578) -/

/-- The next multiple of REFPER is the first one that counts (R574): REFPER or network time has been set. -/
def State.tmFrom (s : State) (n : Nat) : State :=
  s.modCan n fun x => { x with tmLast := s.ntime / (max 1 (s.rd Reg.TM_CFG_REFPER n) * 100000) }


/-- The channel sends reference messages now. -/
def State.tmSends (s : State) (n : Nat) : Bool :=
  s.canRuns n && s.flag Reg.TM_CFG_TMEN n && s.pwr.timeSet && !s.flag Reg.TM_STAT_CONFLICT n && !s.nmQuiet n

/-- `TM_REFERENCE_DUE`: network time reaches a multiple of REFPER; `past`: a reference message on the bus has passed its point of no return. -/
def execTmReferenceDue (dt n : Nat) (past : Bool) (s : State) : Answered :=
  let s := s.tick dt
  let k := s.ntime / (s.rd Reg.TM_CFG_REFPER n * 100000)
  .next (if !(s.tmSends n && decide ((s.can n).tmLast < k)) then s
  else
    let s := s.modCan n fun x => { x with tmLast := k }
    let isRef := fun (t : Tx) => t.frm == .ref
    let x := s.can n
    let onBus := match x.bus with | some b => isRef b.tx && !past | none => false
    let late := onBus || x.queue.any isRef
    let s := if !late then s
      else
        let s := s.modCan n fun x => { x with queue := x.queue.filter fun t => !isRef t, bus := if onBus then none else x.bus }
        ((s.bump Reg.TM_STAT_LATE n).canCount n 7).raise 0x1485 (0x200 + n) (atByte 16 (s.rd Reg.TM_STAT_CYCLE n))
    if 32 ≤ (s.can n).held then s.showTxq n
    else s.canPush n { ord := 0, frm := .ref, body := .bus { id := s.tmId n, fmt := 0 } }).done

/-! ### Receiving -/

/-- A frame with the reference identifier from another node (R578). -/
def State.tmHeard (s : State) (n : Nat) (f : Frame) : State :=
  if s.flag Reg.TM_CFG_TMEN n && f.fmt != 3 && idKey f.id == s.tmId n then
    (s.setFlag Reg.TM_STAT_CONFLICT n 0x1486 (0x200 + n) (atByte 16 f.id)).modCan n fun x => { x with queue := x.queue.filter fun t => t.frm != .ref }
  else s

/-- The LIN channel takes a response: the running slot, or the record of the identifier, subscribes (R581, R590). -/
def State.linTakes (s : State) (n id : Nat) : Bool :=
  if s.flag Reg.LIN_CFG_ROLE n then
    let k := 64 * n + 32 * s.rd Reg.LIN_STAT_TABLE n + s.rd Reg.LIN_STAT_SLOT n
    s.rd Reg.LIN_STAT_STATE n == 2 && decide (2 ≤ s.rd Reg.LIN_SLOT_TYPE k) && s.rd Reg.LIN_SLOT_FID k == id
  else s.rd Reg.LIN_SLOT_TYPE (64 * n + id) == 2

/-- `CAN_FRAME_RECEIVED`: a whole frame on segment `g`, whose SOF or break delimiter was `lag` ns ago (R557 to R562, R565, R578, R585, R659). -/
def execCanFrameReceived (dt g : Nat) (f : Frame) (lag : Nat) (s : State) : Answered :=
  let s := s.tick dt
  let t : Stamp := ⟨s.now - lag, (s.ntime + 2 ^ 64 - lag % 2 ^ 64) % 2 ^ 64⟩
  .next (if g < 16 then
    if !(s.canRuns g && s.nmSt g != 4 && s.rd Reg.CAN_XCVR_MODE g != 0 && s.rd Reg.CAN_XCVR_MODE g != 1 && f.fmt ≤ 3) then s
    else
      let s := (s.lineSeen g).modCan g fun x => { x with rec_ := if x.rec_ = 0 then 0 else if x.rec_ ≤ 127 then x.rec_ - 1 else clampNat 119 127 (Config.recAfter x.rec_) }
      let s := ((s.bump Reg.CAN_TXRX_RXOK g).canCount g 1).canShow g (s.canActive g)
      (s.tmHeard g f).ingest g f t
  else if g < 24 then
    let n := g - 16
    let goSleep := f.id % 64 == 0x3C && f.data.head? == some 0 && !s.flag Reg.LIN_CFG_ROLE n
    if !(s.buses && s.flag Reg.LIN_CFG_EN n && f.fmt == 4) then s
    else
      let s := s.lineSeen g
      let s := if goSleep then s.linSleep n else s
      if s.linTakes n (f.id % 64) then (s.linCount n 2).ingest g f t else s
  else s).done

/-! ### LIN (R579 to R586) -/

/-- Bars of a LIN command. -/
def State.linOff (s : State) (n : Nat) : Option (Code × Nat) := barIf (!s.flag Reg.LIN_CFG_EN n) .refusedState 0x1801
def State.linNotCom (s : State) (n : Nat) : Option (Code × Nat) := barIf (!s.flag Reg.LIN_CFG_ROLE n) .refusedState 0x1807

/-- `LIN_PUBLISH` (R584, R652). -/
def execLinPublish (dt : Nat) (c : Cmd) (s : State) : Answered :=
  .next (s.serveOp dt c 0x4001 [.lin] fun s =>
    let n := objNum c.object
    s.orElse c [s.linOff n, barIf (s.nmQuiet (16 + n)) .refusedState 0x1C02] fun s =>
      let len0 := c.arg 17 1
      let len := clampNat 1 8 len0
      let s := s.descClamp c 0x18 17 0 8 len0 len
      let fresh := c.arg 20 2
      ((s.begin c).setResp n (c.arg 16 1 % 64) { data := leBytes len (c.arg 24 8), cks := c.argBits 18 0 1 == 1, ends := s.now + fresh * 1000000, once := fresh == 0 }).complete c .done).done

/-- A pending LIN_SCHED gives way (R583). -/
def State.schedReq (s : State) (n table : Nat) (stop : Bool) (c : Cmd) : State :=
  let s := match (s.lin n).req with | some (_, _, d) => (s.modLin n fun x => { x with req := none }).complete d .done | none => s
  s.modLin n fun x => { x with req := some (table, stop, c) }

/-- `LIN_SCHED` (R583). -/
def execLinSched (dt : Nat) (c : Cmd) (s : State) : Answered :=
  .next (s.serveOp dt c 0x2012 [.lin] fun s =>
    let n := objNum c.object
    let stop := c.argBits 16 1 1 == 1
    s.orElse c [s.linOff n, s.linNotCom n] fun s =>
      if stop && s.rd Reg.LIN_STAT_STATE n != 2 then s.complete c .done
      else (s.begin c).schedReq n (c.argBits 16 0 1) stop c).done

/-- `LIN_SLEEP` (R586). -/
def execLinSleep (dt : Nat) (c : Cmd) (s : State) : Answered :=
  .next (s.serveOp dt c 0x2013 [.lin] fun s =>
    let n := objNum c.object
    s.orElse c [s.linOff n, s.linNotCom n] fun s => ((s.begin c).linOp n).modLin n fun x => { x with sleeps := x.sleeps ++ [c] }).done

/-- `LIN_WAKE` (R586). -/
def execLinWake (dt : Nat) (c : Cmd) (s : State) : Answered :=
  .next (s.serveOp dt c 0x2014 [.lin] fun s =>
    let n := objNum c.object
    s.orElse c [s.linOff n] fun s => ((s.begin c).linOp n).modLin n fun x => { x with wakes := x.wakes ++ [c] }).done

/-- LIN_ERROR (R585, R588): 0 no response, 1 incomplete, 2 checksum, 3 framing, 4 bit, 5 parity. -/
def State.linError (s : State) (n id type : Nat) : State :=
  ((s.bump Reg.LIN_STAT_ERRCNT n).linCount n 3).raise 0x1887 (0x210 + n) (atByte 16 id + atByte 17 type)

/-- A response goes out, `head` bits after this moment: it ends after them and 10 bits for each of its bytes and the checksum. -/
def State.linSent (s : State) (n id head : Nat) (data : List Byte) (once : Option LinResp) (count : Option (Nat × Nat)) : State :=
  (s.linCount n 1).modLin n fun x => { x with
    sent := some (id, data), out := some { ends := s.now + s.linNs n (head + 10 * (data.length + 1)), id, once, count } }

/-- A count of channel `n` or of an entry that a frame had counted for is taken back. -/
def State.linUncount (s : State) (n k : Nat) : State := s.modLin n fun x => { x with counts := tput x.counts k (tget 0 x.counts k - 1) }
def State.fitUncount (s : State) (e k : Nat) : State := s.modFit e fun x => { x with counts := tput x.counts k (tget 0 x.counts k - 1) }

/-- The header or the response that channel `n` has started does not finish (R74): it counts for nothing, and a source that it used up is there again. -/
def State.linBack (s : State) (n : Nat) : State :=
  let x := s.lin n
  let s := if s.now < x.headAt then (s.linUncount n 0).modLin n fun x => { x with headAt := 0 } else s
  match x.out with
  | none => s
  | some o =>
    if o.ends ≤ s.now then s
    else
      let s := (s.linUncount n 1).modLin n fun x => { x with sent := none, out := none }
      let s := match o.once with
        | some r => if (s.lin n).resp.any fun p => p.1 == o.id then s else s.modLin n fun x => { x with resp := tput x.resp o.id r }
        | none => s
      match o.count with | some (e, k) => s.fitUncount e k | none => s

/-- The response of the module to identifier `id`, as its freshness lets it (R584, R604, R631). -/
def State.linRespond (s : State) (n id head : Nat) : State :=
  match (s.lin n).resp.find? fun p => p.1 == id with
  | none => s
  | some (_, r) =>
    let drop := fun (s : State) => s.modLin n fun x => { x with resp := tdel x.resp id }
    match r.entry with
    | some e =>
      match s.ageRule e r.stamp with
      | 0 => (s.linSent n id head r.data none (some (e, 1))).fitCount e 1
      | 1 => s.fitCount e 2
      | _ => (s.linSent n id head (s.markBytes e r.data) none (some (e, 3))).fitCount e 3
    | none => if r.once then drop (s.linSent n id head r.data (some r) none) else if s.now < r.ends then s.linSent n id head r.data none none else drop s

/-- The next slot whose header is sent, from slot `k` of a table on (R582): TYPE 00b ends the table, a 3Ch without a request is skipped. -/
def State.nextSlot (s : State) (n table : Nat) : Nat → Nat → Bool → Option Nat
  | 0, _, _ => none
  | fuel + 1, k, wrapped =>
    let i := 64 * n + 32 * table + k
    if 32 ≤ k ∨ s.rd Reg.LIN_SLOT_TYPE i = 0 then (if wrapped then none else s.nextSlot n table fuel 0 true)
    else if s.rd Reg.LIN_SLOT_FID i = 0x3C ∧ !(s.lin n).mreq then s.nextSlot n table fuel (k + 1) wrapped
    else some k

/-- The header of slot `k` is sent (R580, R582). -/
def State.sendHeader (s : State) (n table k : Nat) : State :=
  let i := 64 * n + 32 * table + k
  let id := s.rd Reg.LIN_SLOT_FID i
  let s := ((s.wr Reg.LIN_STAT_STATE n 2).wr Reg.LIN_STAT_TABLE n table).wr Reg.LIN_STAT_SLOT n k
  let s := ((s.linCount n 0).lineSeen (16 + n)).modLin n fun x => { x with
    slotAt := s.now + s.rd Reg.LIN_SLOT_DELAY i * 1000000, headAt := s.now + s.linNs n 34, fresh := false, mreq := if id = 0x3C then false else x.mreq }
  if s.rd Reg.LIN_SLOT_TYPE i = 1 then s.linRespond n id 34 else s

/-- `LIN_SLOT`: a slot of a commander ends, with an error when `err` names one, and the next header is sent (R582 to R585). -/
def execLinSlot (dt n : Nat) (err : Option Nat) (s : State) : Answered :=
  let s := s.tick dt
  let runs := s.rd Reg.LIN_STAT_STATE n == 2
  .next (if !(decide (n < 8) && s.buses && s.flag Reg.LIN_CFG_EN n && s.flag Reg.LIN_CFG_ROLE n && !s.nmQuiet (16 + n)
      && (if runs then decide ((s.lin n).slotAt ≤ s.now) else (s.lin n).req.isSome)) then s
  else
    let table := s.rd Reg.LIN_STAT_TABLE n
    let slot := s.rd Reg.LIN_STAT_SLOT n
    let s := match err with | some k => if runs then s.linError n (s.rd Reg.LIN_SLOT_FID (64 * n + 32 * table + slot)) k else s | none => s
    match (s.lin n).req with
    | some (_, true, c) =>
      -- a channel that has gone to sleep meanwhile has ended its schedule already
      let s := (if runs then (s.wr Reg.LIN_STAT_STATE n 1).modLin n fun x => { x with changed := s.ntime } else s).modLin n fun x => { x with req := none }
      s.complete c .done
    | some (t, false, c) =>
      let s := s.modLin n fun x => { x with req := none, changed := s.ntime }
      let s := match s.nextSlot n t 70 0 true with
        | some k => s.sendHeader n t k
        | none => (((s.wr Reg.LIN_STAT_STATE n 2).wr Reg.LIN_STAT_TABLE n t).wr Reg.LIN_STAT_SLOT n 0)
      s.complete c .done
    | none =>
      match s.nextSlot n table 70 (slot + 1) false with
      | some k => s.sendHeader n table k
      | none => s).done

/-- `LIN_HEADER_RECEIVED` by a responder: identifier, and an error: 5 a parity error of the header, 0 to 4 of a response that failed (R581, R584, R585). -/
def execLinHeaderReceived (dt n id : Nat) (err : Option Nat) (s : State) : Answered :=
  let s := s.tick dt
  .next (if !(decide (n < 8) && s.buses && s.flag Reg.LIN_CFG_EN n && !s.flag Reg.LIN_CFG_ROLE n && s.nmSt (16 + n) != 4) then s
  else
    let id := id % 64
    let s := (s.linCount n 0).lineSeen (16 + n)
    match err with
    | some k => s.linError n id k
    | none => if s.rd Reg.LIN_SLOT_TYPE (64 * n + id) = 1 && !s.nmQuiet (16 + n) then s.linRespond n id 0 else s).done

end Sys2Proof.Machine
end

