-- ==== Sys2Proof/Machine/EthRows.lean ====
section
/-!
DEFINITION. Sys2Proof/Machine/EthRows.lean: Ethernet ports, bridging, egress, the commands of the frame identity table, gPTP (R591 to R645).
-/
namespace Sys2Proof.Machine

/-! ### Bridging (R592, R596) -/

def broadcast : List Byte := List.replicate 6 255

/-- VLAN entry of a VID. -/
def State.vlanOf (s : State) (vid : Nat) : Option Nat := (List.range 64).find? fun k => s.flag Reg.ETH_VLAN_EN k && s.rd Reg.ETH_VLAN_VID k == vid

/-- An address is learned: at most 4,096 of them. -/
def State.learn (s : State) (p vid : Nat) (mac : List Byte) : State :=
  if !s.flag Reg.ETH_PCFG_LEARN p || bit (mac.getD 0 1) 0 then s
  else
    let same := fun (x : MacEntry) => x.mac == mac && x.vid == vid
    let rest := s.net.macs.filter fun x => !same x
    if rest.length < 4096 then { s with net := { s.net with macs := { mac, vid, port := p, at_ := s.now } :: rest } } else s

/-- Traffic class of an unmatched frame (R598). -/
def State.pcpClass (s : State) (p : Nat) (f : EthFrame) : Nat :=
  let pcp := match f.tci with | some t => t / 8192 % 8 | none => 0
  bits (s.rd Reg.ETH_PCPMAP p) (3 * pcp) 3

/-- An unmatched frame from port `p` is bridged by its VLAN and the address table. -/
def State.bridgeEth (s : State) (p : Nat) (f : EthFrame) : State :=
  let vid := s.tciOf (24 + p) f % 4096
  match s.vlanOf vid with
  | none => s
  | some k =>
    let mem := s.rd Reg.ETH_VLAN_MEMBERS k
    let out := match s.net.macs.find? fun x => x.mac == f.da && x.vid == vid && decide (s.now < x.at_ + s.rd Reg.ETH_GCFG_AGE * 1000000000) with
      | some x => [x.port]
      | none => List.range 10
    let ps := out.filter fun q => q != p && bit mem q && bit mem p && s.flag Reg.ETH_PCFG_EN q && !s.nmQuiet (24 + q)
    let r := s.storeFrame (24 + p) f.len f.len ps.length none
    match r.2 with
    | none => r.1.bump Reg.ETH_DROP_NOMEM p
    | some sn =>
      let tagged := match f.tci with | some _ => f | none => { f with tci := some vid }
      ps.foldl (fun s q =>
        let g := if s.flag Reg.ETH_VLAN_UNTAG k then { f with tci := none } else tagged
        (s.portPush q { ord := 0, frm := .route 0, body := .eth g, tc := s.pcpClass p f, sn } g.len).1) r.1

/-! ### 802.1CB (R612, R613) -/

/-- The recovery function: the new state, what it does with the frame, and how many numbers were lost (PRESUMED of 802.1CB). -/
inductive Verdict where | pass | order | discard
  deriving DecidableEq, Repr

def Recov.take (r : Recov) (hist now reset : Nat) (seq : Nat) : Recov × Verdict × Nat :=
  let any := r.any || decide (r.last + reset ≤ now)
  if any then ({ any := false, seq, hist := 1, last := now }, .pass, 0)
  else
    let d := (seq + 65536 - r.seq) % 65536
    if d = 0 then (r, .discard, 0)
    else if d < 32768 then
      if hist ≤ d then (r, .discard, 0)
      else
        let h := r.hist * 2 ^ d + 1
        let fell := (List.range d).filter fun k => !bit r.hist (hist - 1 - k)
        ({ r with seq, hist := h % 2 ^ hist, last := now }, if d = 1 then .pass else .order, fell.length)
    else
      let b := 65536 - d
      if hist ≤ b then (r, .discard, 0)
      else if bit r.hist b then (r, .discard, 0)
      else ({ r with hist := setBit r.hist b, last := now }, .order, 0)

/-- A frame of an RTAG stream from E0 and E1: the second part says that it passes. -/
def State.recover (s : State) (e : Nat) (f : EthFrame) : State × Bool :=
  match f.rtag with
  | none => (s.bump Reg.CB_STAT_ROGUE 0, true)
  | some q =>
    let r := (s.fit e).recov.take (s.rd Reg.CB_CFG_HIST) s.now (s.rd Reg.CB_CFG_RESET * 10000000) q
    let s := s.modFit e fun x => { x with recov := r.1 }
    let s := if r.2.2 = 0 then s else s.bump Reg.CB_STAT2_LOST 0 r.2.2
    match r.2.1 with
    | .pass => (s, true)
    | .order => (s.bump Reg.CB_STAT2_OOO 0, true)
    | .discard => (s.bump Reg.CB_STAT_DISCARD 0, false)

/-- A frame of the stream has been delivered on an uplink (R613). -/
def State.noteUplink (s : State) (e p : Nat) : State :=
  s.modFit e fun x =>
    let first := x.lastE.1.isNone && x.lastE.2.isNone
    { x with
      startAt := if first then s.now else x.startAt
      lastE := if p = 0 then (some s.now, x.lastE.2) else (x.lastE.1, some s.now)
      silent := if p = 0 then (false, x.silent.2) else (x.silent.1, false) }

/-! ### Ingress -/

/-- A matched frame's copies and its own sample (R597, R601, R612, R627). -/
def State.ethMatched (s : State) (e p : Nat) (f : EthFrame) (t : Stamp) : State × Bool :=
  let g := 24 + p
  let s := s.noteMatch e
  let two := s.fitBits e 1 0 8 == 0x2F
  let s := if two then s.noteUplink e p else s
  let r := if two then s.recover e f else (s, true)
  if !r.2 then (r.1, false)
  else
    let m := r.1.meter e
    if !m.2 then (m.1, false)
    else
      let s := m.1.wakeRoles e g (f.body.getD (m.1.rd Reg.NM_CFG_NIDBYTE g) 0)
      let msgs := match avtpParts f with | some (_, some ms) => acfList (s.rd Reg.ETH_GCFG_XLTYPE) 16 ms | _ => none
      if s.fitKind e = 4 ∧ msgs.isNone then (s.fitCount e 5, false)
      else
        let st := match msgs with
          | some l => if s.fitKind e = 4 then (match (l.filterMap (·.time)).getLast? with | some n => ⟨s.now - (s.ntime - n), n⟩ | none => t) else t
          | none => t
        let s := s.sample e { body := .eth f, stamp := st }
        (s.sendNow e g 0 (.eth f) st, true)

/-- `ETH_FRAME_RECEIVED` on port `p`: FCS result, the bytes from the destination address on without FCS, and the time since the start frame delimiter
(R592 to R613). -/
def execEthFrameReceived (dt p : Nat) (fcs : Bool) (bs : List Byte) (lag : Nat) (s : State) : Answered :=
  let s := s.tick dt
  let g := 24 + p
  let t : Stamp := ⟨s.now - lag, (s.ntime + 2 ^ 64 - lag % 2 ^ 64) % 2 ^ 64⟩
  .next (if !(decide (p < 10) && s.buses && s.flag Reg.ETH_PCFG_EN p && s.flag Reg.ETH_STAT_LINK p && s.nmSt g != 4) then s
  else
  let s := s.lineSeen g
  if !fcs then s.bump Reg.ETH_DROP_BADFCS p
  else if s.rd Reg.ETH_PCFG_MAXFRM p < bs.length + 4 then s.bump Reg.ETH_DROP_TOOLONG p
  else if bs.length < 60 then s
  else if (s.cellsFor g (cells (s.rd Reg.ETH_PCFG_MAXFRM p))).isNone then s.bump Reg.ETH_DROP_NOMEM p
  else
    let f := parseEth bs
    let s := s.bump Reg.ETH_TRAF_RXFR p
    let s := (s.modPort p fun x => { x with counts := bumpT x.counts 0 }).learn p (s.tciOf g f % 4096) f.sa
    let host := f.da == s.hostMac || f.da == broadcast || s.flag Reg.RXQ_CFG_ALL g
    match s.lookup (0x20 + p) (s.keysOf g (.eth f)) with
    | none => (if host then s.rxPlace g 0 5 0 bs.length t.time bs else s).bridgeEth p f
    | some e =>
      let r := s.ethMatched e p f t
      if r.2 && (host || r.1.fitBits e 2 5 1 == 1) then r.1.rxPlace g 0 5 0 bs.length t.time bs else r.1).done

/-! ### Egress -/

/-- The sequence numbers of a copy's frame: taken from its entry when the first copy starts, the same for the others (R610, R611, R619). -/
def State.takeNums (s : State) (t : Tx) : State × Option (Nat × Nat) :=
  match t.entry, s.net.stored.find? fun x => x.1 == t.sn with
  | some e, some (_, x) =>
    match x.nums with
    | some q => (s, some q)
    | none =>
      let f := s.fit e
      let acf := match t.body with | .acf _ _ => true | _ => false
      let s := s.modFit e fun y => { y with rseq := if s.fitRtag e then (y.rseq + 1) % 65536 else y.rseq, aseq := if acf then (y.aseq + 1) % 256 else y.aseq }
      ({ s with net := { s.net with stored := tput s.net.stored t.sn { x with nums := some (f.rseq, f.aseq) } } }, some (f.rseq, f.aseq))
  | _, _ => (s, none)

/-- The frame that a copy leaves as with its sequence numbers, marked when `mark` says so (R610, R611, R619, R631); none when it does not fit. -/
def State.ethOut (s : State) (t : Tx) (nums : Option (Nat × Nat)) (mark : Bool) : Option EthFrame :=
  let rseq := match t.entry, nums with | some e, some q => if s.fitRtag e then some q.1 else none | _, _ => none
  match t.entry, (match t.entry with | some e => if mark then s.markBody e t.body else t.body | none => t.body) with
  | some e, .acf f bus =>
    match acfOf (s.rd Reg.ETH_GCFG_XLTYPE) f bus t.stamp with
    | none => none
    | some m =>
      some { da := (List.range 6).map fun k => s.fitBits e (32 + k) 0 8, sa := s.hostMac, tci := some (s.fitBits e 38 0 8 * 256 + s.fitBits e 39 0 8)
             rtag := rseq, type := avtpType
             body := avtpBody (s.fitBits e 2 3 1 == 1) ((List.range 8).map fun k => s.fitBits e (40 + k) 0 8) (match nums with | some q => q.2 | none => 0) t.stamp m }
  | _, .eth f => some { f with rtag := match rseq with | some q => some q | none => f.rtag }
  | _, _ => none

/-- The copy that starts next on port `p`: the highest class whose gate lets its first frame start (R592, R599). -/
def State.nextOut (s : State) (p : Nat) : Option Tx :=
  let q := (s.port p).queue
  ((List.range 8).map fun k => 7 - k).findSome? fun c =>
    match q.find? fun t => t.tc == c with
    | some t => if s.mayStart p c (portLen t.body) then some t else none
    | none => none

/-- A copy is not sent: its frame's command completes, its cells are free. -/
def State.withhold (s : State) (t : Tx) : State :=
  let r := s.copyLeft t.sn
  match t.frm with
  | .cmd c => r.1.complete c .refusedPolicy 0x190B
  | _ => match r.2 with | some x => (match x.cmd with | some c => r.1.complete c .done | none => r.1) | none => r.1

/-- A preamble starts on port `p` (R593, R631, R632, R638, R641). -/
def State.ethStart (s : State) (p : Nat) : State :=
  if !(s.buses && s.flag Reg.ETH_PCFG_EN p && s.flag Reg.ETH_STAT_LINK p && !s.nmQuiet (24 + p) && (s.port p).line.isNone) then s
  else
    match s.nextOut p with
    | none => s
    | some t =>
      let s := s.modPort p fun x => { x with queue := x.queue.filter fun u => u.ord != t.ord }
      let go := fun (s : State) (mark : Bool) =>
        let a := s.takeNums t
        let s := a.1
        match s.ethOut t a.2 mark with
        | none => ((match t.entry with | some e => s.fitCount e 5 | none => s).bump Reg.FIT_GSTAT_NOFIT 0).withhold t
        | some f =>
          let s := match t.entry with | some e => if t.lead then s.fitCount e (if mark then 3 else 1) else s | none => s
          let s := if mark then s.noteMark t.sn else s
          let s := match t.frm with | .cmd c => s.begin c | _ => s
          (s.modPort p fun x => { x with line := some { tx := t, frame := .eth f, marked := mark, sof := s.ntime } }).lineSeen (24 + p)
      match t.entry with
      | some e =>
        match s.ageRule e t.stamp with
        | 0 => go s false
        | 1 => (if t.lead then s.fitCount e 2 else s).withhold t
        | _ => go s true
      | none =>
        match t.limit, t.stamp with
        | some d, some x => if s.now ≤ x.at_ + d then go s false else s.withhold t
        | _, _ => go s false

/-- `FRAME_EGRESS_START`: a start of frame on CAN, or a preamble, on segment `g`.  A LIN response starts inside its header's own step. -/
def execFrameEgressStart (dt g : Nat) (s : State) : Answered :=
  let s := s.tick dt
  .next (if g < 16 then s.canSof g else if 24 ≤ g ∧ g < 34 then s.ethStart (g - 24) else s).done

/-- `ETH_FRAME_SENT`: the FCS ends on port `p` (R605, R641). -/
def execEthFrameSent (dt p : Nat) (s : State) : Answered :=
  let s := s.tick dt
  .next (match (s.port p).line with
  | none => s
  | some b =>
    let s := s.modPort p fun x => { x with line := none, counts := bumpT x.counts 1 }
    (s.bump Reg.ETH_TRAF_TXFR p).storedDone b.tx).done

/-! ### ETH_SEND (R638 to R641) -/

/-- Host frames that wait on a port. -/
def State.hostFrames (s : State) (p : Nat) : Nat :=
  ((s.port p).queue.filter fun t => match t.frm with | .cmd _ => true | _ => false).length

/-- `ETH_SEND`: `rcd` is what the host's memory holds at the record's address. -/
def execEthSend (dt : Nat) (c : Cmd) (rcd : List Byte) (s : State) : Answered :=
  .next (s.serveOp dt c 0x4001 [.eth] fun s =>
    let p := objNum c.object
    let len := c.arg 24 2
    let addr := c.arg 16 8
    s.orElse c [barIf (decide (s.rd Reg.ETH_PCFG_MAXFRM p - 4 < len)) .refusedPolicy 0x190A, barIf (s.nmQuiet (24 + p)) .refusedState 0x1C02,
        barIf (!s.flag Reg.ETH_STAT_LINK p) .refusedState 0x1901, barIf (decide (64 ≤ s.hostFrames p)) .refusedState 0x1902,
        barIf (decide (addr % 8 ≠ 0)) .refusedPolicy 0x0109] fun s =>
      let r := s.dma c.pf addr (8 + len)
      if !r.2 then r.1.complete c .masterFrozen
      else
        let s := r.1
        let byte := fun k => rcd.getD k 0 % 256
        let prefix_ := ofLe ((List.range 8).map byte)
        let f := parseEth ((List.range (max 60 len)).map fun k => if k < len then byte (8 + k) else 0)
        let t : Stamp := if prefix_ = 0 then ⟨s.now, s.ntime⟩ else ⟨s.now - (s.ntime - prefix_), prefix_⟩
        match s.lookup hostIngress (s.keysOf 34 (.eth f)) with
        | some e =>
          let m := (s.noteMatch e).meter e
          if !m.2 then m.1.complete c .done
          else
            let s := (m.1.wakeRoles e 34 0).sample e { body := .eth f, stamp := t }
            if s.fitPeriod e = 0 then s.sendValue e hostClient 0 (.eth f) (some t) (some c) else (s.begin c).complete c .done
        | none =>
          let r := s.storeFrame hostClient f.len f.len 1 (some c)
          match r.2 with
          | none => (r.1.bump Reg.ETH_DROP_NOMEM p).complete c .refusedState 0x1902
          | some sn =>
            let d := c.arg 28 2
            let x := r.1.portPush p { ord := 0, frm := .cmd c, body := .eth f, stamp := some t, limit := if prefix_ = 0 then none else some (d * 100000)
                                      tc := c.argBits 26 0 3, sn } f.len
            if x.2 then x.1 else x.1.complete c .done).done

/-! ### The table's commands (R616, R617, R644) -/

/-- The selected entry. -/
def State.fitIdx (s : State) : Nat := s.rd Reg.FIT_IDX_INDEX

/-- A field of the staged entry: byte, lowest bit, width. -/
structure FitField where
  byte : Nat
  lsb  : Nat
  width : Nat

/-- `word` with a field replaced. -/
def putBits (word lo w v : Nat) : Nat := word - bits word lo w * 2 ^ lo + v % 2 ^ w * 2 ^ lo

/-- One check of R614 to R628: the field, and the value it takes, given the entry so far. -/
def fitChecks : List (FitField × (Nat → Nat → Nat)) :=
  let b := fun (w k lo n : Nat) => bits w (8 * k + lo) n
  [ (⟨0, 0, 4⟩, fun _ v => if 5 < v then 0 else v),
    (⟨26, 0, 16⟩, fun _ v => max 1 v),
    (⟨58, 0, 8⟩, fun _ v => max 1 v),
    (⟨12, 0, 8⟩, fun w v => if b w 0 0 4 = 5 then clampNat 1 8 v else v),
    (⟨20, 0, 10⟩, fun w v => if b w 2 4 1 = 1 then v - v % 4 + 3 else v),
    (⟨20, 10, 16⟩, fun w v => if b w 0 0 4 = 3 then 0 else v),
    (⟨24, 0, 8⟩, fun w v => if b w 0 0 4 = 3 then 0 else v),
    (⟨48, 0, 16⟩, fun w v => let v := min 60000 v; if b w 0 0 4 = 5 then max 1 v else v),
    (⟨59, 0, 8⟩, fun w v => if b w 0 0 4 = 5 then min 3 v else v),
    (⟨51, 3, 5⟩, fun w v =>
      if b w 0 0 4 ≠ 5 then v
      else
        let need := match b w 59 0 8 with | 0 => 1 | 1 => 4 | 2 => 4 | _ => 16
        let room := 8 * b w 12 0 8 - b w 50 0 11
        let v := if room < v + 1 then room - 1 else v
        max (need - 1) v) ]

/-- The staged entry after its checks, and its clamps (R134, R616). -/
def fitClamp (pf word : Nat) : Nat × List ClampEntry :=
  fitChecks.foldl (fun (a : Nat × List ClampEntry) x =>
    let lo := 8 * x.1.byte + x.1.lsb
    let v := bits a.1 lo x.1.width
    let v' := x.2 a.1 v % 2 ^ x.1.width
    if v = v' then a
    else (putBits a.1 lo x.1.width v',
      a.2 ++ [{ offset := 0x40 + x.1.byte / 4 * 4, lsb := 8 * (x.1.byte % 4) + x.1.lsb, width := x.1.width, src := 0, pf, req := v, applied := v' }])) (word, [])

/-- FIT_STAT.USED. -/
def State.showUsed (s : State) : State := s.wr Reg.FIT_STAT_USED 0 (s.net.fit.filter fun x => bits x.2.word 4 1 == 1).length

/-- The bits of an entry that are not reserved (R614): bytes 25, 62 and 63, bit 7 of byte 2 and bits 7:1 of byte 3 read 0. -/
def fitUsed : Nat := 2 ^ 496 - 1 - 255 * 2 ^ 200 - 2 ^ 23 - 127 * 2 ^ 25

/-- FIT_CMD.OP 10b: the staged entry replaces the selected one (R610, R616, R617, R807). -/
def State.fitCommit (s : State) (pf : Nat) : State :=
  let e := s.fitIdx
  let r := fitClamp pf (Nat.land s.net.staging fitUsed)
  -- an entry of a lost bank stays at EN 0 (R807)
  let r := if s.nv.lostBanks.contains (e / 1024) && bit r.1 4 then
      (clrBit r.1 4, r.2 ++ [{ offset := 0x40, lsb := 4, width := 1, src := 0, pf, req := 1, applied := 0 }]) else r
  let s := { s with net := { s.net with fit := tput s.net.fit e { word := r.1, since := s.now, fillAt := s.now, tokens := bits r.1 464 8 * 100000000,
                                                                   sent := s.ntime }, wd := s.net.wd.filter (· != e) } }
  s.showUsed.logSetup 0x1A pf r.2

/-- FIT_CMD.OP 01b. -/
def State.fitReadOp (s : State) : State := { s with net := { s.net with staging := (s.fit s.fitIdx).word } }
/-- FIT_CMD.OP 11b. -/
def State.fitClear (s : State) : State := s.modFit s.fitIdx fun x => { x with counts := [] }

/-- `FIT_PERIODIC_SEND` of entry `e`: network time reaches a multiple of PERIOD from the entry's offset on (R634). -/
def execFitPeriodicSend (dt e : Nat) (s : State) : Answered :=
  let s := s.tick dt
  let per := s.fitPeriod e * 1000000
  let off := e * 10000
  .next (if !(s.dieC && s.fitBits e 0 4 1 == 1 && per != 0 && decide (off ≤ s.ntime) && decide ((s.fit e).sent < (s.ntime - off) / per * per + off)) then s
  else
    let s := s.modFit e fun x => { x with sent := (s.ntime - off) / per * per + off }
    if s.fitKind e = 5 then
      let t := if s.srcFld e = 0 ∨ s.srcFld e = 3 then s.entryStamp e else s.srcStamp e
      let b : Body := .bus { id := 0, fmt := 0, data := s.published e }
      let s := match t with | some x => s.sample e { body := b, stamp := x } | none => s
      s.sendValue e hostClient 0 b t none
    else
      match (s.fit e).value with
      | some v =>
        let g := s.fitBits e 1 0 8
        s.sendValue e (if g < 24 then g else if 0x20 ≤ g ∧ g < 0x2A then g - 8 else if g = 0x2F then 24 else hostClient) v.bus v.body (s.entryStamp e) none
      | none => s).done

/-- `FRESH_LOST`: the age of entry `e` has passed DEADLINE (R636). -/
def execFreshLost (dt e : Nat) (s : State) : Answered :=
  let s := s.tick dt
  let t := s.entryStamp e
  .next (if !(s.dieC && s.fitBits e 0 4 1 == 1 && !s.net.wd.contains e && (match t with | some x => decide (x.at_ + s.fitDeadline e < s.now) | none => true)) then s
  else
    let s := { s with net := { s.net with wd := e :: s.net.wd } }
    if s.fitEven e then
      s.raise 0x1A81 0xFFFF (atByte 16 e + atByte 24 (match t with | some x => x.time | none => match (s.fit e).value with | some v => v.stamp.time | none => 2 ^ 64 - 1))
    else s).done

/-- `PATH_SILENT` of port `p` (0 or 1) for entry `e` (R613). -/
def execPathSilent (dt e p : Nat) (s : State) : Answered :=
  let s := s.tick dt
  let x := s.fit e
  let lat := s.rd Reg.CB_CFG_LATENT * 1000000
  let mine := if p = 0 then x.lastE.1 else x.lastE.2
  let other := if p = 0 then x.lastE.2 else x.lastE.1
  let from_ := match mine with | some t => t | none => x.startAt
  .next (if !(s.dieC && decide (p < 2) && s.fitRtag e && (match other with | some t => decide (from_ < t ∧ s.now < t + lat) | none => false)
      && decide (from_ + lat ≤ s.now) && !(if p = 0 then x.silent.1 else x.silent.2)) then s
  else
    (s.modFit e fun x => { x with silent := if p = 0 then (true, x.silent.2) else (x.silent.1, true) }).raise 0x1988 (0x220 + p) (atByte 16 e)).done

/-! ### Ports -/

/-- `QBV_GATE_CHANGE` of port `p` (R600). -/
def execQbvGateChange (dt p : Nat) (s : State) : Answered :=
  let s := s.tick dt
  .next (if decide (p < 10) && s.dieC && s.flag Reg.QBV_CFG_EN p then s.modPort p fun x => { x with gates := gatesAt (s.gateCycle p) (s.gatePos p) } else s).done

/-- `MAC_AGING` (R592). -/
def execMacAging (dt : Nat) (s : State) : Answered :=
  let s := s.tick dt
  .next ({ s with net := { s.net with macs := s.net.macs.filter fun x => decide (s.now < x.at_ + s.rd Reg.ETH_GCFG_AGE * 1000000000) } } : State).done

/-- `LINK_STATE` of port `p`: link and signal quality (R645, R674). -/
def execLinkState (dt p : Nat) (up : Bool) (sqi : Nat) (s : State) : Answered :=
  let s := s.tick dt
  .next (if !(decide (p < 10) && s.dieC && (!up || s.pwr.refPresent) && s.flag Reg.ETH_PCFG_EN p && s.flag Reg.ETH_STAT_LINK p != up) then s
  else
    let s := ((s.wrb Reg.ETH_STAT_LINK p up).wr Reg.ETH_STAT_SQI p (min 7 sqi)).bump Reg.ETH_STAT_LINKCHG p
    let s := (s.modPort p fun x => { x with changed := s.ntime }).raise 0x1981 (0x220 + p) (atByte 16 (b2n up) + atByte 17 (min 7 sqi))
    if up && s.nmSt (24 + p) == 1 then s.needsDone (24 + p) else s).done

/-! ### gPTP (R622 to R626) -/

/-- Network time has been set or stepped: what is due at its multiples counts from it (R574, R634). -/
def State.timeJump (s : State) : State :=
  let s := (List.range 16).foldl State.tmFrom s
  { s with net := { s.net with fit := s.net.fit.map fun x => (x.1, { x.2 with sent := s.ntime }) } }

/-- GPTP_STATE (R625). -/
def State.gptpTo (s : State) (st : Nat) : State := s.wr Reg.GPTP_STAT_STATE 0 st

/-- `GPTP_SYNC`: a Sync shows the offset `ofs` of network time from the grandmaster's, a 64-bit pattern of ns (R624, R626). -/
def execGptpSync (dt ofs : Nat) (s : State) : Answered :=
  let s := s.tick dt
  let o := sgn 64 ofs
  .next (if !(s.buses && s.rd Reg.GPTP_CFG_ROLE == 2) then s
  else
    let s := s.wr Reg.GPTP_OFS 0 (unsgn 32 (clampInt (-2147483648) 2147483647 o))
    let big := decide (1000 < o.natAbs)
    let s :=
      if big then
        ({ s.bump Reg.GPTP_STAT_STEPS 0 with ntime := unsgn 64 ((s.ntime : Int) - o) } : State).timeJump.raise 0x198A 0xFFFF (atByte 24 (unsgn 64 (-o)))
      else { s with ntime := unsgn 64 ((s.ntime : Int) - clampInt (-1000) 1000 (Config.slew o)) }
    let ok := if o.natAbs ≤ 100 then min 8 (s.net.syncOk + 1) else 0
    let s := { s with net := { s.net with syncOk := ok, syncAt := s.now } }
    if ok = 8 then { s.gptpTo 2 with pwr := { s.pwr with timeSet := true } } else s).done

/-- 2^SYNCLOG s in ns (R622). -/
def State.syncNs (s : State) : Ns := match s.rd Reg.GPTP_CFG_SYNCLOG with | 0 => 1000000000 | v => 1000000000 / 2 ^ (16 - v)

/-- `GPTP_HOLDOVER`: three Sync intervals, as SYNCLOG gives them, have passed without a Sync (R625; DEDUCED, log entry 90). -/
def execGptpHoldover (dt : Nat) (s : State) : Answered :=
  let s := s.tick dt
  .next (if s.dieC && s.rd Reg.GPTP_CFG_ROLE == 2 && (s.rd Reg.GPTP_STAT_STATE == 1 || s.rd Reg.GPTP_STAT_STATE == 2)
      && decide (s.net.syncAt + 3 * s.syncNs ≤ s.now) then
    let s := { s.gptpTo 3 with net := { s.net with syncOk := 0 } }
    s.raise 0x1989 0xFFFF (atByte 16 3 + atByte 20 (s.rd Reg.GPTP_OFS))
  else s).done

/-- `GPTP_SYNC_SEND` (R622): a Sync joins the queue of each gPTP port. -/
def execGptpSyncSend (dt : Nat) (s : State) : Answered :=
  let s := s.tick dt
  .next (if !(s.buses && s.rd Reg.GPTP_CFG_ROLE == 1 && s.pwr.timeSet && decide (s.net.syncAt + s.syncNs ≤ s.now)) then s
  else
    let s := { s with net := { s.net with syncAt := s.now } }
    (List.range 10).foldl (fun s p =>
      if bit (s.rd Reg.GPTP_CFG_PORTS) p && s.flag Reg.ETH_PCFG_EN p && !s.nmQuiet (24 + p) then
        let f : EthFrame := { da := [0x01, 0x80, 0xC2, 0, 0, 0x0E], sa := s.hostMac, type := 0x88F7, body := [0x10, 0x02] }
        (s.portPush p { ord := 0, frm := .sync, body := .eth f, tc := 7 } f.len).1
      else s) s).done

end Sys2Proof.Machine
end

