-- ==== Sys2Proof/Machine/NmRows.lean ====
section
/-!
DEFINITION. Sys2Proof/Machine/NmRows.lean: the commands and events of network sleep (R646 to R678).
-/
namespace Sys2Proof.Machine

/-- A segment in service: a listed one, with die C running. -/
def State.segLive (s : State) (g : Nat) : Bool := decide (g < 34) && s.dieC

/-- NM_OFF (R674). -/
def State.nmOffBar (s : State) (g : Nat) : Option (Code × Nat) := barIf (!s.flag Reg.NM_CFG_EN g) .refusedState 0x1C03

/-- The outcome of an NM_NEED has been reached already (R674). -/
def State.needMet (s : State) (g : Nat) (wasUp : Bool) : Bool :=
  if g < 16 then (s.seg g).kaOk else if g < 24 then wasUp else s.flag Reg.ETH_STAT_LINK (g - 24)

/-- `NM_NEED` (R650, R653, R659, R674). -/
def execNmNeed (dt : Nat) (c : Cmd) (s : State) : Answered :=
  .next (s.serveOp dt c 0x2015 [.can, .lin, .eth] fun s =>
    let g := objSeg c.object
    s.orElse c [s.nmOffBar g] fun s =>
      let up := s.nmSt g != 4
      let s := (s.begin c).wr Reg.NM_STAT_HOSTNEED g 1
      let s := s.modSeg g fun x => { x with holdAt := none, needs := x.needs ++ [c] }
      let s := s.nmNeed g
      if s.needMet g up then s.needsDone g else s).done

/-- The host's hold ends (R653): NM_NEED commands still waiting for their outcome complete with it. -/
def State.hostRelease (s : State) (g : Nat) : State :=
  let cs := (s.seg g).needs
  let s := (s.wr Reg.NM_STAT_HOSTNEED g 0).modSeg g fun x => { x with holdAt := none, needs := [] }
  (cs.foldl (fun s c => s.complete c .done) s).nmLeave g

/-- `NM_RELEASE` (R653, R674). -/
def execNmRelease (dt : Nat) (c : Cmd) (s : State) : Answered :=
  .next (s.serveOp dt c 0x2016 [.can, .lin, .eth] fun s =>
    let g := objSeg c.object
    s.orElse c [s.nmOffBar g] fun s => ((s.begin c).hostRelease g).complete c .done).done

/-- EN goes from 0 to 1 (R650): READY, with TKA running. -/
def State.nmEnable (s : State) (g : Nat) : State := if s.nmSt g = 0 then s.nmReady g 255 else s

/-- EN goes to 0 (R650): the agreement stops, and NM_NEED commands that wait for their outcome are aborted (R127). -/
def State.nmDisable (s : State) (g : Nat) : State :=
  let cs := (s.seg g).needs
  let s := ((s.nmTo g 0).wr Reg.NM_STAT_HOSTNEED g 0).wr Reg.NM_STAT_FWDNEED g 0
  let s := (s.wr Reg.NM_STAT_KEEPER g 255).modSeg g fun x => { x with needs := [], holdAt := none, armed := false }
  cs.foldl (fun s c => s.complete c .abortedReset) s

/-- `KEEPALIVE_SEND` (R648). -/
def execKeepaliveSend (dt g : Nat) (s : State) : Answered :=
  let s := s.tick dt
  .next (if s.segLive g && s.nmSt g == 1 && (decide (g < 16) || decide (24 ≤ g)) && decide ((s.seg g).kaAt ≤ s.now) then s.kaSend g else s).done

/-- `TKA_EXPIRY` (R650): READY becomes PREP. -/
def execTkaExpiry (dt g : Nat) (s : State) : Answered :=
  let s := s.tick dt
  .next (if s.segLive g && s.nmSt g == 2 && (decide (g < 16) || decide (24 ≤ g)) && decide ((s.seg g).tkaAt ≤ s.now) then
    (s.nmTo g 3).modSeg g fun x => { x with prepAt := s.now + s.rd Reg.NM_TIME_TPREP g * 10000000 }
  else s).done

/-- `TPREP_EXPIRY` (R650): PREP becomes SLEEP. -/
def execTprepExpiry (dt g : Nat) (s : State) : Answered :=
  let s := s.tick dt
  .next (if s.segLive g && s.nmSt g == 3 && decide ((s.seg g).prepAt ≤ s.now) then s.nmTo g 4 else s).done

/-- `NEED_HOLD_END` (R653). -/
def execNeedHoldEnd (dt g : Nat) (s : State) : Answered :=
  let s := s.tick dt
  .next (if s.segLive g && s.flag Reg.NM_STAT_HOSTNEED g && (match (s.seg g).holdAt with | some t => decide (t ≤ s.now) | none => false) then
    s.hostRelease g
  else s).done

/-- `FWD_HOLD_END` (R654). -/
def execFwdHoldEnd (dt g : Nat) (s : State) : Answered :=
  let s := s.tick dt
  .next (if s.segLive g && s.flag Reg.NM_STAT_FWDNEED g && decide ((s.seg g).fwdAt ≤ s.now) && !s.relHold g then (s.wr Reg.NM_STAT_FWDNEED g 0).nmLeave g else s).done

/-- NM_FAILSAFE: 0 no answer, 1 answer "sleep" (R675). -/
def State.failsafeEvent (s : State) (g k : Nat) : State := s.raise 0x1C84 (segObj g) (atByte 16 g + atByte 17 k)

/-- `FAILSAFE_SLEEP_REQUEST` of segment `g`, whose lines have been silent for TFSIDLE × 100 ms − 3 % at the least; `answered`: die C answers, which a
stalled die C does not (R661 to R663). -/
def execFailsafeSleepRequest (dt g : Nat) (answered : Bool) (s : State) : Answered :=
  let s := s.tick dt
  let st := s.nmSt g
  let x := s.seg g
  .next (if !(s.segLive g && (st == 1 || st == 2 || st == 3) && decide (max x.busAt x.idleAt + s.rd Reg.NM_GCFG_TFSIDLE * 97000000 ≤ s.now)) then s
  else if !answered then s.modSeg g fun x => { x with fsAt := some s.now }
  else if st = 3 then (if 16 ≤ g ∧ g < 24 then s.linSleep (g - 16) else s.nmTo g 4).failsafeEvent g 1
  else s.modSeg g fun x => { x with idleAt := s.now }).done

/-- `FAILSAFE_TIMEOUT` (R661, R663): no answer within TFS. -/
def execFailsafeTimeout (dt g : Nat) (s : State) : Answered :=
  let s := s.tick dt
  .next (if !(s.segLive g && (match (s.seg g).fsAt with | some t => decide (t + s.rd Reg.NM_GCFG_TFS * 1000000 ≤ s.now) | none => false)) then s
  else
    let s := (s.bump Reg.NM_CNT_FSCNT g).modSeg g fun x => { x with fsAt := none }
    (if 16 ≤ g ∧ g < 24 then s.linSleep (g - 16) else s.nmTo g 4).failsafeEvent g 0).done

/-- `NM_KEEPER` (R666, R675). -/
def execNmKeeper (dt g : Nat) (s : State) : Answered :=
  let s := s.tick dt
  let per := s.rd Reg.NM_GCFG_STUCKT * 1000000000
  .next (if !(s.segLive g && per != 0 && (s.nmSt g == 2 || s.nmSt g == 3) && decide ((s.seg g).stuckAt + per ≤ s.now)) then s
  else
    let s := (s.charge g).modSeg g fun x => { x with stuckAt := x.stuckAt + per }
    let k := s.rd Reg.NM_STAT_KEEPER g
    let n := match (s.seg g).nodes.find? fun p => p.2.nid == k with | some p => p.2 | none => { nid := k }
    s.raise 0x1C83 (segObj g) (atByte 16 g + atByte 17 k + atByte 18 n.kacnt + atByte 20 (min (n.kept / 100000000) (2 ^ 32 - 1)))).done

/-- `LIN_SILENCE_SLEEP`: the bus of responder `n` has been silent for 4.0 s (R659). -/
def execLinSilenceSleep (dt n : Nat) (s : State) : Answered :=
  let s := s.tick dt
  .next (if decide (n < 8) && s.dieC && s.flag Reg.LIN_CFG_EN n && !s.flag Reg.LIN_CFG_ROLE n && s.rd Reg.LIN_STAT_STATE n != 3 && s.nmSt (16 + n) != 1
      && decide ((s.seg (16 + n)).busAt + 4000000000 ≤ s.now) then
    s.linSleep n
  else s).done

/-- `BARRIER_UPLINK_FRAME` (R517, R520, R530, R532, R627). -/
def execBarrierUplinkFrame (dt : Nat) (crc : Bool) (seq : Nat) (vins iin rises falls : List Nat) (vfld : Nat) (s : State) : Answered :=
  .next ((s.tick dt).uplink crc seq vins iin rises falls vfld).freshInputs.done

/-- NM_NSEL.CLR (R678). -/
def State.clearNodes (s : State) (g : Nat) : State := (s.charge g).modSeg g fun x => { x with nodes := [] }

end Sys2Proof.Machine
end

