-- ==== Sys2Proof/Machine/Twin.lean ====
section
/-!
DEFINITION. Sys2Proof/Machine/Twin.lean: what the twin agent does: roles and lines, images, takeover targets, takeover, swaps (R679 to R740).
-/
namespace Sys2Proof.Machine

def twObjId : Nat := 0x400

def State.twCount (s : State) (k : Nat) (n : Nat := 1) : State := s.tw fun t => { t with counts := tput t.counts k (satAdd 32 (tget 0 t.counts k) n) }

/-- Phase of a swap; 9 for none. -/
def State.swapPhase (s : State) : Nat := match s.twin.swap with | some w => w.phase | none => 9

/-! ### Lines, states (R687 to R693) -/

/-- The module's drive of PAIR_ROLE and PAIR_OK; the status shows both lines. -/
def State.drive (s : State) (role ok : Bool) : State :=
  let s := s.tw fun t => { t with holdRole := role, holdOk := ok }
  (s.wrb Reg.TW_STAT_ROLELINE 0 (role || s.twin.peerRole)).wrb Reg.TW_STAT_OKLINE 0 (ok || s.twin.peerOk)

/-- What the lines show of the partner. -/
def State.peerLines (s : State) (role ok : Bool) : State := (s.tw fun t => { t with peerRole := role, peerOk := ok }).drive s.twin.holdRole s.twin.holdOk

/-- TW_JOIN commands whose outcome is reached complete. -/
def State.joined (s : State) : State :=
  let js := s.twin.joins
  js.foldl (fun s j => s.complete j.1 .done) (s.tw fun t => { t with joins := [] })

/-- STATE and ROLE take values; TW_STATE reports a new state (R743). -/
def State.twTo (s : State) (st role : Nat) : State :=
  let old := s.twSt
  let s := (s.wr Reg.TW_STAT_STATE 0 st).wr Reg.TW_STAT_ROLE 0 role
  let s := if old = st then s else s.raise 0x1D81 twObjId (atByte 16 old + atByte 17 st + atByte 18 role)
  if st = 3 ∨ st = 4 then s.joined else s

/-- A one-time flag is raised with its chapter's own event; where it stands already, the event alone. -/
def State.flagEvent (s : State) (f : Field) (type data : Nat) : State :=
  if s.flag f then s.raise type twObjId data else s.setFlag f 0 type twObjId data

/-! ### Partner channels (R700, R361) -/

/-- The partner's channel of an object is lost, or is back: a string runs at ISOLO meanwhile. -/
def State.setLost (s : State) (o cause : Nat) (lost : Bool) : State :=
  let known := s.twin.lost.contains o
  if (if lost then known else !(known || (isKind .ld o && s.flag Reg.LD_STAT_SOLO (objNum o)))) then s
  else
    let s := s.tw fun t => { t with lost := if lost then o :: t.lost else t.lost.filter (· != o) }
    let s := if isKind .ld o then
        let n := objNum o
        let s := s.wrb Reg.LD_STAT_SOLO n lost
        if s.isOn o then s.claimSet o (s.ldStand n (s.ldDeff n (s.setDuty o)) (s.ldIset n)) else s
      else s
    if lost then s.raise 0x1D8A o (atByte 16 cause) else s.raise 0x1D8B o 0

/-- Every shared-drive object's partner channel is lost (R719, R724, R726). -/
def State.allLost (s : State) : State := (s.pairs 2).foldl (fun s p => s.setLost (recObj p) 0 true) s

/-! ### Standby (R694 to R696) -/

/-- The object switches off, where it is on or waits to be. -/
def State.quietOff (s : State) (o : Nat) : State := if s.st o = 0 ∨ s.latched o then s else s.objOff o

/-- Hot-standby objects go to standby: off, STBY 1. -/
def State.toStandby (s : State) : State :=
  (s.pairs 1).foldl (fun s p => (s.quietOff (recObj p)).wr Reg.TW_OBJ_STBY p 1) s

/-- The claims of R695 end, and STBY reads 0. -/
def State.noStandby (s : State) : State :=
  (s.pairs 1).foldl (fun s p =>
    let o := recObj p
    let s := if s.flag Reg.TW_OBJ_STBY p && !s.isOn o && (s.load o).on then
        (s.setLoad o { s.load o with on := false, stand := [], limp := false }).showUse else s
    s.wr Reg.TW_OBJ_STBY p 0) s

/-! ### The journal (R715, R726) -/

/-- Journal entries that `p` selects complete and leave. -/
def State.journalEnd (s : State) (p : JEntry → Bool) (code : Code) (sub : Nat) : State :=
  let es := s.journalOrder.filter p
  let s := s.tw fun t => { t with journal := t.journal.filter fun e => !p e }
  es.foldl (fun s e => s.complete e.cmd code sub) s

/-! ### Leaving the pair (R687, R704) -/

/-- The agent stops its heartbeat and releases its lines. -/
def State.twRelease (s : State) : State := (s.tw fun t => { t with beats := false }).drive false false

/-- A swap ends with code and sub-code; `n` is byte 16 of SOLSTICE_END (R734 to R736, R743). -/
def State.swapEnd (s : State) (code : Code) (sub n st role : Nat) : State :=
  match s.twin.swap with
  | none => s
  | some w =>
    let s := s.tw fun t => { t with swap := none, retryAt := if n = 0 then 0 else t.retryAt, sinceAt := if n = 0 then s.now else t.sinceAt }
    let s := s.twTo st role
    let s := if n = 0 then (s.bump Reg.TW_CNT_SWAPS 0).twCount 1 else s.twCount 2
    let data := atByte 16 n + atByte 17 (s.rd Reg.TW_SOLSTAT_LASTDET) + atByte 18 (s.rd Reg.TW_SOLSTAT_LASTON)
    let s := if n = 0 then s.raise 0x1D84 twObjId data else s.flagEvent Reg.TW_FLAGS_UNPROVEN 0x1D84 data
    w.cmds.foldl (fun s c => s.complete c code sub) s

/-- A swap is dropped with no end of its own: the pair is parted while it waits or runs. -/
def State.swapDrop (s : State) : State :=
  match s.twin.swap with
  | none => s
  | some w => w.cmds.foldl (fun s c => s.complete c .refusedState 0x1D03) (s.tw fun t => { t with swap := none })

/-- The agent leaves the pair: OFF, lines released, objects as they are (R704). -/
def State.twLeave (s : State) : State :=
  let role := s.twRole
  let s := s.swapDrop
  let s := (s.tw fun t => { t with wasLead := if role = 0 then t.wasLead else decide (role = 1), hbeat := false, fromStop := false, cfgBad := false }).twRelease
  let s := { s with out := { s.out with testWin := [] } }
  s.noStandby.twTo 0 0

/-! ### Claiming and joining (R689 to R692) -/

/-- CLAIM begins. -/
def State.twClaim (s : State) : State := (s.tw fun t => { t with claimAt := s.now, cfgBad := false }).twTo 1 0

/-- The claim delay (R689, R740). -/
def State.claimDelay (s : State) : Ns :=
  if s.twin.fromStop ∧ s.twin.wasLead then 2000000
  else (if s.flag Reg.TW_CFG_PREF then 2000000 else 12000000) + s.nv.serial % 16 * 500000

/-- TW_CFG.EN goes from 0 to 1. -/
def State.twEnable (s : State) : State := if s.twSt = 0 then ((s.wr Reg.TW_CFG_EN 0 1).tw fun t => { t with fromStop := false }).twClaim else s.wr Reg.TW_CFG_EN 0 1

/-- EN goes to 0. -/
def State.twDisable (s : State) : State := (if s.twSt = 0 then s else s.twLeave).wr Reg.TW_CFG_EN 0 0

/-- The pair configuration (R691), as words of window 1Dh in ascending offset. -/
def State.pairConfig (s : State) : List Nat :=
  [s.rd Reg.TW_CFG_OOBKIND * 2 ^ 2 + s.rd Reg.TW_CFG_OOBPER * 2 ^ 16, s.rd Reg.TW_CYC_CYCLE,
   s.rd Reg.TW_OOBID_ID + s.rd Reg.TW_OOBID_IDE * 2 ^ 29 + s.rd Reg.TW_OOBID_TOP * 2 ^ 30, s.rd Reg.TW_OOBDA_HI,
   s.rd Reg.TW_SOL_IGNEN * 2 ^ 6 + s.rd Reg.TW_SOL_IGNDLY * 2 ^ 8, s.rd Reg.TW_ISEL_FITLO + s.rd Reg.TW_ISEL_FITCNT * 2 ^ 16]
  ++ ((List.range 4).map fun c => s.rd Reg.TW_CORE_BASE c + s.rd Reg.TW_CORE_COUNT c * 2 ^ 16)
  ++ ((List.range 92).map fun p => s.rd Reg.TW_OBJ_MODE p)

/-- The module joins as Shadow a Lead of pair configuration `cfg`; where it differs, PAIR_CONFIG is raised (R691; the digests are equal where the
configurations are, log entry 67). -/
def State.twJoining (s : State) (cfg : List Nat) : State :=
  let same := cfg == s.pairConfig
  let s := (s.tw fun t => { t with cfgBad := !same, beats := true, active := none }).twTo 2 2
  if same then s else s.raise 0x1D8C twObjId 0

/-- The module becomes Lead without a partner. -/
def State.twAlone (s : State) : State :=
  let s := (s.tw fun t => { t with roleAt := s.now, beats := true, fromStop := false }).drive true false
  s.twTo 5 1

/-! ### Images (R705 to R713) -/

/-- Payload rate of the mirror, 0.1 Gbit/s (R706). -/
def State.reedRate (s : State) : Nat :=
  if s.rd Reg.TW_STAT_LANES = 3 then (if s.rd Reg.GLB_PACE_CUR = 0 then 152 else 200) else 100

/-- LASTSEQ of a ring (R713): the SEQ of the last command taken up. -/
def State.lastSeq (s : State) (pf n : Nat) : Nat :=
  let fl := s.host.inflight.filter fun r => r.cmd.pf == pf && r.cmd.ring == n && r.cmd.src == .host
  let up := fl.takeWhile fun r => r.started || !(r.cmd.fence && !(earlier r.cmd s.host.inflight).isEmpty || (earlier r.cmd s.host.inflight).any fun x => x.cmd.fence && !x.started)
  if up.length = fl.length then (s.cmdRing pf n).last
  else match up.getLast? with | some r => r.cmd.seq | none => (s.cmdRing pf n).last

/-- An object's record. -/
def State.imgObj (s : State) (p : Nat) : ImgObj :=
  let o := recObj p
  let n := objNum o
  let d := tget (0, 0, 0) s.twin.performed o
  { obj := o, mode := s.twMode p, cls := (s.load o).cls, st := s.st o, target := s.targetOf o, cur := (match (s.load o).avg with | some a => a | none => 0) / 10
    learned := if isKind .hs o then s.rd Reg.CH_OUT_TIL n else if isKind .sv o then s.rd Reg.SV_MEAS_TLRN n else 0
    acc := if isKind .ld o then 0 else s.accNow o
    seq := d.1, pf := d.2.1, ring := d.2.2, changed := (s.obj o).changed }

/-- A loop's record. -/
def State.imgLoop (s : State) (n : Nat) : ImgLoop :=
  { loop := n, stat := s.rd Reg.LP_STAT_STATE n, sp := s.rd Reg.LP_SP n, speff := s.rd Reg.LP_SPEFF n, integ := s.rd Reg.LP_INTEG n
    fb := s.rd Reg.LP_FB n, out := s.rd Reg.LP_OUT n, flags := s.loopFlags n, satt := s.rd Reg.LP_SATT_SATT n, last := (s.loop n).validNt }

/-- The image as it stands at a snapshot (R705, R711, R712). -/
def State.image (s : State) : Image :=
  let rings := (List.range 128).filter fun k => (tget ({} : CmdRing) s.host.cmdRings k).en
  let ps := s.pairs 0
  let lo := s.rd Reg.TW_ISEL_FITLO
  { cycle := s.twin.cycle, size := s.sizeWith [], snap := s.ntime, serial := s.nv.serial
    version := s.nv.fwVersion s.nv.active
    seqs := rings.map fun k => (k, s.lastSeq (k / 32) (k % 32))
    objs := ps.map s.imgObj
    loops := ((List.range 48).filter fun n => s.loopBound n && ps.any fun p => recObj p == s.loopObj n).map s.imgLoop
    loads := (List.range 105).map fun p => (recObj p, (s.load (recObj p)).cls, (s.load (recObj p)).rem)
    reserve := (List.range 14).map fun b => s.rd Reg.ARB_RSV_PEAK b
    segs := (List.range 34).map fun g => (g, s.nmSt g, s.rd Reg.NM_STAT_KEEPER g)
    gptp := (s.rd Reg.GPTP_STAT_STATE, s.rd Reg.GPTP_OFS)
    cycles := (List.range 16).map fun n => (n, s.rd Reg.TM_STAT_CYCLE n)
    fit := (List.range (s.rd Reg.TW_ISEL_FITCNT)).map fun k => (lo + k, (s.fit (lo + k)).value)
    core := (List.range 4).map fun c =>
      let x := tget ({} : Core) s.core.cores c
      (List.range (s.rd Reg.TW_CORE_COUNT c)).map fun k => tget 0 x.dmem (s.rd Reg.TW_CORE_BASE c + k) }

/-- What a takeover restores beside objects and loops: classes and remembered currents, network state, FIT values, core data (R711, R720). -/
def State.restoreImage (s : State) (i : Image) : State :=
  let s := i.loads.foldl (fun s l => s.setLoad l.1 { s.load l.1 with rem := match l.2.2 with | some v => some v | none => (s.load l.1).rem }) s
  let s := ((List.range 14).zip i.reserve).foldl (fun s b => s.wr Reg.ARB_RSV_PEAK b.1 b.2) s
  let s := i.segs.foldl (fun s g =>
    if s.nmSt g.1 = 0 ∨ g.2.1 = 0 then s else ((s.nmSet g.1 g.2.1).charge g.1).wr Reg.NM_STAT_KEEPER g.1 g.2.2) s
  let s := if s.rd Reg.GPTP_STAT_STATE = 0 then s else (s.wr Reg.GPTP_STAT_STATE 0 i.gptp.1).wr Reg.GPTP_OFS 0 i.gptp.2
  let s := i.cycles.foldl (fun s c => s.wr Reg.TM_STAT_CYCLE c.1 c.2) s
  let s := i.fit.foldl (fun s e => match e.2 with | some v => s.modFit e.1 fun x => { x with value := some v } | none => s) s
  ((List.range 4).zip i.core).foldl (fun s p =>
    let x := tget ({} : Core) s.core.cores p.1
    let base := s.rd Reg.TW_CORE_BASE p.1
    let dm := ((List.range p.2.length).zip p.2).foldl (fun m w => memPut m (base + w.1) (w.2 % 65536)) x.dmem
    { s with core := { s.core with cores := tput s.core.cores p.1 { x with dmem := dm } } }) s

/-! ### Takeover (R718 to R721) -/

/-- The object is in a limp state, which a takeover leaves (R740). -/
def State.inLimp (s : State) (p : Nat) : Bool := s.flag Reg.LH_LHR1_INLIMP p

/-- An object takes a target at once, as a class `cls` demand that is served as it stands (R698, R719); nothing moves in a frozen group (R42). -/
def State.startTarget (s : State) (o cls : Nat) (t : TwTarget) (inr : Bool) : State :=
  let n := objNum o
  let i := chIx o
  if s.latched o || s.ovFrozen o then s
  else if t.kind = 0 then s.quietOff o
  else
    match kindOf o with
    | .sv =>
      if s.isOn o then s
      else (s.objServe (s.svOwnPolicy o cls (.on 0 0))).svLevel n (if t.level = 0 then none else some t.level)
    | .ld => s.objServe { s.ldOwn n cls false (.on (t.level + 1) t.duty) t.duty with kind := .on (if t.level = 0 then 0 else t.level + 1) t.duty }
    | _ =>
      let duty := if t.kind = 2 then t.duty else 65535
      let inr := inr && isKind .hs o
      if s.isOn o then s.chChange i t.kind duty none
      else s.objServe (s.ownDemand o cls (chKind t.kind duty inr false) (s.chStand i duty) (if inr then s.chTrans i else []) (if inr then s.chTil i else 0))

/-- A loop whose record is CLOSED closes on its object with the image's integrator. -/
def State.restoreLoop (s : State) (r : ImgLoop) : State :=
  if r.stat ≠ 2 then s
  else
    let n := r.loop
    let s := ((s.wr Reg.LP_SP n r.sp).wr Reg.LP_SPEFF n r.speff).wr Reg.LP_INTEG n r.integ
    let s := ((s.wr Reg.LP_FB n r.fb).wr Reg.LP_OUT n r.out).wr Reg.LP_SATT_SATT n r.satt
    let s := ((s.wr Reg.LP_STAT_STATE n 2).wr Reg.LP_STAT_EVER n 1).modLoop n fun l => { l with first := false, fbprev := r.fb, validNt := r.last }
    (s.loopApply n (sgn 32 r.out)).loopClaims (s.loopObj n)

/-- Steps 1 to 3 of R719, or the limp records of R721. -/
def State.takeObjects (s : State) (stale : Bool) : State :=
  let todo := (s.pairs 0).filter fun p => !s.inLimp p
  if stale then (todo.foldl (fun s p => if s.ovFrozen (recObj p) then s else s.takeState p (s.limpState p) (s.flag Reg.LH_LHR0_EXEMPT p)) s.noStandby).allLost
  else
    let ts := (todo.filter fun p => s.twMode p == 1).map fun p => (p, s.takeTarget (recObj p))
    let s := ts.foldl (fun s t => s.startTarget (recObj t.1) 0 t.2 true) s.noStandby
    let s := s.allLost
    match s.twin.active with
    | some i => (i.loops.foldl State.restoreLoop s)
    | none => s

end Sys2Proof.Machine
end

