-- ==== Sys2Proof/Machine/TwinRows.lean ====
section
/-!
DEFINITION. Sys2Proof/Machine/TwinRows.lean: the commands and events of the twin agent (R684 to R744), but for the Equinox handover.
-/
namespace Sys2Proof.Machine

/-- The outcome's state, `s` where it has none. -/
def Answered.state (s : State) : Answered → State
  | .next t => t
  | _ => s

/-- The agent runs: die C serves it. -/
def State.twLive (s : State) : Bool := s.dieC && s.twSt != 0

/-- The agent runs, the Reed link's timebase does (R74), and a lane holds block lock (R684). -/
def State.reedUp (s : State) : Bool := s.twLive && s.pwr.refPresent && s.rd Reg.TW_STAT_LANES != 0

/-! ### Replay (R719 step 4) -/

/-- A journaled command is performed as its own row would. -/
def State.perform (s : State) (c : Cmd) : State :=
  let s := s.modFlight c fun r => { r with started := false }
  let vd := (s.obj c.object).vdoff
  Answered.state s <| match objKind c.object, c.op with
  | some (.ld, _), 0x2001 => execLedOff 0 c s
  | some (.ld, _), 0x2002 => execLedOn 0 c s
  | some (.ld, _), 0x2003 => execLedDim 0 c s
  | some (.ld, _), 0x2004 => execLdClearFault 0 c s
  | some (.ld, _), 0x2005 => execLdDiagCheck 0 c s
  | some (.sv, _), 0x2001 => execSvOff 0 c s
  | some (.sv, _), 0x2002 => execSvOn 0 c s
  | some (.sv, _), 0x2003 => execSvHold 0 c s
  | some (.sv, _), 0x2004 => execSvClearFault 0 c s
  | some (.sv, _), 0x2005 => execSvDiagCheck 0 c s
  | some (.loop, _), 0x2001 => execLoopOpen 0 c s
  | some (.loop, _), 0x2002 => execLoopClose 0 c s
  | some (.loop, _), 0x2003 => execLoopSetpoint 0 c s
  | some (.loop, _), 0x2004 => execClearFlags 0 c s
  | _, 0x2001 => execOutOff 0 c s
  | _, 0x2002 => execOutOn 0 c vd s
  | _, 0x2003 => execOutPwm 0 c vd s
  | _, 0x2004 => execClearFault 0 c s
  | _, _ => execDiagCheck 0 c s

/-- The journal is performed: entries that the image covers complete MIRRORED, the others with their own outcome.  The number counts the latter. -/
def State.replay (s : State) : State × Nat :=
  let es := s.journalOrder
  let s := s.tw fun t => { t with journal := [] }
  es.foldl (fun (a : State × Nat) e =>
    match s.twin.active with
    | some i => if i.covers e.cmd then (a.1.complete e.cmd .done 0x1D09, a.2) else (a.1.perform e.cmd, a.2 + 1)
    | none => (a.1.perform e.cmd, a.2 + 1)) (s, 0)

/-- A takeover (R719 to R721): `det` and `on` are the delays of the declaration and of the last start, µs. -/
def State.takeover (s : State) (det on : Nat) : State :=
  let swap := s.twSt == 7
  let age := if s.twin.active.isNone then 2 ^ 32 - 1 else (s.now - s.twin.snapAt) / 1000
  let stale := s.twin.active.isNone || decide (4 * s.rd Reg.TW_CYC_CYCLE * 1000 < s.now - s.twin.snapAt)
  let s := (s.tw fun t => { t with roleAt := s.now, beats := true, hbeat := swap }).drive true false
  let s := if swap then (s.twTo 7 1).tw fun t => { t with swap := t.swap.map fun w => { w with phase := 4 } } else s.twTo 5 1
  let s := ((s.wr Reg.TW_SOLSTAT_LASTDET 0 (if swap then min 255 det else s.rd Reg.TW_SOLSTAT_LASTDET)).wr Reg.TW_SOLSTAT_LASTON 0
    (if swap then min 255 on else s.rd Reg.TW_SOLSTAT_LASTON))
  let s := match s.twin.active with | some i => if stale then s else s.restoreImage i | none => s
  let s := s.takeObjects stale
  let s := match s.twin.active with | some i => s.tw fun t => { t with cycle := max t.cycle i.cycle, cycleAt := s.now } | none => s.tw fun t => { t with cycleAt := s.now }
  let r := if stale then (s.journalEnd (fun _ => true) .refusedState 0x1D07, 0) else s.replay
  let s := (r.1.bump Reg.TW_CNT_TAKEOVERS 0).twCount 0
  s.raise 0x1D82 twObjId (atByte 16 (min 0xFFFF det) + atByte 18 (min 0xFFFF on) + atByte 20 (min age (2 ^ 32 - 1)) + atByte 24 (min 0xFFFF r.2))

/-! ### Commands (R741) -/

/-- `TW_JOIN`. -/
def execTwJoin (dt : Nat) (c : Cmd) (s : State) : Answered :=
  .next (s.serveOp dt c 0x2020 [.twin] fun s =>
    let s := (s.begin c).wr Reg.TW_CFG_EN 0 1
    if s.twSt = 3 ∨ s.twSt = 4 then s.complete c .done
    else
      let s := s.tw fun t => { t with joins := t.joins ++ [(c, s.now)] }
      if s.twSt = 0 then (s.tw fun t => { t with fromStop := false }).twClaim else s).done

/-- `TW_JOIN_TIMEOUT`. -/
def execTwJoinTimeout (dt : Nat) (s : State) : Answered :=
  let s := s.tick dt
  let late := s.twin.joins.filter fun j => decide (j.2 + 100000000 ≤ s.now)
  .next (late.foldl (fun s j => s.complete j.1 .refusedState 0x1D05)
    (s.tw fun t => { t with joins := t.joins.filter fun j => !decide (j.2 + 100000000 ≤ s.now) })).done

/-- `TW_PART` (R704). -/
def execTwPart (dt : Nat) (c : Cmd) (s : State) : Answered :=
  .next (s.serveOp dt c 0x2021 [.twin] fun s =>
    let s := s.begin c
    (if s.twSt = 0 then s else s.twLeave).complete c .done).done

/-- `REED_LANE_LOSS` of lane `k` (R684). -/
def execReedLaneLoss (dt k : Nat) (s : State) : Answered :=
  let s := s.tick dt
  .next (if s.dieC && decide (k < 2) then s.wr Reg.TW_STAT_LANES 0 (clrBit (s.rd Reg.TW_STAT_LANES) k) else s).done

/-- `REED_LANE_LOCK` of lane `k` (R684). -/
def execReedLaneLock (dt k : Nat) (s : State) : Answered :=
  let s := s.tick dt
  .next (if s.buses && decide (k < 2) then s.wr Reg.TW_STAT_LANES 0 (setBit (s.rd Reg.TW_STAT_LANES) k) else s).done

/-! ### Claiming and joining -/

/-- `CLAIM_DELAY_EXPIRY` (R689, R690): PAIR_ROLE has read released for the claim delay; `rival` is the PREF and the serial number of a module that claimed
within the same 1 ms, found over the Reed link; `same` its pair configuration, should this module join it. -/
def execClaimDelayExpiry (dt : Nat) (rival : Option (Bool × Nat)) (same : List Nat) (s : State) : Answered :=
  let s := s.tick dt
  .next (if !(s.twLive && s.twSt == 1 && !s.twin.peerRole && decide (s.twin.claimAt + s.claimDelay ≤ s.now)) then s
  else
    let s := s.twAlone
    let pref := s.flag Reg.TW_CFG_PREF
    match if s.reedUp then rival else none with
    | none => s
    | some (p, n) =>
      if (pref && !p) || (pref == p && decide (s.nv.serial < n)) then s
      else ((s.drive false false).peerLines true s.twin.peerOk).twJoining same).done

/-- The handoff of a swap begins at the old Lead (R731): the heartbeat stops, PAIR_ROLE is released, the channels stay. -/
def State.handoff (s : State) : State :=
  (s.tw fun t => { t with beats := false, swap := t.swap.map fun w => { w with phase := 3, offAt := s.now } }).drive false s.twin.holdOk

/-- `PAIR_ROLE_LOW`: the partner holds PAIR_ROLE low.  In CLAIM the module joins as Shadow, `same` being the Lead's pair configuration; at the end of a
swap's handoff the old Lead settles.  `det` and `on` are the new Lead's delays, µs. -/
def execPairRoleLow (dt : Nat) (same : List Nat) (det on : Nat) (s : State) : Answered :=
  let s := s.tick dt
  .next (if !s.dieC then s
  else
    let s := s.peerLines true s.twin.peerOk
    if s.twSt = 1 then s.twJoining same
    else if s.twSt = 7 ∧ s.twRole = 1 ∧ s.swapPhase = 3 then
      let s := (s.wr Reg.TW_SOLSTAT_LASTDET 0 (min 255 det)).wr Reg.TW_SOLSTAT_LASTON 0 (min 255 on)
      let s := (s.tw fun t => { t with beats := true, hbeat := true, active := none }).toStandby
      let s := s.drive false true
      if 40 < det ∨ 60 < on then s.swapEnd .faulted 0x1D10 4 4 2 else s.swapEnd .done 0 0 4 2
    else s).done

/-- `PAIR_OK_LOW`: the partner holds PAIR_OK low, and its heartbeat is present.  LEAD_ALONE becomes LEAD; a swap ends at the new Lead. -/
def execPairOkLow (dt : Nat) (s : State) : Answered :=
  let s := s.tick dt
  .next (if !s.dieC then s
  else
    let s := s.peerLines s.twin.peerRole true
    if !s.reedUp then s
    else
    let s := s.tw fun t => { t with hbeat := true }
    if s.twSt = 5 then (s.tw fun t => { t with cycleAt := s.now }).twTo 3 1
    else if s.twSt = 7 ∧ s.twRole = 1 ∧ s.swapPhase = 4 then
      let s := ((s.pairs 2).filter fun p => s.isOn (recObj p)).foldl (fun s p => s.setLost (recObj p) 0 false) s
      if 40 < s.rd Reg.TW_SOLSTAT_LASTDET ∨ 60 < s.rd Reg.TW_SOLSTAT_LASTON then s.swapEnd .faulted 0x1D10 4 3 1 else s.swapEnd .done 0 0 3 1
    else s).done

/-- `TW_HEARTBEAT_SEND` (R686). -/
def execTwHeartbeatSend (dt : Nat) (s : State) : Answered :=
  let s := s.tick dt
  .next (if s.twLive && s.twin.beats && decide (s.twin.beatAt + 4900 ≤ s.now) then
    (s.reed (.heartbeat s.twRole s.twSt (s.twin.cycle % 65536))).tw fun t => { t with beatAt := s.now }
  else s).done

/-! ### Loss of the partner (R718 to R728) -/

/-- LINK_LOST at a Shadow (R726): its channels are off, and the journal completes. -/
def State.linkLostShadow (s : State) : State :=
  let s := s.twTo 6 2
  let s := (s.pairs 2).foldl (fun s p => s.quietOff (recObj p)) s
  s.journalEnd (fun _ => true) .refusedState 0x1D07

/-- PEER_SILENT (R724). -/
def State.peerSilent (s : State) : State := s.raise 0x1D83 twObjId (atByte 16 (s.rd Reg.TW_CFG_OOBSEG))

/-- `TW_HEARTBEAT_LOSS`: no heartbeat for 30 µs, with the lines as the partner then holds them.  `parted`: the partner has left the pair by TW_PART.
`det` and `on` are the delays of a takeover, µs. -/
def execTwHeartbeatLoss (dt : Nat) (role ok parted : Bool) (det on : Nat) (s : State) : Answered :=
  let s := s.tick dt
  let st := s.twSt
  .next (if !s.twLive then s
  else
    let s := (s.tw fun t => { t with hbeat := false }).peerLines role ok
    if st = 3 ∨ st = 4 ∨ st = 7 then
      if parted then s.twLeave
      else if s.twRole = 2 then
        if !role then
          (if st = 7 ∧ s.swapPhase ≠ 2 then s.swapEnd .faulted 0x1D11 4 4 2 else s).takeover det on
        else
          let s := (if st = 7 then s.swapEnd .faulted 0x1D11 4 4 2 else s).linkLostShadow
          if s.flag Reg.TW_STAT_OOBOK then s else s.peerSilent
      else
        let reclaim := st == 7 && s.swapPhase == 3
        let s := if reclaim then (s.tw fun t => { t with beats := true }).drive true false else s
        let s := if st = 7 then s.swapEnd .faulted 0x1D11 4 3 1 else s
        (s.twTo (if ok then 6 else 5) 1).allLost
    else s).done

/-- `PAIR_ROLE_RELEASED`: in LINK_LOST a Shadow takes over by the rule on stale images; in CLAIM the claim delay starts (R689). -/
def execPairRoleReleased (dt det on : Nat) (s : State) : Answered :=
  let s := s.tick dt
  .next (if !s.dieC then s
  else
    let was := s.twin.peerRole
    let s := s.peerLines false s.twin.peerOk
    if s.twSt = 6 ∧ s.twRole = 2 then s.takeover det on
    else if s.twSt = 1 ∧ was then s.tw fun t => { t with claimAt := s.now }
    else s).done

/-- `HEARTBEAT_RESTORED`: a heartbeat present for 1 ms leaves LINK_LOST. -/
def execHeartbeatRestored (dt : Nat) (s : State) : Answered :=
  let s := s.tick dt
  .next (if !(s.reedUp && s.twSt == 6) then s
  else
    let s := s.tw fun t => { t with hbeat := true }
    if s.twRole = 2 then ((s.tw fun t => { t with active := none }).drive false false).twTo 2 2 else s.twTo 5 1).done

/-- `PARTNER_LOST` (R700): the partner's channel of shared-drive object `o` has stopped with a cause, or both channels are on again. -/
def execPartnerLost (dt o cause : Nat) (back : Bool) (s : State) : Answered :=
  let s := s.tick dt
  .next (match recIx o with
    | some p => if s.twLive && s.twMode p == 2 && (!back || s.isOn o) then s.setLost o cause (!back) else s
    | none => s).done

/-- `LINE_FAULT` (R728, R732): line `k` (0 PAIR_ROLE, 1 PAIR_OK) reads released for 10 µs while it is pulled low, or reads back correctly again. -/
def execLineFault (dt k : Nat) (bad : Bool) (s : State) : Answered :=
  let s := s.tick dt
  .next (if !(s.dieC && decide (k < 2) && (if k = 0 then s.twin.holdRole else s.twin.holdOk)) then s
  else if !bad then s.tw fun t => { t with lineOkAt := match t.lineOkAt with | some a => some a | none => some s.now }
  else (s.tw fun t => { t with lineOkAt := none }).flagEvent Reg.TW_FLAGS_LINEFLT 0x1D88 (atByte 16 k)).done

/-- `TWIN_REFRESH_TIMEOUT` (R687). -/
def execTwinRefreshTimeout (dt : Nat) (s : State) : Answered :=
  let s := s.tick dt
  .next (if s.twLive && (match s.core.twAt with | some t => decide (t + 100000 ≤ s.now) | none => true) then s.twLeave else s).done

/-! ### Images and the journal -/

/-- `MIRROR_SNAPSHOT` (R705, R706, R711 to R713). -/
def execMirrorSnapshot (dt : Nat) (s : State) : Answered :=
  let s := s.tick dt
  .next (if !(s.twLive && (s.twSt == 3 || s.twSt == 7) && s.twRole == 1 && (match s.twin.swap with | some w => decide (w.phase ≤ 2) | none => true)
      && decide (s.twin.cycleAt + s.rd Reg.TW_CYC_CYCLE * 1000 ≤ s.now)) then s
  else
    let s := s.tw fun t => { t with cycle := t.cycle + 1, cycleAt := s.now }
    let i := s.image
    s.reed (.image i (xferNs i.size s.reedRate))).done

/-- `MIRROR_LATE` (R708): `us` is the transfer time, which exceeds half a cycle. -/
def execMirrorLate (dt us : Nat) (s : State) : Answered :=
  let s := s.tick dt
  .next (if s.twLive && s.twRole == 2 && (s.twSt == 2 || s.twSt == 4 || s.twSt == 7) && decide (s.rd Reg.TW_CYC_CYCLE ≤ 2 * us) then
    ((s.bump Reg.TW_AGE_MISS 0).twCount 3).raise 0x1D86 twObjId (atByte 16 (us % 2 ^ 32))
  else s).done

/-- The Shadow commits an image (R692, R694 to R696, R709, R715). -/
def State.commitImage (s : State) (i : Image) (took : Nat) : State :=
  let s := s.tw fun t => { t with active := some i, snapAt := s.now - took }
  let s := s.journalEnd (fun e => i.covers e.cmd) .done 0x1D09
  let s := if s.twSt = 2 && !s.twin.cfgBad then (s.toStandby.drive false true).twTo 4 2 else s
  s.standbyClaims

/-- `IMAGE_RECEIVED` (R709): an image has arrived, whole and with a good CRC where `whole` and `crc` say so, `took` ns after its snapshot.  At the Lead in
a swap's Final image phase, the Shadow's report that it has committed the final image: the handoff begins (R731). -/
def execImageReceived (dt : Nat) (i : Image) (whole crc : Bool) (took : Nat) (s : State) : Answered :=
  let s := s.tick dt
  let st := s.twSt
  .next (if !s.reedUp then s
  else if st = 7 ∧ s.twRole = 1 then
    (if whole && crc && i.cycle == s.twin.cycle && (match s.twin.swap with | some w => w.phase == 2 && decide (w.finalAt ≤ s.twin.cycleAt) | none => false) then s.handoff
    else s)
  else if s.twRole ≠ 2 ∨ st = 6 then s
  else
    let newer := match s.twin.active with | some a => decide (a.cycle < i.cycle) | none => true
    if whole && crc && newer then s.commitImage i took
    else (s.bump Reg.TW_AGE_MISS 0).twCount 4).done

/-- `JOURNAL_TIMEOUT` (R716). -/
def execJournalTimeout (dt : Nat) (s : State) : Answered :=
  let s := s.tick dt
  let late := fun (e : JEntry) => decide (e.at_ + 1000000000 ≤ s.now)
  let n := (s.journalOrder.filter late).length
  .next (if !s.dieC then s else ((s.journalEnd late .refusedState 0x1D06).bump Reg.TW_JRNL_NOTLEAD 0 n).twCount 6 n).done

/-- `DRIVE_MESSAGE` (R698, R699): the Shadow applies a shared-drive message, `late` ns after its edge. -/
def execDriveMessage (dt : Nat) (d : DriveMsg) (late : Nat) (s : State) : Answered :=
  let s := s.tick dt
  .next (match recIx d.obj with
    | none => s
    | some p =>
      if !(s.reedUp && s.twRole == 2 && (s.twSt == 4 || s.twSt == 7) && s.twMode p == 2) then s
      else
        let s := if s.inLimp p then s else s.startTarget d.obj (s.load d.obj).cls d.target false
        if late = 0 then s else (s.twCount 5).raise 0x1D89 twObjId (atByte 16 d.obj + atByte 18 (min 0xFFFF late))).done

/-- Time since the cycle-number epoch, by the newest cycle known. -/
def State.epochNs (s : State) : Nat :=
  let per := s.rd Reg.TW_CYC_CYCLE * 1000
  match s.twin.active with
  | some i => if s.twRole = 2 then i.cycle * per + (s.now - s.twin.snapAt) else s.twin.cycle * per + (s.now - s.twin.cycleAt)
  | none => s.twin.cycle * per + (s.now - s.twin.cycleAt)

/-- `OFFTEST_WINDOW` (R701): the first or second 10 ms of a 20 ms span run; `off` lists the objects whose partner channel is off.  The windows end with
the 10 ms. -/
def execOfftestWindow (dt : Nat) (first : Bool) (off : List Nat) (s : State) : Answered :=
  let s := s.tick dt
  let t := s.epochNs % 20000000
  let mine := s.twLive && ((s.twRole == 1 && first) || (s.twRole == 2 && !first && s.twin.active.isSome)) && first == decide (t < 10000000)
  let os := if mine then ((s.pairs 0).map recObj).filter fun o => s.st o == 0 && off.contains o else []
  .next (({ s with out := { s.out with testWin := os } }).tw fun x => { x with windowAt := s.now + (10000000 - t % 10000000) }).done

/-! ### The out-of-band heartbeat (R725 to R727) -/

/-- Bytes 0 to 7 of the frame. -/
def State.oobBytes (s : State) : List Byte := [s.twRole, s.twSt] ++ leBytes 4 s.nv.serial ++ leBytes 2 s.twin.cycle

/-- `OOB_HEARTBEAT_SEND`. -/
def execOobHeartbeatSend (dt : Nat) (s : State) : Answered :=
  let s := s.tick dt
  .next (if !(s.twLive && s.twRole != 0 && decide (s.twin.oobSent + s.rd Reg.TW_CFG_OOBPER * 1000000 ≤ s.now)) then s
  else
    let g := s.rd Reg.TW_CFG_OOBSEG
    let s := (s.tw fun t => { t with oobSent := s.now }).forwardWake g
    if s.rd Reg.TW_CFG_OOBKIND = 2 then
      let da := leBytes 4 (s.rd Reg.TW_OOBID_ID + s.rd Reg.TW_OOBID_IDE * 2 ^ 29 + s.rd Reg.TW_OOBID_TOP * 2 ^ 30) ++ leBytes 2 (s.rd Reg.TW_OOBDA_HI)
      let f : EthFrame := { da, sa := s.hostMac, type := 0x88B5, body := List.replicate 8 0 ++ s.oobBytes ++ List.replicate 30 0 }
      (s.portPush (g - 24) { ord := 0, frm := .oob, body := .eth f, tc := bits (s.rd Reg.ETH_PCPMAP (g - 24)) 0 3 } f.len).1
    else
      let t : Tx := { ord := 0, frm := .oob, body := .bus { id := s.rd Reg.TW_OOBID_ID + s.rd Reg.TW_OOBID_IDE * 2 ^ 29, fmt := 0, data := s.oobBytes } }
      if s.canTakes g 0 then s.canPush g t else s).done

/-- `OOB_HEARTBEAT_RECEIVED`: role and serial number of the partner; `later`: this module's claim came later (R727). -/
def execOobHeartbeatReceived (dt role serial : Nat) (later : Bool) (s : State) : Answered :=
  let s := s.tick dt
  .next (if !(s.twLive && s.twRole != 0) then s
  else
    let s := (s.wr Reg.TW_STAT_OOBOK 0 1).tw fun t => { t with oobAt := s.now }
    if role ≠ 1 ∨ s.twRole ≠ 1 ∨ s.twSt = 7 then s
    else
      let s := (s.twCount 7).flagEvent Reg.TW_FLAGS_DUALLEAD 0x1D87 (atByte 16 (serial % 2 ^ 32))
      if !later then s
      else
        let s := s.twRelease.toStandby
        let s := (s.pairs 2).foldl (fun s p => s.quietOff (recObj p)) s
        s.twClaim).done

/-- `OOB_HEARTBEAT_SILENT`: none for 3 periods (R724). -/
def execOobHeartbeatSilent (dt : Nat) (s : State) : Answered :=
  let s := s.tick dt
  .next (if s.twLive && s.flag Reg.TW_STAT_OOBOK && decide (s.twin.oobAt + 3 * s.rd Reg.TW_CFG_OOBPER * 1000000 ≤ s.now) then
    let s := s.wr Reg.TW_STAT_OOBOK 0 0
    if s.twSt = 6 ∧ s.twRole = 2 then s.peerSilent else s
  else s).done

/-! ### Solstice swaps (R729 to R736) -/

/-- The preconditions of R730; `peer` is the partner's part. -/
def State.swapReady (s : State) (peer : Bool) : Bool :=
  peer && (s.twSt == 3 || s.twSt == 4) && s.twin.hbeat && s.rd Reg.TW_STAT_LANES != 0 && !s.flag Reg.LIMP_STAT_ACTIVE
  && decide (s.now ≤ (if s.twRole = 1 then s.twin.cycleAt else s.twin.snapAt) + s.rd Reg.TW_CYC_CYCLE * 1000)
  && (s.twRole == 1 || s.twin.active.isSome)
  && (s.pairs 0).all fun p =>
    let o := recObj p
    match kindOf o with
    | .hs => s.st o != 2 && s.st o != 3 | .ld => s.st o != 1 | .sv => s.st o != 1 && s.st o != 2 | _ => true

/-- The Prove phase begins. -/
def State.swapBegin (s : State) (cmds : List Cmd) (due : Bool) : State :=
  let s := s.tw fun t => { t with swap := some { phase := 1, cmds, due, since := s.now } }
  let s := cmds.foldl (fun s c => s.begin c) s
  (s.reed (.swap 0)).twTo 7 s.twRole

/-- A swap is asked for: it begins, or waits for its preconditions. -/
def State.swapAsk (s : State) (cmds : List Cmd) (due peer : Bool) : State :=
  if s.swapReady peer then s.swapBegin cmds due else s.tw fun t => { t with swap := some { phase := 0, cmds, due, since := s.now } }

/-- Pairing is off: NOT_PAIRED; a swap or handover runs: SWAP_BUSY. -/
def State.pairBar (s : State) : List (Option (Code × Nat)) :=
  [barIf (!s.flag Reg.TW_CFG_EN) .refusedState 0x1D01, barIf (s.twin.swap.isSome || s.twin.equinox.isSome) .refusedState 0x1D02]

/-- `TW_SOLSTICE`: `peer` says that the partner's preconditions hold. -/
def execTwSolstice (dt : Nat) (c : Cmd) (peer : Bool) (s : State) : Answered :=
  .next (s.serveOp dt c 0x2022 [.twin] fun s => s.orElse c s.pairBar fun s => s.swapAsk [c] false peer).done

/-- The swap that waits for its preconditions. -/
def State.swapWaits (s : State) : Option Swap := match s.twin.swap with | some w => if w.phase = 0 then some w else none | none => none

/-- Minutes since the last swap (R729). -/
def State.sinceMin (s : State) : Nat := min 0xFFFF ((s.now - s.twin.sinceAt) / 60000000000)

/-- `SOLSTICE_DUE`: 0 the ignition delay has passed; 1 SINCE has reached 24 h, or its retry is due; 2 the partner begins a swap; 3 the preconditions of a
waiting swap hold now. -/
def execSolsticeDue (dt why : Nat) (peer : Bool) (s : State) : Answered :=
  let s := s.tick dt
  let idle := s.twin.swap.isNone && s.twin.equinox.isNone
  .next (if !s.twLive then s
  else if why = 0 then
    (if s.flag Reg.TW_SOL_IGNEN && idle && (match s.twin.ignAt with | some t => decide (t + s.rd Reg.TW_SOL_IGNDLY * 1000000000 ≤ s.now) | none => false) then
      (s.tw fun t => { t with ignAt := none }).swapAsk [] false peer else s)
  else if why = 1 then
    (if decide (1440 ≤ s.sinceMin) && idle && decide (s.twin.retryAt ≤ s.now) then
      let s := if s.twin.retryAt = 0 then s else s.raise 0x1D8D twObjId (atByte 16 (s.sinceMin / 60))
      (s.tw fun t => { t with retryAt := s.now + 600000000000 }).swapAsk [] true peer
    else s)
  else if why = 2 then (if (idle || s.swapWaits.isSome) && s.swapReady peer then s.swapBegin (match s.swapWaits with | some w => w.cmds | none => []) false else s)
  else match s.swapWaits with
    | some w => if s.swapReady peer then s.swapBegin w.cmds w.due else s
    | none => s).done

/-- `SWAP_PRECOND_TIMEOUT` (R730). -/
def execSwapPrecondTimeout (dt : Nat) (s : State) : Answered :=
  let s := s.tick dt
  .next (match s.swapWaits with
    | some w =>
      if decide (w.since + 10000000000 ≤ s.now) then w.cmds.foldl (fun (s : State) c => s.complete c .refusedState 0x1D03) (s.tw fun t => { t with swap := none }) else s
    | none => s).done

/-- The verdict of a shared-drive channel of the Shadow is not OK (R732). -/
def State.sharedBad (s : State) : Bool :=
  s.twRole == 2 && (s.pairs 2).any fun p => match verdField (kindOf (recObj p)) with | some f => s.rd f (ix (recObj p)) != 1 | none => false

/-- `SWAP_PROVE_DONE`: the proofs have ended; `seen` is 0 or the number of the failed proof (R732, R734). -/
def execSwapProveDone (dt seen : Nat) (s : State) : Answered :=
  let s := s.tick dt
  let fail := if seen = 0 ∧ s.sharedBad then 3 else seen
  .next (match s.twin.swap with
    | some w =>
      if !(s.twLive && w.phase == 1 && s.twSt == 7) then s
      else if fail = 0 then (s.tw fun t => { t with swap := some { w with phase := 2, finalAt := s.now } }).reed (.swap 1)
      else (s.reed (.swap 2)).swapEnd .faulted 0x1D10 (min 3 fail) (if s.twRole = 1 then 3 else 4) s.twRole
    | none => s).done

/-- `TAKEOVER_SLOW` (R735): the old Lead reclaims. -/
def execTakeoverSlow (dt : Nat) (s : State) : Answered :=
  let s := s.tick dt
  .next (match s.twin.swap with
    | some w =>
      if s.twLive && w.phase == 3 && s.twRole == 1 && decide (w.offAt + 100000 ≤ s.now) then
        ((s.tw fun t => { t with beats := true }).drive true false).swapEnd .faulted 0x1D11 4 3 1
      else s
    | none => s).done

end Sys2Proof.Machine
end

