-- ==== Sys2Proof/Machine/Records.lean ====
section
/-!
DEFINITION. Sys2Proof/Machine/Records.lean: signed records, the random source, the debug level, and the messages between the access object and its tokens
(R848 to R854, R862, R883, R887).
-/
namespace Sys2Proof.Machine

/-- The next value of `n` bytes from the random source. -/
def State.draw (s : State) (n : Nat) : Nat × State :=
  (Config.random s.sec.draws % 2 ^ (8 * n), { s with sec := { s.sec with draws := s.sec.draws + 1 } })

/-- The present debug level: 0 CLOSED, 1 OBSERVE, 2 INVASIVE (R862). -/
def State.dbgLevel (s : State) : Nat := s.rd Reg.SEC_DBG_LEVEL

/-- Firmware runs: die C is in Run or a Stop entry, in a lifecycle state of full function, and not in RECOVERY (R858, R915). -/
def State.firmware (s : State) : Bool :=
  (match s.pwr.phase with | .run | .entering _ => true | _ => false) && s.fullFunction && !s.pwr.recovery

/-! ### Records (R850, R851) -/

/-- What a record is checked against: the operations that the submitting opcode takes (by TYPE and OP), the rules on the rest of the record, whether
it may be unsigned, whether COUNT is checked, and whether the lifecycle admits it. -/
structure RecRule where
  defined  : Nat → Nat → Bool
  unsigned : Bool := false
  counted  : Bool := true
  installs : Bool := false
  admitted : Bool

/-- The first failed check of R851.  `sig`: SIG verifies under PUBKEY over bytes 0 to 140. -/
def State.recBar (s : State) (r : List Byte) (sig : Bool) (u : RecRule) : Option (Code × Nat) :=
  let slot := recNum r 16 1
  let k := s.nv.keySlot slot
  let free := u.unsigned && slot == 255
  firstBar [
    barIf (!(u.defined (recNum r 0 2) (recNum r 17 1)) || recNum r 2 2 != 0 || recNum r 18 2 != 0 || recNum r 255 1 != 0) .refusedPolicy 0x0409,
    barIf (recNum r 4 8 != s.nv.serial) .refusedSecurity 0x0405,
    barIf (!free && !u.installs && !(decide (slot < 3) && k.programmed && !k.revoked)) .refusedSecurity 0x0403,
    barIf (!free && (!sig || (!u.installs && shake (recBytes r 84 57) != k.digest))) .refusedSecurity 0x0402,
    barIf (u.counted && decide (recNum r 12 4 ≤ s.nv.secCtr)) .refusedSecurity 0x0404,
    barIf (!u.admitted) .refusedSecurity 0x0401]

/-- COUNT of an accepted record becomes SEC_CTR with the record's effect (R852). -/
def State.accept (s : State) (count : Nat) : State := { s with nv := { s.nv with secCtr := count } }

/-- A command whose buffer holds a record of 256 bytes (R91, R853, R875, R876): `go` has the record's checks. -/
def State.withRecord (s : State) (c : Cmd) (go : State → State) : State :=
  let addr := c.arg 16 8
  if addr % 8 ≠ 0 ∨ c.arg 24 2 < 256 then s.complete c .refusedPolicy 0x0109
  else let d := s.dma c.pf addr 256; if d.2 then go d.1 else d.1.complete c .masterFrozen

/-! ### Token frames (R883) -/

/-- One step of the CRC-8 with polynomial 1Dh. -/
def crc8Bit (r : Nat) : Nat := if 128 ≤ r then Nat.xor (2 * r % 256) 0x1D else 2 * r

def crc8Byte (r b : Nat) : Nat := Nat.repeat crc8Bit 8 (Nat.xor r (b % 256))

/-- CRC-8 with initial value FFh, most significant bit first and not inverted (log entry 29). -/
def crc8 (bs : List Byte) : Nat := bs.foldl crc8Byte 0xFF

/-- The frame holds at least a TYPE byte, and its CRC is right. -/
def tokenFrameOk (bs : List Byte) : Bool := decide (2 ≤ bs.length) && crc8 bs.dropLast == bs.getLastD 0

/-- A frame's length on LF: 16 bits of preamble, and 256 µs per bit (R882, R883). -/
def lfNs (bs : List Byte) : Ns := (16 + 8 * (bs.length + 1)) * 256000

end Sys2Proof.Machine
end

