-- ==== Sys2Proof/Machine/Access.lean ====
section
/-!
DEFINITION. Sys2Proof/Machine/Access.lean: the access object's operations: searches, challenges, failures, authorisation, release messages (R884 to R902).
-/
namespace Sys2Proof.Machine

def accObj : Nat := 0x500

def State.ac (s : State) (f : AccState → AccState) : State := { s with acc := f s.acc }
def State.accCount (s : State) (k : Nat) : State := s.ac fun a => { a with counts := tput a.counts k (satAdd 32 (tget 0 a.counts k) 1) }
def State.accEvent (s : State) (yy data : Nat) : State := s.raise (0x2000 + yy) accObj data

/-- ACC_STAT.STATE: the highest code that applies (log entry 30). -/
def AccState.code (a : AccState) : Nat :=
  if a.lockEnd.isSome then 3 else if a.authAt.isSome then 2 else if a.phase ≠ .idle then 1 else 0

/-- ACC_STAT.STATE and the time of its last change follow the access object (R903, R904). -/
def State.accShow (s : State) : State :=
  if s.rd Reg.ACC_STAT_STATE = s.acc.code then s
  else (s.wr Reg.ACC_STAT_STATE 0 s.acc.code).ac fun a => { a with changed := s.ntime }

/-- Failures within the last 10 min (R891). -/
def State.recentFails (s : State) : List Ns := s.acc.fails.filter fun t => decide (s.now < t + 600000000000)

/-- A frame goes out on LF with its CRC, while the driver is on and TB3 runs (R74, R882, R903). -/
def State.lfSend (s : State) (bs : List Byte) : State :=
  if s.pwr.refPresent && s.flag Reg.ACC_CFG_LFEN then s.ac fun a => { a with lf := (bs ++ [crc8 bs]) :: a.lf, lfEnd := s.now + lfNs bs } else s

/-- An unknown serial has been heard (R886, R892). -/
def State.accUnknown (s : State) : State := (s.bump Reg.ACC_CNT2_UNKNOWN 0).accCount 4

/-- The enrolled, unrevoked slot of a serial. -/
def State.tokenSlot (s : State) (serial : Nat) : Option Nat :=
  (List.range 16).find? fun k => (s.nv.token k).state == 1 && (s.nv.token k).serial == serial

/-! ### Searches (R884 to R886) -/

/-- Length of a search slot. -/
def AccState.slotNs (a : AccState) : Ns := if a.uhf then 2500000 else 20000000

/-- SEARCH of round `r` goes out, and the slots follow its end. -/
def State.searchRound (s : State) (r : Nat) : State :=
  (s.lfSend [2, r]).ac fun a =>
    { a with phase := .rounds, round := r, slot := 0, slotEnd := s.now + 10240000 + a.slotNs, bad := false, collided := false }

/-- A search must not start (R884, R892). -/
def State.accBusy (s : State) : Bool := s.acc.phase != .idle || s.acc.lockEnd.isSome || s.dbgLevel == 2 || !s.firmware

/-- A search starts: `why` as byte 16 of ACC_WAKE gives it. -/
def State.searchStart (s : State) (why serial : Nat) : State :=
  let s := (s.accEvent 0x81 (atByte 16 why + atByte 20 serial)).accCount 0
  ((s.ac fun a => { a with uhf := why == 0, cands := [], queue := [] }).searchRound 0).accShow

/-! ### Sessions (R887 to R890) -/

/-- The token is challenged with a fresh RC. -/
def State.challenge (s : State) (token serial key : Nat) : State :=
  let (rc, s) := s.draw 8
  (s.lfSend (4 :: leBytes 4 serial ++ leBytes 8 rc)).ac fun a =>
    { a with phase := .response, token, serial, key, rc, opens := s.now + 34768000, closes := s.now + 92768000 }

/-- A waiting ACC_ENROL challenges its token in transponder mode with TK0 (R901). -/
def State.enrolStart (s : State) (e : Enrol) : State :=
  (s.ac fun a => { a with enrol := some e, uhf := false }).challenge e.slot e.serial e.key

/-- The present candidate's session is over: the next candidate, or a waiting ACC_ENROL, or nothing (R889). -/
def State.accNext (s : State) : State :=
  (match s.acc.queue with
   | k :: rest => (s.ac fun a => { a with queue := rest }).challenge k (s.nv.token k).serial (s.nv.token k).key
   | [] =>
     let s := s.ac fun a => { a with phase := .idle, enrol := none }
     match s.acc.enrols with
     | e :: rest => (s.ac fun a => { a with enrols := rest }).enrolStart e
     | [] => s).accShow

/-- The rounds have ended: the candidates in ascending slot order of the last round in which each was heard. -/
def State.roundsEnd (s : State) : State :=
  let order := sortBy (fun (x y : Nat × Nat) => decide (x.2 ≤ y.2)) s.acc.cands
  (s.ac fun a => { a with queue := order.map (·.1) }).accNext

/-- An ANSWER in the running slot (R886): a candidate is listed once, with the slot of the last round. -/
def State.answerHeard (s : State) (serial : Nat) : State :=
  match s.tokenSlot serial with
  | none => s.accUnknown
  | some k => s.ac fun a =>
    if a.cands.any fun x => x.1 == k then { a with cands := a.cands.map fun x => if x.1 = k then (k, a.slot) else x }
    else if a.cands.length < 4 then { a with cands := a.cands ++ [(k, a.slot)] } else a

def State.authResult (s : State) (r : Nat) : State :=
  s.accEvent 0x82 (atByte 16 r + atByte 17 s.acc.token + atByte 20 s.acc.serial)

/-! ### Failures and lock-out (R891 to R893) -/

/-- The failure history and the lock-out time left are stored. -/
def State.lockStore (s : State) : State :=
  let left := match s.acc.lockEnd with | some t => t - s.now | none => 0
  ({ s with nv := { s.nv with fails := s.recentFails, lockout := left } }).ac fun a => { a with storedAt := s.now }

/-- An ACC_ENROL that runs ends without its slot (R901). -/
def State.enrolFail (s : State) (sub : Nat) : State :=
  match s.acc.enrol with
  | some e => (s.ac fun a => { a with enrol := none }).complete e.cmd .faulted sub
  | none => s

/-- Lock-out begins; the search that runs ends with it (log entry 31). -/
def State.lockBegin (s : State) : State :=
  let m := s.rd Reg.ACC_CFG_LOCKT
  let es := s.acc.enrols
  let s := s.ac fun a => { a with phase := .idle, queue := [], enrols := [], lockEnd := some (s.now + m * 60000000000), lockMin := m }
  let s := es.foldl (fun s e => s.complete e.cmd .refusedState 0x2001) s
  (s.accCount 5).accEvent 0x84 (atByte 16 1 + atByte 18 m)

/-- A failed authentication. -/
def State.accFail (s : State) : State :=
  let s := (s.authResult 1).bump Reg.ACC_CNT2_FAILTOT 0
  let s := (s.accCount 2).ac fun a => { a with fails := s.recentFails ++ [s.now] }
  let s := if s.recentFails.length < 5 then s.accNext else s.lockBegin
  s.lockStore.accShow

/-! ### Authorisation (R890, R894 to R898) -/

/-- The release channel is held in NEED (R896). -/
def State.relNeed (s : State) : State :=
  let g := s.rd Reg.ACC_CFG_RELCH
  if s.nmSt g = 1 ∧ s.flag Reg.NM_STAT_FWDNEED g then s else s.forwardWake g

/-- RELKEYS. -/
def State.relKeyed (s : State) : Bool := s.nv.relKeys.isSome

/-- Authorisation begins, or goes on with a new HOLDER. -/
def State.authorise (s : State) (holder : Nat) : State :=
  let fresh := s.acc.authAt.isNone
  let s := (s.wr Reg.ACC_STAT_HOLDER 0 holder).ac fun a =>
    { a with authAt := some s.now, holder, withdraw := 0, relAt := if fresh && a.withdraw == 0 then s.now else a.relAt }
  let s := s.relNeed
  let s := if fresh then s.accEvent 0x83 (atByte 16 1 + atByte 18 (b2n s.relKeyed) + atByte 20 s.acc.ctr) else s
  s.accShow

/-- Authorisation ends for a reason of R897. -/
def State.authEnd (s : State) (reason : Nat) : State :=
  if s.acc.authAt.isNone then s
  else
    let n := if s.relKeyed && decide (reason < 5) then 2 else 0
    let s := s.ac fun a => { a with authAt := none, endedAt := some s.now, withdraw := n }
    let g := s.rd Reg.ACC_CFG_RELCH
    let s := s.modSeg g fun x => { x with fwdAt := max x.fwdAt (s.now + 1000000000) }
    (s.accEvent 0x83 (atByte 17 reason + atByte 18 (b2n s.relKeyed) + atByte 20 s.acc.ctr)).accShow

/-- Mutual authentication is complete (R888, R890); an enrolment goes on with KEY_WRITE (R901). -/
def State.authSuccess (s : State) : State :=
  match s.acc.enrol with
  | none =>
    let s := s.ac fun a => { a with phase := .session, queue := [], lastAt := s.now }
    let s := ((s.bump Reg.ACC_CNT_AUTHOK 0).accCount 1).authResult 0
    (s.authorise s.acc.token).accShow
  | some e =>
    let (k, s) := s.draw 16
    let ctr := 0x0A + Config.firstSealed % 65536 * 65536
    let sealed := leBytes 16 (Nat.xor k (Config.aes128 s.acc.ks ctr % 2 ^ 128))
    let mac := Config.aesCmac s.acc.ks (0x0A :: leBytes 4 e.serial ++ [0] ++ sealed)
    let f := 0x0A :: leBytes 4 e.serial ++ sealed ++ leBytes 8 mac
    ((s.lfSend f).ac fun a => { a with phase := .session, newKey := k, lastAt := s.now + lfNs f }).accShow

/-- KEY_ACK 00h: the slot, and COUNT as SEC_CTR, are committed (R852, R901). -/
def State.enrolCommit (s : State) (e : Enrol) : State :=
  let t : TokenRec := { state := 1, serial := e.serial, key := s.acc.newKey }
  let s := ({ s with nv := { s.nv with tokens := tput s.nv.tokens e.slot t } }).accept e.count
  let s := s.ac fun a => { a with enrol := none }
  (s.accEvent 0x87 (atByte 16 1 + atByte 17 e.slot + atByte 20 e.serial)).complete e.cmd .done

/-- A release message that has not passed its point of no return is in channel `n`'s queue or on its bus. -/
def State.relWaits (s : State) (n : Nat) (past : Bool) : Bool :=
  let x := s.can n
  x.queue.any (fun t => t.frm == .rel) || (!past && match x.bus with | some b => b.tx.frm == .rel | none => false)

/-- REL_LATE. -/
def State.relLate (s : State) (ctr spent : Nat) : State := (s.accCount 7).accEvent 0x86 (atByte 16 ctr + atByte 20 spent)

/-- An unsent release message is withdrawn (R896). -/
def State.relWithdraw (s : State) (n : Nat) (past : Bool) : State :=
  if !s.relWaits n past then s
  else
    let s := s.modCan n fun x =>
      { x with
        queue := x.queue.filter fun t => t.frm != .rel
        bus := match x.bus with | some b => if b.tx.frm == .rel && !past then none else x.bus | none => none }
    (s.showTxq n).relLate (s.acc.ctr - 1) 0

/-- The 20 bytes of a release message (R894). -/
def State.relBytes (s : State) (kenc kmac : Nat) : List Byte :=
  let a := s.acc
  let st := if a.authAt.isSome then 0x5A else 0xA5
  let ms := if s.pwr.timeSet then s.ntime / 1000000 % 2 ^ 48 else 0
  let p := st + 256 * a.holder + 65536 * ms
  let id := s.rd Reg.ACC_RELID_ID + s.rd Reg.ACC_RELID_IDE * 2 ^ 29
  let x := leBytes 8 (Nat.xor p (Config.aes128 kenc (s.nv.serial % 2 ^ 64 + a.ctr * 2 ^ 64) % 2 ^ 64))
  leBytes 4 a.ctr ++ x ++ leBytes 8 (Config.aesCmac kmac (leBytes 4 id ++ leBytes 4 a.ctr ++ x))

/-- A release message is formed with CTR and queued (R894 to R896). -/
def State.relForm (s : State) (kenc kmac n : Nat) : State :=
  let ctr := s.acc.ctr
  let s := if s.nv.relCtr ≤ ctr + 1 then { s with nv := { s.nv with relCtr := s.nv.relCtr + 4096 } } else s
  let id := s.rd Reg.ACC_RELID_ID + s.rd Reg.ACC_RELID_IDE * 2 ^ 29
  let f : Frame := { id, fmt := 1, data := s.relBytes kenc kmac }
  let ok := s.canTakes n 1
  let s := (s.ac fun a => { a with ctr := ctr + 1, withdraw := a.withdraw - (if a.authAt.isSome then 0 else 1) }).accCount 6
  if ok then s.canPush n { ord := 0, frm := .rel, body := .bus f } else s.relLate ctr 0

/-- After a reset of die C or a start, the access object resumes from what MRAM holds (R893, R895, R897). -/
def State.accRestart (s : State) : State :=
  let a : AccState :=
    { ctr := s.nv.relCtr, fails := s.nv.fails, lockMin := s.acc.lockMin
      lockEnd := if s.nv.lockout = 0 then none else some (s.now + s.nv.lockout), storedAt := s.now
      counts := s.acc.counts, changed := s.acc.changed, lf := s.acc.lf, holder := 0 }
  (({ s with acc := a }).wr Reg.ACC_STAT_HOLDER 0 0).accShow

end Sys2Proof.Machine
end

