-- ==== Sys2Proof/Machine/AccessRows.lean ====
section
/-!
DEFINITION. Sys2Proof/Machine/AccessRows.lean: the access object's commands and events (R881 to R905).
-/
namespace Sys2Proof.Machine

/-- The running slot of a round has begun, and not ended (R885). -/
def State.inSlot (s : State) : Bool := decide (s.acc.slotEnd ≤ s.now + s.acc.slotNs ∧ s.now ≤ s.acc.slotEnd)

/-- A token frame with a good CRC in the present phase. -/
def State.tokenFrame (s : State) (bs : List Byte) : State :=
  let a := s.acc
  let serial := recNum bs 1 4
  let mine := serial == a.serial
  let inWindow := decide (a.opens ≤ s.now ∧ s.now ≤ a.closes)
  match recNum bs 0 1, a.phase with
  | 3, .rounds => if bs.length = 6 ∧ s.inSlot then s.answerHeard serial else s
  | 5, .response =>
    if !mine || !inWindow || bs.length != 22 then s
    else
      let rt := recNum bs 5 8
      let v := Config.aes128 a.key (a.rc + rt * 2 ^ 64)
      if recNum bs 13 8 = v % 2 ^ 64 then
        let am := v / 2 ^ 64 % 2 ^ 64
        (s.lfSend (6 :: leBytes 4 serial ++ leBytes 8 am)).ac fun a =>
          { a with phase := .acknowledge, rt, ks := Config.aes128 a.key (rt + a.rc * 2 ^ 64) % 2 ^ 128, opens := s.now + 34768000, closes := s.now + 63768000 }
      else if a.enrol.isSome then (s.enrolFail 0x2004).accNext else s.accFail
  | 7, .acknowledge =>
    let v := recNum bs 5 1
    if !mine || !inWindow || bs.length != 7 || 1 < v then s
    else if v = 0 then s.authSuccess
    else if a.enrol.isSome then (s.enrolFail 0x2004).accNext else s.accFail
  | 9, .session => if mine then s.ac fun a => { a with lastAt := s.now } else s
  | 11, .session =>
    let v := recNum bs 5 1
    if !mine || bs.length != 7 || 1 < v then s
    else
      match a.enrol with
      | none => s.ac fun a => { a with lastAt := s.now }
      | some e => (if v = 0 then s.enrolCommit e else s.enrolFail 0x2005).ac fun a => { a with lastAt := s.now }
  | _, _ => s

/-- `TOKEN_FRAME_RECEIVED`: a frame ends, by UHF or by load modulation; `overlap`: the receiver flags overlapping transmissions (R881, R883 to R892). -/
def execTokenFrameReceived (dt : Nat) (uhf : Bool) (bs : List Byte) (overlap : Bool) (s : State) : Answered :=
  let s := s.tick dt
  .next (if !s.firmware || !s.pwr.refPresent || !s.flag (if uhf then Reg.ACC_CFG_TKEN else Reg.ACC_CFG_LFEN) then s
  else
    let good := tokenFrameOk bs
    let s := if s.acc.phase = .rounds ∧ s.inSlot ∧ (overlap ∨ !good) then s.ac fun a => { a with bad := true } else s
    if !good then s
    else if recNum bs 0 1 = 1 ∧ uhf ∧ bs.length = 7 then
      (if s.acc.lockEnd.isSome then s.accUnknown else if s.accBusy then s else s.searchStart 0 (recNum bs 1 4))
    else s.tokenFrame bs).done

/-- `ACC_SEARCH`: `pf` writes ACC_CTL.SEARCH; where no search may start, the write is clamped from 1 to 0 (R884). -/
def State.accSearch (s : State) (pf : Nat) : State :=
  if s.accBusy then
    s.clampBit 0x20 pf 0x0C 0 1 1 0
  else s.searchStart 1 0

/-- `SEARCH_SLOT_END`: the running slot of a round ends (R885, R886). -/
def execSearchSlotEnd (dt : Nat) (s : State) : Answered :=
  let s := s.tick dt
  .next (if s.acc.phase ≠ .rounds ∨ s.now < s.acc.slotEnd then s
  else
    let a := s.acc
    let s := if !a.bad then s
      else (((s.bump Reg.ACC_CNT_COLL 0).accCount 3).accEvent 0x85 (atByte 16 a.round + atByte 17 a.slot)).ac fun a => { a with collided := true, bad := false }
    if a.slot < 7 then s.ac fun a => { a with slot := a.slot + 1, slotEnd := a.slotEnd + a.slotNs }
    else if s.acc.collided ∧ a.round < 2 then s.searchRound (a.round + 1)
    else s.roundsEnd).done

/-- `RESPONSE_TIMEOUT`: the response window or the acknowledge window closes without its frame (R889); CONFIRM may start up to 1 ms late. -/
def execResponseTimeout (dt : Nat) (s : State) : Answered :=
  let s := s.tick dt
  let due := match s.acc.phase with
    | .response => decide (s.acc.closes ≤ s.now)
    | .acknowledge => decide (s.acc.closes ≤ s.now + 1000000)
    | _ => false
  .next (if !due then s
  else if s.acc.enrol.isSome then (s.enrolFail 0x2004).accNext
  else (s.authResult 2).accNext).done

/-- `SESSION_TIMEOUT`: 500 ms after its last frame, a completed session ends (R888); an enrolment without KEY_ACK has had no answer (R901). -/
def execSessionTimeout (dt : Nat) (s : State) : Answered :=
  let s := s.tick dt
  .next (if s.acc.phase = .session ∧ s.acc.lastAt + 500000000 ≤ s.now then (s.enrolFail 0x2004).accNext else s).done

/-- `RELEASE_MESSAGE`: every 100 ms of authorisation, and in the periods of the withdraw messages; `past`: the release message on the bus has passed
its point of no return (R894 to R898). -/
def execReleaseMessage (dt : Nat) (past : Bool) (s : State) : Answered :=
  let s := s.tick dt
  let a := s.acc
  .next (if !s.firmware || !(a.authAt.isSome || decide (0 < a.withdraw)) || decide (s.now + 1000000 < a.relAt) then s
  else
    match s.nv.relKeys with
    | none => s
    | some (kenc, kmac) =>
      let n := s.rd Reg.ACC_CFG_RELCH
      let s := s.ac fun a => { a with relAt := s.now + 100000000 }
      let s := if a.authAt.isSome then s.relNeed else s
      let s := s.relWithdraw n past
      if 0xFFFFF000 ≤ s.acc.ctr then
        (if s.acc.spent then s else (s.ac fun a => { a with spent := true }).relLate s.acc.ctr 1).ac fun a => { a with withdraw := 0 }
      else s.relForm kenc kmac n).done

/-- `AUTH_TIMEOUT`: AUTHT seconds after the last success (R897). -/
def execAuthTimeout (dt : Nat) (s : State) : Answered :=
  let s := s.tick dt
  let t := s.rd Reg.ACC_CFG_AUTHT
  .next (match s.acc.authAt with
    | some t0 => if t ≠ 0 ∧ t0 + t * 1000000000 ≤ s.now then s.authEnd 1 else s
    | none => s).done

/-- `ACC_LOCKOUT_END`: the lock-out ends, and the failure history is cleared (R892). -/
def execAccLockoutEnd (dt : Nat) (s : State) : Answered :=
  let s := s.tick dt
  .next (match s.acc.lockEnd with
    | some t =>
      if t ≤ s.now ∧ s.dieC then
        let s := (s.ac fun a => { a with lockEnd := none, fails := [] }).lockStore
        (s.accEvent 0x84 (atByte 18 s.acc.lockMin)).accShow
      else s
    | none => s).done

/-- `LOCKOUT_STORE`: each minute of lock-out (R893). -/
def execLockoutStore (dt : Nat) (s : State) : Answered :=
  let s := s.tick dt
  .next (if s.acc.lockEnd.isSome ∧ s.dieC ∧ s.acc.storedAt + 60000000000 ≤ s.now then s.lockStore else s).done

/-! ### Records of TYPE 0005h (R900 to R902) -/

/-- The lifecycle states that admit TYPE 0005h. -/
def State.tokenAdmits (s : State) : Bool := s.lifecycle == 1 || s.lifecycle == 3

/-- `ACC_ENROL`: `rcd` is the record, `sig` whether SIG verifies under its PUBKEY (R900, R901). -/
def execAccEnrol (dt : Nat) (c : Cmd) (rcd : List Byte) (sig : Bool) (s : State) : Answered :=
  .next (s.serveOp dt c 0x5020 [.access] fun s =>
    if s.acc.lockEnd.isSome then s.complete c .refusedState 0x2001
    else s.withRecord c fun s =>
      let serial := recNum rcd 20 4
      let slot := recNum rcd 24 1
      let shape := slot < 16 && recNum rcd 25 3 == 0 && recNum rcd 44 40 == 0
      let u : RecRule := { defined := fun t op => t == 5 && op == 1, admitted := s.tokenAdmits }
      let other := (List.range 16).any fun k => k != slot && (s.nv.token k).state == 1 && (s.nv.token k).serial == serial
      s.orElse c [s.recBar rcd sig u, barIf (!shape) .refusedPolicy 0x0409,
          barIf ((s.nv.token slot).state == 1 && (s.nv.token slot).serial != serial) .refusedPolicy 0x2002,
          barIf other .refusedPolicy 0x2003] fun s =>
        let e : Enrol := { cmd := c, serial, slot, key := recNum rcd 28 16, count := recNum rcd 12 4 }
        if s.acc.phase = .idle then ((s.begin c).enrolStart e).accShow
        else s.ac fun a => { a with enrols := a.enrols ++ [e] }).done

/-- An ACC_RECORD of operation `op` passes its checks. -/
def State.tokenRecord (s : State) (c : Cmd) (rcd : List Byte) (sig : Bool) (go : State → State) : State :=
  s.withRecord c fun s =>
    s.orElse c [s.recBar rcd sig { defined := fun t op => t == 5 && (op == 2 || op == 3), admitted := s.tokenAdmits }] fun s => go s

/-- `ACC_REVOKE`: ACC_RECORD with OP 02h (R902).  A record of OP 03h is the row ACC_INSTALL_KEYS. -/
def execAccRevoke (dt : Nat) (c : Cmd) (rcd : List Byte) (sig : Bool) (s : State) : Answered :=
  .next (if recNum rcd 17 1 = 3 then s.tick dt
  else s.serveOp dt c 0x5021 [.access] fun s => s.tokenRecord c rcd sig fun s =>
    let k := recNum rcd 24 1
    if 16 ≤ k ∨ recNum rcd 20 4 ≠ 0 ∨ recNum rcd 25 59 ≠ 0 then s.complete c .refusedPolicy 0x0409
    else
      let t := s.nv.token k
      let s := ({ s with nv := { s.nv with tokens := tput s.nv.tokens k { t with state := 2, key := 0 } } }).accept (recNum rcd 12 4)
      let s := s.accEvent 0x87 (atByte 16 2 + atByte 17 k + atByte 20 t.serial)
      let s := if s.acc.holder = k then s.authEnd 3 else s
      (s.begin c).complete c .done).done

/-- `ACC_INSTALL_KEYS`: ACC_RECORD with OP 03h; `tag`: the GCM tag verifies (R895, R900). -/
def execAccInstallKeys (dt : Nat) (c : Cmd) (rcd : List Byte) (sig tag : Bool) (s : State) : Answered :=
  .next (if recNum rcd 17 1 ≠ 3 then s.tick dt
  else s.serveOp dt c 0x5021 [.access] fun s => s.tokenRecord c rcd sig fun s =>
    if recNum rcd 20 8 ≠ 0 ∨ recNum rcd 76 8 ≠ 0 ∨ !tag then s.complete c .refusedPolicy 0x0409
    else
      let keys := Config.transportPlain (recBytes rcd 4 12) (recBytes rcd 0 20) (recBytes rcd 28 32)
      let s := { s with nv := { s.nv with relKeys := some (keys % 2 ^ 128, keys / 2 ^ 128 % 2 ^ 128), relCtr := 0 } }
      let s := (s.accept (recNum rcd 12 4)).ac fun a => { a with ctr := 0, spent := false, relAt := max a.relAt s.now }
      let s := (s.wr Reg.ACC_STAT_RELKEYS 0 1).accEvent 0x87 (atByte 16 3)
      (s.begin c).complete c .done).done

end Sys2Proof.Machine
end

