-- ==== Sys2Proof/Machine/Limp.lean ====
section
/-!
DEFINITION. Sys2Proof/Machine/Limp.lean: the heartbeat, the reset notice, holds, and debug policies (R249 to R276).
-/
namespace Sys2Proof.Machine

def State.outs (s : State) (f : OutState → OutState) : State := { s with out := f s.out }

/-- The heartbeat is present at the power dies (R259). -/
def State.hbPresent (s : State) : Bool :=
  !s.out.notice && s.out.hbSeen && decide (s.out.noticeAt ≤ s.out.hbAt) && decide (s.now ≤ s.out.hbAt + 2000000)

/-- The power dies that have their logic supply, as a bit mask. -/
def State.diesUp (s : State) : Nat := maskOf (fun k => s.pwr.dieUp.getD k false) 3

/-- The object of a record has a power die with its logic supply. -/
def State.recUp (s : State) (r : Nat) : Bool := s.supplied (recObj r)

/-- Holds that run. -/
def State.holding (s : State) : List Nat := recOrder.filter fun r => s.flag Reg.LH_LHR1_INHOLD r

/-- The object is in a state other than OFF or LATCHED. -/
def State.active (s : State) (o : Nat) : Bool := s.st o != 0 && !s.latched o

/-- The reset notice is asserted in Run: every object is held (R263, R273, R281). -/
def State.holdBegin (s : State) : State :=
  if s.out.notice || s.diesUp == 0 then s
  else
    let rs := recOrder.filter s.recUp
    let busy := (rs.filter fun r => s.active (recObj r)).length
    let s := s.outs fun x => { x with held := rs.length, released := 0, orphaned := 0 }
    let s := rs.foldl (fun s r => (s.wr Reg.LH_LHR1_INHOLD r 1).modLimp r fun l => { l with holdEnd := s.now + s.holdw r }) s
    (s.bump Reg.HOLD_STAT_HOLDCNT 0).raise 0x088C 0xFFFF (atByte 16 rs.length + atByte 18 busy)

/-- The notice is asserted (R250): heartbeats no longer count. -/
def State.noticeOn (s : State) : State := s.outs fun x => { x with notice := true, hbSeen := false, hbReady := false }

/-- The notice is released. -/
def State.noticeOff (s : State) : State := s.outs fun x => { x with notice := false, noticeAt := s.now, hbSeen := false }

/-- The last hold of the reset has ended (R281). -/
def State.holdDone (s : State) : State :=
  if s.holding.isEmpty then s.raise 0x088D 0xFFFF (atByte 16 s.out.released + atByte 18 s.out.orphaned) else s

/-- A heartbeat with READY = 1 ends the hold of record `r` (R265); a limp-home that did not move the object moves it now (R264). -/
def State.holdRelease (s : State) (r : Nat) : State :=
  let s := (s.wr Reg.LH_LHR1_INHOLD r 0).outs fun x => { x with released := x.released + 1 }
  if s.flag Reg.LIMP_STAT_ACTIVE ∧ s.limpMoves 1 r then s.limpApply r else s

/-- The hold window of record `r` runs out (R266, R267). -/
def State.holdExpire (s : State) (r : Nat) : State :=
  let s := (s.wr Reg.LH_LHR1_INHOLD r 0).outs fun x => { x with orphaned := x.orphaned + 1 }
  let s := if s.flag Reg.LIMP_STAT_ACTIVE ∧ s.limpMoves 1 r then s.limpApply r else s
  (s.orphan r).holdDone

/-- The Shawm pair's heartbeat carries READY = 1: boot has restored control, and the module is not in RECOVERY (R249, R858, R915). -/
def State.ready1 (s : State) : Bool :=
  (match s.pwr.phase with | .run | .entering _ => true | _ => false) && !s.pwr.recovery

/-- LIMP_N has been released and the heartbeat is present: limp-home through LIMP_N ends (R259). -/
def State.limpNOut (s : State) : State :=
  if !s.flag Reg.LIMP_STAT_LIMPN && bit (s.rd Reg.LIMP_STAT_CAUSE) 0 && s.hbPresent then s.limpExit 1 else s

/-- A heartbeat reaches the power dies (R249, R265); `bit0` is READY as the Shawm pair's program gives it (R772). -/
def State.heartbeat (s : State) (bit0 : Bool) : State :=
  if s.out.notice || !s.dieCOut || decide (s.now < s.out.noticeAt + 2000000) then s
  else
    let ready := bit0 && s.ready1
    let s := s.outs fun x => { x with hbAt := s.now, hbSeen := true, hbReady := ready }
    let rs := s.holding
    let s := if !ready || rs.isEmpty then s else (rs.foldl State.holdRelease s).holdDone
    s.limpNOut


/-- LIMP_CTL.RELEASE written by `pf` (R259, R261). -/
def State.limpRelease (s : State) (pf : Nat) : State :=
  if pf == 0 && bit (s.rd Reg.LIMP_STAT_CAUSE) 1 && s.hbPresent && s.out.hbReady && !s.flag Reg.LIMP_STAT_LIMPN then
    (s.wr Reg.LIMP_STAT_HBLOSS 0 0).limpExit 2
  else s.clampBit 0x08 pf 0x0D04 0 1 1 0

/-! ### Debug policies (R272) -/

/-- The object of record `r` applies DBGPOL of the record that rules (R201); under every policy but the first, commands to it, those that wait included, are
refused until lockstep is back. -/
def State.debugPolicy (s : State) (r : Nat) : State :=
  let p := s.rd Reg.LH_LHR0_DBGPOL (s.ruleRec r)
  if p = 0 then s
  else
    let s := (s.dropCmds (recObj r) 7).modLimp r fun l => { l with dbgHeld := true }
    if !s.recActs r || s.flag Reg.LIMP_STAT_ACTIVE || p == 1 then s
    else if p = 2 then (if isKind .hb (recObj r) then s.hbStopMode (objNum (recObj r)) else s.takeState r .off false)
    else s.takeState r (s.limpState r) (s.flag Reg.LH_LHR0_EXEMPT r)

/-- Lockstep is lost for invasive debug: the objects of PF0 apply their policies. -/
def State.debugPolicies (s : State) : State :=
  (recOrder.foldl (fun s r => if s.owner (recObj r) = 0 then s.debugPolicy r else s) s).ioOffOf 0

/-- Lockstep is back. -/
def State.debugOver (s : State) : State :=
  s.outs fun x => { x with limps := x.limps.map fun p => (p.1, { p.2 with dbgHeld := false }) }

end Sys2Proof.Machine
end

