-- ==== Sys2Proof/Machine/Release.lean ====
section
/-!
DEFINITION. Sys2Proof/Machine/Release.lean: the release of a frozen function (R132, R133, R800 to R803).
-/
namespace Sys2Proof.Machine

/-- What a freeze held back goes to the rings, oldest first. -/
def HostState.emitHeld (ok : Nat → Nat → Nat → Bool) (now : Ns) (pf : Nat) (h : HostState) (x : Held) : HostState :=
  match x with
  | .completion k c => h.putCompletion ok now pf k c
  | .event e => h.putEvent ok now pf e
  | .msix v => h.signal pf v

/-- The release: what waited for the link, held completions and events, then MASTER_FROZEN for the commands that had not begun (R131, R132, R803). -/
def State.unfreeze (s : State) (pf reason : Nat) : State :=
  let f := s.fn pf
  let s := s.setFn pf { f with frozen := false, held := [] }
  let s := { s with host := s.host.sendWaiting }
  let s := { s with host := f.held.foldl (HostState.emitHeld s.dmaOk s.now pf) s.host, flt := { s.flt with lastrsn := reason } }
  let left := s.host.inflight.filter fun r => r.cmd.pf == pf && r.cmd.src == .host && !r.begun
  let s := left.foldl (fun s r => s.complete r.cmd .masterFrozen) s
  s.raise 0x0185 0xFFFF (atByte 16 pf + atByte 18 reason)

end Sys2Proof.Machine
end

