-- ==== Sys2Proof/Machine/Fife.lean ====
section
/-!
DEFINITION. Sys2Proof/Machine/Fife.lean: the Fife instruction set: moves, sockets, units, channel triggers (R745 to R766, R772).
-/
namespace Sys2Proof.Machine

/-! ### The cores

Cores 0 to 3 are the logical cores C0 to C3; 8 is the Shawm pair, or copy A while it is split; 9 is copy B while it is split. -/

def State.coreK (s : State) (k : Nat) : Core := if k = 8 then s.core.shawm else if k = 9 then s.core.copyB else tget {} s.core.cores k

def State.setCore (s : State) (k : Nat) (c : Core) : State :=
  { s with core :=
    if k = 8 then { s.core with shawm := c } else if k = 9 then { s.core with copyB := c } else { s.core with cores := tput s.core.cores k c } }

def State.modCore (s : State) (k : Nat) (f : Core → Core) : State := s.setCore k (f (s.coreK k))

def Core.sk (c : Core) (a : Nat) : Nat := tget 0 c.sock a
def Core.put (c : Core) (a v : Nat) : Core := { c with sock := tput c.sock a v }

/-- A word as a signed number. -/
def wInt (v : Nat) : Int := sgn 16 v

/-! ### Moves (R747 to R749) -/

def mvGsel (m : Nat) : Nat := bits m 29 3
def mvDst (m : Nat) : Nat := bits m 15 12
def mvImm (m : Nat) : Bool := bit m 27
def mvSrc (m : Nat) : Nat := bits m 0 12

/-- GSEL 000b with GINV 1. -/
def mvEmpty (m : Nat) : Bool := mvGsel m == 0 && bit m 28

/-- The move is performed (R749). -/
def Core.performs (c : Core) (m : Nat) : Bool := (mvGsel m == 0 || bit c.g (mvGsel m)) != bit m 28

/-- The immediate, sign-extended to 16 bits. -/
def mvValue (m : Nat) : Nat := unsgn 16 (sgn 15 (bits m 0 15))

/-! ### Sockets (R754, R755, R758, R772) -/

inductive SockKind where
  | reg | opd | res | link
  /-- a trigger of a unit -/
  | trig (unit : Nat)
  deriving DecidableEq, Repr

/-- Kind of a channel socket; none where its object does not have the operation. -/
def State.chanKind (s : State) (sk : Nat) : Option SockKind :=
  let o := (sk - 0x400) / 4
  let op := sk % 4
  match objKind o with
  | some (k, _) =>
    let t : Option SockKind := if op = 3 then some .res else some (.trig (100 + o))
    if k == .sw || k == .ii then (if op = 3 then some .res else none)
    else if k == .hb then (if s.leadOf o = o then t else none)
    else if k == .bst || k == .io then (if op = 2 then none else t)
    else if isOutput o then t
    else none
  | none => none

/-- Kind of a socket on core `k`; none for a reserved socket, and for the sockets that the core may not name (R752, R779). -/
def State.sockKind (s : State) (k sk : Nat) : Option SockKind :=
  if sk < 0x40 then some .reg
  else if 0x400 ≤ sk ∧ sk < 0x960 then (if k = 9 then none else s.chanKind sk)
  else if 0x200 ≤ sk ∧ sk ≤ 0x20F then
    (if k < 8 ∨ (k = 9 ∧ sk ≠ 0x206 ∧ sk ≠ 0x20F) then none
     else if sk = 0x202 then some .opd
     else if sk ≤ 0x206 then some (.trig 12)
     else if 0x20D ≤ sk then some .res else none)
  else if 0x140 < sk ∧ sk < 0x178 then (if sk % 8 = 0 then none else some (.trig 5))
  else if [0x100, 0x110, 0x120, 0x130, 0x140, 0x180, 0x1B0, 0x1B2, 0x1C0].contains sk then some .opd
  else if 0x101 ≤ sk ∧ sk ≤ 0x109 then some (.trig 1)
  else if 0x111 ≤ sk ∧ sk ≤ 0x112 then some (.trig 2)
  else if 0x121 ≤ sk ∧ sk ≤ 0x124 then some (.trig 3)
  else if sk = 0x131 then some (.trig 4)
  else if 0x181 ≤ sk ∧ sk ≤ 0x182 then some (.trig 6)
  else if 0x190 ≤ sk ∧ sk ≤ 0x193 then some (.trig 7)
  else if sk = 0x19F then some .link
  else if 0x1A0 ≤ sk ∧ sk ≤ 0x1A1 then some (.trig 8)
  else if [0x1B1, 0x1B3, 0x1B4].contains sk then some (.trig 9)
  else if 0x1C1 ≤ sk ∧ sk ≤ 0x1C3 then some (.trig 10)
  else if sk = 0x1E0 then some (.trig 11)
  else if [0x10E, 0x10F, 0x11E, 0x11F, 0x12F, 0x13E, 0x13F, 0x18F, 0x1AD, 0x1AE, 0x1AF, 0x1BE, 0x1BF, 0x1CD, 0x1CE, 0x1CF, 0x1DE, 0x1DF, 0x1E1].contains sk
    then some .res
  else none

/-- May be a source, may be a destination. -/
def SockKind.reads : SockKind → Bool | .reg => true | .res => true | .link => true | _ => false
def SockKind.writes : SockKind → Bool | .res => false | _ => true
def SockKind.unit : SockKind → Nat | .trig u => u | _ => 0

/-- One move by itself is legal. -/
def State.mvLegal (s : State) (k m : Nat) : Bool :=
  if mvEmpty m then m == 0x10000000
  else
    (match s.sockKind k (mvDst m) with | some d => d.writes | none => false)
    && (mvImm m || (bits m 12 3 == 0 && match s.sockKind k (mvSrc m) with | some d => d.reads | none => false))

/-- The two moves name different destinations and units (R752). -/
def State.pairLegal (s : State) (k a b : Nat) : Bool :=
  mvEmpty a || mvEmpty b
  || (mvDst a != mvDst b
      && match s.sockKind k (mvDst a), s.sockKind k (mvDst b) with | some (.trig u), some (.trig v) => u != v | _, _ => true)

/-- The socket at which an illegal bundle shows its fault; none for a legal bundle (R752, log entry 34). -/
def State.illegal (s : State) (k a b : Nat) : Option Nat :=
  if !s.mvLegal k a then some (mvDst a)
  else if !s.mvLegal k b || !s.pairLegal k a b then some (mvDst b)
  else none

/-! ### Reading a source -/

/-- STAT of a channel socket (R758). -/
def State.chanStat (s : State) (o : Nat) : Nat :=
  match objKind o with
  | some (.sw, n) => s.rd Reg.SW_STAT_LEVEL n + 2 * s.rd Reg.SW_STAT_VALID n
  | some (.ii, n) => s.rd Reg.II_STAT_LEVEL n + 2 * s.rd Reg.II_STAT_VALID n
  | some (k, _) =>
    s.st o + 16 * (match verdField k with | some f => s.rd f (ix o) | none => 0) + 256 * s.rd (faultField k) (ix o)
  | none => 0

/-- A source socket's value on core `k`. -/
def State.sockRead (s : State) (k sk : Nat) : Nat :=
  let c := s.coreK k
  if sk < 0x40 then tget 0 c.x sk
  else if 0x400 ≤ sk then s.chanStat ((sk - 0x400) / 4)
  else match sk with
    | 0x1AD => s.now / 1000000 % 65536
    | 0x1AF => s.now / 1000 % 65536
    | 0x1BE => c.sk 0x1B1 / 65536
    | 0x1BF => c.sk 0x1B1 % 65536
    | 0x1CD => b2n c.sent
    | 0x1CE => c.mbx.length
    | 0x1E1 => c.g / 2 * 2 + 1
    | 0x20F => b2n (k == 9)
    | _ => c.sk sk

/-- The value that a performed move carries, and the latch of TMR.NOWH (R762). -/
def State.mvTake (s : State) (k m : Nat) : Nat := if mvImm m then mvValue m else s.sockRead k (mvSrc m)

def Core.latchNow (c : Core) (now m : Nat) : Core :=
  if !mvImm m && mvSrc m == 0x1AF then c.put 0x1AE (now / 1000 / 65536 % 65536) else c

/-! ### Units -/

/-- The ALU (R754): result, carry or borrow, saturated. -/
def alu (op a t : Nat) : Nat × Bool × Bool :=
  let add := a + t
  let sub := a + 65536 - t
  let satS := fun (x : Int) => if x > 32767 then (32767, true) else if x < -32768 then (32768, true) else (unsgn 16 x, false)
  match op with
  | 1 => (add % 65536, decide (65536 ≤ add), false)
  | 2 => (sub % 65536, decide (a < t), false)
  | 3 => let r := satS (wInt a + wInt t); (r.1, decide (65536 ≤ add), r.2)
  | 4 => let r := satS (wInt a - wInt t); (r.1, decide (a < t), r.2)
  | 5 => (Nat.land a t, Config.logicCarry 5 a t, false)
  | 6 => (Nat.lor a t, Config.logicCarry 6 a t, false)
  | 7 => (Nat.xor a t, Config.logicCarry 7 a t, false)
  | 8 => (min add 65535, decide (65536 ≤ add), decide (65536 ≤ add))
  | _ => (a - t, decide (a < t), decide (a < t))

/-- The shifter. -/
def shifter (op a n : Nat) : Nat :=
  match op with
  | 1 => a * 2 ^ n % 65536
  | 2 => a / 2 ^ n
  | 3 => unsgn 16 (wInt a / (2 ^ n : Nat))
  | _ => (a * 2 ^ n + a * 2 ^ n / 65536) % 65536

/-- The compare conditions (R755). -/
def compares (c a t : Nat) : Bool :=
  match c with
  | 0 => a == t | 1 => a != t | 2 => decide (wInt a < wInt t) | 3 => decide (wInt a ≤ wInt t)
  | 4 => decide (a < t) | 5 => decide (a ≤ t) | _ => Nat.land a t != 0

/-- Width and polynomial of the CRC that CRC.SEL selects (R763). -/
def crcPoly : Nat → Nat × Nat | 0 => (16, 0x1021) | 1 => (32, 0x1EDC6F41) | _ => (8, 0x1D)

/-- The CRC register after the `n` lowest bits of `v`, highest first. -/
def crcFeed (w p : Nat) : Nat → Nat → Nat → Nat
  | 0, _, r => r
  | n + 1, v, r =>
    let fb := bit r (w - 1) != bit v n
    let r' := 2 * r % 2 ^ w
    crcFeed w p n v (if fb then Nat.xor r' p else r')

/-- The bundle's faults of R756 and R763 on the latches as the bundle leaves them: cause and FADDR. -/
def Core.fault (c : Core) (sk v : Nat) : Option (Nat × Nat) :=
  match sk with
  | 0x181 => if 0x8000 ≤ c.sk 0x180 then some (2, c.sk 0x180) else none
  | 0x182 => if 0x8000 ≤ v then some (2, v) else none
  | 0x190 => if 0x3FFF < v then some (3, sk) else none
  | 0x191 => if 0x3FFF < (c.pc + v) % 65536 then some (3, sk) else none
  | 0x192 => if 0x3FFF < v then some (3, sk) else none
  | 0x193 => if 0x3FFF < c.sk 0x19F then some (3, sk) else none
  | 0x1B0 => if 2 < v then some (5, sk) else none
  | _ => none

/-- A register, an operand latch or BR.LINK takes a value; K.HI latches bits 14:0. -/
def Core.write (c : Core) (sk v : Nat) : Core :=
  if sk < 0x40 then { c with x := tput c.x sk v } else c.put sk (if sk = 0x130 then v % 32768 else v)

/-- The units whose triggers act on the core alone. -/
def Core.fire (c : Core) (sk v : Nat) : Core :=
  if 0x101 ≤ sk ∧ sk ≤ 0x109 then
    let r := alu (sk - 0x100) (c.sk 0x100) v
    (c.put 0x10F r.1).put 0x10E (b2n r.2.1 + 2 * b2n r.2.2)
  else if sk = 0x111 then let p := c.sk 0x110 * v; (c.put 0x11E (p / 65536)).put 0x11F (p % 65536)
  else if sk = 0x112 then let p := unsgn 32 (wInt (c.sk 0x110) * wInt v); (c.put 0x11E (p / 65536)).put 0x11F (p % 65536)
  else if 0x121 ≤ sk ∧ sk ≤ 0x124 then c.put 0x12F (shifter (sk - 0x120) (c.sk 0x120) (v % 16))
  else if sk = 0x131 then let p := c.sk 0x130 * 32768 + v % 32768; (c.put 0x13E (p / 65536)).put 0x13F (p % 65536)
  else if 0x140 < sk ∧ sk < 0x178 then
    let g := sk % 8
    { c with g := if compares ((sk - 0x140) / 8) (c.sk 0x140) v then setBit c.g g else clrBit c.g g }
  else match sk with
    | 0x181 => { c with dmem := memPut c.dmem (c.sk 0x180) v }
    | 0x182 => c.put 0x18F (tget 0 c.dmem v)
    | 0x190 => { c with next := v }
    | 0x191 => { c with next := (c.pc + v) % 65536 }
    | 0x192 => { c.put 0x19F ((c.pc + 1) % 0x4000) with next := v }
    | 0x193 => { c with next := c.sk 0x19F }
    | 0x1B1 => c.put 0x1B1 ((c.sk 0x1B2 * 65536 + v) % 2 ^ (crcPoly (c.sk 0x1B0)).1)
    | 0x1B3 => let p := crcPoly (c.sk 0x1B0); c.put 0x1B1 (crcFeed p.1 p.2 16 v (c.sk 0x1B1))
    | 0x1B4 => let p := crcPoly (c.sk 0x1B0); c.put 0x1B1 (crcFeed p.1 p.2 8 v (c.sk 0x1B1))
    | 0x1E0 => { c with g := v / 2 % 128 * 2 }
    | _ => c

/-! ### Waiting and mailboxes (R762 to R765) -/

/-- A deadline has passed: (t − deadline) mod 65,536 < 32,768. -/
def passed (t deadline : Nat) : Bool := decide ((t + 65536 - deadline % 65536) % 65536 < 32768)

def State.waitOver (s : State) : Hold → Bool
  | .wait t => passed (s.now / 1000 % 65536) t
  | .waitMs t => passed (s.now / 1000000 % 65536) t
  | _ => false

/-- A host message goes to the event ring of function `pf` (R765). -/
def State.fifeMsg (s : State) (k pf : Nat) (ws : List Nat) : State :=
  let body := ofLe (ws.flatMap fun w => leBytes 2 w)
  s.raiseTo 0x1E90 0xFFFF (atByte 16 (min k 8) + atByte 17 ws.length + atByte 18 body) false [pf]

/-- MBX.SEND and MBX.EOM.  A destination that R764 does not name takes no word (log entry 35). -/
def State.mbxSend (s : State) (k v : Nat) (eom : Bool) : State :=
  let d := (s.coreK k).sk 0x1C0
  if 0x10 ≤ d ∧ d ≤ 0x13 then
    let m := (s.coreK k).msg
    let s := if m.length = 7 then s.fifeMsg k (d - 0x10) m else s
    let m := if m.length = 7 then [v] else m ++ [v]
    let s := s.modCore k fun c => { c with sent := true, msg := if eom then [] else m }
    if eom then s.fifeMsg k (d - 0x10) m else s
  else if (d < 4 ∨ d = 8) ∧ (s.coreK d).mbx.length < 64 then
    (s.modCore d fun c => { c with mbx := c.mbx ++ [v] }).modCore k fun c => { c with sent := true }
  else s.modCore k fun c => { c with sent := false }

/-- MBX.RX takes the oldest word, or holds its bundle. -/
def State.mbxTake (s : State) (k : Nat) : State :=
  s.modCore k fun c => match c.mbx with
    | w :: rest => { c.put 0x1CF w with mbx := rest }
    | [] => { c with holds := c.holds ++ [.rx] }

/-! ### Channel triggers (R758 to R761) -/

/-- Opcode and PARAM of a channel trigger. -/
def chanOp (o op t : Nat) : Nat × Nat :=
  match objKind o, op with
  | _, 0 => (0x2001, 0)
  | some (.hb, _), 1 => (0x2002, t * 2 ^ 16)
  | some (.hb, _), _ => (0x2002, 1 + t * 2 ^ 16)
  | some (.ld, _), 1 => (0x2002, t)
  | some (.ld, _), _ => (0x2003, t)
  | some (.mx, _), 1 => (0x2002, t % 256)
  | some (.mx, _), _ => (0x2003, t % 256)
  | some (.hs, _), 1 => (0x2002, t % 2)
  | some (.ls, _), 1 => (0x2002, t % 2)
  | some (.hs, _), _ => (0x2003, t)
  | some (.ls, _), _ => (0x2003, t)
  | some (.sv, _), 2 => (0x2003, t)
  | _, _ => (0x2002, 0)

/-- Runs the command of a channel trigger; `vd` is the drain voltage of an LS channel before the gate drive (R946). -/
def State.chanRun (s : State) (vd : Nat) (c : Cmd) : State :=
  let s := s.modFlight c fun r => if r.begun || r.deferred then r else { r with started := false }
  Answered.state s <| match objKind c.object, c.op with
  | some (.hb, _), 0x2001 => execHbOff 0 c s
  | some (.hb, _), _ => execHbDrive 0 c s
  | some (.ld, _), 0x2001 => execLedOff 0 c s
  | some (.ld, _), 0x2002 => execLedOn 0 c s
  | some (.ld, _), _ => execLedDim 0 c s
  | some (.mx, _), 0x2001 => execMxOff 0 c s
  | some (.mx, _), 0x2002 => execMxOn 0 c s
  | some (.mx, _), _ => execMxBright 0 c s
  | some (.sv, _), 0x2001 => execSvOff 0 c s
  | some (.sv, _), 0x2002 => execSvOn 0 c s
  | some (.sv, _), _ => execSvHold 0 c s
  | some (.bst, _), 0x2001 => execBstOff 0 c s
  | some (.bst, _), _ => execBstOn 0 c s
  | some (.io, _), 0x2001 => execIoOutOff 0 c s
  | some (.io, _), _ => execIoOutOn 0 c s
  | _, 0x2001 => execOutOff 0 c s
  | _, 0x2002 => execOutOn 0 c vd s
  | _, _ => execOutPwm 0 c vd s

/-- Function and priority class of a core's channel triggers (R759, R772). -/
def State.corePf (s : State) (k : Nat) : Nat := if 8 ≤ k then 0 else s.rd Reg.FIFE_CCFG_PF k
def State.corePrio (s : State) (k : Nat) : Nat := if 8 ≤ k then 0 else s.rd Reg.FIFE_CCFG_PRIO k

/-- CHK.CODE and CHK.SUB. -/
def Core.check (c : Core) (code sub : Nat) : Core := (c.put 0x1DF code).put 0x1DE sub

/-- A channel trigger: answered at once on a frozen function and on a Shadow's paired object, else in flight until CHANNEL_TRIGGER_ANSWER. -/
def State.chanFire (s : State) (k sk t vd : Nat) : State :=
  let o := (sk - 0x400) / 4
  let (op, param) := chanOp o (sk % 4) t
  let pf := s.corePf k
  if (s.fn pf).frozen then s.modCore k fun c => c.check 0x50 0
  else if s.rd Reg.TW_STAT_ROLE = 2 ∧ s.pairedObj o then s.modCore k fun c => c.check 0x23 0x1D06
  else
    let n := s.core.issued
    let s := { s with core := { s.core with issued := n + 1 } }
    let c : Cmd := { pf, ring := 0, slot := n, src := .core k, op, flags := s.corePrio k, tag := n, object := o, seq := 0, maxlat := 0, param }
    (s.modCore k fun x => { x with holds := x.holds ++ [.chan [c]] }).chanRun vd c

/-! ### Stopping (R766) -/

/-- A logical core stops with a fault: CORE_FAULT is a fault of block 1Eh (R788). -/
def State.coreFault (s : State) (k cause faddr : Nat) : State :=
  if 4 ≤ k then
    let s := s.modCore k fun c => { c with stopped := true, holds := [] }
    if k = 9 then { s with core := { s.core with runB := false } } else s
  else
    let s := ((s.wr Reg.FIFE_STAT_STATE k 3).wr Reg.FIFE_STAT_CAUSE k cause).wr Reg.FIFE_FLT_FADDR k faddr
    let s := s.modCore k fun c => { c with holds := [] }
    s.raiseFault 0x1E81 0xFFFF (atByte 16 k + atByte 17 cause + atByte 18 (s.coreK k).pc + atByte 20 faddr)

/-- The core may issue a bundle now. -/
def State.coreRuns (s : State) (k : Nat) : Bool :=
  s.firmware && (s.coreK k).holds.isEmpty && !(s.coreK k).stopped
  && (if k < 4 then s.rd Reg.FIFE_STAT_STATE k == 1
      else if k = 8 then s.rd Reg.SHW_STAT_MODE != 2
      else k == 9 && s.rd Reg.SHW_STAT_MODE == 1 && s.core.runB)

/-- The present bundle is complete: the next one is issued, and FIFE_CNT rises. -/
def State.coreAdvance (s : State) (k : Nat) : State :=
  let s := s.modCore k fun c => { c with pc := c.next, holds := [] }
  if k < 4 then
    let s := (s.bump Reg.FIFE_CNT k).wr Reg.FIFE_STAT_PC k (s.coreK k).pc
    s.wr Reg.FIFE_STAT_STATE k (if s.flag Reg.FIFE_CTL_RUN k then 1 else 0)
  else if k = 8 then s.wr Reg.SHW_STAT_PC 0 (s.coreK 8).pc
  else s

/-- The bundle is held, or it is complete. -/
def State.coreEnd (s : State) (k : Nat) : State :=
  if (s.coreK k).holds.isEmpty then s.coreAdvance k
  else if k < 4 then s.wr Reg.FIFE_STAT_STATE k 2 else s

/-- Handshakes of a bundle: one for its issue, and those of its units (R757). -/
def handshakes (sk : Nat) : Nat :=
  if sk = 0x111 ∨ sk = 0x112 then 3
  else if sk = 0x182 ∨ sk = 0x1B3 ∨ sk = 0x1B4 ∨ (0x190 ≤ sk ∧ sk ≤ 0x193) then 2
  else if sk = 0x1C1 ∨ sk = 0x1C2 then 4 else 1

/-- An armed fault injection meets the bundle's comparisons (R777): kind 1 a register-file write, 2 a value on the move bus, 3 a memory write. -/
def State.injected (s : State) (dsts : List Nat) : State :=
  match s.core.inj with
  | none => s
  | some (kind, left) =>
    let hit := match kind with
      | 1 => dsts.any fun d => decide (d < 0x40)
      | 2 => !dsts.isEmpty
      | _ => dsts.any fun d => d == 0x181
    let used := 1 + (dsts.map handshakes).foldl (· + ·) 0
    if hit then
      let s := s.modCore 8 fun c => c.put 0x20D (setBit (c.sk 0x20D) (kind - 1))
      { s with core := { s.core with inj := none } }
    else { s with core := { s.core with inj := if left ≤ used then none else some (kind, left - used) } }

/-- SHW.SPLIT (R778). -/
def State.shwSplit (s : State) (t : Nat) : State :=
  let res :=
    if s.flag Reg.TW_CFG_EN then 1 else if s.flag Reg.LIMP_STAT_ACTIVE then 2
    else match s.rd Reg.SHW_STAT_MODE with | 2 => 3 | 1 => 4 | _ => 0
  let s := s.modCore 8 fun c => c.put 0x20E res
  if res ≠ 0 then s
  else
    let b := s.core.shawm
    let s := { s with core := { s.core with
      copyB := { b with pc := t % 0x4000, next := t % 0x4000, holds := [], mbx := [], msg := [] }, runB := true, splitAt := s.now, forced := false, inj := none } }
    (((s.wr Reg.SHW_STAT_MODE 0 1).bump Reg.SHW_CNT_SPLITS 0)).raise 0x1F83 0xFFFF (atByte 16 1)

/-- SHW.JOIN: copy A waits for the join, copy B stops (R780); in lockstep there is nothing to join. -/
def State.shwJoin (s : State) (k : Nat) : State :=
  if s.rd Reg.SHW_STAT_MODE ≠ 1 then s.modCore k fun c => c.put 0x20E (if s.rd Reg.SHW_STAT_MODE = 2 then 3 else 0)
  else
    let s := s.modCore k fun c => { c with holds := c.holds ++ [.join] }
    if k = 9 then { s with core := { s.core with runB := false } } else s

/-- SHW.RLS (R802). -/
def State.shwRls (s : State) (reason : Nat) : State :=
  let pf := (s.coreK 8).sk 0x202
  let res := if pf < 4 && (s.fn pf).frozen then (if reason = 0 then 5 else 0) else 4
  let s := s.modCore 8 fun c => c.put 0x20E res
  if res = 0 then s.unfreeze pf reason else s

/-- A trigger fires on core `k`. -/
def State.coreFire (s : State) (k sk v vd : Nat) : State :=
  if 0x400 ≤ sk then s.chanFire k sk v vd
  else match sk with
    | 0x1A0 => if s.waitOver (.wait v) then s else s.modCore k fun c => { c with holds := c.holds ++ [.wait v] }
    | 0x1A1 => if s.waitOver (.waitMs v) then s else s.modCore k fun c => { c with holds := c.holds ++ [.waitMs v] }
    | 0x1C1 => s.mbxSend k v false
    | 0x1C2 => s.mbxSend k v true
    | 0x1C3 => s.mbxTake k
    | 0x200 => ({ s with core := { s.core with hbAt := some s.now } }).heartbeat (bit v 0)
    | 0x201 => { s with core := { s.core with twAt := some s.now } }
    | 0x203 => s.shwRls v
    | 0x204 =>
      if s.rd Reg.SHW_STAT_MODE = 0 ∧ 1 ≤ v ∧ v ≤ 3 then
        let s := s.modCore 8 fun c => c.put 0x20D (clrBit (c.sk 0x20D) (v - 1))
        { s with core := { s.core with inj := some (v, 256) } }
      else s
    | 0x205 => s.shwSplit v
    | 0x206 => s.shwJoin k
    | _ => s.modCore k fun c => c.fire sk v

/-- A core issues its bundle (R750): faults stop it before any move; registers and operands are written, then the triggers fire. -/
def State.issue (s : State) (k vd : Nat) : State :=
  let c := s.coreK k
  let w := tget 0 c.imem c.pc
  let a := w % 2 ^ 32
  let b := w / 2 ^ 32 % 2 ^ 32
  match s.illegal k a b with
  | some sk => s.coreFault k 1 sk
  | none =>
    let ms := [a, b].filter fun m => !mvEmpty m && c.performs m
    let acts := ms.map fun m => (mvDst m, s.mvTake k m)
    let isTrig := fun (d : Nat) => match s.sockKind k d with | some (.trig _) => true | _ => false
    let c1 := ms.foldl (fun c m => c.latchNow s.now m) c
    let c2 := acts.foldl (fun c x => if isTrig x.1 then c else c.write x.1 x.2) { c1 with next := (c.pc + 1) % 0x4000 }
    match acts.findSome? fun x => c2.fault x.1 x.2 with
    | some f => s.coreFault k f.1 f.2
    | none =>
      let s := if k = 8 ∧ s.rd Reg.SHW_STAT_MODE = 0 then s.injected (acts.map (·.1)) else s
      let sh := (s.coreK k).sk 0x20D
      let s := s.setCore k (if k = 8 then c2.put 0x20D sh else c2)
      let s := acts.foldl (fun s x => if isTrig x.1 then s.coreFire k x.1 x.2 vd else s) s
      s.coreEnd k

/-! ### Resets and self-tests (R767 to R770) -/

/-- A core after a reset: only the data memory stays; the instruction memory is loaded from the active slot. -/
def Core.restart (c : Core) (imem : Tab Nat) : Core := { dmem := c.dmem, imem }

/-- The core starts at bundle 0 (R767, R768). -/
def State.coreStart (s : State) (k : Nat) : State :=
  let s := s.setCore k ((s.coreK k).restart (tget [] s.core.image k))
  if k < 4 ∧ bit (s.rd Reg.FIFE_SPARE_RETIRED) (s.rd Reg.FIFE_STAT_PHYS k) then (s.wr Reg.FIFE_STAT_CAUSE k 6).wr Reg.FIFE_STAT_STATE k 3
  else if k < 4 then
    let s := ((s.wr Reg.FIFE_STAT_CAUSE k 0).wr Reg.FIFE_STAT_PC k 0).wr Reg.FIFE_FLT_FADDR k 0
    s.wr Reg.FIFE_STAT_STATE k (if s.flag Reg.FIFE_CTL_RUN k then 1 else 0)
  else s

/-- The commands that a core's channel triggers have in flight give their answers to nobody any more. -/
def State.dropAnswers (s : State) (k : Nat) : State :=
  { s with host := { s.host with answers := s.host.answers.filter fun a => a.1.src != .core k } }

/-- A self-test of logical core `k` fails: C4 takes its place, or the core is lost (R770). `lost`: its data memory has an uncorrectable error. -/
def State.coreRetire (s : State) (k : Nat) (lost : Bool) : State :=
  let phys := s.rd Reg.FIFE_STAT_PHYS k
  let spare := s.rd Reg.FIFE_SPARE_C4 == 0
  let s := s.wr Reg.FIFE_SPARE_RETIRED 0 (setBit (s.rd Reg.FIFE_SPARE_RETIRED) phys)
  let s := if phys = 4 then s.wr Reg.FIFE_SPARE_C4 0 2 else s
  let s := s.retire 3 5 phys 0xFF spare (!spare)
  if spare then
    let s := ((s.wr Reg.FIFE_SPARE_C4 0 1).wr Reg.FIFE_SPARE_SERVES 0 k).wr Reg.FIFE_STAT_PHYS k 4
    let s := if lost then (s.modCore k fun c => { c with dmem := [] }).wr Reg.FIFE_STAT_DATALOST k 1 else s
    let s := s.coreStart k
    s.raise 0x1E82 0xFFFF (atByte 16 k + atByte 17 phys + atByte 18 (b2n lost))
  else
    let s := ((s.wr Reg.FIFE_STAT_STATE k 3).wr Reg.FIFE_STAT_CAUSE k 6).modCore k fun c => { c with holds := [] }
    s.raiseFault 0x1E83 0xFFFF (atByte 16 k)

/-- The self-tests of a start (R769): of the logical cores that have a physical core, and of C4 while it is spare (4); `fails` names those that fail,
with whether the core's data memory has an uncorrectable error. -/
def State.bootTests (s : State) (fails : List (Nat × Bool)) : State :=
  let s := (List.range 4).foldl (fun s k =>
    let e := fails.find? fun e => e.1 == k
    if s.rd Reg.FIFE_STAT_CAUSE k != 6 && (e.isSome || s.nv.badMem.contains (s.rd Reg.FIFE_STAT_PHYS k)) then
      s.coreRetire k (match e with | some e => e.2 | none => false) else s) s
  if fails.any (fun e => e.1 == 4) && s.rd Reg.FIFE_SPARE_C4 == 0 then
    ((s.wr Reg.FIFE_SPARE_C4 0 2).wr Reg.FIFE_SPARE_RETIRED 0 (setBit (s.rd Reg.FIFE_SPARE_RETIRED) 4)).retire 3 5 4 0xFF false false
  else s

end Sys2Proof.Machine
end

