-- ==== Sys2Proof/Machine/Image.lean ====
section
/-!
DEFINITION. Sys2Proof/Machine/Image.lean: firmware images and settings copies (R906 to R914, R923 to R926).
-/
namespace Sys2Proof.Machine

/-! ### Images (R907 to R909) -/

/-- Longest image: 6 MiB. -/
def slotSize : Nat := 6291456

def FwSlot.svn (f : FwSlot) : Nat := f.num 12 2
def FwSlot.schema (f : FwSlot) : Nat := f.num 14 2
def FwSlot.oldest (f : FwSlot) : Nat := f.num 16 2
def FwSlot.bodyLen (f : FwSlot) : Nat := f.num 28 4
def FwSlot.signer (f : FwSlot) : Nat := f.num 96 1

/-- The state-image formats that the firmware reads. -/
def FwSlot.formats (f : FwSlot) : List Nat := (List.range (f.num 18 2)).map fun j => f.num (20 + 2 * j) 2

/-- The header's fixed fields and ranges. -/
def FwSlot.headerOk (f : FwSlot) : Bool :=
  f.bytesAt 0 4 == [0x4C, 0x4E, 0x46, 0x57] && f.num 4 2 == 0x0100 && f.num 6 2 == 0 && decide (f.svn ≤ 64)
  && decide (1 ≤ f.num 18 2 ∧ f.num 18 2 ≤ 4) && f.num (20 + 2 * f.num 18 2) (8 - 2 * f.num 18 2) == 0
  && decide (f.bodyLen ≤ slotSize - 512) && f.num 97 7 == 0 && f.num 275 237 == 0

/-- Entry `k` of the section table: kind, target, offset and length in bytes of the body. -/
def FwSlot.section (f : FwSlot) (k : Nat) : Nat × Nat × Nat × Nat :=
  let o := 512 + 8 * k
  (f.num o 1, f.num (o + 1) 1, 128 * f.num (o + 4) 2, 128 * f.num (o + 6) 2)

/-- The entry is well formed (R908). -/
def FwSlot.sectionOk (f : FwSlot) (k : Nat) : Bool :=
  let (kind, target, off, len) := f.section k
  kind == 0
  || (decide (kind ≤ 5) && f.num (512 + 8 * k + 2) 2 == 0 && decide (target ≤ if kind ≤ 2 then 3 else 0) && decide (off + len ≤ f.bodyLen))

/-- The image's form and its body's digest. -/
def FwSlot.formOk (f : FwSlot) : Bool :=
  f.headerOk && decide (128 ≤ f.bodyLen) && (List.range 16).all f.sectionOk
  && shake (f.bytesAt 512 f.bodyLen) == f.num 32 64

/-- The first check of R909 that fails, coded as LASTFAIL: 1 form or digest, 2 slot or signature, 3 SVN; 0 for a valid image.  `sig`: the signature
verifies under the header's key. -/
def State.imageFail (s : State) (f : FwSlot) (sig : Bool) : Nat :=
  let k := s.nv.keySlot f.signer
  if !f.formOk then 1
  else if !(decide (f.signer < 3) && k.programmed && !k.revoked && shake (f.bytesAt 104 57) == k.digest && sig) then 2
  else if f.svn < s.nv.fusedSvn then 3 else 0

/-- The bytes of the section of a kind and target; none where there is none. -/
def FwSlot.find (f : FwSlot) (kind target : Nat) : Option (List Byte) :=
  ((List.range 16).find? fun k => let e := f.section k; e.1 == kind && e.2.1 == target).map fun k =>
    let e := f.section k
    f.bytesAt (512 + e.2.2.1) e.2.2.2

/-- Numbers of `n` bytes each, as a table without zeros; at most `cap` of them. -/
def wordsOf (n cap : Nat) (bs : List Byte) : Tab Nat :=
  (List.range (min cap (bs.length / n))).filterMap fun k => let v := recNum bs (n * k) n; if v = 0 then none else some (k, v)

/-- Instruction memories that the image loads (R767, R908): C0 to C3, and the Shawm pair at 8. -/
def FwSlot.code (f : FwSlot) : Tab (Tab Nat) :=
  (List.range 4).map (fun k => (k, wordsOf 8 0x4000 ((f.find 1 k).getD []))) ++ [(8, wordsOf 8 0x4000 ((f.find 3 0).getD []))]

/-- Data memory of a core at power-up. -/
def FwSlot.data (f : FwSlot) (k : Nat) : Tab Nat := wordsOf 2 0x8000 ((f.find 2 k).getD [])

def State.slot (s : State) (k : Nat) : FwSlot := s.nv.fwSlot k
def State.setFwSlot (s : State) (k : Nat) (f : FwSlot) : State := { s with nv := { s.nv with fw := tput s.nv.fw k f } }

/-- The staging slot: the one that is not active (R906). -/
def State.stagingSlot (s : State) : Nat := 1 - s.nv.active

/-! ### Settings copies (R923 to R926) -/

/-- The windows whose RW fields a settings copy holds; the rings of window 01h are no settings (R126). -/
def settingWins : List Nat :=
  [0x00, 0x02, 0x03, 0x04, 0x05, 0x08, 0x09, 0x0A, 0x0B, 0x0C, 0x0D, 0x0E, 0x10, 0x11, 0x12, 0x14, 0x15, 0x16, 0x17, 0x18, 0x19, 0x1A, 0x1B, 0x1C, 0x1D,
   0x1E, 0x1F, 0x20, 0x21]

/-- Ports into memories, the debug cap and the DMA lock, which a power-up reset ends (R863, R878), and the receive queues, which it leaves at their
reset values as it leaves the rings (R823, log entry 47). -/
def notSetting : List Field :=
  [Reg.FIFE_MDATA0, Reg.SEC_DBG_DBGMAX, Reg.SEC_DMALOCK_LOCK, Reg.RXQ_BASE_LO_ADDR, Reg.RXQ_BASE_HI_ADDR, Reg.RXQ_CFG_LOG2SZ, Reg.RXQ_CFG_ENTSZ, Reg.RXQ_CFG_ALL, Reg.RXQ_CFG_EN, Reg.RXQ_CFG_VEC,
   Reg.RXQ_CFG_MODCNT, Reg.RXQ_CFG_MODTIME]

/-- The RW fields that a settings copy holds, each once. -/
def settingFields : List Field :=
  (settingWins.flatMap fun w => (Reg.byWindow w).filter fun f => f.acc = .rw && !f.isIn notSetting && (f.locs.head?.map (·.win)) == some w)


/-- The indices that a field has. -/
def Field.indices (f : Field) : List Nat := f.locs.flatMap fun l => (List.range l.cnt).map (l.first + ·)

def NvState.copy (n : NvState) (k : Nat) : SetCopy := tget {} n.copies k
def State.setCopy (s : State) (k : Nat) (c : SetCopy) : State := { s with nv := { s.nv with copies := tput s.nv.copies k c } }

/-- The values of the setting fields that have ever been written. -/
def State.settingValues (s : State) : Tab (Tab Nat) :=
  settingFields.foldl (fun t f => match tget [] s.regs f.id with | [] => t | v => tput t f.id v) []

/-- The active copy follows the setup registers, as long as it is live (log entry 40). -/
def State.saveLive (s : State) : State :=
  let c := s.nv.copy s.nv.active
  if c.live then s.setCopy s.nv.active { c with vals := s.settingValues } else s

/-- What the copy gives for a field at an index: its reset value where nothing was ever written. -/
def valueIn (vals : Tab (Tab Nat)) (f : Field) (i : Nat) : Nat := tget (f.rst i) (tget [] vals f.id) i

/-- The indices of a field at which the settings and the registers may differ. -/
def State.settingIx (s : State) (vals : Tab (Tab Nat)) (f : Field) : List Nat :=
  (((tget [] vals f.id).map (·.1)) ++ (tget [] s.regs f.id).map (·.1)).eraseDups

/-- The puts that bring the registers to the settings. -/
def State.settingPuts (s : State) (vals : Tab (Tab Nat)) : List Put :=
  settingFields.flatMap fun f => (s.settingIx vals f).filterMap fun i =>
    let v := valueIn vals f i % 2 ^ f.width
    if v = s.rd f i then none else some { f, i, off := (f.place i).2, v }

/-- The settings are written into the registers, each field checked and clamped with SRC 10b; the second part is the number of clamps (R925). -/
def State.loadSettings (s : State) (vals : Tab (Tab Nat)) : State × Nat :=
  let r := s.clampAll 0 2 (s.settingPuts vals)
  let s := r.foldl (fun s x => (s.wr x.1.f x.1.i x.2).wrote x.1 (s.rd x.1.f x.1.i) x.2) s
  let bad := r.filter fun x => x.1.v != x.2
  let s := bad.foldl (fun s x => s.logClamps (x.1.f.place x.1.i).1 (clampsOf 2 0 0 0xFFFF [x])) s
  (s, bad.length)

/-- The defaults of an image (R908, R924): reset values where it has no section of kind 04h. -/
def FwSlot.defaults (f : FwSlot) : Tab (Tab Nat) :=
  match f.find 4 0 with
  | none => []
  | some sec => settingFields.foldl (fun t g => tput t g.id (g.indices.map fun i => (i, Config.defaultSetting sec g.id i % 2 ^ g.width))) []

/-- The settings after the migration routine (R924). -/
def FwSlot.migrate (f : FwSlot) (c : SetCopy) : Tab (Tab Nat) :=
  let sec := (f.find 5 0).getD []
  settingFields.foldl (fun t g =>
    tput t g.id (g.indices.map fun i => (i, Config.migrated sec c.schema g.id i (valueIn c.vals g i) % 2 ^ g.width))) []

/-- What a start makes of the copy it finds (R924): values, RESULT, REASON.  `fault`: the migration routine faults. -/
def FwSlot.settings (f : FwSlot) (c : SetCopy) (fault : Bool) : Tab (Tab Nat) × Nat × Nat :=
  if !c.ok then (f.defaults, 2, 1)
  else if f.schema < c.schema then (f.defaults, 2, 2)
  else if c.schema < f.oldest then (f.defaults, 2, 3)
  else if c.schema = f.schema then (c.vals, 0, 0)
  else if fault then (f.defaults, 2, 4)
  else (f.migrate c, 1, 0)

/-- `SETTINGS_LOAD`: the settings are formed from copy `from_`, loaded, and committed to the active slot's copy, and the outcome is reported
(R917, R924 to R928). -/
def State.settle0 (s : State) (from_ : Nat) (fault : Bool) : State :=
  let f := s.slot s.nv.active
  let c := s.nv.copy from_
  let (vals, result, reason) := f.settings c fault
  let (s, n) := s.loadSettings vals
  let s := s.setCopy s.nv.active { ok := true, live := true, schema := f.schema, vals := s.settingValues }
  let s := ((s.wr Reg.SET_STAT_SCHEMA 0 f.schema).wr Reg.SET_STAT_RESULT 0 result).wr Reg.SET_STAT_REASON 0 reason
  s.raise 0x2182 0xFFFF (atByte 16 result + atByte 17 reason + atByte 18 n + atByte 20 (if c.ok then c.schema else 0) + atByte 22 f.schema)

end Sys2Proof.Machine
end

