-- ==== Sys2Proof/Machine/Reset.lean ====
section
/-!
DEFINITION. Sys2Proof/Machine/Reset.lean: resets of die C and of functions: what they end, what they keep, and the return (R124 to R130, R263, R310, R492,
R533, R568, R767, R818 to R824, R922, R943).
-/
namespace Sys2Proof.Machine

def State.pw (s : State) (f : PowerState → PowerState) : State := { s with pwr := f s.pwr }

/-! ### Function-level reset (R129, R130, R943) -/

/-- The rings and the window 01h registers of function `pf` return to their reset values; GEN and the owners stay. -/
def HostState.resetFn (h : HostState) (pf : Nat) : HostState :=
  let f : Func := tget {} h.fns pf
  let keep := fun (e : Nat × CmdRing) => e.1 / 32 != pf
  let keep' := fun (e : Nat × OutRing) => e.1 / 32 != pf
  { h with
    waiting := h.waiting.filter fun w => w.pf != pf
    outbox := h.outbox.filter fun x => x.1 != pf
    fns := tput h.fns pf { frozen := f.frozen, gen := (f.gen + 1) % 256, clogSel := f.clogSel, fltCtl := f.fltCtl }
    cmdRings := h.cmdRings.filter keep
    cplRings := h.cplRings.filter keep'
    evtRings := tdel h.evtRings pf }

/-- An FLR of function `pf`: commands that have not begun give up their service; those that have begun run on without a completion. -/
def State.flr (s : State) (pf : Nat) : State :=
  let s := s.forget fun c => s.notBegun pf c && c.src == Src.host
  let mine := fun (r : InFlight) => r.cmd.pf == pf && r.cmd.src == Src.host
  let s := { s with host := { s.host with
    inflight := s.host.inflight.filter fun r => !mine r
    staleCmds := s.host.staleCmds ++ (s.host.inflight.filter fun r => mine r && r.begun && r.cmd.object != 0xFFFF).map InFlight.cmd } }
  { s with host := s.host.resetFn pf }

def State.flrAll (s : State) : State := (List.range 4).foldl State.flr s

/-! ### What stops with die C -/

/-- The networks stop (R568, R630): queues and schedules are gone, and a CAN channel finishes the frame that it has begun; collision tables, learned
addresses, gate lists and the identity table's entries stay. -/
def NetState.stop (x : NetState) (now : Ns) : NetState :=
  { x with
    can := x.can.map fun e => (e.1, { e.2 with queue := [], tec := 0, rec_ := 0, tmSof := none })
    lin := x.lin.map fun e => (e.1, { e.2 with resp := [], mreq := false, req := none, fresh := true, sleeps := [], wakes := [], sent := none })
    ports := x.ports.map fun e => (e.1, { e.2 with queue := [], line := none })
    segs := x.segs.map fun e => (e.1, { wakeAt := e.2.wakeAt, wakeKind := e.2.wakeKind, inStop := e.2.inStop })
    fit := x.fit.map fun e => (e.1, { e.2 with value := none, rseq := 0, since := now, recov := {}, lastE := (none, none), silent := (false, false), startAt := now })
    stored := []
    syncOk := 0 }

def State.netStop (s : State) : State :=
  let s := { s with net := s.net.stop s.now }
  let s := (List.range 16).foldl (fun s n =>
    ((if s.flag Reg.CAN_CTL_EN n then s.wr Reg.CAN_STAT_STATE n 3 else s).wr Reg.CAN_STAT_RECOVERING n 0).wr Reg.CAN_STAT_TXQN n 0) s
  let s := (List.range 8).foldl (fun s n => s.wr Reg.LIN_STAT_STATE n 0) s
  let s := (List.range 10).foldl (fun s p => s.wr Reg.ETH_STAT_LINK p 0) s
  let s := (List.range 34).foldl (fun s g => s.rstFields [Reg.NM_STAT_STATE, Reg.NM_STAT_HOSTNEED, Reg.NM_STAT_FWDNEED, Reg.NM_STAT_KEEPER] g) s
  s.showPool

/-- The barrier link is down on both sides: isolated outputs off, inputs not valid (R531, R533). -/
def State.barrierDown (s : State) : State :=
  let s := s.wr Reg.BAR_STAT_UP 0 0
  let s := { s with inp := { s.inp with up := {}, dn := {}, dnBad := 0, lostAt := s.now, upAt := none } }
  let s := (List.range 8).foldl (fun s n =>
    let o := 0x150 + n
    ((if s.st o = 0 ∨ s.latched o then s else s.setSt o 0).wr Reg.IO_STAT_CAUSE n 4).modObj o fun x => { x with target := 0 }) s
  (List.range 16).foldl (fun s n => (s.wr Reg.II_STAT_VALID n 0).modIi n fun x => { x with run := 0, frames := 0, told := false }) s

/-- The twin agent's lines are released, and its images, journal and swap are gone (R687, R693). -/
def State.twDown (s : State) : State :=
  let s := if s.twSt = 0 then s else s.twLeave
  s.tw fun t => { wasLead := t.wasLead, lineOkAt := t.lineOkAt, counts := t.counts, sent := t.sent, cycle := t.cycle, sinceAt := t.sinceAt }

/-- The Fife cores and the Shawm pair stop; data memories stay (R767). -/
def State.coresDown (s : State) : State :=
  let c := s.core
  { s with core := { c with
      cores := c.cores.map fun e => (e.1, e.2.restart [])
      shawm := c.shawm.restart []
      copyB := {}, runB := false, forced := false, inj := none, hbAt := none, twAt := none, image := [] }
           host := { s.host with answers := [] } }

/-- The access object's search and authorisation end (R893, R897). -/
def State.accDown (s : State) : State :=
  let lost := s.acc.authAt.isSome || s.pwr.lostAuth
  (s.pw fun p => { p with lostAuth := lost }).ac fun a =>
    { a with phase := .idle, queue := [], enrols := [], enrol := none, authAt := none, withdraw := 0, endedAt := none }

/-- FIELD_SERVICE, the debug session and its nonce end (R855, R862). -/
def State.secDown (s : State) : State :=
  ({ s with sec := { s.sec with svcEnd := none, nonceOk := false, result := 0 } }).wr Reg.SEC_DBG_LEVEL 0 0

/-- A trial fails: the fallback slot becomes active again, and the failed image stays staged (R922). -/
def State.trialFails (s : State) (why : Nat) : State :=
  { s with nv := { s.nv with active := 1 - s.nv.active, fallback := false, updState := 2, lastFail := why, eqTrial := false } }

/-- PWR_STAT and the phase. -/
def State.toPhase (s : State) (p : Phase) : State := s.pw fun x => { x with phase := p, phaseAt := s.now }

/-- GEN rises in every function (R128). -/
def State.nextGen (s : State) : State :=
  (List.range 4).foldl (fun s k => s.setFn k { s.fn k with gen := ((s.fn k).gen + 1) % 256 }) s

/-- The first moment of a reset of die C (R124, R128, R250, R263, R276).  `brown`: VBAT holds it in reset (R48).  `commit`: the reset is the restart of
an update, which no trial fails for. -/
def State.resetDieC (s : State) (brown commit : Bool) : State :=
  let s := s.saveLive
  let run := s.pwr.phase == .run
  let s := match s.pwr.phase with | .entering _ => s.bump Reg.PWR_CNT_ABANDONED 0 | _ => s
  let s := (s.toPhase .resetHold).pw fun p => { p with brownout := brown, start := 2, bootAt := s.now, forced := false, wakeHit := false, abortPt := 0, throttled := (false, false), paceNext := none }
  let s := if !commit && (s.nv.updState == 3 || s.nv.updState == 4) then (s.trialFails 5).pw fun p => { p with restartAt := some s.now } else s
  let s := s.loopsOpen 5
  let old := s.host.staleCmds ++ (s.host.inflight.filter fun r => r.begun && r.cmd.src == Src.host).map InFlight.cmd
  let s : State := { s with host := { s.host with staleCmds := old.filter fun c => isOutput c.object } }
  let s := s.forget fun c => !s.host.staleCmds.contains c
  let s := ((((s.netStop).barrierDown).twDown).coresDown).accDown.secDown
  let s := ({ s with host := { s.host with linkUp := false } }).nextGen
  let s := (s.wr Reg.PWR_STAT_STATE 0 2).wr Reg.PWR_STAT_RDY 0 0
  (if run then s.holdBegin else s).noticeOn

/-- A warm reset that the module performs by itself: the rails stay up (R774, R783, R856, R918). -/
def State.warmReset (s : State) : State := s.resetDieC false false

/-! ### The return -/

/-- Commands that were in flight complete ABORTED_RESET (R125), a CANCEL that waits for another of them too. -/
def State.abortAll (s : State) : State :=
  let rs := s.host.inflight
  let s : State := { s with host := { s.host with inflight := rs.map fun r => { r with cancels := [] } } }
  let s := (rs.filter fun r => r.cmd.src == .host).foldl (fun s r => s.completeFlight r.cmd .abortedReset) s
  { s with host := { s.host with inflight := [], answers := [] } }

/-- The events that the power dies kept are written in their order (R270). -/
def State.writeKept (s : State) : State :=
  let es := s.flt.kept
  es.foldl (fun s e => s.deliver e.type e.object e.data e.time e.fault (s.routes e.object)) { s with flt := { s.flt with kept := [] } }

/-- The arbiter's remembered currents and classes return to the nominal figures: a warm reset without a hand-over (R287, R919, log entry 36). -/
def State.forgetLoads (s : State) : State :=
  { s with arb := { s.arb with loads := s.arb.loads.map fun e => (e.1, { e.2 with rem := none }) } }

/-- The arbiter rebuilds its usage from measured currents, and takes over what the power dies have queued (R310). -/
def State.rebuild (s : State) (loads : List LoadSeen) : State :=
  let s := loads.foldl (fun s a =>
    let o := s.leadOf a.obj
    let s := s.sampleLoad a
    let l := s.load o
    if !l.on then s
    else
      let on := s.onCurrent o
      s.setLoad o { l with avg := some on, renewed := s.now, inTrans := false, trans := [], stand := s.measuredStand o (s.avgOf o) on }) s
  let q := s.arb.dieQueue.map fun d => { d with arrival := s.now }
  let s : State := { s with arb := { s.arb with waiting := q.foldl (fun w d => insertDemand d w) s.arb.waiting, dieQueue := [] } }
  (s.wr Reg.ARB_PEND_PEND 0 s.arb.waiting.length).showUse

/-- Enabled units start with die C: CAN and LIN channels, the agreements, gPTP, the twin agent (R544, R650, R693, R740). -/
def State.startUnits (s : State) (fromStop : Bool) (canFails : List Nat) : State :=
  let s := (List.range 16).foldl (fun s n => if s.flag Reg.CAN_CTL_EN n then s.canBoot n (canFails.contains n) else s) s
  let s := (List.range 8).foldl (fun s n =>
    if fromStop && s.rd Reg.LIN_STAT_STATE n == 3 then s else s.wr Reg.LIN_STAT_STATE n (s.rd Reg.LIN_CFG_EN n)) s
  let s := if fromStop then s else (List.range 34).foldl (fun s g => if s.flag Reg.NM_CFG_EN g then s.nmEnable g else s) s
  let s := s.gptpTo (match s.rd Reg.GPTP_CFG_ROLE with | 1 => 4 | 2 => 1 | _ => 0)
  if s.flag Reg.TW_CFG_EN then (s.tw fun t => { t with fromStop }).twClaim else s

/-- The cores start: bundles from the active slot, data memory at power-up from it too (R767). -/
def State.startCores (s : State) (powerUp : Bool) : State :=
  let f := s.slot s.nv.active
  let s := { s with core := { s.core with image := f.code } }
  let s := if powerUp then (List.range 4).foldl (fun s k => s.modCore k fun c => { c with dmem := f.data k }) s else s
  [0, 1, 2, 3, 8].foldl State.coreStart s

/-! ### Power-up -/

/-- The power die that holds a setup register field (R824): by the window in which it stands, and for window 08h by the channel; 3 for LIMP_STAT and
HOLD_STAT, which every power die holds (log entry 48). -/
def fieldDie (f : Field) (i : Nat) : Option Nat :=
  match f.locs.find? fun l => decide (l.first ≤ i ∧ i < l.first + l.cnt) with
  | some l =>
    if l.win = 8 then some (if l.cnt = 48 then (if i - l.first < 24 then 0 else 1) else 3)
    else if 9 ≤ l.win ∧ l.win ≤ 0x0D then some 2 else none
  | none => none

/-- All fields of the register file. -/
def allFields : List Field :=
  settingWins.flatMap fun w => (Reg.byWindow w).filter fun f => (f.locs.head?.map (·.win)) == some w

/-- The registers after a power-up reset: those of a power die that kept its supply stay (R20, R819, R824). -/
def keptRegs (regs : Tab (Tab Nat)) (kept : Nat → Bool) : Tab (Tab Nat) :=
  allFields.foldl (fun t f =>
    let es := (tget [] regs f.id).filter fun e => match fieldDie f e.1 with | some d => kept d | none => false
    if es.isEmpty then t else tput t f.id es) []

/-- The objects of the power dies that kept their supply. -/
def OutState.keep (x : OutState) (kept : Nat → Bool) : OutState :=
  let on := fun o => match dieOf o with | some d => kept d | none => false
  let p2 := kept 2
  { objs := x.objs.filter fun e => on e.1
    leds := if p2 then x.leds else [], mx := if p2 then x.mx else {}, valves := if p2 then x.valves else [], bridges := if p2 then x.bridges else []
    limps := x.limps.filter fun e => on (recObj e.1)
    stageTj := if p2 then x.stageTj else [], dieTj := (List.range 3).map fun d => if kept d then x.dieTj.getD d 0 else 0
    bstStop := p2 && x.bstStop, bstOnAt := if p2 then x.bstOnAt else 0
    held := x.held, released := x.released, orphaned := x.orphaned }

/-- The registers that show what has been retired for good (R812). -/
def retiredFields : List Field :=
  [Reg.SPR_SEG_RETIRED, Reg.SPR_SEG_DERATED, Reg.SPR_SRAM_ROWS, Reg.SPR_SRAM_EXHAUSTED, Reg.SPR_MISC_FITSP, Reg.SPR_MISC_FITLOST, Reg.SPR_MISC_CANSP,
   Reg.SPR_MISC_ADCSP, Reg.SPR_MISC_ADCLOST, Reg.SPR_LOG_COUNT, Reg.FIFE_SPARE_C4, Reg.FIFE_SPARE_SERVES, Reg.FIFE_SPARE_RETIRED, Reg.FIFE_STAT_PHYS,
   Reg.CAN_XCVR_SLICE, Reg.CH_STAT_DERATED, Reg.CH_STAT_SEGACT, Reg.CH_STAT_SPARES]

/-- After a power-up reset that leaves `w`, what was retired stays so: fuses and MRAM hold it (R149, R812).  A derated channel's limits keep to its
lowered range (R151). -/
def State.keepRetired (s w : State) : State :=
  let regs := retiredFields.foldl (fun t f => let es := tget [] s.regs f.id; if es.isEmpty then t else tput t f.id es) w.regs
  let w := { w with regs }
  s.out.objs.foldl (fun w e =>
    if e.2.retired.isEmpty then w
    else
      let w := w.modObj e.1 fun x => { x with retired := e.2.retired }
      let w := w.lowerIlim e.1 Reg.CH_CFG0_ILIM
      if isKind .hs e.1 then w.lowerIlim e.1 Reg.CH_CFG0_ILIM_INR else w) w

/-- Every function at its power-up value; MRAM and fuses stay, and so does what a power die with supply holds (R3, R20, R818, R823, R824). -/
def State.wipe (s : State) (kept0 : Nat → Bool) : State :=
  let keep := (List.range 3).map kept0
  let kept := fun (d : Nat) => if d = 3 then keep.any id else kept0 d
  s.keepRetired { State.reset with
    now := s.now
    pending := s.pending
    regs := keptRegs s.regs kept
    out := s.out.keep kept
    arb := { loads := s.arb.loads.filter fun e => match dieOf e.1 with | some d => kept d | none => false
             dieQueue := s.arb.dieQueue.filter fun d => match dieOf d.obj with | some k => kept k | none => false }
    flt := { kept := s.flt.kept.filter fun e => match dieOf e.object with | some d => kept d | none => kept 3 }
    core := { }
    host := { sent := s.host.sent, perst := s.host.perst }
    acc := { counts := [] }
    twin := { sinceAt := s.now }
    nv := s.nv
    pwr := { phase := .unpowered, dieUp := keep, dieKept := keep, dieAt := (List.range 3).map fun d => if kept0 d then s.pwr.dieAt.getD d 0 else s.now
             bootAt := s.now, phaseAt := s.now, refPresent := s.pwr.refPresent, peWake := false } }

end Sys2Proof.Machine
end

