-- ==== Sys2Proof/Machine/Read.lean ====
section
/-!
DEFINITION. Sys2Proof/Machine/Read.lean: what a setup read returns (R19, R86, R87): fields that the module derives from its state when they are read,
and the registers whose home is not the register file.
-/
namespace Sys2Proof.Machine

/-! ### Derived fields -/

/-- An age in units of `unit` ns, all ones with no start, saturating at `w` bits. -/
def ageOf (now : Ns) (t : Option Ns) (unit w : Nat) : Nat :=
  match t with | none => 2 ^ w - 1 | some t => min (2 ^ w - 1) ((now - t) / unit)

/-- Time left until `t`, in units of `unit` ns rounded up, saturating at `w` bits (log entry 42). -/
def leftOf (now : Ns) (t : Option Ns) (unit w : Nat) : Nat :=
  match t with | none => 0 | some t => min (2 ^ w - 1) (ceilDiv (t - now) unit)

def State.latchMask (s : State) (o n : Nat) : Nat := maskOf (fun k => s.latched (o + k)) n

/-- Any of LP_FLAGS[10:0] of loop `n`. -/
def State.lpSticky (s : State) (n : Nat) : Bool :=
  s.rd Reg.LP_FLAGS n != 0 || s.flag Reg.LP_FLAGS_OUTLIM n || s.flag Reg.LP_FLAGS_SATTO n || s.flag Reg.LP_FLAGS_FBLOST n


/-- PWR_IEST: the figure of R844 in 0.1 nA, rounded to the nearest (R512, R845). -/
def State.stopCurrent (s : State) : Nat :=
  let armed := fun (a n : Nat) => ((List.range n).filter fun k => s.flag Reg.NM_CFG_EN (a + k) && s.flag Reg.NM_CFG_ARM (a + k)).length
  let role := fun (w : Nat) => (List.range 64).filter fun k => s.rd Reg.SW_CFG1_WAKE k == w
  let fixed := 2500 + 400 * s.rd Reg.TB_CFG_TB1SRC + 90 * (armed 0 16 - 4) + 50 * armed 16 8 + 150 * armed 24 10 + 60 * ((role 1).length - 8)
    + 30 * s.rd Reg.PWR_CFG_TKWAKE
  let wet := ((role 2).map fun k => if s.flag Reg.SW_CFG1_SWET k then 100000000 else 20000000).foldl (· + ·) 0
  min 0xFFFF (fixed + roundDiv (wet * (s.rd Reg.SW_STOPCFG_TPOLL + 1) * 1000000000) (32768 * s.pollPeriod))

/-- Fields of the output blocks and the loops that are derived when they are read. -/
def State.shownOut (s : State) (f : Field) (i : Nat) : Option Nat :=
  let age := fun (o : Nat) => some (ageOf s.now (s.obj o).tookAt 10000000 8)
  if f.id = Reg.GLB_PDISS_PLIM.id then some (plimAt s.tcase)
  else if f.id = Reg.HS_LATCH0.id then some (s.latchMask 0 32)
  else if f.id = Reg.HS_LATCH1.id then some (s.latchMask 32 16)
  else if f.id = Reg.LS_LATCH.id then some (s.latchMask 0x40 16)
  else if f.id = Reg.HB_LATCH.id then some (s.latchMask 0x60 12)
  else if f.id = Reg.LD_LATCH.id then some (s.latchMask 0x80 12)
  else if f.id = Reg.SV_LATCH.id then some (s.latchMask 0xC0 16)
  else if f.id = Reg.IO_LATCH.id then some (s.latchMask 0x150 8)
  else if f.id = Reg.DG_DSTAT_AGE.id then age (chObj i)
  else if f.id = Reg.LD_STAT_AGE.id then age (0x80 + i)
  else if f.id = Reg.SV_STAT_AGE.id then age (0xC0 + i)
  else if f.id = Reg.HB_STAT_AGE.id then age (0x60 + i)
  else if f.id = Reg.CH_ACC_ACC.id then some (s.accNow (chObj i))
  else if f.id = Reg.SV_ACT2_ACC.id then some (s.accNow (0xC0 + i))
  else if f.id = Reg.SV_ACT3_EREM.id then some (s.svErem i)
  else if f.id = Reg.LH_LHR1_HOLDLEFT.id then
    some (if s.flag Reg.LH_LHR1_INHOLD i then leftOf s.now (some (s.limp i).holdEnd) 1000000 8 else 0)
  else if f.id = Reg.ARB_USE_USED.id then some (s.usedReg i)
  else if f.id = Reg.ARB_RSV_PEAK.id then some (max (s.rd f i) (s.usedReg i))
  else if f.id = Reg.ARB_USE_LIMIT.id then some (s.limitReg i)
  else if f.id = Reg.ARB_RSV_RSV.id then some (s.limitReg i * s.rsvPct / 100)
  else if f.id = Reg.BST_EN_DEFICIT.id then some s.deficit
  else if f.id = Reg.BST_EN_ELIM.id then some s.elim
  else if f.id = Reg.LP_ACT0.id then some (maskOf (fun n => s.rd Reg.LP_STAT_STATE n != 0) 32)
  else if f.id = Reg.LP_ACT1.id then some (maskOf (fun n => s.rd Reg.LP_STAT_STATE (32 + n) != 0) 16)
  else if f.id = Reg.LP_STICKY0.id then some (maskOf s.lpSticky 32)
  else if f.id = Reg.LP_STICKY1.id then some (maskOf (fun n => s.lpSticky (32 + n)) 16)
  else none

/-- Fields of inputs, networks and the twin agent. -/
def State.shownNet (s : State) (f : Field) (i : Nat) : Option Nat :=
  if f.id = Reg.SW_LVL0.id then some (maskOf (fun n => s.flag Reg.SW_STAT_LEVEL n) 32)
  else if f.id = Reg.SW_LVL1.id then some (maskOf (fun n => s.flag Reg.SW_STAT_LEVEL (32 + n)) 32)
  else if f.id = Reg.SW_VALID0.id then some (maskOf (fun n => s.flag Reg.SW_STAT_VALID n) 32)
  else if f.id = Reg.SW_VALID1.id then some (maskOf (fun n => s.flag Reg.SW_STAT_VALID (32 + n)) 32)
  else if f.id = Reg.SW_WETSUM_SUM.id then some (s.wetSum 64)
  else if f.id = Reg.TM_STAT_PENDING.id then some (b2n (s.flag Reg.TM_CFG_TMEN i && !s.pwr.timeSet))
  else if f.id = Reg.FIT_SEQ_SEQ.id then some (s.fit s.fitIdx).rseq
  else if f.id = Reg.FIT_SEQ_AGE.id then some (ageOf s.now ((s.entryStamp s.fitIdx).map (·.at_)) 100000 16)
  else if f.id = Reg.NM_GSTAT_ALLSLEEP.id then some (b2n s.allSleep)
  else if f.id = Reg.NM_AWAKE0.id then some (maskOf (fun g => s.nmSt g != 0 && s.nmSt g != 4) 32)
  else if f.id = Reg.NM_AWAKE1.id then some (maskOf (fun g => s.nmSt (32 + g) != 0 && s.nmSt (32 + g) != 4) 2)
  else if f.id = Reg.TW_ISIZE_SIZE.id then some (s.sizeWith [])
  else if f.id = Reg.TW_ISIZE_XFER.id then some (ceilDiv (xferNs (s.sizeWith []) (if s.rd Reg.GLB_PACE_CUR = 0 then 152 else 200)) 1000)
  else if f.id = Reg.TW_AGE_AGE.id then some (ageOf s.now (s.twin.active.map fun _ => s.twin.snapAt) 1000 16)
  else if f.id = Reg.TW_JRNL_USED.id then some s.twin.journal.length
  else if f.id = Reg.TW_SOLSTAT_SINCE.id then some s.sinceMin
  else if f.id = Reg.TW_EQ_STEP.id then some s.nv.eqStep
  else none

/-- Fields of cores, power, security, access and update. -/
def State.shownSys (s : State) (f : Field) : Option Nat :=
  let st := s.nv.updState
  if f.id = Reg.SHW_HB_HBAGE.id then some (ageOf s.now s.core.hbAt 1000 16)
  else if f.id = Reg.SHW_HB_TWAGE.id then some (ageOf s.now s.core.twAt 1000 16)
  else if f.id = Reg.FIFE_MDATA0.id then
    some (let c := s.coreK (s.rd Reg.FIFE_MSEL_CORE); let a := s.rd Reg.FIFE_MSEL_ADDR
      if s.flag Reg.FIFE_MSEL_MEM then tget 0 c.imem a % 2 ^ 32 else tget 0 c.dmem a)
  else if f.id = Reg.FIFE_MDATA1.id then
    some (if s.flag Reg.FIFE_MSEL_MEM then tget 0 (s.coreK (s.rd Reg.FIFE_MSEL_CORE)).imem (s.rd Reg.FIFE_MSEL_ADDR) / 2 ^ 32 else 0)
  else if f.id = Reg.SPR_LOG_COUNT.id then some s.nv.retired.length
  else if f.id = Reg.PWR_IEST.id then some s.stopCurrent
  else if f.id = Reg.SEC_LC_STATE.id then some s.lifecycle
  else if f.id = Reg.SEC_LC_SVCLEFT.id then some (leftOf s.now s.sec.svcEnd 60000000000 16)
  else if f.id = Reg.SEC_DBG_FAILS.id then some (min 15 s.sec.fails)
  else if f.id = Reg.SEC_DBG_LOCKLEFT.id then some (leftOf s.now s.sec.lockEnd 1000000000 16)
  else if f.id = Reg.SEC_SLOTS_PROG.id then some (maskOf (fun k => (s.nv.keySlot k).programmed) 3)
  else if f.id = Reg.SEC_SLOTS_REVOKED.id then some (maskOf (fun k => (s.nv.keySlot k).revoked) 3)
  else if f.id = Reg.SEC_SLOTS_FWSLOT.id then some (s.slot s.nv.active).signer
  else if f.id = Reg.SEC_CTR.id then some s.nv.secCtr
  else if f.id = Reg.SEC_SERIAL_LO.id then some (s.nv.serial % 2 ^ 32)
  else if f.id = Reg.SEC_SERIAL_HI.id then some (s.nv.serial / 2 ^ 32)
  else if f.id = Reg.SEC_VCNT_VIOLS.id then some s.flt.violCnt
  else if f.id = Reg.SEC_VCNT_NEXT.id then some s.flt.violNext
  else if f.id = Reg.ACC_STAT_LOCKLEFT.id then some (leftOf s.now s.acc.lockEnd 1000000000 16)
  else if f.id = Reg.ACC_STAT_RELKEYS.id then some (b2n s.nv.relKeys.isSome)
  else if f.id = Reg.ACC_CNT_WINFAILS.id then some s.recentFails.length
  else if f.id = Reg.ACC_RELCTR.id then some s.acc.ctr
  else if f.id = Reg.UPD_STAT_STATE.id then some st
  else if f.id = Reg.UPD_STAT_ACTIVE.id then some s.nv.active
  else if f.id = Reg.UPD_STAT_FALLBACK.id then some (b2n s.nv.fallback)
  else if f.id = Reg.UPD_STAT_LASTFAIL.id then some s.nv.lastFail
  else if f.id = Reg.UPD_VERA.id then some (s.nv.fwVersion 0)
  else if f.id = Reg.UPD_VERB.id then some (s.nv.fwVersion 1)
  else if f.id = Reg.UPD_SVN_FUSED.id then some s.nv.fusedSvn
  else if f.id = Reg.UPD_SVN_STAGED.id then some (if st = 2 then (s.slot s.stagingSlot).svn else 0)
  else if f.id = Reg.UPD_BYTES.id then some (if st = 1 ∨ st = 2 then (s.slot s.stagingSlot).top else 0)
  else none

/-- The value of field `f` at index `i` as a read shows it. -/
def State.shown (s : State) (f : Field) (i : Nat) : Nat :=
  (match s.shownOut f i with
   | some v => v
   | none => match s.shownNet f i with
     | some v => v
     | none => match s.shownSys f with | some v => v | none => if f.acc = .wo then 0 else s.rd f i) % 2 ^ f.width

/-- The fields of the register at `win`, `off` as one word. -/
def State.fieldWord (s : State) (win off : Nat) : Nat :=
  (fieldsAt win off).foldl (fun v p => v + s.shown p.1 p.2 * 2 ^ p.1.lo) 0

/-! ### Window 01h (R145) -/

def CmdRing.word (r : CmdRing) (busy hold : Bool) (reg : Nat) : Nat :=
  match reg with
  | 0 => r.baseLo * 4096 | 1 => r.baseHi
  | 2 => r.log2sz + 16 * r.cplsel + 4096 * r.rpri + 65536 * b2n r.en
  | 3 => r.head + 65536 * r.tail | 4 => r.hwbLo * 4 | 5 => r.hwbHi
  | 6 => b2n busy + 2 * b2n hold + 4 * b2n r.fetcherr + 256 * r.dberr
  | _ => r.last

def OutRing.cfgWord (r : OutRing) : Nat := r.log2sz + 16 * r.vec + 256 * r.modcnt + 65536 * r.modtime + 2 ^ 31 * b2n r.en

def OutRing.word (r : OutRing) (evt : Bool) (owed reg : Nat) : Nat :=
  match reg with
  | 0 => r.baseLo * 4096 | 1 => r.baseHi | 2 => r.cfgWord | 3 => r.tail + 65536 * r.head
  | 4 => if evt then r.lost + 65536 * r.evseq else owed + 65536 * r.skipdef
  | 5 => r.dberr | _ => 0

/-- Commands of the ring are in flight (CMDn_STAT.BUSY). -/
def State.ringBusy (s : State) (pf n : Nat) : Bool :=
  s.host.inflight.any fun r => r.cmd.pf == pf && r.cmd.ring == n && r.cmd.src == .host

/-- Fetch waits on R109, R113, R714 or a freeze (CMDn_STAT.HOLD). -/
def State.ringHold (s : State) (pf n : Nat) : Bool :=
  let r := s.cmdRing pf n
  r.en && r.head != r.tail && ((s.fn pf).frozen || !s.tagFree pf || decide ((s.cplRing pf r.cplsel).free ≤ s.host.owed pf r.cplsel) || s.journalBars pf n)

/-- Window 01h in the view of `pf` (R87, R145). -/
def State.hrWord (s : State) (pf off : Nat) : Nat :=
  let f := s.fn pf
  if off = 0 then pf + 256 * b2n f.enable + 512 * b2n f.frozen + 65536 * f.gen
  else if off = 4 then s.ownTags pf + 65536 * s.allTags
  else if off = 8 then f.stale + 65536 * f.aborted
  else if off = 0x10 then f.ownsel
  else if off = 0x14 then (if (objKind f.ownsel).isSome then s.owner f.ownsel else 0)
  else if 0x100 ≤ off ∧ off < 0x500 then
    let n := (off - 0x100) / 32
    (s.cmdRing pf n).word (s.ringBusy pf n) (s.ringHold pf n) ((off - 0x100) % 32 / 4)
  else if 0x500 ≤ off ∧ off < 0x900 then
    let m := (off - 0x500) / 32
    (s.cplRing pf m).word false (s.host.owed pf m) ((off - 0x500) % 32 / 4)
  else if 0x900 ≤ off ∧ off < 0x918 then (s.evtRing pf).word true 0 ((off - 0x900) / 4)
  else 0

/-! ### Window 05h (R141, R816) -/

/-- The numbers that are blocks (R787). -/
def isBlock (w : Nat) : Bool := decide (w ≤ 0x21) && !([0x06, 0x07, 0x0F, 0x13, 0x15, 0x16, 0x17].contains w)

/-- W1C bits that are no faults (R788). -/
def wakeFields : List Field := [Reg.SW_WAKE0, Reg.SW_WAKE1, Reg.NM_WLATCH0, Reg.NM_WLATCH1]

/-- A W1C fault bit of window `win` is set. -/
def State.w1cSet (s : State) (win : Nat) : Bool :=
  (Reg.byWindow win).any fun f => f.acc == .w1c && !f.isIn wakeFields && (tget [] s.regs f.id).any fun e => e.2 != 0 && (f.place e.1).1 == win

/-- FLT_STAT.PERSIST of block `w` (R794): a fault source of the block is still set. -/
def State.persists (s : State) (w : Nat) : Bool :=
  (if w = 0x14 then [0x14, 0x15, 0x16, 0x17] else [w]).any s.w1cSet
  || s.out.objs.any (fun e => objWin e.1 == w && s.latched e.1)
  || (w == 1 && ((List.range 4).any (fun k => (s.fn k).frozen) || s.host.cmdRings.any fun e => e.2.fetcherr))
  || (w == 0x1E && (List.range 4).any fun k => s.rd Reg.FIFE_STAT_STATE k == 3)

/-- Bits of the active flags that a word of FLT_SUM shows. -/
def State.fltSum (s : State) (lo n : Nat) : Nat := maskOf (fun k => isBlock (lo + k) && (s.blk (lo + k)).active) n

def ClampEntry.word (e : ClampEntry) (k : Nat) : Nat :=
  match k with
  | 0 => e.offset % 4096 + e.lsb * 4096 + (e.width - 1) * 2 ^ 17 + e.src * 2 ^ 22 + e.pf * 2 ^ 24
  | 1 => e.req % 2 ^ 32 | 2 => e.applied % 2 ^ 32 | _ => e.tag + 65536 * e.object

/-- An entry never written reads 0. -/
def ClampLog.word (l : ClampLog) (k reg : Nat) : Nat :=
  match l.entries.find? (fun p => p.1 == k) with | some p => p.2.word reg | none => 0

/-- Window 05h in the view of `pf`; none for the registers of the register file. -/
def State.fltWord (s : State) (pf off : Nat) : Option Nat :=
  let f := s.fn pf
  let log := tget ({} : ClampLog) s.flt.clogs f.clogSel
  if off < 0x440 then
    let w := off / 32
    let b := s.blk w
    if !isBlock w then some 0
    else match off % 32 / 4 with
      | 0 => some (b2n b.active + 2 * b2n (s.persists w) + 256 * b.merge + 65536 * b.firstev)
      | 1 => some (f.ctl w)
      | 2 => some (b.faults + 65536 * b.refused)
      | 3 => some (b.hist.length + 65536 * b.evcnt)
      | _ => some 0
  else if off = 0x600 then some (s.fltSum 0 32)
  else if off = 0x604 then some (s.fltSum 32 2)
  else if off = 0x700 then some (maskOf (fun k => (s.fn k).frozen) 4 + 256 * s.flt.frzcnt + 65536 * s.flt.lastrsn)
  else if off = 0x704 then some 0
  else if off = 0x800 then some f.clogSel
  else if off = 0x804 then some (log.total + 65536 * log.next)
  else if 0x900 ≤ off ∧ off < 0xA00 then some (log.word ((off - 0x900) / 16) (off % 16 / 4))
  else none

/-! ### Other registers with a home of their own -/

/-- The log entry at a position of a table, none never written. -/
def logAt {α : Type} (t : Tab α) (k : Nat) : Option α := (t.find? (fun p => p.1 == k)).map (·.2)

def codeNum : Code → Nat
  | .done => 0 | .doneClamped => 1 | .deferred => 0x10 | .refusedBudget => 0x20 | .refusedPolicy => 0x21 | .refusedSecurity => 0x22
  | .refusedState => 0x23 | .abortedReset => 0x30 | .cancelled => 0x31 | .sentLateCancel => 0x32 | .faulted => 0x40 | .unverified => 0x41
  | .masterFrozen => 0x50

def ArbLog.word (e : ArbLog) (k : Nat) : Nat :=
  match k with
  | 0 => e.tag + 65536 * e.object
  | 1 => codeNum e.code + 256 * e.cls + 1024 * e.pf + 4096 * b2n e.internal + 65536 * e.sub
  | 2 => e.time % 2 ^ 32 | _ => e.time / 2 ^ 32 % 2 ^ 32

def Violation.word (v : Violation) (k : Nat) : Nat :=
  match k with
  | 0 => v.pf + 16 * v.kind + 256 * v.win + 65536 * v.off
  | 1 => v.addr % 2 ^ 32 | 2 => v.addr / 2 ^ 32 % 2 ^ 32 | _ => v.time % 2 ^ 32

def Coll.word (x : Coll) (k : Nat) : Nat :=
  if k = 0 then x.id % 2 ^ 30 + 2 ^ 30 * b2n x.blocked + 2 ^ 31 else x.count + 256 * x.pos

/-- Bytes `4j` to `4j + 3` of the pixel back buffer. -/
def Matrix.pixWord (m : Matrix) (j : Nat) : Nat := ofLe ((List.range 4).map fun i => m.back.getD (4 * j + i) 0)

/-- A word of node table entry `j` of the selected segment. -/
def State.nodeWord (s : State) (j k : Nat) : Nat :=
  match logAt (s.seg (s.rd Reg.NM_NSEL_SEG)).nodes j with
  | none => 0
  | some n => if k = 0 then n.nid + 256 + 65536 * min 0xFFFF n.kacnt else min (2 ^ 32 - 1) (n.kept / 100000000)

/-- Bits of a list of entries in word `w` of a map. -/
def mapWord (es : List Nat) (w : Nat) : Nat := maskOf (fun b => es.contains (32 * w + b)) 32

/-- CAN channel whose registers stand at `win`, `off`: four in each of windows 14h to 17h, 400h apart. -/
def canAt (win off : Nat) : Nat := 4 * (win - 0x14) + off / 0x400

/-- The word at `win`, `off` where its home is not the register file. -/
def State.ownWord (s : State) (pf win off : Nat) : Option Nat :=
  if win = 1 then some (s.hrWord pf off)
  else if win = 5 then s.fltWord pf off
  else if win = 4 ∧ 0x200 ≤ off ∧ off < 0x280 then
    some (match logAt s.flt.viols ((off - 0x200) / 16) with | some v => v.word (off % 16 / 4) | none => 0)
  else if win = 0x0E ∧ 0x200 ≤ off ∧ off < 0x400 then
    some (match logAt s.arb.log ((off - 0x200) / 16) with | some e => e.word (off % 16 / 4) | none => 0)
  else if win = 0x0C ∧ 0x20 ≤ off ∧ off < 0x30 then some (s.out.mx.openMap / 2 ^ (8 * (off - 0x20)) % 2 ^ 32)
  else if win = 0x0C ∧ 0x30 ≤ off ∧ off < 0x40 then some (maskOf (fun b => s.mxUnver (8 * (off - 0x30) + b)) 32)
  else if win = 0x0C ∧ 0x100 ≤ off ∧ off < 0x180 then some (s.out.mx.pixWord ((off - 0x100) / 4))
  else if 0x14 ≤ win ∧ win ≤ 0x17 ∧ 0x80 ≤ off % 0x400 ∧ off % 0x400 < 0xC0 then
    let k := off % 0x400 - 0x80
    some (match logAt (s.can (canAt win off)).coll (k / 8) with | some x => x.word (k % 8 / 4) | none => 0)
  else if win = 0x19 ∧ off = 0xC44 then
    some (tget 0x0F4240FF s.net.gateList (128 * s.rd Reg.QBV_SEL_PORT + s.rd Reg.QBV_SEL_ENTRY))
  else if win = 0x1A ∧ 0x40 ≤ off ∧ off < 0x80 then some (s.net.staging / 2 ^ (8 * (off - 0x40)) % 2 ^ 32)
  else if win = 0x1A ∧ 0x80 ≤ off ∧ off < 0x98 then some (tget 0 (s.fit s.fitIdx).counts ((off - 0x80) / 4))
  else if win = 0x1B ∧ off < 0x800 then some (mapWord s.net.wd (off / 4))
  else if win = 0x1B ∧ off < 0x1000 then some (mapWord s.net.hit ((off - 0x800) / 4))
  else if win = 0x1C ∧ 0xC80 ≤ off ∧ off < 0xD00 then some (s.nodeWord ((off - 0xC80) / 8) (off % 8 / 4))
  else none

/-- The 32-bit word that a setup read of `pf` at `win`, `off` returns; 0 where no register stands (R10). -/
def State.readWord (s : State) (pf win off : Nat) : Nat :=
  match s.ownWord pf win off with
  | some v => v % 2 ^ 32
  | none => s.fieldWord win off % 2 ^ 32

/-! ### Reads that return a field to its reset value (R19) -/

/-- What a read of window 01h at `off` clears. -/
def HostState.rcRead (h : HostState) (pf off : Nat) : HostState :=
  let f : Func := tget {} h.fns pf
  if off = 8 then h.setFn pf { f with stale := 0, aborted := 0 }
  else if 0x100 ≤ off ∧ off < 0x500 ∧ (off - 0x100) % 32 = 0x18 then
    let n := (off - 0x100) / 32
    h.setCmdRing pf n { (tget {} h.cmdRings (32 * pf + n) : CmdRing) with dberr := 0 }
  else if 0x500 ≤ off ∧ off < 0x900 then
    let m := (off - 0x500) / 32
    let r : OutRing := tget {} h.cplRings (32 * pf + m)
    match (off - 0x500) % 32 with
    | 0x10 => h.setCplRing pf m { r with skipdef := 0 }
    | 0x14 => h.setCplRing pf m { r with dberr := 0 }
    | _ => h
  else
    let r : OutRing := tget {} h.evtRings pf
    if off = 0x910 then h.setEvtRing pf { r with lost := 0 } else if off = 0x914 then h.setEvtRing pf { r with dberr := 0 } else h

/-- What a read of window 05h at `off` clears. -/
def FaultState.rcRead (x : FaultState) (off : Nat) : FaultState :=
  if off < 0x440 ∧ off % 32 = 8 then { x with blks := tput x.blks (off / 32) { (tget {} x.blks (off / 32) : Blk) with faults := 0, refused := 0 } }
  else if off = 0x700 then { x with frzcnt := 0 } else x

/-- The state after a setup read of `pf` at `win`, `off`. -/
def State.rcRead (s : State) (pf win off : Nat) : State :=
  let s := (fieldsAt win off).foldl (fun s p => if p.1.acc = .rc then s.rstField p.1 p.2 else s) s
  if win = 1 then { s with host := s.host.rcRead pf off }
  else if win = 5 then { s with flt := s.flt.rcRead off }
  else if win = 4 ∧ off = 0x1C then { s with flt := { s.flt with violCnt := 0 } }
  else if win = 0x1B ∧ 0x800 ≤ off then
    { s with net := { s.net with hit := s.net.hit.filter fun e => !(decide (32 * ((off - 0x800) / 4) ≤ e ∧ e < 32 * ((off - 0x800) / 4) + 32)) } }
  else s

end Sys2Proof.Machine
end

