-- ==== Sys2Proof/Machine/Host.lean ====
section
/-!
DEFINITION. Sys2Proof/Machine/Host.lean: doorbells, ring registers, fetching and CANCEL (R97 to R123, R132, R145).
-/
namespace Sys2Proof.Machine

/-! ### Doorbells (R103, R104, R131, R821) -/

/-- DOORBELL_BAD, to the function's own ring (R139). -/
def State.doorbellBad (s : State) (pf kind ring v : Nat) : State :=
  s.raiseTo 0x0182 0xFFFF (atByte 16 kind + atByte 17 ring + atByte 20 v) false [pf]

/-- A new tail of command ring `n`. -/
def State.dbCmd (s : State) (pf n v : Nat) : State :=
  let r := s.cmdRing pf n
  let size := 2 ^ r.log2sz
  if r.en ∧ v < 65536 ∧ (v + 65536 - r.head) % 65536 ≤ size ∧ (v + 65536 - r.tail) % 65536 ≤ size then s.setCmdRing pf n { r with tail := v }
  else (s.setCmdRing pf n { r with dberr := satAdd 8 r.dberr 1 }).doorbellBad pf 0 n v

/-- The new head lies from the previous head to the tail. -/
def OutRing.headOk (r : OutRing) (v : Nat) : Bool := r.en && decide (v < 65536) && decide ((v + 65536 - r.head) % 65536 ≤ r.used)

/-- A new head of completion ring `m`. -/
def State.dbCpl (s : State) (pf m v : Nat) : State :=
  let r := s.cplRing pf m
  if r.headOk v then s.setCplRing pf m { r with head := v }
  else (s.setCplRing pf m { r with dberr := satAdd 8 r.dberr 1 }).doorbellBad pf 1 m v

/-- A new head of the event ring. -/
def State.dbEvt (s : State) (pf v : Nat) : State :=
  let r := s.evtRing pf
  if r.headOk v then s.setEvtRing pf { r with head := v }
  else (s.setEvtRing pf { r with dberr := satAdd 8 r.dberr 1 }).doorbellBad pf 2 0 v

/-- A doorbell at page offset `off`. -/
def State.doorbell (s : State) (pf off v : Nat) : State :=
  if off < 0x80 then s.dbCmd pf (off / 4) v else if off < 0x100 then s.dbCpl pf (off / 4 - 32) v else s.dbEvt pf v

/-- LOGIC_RDY has been reached (R820, R821). -/
def State.running (s : State) : Bool := match s.pwr.phase with | .run => true | .entering _ => true | _ => false

/-- A doorbell write reaches the module: ignored while the function is frozen, and held until LOGIC_RDY. -/
def State.ring (s : State) (pf off v : Nat) : State :=
  if !s.host.linkUp || decide (4 ≤ pf) then s
  else if (s.fn pf).frozen then s
  else if !s.running then { s with host := { s.host with earlyDb := s.host.earlyDb ++ [(pf, off, v)] } }
  else s.doorbell pf off v

/-- A write of `size` bytes to the function's BAR2 page: only an aligned 32-bit write to a doorbell has an effect (R103). -/
def State.bar2Write (s : State) (pf off size v : Nat) : State := if size = 4 ∧ off % 4 = 0 ∧ off ≤ 0x100 then s.ring pf off (v % 2 ^ 32) else s

/-! ### The MSI-X table and the pending bits in BAR4 (R80, R144) -/

/-- The host writes the mask bit of vector `v` of `pf`; a pending message of an unmasked vector is sent. -/
def State.vecMaskWrite (s : State) (pf v : Nat) (mask : Bool) : State :=
  let f := s.fn pf
  if mask then s.setFn pf { f with vecMask := setBit f.vecMask v }
  else
    let h := s.host.setFn pf { f with vecMask := clrBit f.vecMask v, vecPend := clrBit f.vecPend v }
    { s with host := if bit f.vecPend v then h.signal pf v else h }

/-- BAR4 as it reads: entry `v` of the table at 16 v holds address, upper address, data and vector control, and the pending bits start at 800h.  The layout
of an entry is PCI's (PRESUMED, log entry 83). -/
def State.bar4Word (s : State) (pf off : Nat) : Nat :=
  let f := s.fn pf
  let v := off / 16
  if off = 0x800 then f.vecPend
  else if 256 ≤ off then 0
  else match off % 16 / 4 with
    | 0 => tget 0 f.vecAddr v % 2 ^ 32 | 1 => tget 0 f.vecAddr v / 2 ^ 32 | 2 => tget 0 f.vecData v | _ => b2n (bit f.vecMask v)

/-- The host writes the 32-bit word at `off` of BAR4. -/
def State.bar4Write (s : State) (pf off v : Nat) : State :=
  let f := s.fn pf
  let k := off / 16
  let a := tget 0 f.vecAddr k
  if 256 ≤ off then s
  else match off % 16 / 4 with
    | 0 => s.setFn pf { f with vecAddr := tput f.vecAddr k (a / 2 ^ 32 * 2 ^ 32 + v - v % 4) }
    | 1 => s.setFn pf { f with vecAddr := tput f.vecAddr k (a % 2 ^ 32 + v * 2 ^ 32) }
    | 2 => s.setFn pf { f with vecData := tput f.vecData k v }
    | _ => s.vecMaskWrite pf k (bit v 0)

/-! ### Window 01h (R105 to R108, R143, R145) -/

/-- The clamp of one field, when the applied value is another than the requested one. -/
def pick (pf offset lsb width req applied : Nat) : List ClampEntry :=
  if req = applied then [] else [{ offset, lsb, width, src := 0, pf, req, applied }]

/-- A field that EN locks (R106). -/
def keepIf (lock : Bool) (old new : Nat) : Nat := if lock then old else new

/-- Register `reg` of command ring `n` is written with `v`. -/
def State.cmdRingWrite (s : State) (pf n reg v : Nat) : State × List ClampEntry :=
  let r := s.cmdRing pf n
  let o := 0x100 + 32 * n + 4 * reg
  match reg with
  | 0 => let x := keepIf r.en r.baseLo (bits v 12 20)
         (s.setCmdRing pf n { r with baseLo := x }, pick pf o 12 20 (bits v 12 20) x)
  | 1 => let x := keepIf r.en r.baseHi v
         (s.setCmdRing pf n { r with baseHi := x }, pick pf o 0 32 v x)
  | 2 =>
    let l := keepIf r.en r.log2sz (clampNat 4 12 (bits v 0 4))
    let c := keepIf r.en r.cplsel (bits v 4 5)
    let want := bit v 16
    let on := if want && !r.en then (s.cplRing pf c).en && !s.ringBusy pf n else want
    let r' := { r with log2sz := l, cplsel := c, rpri := bits v 12 2, en := on }
    let r' := if on && !r.en then { r' with head := 0, tail := 0, last := 0, stopped := false } else r'
    (s.setCmdRing pf n r', pick pf o 0 4 (bits v 0 4) l ++ pick pf o 4 5 (bits v 4 5) c ++ pick pf o 16 1 (b2n want) (b2n on))
  | 4 => let x := keepIf r.en r.hwbLo (bits v 2 30)
         (s.setCmdRing pf n { r with hwbLo := x }, pick pf o 2 30 (bits v 2 30) x)
  | 5 => let x := keepIf r.en r.hwbHi v
         (s.setCmdRing pf n { r with hwbHi := x }, pick pf o 0 32 v x)
  | 6 => (if bit v 2 then s.setCmdRing pf n { r with fetcherr := false } else s, [])
  | _ => (s, [])

/-- Register `reg` at offset `o` of a completion ring or an event ring is written; `stays` keeps EN at 1 (R105). -/
def OutRing.write (r : OutRing) (pf o reg v : Nat) (stays : Bool) : OutRing × List ClampEntry :=
  match reg with
  | 0 => let x := keepIf r.en r.baseLo (bits v 12 20); ({ r with baseLo := x }, pick pf o 12 20 (bits v 12 20) x)
  | 1 => let x := keepIf r.en r.baseHi v; ({ r with baseHi := x }, pick pf o 0 32 v x)
  | 2 =>
    let l := keepIf r.en r.log2sz (clampNat 4 12 (bits v 0 4))
    let m := max 1 (bits v 8 8)
    let on := bit v 31 || (r.en && stays)
    let r' := { r with log2sz := l, vec := bits v 4 4, modcnt := m, modtime := bits v 16 10, en := on }
    let r' := if on && !r.en then { r' with head := 0, tail := 0, unsig := 0 } else r'
    (r', pick pf o 0 4 (bits v 0 4) l ++ pick pf o 8 8 (bits v 8 8) m ++ pick pf o 31 1 (bits v 31 1) (b2n on))
  | _ => (r, [])

/-- An enabled command ring names completion ring `m`, or it is owed completions (R105). -/
def State.cplNeeded (s : State) (pf m : Nat) : Bool :=
  (List.range 32).any (fun n => let r := s.cmdRing pf n; r.en && r.cplsel == m) || s.host.owed pf m != 0

/-- The held events of a return from Stop that the ring of `pf` is owed (R843). -/
def State.giveWake (s : State) (pf : Nat) : State :=
  if !s.host.wakeOwed.contains pf then s
  else
    let es := s.host.wakeEvents.filter fun e => (s.routes e.object).contains pf
    let h := { s.host with wakeOwed := s.host.wakeOwed.filter (· != pf) }
    { s with host := es.foldl (fun h e => h.putEvent s.dmaOk s.now pf e) h }

/-- The event ring's register `reg` is written. -/
def State.evtRingWrite (s : State) (pf reg v : Nat) : State × List ClampEntry :=
  let r := s.evtRing pf
  let x := r.write pf (0x900 + 4 * reg) reg v false
  if x.1.en && !r.en then ((s.setEvtRing pf { x.1 with evseq := 0 }).giveWake pf, x.2) else (s.setEvtRing pf x.1, x.2)

/-- The owner that a write of HR_OWNDAT leaves (R82, R145). -/
def ownerClamp (o old v : Nat) : Nat := if (objKind o).isNone then 0 else if o = 0x500 then 3 else if v = 2 then old else v

/-- Window 01h at `off` is written by `pf`. -/
def State.hrWrite (s : State) (pf off v : Nat) : State × List ClampEntry :=
  let f := s.fn pf
  if off = 0 then (s.setFn pf { f with enable := bit v 8 }, [])
  else if off = 0x10 then (s.setFn pf { f with ownsel := bits v 0 16 }, [])
  else if off = 0x14 then
    if pf = 0 then
      let o := f.ownsel
      let w := ownerClamp o (s.owner o) (bits v 0 2)
      let s := if (objKind o).isSome then { s with host := { s.host with owners := tput s.host.owners o w } } else s
      (s, pick pf off 0 2 (bits v 0 2) w)
    else (s, [])
  else if 0x100 ≤ off ∧ off < 0x500 then s.cmdRingWrite pf ((off - 0x100) / 32) ((off - 0x100) % 32 / 4) v
  else if 0x500 ≤ off ∧ off < 0x900 then
    let m := (off - 0x500) / 32
    let x := (s.cplRing pf m).write pf off ((off - 0x500) % 32 / 4) v (s.cplNeeded pf m)
    (s.setCplRing pf m x.1, x.2)
  else if 0x900 ≤ off ∧ off < 0x918 then s.evtRingWrite pf ((off - 0x900) / 4) v
  else (s, [])

/-- A setup write of window 01h, with its clamps. -/
def State.hrSetup (s : State) (pf off v : Nat) : State :=
  let r := s.hrWrite pf off v
  r.1.logSetup 1 pf r.2

/-! ### Fetching (R96, R100, R109, R111, R132) -/

/-- One descriptor of a batch: entries that a freeze caught complete MASTER_FROZEN (R132), others are checked and taken up. -/
def State.fetchEntry (s : State) (pf n : Nat) (c0 : Cmd) : State × Bool :=
  let r := s.cmdRing pf n
  let c := { c0 with pf, ring := n, slot := r.head % 2 ^ r.log2sz, src := .host }
  let stop := ((s.fn pf).frzTail.find? fun e => e.1 == n).map (·.2)
  if !s.canFetch pf n || r.head == r.tail || !s.fetchTurn pf n || (s.journals c && s.journalFull) then (s, false)
  else
    let d := s.dma pf r.addr 32
    if !d.2 then (d.1, false)
    else
      let s := d.1.takeEntry pf n
      match stop with
      | some t =>
        let s := if (s.cmdRing pf n).head = t then s.setFn pf { s.fn pf with frzTail := (s.fn pf).frzTail.filter fun e => e.1 != n } else s
        (s.turnAway c .masterFrozen, true)
      | none =>
        let a := s.takeIn c
        (if a.2 && a.1.journals c then a.1.journal c else a.1, true)

/-- A fetched batch of at most 16 descriptors, and the head write-back after it. -/
def State.fetchBatch (s : State) (pf n : Nat) (batch : List Cmd) : State :=
  let r := (batch.take 16).foldl (fun (a : State × Bool × Bool) c =>
    if !a.2.1 then a else let x := a.1.fetchEntry pf n c; (x.1, x.2, a.2.2 || x.2)) (s, true, false)
  if r.2.2 && !(r.1.fn pf).frozen then r.1.headWb pf n else r.1

/-- A fetch that fails stops the ring (R111). -/
def State.fetchFail (s : State) (pf n : Nat) : State :=
  let r := s.cmdRing pf n
  let s := s.setCmdRing pf n { r with stopped := true, fetcherr := true }
  s.raiseTo 0x0183 0xFFFF (atByte 16 n + atByte 18 r.head) (!r.fetcherr) [pf]

/-! ### CANCEL (R121 to R123, R555) -/

/-- The channel of a CAN_SEND that has reached it decides about a CANCEL when it latches it (R555). -/
def InFlight.latched (r : InFlight) : Bool := r.started && r.cmd.op == 0x4001 && isKind .can r.cmd.object

/-- CANCEL `c` of the command in flight `r`. -/
def State.cancelOf (s : State) (c : Cmd) (r : InFlight) : State :=
  if r.begun || r.latched then s.modFlight r.cmd fun x => { x with cancels := x.cancels ++ [c] }
  else ((s.forget fun d => sameCmd d r.cmd).complete r.cmd .cancelled).complete c .done

def State.cancel (s : State) (c : Cmd) : State :=
  let t := c.arg 16 2
  match s.host.inflight.find? fun r => r.cmd.pf == c.pf && r.cmd.src == .host && r.cmd.tag == t with
  | none => s.complete c .refusedState 0x0106
  | some r => if t = c.tag then s.complete c .refusedState 0x0106 else s.cancelOf c r

/-! ### A failed read of host memory (R942) -/

/-- The command needs a read of host memory: a frame or its record, pixels, an image chunk, a signed record, a nonce. -/
def needsRead (c : Cmd) : Bool :=
  (c.op == 0x4001 && (isKind .eth c.object || (isKind .can c.object && c.argBits 21 0 1 == 0)))
  || [0x3004, 0x5010, 0x5011, 0x5013, 0x5020, 0x5021, 0x5030].contains c.op

end Sys2Proof.Machine
end

