-- ==== Sys2Proof/Machine/HostRows.lean ====
section
/-!
DEFINITION. Sys2Proof/Machine/HostRows.lean: the rows of the host attachment (R78 to R145): doorbells, rings, generic and class 1h commands, MSI-X, resets of
functions, the link.
-/
namespace Sys2Proof.Machine

/-! ### Doorbells and fetches -/

/-- `DB_CMD`: function `pf` writes `v` to DB_CMDn. -/
def execDbCmd (dt pf n v : Nat) (s : State) : Answered := .next (if n < 32 then (s.tick dt).ring pf (4 * n) v else s.tick dt).done

/-- `DB_CPL`: function `pf` writes `v` to DB_CPLm. -/
def execDbCpl (dt pf m v : Nat) (s : State) : Answered := .next (if m < 32 then (s.tick dt).ring pf (0x80 + 4 * m) v else s.tick dt).done

/-- `DB_EVT`: function `pf` writes `v` to DB_EVT. -/
def execDbEvt (dt pf v : Nat) (s : State) : Answered := .next ((s.tick dt).ring pf 0x100 v).done

/-- `COMMAND_FETCH`: the batch fetched for ring `n` of `pf`, or a fetch that fails (R96, R100, R111). -/
def execCommandFetch (dt pf n : Nat) (batch : List Cmd) (fail : Bool) (s : State) : Answered :=
  let s := s.tick dt
  .next (if 4 ≤ pf ∨ 32 ≤ n then s
  else if fail then (if s.fetchable (32 * pf + n) && s.fetchTurn pf n then s.fetchFail pf n else s)
  else s.fetchBatch pf n batch).done

/-- `DMA_READ_FAIL`: a read that command `c` needs fails; none of its effect is applied (R942). -/
def execDmaReadFail (dt : Nat) (c : Cmd) (s : State) : Answered :=
  let s := s.tick dt
  .next (if !needsRead c then s
  else
    match s.flight c with
    | some r => if r.begun then s else (s.forget fun d => sameCmd d c).complete c .faulted 0x010B
    | none => let r := s.arrive c; if r.2 then r.1.complete c .faulted 0x010B else r.1).done

/-! ### Class 0h -/

/-- `NOP`. -/
def execNop (dt : Nat) (c : Cmd) (s : State) : Answered := .next (s.serveOp dt c 0x0000 [] fun s => s.complete c .done).done

/-- `CANCEL`. -/
def execCancel (dt : Nat) (c : Cmd) (s : State) : Answered := .next (s.serveOp dt c 0x0001 [] fun s => s.cancel c).done

/-- `SET_TIME` (R90, R623, R626). -/
def execSetTime (dt : Nat) (c : Cmd) (s : State) : Answered :=
  .next (s.serveOp dt c 0x0002 [] fun s =>
    if s.rd Reg.GPTP_CFG_ROLE = 2 then s.complete c .refusedState 0x010A
    else
      let s := s.begin c
      ({ s with ntime := c.arg 16 8, pwr := { s.pwr with timeSet := true } }).timeJump.complete c .done).done

/-! ### Class 1h -/

/-- Every kind of listed object. -/
def allKinds : List Kind := [.hs, .ls, .hb, .ld, .mx, .sv, .bst, .sw, .ii, .io, .can, .lin, .eth, .loop, .twin, .access]

/-- Registers at `win`, from a list of offsets, as bytes. -/
def State.regBytes (s : State) (win : Nat) (offs : List Nat) : List Byte := offs.flatMap fun o => leBytes 4 (s.readWord 0 win o)

/-- The word of the register in which field `f` stands at index `i`. -/
def State.wordOf (s : State) (f : Field) (i : Nat) : List Byte := let p := f.place i; leBytes 4 (s.readWord 0 p.1 p.2)

/-- `n` bytes of a result that the spec does not lay out (log entry 45). -/
def State.freeBytes (s : State) (op o n : Nat) : List Byte := (List.range n).map fun k => Config.unstatedResult op o s.now k % 256

/-- The status block of an object (R216, R428, R494, R536, R587, R742, R904). -/
def State.statusBytes (s : State) (o : Nat) : List Byte :=
  let n := objNum o
  match objKind o with
  | some (.hs, _) | some (.ls, _) =>
    s.regBytes (objWin o) [0x20 * n + 0x14, 0x20 * n + 0x1C, 0x20 * n + 0x18, 0x20 * n + 0x10]
      ++ leBytes 2 (s.supply o) ++ leBytes 2 (s.rd Reg.GLB_TCASE_TC) ++ leBytes 4 0 ++ leBytes 8 (s.obj o).changed
  | some (.sv, _) =>
    s.regBytes 0x0D ([0x18, 0x1C, 0x20, 0x24, 0x28].map (0x40 * n + ·)) ++ leBytes 2 (s.rd Reg.BST_STAT_VBST) ++ leBytes 2 (s.groupVolt 6)
      ++ leBytes 8 (s.valve n).startNt
  | some (.loop, _) =>
    s.regBytes 0x10 [0x40 * n + 0x34, 0x40 * n + 0x38, 0x40 * n + 0x3C, 0xC00 + 0x10 * n, 0xC04 + 0x10 * n, 0xC08 + 0x10 * n]
      ++ leBytes 8 (s.loop n).validNt
  | some (.sw, _) => s.regBytes 0x11 ([0, 4, 8, 12].map (0x10 * n + ·)) ++ leBytes 8 (s.sw n).changed
  | some (.ii, _) => s.regBytes 0x12 ([0, 4, 8, 12].map (0x10 * n + ·)) ++ leBytes 8 (s.ii n).changed
  | some (.io, _) => s.regBytes 0x12 ([0, 4, 8, 12].map (0x400 + 0x10 * n + ·)) ++ leBytes 8 (s.obj o).changed
  | some (.can, _) =>
    s.wordOf Reg.CAN_STAT_STATE n ++ s.wordOf Reg.CAN_LASTERR_TYPE n ++ s.wordOf Reg.CAN_TDC_TDCV n ++ s.wordOf Reg.TM_STAT_CYCLE n
      ++ s.wordOf Reg.RXQ_IDX_TAIL n ++ leBytes 4 0 ++ leBytes 8 (s.can n).changed
  | some (.lin, _) => s.wordOf Reg.LIN_STAT_STATE n ++ s.wordOf Reg.RXQ_IDX_TAIL (16 + n)
  | some (.twin, _) =>
    s.regBytes 0x1D [0x40, 0x44, 0x30, 0x50, 0x58] ++ leBytes 4 0 ++ leBytes 8 (match s.twin.active with | some i => i.snap | none => 0)
  | some (.access, _) => s.regBytes 0x20 [0x10, 0x14, 0x18, 0x1C] ++ leBytes 8 s.acc.changed
  | _ => s.freeBytes 0x1000 o 32

/-- The counter set of an object (R217, R429, R494, R587, R742, R904). -/
def State.counterBytes (s : State) (o : Nat) : List Byte :=
  let n := objNum o
  let set := fun (t : Tab Nat) (k : Nat) => (List.range k).flatMap fun j => leBytes 4 (tget 0 t j)
  match objKind o with
  | some (.hs, _) | some (.ls, _) | some (.sv, _) => set (s.obj o).counts 8
  | some (.loop, _) => set (s.loop n).counts 8
  | some (.can, _) => set (s.can n).counts 8
  | some (.lin, _) => set (s.lin n).counts 4
  | some (.twin, _) => set s.twin.counts 8
  | some (.access, _) => set s.acc.counts 8
  | _ => s.freeBytes 0x1002 o 32

/-- A history entry of 32 bytes (R93, R799). -/
def HistEntry.bytes (e : HistEntry) : List Byte :=
  leBytes 2 e.event.type ++ [b2n e.merged + 2 * b2n e.fault + 4 * b2n e.refused, e.event.merge] ++ leBytes 2 e.event.object ++ leBytes 2 e.count
    ++ leBytes 8 e.event.time ++ leBytes 16 e.event.data

/-- The history queue of an object's block, newest first. -/
def State.historyBytes (s : State) (o : Nat) : List Byte :=
  let bs := (s.blk (blockOf (objWin o * 256))).hist.flatMap HistEntry.bytes
  bs ++ List.replicate (256 - bs.length) 0

/-- `READ_STATUS`. -/
def execReadStatus (dt : Nat) (c : Cmd) (s : State) : Answered :=
  .next (s.serveOp dt c 0x1000 allKinds fun s => s.answerWith c (s.statusBytes c.object)).done

/-- `READ_HISTORY`. -/
def execReadHistory (dt : Nat) (c : Cmd) (s : State) : Answered :=
  .next (s.serveOp dt c 0x1001 allKinds fun s => s.answerWith c (s.historyBytes c.object)).done

/-- `READ_COUNTERS`. -/
def execReadCounters (dt : Nat) (c : Cmd) (s : State) : Answered :=
  .next (s.serveOp dt c 0x1002 allKinds fun s => s.answerWith c (s.counterBytes c.object)).done

/-- `READ_RETIREMENTS`: whole records of 16 bytes from the first index on (R811, R814). -/
def execReadRetirements (dt : Nat) (c : Cmd) (s : State) : Answered :=
  .next (s.serveOp dt c 0x1005 [] fun s =>
    s.answerWith c (((s.nv.retired.drop (c.arg 26 2)).take (c.arg 24 2 / 16)).flatMap fun r => leBytes 16 r.data)).done

/-- `READ_IDENTITY`: the identity record and the certificate (R872). -/
def execReadIdentity (dt : Nat) (c : Cmd) (s : State) : Answered :=
  .next (s.serveOp dt c 0x1006 [] fun s =>
    s.answerWith c (recBytes s.nv.identity 0 336 ++ leBytes 2 s.nv.certificate.length ++ leBytes 6 0 ++ s.nv.certificate)).done

/-! ### Rings, owners -/

/-- A setup write of window 01h reaches the module: from OSC_RDY on, while the link is up, from a function that is not frozen (R131, R821). -/
def State.hrReach (s : State) (pf : Nat) : Bool := s.host.linkUp && decide (pf < 4) && !(s.fn pf).frozen

/-- EN of the ring whose CFG stands at `off` of window 01h is written with `on`, the register's other fields as they read. -/
def State.ringEn (s : State) (pf off k : Nat) (on : Bool) : State :=
  if !s.hrReach pf then s
  else let w := s.hrWord pf off; s.hrSetup pf off (if on then setBit w k else clrBit w k)

/-- `CMD_RING_ENABLE`: EN of command ring `n` is written 1 (R105, R107, R108). -/
def execCmdRingEnable (dt pf n : Nat) (s : State) : Answered := .next (if n < 32 then (s.tick dt).ringEn pf (0x108 + 32 * n) 16 true else s.tick dt).done

/-- `CMD_RING_DISABLE`: EN of command ring `n` is written 0 (R107). -/
def execCmdRingDisable (dt pf n : Nat) (s : State) : Answered := .next (if n < 32 then (s.tick dt).ringEn pf (0x108 + 32 * n) 16 false else s.tick dt).done

/-- `CPL_RING_ENABLE`: EN of completion ring `m` is written 1 (R108). -/
def execCplRingEnable (dt pf m : Nat) (s : State) : Answered := .next (if m < 32 then (s.tick dt).ringEn pf (0x508 + 32 * m) 31 true else s.tick dt).done

/-- `CPL_RING_DISABLE`: EN of completion ring `m` is written 0 (R105). -/
def execCplRingDisable (dt pf m : Nat) (s : State) : Answered := .next (if m < 32 then (s.tick dt).ringEn pf (0x508 + 32 * m) 31 false else s.tick dt).done

/-- `EVT_RING_ENABLE`: EN of the event ring is written 1 (R108, R843). -/
def execEvtRingEnable (dt pf : Nat) (s : State) : Answered := .next ((s.tick dt).ringEn pf 0x908 31 true).done

/-- `EVT_RING_DISABLE`: EN of the event ring is written 0 (R948). -/
def execEvtRingDisable (dt pf : Nat) (s : State) : Answered := .next ((s.tick dt).ringEn pf 0x908 31 false).done

/-- `OWNER_CHANGE`: PF0 writes `o` to HR_OWNSEL and `v` to HR_OWNDAT (R82, R83, R145). -/
def execOwnerChange (dt o v : Nat) (s : State) : Answered :=
  let s := s.tick dt
  .next (if s.hrReach 0 then (s.hrSetup 0 0x10 o).hrSetup 0 0x14 v else s).done

/-! ### MSI-X (R142 to R144) -/

/-- `MSIX_MODTIME_EXPIRY`: MODTIME after the first unsignalled entry of completion ring `m` of `pf` (kind 0), of its event ring (1), or of the receive
queue of segment `m` (2). -/
def execMsixModtimeExpiry (dt pf kind m : Nat) (s : State) : Answered :=
  let s := s.tick dt
  let due := fun (unsig at_ time : Nat) => decide (0 < unsig ∧ 0 < time ∧ at_ + time * 1000 ≤ s.now)
  .next (if !s.dieC || decide (4 ≤ pf) then s
  else match kind with
  | 0 => let r := s.cplRing pf m
         if due r.unsig r.unsigAt r.modtime then { s with host := (s.host.setCplRing pf m { r with unsig := 0 }).signal pf r.vec } else s
  | 1 => let r := s.evtRing pf
         if due r.unsig r.unsigAt r.modtime then { s with host := (s.host.setEvtRing pf { r with unsig := 0 }).signal pf r.vec } else s
  | _ => let q := s.rxq m
         if decide (m < 34) && due q.unsig q.unsigAt (s.rd Reg.RXQ_CFG_MODTIME m) then
           let s := s.modRxq m fun q => { q with unsig := 0 }
           { s with host := s.host.signal (s.owner (segObj m)) (s.rd Reg.RXQ_CFG_VEC m) }
         else s).done

/-- `MSIX_UNMASK`: the host writes the mask bit of vector `v` of `pf`; a pending message of an unmasked vector is sent (R144). -/
def execMsixUnmask (dt pf v : Nat) (mask : Bool) (s : State) : Answered :=
  let s := s.tick dt
  .next (if !s.host.linkUp || decide (4 ≤ pf ∨ 16 ≤ v) then s else s.vecMaskWrite pf v mask).done

/-! ### Resets of functions, the link -/

/-- `FUNCTION_LEVEL_RESET` of `pf`, over the link (R129, R943). -/
def execFunctionLevelReset (dt pf : Nat) (s : State) : Answered :=
  let s := s.tick dt
  .next (if s.host.linkUp && decide (pf < 4) then s.flr pf else s).done

/-- Die C is held in reset or starts up to OSC_RDY: the PCIe interface is in reset with it. -/
def State.inReset (s : State) : Bool := match s.pwr.phase with | .resetHold => true | _ => false

/-- `PE_PERST_ASSERT` (R130, R942, R943). -/
def execPePerstAssert (dt : Nat) (s : State) : Answered :=
  let s := s.tick dt
  let s : State := { s with host := { s.host with perst := true, linkUp := false } }
  .next (if s.inReset then { s with host := { s.host with perstLatched := true } } else if s.dieCOut then s.flrAll else s).done

/-- `PCIE_LINK_DOWN`. -/
def execPcieLinkDown (dt : Nat) (s : State) : Answered :=
  let s := s.tick dt
  .next ({ s with host := { s.host with linkUp := false } } : State).done

/-- The link may come up: OSC_RDY has been reached, the reference is present, PE_PERST_N is released, and the Commit phase of a Stop entry has not put it
into electrical idle (R821, R822, R828). -/
def State.linkCan (s : State) : Bool :=
  s.pwr.refPresent && !s.host.perst
  && (match s.pwr.phase with | .memory => true | .logic => true | .run => true | .entering k => decide (k < 5) | _ => false)

/-- `PCIE_LINK_UP`: writes that have waited are sent (R942), those of a frozen function after its release (R131), and PE_WAKE_N is released (R842). -/
def execPcieLinkUp (dt : Nat) (s : State) : Answered :=
  let s := s.tick dt
  .next (if s.linkCan then
    { s with host := { s.host with linkUp := true }.sendWaiting, pwr := { s.pwr with peWake := false } }
  else s).done

end Sys2Proof.Machine
end

