-- ==== Sys2Proof/Machine/Power.lean ====
section
/-!
DEFINITION. Sys2Proof/Machine/Power.lean: what a start of die C does, and what a return from Stop finds (R270, R769, R818 to R846, R914 to R922).
-/
namespace Sys2Proof.Machine

/-! ### The 40 MHz reference (R73 to R75, R822) -/

/-- TB2 to TB7 run (`b`) or stand still; TB8 and TB9 run from the backup while they stand still, and TB1 from its own source (R70, R73, R75). -/
def State.setRef (s : State) (b : Bool) : State :=
  let s := { s with pwr := { s.pwr with refPresent := b } }
  (s.wr Reg.TB_STAT_LOCK 0 (if b then 0x1FF else 0x181)).wrb Reg.TB_STAT_REFBKP 0 (!b)

/-- The reference is lost while die C cannot report it: REFCLK_LOSS is owed until LOGIC_RDY (R73, R822). -/
def State.refLostEarly (s : State) : State :=
  let s := (List.range 16).foldl (fun s n => s.modCan n fun x => { x with bus := none }) (s.setRef false)
  { s with pwr := { s.pwr with refOwed := true }, host := { s.host with linkUp := false } }

/-- The frame that port `p` has started does not finish: it waits in its queue again (R74; DEDUCED, log entry 57). -/
def State.portBack (s : State) (p : Nat) : State :=
  match (s.port p).line with
  | some b => s.modPort p fun x => { x with line := none, queue := sortBy (fun a c => decide (a.ord ≤ c.ord)) (b.tx :: x.queue) }
  | none => s

/-- The frame that CAN channel `n` has started does not finish: it is offered again, unless its CANCEL has been latched (R74, R555). -/
def State.canBack (s : State) (n : Nat) : State := match (s.can n).bus with | some b => s.canRetry n b | none => s

/-- The image whose transfer runs does not finish (R74). -/
def State.reedBack (s : State) : State :=
  s.tw fun t => { t with sent := t.sent.eraseP fun m => match m with | .image i xfer => i.cycle == t.cycle && decide (s.now < t.cycleAt + xfer) | _ => false }

/-- The LF frame that is being sent does not finish (R74). -/
def State.lfBack (s : State) : State := if s.now < s.acc.lfEnd then s.ac fun a => { a with lf := a.lf.tail, lfEnd := s.now } else s

/-- The 40 MHz reference is lost (R73, R74, R822): the interfaces stop, and none finishes a frame that it has started. -/
def State.refLost (s : State) : State :=
  let s := (s.setRef false).flagSet Reg.TB_STAT_REFCLK_LOSS 0 2 4 16
  let s : State := { s with host := { s.host with linkUp := false } }
  (List.range 8).foldl State.linBack ((List.range 10).foldl State.portBack ((List.range 16).foldl State.canBack s.reedBack.lfBack))

/-- Die C has its timebases and does not serve yet: it has left the Oscillator phase of a start, or a warm reset holds it, which keeps them. -/
def State.booting (s : State) : Bool :=
  match s.pwr.phase with
  | .memory | .logic => true
  | .resetHold => s.pwr.start == 2 && !s.pwr.brownout
  | _ => false

/-- `REFCLK_LOSS`: no edge for 2 µs (R73).  While die C starts, REFCLK_LOSS is set at the end of the start (R822). -/
def execRefclkLoss (dt : Nat) (s : State) : Answered :=
  let s := s.tick dt
  .next (if !s.pwr.refPresent then s
    else if s.dieC then s.refLost
    else if s.booting then s.refLostEarly
    else s).done

/-- `REFCLK_RETURN` (R75). -/
def execRefclkReturn (dt : Nat) (s : State) : Answered :=
  let s := s.tick dt
  .next (if (s.dieC || s.booting) && !s.pwr.refPresent then s.setRef true else s).done

/-! ### Wakes and phases -/

/-- A wake source's bit in PWR_WAKESRC (R835); the first latch's network time goes into WAKE_SOURCE (R847). -/
def State.wakeSrc (s : State) (k : Nat) : State :=
  let v := s.rd Reg.PWR_WAKESRC
  if bit v k then s
  else
    let s := s.wr Reg.PWR_WAKESRC 0 (setBit v k)
    s.pw fun p => { p with wakeNew := true, firstWake := if v = 0 then s.ntime else p.firstWake }

/-- Verdicts are UNVERIFIED after Stop, but for a channel still latched (R823). -/
def State.stopVerdicts (s : State) : State :=
  s.out.objs.foldl (fun s e =>
    if s.latched e.1 then s
    else
      let s := s.modObj e.1 fun x => { x with measAt := none, tookAt := none, absent := 0 }
      match verdField (kindOf e.1) with | some f => s.wr f (ix e.1) 0 | none => s) s

/-- The thermal models start at TCASE (R188, R823). -/
def State.stopThermal (s : State) : State :=
  let s := (List.range 64).foldl (fun s i => (s.wr Reg.CH_MEAS_TJ i (s.tcase / 8 + 50).toNat).wr Reg.CH_MEAS_DT i 0) s
  { s with out := { s.out with stageTj := [] } }

/-- Inputs are not valid, and no string's gain and no FIT entry has a sample (R823). -/
def State.stopSamples (s : State) : State :=
  let s := (List.range 64).foldl (fun s n => (s.wr Reg.SW_STAT_VALID n 0).modSw n fun x => { x with run := 0, smp := none }) s
  let s := (List.range 16).foldl (fun s n => (s.wr Reg.II_STAT_VALID n 0).modIi n fun x => { x with run := 0, smp := none }) s
  { s with
    out := { s.out with leds := s.out.leds.map fun e => (e.1, { e.2 with gSet := false }) }
    net := { s.net with
      fit := s.net.fit.map fun e => (e.1, { e.2 with value := none, since := s.now, lastE := (none, none), silent := (false, false), startAt := s.now })
      can := s.net.can.map fun e => (e.1, { e.2 with tec := 0, rec_ := 0, tmSof := none })
      syncOk := 0 } }

/-- What a return from Stop starts from, beside what is kept (R823). -/
def State.stopReturn (s : State) : State :=
  ((s.stopVerdicts.stopThermal).stopSamples).pw fun p => { p with timeSet := false }

/-- The return order begins (R838); `k` is the abort point that BOOT_DONE carries, 0 for a wake in Stop. -/
def State.returnOrder (s : State) (k : Nat) : State :=
  let s := (s.stopReturn.toPhase .regulator).pw fun p => { p with start := 1, bootAt := s.now, abortPt := k, wakeHit := false, forced := false, retryAt := 0 }
  (s.wr Reg.PWR_STAT_STATE 0 2).wr Reg.PWR_STAT_RDY 0 0

/-- A wake in Stop ends it: PWR_STOPT holds its length in units of 1/1,024 s (R835, R838, R846). -/
def State.stopEnd (s : State) : State :=
  if s.pwr.retryAt ≠ 0 then s
  else (s.wr Reg.PWR_STOPT 0 (min (2 ^ 32 - 1) ((s.now - s.pwr.stopAt) * 1024 / 1000000000))).returnOrder 0

/-- A wake reaches the module: it abandons a Stop entry at the next abort point, or ends Stop (R830, R835). -/
def State.wakes (s : State) : State :=
  match s.pwr.phase with
  | .entering _ => s.pw fun p => { p with wakeHit := true }
  | .stop => s.stopEnd
  | _ => s

/-- A length of a boot phase in 0.1 ms (R846). -/
def State.phaseLen (s : State) : Nat := min 255 ((s.now - s.pwr.phaseAt) / 100000)

/-- A ready signal of R820. -/
def State.setRdy (s : State) (k : Nat) : State := s.wr Reg.PWR_STAT_RDY 0 (setBit (s.rd Reg.PWR_STAT_RDY) k)

/-! ### Events held for the rings (R843) -/

/-- The event enters its block's history and fault state at once, and waits for the event rings. -/
def State.holdEvent (s : State) (type obj data time : Nat) (fault : Bool) : State :=
  let s := s.deliver type obj data time fault []
  { s with host := { s.host with wakeEvents := s.host.wakeEvents ++ [{ type, object := obj, time, data }] } }

/-- SW_WAKE for each latched input, NM_WAKE for each latched segment, WAKE_SOURCE (R514, R672, R843, R847). -/
def State.wakeReports (s : State) : State :=
  let s := { s with host := { s.host with wakeEvents := [], wakeOwed := [0, 1, 2, 3] } }
  let s := (List.range 64).foldl (fun s n =>
    if bit (s.rd (if n < 32 then Reg.SW_WAKE0 else Reg.SW_WAKE1)) (n % 32) then
      s.holdEvent 0x1182 (0x100 + n) (atByte 16 (b2n (s.sw n).polled)) (s.sw n).wakeAt false
    else s) s
  let s := (List.range 34).foldl (fun s g =>
    if bit (s.rd (if g < 32 then Reg.NM_WLATCH0 else Reg.NM_WLATCH1)) (g % 32) then
      s.holdEvent 0x1C82 (segObj g) (atByte 16 g + atByte 17 (s.seg g).wakeKind + atByte 18 (b2n (s.seg g).inStop)) (s.seg g).wakeAt false
    else s) s
  let s := s.holdEvent 0x0382 0xFFFF (atByte 16 (s.rd Reg.PWR_WAKESRC) + atByte 24 s.pwr.firstWake) s.ntime s.pwr.wakeNew
  s.pw fun p => { p with wakeNew := false }

/-- DATA of BOOT_DONE (R847). -/
def State.bootData (s : State) : Nat := atByte 16 s.pwr.start + atByte 17 s.pwr.abortPt + atByte 20 ((s.now - s.pwr.bootAt) / 1000 % 2 ^ 32)

/-! ### Secure storage and firmware (R873, R914 to R922) -/

/-- An item of secure storage whose tag fails is treated as absent (R873, log entry 46). -/
def State.itemFails (s : State) (e : Nat × Nat) : State :=
  let s : State :=
    if e.2 < 16 then { s with nv := { s.nv with tokens := tput s.nv.tokens e.2 {} } }
    else if e.2 = 16 then { s with nv := { s.nv with relKeys := none } } else s
  s.raise 0x0486 0xFFFF (atByte 16 e.1)

/-- The other slot holds the previous active image (R906, R914). -/
def State.previousKept (s : State) : Bool := s.nv.fallback || (s.nv.updState != 2 && (s.slot s.stagingSlot).valid)

/-- The images are checked, and the active slot is chosen (R914).  The second part is the slot's change or a failure to be reported. -/
def State.chooseImage (s : State) (b : BootCheck) : State × Bool :=
  let sig := fun (k : Nat) => if k = 0 then b.sigA else b.sigB
  let mark := fun (s : State) (k : Nat) (v : Bool) => s.setFwSlot k { s.slot k with valid := v }
  let a := s.nv.active
  let f := s.imageFail (s.slot a) (sig a)
  if f = 0 then
    let s := mark s a true
    (({ s with nv := { s.nv with updState := if s.nv.updState = 5 then 0 else s.nv.updState } }).pw fun p => { p with recovery := false }, false)
  else
    let s := mark s a false
    let o := 1 - a
    if s.previousKept && s.imageFail (s.slot o) (sig o) == 0 then
      let trial := s.nv.updState == 3 || s.nv.updState == 4
      (({ s with nv := { s.nv with active := o, fallback := false, lastFail := f, updState := if trial then 2 else if s.nv.updState = 5 then 0 else s.nv.updState } }).pw
        fun p => { p with recovery := false }, true)
    else (({ s with nv := { s.nv with lastFail := f, updState := 5 } }).pw fun p => { p with recovery := true }, true)

/-- UPD_BOOT (R914, R928). -/
def State.updBoot (s : State) : State :=
  s.raise 0x2181 0xFFFF (atByte 16 s.nv.active + atByte 17 (b2n (s.nv.updState == 4)) + atByte 18 s.nv.lastFail + atByte 20 (s.nv.fwVersion s.nv.active))

/-! ### The hand-over (R919, R920) -/

/-- A loop that was CLOSED closes again with the hand-over's integrator and set-points. -/
def State.reclose (s : State) (r : Nat × Nat × Nat × Nat × Nat) : State :=
  let n := r.1
  if r.2.1 ≠ 2 then s
  else
    let s := ((s.wr Reg.LP_SP n r.2.2.1).wr Reg.LP_SPEFF n r.2.2.2.1).wr Reg.LP_INTEG n r.2.2.2.2
    let s := ((s.wr Reg.LP_STAT_STATE n 2).wr Reg.LP_STAT_EVER n 1).modLoop n fun l => { l with first := false }
    s.loopClaims (s.loopObj n)

/-- The state of a segment's agreement goes on from the hand-over. -/
def State.resumeSeg (s : State) (r : Nat × Nat × Nat) : State :=
  let s := (s.wr Reg.NM_STAT_STATE r.1 r.2.1).wr Reg.NM_STAT_KEEPER r.1 r.2.2
  s.modSeg r.1 fun x => { x with tkaAt := s.now + s.tka r.1, prepAt := s.now, kaAt := s.now, openAt := s.now, armed := r.2.1 == 4 && s.flag Reg.NM_CFG_ARM r.1 }

/-- The hand-over is applied, or HANDOVER_LOST is raised; without one the remembered currents are nominal (R287, R919, R920). -/
def State.takeHandover (s : State) (ok : Bool) : State :=
  match s.pwr.handover with
  | none => s.forgetLoads
  | some h =>
    let s := s.pw fun p => { p with handover := none }
    if !ok then (s.forgetLoads).raise 0x2184 0xFFFF 0
    else
      let s := h.loads.foldl (fun s r => s.setLoad r.1 { s.load r.1 with cls := r.2.1, rem := r.2.2 }) s
      let s := h.segs.foldl State.resumeSeg s
      if s.flag Reg.UPD_CFG_RECLOSE then h.loops.foldl State.reclose s else s

/-! ### The Logic phase (R820, R838) -/

/-- Firmware, settings, cores and units of a module in full function; `fromStop`: the retained image has been read. -/
def State.bootFirmware (s : State) (b : BootCheck) (fromStop : Bool) : State :=
  let trial := s.nv.updState == 3
  let r := s.chooseImage b
  let s := r.1
  if s.pwr.recovery then s.forgetLoads.updBoot
  else
    let old := if trial && s.nv.updState == 3 then 1 - s.nv.active else s.nv.active
    let s := if fromStop then s else s.settle0 old b.fault
    let s := if s.pwr.start = 2 then s.takeHandover b.handover else s
    let s := if s.nv.updState = 3 then ({ s with nv := { s.nv with updState := 4 } }).pw fun p => { p with trialAt := s.now } else s
    let s := s.startCores (s.pwr.start == 0 || s.pwr.start == 4)
    let s := s.bootTests b.cores
    let s := s.startUnits fromStop b.cans
    -- a REQ that differs from the mode of the start counts as a request now (DESIGN CHOICE, log entry 80)
    let s := if s.rd Reg.GLB_PACE_REQ = s.rd Reg.GLB_PACE_CUR then s else s.paceRequest (s.rd Reg.GLB_PACE_REQ)
    if r.2 || trial then s.updBoot else s

/-- What die C does with the host and the power dies when its logic is back (R125, R270, R310, R813). -/
def State.bootRejoin (s : State) (b : BootCheck) : State :=
  let s := if s.pwr.start = 2 then s.abortAll else s
  (s.writeKept.logMissed).rebuild b.loads

/-- LOCKSTEP_MISMATCH after the warm reset (R774), REFCLK_LOSS (R822), RETAIN_LOST (R841), and the end of an authorisation (R897). -/
def State.bootEvents (s : State) : State :=
  let s := if s.core.mismatch then
      ({ s with core := { s.core with mismatch := false } }).raiseFault 0x1F81 0xFFFF (atByte 16 (s.rd Reg.SHW_MM0_KIND) + atByte 18 (s.rd Reg.SHW_MM0_PC)
        + atByte 20 (s.rd Reg.SHW_MM1_VALA) + atByte 22 (s.rd Reg.SHW_MM1_VALB) + atByte 24 (s.rd Reg.SHW_MM2_WHERE))
    else s
  let s := if s.pwr.refOwed then (s.flagSet Reg.TB_STAT_REFCLK_LOSS 0 2 4 16).pw fun p => { p with refOwed := false } else s
  let s := if s.pwr.start = 4 then s.raise 0x0384 0xFFFF 0 else s
  if s.pwr.lostAuth then (s.pw fun p => { p with lostAuth := false }).accEvent 0x83 (atByte 17 5 + atByte 18 (b2n s.relKeyed) + atByte 20 s.acc.ctr) else s

/-- The end of an update restart (R918, R927). -/
def State.restartDone (s : State) : State :=
  match s.pwr.restartAt with
  | none => s
  | some t => ((s.wr Reg.UPD_RST_LAST 0 (min 0xFFFF ((s.now - t) / 100000))).bump Reg.UPD_RST_COUNT 0).pw fun p => { p with restartAt := none }

/-- LOGIC_RDY: the module is in Run. -/
def State.logicRdy (s : State) (b : BootCheck) : State :=
  let start := s.pwr.start
  let woke := start == 1 || start == 4
  let s := ((s.wr Reg.PWR_RDY_LOGT 0 s.phaseLen).setRdy 3).toPhase .run
  let s := if s.nv.erased then { s with nv := { s.nv with lc := 4 } } else s
  let s := b.items.foldl State.itemFails s
  let s := if s.core.mismatch || s.rd Reg.SHW_STAT_MODE == 2 then s.debugOver else s
  let s := s.wr Reg.SHW_STAT_MODE 0 0
  let s := s.bootRejoin b
  let s := if s.fullFunction then s.bootFirmware b (start == 1) else s
  let s := s.pw fun p => { p with handover := none }
  let s := s.accRestart
  let s := ((s.wr Reg.PWR_STAT_STATE 0 0).wr Reg.PWR_STAT_START 0 start).restartDone
  let s := s.bootEvents
  let s := if woke then (List.range 34).foldl (fun s g => if (s.seg g).inStop && bit (s.rd (if g < 32 then Reg.NM_WLATCH0 else Reg.NM_WLATCH1)) (g % 32) then s.segAwake g else s) s
    else s
  let s := if woke then (s.wakeReports).holdEvent 0x0383 0xFFFF s.bootData s.ntime false else s.raise 0x0383 0xFFFF s.bootData
  let s := s.pw fun p => { p with abortPt := 0, peWake := woke && s.flag Reg.PWR_CFG_PEWAKE, peWakeAt := s.now, windowAt := s.now }
  let db := s.host.earlyDb
  let s := { s with host := { s.host with earlyDb := [] } }
  let s := db.foldl (fun s d => if (s.fn d.1).frozen then s else s.doorbell d.1 d.2.1 d.2.2) s
  if s.flag Reg.LIMP_STAT_LIMPN then s.limpEnter 1 else s

end Sys2Proof.Machine
end

