-- ==== Sys2Proof/Machine/PowerRows.lean ====
section
/-!
DEFINITION. Sys2Proof/Machine/PowerRows.lean: the rows of power-up, of resets of die C and of start-up (R48, R124, R818 to R842).
-/
namespace Sys2Proof.Machine

/-- `VKEEP_LOSS`: VBAT has stayed below 3.0 V for 1 ms; bit `k` of `kept`: power die Pk keeps its logic supply from its load supplies (R40, R818, R824). -/
def execVkeepLoss (dt kept : Nat) (s : State) : Answered :=
  let s := s.tick dt
  let s := if s.dieCOut then s.resetDieC true false else s
  .next (s.wipe (bit kept)).done

/-- `POWER_UP_RESET`: VBAT rises after VKEEP was lost (R818, R820). -/
def execPowerUpReset (dt : Nat) (s : State) : Answered :=
  let s := s.tick dt
  .next (if s.pwr.phase = .unpowered then
    let s := ({ s with nv := { s.nv with powerUps := s.nv.powerUps + 1 }, twin := { s.twin with sinceAt := s.now } }).toPhase .resetHold
    s.pw fun p => { p with
      start := 0, bootAt := s.now, dieUp := [true, true, true]
      dieAt := (List.range 3).map fun d => if p.dieUp.getD d false then p.dieAt.getD d 0 else s.now }
  else s).done

/-- `DIE_C_BROWNOUT`: VBAT falls below 4.8 V (R48), and every park input reads its PARKLVL (R506). -/
def execDieCBrownout (dt : Nat) (s : State) : Answered :=
  let s := s.tick dt
  .next (if s.dieCOut then (s.resetDieC true false).parkCheck
  else if s.inReset then (s.pw fun p => { p with brownout := true, phaseAt := s.now }).parkCheck else s).done

/-- `DIE_C_RESET_RELEASE`: VBAT has been above 5.3 V for 1 ms, and die C leaves reset (R48, R124, R250, R820, R918, R943). -/
def execDieCResetRelease (dt : Nat) (s : State) : Answered :=
  let s := s.tick dt
  .next (if !s.inReset || decide (s.now < s.pwr.phaseAt + 1000000) then s
  else
    let brown := s.pwr.brownout
    let s := s.noticeOff
    let s := if s.host.perstLatched then s.flrAll else s
    let s := { s with host := { s.host with perstLatched := false } }
    let s := if s.pwr.start = 2 && !brown then (s.toPhase .logic).wr Reg.PWR_STAT_RDY 0 7 else (s.toPhase .regulator).wr Reg.PWR_STAT_RDY 0 0
    s.pw fun p => { p with brownout := false, bootAt := s.now }).done

/-- `WARM_RESET` of die C with VKEEP up (R124). -/
def execWarmReset (dt : Nat) (s : State) : Answered :=
  let s := s.tick dt
  .next (if s.dieCOut then s.warmReset else s).done

/-- The Regulator phase runs, or a further try of it begins (R839). -/
def State.tries (s : State) : Bool := s.pwr.phase == .regulator || (s.pwr.phase == .stop && s.pwr.retryAt != 0 && decide (s.pwr.retryAt ≤ s.now))

/-- Since when the present try runs. -/
def State.tryAt (s : State) : Ns := if s.pwr.phase = .stop then s.pwr.retryAt else s.pwr.phaseAt

/-- Least and greatest length of the present phase of a start, ns: a ready signal comes in between (R820, R822, R838 to R840, R918; log entry 7). -/
def State.phaseSpan (s : State) : Nat × Option Nat :=
  match s.pwr.phase with
  | .memory => (if s.pwr.start = 1 then 300000 else 500000, none)
  | .oscillator => (800000, some 10000000)
  | .logic => ((match s.pwr.start with | 0 => 20000000 | 2 => 11000000 | _ => 5000000), none)
  | _ => (400000, if s.pwr.start = 1 then some 5000000 else none)

/-- A phase that has run since `t` may end now. -/
def State.phaseEnds (s : State) (t : Ns) : Bool :=
  let p := s.phaseSpan
  decide (t + p.1 ≤ s.now) && (match p.2 with | some m => decide (s.now ≤ t + m) | none => true)

/-- `REG_RDY` (R820, R838). -/
def execRegRdy (dt : Nat) (s : State) : Answered :=
  let s := s.tick dt
  .next (if !s.tries || !s.phaseEnds s.tryAt then s
  else
    let s := (s.wr Reg.PWR_RDY_REGT 0 (min 255 ((s.now - s.tryAt) / 100000))).setRdy 0
    let s := (s.wr Reg.GLB_PACE_CUR 0 (if s.pwr.start = 1 then s.rd Reg.GLB_PACE_REQ else 1)).wr Reg.GLB_PACE_BUSY 0 0
    -- die C is powered again after Stop, and its reset notice is released (R250; DEDUCED, log entry 61)
    let s := if s.pwr.start = 1 then s.noticeOff else s
    (s.toPhase .oscillator).pw fun p => { p with retryAt := 0 }).done

/-- `REG_RDY_TIMEOUT`: no REG_RDY within 5 ms of a wake (R839). -/
def execRegRdyTimeout (dt : Nat) (s : State) : Answered :=
  let s := s.tick dt
  .next (if s.tries && s.pwr.start == 1 && decide (s.tryAt + 5000000 ≤ s.now) then
    let t := s.tryAt
    ((s.bump Reg.PWR_CNT_REGFAIL 0).toPhase .stop).pw fun p => { p with retryAt := t + 100000000 }
  else s).done

/-- `OSC_RDY`: 256 steady cycles of the reference, TB2 to TB9 locked (R820). -/
def execOscRdy (dt : Nat) (s : State) : Answered :=
  let s := s.tick dt
  .next (if s.pwr.phase = .oscillator ∧ s.phaseEnds s.pwr.phaseAt then
    (((s.wr Reg.PWR_RDY_OSCT 0 s.phaseLen).setRdy 1).setRef true).toPhase .memory
  else s).done

/-- `OSC_RDY_TIMEOUT`: 10 ms after REG_RDY the start goes on without the reference (R73, R822, R840); REFCLK_LOSS is raised when die C can. -/
def execOscRdyTimeout (dt : Nat) (s : State) : Answered :=
  let s := s.tick dt
  .next (if s.pwr.phase = .oscillator ∧ s.pwr.phaseAt + 10000000 ≤ s.now then
    ((s.wr Reg.PWR_RDY_OSCT 0 s.phaseLen).refLostEarly).toPhase .memory
  else s).done

/-- The retained image has failed its check: die C and the power dies start as after a power-up reset; VKEEP holds the wake latches (R834, R841). -/
def State.retainLost (s : State) : State :=
  let p := s.pwr
  let h := s.host
  let w := s.wipe fun _ => false
  let w := { w with
    pwr := { p with start := 4, dieKept := [false, false, false], timeSet := false, handover := none }
    net := { w.net with segs := s.net.segs.map fun e => (e.1, { wakeAt := e.2.wakeAt, wakeKind := e.2.wakeKind, inStop := e.2.inStop }) }
    inp := { w.inp with sw := s.inp.sw.map fun e => (e.1, { wakeAt := e.2.wakeAt, polled := e.2.polled }) }
    out := { w.out with notice := s.out.notice, noticeAt := s.out.noticeAt, hbAt := s.out.hbAt, hbSeen := s.out.hbSeen, hbReady := s.out.hbReady }
    host := { w.host with linkUp := h.linkUp, earlyDb := h.earlyDb, waiting := h.waiting } }
  let keep := [Reg.PWR_WAKESRC, Reg.PWR_STOPT, Reg.PWR_RDY_REGT, Reg.PWR_RDY_OSCT, Reg.PWR_STAT_RDY, Reg.PWR_CNT_STOPS, Reg.PWR_CNT_ABANDONED, Reg.PWR_CNT_REGFAIL,
    Reg.SW_WAKE0, Reg.SW_WAKE1, Reg.NM_WLATCH0, Reg.NM_WLATCH1, Reg.LIMP_STAT_LIMPN, Reg.TB_STAT_LOCK, Reg.TB_STAT_REFBKP]
  keep.foldl (fun w f => w.wr f 0 (s.rd f)) w

/-- `MEM_RDY`: the arrays are cleared, or the retained image has been read; `ok`: its CRC-32C is right (R820, R838, R841). -/
def execMemRdy (dt : Nat) (ok : Bool) (s : State) : Answered :=
  let s := s.tick dt
  .next (if s.pwr.phase ≠ .memory ∨ !s.phaseEnds s.pwr.phaseAt then s
  else
    let s := (s.wr Reg.PWR_RDY_MEMT 0 s.phaseLen).setRdy 2
    let len := s.rd Reg.PWR_RDY_MEMT
    let s := if s.pwr.start = 1 && !ok then s.retainLost.wr Reg.PWR_RDY_MEMT 0 len else s
    s.toPhase .logic).done

/-- `LOGIC_RDY` (R820, R838), or the restart of R922 when a trial image fails a self-test. -/
def execLogicRdy (dt : Nat) (b : BootCheck) (s : State) : Answered :=
  let s := s.tick dt
  .next (if s.pwr.phase ≠ .logic ∨ !s.phaseEnds s.pwr.phaseAt then s
  else if b.testFail && s.nv.updState == 3 then ((s.trialFails 6).resetDieC false true).pw fun p => { p with restartAt := some s.now }
  else s.logicRdy b).done

/-- `PE_WAKE_RELEASE`: 1 s after LOGIC_RDY, if the link has not come up before (R842). -/
def execPeWakeRelease (dt : Nat) (s : State) : Answered :=
  let s := s.tick dt
  .next (if s.pwr.peWake && (s.host.linkUp || decide (s.pwr.peWakeAt + 1000000000 ≤ s.now)) then s.pw fun p => { p with peWake := false } else s).done

end Sys2Proof.Machine
end

