-- ==== Sys2Proof/Machine/Sec.lean ====
section
/-!
DEFINITION. Sys2Proof/Machine/Sec.lean: the debug level, debug sessions, lifecycle changes, and the attestation report (R815, R848 to R874).
-/
namespace Sys2Proof.Machine

def State.se (s : State) (f : SecState → SecState) : State := { s with sec := f s.sec }

/-! ### Debug levels (R861 to R868) -/

/-- The level changes; leaving INVASIVE requests a warm reset (R783). -/
def State.dbgTo (s : State) (new slot : Nat) : State :=
  let old := s.dbgLevel
  if old = new then s
  else
    let s := s.wr Reg.SEC_DBG_LEVEL 0 new
    let s := if new = 1 then s.wr Reg.SEC_DBG_OBSEVER 0 1 else if new = 2 then s.wr Reg.SEC_DBG_INVEVER 0 1 else s
    let s := s.raise 0x0482 0xFFFF (atByte 16 old + atByte 17 new + atByte 18 slot)
    if old = 2 then s.warmReset else s

/-- The lifecycle state offers the level (R862). -/
def offers (lc level : Nat) : Bool := level == 1 || (level == 2 && lc != 2)

/-- The level needs no signature in the lifecycle state (R862, R864). -/
def openLevel (lc level : Nat) : Bool := lc == 0 || (lc == 4 && level == 1)

/-- What a submitted response gives (R851, R864, R866): 1 granted, or the first failed check as RESULT codes it.  A record for another module is a bad
record (DEDUCED, log entry 50).  `req`: DAP_CTL.REQ. -/
def State.dapResult (s : State) (req : Nat) (r : List Byte) (sig : Bool) : Nat :=
  let level := recNum r 52 1
  let slot := recNum r 16 1
  let k := s.nv.keySlot slot
  let free := slot == 255 && openLevel s.lifecycle level
  if !offers s.lifecycle level || decide (s.rd Reg.SEC_DBG_DBGMAX < level) then 2
  else if recNum r 0 2 != 4 || recNum r 2 2 != 0 || recNum r 17 1 != 0 || recNum r 18 2 != 0 || recNum r 255 1 != 0
    || recNum r 4 8 != s.nv.serial || level != min 2 req then 4
  else if !free && !(decide (slot < 3) && k.programmed && !k.revoked) then 5
  else if !free && !(sig && shake (recBytes r 84 57) == k.digest) then 6
  else if !(s.sec.nonceOk && recNum r 20 32 == s.sec.nonce && decide (s.now < s.sec.nonceAt + 60000000000)) then 7
  else 1

/-- A request has failed: the count, the lock-out of 2^(n − 1) s, and DBG_AUTH_FAIL (R866, R867). -/
def State.dapFail (s : State) (result : Nat) : State :=
  let n := s.sec.fails + 1
  let lock := 2 ^ min 10 (n - 1)
  (s.se fun x => { x with fails := n, lockEnd := some (s.now + lock * 1000000000) }).raise 0x0483 0xFFFF
    (atByte 16 result + atByte 17 (min 15 n) + atByte 18 lock)

/-! ### Lifecycle (R854 to R857) -/

/-- LC_CHANGE. -/
def State.lcChange (s : State) (old new count : Nat) : State := s.raise 0x0481 0xFFFF (atByte 16 old + atByte 17 new + atByte 18 count)

/-- The lifecycle takes a new state: 3 is FIELD_SERVICE on top of the FIELD fuse (R855). -/
def State.lcTo (s : State) (new count : Nat) (svcEnd : Option Ns) : State :=
  let old := s.lifecycle
  let s := ({ s with nv := { s.nv with lc := if new = 3 then 2 else new } }).se fun x => { x with svcEnd }
  s.lcChange old new count

/-- Leaving FIELD_SERVICE or PROVISIONED ends INVASIVE (R856). -/
def State.lcLeft (s : State) (old : Nat) : State :=
  if (old = 1 ∨ old = 3) ∧ s.lifecycle ≠ old ∧ s.dbgLevel = 2 then s.dbgTo 0 255 else s

/-- The commands that the networks and the pair have taken up complete ABORTED_RESET (R127). -/
def State.abortNets (s : State) : State :=
  let cs := (s.host.inflight.filter fun r => r.started && [Kind.can, .lin, .eth, .twin].contains (kindOf r.cmd.object)).map (·.cmd)
  cs.foldl (fun s c => s.complete c .abortedReset) s

/-- No firmware slot runs from now on: cores, networks and the pair stop (R127, R858). -/
def State.firmwareStops (s : State) : State :=
  let s := (((s.coresDown).netStop).abortNets).twDown
  (List.range 4).foldl (fun s k => s.wr Reg.FIFE_STAT_STATE k 0) s

/-- Every output and every isolated output switches off, as by its off command. -/
def State.allOff (s : State) : State :=
  let os := (List.range 0x158).filter fun o => (isOutput o && s.leadOf o == o && s.active o) || (isKind .io o && s.active o)
  os.foldl (fun s o => if isKind .io o then s.ioOff (o - 0x150) else s.objOff o) s

/-- Token records and every key but the device identity key are erased, and the erasure is recorded (R857). -/
def State.eraseKeys (s : State) : State :=
  ({ s with nv := { s.nv with tokens := [], relKeys := none, erased := true } }).wr Reg.ACC_STAT_RELKEYS 0 0

/-- The command row of R853 and R854 that a record belongs to: 0 KEY_SLOT_PROGRAM, 1 KEY_SLOT_REVOKE, 2 to 5 the lifecycle operations; none for a record
that no row is for, which fails the first check of R851. -/
def recRow (r : List Byte) : Option Nat :=
  match recNum r 0 2, recNum r 17 1 with
  | 2, 1 => some 0 | 2, 2 => some 0
  | 2, 0x10 => some 1 | 2, 0x11 => some 1 | 2, 0x12 => some 1
  | 3, 1 => some 2 | 3, 2 => some 3 | 3, 3 => some 4 | 3, 4 => some 5
  | _, _ => none

/-- The rule of R851 and R854 for a record of SEC_RECORD. -/
def State.secRule (s : State) (r : List Byte) : RecRule :=
  let lc := s.lifecycle
  { defined := fun _ _ => (recRow r).isSome
    unsigned := match recRow r with | some 4 => true | some 5 => lc == 0 | _ => false
    admitted := match recRow r with
      | some 0 => lc == 1 || lc == 3 | some 1 => lc == 1 || lc == 2 || lc == 3 | some 2 => lc == 1 | some 3 => lc == 2 | some 4 => lc == 3
      | some 5 => lc != 4 | _ => false }

/-- DATA is 0 from byte `k` of it on. -/
def dataZero (r : List Byte) (k : Nat) : Bool := recNum r (20 + k) (64 - k) == 0

/-- SEC_RECORD as row `row` has it: the row of another record leaves it to that row; a record that no row is for is refused by any of them. -/
def State.secRecord (s : State) (dt : Ns) (c : Cmd) (r : List Byte) (sig : Bool) (row : Nat) (own : State → Option (Code × Nat)) (go : State → State) : State :=
  if (recRow r).getD row ≠ row then s.tick dt
  else s.serveOp dt c 0x5011 [] fun s =>
    s.withRecord c fun s => s.orElse c [s.recBar r sig (s.secRule r), own s] fun s =>
      let old := s.lifecycle
      (((go (s.accept (recNum r 12 4))).begin c).complete c .done).lcLeft old

/-! ### Attestation (R815, R874) -/

/-- Records of the retirement log of a kind. -/
def State.retiredOf (s : State) (k : Nat) : Nat := (s.nv.retired.filter fun r => r.kind == k).length

/-- Spares left of a kind of R804. -/
def State.sparesLeft (s : State) (k : Nat) : Nat :=
  match k with
  | 1 => ((List.range 64).map fun i => 2 - (s.obj (chObj i)).retired.length).foldl (· + ·) 0
  | 2 => Config.sramSpares - s.rd Reg.SPR_SRAM_ROWS
  | 3 => if s.rd Reg.FIFE_SPARE_C4 = 0 then 1 else 0
  | 4 => 4 - ((List.range 4).filter fun d => bit (s.rd Reg.SPR_MISC_ADCSP) d).length
  | 5 => s.rd Reg.SPR_MISC_FITSP
  | _ => s.rd Reg.SPR_MISC_CANSP

def State.retiredDigest (s : State) : Nat := shake (s.nv.retired.flatMap fun r => leBytes 16 r.data)

/-- The values of the settings as they stand, by field number and index. -/
def State.settingList (s : State) : List (Nat × Nat × Nat) :=
  s.settingValues.flatMap fun e => e.2.map fun v => (e.1, v.1, v.2)

/-- Bytes 0 to 383 of the report. -/
def State.report (s : State) (nonce : List Byte) (partner : Nat) : List Byte :=
  let f := s.slot s.nv.active
  let since := s.rd Reg.SEC_DBG_INVEVER + 2 * s.rd Reg.SEC_DBG_OBSEVER + 4 * s.rd Reg.SHW_STAT_LLDBG + 8 * b2n s.pwr.timeSet
  let slots := maskOf (fun k => (s.nv.keySlot k).programmed) 3 + 16 * maskOf (fun k => (s.nv.keySlot k).revoked) 3
  leBytes 2 0x0201 ++ leBytes 2 512 ++ (List.range 32).map (fun j => nonce.getD j 0 % 256) ++ leBytes 8 s.nv.serial ++ leBytes 8 s.ntime
  ++ [s.lifecycle, s.dbgLevel, since, slots, f.signer, s.nv.active, 0, 0]
  ++ leBytes 4 (s.nv.fwVersion s.nv.active) ++ leBytes 4 s.nv.fusedSvn
  ++ leBytes 64 (shake (f.bytesAt 0 (512 + f.bodyLen))) ++ leBytes 64 (Config.settingsDigest s.settingList)
  ++ ([1, 2, 3, 4, 5, 6].flatMap fun k => leBytes 2 (s.retiredOf k) ++ leBytes 2 (s.sparesLeft k))
  ++ leBytes 2 s.nv.retired.length ++ [0, 0] ++ leBytes 64 s.retiredDigest ++ leBytes 4 s.nv.powerUps
  ++ leBytes 2 (maskOf (fun k => (s.nv.token k).state == 1) 16) ++ [s.twRole, 0] ++ leBytes 8 (if s.twRole = 0 then 0 else partner)
  ++ List.replicate 80 0

/-- The report with its signature. -/
def State.attest (s : State) (nonce : List Byte) (partner : Nat) : List Byte :=
  let b := s.report nonce partner
  b ++ leBytes 114 (Config.deviceSign b) ++ List.replicate 14 0

end Sys2Proof.Machine
end

