-- ==== Sys2Proof/Machine/SecRows.lean ====
section
/-!
DEFINITION. Sys2Proof/Machine/SecRows.lean: records, attestation, the debug access port (R849 to R874).
-/
namespace Sys2Proof.Machine

/-- `SEC_PROVISION` (R853, R854, R949): slot 0 takes the digest of the key that signs the record. -/
def execSecProvision (dt : Nat) (c : Cmd) (rcd : List Byte) (sig : Bool) (s : State) : Answered :=
  .next (s.serveOp dt c 0x5010 [] fun s =>
    s.withRecord c fun s =>
      let u : RecRule := { defined := fun t op => t == 1 && op == 0, installs := true, admitted := s.lifecycle == 0 }
      let own := barIf (recNum rcd 16 1 != 0 || !dataZero rcd 0) .refusedPolicy 0x0409
      s.orElse c [s.recBar rcd sig u, own] fun s =>
        let k : KeySlot := { programmed := true, digest := shake (recBytes rcd 84 57) }
        let count := recNum rcd 12 4
        let s := { s with nv := { s.nv with slots := tput s.nv.slots 0 k } }
        (((s.accept count).lcTo 1 count none).begin c).complete c .done).done

/-- `KEY_SLOT_PROGRAM`: SEC_RECORD of TYPE 0002h, OP 01h or 02h. -/
def execKeySlotProgram (dt : Nat) (c : Cmd) (rcd : List Byte) (sig : Bool) (s : State) : Answered :=
  let k := recNum rcd 17 1
  .next (s.secRecord dt c rcd sig 0 (fun s => barIf (s.nv.keySlot k).programmed .refusedPolicy 0x0408) fun s =>
    let x : KeySlot := { s.nv.keySlot k with programmed := true, digest := recNum rcd 20 64 }
    ({ s with nv := { s.nv with slots := tput s.nv.slots k x } } : State).raise 0x0485 0xFFFF (atByte 16 k + atByte 17 k)).done

/-- What a revocation of slot `k` fails on: the signing slot is another one, a slot is left, the active firmware's slot stays (R854). -/
def State.revokeBar (s : State) (k signer : Nat) (rcd : List Byte) : Option (Code × Nat) :=
  let live := fun (j : Nat) => (s.nv.keySlot j).programmed && !(s.nv.keySlot j).revoked
  firstBar [barIf (signer == k || !dataZero rcd 0) .refusedPolicy 0x0409,
    barIf (live k && !((List.range 3).any fun j => j != k && live j)) .refusedPolicy 0x0407,
    barIf ((s.slot s.nv.active).valid && (s.slot s.nv.active).signer == k) .refusedPolicy 0x0406]

/-- `KEY_SLOT_REVOKE`: SEC_RECORD of TYPE 0002h, OP 10h to 12h. -/
def execKeySlotRevoke (dt : Nat) (c : Cmd) (rcd : List Byte) (sig : Bool) (s : State) : Answered :=
  let op := recNum rcd 17 1
  let k := op - 0x10
  .next (s.secRecord dt c rcd sig 1 (fun s => s.revokeBar k (recNum rcd 16 1) rcd) fun s =>
    let x : KeySlot := { s.nv.keySlot k with revoked := true }
    ({ s with nv := { s.nv with slots := tput s.nv.slots k x } } : State).raise 0x0485 0xFFFF (atByte 16 op + atByte 17 k)).done

/-- `LC_TO_FIELD`: SEC_RECORD of TYPE 0003h, OP 01h. -/
def execLcToField (dt : Nat) (c : Cmd) (rcd : List Byte) (sig : Bool) (s : State) : Answered :=
  .next (s.secRecord dt c rcd sig 2 (fun _ => barIf (!dataZero rcd 0) .refusedPolicy 0x0409) fun s =>
    s.lcTo 2 (recNum rcd 12 4) none).done

/-- `LC_TO_FIELD_SERVICE`: SEC_RECORD of TYPE 0003h, OP 02h, for SVCMIN minutes. -/
def execLcToFieldService (dt : Nat) (c : Cmd) (rcd : List Byte) (sig : Bool) (s : State) : Answered :=
  let m := recNum rcd 20 2
  .next (s.secRecord dt c rcd sig 3 (fun _ => barIf (m == 0 || decide (480 < m) || !dataZero rcd 2) .refusedPolicy 0x0409) fun s =>
    s.lcTo 3 (recNum rcd 12 4) (some (s.now + m * 60000000000))).done

/-- `LC_BACK_TO_FIELD`: SEC_RECORD of TYPE 0003h, OP 03h (R854 to R856). -/
def execLcBackToField (dt : Nat) (c : Cmd) (rcd : List Byte) (sig : Bool) (s : State) : Answered :=
  .next (s.secRecord dt c rcd sig 4 (fun _ => barIf (!dataZero rcd 0) .refusedPolicy 0x0409) fun s =>
    s.lcTo 2 (recNum rcd 12 4) none).done

/-- `LC_TO_RETIRED`: SEC_RECORD of TYPE 0003h, OP 04h: keys erased, the fuse blown, outputs off; the ROM supervisor takes over from the firmware
(R857, R858). -/
def execLcToRetired (dt : Nat) (c : Cmd) (rcd : List Byte) (sig : Bool) (s : State) : Answered :=
  .next (s.secRecord dt c rcd sig 5 (fun _ => barIf (!dataZero rcd 0) .refusedPolicy 0x0409) fun s =>
    let s := (s.eraseKeys).authEnd 5
    ((s.lcTo 4 (recNum rcd 12 4) none).allOff).firmwareStops).done

/-- `SEC_ATTEST`: `nonce` is what the buffer holds in its first 32 bytes, `partner` the serial number of the partner of a paired module (R874). -/
def execSecAttest (dt : Nat) (c : Cmd) (nonce : List Byte) (partner : Nat) (s : State) : Answered :=
  .next (s.serveOp dt c 0x5013 [] fun s => s.answerWith c (s.attest nonce partner)).done

/-- `FIELD_SERVICE_EXPIRY`: SVCMIN minutes after it began (R855). -/
def execFieldServiceExpiry (dt : Nat) (s : State) : Answered :=
  let s := s.tick dt
  .next (match s.sec.svcEnd with
    | some t => if s.dieC && s.lifecycle == 3 && decide (t ≤ s.now) then (s.lcTo 2 s.nv.secCtr none).lcLeft 3 else s
    | none => s).done

/-! ### The debug access port (R863 to R868) -/

/-- `DAP_CHALLENGE`: CHAL is set; a lock-out gives RESULT 3 (R864, R867). -/
def execDapChallenge (dt : Nat) (s : State) : Answered :=
  let s := s.tick dt
  .next (if !s.running then s
  else if (match s.sec.lockEnd with | some t => decide (s.now < t) | none => false) then s.se fun x => { x with result := 3 }
  else let (n, s) := s.draw 32; s.se fun x => { x with nonce := n, nonceAt := s.now, nonceOk := true }).done

/-- `DAP_SUBMIT`: SUBMIT is set with `req` in REQ and the record `rcd` in DAP_RESP; `sig`: SIG verifies under PUBKEY (R864, R866, R867). -/
def execDapSubmit (dt req : Nat) (rcd : List Byte) (sig : Bool) (s : State) : Answered :=
  let s := s.tick dt
  .next (if !s.running then s
  else
    let r := s.dapResult req rcd sig
    let s := s.se fun x => { x with result := r, nonceOk := false }
    if r = 1 then (s.se fun x => { x with fails := 0, lockEnd := none }).dbgTo (recNum rcd 52 1) (recNum rcd 16 1)
    else if r = 2 then s else s.dapFail r).done

/-- `DAP_LEAVE`: LEAVE is set (R783, R868). -/
def execDapLeave (dt : Nat) (s : State) : Answered :=
  let s := s.tick dt
  .next (if s.running then s.dbgTo 0 255 else s).done

/-- `DAP_NONCE_EXPIRY`: the nonce is 60 s old (R864). -/
def execDapNonceExpiry (dt : Nat) (s : State) : Answered :=
  let s := s.tick dt
  .next (if s.sec.nonceOk && decide (s.sec.nonceAt + 60000000000 ≤ s.now) then s.se fun x => { x with nonceOk := false } else s).done

/-- `DAP_LOCKOUT_END` (R867). -/
def execDapLockoutEnd (dt : Nat) (s : State) : Answered :=
  let s := s.tick dt
  .next (match s.sec.lockEnd with
    | some t => if t ≤ s.now then s.se fun x => { x with lockEnd := none } else s
    | none => s).done

end Sys2Proof.Machine
end

