-- ==== Sys2Proof/Machine/Stop.lean ====
section
/-!
DEFINITION. Sys2Proof/Machine/Stop.lean: the Stop request, the phases of Stop entry and their abandonment (R667 to R669, R825 to R834).
-/
namespace Sys2Proof.Machine

/-- The result of a Stop request: PWR_RES and STOP_RESULT (R826, R847), which carries a newly latched wake source as a fault (log entry 43). -/
def State.stopResult (s : State) (code : Code) (abort sub : Nat) : State :=
  let k := codeNum code
  let s := ((s.wr Reg.PWR_RES_CODE 0 k).wr Reg.PWR_RES_ABORT 0 abort).wr Reg.PWR_RES_SUBCODE 0 sub
  let s := s.deliver 0x0381 0xFFFF (atByte 16 k + atByte 17 abort + atByte 18 sub) s.ntime s.pwr.wakeNew (s.routes 0xFFFF)
  s.pw fun p => { p with wakeNew := false }

/-- A wake source, an input or a segment has a wake latched. -/
def State.wakePending (s : State) : Bool :=
  s.rd Reg.PWR_WAKESRC != 0 || s.rd Reg.SW_WAKE0 != 0 || s.rd Reg.SW_WAKE1 != 0 || s.rd Reg.NM_WLATCH0 != 0 || s.rd Reg.NM_WLATCH1 != 0

/-- Objects of R827 that are neither OFF nor LATCHED. -/
def State.outsOn (s : State) : List Nat := (List.range 0x158).filter fun o => (isOutput o || isKind .io o) && s.active o

/-- The first failed check of a Stop request (R827). -/
def State.stopBar (s : State) (force : Bool) : Option Nat :=
  if s.flag Reg.LIMP_STAT_ACTIVE then some 0x0302
  else if s.twSt ≠ 0 then some 0x1D04
  else if s.nv.updState = 3 ∨ s.nv.updState = 4 then some 0x0307
  else if s.wakePending then some 0x0303
  else if !force && !s.allSleep then some 0x1C01
  else if !force && !s.outsOn.isEmpty then some 0x0301
  else none

/-- The entry is abandoned at SA1, SA2 or SA3: the module is in Run again (R829, R830, R865). -/
def State.stopAbandon (s : State) (k sub : Nat) : State :=
  let s := (s.toPhase .run).pw fun p => { p with forced := false, wakeHit := false }
  ((s.wr Reg.PWR_STAT_STATE 0 0).bump Reg.PWR_CNT_ABANDONED 0).stopResult .refusedState k sub

/-- PF0 writes PWR_REQ.STOP (R825 to R828, R865); the levels that polls compare with are held (R509). -/
def State.stopRequest (s : State) (force : Bool) : State :=
  if s.pwr.phase ≠ .run then s
  else
    match s.stopBar force with
    | some sub => s.stopResult .refusedState 0 sub
    | none =>
      if s.dbgLevel = 2 then s.stopAbandon 1 0x040A
      else
        let s := (s.toPhase (.entering 2)).pw fun p => { p with forced := force, wakeHit := false }
        (List.range 64).foldl (fun s n => s.modSw n fun x => { x with held := x.deb, polls := 0, pollAt := none }) (s.wr Reg.PWR_STAT_STATE 0 1)

/-- DEFERRED commands complete STOPPING, and their demands are withdrawn (R828). -/
def State.refuseDeferred (s : State) : State :=
  let cs := (s.host.inflight.filter (·.deferred)).map (·.cmd)
  cs.foldl (fun s c => (s.forget fun d => sameCmd d c).complete c .refusedState 0x0305) s

/-- The forced segments that are not in SLEEP go there at once; the detector of a CAN segment with SWEN = 1 alone is armed (R668). -/
def State.forceSleep (s : State) : State :=
  let gs := (List.range 34).filter fun g => s.nmSt g != 0 && s.nmSt g != 4
  let s := gs.foldl (fun s g =>
    let s := (s.wr Reg.NM_STAT_HOSTNEED g 0).wr Reg.NM_STAT_FWDNEED g 0
    if 16 ≤ g ∧ g < 24 then s.linSleep (g - 16) else s.nmTo g 4) s
  gs.foldl (fun s g => s.modSeg g fun x => { x with armed := decide (g < 16) && s.flag Reg.NM_CFG_SWEN g && s.flag Reg.NM_CFG_ARM g }) s

/-- The Save phase begins: the barrier stops, and forced segments sleep (R522, R668, R828). -/
def State.saveBegin (s : State) : State :=
  let s := s.barrierDown
  if s.pwr.forced then s.forceSleep else s

/-- SA4 is reached: the retained image stands, the result is DONE, FIELD_SERVICE and OBSERVE end (R826, R828, R855, R865). -/
def State.saveEnd (s : State) : State :=
  let s := (s.stopResult .done 0 0).pw fun p => { p with retained := true }
  let s := if s.lifecycle = 3 then s.lcTo 2 s.nv.secCtr none else s
  if s.dbgLevel = 1 then s.dbgTo 0 255 else s

/-- No output conducts once the power dies have opened their VS inputs (R828, R834). -/
def State.diesStop (s : State) : State := s.allOff

/-- Rings keep their configuration and lose EN; functions lose ENABLE (R823). -/
def HostState.ringsOff (h : HostState) : HostState :=
  { h with
    linkUp := false
    fns := h.fns.map fun e => (e.1, { e.2 with enable := false })
    cmdRings := h.cmdRings.map fun e => (e.1, { e.2 with en := false, stopped := false })
    cplRings := h.cplRings.map fun e => (e.1, { e.2 with en := false })
    evtRings := h.evtRings.map fun e => (e.1, { e.2 with en := false }) }

/-- What Stop leaves of the host attachment and of units that stop (R823, R828). -/
def State.intoStop (s : State) : State :=
  let s := (s.coresDown).accDown.secDown
  -- the reset notice reads as asserted while die C is unpowered (R250)
  let s := { s with host := s.host.ringsOff, out := { s.out with notice := true, hbSeen := false, hbReady := false } }
  let s := (List.range 34).foldl (fun s g => s.wr Reg.RXQ_CFG_EN g 0) s
  let s := (List.range 10).foldl (fun s p => s.wr Reg.ETH_STAT_LINK p 0) s
  s.wr Reg.TB_STAT_LOCK 0 (s.rd Reg.TB_STAT_LOCK % 2)

/-- The entry is abandoned at SA4 to SA6: the full return order runs (R830, R832). -/
def State.stopReturnAt (s : State) (k : Nat) : State :=
  (s.intoStop.bump Reg.PWR_CNT_ABANDONED 0).returnOrder k

/-- Stop begins (R828, R834). -/
def State.stopBegin (s : State) : State :=
  let s := ((s.intoStop.toPhase .stop).bump Reg.PWR_CNT_STOPS 0).pw fun p => { p with stopAt := s.now, forced := false, retryAt := 0 }
  if s.pwr.wakeHit then (s.pw fun p => { p with wakeHit := false }).stopEnd else s

/-- The detectors of a Stop work: an entry runs, or the module is in Stop. -/
def State.stopWatch (s : State) : Bool := match s.pwr.phase with | .entering _ => true | .stop => true | _ => false

/-- A wake source fires during an entry or in Stop (R830, R835). -/
def State.wakeBy (s : State) (k : Nat) : State := if s.stopWatch then (s.wakeSrc k).wakes else s

/-! ### Segment wakes (R655 to R657) -/

/-- A correct classical frame is the wake-up frame of segment `g` (R656). -/
def State.wakeFrame (s : State) (g : Nat) (remote ide : Bool) (id dlc data : Nat) : Bool :=
  let mask := s.rd Reg.NM_SWDATA_LO g + 2 ^ 32 * s.rd Reg.NM_SWDATA_HI g
  !remote && ide == s.flag Reg.NM_SWID_SWIDE g && Nat.land (Nat.xor id (s.rd Reg.NM_SWID_SWID g)) (s.rd Reg.NM_SWMASK g) == 0
  && dlc == s.rd Reg.NM_SWCTL_SWDLC g && (s.rd Reg.NM_SWCTL_SWDLC g == 0 || Nat.land data mask != 0)

/-- What the detector of segment `g` makes of a sign: the kind of wake (R675), and the frame-error count after it. -/
def State.senses (s : State) (g : Nat) (b : BusSign) : Option Nat × Nat :=
  let n := (s.seg g).swErr
  let more := if 32 ≤ n + 1 then (some 2, 0) else (none, n + 1)
  if g < 16 then
    if s.flag Reg.NM_CFG_SWEN g then
      match b with
      | .frame remote ide id dlc data => if s.wakeFrame g remote ide id dlc data then (some 1, 0) else (none, n - 1)
      | .badFrame => more
      | .fdFrame => if s.flag Reg.NM_CFG_SWFD g then (none, n) else more
      | _ => (none, n)
    else match b with
      | .pattern phase whole => (if 1000 ≤ phase ∧ whole ≤ 1000000 then some 0 else none, n)
      | _ => (none, n)
  else if g < 24 then
    match b with | .dominant len => (if 150000 ≤ len then some 4 else none, n) | _ => (none, n)
  else match b with | .energy len => (if 500000 ≤ len then some 0 else none, n) | _ => (none, n)

/-- The Run detector has the segments until SA4 (R669). -/
def State.runDetector (s : State) : Bool := match s.pwr.phase with | .run => true | .entering k => decide (k < 5) | _ => false

/-- A wake of segment `g` (R658, R670, R671). -/
def State.segWake (s : State) (g kind : Nat) : State :=
  if s.runDetector then ((((s.wakeLatch g kind false).wakeEvent g kind false).segAwake g).wakeBy 2)
  else (s.wakeLatch g kind true).wakeBy 2

end Sys2Proof.Machine
end

