-- ==== Sys2Proof/Machine/StopRows.lean ====
section
/-!
DEFINITION. Sys2Proof/Machine/StopRows.lean: the phases of Stop entry, the wake sources, and the samples of the switch inputs (R502 to R513, R655 to R672,
R825 to R838, R884).
-/
namespace Sys2Proof.Machine

/-- The entry stands in the phase that ends at SAk, and that phase has lasted `least` ns or more (R828). -/
def State.inEntry (s : State) (k : Nat) (least : Nat := 0) : Bool := s.pwr.phase == .entering k && decide (s.pwr.phaseAt + least ≤ s.now)

/-- `STOP_DRAIN_END`: no command is in flight but DEFERRED ones: SA2 (R828, R830). -/
def execStopDrainEnd (dt : Nat) (s : State) : Answered :=
  let s := s.tick dt
  .next (if !s.inEntry 2 || s.host.inflight.any (fun r => !r.deferred) || decide (s.pwr.phaseAt + 50000000 < s.now) then s
  else if s.pwr.wakeHit then s.stopAbandon 2 0x0304
  else
    let s := (s.refuseDeferred.loopsOpen 6).toPhase (.entering 3)
    if s.pwr.forced then s.allOff else s).done

/-- `STOP_DRAIN_TIMEOUT`: the Drain phase has lasted 50 ms (R829). -/
def execStopDrainTimeout (dt : Nat) (s : State) : Answered :=
  let s := s.tick dt
  .next (if s.inEntry 2 && decide (s.pwr.phaseAt + 50000000 ≤ s.now) && s.host.inflight.any (fun r => !r.deferred) then s.stopAbandon 2 0x0306 else s).done

/-- `STOP_OUTPUTS_END`: demagnetisation and decay have ended: SA3 (R176, R828, R830, R897). -/
def execStopOutputsEnd (dt : Nat) (s : State) : Answered :=
  let s := s.tick dt
  .next (if !s.inEntry 3 then s
  else if s.pwr.wakeHit then s.stopAbandon 3 0x0304
  else
    let s := if s.pwr.forced then s.authEnd 5 else s
    s.saveBegin.toPhase (.entering 4)).done

/-- `STOP_SAVE_END`: the retained image is committed: SA4. -/
def execStopSaveEnd (dt : Nat) (s : State) : Answered :=
  let s := s.tick dt
  .next (if !s.inEntry 4 1000000 then s
  else
    let s := s.saveEnd
    if s.pwr.wakeHit then s.stopReturnAt 4 else s.toPhase (.entering 5)).done

/-- `STOP_COMMIT_END`: the power dies are in their Stop state, and the link is in electrical idle: SA5. -/
def execStopCommitEnd (dt : Nat) (s : State) : Answered :=
  let s := s.tick dt
  .next (if !s.inEntry 5 200000 then s
  else
    let s := s.diesStop
    let s := { s with host := { s.host with linkUp := false } }
    if s.pwr.wakeHit then s.stopReturnAt 5 else s.toPhase (.entering 6)).done

/-- `STOP_CLOCKS_END`: SRAM is off, the PLLs and the oscillator have stopped: SA6. -/
def execStopClocksEnd (dt : Nat) (s : State) : Answered :=
  let s := s.tick dt
  .next (if !s.inEntry 6 20000 then s
  else if s.pwr.wakeHit then s.stopReturnAt 6 else s.toPhase (.entering 7)).done

/-- `STOP_RAILS_END`: the rails are off: Stop (R834). -/
def execStopRailsEnd (dt : Nat) (s : State) : Answered :=
  let s := s.tick dt
  .next (if s.inEntry 7 50000 then s.stopBegin else s).done

/-! ### Wake sources (R835) -/

/-- `STOP_TIMER_WAKE`: PWR_TMR has expired (R835, R837). -/
def execStopTimerWake (dt : Nat) (s : State) : Answered :=
  let s := s.tick dt
  let t := s.rd Reg.PWR_TMR
  .next (if s.pwr.phase == .stop && t != 0 && decide (t * 1000000000 ≤ (s.now - s.pwr.stopAt) * 1024) then s.wakeBy 0 else s).done

/-- `TOKEN_IRQ_WAKE`: TK_IRQ_N has been low for 50 µs. -/
def execTokenIrqWake (dt : Nat) (s : State) : Answered :=
  let s := s.tick dt
  .next (if s.flag Reg.PWR_CFG_TKWAKE then s.wakeBy 3 else s).done

/-- `PE_PERST_RELEASE`: PE_PERST_N rises (R835, R942). -/
def execPePerstRelease (dt : Nat) (s : State) : Answered :=
  let s := s.tick dt
  let was := s.host.perst
  let s := { s with host := { s.host with perst := false } }
  .next (if was && s.flag Reg.PWR_CFG_PERSTWAKE then s.wakeBy 5 else s).done

/-- `STATIC_WAKE`: the land of static input `n` has stood at `v` for 100 µs (R508, R510, R513). -/
def execStaticWake (dt n : Nat) (v : Lasting) (s : State) : Answered :=
  let s := s.tick dt
  .next (if !s.stopWatch then s else let r := s.swStatic n v; if r.2 then r.1.wakeBy 1 else r.1).done

/-- `POLL_WAKE`: a poll of input `n` reads `vin` (R509, R510, R513). -/
def execPollWake (dt n vin : Nat) (s : State) : Answered :=
  let s := s.tick dt
  .next (if !s.stopWatch then s else let r := s.swPoll n vin; if r.2 then r.1.wakeBy 1 else r.1).done

/-- `SEGMENT_WAKE`: the detector of sleeping segment `g` sees a sign on its bus (R655 to R658, R670, R671). -/
def execSegmentWake (dt g : Nat) (b : BusSign) (s : State) : Answered :=
  let s := s.tick dt
  .next (if !s.detects g then s
  else
    let r := s.senses g b
    let s := s.modSeg g fun x => { x with swErr := r.2 }
    match r.1 with | some k => s.segWake g k | none => s).done

/-! ### Switch inputs -/

/-- `SW_SAMPLE` of input `n` at `vin`, 0.01 V (R502 to R505, R443, R627, R884). -/
def execSwSample (dt n vin : Nat) (s : State) : Answered :=
  let s := s.tick dt
  .next (if decide (64 ≤ n) || !s.frontEnd || !s.swDue n then s
  else
    let was := s.flag Reg.SW_STAT_LEVEL n
    let s := (s.swTake n vin).parkCheck.freshInputs
    let rises := !was && s.flag Reg.SW_STAT_LEVEL n
    if rises && s.dieC && s.flag Reg.ACC_CFG_STARTEN && s.rd Reg.ACC_CFG_STARTSW == n && !s.accBusy then s.searchStart 2 0 else s).done

end Sys2Proof.Machine
end

