-- ==== Sys2Proof/Machine/LimpRows.lean ====
section
/-!
DEFINITION. Sys2Proof/Machine/LimpRows.lean: LIMP_N, the LH inputs, the heartbeat, and hold windows (R249 to R275, R832, R836).
-/
namespace Sys2Proof.Machine

/-- The power dies act on limp-home: they are not in their Stop state, nor on their way out of it (R832, R836, R838). -/
def State.diesAct (s : State) : Bool :=
  match s.pwr.phase with
  | .stop => false
  | .entering k => decide (k < 5)
  | .regulator | .oscillator | .memory | .logic => s.pwr.start != 1 && s.pwr.start != 4
  | _ => true

/-- `LIMP_N_ASSERT`: LIMP_N has been low for 200 µs (R252, R262, R832, R835, R836). -/
def execLimpNAssert (dt : Nat) (s : State) : Answered :=
  let s := (s.tick dt).wr Reg.LIMP_STAT_LIMPN 0 1
  let s := if s.diesAct && s.diesUp != 0 then s.limpEnter 1 else s
  .next (s.wakeBy 4).done

/-- `LIMP_N_RELEASE`: LIMP_N has been high for 10 ms; limp-home through it ends once the heartbeat is present (R259). -/
def execLimpNRelease (dt : Nat) (s : State) : Answered :=
  .next (((s.tick dt).wr Reg.LIMP_STAT_LIMPN 0 0).limpNOut).done

/-- `LH_CHANGE`: the filtered levels of LH0 to LH7, in bits 0 to 7, move the objects in limp-home whose records select a changed one (R253). -/
def execLhChange (dt mask : Nat) (s : State) : Answered :=
  let s := s.tick dt
  let old := s.rd Reg.LIMP_STAT_LH
  let s := s.wr Reg.LIMP_STAT_LH 0 (mask % 256)
  let moved := recOrder.filter fun r =>
    let src := s.rd Reg.LH_LHR0_LSRC r
    s.flag Reg.LH_LHR1_INLIMP r && !s.flag Reg.LH_LHR0_EXEMPT r && src != 0 && bit old (src - 1) != bit mask (src - 1)
  .next (if s.diesAct && s.flag Reg.LIMP_STAT_ACTIVE then moved.foldl State.limpApply s else s).done

/-- `HEARTBEAT`: a heartbeat of the Shawm pair with READY = `ready` (R249, R265, R772). -/
def execHeartbeat (dt : Nat) (ready : Bool) (s : State) : Answered := .next ((s.tick dt).heartbeat ready).done

/-- Power die `d` has received no heartbeat for 20 ms - 2 % since it runs, and has not declared the loss yet (R251, R280). -/
def State.hbLate (s : State) (d : Nat) : Bool :=
  s.pwr.dieUp.getD d false && !bit (s.rd Reg.LIMP_STAT_HBLOSS) d && decide (max s.hbSince (s.pwr.dieAt.getD d 0) + 19600000 ≤ s.now)

/-- `HEARTBEAT_LOSS`: no heartbeat for 20 ms ± 2 % with the reset notice released, at each power die for itself (R251, R280, R832). -/
def execHeartbeatLoss (dt : Nat) (s : State) : Answered :=
  let s := s.tick dt
  let late := maskOf s.hbLate 3
  .next (if s.out.notice || !s.diesAct || late == 0 then s
  else
    let s := (s.wr Reg.LIMP_STAT_HBLOSS 0 (Nat.lor (s.rd Reg.LIMP_STAT_HBLOSS) late)).limpEnter 2
    match s.pwr.phase with | .entering _ => s.pw fun p => { p with wakeHit := true } | _ => s).done

/-- `HOLD_WINDOW_EXPIRY` of object `o`, HOLDW − 2 % at the earliest (R266, R268). -/
def execHoldWindowExpiry (dt o : Nat) (s : State) : Answered :=
  let s := s.tick dt
  .next (match recIx o with
    | none => s
    | some r => if s.flag Reg.LH_LHR1_INHOLD r && decide ((s.limp r).holdEnd ≤ s.now + s.holdw r / 50) then s.holdExpire r else s).done

/-- `PAIRED_HEARTBEAT_GAP` of object `o`: 2 ms without a heartbeat, the notice released and LIMP_N not asserted (R274, R275); a frozen group keeps the
object as it is (R42). -/
def execPairedHeartbeatGap (dt o : Nat) (s : State) : Answered :=
  let s := s.tick dt
  .next (match recIx o with
    | none => s
    | some r =>
      if !s.pairedOff r || !s.diesAct || !s.recActs r || s.ovFrozen o then s
      else if isKind .hb o then s.hbStopMode (objNum o) else s.takeState r .off false).done

end Sys2Proof.Machine
end

