-- ==== Sys2Proof/Machine/FifeRows.lean ====
section
/-!
DEFINITION. Sys2Proof/Machine/FifeRows.lean: bundles, waits and answers of the Fife cores, their controls, and the Shawm pair (R750 to R783).
-/
namespace Sys2Proof.Machine

/-- C0 to C3, the Shawm pair in lockstep or its copy A as 8, copy B in a split as 9. -/
def isCore (k : Nat) : Bool := decide (k < 4) || k == 8 || k == 9

/-- Answers to commands of core `k` that no bundle waits for any more are dropped. -/
def State.purge (s : State) (k : Nat) : State :=
  let held := fun (c : Cmd) => (s.coreK k).holds.any fun h => match h with | .chan cs => cs.any (sameCmd c) | _ => false
  { s with host := { s.host with answers := s.host.answers.filter fun a => a.1.src != .core k || held a.1 } }

/-- `BUNDLE_ISSUE` of core `k` (R750 to R759, R766).  `ecc`: an uncorrectable memory error meets the bundle, with its data address; `vd`: the drain voltage
of an LS channel that a channel trigger switches on. -/
def execBundleIssue (dt k : Nat) (ecc : Option Nat) (vd : Nat) (s : State) : Answered :=
  let s := s.tick dt
  .next (if !isCore k || !s.coreRuns k then s
  else match ecc with
    | some a => s.coreFault k 4 a
    | none => (s.purge k).issue k vd).done

/-- CHK.CODE and CHK.SUB for a command of a channel trigger, once it has its first answer (R760). -/
def State.firstAnswer (s : State) (c : Cmd) : Option (Nat × Nat) :=
  match s.host.answers.find? fun a => sameCmd a.1 c with
  | some (_, code, sub) =>
    (match code with
     | .done | .doneClamped | .faulted | .unverified | .sentLateCancel => some (0, 0)
     | _ => some (codeNum code, sub))
  | none =>
    match s.flight c with
    | some r => if r.begun then some (0, 0) else if r.deferred then some (0x10, r.deferSub) else none
    | none => none

/-- The commands that the bundle of core `k` waits for. -/
def State.triggered (s : State) (k : Nat) : List Cmd :=
  (s.coreK k).holds.flatMap fun h => match h with | .chan cs => cs | _ => []

/-- A hold is over: the bundle is complete once no hold is left; with RUN = 0 a wait that is left is abandoned, and the bundle with it (R768). -/
def State.released (s : State) (k : Nat) : State :=
  if (s.coreK k).holds.isEmpty then s.coreAdvance k
  else if k < 4 && !s.flag Reg.FIFE_CTL_RUN k && (s.triggered k).isEmpty then
    (s.modCore k fun c => { c with holds := [] }).wr Reg.FIFE_STAT_STATE k 0
  else s

/-- One command's first answer releases its hold. -/
def State.takeAnswer (s : State) (k : Nat) (c : Cmd) : State :=
  match s.firstAnswer c with
  | none => s
  | some (code, sub) =>
    s.modCore k fun x => { x.check code sub with holds := x.holds.filter fun h => match h with | .chan cs => !cs.any (sameCmd c) | _ => true }

/-- `CHANNEL_TRIGGER_ANSWER`: a command that has waited its turn is tried again, and first answers release the bundle (R760). -/
def execChannelTriggerAnswer (dt k vd : Nat) (s : State) : Answered :=
  let s := s.tick dt
  let cs := s.triggered k
  .next (if !isCore k || !s.firmware || cs.isEmpty then s
  else
    let s := cs.foldl (fun s c => if (s.firstAnswer c).isSome then s else s.chanRun vd c) s
    let s := cs.foldl (fun s c => s.takeAnswer k c) s
    if (s.triggered k).length = cs.length then s else (s.purge k).released k).done

/-- `TMR_WAIT_EXPIRY` of core `k` (R762). -/
def execTmrWaitExpiry (dt k : Nat) (s : State) : Answered :=
  let s := s.tick dt
  let hs := (s.coreK k).holds
  let left := hs.filter fun h => !s.waitOver h
  .next (if !isCore k || !s.firmware || left.length == hs.length then s
  else (s.modCore k fun c => { c with holds := left }).released k).done

/-- `MBX_RX_WAKE` of core `k`: the oldest word goes to MBX.R (R765). -/
def execMbxRxWake (dt k : Nat) (s : State) : Answered :=
  let s := s.tick dt
  let c := s.coreK k
  .next (if !isCore k || !s.firmware || c.mbx.isEmpty || !c.holds.contains .rx then s
  else ((s.modCore k fun c => { c with holds := c.holds.erase .rx }).mbxTake k).released k).done

/-! ### FIFE_CTL and FIFE_MDATA (R768 to R771) -/

/-- RUN is written 1: a halted core goes on. -/
def State.fifeRun (s : State) (k : Nat) : State :=
  let s := s.wr Reg.FIFE_CTL_RUN k 1
  if s.firmware && s.rd Reg.FIFE_STAT_STATE k == 0 then s.wr Reg.FIFE_STAT_STATE k 1 else s

/-- RUN is written 0: the core stops at the bundle boundary; a bundle that waits is abandoned, one that a channel trigger holds completes first. -/
def State.fifeHalt (s : State) (k : Nat) : State :=
  let s := s.wr Reg.FIFE_CTL_RUN k 0
  if s.rd Reg.FIFE_STAT_STATE k = 3 ∨ !(s.triggered k).isEmpty then s
  else (s.modCore k fun c => { c with holds := [] }).wr Reg.FIFE_STAT_STATE k 0

/-- RESTART: as after a warm reset; a lost core stays faulted (R770). -/
def State.fifeRestart (s : State) (k : Nat) : State :=
  if !s.firmware || s.rd Reg.FIFE_STAT_CAUSE k == 6 then s else (s.dropAnswers k).coreStart k

/-- BIST: a failed self-test retires the physical core; a lost core has none to test. -/
def State.fifeBist (s : State) (k : Nat) (fail lost : Bool) : State :=
  if (fail || s.nv.badMem.contains (s.rd Reg.FIFE_STAT_PHYS k)) && s.firmware && s.rd Reg.FIFE_STAT_CAUSE k != 6 then (s.dropAnswers k).coreRetire k lost else s

/-- ADDR moves on after an access to FIFE_MDATA0 when AINC is 1. -/
def State.mdataNext (s : State) : State :=
  if s.flag Reg.FIFE_MSEL_AINC then s.wr Reg.FIFE_MSEL_ADDR 0 (s.rd Reg.FIFE_MSEL_ADDR + 1) else s

/-- FIFE_MDATA0 is read. -/
def State.mdataRead (s : State) : State :=
  ({ s with host := { s.host with readback := s.readWord 0 0x1E 0x804 } }).mdataNext

/-- FIFE_MDATA0 is written by `pf`: the data memory of a halted or faulted core; any other write has no effect and is a clamp. -/
def State.mdataWrite (s : State) (pf v : Nat) : State :=
  let k := s.rd Reg.FIFE_MSEL_CORE
  let a := s.rd Reg.FIFE_MSEL_ADDR
  let st := s.rd Reg.FIFE_STAT_STATE k
  let s := if !s.flag Reg.FIFE_MSEL_MEM && (st == 0 || st == 3) then s.modCore k fun c => { c with dmem := memPut c.dmem a (v % 65536) }
    else s.logSetup 0x1E pf [{ offset := 0x804, lsb := 0, width := 32, src := 0, pf, req := v % 2 ^ 32, applied := s.readWord 0 0x1E 0x804 }]
  s.mdataNext

/-! ### The Shawm pair (R773 to R783) -/

/-- A disagreement is recorded, and die C resets (R774). -/
def State.disagree (s : State) (m : Mismatch) : State :=
  let s := ((((s.wr Reg.SHW_MM0_KIND 0 m.kind).wr Reg.SHW_MM0_PC 0 m.pc).wr Reg.SHW_MM1_VALA 0 m.a).wr Reg.SHW_MM1_VALB 0 m.b).wr Reg.SHW_MM2_WHERE 0 m.at_
  let s := ((s.wr Reg.SHW_MMT_LO 0 (s.ntime % 2 ^ 32)).wr Reg.SHW_MMT_HI 0 (s.ntime / 2 ^ 32)).bump Reg.SHW_CNT_MISMATCH 0
  ({ s with core := { s.core with mismatch := true } }).warmReset

/-- `LOCKSTEP_MISMATCH` (R773, R774). -/
def execLockstepMismatch (dt : Nat) (m : Mismatch) (s : State) : Answered :=
  let s := s.tick dt
  .next (if s.running && s.rd Reg.SHW_STAT_MODE == 0 then s.disagree m else s).done

/-- Copy A waits in SHW.JOIN. -/
def State.joining (s : State) : Bool := s.rd Reg.SHW_STAT_MODE == 1 && s.core.shawm.holds.contains .join

/-- `SHAWM_JOIN`: copy B has stopped; copy and verify end, with a difference or in lockstep (R780, R781). -/
def execShawmJoin (dt : Nat) (diff : Option Mismatch) (s : State) : Answered :=
  let s := s.tick dt
  .next (if !s.joining || s.core.runB then s
  else match diff with
    | some m => s.disagree m
    | none =>
      let by_ := s.core.forced
      let s := (s.modCore 8 fun c => { c.put 0x20E 0 with holds := c.holds.erase .join }).wr Reg.SHW_STAT_MODE 0 0
      let s := { s with core := { s.core with copyB := {}, forced := false } }
      (s.raise 0x1F83 0xFFFF (atByte 17 (b2n by_))).released 8).done

/-- `SPLITMAX_EXPIRY`: copy B is stopped for the join that copy A waits for (R780, R781). -/
def execSplitmaxExpiry (dt : Nat) (s : State) : Answered :=
  let s := s.tick dt
  .next (if s.joining && s.core.runB && decide (s.core.splitAt + s.rd Reg.SHW_CFG_SPLITMAX * 1000000 ≤ s.now) then
    { s with core := { s.core with runB := false, forced := true } }
  else s).done

/-- `LOCKSTEP_LOST_DEBUG`: invasive debug halts or steps a copy (R272, R687, R782, R897). -/
def execLockstepLostDebug (dt : Nat) (s : State) : Answered :=
  let s := s.tick dt
  .next (if !s.running || s.dbgLevel != 2 || s.rd Reg.SHW_STAT_MODE == 2 then s
  else
    let s := (s.wr Reg.SHW_STAT_MODE 0 2).setFlag Reg.SHW_STAT_LLDBG 0 0x1F82 0xFFFF 0
    let s := { s with core := { s.core with runB := false, inj := none } }
    let s := s.debugPolicies
    let s := if s.twSt = 0 then s else s.twLeave
    s.authEnd 4).done

end Sys2Proof.Machine
end

