-- ==== Sys2Proof/Machine/UpdateRows.lean ====
section
/-!
DEFINITION. Sys2Proof/Machine/UpdateRows.lean: staging, commit, trial and confirmation of firmware, defaults, and the Equinox handover
(R737 to R739, R906 to R926).
-/
namespace Sys2Proof.Machine

def State.nvm (s : State) (f : NvState → NvState) : State := { s with nv := f s.nv }

/-- A commit or a trial runs: the other slot is the fallback (R917, log entry 52). -/
def State.updBar (s : State) : Option (Code × Nat) := barIf (s.nv.updState == 3 || s.nv.updState == 4) .refusedState 0x2106

/-- Completion code and sub-code of a failed image check (R911). -/
def imageCode (k : Nat) : Code × Nat := match k with | 1 => (.refusedPolicy, 0x2101) | 2 => (.refusedSecurity, 0x2102) | _ => (.refusedSecurity, 0x2103)

/-- `UPD_STAGE`: `chunk` holds the bytes read from the buffer (R91, R875, R910). -/
def execUpdStage (dt : Nat) (c : Cmd) (chunk : List Byte) (s : State) : Answered :=
  .next (s.serveOp dt c 0x5030 [] fun s =>
    let addr := c.arg 16 8
    let len := c.arg 24 2
    let off := c.arg 28 4
    let bad := decide (len < 8 ∨ 32768 < len ∨ len % 8 ≠ 0 ∨ off % 8 ≠ 0 ∨ slotSize < off + len)
    s.orElse c [barIf (addr % 8 != 0) .refusedPolicy 0x0109, barIf bad .refusedPolicy 0x2108, s.updBar] fun s =>
      let d := s.dma c.pf addr len
      if !d.2 then d.1.complete c .masterFrozen
      else
        let s := d.1
        let k := s.stagingSlot
        let f := s.slot k
        let f := if s.nv.updState = 1 then f else { valid := false, bytes := f.bytes, top := 0 }
        let put := fun (t : Tab Byte) (j : Nat) => memPut t (off + j) (chunk.getD j 0 % 256)
        let f := { f with bytes := (List.range len).foldl put f.bytes, top := max f.top (off + len) }
        ((s.setFwSlot k f).nvm fun n => { n with updState := 1, fallback := false }).complete c .done).done

/-- `UPD_VERIFY`; `sig`: the header's signature verifies under its key (R909, R911).  A staged image that fails now is STAGING again (R913; DEDUCED, log
entry 52). -/
def execUpdVerify (dt : Nat) (c : Cmd) (sig : Bool) (s : State) : Answered :=
  .next (s.serveOp dt c 0x5031 [] fun s =>
    let k := s.stagingSlot
    let f := s.slot k
    let e := s.imageFail f sig
    s.orElse c [s.updBar] fun s =>
      if e = 0 then ((s.setFwSlot k { f with valid := true }).nvm fun n => { n with updState := 2 }).complete c .done
      else
        let s := if s.nv.updState = 2 then (s.setFwSlot k { f with valid := false }).nvm fun n => { n with updState := 1 } else s
        s.complete c (imageCode e).1 (imageCode e).2).done

/-- What the hand-over carries (R919). -/
def State.handoverNow (s : State) : Handover :=
  { loads := s.arb.loads.map fun e => (e.1, e.2.cls, e.2.rem)
    segs := ((List.range 34).filter fun g => s.nmSt g != 0).map fun g => (g, s.nmSt g, s.rd Reg.NM_STAT_KEEPER g)
    loops := ((List.range 48).filter fun n => s.rd Reg.LP_STAT_STATE n != 0).map fun n =>
      (n, s.rd Reg.LP_STAT_STATE n, s.rd Reg.LP_SP n, s.rd Reg.LP_SPEFF n, s.rd Reg.LP_INTEG n) }

/-- Step 1 of a commit: the staging slot is active in trial, the old slot and its settings copy are the fallback (R917). -/
def State.commitRecord (s : State) : State :=
  let s := s.saveLive
  let a := s.nv.active
  let s := (s.setCopy a { s.nv.copy a with live := false }).setCopy (1 - a) { s.nv.copy (1 - a) with live := false }
  s.nvm fun n => { n with active := 1 - a, fallback := true, updState := 3 }

/-- Steps 2 and 3: the hand-over is written, and die C restarts (R917 to R919). -/
def State.commitRestart (s : State) : State :=
  let h := s.handoverNow
  (s.resetDieC false true).pw fun p => { p with handover := some h, restartAt := some s.now }

/-- The objects that a restart could drop: their hold window is shorter than 100 ms, or they have none (R916). -/
def State.holdShort (s : State) : Bool :=
  (recOrder.any fun r => s.active (recObj r) && decide (s.holdw r < 100000000)) || ((List.range 8).any fun n => s.active (ioObj n))

/-- `UPD_COMMIT`; `sig`: the verdict of the re-check of R913.  The command's outcome is reached with step 1 (log entry 52). -/
def execUpdCommit (dt : Nat) (c : Cmd) (sig : Bool) (s : State) : Answered :=
  .next (s.serveOp dt c 0x5032 [] fun s =>
    s.orElse c [barIf (s.nv.updState != 2) .refusedState 0x2104, barIf (s.flag Reg.TW_CFG_EN) .refusedState 0x1D04,
        barIf (s.flag Reg.LIMP_STAT_ACTIVE) .refusedState 0x0302] fun s =>
      let k := s.stagingSlot
      let e := s.imageFail (s.slot k) sig
      if e ≠ 0 then
        ((s.setFwSlot k { s.slot k with valid := false }).nvm fun n => { n with updState := 1 }).complete c (imageCode e).1 (imageCode e).2
      else if c.argBits 16 0 1 = 0 && s.holdShort then s.complete c .refusedState 0x2105
      else (((s.commitRecord).begin c).complete c .done).commitRestart).done

/-- The trial ends: the fallback is released, and the rollback counter rises to the image's SVN (R917, R921). -/
def State.confirm (s : State) : State :=
  let old := s.nv.fusedSvn
  let new := max old (s.slot s.nv.active).svn
  (s.nvm fun n => { n with updState := 0, fallback := false, fusedSvn := new, eqTrial := false }).raise 0x2183 0xFFFF (atByte 16 old + atByte 17 new)

/-- `UPD_CONFIRM` (R921). -/
def execUpdConfirm (dt : Nat) (c : Cmd) (s : State) : Answered :=
  .next (s.serveOp dt c 0x5033 [] fun s =>
    s.orElse c [barIf (s.nv.updState != 4) .refusedState 0x2107] fun s => s.confirm.complete c .done).done

/-- `UPD_ABORT` (R912). -/
def execUpdAbort (dt : Nat) (c : Cmd) (s : State) : Answered :=
  .next (s.serveOp dt c 0x5034 [] fun s =>
    s.orElse c [s.updBar] fun s =>
      let s := if s.nv.updState = 1 ∨ s.nv.updState = 2 then (s.setFwSlot s.stagingSlot {}).nvm fun n => { n with updState := 0 } else s
      s.complete c .done).done

/-- `SET_DEFAULTS` (R926): the active copy takes the defaults; the registers stay as they are until the next start. -/
def execSetDefaults (dt : Nat) (c : Cmd) (s : State) : Answered :=
  .next (s.serveOp dt c 0x5035 [] fun s =>
    let f := s.slot s.nv.active
    let old := (s.nv.copy s.nv.active).schema
    let s := s.setCopy s.nv.active { ok := true, live := false, schema := f.schema, vals := f.defaults }
    let s := (s.wr Reg.SET_STAT_RESULT 0 2).wr Reg.SET_STAT_REASON 0 5
    (s.raise 0x2182 0xFFFF (atByte 16 2 + atByte 17 5 + atByte 20 old + atByte 22 f.schema)).complete c .done).done

/-- CONFIRMT has passed since the trial's first heartbeat with READY = 1. -/
def State.trialOver (s : State) : Bool := decide (s.pwr.trialAt + s.rd Reg.UPD_CFG_CONFIRMT * 1000000000 ≤ s.now)

/-- `AUTO_CONFIRM`: after CONFIRMT, or when the rejoin of an Equinox handover has ended (R692, R921). -/
def execAutoConfirm (dt : Nat) (s : State) : Answered :=
  let s := s.tick dt
  .next (if s.running && s.nv.updState == 4 && ((s.flag Reg.UPD_CFG_AUTOCONF && s.trialOver) || (s.nv.eqTrial && s.twSt == 4)) then s.confirm else s).done

/-- `TRIAL_TIMEOUT`: CONFIRMT has passed without a confirmation, and AUTOCONF is 0 (R922). -/
def execTrialTimeout (dt : Nat) (s : State) : Answered :=
  let s := s.tick dt
  .next (if s.running && s.nv.updState == 4 && !s.flag Reg.UPD_CFG_AUTOCONF && s.trialOver then
    ((s.trialFails 4).resetDieC false true).pw fun p => { p with restartAt := some s.now }
  else s).done

/-! ### The Equinox handover (R737 to R739) -/

/-- EQUINOX_STEP. -/
def State.eqEvent (s : State) (step fail : Nat) : State := s.raise 0x1D85 twObjId (atByte 16 step + atByte 17 fail)

/-- The command completes, and the handover is over. -/
def State.eqEnd (s : State) (code : Code) (sub : Nat) : State :=
  let c := s.twin.equinox
  let s := s.tw fun t => { t with equinox := none }
  match c with | some c => s.complete c code sub | none => s

/-- `TW_EQUINOX` with its step 1: `peer`: the partner holds a verified staged image, `fmt`: which declares format 0102h as readable. -/
def execTwEquinox (dt : Nat) (c : Cmd) (peer fmt : Bool) (s : State) : Answered :=
  .next (s.serveOp dt c 0x5001 [.twin] fun s =>
    s.orElse c (s.pairBar ++ [barIf (s.twRole == 2) .refusedState 0x1D06]) fun s =>
      let f := s.slot s.stagingSlot
      let staged := s.nv.updState == 2 && f.valid && peer && s.twSt == 3
      if !staged then (s.eqEvent 1 1).complete c .faulted 0x1D12
      else if !(f.formats.contains 0x0102 && fmt) then (s.eqEvent 1 1).complete c .refusedPolicy 0x1D0A
      else (((s.begin c).tw fun t => { t with equinox := some c }).nvm fun n => { n with eqStep := 1 }).eqEvent 1 0).done

/-- A module of the pair leaves it, commits its staged slot and restarts, if the re-check of R913 passes. -/
def State.eqCommit (s : State) (sig : Bool) : State :=
  if s.nv.updState ≠ 2 ∨ s.imageFail (s.slot s.stagingSlot) sig ≠ 0 then s
  else ((s.twLeave.commitRecord).nvm fun n => { n with eqTrial := true }).commitRestart

/-- `EQUINOX_STEP`: step `step` ends, at both modules; after step 1 and step 4 the Shadow commits its slot, after step 3 the Lead begins the swap.
`sig`: the re-check of the own staged image; `peer`: the partner's preconditions of a swap. -/
def execEquinoxStep (dt step : Nat) (fail sig peer : Bool) (s : State) : Answered :=
  let s := s.tick dt
  let shadowStarts := step == 1 && s.twRole == 2 && s.twin.equinox.isNone
  let follows := decide (2 ≤ step ∧ step ≤ 5) && s.nv.eqStep + 1 == step
  .next (if !s.twLive || !(shadowStarts || follows) then s
  else if fail then (s.eqEvent step 1).eqEnd .faulted 0x1D12
  else
    let s := (s.nvm fun n => { n with eqStep := step }).eqEvent step 0
    if (step = 1 ∨ step = 4) ∧ s.twRole = 2 then s.eqCommit sig
    else if step = 3 ∧ s.twRole = 1 then s.swapAsk [] false peer
    else if step = 5 then s.eqEnd .done 0
    else s).done

end Sys2Proof.Machine
end

