-- ==== Sys2Proof/Machine/FaultRows.lean ====
section
/-!
DEFINITION. Sys2Proof/Machine/FaultRows.lean: clearing faults and flags, releasing a function, the ECC scrub and the converters' calibration
(R792 to R795, R801 to R809).
-/
namespace Sys2Proof.Machine

/-! ### Clearing a W1C bit (R208, R792, R793) -/

/-- The object whose STAT.FAULT a field is. -/
def faultObj (f : Field) (i : Nat) : Option Nat :=
  if f.id = Reg.CH_STAT_FAULT.id then some (chObj i) else if f.id = Reg.LD_STAT_FAULT.id then some (ldObj i)
  else if f.id = Reg.MX_STAT_FAULT.id then some mxObj else if f.id = Reg.SV_STAT_FAULT.id then some (svObj i)
  else if f.id = Reg.BST_STAT_FAULT.id then some bstObj else if f.id = Reg.HB_STAT_FAULT.id then some (hbObj i)
  else if f.id = Reg.IO_STAT_FAULT.id then some (ioObj i) else none

/-- The cause of an object's latch has gone, as the object's chapter says. -/
def State.objGone (s : State) (o : Nat) : Bool :=
  match kindOf o with
  | .hs | .ls => (s.chMembers (s.chIdx o)).all s.chGone
  | .ld => s.ldGone (objNum o)
  | .sv => s.svGone (objNum o)
  | .hb => s.rd Reg.HB_STAT_CAUSE (objNum o) != 2 || decide (s.tjOf (hbObj (s.hbLeader (objNum o))) ≤ 200)
  | _ => true

/-- A latched object returns to OFF. -/
def State.objClear (s : State) (o : Nat) : State :=
  match kindOf o with
  | .hs | .ls => s.chClear (s.chIdx o)
  | .ld => s.ldClear (objNum o)
  | .mx => s.mxClear
  | .sv => s.svClear (objNum o)
  | .bst => s.bstClear
  | .hb => s.hbClear (s.hbLeader (objNum o))
  | .io => (((s.setSt o 0).wr Reg.IO_STAT_FAULT (objNum o) 0).wr Reg.IO_STAT_CAUSE (objNum o) 0).unverify o
  | _ => s

/-- A moment `t` lies 10 ms or more back. -/
def State.tenMs (s : State) (t : Option Ns) : Bool := match t with | some a => decide (a + 10000000 ≤ s.now) | none => false

/-- The cause of bit `k` of a flag field that is no object's latch has gone (R792). -/
def State.flagGone (s : State) (f : Field) (k : Nat) : Bool :=
  if f.id = Reg.TB_STAT_REFCLK_LOSS.id then s.pwr.refPresent && bits (s.rd Reg.TB_STAT_LOCK) 1 6 == 63
  else if f.id = Reg.TB_STAT_FABRIC_SLOW.id then s.pwr.fabricOk
  else if f.id = Reg.GLB_OVSTAT_OVS.id then decide (s.groupVolt (k + 1) < s.ovRelease)
  else if f.id = Reg.FLT_GLB_GROUND_OFFSET.id then s.tenMs s.pwr.gndOkAt
  else if f.id = Reg.FLT_GLB_CASE_OVERTEMP.id then decide (s.tcase ≤ 800)
  else if f.id = Reg.BAR_STAT_LOST.id then s.flag Reg.BAR_STAT_UP
  else if f.id = Reg.TW_FLAGS_LINEFLT.id then s.tenMs s.twin.lineOkAt
  else if f.id = Reg.SHW_STAT_LLDBG.id then s.rd Reg.SHW_STAT_MODE == 0
  else true

/-- `pf` writes 1 to bit `k` of W1C field `f`, index `i`, whose register stands at `win`, `off`. -/
def State.w1cBit (s : State) (pf win off : Nat) (f : Field) (i k : Nat) : State :=
  if !bit (s.rd f i) k then s
  else
    let no := fun (o : Nat) => s.clearRefused (blockOf (win * 256)) win off (f.lo + k) pf o
    match faultObj f i with
    | some o => if !(s.supplied o || isKind .io o) then s else if s.objGone o then s.objClear o else no o
    | none => if s.flagGone f k then s.wr f i (clrBit (s.rd f i) k) else no (if win = 0x1D then twObjId else 0xFFFF)

/-- The W1C bits of a word that `pf` writes, lowest first. -/
def State.w1cWrite (s : State) (pf win off v : Nat) : State :=
  (fieldsAt win off).foldl (fun s p =>
    if p.1.acc = .w1c then
      ((List.range p.1.width).filter fun k => bit v (p.1.lo + k)).foldl (fun s k => s.w1cBit pf win off p.1 p.2 k) s
    else s) s

/-- `pf` writes 1 to FLT_STAT.ACTIVE of block `w` (R794, R795). -/
def State.activeClear (s : State) (pf w : Nat) : State :=
  let b := s.blk w
  if !isBlock w || !b.active then s
  else if s.persists w then s.clearRefused w 5 (0x20 * w) 0 pf 0xFFFF
  else { s with flt := { s.flt with
      blks := tput s.flt.blks w { b with active := false, merge := 0, firstev := 0 }
      shawm := s.flt.shawm.filter (· != w) } }

/-- `pf` writes FRZ_REL (R801). -/
def State.frzRelease (s : State) (pf v : Nat) : State :=
  let k := bits v 0 2
  let reason := bits v 16 16
  if pf ≠ 0 ∨ k = 0 ∨ !(s.fn k).frozen then s.clampBit 5 pf 0x704 0 2 k 0
  else if reason = 0 then s.clampBit 5 pf 0x704 16 16 0 0
  else s.unfreeze k reason

/-! ### The scrub (R804 to R807) -/

/-- Rows of an array that have been retired. -/
def State.rowsGone (s : State) (a : Nat) : Nat := (s.nv.retired.filter fun r => r.kind == 2 && r.unit == a).length

/-- A stored frame is lost with its row: it is dropped and counted as R609 says. -/
def State.loseFrame (s : State) (sn : Nat) : State :=
  match s.net.stored.find? fun x => x.1 == sn with
  | none => s
  | some (_, x) =>
    let waits := (List.range 10).filter fun p => (s.port p).queue.any fun t => t.sn == sn
    let s := waits.foldl (fun s p => s.modPort p fun y => { y with queue := y.queue.filter fun t => t.sn != sn }) s
    let s : State := { s with net := { s.net with stored := tdel s.net.stored sn } }
    let s := s.showPool
    let s := if x.client < 24 then s.rxDrop x.client
      else if x.client < 34 then s.bump Reg.ETH_DROP_NOMEM (x.client - 24)
      else waits.foldl (fun s p => s.bump Reg.ETH_DROP_NOMEM p) s
    match x.cmd with | some c => s.complete c .refusedState 0x1902 | none => s

/-- A row's contents are lost (R805). -/
def State.loseRow (s : State) (u : ArrayUse) : State :=
  match u with
  | .packet fs => fs.foldl State.loseFrame s
  | .core k faddr ws =>
    let s := s.modCore k fun c => { c with dmem := ws.foldl (fun t w => memPut t (w % 32768) (Config.lostWord k w s.now % 65536)) c.dmem }
    if (s.coreK k).stopped || (k < 4 && (s.rd Reg.FIFE_STAT_STATE k == 3 || s.rd Reg.FIFE_STAT_STATE k == 0)) then s else s.coreFault k 4 faddr
  | _ => s

/-- A bank of the frame identity table is retired (R807): a spare bank serves its entries, which then have no sample, or they read EN 0 for good. -/
def State.bankRetire (s : State) (b reason : Nat) : State :=
  let spare := s.rd Reg.SPR_MISC_FITSP != 0
  let mine := fun (e : Nat) => e / 1024 == b
  let fresh := fun (x : FitEntry) => { x with value := none, since := s.now, word := if spare then x.word else clrBit x.word 4 }
  let s : State := { s with net := { s.net with fit := s.net.fit.map fun p => if mine p.1 then (p.1, fresh p.2) else p } }
  let s := if spare then s.wr Reg.SPR_MISC_FITSP 0 (s.rd Reg.SPR_MISC_FITSP - 1)
    else ({ s with nv := { s.nv with lostBanks := s.nv.lostBanks ++ [b] } } : State).bump Reg.SPR_MISC_FITLOST 0
  s.showUsed.retire 5 reason b 0xFF spare (!spare)

/-- What follows when a retired row has no spare (R806). -/
def State.rowLost (s : State) (h : ScrubHit) : State :=
  match h.use with
  | .packet _ => ({ s with nv := { s.nv with lostCells := s.nv.lostCells + Config.rowCells h.array } } : State).showPool
  | .core k _ _ => if k < 4 then { s with nv := { s.nv with badMem := s.nv.badMem ++ [s.rd Reg.FIFE_STAT_PHYS k] } } else s
  | _ => s

/-- A row is retired (R804 to R806, R811). -/
def State.rowRetire (s : State) (h : ScrubHit) : State :=
  let reason := if h.hard then 4 else 3
  let used := s.rowsGone h.array
  let spare := decide (used < Config.arraySpares h.array)
  let key := 65536 * h.array + h.row % 65536
  let s : State := { s with flt := { s.flt with ecc := if spare then tdel s.flt.ecc key else tput s.flt.ecc key 4 } }
  let s := s.retire 2 reason h.array 0xFF spare (!spare)
  let s := if spare then s.bump Reg.SPR_SRAM_ROWS 0 else (s.rowLost h).sparesOut 2 h.array
  let s := if used + 1 = Config.arraySpares h.array then s.bump Reg.SPR_SRAM_EXHAUSTED 0 else s
  match h.use with
  | .fit b => if (h.hard || !spare) && !s.nv.lostBanks.contains b then s.bankRetire b reason else s
  | _ => s

/-- The scrub meets one error: the fourth corrected one of a row, or an uncorrectable one, retires the row. -/
def State.scrubHit (s : State) (h : ScrubHit) : State :=
  let key := 65536 * h.array + h.row % 65536
  let n := tget 0 s.flt.ecc key
  if h.hard then (s.loseRow h.use).rowRetire h
  else if n = 3 then s.rowRetire h
  else { s with flt := { s.flt with ecc := tput s.flt.ecc key (min 4 (n + 1)) } }

/-- The time `per` has passed since a moment, if there was one. -/
def State.dueFrom (s : State) (t : Option Ns) (per : Nat) : Bool := match t with | some a => decide (a + per ≤ s.now) | none => true

/-- `SRAM_SCRUB`: once every 10 s every array is checked, `hits` being the errors found (R804). -/
def execSramScrub (dt : Nat) (hits : List ScrubHit) (s : State) : Answered :=
  let s := s.tick dt
  .next (if s.dieC && s.dueFrom s.flt.scrubAt 10000000000 then
    hits.foldl State.scrubHit { s with flt := { s.flt with scrubAt := some s.now } }
  else s).done

/-! ### Calibration (R804, R808) -/

/-- Converter `k` (0 die C, 1 to 3 the dies P0 to P2) has drifted by more than ±4 LSB: its spare comparator takes over, or its results are invalid from
then on. -/
def State.adcRetire (s : State) (k : Nat) : State :=
  let sp := s.rd Reg.SPR_MISC_ADCSP
  let lost := s.rd Reg.SPR_MISC_ADCLOST
  if bit lost k then s
  else if bit sp k then (s.wr Reg.SPR_MISC_ADCLOST 0 (setBit lost k)).retire 4 6 k 0xFF false true
  else (s.wr Reg.SPR_MISC_ADCSP 0 (setBit sp k)).retire 4 6 k 0xFF true false

/-- `ADC_CALIBRATION`, every 1 s (R804): `drifts` are the offsets of the converters in die C, P0, P1 and P2, in LSB. -/
def execAdcCalibration (dt : Nat) (drifts : List Int) (s : State) : Answered :=
  let s := s.tick dt
  let ovr := (List.range 4).filter fun k => decide (4 < (drifts.getD k 0).natAbs)
  .next (if s.dieC && s.dueFrom s.flt.calAt 1000000000 then ovr.foldl State.adcRetire { s with flt := { s.flt with calAt := some s.now } } else s).done

end Sys2Proof.Machine
end

