-- ==== Sys2Proof/Machine/SampleRows.lean ====
section
/-!
DEFINITION. Sys2Proof/Machine/SampleRows.lean: the samples of the module and their 1 ms averages, and the logic supplies of the power dies that follow from them (R40, R127,
R286, R819, R944).
-/
namespace Sys2Proof.Machine

/-! ### Power dies without logic supply (R40; log entry 56) -/

/-- The load supplies from which a power die may draw its logic supply. -/
def dieGroups (d : Nat) : List Nat := match d with | 0 => [1, 2, 3] | 1 => [4] | _ => [5, 6]

/-- VBAT or one of the die's groups is at or above 6 V. -/
def Sample.feeds (x : Sample) (d : Nat) : Bool := decide (600 ≤ x.vbat) || (dieGroups d).any fun g => decide (600 ≤ x.volt.getD (g - 1) 0)

/-- The object is on power die `d`. -/
def onDie (d o : Nat) : Bool := match dieOf o with | some k => k == d | none => false

/-- Fields of the windows of the power dies. -/
def dieFields : List Field := [8, 9, 0xA, 0xB, 0xC, 0xD].flatMap Reg.byWindow

/-- The register file without what power die `d` held. -/
def regsWithout (d : Nat) (regs : Tab (Tab Nat)) : Tab (Tab Nat) :=
  dieFields.foldl (fun t f =>
    let es := (tget [] t f.id).filter fun e => match fieldDie f e.1 with | some k => k != d | none => true
    if es.isEmpty then tdel t f.id else tput t f.id es) regs

/-- The output state without the objects of power die `d`. -/
def OutState.without (x : OutState) (d : Nat) : OutState :=
  let p2 := d == 2
  { x with
    objs := x.objs.filter fun e => !onDie d e.1
    limps := x.limps.filter fun e => !onDie d (recObj e.1)
    stageTj := if p2 then [] else x.stageTj, dieTj := x.dieTj.set d 0
    leds := if p2 then [] else x.leds, mx := if p2 then {} else x.mx, valves := if p2 then [] else x.valves, bridges := if p2 then [] else x.bridges
    bstStop := !p2 && x.bstStop, bstOnAt := if p2 then 0 else x.bstOnAt }

/-- Cuts, freezes, dimming and restart slots of a group end: its monitor has stopped. -/
def State.groupDown (s : State) (g : Nat) : State :=
  let s := (((s.setCut g 0 false).setCut g 1 false).setGroup g {})
  let s : State := { s with arb := { s.arb with samples := tdel s.arb.samples g } }
  if g = 0 then s else
  let s := s.wr Reg.GLB_OVSTAT_OV 0 (clrBit (s.rd Reg.GLB_OVSTAT_OV) (g - 1))
  let s := s.wr Reg.ARB_GRPSTAT_DIM 0 (clrBit (s.rd Reg.ARB_GRPSTAT_DIM) (g - 1))
  s.wr Reg.HS_GRP_SAG 0 (clrBit (s.rd Reg.HS_GRP_SAG) (g - 1))

/-- Power die `d` loses its logic supply: commands in flight to its objects complete ABORTED_RESET while die C runs (R127), and all that the die held is
gone, but for what is retired for good (R149, R812). -/
def State.dieLost (s : State) (d : Nat) : State :=
  let cs := if s.dieC then (s.host.inflight.filter fun r => onDie d r.cmd.object).map InFlight.cmd else []
  let s := cs.foldl (fun s c => (s.forget fun e => sameCmd e c).complete c .abortedReset) s
  let was := s.holding
  let t : State := { s with
    regs := regsWithout d s.regs
    out := s.out.without d
    arb := { s.arb with
      loads := s.arb.loads.map fun e => if onDie d e.1 then (e.1, { e.2 with on := false, stand := [], trans := [], inTrans := false, shedAt := none, limp := false, avg := none }) else e
      waiting := s.arb.waiting.filter fun e => !onDie d e.obj
      dieQueue := s.arb.dieQueue.filter fun e => !onDie d e.obj }
    flt := { s.flt with kept := s.flt.kept.filter fun e => !onDie d e.object }
    host := { s.host with staleCmds := s.host.staleCmds.filter fun c => !onDie d c.object }
    pwr := { s.pwr with dieUp := s.pwr.dieUp.set d false } }
  let t := (dieGroups d ++ (if d = 2 then [0] else [])).foldl State.groupDown (s.keepRetired t)
  -- a die without supply declares no heartbeat loss (R280)
  let t := t.wr Reg.LIMP_STAT_HBLOSS 0 (clrBit (t.rd Reg.LIMP_STAT_HBLOSS) d)
  let t := (t.wr Reg.ARB_PEND_PEND 0 t.arb.waiting.length).showUse
  if was.isEmpty then t else t.holdDone

/-- A power die first receives its logic supply, or receives it again (R819): limp-home acts on it with its reset records. -/
def State.dieFed (s : State) (d : Nat) : State :=
  let s := s.pw fun p => { p with dieUp := p.dieUp.set d true, dieAt := p.dieAt.set d s.now }
  if s.flag Reg.LIMP_STAT_ACTIVE then (recOrder.filter fun r => onDie d (recObj r)).foldl State.limpApply s else s

/-- The power dies follow their supplies. -/
def State.dieSupplies (s : State) (x : Sample) : State :=
  match s.pwr.phase with
  | .stop => s
  | _ => (List.range 3).foldl (fun s d =>
      let up := s.pwr.dieUp.getD d false
      if up && !x.feeds d then s.dieLost d else if !up && x.feeds d then s.dieFed d else s) s

/-! ### The sample -/

/-- `CLAIM_RENEW`: a sample of the module; the averages of the last 1 ms renew the claims (R40, R54, R286, R307, R944). -/
def execClaimRenew (dt : Nat) (x : Sample) (s : State) : Answered :=
  let s := (((s.tick dt).globals x).dieSupplies x).endDue
  .next (if s.dieC then (x.loads.foldl State.renewOne s).showUse else s).done

end Sys2Proof.Machine
end

