-- ==== Sys2Proof/Machine/Setup.lean ====
section
/-!
DEFINITION. Sys2Proof/Machine/Setup.lean: setup writes and reads: who may write which window (R86), what a write is checked for (R10, R11, R18, R19,
R131, R821), and what each register does beside taking its value.
-/
namespace Sys2Proof.Machine

/-- Outcome of a self-test that a write starts: it fails; a core's data memory has an uncorrectable error (R769, R770, R809). -/
structure SelfTest where
  fail : Bool := false
  lost : Bool := false

/-! ### Permission (R10, R86) -/

/-- The window is reserved. -/
def reservedWin (w : Nat) : Bool := [0x06, 0x07, 0x0F, 0x13].contains w || decide (0x22 ≤ w)

/-- The register at an offset of window 05h is CLOG_SEL or an FLT_CTL, which every function writes in its own view. -/
def ownView (off : Nat) : Bool := off / 4 * 4 == 0x800 || (decide (off < 0x440) && off / 4 % 8 == 1 && isBlock (off / 32))

/-- `pf` may write at `win`, `off`. -/
def mayWrite (pf win off : Nat) : Bool :=
  win == 1
  || (pf == 0 && [0x00, 0x02, 0x03, 0x1D, 0x1F].contains win)
  || (pf ≤ 1 && (win == 5 || decide (8 ≤ win ∧ win ≤ 0x12) || decide (0x14 ≤ win ∧ win ≤ 0x1C) || win == 0x1E))
  || (2 ≤ pf && win == 5 && ownView off)
  || (pf == 3 && [0x04, 0x20, 0x21].contains win)

/-! ### What a field does beside taking its value -/

/-- EN of a LIN channel changes: READY, or OFF with its commands aborted (R127). -/
def State.linTurn (s : State) (n : Nat) (on : Bool) : State :=
  if on then (s.wr Reg.LIN_STAT_STATE n 1).lineSeen (16 + n)
  else
    let x := s.lin n
    let cs := x.sleeps ++ x.wakes ++ (match x.req with | some (_, _, c) => [c] | none => [])
    let s := (s.wr Reg.LIN_STAT_STATE n 0).modLin n fun x => { x with sleeps := [], wakes := [], req := none, fresh := true, changed := s.ntime }
    cs.foldl (fun s c => s.complete c .abortedReset) s

/-- EN of a port goes to 0: its frames leave, its commands are aborted (R127), and its link is down. -/
def State.portStop (s : State) (p : Nat) : State :=
  let x := s.port p
  let ts := (match x.line with | some b => [b.tx] | none => []) ++ x.queue
  let s := s.modPort p fun x => { x with queue := [], line := none }
  let s := ts.foldl (fun s t => s.canGone t .abortedReset 0) s
  if !s.flag Reg.ETH_STAT_LINK p then s
  else
    let s := ((s.wr Reg.ETH_STAT_LINK p 0).wr Reg.ETH_STAT_SQI p 0).bump Reg.ETH_STAT_LINKCHG p
    (s.modPort p fun x => { x with changed := s.ntime }).raise 0x1981 (0x220 + p) 0

/-- EN of a receive queue goes to 1 (R564). -/
def State.rxqStart (s : State) (g : Nat) : State := ((s.wr Reg.RXQ_IDX_TAIL g 0).wr Reg.RXQ_IDX_HEAD g 0).modRxq g fun _ => {}

/-- TMEN is set: reference messages begin with the next multiple of REFPER, and the first one names no message before it (R573, R574). -/
def State.tmBegin (s : State) (n : Nat) : State := (s.tmFrom n).modCan n fun x => { x with tmSof := none }

/-- DBGMAX has taken a value: a level above it is left at once (R863). -/
def State.dbgCap (s : State) : State := if s.rd Reg.SEC_DBG_DBGMAX < s.dbgLevel then s.dbgTo 0 255 else s

/-- What the write of field `p`, which read `old` and now reads `v`, does beside. -/
def State.fieldHook (s : State) (p : Put) (old v : Nat) : State :=
  let f := p.f
  let i := p.i
  let up := decide (old = 0 ∧ v = 1)
  let down := decide (old = 1 ∧ v = 0)
  if f.id = Reg.GLB_NETCFG_NET.id then s.netDeclared
  else if f.id = Reg.GLB_PACE_REQ.id then (s.wr Reg.GLB_PACE_REQ 0 old).paceRequest v
  else if f.id = Reg.MX_CFG0_ICOL.id then s.mxIcolSet old v
  else if f.isIn [Reg.MX_CFG0_NROWSM1, Reg.MX_CFG1_COLEN] then (if s.isOn mxObj then s.mxJudge else s)
  else if f.id = Reg.CAN_CTL_EN.id then (if up then s.canStart i else if down then s.canStop i else s)
  else if f.id = Reg.RXQ_CFG_EN.id then (if up then s.rxqStart i else s)
  else if f.id = Reg.TM_CFG_TMEN.id then (if up then s.tmBegin i else s)
  else if f.id = Reg.TM_CFG_REFPER.id then (if old ≠ v then s.tmFrom i else s)
  else if f.id = Reg.LIN_CFG_EN.id then (if up ∨ down then s.linTurn i up else s)
  else if f.id = Reg.ETH_PCFG_EN.id then (if down then s.portStop i else s)
  else if f.id = Reg.ETH_RSV_PRSV.id then s.showPool
  else if f.id = Reg.QBV_CFG_EN.id then
    (if down ∨ up then s.modPort i fun x => { x with gates := if up then gatesAt (s.gateCycle i) (s.gatePos i) else 255 } else s)
  else if f.id = Reg.GPTP_CFG_ROLE.id then (if old ≠ v then s.gptpTo (match v with | 1 => 4 | 2 => 1 | _ => 0) else s)
  else if f.id = Reg.NM_CFG_EN.id then (if up then s.nmEnable i else if down then s.nmDisable i else s)
  else if f.id = Reg.TW_CFG_EN.id then (if up then s.twEnable else if down then s.twDisable else s)
  else if f.id = Reg.FIFE_CTL_RUN.id then (if v = 1 then s.fifeRun i else s.fifeHalt i)
  else if f.id = Reg.SEC_DBG_DBGMAX.id then s.dbgCap
  else s

/-! ### Actions of WO bits -/

/-- FIT_CMD.OP (R616, R644). -/
def State.fitOp (s : State) (pf op : Nat) : State := match op with | 1 => s.fitReadOp | 2 => s.fitCommit pf | 3 => s.fitClear | _ => s

/-- RESTART and BIST of core `k` (R768, R769). -/
def State.fifeCtl (s : State) (t : SelfTest) (k v : Nat) : State :=
  let s := if bit v 1 then s.fifeRestart k else s
  if bit v 2 then s.fifeBist k t.fail t.lost else s

/-- SEARCH and DEAUTH (R884, R897). -/
def State.accCtl (s : State) (pf v : Nat) : State :=
  let s := if bit v 0 then s.accSearch pf else s
  if bit v 1 then s.authEnd 2 else s

/-- What the word written at `win`, `off` does through write-only fields. -/
def State.woWrite (s : State) (pf win off v : Nat) (t : SelfTest) : State :=
  if win = 0x03 ∧ off = 0 then (if bit v 0 then s.stopRequest (bit v 1) else s)
  else if win = 0x08 ∧ off = 0xD04 then (if bit v 0 then s.limpRelease pf else s)
  else if win = 0x0B ∧ off = 0xC04 then ((List.range 12).filter (bit v)).foldl State.ldCommit s
  else if win = 0x0C ∧ off = 8 then (if bit v 0 then s.mxSwap else s)
  else if win = 0x1A ∧ off = 4 then s.fitOp pf (bits v 0 2)
  else if win = 0x1C ∧ off = 0xC20 then (if bit v 8 then s.clearNodes (s.rd Reg.NM_NSEL_SEG) else s)
  else if win = 0x1E ∧ off < 0x100 ∧ off % 0x40 = 4 then s.fifeCtl t (off / 0x40) v
  else if win = 0x20 ∧ off = 0xC then s.accCtl pf v
  else s

/-! ### A write -/

/-- The loopback self-test that enabling a CAN channel starts (R804, R809): without a slice, EN stays 0. -/
def State.enTest (s : State) (t : SelfTest) (r : List (Put × Nat)) : State × List (Put × Nat) :=
  r.foldl (fun (a : State × List (Put × Nat)) x =>
    if x.1.f.id = Reg.CAN_CTL_EN.id ∧ x.2 = 1 ∧ s.rd x.1.f x.1.i = 0 then
      let c := a.1.canTest x.1.i t.fail
      (c.1, a.2 ++ [(x.1, if c.2 then 1 else 0)])
    else (a.1, a.2 ++ [x])) (s, [])

/-- The word `v` written to the fields of the register at `win`, `off`: W1C bits, RW fields after their checks, then what they and the WO fields do. -/
def State.fieldWrite (s : State) (pf win off v : Nat) (t : SelfTest) : State :=
  let s := s.w1cWrite pf win off v
  let x := s.enTest t (s.clampAll pf 0 (putsOf win off v))
  let r := x.2
  let first := (tget ({} : ClampLog) s.flt.clogs win).next
  let s1 := (x.1.putAll win 0 pf 0 0xFFFF r).clampEvent pf win first (clampsOf 0 pf 0 0xFFFF r).length
  let loop := r.find? fun y => y.1.f.isIn lpLocked && y.1.v != y.2 && s.rd Reg.LP_STAT_STATE y.1.i != 0
  let s1 := match loop with | some y => s1.loopCount y.1.i 6 | none => s1
  let s1 := r.foldl (fun s1 y => s1.fieldHook y.1 (s.rd y.1.f y.1.i) y.2) s1
  s1.woWrite pf win off v t

/-- A function's own view of window 05h, and the registers of that window that have no field in the register file. -/
def State.fltWrite (s : State) (pf off v : Nat) (t : SelfTest) : State :=
  let f := s.fn pf
  if off < 0x440 then
    match off % 32 with
    | 0 => if bit v 0 then s.activeClear pf (off / 32) else s
    | 4 => if isBlock (off / 32) then s.setFn pf { f with fltCtl := tput f.fltCtl (off / 32) (bits v 0 1 + 16 * bits v 4 4) } else s
    | _ => s
  else if off = 0x704 then s.frzRelease pf v
  else if off = 0x800 then s.setFn pf { f with clogSel := bits v 0 8 }
  else s.fieldWrite pf 5 off v t

/-- An entry of the selected gate list, its INTERVAL at least 32 ns; while the port's EN is 1 the write is a clamp (R600, R643). -/
def State.gateWrite (s : State) (pf v : Nat) : State :=
  let p := s.rd Reg.QBV_SEL_PORT
  let k := 128 * p + s.rd Reg.QBV_SEL_ENTRY
  if s.flag Reg.QBV_CFG_EN p then s.clampBit 0x19 pf 0xC44 0 32 v (tget 0x0F4240FF s.net.gateList k)
  else
    let n := max 32 (v / 256)
    let s : State := { s with net := { s.net with gateList := tput s.net.gateList k (v % 256 + 256 * n) } }
    if n = v / 256 then s else s.clampBit 0x19 pf 0xC44 8 24 (v / 256) n

/-- Four pixels of the back buffer (R368). -/
def Matrix.putPix (m : Matrix) (j v : Nat) : Matrix :=
  { m with back := (List.range 128).map fun k => if k / 4 = j then bits v (8 * (k % 4)) 8 else m.back.getD k 0 }

/-- A word of the staged entry. -/
def NetState.stage (x : NetState) (j v : Nat) : NetState := { x with staging := putBits x.staging (32 * j) 32 v }

/-- A permitted, aligned 32-bit write outside window 01h. -/
def State.setupWrite (s : State) (pf win off v : Nat) (t : SelfTest) : State :=
  if win = 5 then s.fltWrite pf off v t
  else if win = 0x0C ∧ 0x100 ≤ off ∧ off < 0x180 then s.modMx fun m => m.putPix ((off - 0x100) / 4) v
  else if win = 0x1A ∧ 0x40 ≤ off ∧ off < 0x80 then { s with net := s.net.stage ((off - 0x40) / 4) v }
  else if win = 0x19 ∧ off = 0xC44 then s.gateWrite pf v
  else if win = 0x1E ∧ off = 0x804 then s.mdataWrite pf v
  else s.fieldWrite pf win off v t

/-- Where `win` stands for BAR2 and for BAR4 of the function (DESIGN CHOICE, log entry 83: the rows name no access to them). -/
def bar2 : Nat := 0x100
def bar4 : Nat := 0x101

/-- A setup write of `size` bytes by `pf` (R9 to R11, R86, R131, R821, R875), or a write of its BAR2 page or of BAR4 (R80, R103). -/
def State.writeReg (s : State) (pf win off size v : Nat) (t : SelfTest := {}) : State :=
  if win = bar2 ∧ off < 4096 then s.bar2Write pf off size v
  else if win = bar4 ∧ off < 4096 then
    (if !s.host.linkUp || decide (4 ≤ pf ∨ size ≠ 4 ∨ off % 4 ≠ 0) then s else s.bar4Write pf off (v % 2 ^ 32))
  else if !s.hrReach pf || decide (256 ≤ win ∨ 4096 ≤ off) || reservedWin win then s
  else
    let whole := size == 4 && off % 4 == 0
    if win = 1 then (if whole then s.hrSetup pf off (v % 2 ^ 32) else s)
    else if !s.running then s
    else if !mayWrite pf win off then s.violate { pf, kind := 0, win, off, time := s.ntime }
    else if whole then s.setupWrite pf win off (v % 2 ^ 32) t else s

/-- The register at `win`, `off` is written with one of its fields changed to `v`, the others as they read. -/
def State.writeField (s : State) (pf : Nat) (f : Field) (i v : Nat) (t : SelfTest := {}) : State :=
  let p := f.place i
  let rw := (fieldsAt p.1 p.2).foldl (fun w x => if x.1.acc = .rw ∧ x.1.id ≠ f.id then w + s.shown x.1 x.2 * 2 ^ x.1.lo else w) 0
  s.writeReg pf p.1 p.2 4 (rw + v % 2 ^ f.width * 2 ^ f.lo) t

/-- A setup read of `size` bytes by `pf`, or one of its BAR2 page, which returns 0 (R103), or of BAR4 (R80): the value latched is what it returns (R10, R11,
R19).  A read of a reserved location with another width or alignment returns all ones, as R11 gives, and not R10's 0 (DESIGN CHOICE, log entry 83). -/
def State.readReg (s : State) (pf win off size : Nat) : State :=
  if !s.host.linkUp || decide (4 ≤ pf ∨ 4096 ≤ off) then s
  else if win = bar2 then { s with host := { s.host with readback := 0 } }
  else if win = bar4 then { s with host := { s.host with readback := if size = 4 ∧ off % 4 = 0 then s.bar4Word pf off else 2 ^ (8 * size) - 1 } }
  else if 256 ≤ win then s
  else if size ≠ 4 ∨ off % 4 ≠ 0 then { s with host := { s.host with readback := 2 ^ (8 * size) - 1 } }
  else
    let v := if reservedWin win then 0 else s.readWord pf win off
    let s := { s with host := { s.host with readback := v } }
    if win = 0x1E ∧ off = 0x804 then s.mdataRead else s.rcRead pf win off

end Sys2Proof.Machine
end

