-- ==== Sys2Proof/Machine/SetupRows.lean ====
section
/-!
DEFINITION. Sys2Proof/Machine/SetupRows.lean: setup writes and reads, and the writes that have rows of their own.  What each register does stands in
Machine/Setup.lean.
-/
namespace Sys2Proof.Machine

/-- `SETUP_WRITE` (R86). -/
def execSetupWrite (dt : Nat) (pf win off size v : Nat) (fail lost : Bool) (s : State) : Answered :=
  let s := s.tick dt
  .next (s.writeReg pf win off size v { fail, lost }).done

/-- `RC_READ`: a setup read (R19). -/
def execRcRead (dt : Nat) (pf win off size : Nat) (s : State) : Answered :=
  let s := s.tick dt
  .next (s.readReg pf win off size).done

/-- `NET_DECLARE` (R312). -/
def execNetDeclare (dt : Nat) (pf v : Nat) (s : State) : Answered :=
  let s := s.tick dt
  .next (s.writeField pf Reg.GLB_NETCFG_NET 0 v).done

/-- `PACE_REQUEST` (R68, R69). -/
def execPaceRequest (dt : Nat) (pf v : Nat) (s : State) : Answered :=
  let s := s.tick dt
  .next (s.writeField pf Reg.GLB_PACE_REQ 0 v).done

/-- `W1C_FAULT_CLEAR` (R792, R793). -/
def execW1cFaultClear (dt : Nat) (pf win off v : Nat) (s : State) : Answered :=
  let s := s.tick dt
  .next (s.writeReg pf win off 4 v).done

/-- `LIMP_RELEASE` (R259, R261). -/
def execLimpRelease (dt : Nat) (pf : Nat) (s : State) : Answered :=
  let s := s.tick dt
  .next (s.writeReg pf 0x08 0xD04 4 1).done

/-- `TCCOMMIT` (R348). -/
def execTccommit (dt : Nat) (pf v : Nat) (s : State) : Answered :=
  let s := s.tick dt
  .next (s.writeReg pf 0x0B 0xC04 4 v).done

/-- `MX_SWAP_REQUEST` (R368). -/
def execMxSwapRequest (dt : Nat) (pf : Nat) (s : State) : Answered :=
  let s := s.tick dt
  .next (s.writeReg pf 0x0C 8 4 1).done

/-- `CAN_ENABLE` (R544, R809). -/
def execCanEnable (dt : Nat) (pf n : Nat) (fail : Bool) (s : State) : Answered :=
  let s := s.tick dt
  .next (if n < 16 then s.writeField pf Reg.CAN_CTL_EN n 1 { fail } else s).done

/-- `RXQ_ENABLE` (R564). -/
def execRxqEnable (dt : Nat) (pf g : Nat) (s : State) : Answered :=
  let s := s.tick dt
  .next (if g < 34 then s.writeField pf Reg.RXQ_CFG_EN g 1 else s).done

/-- `FIT_READ` (R644). -/
def execFitRead (dt : Nat) (pf : Nat) (s : State) : Answered :=
  let s := s.tick dt
  .next (s.writeReg pf 0x1A 4 4 1).done

/-- `FIT_COMMIT` (R616). -/
def execFitCommit (dt : Nat) (pf : Nat) (s : State) : Answered :=
  let s := s.tick dt
  .next (s.writeReg pf 0x1A 4 4 2).done

/-- `FIT_CLEAR_COUNTERS` (R644). -/
def execFitClearCounters (dt : Nat) (pf : Nat) (s : State) : Answered :=
  let s := s.tick dt
  .next (s.writeReg pf 0x1A 4 4 3).done

/-- `NM_ENABLE` (R650). -/
def execNmEnable (dt : Nat) (pf g : Nat) (s : State) : Answered :=
  let s := s.tick dt
  .next (if g < 34 then s.writeField pf Reg.NM_CFG_EN g 1 else s).done

/-- `NM_DISABLE` (R650). -/
def execNmDisable (dt : Nat) (pf g : Nat) (s : State) : Answered :=
  let s := s.tick dt
  .next (if g < 34 then s.writeField pf Reg.NM_CFG_EN g 0 else s).done

/-- `NODE_TABLE_CLEAR` (R678). -/
def execNodeTableClear (dt : Nat) (pf g : Nat) (s : State) : Answered :=
  let s := s.tick dt
  .next (s.writeReg pf 0x1C 0xC20 4 (g % 64 + 256)).done

/-- `TW_ENABLE` (R689). -/
def execTwEnable (dt : Nat) (pf : Nat) (s : State) : Answered :=
  let s := s.tick dt
  .next (s.writeField pf Reg.TW_CFG_EN 0 1).done

/-- `TW_DISABLE` (R693). -/
def execTwDisable (dt : Nat) (pf : Nat) (s : State) : Answered :=
  let s := s.tick dt
  .next (s.writeField pf Reg.TW_CFG_EN 0 0).done

/-- `FIFE_RUN` (R768). -/
def execFifeRun (dt : Nat) (pf k : Nat) (s : State) : Answered :=
  let s := s.tick dt
  .next (if k < 4 then s.writeField pf Reg.FIFE_CTL_RUN k 1 else s).done

/-- `FIFE_HALT` (R768). -/
def execFifeHalt (dt : Nat) (pf k : Nat) (s : State) : Answered :=
  let s := s.tick dt
  .next (if k < 4 then s.writeField pf Reg.FIFE_CTL_RUN k 0 else s).done

/-- `FIFE_RESTART` (R768). -/
def execFifeRestart (dt : Nat) (pf k : Nat) (s : State) : Answered :=
  let s := s.tick dt
  .next (if k < 4 then s.writeField pf Reg.FIFE_CTL_RESTART k 1 else s).done

/-- `FIFE_BIST` (R769, R770). -/
def execFifeBist (dt : Nat) (pf k : Nat) (fail lost : Bool) (s : State) : Answered :=
  let s := s.tick dt
  .next (if k < 4 then s.writeField pf Reg.FIFE_CTL_BIST k 1 { fail, lost } else s).done

/-- `FIFE_MEM_ACCESS` (R771). -/
def execFifeMemAccess (dt : Nat) (pf : Nat) (w : Option Nat) (s : State) : Answered :=
  let s := s.tick dt
  .next (match w with | none => s.readReg pf 0x1E 0x804 4 | some v => s.writeReg pf 0x1E 0x804 4 v).done

/-- `FLT_ACTIVE_CLEAR` (R794). -/
def execFltActiveClear (dt : Nat) (pf w : Nat) (s : State) : Answered :=
  let s := s.tick dt
  .next (if w < 34 then s.writeReg pf 5 (0x20 * w) 4 1 else s).done

/-- `FRZ_REL` (R801). -/
def execFrzRel (dt : Nat) (pf k reason : Nat) (s : State) : Answered :=
  let s := s.tick dt
  .next (s.writeReg pf 5 0x704 4 (k % 4 + reason % 65536 * 65536)).done

/-- `STOP_REQUEST` (R827). -/
def execStopRequest (dt : Nat) (pf : Nat) (force : Bool) (s : State) : Answered :=
  let s := s.tick dt
  .next (s.writeReg pf 3 0 4 (1 + 2 * b2n force)).done

/-- `DBGMAX_WRITE` (R863). -/
def execDbgmaxWrite (dt : Nat) (pf v : Nat) (s : State) : Answered :=
  let s := s.tick dt
  .next (s.writeField pf Reg.SEC_DBG_DBGMAX 0 v).done

/-- `DMA_LOCK` (R878). -/
def execDmaLock (dt : Nat) (pf : Nat) (s : State) : Answered :=
  let s := s.tick dt
  .next (s.writeField pf Reg.SEC_DMALOCK_LOCK 0 1).done

/-- `ACC_SEARCH` (R884). -/
def execAccSearch (dt : Nat) (pf : Nat) (s : State) : Answered :=
  let s := s.tick dt
  .next (s.writeReg pf 0x20 0xC 4 1).done

/-- `ACC_DEAUTH` (R897). -/
def execAccDeauth (dt : Nat) (pf : Nat) (s : State) : Answered :=
  let s := s.tick dt
  .next (s.writeReg pf 0x20 0xC 4 2).done

end Sys2Proof.Machine
end

