-- ==== Sys2Proof/Machine/Dispatch.lean ====
section
/-!
DEFINITION. Sys2Proof/Machine/Dispatch.lean: the meaning of every command, one direct call each.
-/
namespace Sys2Proof.Machine

/-- The effect of a command on everything but the queue. -/
def exec (i : Instr) (s : State) : Host.Outcome State Fault Refusal :=
  match i with
  | .setupWrite dt pf win off size v fail lost => Sys2Proof.Machine.execSetupWrite dt pf win off size v fail lost s
  | .rcRead dt pf win off size => Sys2Proof.Machine.execRcRead dt pf win off size s
  | .dbCmd dt pf n v => Sys2Proof.Machine.execDbCmd dt pf n v s
  | .dbCpl dt pf m v => Sys2Proof.Machine.execDbCpl dt pf m v s
  | .dbEvt dt pf v => Sys2Proof.Machine.execDbEvt dt pf v s
  | .commandFetch dt pf n batch fail => Sys2Proof.Machine.execCommandFetch dt pf n batch fail s
  | .dmaReadFail dt c => Sys2Proof.Machine.execDmaReadFail dt c s
  | .nop dt c => Sys2Proof.Machine.execNop dt c s
  | .cancel dt c => Sys2Proof.Machine.execCancel dt c s
  | .setTime dt c => Sys2Proof.Machine.execSetTime dt c s
  | .readStatus dt c => Sys2Proof.Machine.execReadStatus dt c s
  | .readHistory dt c => Sys2Proof.Machine.execReadHistory dt c s
  | .readCounters dt c => Sys2Proof.Machine.execReadCounters dt c s
  | .readRetirements dt c => Sys2Proof.Machine.execReadRetirements dt c s
  | .readIdentity dt c => Sys2Proof.Machine.execReadIdentity dt c s
  | .cmdRingEnable dt pf n => Sys2Proof.Machine.execCmdRingEnable dt pf n s
  | .cmdRingDisable dt pf n => Sys2Proof.Machine.execCmdRingDisable dt pf n s
  | .cplRingEnable dt pf m => Sys2Proof.Machine.execCplRingEnable dt pf m s
  | .cplRingDisable dt pf m => Sys2Proof.Machine.execCplRingDisable dt pf m s
  | .evtRingEnable dt pf => Sys2Proof.Machine.execEvtRingEnable dt pf s
  | .evtRingDisable dt pf => Sys2Proof.Machine.execEvtRingDisable dt pf s
  | .ownerChange dt o v => Sys2Proof.Machine.execOwnerChange dt o v s
  | .msixModtimeExpiry dt pf kind m => Sys2Proof.Machine.execMsixModtimeExpiry dt pf kind m s
  | .msixUnmask dt pf v mask => Sys2Proof.Machine.execMsixUnmask dt pf v mask s
  | .functionLevelReset dt pf => Sys2Proof.Machine.execFunctionLevelReset dt pf s
  | .pePerstAssert dt => Sys2Proof.Machine.execPePerstAssert dt s
  | .powerUpReset dt => Sys2Proof.Machine.execPowerUpReset dt s
  | .dieCBrownout dt => Sys2Proof.Machine.execDieCBrownout dt s
  | .dieCResetRelease dt => Sys2Proof.Machine.execDieCResetRelease dt s
  | .warmReset dt => Sys2Proof.Machine.execWarmReset dt s
  | .regRdy dt => Sys2Proof.Machine.execRegRdy dt s
  | .oscRdy dt => Sys2Proof.Machine.execOscRdy dt s
  | .memRdy dt ok => Sys2Proof.Machine.execMemRdy dt ok s
  | .logicRdy dt b => Sys2Proof.Machine.execLogicRdy dt b s
  | .oscRdyTimeout dt => Sys2Proof.Machine.execOscRdyTimeout dt s
  | .regRdyTimeout dt => Sys2Proof.Machine.execRegRdyTimeout dt s
  | .peWakeRelease dt => Sys2Proof.Machine.execPeWakeRelease dt s
  | .netDeclare dt pf v => Sys2Proof.Machine.execNetDeclare dt pf v s
  | .ovFreeze dt g volt => Sys2Proof.Machine.execOvFreeze dt g volt s
  | .ovRelease dt g volt => Sys2Proof.Machine.execOvRelease dt g volt s
  | .ovSustained dt g => Sys2Proof.Machine.execOvSustained dt g s
  | .ovSustainedRelease dt g => Sys2Proof.Machine.execOvSustainedRelease dt g s
  | .groundOffset dt mv => Sys2Proof.Machine.execGroundOffset dt mv s
  | .caseOvertemp dt tc => Sys2Proof.Machine.execCaseOvertemp dt tc s
  | .paceRequest dt pf v => Sys2Proof.Machine.execPaceRequest dt pf v s
  | .paceSettled dt => Sys2Proof.Machine.execPaceSettled dt s
  | .fabricWindow dt rate pcie reed rest => Sys2Proof.Machine.execFabricWindow dt rate pcie reed rest s
  | .refclkLoss dt => Sys2Proof.Machine.execRefclkLoss dt s
  | .refclkReturn dt => Sys2Proof.Machine.execRefclkReturn dt s
  | .outOff dt c => Sys2Proof.Machine.execOutOff dt c s
  | .outOn dt c vd => Sys2Proof.Machine.execOutOn dt c vd s
  | .outPwm dt c vd => Sys2Proof.Machine.execOutPwm dt c vd s
  | .clearFault dt c => Sys2Proof.Machine.execClearFault dt c s
  | .chConfig dt c => Sys2Proof.Machine.execChConfig dt c s
  | .learnReset dt c => Sys2Proof.Machine.execLearnReset dt c s
  | .diagCheck dt c => Sys2Proof.Machine.execDiagCheck dt c s
  | .diagCheckTimeout dt o => Sys2Proof.Machine.execDiagCheckTimeout dt o s
  | .w1cFaultClear dt pf win off v => Sys2Proof.Machine.execW1cFaultClear dt pf win off v s
  | .chOutcomeReached dt o => Sys2Proof.Machine.execChOutcomeReached dt o s
  | .pwmPeriodStart dt o lim => Sys2Proof.Machine.execPwmPeriodStart dt o lim s
  | .overcurrentTrip dt o m => Sys2Proof.Machine.execOvercurrentTrip dt o m s
  | .shortTrip dt o m => Sys2Proof.Machine.execShortTrip dt o m s
  | .clampEventEnd dt o e => Sys2Proof.Machine.execClampEventEnd dt o e s
  | .reverseCurrent dt o m => Sys2Proof.Machine.execReverseCurrent dt o m s
  | .reverseReclose dt o => Sys2Proof.Machine.execReverseReclose dt o s
  | .thermalTrip dt o m => Sys2Proof.Machine.execThermalTrip dt o m s
  | .deltaTTrip dt o m => Sys2Proof.Machine.execDeltaTTrip dt o m s
  | .thermalRestart dt o m => Sys2Proof.Machine.execThermalRestart dt o m s
  | .inrushDwellExpiry dt o m => Sys2Proof.Machine.execInrushDwellExpiry dt o m s
  | .inrushOffEnd dt o => Sys2Proof.Machine.execInrushOffEnd dt o s
  | .inrushEnd dt o lim m => Sys2Proof.Machine.execInrushEnd dt o lim m s
  | .inrushTimeout dt o m => Sys2Proof.Machine.execInrushTimeout dt o m s
  | .sagSet dt g => Sys2Proof.Machine.execSagSet dt g s
  | .sagClear dt g => Sys2Proof.Machine.execSagClear dt g s
  | .diagOnSample dt o a => Sys2Proof.Machine.execDiagOnSample dt o a s
  | .offStateTest dt o v0 v1 => Sys2Proof.Machine.execOffStateTest dt o v0 v1 s
  | .overloadDetect dt o a => Sys2Proof.Machine.execOverloadDetect dt o a s
  | .verdictStale dt o => Sys2Proof.Machine.execVerdictStale dt o s
  | .segmentMeasure dt o ds => Sys2Proof.Machine.execSegmentMeasure dt o ds s
  | .segmentFault dt o seg => Sys2Proof.Machine.execSegmentFault dt o seg s
  | .limpNAssert dt => Sys2Proof.Machine.execLimpNAssert dt s
  | .limpNRelease dt => Sys2Proof.Machine.execLimpNRelease dt s
  | .lhChange dt mask => Sys2Proof.Machine.execLhChange dt mask s
  | .heartbeat dt ready => Sys2Proof.Machine.execHeartbeat dt ready s
  | .heartbeatLoss dt => Sys2Proof.Machine.execHeartbeatLoss dt s
  | .limpRelease dt pf => Sys2Proof.Machine.execLimpRelease dt pf s
  | .holdWindowExpiry dt o => Sys2Proof.Machine.execHoldWindowExpiry dt o s
  | .pairedHeartbeatGap dt o => Sys2Proof.Machine.execPairedHeartbeatGap dt o s
  | .powerDieServe dt g vd => Sys2Proof.Machine.execPowerDieServe dt g vd s
  | .demandServed dt vd => Sys2Proof.Machine.execDemandServed dt vd s
  | .demandLatencyExpiry dt o => Sys2Proof.Machine.execDemandLatencyExpiry dt o s
  | .budgetShed dt => Sys2Proof.Machine.execBudgetShed dt s
  | .claimRenew dt x => Sys2Proof.Machine.execClaimRenew dt x s
  | .groupCut dt g level volt => Sys2Proof.Machine.execGroupCut dt g level volt s
  | .cutRelease dt g level volt => Sys2Proof.Machine.execCutRelease dt g level volt s
  | .restartSlot dt g c => Sys2Proof.Machine.execRestartSlot dt g c s
  | .slotCancel dt g level volt => Sys2Proof.Machine.execSlotCancel dt g level volt s
  | .dimUpdate dt g volt => Sys2Proof.Machine.execDimUpdate dt g volt s
  | .ledOff dt c => Sys2Proof.Machine.execLedOff dt c s
  | .ledOn dt c => Sys2Proof.Machine.execLedOn dt c s
  | .ledDim dt c => Sys2Proof.Machine.execLedDim dt c s
  | .ldClearFault dt c => Sys2Proof.Machine.execLdClearFault dt c s
  | .ldDiagCheck dt c => Sys2Proof.Machine.execLdDiagCheck dt c s
  | .ldConfig dt c => Sys2Proof.Machine.execLdConfig dt c s
  | .tcompLoad dt c => Sys2Proof.Machine.execTcompLoad dt c s
  | .tccommit dt pf v => Sys2Proof.Machine.execTccommit dt pf v s
  | .ldSoftstartDone dt n => Sys2Proof.Machine.execLdSoftstartDone dt n s
  | .ldSoftstartTimeout dt n => Sys2Proof.Machine.execLdSoftstartTimeout dt n s
  | .ldOpenString dt n m => Sys2Proof.Machine.execLdOpenString dt n m s
  | .ldShort dt n m => Sys2Proof.Machine.execLdShort dt n m s
  | .ldThermal dt n m => Sys2Proof.Machine.execLdThermal dt n m s
  | .ldThermalRestart dt n m => Sys2Proof.Machine.execLdThermalRestart dt n m s
  | .headroomSet dt n => Sys2Proof.Machine.execHeadroomSet dt n s
  | .headroomClear dt n => Sys2Proof.Machine.execHeadroomClear dt n s
  | .ntcFault dt n => Sys2Proof.Machine.execNtcFault dt n s
  | .ntcRecover dt n => Sys2Proof.Machine.execNtcRecover dt n s
  | .tcompSample dt n t => Sys2Proof.Machine.execTcompSample dt n t s
  | .dimPeriodStart dt n => Sys2Proof.Machine.execDimPeriodStart dt n s
  | .ldMeasure dt n a v => Sys2Proof.Machine.execLdMeasure dt n a v s
  | .mxOff dt c => Sys2Proof.Machine.execMxOff dt c s
  | .mxOn dt c => Sys2Proof.Machine.execMxOn dt c s
  | .mxBright dt c => Sys2Proof.Machine.execMxBright dt c s
  | .mxClearFault dt c => Sys2Proof.Machine.execMxClearFault dt c s
  | .mxConfig dt c => Sys2Proof.Machine.execMxConfig dt c s
  | .mxFrame dt c px => Sys2Proof.Machine.execMxFrame dt c px s
  | .mxSwapRequest dt pf => Sys2Proof.Machine.execMxSwapRequest dt pf s
  | .mxFrameBoundary dt lows => Sys2Proof.Machine.execMxFrameBoundary dt lows s
  | .mxRowShort dt => Sys2Proof.Machine.execMxRowShort dt s
  | .svOff dt c => Sys2Proof.Machine.execSvOff dt c s
  | .svOn dt c => Sys2Proof.Machine.execSvOn dt c s
  | .svHold dt c => Sys2Proof.Machine.execSvHold dt c s
  | .svClearFault dt c => Sys2Proof.Machine.execSvClearFault dt c s
  | .svDiagCheck dt c => Sys2Proof.Machine.execSvDiagCheck dt c s
  | .svConfig dt c => Sys2Proof.Machine.execSvConfig dt c s
  | .svLearnReset dt c => Sys2Proof.Machine.execSvLearnReset dt c s
  | .svConfig2 dt c => Sys2Proof.Machine.execSvConfig2 dt c s
  | .boostEnd dt n e imax ti vbst => Sys2Proof.Machine.execBoostEnd dt n e imax ti vbst s
  | .peakEnd dt n => Sys2Proof.Machine.execPeakEnd dt n s
  | .decayEnd dt n e => Sys2Proof.Machine.execDecayEnd dt n e s
  | .armatureDip dt n d => Sys2Proof.Machine.execArmatureDip dt n d s
  | .armatureStuck dt n => Sys2Proof.Machine.execArmatureStuck dt n s
  | .svShort dt n m => Sys2Proof.Machine.execSvShort dt n m s
  | .bankShort dt b => Sys2Proof.Machine.execBankShort dt b s
  | .svThermal dt n m => Sys2Proof.Machine.execSvThermal dt n m s
  | .svThermalRestart dt n m => Sys2Proof.Machine.execSvThermalRestart dt n m s
  | .svOffTest dt n v => Sys2Proof.Machine.execSvOffTest dt n v s
  | .bstOff dt c => Sys2Proof.Machine.execBstOff dt c s
  | .bstOn dt c => Sys2Proof.Machine.execBstOn dt c s
  | .bstClearFault dt c => Sys2Proof.Machine.execBstClearFault dt c s
  | .bstConfig dt c => Sys2Proof.Machine.execBstConfig dt c s
  | .bstReady dt vbst => Sys2Proof.Machine.execBstReady dt vbst s
  | .bstShort dt vbst => Sys2Proof.Machine.execBstShort dt vbst s
  | .bstThermal dt m => Sys2Proof.Machine.execBstThermal dt m s
  | .bstOvervoltageStop dt vbst => Sys2Proof.Machine.execBstOvervoltageStop dt vbst s
  | .bstOvervoltageResume dt vbst => Sys2Proof.Machine.execBstOvervoltageResume dt vbst s
  | .bstHeadroomSet dt vs6 vbst => Sys2Proof.Machine.execBstHeadroomSet dt vs6 vbst s
  | .bstHeadroomClear dt vs6 => Sys2Proof.Machine.execBstHeadroomClear dt vs6 s
  | .hbOff dt c => Sys2Proof.Machine.execHbOff dt c s
  | .hbDrive dt c => Sys2Proof.Machine.execHbDrive dt c s
  | .hbBrake dt c => Sys2Proof.Machine.execHbBrake dt c s
  | .hbClearFault dt c => Sys2Proof.Machine.execHbClearFault dt c s
  | .hbDiagCheck dt c => Sys2Proof.Machine.execHbDiagCheck dt c s
  | .hbMove dt c => Sys2Proof.Machine.execHbMove dt c s
  | .hbSetpos dt c => Sys2Proof.Machine.execHbSetpos dt c s
  | .hbConfig dt c => Sys2Proof.Machine.execHbConfig dt c s
  | .hbConfig2 dt c => Sys2Proof.Machine.execHbConfig2 dt c s
  | .rippleCount dt n rate a => Sys2Proof.Machine.execRippleCount dt n rate a s
  | .hbStall dt n a => Sys2Proof.Machine.execHbStall dt n a s
  | .hbTmaxExpiry dt n => Sys2Proof.Machine.execHbTmaxExpiry dt n s
  | .hbTrap dt n a mean => Sys2Proof.Machine.execHbTrap dt n a mean s
  | .hbRampEnd dt n => Sys2Proof.Machine.execHbRampEnd dt n s
  | .hbReverseEnd dt n => Sys2Proof.Machine.execHbReverseEnd dt n s
  | .hbShort dt n m => Sys2Proof.Machine.execHbShort dt n m s
  | .hbThermal dt n m => Sys2Proof.Machine.execHbThermal dt n m s
  | .hbThermalRestart dt n m => Sys2Proof.Machine.execHbThermalRestart dt n m s
  | .hbOpenDetect dt n => Sys2Proof.Machine.execHbOpenDetect dt n s
  | .loopOpen dt c => Sys2Proof.Machine.execLoopOpen dt c s
  | .loopClose dt c => Sys2Proof.Machine.execLoopClose dt c s
  | .loopSetpoint dt c => Sys2Proof.Machine.execLoopSetpoint dt c s
  | .clearFlags dt c => Sys2Proof.Machine.execClearFlags dt c s
  | .loopConfig dt c => Sys2Proof.Machine.execLoopConfig dt c s
  | .loopCoef dt c => Sys2Proof.Machine.execLoopCoef dt c s
  | .loopLimits dt c => Sys2Proof.Machine.execLoopLimits dt c s
  | .loopSlew dt c => Sys2Proof.Machine.execLoopSlew dt c s
  | .loopSample dt n age raw => Sys2Proof.Machine.execLoopSample dt n age raw s
  | .swConfig dt c => Sys2Proof.Machine.execSwConfig dt c s
  | .swSample dt n vin => Sys2Proof.Machine.execSwSample dt n vin s
  | .staticWake dt n vin => Sys2Proof.Machine.execStaticWake dt n vin s
  | .pollWake dt n vin => Sys2Proof.Machine.execPollWake dt n vin s
  | .iiConfig dt c => Sys2Proof.Machine.execIiConfig dt c s
  | .countClear dt c => Sys2Proof.Machine.execCountClear dt c s
  | .wireBreak dt n a => Sys2Proof.Machine.execWireBreak dt n a s
  | .ioOutOn dt c => Sys2Proof.Machine.execIoOutOn dt c s
  | .ioOutOff dt c => Sys2Proof.Machine.execIoOutOff dt c s
  | .ioClearFault dt c => Sys2Proof.Machine.execIoClearFault dt c s
  | .ioDiagCheck dt c => Sys2Proof.Machine.execIoDiagCheck dt c s
  | .ioConfig dt c => Sys2Proof.Machine.execIoConfig dt c s
  | .ioOvercurrent dt n m => Sys2Proof.Machine.execIoOvercurrent dt n m s
  | .ioThermalTrip dt n m => Sys2Proof.Machine.execIoThermalTrip dt n m s
  | .ioThermalRestart dt n m => Sys2Proof.Machine.execIoThermalRestart dt n m s
  | .vfldUv dt v => Sys2Proof.Machine.execVfldUv dt v s
  | .vfldRestart dt v => Sys2Proof.Machine.execVfldRestart dt v s
  | .barrierUplinkFrame dt crc seq vins iin rises falls vfld => Sys2Proof.Machine.execBarrierUplinkFrame dt crc seq vins iin rises falls vfld s
  | .barrierDownlinkFrame dt crc seq => Sys2Proof.Machine.execBarrierDownlinkFrame dt crc seq s
  | .barrierLoss dt field => Sys2Proof.Machine.execBarrierLoss dt field s
  | .fieldPowerLoss dt => Sys2Proof.Machine.execFieldPowerLoss dt s
  | .canSend dt c rcd => Sys2Proof.Machine.execCanSend dt c rcd s
  | .idUnblock dt c => Sys2Proof.Machine.execIdUnblock dt c s
  | .rxRelease dt c => Sys2Proof.Machine.execRxRelease dt c s
  | .linPublish dt c => Sys2Proof.Machine.execLinPublish dt c s
  | .linSched dt c => Sys2Proof.Machine.execLinSched dt c s
  | .linSleep dt c => Sys2Proof.Machine.execLinSleep dt c s
  | .linWake dt c => Sys2Proof.Machine.execLinWake dt c s
  | .canEnable dt pf n fail => Sys2Proof.Machine.execCanEnable dt pf n fail s
  | .rxqEnable dt pf g => Sys2Proof.Machine.execRxqEnable dt pf g s
  | .canFrameReceived dt g f lag => Sys2Proof.Machine.execCanFrameReceived dt g f lag s
  | .canFrameSent dt g tdc => Sys2Proof.Machine.execCanFrameSent dt g tdc s
  | .canArbitrationLost dt n => Sys2Proof.Machine.execCanArbitrationLost dt n s
  | .canErrorFrame dt n type pos tx coll exempt more => Sys2Proof.Machine.execCanErrorFrame dt n type pos tx coll exempt more s
  | .canBusOff dt n => Sys2Proof.Machine.execCanBusOff dt n s
  | .canBusOffRecovery dt n => Sys2Proof.Machine.execCanBusOffRecovery dt n s
  | .canCancelLatch dt c => Sys2Proof.Machine.execCanCancelLatch dt c s
  | .tmReferenceDue dt n past => Sys2Proof.Machine.execTmReferenceDue dt n past s
  | .linSlot dt n err => Sys2Proof.Machine.execLinSlot dt n err s
  | .linHeaderReceived dt n id err => Sys2Proof.Machine.execLinHeaderReceived dt n id err s
  | .ethFrameReceived dt p fcs bs lag => Sys2Proof.Machine.execEthFrameReceived dt p fcs bs lag s
  | .ethSend dt c rcd => Sys2Proof.Machine.execEthSend dt c rcd s
  | .ethFrameSent dt p => Sys2Proof.Machine.execEthFrameSent dt p s
  | .fitRead dt pf => Sys2Proof.Machine.execFitRead dt pf s
  | .fitCommit dt pf => Sys2Proof.Machine.execFitCommit dt pf s
  | .fitClearCounters dt pf => Sys2Proof.Machine.execFitClearCounters dt pf s
  | .frameEgressStart dt g => Sys2Proof.Machine.execFrameEgressStart dt g s
  | .fitPeriodicSend dt e => Sys2Proof.Machine.execFitPeriodicSend dt e s
  | .freshLost dt e => Sys2Proof.Machine.execFreshLost dt e s
  | .qbvGateChange dt p => Sys2Proof.Machine.execQbvGateChange dt p s
  | .pathSilent dt e p => Sys2Proof.Machine.execPathSilent dt e p s
  | .gptpSync dt ofs => Sys2Proof.Machine.execGptpSync dt ofs s
  | .gptpHoldover dt => Sys2Proof.Machine.execGptpHoldover dt s
  | .gptpSyncSend dt => Sys2Proof.Machine.execGptpSyncSend dt s
  | .macAging dt => Sys2Proof.Machine.execMacAging dt s
  | .linkState dt p up sqi => Sys2Proof.Machine.execLinkState dt p up sqi s
  | .nmNeed dt c => Sys2Proof.Machine.execNmNeed dt c s
  | .nmRelease dt c => Sys2Proof.Machine.execNmRelease dt c s
  | .nmEnable dt pf g => Sys2Proof.Machine.execNmEnable dt pf g s
  | .nmDisable dt pf g => Sys2Proof.Machine.execNmDisable dt pf g s
  | .keepaliveSend dt g => Sys2Proof.Machine.execKeepaliveSend dt g s
  | .tkaExpiry dt g => Sys2Proof.Machine.execTkaExpiry dt g s
  | .tprepExpiry dt g => Sys2Proof.Machine.execTprepExpiry dt g s
  | .needHoldEnd dt g => Sys2Proof.Machine.execNeedHoldEnd dt g s
  | .fwdHoldEnd dt g => Sys2Proof.Machine.execFwdHoldEnd dt g s
  | .segmentWake dt g b => Sys2Proof.Machine.execSegmentWake dt g b s
  | .failsafeSleepRequest dt g answered => Sys2Proof.Machine.execFailsafeSleepRequest dt g answered s
  | .failsafeTimeout dt g => Sys2Proof.Machine.execFailsafeTimeout dt g s
  | .nmKeeper dt g => Sys2Proof.Machine.execNmKeeper dt g s
  | .linSilenceSleep dt n => Sys2Proof.Machine.execLinSilenceSleep dt n s
  | .nodeTableClear dt pf g => Sys2Proof.Machine.execNodeTableClear dt pf g s
  | .twJoin dt c => Sys2Proof.Machine.execTwJoin dt c s
  | .twPart dt c => Sys2Proof.Machine.execTwPart dt c s
  | .twSolstice dt c peer => Sys2Proof.Machine.execTwSolstice dt c peer s
  | .twEquinox dt c peer fmt => Sys2Proof.Machine.execTwEquinox dt c peer fmt s
  | .twEnable dt pf => Sys2Proof.Machine.execTwEnable dt pf s
  | .twDisable dt pf => Sys2Proof.Machine.execTwDisable dt pf s
  | .claimDelayExpiry dt rival same => Sys2Proof.Machine.execClaimDelayExpiry dt rival same s
  | .pairRoleLow dt same det on => Sys2Proof.Machine.execPairRoleLow dt same det on s
  | .pairOkLow dt => Sys2Proof.Machine.execPairOkLow dt s
  | .twHeartbeatSend dt => Sys2Proof.Machine.execTwHeartbeatSend dt s
  | .twHeartbeatLoss dt role ok parted det on => Sys2Proof.Machine.execTwHeartbeatLoss dt role ok parted det on s
  | .pairRoleReleased dt det on => Sys2Proof.Machine.execPairRoleReleased dt det on s
  | .heartbeatRestored dt => Sys2Proof.Machine.execHeartbeatRestored dt s
  | .reedLaneLoss dt k => Sys2Proof.Machine.execReedLaneLoss dt k s
  | .mirrorSnapshot dt => Sys2Proof.Machine.execMirrorSnapshot dt s
  | .imageReceived dt im whole crc took => Sys2Proof.Machine.execImageReceived dt im whole crc took s
  | .mirrorLate dt us => Sys2Proof.Machine.execMirrorLate dt us s
  | .driveMessage dt d late => Sys2Proof.Machine.execDriveMessage dt d late s
  | .partnerLost dt o cause back => Sys2Proof.Machine.execPartnerLost dt o cause back s
  | .journalTimeout dt => Sys2Proof.Machine.execJournalTimeout dt s
  | .oobHeartbeatSend dt => Sys2Proof.Machine.execOobHeartbeatSend dt s
  | .oobHeartbeatReceived dt role serial later => Sys2Proof.Machine.execOobHeartbeatReceived dt role serial later s
  | .lineFault dt k bad => Sys2Proof.Machine.execLineFault dt k bad s
  | .solsticeDue dt why peer => Sys2Proof.Machine.execSolsticeDue dt why peer s
  | .swapPrecondTimeout dt => Sys2Proof.Machine.execSwapPrecondTimeout dt s
  | .swapProveDone dt fail => Sys2Proof.Machine.execSwapProveDone dt fail s
  | .takeoverSlow dt => Sys2Proof.Machine.execTakeoverSlow dt s
  | .equinoxStep dt step fail sig peer => Sys2Proof.Machine.execEquinoxStep dt step fail sig peer s
  | .offtestWindow dt first off => Sys2Proof.Machine.execOfftestWindow dt first off s
  | .bundleIssue dt k ecc vd => Sys2Proof.Machine.execBundleIssue dt k ecc vd s
  | .channelTriggerAnswer dt k vd => Sys2Proof.Machine.execChannelTriggerAnswer dt k vd s
  | .tmrWaitExpiry dt k => Sys2Proof.Machine.execTmrWaitExpiry dt k s
  | .mbxRxWake dt k => Sys2Proof.Machine.execMbxRxWake dt k s
  | .fifeRun dt pf k => Sys2Proof.Machine.execFifeRun dt pf k s
  | .fifeHalt dt pf k => Sys2Proof.Machine.execFifeHalt dt pf k s
  | .fifeRestart dt pf k => Sys2Proof.Machine.execFifeRestart dt pf k s
  | .fifeBist dt pf k fail lost => Sys2Proof.Machine.execFifeBist dt pf k fail lost s
  | .fifeMemAccess dt pf w => Sys2Proof.Machine.execFifeMemAccess dt pf w s
  | .lockstepMismatch dt m => Sys2Proof.Machine.execLockstepMismatch dt m s
  | .shawmJoin dt diff => Sys2Proof.Machine.execShawmJoin dt diff s
  | .splitmaxExpiry dt => Sys2Proof.Machine.execSplitmaxExpiry dt s
  | .lockstepLostDebug dt => Sys2Proof.Machine.execLockstepLostDebug dt s
  | .fltActiveClear dt pf w => Sys2Proof.Machine.execFltActiveClear dt pf w s
  | .frzRel dt pf k reason => Sys2Proof.Machine.execFrzRel dt pf k reason s
  | .sramScrub dt hits => Sys2Proof.Machine.execSramScrub dt hits s
  | .adcCalibration dt drifts => Sys2Proof.Machine.execAdcCalibration dt drifts s
  | .stopRequest dt pf force => Sys2Proof.Machine.execStopRequest dt pf force s
  | .stopDrainEnd dt => Sys2Proof.Machine.execStopDrainEnd dt s
  | .stopDrainTimeout dt => Sys2Proof.Machine.execStopDrainTimeout dt s
  | .stopOutputsEnd dt => Sys2Proof.Machine.execStopOutputsEnd dt s
  | .stopSaveEnd dt => Sys2Proof.Machine.execStopSaveEnd dt s
  | .stopCommitEnd dt => Sys2Proof.Machine.execStopCommitEnd dt s
  | .stopClocksEnd dt => Sys2Proof.Machine.execStopClocksEnd dt s
  | .stopRailsEnd dt => Sys2Proof.Machine.execStopRailsEnd dt s
  | .stopTimerWake dt => Sys2Proof.Machine.execStopTimerWake dt s
  | .tokenIrqWake dt => Sys2Proof.Machine.execTokenIrqWake dt s
  | .pePerstRelease dt => Sys2Proof.Machine.execPePerstRelease dt s
  | .secProvision dt c rcd sig => Sys2Proof.Machine.execSecProvision dt c rcd sig s
  | .keySlotProgram dt c rcd sig => Sys2Proof.Machine.execKeySlotProgram dt c rcd sig s
  | .keySlotRevoke dt c rcd sig => Sys2Proof.Machine.execKeySlotRevoke dt c rcd sig s
  | .lcToField dt c rcd sig => Sys2Proof.Machine.execLcToField dt c rcd sig s
  | .lcToFieldService dt c rcd sig => Sys2Proof.Machine.execLcToFieldService dt c rcd sig s
  | .lcBackToField dt c rcd sig => Sys2Proof.Machine.execLcBackToField dt c rcd sig s
  | .lcToRetired dt c rcd sig => Sys2Proof.Machine.execLcToRetired dt c rcd sig s
  | .secAttest dt c nonce partner => Sys2Proof.Machine.execSecAttest dt c nonce partner s
  | .fieldServiceExpiry dt => Sys2Proof.Machine.execFieldServiceExpiry dt s
  | .dapChallenge dt => Sys2Proof.Machine.execDapChallenge dt s
  | .dapSubmit dt req rcd sig => Sys2Proof.Machine.execDapSubmit dt req rcd sig s
  | .dapLeave dt => Sys2Proof.Machine.execDapLeave dt s
  | .dapNonceExpiry dt => Sys2Proof.Machine.execDapNonceExpiry dt s
  | .dapLockoutEnd dt => Sys2Proof.Machine.execDapLockoutEnd dt s
  | .dbgmaxWrite dt pf v => Sys2Proof.Machine.execDbgmaxWrite dt pf v s
  | .dmaLock dt pf => Sys2Proof.Machine.execDmaLock dt pf s
  | .accSearch dt pf => Sys2Proof.Machine.execAccSearch dt pf s
  | .accDeauth dt pf => Sys2Proof.Machine.execAccDeauth dt pf s
  | .tokenFrameReceived dt uhf bs overlap => Sys2Proof.Machine.execTokenFrameReceived dt uhf bs overlap s
  | .searchSlotEnd dt => Sys2Proof.Machine.execSearchSlotEnd dt s
  | .responseTimeout dt => Sys2Proof.Machine.execResponseTimeout dt s
  | .sessionTimeout dt => Sys2Proof.Machine.execSessionTimeout dt s
  | .releaseMessage dt past => Sys2Proof.Machine.execReleaseMessage dt past s
  | .authTimeout dt => Sys2Proof.Machine.execAuthTimeout dt s
  | .accLockoutEnd dt => Sys2Proof.Machine.execAccLockoutEnd dt s
  | .lockoutStore dt => Sys2Proof.Machine.execLockoutStore dt s
  | .accEnrol dt c rcd sig => Sys2Proof.Machine.execAccEnrol dt c rcd sig s
  | .accRevoke dt c rcd sig => Sys2Proof.Machine.execAccRevoke dt c rcd sig s
  | .accInstallKeys dt c rcd sig tag => Sys2Proof.Machine.execAccInstallKeys dt c rcd sig tag s
  | .updStage dt c chunk => Sys2Proof.Machine.execUpdStage dt c chunk s
  | .updVerify dt c sig => Sys2Proof.Machine.execUpdVerify dt c sig s
  | .updCommit dt c sig => Sys2Proof.Machine.execUpdCommit dt c sig s
  | .updConfirm dt c => Sys2Proof.Machine.execUpdConfirm dt c s
  | .updAbort dt c => Sys2Proof.Machine.execUpdAbort dt c s
  | .setDefaults dt c => Sys2Proof.Machine.execSetDefaults dt c s
  | .autoConfirm dt => Sys2Proof.Machine.execAutoConfirm dt s
  | .trialTimeout dt => Sys2Proof.Machine.execTrialTimeout dt s
  | .vkeepLoss dt kept => Sys2Proof.Machine.execVkeepLoss dt kept s
  | .pcieLinkDown dt => Sys2Proof.Machine.execPcieLinkDown dt s
  | .pcieLinkUp dt => Sys2Proof.Machine.execPcieLinkUp dt s
  | .reedLaneLock dt k => Sys2Proof.Machine.execReedLaneLock dt k s
  | .twJoinTimeout dt => Sys2Proof.Machine.execTwJoinTimeout dt s
  | .twinRefreshTimeout dt => Sys2Proof.Machine.execTwinRefreshTimeout dt s
  | .oobHeartbeatSilent dt => Sys2Proof.Machine.execOobHeartbeatSilent dt s
  | .barrierFrameMissing dt uplink => Sys2Proof.Machine.execBarrierFrameMissing dt uplink s

end Sys2Proof.Machine
end

