-- ==== Sys2Proof/WellFormed.lean ====
section
/-!
DEFINITION. Sys2Proof/WellFormed.lean: the operands that a command of the block can carry: descriptor fields in their widths (R88), one of the four
functions (R79), bytes, measured values in their widths.
-/
namespace Sys2Proof
open Sys2Proof.Machine

/-- The descriptor's fields have the widths of R88, and it comes from a command ring or a core that exists. -/
def Machine.Cmd.wf (c : Cmd) : Bool :=
  decide (c.pf < 4) && decide (c.ring < 32) && decide (c.slot < 4096) && decide (c.op < 2 ^ 16) && decide (c.flags < 2 ^ 16)
  && decide (c.tag < 2 ^ 16) && decide (c.object < 2 ^ 16) && decide (c.seq < 2 ^ 32) && decide (c.maxlat < 2 ^ 16) && decide (c.rsv < 2 ^ 16)
  && decide (c.param < 2 ^ 128) && (match c.src with | .core k => decide (k < 4) || k == 8 | _ => true)

/-- A measured current and output voltage of 16 bits, a temperature of 8 bits. -/
def Machine.Meas.wf (m : Meas) : Bool := decide (m.i < 2 ^ 16) && decide (m.tj < 2 ^ 8) && decide (m.vout < 2 ^ 16)

/-- Every element is a byte. -/
def bytesWf (bs : List Byte) : Bool := bs.all fun b => decide (b < 256)

/-- The command's operands are such as the block can meet. -/
def Instr.wf (i : Instr) : Bool :=
  match i with
  | .setupWrite _ pf _ _ _ _ _ _ => decide (pf < 4)
  | .rcRead _ pf _ _ _ => decide (pf < 4)
  | .dbCmd _ pf _ _ => decide (pf < 4)
  | .dbCpl _ pf _ _ => decide (pf < 4)
  | .dbEvt _ pf _ => decide (pf < 4)
  | .commandFetch _ pf _ batch _ => decide (pf < 4) && batch.all Cmd.wf
  | .dmaReadFail _ c => c.wf
  | .nop _ c => c.wf
  | .cancel _ c => c.wf
  | .setTime _ c => c.wf
  | .readStatus _ c => c.wf
  | .readHistory _ c => c.wf
  | .readCounters _ c => c.wf
  | .readRetirements _ c => c.wf
  | .readIdentity _ c => c.wf
  | .cmdRingEnable _ pf _ => decide (pf < 4)
  | .cmdRingDisable _ pf _ => decide (pf < 4)
  | .cplRingEnable _ pf _ => decide (pf < 4)
  | .cplRingDisable _ pf _ => decide (pf < 4)
  | .evtRingEnable _ pf => decide (pf < 4)
  | .evtRingDisable _ pf => decide (pf < 4)
  | .ownerChange _ _ _ => true
  | .msixModtimeExpiry _ pf _ _ => decide (pf < 4)
  | .msixUnmask _ pf _ _ => decide (pf < 4)
  | .functionLevelReset _ pf => decide (pf < 4)
  | .pePerstAssert _ => true
  | .powerUpReset _ => true
  | .dieCBrownout _ => true
  | .dieCResetRelease _ => true
  | .warmReset _ => true
  | .regRdy _ => true
  | .oscRdy _ => true
  | .memRdy _ _ => true
  | .logicRdy _ _ => true
  | .oscRdyTimeout _ => true
  | .regRdyTimeout _ => true
  | .peWakeRelease _ => true
  | .netDeclare _ pf _ => decide (pf < 4)
  | .ovFreeze _ _ _ => true
  | .ovRelease _ _ _ => true
  | .ovSustained _ _ => true
  | .ovSustainedRelease _ _ => true
  | .groundOffset _ _ => true
  | .caseOvertemp _ _ => true
  | .paceRequest _ pf _ => decide (pf < 4)
  | .paceSettled _ => true
  | .fabricWindow _ _ _ _ _ => true
  | .refclkLoss _ => true
  | .refclkReturn _ => true
  | .outOff _ c => c.wf
  | .outOn _ c _ => c.wf
  | .outPwm _ c _ => c.wf
  | .clearFault _ c => c.wf
  | .chConfig _ c => c.wf
  | .learnReset _ c => c.wf
  | .diagCheck _ c => c.wf
  | .diagCheckTimeout _ _ => true
  | .w1cFaultClear _ pf _ _ _ => decide (pf < 4)
  | .chOutcomeReached _ _ => true
  | .pwmPeriodStart _ _ _ => true
  | .overcurrentTrip _ _ m => m.wf
  | .shortTrip _ _ m => m.wf
  | .clampEventEnd _ _ _ => true
  | .reverseCurrent _ _ m => m.wf
  | .reverseReclose _ _ => true
  | .thermalTrip _ _ m => m.wf
  | .deltaTTrip _ _ m => m.wf
  | .thermalRestart _ _ m => m.wf
  | .inrushDwellExpiry _ _ m => m.wf
  | .inrushOffEnd _ _ => true
  | .inrushEnd _ _ _ m => m.wf
  | .inrushTimeout _ _ m => m.wf
  | .sagSet _ _ => true
  | .sagClear _ _ => true
  | .diagOnSample _ _ _ => true
  | .offStateTest _ _ _ _ => true
  | .overloadDetect _ _ _ => true
  | .verdictStale _ _ => true
  | .segmentMeasure _ _ ds => ds.meas.wf
  | .segmentFault _ _ _ => true
  | .limpNAssert _ => true
  | .limpNRelease _ => true
  | .lhChange _ _ => true
  | .heartbeat _ _ => true
  | .heartbeatLoss _ => true
  | .limpRelease _ pf => decide (pf < 4)
  | .holdWindowExpiry _ _ => true
  | .pairedHeartbeatGap _ _ => true
  | .powerDieServe _ _ _ => true
  | .demandServed _ _ => true
  | .demandLatencyExpiry _ _ => true
  | .budgetShed _ => true
  | .claimRenew _ x => x.meas.all fun p => p.2.wf
  | .groupCut _ _ _ _ => true
  | .cutRelease _ _ _ _ => true
  | .restartSlot _ _ _ => true
  | .slotCancel _ _ _ _ => true
  | .dimUpdate _ _ _ => true
  | .ledOff _ c => c.wf
  | .ledOn _ c => c.wf
  | .ledDim _ c => c.wf
  | .ldClearFault _ c => c.wf
  | .ldDiagCheck _ c => c.wf
  | .ldConfig _ c => c.wf
  | .tcompLoad _ c => c.wf
  | .tccommit _ pf _ => decide (pf < 4)
  | .ldSoftstartDone _ _ => true
  | .ldSoftstartTimeout _ _ => true
  | .ldOpenString _ _ m => m.wf
  | .ldShort _ _ m => m.wf
  | .ldThermal _ _ m => m.wf
  | .ldThermalRestart _ _ m => m.wf
  | .headroomSet _ _ => true
  | .headroomClear _ _ => true
  | .ntcFault _ _ => true
  | .ntcRecover _ _ => true
  | .tcompSample _ _ _ => true
  | .dimPeriodStart _ _ => true
  | .ldMeasure _ _ _ _ => true
  | .mxOff _ c => c.wf
  | .mxOn _ c => c.wf
  | .mxBright _ c => c.wf
  | .mxClearFault _ c => c.wf
  | .mxConfig _ c => c.wf
  | .mxFrame _ c px => c.wf && bytesWf px
  | .mxSwapRequest _ pf => decide (pf < 4)
  | .mxFrameBoundary _ _ => true
  | .mxRowShort _ => true
  | .svOff _ c => c.wf
  | .svOn _ c => c.wf
  | .svHold _ c => c.wf
  | .svClearFault _ c => c.wf
  | .svDiagCheck _ c => c.wf
  | .svConfig _ c => c.wf
  | .svLearnReset _ c => c.wf
  | .svConfig2 _ c => c.wf
  | .boostEnd _ _ _ _ _ _ => true
  | .peakEnd _ _ => true
  | .decayEnd _ _ _ => true
  | .armatureDip _ _ _ => true
  | .armatureStuck _ _ => true
  | .svShort _ _ m => m.wf
  | .bankShort _ _ => true
  | .svThermal _ _ m => m.wf
  | .svThermalRestart _ _ m => m.wf
  | .svOffTest _ _ _ => true
  | .bstOff _ c => c.wf
  | .bstOn _ c => c.wf
  | .bstClearFault _ c => c.wf
  | .bstConfig _ c => c.wf
  | .bstReady _ _ => true
  | .bstShort _ _ => true
  | .bstThermal _ m => m.wf
  | .bstOvervoltageStop _ _ => true
  | .bstOvervoltageResume _ _ => true
  | .bstHeadroomSet _ _ _ => true
  | .bstHeadroomClear _ _ => true
  | .hbOff _ c => c.wf
  | .hbDrive _ c => c.wf
  | .hbBrake _ c => c.wf
  | .hbClearFault _ c => c.wf
  | .hbDiagCheck _ c => c.wf
  | .hbMove _ c => c.wf
  | .hbSetpos _ c => c.wf
  | .hbConfig _ c => c.wf
  | .hbConfig2 _ c => c.wf
  | .rippleCount _ _ _ _ => true
  | .hbStall _ _ _ => true
  | .hbTmaxExpiry _ _ => true
  | .hbTrap _ _ _ _ => true
  | .hbRampEnd _ _ => true
  | .hbReverseEnd _ _ => true
  | .hbShort _ _ m => m.wf
  | .hbThermal _ _ m => m.wf
  | .hbThermalRestart _ _ m => m.wf
  | .hbOpenDetect _ _ => true
  | .loopOpen _ c => c.wf
  | .loopClose _ c => c.wf
  | .loopSetpoint _ c => c.wf
  | .clearFlags _ c => c.wf
  | .loopConfig _ c => c.wf
  | .loopCoef _ c => c.wf
  | .loopLimits _ c => c.wf
  | .loopSlew _ c => c.wf
  | .loopSample _ _ _ _ => true
  | .swConfig _ c => c.wf
  | .swSample _ _ _ => true
  | .staticWake _ _ _ => true
  | .pollWake _ _ _ => true
  | .iiConfig _ c => c.wf
  | .countClear _ c => c.wf
  | .wireBreak _ _ _ => true
  | .ioOutOn _ c => c.wf
  | .ioOutOff _ c => c.wf
  | .ioClearFault _ c => c.wf
  | .ioDiagCheck _ c => c.wf
  | .ioConfig _ c => c.wf
  | .ioOvercurrent _ _ m => m.wf
  | .ioThermalTrip _ _ m => m.wf
  | .ioThermalRestart _ _ m => m.wf
  | .vfldUv _ _ => true
  | .vfldRestart _ _ => true
  | .barrierUplinkFrame _ _ _ _ _ _ _ _ => true
  | .barrierDownlinkFrame _ _ _ => true
  | .barrierLoss _ _ => true
  | .fieldPowerLoss _ => true
  | .canSend _ c rcd => c.wf && bytesWf rcd
  | .idUnblock _ c => c.wf
  | .rxRelease _ c => c.wf
  | .linPublish _ c => c.wf
  | .linSched _ c => c.wf
  | .linSleep _ c => c.wf
  | .linWake _ c => c.wf
  | .canEnable _ pf _ _ => decide (pf < 4)
  | .rxqEnable _ pf _ => decide (pf < 4)
  | .canFrameReceived _ _ _ _ => true
  | .canFrameSent _ _ _ => true
  | .canArbitrationLost _ _ => true
  | .canErrorFrame _ _ _ _ _ _ _ _ => true
  | .canBusOff _ _ => true
  | .canBusOffRecovery _ _ => true
  | .canCancelLatch _ c => c.wf
  | .tmReferenceDue _ _ _ => true
  | .linSlot _ _ _ => true
  | .linHeaderReceived _ _ _ _ => true
  | .ethFrameReceived _ _ _ bs _ => bytesWf bs
  | .ethSend _ c rcd => c.wf && bytesWf rcd
  | .ethFrameSent _ _ => true
  | .fitRead _ pf => decide (pf < 4)
  | .fitCommit _ pf => decide (pf < 4)
  | .fitClearCounters _ pf => decide (pf < 4)
  | .frameEgressStart _ _ => true
  | .fitPeriodicSend _ _ => true
  | .freshLost _ _ => true
  | .qbvGateChange _ _ => true
  | .pathSilent _ _ _ => true
  | .gptpSync _ _ => true
  | .gptpHoldover _ => true
  | .gptpSyncSend _ => true
  | .macAging _ => true
  | .linkState _ _ _ _ => true
  | .nmNeed _ c => c.wf
  | .nmRelease _ c => c.wf
  | .nmEnable _ pf _ => decide (pf < 4)
  | .nmDisable _ pf _ => decide (pf < 4)
  | .keepaliveSend _ _ => true
  | .tkaExpiry _ _ => true
  | .tprepExpiry _ _ => true
  | .needHoldEnd _ _ => true
  | .fwdHoldEnd _ _ => true
  | .segmentWake _ _ _ => true
  | .failsafeSleepRequest _ _ _ => true
  | .failsafeTimeout _ _ => true
  | .nmKeeper _ _ => true
  | .linSilenceSleep _ _ => true
  | .nodeTableClear _ pf _ => decide (pf < 4)
  | .twJoin _ c => c.wf
  | .twPart _ c => c.wf
  | .twSolstice _ c _ => c.wf
  | .twEquinox _ c _ _ => c.wf
  | .twEnable _ pf => decide (pf < 4)
  | .twDisable _ pf => decide (pf < 4)
  | .claimDelayExpiry _ _ _ => true
  | .pairRoleLow _ _ _ _ => true
  | .pairOkLow _ => true
  | .twHeartbeatSend _ => true
  | .twHeartbeatLoss _ _ _ _ _ _ => true
  | .pairRoleReleased _ _ _ => true
  | .heartbeatRestored _ => true
  | .reedLaneLoss _ _ => true
  | .mirrorSnapshot _ => true
  | .imageReceived _ _ _ _ _ => true
  | .mirrorLate _ _ => true
  | .driveMessage _ _ _ => true
  | .partnerLost _ _ _ _ => true
  | .journalTimeout _ => true
  | .oobHeartbeatSend _ => true
  | .oobHeartbeatReceived _ _ _ _ => true
  | .lineFault _ _ _ => true
  | .solsticeDue _ _ _ => true
  | .swapPrecondTimeout _ => true
  | .swapProveDone _ _ => true
  | .takeoverSlow _ => true
  | .equinoxStep _ _ _ _ _ => true
  | .offtestWindow _ _ _ => true
  | .bundleIssue _ _ _ _ => true
  | .channelTriggerAnswer _ _ _ => true
  | .tmrWaitExpiry _ _ => true
  | .mbxRxWake _ _ => true
  | .fifeRun _ pf _ => decide (pf < 4)
  | .fifeHalt _ pf _ => decide (pf < 4)
  | .fifeRestart _ pf _ => decide (pf < 4)
  | .fifeBist _ pf _ _ _ => decide (pf < 4)
  | .fifeMemAccess _ pf _ => decide (pf < 4)
  | .lockstepMismatch _ _ => true
  | .shawmJoin _ _ => true
  | .splitmaxExpiry _ => true
  | .lockstepLostDebug _ => true
  | .fltActiveClear _ pf _ => decide (pf < 4)
  | .frzRel _ pf _ _ => decide (pf < 4)
  | .sramScrub _ _ => true
  | .adcCalibration _ _ => true
  | .stopRequest _ pf _ => decide (pf < 4)
  | .stopDrainEnd _ => true
  | .stopDrainTimeout _ => true
  | .stopOutputsEnd _ => true
  | .stopSaveEnd _ => true
  | .stopCommitEnd _ => true
  | .stopClocksEnd _ => true
  | .stopRailsEnd _ => true
  | .stopTimerWake _ => true
  | .tokenIrqWake _ => true
  | .pePerstRelease _ => true
  | .secProvision _ c rcd _ => c.wf && bytesWf rcd
  | .keySlotProgram _ c rcd _ => c.wf && bytesWf rcd
  | .keySlotRevoke _ c rcd _ => c.wf && bytesWf rcd
  | .lcToField _ c rcd _ => c.wf && bytesWf rcd
  | .lcToFieldService _ c rcd _ => c.wf && bytesWf rcd
  | .lcBackToField _ c rcd _ => c.wf && bytesWf rcd
  | .lcToRetired _ c rcd _ => c.wf && bytesWf rcd
  | .secAttest _ c nonce _ => c.wf && bytesWf nonce
  | .fieldServiceExpiry _ => true
  | .dapChallenge _ => true
  | .dapSubmit _ _ rcd _ => bytesWf rcd
  | .dapLeave _ => true
  | .dapNonceExpiry _ => true
  | .dapLockoutEnd _ => true
  | .dbgmaxWrite _ pf _ => decide (pf < 4)
  | .dmaLock _ pf => decide (pf < 4)
  | .accSearch _ pf => decide (pf < 4)
  | .accDeauth _ pf => decide (pf < 4)
  | .tokenFrameReceived _ _ bs _ => bytesWf bs
  | .searchSlotEnd _ => true
  | .responseTimeout _ => true
  | .sessionTimeout _ => true
  | .releaseMessage _ _ => true
  | .authTimeout _ => true
  | .accLockoutEnd _ => true
  | .lockoutStore _ => true
  | .accEnrol _ c rcd _ => c.wf && bytesWf rcd
  | .accRevoke _ c rcd _ => c.wf && bytesWf rcd
  | .accInstallKeys _ c rcd _ _ => c.wf && bytesWf rcd
  | .updStage _ c chunk => c.wf && bytesWf chunk
  | .updVerify _ c _ => c.wf
  | .updCommit _ c _ => c.wf
  | .updConfirm _ c => c.wf
  | .updAbort _ c => c.wf
  | .setDefaults _ c => c.wf
  | .autoConfirm _ => true
  | .trialTimeout _ => true
  | .vkeepLoss _ _ => true
  | .pcieLinkDown _ => true
  | .pcieLinkUp _ => true
  | .reedLaneLock _ _ => true
  | .twJoinTimeout _ => true
  | .twinRefreshTimeout _ => true
  | .oobHeartbeatSilent _ => true
  | .barrierFrameMissing _ _ => true

end Sys2Proof
end

