-- ==== Sys2Proof/Safety.lean ====
section
/-!
DEFINITION. Sys2Proof/Safety.lean: what counts as a safe step, when a command starts its service, and when nothing else falls due in a step: the terms
that statements use.
-/
namespace Sys2Proof

/-- The step from `s` answers a next state: no fault and no refusal. -/
def SafeStep (s : Machine.State) : Prop := ∃ t, Machine.step s = .next t

/-- Every command that waits has operands that the block can meet. -/
def WaitingWf (s : Machine.State) : Prop := ∀ c ∈ s.pending, c.wf = true

namespace Machine

/-- The command `c` of a row with opcode `op` on an object of a kind in `ks` (none: the whole module) starts its service in this step: it is in flight or at
the head of its ring, it passes the checks of R96, nothing holds it back (R117, R118), and the power die of its object is supplied. -/
def State.starts (s : State) (dt : Ns) (c : Cmd) (op : Nat) (ks : List Kind) : Bool :=
  spells c op ks && ((s.tick dt).arrive c).2 && !((s.tick dt).arrive c).1.unserved c

/-- The state in which a command that starts meets its block. -/
def State.taken (s : State) (dt : Ns) (c : Cmd) : State := ((s.tick dt).arrive c).1.notePerformed c

/-- Nothing falls due at the end of a step: no completion to be written, no freeze, no orphan policy, no closed or held loop, no chop period in which a
held valve takes a new level, no drive message of a Lead, and no standby claim of a Shadow. -/
def State.quiet (s : State) : Bool :=
  s.host.outbox.isEmpty && s.host.viols.isEmpty && s.out.orphanDue.isEmpty && (List.range 48).all (fun n => s.rd Reg.LP_STAT_STATE n == 0)
  && (List.range 16).all (fun n => !s.svChopDue n) && s.twSt != 3 && s.twRole != 2

/-- A setup write of `pf` reaches a register of window `win` (R86, R131, R821). -/
def State.writable (s : State) (pf win off : Nat) : Bool := s.hrReach pf && s.running && mayWrite pf win off

end Machine
end Sys2Proof
end

