-- ==== Sys2Proof/Certificates/Slice0/Obligations.lean ====
section
/-!
DEFINITION. Sys2Proof/Certificates/Slice0/Obligations.lean: what is to be proved of the model.  A statement gives the next state by the operations of
the model that the rules describe; other statements say what those operations do.
-/
open Sys2Proof Sys2Proof.Machine

/-- Once a control or configuration command of an HS or LS channel starts and no bar of its list holds, exec answers a next state: OUT_OFF switches
the group off and completes DONE; OUT_ON and OUT_PWM of a channel that is off put their demand to the arbiter, with the claims of the group and,
for an HS channel with INR, the claims and the time of its inrush (an LS channel keeps its drain voltage, and its INR is clamped to 0); they
complete DONE at once where the channel already has the state asked for, put a rise of the duty of a running channel to the arbiter, and apply a
fall without a demand; CLEAR_FAULT completes DONE where nothing is latched, returns a group whose cause has gone to OFF, and completes
REFUSED_STATE with the latch kept where the cause persists; CH_CONFIG writes its register image and completes DONE; LEARN_RESET returns TIL to its
class default and completes DONE; DIAG_CHECK joins the checks that wait for a measurement, or completes FAULTED at once where a latch holds the
verdict. (R154, R156, R158, R198, R201, R207, R208, R240, R285, R947) -/
def Obligations.ChannelCommandsComplete : Prop :=
  ∀ (s : State) (dt : Ns) (c : Cmd) (vd : Nat),
    let b := s.taken dt c
    let o := c.object
    let i := chIx o
    let w := fun (k : Nat) (t : State) => if isKind .hs o then t else t.descClamp c (objWin o) k 0 1 (c.argBits k 0 1) 0
    let d := b.chMinDuty i (c.arg 16 2)
    let x := w 16 b
    let y := w 18 (b.descClamp c (objWin o) 16 0 16 (c.arg 16 2) d)
    (s.starts dt c 0x2001 [.hs, .ls] = true → b.chMemberBar o = none → b.limpBar o = none →
      (b.st o = 0 ∨ b.latched o = true ∨ b.ovBar o = none) →
      exec (.outOff dt c) s = .next ((((b.begin c).chOff i).commanded o).complete c .done).done)
    ∧ (s.starts dt c 0x2002 [.hs, .ls] = true → b.chMemberBar o = none → b.limpBar o = none → b.onBar o = none →
      (b.isOn o = true → (b.obj o).target = 1 → exec (.outOn dt c vd) s = .next ((x.commanded o).complete c .done).done)
      ∧ (b.ovBar o = none → b.isOn o = false →
        ∀ inr z, inr = (isKind .hs o && c.argBits 16 0 1 == 1) → z = x.noteVd o vd →
        exec (.outOn dt c vd) s = .next (z.submit (z.cmdDemand c (chKind 1 65535 inr false) (z.chStand i 65535)
          (if inr then z.chTrans i else []) (if inr then z.chTil i else 0))).done)
      ∧ (b.ovBar o = none → b.isOn o = true → (b.obj o).target ≠ 1 → exec (.outOn dt c vd) s =
        .next (x.submit (x.cmdDemand c (chKind 1 65535 false true) (x.chStand i (65535 - x.chDuty o)) [] 0)).done))
    ∧ (s.starts dt c 0x2003 [.hs, .ls] = true → b.chMemberBar o = none → b.limpBar o = none → b.onBar o = none →
      (b.isOn o = true → (b.obj o).target = 2 → b.setDuty o = d → exec (.outPwm dt c vd) s = .next ((y.commanded o).complete c .done).done)
      ∧ (b.ovBar o = none → b.loopBar o = none → b.isOn o = false →
        ∀ inr z, inr = (isKind .hs o && c.argBits 18 0 1 == 1) → z = y.noteVd o vd →
        exec (.outPwm dt c vd) s = .next (z.submit (z.cmdDemand c (chKind 2 d inr false) (z.chStand i d)
          (if inr then z.chTrans i else []) (if inr then z.chTil i else 0))).done)
      ∧ (b.ovBar o = none → b.loopBar o = none → b.isOn o = true → (b.obj o).target ≠ 2 ∨ b.setDuty o ≠ d →
        (d ≤ b.chDuty o → exec (.outPwm dt c vd) s = .next (y.chChange i 2 d (some c)).done)
        ∧ (b.chDuty o < d → exec (.outPwm dt c vd) s =
          .next (y.submit (y.cmdDemand c (chKind 2 d false true) (y.chStand i (d - b.chDuty o)) [] 0)).done)))
    ∧ (s.starts dt c 0x2004 [.hs, .ls] = true → b.chMemberBar o = none → b.limpBar o = none →
      (b.latched o = false → exec (.clearFault dt c) s = .next ((b.commanded o).complete c .done).done)
      ∧ (b.latched o = true → (b.chMembers i).all b.chGone = true → b.ovBar o = none →
        exec (.clearFault dt c) s = .next ((((b.begin c).chClear i).commanded o).complete c .done).done)
      ∧ (b.latched o = true → (b.chMembers i).all b.chGone = false →
        exec (.clearFault dt c) s = .next (b.clearPersists c (objWin o * 256 + 3)).done))
    ∧ (s.starts dt c 0x3001 [.hs, .ls] = true → b.chMemberBar o = none → b.parBar o (c.argBits 28 0 2) = none →
      exec (.chConfig dt c) s = .next (((b.begin c).putImage c (objWin o) (imagePuts c (objWin o) (0x20 * objNum o) 4)).complete c .done).done)
    ∧ (s.starts dt c 0x3002 [.hs, .ls] = true → b.chMemberBar o = none →
      exec (.learnReset dt c) s = .next (((b.begin c).wr Reg.CH_OUT_TIL i (Reg.CH_OUT_TIL.rst i)).complete c .done).done)
    ∧ (s.starts dt c 0x2005 [.hs, .ls] = true → b.chMemberBar o = none → b.limpBar o = none →
      ((b.commanded o).latched o = false →
        exec (.diagCheck dt c) s = .next ((b.commanded o).modObj o fun z => { z with checks := z.checks ++ [(c, (b.commanded o).now)] }).done)
      ∧ (∀ v, (b.commanded o).latched o = true → latchVerdict (kindOf o) ((b.commanded o).causeOf o) = some v → exec (.diagCheck dt c) s =
        .next ((b.commanded o).complete c .faulted (verdictSub o v ((b.commanded o).causeOf o))).done))

/-- For a channel of a supplied power die exec answers a next state: when the output has reached 90 % of its supply (an LS drain has fallen to 10 % of
its voltage before) the pending switch-on completes; TLIM in the limit latches the whole paralleled group with cause OVERCURRENT; TSCB in the
limit with the output still below V_SHORT latches it with SHORT; a clamp event is added to the accumulator, and one that fills it latches
CLAMP_LOCK; a reverse current above the class's threshold for 2 us opens an HS channel that is ON or INR_ON and reports CH_REVERSE, and more than
50 mV forward ends that; Tj of 175 degC or more trips the group with THERMAL, and a difference of DT_OFF or more with DELTA_T into THERM_WAIT; a
group whose channels have all cooled asks for its restart. (R153, R154, R156, R167, R168, R170, R184, R185, R186, R204) -/
def Obligations.ChannelTripsAndOutcomes : Prop :=
  ∀ (s : State) (dt o e v : Nat) (m : Meas),
    let u := s.tick dt
    let t := u.measure o m
    let i := u.chIdx o
    (u.isCh o = true → u.st o = 1 → (u.obj o).target = 1 → u.settled o v = true →
      (((u.cmdDone o).obj o).next.isSome = true → exec (.chOutcomeReached dt { n := o, v }) s = .next (u.cmdDone o).done)
      ∧ (((u.cmdDone o).obj o).next = none → exec (.chOutcomeReached dt { n := o, v }) s = .next ((u.cmdDone o).chgDone o).done))
    ∧ (u.isCh o = true → u.st o = 1 → u.rd Reg.CH_CFG0_TLIM i * 10000 ≤ t.grpDwell i →
      exec (.overcurrentTrip dt o m) s = .next (t.chTrip i .overcurrent 6).done)
    ∧ (u.isCh o = true → u.inLimit o m = true → belowShort o m = true → u.rd Reg.CH_CFG0_TSCB i * 10000 ≤ min m.held (u.now - (u.obj o).onAt) →
      exec (.shortTrip dt o m) s = .next (t.chTrip i .short 6).done)
    ∧ (u.isCh o = true → (u.addClamp o e).2 = false → exec (.clampEventEnd dt o e) s = .next (u.addClamp o e).1.done)
    ∧ (u.isCh o = true → (u.addClamp o e).2 = true →
      exec (.clampEventEnd dt o e) s = .next ((u.addClamp o e).1.chTrip ((u.addClamp o e).1.chIdx o) .clampLock 6).done)
    ∧ (isKind .hs o = true → u.supplied o = true → u.st o = 1 ∨ u.st o = 2 → u.flag Reg.CH_STAT_REVOPEN (chIx o) = false →
      m.ma < -(revThr (chIx o) : Int) → 2000 ≤ m.held →
      exec (.reverseCurrent dt o m) s = .next ((t.wr Reg.CH_STAT_REVOPEN (chIx o) 1).objEvent o 0x84).done)
    ∧ (isKind .hs o = true → u.supplied o = true → 50 < v →
      exec (.reverseReclose dt { n := o, v }) s = .next (u.wr Reg.CH_STAT_REVOPEN (chIx o) 0).done)
    ∧ (u.isCh o = true → u.isOn o = true → 225 ≤ m.tj → exec (.thermalTrip dt o m) s = .next (t.chThermal i).done)
    ∧ (∀ (z : State) (k : Nat), z.chThermal k = z.chTrip k .thermal (if z.flag Reg.CH_CFG1_TLATCH k then 6 else 4))
    ∧ (u.isCh o = true → u.isOn o = true → 8 * ((u.rd Reg.CH_CFG1_DT_OFF i : Nat) : Int) ≤ u.deltaT m.tj →
      exec (.deltaTTrip dt o m) s = .next (t.chTrip i .deltaT 4).done)
    ∧ (u.isCh o = true → i = chIx o → u.st o = 4 → (u.obj o).asked = false → (u.chMembers i).all (fun k => u.cooled i (t.tjOf (chObj k))) = true →
      exec (.thermalRestart dt o m) s = .next (t.submitOwn (t.restartDemand o .restart)).done)

/-- In an inrush exec answers a next state: TLIM_INR in the limit, with no sag of the group, sends the group to INR_OFF and counts a retry while
retries are left, and latches it with INRUSH_FAIL when none is; after TOFF it returns to INR_ON; 100 us below the limit end the inrush: TIL moves
an eighth of the way to the time in limit, the members are ON, the pending command completes and INRUSH_END is raised; 100 ms of inrush time latch
the group with INRUSH_FAIL. A voltage more than 8 % below the group's average sets the SAG bit of its group 1 to 4, counts, and notes the time;
one no more than 4 % below it clears the bit and keeps the span for the dwells it suspends. (R182, R190, R192, R193, R194, R197) -/
def Obligations.InrushAndSag : Prop :=
  ∀ (s : State) (dt o lim g v : Nat) (m : Meas),
    let u := s.tick dt
    let t := u.measure o m
    let i := u.chIdx o
    (isKind .hs o = true → u.isCh o = true → u.st o = 2 → u.sag o = false → u.rd Reg.CH_CFG1_TLIM_INR i * 10000 ≤ t.grpDwell i →
      (t.rd Reg.CH_STAT_RETRIES i < t.rd Reg.CH_CFG1_NRETRY i →
        exec (.inrushDwellExpiry dt o m) s = .next (let x := (t.chStates i 3).wr Reg.CH_STAT_RETRIES i (t.rd Reg.CH_STAT_RETRIES i + 1)
          (x.chMembers i).foldl (fun s k => s.modObj (chObj k) fun x => { x with offAt := s.now, lastOff := s.now, limAt := none }) x).done)
      ∧ (t.rd Reg.CH_CFG1_NRETRY i ≤ t.rd Reg.CH_STAT_RETRIES i →
        exec (.inrushDwellExpiry dt o m) s = .next (t.chTrip i .inrushFail 6).done))
    ∧ (isKind .hs o = true → u.isCh o = true → u.st o = 3 → u.ovFrozen o = false → (u.obj o).offAt + u.rd Reg.CH_CFG1_TOFF i * 20000 ≤ u.now →
      exec (.inrushOffEnd dt o) s =
        .next ((u.chMembers i).foldl (fun s k => s.modObj (chObj k) fun x => { x with onAt := s.now, limAt := none }) (u.chStates i 2)).done)
    ∧ (isKind .hs o = true → u.isCh o = true → u.st o = 2 → m.ma < ((u.rd Reg.CH_CFG0_ILIM i * ilimStep i * 125 : Nat) : Int) →
      100000 ≤ min m.held (u.now - (u.obj o).onAt) →
      ∃ x : State, x = (t.wr Reg.CH_OUT_TIL i (min 0xFFFF (roundDiv (7 * t.rd Reg.CH_OUT_TIL i + lim) 8))).chStates i 1
        ∧ exec (.inrushEnd dt o lim m) s = .next (let w := (((x.chMembers i).foldl (fun s k =>
            (s.wr Reg.CH_STAT_INR k 0).modObj (chObj k) fun x => { x with inrRun := none, inrTime := 0 }) x).endTransient (chObj i)).cmdDone (chObj i)
          w.raise 0x0883 (chObj i) (w.evData (chObj i) + atByte 28 (min (2 ^ 32 - 1) lim))).done)
    ∧ (isKind .hs o = true → u.isCh o = true → u.st o = 2 ∨ u.st o = 3 → 100000000 ≤ u.inrSoFar (u.chLead o) →
      exec (.inrushTimeout dt o m) s = .next (t.chTrip i .inrushFail 6).done)
    ∧ (1 ≤ g → g ≤ 4 → bit (u.rd Reg.HS_GRP_SAG) (g - 1) = false → 100 * v < 92 * (u.group g).avg →
      exec (.sagSet dt { n := g, v }) s = .next (((u.wr Reg.HS_GRP_SAG 0 (setBit (u.rd Reg.HS_GRP_SAG) (g - 1))).bump Reg.HS_GRP_SAGCNT 0).setGroup g
        { u.group g with sagAt := some u.now }).done)
    ∧ (1 ≤ g → g ≤ 4 → 96 * (u.group g).avg ≤ 100 * v →
      exec (.sagClear dt { n := g, v }) s = .next ((u.wr Reg.HS_GRP_SAG 0 (clrBit (u.rd Reg.HS_GRP_SAG) (g - 1))).setGroup g { u.group g with
        sagAt := none
        sags := (match (u.group g).sagAt with | some a => (a, u.now) :: (u.group g).sags | none => (u.group g).sags).filter
          fun p => decide (u.now < p.2 + 10000000) }).done)

/-- exec answers a next state: an on-state sample of an HS or LS channel that has been on for 1 ms is shown with its method and sets OK at or above
the open-load threshold and counts as absent below it, where the verdict is not OVERLOAD with an overload warning in use; then a current at the
warning keeps OVERLOAD and one between the two sets OK; a sample of a solenoid in HOLD within 20 % of its target sets OK, one of a bridge in RUN
from 200 mA on sets OK, and one of an isolated output sets OK from IOL on and counts as absent below; a current at the warning for TOVL sets
OVERLOAD; an off-state test shows METHOD 3 and sets OK with a load present, counts as absent without one, and sets SHORT where an HS output stays
above half its supply; a verdict that has had no measurement for DFRESH becomes UNVERIFIED unless a latch holds it; a DIAG_CHECK that has waited
DFRESH completes UNVERIFIED; a segment measurement 10 s after the last one stores the drift of each segment and retires one with 16 drifts in a
row; a failed segment is retired. (R224, R226, R228, R229, R232, R234, R240, R244, R246, R419, R527) -/
def Obligations.DiagnosticsComplete : Prop :=
  ∀ (s : State) (dt o a v0 v1 seg : Nat) (w : Lasting) (ds : SegSeen),
    let u := s.tick dt
    let i := chIx o
    let m := ds.meas
    (kindOf o = .hs ∨ kindOf o = .ls → u.adcLost o = false → u.isCh o = true → u.st o = 1 → (u.obj o).onAt + 1000000 ≤ u.now →
      ∀ k, u.onMethod i = some k → u.sampleDue i k = true →
      ∀ v : State, v = ((u.wr Reg.DG_DSTAT_ILOW i (min 0xFFFF a)).wr Reg.DG_DSTAT_METHOD i k).took o →
      (v.rd Reg.DG_DSTAT_VERDICT i ≠ 4 ∨ v.iwarn i = 0 →
        (v.iol i ≤ a → exec (.diagOnSample dt o a) s = .next (v.presentNow o).done)
        ∧ (a < v.iol i → exec (.diagOnSample dt o a) s = .next (v.absentNow o (v.rd Reg.DG_DCFG0_NFILT i + 1)).done))
      ∧ (v.rd Reg.DG_DSTAT_VERDICT i = 4 → v.iwarn i ≠ 0 →
        (v.iwarn i ≤ a → exec (.diagOnSample dt o a) s = .next (v.judged o 4).done)
        ∧ (a < v.iwarn i → v.iol i ≤ a → exec (.diagOnSample dt o a) s = .next (v.presentNow o).done)))
    ∧ (kindOf o = .sv → u.adcLost o = false → u.supplied o = true → u.st o = 3 → u.apart o 1000000 = true →
      16 * u.svHoldMa (objNum o) ≤ 10 * a → 10 * a ≤ 24 * u.svHoldMa (objNum o) →
      exec (.diagOnSample dt o a) s = .next (((u.wr Reg.SV_MEAS_IMEAS (objNum o) (a / 2)).took o).presentNow o).done)
    ∧ (kindOf o = .hb → u.adcLost o = false → u.supplied o = true → u.hbLeader (objNum o) = objNum o → u.st o = 2 →
      16384 ≤ u.rd Reg.HB_OUT_DEFF (objNum o) → u.apart o 10000000 = true → 200 ≤ a →
      exec (.diagOnSample dt o a) s = .next ((u.took o).presentNow o).done)
    ∧ (kindOf o = .io → u.adcLost o = false → u.dieC = true → u.st o = 1 → u.apart o 1000000 = true →
      ∀ v : State, v = (u.wr Reg.IO_STAT_IOUT (objNum o) (min 0xFFFF (a / 2))).took o →
      (2 * v.rd Reg.IO_CFG_IOL (objNum o) ≤ a → exec (.diagOnSample dt o a) s = .next (v.presentNow o).done)
      ∧ (a < 2 * v.rd Reg.IO_CFG_IOL (objNum o) → exec (.diagOnSample dt o a) s = .next (v.absentNow o 2).done))
    ∧ (u.isCh o = true → u.adcLost o = false → u.st o = 1 → u.iwarn i ≠ 0 → u.iwarn i ≤ w.v →
      u.rd Reg.DG_DCFG1_TOVL i * 1000000 ≤ min w.held (u.now - (u.obj o).onAt) →
      exec (.overloadDetect dt o w) s = .next (((u.wr Reg.DG_DSTAT_ILOW i (min 0xFFFF w.v)).took o).judged o 4).done)
    ∧ (u.isCh o = true → u.offTestOk o = true → u.adcLost o = false →
      ∀ v : State, v = (u.wr Reg.DG_DSTAT_METHOD i 3).modObj o (fun x => { x with tookAt := some u.now, testAt := some u.now }) →
      let vol := 100 + 50 * v.rd Reg.DG_DCFG0_VOL_OFF i
      let need := v.rd Reg.DG_DCFG0_NFILT i + 1
      (isKind .hs o = true → (v.supply o < 2 * v0 → exec (.offStateTest dt o v0 { v := v1, clamp := false }) s =
          .next ((v.modObj o fun x => { x with absent := 0 }).judged o 3).done)
        ∧ (2 * v0 ≤ v.supply o → vol ≤ v1 → exec (.offStateTest dt o v0 { v := v1, clamp := false }) s = .next (v.absentNow o need).done)
        ∧ (2 * v0 ≤ v.supply o → v1 < vol → exec (.offStateTest dt o v0 { v := v1, clamp := false }) s = .next (v.presentNow o).done))
      ∧ (isKind .hs o = false → (v1 ≤ vol → exec (.offStateTest dt o v0 { v := v1, clamp := false }) s = .next (v.absentNow o need).done)
        ∧ (vol < v1 → exec (.offStateTest dt o v0 { v := v1, clamp := false }) s = .next (v.presentNow o).done)))
    ∧ ((verdField (kindOf o)).isSome = true → isKind .mx o = false → u.isStale o = true → u.verdictHeld o = false →
      exec (.verdictStale dt o) s = .next (u.setVerdict o 0).done)
    ∧ (∀ c t, (u.obj o).checks = [(c, t)] → t + u.dfresh o ≤ u.now →
      exec (.diagCheckTimeout dt o) s = .next ((u.modObj o fun x => { x with checks := x.checks.filter fun p => !decide (p.2 + u.dfresh o ≤ u.now) }).complete c .unverified 0).done)
    ∧ (u.isCh o = true → u.st o = 1 ∨ u.st o = 2 → (u.obj o).segAt = none ∨ (∃ t, (u.obj o).segAt = some t ∧ t + 10000000000 ≤ u.now) →
      (u.chNominal i : Int) ≤ 4 * m.ma → 1000000 ≤ min m.held (u.now - (u.obj o).onAt) →
      ∃ (segs : List (Nat × Nat)) (v : State), segs = ((u.measure o m).activeSegs o).zip ds.drifts
        ∧ v = ((u.measure o m).modObj o fun x => { x with
            segAt := some (u.measure o m).now
            drifts := segs.foldl (fun t p => tput t p.1 (if 25 ≤ p.2 then tget 0 t p.1 + 1 else 0)) x.drifts
            driftPct := segs.foldl (fun t p => tput t p.1 p.2) x.driftPct }).showDrift o
        ∧ exec (.segmentMeasure dt o ds) s =
          .next ((segs.filter fun p => decide (16 ≤ tget 0 (v.obj o).drifts p.1)).foldl (fun s p => s.retireSeg o p.1 1) v).done)
    ∧ (u.isCh o = true → (u.activeSegs o).contains seg = true → exec (.segmentFault dt o seg) s = .next (u.retireSeg o seg 2).done)

/-- With die C present exec answers a next state: the first waiting demand, in the arbiter's order, that may be served is served; a waiting command
whose allowed latency has passed completes REFUSED_BUDGET with the sub-code of the binding budget, and its answer is logged; of the budgets over
their limits for their shedding time, each that nothing can be shed from raises ARB_WARN, and from the first of the others the first object in
shedding order that claims on it is shed, 1 ms after the last shed; the 1 ms sample renews the averages, the supplies and the standing claims.
With die C absent a power die serves the first waiting demand of a group that fits and is neither frozen nor cut, its services being spaced.
(R286, R291, R296, R298, R300, R304, R305, R307, R308, R944) -/
def Obligations.ArbiterServesInTime : Prop :=
  ∀ (s : State) (dt vd o b g : Nat) (x : Sample),
    let u := s.tick dt
    let w := u.endDue
    (∀ d, w.dieC = true → w.arb.waiting.find? w.ready = some d → exec (.demandServed dt vd) s = .next (w.serveWaiting d vd).done)
    ∧ (∀ (d : Demand) (c : Cmd), u.arb.waiting.find? (fun d : Demand => d.obj == o && d.late u.now) = some d → d.cmd = some c →
      ∀ k, k = u.binds d (match u.plan d with | some (_, bs) => bs | none => []) → exec (.demandLatencyExpiry dt o) s =
        .next ((((u.unwait (· == d)).complete c .refusedBudget (budgetSub k))).arbLog d .refusedBudget (budgetSub k)).done)
    ∧ (∀ (full : List Nat) (t : State) (k : Nat), w.dieC = true → full = (List.range 13).filter w.mustShed →
      t = (full.filter fun b => (w.shedFor b).isNone).foldl State.warn w →
      full.findSome? (fun b => (w.shedFor b).map fun o => (b, o)) = some (b, k) →
      w.arb.lastShed = 0 ∨ w.arb.lastShed + 1000000 ≤ w.now → exec (.budgetShed dt) s = .next (t.shed k b).done)
    ∧ (∀ full : List Nat, w.dieC = true → full = (List.range 13).filter w.mustShed →
      full.findSome? (fun b => (w.shedFor b).map fun o => (b, o)) = none →
      exec (.budgetShed dt) s = .next ((full.filter fun b => (w.shedFor b).isNone).foldl State.warn w).done)
    ∧ (((u.globals x).dieSupplies x).endDue.dieC = true →
      exec (.claimRenew dt x) s = .next (x.loads.foldl State.renewOne ((u.globals x).dieSupplies x).endDue).showUse.done)
    ∧ (∀ d, u.dieC = false → u.spaced g = true →
      ((u.arb.waiting ++ sortBy (fun a b : Demand => decide (a.obj ≤ b.obj)) u.arb.dieQueue).filter fun d => groupKey d.obj == g).find?
        (fun d => u.supplied d.obj && !u.ovFrozen d.obj && !u.cutFor d.obj d.cls && u.dieFits d) = some d →
      exec (.powerDieServe dt g vd) s = .next ((((u.unwait (· == d)).modObj d.obj fun x => { x with asked := x.asked && d.cmd.isSome }).noteVd d.obj vd).dieServe d).done)

/-- The monitor of a group of a supplied die judges the 1 ms average with the new sample, and exec answers a next state: an average below the cut
threshold of a level cuts the group at that level; one above the threshold by more than HYS releases the cut and plans the restart slot of class c
2 ms × c later (classes 1 to 3 for level 0, class 0 for the other); a planned slot that has come is taken off the plan and restarts what the cut,
or the sustained overvoltage, stopped; an average below the threshold while slots of the level are planned cuts again and cancels them; the
average below VS_DIM sets the group's dimming ratio, its DIM bit and the event, and one from VS_DIM on ends them; a voltage above the overvoltage
threshold freezes the group, sets OV, counts, holds its inrush and drops its deferred demands; one below the release clears OV and takes up what
fell due in the freeze; 500 ms of freeze cut the objects the overvoltage reaches and set OVS; and after the freeze the model plans a restart slot
for each class. (R42, R43, R45, R46, R315, R316, R318, R319, R321, R322) -/
def Obligations.GroupMonitorsAct : Prop :=
  ∀ (s : State) (dt g level volt k : Nat),
    let u := s.tick dt
    let av := u.vAvg g volt
    (u.monitors g = true → level ≤ 1 → u.isCut g level = false → av < u.cutAt g level →
      exec (.groupCut dt g level volt) s = .next ((u.setVolt g volt).cutGroup g level false).done)
    ∧ (u.monitors g = true → level ≤ 1 → u.isCut g level = true → u.cutAt g level + 25 * u.rd Reg.ARB_UV_HYS (uvIx g) < av →
      ∀ v : State, v = (u.setVolt g volt).setCut g level false →
      exec (.cutRelease dt g level volt) s = .next (v.setGroup g { v.group g with
        slots := (if level = 0 then [1, 2, 3] else [0]).foldl (fun t c => tput t c (v.now + 2000000 * c)) (v.group g).slots }).done)
    ∧ (u.monitors g = true → slotDue (u.group g).slots k u.now = true →
      ∀ v : State, v = (u.setGroup g { u.group g with slots := tdel (u.group g).slots k }).runSlot g k .uvCut .slot →
      (slotDue (v.group g).ovSlots k v.now = false → exec (.restartSlot dt g k) s = .next v.done)
      ∧ (slotDue (v.group g).ovSlots k v.now = true → exec (.restartSlot dt g k) s =
        .next ((v.setGroup g { v.group g with ovSlots := tdel (v.group g).ovSlots k }).runSlot g k .overvoltage .slot).done))
    ∧ (u.monitors g = true → slotDue (u.group g).slots k u.now = false → slotDue (u.group g).ovSlots k u.now = true →
      exec (.restartSlot dt g k) s = .next ((u.setGroup g { u.group g with ovSlots := tdel (u.group g).ovSlots k }).runSlot g k .overvoltage .slot).done)
    ∧ (u.monitors g = true → level ≤ 1 → ((u.group g).slots.any fun p => if level = 0 then p.1 ≠ 0 else p.1 = 0) = true → av < u.cutAt g level →
      exec (.slotCancel dt g level volt) s = .next ((u.setVolt g volt).cutGroup g level true).done)
    ∧ (∀ (dim uv : Nat) (v w : State), u.monitors g = true → 1 ≤ g → g ≤ 4 →
      dim = 25 * (u.setVolt g volt).rd Reg.ARB_UV_VS_DIM (uvIx g) → uv = (u.setVolt g volt).cutAt g 0 →
      v = (u.setVolt g volt).setGroup g { (u.setVolt g volt).group g with kNum := av - uv, kDen := dim - uv } →
      w = (u.setVolt g volt).setGroup g { (u.setVolt g volt).group g with kNum := 1, kDen := 1 } →
      (av < dim → bit (v.rd Reg.ARB_GRPSTAT_DIM) (g - 1) = false → exec (.dimUpdate dt g volt) s =
        .next ((v.wr Reg.ARB_GRPSTAT_DIM 0 (setBit (v.rd Reg.ARB_GRPSTAT_DIM) (g - 1))).raise 0x0E85 0xFFFF (atByte 16 g + atByte 17 1 + atByte 18 volt)).done)
      ∧ (av < dim → bit (v.rd Reg.ARB_GRPSTAT_DIM) (g - 1) = true → exec (.dimUpdate dt g volt) s = .next v.done)
      ∧ (dim ≤ av → bit (w.rd Reg.ARB_GRPSTAT_DIM) (g - 1) = true → exec (.dimUpdate dt g volt) s =
        .next ((w.wr Reg.ARB_GRPSTAT_DIM 0 (clrBit (w.rd Reg.ARB_GRPSTAT_DIM) (g - 1))).raise 0x0E85 0xFFFF (atByte 16 g + atByte 17 0 + atByte 18 volt)).done))
    ∧ (∀ (dim uv q : Nat) (v w : State), u.monitors g = true → g = 5 ∨ g = 6 →
      dim = 25 * (u.setVolt g volt).rd Reg.ARB_UV_VS_DIM (uvIx g) → uv = (u.setVolt g volt).cutAt g 0 → av < dim →
      q = min 255 (roundDiv (255 * (av - uv)) (dim - uv)) →
      v = (u.setVolt g volt).setGroup g { (u.setVolt g volt).group g with kNum := av - uv, kDen := dim - uv } →
      w = (if g = 5 then v.wr Reg.ARB_DIMK_K5 0 q else v.wr Reg.ARB_DIMK_K6 0 q) → bit (w.rd Reg.ARB_GRPSTAT_DIM) (g - 1) = false →
      exec (.dimUpdate dt g volt) s =
        .next ((w.wr Reg.ARB_GRPSTAT_DIM 0 (setBit (w.rd Reg.ARB_GRPSTAT_DIM) (g - 1))).raise 0x0E85 0xFFFF (atByte 16 g + atByte 17 1 + atByte 18 volt)).done)
    ∧ (1 ≤ g → g ≤ 6 → u.monitors g = true → u.groupFrozen g = false → u.ovAt < volt →
      ∀ v : State, v = ((u.setVolt g volt).wr Reg.GLB_OVSTAT_OV 0 (setBit (u.rd Reg.GLB_OVSTAT_OV) (g - 1))).bump Reg.GLB_OVSTAT_OVCNT 0 →
      exec (.ovFreeze dt g volt) s = .next (((v.setGroup g { v.group g with
        frozenAt := v.now, ovSlots := [], ovCut := false, sustained := (v.group g).sustained || !(v.group g).ovSlots.isEmpty }).inrushHold g true).dropDeferred g).done)
    ∧ (1 ≤ g → g ≤ 6 → u.groupFrozen g = true → volt < u.ovRelease →
      exec (.ovRelease dt g volt) s = .next ((recOrder.filter fun r => groupOf (recObj r) == some g).foldl State.afterFreeze
        (((u.setVolt g volt).wr Reg.GLB_OVSTAT_OV 0 (clrBit (u.rd Reg.GLB_OVSTAT_OV) (g - 1))).inrushHold g false)).done)
    ∧ (1 ≤ g → g ≤ 6 → u.groupFrozen g = true → (u.group g).ovCut = false → (u.group g).frozenAt + 500000000 ≤ u.now →
      ∀ (v : State) (os : List Nat), v = u.setGroup g { u.group g with sustained := true, ovCut := true } → os = (v.groupObjs g).filter v.ovHits →
      exec (.ovSustained dt g) s = .next (((os.foldl (fun s o => s.cutObj o .overvoltage) v).grpEvent 0x82 g 2 ((os.map v.width).foldl (· + ·) 0)).flagBit
        Reg.GLB_OVSTAT_OVS 0 (g - 1) 0 0x0228).done)
    ∧ (1 ≤ g → g ≤ 6 → (u.group g).sustained = true → u.groupFrozen g = false →
      exec (.ovSustainedRelease dt g) s = .next (u.setGroup g { u.group g with
        sustained := false, ovSlots := (List.range 4).map fun c => (c, u.now + 2000000 * c) }).done)

/-- While die C is present exec answers a next state: a ground offset above 1 V sets its fault flag; a case above 105 degC sets its fault flag; a Pace
change that settles takes the mode as the current one, ends BUSY and counts, and starts the change asked for meanwhile; a fabric window shows its
rate and demand, and one below the mode's minimum rate also sets FABRIC_SLOW (here with the reference lost and nothing throttled); the loss of the
reference sets REFBKP and the flag and takes the PCIe link down; its return restores the locks. (R32, R53, R64, R66, R68, R73, R75) -/
def Obligations.GlobalSuppliesAndFabric : Prop :=
  ∀ (s : State) (dt mv tc rate pcie reed rest : Nat),
    let u := s.tick dt
    (u.dieC = true → 1000 < mv →
      exec (.groundOffset dt mv) s = .next (({ u with pwr := { u.pwr with gndOkAt := none } } : State).flagSet Reg.FLT_GLB_GROUND_OFFSET 0 5 0x608 0).done)
    ∧ ((u.wr Reg.GLB_TCASE_TC 0 tc).dieC = true → 840 < (u.wr Reg.GLB_TCASE_TC 0 tc).tcase →
      exec (.caseOvertemp dt tc) s = .next ((u.wr Reg.GLB_TCASE_TC 0 tc).flagSet Reg.FLT_GLB_CASE_OVERTEMP 0 5 0x608 1).done)
    ∧ (u.flag Reg.GLB_PACE_BUSY = true → ∀ v w : State, v = ((u.wr Reg.GLB_PACE_CUR 0 u.pwr.paceTo).wr Reg.GLB_PACE_BUSY 0 0).bump Reg.GLB_PACECNT_CHG 0 →
      w = { v with pwr := { v.pwr with paceNext := none } } →
      (u.pwr.paceNext = none → exec (.paceSettled dt) s = .next w.done)
      ∧ (∀ k, u.pwr.paceNext = some k → exec (.paceSettled dt) s = .next ((w.wr Reg.GLB_PACE_REQ 0 u.pwr.paceTo).paceStart k).done))
    ∧ (∀ v w : State, u.dieC = true → u.windowEnd ≤ u.now → u.flag Reg.TB_STAT_REFBKP = true → rest * 1000 ≤ rate * 384 →
      v = (u.wr Reg.TB_FABRATE_RATE 0 (min (rate / 100) 0xFFFF)).wr Reg.TB_FABLOAD_DEMAND 0 (min (0 + 0 + rest) 0xFFFF) →
      v.rd Reg.TB_FABRATE_MIN ≤ min (rate / 100) 0xFFFF →
      (u.minRate ≤ rate → w = { v with pwr := { v.pwr with fabricOk := true, throttled := (false, false), windowAt := v.now } } →
        exec (.fabricWindow dt rate pcie reed rest) s = .next w.done)
      ∧ (rate < u.minRate → w = { v with pwr := { v.pwr with fabricOk := false, throttled := (false, false), windowAt := v.now } } →
        exec (.fabricWindow dt rate pcie reed rest) s = .next (w.flagSet Reg.TB_STAT_FABRIC_SLOW 0 2 4 17).done))
    ∧ (u.pwr.refPresent = true → u.dieC = true → exec (.refclkLoss dt) s = .next u.refLost.done)
    ∧ (u.refLost.pwr.refPresent = false ∧ u.refLost.host.linkUp = false)
    ∧ (u.pwr.refPresent = false → u.dieC = true → exec (.refclkReturn dt) s = .next (u.setRef true).done)

/-- Once a command of an LED string starts and nothing bars it, exec answers a next state: LED_OFF switches the string off and completes DONE; LED_ON
puts its demand to the arbiter, with the claims and the 1 ms soft-start transient of a string that is off, or the difference of a running one;
LED_DIM of an OFF string stores the duty, and the ISET it names, and completes DONE; LED_DIM of a running string puts a rise of ITGT × DUTY to the
arbiter and applies any other change at the next dimming period; a duty below the shortest on-time is recorded as clamped and an ISET is clamped
to 20 to 2000 mA. LD_CLEAR_FAULT completes DONE where nothing is latched, returns a string whose cause has gone to OFF, and completes
REFUSED_STATE with the latch kept where the cause persists; LD_DIAG_CHECK joins the checks that wait for a measurement where no latch stands;
LD_CONFIG writes CFG0 to CFG3; TCOMP_LOAD puts four points into the shadow table, and commits where bit 0 of byte 17 is set. (R285, R337, R339,
R348, R349, R350, R351, R353) -/
def Obligations.LedCommandsComplete : Prop :=
  ∀ (s : State) (dt : Ns) (c : Cmd),
    let b := s.taken dt c
    let o := c.object
    let n := objNum o
    let d := c.arg 16 2
    let is := c.arg 18 2
    let iv := clampNat 20 2000 is
    let x := b.descClamp c 0x0B 16 0 16 d (b.ldMinDuty n d)
    let y := if is = 0 then x else x.descClamp c 0x0B 18 0 16 is iv
    let a := if is = 0 then 0 else iv + 1
    let want := if is = 0 then y.ldIset n else iv
    let free := b.mxBar n = none ∧ b.limpBar o = none ∧ b.onBar o = none ∧ (is = 0 ∨ b.loopBar o = none)
    (s.starts dt c 0x2001 [.ld] = true → b.mxBar n = none → b.limpBar o = none → (b.st o = 0 ∨ b.latched o = true ∨ b.ovBar o = none) →
      exec (.ledOff dt c) s = .next ((((b.begin c).ldOff n).commanded o).complete c .done).done)
    ∧ (s.starts dt c 0x2002 [.ld] = true → free → y.ovBar o = none →
      (y.isOn o = false → ∀ e, e = y.ldDeffAs n (b.demandClass c) false d →
        exec (.ledOn dt c) s = .next (y.submit (y.cmdDemand c (.on a d) (y.ldStand n e want) (y.ldTrans n e want) 1000000)).done)
      ∧ (y.isOn o = true → ∀ e, e = y.ldMore n d want →
        exec (.ledOn dt c) s = .next (y.submit (y.cmdDemand c (.on a d) e (y.ldTransBy n want e) 1000000)).done))
    ∧ (s.starts dt c 0x2003 [.ld] = true → free →
      (y.st o = 0 → ∀ z, z = (if is = 0 then y else y.wr Reg.LD_CFG0_ISET n iv) →
        exec (.ledDim dt c) s = .next ((((z.begin c).wr Reg.LD_OUT_DUTY n d).commanded o).complete c .done).done)
      ∧ (y.st o ≠ 0 → y.ovBar o = none → y.isOn o = true →
        (y.ldItgt n (y.ldIset n) * y.setDuty o < y.ldItgt n want * d →
          exec (.ledDim dt c) s = .next (y.submit (y.cmdDemand c (.on a d) (y.ldMore n d want) [] 0)).done)
        ∧ (y.ldItgt n want * d ≤ y.ldItgt n (y.ldIset n) * y.setDuty o →
          exec (.ledDim dt c) s = .next (y.ldChange n d (if is = 0 then none else some iv) false (some c)).done)))
    ∧ (s.starts dt c 0x2004 [.ld] = true → b.mxBar n = none → b.limpBar o = none →
      (b.latched o = false → exec (.ldClearFault dt c) s = .next ((b.commanded o).complete c .done).done)
      ∧ (b.latched o = true → b.ldGone n = true → b.ovBar o = none →
        exec (.ldClearFault dt c) s = .next ((((b.begin c).ldClear n).commanded o).complete c .done).done)
      ∧ (b.latched o = true → b.ldGone n = false → exec (.ldClearFault dt c) s = .next (b.clearPersists c 0x0B03).done))
    ∧ (s.starts dt c 0x2005 [.ld] = true → b.mxBar n = none → b.limpBar o = none → (b.commanded o).latched o = false →
      exec (.ldDiagCheck dt c) s = .next ((b.commanded o).modObj o fun z => { z with checks := z.checks ++ [(c, (b.commanded o).now)] }).done)
    ∧ (s.starts dt c 0x3001 [.ld] = true →
      exec (.ldConfig dt c) s = .next (((b.begin c).putImage c 0x0B (imagePuts c 0x0B (0x40 * n) 4)).complete c .done).done)
    ∧ (s.starts dt c 0x3003 [.ld] = true → ∃ v : State, v = (List.range 4).foldl (fun s j =>
          (s.descClamp c 0x0B (24 + 2 * j) 0 16 (c.arg (24 + 2 * j) 2) (min 8192 (c.arg (24 + 2 * j) 2))).ldShadow n
            (min 12 (c.arg 16 1 - c.arg 16 1 % 4) + j) (c.arg (24 + 2 * j) 2))
          ((b.begin c).descClamp c 0x0B 16 0 8 (c.arg 16 1) (min 12 (c.arg 16 1 - c.arg 16 1 % 4)))
        ∧ exec (.tcompLoad dt c) s = .next ((if c.argBits 17 0 1 = 1 then v.ldCommit n else v).complete c .done).done)

/-- For a string that runs exec answers a next state: a soft start that ends takes it to ON and starts its dimming periods, and one that lasts 1 ms
latches it with SHORT; an open string and a short latch it; Tj of 175 degC takes it to THERM_WAIT, and a string that has cooled to 150 degC asks
for its restart; lost headroom sets its bit, the event and the verdict, and returns; an NTC fault sets its bit and event, and recovers; a sample
of the source, 10 ms after the last one, moves the gain; a dimming period start, when the period has run, applies the set duty and current and
completes the commands that wait for it; a measurement of an on-time that may be measured, 1 ms after the last one, shows current and voltage: it
sets HEADROOM where its bit stands; else one between VSHORT and VLO counts, three in a row setting LED_SHORT, and one between VLO and VOVP with
the current within 10 % of ITGT sets OK. (R331, R335, R339, R342, R344, R346, R349, R353, R354, R356, R357) -/
def Obligations.LedStringEvents : Prop :=
  ∀ (s : State) (dt n a v t : Nat) (m : Meas),
    let u := s.tick dt
    let o := ldObj n
    (u.ldRuns n = true → u.st o = 1 →
      exec (.ldSoftstartDone dt n) s = .next ((u.setSt o 2).modObj o fun x => { x with perAt := u.now, period := 0 }).done)
    ∧ (u.ldRuns n = true → u.st o = 1 → (u.obj o).onAt + 1000000 ≤ u.now → exec (.ldSoftstartTimeout dt n) s = .next (u.ldTrip n .short 5).done)
    ∧ (u.ldRuns n = true → exec (.ldOpenString dt n m) s = .next ((u.measure o m).ldTrip n .openString 5).done)
    ∧ (u.ldRuns n = true → exec (.ldShort dt n m) s = .next ((u.measure o m).ldTrip n .short 5).done)
    ∧ (u.ldRuns n = true → 225 ≤ m.tj → exec (.ldThermal dt n m) s = .next ((u.measure o m).ldTrip n .thermal 3).done)
    ∧ (n < 12 → u.supplied o = true → u.st o = 3 → (u.obj o).asked = false → m.tj ≤ 200 →
      exec (.ldThermalRestart dt n m) s = .next ((u.measure o m).submitOwn ((u.measure o m).restartDemand o .restart)).done)
    ∧ (u.ldRuns n = true → u.st o = 2 → u.flag Reg.LD_STAT_HEADROOM n = false →
      exec (.headroomSet dt n) s = .next (((u.wr Reg.LD_STAT_HEADROOM n 1).objEvent o 0x84).verdictSet o 5).done)
    ∧ (n < 12 → u.supplied o = true → exec (.headroomClear dt n) s = .next (u.wr Reg.LD_STAT_HEADROOM n 0).done)
    ∧ (n < 12 → u.supplied o = true → u.flag Reg.LD_STAT_NTCFAULT n = false →
      exec (.ntcFault dt n) s = .next ((u.wr Reg.LD_STAT_NTCFAULT n 1).objEvent o 0x83).done)
    ∧ (n < 12 → u.supplied o = true → exec (.ntcRecover dt n) s = .next (u.wr Reg.LD_STAT_NTCFAULT n 0).done)
    ∧ (n < 12 → u.supplied o = true → (u.led n).tempAt = none ∨ (∃ k, (u.led n).tempAt = some k ∧ k + 10000000 ≤ u.now) →
      exec (.tcompSample dt n t) s = .next (u.ldMoveGain n (u.ldSource n t)).done)
    ∧ (u.ldRuns n = true → u.st o = 2 → 10 * u.ldNext n ≤ u.now →
      ∀ (p : Ns) (x : State), p = 10 * (u.ldNext n + (u.now / 10 - u.ldNext n) / u.ldPer n * u.ldPer n) →
      x = (u.modObj o fun x => { x with duty := u.setDuty o, next := none, period := x.period + 1, perAt := p }).wr Reg.LD_OUT_DEFF n
        (u.ldDeff n (u.setDuty o)) →
      exec (.dimPeriodStart dt n) s = .next (((x.modLed n fun l => { l with iset := x.ldIset n, per := u.ldPer n }).cmdDone o).chgDone o).done)
    ∧ (u.ldRuns n = true → u.st o = 2 → u.ldMeasured n = true →
      ∀ (w : State) (lo i : Nat), w = (((u.wr Reg.LD_MEAS_IMEAS n a).wr Reg.LD_MEAS_VSTR n v).modLed n (fun l => { l with vrem := some v, measAt := some u.now })).took o →
      lo = w.rd Reg.LD_CFG2_VLO n * 25 → i = w.ldItgt n (w.led n).iset →
      (w.flag Reg.LD_STAT_HEADROOM n = true → exec (.ldMeasure dt n a v) s = .next (w.judged o 5).done)
      ∧ (w.flag Reg.LD_STAT_HEADROOM n = false → w.rd Reg.LD_CFG2_VSHORT n * 25 ≤ 2 * v → 2 * v < lo →
        ((w.led n).shorts < 2 → exec (.ldMeasure dt n a v) s = .next (w.modLed n fun l => { l with shorts := (w.led n).shorts + 1 }).done)
        ∧ (2 ≤ (w.led n).shorts → exec (.ldMeasure dt n a v) s =
          .next ((w.modLed n fun l => { l with shorts := (w.led n).shorts + 1 }).judged o 4).done))
      ∧ (w.flag Reg.LD_STAT_HEADROOM n = false → lo ≤ 2 * v → ∀ x, x = w.modLed n (fun l => { l with shorts := 0 }) →
        2 * v ≤ x.rd Reg.LD_CFG2_VOVP n * 25 → 9 * i ≤ 10 * a → 10 * a ≤ 11 * i → exec (.ldMeasure dt n a v) s = .next (x.judged o 1).done))

/-- Once a command of the matrix starts and nothing bars it, exec answers a next state: MX_OFF stops it; MX_ON puts its demand to the arbiter, the
difference where the matrix scans; MX_BRIGHT of an OFF matrix stores the brightness, and of a scanning one puts a rise to the arbiter and applies
a fall at the next frame; MX_CLEAR_FAULT completes DONE where nothing is latched and returns a latched matrix to OFF; MX_CONFIG writes its image,
but for a rise of ICOL while scanning, which is a demand; MX_FRAME fills the back buffer and completes DONE, or waits for the swap it asks for. A
frame boundary, when the frame has run, judges the LEDs, counts the frame, swaps the buffers where a swap is pending and completes its commands,
applies a new brightness, and judges the matrix. A row short latches the matrix. (R363, R365, R368, R370, R371, R373) -/
def Obligations.MatrixCommandsAndFrames : Prop :=
  ∀ (s : State) (dt : Ns) (c : Cmd) (px : List Byte) (lows : Nat),
    let b := s.taken dt c
    let u := s.tick dt
    let g := c.arg 16 1
    let rise := b.submit (b.cmdDemand c (.on 1 g) (claimsOver (b.mxStand b.mxIcol g) (b.mxStand b.mxIcol b.mxSet)) [] 0)
    (s.starts dt c 0x2001 [.mx] = true → b.limpBar mxObj = none → (b.st mxObj = 0 ∨ b.latched mxObj = true ∨ b.ovBar mxObj = none) →
      exec (.mxOff dt c) s = .next ((((b.begin c).mxOff).commanded mxObj).complete c .done).done)
    ∧ (s.starts dt c 0x2002 [.mx] = true → b.limpBar mxObj = none → b.onBar mxObj = none → b.ovBar mxObj = none →
      (b.isOn mxObj = false → exec (.mxOn dt c) s = .next (b.submit (b.cmdDemand c (.on 0 g) (b.mxStand b.mxIcol g) [] 0)).done)
      ∧ (b.isOn mxObj = true → exec (.mxOn dt c) s = .next rise.done))
    ∧ (s.starts dt c 0x2003 [.mx] = true → b.limpBar mxObj = none → b.onBar mxObj = none →
      (b.st mxObj = 0 → exec (.mxBright dt c) s = .next ((((b.begin c).modMx fun m => { m with gduty := g }).commanded mxObj).complete c .done).done)
      ∧ (b.st mxObj ≠ 0 → b.ovBar mxObj = none → b.isOn mxObj = true → b.mxSet < g → exec (.mxBright dt c) s = .next rise.done)
      ∧ (b.st mxObj ≠ 0 → b.ovBar mxObj = none → b.isOn mxObj = true → g ≤ b.mxSet →
        exec (.mxBright dt c) s = .next (b.mxChange g (some c)).done))
    ∧ (s.starts dt c 0x2004 [.mx] = true → b.limpBar mxObj = none →
      (b.latched mxObj = false → exec (.mxClearFault dt c) s = .next ((b.commanded mxObj).complete c .done).done)
      ∧ (b.latched mxObj = true → b.ovBar mxObj = none →
        exec (.mxClearFault dt c) s = .next ((((b.begin c).mxClear).commanded mxObj).complete c .done).done))
    ∧ (s.starts dt c 0x3001 [.mx] = true → c.argBits 16 24 1 = b.rd Reg.MX_CFG0_SUPSRC ∨ b.mxFree = true →
      ∀ r w v, r = b.clampAll c.pf 1 (imagePuts c 0x0C 0 2) → w = packAt r 16 + 2 ^ 32 * packAt r 20 →
      v = (b.logClamps 0x0C (clampsOf 1 c.pf c.tag c.object r)).modFlight c (fun x => { x with clamps := x.clamps + (clampsOf 1 c.pf c.tag c.object r).length }) →
      (v.isOn mxObj = false ∨ bits (packAt r 16) 0 6 ≤ v.mxIcol → exec (.mxConfig dt c) s = .next (((v.begin c).mxImage w).complete c .done).done)
      ∧ (v.isOn mxObj = true → v.mxIcol < bits (packAt r 16) 0 6 → v.ovBar mxObj = none → exec (.mxConfig dt c) s =
        .next (v.submit (v.cmdDemand c (.on 2 w) (claimsOver (v.mxStandImage w v.mxSet) (v.mxStand v.mxIcol v.mxSet)) [] 0)).done))
    ∧ (s.starts dt c 0x3004 [.mx] = true → c.arg 16 8 % 8 = 0 → (b.dma c.pf (c.arg 16 8) 128).2 = true →
      ∀ v : State, v = ((b.dma c.pf (c.arg 16 8) 128).1.begin c).modMx (fun m => { m with back := (List.range 128).map fun k => px.getD k 0 % 256 }) →
      (c.argBits 24 0 1 = 0 → exec (.mxFrame dt c px) s = .next (v.complete c .done).done) ∧
      (c.argBits 24 0 1 = 1 → exec (.mxFrame dt c px) s = .next (v.mxSwap.modMx fun m => { m with swapCmds := m.swapCmds ++ [c] }).done))
    ∧ (∀ v w x y : State, u.supplied mxObj = true → u.st mxObj = 1 → u.out.mx.frameAt + u.out.mx.frameLen ≤ u.now →
      v = (List.range 128).foldl (fun s k => s.mxLed lows k) u → w = v.wr Reg.MX_STAT_FRAMES 0 (v.rd Reg.MX_STAT_FRAMES + 1) →
      x = (if w.flag Reg.MX_STAT_SWAPPEND then w.out.mx.swapCmds.foldl (fun s c => s.complete c .done)
        ((w.modMx fun m => { m with front := m.back, back := m.front, swapCmds := [] }).wr Reg.MX_STAT_SWAPPEND 0 0) else w) →
      y = (match (x.obj mxObj).next with
        | some g => (x.modMx fun m => { m with gduty := g }).modObj mxObj fun z => { z with next := none }
        | none => x) →
      exec (.mxFrameBoundary dt lows) s = .next ((y.modMx fun m => { m with
        frameAt := m.frameAt + (y.now - m.frameAt) / max 1 m.frameLen * m.frameLen, frameLen := y.mxFrame }).mxJudge.chgDone mxObj).done)
    ∧ (u.supplied mxObj = true → u.st mxObj = 1 → exec (.mxRowShort dt) s = .next (u.objTrip mxObj .rowShort 3).done)

/-- Once a command of a solenoid channel or of the boost converter starts and nothing bars it, exec answers a next state: SV_OFF leaves the drive and
completes DONE; SV_ON of a channel at rest puts its demand to the arbiter with its hold claims, its boost transient and the time of boost and
peak, in HOLD it completes DONE at once, and in BOOST or PEAK it waits for HOLD; SV_HOLD of a channel at rest stores the level and completes DONE,
and of a running one puts a rise to the arbiter, the level being clamped to 5 mA, IPK and 400 mA; SV_CLEAR_FAULT completes DONE where nothing is
latched, returns a channel whose cause has gone to OFF, and completes REFUSED_STATE with the latch kept where the cause persists; SV_DIAG_CHECK
joins the checks that wait for a measurement where no latch stands; SV_CONFIG and SV_CONFIG2 write their images; SV_LEARN_RESET forgets the
learned time. BST_OFF stops the converter; BST_ON of a stopped converter puts its demand to the arbiter; BST_CLEAR_FAULT completes DONE where
nothing is latched and otherwise returns it to OFF; BST_CONFIG writes its image while the converter is OFF and is refused otherwise. (R388, R389,
R403, R404, R407, R416, R420, R421, R426, R427) -/
def Obligations.ValveCommandsComplete : Prop :=
  ∀ (s : State) (dt : Ns) (c : Cmd),
    let b := s.taken dt c
    let o := c.object
    let n := objNum o
    let lv := clampNat 5 (max 5 (min 400 (b.rd Reg.SV_CFG0_IPK n * 25 / 10))) (c.arg 16 2)
    let x := b.descClamp c 0x0D 16 0 16 (c.arg 16 2) lv
    (s.starts dt c 0x2001 [.sv] = true → b.limpBar o = none → (b.st o = 0 ∨ b.latched o = true ∨ b.ovBar o = none) →
      exec (.svOff dt c) s = .next ((((b.begin c).svOff n).commanded o).complete c .done).done)
    ∧ (s.starts dt c 0x2002 [.sv] = true → b.limpBar o = none → b.onBar o = none →
      (b.st o = 3 → exec (.svOn dt c) s = .next ((b.commanded o).complete c .done).done)
      ∧ (b.st o ≠ 3 → b.isOn o = true →
        exec (.svOn dt c) s = .next (((b.begin c).commanded o).modValve n fun v => { v with extra := v.extra ++ [c] }).done)
      ∧ (b.st o ≠ 3 → b.isOn o = false → b.ovBar o = none → exec (.svOn dt c) s =
        .next (b.svSubmit (b.cmdDemand c (.on 0 0) (svStand n (b.svNextMa n)) (b.svTrans n true) (b.svTbst n + b.svTpk n)) c).done))
    ∧ (s.starts dt c 0x2003 [.sv] = true → b.limpBar o = none → b.onBar o = none → b.loopBar o = none →
      (x.isOn o = false → exec (.svHold dt c) s = .next ((((x.begin c).wr Reg.SV_CFG0_IHOLD n lv).commanded o).complete c .done).done)
      ∧ (x.isOn o = true → x.ovBar o = none → x.svSetMa n < lv * 10 → exec (.svHold dt c) s =
        .next (x.submit (x.cmdDemand c (.on 2 lv) (claimsOver (svStand n (lv * 10)) (svStand n (x.svSetMa n))) [] 0)).done)
      ∧ (x.isOn o = true → x.ovBar o = none → lv * 10 ≤ x.svSetMa n → exec (.svHold dt c) s =
        .next (x.svServe { x.cmdDemand c (.on 2 lv) [] [] 0 with cls := (x.load o).cls }).done))
    ∧ (s.starts dt c 0x2004 [.sv] = true → b.limpBar o = none →
      (b.latched o = false → exec (.svClearFault dt c) s = .next ((b.commanded o).complete c .done).done)
      ∧ (b.latched o = true → b.svGone n = true → b.ovBar o = none →
        exec (.svClearFault dt c) s = .next ((((b.begin c).svClear n).commanded o).complete c .done).done)
      ∧ (b.latched o = true → b.svGone n = false → exec (.svClearFault dt c) s = .next (b.clearPersists c 0x0D03).done))
    ∧ (s.starts dt c 0x2005 [.sv] = true → b.limpBar o = none → (b.commanded o).latched o = false →
      exec (.svDiagCheck dt c) s = .next ((b.commanded o).modObj o fun z => { z with checks := z.checks ++ [(c, (b.commanded o).now)] }).done)
    ∧ (s.starts dt c 0x3001 [.sv] = true →
      exec (.svConfig dt c) s = .next (((b.begin c).putImage c 0x0D (imagePuts c 0x0D (0x40 * n) 4)).complete c .done).done)
    ∧ (s.starts dt c 0x3002 [.sv] = true →
      exec (.svLearnReset dt c) s = .next ((((b.begin c).wr Reg.SV_STAT_LEARNED n 0).wr Reg.SV_MEAS_TLRN n 0).complete c .done).done)
    ∧ (s.starts dt c 0x3005 [.sv] = true →
      exec (.svConfig2 dt c) s = .next (((b.begin c).putImage c 0x0D (imagePuts c 0x0D (0x40 * n + 0x10) 2)).complete c .done).done)
    ∧ (s.starts dt c 0x2001 [.bst] = true → (b.st bstObj = 0 ∨ b.latched bstObj = true ∨ b.ovBar bstObj = none) →
      exec (.bstOff dt c) s = .next (((b.begin c).bstOff).complete c .done).done)
    ∧ (s.starts dt c 0x2002 [.bst] = true → b.onBar bstObj = none → b.isOn bstObj = false → b.ovBar bstObj = none →
      exec (.bstOn dt c) s = .next (b.submit (b.cmdDemand c (.on 0 0) b.bstStand [] 0)).done)
    ∧ (s.starts dt c 0x2002 [.bst] = true → b.onBar bstObj = none → b.isOn bstObj = true → exec (.bstOn dt c) s = .next (b.bstAgain c).done)
    ∧ (s.starts dt c 0x2004 [.bst] = true → (b.latched bstObj = false → exec (.bstClearFault dt c) s = .next (b.complete c .done).done)
      ∧ (b.latched bstObj = true → b.ovBar bstObj = none →
        exec (.bstClearFault dt c) s = .next (((b.begin c).bstClear).complete c .done).done))
    ∧ (s.starts dt c 0x3001 [.bst] = true →
      (b.st bstObj = 0 → exec (.bstConfig dt c) s = .next (((b.begin c).putImage c 0x0D (imagePuts c 0x0D 0xC00 2)).complete c .done).done)
      ∧ (b.st bstObj ≠ 0 → exec (.bstConfig dt c) s = .next (b.complete c .refusedState 0x0D05).done))

/-- For a solenoid channel of a supplied die that runs, exec answers a next state: a boost that ends stores its measurements and the energy it drew
and goes to PEAK, or to HOLD where TPK is 0, or latches with OPEN_COIL when the current stayed below 10 % of IBST; a peak that ends goes to HOLD;
a decay that ends stores the recovered energy, 0 without RECOV, and goes to OFF; a dip that counts, inside the fixed window, sets MOVED and TDET
and ends the search where the channel has not learned or the dip lies in the learned window, and is kept as a dip found only in the fixed window
otherwise; a window that closes without a dip sets STUCK; a limit of 10 A for 10 us latches SHORT; a bank short latches every member with
BANK_SHORT; Tj of 175 degC takes the channel to THERM_WAIT, and a cooled one asks for its restart; an off test, 10 ms after the last one, says
whether a load is there. (R383, R400, R404, R407, R410, R411, R412, R413, R415, R418, R419, R421) -/
def Obligations.ValveActuation : Prop :=
  ∀ (s : State) (dt n e imax ti vbst bank v : Nat) (d : DipSeen) (m : Meas),
    let u := s.tick dt
    let o := svObj n
    (∀ w : State, u.svRuns n = true → u.st o = 1 → (u.valve n).phaseEnd ≤ u.now + 30 →
      w = (((u.wr Reg.SV_ACT1_EBST n (min 0xFFFF e)).wr Reg.SV_ACT0_TIBST n (min 0xFFFF ti)).wr Reg.BST_STAT_VBST 0 vbst).modValve n (fun v => { v with drawn := e }) →
      (imax * 10 < (u.valve n).ibst → exec (.boostEnd dt n e imax ti vbst) s = .next (w.svTrip n .openCoil 7).done)
      ∧ ((u.valve n).ibst ≤ imax * 10 → (u.valve n).tpk = 0 → exec (.boostEnd dt n e imax ti vbst) s = .next ((w.svBoostDone n).svHold n).done)
      ∧ ((u.valve n).ibst ≤ imax * 10 → (u.valve n).tpk ≠ 0 → exec (.boostEnd dt n e imax ti vbst) s =
        .next (((w.svBoostDone n).setSt o 2).modValve n fun v => { v with phaseEnd := tb8 (w.svBoostDone n).now + v.tpk }).done))
    ∧ (u.svRuns n = true → u.st o = 2 → (u.valve n).phaseEnd ≤ u.now + 30 → exec (.peakEnd dt n) s = .next (u.svHold n).done)
    ∧ (n < 16 → u.supplied o = true → u.isOn o = false → u.st o ≠ 0 →
      ∀ w : State, w = u.wr Reg.SV_ACT1_EREC n (if u.flag Reg.SV_CFG2_RECOV n then min 0xFFFF e else 0) → w.st o = 4 →
      exec (.decayEnd dt n e) s = .next (w.setSt o 0).done)
    ∧ (u.svRuns n = true → u.st o = 1 ∨ u.st o = 2 → (u.valve n).judging = true → (u.valve n).fwlo ≤ d.t → d.t ≤ (u.valve n).fwhi → u.svDipCounts n d = true →
      ∀ inside : Bool, inside = (!(u.flag Reg.SV_STAT_LEARNED n && !u.flag Reg.SV_STAT_NOBOOST n) ||
        decide ((u.svWindow n).1 ≤ d.t ∧ d.t ≤ (u.svWindow n).2)) → (inside = true ∨ u.rd Reg.SV_STAT_ARM n = 0) →
      exec (.armatureDip dt n d) s = .next (((u.wr Reg.SV_STAT_ARM n (if inside then 1 else 3)).wr Reg.SV_ACT0_TDET n d.t).modValve n
        fun v => { v with fixedWin := !inside, judging := !inside }).done)
    ∧ (u.svRuns n = true → u.st o = 1 ∨ u.st o = 2 → (u.valve n).judging = true → (u.valve n).startAt + (u.valve n).fwhi * 10000 ≤ u.now →
      exec (.armatureStuck dt n) s =
        .next ((if u.rd Reg.SV_STAT_ARM n = 0 then u.wr Reg.SV_STAT_ARM n 2 else u).modValve n fun v => { v with judging := false }).done)
    ∧ (u.svRuns n = true → 9000 ≤ m.i → 10000 ≤ m.held → exec (.svShort dt n m) s = .next ((u.measure o m).svTrip n .short 7).done)
    ∧ (((List.range 16).filter fun k => bankOf k == bank).any u.svRuns = true → exec (.bankShort dt bank) s = .next (
        ((((List.range 16).filter fun k => bankOf k == bank).filter fun k =>
            !(u.wr Reg.SV_BANK_BLATCH 0 (setBit (u.rd Reg.SV_BANK_BLATCH) bank)).latched (svObj k)).foldl (fun s k => s.svTrip k .bankShort 7)
          (u.wr Reg.SV_BANK_BLATCH 0 (setBit (u.rd Reg.SV_BANK_BLATCH) bank)))).done)
    ∧ (u.svRuns n = true → 225 ≤ m.tj → exec (.svThermal dt n m) s = .next ((u.measure o m).svTrip n .thermal 5).done)
    ∧ (n < 16 → u.supplied o = true → u.st o = 5 → (u.obj o).asked = false → m.tj ≤ 200 →
      exec (.svThermalRestart dt n m) s = .next ((u.measure o m).submitOwn ((u.measure o m).restartDemand o .restart)).done)
    ∧ (n < 16 → u.supplied o = true → u.st o = 0 → u.flag Reg.SV_CFG4_OFFTEST n = true → u.adcLost o = false →
      (u.obj o).testAt = none ∨ (∃ k, (u.obj o).testAt = some k ∧ k + 10000000 ≤ u.now) →
      ∀ w : State, w = u.modObj o (fun x => { x with tookAt := some u.now, testAt := some u.now }) →
      exec (.svOffTest dt n v) s = .next (if 250 ≤ v then w.presentNow o else w.absentNow o 2).done)

/-- For a supplied converter that runs exec answers a next state: reaching VSET (98 % of it, its tolerance) while charging makes it READY, raises
BST_READY and completes the commands that wait; VBST below 5 V 2 ms after the start latches it with SHORT; Tj of 175 degC takes it to THERM_WAIT,
and a cooled converter asks for its restart; VBST above 68 V stops its switching, and below 66 V lets it run on; a supply near VSET sets HEADROOM
and completes the commands that wait, and a supply 4 V below VSET clears it. (R385, R386, R387, R388) -/
def Obligations.BoostConverterEvents : Prop :=
  ∀ (s : State) (dt vbst vs6 : Nat) (m : Meas),
    let u := s.tick dt
    (u.bstOn = true → u.st bstObj = 1 → 98 * (u.rd Reg.BST_CFG_VSET * 50) ≤ 100 * vbst →
      exec (.bstReady dt vbst) s = .next ((((u.wr Reg.BST_STAT_VBST 0 vbst).setSt bstObj 2).objEvent bstObj 0x85).bstDone).done)
    ∧ (u.bstOn = true → u.st bstObj = 1 → vbst < 500 → u.out.bstOnAt + 2000000 ≤ u.now →
      exec (.bstShort dt vbst) s = .next ((u.wr Reg.BST_STAT_VBST 0 vbst).objTrip bstObj .short 5).done)
    ∧ (u.bstOn = true → 225 ≤ m.tj → exec (.bstThermal dt m) s = .next ((u.measure bstObj m).objTrip bstObj .thermal 3).done)
    ∧ (u.supplied bstObj = true → u.st bstObj = 3 → (u.obj bstObj).asked = false → m.tj ≤ 200 →
      exec (.bstThermal dt m) s = .next ((u.measure bstObj m).submitOwn ((u.measure bstObj m).restartDemand bstObj .restart)).done)
    ∧ (u.bstOn = true → 6800 < vbst →
      ∃ t : State, exec (.bstOvervoltageStop dt vbst) s = .next t.done ∧ t = (u.wr Reg.BST_STAT_VBST 0 vbst).bstHalt true ∧ t.out.bstStop = true)
    ∧ (u.out.bstStop = true → vbst < 6600 →
      ∃ t : State, exec (.bstOvervoltageResume dt vbst) s = .next t.done ∧ t = (u.wr Reg.BST_STAT_VBST 0 vbst).bstHalt false ∧ t.out.bstStop = false)
    ∧ (u.bstOn = true → u.rd Reg.BST_CFG_VSET * 50 < vs6 + 300 → exec (.bstHeadroomSet dt vs6 vbst) s =
        .next ((((u.setVolt 6 vs6).wr Reg.BST_STAT_VBST 0 vbst).wr Reg.BST_STAT_HEADROOM 0 1).bstDone).done)
    ∧ (u.supplied bstObj = true → vs6 + 400 < u.rd Reg.BST_CFG_VSET * 50 →
      exec (.bstHeadroomClear dt vs6) s = .next ((u.setVolt 6 vs6).wr Reg.BST_STAT_HEADROOM 0 0).done)

/-- Once a command of a bridge group's leader starts and nothing bars it, exec answers a next state: HB_OFF opens the bridge and completes DONE;
HB_DRIVE and HB_MOVE put their demand to the arbiter with the claims of the duty and of the start where the bridge does not already run in that
direction, and where it does they put a rise of the duty to the arbiter and apply a fall; a duty below the shortest on-time and a reserved GOAL
are recorded as clamped; HB_BRAKE ends what waits and a motion, and stops the bridge braking or freewheeling; HB_CLEAR_FAULT completes DONE where
nothing is latched, returns a bridge whose cause has gone to OFF, and completes REFUSED_STATE with the latch kept while a stage latched by
temperature is above 150 degC; HB_DIAG_CHECK joins the checks that wait for a measurement where no latch stands; HB_SETPOS stores the position and
makes it valid; HB_CONFIG and HB_CONFIG2 write their images. (R435, R436, R438, R440, R442, R444, R446, R447, R451, R453, R459) -/
def Obligations.BridgeCommandsComplete : Prop :=
  ∀ (s : State) (dt : Ns) (c : Cmd),
    let b := s.taken dt c
    let o := c.object
    let n := objNum o
    let d := b.hbRaise n (c.arg 18 2)
    let g := c.argBits 16 2 2
    let free := b.hbMemberBar o = none ∧ b.limpBar o = none ∧ b.onBar o = none ∧ b.loopBar o = none
    let put := fun (z : State) => z.submit (z.cmdDemand c (.on (if z.hbRuns n then 1 else 0) d) (z.hbStand n d) (z.hbTrans n) (z.hbTransDur n))
    let rise := fun (z : State) => z.submit (z.cmdDemand c (.on 2 d) (claimsOver (z.hbStand n d) (z.hbStand n (z.rd Reg.HB_OUT_DUTY n))) [] 0)
    (s.starts dt c 0x2001 [.hb] = true → b.hbMemberBar o = none → b.limpBar o = none → (b.st o = 0 ∨ b.latched o = true ∨ b.ovBar o = none) →
      exec (.hbOff dt c) s = .next ((((b.begin c).hbOff n).commanded o).complete c .done).done)
    ∧ (s.starts dt c 0x2002 [.hb] = true → free → ∀ z, z = b.descClamp c 0x0A 18 0 16 (c.arg 18 2) d → z.ovBar o = none →
      (z.hbRuns n = false ∨ (hbDriveOf c d).dir ≠ z.hbDir n → exec (.hbDrive dt c) s = .next (put z).done)
      ∧ (z.hbRuns n = true → (hbDriveOf c d).dir = z.hbDir n → z.rd Reg.HB_OUT_DUTY n < d → exec (.hbDrive dt c) s = .next (rise z).done)
      ∧ (z.hbRuns n = true → (hbDriveOf c d).dir = z.hbDir n → d ≤ z.rd Reg.HB_OUT_DUTY n →
        exec (.hbDrive dt c) s = .next (z.hbChange n (hbDriveOf c d) (some c)).done))
    ∧ (s.starts dt c 0x2006 [.hb] = true → free → (g = 0 → b.flag Reg.HB_STAT_POSVALID n = true) →
      ∀ z, z = (b.descClamp c 0x0A 16 2 2 g (min 2 g)).descClamp c 0x0A 18 0 16 (c.arg 18 2) d → z.ovBar o = none →
      (z.hbRuns n = false ∨ (hbDriveOf c d).dir ≠ z.hbDir n → exec (.hbMove dt c) s = .next (put z).done)
      ∧ (z.hbRuns n = true → (hbDriveOf c d).dir = z.hbDir n → z.rd Reg.HB_OUT_DUTY n < d → exec (.hbMove dt c) s = .next (rise z).done)
      ∧ (z.hbRuns n = true → (hbDriveOf c d).dir = z.hbDir n → d ≤ z.rd Reg.HB_OUT_DUTY n →
        exec (.hbMove dt c) s = .next (z.hbChange n (hbDriveOf c d) (some c)).done))
    ∧ (s.starts dt c 0x2003 [.hb] = true → b.hbMemberBar o = none → b.limpBar o = none → b.onBar o = none →
      ∀ k z, k = (if 1 < c.argBits 16 0 2 then 0 else c.argBits 16 0 2) → z = b.descClamp c 0x0A 16 0 2 (c.argBits 16 0 2) k → z.ovBar o = none →
      ∀ y, y = (if (z.begin c).hbRuns n then (z.begin c).hbMotionEnd n 6 else z.begin c) → exec (.hbBrake dt c) s =
        .next ((((y.endWaiting o .done 0).hbStop n k).commanded o).complete c .done).done)
    ∧ (s.starts dt c 0x2004 [.hb] = true → b.hbMemberBar o = none → b.limpBar o = none →
      (b.latched o = false → exec (.hbClearFault dt c) s = .next ((b.commanded o).complete c .done).done)
      ∧ (b.latched o = true → (b.rd Reg.HB_STAT_CAUSE n ≠ 2 ∨ b.tjOf o ≤ 200) → b.ovBar o = none →
        exec (.hbClearFault dt c) s = .next ((((b.begin c).hbClear n).commanded o).complete c .done).done)
      ∧ (b.latched o = true → b.rd Reg.HB_STAT_CAUSE n = 2 → 200 < b.tjOf o → exec (.hbClearFault dt c) s = .next (b.clearPersists c 0x0A03).done))
    ∧ (s.starts dt c 0x2005 [.hb] = true → b.hbMemberBar o = none → b.limpBar o = none → (b.commanded o).latched o = false →
      exec (.hbDiagCheck dt c) s = .next ((b.commanded o).modObj o fun z => { z with checks := z.checks ++ [(c, (b.commanded o).now)] }).done)
    ∧ (s.starts dt c 0x2007 [.hb] = true → b.hbMemberBar o = none → b.limpBar o = none → exec (.hbSetpos dt c) s =
        .next (((((b.begin c).wr Reg.HB_POS_POS n (c.arg 16 2)).wr Reg.HB_STAT_POSVALID n 1).commanded o).complete c .done).done)
    ∧ (s.starts dt c 0x3001 [.hb] = true → b.hbMemberBar o = none → b.modeBar o (c.argBits 16 0 2) = none →
      exec (.hbConfig dt c) s = .next (((b.begin c).putImage c 0x0A (imagePuts c 0x0A (0x40 * n) 4)).complete c .done).done)
    ∧ (s.starts dt c 0x3005 [.hb] = true → b.hbMemberBar o = none →
      exec (.hbConfig2 dt c) s = .next (((b.begin c).putImage c 0x0A (imagePuts c 0x0A (0x40 * n + 0x10) 1)).complete c .done).done)

/-- For the leader of a bridge group of a supplied die exec answers a next state: a ripple that counts moves the position by one with the drive
direction and stores the ripple rate and the current; in a drive it ends a motion to a position on its TARGET and a trap reversal after its
ripples; a stall of a home motion loads the target as the position, makes it valid and ends the motion with HOME, one in a trap reversal ends it
with TRAP, and any other ends it with STALL; TMAX ends a timed motion with TIMEOUT; a trapped obstacle raises TRAP and reverses for REVCNT
ripples; the end of the ramp gives the set duty; the end of TREV starts the opposite drive, or ends a trapped motion; a switch above 3.0 V for 1
us latches SHORT; Tj of 175 degC takes the bridge to THERM_WAIT, and a cooled one restarts; a current below 100 mA for 200 ms from the ramp on, at
25 % or more, gives the verdict OPEN. (R443, R445, R446, R449, R450, R453, R454, R455, R456, R457) -/
def Obligations.BridgeMotions : Prop :=
  ∀ (s : State) (dt n rate a mean p : Nat) (r : RippleSeen) (l : Lasting) (m : Meas),
    let u := s.tick dt
    let o := hbObj n
    (u.hbLive n = true → u.hbRipples n rate r = true → p = (u.rd Reg.HB_POS_POS n + (if u.rd Reg.HB_STAT_DIR n = 0 then 1 else 65535)) % 65536 →
      ∀ v : State, v = (((u.wr Reg.HB_POS_POS n p).wr Reg.HB_MEAS_RIPRATE n (min 0xFFFF rate)).hbAmps n r.i).modBridge n
        (fun b => { b with ripples := b.ripples + 1, rippleAt := (((u.wr Reg.HB_POS_POS n p).wr Reg.HB_MEAS_RIPRATE n (min 0xFFFF rate)).hbAmps n r.i).now }) →
      (v.st o ≠ 1 → v.st o ≠ 2 → exec (.rippleCount dt n rate r) s = .next v.done)
      ∧ (v.st o = 1 ∨ v.st o = 2 → (v.bridge n).trap = none →
        ((v.bridge n).goal = some 0 → p = v.rd Reg.HB_POS_TARGET n → exec (.rippleCount dt n rate r) s = .next (v.hbEnd n 0).done)
        ∧ ((v.bridge n).goal ≠ some 0 ∨ p ≠ v.rd Reg.HB_POS_TARGET n → exec (.rippleCount dt n rate r) s = .next v.done))
      ∧ (∀ k, v.st o = 1 ∨ v.st o = 2 → (v.bridge n).trap = some k →
        (k ≤ 1 → exec (.rippleCount dt n rate r) s = .next (v.hbEnd n 4).done)
        ∧ (1 < k → exec (.rippleCount dt n rate r) s = .next (v.modBridge n fun b => { b with trap := some (k - 1) }).done)))
    ∧ (u.hbLive n = true → u.st o = 2 → 6554 ≤ u.rd Reg.HB_OUT_DEFF n → u.hbStalled n l = true → ∀ v, v = u.hbAmps n l.v →
      ((v.bridge n).goal = some 1 → exec (.hbStall dt n l) s =
        .next (((v.wr Reg.HB_POS_POS n (v.rd Reg.HB_POS_TARGET n)).wr Reg.HB_STAT_POSVALID n 1).hbEnd n 1).done)
      ∧ ((v.bridge n).goal ≠ some 1 → (v.bridge n).trap.isSome = true → exec (.hbStall dt n l) s = .next (v.hbEnd n 4).done)
      ∧ ((v.bridge n).goal ≠ some 1 → (v.bridge n).trap = none → exec (.hbStall dt n l) s = .next (v.hbEnd n 3).done))
    ∧ (u.hbLive n = true → u.hbRuns n = true → (u.bridge n).timed = true → (u.bridge n).startAt + u.rd Reg.HB_CFG2_TMAX n * 100000000 ≤ u.now →
      exec (.hbTmaxExpiry dt n) s = .next (u.hbEnd n 5).done)
    ∧ (u.hbLive n = true → u.st o = 2 → u.rd Reg.HB_CFG3_TRAPTH n ≠ 0 → u.rd Reg.HB_STAT_DIR n = u.rd Reg.HB_CFG3_TRAPDIR n → u.inZone n = true →
      16 ≤ (u.bridge n).ripples → (u.bridge n).trap = none → (sgn 16 mean).natAbs + 10 * u.rd Reg.HB_CFG3_TRAPTH n < (sgn 16 a).natAbs →
      ∀ v : State, v = ((((u.hbAmps n a).raise 0x0A84 o (atByte 18 ((u.hbAmps n a).rd Reg.HB_POS_POS n) + atByte 20 a + atByte 22 mean)).hbSt n 4).wr
        Reg.HB_OUT_DEFF n 0) → exec (.hbTrap dt n a mean) s = .next ((v.modBridge n fun b => { b with
          trap := some (v.rd Reg.HB_CFG3_REVCNT n), revEnd := v.now + v.rd Reg.HB_CFG1_TREV n * 1000000, rampEnd := none,
          after := some (1 - v.rd Reg.HB_STAT_DIR n, v.rd Reg.HB_OUT_DUTY n) })).done)
    ∧ (∀ t : Nat, u.hbLive n = true → u.st o = 1 → (u.bridge n).rampEnd = some t → t ≤ u.now →
      ∀ v, v = (u.hbSt n 2).wr Reg.HB_OUT_DEFF n (u.hbMinDuty n (u.rd Reg.HB_OUT_DUTY n)) →
      exec (.hbRampEnd dt n) s = .next (v.modBridge n fun b => { b with rampEnd := none, ripples := 0, runAt := v.now }).done)
    ∧ (∀ dir duty : Nat, u.hbLive n = true → u.st o = 4 → (u.bridge n).revEnd ≤ u.now → (u.bridge n).trap ≠ some 0 →
      (u.bridge n).after = some (dir, duty) →
      exec (.hbReverseEnd dt n) s = .next ((u.modBridge n fun b => { b with after := none }).hbGo n { dir, duty }).done)
    ∧ (u.hbLive n = true → u.st o = 4 → (u.bridge n).revEnd ≤ u.now → (u.bridge n).trap = some 0 → exec (.hbReverseEnd dt n) s = .next (u.hbEnd n 4).done)
    ∧ (u.hbLive n = true → u.hbRuns n = true ∨ u.st o = 3 → 300 < m.vout → 1000 ≤ m.held →
      exec (.hbShort dt n m) s = .next ((u.measure o m).hbTrip n .short 7).done)
    ∧ (u.hbLive n = true → u.hbRuns n = true ∨ u.st o = 3 → 225 ≤ m.tj → exec (.hbThermal dt n m) s = .next ((u.measure o m).hbTrip n .thermal 5).done)
    ∧ (u.hbLive n = true → u.st o = 5 → (u.obj o).asked = false → m.tj ≤ 200 →
      exec (.hbThermalRestart dt n m) s = .next ((u.measure o m).restart o .restart).done)
    ∧ (u.hbLive n = true → u.st o = 2 → 16384 ≤ u.rd Reg.HB_OUT_DEFF n → (u.bridge n).runAt + 200000000 ≤ u.now → u.adcLost o = false →
      exec (.hbOpenDetect dt n) s = .next (u.judged o 2).done)

/-- At a PWM period start that is due, of the leader of a channel group that is ON with a PWM target, exec answers a next state in which the set duty
acts and the next one is used up, the period is counted from this moment, a change to duty 0 notes the end of the last on-time, and the commands
that wait for the period start complete; at that of a bridge group in RAMP or DRIVE, the limit shows, the duty acts (or steps with the ramp), and
the commands that wait complete; at that of a bridge that brakes, exec answers the state that State.hbBrakePeriod gives. (R162, R163, R164, R438,
R442, R445, R448) -/
def Obligations.PeriodStarts : Prop :=
  ∀ (s : State) (dt o vd : Nat) (lim : Bool),
    let u := s.tick dt
    let x := u.noteVd o vd
    (kindOf o ≠ .hb → u.isCh o = true → u.chLead o = o → u.st o = 1 → u.chPeriodDue (chIx o) = true → (x.obj o).target = 2 →
      ∀ y v : State, y = (if x.setDuty o = 0 then x else (x.chMembers (chIx o)).foldl (fun s m => s.noteGate (chObj m)) x) →
      v = y.modObj o (fun z => { z with
        duty := x.setDuty o, next := none, period := z.period + 1, perAt := y.now
        lastOff := if x.setDuty o = 0 ∧ z.duty ≠ 0 then min y.now ((x.obj o).perAt + 10 * x.chOnTime (chIx o)) else z.lastOff }) →
      exec (.pwmPeriodStart dt { n := o, v := vd } lim) s = .next ((v.cmdDone o).chgDone o).done)
    ∧ (kindOf o = .hb → u.hbLive (objNum o) = true → u.hbPeriodDue (objNum o) = true → u.st o = 1 ∨ u.st o = 2 →
      ∀ (q : Nat) (x v : State), x = u.wrb Reg.HB_STAT_INLIMIT (objNum o) lim →
      ((u.bridge (objNum o)).rampEnd = none → q = u.setDuty o →
        v = (x.wr Reg.HB_OUT_DEFF (objNum o) (x.hbMinDuty (objNum o) q)).modObj (hbObj (objNum o)) (fun z => { z with duty := u.setDuty o, next := none }) →
        hbObj (objNum o) = o →
        exec (.pwmPeriodStart dt { n := o, v := vd } lim) s = .next (((v.modObj o fun z => { z with perAt := v.now }).cmdDone o).chgDone o).done)
      ∧ (∀ t full, (u.bridge (objNum o)).rampEnd = some t → full = x.rd Reg.HB_CFG1_TRAMP (objNum o) * 10000000 →
        q = (if t ≤ x.now then u.setDuty o else u.setDuty o * (full - (t - x.now)) / max 1 full) →
        v = x.wr Reg.HB_OUT_DEFF (objNum o) (x.hbMinDuty (objNum o) q) → hbObj (objNum o) = o →
        exec (.pwmPeriodStart dt { n := o, v := vd } lim) s = .next (((v.modObj o fun z => { z with perAt := v.now }).cmdDone o).chgDone o).done))
    ∧ (kindOf o = .hb → u.hbLive (objNum o) = true → u.hbPeriodDue (objNum o) = true → u.st o = 3 →
      exec (.pwmPeriodStart dt { n := o, v := vd } lim) s = .next (u.hbBrakePeriod (objNum o) lim).done)

/-- Once a command of a loop starts and nothing bars it, exec answers a next state: LOOP_OPEN of a loop that is not OPEN sets its mode (a reserved one
is clamped), starts the way to OPEN and completes DONE, and of an OPEN loop completes DONE at once; LOOP_CLOSE of an OPEN, bound loop whose object
its function owns, no other loop drives and the block may drive reads its limits again and puts the claims that a closed loop adds to the arbiter,
or engages at once where it adds none; LOOP_SETPOINT stores the setpoint and completes DONE; CLEAR_FLAGS clears the flags; LOOP_CONFIG, LOOP_COEF
and LOOP_LIMITS write their images while the loop is OPEN, and LOOP_SLEW writes its own in every state. A sample of a closed loop, at the loop's
place in its period, is computed by the loop's law where its value is no older than two refreshes of its source and the source is not lost, and
counts as missed where it is older. (R468, R471, R472, R477, R478, R483, R486, R487, R489, R490, R493) -/
def Obligations.LoopRows : Prop :=
  ∀ (s : State) (dt : Ns) (c : Cmd) (n age raw : Nat),
    let b := s.taken dt c
    let i := objNum c.object
    let u := s.tick dt
    let m := min 2 (c.argBits 16 0 2)
    let x := b.descClamp c 0x10 16 0 2 (c.argBits 16 0 2) m
    (s.starts dt c 0x2001 [.loop] = true →
      (b.rd Reg.LP_STAT_STATE i = 0 → exec (.loopOpen dt c) s = .next (x.complete c .done).done)
      ∧ (b.rd Reg.LP_STAT_STATE i ≠ 0 → m = 0 ∨ b.ovBar (b.loopObj i) = none →
        exec (.loopOpen dt c) s = .next ((((x.begin c).loopMode i m).loopToOpen i 1 .done 0).complete c .done).done))
    ∧ (s.starts dt c 0x2002 [.loop] = true → b.closedBar i = none → b.ownerFor c (b.loopObj i) = c.pf → b.loopBound i = true →
      (∀ m, m < 48 → m ≠ i → b.loopObj m = b.loopObj i → b.rd Reg.LP_STAT_STATE m = 0) → b.loopDriven i = true → b.ovBar (b.loopObj i) = none →
      ∀ y v : State, y = (if b.flag Reg.LP_STAT_EVER i then b else b.descClamp c 0x10 16 0 1 (c.argBits 16 0 1) 0) → v = y.putImage c 0x10 (y.limitPuts i) →
      ∀ d : Demand, d = { v.cmdDemand c (.on 0 0) (v.loopExtra i) [] 0 with cls := b.demandClass c } →
      (v.loopExtra i ≠ [] → exec (.loopClose dt c) s = .next (v.submit d).done)
      ∧ (v.loopExtra i = [] → exec (.loopClose dt c) s = .next (v.loopEngage d).done))
    ∧ (s.starts dt c 0x2003 [.loop] = true →
      exec (.loopSetpoint dt c) s = .next (((b.begin c).wr Reg.LP_SP i (c.arg 16 4)).complete c .done).done)
    ∧ (s.starts dt c 0x2004 [.loop] = true → exec (.clearFlags dt c) s =
        .next ((((((b.begin c).wr Reg.LP_FLAGS i 0).wr Reg.LP_FLAGS_OUTLIM i 0).wr Reg.LP_FLAGS_SATTO i 0).wr Reg.LP_FLAGS_FBLOST i 0).complete c .done).done)
    ∧ (s.starts dt c 0x3001 [.loop] = true → b.rd Reg.LP_STAT_STATE i = 0 →
      exec (.loopConfig dt c) s = .next (((b.begin c).putImage c 0x10 (imagePuts c 0x10 (0x40 * i + 0) 2)).complete c .done).done)
    ∧ (s.starts dt c 0x3006 [.loop] = true → b.rd Reg.LP_STAT_STATE i = 0 →
      exec (.loopCoef dt c) s = .next (((b.begin c).putImage c 0x10 (imagePuts c 0x10 (0x40 * i + 8) 4)).complete c .done).done)
    ∧ (s.starts dt c 0x3007 [.loop] = true → b.rd Reg.LP_STAT_STATE i = 0 →
      exec (.loopLimits dt c) s = .next (((b.begin c).putImage c 0x10 (imagePuts c 0x10 (0x40 * i + 0x18) 4)).complete c .done).done)
    ∧ (s.starts dt c 0x3008 [.loop] = true →
      exec (.loopSlew dt c) s = .next (((b.begin c).putImage c 0x10 (imagePuts c 0x10 (0x40 * i + 0x28) 2)).complete c .done).done)
    ∧ (u.dieC = true → n < 48 → u.rd Reg.LP_STAT_STATE n = 1 ∨ u.rd Reg.LP_STAT_STATE n = 2 → u.loopDue n = true →
      ∀ v : State, v = u.modLoop n (fun l => { l with sampleAt := u.now }) →
      (age ≤ 2 * v.loopRefresh n → 2 ≤ u.rd Reg.LP_CFG0_FBSRC n → exec (.loopSample dt n age raw) s = .next (v.loopValid n (v.loopFeed n raw)).done)
      ∧ (age ≤ 2 * v.loopRefresh n → u.rd Reg.LP_CFG0_FBSRC n = 0 → u.adcLost (u.loopObj n) = false →
        exec (.loopSample dt n age raw) s = .next (v.loopValid n (v.loopFeed n raw)).done)
      ∧ (age ≤ 2 * v.loopRefresh n → u.rd Reg.LP_CFG0_FBSRC n = 1 → u.flag Reg.LD_STAT_NTCFAULT (u.rd Reg.LP_CFG0_FBIDX n) = false →
        exec (.loopSample dt n age raw) s = .next (v.loopValid n (v.loopFeed n raw)).done)
      ∧ (2 * v.loopRefresh n < age → exec (.loopSample dt n age raw) s = .next (v.loopMiss n).done))

/-- Once a command of an input starts, exec answers a next state: SW_CONFIG writes its image and completes DONE; II_CONFIG writes its image and waits
for the next downlink frame; COUNT_CLEAR of II00 to II03 waits for the field side, and of another input is refused with 120Ah. A sample of a
switch input that is due is taken, with the parked motions and the freshness of its entries; where its level rises and the input starts searches,
it starts one. In the Stop watch a static change or a poll that latches a wake wakes the module. A current below the wire-break threshold for 10
ms, with WBEN, sets WIREBRK, and one from the threshold on for 10 ms clears it; each stores the current, invalidates the level and raises
WIRE_BREAK. (R502, R503, R505, R509, R513, R516, R518, R520) -/
def Obligations.InputRows : Prop :=
  ∀ (s : State) (dt : Ns) (c : Cmd) (n vin : Nat) (a v : Lasting),
    let b := s.taken dt c
    let i := objNum c.object
    let u := s.tick dt
    let x := (u.swTake n vin).parkCheck.freshInputs
    (s.starts dt c 0x3001 [.sw] = true →
      exec (.swConfig dt c) s = .next (((b.begin c).putImage c 0x11 (imagePuts c 0x11 (0x10 * i) 2)).complete c .done).done)
    ∧ (s.starts dt c 0x3001 [.ii] = true → ∀ w : State, w = (b.begin c).putImage c 0x12 (imagePuts c 0x12 (0x10 * i) 2) →
      exec (.iiConfig dt c) s = .next ({ w with inp := { w.inp with configs := w.inp.configs ++ [c] } } : State).done)
    ∧ (s.starts dt c 0x2006 [.ii] = true → i ≤ 3 →
      exec (.countClear dt c) s = .next ((b.begin c).modIi i fun x => { x with clears := x.clears ++ [c], told := false }).done)
    ∧ (s.starts dt c 0x2006 [.ii] = true → 3 < i → exec (.countClear dt c) s = .next (b.complete c .refusedPolicy 0x120A).done)
    ∧ (n < 64 → u.frontEnd = true → u.swDue n = true →
      (x.flag Reg.SW_STAT_LEVEL n = false ∨ u.flag Reg.SW_STAT_LEVEL n = true ∨ x.flag Reg.ACC_CFG_STARTEN = false ∨ x.rd Reg.ACC_CFG_STARTSW ≠ n →
        exec (.swSample dt n vin) s = .next x.done)
      ∧ (x.flag Reg.SW_STAT_LEVEL n = true → u.flag Reg.SW_STAT_LEVEL n = false → x.dieC = true → x.flag Reg.ACC_CFG_STARTEN = true →
        x.rd Reg.ACC_CFG_STARTSW = n → x.accBusy = false → exec (.swSample dt n vin) s = .next (x.searchStart 2 0).done))
    ∧ (u.stopWatch = true → (u.swStatic n v).2 = true → exec (.staticWake dt n v) s = .next ((u.swStatic n v).1.wakeBy 1).done)
    ∧ (u.stopWatch = true → (u.swPoll n vin).2 = true → exec (.pollWake dt n vin) s = .next ((u.swPoll n vin).1.wakeBy 1).done)
    ∧ (n < 16 → u.dieC = true → u.flag Reg.BAR_STAT_UP = true → 10000000 ≤ a.held →
      (u.flag Reg.II_CFG0_WBEN n = true → u.flag Reg.II_STAT_WIREBRK n = false →
      a.v < u.rd Reg.II_CFG1_WBTH n → exec (.wireBreak dt n a) s = .next (((((u.wr Reg.II_STAT_IIN n a.v).wrb Reg.II_STAT_WIREBRK n true).wr
        Reg.II_STAT_VALID n 0).modIi n fun x => { x with run := 0 }).raise 0x1282 (0x140 + n) (atByte 16 1 + atByte 18 (min 0xFFFF a.v))).done)
      ∧ (u.flag Reg.II_STAT_WIREBRK n = true → u.rd Reg.II_CFG1_WBTH n ≤ a.v → exec (.wireBreak dt n a) s =
        .next (((((u.wr Reg.II_STAT_IIN n a.v).wrb Reg.II_STAT_WIREBRK n false).wr
        Reg.II_STAT_VALID n 0).modIi n fun x => { x with run := 0 }).raise 0x1282 (0x140 + n) (atByte 16 0 + atByte 18 (min 0xFFFF a.v))).done))

/-- Once a command of an isolated output starts and nothing bars it, exec answers a next state: IO_OUT_ON of an output that is not on, over a live
barrier and with the field supply at 16 V or more, turns it on and waits for its outcome; of one that is on it completes DONE; IO_OUT_OFF turns
the output off and completes DONE; IO_CLEAR_FAULT of a latched output returns it to OFF, and it completes DONE; IO_DIAG_CHECK joins the checks
that wait for a measurement where no latch stands; IO_CONFIG writes its image. A current in limit (720 mA) for 1.8 ms latches an output that is
on; Tj of 175 degC takes it to THERM_WAIT, and 150 degC turns it on again; VFLD below 16 V cuts the outputs that are on or in THERM_WAIT and
raises VFLD_UV once, and a supply above 17 V ends that and lets the first output restart, the others following 1 ms apart. (R206, R207, R208,
R523, R524, R525, R526, R527) -/
def Obligations.IsolatedOutputRows : Prop :=
  ∀ (s : State) (dt : Ns) (c : Cmd) (n v : Nat) (m : Meas),
    let b := s.taken dt c
    let o := c.object
    let i := objNum o
    let u := s.tick dt
    (s.starts dt c 0x2002 [.io] = true → b.onBar o = none → b.st o ≠ 1 → b.flag Reg.BAR_STAT_UP = true → 1600 ≤ b.rd Reg.BAR_VFLD_VFLD →
      ∀ w : State, w = ((b.begin c).setSt o 1).wr Reg.IO_STAT_CAUSE i 0 →
      exec (.ioOutOn dt c) s = .next (w.modObj o fun x => { x with cmd := some c, target := 1, onAt := b.now }).done)
    ∧ (s.starts dt c 0x2002 [.io] = true → b.onBar o = none → b.st o = 1 → exec (.ioOutOn dt c) s = .next (b.complete c .done).done)
    ∧ (s.starts dt c 0x2001 [.io] = true → exec (.ioOutOff dt c) s = .next (((b.begin c).ioOff i).complete c .done).done)
    ∧ (s.starts dt c 0x2004 [.io] = true → (b.latched o = true → exec (.ioClearFault dt c) s =
        .next ((((((b.begin c).setSt o 0).wr Reg.IO_STAT_FAULT i 0).wr Reg.IO_STAT_CAUSE i 0).unverify o).complete c .done).done)
      ∧ (b.latched o = false → exec (.ioClearFault dt c) s = .next (b.complete c .done).done))
    ∧ (s.starts dt c 0x2005 [.io] = true → (b.commanded o).latched o = false →
      exec (.ioDiagCheck dt c) s = .next ((b.commanded o).modObj o fun z => { z with checks := z.checks ++ [(c, (b.commanded o).now)] }).done)
    ∧ (s.starts dt c 0x3001 [.io] = true →
      exec (.ioConfig dt c) s = .next (((b.begin c).putImage c 0x12 (imagePuts c 0x12 (0x400 + 0x10 * i) 1)).complete c .done).done)
    ∧ (n < 8 → u.dieC = true → u.st (ioObj n) = 1 → 720 ≤ m.i → 1800000 ≤ min m.held (u.now - (u.obj (ioObj n)).onAt) →
      exec (.ioOvercurrent dt n m) s = .next ((u.ioMeasure n m).ioTrip n .overcurrent 4).done)
    ∧ (n < 8 → u.dieC = true → u.st (ioObj n) = 1 → 225 ≤ m.tj → exec (.ioThermalTrip dt n m) s = .next ((u.ioMeasure n m).ioTrip n .thermal 2).done)
    ∧ (n < 8 → u.dieC = true → u.st (ioObj n) = 2 → m.tj ≤ 200 → exec (.ioThermalRestart dt n m) s = .next (u.ioRestart n).done)
    ∧ (u.dieC = true → v < 1600 → u.flag Reg.BAR_VFLD_VFLDUV = false → exec (.vfldUv dt v) s =
        .next (((List.range 8).foldl (fun s n => if s.st (ioObj n) = 1 ∨ s.st (ioObj n) = 2 then s.ioTrip n .uvCut 3 else s)
          ((u.wr Reg.BAR_VFLD_VFLD 0 v).wr Reg.BAR_VFLD_VFLDUV 0 1)).vfldEvent true).done)
    ∧ (∀ x w : State, u.dieC = true → 1700 < v → x = { u.wr Reg.BAR_VFLD_VFLD 0 v with inp := { u.inp with turnAt := u.now } } →
      (u.flag Reg.BAR_VFLD_VFLDUV = true ∧ w = (x.wr Reg.BAR_VFLD_VFLDUV 0 0).vfldEvent false
        ∨ u.flag Reg.BAR_VFLD_VFLDUV = false ∧ u.inp.turnAt + 1000000 ≤ u.now ∧ w = x) →
      exec (.vfldRestart dt v) s = .next (match (List.range 8).find? fun n => w.st (ioObj n) == 3 with | some n => w.ioRestart n | none => w).done)

/-- In a slot that is due while die C runs exec answers a next state: a good uplink frame, after the field side has counted its edges and read its
comparators, is taken with what it carries, and a bad one counts in BAR_ERR.UPBAD; a bad downlink frame carries no configuration, a good one
carries the input configuration and the count clears to the field side, and each completes the II_CONFIG commands that wait; a missing frame
counts as a bad one; the third bad frame in a row takes the barrier down, counts the loss, ends the outputs' commands with BARRIER_DOWN, turns the
outputs off with their cause, invalidates the inputs and raises BARRIER_LOST; a loss of the field supply clears what the field side holds and sets
CNTRST of the counting inputs. (R516, R517, R520, R521, R529, R530, R531, R532) -/
def Obligations.BarrierRows : Prop :=
  ∀ (s : State) (dt seq vfld : Nat) (vins iin rises falls : List Nat) (crc field : Bool),
    let u := s.tick dt
    (∀ v w : State, u.barDue u.inp.up = true → v = (u.fieldCount rises falls).fieldRead vins → v.dieC = true →
      w = ({ v with inp := { v.inp with up := (v.inp.up.take v.now (some (crc, seq))).1 } } : State) →
      ((v.inp.up.take v.now (some (crc, seq))).2 = true → exec (.barrierUplinkFrame dt crc seq vins iin rises falls vfld) s =
        .next ((w.upGood w.fieldRaw iin vfld).freshInputs).done)
      ∧ ((v.inp.up.take v.now (some (crc, seq))).2 = false → exec (.barrierUplinkFrame dt crc seq vins iin rises falls vfld) s =
        .next ((w.bump Reg.BAR_ERR_UPBAD 0).freshInputs).done))
    ∧ (u.dieC = true → u.barDue u.inp.dn = true → ∀ v w : State, v = (u.dnTake (some (crc, seq))).1 →
      w = (List.range 4).foldl (fun s n => if (s.ii n).clears.isEmpty then s
        else ({ s with inp := { s.inp with counts := tput s.inp.counts n 0 } } : State).modIi n fun x => { x with told := true }) v.fieldConfig →
      ((u.dnTake (some (crc, seq))).2 = false → exec (.barrierDownlinkFrame dt crc seq) s =
        .next (v.inp.configs.foldl (fun s c => s.complete c .done) ({ v with inp := { v.inp with configs := [] } } : State)).done)
      ∧ ((u.dnTake (some (crc, seq))).2 = true → exec (.barrierDownlinkFrame dt crc seq) s =
        .next (w.inp.configs.foldl (fun s c => s.complete c .done) ({ w with inp := { w.inp with configs := [] } } : State)).done))
    ∧ (u.dieC = true → u.barDue u.inp.up = true → exec (.barrierFrameMissing dt true) s =
        .next (({ u with inp := { u.inp with up := (u.inp.up.take u.now none).1 } } : State).bump Reg.BAR_ERR_UPBAD 0).done)
    ∧ (u.barDue u.inp.dn = true → exec (.barrierFrameMissing dt false) s = .next (u.dnTake none).1.done)
    ∧ (u.dieC = true → u.flag Reg.BAR_STAT_UP = true → (if field = true then u.inp.dn.bad else u.inp.up.bad) = 3 →
      ∃ v w t : State, v = ((u.wr Reg.BAR_STAT_UP 0 0).wr Reg.BAR_STAT_LOST 0 1).bump Reg.BAR_STAT_LOSSCNT 0
        ∧ w = ({ v with inp := { v.inp with lostAt := v.now, up := { v.inp.up with good := 0 } } } : State)
        ∧ t = (List.range 16).foldl (fun s n => (s.wr Reg.II_STAT_VALID n 0).modIi n fun x => { x with run := 0, frames := 0 })
            ((List.range 8).foldl (fun s n =>
              let s := (s.endCmds (ioObj n) .faulted 0x1208).endChecks (ioObj n) .faulted 0x1208
              let s := if s.st (ioObj n) = 0 ∨ s.st (ioObj n) = 4 then s else s.setSt (ioObj n) 0
              (s.wr Reg.IO_STAT_CAUSE n 4).modObj (ioObj n) fun x => { x with target := 0 }) w)
        ∧ exec (.barrierLoss dt field) s = .next (t.raiseTo 0x1283 0xFFFF (atByte 16 (b2n field)) (!u.flag Reg.BAR_STAT_LOST) (t.routes 0xFFFF)).done)
    ∧ (∀ v : State, v = ({ u with inp := { u.inp with counts := [], edges := [], field := [], dn := {}, dnBad := 0, restarted := true } } : State) →
      v.dieC = true → exec (.fieldPowerLoss dt) s = .next v.countsRestarted.done)

/-- Once a command of a CAN channel starts and nothing bars it, exec answers a next state: CAN_SEND puts its frame into the transmit queue, with the
length of its format (a length out of it is clamped), the bytes from the descriptor or, aligned and allowed, from the host buffer, and the padding
of a CAN FD length; ID_UNBLOCK frees the identifier in the collision table and completes DONE; RX_RELEASE inside the filled part moves HEAD of the
segment's receive queue, and past it is refused. While the channel runs: a received frame lowers the receive error count (one above 127 to between
119 and 127), counts, and is taken in, as is a frame of a LIN channel that its tables take; a sent frame leaves the bus, lowers the transmit error
count, counts, and completes a command's DONE, or moves the cycle of a reference message; a frame that lost arbitration goes back to the queue; an
error of a frame received raises the receive error count, counts and is recorded; a transmit error raises the transmit error count and offers the
frame again; 256 transmit errors take the channel bus-off and flush its queue with BUS_OFF, and after the recovery time the counts are cleared; a
latched CANCEL of a queued frame removes it; a reference message that is due joins the queue. (R547, R549, R551, R555, R556, R557, R563, R565,
R566, R567, R572, R573) -/
def Obligations.CanCommandsAndFrames : Prop :=
  ∀ (s : State) (dt : Ns) (c : Cmd) (rcd : List Byte) (n lag tdc type pos more : Nat) (f : Frame) (x : OnBus) (d : Cmd) (past ex : Bool) (fl : InFlight),
    let b := s.taken dt c
    let i := objNum c.object
    let u := s.tick dt
    let id := c.arg 16 4
    let fmt := c.arg 20 1 % 4
    let l0 := c.arg 22 2
    let len := if fmt = 3 then clampNat 1 2048 l0 else if fmt = 0 then min 8 l0 else min 64 l0
    let hdr := if fmt = 3 then 8 else 0
    let full := if fmt = 1 ∨ fmt = 2 then fdLen len else len
    let frame := fun raw : List Byte => ({ id, fmt, hdr := (List.range hdr).map fun k => rcd.getD k 0 % 256
                                           data := if bits id 30 1 = 1 then List.replicate full 0 else raw ++ List.replicate (full - len) 0xCC } : Frame)
    let w := b.descClamp c (clampWin c.object) 22 0 16 l0 len
    (s.starts dt c 0x4001 [.can] = true → firstBar (b.canSendBars i id fmt) = none →
      (c.argBits 21 0 1 = 1 → exec (.canSend dt c rcd) s = .next (w.canPush i { ord := 0, frm := .cmd c, body := .bus (frame ((List.range len).map
        fun k => if k < 8 then c.arg (24 + k) 1 else Config.inlineTail k % 256)) }).done)
      ∧ (c.argBits 21 0 1 ≠ 1 → c.arg 24 8 % 8 = 0 → (w.dma c.pf (c.arg 24 8) (hdr + len)).2 = true → exec (.canSend dt c rcd) s =
        .next ((w.dma c.pf (c.arg 24 8) (hdr + len)).1.canPush i
          { ord := 0, frm := .cmd c, body := .bus (frame ((List.range len).map fun k => rcd.getD (hdr + k) 0 % 256)) }).done))
    ∧ (s.starts dt c 0x2011 [.can] = true → exec (.idUnblock dt c) s = .next (((b.begin c).modCan i fun x =>
        { x with coll := onColl x.coll (c.arg 16 4) fun e => { e with blocked := false, count := 0 } }).complete c .done).done)
    ∧ (∀ g, g = objSeg c.object → s.starts dt c 0x2010 [.can, .lin, .eth] = true →
      ((c.arg 16 2 + 65536 - b.rd Reg.RXQ_IDX_HEAD g) % 65536 ≤ (b.rd Reg.RXQ_IDX_TAIL g + 65536 - b.rd Reg.RXQ_IDX_HEAD g) % 65536 →
        ∀ w : State, w = (b.begin c).wr Reg.RXQ_IDX_HEAD g (c.arg 16 2) → exec (.rxRelease dt c) s =
          .next ((if w.rxUsed g < w.rxSize g then w.modRxq g fun q => { q with full := false } else w).complete c .done).done)
      ∧ ((b.rd Reg.RXQ_IDX_TAIL g + 65536 - b.rd Reg.RXQ_IDX_HEAD g) % 65536 < (c.arg 16 2 + 65536 - b.rd Reg.RXQ_IDX_HEAD g) % 65536 →
        exec (.rxRelease dt c) s = .next (b.complete c .refusedPolicy (objWin c.object * 256 + 6)).done))
    ∧ (n < 16 → u.canRuns n = true → u.nmSt n ≠ 4 → u.rd Reg.CAN_XCVR_MODE n ≠ 0 → u.rd Reg.CAN_XCVR_MODE n ≠ 1 → f.fmt ≤ 3 →
      ∀ v w : State, w = (u.lineSeen n).modCan n (fun x => { x with
        rec_ := if x.rec_ = 0 then 0 else if x.rec_ ≤ 127 then x.rec_ - 1 else clampNat 119 127 (Config.recAfter x.rec_) }) →
      v = ((w.bump Reg.CAN_TXRX_RXOK n).canCount n 1).canShow n (w.canActive n) →
      exec (.canFrameReceived dt n f lag) s =
        .next ((v.tmHeard n f).ingest n f ⟨u.now - lag, (u.ntime + 2 ^ 64 - lag % 2 ^ 64) % 2 ^ 64⟩).done)
    ∧ (n < 8 → u.buses = true → u.flag Reg.LIN_CFG_EN n = true → f.fmt = 4 → f.id % 64 ≠ 0x3C ∨ u.flag Reg.LIN_CFG_ROLE n = true →
      (u.lineSeen (16 + n)).linTakes n (f.id % 64) = true → exec (.canFrameReceived dt (16 + n) f lag) s =
        .next (((u.lineSeen (16 + n)).linCount n 2).ingest (16 + n) f ⟨u.now - lag, (u.ntime + 2 ^ 64 - lag % 2 ^ 64) % 2 ^ 64⟩).done)
    ∧ (n < 16 → u.canRuns n = true → (u.can n).bus = some x → x.frame = .bus f → f.fmt = 0 ∨ u.flag Reg.CAN_TDC_TDCEN n = false →
      ∀ v w : State, w = ((((u.modCan n fun y => { y with bus := none, tec := y.tec - 1, coll := onColl y.coll f.id fun e => { e with count := 0 } }).bump
        Reg.CAN_TXRX_TXOK n).canCount n 0).showTxq n).lineSeen n → v = ((w.canShow n (w.canActive n)).sentCount x.tx x.marked).storedDone x.tx →
      (x.tx.frm = .cmd d → exec (.canFrameSent dt n tdc) s = .next (v.complete d .done).done)
      ∧ (x.tx.frm = .ref → exec (.canFrameSent dt n tdc) s =
        .next ((v.wr Reg.TM_STAT_CYCLE n ((v.rd Reg.TM_STAT_CYCLE n + 1) % 64)).modCan n fun y => { y with tmSof := some x.sof }).done))
    ∧ ((u.can n).bus = some x → u.canRuns n = true → exec (.canArbitrationLost dt n) s = .next (u.canRetry n x).done)
    ∧ (∀ v, x.cancel = false → v = u.canRetry n x → v = ((u.modCan n fun y => { y with bus := none }).modCan n
        fun y => { y with queue := sortBy (fun a c => decide (a.ord ≤ c.ord)) (x.tx :: y.queue) }).showTxq n)
    ∧ (∀ tx v, u.canRuns n = true → v = ((((((u.lineSeen n).modCan n fun x => { x with
          tec := if tx then x.tec + (if ex then 0 else 8) + 8 * more else x.tec
          rec_ := if tx then x.rec_ else x.rec_ + 1 + 8 * more }).wr
        Reg.CAN_LASTERR_TYPE n type).wr Reg.CAN_LASTERR_TX n (b2n tx)).wr Reg.CAN_LASTERR_POS n pos).bump Reg.CAN_ERRCNT_ERRFR n).canCount n 2 →
      ∀ w : State, w = v.canShow n (v.canActive n) →
      ((w.can n).bus = none ∨ tx = false → exec (.canErrorFrame dt n type pos tx false ex more) s = .next w.done)
      ∧ ((w.can n).bus = some x → tx = true → exec (.canErrorFrame dt n type pos tx false ex more) s = .next (w.canRetry n x).done))
    ∧ (u.canRuns n = true → 256 ≤ (u.can n).tec → ∀ v : State, v = (u.canFlush n .faulted 0x1403).modCan n (fun x => { x with offAt := (u.canFlush n .faulted 0x1403).now }) →
      exec (.canBusOff dt n) s = .next ((((v.bump Reg.CAN_ERRCNT_BOCNT n).canCount n 3).wr Reg.CAN_STAT_RECOVERING n 1).canShow n 2).done)
    ∧ (n < 16 → u.buses = true → u.rd Reg.CAN_STAT_STATE n = 2 → (u.can n).offAt + 17600 * u.canBit n ≤ u.now → exec (.canBusOffRecovery dt n) s =
        .next (((u.wr Reg.CAN_STAT_RECOVERING n 0).modCan n fun x => { x with tec := 0, rec_ := 0 }).canShow n 0).done)
    ∧ (isKind .can c.object = true → u.flight c = some fl → fl.cancels ≠ [] → (u.can i).bus = none → exec (.canCancelLatch dt c) s =
        .next (((u.modCan i fun x => { x with queue := x.queue.filter fun t => !(match t.frm with | .cmd d => sameCmd c d | _ => false) }).showTxq i).complete
          c .cancelled).done)
    ∧ (∀ k, k = u.ntime / (u.rd Reg.TM_CFG_REFPER n * 100000) → u.tmSends n = true → (u.can n).tmLast < k →
      ∀ w : State, w = u.modCan n (fun x => { x with tmLast := k }) → (w.can n).bus = none → (w.can n).queue = [] → (w.can n).held < 32 →
      exec (.tmReferenceDue dt n past) s = .next (w.canPush n { ord := 0, frm := .ref, body := .bus { id := w.tmId n, fmt := 0 } }).done)

/-- Once a LIN command starts on an enabled channel whose role it fits, exec answers a next state: LIN_PUBLISH outside the sleep agreement stores the
response with its checksum kind and its time (a length out of 1 to 8 is clamped), and completes DONE; LIN_SCHED asks for its table, or for the end
of the schedule, in place of an earlier request, and completes DONE where no schedule runs that it could end; LIN_SLEEP and LIN_WAKE wait for
their frame. While die C serves and the reference is present: at the end of a slot a requested table starts with its first slot, a requested end
ends the schedule, and a table that runs goes on with its next slot, whose header is sent; a header received by a responder counts, an error of it
is counted and reported, and one of its own slots is answered. (R579, R580, R581, R582, R583, R584, R585, R586) -/
def Obligations.LinRows : Prop :=
  ∀ (s : State) (dt : Ns) (c : Cmd) (n id k t : Nat) (e : Nat),
    let b := s.taken dt c
    let i := objNum c.object
    let u := s.tick dt
    let len := clampNat 1 8 (c.arg 17 1)
    let v := (u.linCount n 0).lineSeen (16 + n)
    (s.starts dt c 0x4001 [.lin] = true → b.linOff i = none → b.nmQuiet (16 + i) = false →
      ∀ w : State, w = b.descClamp c 0x18 17 0 8 (c.arg 17 1) len →
      exec (.linPublish dt c) s = .next (((w.begin c).setResp i (c.arg 16 1 % 64) {
        data := leBytes len (c.arg 24 8),
        cks := c.argBits 18 0 1 == 1, ends := w.now + c.arg 20 2 * 1000000, once := c.arg 20 2 == 0 }).complete c .done).done)
    ∧ (s.starts dt c 0x2012 [.lin] = true → b.linOff i = none → b.linNotCom i = none →
      (c.argBits 16 1 1 = 0 ∨ b.rd Reg.LIN_STAT_STATE i = 2 →
        exec (.linSched dt c) s = .next ((b.begin c).schedReq i (c.argBits 16 0 1) (c.argBits 16 1 1 == 1) c).done)
      ∧ (c.argBits 16 1 1 = 1 → b.rd Reg.LIN_STAT_STATE i ≠ 2 → exec (.linSched dt c) s = .next (b.complete c .done).done))
    ∧ (s.starts dt c 0x2013 [.lin] = true → b.linOff i = none → b.linNotCom i = none →
      exec (.linSleep dt c) s = .next (((b.begin c).linOp i).modLin i fun x => { x with sleeps := x.sleeps ++ [c] }).done)
    ∧ (s.starts dt c 0x2014 [.lin] = true → b.linOff i = none →
      exec (.linWake dt c) s = .next (((b.begin c).linOp i).modLin i fun x => { x with wakes := x.wakes ++ [c] }).done)
    ∧ (n < 8 → u.buses = true → u.flag Reg.LIN_CFG_EN n = true → u.flag Reg.LIN_CFG_ROLE n = true → u.nmQuiet (16 + n) = false →
      (u.rd Reg.LIN_STAT_STATE n = 2 → (u.lin n).slotAt ≤ u.now → (u.lin n).req = none →
        u.nextSlot n (u.rd Reg.LIN_STAT_TABLE n) 70 (u.rd Reg.LIN_STAT_SLOT n + 1) false = some k →
        exec (.linSlot dt n none) s = .next (u.sendHeader n (u.rd Reg.LIN_STAT_TABLE n) k).done)
      ∧ (∀ w : State, u.rd Reg.LIN_STAT_STATE n ≠ 2 ∨ (u.lin n).slotAt ≤ u.now → (u.lin n).req = some (t, false, c) →
        w = u.modLin n (fun x => { x with req := none, changed := u.ntime }) → w.nextSlot n t 70 0 true = some k →
        exec (.linSlot dt n none) s = .next ((w.sendHeader n t k).complete c .done).done)
      ∧ (u.rd Reg.LIN_STAT_STATE n = 2 → (u.lin n).slotAt ≤ u.now → (u.lin n).req = some (t, true, c) → exec (.linSlot dt n none) s =
        .next (((((u.wr Reg.LIN_STAT_STATE n 1).modLin n fun x => { x with changed := (u.wr Reg.LIN_STAT_STATE n 1).ntime }).modLin n fun x => { x with req := none }).complete c .done)).done))
    ∧ (n < 8 → u.buses = true → u.flag Reg.LIN_CFG_EN n = true → u.flag Reg.LIN_CFG_ROLE n = false → u.nmSt (16 + n) ≠ 4 →
      exec (.linHeaderReceived dt n id (some e)) s = .next (v.linError n (id % 64) e).done
      ∧ (v.rd Reg.LIN_SLOT_TYPE (64 * n + id % 64) = 1 → v.nmQuiet (16 + n) = false →
        exec (.linHeaderReceived dt n id none) s = .next (v.linRespond n (id % 64) 0).done))

/-- While die C serves and the reference is present, exec answers a next state for an enabled port with link that does not sleep: a frame with a bad
FCS, one longer than MAXFRM, and one without frame memory are dropped and counted each in its own count; a good frame of an unknown identity
counts, is learned, goes to the host where it is addressed to the host, and is bridged; one of a known identity is handled by its entry, and goes
to the host where that entry lets it; a start of a frame on CAN or of a preamble on Ethernet starts the next frame of the segment; a frame that
has left clears the line, counts and frees its copy; an ETH_SEND within the size and with a free place is stored and joins its port's queue where
its frame has no entry, and is policed by its entry and sent as the entry says where it has one; a gate change applies the gates of the cycle's
position; addresses not seen for AGE are forgotten; a link that changes is stored, counted and raised as LINK_STATE. (R592, R593, R596, R599,
R600, R612, R638, R641, R645) -/
def Obligations.EthernetRows : Prop :=
  ∀ (s : State) (dt : Ns) (c : Cmd) (rcd : List Byte) (p g lag sqi sn e : Nat) (bs : List Byte) (x : OnBus) (f : EthFrame) (up : Bool),
    let b := s.taken dt c
    let i := objNum c.object
    let u := s.tick dt
    let t : Stamp := ⟨u.now - lag, (u.ntime + 2 ^ 64 - lag % 2 ^ 64) % 2 ^ 64⟩
    let y := u.lineSeen (24 + p)
    let len := c.arg 24 2
    (p < 10 → u.buses = true → u.flag Reg.ETH_PCFG_EN p = true → u.flag Reg.ETH_STAT_LINK p = true → u.nmSt (24 + p) ≠ 4 →
      exec (.ethFrameReceived dt p false bs lag) s = .next (y.bump Reg.ETH_DROP_BADFCS p).done
      ∧ (y.rd Reg.ETH_PCFG_MAXFRM p < bs.length + 4 → exec (.ethFrameReceived dt p true bs lag) s = .next (y.bump Reg.ETH_DROP_TOOLONG p).done)
      ∧ (bs.length + 4 ≤ y.rd Reg.ETH_PCFG_MAXFRM p → 60 ≤ bs.length →
        (y.cellsFor (24 + p) (cells (y.rd Reg.ETH_PCFG_MAXFRM p)) = none →
          exec (.ethFrameReceived dt p true bs lag) s = .next (y.bump Reg.ETH_DROP_NOMEM p).done)
        ∧ ((y.cellsFor (24 + p) (cells (y.rd Reg.ETH_PCFG_MAXFRM p))).isSome = true → f = parseEth bs →
          ∀ (v w : State) (host : Bool), v = y.bump Reg.ETH_TRAF_RXFR p →
          w = (v.modPort p fun x => { x with counts := bumpT x.counts 0 }).learn p (v.tciOf (24 + p) f % 4096) f.sa →
          host = (f.da == w.hostMac || f.da == broadcast || w.flag Reg.RXQ_CFG_ALL (24 + p)) →
          (w.lookup (0x20 + p) (w.keysOf (24 + p) (.eth f)) = none → exec (.ethFrameReceived dt p true bs lag) s =
            .next ((if host then w.rxPlace (24 + p) 0 5 0 bs.length t.time bs else w).bridgeEth p f).done)
          ∧ (w.lookup (0x20 + p) (w.keysOf (24 + p) (.eth f)) = some e → exec (.ethFrameReceived dt p true bs lag) s =
            .next (if (w.ethMatched e p f t).2 && (host || (w.ethMatched e p f t).1.fitBits e 2 5 1 == 1) then
              (w.ethMatched e p f t).1.rxPlace (24 + p) 0 5 0 bs.length t.time bs else (w.ethMatched e p f t).1).done))))
    ∧ (g < 16 → exec (.frameEgressStart dt g) s = .next (u.canSof g).done)
    ∧ (24 ≤ g → g < 34 → exec (.frameEgressStart dt g) s = .next (u.ethStart (g - 24)).done)
    ∧ ((u.port p).line = some x → exec (.ethFrameSent dt p) s =
        .next (((u.modPort p fun y => { y with line := none, counts := bumpT y.counts 1 }).bump Reg.ETH_TRAF_TXFR p).storedDone x.tx).done)
    ∧ (∀ v w : State, s.starts dt c 0x4001 [.eth] = true → len ≤ b.rd Reg.ETH_PCFG_MAXFRM i - 4 → b.nmQuiet (24 + i) = false →
      b.flag Reg.ETH_STAT_LINK i = true → b.hostFrames i < 64 → c.arg 16 8 % 8 = 0 → b.dma c.pf (c.arg 16 8) (8 + len) = (v, true) →
      ∀ (q : Nat) (ts : Stamp), q = ofLe ((List.range 8).map fun k => rcd.getD k 0 % 256) →
      ts = (if q = 0 then ⟨v.now, v.ntime⟩ else ⟨v.now - (v.ntime - q), q⟩) →
      f = parseEth ((List.range (max 60 len)).map fun k => if k < len then rcd.getD (8 + k) 0 % 256 else 0) →
      (v.lookup hostIngress (v.keysOf 34 (.eth f)) = none → v.storeFrame hostClient f.len f.len 1 (some c) = (w, some sn) →
        ∀ z, z = w.portPush i
          { ord := 0, frm := .cmd c, body := .eth f, stamp := some ts, limit := if q = 0 then none else some (c.arg 28 2 * 100000), tc := c.argBits 26 0 3, sn } f.len →
        exec (.ethSend dt c rcd) s = .next (if z.2 then z.1 else z.1.complete c .done).done)
      ∧ (v.lookup hostIngress (v.keysOf 34 (.eth f)) = some e → ∀ m, m = (v.noteMatch e).meter e →
        (m.2 = false → exec (.ethSend dt c rcd) s = .next (m.1.complete c .done).done)
        ∧ (m.2 = true → ∀ z, z = (m.1.wakeRoles e 34 0).sample e { body := .eth f, stamp := ts } → exec (.ethSend dt c rcd) s =
          .next (if z.fitPeriod e = 0 then z.sendValue e hostClient 0 (.eth f) (some ts) (some c) else (z.begin c).complete c .done).done)))
    ∧ (p < 10 → u.dieC = true → u.flag Reg.QBV_CFG_EN p = true → exec (.qbvGateChange dt p) s =
        .next (u.modPort p fun x => { x with gates := gatesAt (u.gateCycle p) (u.gatePos p) }).done)
    ∧ (∀ l, l = u.net.macs.filter (fun x => decide (u.now < x.at_ + u.rd Reg.ETH_GCFG_AGE * 1000000000)) →
      exec (.macAging dt) s = .next ({ u with net := { u.net with macs := l } } : State).done)
    ∧ (p < 10 → u.buses = true → u.flag Reg.ETH_PCFG_EN p = true → u.flag Reg.ETH_STAT_LINK p ≠ up →
      ∀ v w : State, v = ((u.wrb Reg.ETH_STAT_LINK p up).wr Reg.ETH_STAT_SQI p (min 7 sqi)).bump Reg.ETH_STAT_LINKCHG p →
      w = (v.modPort p fun x => { x with changed := v.ntime }).raise 0x1981 (0x220 + p) (atByte 16 (b2n up) + atByte 17 (min 7 sqi)) →
      (up = false ∨ w.nmSt (24 + p) ≠ 1 → exec (.linkState dt p up sqi) s = .next w.done)
      ∧ (up = true → w.nmSt (24 + p) = 1 → exec (.linkState dt p up sqi) s = .next (w.needsDone (24 + p)).done))

/-- For an enabled entry of a running die C exec answers a next state: at a multiple of its period the entry's value, or what a publishing entry
publishes, is sent and the multiple noted; a value whose age has passed DEADLINE, or that has none, enters the watchdog list once and raises
FRESH_LOST where EVEN is set; a path of an RTAG stream that stays silent for LATENT after its last frame (or the stream's start) while the other
delivers is marked and raises PATH_SILENT once. (R613, R630, R634, R636) -/
def Obligations.FreshnessRows : Prop :=
  ∀ (s : State) (dt e p : Nat) (v : Value) (b : Body) (t0 t2 : Ns),
    let u := s.tick dt
    let per := u.fitPeriod e * 1000000
    let off := e * 10000
    let lat := u.rd Reg.CB_CFG_LATENT * 1000000
    let x := u.fit e
    (∀ w : State, u.dieC = true → u.fitBits e 0 4 1 = 1 → per ≠ 0 → off ≤ u.ntime → x.sent < (u.ntime - off) / per * per + off →
      w = u.modFit e (fun x => { x with sent := (u.ntime - off) / per * per + off }) →
      (w.fitKind e ≠ 5 → (w.fit e).value = some v → ∀ g, g = w.fitBits e 1 0 8 → exec (.fitPeriodicSend dt e) s =
        .next (w.sendValue e (if g < 24 then g else if 0x20 ≤ g ∧ g < 0x2A then g - 8 else if g = 0x2F then 24 else hostClient) v.bus v.body (w.entryStamp e) none).done)
      ∧ (w.fitKind e = 5 → b = .bus { id := 0, fmt := 0, data := w.published e } →
        ∀ t, t = (if w.srcFld e = 0 ∨ w.srcFld e = 3 then w.entryStamp e else w.srcStamp e) → exec (.fitPeriodicSend dt e) s =
          .next ((match t with | some a => w.sample e { body := b, stamp := a } | none => w).sendValue e hostClient 0 b t none).done))
    ∧ (u.dieC = true → u.fitBits e 0 4 1 = 1 → e ∉ u.net.wd → (∀ x, u.entryStamp e = some x → x.at_ + u.fitDeadline e < u.now) →
      ∀ w : State, w = { u with net := { u.net with wd := e :: u.net.wd } } →
      (w.fitEven e = false → exec (.freshLost dt e) s = .next w.done)
      ∧ (w.fitEven e = true → exec (.freshLost dt e) s = .next (w.raise 0x1A81 0xFFFF (atByte 16 e + atByte 24 (match u.entryStamp e with
          | some x => x.time
          | none => match (w.fit e).value with | some v => v.stamp.time | none => 2 ^ 64 - 1))).done))
    ∧ (p < 2 → u.dieC = true → u.fitRtag e = true → (if p = 0 then x.lastE.2 else x.lastE.1) = some t2 →
      t0 = (match (if p = 0 then x.lastE.1 else x.lastE.2) with | some t => t | none => x.startAt) → t0 < t2 → u.now < t2 + lat → t0 + lat ≤ u.now →
      (if p = 0 then x.silent.1 else x.silent.2) = false → exec (.pathSilent dt e p) s =
        .next ((u.modFit e fun y => { y with silent := if p = 0 then (true, y.silent.2) else (y.silent.1, true) }).raise 0x1988 (0x220 + p) (atByte 16 e)).done)

/-- As a gPTP follower with die C serving and the reference present, exec answers a next state: a Sync whose offset exceeds 1 us steps network time by
it, counts the step, raises TIME_STEP and restarts the count of good Syncs; a Sync of at most 100 ns slews the time by at most 1 us and counts as
good, and the eighth good one in a row gives LOCKED and a valid time (how much of a small offset one Sync corrects is Config's free value); after
three intervals without a Sync an acquiring or locked clock goes to HOLDOVER and raises GPTP_STATE. As a grandmaster with a valid time, a Sync
interval puts a Sync frame into the queues of its ports. (R622, R624, R625, R626) -/
def Obligations.GptpRows : Prop :=
  ∀ (s : State) (dt ofs : Nat),
    let u := s.tick dt
    let o := sgn 64 ofs
    let v := u.wr Reg.GPTP_OFS 0 (unsgn 32 (clampInt (-2147483648) 2147483647 o))
    (u.buses = true → u.rd Reg.GPTP_CFG_ROLE = 2 → 1000 < o.natAbs →
      ∀ w : State, w = ({ v.bump Reg.GPTP_STAT_STEPS 0 with ntime := unsgn 64 ((v.ntime : Int) - o) } : State).timeJump.raise 0x198A 0xFFFF (atByte 24 (unsgn 64 (-o))) →
      exec (.gptpSync dt ofs) s = .next ({ w with net := { w.net with syncOk := 0, syncAt := w.now } } : State).done)
    ∧ (u.buses = true → u.rd Reg.GPTP_CFG_ROLE = 2 → o.natAbs ≤ 100 →
      ∀ w : State, w = ({ v with
          ntime := unsgn 64 ((v.ntime : Int) - clampInt (-1000) 1000 (Config.slew o)),
          net := { v.net with syncOk := min 8 (v.net.syncOk + 1), syncAt := v.now } } : State) →
      (v.net.syncOk < 7 → exec (.gptpSync dt ofs) s = .next w.done)
      ∧ (7 ≤ v.net.syncOk → exec (.gptpSync dt ofs) s = .next ({ w.gptpTo 2 with pwr := { w.pwr with timeSet := true } } : State).done))
    ∧ (u.dieC = true → u.rd Reg.GPTP_CFG_ROLE = 2 → u.rd Reg.GPTP_STAT_STATE = 1 ∨ u.rd Reg.GPTP_STAT_STATE = 2 → u.net.syncAt + 3 * u.syncNs ≤ u.now →
      ∀ w : State, w = ({ u.gptpTo 3 with net := { u.net with syncOk := 0 } } : State) →
      exec (.gptpHoldover dt) s = .next (w.raise 0x1989 0xFFFF (atByte 16 3 + atByte 20 (w.rd Reg.GPTP_OFS))).done)
    ∧ (u.buses = true → u.rd Reg.GPTP_CFG_ROLE = 1 → u.pwr.timeSet = true → u.net.syncAt + u.syncNs ≤ u.now →
      ∀ w : State, w = ({ u with net := { u.net with syncAt := u.now } } : State) → exec (.gptpSyncSend dt) s =
        .next ((List.range 10).foldl (fun s p =>
          if bit (s.rd Reg.GPTP_CFG_PORTS) p && s.flag Reg.ETH_PCFG_EN p && !s.nmQuiet (24 + p) then
            let f : EthFrame := { da := [0x01, 0x80, 0xC2, 0, 0, 0x0E], sa := s.hostMac, type := 0x88F7, body := [0x10, 0x02] }
            (s.portPush p { ord := 0, frm := .sync, body := .eth f, tc := 7 } f.len).1
          else s) w).done)

/-- On a live segment whose sleep agreement runs, exec answers a next state: NM_NEED sets HOSTNEED, ends a hold, joins the waiting needs and raises
the need, and completes where its outcome stands already; NM_RELEASE ends the host's hold and completes DONE; a due keepalive is sent; TKA takes
READY to PREP and starts TPREP, which takes PREP to SLEEP; the end of a hold releases the host's need and the end of a forwarding hold takes
FWDNEED away; after 97 % of TFSIDLE of silence an unanswered failsafe request is noted, one answered in PREP sends the segment to sleep and
reports it, and one answered in NORMAL or READY starts the idle time anew; a request that stays unanswered for TFS counts, forces SLEEP and
reports it; each STUCKT in READY or PREP reports the keeper with its count and its time; 4 s of silence put a LIN responder to sleep. A sign on a
sleeping segment's bus that its detector takes wakes it. (R648, R650, R653, R654, R659, R661, R663, R664, R666, R674, R675) -/
def Obligations.NetworkSleepRows : Prop :=
  ∀ (s : State) (dt : Ns) (c : Cmd) (g n k : Nat) (t : Ns) (sign : BusSign),
    let b := s.taken dt c
    let i := objSeg c.object
    let u := s.tick dt
    let down := fun (s : State) => if 16 ≤ g ∧ g < 24 then s.linSleep (g - 16) else s.nmTo g 4
    (s.starts dt c 0x2015 [.can, .lin, .eth] = true → b.nmOffBar i = none →
      ∀ v : State, v = ((((b.begin c).wr Reg.NM_STAT_HOSTNEED i 1).modSeg i fun x => { x with holdAt := none, needs := x.needs ++ [c] }).nmNeed i) →
      exec (.nmNeed dt c) s = .next (if v.needMet i (b.nmSt i != 4) = true then v.needsDone i else v).done)
    ∧ (s.starts dt c 0x2016 [.can, .lin, .eth] = true → b.nmOffBar i = none →
      exec (.nmRelease dt c) s = .next (((b.begin c).hostRelease i).complete c .done).done)
    ∧ (u.segLive g = true → u.nmSt g = 1 → g < 16 ∨ 24 ≤ g → (u.seg g).kaAt ≤ u.now → exec (.keepaliveSend dt g) s = .next (u.kaSend g).done)
    ∧ (u.segLive g = true → u.nmSt g = 2 → g < 16 ∨ 24 ≤ g → (u.seg g).tkaAt ≤ u.now → exec (.tkaExpiry dt g) s =
        .next ((u.nmTo g 3).modSeg g fun x => { x with prepAt := u.now + u.rd Reg.NM_TIME_TPREP g * 10000000 }).done)
    ∧ (u.segLive g = true → u.nmSt g = 3 → (u.seg g).prepAt ≤ u.now → exec (.tprepExpiry dt g) s = .next (u.nmTo g 4).done)
    ∧ (u.segLive g = true → u.flag Reg.NM_STAT_HOSTNEED g = true → (u.seg g).holdAt = some t → t ≤ u.now →
      exec (.needHoldEnd dt g) s = .next (u.hostRelease g).done)
    ∧ (u.segLive g = true → u.flag Reg.NM_STAT_FWDNEED g = true → (u.seg g).fwdAt ≤ u.now → u.relHold g = false →
      exec (.fwdHoldEnd dt g) s = .next ((u.wr Reg.NM_STAT_FWDNEED g 0).nmLeave g).done)
    ∧ (u.segLive g = true → max (u.seg g).busAt (u.seg g).idleAt + u.rd Reg.NM_GCFG_TFSIDLE * 97000000 ≤ u.now →
      (u.nmSt g = 1 ∨ u.nmSt g = 2 ∨ u.nmSt g = 3 →
        exec (.failsafeSleepRequest dt g false) s = .next (u.modSeg g fun x => { x with fsAt := some u.now }).done)
      ∧ (u.nmSt g = 3 → exec (.failsafeSleepRequest dt g true) s = .next ((down u).failsafeEvent g 1).done)
      ∧ (u.nmSt g = 1 ∨ u.nmSt g = 2 → exec (.failsafeSleepRequest dt g true) s = .next (u.modSeg g fun x => { x with idleAt := u.now }).done))
    ∧ (u.segLive g = true → (u.seg g).fsAt = some t → t + u.rd Reg.NM_GCFG_TFS * 1000000 ≤ u.now →
      exec (.failsafeTimeout dt g) s = .next ((down ((u.bump Reg.NM_CNT_FSCNT g).modSeg g fun x => { x with fsAt := none })).failsafeEvent g 0).done)
    ∧ (∀ per q, per = u.rd Reg.NM_GCFG_STUCKT * 1000000000 → u.segLive g = true → per ≠ 0 → u.nmSt g = 2 ∨ u.nmSt g = 3 → (u.seg g).stuckAt + per ≤ u.now →
      ∀ v : State, v = (u.charge g).modSeg g (fun x => { x with stuckAt := x.stuckAt + per }) → q = v.rd Reg.NM_STAT_KEEPER g →
      ∀ r, r = (match (v.seg g).nodes.find? fun p => p.2.nid == q with | some p => p.2 | none => { nid := q }) → exec (.nmKeeper dt g) s =
        .next (v.raise 0x1C83 (segObj g) (atByte 16 g + atByte 17 q + atByte 18 r.kacnt + atByte 20 (min (r.kept / 100000000) (2 ^ 32 - 1)))).done)
    ∧ (n < 8 → u.dieC = true → u.flag Reg.LIN_CFG_EN n = true → u.flag Reg.LIN_CFG_ROLE n = false → u.rd Reg.LIN_STAT_STATE n ≠ 3 →
      u.nmSt (16 + n) ≠ 1 → (u.seg (16 + n)).busAt + 4000000000 ≤ u.now → exec (.linSilenceSleep dt n) s = .next (u.linSleep n).done)
    ∧ (u.detects g = true → (u.senses g sign).1 = some k → exec (.segmentWake dt g sign) s =
        .next ((u.modSeg g fun x => { x with swErr := (u.senses g sign).2 }).segWake g k).done)

/-- Exec answers a next state: TW_JOIN of a module that is a running Lead or Shadow completes DONE, of one in OFF starts its claim and waits, and of
any other waits, which 100 ms of waiting refuse with 1D05h; TW_PART of a module in OFF completes DONE and of any other leaves the pair; a claim
that ends with PAIR_ROLE of the partner released makes the module LEAD_ALONE when it meets no rival on a link that is up, and leaves it so or
makes it join by the preference and the serial numbers when it meets one; PAIR_ROLE of the partner in CLAIM makes the module join; PAIR_OK with
the link up takes LEAD_ALONE to LEAD; a due heartbeat is sent; a lost heartbeat of a Lead makes it LEAD_ALONE, or LINK_LOST while PAIR_OK stands,
one of a Shadow makes it take over where PAIR_ROLE is released and otherwise lets it lose the link, and one from a partner that parted leaves the
pair; PAIR_ROLE released in LINK_LOST makes the Shadow take over, and in CLAIM starts the claim delay afresh; a restored heartbeat takes a
LINK_LOST Shadow back to joining and a Lead to LEAD_ALONE; a REED lane is lost and locked; and an agent that its core has not refreshed for 100
us, or never started, leaves the pair. (R684, R686, R687, R689, R690, R704, R719, R725, R726, R741) -/
def Obligations.TwinPairing : Prop :=
  ∀ (s : State) (dt : Ns) (c : Cmd) (k det on : Nat) (same : List Nat) (rival : Option (Bool × Nat)) (role ok : Bool),
    let b := s.taken dt c
    let u := s.tick dt
    (s.starts dt c 0x2020 [.twin] = true → ∀ v : State, v = (b.begin c).wr Reg.TW_CFG_EN 0 1 →
      (v.twSt = 3 ∨ v.twSt = 4 → exec (.twJoin dt c) s = .next (v.complete c .done).done)
      ∧ ((v.tw fun t => { t with joins := t.joins ++ [(c, v.now)] }).twSt ≠ 0 → v.twSt ≠ 3 → v.twSt ≠ 4 →
        exec (.twJoin dt c) s = .next (v.tw fun t => { t with joins := t.joins ++ [(c, v.now)] }).done)
      ∧ ((v.tw fun t => { t with joins := t.joins ++ [(c, v.now)] }).twSt = 0 → v.twSt ≠ 3 → v.twSt ≠ 4 →
        exec (.twJoin dt c) s = .next (((v.tw fun t => { t with joins := t.joins ++ [(c, v.now)] }).tw fun t => { t with fromStop := false }).twClaim).done))
    ∧ (∀ t0, u.twin.joins = [(c, t0)] → t0 + 100000000 ≤ u.now → exec (.twJoinTimeout dt) s =
        .next ((u.tw fun t => { t with joins := [] }).complete c .refusedState 0x1D05).done)
    ∧ (s.starts dt c 0x2021 [.twin] = true → (b.begin c).twSt = 0 → exec (.twPart dt c) s = .next ((b.begin c).complete c .done).done)
    ∧ (s.starts dt c 0x2021 [.twin] = true → (b.begin c).twSt ≠ 0 → exec (.twPart dt c) s = .next ((b.begin c).twLeave.complete c .done).done)
    ∧ (u.twLive = true → u.twSt = 1 → u.twin.peerRole = false → u.twin.claimAt + u.claimDelay ≤ u.now →
      (rival = none ∨ u.twAlone.reedUp = false → exec (.claimDelayExpiry dt rival same) s = .next u.twAlone.done)
      ∧ (∀ p n, rival = some (p, n) → u.twAlone.reedUp = true → ((u.twAlone.flag Reg.TW_CFG_PREF && !p)
          || (u.twAlone.flag Reg.TW_CFG_PREF == p && decide (u.twAlone.nv.serial < n))) = true →
        exec (.claimDelayExpiry dt rival same) s = .next u.twAlone.done)
      ∧ (∀ p n, rival = some (p, n) → u.twAlone.reedUp = true → ((u.twAlone.flag Reg.TW_CFG_PREF && !p)
          || (u.twAlone.flag Reg.TW_CFG_PREF == p && decide (u.twAlone.nv.serial < n))) = false →
        exec (.claimDelayExpiry dt rival same) s =
          .next (((u.twAlone.drive false false).peerLines true u.twAlone.twin.peerOk).twJoining same).done))
    ∧ (u.dieC = true → (u.peerLines true u.twin.peerOk).twSt = 1 →
      exec (.pairRoleLow dt same det on) s = .next ((u.peerLines true u.twin.peerOk).twJoining same).done)
    ∧ (∀ v : State, u.dieC = true → (u.peerLines u.twin.peerRole true).reedUp = true →
      v = (u.peerLines u.twin.peerRole true).tw (fun t => { t with hbeat := true }) → v.twSt = 5 →
      exec (.pairOkLow dt) s = .next ((v.tw fun t => { t with cycleAt := v.now }).twTo 3 1).done)
    ∧ (u.twLive = true → u.twin.beats = true → u.twin.beatAt + 4900 ≤ u.now → ∀ v : State, v = u.reed (.heartbeat u.twRole u.twSt (u.twin.cycle % 65536)) →
      exec (.twHeartbeatSend dt) s = .next (v.tw fun t => { t with beatAt := u.now }).done)
    ∧ (∀ v : State, u.twLive = true → u.twSt = 3 ∨ u.twSt = 4 → v = (u.tw fun t => { t with hbeat := false }).peerLines role ok →
      exec (.twHeartbeatLoss dt role ok true det on) s = .next v.twLeave.done
      ∧ (v.twRole ≠ 2 → exec (.twHeartbeatLoss dt role ok false det on) s = .next ((v.twTo (if ok then 6 else 5) 1).allLost).done)
      ∧ (v.twRole = 2 → role = false → exec (.twHeartbeatLoss dt role ok false det on) s = .next (v.takeover det on).done)
      ∧ (v.twRole = 2 → role = true → exec (.twHeartbeatLoss dt role ok false det on) s =
          .next (if v.linkLostShadow.flag Reg.TW_STAT_OOBOK then v.linkLostShadow else v.linkLostShadow.peerSilent).done))
    ∧ (u.dieC = true → (u.peerLines false u.twin.peerOk).twSt = 6 → (u.peerLines false u.twin.peerOk).twRole = 2 →
      exec (.pairRoleReleased dt det on) s = .next ((u.peerLines false u.twin.peerOk).takeover det on).done)
    ∧ (u.dieC = true → u.twin.peerRole = true → (u.peerLines false u.twin.peerOk).twSt = 1 →
      exec (.pairRoleReleased dt det on) s =
        .next ((u.peerLines false u.twin.peerOk).tw fun t => { t with claimAt := (u.peerLines false u.twin.peerOk).now }).done)
    ∧ (u.reedUp = true → u.twSt = 6 → ∀ v : State, v = u.tw (fun t => { t with hbeat := true }) →
      (v.twRole = 2 → exec (.heartbeatRestored dt) s = .next (((v.tw fun t => { t with active := none }).drive false false).twTo 2 2).done)
      ∧ (v.twRole ≠ 2 → exec (.heartbeatRestored dt) s = .next (v.twTo 5 1).done))
    ∧ (u.dieC = true → k < 2 → exec (.reedLaneLoss dt k) s = .next (u.wr Reg.TW_STAT_LANES 0 (clrBit (u.rd Reg.TW_STAT_LANES) k)).done)
    ∧ (u.buses = true → k < 2 → exec (.reedLaneLock dt k) s = .next (u.wr Reg.TW_STAT_LANES 0 (setBit (u.rd Reg.TW_STAT_LANES) k)).done)
    ∧ (u.twLive = true → (∀ t0, u.core.twAt = some t0 → t0 + 100000 ≤ u.now) → exec (.twinRefreshTimeout dt) s = .next u.twLeave.done)

/-- Exec answers a next state: once a cycle is over, the Lead of a running pair, or of a swap that has not reached its handoff, counts the cycle and
sends its image; a Shadow whose link is not lost commits a whole image with a good CRC and a newer cycle, and counts any other as missed; a late
image counts and is reported; entries that have waited for 1 s leave the journal with 1D06h; a running Shadow applies a shared-drive message of a
paired object that is not in limp-home at once, and one that comes late counts and is reported too; a partner's lost channel is noted, and its
return on a channel that runs; an off-test window of this module, which is the half of 20 ms of network time that its role has, names the objects
of it that may test; the out-of-band heartbeat is sent on its segment, or in a frame of its Ethernet port; a received one sets OOBOK; three silent
periods clear OOBOK and let a Shadow that lost its link take its partner for silent; a line fault sets LINEFLT and its event, and a good read-back
notes the time it began. (R698, R699, R700, R701, R705, R708, R709, R716, R724, R728) -/
def Obligations.TwinMirror : Prop :=
  ∀ (s : State) (dt : Ns) (i : Image) (whole crc : Bool) (took us o cause p role serial k late : Nat) (d : DriveMsg) (back later first : Bool) (off : List Nat),
    let u := s.tick dt
    (u.twLive = true → u.twSt = 3 ∨ u.twSt = 7 → u.twRole = 1 → (∀ w, u.twin.swap = some w → w.phase ≤ 2) →
      u.twin.cycleAt + u.rd Reg.TW_CYC_CYCLE * 1000 ≤ u.now →
      ∀ v : State, v = u.tw (fun t => { t with cycle := t.cycle + 1, cycleAt := u.now }) →
      exec (.mirrorSnapshot dt) s = .next (v.reed (.image v.image (xferNs v.image.size v.reedRate))).done)
    ∧ (u.reedUp = true → u.twRole = 2 → u.twSt ≠ 6 → (∀ a, u.twin.active = some a → a.cycle < i.cycle) →
      exec (.imageReceived dt i true true took) s = .next (u.commitImage i took).done)
    ∧ (u.reedUp = true → u.twRole = 2 → u.twSt ≠ 6 →
      (whole = false ∨ crc = false ∨ ∃ a, u.twin.active = some a ∧ i.cycle ≤ a.cycle) →
      exec (.imageReceived dt i whole crc took) s = .next ((u.bump Reg.TW_AGE_MISS 0).twCount 4).done)
    ∧ (u.twLive = true → u.twRole = 2 → u.twSt = 2 ∨ u.twSt = 4 ∨ u.twSt = 7 → u.rd Reg.TW_CYC_CYCLE ≤ 2 * us → exec (.mirrorLate dt us) s =
        .next (((u.bump Reg.TW_AGE_MISS 0).twCount 3).raise 0x1D86 twObjId (atByte 16 (us % 2 ^ 32))).done)
    ∧ (u.dieC = true → ∀ due : JEntry → Bool, due = (fun e => decide (e.at_ + 1000000000 ≤ u.now)) → exec (.journalTimeout dt) s =
        .next (((u.journalEnd due .refusedState 0x1D06).bump Reg.TW_JRNL_NOTLEAD 0 (u.journalOrder.filter due).length).twCount 6
          (u.journalOrder.filter due).length).done)
    ∧ (recIx d.obj = some p → u.reedUp = true → u.twRole = 2 → u.twSt = 4 ∨ u.twSt = 7 → u.twMode p = 2 → u.inLimp p = false →
      ∀ v : State, v = u.startTarget d.obj (u.load d.obj).cls d.target false →
      exec (.driveMessage dt d 0) s = .next v.done
      ∧ (late ≠ 0 → exec (.driveMessage dt d late) s =
        .next ((v.twCount 5).raise 0x1D89 twObjId (atByte 16 d.obj + atByte 18 (min 0xFFFF late))).done))
    ∧ (recIx o = some p → u.twLive = true → u.twMode p = 2 → (back = false ∨ u.isOn o = true) →
      exec (.partnerLost dt o cause back) s = .next (u.setLost o cause (!back)).done)
    ∧ (u.twLive = true → ((first = true ∧ u.twRole = 1 ∧ u.epochNs % 20000000 < 10000000)
        ∨ (first = false ∧ u.twRole = 2 ∧ u.twin.active.isSome = true ∧ 10000000 ≤ u.epochNs % 20000000)) →
      ∀ l, l = ((u.pairs 0).map recObj).filter (fun o => u.st o == 0 && off.contains o) →
      exec (.offtestWindow dt first off) s =
        .next (({ u with out := { u.out with testWin := l } } : State).tw fun x => { x with windowAt := u.now + (10000000 - u.epochNs % 20000000 % 10000000) }).done)
    ∧ (u.twLive = true → u.twRole ≠ 0 → u.twin.oobSent + u.rd Reg.TW_CFG_OOBPER * 1000000 ≤ u.now →
      ∀ v : State, v = (u.tw fun t => { t with oobSent := u.now }).forwardWake (u.rd Reg.TW_CFG_OOBSEG) →
      (v.rd Reg.TW_CFG_OOBKIND ≠ 2 → v.canTakes (u.rd Reg.TW_CFG_OOBSEG) 0 = true →
        exec (.oobHeartbeatSend dt) s = .next (v.canPush (u.rd Reg.TW_CFG_OOBSEG) {
          ord := 0, frm := .oob, body := .bus { id := v.rd Reg.TW_OOBID_ID + v.rd Reg.TW_OOBID_IDE * 2 ^ 29, fmt := 0, data := v.oobBytes } }).done)
      ∧ (v.rd Reg.TW_CFG_OOBKIND = 2 → ∀ f : EthFrame, f = {
          da := leBytes 4 (v.rd Reg.TW_OOBID_ID + v.rd Reg.TW_OOBID_IDE * 2 ^ 29 + v.rd Reg.TW_OOBID_TOP * 2 ^ 30) ++ leBytes 2 (v.rd Reg.TW_OOBDA_HI),
          sa := v.hostMac, type := 0x88B5, body := List.replicate 8 0 ++ v.oobBytes ++ List.replicate 30 0 } →
        exec (.oobHeartbeatSend dt) s = .next (v.portPush (u.rd Reg.TW_CFG_OOBSEG - 24) {
          ord := 0, frm := .oob, body := .eth f, tc := bits (v.rd Reg.ETH_PCPMAP (u.rd Reg.TW_CFG_OOBSEG - 24)) 0 3 } f.len).1.done))
    ∧ (u.twLive = true → u.twRole ≠ 0 → role ≠ 1 → exec (.oobHeartbeatReceived dt role serial later) s =
        .next ((u.wr Reg.TW_STAT_OOBOK 0 1).tw fun t => { t with oobAt := u.now }).done)
    ∧ (u.twLive = true → u.flag Reg.TW_STAT_OOBOK = true → u.twin.oobAt + 3 * u.rd Reg.TW_CFG_OOBPER * 1000000 ≤ u.now →
      ∀ v : State, v = u.wr Reg.TW_STAT_OOBOK 0 0 →
      (v.twSt = 6 ∧ v.twRole = 2 → exec (.oobHeartbeatSilent dt) s = .next v.peerSilent.done)
      ∧ (¬ (v.twSt = 6 ∧ v.twRole = 2) → exec (.oobHeartbeatSilent dt) s = .next v.done))
    ∧ (u.dieC = true → k < 2 → (if k = 0 then u.twin.holdRole else u.twin.holdOk) = true →
      exec (.lineFault dt k true) s =
        .next ((u.tw fun t => { t with lineOkAt := none }).flagEvent Reg.TW_FLAGS_LINEFLT 0x1D88 (atByte 16 k)).done
      ∧ (u.twin.lineOkAt = none → exec (.lineFault dt k false) s = .next (u.tw fun t => { t with lineOkAt := some u.now }).done))

/-- Exec answers a next state: TW_SOLSTICE with pairing enabled and no swap or handover running asks for the swap; SINCE of 24 h asks for it by
itself, and SINCE that still stands at a retry after that raises 1D8Dh first; the ignition delay that has passed asks for it where IGNEN is set;
preconditions that hold now begin a waiting swap; 10 s of waiting refuse its command with 1D03h; proofs that all hold with no fault of a shared
object take the swap to the Final image phase, and a failed one ends it FAULTED with 1D10h; the Shadow's commit of an image snapped at or after
the start of that phase starts the handoff; PAIR_ROLE that the old Shadow asserts makes the old Lead the Shadow and PAIR_OK ends the swap on the
new Lead, each DONE unless it took more than 40 us to detect or 60 us to drive; a takeover that has not come 100 us after the handoff lets the old
Lead reclaim. (R728, R729, R730, R731, R732, R734, R735, R738) -/
def Obligations.TwinSwaps : Prop :=
  ∀ (s : State) (dt : Ns) (c : Cmd) (i : Image) (peer : Bool) (same : List Nat) (fail took t0 det on : Nat) (w : Swap),
    let b := s.taken dt c
    let u := s.tick dt
    (s.starts dt c 0x2022 [.twin] = true → b.flag Reg.TW_CFG_EN = true → b.twin.swap = none → b.twin.equinox = none →
      exec (.twSolstice dt c peer) s = .next (b.swapAsk [c] false peer).done)
    ∧ (u.twLive = true → 1440 ≤ u.sinceMin → u.twin.swap = none → u.twin.equinox = none → u.twin.retryAt = 0 →
      exec (.solsticeDue dt 1 peer) s = .next ((u.tw fun t => { t with retryAt := u.now + 600000000000 }).swapAsk [] true peer).done)
    ∧ (u.twLive = true → 1440 ≤ u.sinceMin → u.twin.swap = none → u.twin.equinox = none → u.twin.retryAt ≠ 0 → u.twin.retryAt ≤ u.now →
      ∀ v : State, v = u.raise 0x1D8D twObjId (atByte 16 (u.sinceMin / 60)) →
      exec (.solsticeDue dt 1 peer) s = .next ((v.tw fun t => { t with retryAt := v.now + 600000000000 }).swapAsk [] true peer).done)
    ∧ (u.twLive = true → u.flag Reg.TW_SOL_IGNEN = true → u.twin.swap = none → u.twin.equinox = none → u.twin.ignAt = some t0 →
      t0 + u.rd Reg.TW_SOL_IGNDLY * 1000000000 ≤ u.now →
      exec (.solsticeDue dt 0 peer) s = .next ((u.tw fun t => { t with ignAt := none }).swapAsk [] false peer).done)
    ∧ (u.twLive = true → u.swapWaits = some w → u.swapReady peer = true →
      exec (.solsticeDue dt 3 peer) s = .next (u.swapBegin w.cmds w.due).done)
    ∧ (u.swapWaits = some w → w.cmds = [c] → w.since + 10000000000 ≤ u.now → exec (.swapPrecondTimeout dt) s =
        .next ((u.tw fun t => { t with swap := none }).complete c .refusedState 0x1D03).done)
    ∧ (u.twin.swap = some w → u.twLive = true → w.phase = 1 → u.twSt = 7 → u.sharedBad = false →
      exec (.swapProveDone dt 0) s = .next ((u.tw fun t => { t with swap := some { w with phase := 2, finalAt := u.now } }).reed (.swap 1)).done)
    ∧ (u.twin.swap = some w → u.twLive = true → w.phase = 1 → u.twSt = 7 → fail ≠ 0 →
      exec (.swapProveDone dt fail) s = .next ((u.reed (.swap 2)).swapEnd .faulted 0x1D10 (min 3 fail) (if u.twRole = 1 then 3 else 4) u.twRole).done)
    ∧ (u.twin.swap = some w → u.twLive = true → w.phase = 1 → u.twSt = 7 → u.sharedBad = true →
      exec (.swapProveDone dt 0) s = .next ((u.reed (.swap 2)).swapEnd .faulted 0x1D10 3 (if u.twRole = 1 then 3 else 4) u.twRole).done)
    ∧ (u.reedUp = true → u.twSt = 7 → u.twRole = 1 → u.twin.swap = some w → w.phase = 2 → w.finalAt ≤ u.twin.cycleAt → i.cycle = u.twin.cycle →
      exec (.imageReceived dt i true true took) s = .next u.handoff.done)
    ∧ (u.dieC = true → ∀ v : State, v = u.peerLines true u.twin.peerOk → v.twSt = 7 → v.twRole = 1 → v.swapPhase = 3 →
      ∀ x : State, x = ((((v.wr Reg.TW_SOLSTAT_LASTDET 0 (min 255 det)).wr Reg.TW_SOLSTAT_LASTON 0 (min 255 on)).tw
        fun t => { t with beats := true, hbeat := true, active := none }).toStandby).drive false true →
      exec (.pairRoleLow dt same det on) s = .next (if 40 < det ∨ 60 < on then x.swapEnd .faulted 0x1D10 4 4 2 else x.swapEnd .done 0 0 4 2).done)
    ∧ (u.dieC = true → (u.peerLines u.twin.peerRole true).reedUp = true →
      ∀ v : State, v = (u.peerLines u.twin.peerRole true).tw (fun t => { t with hbeat := true }) → v.twSt = 7 → v.twRole = 1 → v.swapPhase = 4 →
      ∀ x : State, x = ((v.pairs 2).filter fun p => v.isOn (recObj p)).foldl (fun s p => s.setLost (recObj p) 0 false) v →
      exec (.pairOkLow dt) s =
        .next (if 40 < x.rd Reg.TW_SOLSTAT_LASTDET ∨ 60 < x.rd Reg.TW_SOLSTAT_LASTON then x.swapEnd .faulted 0x1D10 4 3 1 else x.swapEnd .done 0 0 3 1).done)
    ∧ (u.twin.swap = some w → u.twLive = true → w.phase = 3 → u.twRole = 1 → w.offAt + 100000 ≤ u.now → exec (.takeoverSlow dt) s =
        .next (((u.tw fun t => { t with beats := true }).drive true false).swapEnd .faulted 0x1D11 4 3 1).done)

/-- With the link up and the function not frozen, exec answers a next state: in Run a doorbell of an enabled command ring that is inside the ring from
HEAD and from the last TAIL moves TAIL, one of a completion or event ring that lies between HEAD and TAIL moves HEAD, and any other counts in
DBERR and reports DOORBELL_BAD; a doorbell outside Run is kept until LOGIC_RDY. A fetch whose turn it is takes its one command over, with HEAD,
the last SEQ and the head write-back; the same fetch that fails stops the ring, sets FETCHERR and reports; a failed read of a command that has not
begun, or that was fetched with it, withdraws it and completes it FAULTED with 010Bh. (R96, R100, R103, R104, R111, R942) -/
def Obligations.DoorbellsAndFetch : Prop :=
  ∀ (s : State) (dt pf n v : Nat) (c : Cmd) (batch : List Cmd) (r : InFlight),
    let u := s.tick dt
    let e := { c with pf := pf, ring := n, slot := (u.cmdRing pf n).head % 2 ^ (u.cmdRing pf n).log2sz, src := .host }
    (n < 32 → pf < 4 → u.host.linkUp = true → (u.fn pf).frozen = false → u.running = true →
      ((u.cmdRing pf n).en = true ∧ v < 65536 ∧ (v + 65536 - (u.cmdRing pf n).head) % 65536 ≤ 2 ^ (u.cmdRing pf n).log2sz
        ∧ (v + 65536 - (u.cmdRing pf n).tail) % 65536 ≤ 2 ^ (u.cmdRing pf n).log2sz →
        exec (.dbCmd dt pf n v) s = .next (u.setCmdRing pf n { u.cmdRing pf n with tail := v }).done)
      ∧ (¬ ((u.cmdRing pf n).en = true ∧ v < 65536 ∧ (v + 65536 - (u.cmdRing pf n).head) % 65536 ≤ 2 ^ (u.cmdRing pf n).log2sz
        ∧ (v + 65536 - (u.cmdRing pf n).tail) % 65536 ≤ 2 ^ (u.cmdRing pf n).log2sz) →
        exec (.dbCmd dt pf n v) s =
          .next ((u.setCmdRing pf n { u.cmdRing pf n with dberr := satAdd 8 (u.cmdRing pf n).dberr 1 }).doorbellBad pf 0 n v).done)
      ∧ ((u.cplRing pf n).headOk v = true →
        exec (.dbCpl dt pf n v) s = .next (u.setCplRing pf n { u.cplRing pf n with head := v }).done)
      ∧ ((u.cplRing pf n).headOk v = false →
        exec (.dbCpl dt pf n v) s =
          .next ((u.setCplRing pf n { u.cplRing pf n with dberr := satAdd 8 (u.cplRing pf n).dberr 1 }).doorbellBad pf 1 n v).done)
      ∧ ((u.evtRing pf).headOk v = true →
        exec (.dbEvt dt pf v) s = .next (u.setEvtRing pf { u.evtRing pf with head := v }).done)
      ∧ ((u.evtRing pf).headOk v = false →
        exec (.dbEvt dt pf v) s =
          .next ((u.setEvtRing pf { u.evtRing pf with dberr := satAdd 8 (u.evtRing pf).dberr 1 }).doorbellBad pf 2 0 v).done))
    ∧ (n < 32 → pf < 4 → u.host.linkUp = true → (u.fn pf).frozen = false → u.running = false →
      exec (.dbCmd dt pf n v) s = .next ({ u with host := { u.host with earlyDb := u.host.earlyDb ++ [(pf, 4 * n, v)] } } : State).done
      ∧ exec (.dbCpl dt pf n v) s = .next ({ u with host := { u.host with earlyDb := u.host.earlyDb ++ [(pf, 0x80 + 4 * n, v)] } } : State).done
      ∧ exec (.dbEvt dt pf v) s = .next ({ u with host := { u.host with earlyDb := u.host.earlyDb ++ [(pf, 0x100, v)] } } : State).done)
    ∧ (∀ x : State × Bool, pf < 4 → n < 32 → u.canFetch pf n = true → (u.cmdRing pf n).head ≠ (u.cmdRing pf n).tail → u.fetchTurn pf n = true →
      (u.fn pf).frzTail = [] → u.journals e = false → u.dmaOk pf (u.cmdRing pf n).addr 32 = true →
      x = (u.takeEntry pf n).takeIn e → x.1.journals e = false → (x.1.fn pf).frozen = false →
      exec (.commandFetch dt pf n [c] false) s = .next (x.1.headWb pf n).done)
    ∧ (pf < 4 → n < 32 → u.fetchable (32 * pf + n) = true → u.fetchTurn pf n = true →
      exec (.commandFetch dt pf n batch true) s =
        .next ((u.setCmdRing pf n { u.cmdRing pf n with stopped := true, fetcherr := true }).raiseTo 0x0183 0xFFFF
          (atByte 16 n + atByte 18 (u.cmdRing pf n).head) (!(u.cmdRing pf n).fetcherr) [pf]).done)
    ∧ (needsRead c = true → u.flight c = some r → r.begun = false →
      exec (.dmaReadFail dt c) s = .next ((u.forget fun d => sameCmd d c).complete c .faulted 0x010B).done)
    ∧ (needsRead c = true → u.flight c = none → (u.arrive c).2 = true →
      exec (.dmaReadFail dt c) s = .next ((u.arrive c).1.complete c .faulted 0x010B).done)

/-- Once it starts, exec answers a next state in which NOP completes DONE; CANCEL of a command that has not begun withdraws it, completes it CANCELLED
and completes DONE, CANCEL of one that has begun waits for it, and CANCEL of itself or of a command that is not in flight is refused with 0106h;
SET_TIME of a module that is no gPTP slave sets network time, with the timers that follow it, and completes DONE, and that of a slave is refused
with 010Ah; and READ_STATUS, READ_HISTORY, READ_COUNTERS, READ_RETIREMENTS and READ_IDENTITY with an aligned buffer that is large enough and
inside the function's ranges post their bytes to it and complete DONE. (R86, R89, R90, R91, R93, R121, R122, R123, R811, R814, R872) -/
def Obligations.GenericAndReadCommands : Prop :=
  ∀ (s : State) (dt : Ns) (c : Cmd) (r : InFlight) (bytes : List Byte),
    let b := s.taken dt c
    (s.starts dt c 0x0000 [] = true → exec (.nop dt c) s = .next (b.complete c .done).done)
    ∧ (s.starts dt c 0x0001 [] = true → b.host.inflight.find? (fun r => r.cmd.pf == c.pf && r.cmd.src == .host && r.cmd.tag == c.arg 16 2) = some r →
      (c.arg 16 2 ≠ c.tag → r.begun = false → r.latched = false →
        exec (.cancel dt c) s = .next (((b.forget fun d => sameCmd d r.cmd).complete r.cmd .cancelled).complete c .done).done)
      ∧ (c.arg 16 2 ≠ c.tag → (r.begun = true ∨ r.latched = true) →
        exec (.cancel dt c) s = .next (b.modFlight r.cmd fun x => { x with cancels := x.cancels ++ [c] }).done)
      ∧ (c.arg 16 2 = c.tag → exec (.cancel dt c) s = .next (b.complete c .refusedState 0x0106).done))
    ∧ (s.starts dt c 0x0001 [] = true → b.host.inflight.find? (fun r => r.cmd.pf == c.pf && r.cmd.src == .host && r.cmd.tag == c.arg 16 2) = none →
      exec (.cancel dt c) s = .next (b.complete c .refusedState 0x0106).done)
    ∧ (s.starts dt c 0x0002 [] = true → b.rd Reg.GPTP_CFG_ROLE ≠ 2 → exec (.setTime dt c) s =
        .next (({ b.begin c with ntime := c.arg 16 8, pwr := { (b.begin c).pwr with timeSet := true } } : State).timeJump.complete c .done).done)
    ∧ (s.starts dt c 0x0002 [] = true → b.rd Reg.GPTP_CFG_ROLE = 2 → exec (.setTime dt c) s = .next (b.complete c .refusedState 0x010A).done)
    ∧ (c.arg 16 8 % 8 = 0 → bytes.length ≤ c.arg 24 2 → b.dmaOk c.pf (c.arg 16 8) bytes.length = true →
      (s.starts dt c 0x1000 allKinds = true → bytes = b.statusBytes c.object →
        exec (.readStatus dt c) s = .next ((b.postResult c.pf (c.arg 16 8) bytes).complete c .done).done)
      ∧ (s.starts dt c 0x1001 allKinds = true → bytes = b.historyBytes c.object →
        exec (.readHistory dt c) s = .next ((b.postResult c.pf (c.arg 16 8) bytes).complete c .done).done)
      ∧ (s.starts dt c 0x1002 allKinds = true → bytes = b.counterBytes c.object →
        exec (.readCounters dt c) s = .next ((b.postResult c.pf (c.arg 16 8) bytes).complete c .done).done)
      ∧ (s.starts dt c 0x1005 [] = true → bytes = ((b.nv.retired.drop (c.arg 26 2)).take (c.arg 24 2 / 16)).flatMap (fun r => leBytes 16 r.data) →
        exec (.readRetirements dt c) s = .next ((b.postResult c.pf (c.arg 16 8) bytes).complete c .done).done)
      ∧ (s.starts dt c 0x1006 [] = true →
        bytes = recBytes b.nv.identity 0 336 ++ leBytes 2 b.nv.certificate.length ++ leBytes 6 0 ++ b.nv.certificate →
        exec (.readIdentity dt c) s = .next ((b.postResult c.pf (c.arg 16 8) bytes).complete c .done).done))

/-- A setup write of EN that reaches window 01h answers a next state: a disabled command ring whose completion ring is enabled and which has nothing
left over is enabled with HEAD, TAIL and its last SEQ 0 and not stopped, and any other that is disabled stays so; a command ring is disabled with
its indices kept; a disabled completion ring is enabled with HEAD and TAIL 0, and one is disabled where nothing needs it and stays enabled where
something does; the disabled event ring is enabled with HEAD, TAIL and EVSEQ 0 and is given the events that a return from Stop holds for it, and
it is disabled; PF0 gives a listed object to PF0, PF1 or PF3, a write of 2 keeps its owner, and 0500h goes to PF3. (R82, R83, R105, R107, R108,
R145, R843, R948) -/
def Obligations.RingsAndOwners : Prop :=
  ∀ (s : State) (dt pf n o v : Nat),
    let u := s.tick dt
    (n < 32 → u.hrReach pf = true → (u.cmdRing pf n).en = false →
      (u.ringBusy pf n = false → (u.cplRing pf (bits (u.hrWord pf (0x108 + 32 * n)) 4 5)).en = true →
        ∃ (x : CmdRing) (es : List ClampEntry), exec (.cmdRingEnable dt pf n) s = .next ((u.setCmdRing pf n x).logSetup 1 pf es).done
          ∧ x.en = true ∧ x.head = 0 ∧ x.tail = 0 ∧ x.last = 0 ∧ x.stopped = false)
      ∧ ((u.ringBusy pf n = true ∨ (u.cplRing pf (bits (u.hrWord pf (0x108 + 32 * n)) 4 5)).en = false) →
        ∃ (x : CmdRing) (es : List ClampEntry), exec (.cmdRingEnable dt pf n) s = .next ((u.setCmdRing pf n x).logSetup 1 pf es).done
          ∧ x.en = false ∧ x.head = (u.cmdRing pf n).head ∧ x.tail = (u.cmdRing pf n).tail))
    ∧ (n < 32 → u.hrReach pf = true → ∃ (x : CmdRing) (es : List ClampEntry),
      exec (.cmdRingDisable dt pf n) s = .next ((u.setCmdRing pf n x).logSetup 1 pf es).done ∧ x.en = false
        ∧ x.head = (u.cmdRing pf n).head ∧ x.tail = (u.cmdRing pf n).tail)
    ∧ (n < 32 → u.hrReach pf = true → (u.cplRing pf n).en = false → ∃ (x : OutRing) (es : List ClampEntry),
      exec (.cplRingEnable dt pf n) s = .next ((u.setCplRing pf n x).logSetup 1 pf es).done ∧ x.en = true ∧ x.head = 0 ∧ x.tail = 0)
    ∧ (n < 32 → u.hrReach pf = true → ∃ (x : OutRing) (es : List ClampEntry),
      exec (.cplRingDisable dt pf n) s = .next ((u.setCplRing pf n x).logSetup 1 pf es).done
        ∧ x.en = ((u.cplRing pf n).en && u.cplNeeded pf n))
    ∧ (u.hrReach pf = true → (u.evtRing pf).en = false → ∃ (x : OutRing) (es : List ClampEntry),
      exec (.evtRingEnable dt pf) s = .next (((u.setEvtRing pf x).giveWake pf).logSetup 1 pf es).done
        ∧ x.en = true ∧ x.head = 0 ∧ x.tail = 0 ∧ x.evseq = 0)
    ∧ (u.hrReach pf = true → ∃ (x : OutRing) (es : List ClampEntry),
      exec (.evtRingDisable dt pf) s = .next ((u.setEvtRing pf x).logSetup 1 pf es).done ∧ x.en = false)
    ∧ (u.hrReach 0 = true → o < 65536 → (objKind o).isSome = true → v < 4 →
      ∃ t : State, exec (.ownerChange dt o v) s = .next t.done
        ∧ t.owner o = (if o = 0x500 then 3 else if v = 2 then u.owner o else v))

/-- Exec answers a next state: MODTIME after the first unsignalled entry of a completion ring, of the event ring or of a receive queue signals its
vector and clears the count; masking a vector sets its mask bit, and unmasking it clears its mask and pending bits and sends the message that was
pending; a function-level reset over the link resets the function; PE_PERST_N of a running die C resets every function and takes the link down,
and in the hold of a reset it is only noted; a lost link stops posted writes, and a link that may come up sends the writes of functions that are
not frozen and releases PE_WAKE_N, which is also released after 1 s. (R129, R130, R131, R142, R144, R842, R942, R943) -/
def Obligations.MsixFunctionsAndLink : Prop :=
  ∀ (s : State) (dt pf m v : Nat),
    let u := s.tick dt
    let d := ({ u with host := { u.host with perst := true, linkUp := false } } : State)
    (u.dieC = true → pf < 4 → 0 < (u.cplRing pf m).unsig → 0 < (u.cplRing pf m).modtime →
      (u.cplRing pf m).unsigAt + (u.cplRing pf m).modtime * 1000 ≤ u.now → exec (.msixModtimeExpiry dt pf 0 m) s =
        .next ({ u with host := (u.host.setCplRing pf m { u.cplRing pf m with unsig := 0 }).signal pf (u.cplRing pf m).vec } : State).done)
    ∧ (u.dieC = true → pf < 4 → 0 < (u.evtRing pf).unsig → 0 < (u.evtRing pf).modtime →
      (u.evtRing pf).unsigAt + (u.evtRing pf).modtime * 1000 ≤ u.now → exec (.msixModtimeExpiry dt pf 1 m) s =
        .next ({ u with host := (u.host.setEvtRing pf { u.evtRing pf with unsig := 0 }).signal pf (u.evtRing pf).vec } : State).done)
    ∧ (u.dieC = true → pf < 4 → m < 34 → 0 < (u.rxq m).unsig → 0 < u.rd Reg.RXQ_CFG_MODTIME m →
      (u.rxq m).unsigAt + u.rd Reg.RXQ_CFG_MODTIME m * 1000 ≤ u.now → ∀ w : State, w = u.modRxq m (fun q => { q with unsig := 0 }) →
      exec (.msixModtimeExpiry dt pf 2 m) s =
        .next ({ w with host := w.host.signal (w.owner (segObj m)) (w.rd Reg.RXQ_CFG_VEC m) } : State).done)
    ∧ (u.host.linkUp = true → pf < 4 → v < 16 →
      exec (.msixUnmask dt pf v true) s = .next (u.setFn pf { u.fn pf with vecMask := setBit (u.fn pf).vecMask v }).done
      ∧ ∀ h : HostState, h = u.host.setFn pf { u.fn pf with vecMask := clrBit (u.fn pf).vecMask v, vecPend := clrBit (u.fn pf).vecPend v } →
        exec (.msixUnmask dt pf v false) s = .next ({ u with host := if bit (u.fn pf).vecPend v then h.signal pf v else h } : State).done)
    ∧ (u.host.linkUp = true → pf < 4 → exec (.functionLevelReset dt pf) s = .next (u.flr pf).done)
    ∧ (d.inReset = false → d.dieCOut = true → exec (.pePerstAssert dt) s = .next d.flrAll.done)
    ∧ (d.inReset = true → exec (.pePerstAssert dt) s = .next ({ d with host := { d.host with perstLatched := true } } : State).done)
    ∧ (exec (.pcieLinkDown dt) s = .next ({ u with host := { u.host with linkUp := false } } : State).done)
    ∧ (u.linkCan = true → ∀ t : State, t = { u with host := { u.host with linkUp := true }.sendWaiting, pwr := { u.pwr with peWake := false } } →
      exec (.pcieLinkUp dt) s = .next t.done ∧ t.host.linkUp = true
        ∧ t.host.waiting = u.host.waiting.filter (fun w => (tget {} u.host.fns w.pf : Func).frozen)
        ∧ t.host.sent = u.host.waiting.filter (fun w => !(tget {} u.host.fns w.pf : Func).frozen) ++ u.host.sent)
    ∧ (u.pwr.peWake = true → (u.host.linkUp = true ∨ u.pwr.peWakeAt + 1000000000 ≤ u.now) →
      exec (.peWakeRelease dt) s = .next (u.pw fun p => { p with peWake := false }).done)

/-- Exec answers a next state: a loss of VKEEP resets a present die C and wipes what the keep supply held; a power-up reset counts and holds die C in
reset with the power dies supplied; a brown-out or a warm reset of a present die C resets it, and a brown-out in the hold of a reset starts that
hold afresh; the release after 1 ms of a good supply applies a PE_PERST_N that was noted and begins the Regulator phase (Logic after a warm reset
without a brown-out); REG_RDY no sooner than its phase may end stores its time, takes the Pace mode and begins the Oscillator phase, and a wake
without it for 5 ms counts a failed try and is tried again 100 ms later; OSC_RDY stores its time, finds the reference and locks, and 10 ms without
it go on without the reference; MEM_RDY stores its time and begins the Logic phase, after a wake that found the retained memory bad with the
retention lost; LOGIC_RDY runs the boot, and a trial image whose test fails starts again with the other one. The least phase times are the model's
reading (log entries 7 and 92). (R40, R48, R124, R818, R820, R822, R838, R839, R840, R841, R842) -/
def Obligations.StartRows : Prop :=
  ∀ (s : State) (dt kept : Nat) (ok : Bool) (b : BootCheck),
    let u := s.tick dt
    (u.dieCOut = true → exec (.vkeepLoss dt kept) s = .next ((u.resetDieC true false).wipe (bit kept)).done)
    ∧ (u.dieCOut = false → exec (.vkeepLoss dt kept) s = .next (u.wipe (bit kept)).done)
    ∧ (u.pwr.phase = .unpowered → ∀ v : State,
      v = ({ u with nv := { u.nv with powerUps := u.nv.powerUps + 1 }, twin := { u.twin with sinceAt := u.now } } : State).toPhase .resetHold →
      exec (.powerUpReset dt) s = .next (v.pw fun p => { p with
        start := 0, bootAt := v.now, dieUp := [true, true, true]
        dieAt := (List.range 3).map fun d => if p.dieUp.getD d false then p.dieAt.getD d 0 else v.now }).done)
    ∧ (u.dieCOut = true → exec (.dieCBrownout dt) s = .next (u.resetDieC true false).parkCheck.done)
    ∧ (u.inReset = true → u.dieCOut = false →
      exec (.dieCBrownout dt) s = .next ((u.pw fun p => { p with brownout := true, phaseAt := u.now }).parkCheck).done)
    ∧ (u.inReset = true → u.pwr.phaseAt + 1000000 ≤ u.now → ∀ x v : State, x = u.noticeOff →
      v = ({ (if x.host.perstLatched then x.flrAll else x) with host := { (if x.host.perstLatched then x.flrAll else x).host with perstLatched := false } } : State) →
      (∀ w : State, v.pwr.start ≠ 2 ∨ u.pwr.brownout = true → w = (v.toPhase .regulator).wr Reg.PWR_STAT_RDY 0 0 →
        exec (.dieCResetRelease dt) s = .next (w.pw fun p => { p with brownout := false, bootAt := w.now }).done)
      ∧ (∀ w : State, v.pwr.start = 2 → u.pwr.brownout = false → w = (v.toPhase .logic).wr Reg.PWR_STAT_RDY 0 7 →
        exec (.dieCResetRelease dt) s = .next (w.pw fun p => { p with brownout := false, bootAt := w.now }).done))
    ∧ (u.dieCOut = true → exec (.warmReset dt) s = .next u.warmReset.done)
    ∧ (u.tries = true → u.phaseEnds u.tryAt = true → ∀ v : State, v = (u.wr Reg.PWR_RDY_REGT 0 (min 255 ((u.now - u.tryAt) / 100000))).setRdy 0 →
      ∀ w : State, w = (v.wr Reg.GLB_PACE_CUR 0 (if v.pwr.start = 1 then v.rd Reg.GLB_PACE_REQ else 1)).wr Reg.GLB_PACE_BUSY 0 0 →
      exec (.regRdy dt) s = .next (((if w.pwr.start = 1 then w.noticeOff else w).toPhase .oscillator).pw fun p => { p with retryAt := 0 }).done)
    ∧ (u.tries = true → u.pwr.start = 1 → u.tryAt + 5000000 ≤ u.now → exec (.regRdyTimeout dt) s =
        .next (((u.bump Reg.PWR_CNT_REGFAIL 0).toPhase .stop).pw fun p => { p with retryAt := u.tryAt + 100000000 }).done)
    ∧ (u.pwr.phase = .oscillator → u.phaseEnds u.pwr.phaseAt = true → exec (.oscRdy dt) s =
        .next ((((u.wr Reg.PWR_RDY_OSCT 0 u.phaseLen).setRdy 1).setRef true).toPhase .memory).done)
    ∧ (u.pwr.phase = .oscillator → u.pwr.phaseAt + 10000000 ≤ u.now →
      exec (.oscRdyTimeout dt) s = .next ((u.wr Reg.PWR_RDY_OSCT 0 u.phaseLen).refLostEarly.toPhase .memory).done)
    ∧ (u.pwr.phase = .memory → u.phaseEnds u.pwr.phaseAt = true → ∀ v : State, v = (u.wr Reg.PWR_RDY_MEMT 0 u.phaseLen).setRdy 2 →
      (v.pwr.start ≠ 1 ∨ ok = true → exec (.memRdy dt ok) s = .next (v.toPhase .logic).done)
      ∧ (v.pwr.start = 1 → exec (.memRdy dt false) s =
        .next ((v.retainLost.wr Reg.PWR_RDY_MEMT 0 (v.rd Reg.PWR_RDY_MEMT)).toPhase .logic).done))
    ∧ (u.pwr.phase = .logic → u.phaseEnds u.pwr.phaseAt = true →
      (b.testFail = false ∨ u.nv.updState ≠ 3 → exec (.logicRdy dt b) s = .next (u.logicRdy b).done)
      ∧ (b.testFail = true → u.nv.updState = 3 → exec (.logicRdy dt b) s =
        .next (((u.trialFails 6).resetDieC false true).pw fun p => { p with restartAt := some u.now }).done))

/-- Exec answers a next state: in the Drain phase, within its 50 ms, with only DEFERRED commands in flight and no wake, the entry refuses them, opens
the loops, in a forced entry switches every output off, and goes to Outputs; 50 ms of commands in flight abandon it with 0306h; without a wake the
end of Outputs ends the sessions of a forced entry and begins Save, the end of Save goes to Commit with the saved image and its result, the end of
Commit stops the power dies and takes the link to electrical idle, the end of Clocks goes to Rails, and the end of Rails begins Stop, each no
sooner than the least time of its phase; a wake that has come abandons the entry at the abort point, or returns from it. (R825, R826, R827, R828,
R829, R830, R834) -/
def Obligations.StopEntryRows : Prop :=
  ∀ (s : State) (dt : Nat),
    let u := s.tick dt
    (u.inEntry 2 = true → u.host.inflight.all (·.deferred) = true → u.now ≤ u.pwr.phaseAt + 50000000 →
      (u.pwr.wakeHit = false → ∀ v : State, v = (u.refuseDeferred.loopsOpen 6).toPhase (.entering 3) →
        exec (.stopDrainEnd dt) s = .next (if v.pwr.forced then v.allOff else v).done)
      ∧ (u.pwr.wakeHit = true → exec (.stopDrainEnd dt) s = .next (u.stopAbandon 2 0x0304).done))
    ∧ (u.inEntry 2 = true → u.pwr.phaseAt + 50000000 ≤ u.now → u.host.inflight.any (fun r => !r.deferred) = true →
      exec (.stopDrainTimeout dt) s = .next (u.stopAbandon 2 0x0306).done)
    ∧ (u.inEntry 3 = true → u.pwr.wakeHit = false → u.pwr.forced = false → exec (.stopOutputsEnd dt) s = .next (u.saveBegin.toPhase (.entering 4)).done)
    ∧ (u.inEntry 3 = true → u.pwr.wakeHit = false → u.pwr.forced = true →
      exec (.stopOutputsEnd dt) s = .next ((u.authEnd 5).saveBegin.toPhase (.entering 4)).done)
    ∧ (u.inEntry 3 = true → u.pwr.wakeHit = true → exec (.stopOutputsEnd dt) s = .next (u.stopAbandon 3 0x0304).done)
    ∧ (∀ v : State, u.inEntry 4 1000000 = true → v = u.saveEnd →
      (v.pwr.wakeHit = false → exec (.stopSaveEnd dt) s = .next (v.toPhase (.entering 5)).done)
      ∧ (v.pwr.wakeHit = true → exec (.stopSaveEnd dt) s = .next (v.stopReturnAt 4).done))
    ∧ (∀ v : State, u.inEntry 5 200000 = true → v = ({ u.diesStop with host := { u.diesStop.host with linkUp := false } } : State) →
      (v.pwr.wakeHit = false → exec (.stopCommitEnd dt) s = .next (v.toPhase (.entering 6)).done)
      ∧ (v.pwr.wakeHit = true → exec (.stopCommitEnd dt) s = .next (v.stopReturnAt 5).done))
    ∧ (u.inEntry 6 20000 = true → u.pwr.wakeHit = false → exec (.stopClocksEnd dt) s = .next (u.toPhase (.entering 7)).done)
    ∧ (u.inEntry 6 20000 = true → u.pwr.wakeHit = true → exec (.stopClocksEnd dt) s = .next (u.stopReturnAt 6).done)
    ∧ (u.inEntry 7 50000 = true → exec (.stopRailsEnd dt) s = .next u.stopBegin.done)

/-- Exec answers a next state: a Stop timer that has run out, the token reader's interrupt where it is enabled, and the release of PE_PERST_N where it
is enabled, each latch their wake source; LIMP_N low shows in LIMPN, puts power dies that are supplied and act into limp-home by cause 1 and
latches its wake, and LIMP_N high clears LIMPN and ends limp-home through it where the heartbeat allows; a change of the LH inputs is shown and,
in limp-home, moves the objects that select a changed one; a heartbeat 2 ms after the reset notice is taken with its READY, which ends the hold of
the objects in it, and an earlier one is dropped; 20 ms without one put the power dies that missed it into limp-home by cause 2 and are shown; the
end of a hold window expires the hold; 2 ms without a heartbeat turn a paired object off. (R249, R251, R252, R253, R259, R265, R268, R274, R835,
R837) -/
def Obligations.WakeAndLimpRows : Prop :=
  ∀ (s : State) (dt mask o r : Nat) (ready : Bool),
    let u := s.tick dt
    (u.pwr.phase = .stop → u.rd Reg.PWR_TMR ≠ 0 → u.rd Reg.PWR_TMR * 1000000000 ≤ (u.now - u.pwr.stopAt) * 1024 →
      exec (.stopTimerWake dt) s = .next (u.wakeBy 0).done)
    ∧ (u.flag Reg.PWR_CFG_TKWAKE = true → exec (.tokenIrqWake dt) s = .next (u.wakeBy 3).done)
    ∧ (∀ v : State, v = ({ u with host := { u.host with perst := false } } : State) →
      (u.host.perst = true → v.flag Reg.PWR_CFG_PERSTWAKE = true → exec (.pePerstRelease dt) s = .next (v.wakeBy 5).done)
      ∧ (u.host.perst = true → v.flag Reg.PWR_CFG_PERSTWAKE = false → exec (.pePerstRelease dt) s = .next v.done))
    ∧ (∀ v : State, v = u.wr Reg.LIMP_STAT_LIMPN 0 1 →
      (v.diesAct = true → v.diesUp ≠ 0 → exec (.limpNAssert dt) s = .next ((v.limpEnter 1).wakeBy 4).done)
      ∧ ((v.diesAct = false ∨ v.diesUp = 0) → exec (.limpNAssert dt) s = .next (v.wakeBy 4).done))
    ∧ (exec (.limpNRelease dt) s = .next (u.wr Reg.LIMP_STAT_LIMPN 0 0).limpNOut.done)
    ∧ (∀ (v : State) (l : List Nat), v = u.wr Reg.LIMP_STAT_LH 0 (mask % 256) →
      (v.diesAct = true → v.flag Reg.LIMP_STAT_ACTIVE = true →
        l = recOrder.filter (fun r => v.flag Reg.LH_LHR1_INLIMP r && !v.flag Reg.LH_LHR0_EXEMPT r && v.rd Reg.LH_LHR0_LSRC r != 0
          && bit (u.rd Reg.LIMP_STAT_LH) (v.rd Reg.LH_LHR0_LSRC r - 1) != bit mask (v.rd Reg.LH_LHR0_LSRC r - 1)) →
        exec (.lhChange dt mask) s = .next (l.foldl State.limpApply v).done)
      ∧ ((v.diesAct = false ∨ v.flag Reg.LIMP_STAT_ACTIVE = false) → exec (.lhChange dt mask) s = .next v.done))
    ∧ (u.out.notice = false → u.dieCOut = true → u.out.noticeAt + 2000000 ≤ u.now →
      ∀ v : State, v = u.outs (fun x => { x with hbAt := u.now, hbSeen := true, hbReady := ready && u.ready1 }) →
      ((ready && u.ready1) = false ∨ v.holding = [] → exec (.heartbeat dt ready) s = .next v.limpNOut.done)
      ∧ ((ready && u.ready1) = true → v.holding ≠ [] →
        exec (.heartbeat dt ready) s = .next (v.holding.foldl State.holdRelease v).holdDone.limpNOut.done))
    ∧ ((u.out.notice = true ∨ u.now < u.out.noticeAt + 2000000) → exec (.heartbeat dt ready) s = .next u.done)
    ∧ (u.out.notice = false → u.diesAct = true → maskOf u.hbLate 3 ≠ 0 →
      ∀ v : State, v = (u.wr Reg.LIMP_STAT_HBLOSS 0 (Nat.lor (u.rd Reg.LIMP_STAT_HBLOSS) (maskOf u.hbLate 3))).limpEnter 2 →
      (v.pwr.phase = .run → exec (.heartbeatLoss dt) s = .next v.done)
      ∧ ∀ k, v.pwr.phase = .entering k → exec (.heartbeatLoss dt) s = .next (v.pw fun p => { p with wakeHit := true }).done)
    ∧ (recIx o = some r → u.flag Reg.LH_LHR1_INHOLD r = true → (u.limp r).holdEnd ≤ u.now + u.holdw r / 50 →
      exec (.holdWindowExpiry dt o) s = .next (u.holdExpire r).done)
    ∧ (recIx o = some r → u.pairedOff r = true → u.diesAct = true → u.recActs r = true → u.ovFrozen o = false →
      exec (.pairedHeartbeatGap dt o) s = .next (if isKind .hb o then u.hbStopMode (objNum o) else u.takeState r .off false).done)

/-- Exec answers a next state: a running core issues its bundle, and an uncorrectable memory error faults it with cause 4; an answer to the commands
of a channel trigger releases the bundle; a wait that is over leaves the holds, and a word in the mailbox of a core that waits for one goes to
MBX.R; a lockstep disagreement of a running pair is recorded and resets die C; a join after a split with copy B stopped restores lockstep and
reports it, and records a difference; a split that lasts SPLITMAX while copy A waits stops copy B; invasive debug loses lockstep, sets its flag
and event, ends what rests on it, and takes a paired module out of its pair. (R750, R760, R762, R765, R766, R773, R774, R780, R781, R782) -/
def Obligations.FifeAndShawm : Prop :=
  ∀ (s : State) (dt k a vd : Nat) (m : Mismatch) (l : List Cmd),
    let u := s.tick dt
    (isCore k = true → u.coreRuns k = true → exec (.bundleIssue dt k none vd) s = .next ((u.purge k).issue k vd).done)
    ∧ (isCore k = true → u.coreRuns k = true → exec (.bundleIssue dt k (some a) vd) s = .next (u.coreFault k 4 a).done)
    ∧ (∀ v : State, isCore k = true → u.firmware = true → l = u.triggered k → l ≠ [] → (∀ c ∈ l, (u.firstAnswer c).isSome = true) →
      v = l.foldl (fun s c => s.takeAnswer k c) u → (v.triggered k).length ≠ l.length →
      exec (.channelTriggerAnswer dt k vd) s = .next ((v.purge k).released k).done)
    ∧ (isCore k = true → u.firmware = true → ((u.coreK k).holds.filter fun h => !u.waitOver h).length ≠ (u.coreK k).holds.length →
      ∀ hs, hs = (u.coreK k).holds.filter (fun h => !u.waitOver h) →
      exec (.tmrWaitExpiry dt k) s = .next ((u.modCore k fun c => { c with holds := hs }).released k).done)
    ∧ (isCore k = true → u.firmware = true → (u.coreK k).mbx ≠ [] → Hold.rx ∈ (u.coreK k).holds → exec (.mbxRxWake dt k) s =
        .next (((u.modCore k fun c => { c with holds := c.holds.erase .rx }).mbxTake k).released k).done)
    ∧ (u.running = true → u.rd Reg.SHW_STAT_MODE = 0 → exec (.lockstepMismatch dt m) s = .next (u.disagree m).done)
    ∧ (u.joining = true → u.core.runB = false → exec (.shawmJoin dt (some m)) s = .next (u.disagree m).done)
    ∧ (u.joining = true → u.core.runB = false →
      ∀ v : State, v = (u.modCore 8 fun c => { c.put 0x20E 0 with holds := c.holds.erase .join }).wr Reg.SHW_STAT_MODE 0 0 →
      exec (.shawmJoin dt none) s = .next ((({ v with core := { v.core with copyB := {}, forced := false } } : State).raise 0x1F83 0xFFFF
        (atByte 17 (b2n u.core.forced))).released 8).done)
    ∧ (u.joining = true → u.core.runB = true → u.core.splitAt + u.rd Reg.SHW_CFG_SPLITMAX * 1000000 ≤ u.now →
      exec (.splitmaxExpiry dt) s = .next ({ u with core := { u.core with runB := false, forced := true } } : State).done)
    ∧ (∀ v w : State, u.running = true → u.dbgLevel = 2 → u.rd Reg.SHW_STAT_MODE ≠ 2 →
      v = (u.wr Reg.SHW_STAT_MODE 0 2).setFlag Reg.SHW_STAT_LLDBG 0 0x1F82 0xFFFF 0 →
      w = ({ v with core := { v.core with runB := false, inj := none } } : State).debugPolicies →
      (w.twSt = 0 → exec (.lockstepLostDebug dt) s = .next (w.authEnd 4).done)
      ∧ (w.twSt ≠ 0 → exec (.lockstepLostDebug dt) s = .next (w.twLeave.authEnd 4).done))

/-- Exec answers a next state: a wake telegram starts a search unless one runs, and counts as unknown during lock-out; an ANSWER inside its slot of a
round names its serial, and one that overlaps or has a bad CRC marks the slot; a good RESPONSE inside its window is confirmed and a wrong one
fails; CONF_ACK 00h inside its window authenticates and 01h fails; a slot's end goes to the next slot, to the next round after a collision, or
ends the rounds, and a slot with an overlap counts a collision; a missing frame of either window gives result 2 and the next candidate; a session
ends 500 ms after its last frame; a due release message is formed with its counter; authorisation ends after AUTHT; lock-out ends with the failure
history cleared, and its time left is stored each minute; ACC_ENROL challenges its token, or waits for a search that runs; ACC_RECORD of OP 02h
revokes a slot, and one of OP 03h installs the release keys. (R884, R885, R886, R888, R889, R891, R892, R893, R896, R897, R901, R902) -/
def Obligations.AccessRows : Prop :=
  ∀ (s : State) (dt : Ns) (c : Cmd) (bs rcd : List Byte) (past : Bool) (t0 kenc kmac : Nat),
    let b := s.taken dt c
    let u := s.tick dt
    let a := u.acc
    let hears := u.firmware && u.pwr.refPresent && u.flag Reg.ACC_CFG_LFEN && tokenFrameOk bs
    (u.firmware = true → u.pwr.refPresent = true → u.flag Reg.ACC_CFG_TKEN = true → tokenFrameOk bs = true → recNum bs 0 1 = 1 → bs.length = 7 →
      (u.accBusy = false → a.phase ≠ .rounds → a.lockEnd = none →
        exec (.tokenFrameReceived dt true bs past) s = .next (u.searchStart 0 (recNum bs 1 4)).done)
      ∧ (a.phase ≠ .rounds → a.lockEnd.isSome = true → exec (.tokenFrameReceived dt true bs past) s = .next u.accUnknown.done))
    ∧ (u.firmware = true → u.pwr.refPresent = true → u.flag Reg.ACC_CFG_LFEN = true → a.phase = .rounds → u.inSlot = true →
      ∀ v : State, v = u.ac (fun x => { x with bad := true }) →
      (tokenFrameOk bs = false → exec (.tokenFrameReceived dt false bs past) s = .next v.done)
      ∧ (tokenFrameOk bs = true → recNum bs 0 1 = 3 → bs.length = 6 → v.acc.phase = .rounds → v.inSlot = true →
        exec (.tokenFrameReceived dt false bs true) s = .next (v.answerHeard (recNum bs 1 4)).done)
      ∧ (tokenFrameOk bs = true → recNum bs 0 1 = 3 → bs.length = 6 →
        exec (.tokenFrameReceived dt false bs false) s = .next (u.answerHeard (recNum bs 1 4)).done))
    ∧ (hears = true → a.phase = .response → recNum bs 0 1 = 5 → recNum bs 1 4 = a.serial →
      a.opens ≤ u.now → u.now ≤ a.closes → bs.length = 22 →
      (recNum bs 13 8 ≠ Config.aes128 a.key (a.rc + recNum bs 5 8 * 2 ^ 64) % 2 ^ 64 →
        exec (.tokenFrameReceived dt false bs past) s = .next (if a.enrol.isSome then (u.enrolFail 0x2004).accNext else u.accFail).done)
      ∧ (recNum bs 13 8 = Config.aes128 a.key (a.rc + recNum bs 5 8 * 2 ^ 64) % 2 ^ 64 →
        exec (.tokenFrameReceived dt false bs past) s = .next ((u.lfSend (6 :: leBytes 4 (recNum bs 1 4)
          ++ leBytes 8 (Config.aes128 a.key (a.rc + recNum bs 5 8 * 2 ^ 64) / 2 ^ 64 % 2 ^ 64))).ac fun x =>
            { x with
              phase := .acknowledge, rt := recNum bs 5 8, ks := Config.aes128 x.key (recNum bs 5 8 + x.rc * 2 ^ 64) % 2 ^ 128
              opens := u.now + 34768000, closes := u.now + 63768000 }).done))
    ∧ (hears = true → a.phase = .acknowledge → recNum bs 0 1 = 7 →
      recNum bs 1 4 = a.serial → a.opens ≤ u.now → u.now ≤ a.closes → bs.length = 7 →
      (recNum bs 5 1 = 0 → exec (.tokenFrameReceived dt false bs past) s = .next u.authSuccess.done)
      ∧ (recNum bs 5 1 = 1 → exec (.tokenFrameReceived dt false bs past) s =
          .next (if a.enrol.isSome then (u.enrolFail 0x2004).accNext else u.accFail).done))
    ∧ (a.phase = .rounds → a.slotEnd ≤ u.now → ∀ v : State, v = (if a.bad then
        (((u.bump Reg.ACC_CNT_COLL 0).accCount 3).accEvent 0x85 (atByte 16 a.round + atByte 17 a.slot)).ac fun x => { x with collided := true, bad := false }
        else u) →
      (a.slot < 7 → exec (.searchSlotEnd dt) s = .next (v.ac fun x => { x with slot := x.slot + 1, slotEnd := x.slotEnd + x.slotNs }).done)
      ∧ (a.slot = 7 → v.acc.collided = true → a.round < 2 → exec (.searchSlotEnd dt) s = .next (v.searchRound (a.round + 1)).done)
      ∧ (a.slot = 7 → (v.acc.collided = false ∨ 2 ≤ a.round) → exec (.searchSlotEnd dt) s = .next v.roundsEnd.done))
    ∧ ((a.phase = .response ∧ a.closes ≤ u.now) ∨ (a.phase = .acknowledge ∧ a.closes ≤ u.now + 1000000) →
      exec (.responseTimeout dt) s = .next (if a.enrol.isSome then (u.enrolFail 0x2004).accNext else (u.authResult 2).accNext).done)
    ∧ (a.phase = .session → a.lastAt + 500000000 ≤ u.now → exec (.sessionTimeout dt) s = .next (u.enrolFail 0x2004).accNext.done)
    ∧ (u.firmware = true → a.authAt = some t0 → a.relAt ≤ u.now + 1000000 → u.nv.relKeys = some (kenc, kmac) → ∀ v : State,
      v = ((u.ac fun x => { x with relAt := u.now + 100000000 }).relNeed).relWithdraw (u.rd Reg.ACC_CFG_RELCH) past → v.acc.ctr < 0xFFFFF000 →
      (u.ac fun x => { x with relAt := u.now + 100000000 }).acc.authAt = some t0 →
      exec (.releaseMessage dt past) s = .next (v.relForm kenc kmac (u.rd Reg.ACC_CFG_RELCH)).done)
    ∧ (a.authAt = some t0 → u.rd Reg.ACC_CFG_AUTHT ≠ 0 → t0 + u.rd Reg.ACC_CFG_AUTHT * 1000000000 ≤ u.now →
      exec (.authTimeout dt) s = .next (u.authEnd 1).done)
    ∧ (a.lockEnd = some t0 → t0 ≤ u.now → u.dieC = true → ∀ v : State, v = (u.ac fun x => { x with lockEnd := none, fails := [] }).lockStore →
      exec (.accLockoutEnd dt) s = .next ((v.accEvent 0x84 (atByte 18 v.acc.lockMin)).accShow).done)
    ∧ (a.lockEnd.isSome = true → u.dieC = true → a.storedAt + 60000000000 ≤ u.now → exec (.lockoutStore dt) s = .next u.lockStore.done)
    ∧ (s.starts dt c 0x5020 [.access] = true → b.acc.lockEnd.isSome = true → exec (.accEnrol dt c rcd past) s =
        .next (b.complete c .refusedState 0x2001).done)
    ∧ (c.arg 16 8 % 8 = 0 → 256 ≤ c.arg 24 2 → b.dmaOk c.pf (c.arg 16 8) 256 = true →
      (s.starts dt c 0x5020 [.access] = true → b.acc.lockEnd = none → ∀ (slot serial : Nat) (e : Enrol),
        slot = recNum rcd 24 1 → serial = recNum rcd 20 4 → slot < 16 → recNum rcd 25 3 = 0 → recNum rcd 44 40 = 0 →
        b.recBar rcd past { defined := fun t op => t == 5 && op == 1, admitted := b.tokenAdmits } = none →
        ((b.nv.token slot).state = 1 → (b.nv.token slot).serial = serial) →
        ((List.range 16).any fun k => k != slot && (b.nv.token k).state == 1 && (b.nv.token k).serial == serial) = false →
        e = { cmd := c, serial, slot, key := recNum rcd 28 16, count := recNum rcd 12 4 } →
        (b.acc.phase = .idle → exec (.accEnrol dt c rcd past) s = .next ((b.begin c).enrolStart e).accShow.done)
        ∧ (b.acc.phase ≠ .idle → exec (.accEnrol dt c rcd past) s = .next (b.ac fun x => { x with enrols := x.enrols ++ [e] }).done))
      ∧ (s.starts dt c 0x5021 [.access] = true → b.recBar rcd past { defined := fun t op => t == 5 && (op == 2 || op == 3), admitted := b.tokenAdmits } = none →
        (recNum rcd 17 1 = 2 → ∀ (v : State) (k : Nat), k = recNum rcd 24 1 → k < 16 → recNum rcd 20 4 = 0 → recNum rcd 25 59 = 0 →
          v = (({ b with nv := { b.nv with tokens := tput b.nv.tokens k { b.nv.token k with state := 2, key := 0 } } } : State).accept (recNum rcd 12 4)).accEvent
            0x87 (atByte 16 2 + atByte 17 k + atByte 20 (b.nv.token k).serial) →
          exec (.accRevoke dt c rcd past) s = .next (((if v.acc.holder = k then v.authEnd 3 else v).begin c).complete c .done).done)
        ∧ (recNum rcd 17 1 = 3 → recNum rcd 20 8 = 0 → recNum rcd 76 8 = 0 → ∀ (v w : State) (keys : Nat),
          keys = Config.transportPlain (recBytes rcd 4 12) (recBytes rcd 0 20) (recBytes rcd 28 32) →
          v = ({ b with nv := { b.nv with relKeys := some (keys % 2 ^ 128, keys / 2 ^ 128 % 2 ^ 128), relCtr := 0 } } : State).accept (recNum rcd 12 4) →
          w = v.ac (fun x => { x with ctr := 0, spent := false, relAt := max x.relAt v.now }) →
          exec (.accInstallKeys dt c rcd past true) s = .next ((((w.wr Reg.ACC_STAT_RELKEYS 0 1).accEvent 0x87 (atByte 16 3)).begin c).complete c .done).done)))

/-- Once such a command starts, its buffer is inside the function's ranges and the record passes the checks of R851 and of its own operation, exec
answers a next state: COUNT becomes SEC_CTR; provisioning installs the digest of the signing key in slot 0 and goes to PROVISIONED; a key slot is
programmed with the digest of DATA or revoked, with KEY_SLOT raised; the lifecycle goes to FIELD, to FIELD_SERVICE for SVCMIN minutes, back to
FIELD, or to RETIRED with the keys erased, every output off and the firmware stopped; the command completes DONE, and leaving PROVISIONED or
FIELD_SERVICE ends INVASIVE. SEC_ATTEST writes its report, and FIELD_SERVICE ends by itself after its minutes. (R849, R852, R853, R854, R855,
R856, R857, R874) -/
def Obligations.SecurityRecords : Prop :=
  ∀ (s : State) (dt : Ns) (c : Cmd) (rcd : List Byte) (sig : Bool) (partner t0 : Nat),
    let b := s.taken dt c
    let u := s.tick dt
    let n := recNum rcd 12 4
    let a := b.accept n
    let k := recNum rcd 17 1
    let fin := fun (v : State) => (((v.begin c).complete c .done).lcLeft b.lifecycle).done
    c.arg 16 8 % 8 = 0 → 256 ≤ c.arg 24 2 → b.dmaOk c.pf (c.arg 16 8) 256 = true →
    (s.starts dt c 0x5010 [] = true →
      b.recBar rcd sig { defined := fun t op => t == 1 && op == 0, installs := true, admitted := b.lifecycle == 0 } = none → recNum rcd 16 1 = 0 →
      dataZero rcd 0 = true → exec (.secProvision dt c rcd sig) s = .next ((((({ b with nv := { b.nv with
        slots := tput b.nv.slots 0 { programmed := true, digest := shake (recBytes rcd 84 57) } } } : State).accept n).lcTo 1 n none).begin c).complete
          c .done).done)
    ∧ (s.starts dt c 0x5011 [] = true → b.recBar rcd sig (b.secRule rcd) = none →
      (recRow rcd = some 0 → (b.nv.keySlot k).programmed = false → exec (.keySlotProgram dt c rcd sig) s = .next (fin (({ a with nv := { a.nv with
          slots := tput a.nv.slots k { a.nv.keySlot k with programmed := true, digest := recNum rcd 20 64 } } } : State).raise 0x0485 0xFFFF
            (atByte 16 k + atByte 17 k))))
      ∧ (recRow rcd = some 1 → b.revokeBar (k - 0x10) (recNum rcd 16 1) rcd = none → exec (.keySlotRevoke dt c rcd sig) s = .next (fin (({ a with nv :=
          { a.nv with slots := tput a.nv.slots (k - 0x10) { a.nv.keySlot (k - 0x10) with revoked := true } } } : State).raise 0x0485 0xFFFF
            (atByte 16 k + atByte 17 (k - 0x10)))))
      ∧ (recRow rcd = some 2 → dataZero rcd 0 = true → exec (.lcToField dt c rcd sig) s = .next (fin (a.lcTo 2 n none)))
      ∧ (recRow rcd = some 3 → 1 ≤ recNum rcd 20 2 → recNum rcd 20 2 ≤ 480 → dataZero rcd 2 = true → exec (.lcToFieldService dt c rcd sig) s =
          .next (fin (a.lcTo 3 n (some (a.now + recNum rcd 20 2 * 60000000000)))))
      ∧ (recRow rcd = some 4 → dataZero rcd 0 = true → exec (.lcBackToField dt c rcd sig) s = .next (fin (a.lcTo 2 n none)))
      ∧ (recRow rcd = some 5 → dataZero rcd 0 = true → exec (.lcToRetired dt c rcd sig) s =
          .next (fin ((((a.eraseKeys).authEnd 5).lcTo 4 n none).allOff).firmwareStops)))
    ∧ (s.starts dt c 0x5013 [] = true → exec (.secAttest dt c rcd partner) s = .next (b.answerWith c (b.attest rcd partner)).done)
    ∧ (u.dieC = true → u.lifecycle = 3 → u.sec.svcEnd = some t0 → t0 ≤ u.now → exec (.fieldServiceExpiry dt) s =
        .next ((u.lcTo 2 u.nv.secCtr none).lcLeft 3).done)

/-- Exec answers a next state for every challenge, response, leave, expiry and lock-out end. A challenge outside a lock-out places a nonce that is
valid from now on, and one during a lock-out gives RESULT 3. A response that passes its checks gives RESULT 1, spends the nonce, sets the count of
failures to 0 and changes the level; a level that is not on offer gives RESULT 2 and leaves the count; any other failure raises the count n by one
and locks the port for 2^(n - 1) s, up to 1,024 s, with DBG_AUTH_FAIL. LEAVE returns to CLOSED, a nonce expires after 60 s, and a lock-out ends at
its time. (R783, R863, R864, R866, R867, R868) -/
def Obligations.DebugPort : Prop :=
  ∀ (s : State) (dt : Ns) (req : Nat) (rcd : List Byte) (sig : Bool) (t0 : Nat),
    let u := s.tick dt
    (u.running = true → (∀ t, u.sec.lockEnd = some t → t ≤ u.now) → ∃ (n : Nat) (v : State), u.draw 32 = (n, v) ∧ exec (.dapChallenge dt) s =
        .next (v.se fun x => { x with nonce := n, nonceAt := v.now, nonceOk := true }).done)
    ∧ (u.running = true → u.sec.lockEnd = some t0 → u.now < t0 → exec (.dapChallenge dt) s = .next (u.se fun x => { x with result := 3 }).done)
    ∧ (u.running = true → u.dapResult req rcd sig = 1 → exec (.dapSubmit dt req rcd sig) s =
        .next (({ u with sec := { u.sec with result := 1, nonceOk := false, fails := 0, lockEnd := none } } : State).dbgTo (recNum rcd 52 1) (recNum rcd 16 1)).done)
    ∧ (u.running = true → u.dapResult req rcd sig = 2 → exec (.dapSubmit dt req rcd sig) s =
        .next ({ u with sec := { u.sec with result := 2, nonceOk := false } } : State).done)
    ∧ (u.running = true → ∀ r, u.dapResult req rcd sig = r → 4 ≤ r → ∃ v : State, exec (.dapSubmit dt req rcd sig) s = .next v.done
        ∧ v.sec.fails = u.sec.fails + 1 ∧ v.sec.result = r ∧ v.sec.nonceOk = false ∧ v.sec.lockEnd = some (u.now + 2 ^ min 10 u.sec.fails * 1000000000)
        ∧ v.rd Reg.SEC_DBG_LEVEL = u.rd Reg.SEC_DBG_LEVEL)
    ∧ (u.running = true → exec (.dapLeave dt) s = .next (u.dbgTo 0 255).done)
    ∧ (u.sec.nonceOk = true → u.sec.nonceAt + 60000000000 ≤ u.now → exec (.dapNonceExpiry dt) s = .next (u.se fun x => { x with nonceOk := false }).done)
    ∧ (u.sec.lockEnd = some t0 → t0 ≤ u.now → exec (.dapLockoutEnd dt) s = .next (u.se fun x => { x with lockEnd := none }).done)

/-- Once its command starts, exec answers a next state: UPD_STAGE with a good range puts its bytes into the staging slot, whose length starts from 0
unless the update is STAGING, and goes to STAGING; UPD_VERIFY of a good image goes to STAGED, and of a bad one gives the failed check and takes
STAGED back to STAGING; UPD_COMMIT of a staged image that verifies, outside a pair and outside limp, forced or with every active object's hold
window long enough, makes the staging slot active in trial, completes DONE and restarts die C; UPD_CONFIRM of a trial confirms it; UPD_ABORT of a
staging or staged update empties the staging slot; SET_DEFAULTS writes the defaults into the active copy and reports them; a trial whose time has
passed is confirmed with AUTOCONF and fails without it; TW_EQUINOX of a Lead with both images staged and of the common format starts the handover,
and a step that is done or failed is reported and starts the next one or ends it. (R735, R737, R738, R910, R911, R912, R913, R916, R917, R921,
R922, R926) -/
def Obligations.FirmwareUpdate : Prop :=
  ∀ (s : State) (dt : Ns) (c : Cmd) (chunk : List Byte) (sig peer : Bool),
    let b := s.taken dt c
    let u := s.tick dt
    let k := b.stagingSlot
    let st := b.nv.updState
    (s.starts dt c 0x5030 [] = true → c.arg 16 8 % 8 = 0 → 8 ≤ c.arg 24 2 → c.arg 24 2 ≤ 32768 → c.arg 24 2 % 8 = 0 → c.arg 28 4 % 8 = 0 →
      c.arg 28 4 + c.arg 24 2 ≤ slotSize → st ≠ 3 → st ≠ 4 → b.dmaOk c.pf (c.arg 16 8) (c.arg 24 2) = true →
      ∀ f : FwSlot, f = (if st = 1 then b.slot k else { valid := false, bytes := (b.slot k).bytes, top := 0 }) →
      exec (.updStage dt c chunk) s = .next (((b.setFwSlot k { f with
        bytes := (List.range (c.arg 24 2)).foldl (fun t j => memPut t (c.arg 28 4 + j) (chunk.getD j 0 % 256)) f.bytes
        top := max f.top (c.arg 28 4 + c.arg 24 2) }).nvm fun n => { n with updState := 1, fallback := false }).complete c .done).done)
    ∧ (s.starts dt c 0x5031 [] = true → st ≠ 3 → st ≠ 4 →
      (b.imageFail (b.slot k) sig = 0 → exec (.updVerify dt c sig) s =
        .next (((b.setFwSlot k { b.slot k with valid := true }).nvm fun n => { n with updState := 2 }).complete c .done).done)
      ∧ (∀ e, b.imageFail (b.slot k) sig = e → e ≠ 0 → exec (.updVerify dt c sig) s =
        .next ((if st = 2 then (b.setFwSlot k { b.slot k with valid := false }).nvm fun n => { n with updState := 1 } else b).complete c
          (imageCode e).1 (imageCode e).2).done))
    ∧ (s.starts dt c 0x5032 [] = true → st = 2 → b.flag Reg.TW_CFG_EN = false → b.flag Reg.LIMP_STAT_ACTIVE = false → b.imageFail (b.slot k) sig = 0 →
      (c.argBits 16 0 1 = 1 ∨ b.holdShort = false) → exec (.updCommit dt c sig) s = .next (((b.commitRecord).begin c).complete c .done).commitRestart.done)
    ∧ (s.starts dt c 0x5033 [] = true → st = 4 → exec (.updConfirm dt c) s = .next (b.confirm.complete c .done).done)
    ∧ (s.starts dt c 0x5034 [] = true → (st = 1 ∨ st = 2) → exec (.updAbort dt c) s =
        .next (((b.setFwSlot k {}).nvm fun n => { n with updState := 0 }).complete c .done).done)
    ∧ (s.starts dt c 0x5034 [] = true → st = 0 → exec (.updAbort dt c) s = .next (b.complete c .done).done)
    ∧ (s.starts dt c 0x5035 [] = true → ∀ (f : FwSlot) (v : State), f = b.slot b.nv.active →
      v = ((b.setCopy b.nv.active { ok := true, live := false, schema := f.schema, vals := f.defaults }).wr Reg.SET_STAT_RESULT 0 2).wr Reg.SET_STAT_REASON 0 5 →
      exec (.setDefaults dt c) s = .next ((v.raise 0x2182 0xFFFF
        (atByte 16 2 + atByte 17 5 + atByte 20 (b.nv.copy b.nv.active).schema + atByte 22 f.schema)).complete c .done).done)
    ∧ (u.running = true → u.nv.updState = 4 → u.flag Reg.UPD_CFG_AUTOCONF = true → u.trialOver = true → exec (.autoConfirm dt) s = .next u.confirm.done)
    ∧ (u.running = true → u.nv.updState = 4 → u.flag Reg.UPD_CFG_AUTOCONF = false → u.trialOver = true → exec (.trialTimeout dt) s =
        .next (((u.trialFails 4).resetDieC false true).pw fun p => { p with restartAt := some u.now }).done)
    ∧ (s.starts dt c 0x5001 [.twin] = true → b.flag Reg.TW_CFG_EN = true → b.twin.swap = none → b.twin.equinox = none → b.twRole ≠ 2 → st = 2 →
      (b.slot k).valid = true → b.twSt = 3 → ((b.slot k).formats.contains 0x0102) = true → exec (.twEquinox dt c true true) s =
        .next ((((b.begin c).tw fun t => { t with equinox := some c }).nvm fun n => { n with eqStep := 1 }).eqEvent 1 0).done)
    ∧ (u.twLive = true → ∀ n, u.nv.eqStep = n → ∀ v : State, v = (u.nvm fun x => { x with eqStep := n + 1 }).eqEvent (n + 1) 0 →
      (n = 1 → exec (.equinoxStep dt 2 false sig peer) s = .next v.done)
      ∧ (n = 2 → v.twRole = 1 → exec (.equinoxStep dt 3 false sig peer) s = .next (v.swapAsk [] false peer).done)
      ∧ (n = 3 → v.twRole = 2 → exec (.equinoxStep dt 4 false sig peer) s = .next (v.eqCommit sig).done)
      ∧ (n = 4 → exec (.equinoxStep dt 5 false sig peer) s = .next (v.eqEnd .done 0).done)
      ∧ (1 ≤ n → n ≤ 4 → exec (.equinoxStep dt (n + 1) true sig peer) s = .next ((u.eqEvent (n + 1) 1).eqEnd .faulted 0x1D12).done))

/-- Exec answers a next state: a scrub that is due handles the errors it found one after another, and one without errors only notes its time. In a
calibration that is due a converter that has drifted by more than 4 LSB is retired: with its spare comparator unused it takes that spare and the
retirement log gains one record of kind 4 with the spare in use; with the spare used its results become invalid, and the record says that no spare
was left. Converters within 4 LSB, and those already invalid, are left alone. (R804, R805, R806, R807, R808, R809) -/
def Obligations.ScrubAndCalibration : Prop :=
  ∀ (s : State) (dt : Ns) (hits : List ScrubHit) (k : Nat) (x : Int),
    let u := s.tick dt
    let sc : State := { u with flt := { u.flt with scrubAt := some u.now } }
    let ca : State := { u with flt := { u.flt with calAt := some u.now } }
    (u.dieC = true → (∀ t, u.flt.scrubAt = some t → t + 10000000000 ≤ u.now) →
      exec (.sramScrub dt hits) s = .next (hits.foldl State.scrubHit sc).done ∧ exec (.sramScrub dt []) s = .next sc.done)
    ∧ (u.dieC = true → (∀ t, u.flt.calAt = some t → t + 1000000000 ≤ u.now) →
      (x.natAbs ≤ 4 → exec (.adcCalibration dt [x, x, x, x]) s = .next ca.done)
      ∧ (k < 4 → 4 < x.natAbs → exec (.adcCalibration dt ((List.replicate k 0) ++ [x])) s = .next (ca.adcRetire k).done))
    ∧ (bit (u.rd Reg.SPR_MISC_ADCLOST) k = true → u.adcRetire k = u)
    ∧ (u.dieC = true → k < 4 → bit (u.rd Reg.SPR_MISC_ADCLOST) k = false → bit (u.rd Reg.SPR_MISC_ADCSP) k = false →
      u.adcRetire k = (u.wr Reg.SPR_MISC_ADCSP 0 (u.rd Reg.SPR_MISC_ADCSP + 2 ^ k)).retire 4 6 k 0xFF true false
      ∧ (u.adcRetire k).nv.retired.length = u.nv.retired.length + 1)
    ∧ (u.dieC = true → k < 4 → bit (u.rd Reg.SPR_MISC_ADCLOST) k = false → bit (u.rd Reg.SPR_MISC_ADCSP) k = true →
      u.adcRetire k = (u.wr Reg.SPR_MISC_ADCLOST 0 (u.rd Reg.SPR_MISC_ADCLOST + 2 ^ k)).retire 4 6 k 0xFF false true
      ∧ (u.adcRetire k).nv.retired.length = u.nv.retired.length + 1)

/-- Exec answers a next state: a whole aligned write to a window that the function may write reaches that window, one of another width or alignment
changes nothing, one to a window that the function may not write is a violation, and one to a reserved window does nothing; a whole aligned read
latches the register's word with the read's own effect, in a reserved window 0, and a read of another width or alignment latches all ones. A net
of 0 to 2 that PF0 declares is taken with its thresholds; a Pace request of PF0 starts its change, or waits for the running one; RELEASE ends
limp-home through heartbeat loss where it may, and is a clamp elsewhere; TCCOMMIT, SWAP, STOP and DEAUTH act; SEARCH starts a search, or is a
clamp where none may start; CLR empties the node table; CASE_OVERTEMP is cleared by its W1C bit once its cause has gone, and the write is refused
before; DBGMAX takes the lower of the value and its present one; LOCK becomes 1. (R10, R11, R19, R68, R86, R259, R312, R348, R368, R792, R863,
R878) -/
def Obligations.SetupReadsAndWrites : Prop :=
  ∀ (s : State) (dt : Ns) (pf win off size v g : Nat) (fail lost force : Bool),
    let u := s.tick dt
    (u.writable pf win off = true → win < 34 → off < 4096 → reservedWin win = false →
      (win ≠ 1 → off % 4 = 0 → exec (.setupWrite dt pf win off 4 v fail lost) s = .next (u.setupWrite pf win off (v % 2 ^ 32) { fail, lost }).done)
      ∧ (win = 1 → off % 4 = 0 → exec (.setupWrite dt pf win off 4 v fail lost) s = .next (u.hrSetup pf off (v % 2 ^ 32)).done)
      ∧ ((size ≠ 4 ∨ off % 4 ≠ 0) → exec (.setupWrite dt pf win off size v fail lost) s = .next u.done))
    ∧ (u.hrReach pf = true → u.running = true → mayWrite pf win off = false → win < 34 → off < 4096 → reservedWin win = false →
      exec (.setupWrite dt pf win off size v fail lost) s = .next (u.violate { pf, kind := 0, win, off, time := u.ntime }).done)
    ∧ (reservedWin win = true → win < 256 → exec (.setupWrite dt pf win off size v fail lost) s = .next u.done)
    ∧ (u.host.linkUp = true → pf < 4 → win < 256 → off < 4096 →
      (off % 4 = 0 → ¬ (win = 0x1E ∧ off = 0x804) →
        exec (.rcRead dt pf win off 4) s =
          .next (({ u with host := { u.host with readback := if reservedWin win then 0 else u.readWord pf win off } } : State).rcRead pf win off).done)
      ∧ (size ≠ 4 ∨ off % 4 ≠ 0 →
        exec (.rcRead dt pf win off size) s = .next ({ u with host := { u.host with readback := 2 ^ (8 * size) - 1 } } : State).done))
    ∧ (u.writable 0 0 0 = true → v ≤ 2 → exec (.netDeclare dt 0 v) s = .next ((u.wr Reg.GLB_NETCFG_NET 0 v).netDeclared).done)
    ∧ (u.writable 0 0 0 = true → v ≤ 2 → ∀ x : State, x = (u.wr Reg.GLB_PACE_REQ 0 v).wr Reg.GLB_PACE_REQ 0 (u.rd Reg.GLB_PACE_REQ) →
      exec (.paceRequest dt 0 v) s = .next (if x.flag Reg.GLB_PACE_BUSY then
        { (x.wr Reg.GLB_PACE_REQ 0 v) with pwr := { x.pwr with paceNext := some v } } else x.paceStart v).done)
    ∧ (u.writable 0 5 0x608 = true → u.rd Reg.FLT_GLB_CASE_OVERTEMP = 1 →
      exec (.w1cFaultClear dt 0 5 0x608 2) s =
        .next (if u.tcase ≤ 800 then u.wr Reg.FLT_GLB_CASE_OVERTEMP 0 0 else u.clearRefused 5 5 0x608 1 0 0xFFFF).done)
    ∧ (u.writable pf 8 0xD04 = true →
      (pf = 0 → bit (u.rd Reg.LIMP_STAT_CAUSE) 1 = true → u.hbPresent = true → u.out.hbReady = true → u.flag Reg.LIMP_STAT_LIMPN = false →
        exec (.limpRelease dt pf) s = .next ((u.wr Reg.LIMP_STAT_HBLOSS 0 0).limpExit 2).done)
      ∧ (pf ≠ 0 ∨ bit (u.rd Reg.LIMP_STAT_CAUSE) 1 = false ∨ u.hbPresent = false ∨ u.out.hbReady = false ∨ u.flag Reg.LIMP_STAT_LIMPN = true →
        exec (.limpRelease dt pf) s = .next (u.clampBit 0x08 pf 0x0D04 0 1 1 0).done))
    ∧ (u.writable pf 0x0B 0xC04 = true → v < 4096 → exec (.tccommit dt pf v) s = .next (((List.range 12).filter (bit v)).foldl State.ldCommit u).done)
    ∧ (u.writable pf 0x0C 8 = true → exec (.mxSwapRequest dt pf) s = .next (u.wr Reg.MX_STAT_SWAPPEND 0 1).done)
    ∧ (u.writable pf 3 0 = true → exec (.stopRequest dt pf force) s = .next (u.stopRequest force).done)
    ∧ (u.writable pf 4 4 = true → v < 4 → exec (.dbgmaxWrite dt pf v) s = .next
        (if v ≤ u.rd Reg.SEC_DBG_DBGMAX then (u.wr Reg.SEC_DBG_DBGMAX 0 v).dbgCap
          else ((u.wr Reg.SEC_DBG_DBGMAX 0 (u.rd Reg.SEC_DBG_DBGMAX)).logSetup 4 pf
            [{ offset := 4, lsb := 4, width := 2, src := 0, pf, req := v, applied := u.rd Reg.SEC_DBG_DBGMAX % 4 }]).dbgCap).done)
    ∧ (u.writable pf 4 0x18 = true → exec (.dmaLock dt pf) s = .next (u.wr Reg.SEC_DMALOCK_LOCK 0 1).done)
    ∧ (u.writable pf 0x20 0xC = true →
      exec (.accSearch dt pf) s = .next (if u.accBusy then u.clampBit 0x20 pf 0x0C 0 1 1 0 else u.searchStart 1 0).done
      ∧ exec (.accDeauth dt pf) s = .next (u.authEnd 2).done)
    ∧ (u.writable pf 0x1C 0xC20 = true → g < 64 → exec (.nodeTableClear dt pf g) s = .next ((u.wr Reg.NM_NSEL_SEG 0 g).clearNodes g).done)

/-- Exec answers a next state: CAN_ENABLE, RXQ_ENABLE, NM_ENABLE, NM_DISABLE, TW_ENABLE and TW_DISABLE write EN with the other fields of the register
as they read; FIFE_RUN and FIFE_HALT write RUN and run or halt the core; FIFE_RESTART and FIFE_BIST of a core write its control word with RUN as
it reads, which runs or halts it, and restart it or test it; a data word of a core is read, or written through FIFE_MDATA; a FIT entry is read,
committed, or its counters cleared; ACTIVE of a block in fault is cleared where no source of it persists and the write is refused where one does;
and PF0 with a reason releases a frozen PF1, PF2 or PF3, while a release without a reason is a clamp. (R544, R564, R616, R644, R650, R689, R693,
R768, R769, R771, R794, R801) -/
def Obligations.EnablesAndCores : Prop :=
  ∀ (s : State) (dt : Ns) (pf n g k v w reason : Nat) (fail lost : Bool),
    let u := s.tick dt
    (u.hrReach pf = true → n < 16 → exec (.canEnable dt pf n fail) s = .next (u.writeField pf Reg.CAN_CTL_EN n 1 { fail }).done)
    ∧ (u.hrReach pf = true → g < 34 → exec (.rxqEnable dt pf g) s = .next (u.writeField pf Reg.RXQ_CFG_EN g 1).done
      ∧ exec (.nmEnable dt pf g) s = .next (u.writeField pf Reg.NM_CFG_EN g 1).done
      ∧ exec (.nmDisable dt pf g) s = .next (u.writeField pf Reg.NM_CFG_EN g 0).done)
    ∧ (u.hrReach pf = true → exec (.twEnable dt pf) s = .next (u.writeField pf Reg.TW_CFG_EN 0 1).done
      ∧ exec (.twDisable dt pf) s = .next (u.writeField pf Reg.TW_CFG_EN 0 0).done)
    ∧ (u.writable pf 0x1E 4 = true → k < 4 → exec (.fifeRun dt pf k) s = .next ((u.wr Reg.FIFE_CTL_RUN k 1).fifeRun k).done
      ∧ exec (.fifeHalt dt pf k) s = .next ((u.wr Reg.FIFE_CTL_RUN k 0).fifeHalt k).done)
    ∧ (u.writable pf 0x1E 4 = true → k < 4 → ∀ x : State,
      ((u.rd Reg.FIFE_CTL_RUN k = 1 ∧ x = (u.wr Reg.FIFE_CTL_RUN k 1).fifeRun k) ∨ (u.rd Reg.FIFE_CTL_RUN k = 0 ∧ x = (u.wr Reg.FIFE_CTL_RUN k 0).fifeHalt k)) →
      exec (.fifeRestart dt pf k) s = .next (x.fifeRestart k).done
      ∧ exec (.fifeBist dt pf k fail lost) s = .next (x.fifeBist k fail lost).done)
    ∧ (u.writable pf 0x1E 0x804 = true → exec (.fifeMemAccess dt pf (some v)) s = .next (u.mdataWrite pf (v % 2 ^ 32)).done)
    ∧ (u.host.linkUp = true → pf < 4 → exec (.fifeMemAccess dt pf none) s =
        .next (({ u with host := { u.host with readback := u.readWord pf 0x1E 0x804 } } : State).mdataRead).done)
    ∧ (u.writable pf 0x1A 4 = true → exec (.fitRead dt pf) s = .next ({ u with net := { u.net with staging := (u.fit u.fitIdx).word } } : State).done
      ∧ exec (.fitCommit dt pf) s = .next (u.fitCommit pf).done
      ∧ exec (.fitClearCounters dt pf) s = .next u.fitClear.done)
    ∧ (u.writable pf 5 0 = true → pf ≤ 1 → isBlock w = true → (u.blk w).active = true →
      (u.persists w = false → exec (.fltActiveClear dt pf w) s =
        .next ({ u with flt := { u.flt with
          blks := tput u.flt.blks w { u.blk w with active := false, merge := 0, firstev := 0 }, shawm := u.flt.shawm.filter (· != w) } } : State).done)
      ∧ (u.persists w = true → exec (.fltActiveClear dt pf w) s = .next (u.clearRefused w 5 (0x20 * w) 0 pf 0xFFFF).done))
    ∧ (u.writable 0 5 0x704 = true → 1 ≤ k → k < 4 → (u.fn k).frozen = true →
      (1 ≤ reason → reason < 65536 → exec (.frzRel dt 0 k reason) s = .next (u.unfreeze k reason).done)
      ∧ exec (.frzRel dt 0 k 0) s = .next (u.clampBit 5 0 0x704 16 16 0 0).done)

/-- A step of a state with command c at the front of its queue is exec of c on that state with the queue's rest. With an empty queue a step answers
the state itself: that the block idles then, and that commands come one after another from one queue, is the model's choice (log entry 1). (R20,
R116) -/
def Obligations.StepTakesTheFrontCommand : Prop :=
  ∀ (s : State) (c : Instr) (q : List Instr),
    step { s with pending := c :: q } = exec c { s with pending := q } ∧ (s.pending = [] → step s = .next s)

/-- For every command and every state, exec answers a next state (no fault, no refusal), in which the waiting commands are those that waited before
and the monotonic time is not lower; every step therefore answers a next state too. That a command meeting none of its conditions still answers is
the model's choice (log entry 2). (R13, R17, R20) -/
def Obligations.EveryCommandAnswers : Prop :=
  (∀ (c : Instr) (s : State), ∃ t, exec c s = .next t ∧ t.pending = s.pending ∧ s.now ≤ t.now) ∧ ∀ s : State, SafeStep s

/-- From every state, the retirement log after a step begins with the log before it: records are appended and none is removed or changed, whatever the
command. (R811, R812, R813) -/
def Obligations.RetirementsAreIrreversible : Prop :=
  ∀ s t : State, step s = .next t → s.nv.retired <+: t.nv.retired

/-- From every state whose register file is canonical (fields, and in each field the indices, strictly rise), a step leads to a state whose register
file is canonical, so that equal register contents stay equal data. The form is the model's choice (log entry 3). (R19, R20) -/
def Obligations.RegisterFileStaysCanonical : Prop :=
  ∀ s t : State, regsCanon s.regs → step s = .next t → regsCanon t.regs

/-- After power-up reset the register file is canonical and every field at every index reads its own reset value, no command waits or is in flight, no
ring is enabled, no function is frozen, no block is in its fault state, and the lifecycle reads BLANK (that a fresh part is BLANK is the model's
choice, log entry 4); the twin agent belongs to PF0, the access object to PF3 and every other object to PF1. (R20, R81, R85, R126, R850, R863) -/
def Obligations.ResetState : Prop :=
  let z := State.reset
  regsCanon z.regs ∧ (∀ (f : Field) (i : Nat), z.rd f i = f.rst i) ∧ z.pending = [] ∧ z.host.inflight = []
  ∧ (∀ pf n, (z.cmdRing pf n).en = false ∧ (z.cplRing pf n).en = false ∧ (z.evtRing pf).en = false ∧ (z.fn pf).frozen = false)
  ∧ (∀ w, (z.blk w).active = false) ∧ z.lifecycle = 0
  ∧ z.owner 0x400 = 0 ∧ z.owner 0x500 = 3 ∧ ∀ o, o ≠ 0x400 → o ≠ 0x500 → z.owner o = 1

/-- After a field at an index takes a value, it reads that value reduced to its width; every other field and every other index reads as before, and no
component of the state but the register file changes. (R18, R19, R20) -/
def Obligations.RegistersReadBack : Prop :=
  ∀ (s : State) (f g : Field) (i j v : Nat),
    (s.wr f i v).rd f i = v % 2 ^ f.width ∧ (f.id ≠ g.id ∨ i ≠ j → (s.wr f i v).rd g j = s.rd g j) ∧ { s.wr f i v with regs := s.regs } = s

/-- A completion, the beginning of an effect and a DEFERRED completion change the host component only; an event changes the host and the fault
component only; time changes the two clocks only; a clamp that is logged changes the fault component only. The operations that end every row leave
a state alone in which nothing falls due: no completion waits to be written, no freeze and no orphan policy waits, no loop is closed or held, no
chop period brings a held valve a new level, and the module is neither the Lead of a running pair nor a Shadow. (R13, R131, R138, R139, R271,
R488, R708) -/
def Obligations.OperationsLeaveTheRest : Prop :=
  ∀ (s : State) (c : Cmd) (code : Code) (sub dt type obj data w : Nat) (fault : Bool) (e : ClampEntry) (pfs : List Nat),
    { s.complete c code sub with host := s.host } = s ∧ { s.begin c with host := s.host } = s ∧ { s.defer c dt sub with host := s.host } = s
    ∧ { s.raiseTo type obj data fault pfs with host := s.host, flt := s.flt } = s ∧ { s.tick dt with now := s.now, ntime := s.ntime } = s
    ∧ { s.logClamp w e with flt := s.flt } = s ∧ (s.quiet = true → s.done = s)

/-- For a host command in flight with no CANCEL waiting for it, of a function that is not frozen, whose completion ring is enabled and may be written,
while no other completion waits to be written: its final completion leaves the set of commands in flight without it, and the writing of
completions with which each row ends (R119) puts it into the ring's tail entry with the command's TAG and ring, the code (DONE becomes
DONE_CLAMPED when a field was clamped, every other code stays), the sub-code, the ring's PHASE and the present network time, and moves the tail by
one. (R17, R136) -/
def Obligations.CompletionReachesItsRing : Prop :=
  ∀ (s : State) (c : Cmd) (code : Code) (sub : Nat) (r : InFlight),
    s.flight c = some r → r.cmd = c → r.cancels = [] → c.src = .host → s.host.outbox = [] → s.host.staleCmds.contains c = false → (s.fn c.pf).frozen = false →
    (s.cplRing c.pf r.cpl).en = true → s.dmaOk c.pf ((s.cplRing c.pf r.cpl).addr 16) 16 = true →
    let x := s.cplRing c.pf r.cpl
    let t := (s.complete c code sub).sendCpls
    t.flight c = none ∧ (t.cplRing c.pf r.cpl).tail = (x.tail + 1) % 65536
    ∧ .completion c.pf r.cpl (x.tail % x.size)
        { tag := c.tag, code := if code = .done ∧ 0 < r.clamps then .doneClamped else code, ring := c.ring, phase := x.phase, sub, slot := c.slot, time := s.ntime }
      ∈ t.host.sent ++ t.host.waiting

/-- For the enabled event ring of a function that is not frozen: when the ring is full, the event is not written, LOST rises by one (saturating) and
EVSEQ rises by one; when it is not full and may be written, the event enters the tail entry with EVSEQ and with LOST set exactly when an event was
discarded since the last one written, and EVSEQ rises by one. (R140) -/
def Obligations.FullEventRing : Prop :=
  ∀ (ok : Nat → Nat → Nat → Bool) (now : Ns) (h : HostState) (pf : Nat) (e : Event) (r : OutRing),
    (tget {} h.fns pf : Func).frozen = false → r = tget {} h.evtRings pf → r.en = true →
    let t := h.putEvent ok now pf e
    let r' : OutRing := tget {} t.evtRings pf
    (r.used = r.size → t.sent = h.sent ∧ t.waiting = h.waiting ∧ r'.tail = r.tail ∧ r'.lost = min (r.lost + 1) 65535 ∧ r'.lostFlag = true
      ∧ r'.evseq = (r.evseq + 1) % 65536)
    ∧ (r.used ≠ r.size → ok pf (r.addr 32) 32 = true →
      .event pf (r.tail % r.size) { e with phase := r.phase, lost := r.lostFlag, seq := r.evseq } ∈ t.sent ++ t.waiting
      ∧ r'.tail = (r.tail + 1) % 65536 ∧ r'.lostFlag = false ∧ r'.lost = r.lost ∧ r'.evseq = (r.evseq + 1) % 65536)

/-- While die C serves its blocks: a fault of a block whose ACTIVE is 0 sets ACTIVE, stores its type (the low byte, the width of FIRSTEV) and carries
MERGE 0; a fault while ACTIVE is 1 leaves FIRSTEV, raises MERGE by one up to FFh, carries the new count, and reaches the rings without a block
interrupt; an event that is no fault carries MERGE 0 and leaves ACTIVE, MERGE and FIRSTEV. (R789, R791) -/
def Obligations.BlockFaultState : Prop :=
  ∀ (s : State) (type obj data : Nat), s.dieC = true →
    let b := s.blk (blockOf type)
    let t := s.raiseFault type obj data
    let u := s.raise type obj data
    let b' := t.blk (blockOf type)
    let n := u.blk (blockOf type)
    (b.active = false → b'.active = true ∧ b'.firstev = type % 256 ∧ b'.merge = 0 ∧ ∃ x, b'.hist.head? = some x ∧ x.event.type = type ∧ x.event.merge = 0)
    ∧ (b.active = true → b'.active = true ∧ b'.firstev = b.firstev ∧ b'.merge = min (b.merge + 1) 255
      ∧ (∃ x, b'.hist.head? = some x ∧ x.event.type = type ∧ x.event.merge = min (b.merge + 1) 255)
      ∧ ∃ e : Event, e.merge = min (b.merge + 1) 255 ∧ t.host = (s.routes obj).foldl (fun h k => h.putEvent s.dmaOk s.now k e) s.host)
    ∧ (n.active = b.active ∧ n.firstev = b.firstev ∧ n.merge = b.merge ∧ ∃ x, n.hist.head? = some x ∧ x.event.type = type ∧ x.event.merge = 0)

/-- A value written to an unlocked field with limits lo and hi becomes lo below lo, hi above hi, and stays itself in between. A clamp enters the slot
of its window's log that its running number picks of 16; the slots of the 15 clamps before it keep theirs, the total rises by one up to FFFFh, and
the logs of other windows stand. Sixteen clamps later the slot holds the newer clamp. (R138) -/
def Obligations.ClampsAndTheirLog : Prop :=
  ∀ (s : State) (pf src w w' lo hi j : Nat) (dn : Done) (p : Put) (e : ClampEntry),
    let l := fun (s : State) (w : Nat) => tget ({} : ClampLog) s.flt.clogs w
    let t := s.logClamp w e
    (s.fieldLocked pf src p.f p.i = false → p.f.rng = .range lo hi → lo ≤ hi →
      (p.v < lo → s.clampOne pf src dn p = lo) ∧ (hi < p.v → s.clampOne pf src dn p = hi) ∧ (lo ≤ p.v → p.v ≤ hi → s.clampOne pf src dn p = p.v))
    ∧ ((l s w).next < 16 → (l t w).next = ((l s w).next + 1) % 16 ∧ tget e (l t w).entries (l s w).next = e
      ∧ (j ≠ (l s w).next → tget e (l t w).entries j = tget e (l s w).entries j) ∧ (l t w).total = min ((l s w).total + 1) 65535)
    ∧ (w' ≠ w → l t w' = l s w')
    ∧ ∀ es : List ClampEntry, (l s w).next < 16 → es.length = 16 → ∀ k, k < 16 →
      tget e (l (s.logClamps w es) w).entries (((l s w).next + k) % 16) = es.getD k e

/-- While die C runs, a submitted response for a level that the lifecycle state does not offer or that lies above DBGMAX gives RESULT 2 and leaves the
count of failures; any other response that is not granted raises the count by one. (R866) -/
def Obligations.DebugRequestsOutOfReach : Prop :=
  ∀ (s : State) (dt : Ns) (req : Nat) (rcd : List Byte) (sig : Bool),
    let u := s.tick dt
    let level := recNum rcd 52 1
    u.running = true →
    (offers u.lifecycle level = false ∨ u.rd Reg.SEC_DBG_DBGMAX < level → ∃ v : State, exec (.dapSubmit dt req rcd sig) s = .next v.done
        ∧ v.sec.result = 2 ∧ v.sec.fails = u.sec.fails)
    ∧ (offers u.lifecycle level = true → level ≤ u.rd Reg.SEC_DBG_DBGMAX → u.dapResult req rcd sig ≠ 1 → ∃ v : State,
        exec (.dapSubmit dt req rcd sig) s = .next v.done ∧ v.sec.result = u.dapResult req rcd sig ∧ v.sec.fails = u.sec.fails + 1)

/-- DMA_LOCK by a function that may write it answers a state with LOCK set. While LOCK is 1, whatever a setup write carries for a field of a SEC_DMAW
register or for LOCK, the field takes its present value, so that the write is a clamp where it asks for another one. After power-up reset LOCK is
0. (R875, R878) -/
def Obligations.DmaLockHolds : Prop :=
  ∀ (s : State) (dt : Ns) (pf src v i : Nat) (dn : Done) (f : Field),
    let u := s.tick dt
    (u.writable pf 4 0x18 = true → ∃ t : State, exec (.dmaLock dt pf) s = .next t.done ∧ t.flag Reg.SEC_DMALOCK_LOCK = true)
    ∧ (s.flag Reg.SEC_DMALOCK_LOCK = true → f ∈ Reg.SEC_DMALOCK_LOCK :: dmaRange → i < 16 → ∀ off,
      s.clampOne pf src dn { f, i := if f.id = Reg.SEC_DMALOCK_LOCK.id then 0 else i, off, v } = s.rd f (if f.id = Reg.SEC_DMALOCK_LOCK.id then 0 else i))
    ∧ State.reset.flag Reg.SEC_DMALOCK_LOCK = false

/-- While a function is frozen: a doorbell and a setup write of it change nothing but time; a setup read of it is answered as it would be for a
function that is not frozen; its completions, events and MSI-X messages leave what was sent and what waits for the link as they were, and stand
last among what is held for the release. That messages are held too is the model's reading (log entry 55). (R131, R132, R144, R271) -/
def Obligations.FrozenFunction : Prop :=
  ∀ (s : State) (dt : Ns) (pf off v win size : Nat) (t : SelfTest) (ok : Nat → Nat → Nat → Bool) (h : HostState) (e : Event) (m : Nat) (c : Completion),
    let u := s.tick dt
    ((u.fn pf).frozen = true → exec (.dbCmd dt pf m v) s = .next u.done ∧ exec (.dbCpl dt pf m v) s = .next u.done
      ∧ exec (.dbEvt dt pf v) s = .next u.done)
    ∧ ((u.fn pf).frozen = true → win < 256 → u.writeReg pf win off size v t = u)
    ∧ ((u.fn pf).frozen = true → u.host.linkUp = true → pf < 4 → win < 34 → off < 4096 → off % 4 = 0 → reservedWin win = false →
      (u.readReg pf win off 4).host.readback = u.readWord pf win off)
    ∧ ((tget {} h.fns pf : Func).frozen = true → ∀ x : HostState,
      (x = h.putEvent ok dt pf e → x.sent = h.sent ∧ x.waiting = h.waiting ∧ (tget {} x.fns pf : Func).held = (tget {} h.fns pf : Func).held ++ [.event e])
      ∧ (x = h.putCompletion ok dt pf m c → x.sent = h.sent ∧ x.waiting = h.waiting
        ∧ (tget {} x.fns pf : Func).held = (tget {} h.fns pf : Func).held ++ [.completion m c])
      ∧ (x = h.signal pf m → x.sent = h.sent ∧ x.waiting = h.waiting ∧ (tget {} x.fns pf : Func).held = (tget {} h.fns pf : Func).held ++ [.msix m]))

/-- The switching edges of a string: the average over FSW periods is exactly that of FSW, FSW edges lie 8,000 TB9 counts apart, and one period has the
whole part of 8,000 / FSW counts, or one more. A duty above 0 has an on-time of 1 µs at least; without HYB the current of the on-time is ITGT, and
with it an on-time that would be below 1/16 µs runs at ITGT / 16. The matrix row in scan is one of NROWS, the one of its LINE since the frame's
start. In the on-time of a bridge that drives, the high switches of the one side and the low switches of the other conduct, as DIR says; in the
off-time the low switches conduct with DECAY 0, and none with DECAY 1; none conducts while the bridge is OFF, latched or in a wait state. With
RECOV 0 a coil decays at 0.5 V. A switch input gets no wetting current while the front end is unpowered, outside Stop. (The rounding of the edges
is log entry 85.) (R333, R338, R365, R408, R441, R506) -/
def Obligations.StageWaveforms : Prop :=
  ∀ (s : State) (n m j k d : Nat),
    let o := hbObj n
    let fsw := s.rd Reg.LD_CFG0_FSW n
    let itgt := s.ldItgt n (s.led n).iset
    (fsw ≠ 0 → s.ldSwEdge n (j + fsw) = s.ldSwEdge n j + 8000
      ∧ (s.ldSwEdge n (j + 1) = s.ldSwEdge n j + 8000 / fsw ∨ s.ldSwEdge n (j + 1) = s.ldSwEdge n j + 8000 / fsw + 1))
    ∧ (d ≠ 0 → 100 ≤ s.ldOnTime n d ∧ (s.flag Reg.LD_CFG1_HYB n = false → s.ldCurrent n d = itgt)
      ∧ (s.flag Reg.LD_CFG1_HYB n = true → 16 * s.ldExact n d < 100 → s.ldCurrent n d = roundDiv itgt 16))
    ∧ s.mxRow < s.rd Reg.MX_CFG0_NROWSM1 + 1
    ∧ (s.rd Reg.MX_CFG0_LINE ≠ 0 → s.now = s.out.mx.frameAt + k * (s.rd Reg.MX_CFG0_LINE * 1000) → s.mxRow = k % (s.rd Reg.MX_CFG0_NROWSM1 + 1))
    ∧ (s.st o = 1 ∨ s.st o = 2 →
      (m < n + s.hbSide n → s.hbHalf n m true = if s.rd Reg.HB_STAT_DIR n = 0 then .high else .low)
      ∧ (n + s.hbSide n ≤ m → s.hbHalf n m true = if s.rd Reg.HB_STAT_DIR n = 0 then .low else .high)
      ∧ s.hbHalf n m false = if s.flag Reg.HB_CFG0_DECAY n then .none else .low)
    ∧ (s.st o = 0 ∨ 4 < s.st o → ∀ on, s.hbHalf n m on = .none)
    ∧ (s.flag Reg.SV_CFG2_RECOV n = false → s.svDecayVolt n = 50)
    ∧ (s.frontEnd = false → s.pwr.phase ≠ .stop → s.swWet n = 0)
end

