-- ==== Sys2Proof/Laws/Exec.lean ====
section
/-!
SUPPORT. Sys2Proof/Laws/Exec.lean: what exec calls for each command, one lemma per constructor.
-/
namespace Sys2Proof.Machine

theorem exec_setupWrite (s : State) (dt : Nat) (pf win off size v : Nat) (fail lost : Bool) : exec (.setupWrite dt pf win off size v fail lost) s = execSetupWrite dt pf win off size v fail lost s := rfl
theorem exec_rcRead (s : State) (dt : Nat) (pf win off size : Nat) : exec (.rcRead dt pf win off size) s = execRcRead dt pf win off size s := rfl
theorem exec_dbCmd (s : State) (dt : Nat) (pf n v : Nat) : exec (.dbCmd dt pf n v) s = execDbCmd dt pf n v s := rfl
theorem exec_dbCpl (s : State) (dt : Nat) (pf m v : Nat) : exec (.dbCpl dt pf m v) s = execDbCpl dt pf m v s := rfl
theorem exec_dbEvt (s : State) (dt : Nat) (pf v : Nat) : exec (.dbEvt dt pf v) s = execDbEvt dt pf v s := rfl
theorem exec_commandFetch (s : State) (dt : Nat) (pf n : Nat) (batch : List Cmd) (fail : Bool) : exec (.commandFetch dt pf n batch fail) s = execCommandFetch dt pf n batch fail s := rfl
theorem exec_dmaReadFail (s : State) (dt : Nat) (c : Cmd) : exec (.dmaReadFail dt c) s = execDmaReadFail dt c s := rfl
theorem exec_nop (s : State) (dt : Nat) (c : Cmd) : exec (.nop dt c) s = execNop dt c s := rfl
theorem exec_cancel (s : State) (dt : Nat) (c : Cmd) : exec (.cancel dt c) s = execCancel dt c s := rfl
theorem exec_setTime (s : State) (dt : Nat) (c : Cmd) : exec (.setTime dt c) s = execSetTime dt c s := rfl
theorem exec_readStatus (s : State) (dt : Nat) (c : Cmd) : exec (.readStatus dt c) s = execReadStatus dt c s := rfl
theorem exec_readHistory (s : State) (dt : Nat) (c : Cmd) : exec (.readHistory dt c) s = execReadHistory dt c s := rfl
theorem exec_readCounters (s : State) (dt : Nat) (c : Cmd) : exec (.readCounters dt c) s = execReadCounters dt c s := rfl
theorem exec_readRetirements (s : State) (dt : Nat) (c : Cmd) : exec (.readRetirements dt c) s = execReadRetirements dt c s := rfl
theorem exec_readIdentity (s : State) (dt : Nat) (c : Cmd) : exec (.readIdentity dt c) s = execReadIdentity dt c s := rfl
theorem exec_cmdRingEnable (s : State) (dt : Nat) (pf n : Nat) : exec (.cmdRingEnable dt pf n) s = execCmdRingEnable dt pf n s := rfl
theorem exec_cmdRingDisable (s : State) (dt : Nat) (pf n : Nat) : exec (.cmdRingDisable dt pf n) s = execCmdRingDisable dt pf n s := rfl
theorem exec_cplRingEnable (s : State) (dt : Nat) (pf m : Nat) : exec (.cplRingEnable dt pf m) s = execCplRingEnable dt pf m s := rfl
theorem exec_cplRingDisable (s : State) (dt : Nat) (pf m : Nat) : exec (.cplRingDisable dt pf m) s = execCplRingDisable dt pf m s := rfl
theorem exec_evtRingEnable (s : State) (dt : Nat) (pf : Nat) : exec (.evtRingEnable dt pf) s = execEvtRingEnable dt pf s := rfl
theorem exec_evtRingDisable (s : State) (dt : Nat) (pf : Nat) : exec (.evtRingDisable dt pf) s = execEvtRingDisable dt pf s := rfl
theorem exec_ownerChange (s : State) (dt : Nat) (o v : Nat) : exec (.ownerChange dt o v) s = execOwnerChange dt o v s := rfl
theorem exec_msixModtimeExpiry (s : State) (dt : Nat) (pf kind m : Nat) : exec (.msixModtimeExpiry dt pf kind m) s = execMsixModtimeExpiry dt pf kind m s := rfl
theorem exec_msixUnmask (s : State) (dt : Nat) (pf v : Nat) (mask : Bool) : exec (.msixUnmask dt pf v mask) s = execMsixUnmask dt pf v mask s := rfl
theorem exec_functionLevelReset (s : State) (dt : Nat) (pf : Nat) : exec (.functionLevelReset dt pf) s = execFunctionLevelReset dt pf s := rfl
theorem exec_pePerstAssert (s : State) (dt : Nat) : exec (.pePerstAssert dt) s = execPePerstAssert dt s := rfl
theorem exec_powerUpReset (s : State) (dt : Nat) : exec (.powerUpReset dt) s = execPowerUpReset dt s := rfl
theorem exec_dieCBrownout (s : State) (dt : Nat) : exec (.dieCBrownout dt) s = execDieCBrownout dt s := rfl
theorem exec_dieCResetRelease (s : State) (dt : Nat) : exec (.dieCResetRelease dt) s = execDieCResetRelease dt s := rfl
theorem exec_warmReset (s : State) (dt : Nat) : exec (.warmReset dt) s = execWarmReset dt s := rfl
theorem exec_regRdy (s : State) (dt : Nat) : exec (.regRdy dt) s = execRegRdy dt s := rfl
theorem exec_oscRdy (s : State) (dt : Nat) : exec (.oscRdy dt) s = execOscRdy dt s := rfl
theorem exec_memRdy (s : State) (dt : Nat) (ok : Bool) : exec (.memRdy dt ok) s = execMemRdy dt ok s := rfl
theorem exec_logicRdy (s : State) (dt : Nat) (b : BootCheck) : exec (.logicRdy dt b) s = execLogicRdy dt b s := rfl
theorem exec_oscRdyTimeout (s : State) (dt : Nat) : exec (.oscRdyTimeout dt) s = execOscRdyTimeout dt s := rfl
theorem exec_regRdyTimeout (s : State) (dt : Nat) : exec (.regRdyTimeout dt) s = execRegRdyTimeout dt s := rfl
theorem exec_peWakeRelease (s : State) (dt : Nat) : exec (.peWakeRelease dt) s = execPeWakeRelease dt s := rfl
theorem exec_netDeclare (s : State) (dt : Nat) (pf v : Nat) : exec (.netDeclare dt pf v) s = execNetDeclare dt pf v s := rfl
theorem exec_ovFreeze (s : State) (dt : Nat) (g volt : Nat) : exec (.ovFreeze dt g volt) s = execOvFreeze dt g volt s := rfl
theorem exec_ovRelease (s : State) (dt : Nat) (g volt : Nat) : exec (.ovRelease dt g volt) s = execOvRelease dt g volt s := rfl
theorem exec_ovSustained (s : State) (dt : Nat) (g : Nat) : exec (.ovSustained dt g) s = execOvSustained dt g s := rfl
theorem exec_ovSustainedRelease (s : State) (dt : Nat) (g : Nat) : exec (.ovSustainedRelease dt g) s = execOvSustainedRelease dt g s := rfl
theorem exec_groundOffset (s : State) (dt : Nat) (mv : Nat) : exec (.groundOffset dt mv) s = execGroundOffset dt mv s := rfl
theorem exec_caseOvertemp (s : State) (dt : Nat) (tc : Nat) : exec (.caseOvertemp dt tc) s = execCaseOvertemp dt tc s := rfl
theorem exec_paceRequest (s : State) (dt : Nat) (pf v : Nat) : exec (.paceRequest dt pf v) s = execPaceRequest dt pf v s := rfl
theorem exec_paceSettled (s : State) (dt : Nat) : exec (.paceSettled dt) s = execPaceSettled dt s := rfl
theorem exec_fabricWindow (s : State) (dt : Nat) (rate pcie reed rest : Nat) : exec (.fabricWindow dt rate pcie reed rest) s = execFabricWindow dt rate pcie reed rest s := rfl
theorem exec_refclkLoss (s : State) (dt : Nat) : exec (.refclkLoss dt) s = execRefclkLoss dt s := rfl
theorem exec_refclkReturn (s : State) (dt : Nat) : exec (.refclkReturn dt) s = execRefclkReturn dt s := rfl
theorem exec_outOff (s : State) (dt : Nat) (c : Cmd) : exec (.outOff dt c) s = execOutOff dt c s := rfl
theorem exec_outOn (s : State) (dt : Nat) (c : Cmd) (vd : Nat) : exec (.outOn dt c vd) s = execOutOn dt c vd s := rfl
theorem exec_outPwm (s : State) (dt : Nat) (c : Cmd) (vd : Nat) : exec (.outPwm dt c vd) s = execOutPwm dt c vd s := rfl
theorem exec_clearFault (s : State) (dt : Nat) (c : Cmd) : exec (.clearFault dt c) s = execClearFault dt c s := rfl
theorem exec_chConfig (s : State) (dt : Nat) (c : Cmd) : exec (.chConfig dt c) s = execChConfig dt c s := rfl
theorem exec_learnReset (s : State) (dt : Nat) (c : Cmd) : exec (.learnReset dt c) s = execLearnReset dt c s := rfl
theorem exec_diagCheck (s : State) (dt : Nat) (c : Cmd) : exec (.diagCheck dt c) s = execDiagCheck dt c s := rfl
theorem exec_diagCheckTimeout (s : State) (dt : Nat) (o : Nat) : exec (.diagCheckTimeout dt o) s = execDiagCheckTimeout dt o s := rfl
theorem exec_w1cFaultClear (s : State) (dt : Nat) (pf win off v : Nat) : exec (.w1cFaultClear dt pf win off v) s = execW1cFaultClear dt pf win off v s := rfl
theorem exec_chOutcomeReached (s : State) (dt : Nat) (o : Seen) : exec (.chOutcomeReached dt o) s = execChOutcomeReached dt o s := rfl
theorem exec_pwmPeriodStart (s : State) (dt : Nat) (o : Seen) (lim : Bool) : exec (.pwmPeriodStart dt o lim) s = execPwmPeriodStart dt o lim s := rfl
theorem exec_overcurrentTrip (s : State) (dt : Nat) (o : Nat) (m : Meas) : exec (.overcurrentTrip dt o m) s = execOvercurrentTrip dt o m s := rfl
theorem exec_shortTrip (s : State) (dt : Nat) (o : Nat) (m : Meas) : exec (.shortTrip dt o m) s = execShortTrip dt o m s := rfl
theorem exec_clampEventEnd (s : State) (dt : Nat) (o e : Nat) : exec (.clampEventEnd dt o e) s = execClampEventEnd dt o e s := rfl
theorem exec_reverseCurrent (s : State) (dt : Nat) (o : Nat) (m : Meas) : exec (.reverseCurrent dt o m) s = execReverseCurrent dt o m s := rfl
theorem exec_reverseReclose (s : State) (dt : Nat) (o : Seen) : exec (.reverseReclose dt o) s = execReverseReclose dt o s := rfl
theorem exec_thermalTrip (s : State) (dt : Nat) (o : Nat) (m : Meas) : exec (.thermalTrip dt o m) s = execThermalTrip dt o m s := rfl
theorem exec_deltaTTrip (s : State) (dt : Nat) (o : Nat) (m : Meas) : exec (.deltaTTrip dt o m) s = execDeltaTTrip dt o m s := rfl
theorem exec_thermalRestart (s : State) (dt : Nat) (o : Nat) (m : Meas) : exec (.thermalRestart dt o m) s = execThermalRestart dt o m s := rfl
theorem exec_inrushDwellExpiry (s : State) (dt : Nat) (o : Nat) (m : Meas) : exec (.inrushDwellExpiry dt o m) s = execInrushDwellExpiry dt o m s := rfl
theorem exec_inrushOffEnd (s : State) (dt : Nat) (o : Nat) : exec (.inrushOffEnd dt o) s = execInrushOffEnd dt o s := rfl
theorem exec_inrushEnd (s : State) (dt : Nat) (o lim : Nat) (m : Meas) : exec (.inrushEnd dt o lim m) s = execInrushEnd dt o lim m s := rfl
theorem exec_inrushTimeout (s : State) (dt : Nat) (o : Nat) (m : Meas) : exec (.inrushTimeout dt o m) s = execInrushTimeout dt o m s := rfl
theorem exec_sagSet (s : State) (dt : Nat) (g : Seen) : exec (.sagSet dt g) s = execSagSet dt g s := rfl
theorem exec_sagClear (s : State) (dt : Nat) (g : Seen) : exec (.sagClear dt g) s = execSagClear dt g s := rfl
theorem exec_diagOnSample (s : State) (dt : Nat) (o a : Nat) : exec (.diagOnSample dt o a) s = execDiagOnSample dt o a s := rfl
theorem exec_offStateTest (s : State) (dt : Nat) (o v0 : Nat) (v1 : OffSeen) : exec (.offStateTest dt o v0 v1) s = execOffStateTest dt o v0 v1 s := rfl
theorem exec_overloadDetect (s : State) (dt : Nat) (o : Nat) (a : Lasting) : exec (.overloadDetect dt o a) s = execOverloadDetect dt o a s := rfl
theorem exec_verdictStale (s : State) (dt : Nat) (o : Nat) : exec (.verdictStale dt o) s = execVerdictStale dt o s := rfl
theorem exec_segmentMeasure (s : State) (dt : Nat) (o : Nat) (ds : SegSeen) : exec (.segmentMeasure dt o ds) s = execSegmentMeasure dt o ds s := rfl
theorem exec_segmentFault (s : State) (dt : Nat) (o seg : Nat) : exec (.segmentFault dt o seg) s = execSegmentFault dt o seg s := rfl
theorem exec_limpNAssert (s : State) (dt : Nat) : exec (.limpNAssert dt) s = execLimpNAssert dt s := rfl
theorem exec_limpNRelease (s : State) (dt : Nat) : exec (.limpNRelease dt) s = execLimpNRelease dt s := rfl
theorem exec_lhChange (s : State) (dt : Nat) (mask : Nat) : exec (.lhChange dt mask) s = execLhChange dt mask s := rfl
theorem exec_heartbeat (s : State) (dt : Nat) (ready : Bool) : exec (.heartbeat dt ready) s = execHeartbeat dt ready s := rfl
theorem exec_heartbeatLoss (s : State) (dt : Nat) : exec (.heartbeatLoss dt) s = execHeartbeatLoss dt s := rfl
theorem exec_limpRelease (s : State) (dt : Nat) (pf : Nat) : exec (.limpRelease dt pf) s = execLimpRelease dt pf s := rfl
theorem exec_holdWindowExpiry (s : State) (dt : Nat) (o : Nat) : exec (.holdWindowExpiry dt o) s = execHoldWindowExpiry dt o s := rfl
theorem exec_pairedHeartbeatGap (s : State) (dt : Nat) (o : Nat) : exec (.pairedHeartbeatGap dt o) s = execPairedHeartbeatGap dt o s := rfl
theorem exec_powerDieServe (s : State) (dt : Nat) (g vd : Nat) : exec (.powerDieServe dt g vd) s = execPowerDieServe dt g vd s := rfl
theorem exec_demandServed (s : State) (dt : Nat) (vd : Nat) : exec (.demandServed dt vd) s = execDemandServed dt vd s := rfl
theorem exec_demandLatencyExpiry (s : State) (dt : Nat) (o : Nat) : exec (.demandLatencyExpiry dt o) s = execDemandLatencyExpiry dt o s := rfl
theorem exec_budgetShed (s : State) (dt : Nat) : exec (.budgetShed dt) s = execBudgetShed dt s := rfl
theorem exec_claimRenew (s : State) (dt : Nat) (x : Sample) : exec (.claimRenew dt x) s = execClaimRenew dt x s := rfl
theorem exec_groupCut (s : State) (dt : Nat) (g level volt : Nat) : exec (.groupCut dt g level volt) s = execGroupCut dt g level volt s := rfl
theorem exec_cutRelease (s : State) (dt : Nat) (g level volt : Nat) : exec (.cutRelease dt g level volt) s = execCutRelease dt g level volt s := rfl
theorem exec_restartSlot (s : State) (dt : Nat) (g c : Nat) : exec (.restartSlot dt g c) s = execRestartSlot dt g c s := rfl
theorem exec_slotCancel (s : State) (dt : Nat) (g level volt : Nat) : exec (.slotCancel dt g level volt) s = execSlotCancel dt g level volt s := rfl
theorem exec_dimUpdate (s : State) (dt : Nat) (g volt : Nat) : exec (.dimUpdate dt g volt) s = execDimUpdate dt g volt s := rfl
theorem exec_ledOff (s : State) (dt : Nat) (c : Cmd) : exec (.ledOff dt c) s = execLedOff dt c s := rfl
theorem exec_ledOn (s : State) (dt : Nat) (c : Cmd) : exec (.ledOn dt c) s = execLedOn dt c s := rfl
theorem exec_ledDim (s : State) (dt : Nat) (c : Cmd) : exec (.ledDim dt c) s = execLedDim dt c s := rfl
theorem exec_ldClearFault (s : State) (dt : Nat) (c : Cmd) : exec (.ldClearFault dt c) s = execLdClearFault dt c s := rfl
theorem exec_ldDiagCheck (s : State) (dt : Nat) (c : Cmd) : exec (.ldDiagCheck dt c) s = execLdDiagCheck dt c s := rfl
theorem exec_ldConfig (s : State) (dt : Nat) (c : Cmd) : exec (.ldConfig dt c) s = execLdConfig dt c s := rfl
theorem exec_tcompLoad (s : State) (dt : Nat) (c : Cmd) : exec (.tcompLoad dt c) s = execTcompLoad dt c s := rfl
theorem exec_tccommit (s : State) (dt : Nat) (pf v : Nat) : exec (.tccommit dt pf v) s = execTccommit dt pf v s := rfl
theorem exec_ldSoftstartDone (s : State) (dt : Nat) (n : Nat) : exec (.ldSoftstartDone dt n) s = execLdSoftstartDone dt n s := rfl
theorem exec_ldSoftstartTimeout (s : State) (dt : Nat) (n : Nat) : exec (.ldSoftstartTimeout dt n) s = execLdSoftstartTimeout dt n s := rfl
theorem exec_ldOpenString (s : State) (dt : Nat) (n : Nat) (m : Meas) : exec (.ldOpenString dt n m) s = execLdOpenString dt n m s := rfl
theorem exec_ldShort (s : State) (dt : Nat) (n : Nat) (m : Meas) : exec (.ldShort dt n m) s = execLdShort dt n m s := rfl
theorem exec_ldThermal (s : State) (dt : Nat) (n : Nat) (m : Meas) : exec (.ldThermal dt n m) s = execLdThermal dt n m s := rfl
theorem exec_ldThermalRestart (s : State) (dt : Nat) (n : Nat) (m : Meas) : exec (.ldThermalRestart dt n m) s = execLdThermalRestart dt n m s := rfl
theorem exec_headroomSet (s : State) (dt : Nat) (n : Nat) : exec (.headroomSet dt n) s = execHeadroomSet dt n s := rfl
theorem exec_headroomClear (s : State) (dt : Nat) (n : Nat) : exec (.headroomClear dt n) s = execHeadroomClear dt n s := rfl
theorem exec_ntcFault (s : State) (dt : Nat) (n : Nat) : exec (.ntcFault dt n) s = execNtcFault dt n s := rfl
theorem exec_ntcRecover (s : State) (dt : Nat) (n : Nat) : exec (.ntcRecover dt n) s = execNtcRecover dt n s := rfl
theorem exec_tcompSample (s : State) (dt : Nat) (n t : Nat) : exec (.tcompSample dt n t) s = execTcompSample dt n t s := rfl
theorem exec_dimPeriodStart (s : State) (dt : Nat) (n : Nat) : exec (.dimPeriodStart dt n) s = execDimPeriodStart dt n s := rfl
theorem exec_ldMeasure (s : State) (dt : Nat) (n a v : Nat) : exec (.ldMeasure dt n a v) s = execLdMeasure dt n a v s := rfl
theorem exec_mxOff (s : State) (dt : Nat) (c : Cmd) : exec (.mxOff dt c) s = execMxOff dt c s := rfl
theorem exec_mxOn (s : State) (dt : Nat) (c : Cmd) : exec (.mxOn dt c) s = execMxOn dt c s := rfl
theorem exec_mxBright (s : State) (dt : Nat) (c : Cmd) : exec (.mxBright dt c) s = execMxBright dt c s := rfl
theorem exec_mxClearFault (s : State) (dt : Nat) (c : Cmd) : exec (.mxClearFault dt c) s = execMxClearFault dt c s := rfl
theorem exec_mxConfig (s : State) (dt : Nat) (c : Cmd) : exec (.mxConfig dt c) s = execMxConfig dt c s := rfl
theorem exec_mxFrame (s : State) (dt : Nat) (c : Cmd) (px : List Byte) : exec (.mxFrame dt c px) s = execMxFrame dt c px s := rfl
theorem exec_mxSwapRequest (s : State) (dt : Nat) (pf : Nat) : exec (.mxSwapRequest dt pf) s = execMxSwapRequest dt pf s := rfl
theorem exec_mxFrameBoundary (s : State) (dt : Nat) (lows : Nat) : exec (.mxFrameBoundary dt lows) s = execMxFrameBoundary dt lows s := rfl
theorem exec_mxRowShort (s : State) (dt : Nat) : exec (.mxRowShort dt) s = execMxRowShort dt s := rfl
theorem exec_svOff (s : State) (dt : Nat) (c : Cmd) : exec (.svOff dt c) s = execSvOff dt c s := rfl
theorem exec_svOn (s : State) (dt : Nat) (c : Cmd) : exec (.svOn dt c) s = execSvOn dt c s := rfl
theorem exec_svHold (s : State) (dt : Nat) (c : Cmd) : exec (.svHold dt c) s = execSvHold dt c s := rfl
theorem exec_svClearFault (s : State) (dt : Nat) (c : Cmd) : exec (.svClearFault dt c) s = execSvClearFault dt c s := rfl
theorem exec_svDiagCheck (s : State) (dt : Nat) (c : Cmd) : exec (.svDiagCheck dt c) s = execSvDiagCheck dt c s := rfl
theorem exec_svConfig (s : State) (dt : Nat) (c : Cmd) : exec (.svConfig dt c) s = execSvConfig dt c s := rfl
theorem exec_svLearnReset (s : State) (dt : Nat) (c : Cmd) : exec (.svLearnReset dt c) s = execSvLearnReset dt c s := rfl
theorem exec_svConfig2 (s : State) (dt : Nat) (c : Cmd) : exec (.svConfig2 dt c) s = execSvConfig2 dt c s := rfl
theorem exec_boostEnd (s : State) (dt : Nat) (n e imax ti vbst : Nat) : exec (.boostEnd dt n e imax ti vbst) s = execBoostEnd dt n e imax ti vbst s := rfl
theorem exec_peakEnd (s : State) (dt : Nat) (n : Nat) : exec (.peakEnd dt n) s = execPeakEnd dt n s := rfl
theorem exec_decayEnd (s : State) (dt : Nat) (n e : Nat) : exec (.decayEnd dt n e) s = execDecayEnd dt n e s := rfl
theorem exec_armatureDip (s : State) (dt : Nat) (n : Nat) (d : DipSeen) : exec (.armatureDip dt n d) s = execArmatureDip dt n d s := rfl
theorem exec_armatureStuck (s : State) (dt : Nat) (n : Nat) : exec (.armatureStuck dt n) s = execArmatureStuck dt n s := rfl
theorem exec_svShort (s : State) (dt : Nat) (n : Nat) (m : Meas) : exec (.svShort dt n m) s = execSvShort dt n m s := rfl
theorem exec_bankShort (s : State) (dt : Nat) (b : Nat) : exec (.bankShort dt b) s = execBankShort dt b s := rfl
theorem exec_svThermal (s : State) (dt : Nat) (n : Nat) (m : Meas) : exec (.svThermal dt n m) s = execSvThermal dt n m s := rfl
theorem exec_svThermalRestart (s : State) (dt : Nat) (n : Nat) (m : Meas) : exec (.svThermalRestart dt n m) s = execSvThermalRestart dt n m s := rfl
theorem exec_svOffTest (s : State) (dt : Nat) (n v : Nat) : exec (.svOffTest dt n v) s = execSvOffTest dt n v s := rfl
theorem exec_bstOff (s : State) (dt : Nat) (c : Cmd) : exec (.bstOff dt c) s = execBstOff dt c s := rfl
theorem exec_bstOn (s : State) (dt : Nat) (c : Cmd) : exec (.bstOn dt c) s = execBstOn dt c s := rfl
theorem exec_bstClearFault (s : State) (dt : Nat) (c : Cmd) : exec (.bstClearFault dt c) s = execBstClearFault dt c s := rfl
theorem exec_bstConfig (s : State) (dt : Nat) (c : Cmd) : exec (.bstConfig dt c) s = execBstConfig dt c s := rfl
theorem exec_bstReady (s : State) (dt : Nat) (vbst : Nat) : exec (.bstReady dt vbst) s = execBstReady dt vbst s := rfl
theorem exec_bstShort (s : State) (dt : Nat) (vbst : Nat) : exec (.bstShort dt vbst) s = execBstShort dt vbst s := rfl
theorem exec_bstThermal (s : State) (dt : Nat) (m : Meas) : exec (.bstThermal dt m) s = execBstThermal dt m s := rfl
theorem exec_bstOvervoltageStop (s : State) (dt : Nat) (vbst : Nat) : exec (.bstOvervoltageStop dt vbst) s = execBstOvervoltageStop dt vbst s := rfl
theorem exec_bstOvervoltageResume (s : State) (dt : Nat) (vbst : Nat) : exec (.bstOvervoltageResume dt vbst) s = execBstOvervoltageResume dt vbst s := rfl
theorem exec_bstHeadroomSet (s : State) (dt : Nat) (vs6 vbst : Nat) : exec (.bstHeadroomSet dt vs6 vbst) s = execBstHeadroomSet dt vs6 vbst s := rfl
theorem exec_bstHeadroomClear (s : State) (dt : Nat) (vs6 : Nat) : exec (.bstHeadroomClear dt vs6) s = execBstHeadroomClear dt vs6 s := rfl
theorem exec_hbOff (s : State) (dt : Nat) (c : Cmd) : exec (.hbOff dt c) s = execHbOff dt c s := rfl
theorem exec_hbDrive (s : State) (dt : Nat) (c : Cmd) : exec (.hbDrive dt c) s = execHbDrive dt c s := rfl
theorem exec_hbBrake (s : State) (dt : Nat) (c : Cmd) : exec (.hbBrake dt c) s = execHbBrake dt c s := rfl
theorem exec_hbClearFault (s : State) (dt : Nat) (c : Cmd) : exec (.hbClearFault dt c) s = execHbClearFault dt c s := rfl
theorem exec_hbDiagCheck (s : State) (dt : Nat) (c : Cmd) : exec (.hbDiagCheck dt c) s = execHbDiagCheck dt c s := rfl
theorem exec_hbMove (s : State) (dt : Nat) (c : Cmd) : exec (.hbMove dt c) s = execHbMove dt c s := rfl
theorem exec_hbSetpos (s : State) (dt : Nat) (c : Cmd) : exec (.hbSetpos dt c) s = execHbSetpos dt c s := rfl
theorem exec_hbConfig (s : State) (dt : Nat) (c : Cmd) : exec (.hbConfig dt c) s = execHbConfig dt c s := rfl
theorem exec_hbConfig2 (s : State) (dt : Nat) (c : Cmd) : exec (.hbConfig2 dt c) s = execHbConfig2 dt c s := rfl
theorem exec_rippleCount (s : State) (dt : Nat) (n rate : Nat) (a : RippleSeen) : exec (.rippleCount dt n rate a) s = execRippleCount dt n rate a s := rfl
theorem exec_hbStall (s : State) (dt : Nat) (n : Nat) (a : Lasting) : exec (.hbStall dt n a) s = execHbStall dt n a s := rfl
theorem exec_hbTmaxExpiry (s : State) (dt : Nat) (n : Nat) : exec (.hbTmaxExpiry dt n) s = execHbTmaxExpiry dt n s := rfl
theorem exec_hbTrap (s : State) (dt : Nat) (n a mean : Nat) : exec (.hbTrap dt n a mean) s = execHbTrap dt n a mean s := rfl
theorem exec_hbRampEnd (s : State) (dt : Nat) (n : Nat) : exec (.hbRampEnd dt n) s = execHbRampEnd dt n s := rfl
theorem exec_hbReverseEnd (s : State) (dt : Nat) (n : Nat) : exec (.hbReverseEnd dt n) s = execHbReverseEnd dt n s := rfl
theorem exec_hbShort (s : State) (dt : Nat) (n : Nat) (m : Meas) : exec (.hbShort dt n m) s = execHbShort dt n m s := rfl
theorem exec_hbThermal (s : State) (dt : Nat) (n : Nat) (m : Meas) : exec (.hbThermal dt n m) s = execHbThermal dt n m s := rfl
theorem exec_hbThermalRestart (s : State) (dt : Nat) (n : Nat) (m : Meas) : exec (.hbThermalRestart dt n m) s = execHbThermalRestart dt n m s := rfl
theorem exec_hbOpenDetect (s : State) (dt : Nat) (n : Nat) : exec (.hbOpenDetect dt n) s = execHbOpenDetect dt n s := rfl
theorem exec_loopOpen (s : State) (dt : Nat) (c : Cmd) : exec (.loopOpen dt c) s = execLoopOpen dt c s := rfl
theorem exec_loopClose (s : State) (dt : Nat) (c : Cmd) : exec (.loopClose dt c) s = execLoopClose dt c s := rfl
theorem exec_loopSetpoint (s : State) (dt : Nat) (c : Cmd) : exec (.loopSetpoint dt c) s = execLoopSetpoint dt c s := rfl
theorem exec_clearFlags (s : State) (dt : Nat) (c : Cmd) : exec (.clearFlags dt c) s = execClearFlags dt c s := rfl
theorem exec_loopConfig (s : State) (dt : Nat) (c : Cmd) : exec (.loopConfig dt c) s = execLoopConfig dt c s := rfl
theorem exec_loopCoef (s : State) (dt : Nat) (c : Cmd) : exec (.loopCoef dt c) s = execLoopCoef dt c s := rfl
theorem exec_loopLimits (s : State) (dt : Nat) (c : Cmd) : exec (.loopLimits dt c) s = execLoopLimits dt c s := rfl
theorem exec_loopSlew (s : State) (dt : Nat) (c : Cmd) : exec (.loopSlew dt c) s = execLoopSlew dt c s := rfl
theorem exec_loopSample (s : State) (dt : Nat) (n age raw : Nat) : exec (.loopSample dt n age raw) s = execLoopSample dt n age raw s := rfl
theorem exec_swConfig (s : State) (dt : Nat) (c : Cmd) : exec (.swConfig dt c) s = execSwConfig dt c s := rfl
theorem exec_swSample (s : State) (dt : Nat) (n vin : Nat) : exec (.swSample dt n vin) s = execSwSample dt n vin s := rfl
theorem exec_staticWake (s : State) (dt : Nat) (n : Nat) (vin : Lasting) : exec (.staticWake dt n vin) s = execStaticWake dt n vin s := rfl
theorem exec_pollWake (s : State) (dt : Nat) (n vin : Nat) : exec (.pollWake dt n vin) s = execPollWake dt n vin s := rfl
theorem exec_iiConfig (s : State) (dt : Nat) (c : Cmd) : exec (.iiConfig dt c) s = execIiConfig dt c s := rfl
theorem exec_countClear (s : State) (dt : Nat) (c : Cmd) : exec (.countClear dt c) s = execCountClear dt c s := rfl
theorem exec_wireBreak (s : State) (dt : Nat) (n : Nat) (a : Lasting) : exec (.wireBreak dt n a) s = execWireBreak dt n a s := rfl
theorem exec_ioOutOn (s : State) (dt : Nat) (c : Cmd) : exec (.ioOutOn dt c) s = execIoOutOn dt c s := rfl
theorem exec_ioOutOff (s : State) (dt : Nat) (c : Cmd) : exec (.ioOutOff dt c) s = execIoOutOff dt c s := rfl
theorem exec_ioClearFault (s : State) (dt : Nat) (c : Cmd) : exec (.ioClearFault dt c) s = execIoClearFault dt c s := rfl
theorem exec_ioDiagCheck (s : State) (dt : Nat) (c : Cmd) : exec (.ioDiagCheck dt c) s = execIoDiagCheck dt c s := rfl
theorem exec_ioConfig (s : State) (dt : Nat) (c : Cmd) : exec (.ioConfig dt c) s = execIoConfig dt c s := rfl
theorem exec_ioOvercurrent (s : State) (dt : Nat) (n : Nat) (m : Meas) : exec (.ioOvercurrent dt n m) s = execIoOvercurrent dt n m s := rfl
theorem exec_ioThermalTrip (s : State) (dt : Nat) (n : Nat) (m : Meas) : exec (.ioThermalTrip dt n m) s = execIoThermalTrip dt n m s := rfl
theorem exec_ioThermalRestart (s : State) (dt : Nat) (n : Nat) (m : Meas) : exec (.ioThermalRestart dt n m) s = execIoThermalRestart dt n m s := rfl
theorem exec_vfldUv (s : State) (dt : Nat) (v : Nat) : exec (.vfldUv dt v) s = execVfldUv dt v s := rfl
theorem exec_vfldRestart (s : State) (dt : Nat) (v : Nat) : exec (.vfldRestart dt v) s = execVfldRestart dt v s := rfl
theorem exec_barrierUplinkFrame (s : State) (dt : Nat) (crc : Bool) (seq : Nat) (vins iin rises falls : List Nat) (vfld : Nat) : exec (.barrierUplinkFrame dt crc seq vins iin rises falls vfld) s = execBarrierUplinkFrame dt crc seq vins iin rises falls vfld s := rfl
theorem exec_barrierDownlinkFrame (s : State) (dt : Nat) (crc : Bool) (seq : Nat) : exec (.barrierDownlinkFrame dt crc seq) s = execBarrierDownlinkFrame dt crc seq s := rfl
theorem exec_barrierLoss (s : State) (dt : Nat) (field : Bool) : exec (.barrierLoss dt field) s = execBarrierLoss dt field s := rfl
theorem exec_fieldPowerLoss (s : State) (dt : Nat) : exec (.fieldPowerLoss dt) s = execFieldPowerLoss dt s := rfl
theorem exec_canSend (s : State) (dt : Nat) (c : Cmd) (rcd : List Byte) : exec (.canSend dt c rcd) s = execCanSend dt c rcd s := rfl
theorem exec_idUnblock (s : State) (dt : Nat) (c : Cmd) : exec (.idUnblock dt c) s = execIdUnblock dt c s := rfl
theorem exec_rxRelease (s : State) (dt : Nat) (c : Cmd) : exec (.rxRelease dt c) s = execRxRelease dt c s := rfl
theorem exec_linPublish (s : State) (dt : Nat) (c : Cmd) : exec (.linPublish dt c) s = execLinPublish dt c s := rfl
theorem exec_linSched (s : State) (dt : Nat) (c : Cmd) : exec (.linSched dt c) s = execLinSched dt c s := rfl
theorem exec_linSleep (s : State) (dt : Nat) (c : Cmd) : exec (.linSleep dt c) s = execLinSleep dt c s := rfl
theorem exec_linWake (s : State) (dt : Nat) (c : Cmd) : exec (.linWake dt c) s = execLinWake dt c s := rfl
theorem exec_canEnable (s : State) (dt : Nat) (pf n : Nat) (fail : Bool) : exec (.canEnable dt pf n fail) s = execCanEnable dt pf n fail s := rfl
theorem exec_rxqEnable (s : State) (dt : Nat) (pf g : Nat) : exec (.rxqEnable dt pf g) s = execRxqEnable dt pf g s := rfl
theorem exec_canFrameReceived (s : State) (dt : Nat) (g : Nat) (f : Frame) (lag : Nat) : exec (.canFrameReceived dt g f lag) s = execCanFrameReceived dt g f lag s := rfl
theorem exec_canFrameSent (s : State) (dt : Nat) (g tdc : Nat) : exec (.canFrameSent dt g tdc) s = execCanFrameSent dt g tdc s := rfl
theorem exec_canArbitrationLost (s : State) (dt : Nat) (n : Nat) : exec (.canArbitrationLost dt n) s = execCanArbitrationLost dt n s := rfl
theorem exec_canErrorFrame (s : State) (dt : Nat) (n type pos : Nat) (tx coll exempt : Bool) (more : Nat) : exec (.canErrorFrame dt n type pos tx coll exempt more) s = execCanErrorFrame dt n type pos tx coll exempt more s := rfl
theorem exec_canBusOff (s : State) (dt : Nat) (n : Nat) : exec (.canBusOff dt n) s = execCanBusOff dt n s := rfl
theorem exec_canBusOffRecovery (s : State) (dt : Nat) (n : Nat) : exec (.canBusOffRecovery dt n) s = execCanBusOffRecovery dt n s := rfl
theorem exec_canCancelLatch (s : State) (dt : Nat) (c : Cmd) : exec (.canCancelLatch dt c) s = execCanCancelLatch dt c s := rfl
theorem exec_tmReferenceDue (s : State) (dt : Nat) (n : Nat) (past : Bool) : exec (.tmReferenceDue dt n past) s = execTmReferenceDue dt n past s := rfl
theorem exec_linSlot (s : State) (dt : Nat) (n : Nat) (err : Option Nat) : exec (.linSlot dt n err) s = execLinSlot dt n err s := rfl
theorem exec_linHeaderReceived (s : State) (dt : Nat) (n id : Nat) (err : Option Nat) : exec (.linHeaderReceived dt n id err) s = execLinHeaderReceived dt n id err s := rfl
theorem exec_ethFrameReceived (s : State) (dt : Nat) (p : Nat) (fcs : Bool) (bs : List Byte) (lag : Nat) : exec (.ethFrameReceived dt p fcs bs lag) s = execEthFrameReceived dt p fcs bs lag s := rfl
theorem exec_ethSend (s : State) (dt : Nat) (c : Cmd) (rcd : List Byte) : exec (.ethSend dt c rcd) s = execEthSend dt c rcd s := rfl
theorem exec_ethFrameSent (s : State) (dt : Nat) (p : Nat) : exec (.ethFrameSent dt p) s = execEthFrameSent dt p s := rfl
theorem exec_fitRead (s : State) (dt : Nat) (pf : Nat) : exec (.fitRead dt pf) s = execFitRead dt pf s := rfl
theorem exec_fitCommit (s : State) (dt : Nat) (pf : Nat) : exec (.fitCommit dt pf) s = execFitCommit dt pf s := rfl
theorem exec_fitClearCounters (s : State) (dt : Nat) (pf : Nat) : exec (.fitClearCounters dt pf) s = execFitClearCounters dt pf s := rfl
theorem exec_frameEgressStart (s : State) (dt : Nat) (g : Nat) : exec (.frameEgressStart dt g) s = execFrameEgressStart dt g s := rfl
theorem exec_fitPeriodicSend (s : State) (dt : Nat) (e : Nat) : exec (.fitPeriodicSend dt e) s = execFitPeriodicSend dt e s := rfl
theorem exec_freshLost (s : State) (dt : Nat) (e : Nat) : exec (.freshLost dt e) s = execFreshLost dt e s := rfl
theorem exec_qbvGateChange (s : State) (dt : Nat) (p : Nat) : exec (.qbvGateChange dt p) s = execQbvGateChange dt p s := rfl
theorem exec_pathSilent (s : State) (dt : Nat) (e p : Nat) : exec (.pathSilent dt e p) s = execPathSilent dt e p s := rfl
theorem exec_gptpSync (s : State) (dt : Nat) (ofs : Nat) : exec (.gptpSync dt ofs) s = execGptpSync dt ofs s := rfl
theorem exec_gptpHoldover (s : State) (dt : Nat) : exec (.gptpHoldover dt) s = execGptpHoldover dt s := rfl
theorem exec_gptpSyncSend (s : State) (dt : Nat) : exec (.gptpSyncSend dt) s = execGptpSyncSend dt s := rfl
theorem exec_macAging (s : State) (dt : Nat) : exec (.macAging dt) s = execMacAging dt s := rfl
theorem exec_linkState (s : State) (dt : Nat) (p : Nat) (up : Bool) (sqi : Nat) : exec (.linkState dt p up sqi) s = execLinkState dt p up sqi s := rfl
theorem exec_nmNeed (s : State) (dt : Nat) (c : Cmd) : exec (.nmNeed dt c) s = execNmNeed dt c s := rfl
theorem exec_nmRelease (s : State) (dt : Nat) (c : Cmd) : exec (.nmRelease dt c) s = execNmRelease dt c s := rfl
theorem exec_nmEnable (s : State) (dt : Nat) (pf g : Nat) : exec (.nmEnable dt pf g) s = execNmEnable dt pf g s := rfl
theorem exec_nmDisable (s : State) (dt : Nat) (pf g : Nat) : exec (.nmDisable dt pf g) s = execNmDisable dt pf g s := rfl
theorem exec_keepaliveSend (s : State) (dt : Nat) (g : Nat) : exec (.keepaliveSend dt g) s = execKeepaliveSend dt g s := rfl
theorem exec_tkaExpiry (s : State) (dt : Nat) (g : Nat) : exec (.tkaExpiry dt g) s = execTkaExpiry dt g s := rfl
theorem exec_tprepExpiry (s : State) (dt : Nat) (g : Nat) : exec (.tprepExpiry dt g) s = execTprepExpiry dt g s := rfl
theorem exec_needHoldEnd (s : State) (dt : Nat) (g : Nat) : exec (.needHoldEnd dt g) s = execNeedHoldEnd dt g s := rfl
theorem exec_fwdHoldEnd (s : State) (dt : Nat) (g : Nat) : exec (.fwdHoldEnd dt g) s = execFwdHoldEnd dt g s := rfl
theorem exec_segmentWake (s : State) (dt : Nat) (g : Nat) (b : BusSign) : exec (.segmentWake dt g b) s = execSegmentWake dt g b s := rfl
theorem exec_failsafeSleepRequest (s : State) (dt : Nat) (g : Nat) (answered : Bool) : exec (.failsafeSleepRequest dt g answered) s = execFailsafeSleepRequest dt g answered s := rfl
theorem exec_failsafeTimeout (s : State) (dt : Nat) (g : Nat) : exec (.failsafeTimeout dt g) s = execFailsafeTimeout dt g s := rfl
theorem exec_nmKeeper (s : State) (dt : Nat) (g : Nat) : exec (.nmKeeper dt g) s = execNmKeeper dt g s := rfl
theorem exec_linSilenceSleep (s : State) (dt : Nat) (n : Nat) : exec (.linSilenceSleep dt n) s = execLinSilenceSleep dt n s := rfl
theorem exec_nodeTableClear (s : State) (dt : Nat) (pf g : Nat) : exec (.nodeTableClear dt pf g) s = execNodeTableClear dt pf g s := rfl
theorem exec_twJoin (s : State) (dt : Nat) (c : Cmd) : exec (.twJoin dt c) s = execTwJoin dt c s := rfl
theorem exec_twPart (s : State) (dt : Nat) (c : Cmd) : exec (.twPart dt c) s = execTwPart dt c s := rfl
theorem exec_twSolstice (s : State) (dt : Nat) (c : Cmd) (peer : Bool) : exec (.twSolstice dt c peer) s = execTwSolstice dt c peer s := rfl
theorem exec_twEquinox (s : State) (dt : Nat) (c : Cmd) (peer fmt : Bool) : exec (.twEquinox dt c peer fmt) s = execTwEquinox dt c peer fmt s := rfl
theorem exec_twEnable (s : State) (dt : Nat) (pf : Nat) : exec (.twEnable dt pf) s = execTwEnable dt pf s := rfl
theorem exec_twDisable (s : State) (dt : Nat) (pf : Nat) : exec (.twDisable dt pf) s = execTwDisable dt pf s := rfl
theorem exec_claimDelayExpiry (s : State) (dt : Nat) (rival : Option (Bool × Nat)) (same : List Nat) : exec (.claimDelayExpiry dt rival same) s = execClaimDelayExpiry dt rival same s := rfl
theorem exec_pairRoleLow (s : State) (dt : Nat) (same : List Nat) (det on : Nat) : exec (.pairRoleLow dt same det on) s = execPairRoleLow dt same det on s := rfl
theorem exec_pairOkLow (s : State) (dt : Nat) : exec (.pairOkLow dt) s = execPairOkLow dt s := rfl
theorem exec_twHeartbeatSend (s : State) (dt : Nat) : exec (.twHeartbeatSend dt) s = execTwHeartbeatSend dt s := rfl
theorem exec_twHeartbeatLoss (s : State) (dt : Nat) (role ok parted : Bool) (det on : Nat) : exec (.twHeartbeatLoss dt role ok parted det on) s = execTwHeartbeatLoss dt role ok parted det on s := rfl
theorem exec_pairRoleReleased (s : State) (dt : Nat) (det on : Nat) : exec (.pairRoleReleased dt det on) s = execPairRoleReleased dt det on s := rfl
theorem exec_heartbeatRestored (s : State) (dt : Nat) : exec (.heartbeatRestored dt) s = execHeartbeatRestored dt s := rfl
theorem exec_reedLaneLoss (s : State) (dt : Nat) (k : Nat) : exec (.reedLaneLoss dt k) s = execReedLaneLoss dt k s := rfl
theorem exec_mirrorSnapshot (s : State) (dt : Nat) : exec (.mirrorSnapshot dt) s = execMirrorSnapshot dt s := rfl
theorem exec_imageReceived (s : State) (dt : Nat) (im : Image) (whole crc : Bool) (took : Nat) : exec (.imageReceived dt im whole crc took) s = execImageReceived dt im whole crc took s := rfl
theorem exec_mirrorLate (s : State) (dt : Nat) (us : Nat) : exec (.mirrorLate dt us) s = execMirrorLate dt us s := rfl
theorem exec_driveMessage (s : State) (dt : Nat) (d : DriveMsg) (late : Nat) : exec (.driveMessage dt d late) s = execDriveMessage dt d late s := rfl
theorem exec_partnerLost (s : State) (dt : Nat) (o cause : Nat) (back : Bool) : exec (.partnerLost dt o cause back) s = execPartnerLost dt o cause back s := rfl
theorem exec_journalTimeout (s : State) (dt : Nat) : exec (.journalTimeout dt) s = execJournalTimeout dt s := rfl
theorem exec_oobHeartbeatSend (s : State) (dt : Nat) : exec (.oobHeartbeatSend dt) s = execOobHeartbeatSend dt s := rfl
theorem exec_oobHeartbeatReceived (s : State) (dt : Nat) (role serial : Nat) (later : Bool) : exec (.oobHeartbeatReceived dt role serial later) s = execOobHeartbeatReceived dt role serial later s := rfl
theorem exec_lineFault (s : State) (dt : Nat) (k : Nat) (bad : Bool) : exec (.lineFault dt k bad) s = execLineFault dt k bad s := rfl
theorem exec_solsticeDue (s : State) (dt : Nat) (why : Nat) (peer : Bool) : exec (.solsticeDue dt why peer) s = execSolsticeDue dt why peer s := rfl
theorem exec_swapPrecondTimeout (s : State) (dt : Nat) : exec (.swapPrecondTimeout dt) s = execSwapPrecondTimeout dt s := rfl
theorem exec_swapProveDone (s : State) (dt : Nat) (fail : Nat) : exec (.swapProveDone dt fail) s = execSwapProveDone dt fail s := rfl
theorem exec_takeoverSlow (s : State) (dt : Nat) : exec (.takeoverSlow dt) s = execTakeoverSlow dt s := rfl
theorem exec_equinoxStep (s : State) (dt : Nat) (step : Nat) (fail sig peer : Bool) : exec (.equinoxStep dt step fail sig peer) s = execEquinoxStep dt step fail sig peer s := rfl
theorem exec_offtestWindow (s : State) (dt : Nat) (first : Bool) (off : List Nat) : exec (.offtestWindow dt first off) s = execOfftestWindow dt first off s := rfl
theorem exec_bundleIssue (s : State) (dt : Nat) (k : Nat) (ecc : Option Nat) (vd : Nat) : exec (.bundleIssue dt k ecc vd) s = execBundleIssue dt k ecc vd s := rfl
theorem exec_channelTriggerAnswer (s : State) (dt : Nat) (k vd : Nat) : exec (.channelTriggerAnswer dt k vd) s = execChannelTriggerAnswer dt k vd s := rfl
theorem exec_tmrWaitExpiry (s : State) (dt : Nat) (k : Nat) : exec (.tmrWaitExpiry dt k) s = execTmrWaitExpiry dt k s := rfl
theorem exec_mbxRxWake (s : State) (dt : Nat) (k : Nat) : exec (.mbxRxWake dt k) s = execMbxRxWake dt k s := rfl
theorem exec_fifeRun (s : State) (dt : Nat) (pf k : Nat) : exec (.fifeRun dt pf k) s = execFifeRun dt pf k s := rfl
theorem exec_fifeHalt (s : State) (dt : Nat) (pf k : Nat) : exec (.fifeHalt dt pf k) s = execFifeHalt dt pf k s := rfl
theorem exec_fifeRestart (s : State) (dt : Nat) (pf k : Nat) : exec (.fifeRestart dt pf k) s = execFifeRestart dt pf k s := rfl
theorem exec_fifeBist (s : State) (dt : Nat) (pf k : Nat) (fail lost : Bool) : exec (.fifeBist dt pf k fail lost) s = execFifeBist dt pf k fail lost s := rfl
theorem exec_fifeMemAccess (s : State) (dt : Nat) (pf : Nat) (w : Option Nat) : exec (.fifeMemAccess dt pf w) s = execFifeMemAccess dt pf w s := rfl
theorem exec_lockstepMismatch (s : State) (dt : Nat) (m : Mismatch) : exec (.lockstepMismatch dt m) s = execLockstepMismatch dt m s := rfl
theorem exec_shawmJoin (s : State) (dt : Nat) (diff : Option Mismatch) : exec (.shawmJoin dt diff) s = execShawmJoin dt diff s := rfl
theorem exec_splitmaxExpiry (s : State) (dt : Nat) : exec (.splitmaxExpiry dt) s = execSplitmaxExpiry dt s := rfl
theorem exec_lockstepLostDebug (s : State) (dt : Nat) : exec (.lockstepLostDebug dt) s = execLockstepLostDebug dt s := rfl
theorem exec_fltActiveClear (s : State) (dt : Nat) (pf w : Nat) : exec (.fltActiveClear dt pf w) s = execFltActiveClear dt pf w s := rfl
theorem exec_frzRel (s : State) (dt : Nat) (pf k reason : Nat) : exec (.frzRel dt pf k reason) s = execFrzRel dt pf k reason s := rfl
theorem exec_sramScrub (s : State) (dt : Nat) (hits : List ScrubHit) : exec (.sramScrub dt hits) s = execSramScrub dt hits s := rfl
theorem exec_adcCalibration (s : State) (dt : Nat) (drifts : List Int) : exec (.adcCalibration dt drifts) s = execAdcCalibration dt drifts s := rfl
theorem exec_stopRequest (s : State) (dt : Nat) (pf : Nat) (force : Bool) : exec (.stopRequest dt pf force) s = execStopRequest dt pf force s := rfl
theorem exec_stopDrainEnd (s : State) (dt : Nat) : exec (.stopDrainEnd dt) s = execStopDrainEnd dt s := rfl
theorem exec_stopDrainTimeout (s : State) (dt : Nat) : exec (.stopDrainTimeout dt) s = execStopDrainTimeout dt s := rfl
theorem exec_stopOutputsEnd (s : State) (dt : Nat) : exec (.stopOutputsEnd dt) s = execStopOutputsEnd dt s := rfl
theorem exec_stopSaveEnd (s : State) (dt : Nat) : exec (.stopSaveEnd dt) s = execStopSaveEnd dt s := rfl
theorem exec_stopCommitEnd (s : State) (dt : Nat) : exec (.stopCommitEnd dt) s = execStopCommitEnd dt s := rfl
theorem exec_stopClocksEnd (s : State) (dt : Nat) : exec (.stopClocksEnd dt) s = execStopClocksEnd dt s := rfl
theorem exec_stopRailsEnd (s : State) (dt : Nat) : exec (.stopRailsEnd dt) s = execStopRailsEnd dt s := rfl
theorem exec_stopTimerWake (s : State) (dt : Nat) : exec (.stopTimerWake dt) s = execStopTimerWake dt s := rfl
theorem exec_tokenIrqWake (s : State) (dt : Nat) : exec (.tokenIrqWake dt) s = execTokenIrqWake dt s := rfl
theorem exec_pePerstRelease (s : State) (dt : Nat) : exec (.pePerstRelease dt) s = execPePerstRelease dt s := rfl
theorem exec_secProvision (s : State) (dt : Nat) (c : Cmd) (rcd : List Byte) (sig : Bool) : exec (.secProvision dt c rcd sig) s = execSecProvision dt c rcd sig s := rfl
theorem exec_keySlotProgram (s : State) (dt : Nat) (c : Cmd) (rcd : List Byte) (sig : Bool) : exec (.keySlotProgram dt c rcd sig) s = execKeySlotProgram dt c rcd sig s := rfl
theorem exec_keySlotRevoke (s : State) (dt : Nat) (c : Cmd) (rcd : List Byte) (sig : Bool) : exec (.keySlotRevoke dt c rcd sig) s = execKeySlotRevoke dt c rcd sig s := rfl
theorem exec_lcToField (s : State) (dt : Nat) (c : Cmd) (rcd : List Byte) (sig : Bool) : exec (.lcToField dt c rcd sig) s = execLcToField dt c rcd sig s := rfl
theorem exec_lcToFieldService (s : State) (dt : Nat) (c : Cmd) (rcd : List Byte) (sig : Bool) : exec (.lcToFieldService dt c rcd sig) s = execLcToFieldService dt c rcd sig s := rfl
theorem exec_lcBackToField (s : State) (dt : Nat) (c : Cmd) (rcd : List Byte) (sig : Bool) : exec (.lcBackToField dt c rcd sig) s = execLcBackToField dt c rcd sig s := rfl
theorem exec_lcToRetired (s : State) (dt : Nat) (c : Cmd) (rcd : List Byte) (sig : Bool) : exec (.lcToRetired dt c rcd sig) s = execLcToRetired dt c rcd sig s := rfl
theorem exec_secAttest (s : State) (dt : Nat) (c : Cmd) (nonce : List Byte) (partner : Nat) : exec (.secAttest dt c nonce partner) s = execSecAttest dt c nonce partner s := rfl
theorem exec_fieldServiceExpiry (s : State) (dt : Nat) : exec (.fieldServiceExpiry dt) s = execFieldServiceExpiry dt s := rfl
theorem exec_dapChallenge (s : State) (dt : Nat) : exec (.dapChallenge dt) s = execDapChallenge dt s := rfl
theorem exec_dapSubmit (s : State) (dt : Nat) (req : Nat) (rcd : List Byte) (sig : Bool) : exec (.dapSubmit dt req rcd sig) s = execDapSubmit dt req rcd sig s := rfl
theorem exec_dapLeave (s : State) (dt : Nat) : exec (.dapLeave dt) s = execDapLeave dt s := rfl
theorem exec_dapNonceExpiry (s : State) (dt : Nat) : exec (.dapNonceExpiry dt) s = execDapNonceExpiry dt s := rfl
theorem exec_dapLockoutEnd (s : State) (dt : Nat) : exec (.dapLockoutEnd dt) s = execDapLockoutEnd dt s := rfl
theorem exec_dbgmaxWrite (s : State) (dt : Nat) (pf v : Nat) : exec (.dbgmaxWrite dt pf v) s = execDbgmaxWrite dt pf v s := rfl
theorem exec_dmaLock (s : State) (dt : Nat) (pf : Nat) : exec (.dmaLock dt pf) s = execDmaLock dt pf s := rfl
theorem exec_accSearch (s : State) (dt : Nat) (pf : Nat) : exec (.accSearch dt pf) s = execAccSearch dt pf s := rfl
theorem exec_accDeauth (s : State) (dt : Nat) (pf : Nat) : exec (.accDeauth dt pf) s = execAccDeauth dt pf s := rfl
theorem exec_tokenFrameReceived (s : State) (dt : Nat) (uhf : Bool) (bs : List Byte) (overlap : Bool) : exec (.tokenFrameReceived dt uhf bs overlap) s = execTokenFrameReceived dt uhf bs overlap s := rfl
theorem exec_searchSlotEnd (s : State) (dt : Nat) : exec (.searchSlotEnd dt) s = execSearchSlotEnd dt s := rfl
theorem exec_responseTimeout (s : State) (dt : Nat) : exec (.responseTimeout dt) s = execResponseTimeout dt s := rfl
theorem exec_sessionTimeout (s : State) (dt : Nat) : exec (.sessionTimeout dt) s = execSessionTimeout dt s := rfl
theorem exec_releaseMessage (s : State) (dt : Nat) (past : Bool) : exec (.releaseMessage dt past) s = execReleaseMessage dt past s := rfl
theorem exec_authTimeout (s : State) (dt : Nat) : exec (.authTimeout dt) s = execAuthTimeout dt s := rfl
theorem exec_accLockoutEnd (s : State) (dt : Nat) : exec (.accLockoutEnd dt) s = execAccLockoutEnd dt s := rfl
theorem exec_lockoutStore (s : State) (dt : Nat) : exec (.lockoutStore dt) s = execLockoutStore dt s := rfl
theorem exec_accEnrol (s : State) (dt : Nat) (c : Cmd) (rcd : List Byte) (sig : Bool) : exec (.accEnrol dt c rcd sig) s = execAccEnrol dt c rcd sig s := rfl
theorem exec_accRevoke (s : State) (dt : Nat) (c : Cmd) (rcd : List Byte) (sig : Bool) : exec (.accRevoke dt c rcd sig) s = execAccRevoke dt c rcd sig s := rfl
theorem exec_accInstallKeys (s : State) (dt : Nat) (c : Cmd) (rcd : List Byte) (sig tag : Bool) : exec (.accInstallKeys dt c rcd sig tag) s = execAccInstallKeys dt c rcd sig tag s := rfl
theorem exec_updStage (s : State) (dt : Nat) (c : Cmd) (chunk : List Byte) : exec (.updStage dt c chunk) s = execUpdStage dt c chunk s := rfl
theorem exec_updVerify (s : State) (dt : Nat) (c : Cmd) (sig : Bool) : exec (.updVerify dt c sig) s = execUpdVerify dt c sig s := rfl
theorem exec_updCommit (s : State) (dt : Nat) (c : Cmd) (sig : Bool) : exec (.updCommit dt c sig) s = execUpdCommit dt c sig s := rfl
theorem exec_updConfirm (s : State) (dt : Nat) (c : Cmd) : exec (.updConfirm dt c) s = execUpdConfirm dt c s := rfl
theorem exec_updAbort (s : State) (dt : Nat) (c : Cmd) : exec (.updAbort dt c) s = execUpdAbort dt c s := rfl
theorem exec_setDefaults (s : State) (dt : Nat) (c : Cmd) : exec (.setDefaults dt c) s = execSetDefaults dt c s := rfl
theorem exec_autoConfirm (s : State) (dt : Nat) : exec (.autoConfirm dt) s = execAutoConfirm dt s := rfl
theorem exec_trialTimeout (s : State) (dt : Nat) : exec (.trialTimeout dt) s = execTrialTimeout dt s := rfl
theorem exec_vkeepLoss (s : State) (dt : Nat) (kept : Nat) : exec (.vkeepLoss dt kept) s = execVkeepLoss dt kept s := rfl
theorem exec_pcieLinkDown (s : State) (dt : Nat) : exec (.pcieLinkDown dt) s = execPcieLinkDown dt s := rfl
theorem exec_pcieLinkUp (s : State) (dt : Nat) : exec (.pcieLinkUp dt) s = execPcieLinkUp dt s := rfl
theorem exec_reedLaneLock (s : State) (dt : Nat) (k : Nat) : exec (.reedLaneLock dt k) s = execReedLaneLock dt k s := rfl
theorem exec_twJoinTimeout (s : State) (dt : Nat) : exec (.twJoinTimeout dt) s = execTwJoinTimeout dt s := rfl
theorem exec_twinRefreshTimeout (s : State) (dt : Nat) : exec (.twinRefreshTimeout dt) s = execTwinRefreshTimeout dt s := rfl
theorem exec_oobHeartbeatSilent (s : State) (dt : Nat) : exec (.oobHeartbeatSilent dt) s = execOobHeartbeatSilent dt s := rfl
theorem exec_barrierFrameMissing (s : State) (dt : Nat) (uplink : Bool) : exec (.barrierFrameMissing dt uplink) s = execBarrierFrameMissing dt uplink s := rfl

end Sys2Proof.Machine
end

