-- ==== Sys2Proof/Laws/Keeps.lean ====
section
/-!
SUPPORT. Sys2Proof/Laws/Keeps.lean: what every operation on State keeps: the queue, the monotonic count, the canonical form of the register file, and the
retirement records made so far.
-/
namespace Sys2Proof.Machine

/-- From `s` to `t` the queue and the time stand, the register file stays canonical, and no retirement record is lost or changed (R812). -/
structure Keeps (s t : State) : Prop where
  now : t.now = s.now
  pending : t.pending = s.pending
  canon : regsCanon s.regs → regsCanon t.regs
  retired : s.nv.retired <+: t.nv.retired

theorem Keeps.refl (s : State) : Keeps s s := ⟨rfl, rfl, id, List.prefix_refl _⟩

theorem Keeps.trans {s t u : State} (h : Keeps s t) (k : Keeps t u) : Keeps s u :=
  ⟨k.now.trans h.now, k.pending.trans h.pending, fun c => k.canon (h.canon c), h.retired.trans k.retired⟩

/-- A change that leaves the four components alone. -/
theorem Keeps.same {s0 s : State} {n nt p r h f pw a o i ne tw c nv se ac} (hn : n = s.now) (hp : p = s.pending) (hr : r = s.regs)
    (hv : NvState.retired nv = s.nv.retired) (k : Keeps s0 s) : Keeps s0 (State.mk n nt p r h f pw a o i ne tw c nv se ac) := by
  subst hn hp hr
  exact ⟨k.now, k.pending, k.canon, by rw [hv]; exact k.retired⟩

theorem Keeps.ite {s0 a b : State} {c : Prop} [Decidable c] (ha : Keeps s0 a) (hb : Keeps s0 b) : Keeps s0 (if c then a else b) := by
  split <;> assumption

theorem Keeps.foldl {α : Type} {s0 s : State} {g : State → α → State} {l : List α} (h : Keeps s0 s) (hg : ∀ s a, Keeps s0 s → Keeps s0 (g s a)) :
    Keeps s0 (l.foldl g s) := by
  induction l generalizing s with
  | nil => exact h
  | cons a l ih => exact ih (hg s a h)

/-- A fold over a pair whose first part is a state. -/
theorem Keeps.foldl_fst {α β : Type} {s0 : State} {g : State × β → α → State × β} {l : List α} {x : State × β} (h : Keeps s0 x.1)
    (hg : ∀ x a, Keeps s0 x.1 → Keeps s0 (g x a).1) : Keeps s0 (l.foldl g x).1 := by
  induction l generalizing x with
  | nil => exact h
  | cons a l ih => exact ih (hg x a h)

theorem Keeps.ite_fst {β : Type} {s0 : State} {a b : State × β} {c : Prop} [Decidable c] (ha : Keeps s0 a.1) (hb : Keeps s0 b.1) :
    Keeps s0 (if c then a else b).1 := by
  split <;> assumption

/-- The first part of a pair. -/
theorem Keeps.fst {β : Type} {σ a : State} {b : β} (h : Keeps σ a) : Keeps σ (a, b).1 := h

/-- A row answers a next state that keeps what `σ` holds. -/
def AKeeps (σ : State) (a : Answered) : Prop := ∃ t, a = .next t ∧ Keeps σ t

theorem AKeeps.state {σ s : State} {a : Answered} (h : AKeeps σ a) : Keeps σ (a.state s) := by
  obtain ⟨t, rfl, k⟩ := h
  exact k

theorem State.tick_zero_keeps {σ s : State} (h : Keeps σ s) : Keeps σ (s.tick 0) :=
  Keeps.same rfl rfl rfl rfl h

/-! ### Sparse tables -/

theorem tsorted_cons {α : Type} (i : Nat) (v : α) (t : Tab α) : tsorted ((i, v) :: t) = true ↔ (∀ e ∈ t, i < e.1) ∧ tsorted t = true := by
  induction t generalizing i v with
  | nil => simp [tsorted]
  | cons x t ih =>
    obtain ⟨j, w⟩ := x
    rw [tsorted, Bool.and_eq_true, ih]
    constructor
    · rintro ⟨h, k, l⟩
      have h := of_decide_eq_true h
      refine ⟨fun e he => ?_, k, l⟩
      rcases List.mem_cons.1 he with rfl | he
      · exact h
      · exact Nat.lt_trans h (k e he)
    · rintro ⟨h, k, l⟩
      exact ⟨decide_eq_true (h _ (List.mem_cons_self ..)), k, l⟩

theorem mem_tput {α : Type} {e : Nat × α} {k : Nat} {v : α} {t : Tab α} (h : e ∈ tput t k v) : e = (k, v) ∨ e ∈ t := by
  induction t with
  | nil => simpa [tput] using h
  | cons x t ih =>
    obtain ⟨j, w⟩ := x
    rw [tput] at h
    split at h
    · rcases List.mem_cons.1 h with h | h
      · exact .inl h
      · exact .inr h
    · split at h
      · rcases List.mem_cons.1 h with h | h
        · exact .inl h
        · exact .inr (List.mem_cons_of_mem _ h)
      · rcases List.mem_cons.1 h with h | h
        · exact .inr (h ▸ List.mem_cons_self ..)
        · exact (ih h).imp id (List.mem_cons_of_mem _)

/-- Writing an entry keeps a table canonical. -/
theorem tsorted_tput {α : Type} {t : Tab α} (k : Nat) (v : α) (h : tsorted t = true) : tsorted (tput t k v) = true := by
  induction t with
  | nil => rfl
  | cons x t ih =>
    obtain ⟨j, w⟩ := x
    have hx := (tsorted_cons j w t).1 h
    rw [tput]
    split
    · next hk =>
      refine (tsorted_cons ..).2 ⟨fun e he => ?_, h⟩
      rcases List.mem_cons.1 he with rfl | he
      · exact hk
      · exact Nat.lt_trans hk (hx.1 e he)
    · split
      · next hk => subst hk; exact (tsorted_cons ..).2 hx
      · next hk1 hk2 =>
        refine (tsorted_cons ..).2 ⟨fun e he => ?_, ih hx.2⟩
        rcases mem_tput he with rfl | he
        · show j < k; omega
        · exact hx.1 e he

theorem tsorted_filter {α : Type} {t : Tab α} (p : Nat × α → Bool) (h : tsorted t = true) : tsorted (t.filter p) = true := by
  induction t with
  | nil => rfl
  | cons x t ih =>
    obtain ⟨j, w⟩ := x
    have hx := (tsorted_cons j w t).1 h
    rw [List.filter_cons]
    split
    · exact (tsorted_cons ..).2 ⟨fun e he => hx.1 e (List.mem_filter.1 he).1, ih hx.2⟩
    · exact ih hx.2

theorem tsorted_tdel {α : Type} {t : Tab α} (k : Nat) (h : tsorted t = true) : tsorted (tdel t k) = true ∧ ∀ e ∈ tdel t k, e ∈ t := by
  induction t with
  | nil => exact ⟨rfl, fun _ h => h⟩
  | cons x t ih =>
    obtain ⟨j, w⟩ := x
    have hx := (tsorted_cons j w t).1 h
    rw [tdel]
    split
    · exact ⟨hx.2, fun e he => List.mem_cons_of_mem _ he⟩
    · refine ⟨(tsorted_cons ..).2 ⟨fun e he => hx.1 e ((ih hx.2).2 e he), (ih hx.2).1⟩, fun e he => ?_⟩
      rcases List.mem_cons.1 he with rfl | he
      · exact List.mem_cons_self ..
      · exact List.mem_cons_of_mem _ ((ih hx.2).2 e he)

theorem tget_mem {α : Type} (d : α) (t : Tab α) (k : Nat) : tget d t k = d ∨ (k, tget d t k) ∈ t := by
  induction t with
  | nil => exact .inl rfl
  | cons x t ih =>
    obtain ⟨j, w⟩ := x
    rw [tget]
    split
    · next h => subst h; exact .inr (List.mem_cons_self ..)
    · exact ih.imp id (List.mem_cons_of_mem _)

/-- What a table reads after a write: the value written at its index, the old value elsewhere. -/
theorem tget_tput {α : Type} (d : α) (t : Tab α) (k j : Nat) (v : α) : tget d (tput t k v) j = if j = k then v else tget d t j := by
  induction t with
  | nil => simp only [tput, tget]; split <;> split <;> first | rfl | omega
  | cons x t ih =>
    obtain ⟨i, w⟩ := x
    rw [tput]
    split
    · simp only [tget]; (repeat' split) <;> first | rfl | omega
    · split
      · simp only [tget]; (repeat' split) <;> first | rfl | omega
      · simp only [tget, ih]; (repeat' split) <;> first | rfl | omega

/-- A field's indices stay canonical under a write. -/
theorem regsCanon_tput {t : Tab (Tab Nat)} {k : Nat} {v : Tab Nat} (h : regsCanon t) (hv : tsorted v = true) : regsCanon (tput t k v) :=
  ⟨tsorted_tput _ _ h.1, fun _ he => (mem_tput he).elim (fun e => e ▸ hv) (h.2 _)⟩

theorem regsCanon_get {t : Tab (Tab Nat)} (h : regsCanon t) (k : Nat) : tsorted (tget [] t k) = true :=
  (tget_mem [] t k).elim (fun e => by rw [e]; rfl) (h.2 _)

theorem State.wr_keeps {s0 s : State} (f : Field) (i v : Nat) (hσ : Keeps s0 s) : Keeps s0 (s.wr f i v) :=
  hσ.trans ⟨rfl, rfl, fun c => regsCanon_tput c (tsorted_tput _ _ (regsCanon_get c _)), List.prefix_refl _⟩

/-- Reading back a field after a write of some field. -/
theorem State.rd_wr (s : State) (f g : Field) (i j v : Nat) :
    (s.wr f i v).rd g j = if g.id = f.id ∧ j = i then v % 2 ^ f.width else s.rd g j := by
  unfold State.rd State.wr
  rw [tget_tput]
  split
  · next h => rw [tget_tput, h]; simp
  · next h => simp [h]

/-- The registers that a power die without supply leaves. -/
theorem regsCanon_without (d : Nat) {t : Tab (Tab Nat)} (h : regsCanon t) : regsCanon (regsWithout d t) := by
  unfold regsWithout
  have k : ∀ (l : List Field) (t : Tab (Tab Nat)), regsCanon t → regsCanon (l.foldl (fun t f =>
      let es := (tget [] t f.id).filter fun e => match fieldDie f e.1 with | some k => k != d | none => true
      if es.isEmpty then tdel t f.id else tput t f.id es) t) := by
    intro l
    induction l with
    | nil => exact fun _ h => h
    | cons f l ih =>
      intro t h
      refine ih _ ?_
      dsimp only
      split
      · exact ⟨(tsorted_tdel _ h.1).1, fun e he => h.2 e ((tsorted_tdel _ h.1).2 e he)⟩
      · exact regsCanon_tput h (tsorted_filter _ (regsCanon_get h _))
  exact k _ _ h

/-- The registers that power dies with supply keep over a power-up reset. -/
theorem regsCanon_kept (regs : Tab (Tab Nat)) (kept : Nat → Bool) (h : regsCanon regs) : regsCanon (keptRegs regs kept) := by
  unfold keptRegs
  have k : ∀ (l : List Field) (t : Tab (Tab Nat)), regsCanon t → regsCanon (l.foldl (fun t f =>
      let es := (tget [] regs f.id).filter fun e => match fieldDie f e.1 with | some d => kept d | none => false
      if es.isEmpty then t else tput t f.id es) t) := by
    intro l
    induction l with
    | nil => exact fun _ h => h
    | cons f l ih =>
      intro t ht
      refine ih _ ?_
      dsimp only
      split
      · exact ht
      · exact regsCanon_tput ht (tsorted_filter _ (regsCanon_get h _))
  exact k _ _ ⟨rfl, fun _ h => by cases h⟩

end Sys2Proof.Machine
end

