-- ==== Sys2Proof/Laws/KeepsOps.lean ====
section
/-!
SUPPORT. Sys2Proof/Laws/KeepsOps.lean: what Keeps says of the shared operations and those of the channel, LED, valve, bridge, loop and object files.
-/
namespace Sys2Proof.Machine

theorem State.wrb_keeps {σ s : State} (f : Sys2Proof.Machine.Field) (i : Nat) (b : Bool) (hσ : Keeps σ s) : Keeps σ (State.wrb s f i b) := by
  unfold State.wrb
  repeat' first | with_reducible assumption | with_reducible apply State.wr_keeps | with_reducible apply Keeps.ite | with_reducible apply Keeps.foldl
                | with_reducible apply Keeps.ite_fst | with_reducible apply Keeps.foldl_fst | split | dsimp only | (intro _; rfl) | (intro _; intros)

theorem State.bump_keeps {σ s : State} (f : Sys2Proof.Machine.Field) (i : Nat) (n : Nat) (hσ : Keeps σ s) : Keeps σ (State.bump s f i n) := by
  unfold State.bump
  repeat' first | with_reducible assumption | with_reducible apply State.wr_keeps | with_reducible apply Keeps.ite | with_reducible apply Keeps.foldl
                | with_reducible apply Keeps.ite_fst | with_reducible apply Keeps.foldl_fst | split | dsimp only | (intro _; rfl) | (intro _; intros)

theorem State.rstField_keeps {σ s : State} (f : Sys2Proof.Machine.Field) (i : Nat) (hσ : Keeps σ s) : Keeps σ (State.rstField s f i) := by
  unfold State.rstField
  repeat' first | with_reducible assumption | with_reducible apply State.wr_keeps | with_reducible apply Keeps.ite | with_reducible apply Keeps.foldl
                | with_reducible apply Keeps.ite_fst | with_reducible apply Keeps.foldl_fst | split | dsimp only | (intro _; rfl) | (intro _; intros)

theorem State.rstFields_keeps {σ s : State} (fs : List Sys2Proof.Machine.Field) (i : Nat) (hσ : Keeps σ s) : Keeps σ (State.rstFields s fs i) := by
  unfold State.rstFields
  repeat' first | with_reducible assumption | with_reducible apply State.rstField_keeps | with_reducible apply Keeps.ite
                | with_reducible apply Keeps.foldl | with_reducible apply Keeps.ite_fst | with_reducible apply Keeps.foldl_fst | split | dsimp only
                | (intro _; rfl) | (intro _; intros)

theorem State.setFn_keeps {σ s : State} (k : Nat) (f : Sys2Proof.Machine.Func) (hσ : Keeps σ s) : Keeps σ (State.setFn s k f) := by
  unfold State.setFn
  repeat' first | with_reducible assumption | with_reducible apply Keeps.ite | with_reducible apply Keeps.foldl | with_reducible apply Keeps.ite_fst
                | with_reducible apply Keeps.foldl_fst | split | dsimp only | (intro _; rfl) | (intro _; intros)
                | (refine Keeps.same (by rfl) (by rfl) (by rfl) (by rfl) ?_)

theorem State.setCmdRing_keeps {σ s : State} (pf : Nat) (n : Nat) (r : Sys2Proof.Machine.CmdRing) (hσ : Keeps σ s) : Keeps σ
    (State.setCmdRing s pf n r) := by
  unfold State.setCmdRing
  repeat' first | with_reducible assumption | with_reducible apply Keeps.ite | with_reducible apply Keeps.foldl | with_reducible apply Keeps.ite_fst
                | with_reducible apply Keeps.foldl_fst | split | dsimp only | (intro _; rfl) | (intro _; intros)
                | (refine Keeps.same (by rfl) (by rfl) (by rfl) (by rfl) ?_)

theorem State.setCplRing_keeps {σ s : State} (pf : Nat) (m : Nat) (r : Sys2Proof.Machine.OutRing) (hσ : Keeps σ s) : Keeps σ
    (State.setCplRing s pf m r) := by
  unfold State.setCplRing
  repeat' first | with_reducible assumption | with_reducible apply Keeps.ite | with_reducible apply Keeps.foldl | with_reducible apply Keeps.ite_fst
                | with_reducible apply Keeps.foldl_fst | split | dsimp only | (intro _; rfl) | (intro _; intros)
                | (refine Keeps.same (by rfl) (by rfl) (by rfl) (by rfl) ?_)

theorem State.setEvtRing_keeps {σ s : State} (pf : Nat) (r : Sys2Proof.Machine.OutRing) (hσ : Keeps σ s) : Keeps σ (State.setEvtRing s pf r) := by
  unfold State.setEvtRing
  repeat' first | with_reducible assumption | with_reducible apply Keeps.ite | with_reducible apply Keeps.foldl | with_reducible apply Keeps.ite_fst
                | with_reducible apply Keeps.foldl_fst | split | dsimp only | (intro _; rfl) | (intro _; intros)
                | (refine Keeps.same (by rfl) (by rfl) (by rfl) (by rfl) ?_)

theorem State.deliver_keeps {σ s : State} (type : Nat) (obj : Nat) (data : Nat) (time : Nat) (fault : Bool) (pfs : List Nat) (hσ : Keeps σ s) :
    Keeps σ (State.deliver s type obj data time fault pfs) := by
  unfold State.deliver
  repeat' first | with_reducible assumption | with_reducible apply Keeps.ite | with_reducible apply Keeps.foldl | with_reducible apply Keeps.ite_fst
                | with_reducible apply Keeps.foldl_fst | split | dsimp only | (intro _; rfl) | (intro _; intros)
                | (refine Keeps.same (by rfl) (by rfl) (by rfl) (by rfl) ?_)

theorem State.raiseTo_keeps {σ s : State} (type : Nat) (obj : Nat) (data : Nat) (fault : Bool) (pfs : List Nat) (hσ : Keeps σ s) : Keeps σ
    (State.raiseTo s type obj data fault pfs) := by
  unfold State.raiseTo
  repeat' first | with_reducible assumption | with_reducible apply State.deliver_keeps | with_reducible apply Keeps.ite
                | with_reducible apply Keeps.foldl | with_reducible apply Keeps.ite_fst | with_reducible apply Keeps.foldl_fst | split | dsimp only
                | (intro _; rfl) | (intro _; intros) | (refine Keeps.same (by rfl) (by rfl) (by rfl) (by rfl) ?_)

theorem State.raise_keeps {σ s : State} (type : Nat) (obj : Nat) (data : Nat) (hσ : Keeps σ s) : Keeps σ (State.raise s type obj data) := by
  unfold State.raise
  repeat' first | with_reducible assumption | with_reducible apply State.raiseTo_keeps | with_reducible apply Keeps.ite
                | with_reducible apply Keeps.foldl | with_reducible apply Keeps.ite_fst | with_reducible apply Keeps.foldl_fst | split | dsimp only
                | (intro _; rfl) | (intro _; intros)

theorem State.raiseFault_keeps {σ s : State} (type : Nat) (obj : Nat) (data : Nat) (hσ : Keeps σ s) : Keeps σ (State.raiseFault s type obj data) := by
  unfold State.raiseFault
  repeat' first | with_reducible assumption | with_reducible apply State.raiseTo_keeps | with_reducible apply Keeps.ite
                | with_reducible apply Keeps.foldl | with_reducible apply Keeps.ite_fst | with_reducible apply Keeps.foldl_fst | split | dsimp only
                | (intro _; rfl) | (intro _; intros)

theorem State.setFlag_keeps {σ s : State} (f : Sys2Proof.Machine.Field) (i : Nat) (type : Nat) (obj : Nat) (data : Nat) (hσ : Keeps σ s) : Keeps σ
    (State.setFlag s f i type obj data) := by
  unfold State.setFlag
  repeat' first | with_reducible assumption | with_reducible apply State.raiseFault_keeps | with_reducible apply State.wr_keeps
                | with_reducible apply Keeps.ite | with_reducible apply Keeps.foldl | with_reducible apply Keeps.ite_fst
                | with_reducible apply Keeps.foldl_fst | split | dsimp only | (intro _; rfl) | (intro _; intros)

theorem State.flagSet_keeps {σ s : State} (f : Sys2Proof.Machine.Field) (i : Nat) (w : Nat) (off : Nat) (b : Nat) (hσ : Keeps σ s) : Keeps σ
    (State.flagSet s f i w off b) := by
  unfold State.flagSet
  repeat' first | with_reducible assumption | with_reducible apply State.setFlag_keeps | with_reducible apply Keeps.ite
                | with_reducible apply Keeps.foldl | with_reducible apply Keeps.ite_fst | with_reducible apply Keeps.foldl_fst | split | dsimp only
                | (intro _; rfl) | (intro _; intros)

theorem State.alsoIn_keeps {σ s : State} (w : Nat) (type : Nat) (obj : Nat) (data : Nat) (refused : Bool) (hσ : Keeps σ s) : Keeps σ
    (State.alsoIn s w type obj data refused) := by
  unfold State.alsoIn
  repeat' first | with_reducible assumption | with_reducible apply Keeps.ite | with_reducible apply Keeps.foldl | with_reducible apply Keeps.ite_fst
                | with_reducible apply Keeps.foldl_fst | split | dsimp only | (intro _; rfl) | (intro _; intros)
                | (refine Keeps.same (by rfl) (by rfl) (by rfl) (by rfl) ?_)

theorem State.logClamp_keeps {σ s : State} (w : Nat) (e : Sys2Proof.Machine.ClampEntry) (hσ : Keeps σ s) : Keeps σ (State.logClamp s w e) := by
  unfold State.logClamp
  repeat' first | with_reducible assumption | with_reducible apply Keeps.ite | with_reducible apply Keeps.foldl | with_reducible apply Keeps.ite_fst
                | with_reducible apply Keeps.foldl_fst | split | dsimp only | (intro _; rfl) | (intro _; intros)
                | (refine Keeps.same (by rfl) (by rfl) (by rfl) (by rfl) ?_)

theorem State.logClamps_keeps {σ s : State} (w : Nat) (es : List Sys2Proof.Machine.ClampEntry) (hσ : Keeps σ s) : Keeps σ
    (State.logClamps s w es) := by
  unfold State.logClamps
  repeat' first | with_reducible assumption | with_reducible apply State.logClamp_keeps | with_reducible apply Keeps.ite
                | with_reducible apply Keeps.foldl | with_reducible apply Keeps.ite_fst | with_reducible apply Keeps.foldl_fst | split | dsimp only
                | (intro _; rfl) | (intro _; intros)

theorem State.modFlight_keeps {σ s : State} (c : Sys2Proof.Machine.Cmd) (f : Sys2Proof.Machine.InFlight → Sys2Proof.Machine.InFlight) (hσ : Keeps σ s)
    : Keeps σ (State.modFlight s c f) := by
  unfold State.modFlight
  repeat' first | with_reducible assumption | with_reducible apply Keeps.ite | with_reducible apply Keeps.foldl | with_reducible apply Keeps.ite_fst
                | with_reducible apply Keeps.foldl_fst | split | dsimp only | (intro _; rfl) | (intro _; intros)
                | (refine Keeps.same (by rfl) (by rfl) (by rfl) (by rfl) ?_)

theorem State.dropFlight_keeps {σ s : State} (c : Sys2Proof.Machine.Cmd) (hσ : Keeps σ s) : Keeps σ (State.dropFlight s c) := by
  unfold State.dropFlight
  repeat' first | with_reducible assumption | with_reducible apply Keeps.ite | with_reducible apply Keeps.foldl | with_reducible apply Keeps.ite_fst
                | with_reducible apply Keeps.foldl_fst | split | dsimp only | (intro _; rfl) | (intro _; intros)
                | (refine Keeps.same (by rfl) (by rfl) (by rfl) (by rfl) ?_)

theorem State.completeFlight_keeps {σ s : State} (c : Sys2Proof.Machine.Cmd) (code : Sys2Proof.Machine.Code) (sub : Nat) (hσ : Keeps σ s) : Keeps σ
    (State.completeFlight s c code sub) := by
  unfold State.completeFlight
  repeat' first | with_reducible assumption | with_reducible apply Keeps.ite | with_reducible apply Keeps.foldl | with_reducible apply Keeps.ite_fst
                | with_reducible apply Keeps.foldl_fst | split | dsimp only | (intro _; rfl) | (intro _; intros)
                | (refine Keeps.same (by rfl) (by rfl) (by rfl) (by rfl) ?_)

theorem State.turnAway_keeps {σ s : State} (c : Sys2Proof.Machine.Cmd) (code : Sys2Proof.Machine.Code) (sub : Nat) (hσ : Keeps σ s) : Keeps σ
    (State.turnAway s c code sub) := by
  unfold State.turnAway
  repeat' first | with_reducible assumption | with_reducible apply Keeps.ite | with_reducible apply Keeps.foldl | with_reducible apply Keeps.ite_fst
                | with_reducible apply Keeps.foldl_fst | split | dsimp only | (intro _; rfl) | (intro _; intros)
                | (refine Keeps.same (by rfl) (by rfl) (by rfl) (by rfl) ?_)

theorem State.sendCpls_keeps {σ s : State} (hσ : Keeps σ s) : Keeps σ (State.sendCpls s) := by
  unfold State.sendCpls
  repeat' first | with_reducible assumption | with_reducible apply Keeps.ite | with_reducible apply Keeps.foldl | with_reducible apply Keeps.ite_fst
                | with_reducible apply Keeps.foldl_fst | split | dsimp only | (intro _; rfl) | (intro _; intros)
                | (refine Keeps.same (by rfl) (by rfl) (by rfl) (by rfl) ?_)

theorem State.complete_keeps {σ s : State} (c : Sys2Proof.Machine.Cmd) (code : Sys2Proof.Machine.Code) (sub : Nat) (hσ : Keeps σ s) : Keeps σ
    (State.complete s c code sub) := by
  unfold State.complete
  repeat' first | with_reducible assumption | with_reducible apply State.completeFlight_keeps | with_reducible apply Keeps.ite
                | with_reducible apply Keeps.foldl | with_reducible apply Keeps.ite_fst | with_reducible apply Keeps.foldl_fst | split | dsimp only
                | (intro _; rfl) | (intro _; intros) | (refine Keeps.same (by rfl) (by rfl) (by rfl) (by rfl) ?_)

theorem State.defer_keeps {σ s : State} (c : Sys2Proof.Machine.Cmd) (planned : Nat) (sub : Nat) (hσ : Keeps σ s) : Keeps σ
    (State.defer s c planned sub) := by
  unfold State.defer
  repeat' first | with_reducible assumption | with_reducible apply State.modFlight_keeps | with_reducible apply State.setCplRing_keeps
                | with_reducible apply Keeps.ite | with_reducible apply Keeps.foldl | with_reducible apply Keeps.ite_fst
                | with_reducible apply Keeps.foldl_fst | split | dsimp only | (intro _; rfl) | (intro _; intros)
                | (refine Keeps.same (by rfl) (by rfl) (by rfl) (by rfl) ?_)

theorem State.begin_keeps {σ s : State} (c : Sys2Proof.Machine.Cmd) (hσ : Keeps σ s) : Keeps σ (State.begin s c) := by
  unfold State.begin
  repeat' first | with_reducible assumption | with_reducible apply State.modFlight_keeps | with_reducible apply Keeps.ite
                | with_reducible apply Keeps.foldl | with_reducible apply Keeps.ite_fst | with_reducible apply Keeps.foldl_fst | split | dsimp only
                | (intro _; rfl) | (intro _; intros)

theorem State.descClamp_keeps {σ s : State} (c : Sys2Proof.Machine.Cmd) (w : Nat) (byteOff : Nat) (lsb : Nat) (width : Nat) (req : Nat)
    (applied : Nat) (hσ : Keeps σ s) : Keeps σ (State.descClamp s c w byteOff lsb width req applied) := by
  unfold State.descClamp
  repeat' first | with_reducible assumption | with_reducible apply State.logClamp_keeps | with_reducible apply State.modFlight_keeps
                | with_reducible apply Keeps.ite | with_reducible apply Keeps.foldl | with_reducible apply Keeps.ite_fst
                | with_reducible apply Keeps.foldl_fst | split | dsimp only | (intro _; rfl) | (intro _; intros)

theorem State.setLoad_keeps {σ s : State} (o : Nat) (l : Sys2Proof.Machine.Load) (hσ : Keeps σ s) : Keeps σ (State.setLoad s o l) := by
  unfold State.setLoad
  repeat' first | with_reducible assumption | with_reducible apply Keeps.ite | with_reducible apply Keeps.foldl | with_reducible apply Keeps.ite_fst
                | with_reducible apply Keeps.foldl_fst | split | dsimp only | (intro _; rfl) | (intro _; intros)
                | (refine Keeps.same (by rfl) (by rfl) (by rfl) (by rfl) ?_)

theorem State.setGroup_keeps {σ s : State} (g : Nat) (x : Sys2Proof.Machine.Group) (hσ : Keeps σ s) : Keeps σ (State.setGroup s g x) := by
  unfold State.setGroup
  repeat' first | with_reducible assumption | with_reducible apply Keeps.ite | with_reducible apply Keeps.foldl | with_reducible apply Keeps.ite_fst
                | with_reducible apply Keeps.foldl_fst | split | dsimp only | (intro _; rfl) | (intro _; intros)
                | (refine Keeps.same (by rfl) (by rfl) (by rfl) (by rfl) ?_)

theorem State.arbLog_keeps {σ s : State} (d : Sys2Proof.Machine.Demand) (code : Sys2Proof.Machine.Code) (sub : Nat) (hσ : Keeps σ s) : Keeps σ
    (State.arbLog s d code sub) := by
  unfold State.arbLog
  repeat' first | with_reducible assumption | with_reducible apply State.bump_keeps | with_reducible apply State.wr_keeps
                | with_reducible apply Keeps.ite | with_reducible apply Keeps.foldl | with_reducible apply Keeps.ite_fst
                | with_reducible apply Keeps.foldl_fst | split | dsimp only | (intro _; rfl) | (intro _; intros)
                | (refine Keeps.same (by rfl) (by rfl) (by rfl) (by rfl) ?_)

theorem State.noteOver_keeps {σ s : State} (hσ : Keeps σ s) : Keeps σ (State.noteOver s) := by
  unfold State.noteOver
  repeat' first | with_reducible assumption | with_reducible apply Keeps.ite | with_reducible apply Keeps.foldl | with_reducible apply Keeps.ite_fst
                | with_reducible apply Keeps.foldl_fst | split | dsimp only | (intro _; rfl) | (intro _; intros)
                | (refine Keeps.same (by rfl) (by rfl) (by rfl) (by rfl) ?_)

theorem State.showUse_keeps {σ s0 : State} (hσ : Keeps σ s0) : Keeps σ (State.showUse s0) := by
  unfold State.showUse
  repeat' first | with_reducible assumption | with_reducible apply State.noteOver_keeps | with_reducible apply State.wr_keeps
                | with_reducible apply Keeps.ite | with_reducible apply Keeps.foldl | with_reducible apply Keeps.ite_fst
                | with_reducible apply Keeps.foldl_fst | split | dsimp only | (intro _; rfl) | (intro _; intros)

theorem State.unwait_keeps {σ s : State} (p : Sys2Proof.Machine.Demand → Bool) (hσ : Keeps σ s) : Keeps σ (State.unwait s p) := by
  unfold State.unwait
  repeat' first | with_reducible assumption | with_reducible apply State.wr_keeps | with_reducible apply Keeps.ite | with_reducible apply Keeps.foldl
                | with_reducible apply Keeps.ite_fst | with_reducible apply Keeps.foldl_fst | split | dsimp only | (intro _; rfl) | (intro _; intros)
                | (refine Keeps.same (by rfl) (by rfl) (by rfl) (by rfl) ?_)

theorem State.unwaitOwn_keeps {σ s : State} (o : Nat) (hσ : Keeps σ s) : Keeps σ (State.unwaitOwn s o) := by
  unfold State.unwaitOwn
  repeat' first | with_reducible assumption | with_reducible apply State.unwait_keeps | with_reducible apply Keeps.ite
                | with_reducible apply Keeps.foldl | with_reducible apply Keeps.ite_fst | with_reducible apply Keeps.foldl_fst | split | dsimp only
                | (intro _; rfl) | (intro _; intros)

theorem State.await_keeps {σ s : State} (d : Sys2Proof.Machine.Demand) (hσ : Keeps σ s) : Keeps σ (State.await s d) := by
  unfold State.await
  repeat' first | with_reducible assumption | with_reducible apply State.wr_keeps | with_reducible apply Keeps.ite | with_reducible apply Keeps.foldl
                | with_reducible apply Keeps.ite_fst | with_reducible apply Keeps.foldl_fst | split | dsimp only | (intro _; rfl) | (intro _; intros)
                | (refine Keeps.same (by rfl) (by rfl) (by rfl) (by rfl) ?_)

theorem State.sampled_keeps {σ s : State} (k : Nat) (v : Nat) (hσ : Keeps σ s) : Keeps σ (State.sampled s k v) := by
  unfold State.sampled
  repeat' first | with_reducible assumption | with_reducible apply Keeps.ite | with_reducible apply Keeps.foldl | with_reducible apply Keeps.ite_fst
                | with_reducible apply Keeps.foldl_fst | split | dsimp only | (intro _; rfl) | (intro _; intros)
                | (refine Keeps.same (by rfl) (by rfl) (by rfl) (by rfl) ?_)

theorem State.endTransient_keeps {σ s : State} (o : Nat) (hσ : Keeps σ s) : Keeps σ (State.endTransient s o) := by
  unfold State.endTransient
  repeat' first | with_reducible assumption | with_reducible apply State.showUse_keeps | with_reducible apply State.setLoad_keeps
                | with_reducible apply Keeps.ite | with_reducible apply Keeps.foldl | with_reducible apply Keeps.ite_fst
                | with_reducible apply Keeps.foldl_fst | split | dsimp only | (intro _; rfl) | (intro _; intros)

theorem State.release_keeps {σ s : State} (o : Nat) (ilim : Nat) (hσ : Keeps σ s) : Keeps σ (State.release s o ilim) := by
  unfold State.release
  repeat' first | with_reducible assumption | with_reducible apply State.showUse_keeps | with_reducible apply State.setLoad_keeps
                | with_reducible apply Keeps.ite | with_reducible apply Keeps.foldl | with_reducible apply Keeps.ite_fst
                | with_reducible apply Keeps.foldl_fst | split | dsimp only | (intro _; rfl) | (intro _; intros)

theorem State.journal_keeps {σ s : State} (c : Sys2Proof.Machine.Cmd) (hσ : Keeps σ s) : Keeps σ (State.journal s c) := by
  unfold State.journal
  repeat' first | with_reducible assumption | with_reducible apply State.complete_keeps | with_reducible apply State.modFlight_keeps
                | with_reducible apply Keeps.ite | with_reducible apply Keeps.foldl | with_reducible apply Keeps.ite_fst
                | with_reducible apply Keeps.foldl_fst | split | dsimp only | (intro _; rfl) | (intro _; intros)
                | (refine Keeps.same (by rfl) (by rfl) (by rfl) (by rfl) ?_)

theorem State.notePerformed_keeps {σ s : State} (c : Sys2Proof.Machine.Cmd) (hσ : Keeps σ s) : Keeps σ (State.notePerformed s c) := by
  unfold State.notePerformed
  repeat' first | with_reducible assumption | with_reducible apply Keeps.ite | with_reducible apply Keeps.foldl | with_reducible apply Keeps.ite_fst
                | with_reducible apply Keeps.foldl_fst | split | dsimp only | (intro _; rfl) | (intro _; intros)
                | (refine Keeps.same (by rfl) (by rfl) (by rfl) (by rfl) ?_)

theorem State.pushFlight_keeps {σ s : State} (c : Sys2Proof.Machine.Cmd) (hσ : Keeps σ s) : Keeps σ (State.pushFlight s c) := by
  unfold State.pushFlight
  repeat' first | with_reducible assumption | with_reducible apply Keeps.ite | with_reducible apply Keeps.foldl | with_reducible apply Keeps.ite_fst
                | with_reducible apply Keeps.foldl_fst | split | dsimp only | (intro _; rfl) | (intro _; intros)
                | (refine Keeps.same (by rfl) (by rfl) (by rfl) (by rfl) ?_)

theorem State.takeIn_keeps {σ s : State} (c : Sys2Proof.Machine.Cmd) (hσ : Keeps σ s) : Keeps σ (State.takeIn s c).1 := by
  unfold State.takeIn
  repeat' first | with_reducible assumption | with_reducible apply State.turnAway_keeps | with_reducible apply State.pushFlight_keeps
                | with_reducible apply State.setCmdRing_keeps | with_reducible apply State.descClamp_keeps | with_reducible apply Keeps.ite
                | with_reducible apply Keeps.foldl | with_reducible apply Keeps.ite_fst | with_reducible apply Keeps.foldl_fst | split | dsimp only
                | (intro _; rfl) | (intro _; intros)

theorem State.forget_keeps {σ s : State} (p : Sys2Proof.Machine.Cmd → Bool) (hσ : Keeps σ s) : Keeps σ (State.forget s p) := by
  unfold State.forget
  repeat' first | with_reducible assumption | with_reducible apply State.wr_keeps | with_reducible apply Keeps.ite | with_reducible apply Keeps.foldl
                | with_reducible apply Keeps.ite_fst | with_reducible apply Keeps.foldl_fst | split | dsimp only | (intro _; rfl) | (intro _; intros)
                | (refine Keeps.same (by rfl) (by rfl) (by rfl) (by rfl) ?_)

theorem State.freeze_keeps {σ s : State} (v : Sys2Proof.Machine.Violation) (hσ : Keeps σ s) : Keeps σ (State.freeze s v) := by
  unfold State.freeze
  repeat' first | with_reducible assumption | with_reducible apply State.forget_keeps | with_reducible apply State.complete_keeps
                | with_reducible apply State.setFn_keeps | with_reducible apply State.raiseFault_keeps | with_reducible apply State.raise_keeps
                | with_reducible apply Keeps.ite | with_reducible apply Keeps.foldl | with_reducible apply Keeps.ite_fst
                | with_reducible apply Keeps.foldl_fst | split | dsimp only | (intro _; rfl) | (intro _; intros)
                | (refine Keeps.same (by rfl) (by rfl) (by rfl) (by rfl) ?_)

theorem State.violate_keeps {σ s : State} (v : Sys2Proof.Machine.Violation) (hσ : Keeps σ s) : Keeps σ (State.violate s v) := by
  unfold State.violate
  repeat' first | with_reducible assumption | with_reducible apply State.freeze_keeps | with_reducible apply Keeps.ite
                | with_reducible apply Keeps.foldl | with_reducible apply Keeps.ite_fst | with_reducible apply Keeps.foldl_fst | split | dsimp only
                | (intro _; rfl) | (intro _; intros)

theorem State.dma_keeps {σ s : State} (pf : Nat) (addr : Nat) (len : Nat) (hσ : Keeps σ s) : Keeps σ (State.dma s pf addr len).1 := by
  unfold State.dma
  repeat' first | with_reducible assumption | with_reducible apply State.violate_keeps | with_reducible apply Keeps.ite
                | with_reducible apply Keeps.foldl | with_reducible apply Keeps.ite_fst | with_reducible apply Keeps.foldl_fst | split | dsimp only
                | (intro _; rfl) | (intro _; intros)

theorem State.takeEntry_keeps {σ s : State} (pf : Nat) (n : Nat) (hσ : Keeps σ s) : Keeps σ (State.takeEntry s pf n) := by
  unfold State.takeEntry
  repeat' first | with_reducible assumption | with_reducible apply State.setCmdRing_keeps | with_reducible apply Keeps.ite
                | with_reducible apply Keeps.foldl | with_reducible apply Keeps.ite_fst | with_reducible apply Keeps.foldl_fst | split | dsimp only
                | (intro _; rfl) | (intro _; intros) | (refine Keeps.same (by rfl) (by rfl) (by rfl) (by rfl) ?_)

theorem State.headWb_keeps {σ s : State} (pf : Nat) (n : Nat) (hσ : Keeps σ s) : Keeps σ (State.headWb s pf n) := by
  unfold State.headWb
  repeat' first | with_reducible assumption | with_reducible apply State.dma_keeps | with_reducible apply Keeps.ite | with_reducible apply Keeps.foldl
                | with_reducible apply Keeps.ite_fst | with_reducible apply Keeps.foldl_fst | split | dsimp only | (intro _; rfl) | (intro _; intros)
                | (refine Keeps.same (by rfl) (by rfl) (by rfl) (by rfl) ?_)

theorem State.arrive_keeps {σ s : State} (c : Sys2Proof.Machine.Cmd) (hσ : Keeps σ s) : Keeps σ (State.arrive s c).1 := by
  unfold State.arrive
  repeat' first | with_reducible assumption | with_reducible apply State.journal_keeps | with_reducible apply State.modFlight_keeps
                | with_reducible apply State.dma_keeps | with_reducible apply State.takeIn_keeps | with_reducible apply State.takeEntry_keeps
                | with_reducible apply State.headWb_keeps | with_reducible apply Keeps.ite | with_reducible apply Keeps.foldl
                | with_reducible apply Keeps.ite_fst | with_reducible apply Keeps.foldl_fst | split | dsimp only | (intro _; rfl) | (intro _; intros)

theorem State.serve_keeps {σ s : State} (dt : Ns) (c : Cmd) (body : State → State) (hσ : Keeps σ (s.tick dt))
    (hb : ∀ s, Keeps σ s → Keeps σ (body s)) : Keeps σ (s.serve dt c body) := by
  unfold State.serve
  dsimp only
  split
  · exact State.arrive_keeps c hσ
  · split
    · exact State.complete_keeps _ _ _ (State.arrive_keeps c hσ)
    · exact hb _ (State.notePerformed_keeps _ (State.arrive_keeps c hσ))

theorem State.serveOp_keeps {σ s : State} (dt : Ns) (c : Cmd) (op : Nat) (ks : List Kind) (body : State → State) (hσ : Keeps σ (s.tick dt))
    (hb : ∀ s, Keeps σ s → Keeps σ (body s)) : Keeps σ (s.serveOp dt c op ks body) := by
  unfold State.serveOp
  exact Keeps.ite (State.serve_keeps dt c body hσ hb) hσ

theorem State.postResult_keeps {σ s : State} (pf : Nat) (addr : Nat) (bytes : List Sys2Proof.Byte) (hσ : Keeps σ s) : Keeps σ
    (State.postResult s pf addr bytes) := by
  unfold State.postResult
  repeat' first | with_reducible assumption | with_reducible apply Keeps.ite | with_reducible apply Keeps.foldl | with_reducible apply Keeps.ite_fst
                | with_reducible apply Keeps.foldl_fst | split | dsimp only | (intro _; rfl) | (intro _; intros)
                | (refine Keeps.same (by rfl) (by rfl) (by rfl) (by rfl) ?_)

theorem State.answerWith_keeps {σ s : State} (c : Sys2Proof.Machine.Cmd) (bytes : List Sys2Proof.Byte) (hσ : Keeps σ s) : Keeps σ
    (State.answerWith s c bytes) := by
  unfold State.answerWith
  repeat' first | with_reducible assumption | with_reducible apply State.complete_keeps | with_reducible apply State.dma_keeps
                | with_reducible apply State.postResult_keeps | with_reducible apply Keeps.ite | with_reducible apply Keeps.foldl
                | with_reducible apply Keeps.ite_fst | with_reducible apply Keeps.foldl_fst | split | dsimp only | (intro _; rfl) | (intro _; intros)

theorem State.setObj_keeps {σ s : State} (o : Nat) (x : Sys2Proof.Machine.Obj) (hσ : Keeps σ s) : Keeps σ (State.setObj s o x) := by
  unfold State.setObj
  repeat' first | with_reducible assumption | with_reducible apply Keeps.ite | with_reducible apply Keeps.foldl | with_reducible apply Keeps.ite_fst
                | with_reducible apply Keeps.foldl_fst | split | dsimp only | (intro _; rfl) | (intro _; intros)
                | (refine Keeps.same (by rfl) (by rfl) (by rfl) (by rfl) ?_)

theorem State.modObj_keeps {σ s : State} (o : Nat) (f : Sys2Proof.Machine.Obj → Sys2Proof.Machine.Obj) (hσ : Keeps σ s) : Keeps σ
    (State.modObj s o f) := by
  unfold State.modObj
  repeat' first | with_reducible assumption | with_reducible apply State.setObj_keeps | with_reducible apply Keeps.ite
                | with_reducible apply Keeps.foldl | with_reducible apply Keeps.ite_fst | with_reducible apply Keeps.foldl_fst | split | dsimp only
                | (intro _; rfl) | (intro _; intros)

theorem State.modLed_keeps {σ s : State} (n : Nat) (f : Sys2Proof.Machine.Led → Sys2Proof.Machine.Led) (hσ : Keeps σ s) : Keeps σ
    (State.modLed s n f) := by
  unfold State.modLed
  repeat' first | with_reducible assumption | with_reducible apply Keeps.ite | with_reducible apply Keeps.foldl | with_reducible apply Keeps.ite_fst
                | with_reducible apply Keeps.foldl_fst | split | dsimp only | (intro _; rfl) | (intro _; intros)
                | (refine Keeps.same (by rfl) (by rfl) (by rfl) (by rfl) ?_)

theorem State.modValve_keeps {σ s : State} (n : Nat) (f : Sys2Proof.Machine.Valve → Sys2Proof.Machine.Valve) (hσ : Keeps σ s) : Keeps σ
    (State.modValve s n f) := by
  unfold State.modValve
  repeat' first | with_reducible assumption | with_reducible apply Keeps.ite | with_reducible apply Keeps.foldl | with_reducible apply Keeps.ite_fst
                | with_reducible apply Keeps.foldl_fst | split | dsimp only | (intro _; rfl) | (intro _; intros)
                | (refine Keeps.same (by rfl) (by rfl) (by rfl) (by rfl) ?_)

theorem State.modBridge_keeps {σ s : State} (n : Nat) (f : Sys2Proof.Machine.Bridge → Sys2Proof.Machine.Bridge) (hσ : Keeps σ s) : Keeps σ
    (State.modBridge s n f) := by
  unfold State.modBridge
  repeat' first | with_reducible assumption | with_reducible apply Keeps.ite | with_reducible apply Keeps.foldl | with_reducible apply Keeps.ite_fst
                | with_reducible apply Keeps.foldl_fst | split | dsimp only | (intro _; rfl) | (intro _; intros)
                | (refine Keeps.same (by rfl) (by rfl) (by rfl) (by rfl) ?_)

theorem State.modLimp_keeps {σ s : State} (r : Nat) (f : Sys2Proof.Machine.Limp → Sys2Proof.Machine.Limp) (hσ : Keeps σ s) : Keeps σ
    (State.modLimp s r f) := by
  unfold State.modLimp
  repeat' first | with_reducible assumption | with_reducible apply Keeps.ite | with_reducible apply Keeps.foldl | with_reducible apply Keeps.ite_fst
                | with_reducible apply Keeps.foldl_fst | split | dsimp only | (intro _; rfl) | (intro _; intros)
                | (refine Keeps.same (by rfl) (by rfl) (by rfl) (by rfl) ?_)

theorem State.modMx_keeps {σ s : State} (f : Sys2Proof.Machine.Matrix → Sys2Proof.Machine.Matrix) (hσ : Keeps σ s) : Keeps σ (State.modMx s f) := by
  unfold State.modMx
  repeat' first | with_reducible assumption | with_reducible apply Keeps.ite | with_reducible apply Keeps.foldl | with_reducible apply Keeps.ite_fst
                | with_reducible apply Keeps.foldl_fst | split | dsimp only | (intro _; rfl) | (intro _; intros)
                | (refine Keeps.same (by rfl) (by rfl) (by rfl) (by rfl) ?_)

theorem State.modSw_keeps {σ s : State} (n : Nat) (f : Sys2Proof.Machine.SwIn → Sys2Proof.Machine.SwIn) (hσ : Keeps σ s) : Keeps σ
    (State.modSw s n f) := by
  unfold State.modSw
  repeat' first | with_reducible assumption | with_reducible apply Keeps.ite | with_reducible apply Keeps.foldl | with_reducible apply Keeps.ite_fst
                | with_reducible apply Keeps.foldl_fst | split | dsimp only | (intro _; rfl) | (intro _; intros)
                | (refine Keeps.same (by rfl) (by rfl) (by rfl) (by rfl) ?_)

theorem State.modIi_keeps {σ s : State} (n : Nat) (f : Sys2Proof.Machine.IiIn → Sys2Proof.Machine.IiIn) (hσ : Keeps σ s) : Keeps σ
    (State.modIi s n f) := by
  unfold State.modIi
  repeat' first | with_reducible assumption | with_reducible apply Keeps.ite | with_reducible apply Keeps.foldl | with_reducible apply Keeps.ite_fst
                | with_reducible apply Keeps.foldl_fst | split | dsimp only | (intro _; rfl) | (intro _; intros)
                | (refine Keeps.same (by rfl) (by rfl) (by rfl) (by rfl) ?_)

theorem State.setSt_keeps {σ s : State} (o : Nat) (v : Nat) (hσ : Keeps σ s) : Keeps σ (State.setSt s o v) := by
  unfold State.setSt
  repeat' first | with_reducible assumption | with_reducible apply State.modObj_keeps | with_reducible apply State.wr_keeps
                | with_reducible apply Keeps.ite | with_reducible apply Keeps.foldl | with_reducible apply Keeps.ite_fst
                | with_reducible apply Keeps.foldl_fst | split | dsimp only | (intro _; rfl) | (intro _; intros)

theorem State.count_keeps {σ s : State} (o : Nat) (k : Nat) (n : Nat) (hσ : Keeps σ s) : Keeps σ (State.count s o k n) := by
  unfold State.count
  repeat' first | with_reducible assumption | with_reducible apply State.modObj_keeps | with_reducible apply Keeps.ite
                | with_reducible apply Keeps.foldl | with_reducible apply Keeps.ite_fst | with_reducible apply Keeps.foldl_fst | split | dsimp only
                | (intro _; rfl) | (intro _; intros)

theorem State.objEvent_keeps {σ s : State} (o : Nat) (yy : Nat) (hσ : Keeps σ s) : Keeps σ (State.objEvent s o yy) := by
  unfold State.objEvent
  repeat' first | with_reducible assumption | with_reducible apply State.raise_keeps | with_reducible apply Keeps.ite
                | with_reducible apply Keeps.foldl | with_reducible apply Keeps.ite_fst | with_reducible apply Keeps.foldl_fst | split | dsimp only
                | (intro _; rfl) | (intro _; intros)

theorem State.objFault_keeps {σ s : State} (o : Nat) (yy : Nat) (hσ : Keeps σ s) : Keeps σ (State.objFault s o yy) := by
  unfold State.objFault
  repeat' first | with_reducible assumption | with_reducible apply State.raiseFault_keeps | with_reducible apply Keeps.ite
                | with_reducible apply Keeps.foldl | with_reducible apply Keeps.ite_fst | with_reducible apply Keeps.foldl_fst | split | dsimp only
                | (intro _; rfl) | (intro _; intros)

theorem State.showDie_keeps {σ s : State} (d : Nat) (hσ : Keeps σ s) : Keeps σ (State.showDie s d) := by
  unfold State.showDie
  repeat' first | with_reducible assumption | with_reducible apply State.wr_keeps | with_reducible apply Keeps.ite | with_reducible apply Keeps.foldl
                | with_reducible apply Keeps.ite_fst | with_reducible apply Keeps.foldl_fst | split | dsimp only | (intro _; rfl) | (intro _; intros)

theorem State.chMeasure_keeps {σ s : State} (o : Nat) (m : Sys2Proof.Machine.Meas) (hσ : Keeps σ s) : Keeps σ (State.chMeasure s o m) := by
  unfold State.chMeasure
  repeat' first | with_reducible assumption | with_reducible apply State.wr_keeps | with_reducible apply State.modObj_keeps
                | with_reducible apply State.showDie_keeps | with_reducible apply Keeps.ite | with_reducible apply Keeps.foldl
                | with_reducible apply Keeps.ite_fst | with_reducible apply Keeps.foldl_fst | split | dsimp only | (intro _; rfl) | (intro _; intros)

theorem State.stageMeasure_keeps {σ s : State} (o : Nat) (m : Sys2Proof.Machine.Meas) (hσ : Keeps σ s) : Keeps σ (State.stageMeasure s o m) := by
  unfold State.stageMeasure
  repeat' first | with_reducible assumption | with_reducible apply State.showDie_keeps | with_reducible apply Keeps.ite
                | with_reducible apply Keeps.foldl | with_reducible apply Keeps.ite_fst | with_reducible apply Keeps.foldl_fst | split | dsimp only
                | (intro _; rfl) | (intro _; intros) | (refine Keeps.same (by rfl) (by rfl) (by rfl) (by rfl) ?_)

theorem State.measure_keeps {σ s : State} (o : Nat) (m : Sys2Proof.Machine.Meas) (hσ : Keeps σ s) : Keeps σ (State.measure s o m) := by
  unfold State.measure
  repeat' first | with_reducible assumption | with_reducible apply State.stageMeasure_keeps | with_reducible apply State.wr_keeps
                | with_reducible apply State.chMeasure_keeps | with_reducible apply Keeps.ite | with_reducible apply Keeps.foldl
                | with_reducible apply Keeps.ite_fst | with_reducible apply Keeps.foldl_fst | split | dsimp only | (intro _; rfl) | (intro _; intros)

theorem State.setVerdict_keeps {σ s : State} (o : Nat) (v : Nat) (hσ : Keeps σ s) : Keeps σ (State.setVerdict s o v) := by
  unfold State.setVerdict
  repeat' first | with_reducible assumption | with_reducible apply State.wr_keeps | with_reducible apply State.bump_keeps
                | with_reducible apply State.objEvent_keeps | with_reducible apply Keeps.ite | with_reducible apply Keeps.foldl
                | with_reducible apply Keeps.ite_fst | with_reducible apply Keeps.foldl_fst | split | dsimp only | (intro _; rfl) | (intro _; intros)

theorem State.endChecks_keeps {σ s : State} (o : Nat) (code : Sys2Proof.Machine.Code) (sub : Nat) (hσ : Keeps σ s) : Keeps σ
    (State.endChecks s o code sub) := by
  unfold State.endChecks
  repeat' first | with_reducible assumption | with_reducible apply State.complete_keeps | with_reducible apply State.modObj_keeps
                | with_reducible apply Keeps.ite | with_reducible apply Keeps.foldl | with_reducible apply Keeps.ite_fst
                | with_reducible apply Keeps.foldl_fst | split | dsimp only | (intro _; rfl) | (intro _; intros)

theorem State.judged_keeps {σ s : State} (o : Nat) (v : Nat) (hσ : Keeps σ s) : Keeps σ (State.judged s o v) := by
  unfold State.judged
  repeat' first | with_reducible assumption | with_reducible apply State.modObj_keeps | with_reducible apply State.setVerdict_keeps
                | with_reducible apply State.endChecks_keeps | with_reducible apply Keeps.ite | with_reducible apply Keeps.foldl
                | with_reducible apply Keeps.ite_fst | with_reducible apply Keeps.foldl_fst | split | dsimp only | (intro _; rfl) | (intro _; intros)

theorem State.verdictSet_keeps {σ s : State} (o : Nat) (v : Nat) (hσ : Keeps σ s) : Keeps σ (State.verdictSet s o v) := by
  unfold State.verdictSet
  repeat' first | with_reducible assumption | with_reducible apply State.endChecks_keeps | with_reducible apply State.setVerdict_keeps
                | with_reducible apply Keeps.ite | with_reducible apply Keeps.foldl | with_reducible apply Keeps.ite_fst
                | with_reducible apply Keeps.foldl_fst | split | dsimp only | (intro _; rfl) | (intro _; intros)

theorem State.took_keeps {σ s : State} (o : Nat) (hσ : Keeps σ s) : Keeps σ (State.took s o) := by
  unfold State.took
  repeat' first | with_reducible assumption | with_reducible apply State.modObj_keeps | with_reducible apply Keeps.ite
                | with_reducible apply Keeps.foldl | with_reducible apply Keeps.ite_fst | with_reducible apply Keeps.foldl_fst | split | dsimp only
                | (intro _; rfl) | (intro _; intros)

theorem State.unverify_keeps {σ s : State} (o : Nat) (hσ : Keeps σ s) : Keeps σ (State.unverify s o) := by
  unfold State.unverify
  repeat' first | with_reducible assumption | with_reducible apply State.setVerdict_keeps | with_reducible apply State.modObj_keeps
                | with_reducible apply Keeps.ite | with_reducible apply Keeps.foldl | with_reducible apply Keeps.ite_fst
                | with_reducible apply Keeps.foldl_fst | split | dsimp only | (intro _; rfl) | (intro _; intros)

theorem State.endCmds_keeps {σ s : State} (o : Nat) (code : Sys2Proof.Machine.Code) (sub : Nat) (hσ : Keeps σ s) : Keeps σ
    (State.endCmds s o code sub) := by
  unfold State.endCmds
  repeat' first | with_reducible assumption | with_reducible apply State.modObj_keeps | with_reducible apply State.complete_keeps
                | with_reducible apply Keeps.ite | with_reducible apply Keeps.foldl | with_reducible apply Keeps.ite_fst
                | with_reducible apply Keeps.foldl_fst | split | dsimp only | (intro _; rfl) | (intro _; intros)

theorem State.cmdDone_keeps {σ s : State} (o : Nat) (hσ : Keeps σ s) : Keeps σ (State.cmdDone s o) := by
  unfold State.cmdDone
  repeat' first | with_reducible assumption | with_reducible apply State.complete_keeps | with_reducible apply State.modObj_keeps
                | with_reducible apply Keeps.ite | with_reducible apply Keeps.foldl | with_reducible apply Keeps.ite_fst
                | with_reducible apply Keeps.foldl_fst | split | dsimp only | (intro _; rfl) | (intro _; intros)

theorem State.chgDone_keeps {σ s : State} (o : Nat) (hσ : Keeps σ s) : Keeps σ (State.chgDone s o) := by
  unfold State.chgDone
  repeat' first | with_reducible assumption | with_reducible apply State.complete_keeps | with_reducible apply State.modObj_keeps
                | with_reducible apply Keeps.ite | with_reducible apply Keeps.foldl | with_reducible apply Keeps.ite_fst
                | with_reducible apply Keeps.foldl_fst | split | dsimp only | (intro _; rfl) | (intro _; intros)

theorem State.endWaiting_keeps {σ s : State} (o : Nat) (code : Sys2Proof.Machine.Code) (sub : Nat) (hσ : Keeps σ s) : Keeps σ
    (State.endWaiting s o code sub) := by
  unfold State.endWaiting
  repeat' first | with_reducible assumption | with_reducible apply State.complete_keeps | with_reducible apply State.modObj_keeps
                | with_reducible apply State.unwait_keeps | with_reducible apply Keeps.ite | with_reducible apply Keeps.foldl
                | with_reducible apply Keeps.ite_fst | with_reducible apply Keeps.foldl_fst | split | dsimp only | (intro _; rfl) | (intro _; intros)

theorem State.dropLoad_keeps {σ s : State} (o : Nat) (keep : Bool) (hσ : Keeps σ s) : Keeps σ (State.dropLoad s o keep) := by
  unfold State.dropLoad
  repeat' first | with_reducible assumption | with_reducible apply State.release_keeps | with_reducible apply Keeps.ite
                | with_reducible apply Keeps.foldl | with_reducible apply Keeps.ite_fst | with_reducible apply Keeps.foldl_fst | split | dsimp only
                | (intro _; rfl) | (intro _; intros)

theorem State.turnOff_keeps {σ s : State} (o : Nat) (st : Nat) (hσ : Keeps σ s) : Keeps σ (State.turnOff s o st) := by
  unfold State.turnOff
  repeat' first | with_reducible assumption | with_reducible apply State.endCmds_keeps | with_reducible apply State.endWaiting_keeps
                | with_reducible apply State.dropLoad_keeps | with_reducible apply State.setLoad_keeps | with_reducible apply State.setSt_keeps
                | with_reducible apply State.modObj_keeps | with_reducible apply Keeps.ite | with_reducible apply Keeps.foldl
                | with_reducible apply Keeps.ite_fst | with_reducible apply Keeps.foldl_fst | split | dsimp only | (intro _; rfl) | (intro _; intros)

theorem State.trip_keeps {σ s : State} (o : Nat) (c : Sys2Proof.Machine.Cause) (st : Nat) (hσ : Keeps σ s) : Keeps σ (State.trip s o c st) := by
  unfold State.trip
  repeat' first | with_reducible assumption | with_reducible apply State.endCmds_keeps | with_reducible apply State.endWaiting_keeps
                | with_reducible apply State.dropLoad_keeps | with_reducible apply State.modObj_keeps | with_reducible apply State.setSt_keeps
                | with_reducible apply State.wr_keeps | with_reducible apply State.count_keeps | with_reducible apply State.endChecks_keeps
                | with_reducible apply State.setVerdict_keeps | with_reducible apply State.objFault_keeps | with_reducible apply State.objEvent_keeps
                | with_reducible apply Keeps.ite | with_reducible apply Keeps.foldl | with_reducible apply Keeps.ite_fst
                | with_reducible apply Keeps.foldl_fst | split | dsimp only | (intro _; rfl) | (intro _; intros)

theorem State.claimOn_keeps {σ s : State} (o : Nat) (cls : Nat) (stand : List Sys2Proof.Machine.Claim) (trans : List Sys2Proof.Machine.Claim)
    (dur : Sys2Proof.Ns) (limp : Bool) (hσ : Keeps σ s) : Keeps σ (State.claimOn s o cls stand trans dur limp) := by
  unfold State.claimOn
  repeat' first | with_reducible assumption | with_reducible apply State.showUse_keeps | with_reducible apply State.setLoad_keeps
                | with_reducible apply Keeps.ite | with_reducible apply Keeps.foldl | with_reducible apply Keeps.ite_fst
                | with_reducible apply Keeps.foldl_fst | split | dsimp only | (intro _; rfl) | (intro _; intros)

theorem State.claimTrans_keeps {σ s : State} (o : Nat) (trans : List Sys2Proof.Machine.Claim) (dur : Sys2Proof.Ns) (hσ : Keeps σ s) : Keeps σ
    (State.claimTrans s o trans dur) := by
  unfold State.claimTrans
  repeat' first | with_reducible assumption | with_reducible apply State.showUse_keeps | with_reducible apply State.setLoad_keeps
                | with_reducible apply Keeps.ite | with_reducible apply Keeps.foldl | with_reducible apply Keeps.ite_fst
                | with_reducible apply Keeps.foldl_fst | split | dsimp only | (intro _; rfl) | (intro _; intros)

theorem State.claimSet_keeps {σ s : State} (o : Nat) (stand : List Sys2Proof.Machine.Claim) (hσ : Keeps σ s) : Keeps σ
    (State.claimSet s o stand) := by
  unfold State.claimSet
  repeat' first | with_reducible assumption | with_reducible apply State.showUse_keeps | with_reducible apply State.setLoad_keeps
                | with_reducible apply Keeps.ite | with_reducible apply Keeps.foldl | with_reducible apply Keeps.ite_fst
                | with_reducible apply Keeps.foldl_fst | split | dsimp only | (intro _; rfl) | (intro _; intros)

theorem State.claimRise_keeps {σ s : State} (o : Nat) (more : List Sys2Proof.Machine.Claim) (hσ : Keeps σ s) : Keeps σ
    (State.claimRise s o more) := by
  unfold State.claimRise
  repeat' first | with_reducible assumption | with_reducible apply State.claimSet_keeps | with_reducible apply Keeps.ite
                | with_reducible apply Keeps.foldl | with_reducible apply Keeps.ite_fst | with_reducible apply Keeps.foldl_fst | split | dsimp only
                | (intro _; rfl) | (intro _; intros)

theorem State.demandClamp_keeps {σ s : State} (c : Sys2Proof.Machine.Cmd) (hσ : Keeps σ s) : Keeps σ (State.demandClamp s c) := by
  unfold State.demandClamp
  repeat' first | with_reducible assumption | with_reducible apply State.descClamp_keeps | with_reducible apply Keeps.ite
                | with_reducible apply Keeps.foldl | with_reducible apply Keeps.ite_fst | with_reducible apply Keeps.foldl_fst | split | dsimp only
                | (intro _; rfl) | (intro _; intros)

theorem State.clearRefused_keeps {σ s : State} (w : Nat) (win : Nat) (off : Nat) (b : Nat) (pf : Nat) (obj : Nat) (hσ : Keeps σ s) : Keeps σ
    (State.clearRefused s w win off b pf obj) := by
  unfold State.clearRefused
  repeat' first | with_reducible assumption | with_reducible apply State.raiseTo_keeps | with_reducible apply State.alsoIn_keeps
                | with_reducible apply Keeps.ite | with_reducible apply Keeps.foldl | with_reducible apply Keeps.ite_fst
                | with_reducible apply Keeps.foldl_fst | split | dsimp only | (intro _; rfl) | (intro _; intros)
                | (refine Keeps.same (by rfl) (by rfl) (by rfl) (by rfl) ?_)

theorem State.retire_keeps {σ s : State} (kind reason unit element : Nat) (spare lost : Bool) (h : Keeps σ s) :
    Keeps σ (s.retire kind reason unit element spare lost) := by
  unfold State.retire
  dsimp only
  split
  · exact Keeps.same rfl rfl rfl rfl h
  · have k : ∀ r : Retirement, Keeps σ { s with nv := { s.nv with retired := s.nv.retired ++ [r] } } := fun r =>
      h.trans ⟨rfl, rfl, id, List.prefix_append _ _⟩
    split
    · exact State.alsoIn_keeps _ _ _ _ _ (State.raise_keeps _ _ _ (State.wr_keeps _ _ _ (k _)))
    · exact State.raise_keeps _ _ _ (State.wr_keeps _ _ _ (k _))

theorem State.logMissed_keeps {σ s : State} (h : Keeps σ s) : Keeps σ s.logMissed := by
  unfold State.logMissed
  refine Keeps.foldl (Keeps.same rfl rfl rfl rfl h) (fun s r h => ?_)
  have k : ∀ r : Retirement, Keeps σ { s with nv := { s.nv with retired := s.nv.retired ++ [r] } } := fun r =>
    h.trans ⟨rfl, rfl, id, List.prefix_append _ _⟩
  dsimp only
  repeat' split
  all_goals first
    | exact State.alsoIn_keeps _ _ _ _ _ (State.raise_keeps _ _ _ (State.wr_keeps _ _ _ (k _)))
    | exact State.raise_keeps _ _ _ (State.wr_keeps _ _ _ (k _))

theorem State.sparesOut_keeps {σ s : State} (kind : Nat) (unit : Nat) (hσ : Keeps σ s) : Keeps σ (State.sparesOut s kind unit) := by
  unfold State.sparesOut
  repeat' first | with_reducible assumption | with_reducible apply State.raise_keeps | with_reducible apply Keeps.ite
                | with_reducible apply Keeps.foldl | with_reducible apply Keeps.ite_fst | with_reducible apply Keeps.foldl_fst | split | dsimp only
                | (intro _; rfl) | (intro _; intros)

theorem State.commanded_keeps {σ s : State} (o : Nat) (hσ : Keeps σ s) : Keeps σ (State.commanded s o) := by
  unfold State.commanded
  repeat' first | with_reducible assumption | with_reducible apply State.wr_keeps | with_reducible apply Keeps.ite | with_reducible apply Keeps.foldl
                | with_reducible apply Keeps.ite_fst | with_reducible apply Keeps.foldl_fst | split | dsimp only | (intro _; rfl) | (intro _; intros)

theorem State.noteGate_keeps {σ s : State} (o : Nat) (hσ : Keeps σ s) : Keeps σ (State.noteGate s o) := by
  unfold State.noteGate
  repeat' first | with_reducible assumption | with_reducible apply State.modObj_keeps | with_reducible apply Keeps.ite
                | with_reducible apply Keeps.foldl | with_reducible apply Keeps.ite_fst | with_reducible apply Keeps.foldl_fst | split | dsimp only
                | (intro _; rfl) | (intro _; intros)

theorem State.chGate_keeps {σ s : State} (i : Nat) (inr : Bool) (hσ : Keeps σ s) : Keeps σ (State.chGate s i inr) := by
  unfold State.chGate
  repeat' first | with_reducible assumption | with_reducible apply State.noteGate_keeps | with_reducible apply State.wr_keeps
                | with_reducible apply State.count_keeps | with_reducible apply State.setSt_keeps | with_reducible apply State.modObj_keeps
                | with_reducible apply Keeps.ite | with_reducible apply Keeps.foldl | with_reducible apply Keeps.ite_fst
                | with_reducible apply Keeps.foldl_fst | split | dsimp only | (intro _; rfl) | (intro _; intros)

theorem State.chTarget_keeps {σ s : State} (i : Nat) (target : Nat) (hσ : Keeps σ s) : Keeps σ (State.chTarget s i target) := by
  unfold State.chTarget
  repeat' first | with_reducible assumption | with_reducible apply State.modObj_keeps | with_reducible apply State.wrb_keeps
                | with_reducible apply Keeps.ite | with_reducible apply Keeps.foldl | with_reducible apply Keeps.ite_fst
                | with_reducible apply Keeps.foldl_fst | split | dsimp only | (intro _; rfl) | (intro _; intros)

theorem State.chStart_keeps {σ s : State} (i : Nat) (cls : Nat) (target : Nat) (duty : Nat) (inr : Bool) (limp : Bool)
    (cmd : Option Sys2Proof.Machine.Cmd) (hσ : Keeps σ s) : Keeps σ (State.chStart s i cls target duty inr limp cmd) := by
  unfold State.chStart
  repeat' first | with_reducible assumption | with_reducible apply State.claimOn_keeps | with_reducible apply State.chTarget_keeps
                | with_reducible apply State.wrb_keeps | with_reducible apply State.wr_keeps | with_reducible apply State.chGate_keeps
                | with_reducible apply State.commanded_keeps | with_reducible apply State.begin_keeps | with_reducible apply State.modObj_keeps
                | with_reducible apply Keeps.ite | with_reducible apply Keeps.foldl | with_reducible apply Keeps.ite_fst
                | with_reducible apply Keeps.foldl_fst | split | dsimp only | (intro _; rfl) | (intro _; intros)

theorem State.chChange_keeps {σ s : State} (i : Nat) (target : Nat) (duty : Nat) (cmd : Option Sys2Proof.Machine.Cmd) (hσ : Keeps σ s) : Keeps σ
    (State.chChange s i target duty cmd) := by
  unfold State.chChange
  repeat' first | with_reducible assumption | with_reducible apply State.claimRise_keeps | with_reducible apply State.chTarget_keeps
                | with_reducible apply State.wr_keeps | with_reducible apply State.commanded_keeps | with_reducible apply State.begin_keeps
                | with_reducible apply State.modObj_keeps | with_reducible apply Keeps.ite | with_reducible apply Keeps.foldl
                | with_reducible apply Keeps.ite_fst | with_reducible apply Keeps.foldl_fst | split | dsimp only | (intro _; rfl) | (intro _; intros)

theorem State.chResume_keeps {σ s : State} (i : Nat) (cls : Nat) (hσ : Keeps σ s) : Keeps σ (State.chResume s i cls) := by
  unfold State.chResume
  repeat' first | with_reducible assumption | with_reducible apply State.setLoad_keeps | with_reducible apply State.claimOn_keeps
                | with_reducible apply State.chGate_keeps | with_reducible apply State.modObj_keeps | with_reducible apply State.objEvent_keeps
                | with_reducible apply Keeps.ite | with_reducible apply Keeps.foldl | with_reducible apply Keeps.ite_fst
                | with_reducible apply Keeps.foldl_fst | split | dsimp only | (intro _; rfl) | (intro _; intros)

theorem State.chOff_keeps {σ s : State} (i : Nat) (hσ : Keeps σ s) : Keeps σ (State.chOff s i) := by
  unfold State.chOff
  repeat' first | with_reducible assumption | with_reducible apply State.chTarget_keeps | with_reducible apply State.wr_keeps
                | with_reducible apply State.turnOff_keeps | with_reducible apply Keeps.ite | with_reducible apply Keeps.foldl
                | with_reducible apply Keeps.ite_fst | with_reducible apply Keeps.foldl_fst | split | dsimp only | (intro _; rfl) | (intro _; intros)

theorem State.chTrip_keeps {σ s : State} (i : Nat) (c : Sys2Proof.Machine.Cause) (st : Nat) (hσ : Keeps σ s) : Keeps σ (State.chTrip s i c st) := by
  unfold State.chTrip
  repeat' first | with_reducible assumption | with_reducible apply State.trip_keeps | with_reducible apply Keeps.ite
                | with_reducible apply Keeps.foldl | with_reducible apply Keeps.ite_fst | with_reducible apply Keeps.foldl_fst | split | dsimp only
                | (intro _; rfl) | (intro _; intros)

theorem State.chThermal_keeps {σ s : State} (i : Nat) (hσ : Keeps σ s) : Keeps σ (State.chThermal s i) := by
  unfold State.chThermal
  repeat' first | with_reducible assumption | with_reducible apply State.chTrip_keeps | with_reducible apply Keeps.ite
                | with_reducible apply Keeps.foldl | with_reducible apply Keeps.ite_fst | with_reducible apply Keeps.foldl_fst | split | dsimp only
                | (intro _; rfl) | (intro _; intros)

theorem State.chClear_keeps {σ s : State} (i : Nat) (hσ : Keeps σ s) : Keeps σ (State.chClear s i) := by
  unfold State.chClear
  repeat' first | with_reducible assumption | with_reducible apply State.wr_keeps | with_reducible apply State.setSt_keeps
                | with_reducible apply State.objEvent_keeps | with_reducible apply State.unverify_keeps | with_reducible apply State.chTarget_keeps
                | with_reducible apply Keeps.ite | with_reducible apply Keeps.foldl | with_reducible apply Keeps.ite_fst
                | with_reducible apply Keeps.foldl_fst | split | dsimp only | (intro _; rfl) | (intro _; intros)

theorem State.chServe_keeps {σ s : State} (d : Sys2Proof.Machine.Demand) (hσ : Keeps σ s) : Keeps σ (State.chServe s d) := by
  unfold State.chServe
  repeat' first | with_reducible assumption | with_reducible apply State.chChange_keeps | with_reducible apply State.complete_keeps
                | with_reducible apply State.commanded_keeps | with_reducible apply State.chStart_keeps | with_reducible apply State.chResume_keeps
                | with_reducible apply Keeps.ite | with_reducible apply Keeps.foldl | with_reducible apply Keeps.ite_fst
                | with_reducible apply Keeps.foldl_fst | split | dsimp only | (intro _; rfl) | (intro _; intros)

theorem State.chWant_keeps {σ s : State} (o : Nat) (w : Sys2Proof.Machine.Want) (hσ : Keeps σ s) : Keeps σ (State.chWant s o w).1 := by
  unfold State.chWant
  repeat' first | with_reducible assumption | with_reducible apply State.modObj_keeps | with_reducible apply State.chTarget_keeps
                | with_reducible apply State.setLoad_keeps | with_reducible apply State.chChange_keeps | with_reducible apply State.chOff_keeps
                | with_reducible apply Keeps.ite | with_reducible apply Keeps.foldl | with_reducible apply Keeps.ite_fst
                | with_reducible apply Keeps.foldl_fst | split | dsimp only | (intro _; rfl) | (intro _; intros)

theorem State.ldStart_keeps {σ s : State} (n : Nat) (cls : Nat) (duty : Nat) (iset : Option Nat) (limp : Bool) (cmd : Option Sys2Proof.Machine.Cmd)
    (hσ : Keeps σ s) : Keeps σ (State.ldStart s n cls duty iset limp cmd) := by
  unfold State.ldStart
  repeat' first | with_reducible assumption | with_reducible apply State.wr_keeps | with_reducible apply State.claimOn_keeps
                | with_reducible apply State.setSt_keeps | with_reducible apply State.commanded_keeps | with_reducible apply State.begin_keeps
                | with_reducible apply State.count_keeps | with_reducible apply State.modLed_keeps | with_reducible apply State.modObj_keeps
                | with_reducible apply Keeps.ite | with_reducible apply Keeps.foldl | with_reducible apply Keeps.ite_fst
                | with_reducible apply Keeps.foldl_fst | split | dsimp only | (intro _; rfl) | (intro _; intros)

theorem State.ldChange_keeps {σ s : State} (n : Nat) (duty : Nat) (iset : Option Nat) (on : Bool) (cmd : Option Sys2Proof.Machine.Cmd) (hσ :
    Keeps σ s) : Keeps σ (State.ldChange s n duty iset on cmd) := by
  unfold State.ldChange
  repeat' first | with_reducible assumption | with_reducible apply State.claimRise_keeps | with_reducible apply State.wr_keeps
                | with_reducible apply State.claimTrans_keeps | with_reducible apply State.commanded_keeps | with_reducible apply State.begin_keeps
                | with_reducible apply State.modLed_keeps | with_reducible apply State.modObj_keeps | with_reducible apply Keeps.ite
                | with_reducible apply Keeps.foldl | with_reducible apply Keeps.ite_fst | with_reducible apply Keeps.foldl_fst | split | dsimp only
                | (intro _; rfl) | (intro _; intros)

theorem State.ldOff_keeps {σ s : State} (n : Nat) (hσ : Keeps σ s) : Keeps σ (State.ldOff s n) := by
  unfold State.ldOff
  repeat' first | with_reducible assumption | with_reducible apply State.modObj_keeps | with_reducible apply State.modLed_keeps
                | with_reducible apply State.wr_keeps | with_reducible apply State.turnOff_keeps | with_reducible apply Keeps.ite
                | with_reducible apply Keeps.foldl | with_reducible apply Keeps.ite_fst | with_reducible apply Keeps.foldl_fst | split | dsimp only
                | (intro _; rfl) | (intro _; intros)

theorem State.ldTrip_keeps {σ s : State} (n : Nat) (c : Sys2Proof.Machine.Cause) (st : Nat) (hσ : Keeps σ s) : Keeps σ (State.ldTrip s n c st) := by
  unfold State.ldTrip
  repeat' first | with_reducible assumption | with_reducible apply State.wr_keeps | with_reducible apply State.trip_keeps
                | with_reducible apply Keeps.ite | with_reducible apply Keeps.foldl | with_reducible apply Keeps.ite_fst
                | with_reducible apply Keeps.foldl_fst | split | dsimp only | (intro _; rfl) | (intro _; intros)

theorem State.ldClear_keeps {σ s : State} (n : Nat) (hσ : Keeps σ s) : Keeps σ (State.ldClear s n) := by
  unfold State.ldClear
  repeat' first | with_reducible assumption | with_reducible apply State.wr_keeps | with_reducible apply State.setSt_keeps
                | with_reducible apply State.modObj_keeps | with_reducible apply State.unverify_keeps | with_reducible apply Keeps.ite
                | with_reducible apply Keeps.foldl | with_reducible apply Keeps.ite_fst | with_reducible apply Keeps.foldl_fst | split | dsimp only
                | (intro _; rfl) | (intro _; intros)

theorem State.ldServe_keeps {σ s : State} (d : Sys2Proof.Machine.Demand) (hσ : Keeps σ s) : Keeps σ (State.ldServe s d) := by
  unfold State.ldServe
  repeat' first | with_reducible assumption | with_reducible apply State.ldChange_keeps | with_reducible apply State.ldStart_keeps
                | with_reducible apply State.objEvent_keeps | with_reducible apply Keeps.ite | with_reducible apply Keeps.foldl
                | with_reducible apply Keeps.ite_fst | with_reducible apply Keeps.foldl_fst | split | dsimp only | (intro _; rfl) | (intro _; intros)

theorem State.ldWant_keeps {σ s : State} (o : Nat) (w : Sys2Proof.Machine.Want) (hσ : Keeps σ s) : Keeps σ (State.ldWant s o w).1 := by
  unfold State.ldWant
  repeat' first | with_reducible assumption | with_reducible apply State.modObj_keeps | with_reducible apply State.modLed_keeps
                | with_reducible apply State.setLoad_keeps | with_reducible apply State.ldOff_keeps | with_reducible apply Keeps.ite
                | with_reducible apply Keeps.foldl | with_reducible apply Keeps.ite_fst | with_reducible apply Keeps.foldl_fst | split | dsimp only
                | (intro _; rfl) | (intro _; intros)

theorem State.ldCommit_keeps {σ s : State} (n : Nat) (hσ : Keeps σ s) : Keeps σ (State.ldCommit s n) := by
  unfold State.ldCommit
  repeat' first | with_reducible assumption | with_reducible apply State.modLed_keeps | with_reducible apply Keeps.ite
                | with_reducible apply Keeps.foldl | with_reducible apply Keeps.ite_fst | with_reducible apply Keeps.foldl_fst | split | dsimp only
                | (intro _; rfl) | (intro _; intros)

theorem State.ldShadow_keeps {σ s : State} (n : Nat) (k : Nat) (v : Nat) (hσ : Keeps σ s) : Keeps σ (State.ldShadow s n k v) := by
  unfold State.ldShadow
  repeat' first | with_reducible assumption | with_reducible apply State.wr_keeps | with_reducible apply Keeps.ite | with_reducible apply Keeps.foldl
                | with_reducible apply Keeps.ite_fst | with_reducible apply Keeps.foldl_fst | split | dsimp only | (intro _; rfl) | (intro _; intros)

theorem State.ldMoveGain_keeps {σ s : State} (n : Nat) (t8 : Int) (hσ : Keeps σ s) : Keeps σ (State.ldMoveGain s n t8) := by
  unfold State.ldMoveGain
  repeat' first | with_reducible assumption | with_reducible apply State.modLed_keeps | with_reducible apply State.wr_keeps
                | with_reducible apply Keeps.ite | with_reducible apply Keeps.foldl | with_reducible apply Keeps.ite_fst
                | with_reducible apply Keeps.foldl_fst | split | dsimp only | (intro _; rfl) | (intro _; intros)

theorem State.mxStart_keeps {σ s : State} (cls : Nat) (gduty : Nat) (limp : Bool) (cmd : Option Sys2Proof.Machine.Cmd) (hσ : Keeps σ s) : Keeps σ
    (State.mxStart s cls gduty limp cmd) := by
  unfold State.mxStart
  repeat' first | with_reducible assumption | with_reducible apply State.modMx_keeps | with_reducible apply State.claimOn_keeps
                | with_reducible apply State.setSt_keeps | with_reducible apply State.modObj_keeps | with_reducible apply State.complete_keeps
                | with_reducible apply State.commanded_keeps | with_reducible apply State.begin_keeps | with_reducible apply Keeps.ite
                | with_reducible apply Keeps.foldl | with_reducible apply Keeps.ite_fst | with_reducible apply Keeps.foldl_fst | split | dsimp only
                | (intro _; rfl) | (intro _; intros)

theorem State.mxChange_keeps {σ s : State} (gduty : Nat) (cmd : Option Sys2Proof.Machine.Cmd) (hσ : Keeps σ s) : Keeps σ
    (State.mxChange s gduty cmd) := by
  unfold State.mxChange
  repeat' first | with_reducible assumption | with_reducible apply State.claimRise_keeps | with_reducible apply State.commanded_keeps
                | with_reducible apply State.begin_keeps | with_reducible apply State.modObj_keeps | with_reducible apply Keeps.ite
                | with_reducible apply Keeps.foldl | with_reducible apply Keeps.ite_fst | with_reducible apply Keeps.foldl_fst | split | dsimp only
                | (intro _; rfl) | (intro _; intros)

theorem State.mxOff_keeps {σ s : State} (hσ : Keeps σ s) : Keeps σ (State.mxOff s) := by
  unfold State.mxOff
  repeat' first | with_reducible assumption | with_reducible apply State.modObj_keeps | with_reducible apply State.turnOff_keeps
                | with_reducible apply Keeps.ite | with_reducible apply Keeps.foldl | with_reducible apply Keeps.ite_fst
                | with_reducible apply Keeps.foldl_fst | split | dsimp only | (intro _; rfl) | (intro _; intros)

theorem State.mxClear_keeps {σ s : State} (hσ : Keeps σ s) : Keeps σ (State.mxClear s) := by
  unfold State.mxClear
  repeat' first | with_reducible assumption | with_reducible apply State.wr_keeps | with_reducible apply State.setSt_keeps
                | with_reducible apply State.modObj_keeps | with_reducible apply State.unverify_keeps | with_reducible apply Keeps.ite
                | with_reducible apply Keeps.foldl | with_reducible apply Keeps.ite_fst | with_reducible apply Keeps.foldl_fst | split | dsimp only
                | (intro _; rfl) | (intro _; intros)

theorem State.mxJudge_keeps {σ s : State} (hσ : Keeps σ s) : Keeps σ (State.mxJudge s) := by
  unfold State.mxJudge
  repeat' first | with_reducible assumption | with_reducible apply State.setVerdict_keeps | with_reducible apply Keeps.ite
                | with_reducible apply Keeps.foldl | with_reducible apply Keeps.ite_fst | with_reducible apply Keeps.foldl_fst | split | dsimp only
                | (intro _; rfl) | (intro _; intros)

theorem State.mxImage_keeps {σ s : State} (v : Nat) (hσ : Keeps σ s) : Keeps σ (State.mxImage s v) := by
  unfold State.mxImage
  repeat' first | with_reducible assumption | with_reducible apply State.wr_keeps | with_reducible apply State.mxJudge_keeps
                | with_reducible apply State.modMx_keeps | with_reducible apply Keeps.ite | with_reducible apply Keeps.foldl
                | with_reducible apply Keeps.ite_fst | with_reducible apply Keeps.foldl_fst | split | dsimp only | (intro _; rfl) | (intro _; intros)

theorem State.mxServe_keeps {σ s : State} (d : Sys2Proof.Machine.Demand) (hσ : Keeps σ s) : Keeps σ (State.mxServe s d) := by
  unfold State.mxServe
  repeat' first | with_reducible assumption | with_reducible apply State.claimRise_keeps | with_reducible apply State.mxImage_keeps
                | with_reducible apply State.complete_keeps | with_reducible apply State.begin_keeps | with_reducible apply State.modMx_keeps
                | with_reducible apply State.mxChange_keeps | with_reducible apply State.mxStart_keeps | with_reducible apply Keeps.ite
                | with_reducible apply Keeps.foldl | with_reducible apply Keeps.ite_fst | with_reducible apply Keeps.foldl_fst | split | dsimp only
                | (intro _; rfl) | (intro _; intros)

theorem State.mxWant_keeps {σ s : State} (w : Sys2Proof.Machine.Want) (hσ : Keeps σ s) : Keeps σ (State.mxWant s w).1 := by
  unfold State.mxWant
  repeat' first | with_reducible assumption | with_reducible apply State.modMx_keeps | with_reducible apply State.setLoad_keeps
                | with_reducible apply State.modObj_keeps | with_reducible apply State.mxOff_keeps | with_reducible apply Keeps.ite
                | with_reducible apply Keeps.foldl | with_reducible apply Keeps.ite_fst | with_reducible apply Keeps.foldl_fst | split | dsimp only
                | (intro _; rfl) | (intro _; intros)

theorem State.svLevel_keeps {σ s : State} (n : Nat) (v : Option Nat) (hσ : Keeps σ s) : Keeps σ (State.svLevel s n v) := by
  unfold State.svLevel
  repeat' first | with_reducible assumption | with_reducible apply State.modObj_keeps | with_reducible apply State.modValve_keeps
                | with_reducible apply Keeps.ite | with_reducible apply Keeps.foldl | with_reducible apply Keeps.ite_fst
                | with_reducible apply Keeps.foldl_fst | split | dsimp only | (intro _; rfl) | (intro _; intros)

theorem State.svBankSet_keeps {σ s : State} (n : Nat) (b : Bool) (hσ : Keeps σ s) : Keeps σ (State.svBankSet s n b) := by
  unfold State.svBankSet
  repeat' first | with_reducible assumption | with_reducible apply State.wr_keeps | with_reducible apply Keeps.ite | with_reducible apply Keeps.foldl
                | with_reducible apply Keeps.ite_fst | with_reducible apply Keeps.foldl_fst | split | dsimp only | (intro _; rfl) | (intro _; intros)

theorem State.svBoostDone_keeps {σ s : State} (n : Nat) (hσ : Keeps σ s) : Keeps σ (State.svBoostDone s n) := by
  unfold State.svBoostDone
  repeat' first | with_reducible assumption | with_reducible apply State.wr_keeps | with_reducible apply State.svBankSet_keeps
                | with_reducible apply State.modValve_keeps | with_reducible apply State.showUse_keeps | with_reducible apply State.setLoad_keeps
                | with_reducible apply Keeps.ite | with_reducible apply Keeps.foldl | with_reducible apply Keeps.ite_fst
                | with_reducible apply Keeps.foldl_fst | split | dsimp only | (intro _; rfl) | (intro _; intros)

theorem State.svStart_keeps {σ s : State} (n : Nat) (cls : Nat) (boost : Bool) (hold : Option Nat) (limp : Bool) (waited : Bool)
    (cmd : Option Sys2Proof.Machine.Cmd) (hσ : Keeps σ s) : Keeps σ (State.svStart s n cls boost hold limp waited cmd) := by
  unfold State.svStart
  repeat' first | with_reducible assumption | with_reducible apply State.svLevel_keeps | with_reducible apply State.claimOn_keeps
                | with_reducible apply State.wr_keeps | with_reducible apply State.setSt_keeps | with_reducible apply State.wrb_keeps
                | with_reducible apply State.modValve_keeps | with_reducible apply State.svBankSet_keeps | with_reducible apply State.count_keeps
                | with_reducible apply State.commanded_keeps | with_reducible apply State.begin_keeps | with_reducible apply State.modObj_keeps
                | with_reducible apply Keeps.ite | with_reducible apply Keeps.foldl | with_reducible apply Keeps.ite_fst
                | with_reducible apply Keeps.foldl_fst | split | dsimp only | (intro _; rfl) | (intro _; intros)

theorem State.svActuation_keeps {σ s : State} (n : Nat) (hσ : Keeps σ s) : Keeps σ (State.svActuation s n) := by
  unfold State.svActuation
  repeat' first | with_reducible assumption | with_reducible apply State.raise_keeps | with_reducible apply Keeps.ite
                | with_reducible apply Keeps.foldl | with_reducible apply Keeps.ite_fst | with_reducible apply Keeps.foldl_fst | split | dsimp only
                | (intro _; rfl) | (intro _; intros)

theorem State.svEndExtra_keeps {σ s : State} (n : Nat) (code : Sys2Proof.Machine.Code) (sub : Nat) (hσ : Keeps σ s) : Keeps σ
    (State.svEndExtra s n code sub) := by
  unfold State.svEndExtra
  repeat' first | with_reducible assumption | with_reducible apply State.complete_keeps | with_reducible apply State.modValve_keeps
                | with_reducible apply Keeps.ite | with_reducible apply Keeps.foldl | with_reducible apply Keeps.ite_fst
                | with_reducible apply Keeps.foldl_fst | split | dsimp only | (intro _; rfl) | (intro _; intros)

theorem State.svLearn_keeps {σ s : State} (n : Nat) (hσ : Keeps σ s) : Keeps σ (State.svLearn s n) := by
  unfold State.svLearn
  repeat' first | with_reducible assumption | with_reducible apply State.wr_keeps | with_reducible apply Keeps.ite | with_reducible apply Keeps.foldl
                | with_reducible apply Keeps.ite_fst | with_reducible apply Keeps.foldl_fst | split | dsimp only | (intro _; rfl) | (intro _; intros)

theorem State.svJudge_keeps {σ s : State} (n : Nat) (shut : Bool) (hσ : Keeps σ s) : Keeps σ (State.svJudge s n shut) := by
  unfold State.svJudge
  repeat' first | with_reducible assumption | with_reducible apply State.wr_keeps | with_reducible apply State.count_keeps
                | with_reducible apply State.svLearn_keeps | with_reducible apply State.modValve_keeps | with_reducible apply Keeps.ite
                | with_reducible apply Keeps.foldl | with_reducible apply Keeps.ite_fst | with_reducible apply Keeps.foldl_fst | split | dsimp only
                | (intro _; rfl) | (intro _; intros)

theorem State.svOff_keeps {σ s : State} (n : Nat) (hσ : Keeps σ s) : Keeps σ (State.svOff s n) := by
  unfold State.svOff
  repeat' first | with_reducible assumption | with_reducible apply State.modObj_keeps | with_reducible apply State.svBoostDone_keeps
                | with_reducible apply State.svActuation_keeps | with_reducible apply State.svJudge_keeps | with_reducible apply State.turnOff_keeps
                | with_reducible apply State.svEndExtra_keeps | with_reducible apply State.modValve_keeps | with_reducible apply State.wr_keeps
                | with_reducible apply Keeps.ite | with_reducible apply Keeps.foldl | with_reducible apply Keeps.ite_fst
                | with_reducible apply Keeps.foldl_fst | split | dsimp only | (intro _; rfl) | (intro _; intros)

theorem State.svTrip_keeps {σ s : State} (n : Nat) (c : Sys2Proof.Machine.Cause) (st : Nat) (hσ : Keeps σ s) : Keeps σ (State.svTrip s n c st) := by
  unfold State.svTrip
  repeat' first | with_reducible assumption | with_reducible apply State.svBoostDone_keeps | with_reducible apply State.svActuation_keeps
                | with_reducible apply State.svJudge_keeps | with_reducible apply State.svEndExtra_keeps | with_reducible apply State.count_keeps
                | with_reducible apply State.trip_keeps | with_reducible apply Keeps.ite | with_reducible apply Keeps.foldl
                | with_reducible apply Keeps.ite_fst | with_reducible apply Keeps.foldl_fst | split | dsimp only | (intro _; rfl) | (intro _; intros)

theorem State.svChopStart_keeps {σ s : State} (n : Nat) (hσ : Keeps σ s) : Keeps σ (State.svChopStart s n) := by
  unfold State.svChopStart
  repeat' first | with_reducible assumption | with_reducible apply State.modObj_keeps | with_reducible apply State.modValve_keeps
                | with_reducible apply State.chgDone_keeps | with_reducible apply Keeps.ite | with_reducible apply Keeps.foldl
                | with_reducible apply Keeps.ite_fst | with_reducible apply Keeps.foldl_fst | split | dsimp only | (intro _; rfl) | (intro _; intros)

theorem State.svLoopLevel_keeps {σ s : State} (n : Nat) (lv : Nat) (hσ : Keeps σ s) : Keeps σ (State.svLoopLevel s n lv) := by
  unfold State.svLoopLevel
  repeat' first | with_reducible assumption | with_reducible apply State.svChopStart_keeps | with_reducible apply State.modObj_keeps
                | with_reducible apply State.modValve_keeps | with_reducible apply Keeps.ite | with_reducible apply Keeps.foldl
                | with_reducible apply Keeps.ite_fst | with_reducible apply Keeps.foldl_fst | split | dsimp only | (intro _; rfl) | (intro _; intros)

theorem State.chops_keeps {σ s : State} (hσ : Keeps σ s) : Keeps σ (State.chops s) := by
  unfold State.chops
  repeat' first | with_reducible assumption | with_reducible apply State.svChopStart_keeps | with_reducible apply Keeps.ite
                | with_reducible apply Keeps.foldl | with_reducible apply Keeps.ite_fst | with_reducible apply Keeps.foldl_fst | split | dsimp only
                | (intro _; rfl) | (intro _; intros)

theorem State.svHold_keeps {σ s : State} (n : Nat) (hσ : Keeps σ s) : Keeps σ (State.svHold s n) := by
  unfold State.svHold
  repeat' first | with_reducible assumption | with_reducible apply State.svJudge_keeps | with_reducible apply State.modValve_keeps
                | with_reducible apply State.endTransient_keeps | with_reducible apply State.setSt_keeps
                | with_reducible apply State.svChopStart_keeps | with_reducible apply State.svActuation_keeps
                | with_reducible apply State.complete_keeps | with_reducible apply State.modObj_keeps | with_reducible apply State.svEndExtra_keeps
                | with_reducible apply State.svOff_keeps | with_reducible apply Keeps.ite | with_reducible apply Keeps.foldl
                | with_reducible apply Keeps.ite_fst | with_reducible apply Keeps.foldl_fst | split | dsimp only | (intro _; rfl) | (intro _; intros)

theorem State.svClear_keeps {σ s : State} (n : Nat) (hσ : Keeps σ s) : Keeps σ (State.svClear s n) := by
  unfold State.svClear
  repeat' first | with_reducible assumption | with_reducible apply State.wr_keeps | with_reducible apply State.setSt_keeps
                | with_reducible apply State.modObj_keeps | with_reducible apply State.unverify_keeps | with_reducible apply Keeps.ite
                | with_reducible apply Keeps.foldl | with_reducible apply Keeps.ite_fst | with_reducible apply Keeps.foldl_fst | split | dsimp only
                | (intro _; rfl) | (intro _; intros)

theorem State.addClamp_keeps {σ s : State} (o : Nat) (e : Nat) (hσ : Keeps σ s) : Keeps σ (State.addClamp s o e).1 := by
  unfold State.addClamp
  repeat' first | with_reducible assumption | with_reducible apply State.modObj_keeps | with_reducible apply State.wr_keeps
                | with_reducible apply Keeps.ite | with_reducible apply Keeps.foldl | with_reducible apply Keeps.ite_fst
                | with_reducible apply Keeps.foldl_fst | split | dsimp only | (intro _; rfl) | (intro _; intros)

theorem State.boostNotReady_keeps {σ s : State} (n : Nat) (hσ : Keeps σ s) : Keeps σ (State.boostNotReady s n) := by
  unfold State.boostNotReady
  repeat' first | with_reducible assumption | with_reducible apply State.count_keeps | with_reducible apply State.raise_keeps
                | with_reducible apply Keeps.ite | with_reducible apply Keeps.foldl | with_reducible apply Keeps.ite_fst
                | with_reducible apply Keeps.foldl_fst | split | dsimp only | (intro _; rfl) | (intro _; intros)

theorem State.svRise_keeps {σ s : State} (n : Nat) (v : Nat) (hσ : Keeps σ s) : Keeps σ (State.svRise s n v) := by
  unfold State.svRise
  repeat' first | with_reducible assumption | with_reducible apply State.claimRise_keeps | with_reducible apply Keeps.ite
                | with_reducible apply Keeps.foldl | with_reducible apply Keeps.ite_fst | with_reducible apply Keeps.foldl_fst | split | dsimp only
                | (intro _; rfl) | (intro _; intros)

theorem State.svServe_keeps {σ s : State} (d : Sys2Proof.Machine.Demand) (hσ : Keeps σ s) : Keeps σ (State.svServe s d) := by
  unfold State.svServe
  repeat' first | with_reducible assumption | with_reducible apply State.modValve_keeps | with_reducible apply State.modObj_keeps
                | with_reducible apply State.svRise_keeps | with_reducible apply State.wr_keeps | with_reducible apply State.commanded_keeps
                | with_reducible apply State.begin_keeps | with_reducible apply State.complete_keeps | with_reducible apply State.svStart_keeps
                | with_reducible apply State.svLevel_keeps | with_reducible apply State.objEvent_keeps | with_reducible apply Keeps.ite
                | with_reducible apply Keeps.foldl | with_reducible apply Keeps.ite_fst | with_reducible apply Keeps.foldl_fst | split | dsimp only
                | (intro _; rfl) | (intro _; intros)

theorem State.bstStart_keeps {σ s : State} (cls : Nat) (cmd : Option Sys2Proof.Machine.Cmd) (hσ : Keeps σ s) : Keeps σ
    (State.bstStart s cls cmd) := by
  unfold State.bstStart
  repeat' first | with_reducible assumption | with_reducible apply State.claimOn_keeps | with_reducible apply State.wr_keeps
                | with_reducible apply State.setSt_keeps | with_reducible apply State.begin_keeps | with_reducible apply State.modObj_keeps
                | with_reducible apply Keeps.ite | with_reducible apply Keeps.foldl | with_reducible apply Keeps.ite_fst
                | with_reducible apply Keeps.foldl_fst | split | dsimp only | (intro _; rfl) | (intro _; intros)
                | (refine Keeps.same (by rfl) (by rfl) (by rfl) (by rfl) ?_)

theorem State.bstOff_keeps {σ s : State} (hσ : Keeps σ s) : Keeps σ (State.bstOff s) := by
  unfold State.bstOff
  repeat' first | with_reducible assumption | with_reducible apply State.modObj_keeps | with_reducible apply State.wr_keeps
                | with_reducible apply State.turnOff_keeps | with_reducible apply Keeps.ite | with_reducible apply Keeps.foldl
                | with_reducible apply Keeps.ite_fst | with_reducible apply Keeps.foldl_fst | split | dsimp only | (intro _; rfl) | (intro _; intros)

theorem State.bstClear_keeps {σ s : State} (hσ : Keeps σ s) : Keeps σ (State.bstClear s) := by
  unfold State.bstClear
  repeat' first | with_reducible assumption | with_reducible apply State.wr_keeps | with_reducible apply State.setSt_keeps
                | with_reducible apply State.modObj_keeps | with_reducible apply Keeps.ite | with_reducible apply Keeps.foldl
                | with_reducible apply Keeps.ite_fst | with_reducible apply Keeps.foldl_fst | split | dsimp only | (intro _; rfl) | (intro _; intros)

theorem State.bstAgain_keeps {σ s : State} (c : Sys2Proof.Machine.Cmd) (hσ : Keeps σ s) : Keeps σ (State.bstAgain s c) := by
  unfold State.bstAgain
  repeat' first | with_reducible assumption | with_reducible apply State.complete_keeps | with_reducible apply State.modObj_keeps
                | with_reducible apply State.begin_keeps | with_reducible apply Keeps.ite | with_reducible apply Keeps.foldl
                | with_reducible apply Keeps.ite_fst | with_reducible apply Keeps.foldl_fst | split | dsimp only | (intro _; rfl) | (intro _; intros)

theorem State.bstServe_keeps {σ s : State} (d : Sys2Proof.Machine.Demand) (hσ : Keeps σ s) : Keeps σ (State.bstServe s d) := by
  unfold State.bstServe
  repeat' first | with_reducible assumption | with_reducible apply State.bstAgain_keeps | with_reducible apply State.bstStart_keeps
                | with_reducible apply Keeps.ite | with_reducible apply Keeps.foldl | with_reducible apply Keeps.ite_fst
                | with_reducible apply Keeps.foldl_fst | split | dsimp only | (intro _; rfl) | (intro _; intros)

theorem State.svWant_keeps {σ s : State} (o : Nat) (w : Sys2Proof.Machine.Want) (hσ : Keeps σ s) : Keeps σ (State.svWant s o w).1 := by
  unfold State.svWant
  repeat' first | with_reducible assumption | with_reducible apply State.svLevel_keeps | with_reducible apply State.setLoad_keeps
                | with_reducible apply State.modValve_keeps | with_reducible apply State.svOff_keeps | with_reducible apply Keeps.ite
                | with_reducible apply Keeps.foldl | with_reducible apply Keeps.ite_fst | with_reducible apply Keeps.foldl_fst | split | dsimp only
                | (intro _; rfl) | (intro _; intros)

theorem State.hbSt_keeps {σ s : State} (n : Nat) (v : Nat) (hσ : Keeps σ s) : Keeps σ (State.hbSt s n v) := by
  unfold State.hbSt
  repeat' first | with_reducible assumption | with_reducible apply State.setSt_keeps | with_reducible apply Keeps.ite
                | with_reducible apply Keeps.foldl | with_reducible apply Keeps.ite_fst | with_reducible apply Keeps.foldl_fst | split | dsimp only
                | (intro _; rfl) | (intro _; intros)

theorem State.hbGo_keeps {σ s : State} (n : Nat) (d : Sys2Proof.Machine.Drive) (hσ : Keeps σ s) : Keeps σ (State.hbGo s n d) := by
  unfold State.hbGo
  repeat' first | with_reducible assumption | with_reducible apply State.hbSt_keeps | with_reducible apply State.wr_keeps
                | with_reducible apply State.modObj_keeps | with_reducible apply State.modBridge_keeps | with_reducible apply Keeps.ite
                | with_reducible apply Keeps.foldl | with_reducible apply Keeps.ite_fst | with_reducible apply Keeps.foldl_fst | split | dsimp only
                | (intro _; rfl) | (intro _; intros)

theorem State.hbStart_keeps {σ s : State} (n : Nat) (cls : Nat) (d : Sys2Proof.Machine.Drive) (limp : Bool) (cmd : Option Sys2Proof.Machine.Cmd) (hσ :
    Keeps σ s) : Keeps σ (State.hbStart s n cls d limp cmd) := by
  unfold State.hbStart
  repeat' first | with_reducible assumption | with_reducible apply State.claimOn_keeps | with_reducible apply State.wr_keeps
                | with_reducible apply State.hbGo_keeps | with_reducible apply State.modBridge_keeps | with_reducible apply State.commanded_keeps
                | with_reducible apply State.begin_keeps | with_reducible apply State.count_keeps | with_reducible apply State.modObj_keeps
                | with_reducible apply Keeps.ite | with_reducible apply Keeps.foldl | with_reducible apply Keeps.ite_fst
                | with_reducible apply Keeps.foldl_fst | split | dsimp only | (intro _; rfl) | (intro _; intros)

theorem State.hbMotionEnd_keeps {σ s : State} (n : Nat) (reason : Nat) (hσ : Keeps σ s) : Keeps σ (State.hbMotionEnd s n reason) := by
  unfold State.hbMotionEnd
  repeat' first | with_reducible assumption | with_reducible apply State.raise_keeps | with_reducible apply Keeps.ite
                | with_reducible apply Keeps.foldl | with_reducible apply Keeps.ite_fst | with_reducible apply Keeps.foldl_fst | split | dsimp only
                | (intro _; rfl) | (intro _; intros)

theorem State.hbReverse_keeps {σ s : State} (n : Nat) (cls : Nat) (d : Sys2Proof.Machine.Drive) (cmd : Option Sys2Proof.Machine.Cmd) (hσ : Keeps σ s)
    : Keeps σ (State.hbReverse s n cls d cmd) := by
  unfold State.hbReverse
  repeat' first | with_reducible assumption | with_reducible apply State.hbMotionEnd_keeps | with_reducible apply State.claimOn_keeps
                | with_reducible apply State.wr_keeps | with_reducible apply State.hbSt_keeps | with_reducible apply State.modBridge_keeps
                | with_reducible apply State.commanded_keeps | with_reducible apply State.begin_keeps | with_reducible apply State.modObj_keeps
                | with_reducible apply Keeps.ite | with_reducible apply Keeps.foldl | with_reducible apply Keeps.ite_fst
                | with_reducible apply Keeps.foldl_fst | split | dsimp only | (intro _; rfl) | (intro _; intros)

theorem State.hbChange_keeps {σ s : State} (n : Nat) (d : Sys2Proof.Machine.Drive) (cmd : Option Sys2Proof.Machine.Cmd) (hσ : Keeps σ s) : Keeps σ
    (State.hbChange s n d cmd) := by
  unfold State.hbChange
  repeat' first | with_reducible assumption | with_reducible apply State.claimRise_keeps | with_reducible apply State.wr_keeps
                | with_reducible apply State.modBridge_keeps | with_reducible apply State.commanded_keeps | with_reducible apply State.begin_keeps
                | with_reducible apply State.modObj_keeps | with_reducible apply Keeps.ite | with_reducible apply Keeps.foldl
                | with_reducible apply Keeps.ite_fst | with_reducible apply Keeps.foldl_fst | split | dsimp only | (intro _; rfl) | (intro _; intros)

theorem State.hbStop_keeps {σ s : State} (n : Nat) (mode : Nat) (hσ : Keeps σ s) : Keeps σ (State.hbStop s n mode) := by
  unfold State.hbStop
  repeat' first | with_reducible assumption | with_reducible apply State.endCmds_keeps | with_reducible apply State.dropLoad_keeps
                | with_reducible apply State.wr_keeps | with_reducible apply State.hbSt_keeps | with_reducible apply State.modBridge_keeps
                | with_reducible apply State.modObj_keeps | with_reducible apply Keeps.ite | with_reducible apply Keeps.foldl
                | with_reducible apply Keeps.ite_fst | with_reducible apply Keeps.foldl_fst | split | dsimp only | (intro _; rfl) | (intro _; intros)

theorem State.hbEnd_keeps {σ s : State} (n : Nat) (reason : Nat) (hσ : Keeps σ s) : Keeps σ (State.hbEnd s n reason) := by
  unfold State.hbEnd
  repeat' first | with_reducible assumption | with_reducible apply State.hbStop_keeps | with_reducible apply State.hbMotionEnd_keeps
                | with_reducible apply Keeps.ite | with_reducible apply Keeps.foldl | with_reducible apply Keeps.ite_fst
                | with_reducible apply Keeps.foldl_fst | split | dsimp only | (intro _; rfl) | (intro _; intros)

theorem State.hbOff_keeps {σ s : State} (n : Nat) (hσ : Keeps σ s) : Keeps σ (State.hbOff s n) := by
  unfold State.hbOff
  repeat' first | with_reducible assumption | with_reducible apply State.modObj_keeps | with_reducible apply State.endWaiting_keeps
                | with_reducible apply State.wr_keeps | with_reducible apply State.hbSt_keeps | with_reducible apply State.hbMotionEnd_keeps
                | with_reducible apply State.hbStop_keeps | with_reducible apply Keeps.ite | with_reducible apply Keeps.foldl
                | with_reducible apply Keeps.ite_fst | with_reducible apply Keeps.foldl_fst | split | dsimp only | (intro _; rfl) | (intro _; intros)

theorem State.hbStopMode_keeps {σ s : State} (n : Nat) (hσ : Keeps σ s) : Keeps σ (State.hbStopMode s n) := by
  unfold State.hbStopMode
  repeat' first | with_reducible assumption | with_reducible apply State.hbOff_keeps | with_reducible apply State.hbStop_keeps
                | with_reducible apply State.hbMotionEnd_keeps | with_reducible apply Keeps.ite | with_reducible apply Keeps.foldl
                | with_reducible apply Keeps.ite_fst | with_reducible apply Keeps.foldl_fst | split | dsimp only | (intro _; rfl) | (intro _; intros)

theorem State.hbTrip_keeps {σ s : State} (n : Nat) (c : Sys2Proof.Machine.Cause) (st : Nat) (hσ : Keeps σ s) : Keeps σ (State.hbTrip s n c st) := by
  unfold State.hbTrip
  repeat' first | with_reducible assumption | with_reducible apply State.hbMotionEnd_keeps | with_reducible apply State.wr_keeps
                | with_reducible apply State.trip_keeps | with_reducible apply State.setSt_keeps | with_reducible apply State.count_keeps
                | with_reducible apply State.modBridge_keeps | with_reducible apply State.modObj_keeps | with_reducible apply Keeps.ite
                | with_reducible apply Keeps.foldl | with_reducible apply Keeps.ite_fst | with_reducible apply Keeps.foldl_fst | split | dsimp only
                | (intro _; rfl) | (intro _; intros)

theorem State.hbClear_keeps {σ s : State} (n : Nat) (hσ : Keeps σ s) : Keeps σ (State.hbClear s n) := by
  unfold State.hbClear
  repeat' first | with_reducible assumption | with_reducible apply State.wr_keeps | with_reducible apply State.setSt_keeps
                | with_reducible apply State.modObj_keeps | with_reducible apply State.unverify_keeps | with_reducible apply Keeps.ite
                | with_reducible apply Keeps.foldl | with_reducible apply Keeps.ite_fst | with_reducible apply Keeps.foldl_fst | split | dsimp only
                | (intro _; rfl) | (intro _; intros)

theorem State.hbServe_keeps {σ s : State} (d : Sys2Proof.Machine.Demand) (hσ : Keeps σ s) : Keeps σ (State.hbServe s d) := by
  unfold State.hbServe
  repeat' first | with_reducible assumption | with_reducible apply State.hbStart_keeps | with_reducible apply State.hbChange_keeps
                | with_reducible apply State.hbReverse_keeps | with_reducible apply State.objEvent_keeps | with_reducible apply Keeps.ite
                | with_reducible apply Keeps.foldl | with_reducible apply Keeps.ite_fst | with_reducible apply Keeps.foldl_fst | split | dsimp only
                | (intro _; rfl) | (intro _; intros)

theorem State.hbWant_keeps {σ s : State} (o : Nat) (w : Sys2Proof.Machine.Want) (hσ : Keeps σ s) : Keeps σ (State.hbWant s o w).1 := by
  unfold State.hbWant
  repeat' first | with_reducible assumption | with_reducible apply State.modBridge_keeps | with_reducible apply State.wr_keeps
                | with_reducible apply State.setLoad_keeps | with_reducible apply State.hbStopMode_keeps | with_reducible apply Keeps.ite
                | with_reducible apply Keeps.foldl | with_reducible apply Keeps.ite_fst | with_reducible apply Keeps.foldl_fst | split | dsimp only
                | (intro _; rfl) | (intro _; intros)

theorem State.modLoop_keeps {σ s : State} (n : Nat) (f : Sys2Proof.Machine.Loop → Sys2Proof.Machine.Loop) (hσ : Keeps σ s) : Keeps σ
    (State.modLoop s n f) := by
  unfold State.modLoop
  repeat' first | with_reducible assumption | with_reducible apply Keeps.ite | with_reducible apply Keeps.foldl | with_reducible apply Keeps.ite_fst
                | with_reducible apply Keeps.foldl_fst | split | dsimp only | (intro _; rfl) | (intro _; intros)
                | (refine Keeps.same (by rfl) (by rfl) (by rfl) (by rfl) ?_)

theorem State.loopCount_keeps {σ s : State} (n : Nat) (k : Nat) (by_ : Nat) (hσ : Keeps σ s) : Keeps σ (State.loopCount s n k by_) := by
  unfold State.loopCount
  repeat' first | with_reducible assumption | with_reducible apply State.modLoop_keeps | with_reducible apply Keeps.ite
                | with_reducible apply Keeps.foldl | with_reducible apply Keeps.ite_fst | with_reducible apply Keeps.foldl_fst | split | dsimp only
                | (intro _; rfl) | (intro _; intros)

theorem State.wq_keeps {σ s : State} (f : Sys2Proof.Machine.Field) (n : Nat) (v : Int) (hσ : Keeps σ s) : Keeps σ (State.wq s f n v) := by
  unfold State.wq
  repeat' first | with_reducible assumption | with_reducible apply State.wr_keeps | with_reducible apply Keeps.ite | with_reducible apply Keeps.foldl
                | with_reducible apply Keeps.ite_fst | with_reducible apply Keeps.foldl_fst | split | dsimp only | (intro _; rfl) | (intro _; intros)

theorem State.loopEvent_keeps {σ s : State} (n : Nat) (yy : Nat) (b17 : Nat) (hσ : Keeps σ s) : Keeps σ (State.loopEvent s n yy b17) := by
  unfold State.loopEvent
  repeat' first | with_reducible assumption | with_reducible apply State.raise_keeps | with_reducible apply Keeps.ite
                | with_reducible apply Keeps.foldl | with_reducible apply Keeps.ite_fst | with_reducible apply Keeps.foldl_fst | split | dsimp only
                | (intro _; rfl) | (intro _; intros)

theorem State.loopEngage_keeps {σ s : State} (d : Sys2Proof.Machine.Demand) (hσ : Keeps σ s) : Keeps σ (State.loopEngage s d) := by
  unfold State.loopEngage
  repeat' first | with_reducible assumption | with_reducible apply State.claimSet_keeps | with_reducible apply State.wr_keeps
                | with_reducible apply State.loopCount_keeps | with_reducible apply State.modLoop_keeps | with_reducible apply Keeps.ite
                | with_reducible apply Keeps.foldl | with_reducible apply Keeps.ite_fst | with_reducible apply Keeps.foldl_fst | split | dsimp only
                | (intro _; rfl) | (intro _; intros)

theorem State.objOff_keeps {σ s : State} (o : Nat) (hσ : Keeps σ s) : Keeps σ (State.objOff s o) := by
  unfold State.objOff
  repeat' first | with_reducible assumption | with_reducible apply State.chOff_keeps | with_reducible apply State.ldOff_keeps
                | with_reducible apply State.mxOff_keeps | with_reducible apply State.svOff_keeps | with_reducible apply State.bstOff_keeps
                | with_reducible apply State.hbOff_keeps | with_reducible apply Keeps.ite | with_reducible apply Keeps.foldl
                | with_reducible apply Keeps.ite_fst | with_reducible apply Keeps.foldl_fst | split | dsimp only | (intro _; rfl) | (intro _; intros)

theorem State.objTrip_keeps {σ s : State} (o : Nat) (c : Sys2Proof.Machine.Cause) (st : Nat) (hσ : Keeps σ s) : Keeps σ (State.objTrip s o c st) := by
  unfold State.objTrip
  repeat' first | with_reducible assumption | with_reducible apply State.chTrip_keeps | with_reducible apply State.ldTrip_keeps
                | with_reducible apply State.svTrip_keeps | with_reducible apply State.hbTrip_keeps | with_reducible apply State.wr_keeps
                | with_reducible apply State.trip_keeps | with_reducible apply Keeps.ite | with_reducible apply Keeps.foldl
                | with_reducible apply Keeps.ite_fst | with_reducible apply Keeps.foldl_fst | split | dsimp only | (intro _; rfl) | (intro _; intros)

theorem State.loopClaims_keeps {σ s : State} (o : Nat) (hσ : Keeps σ s) : Keeps σ (State.loopClaims s o) := by
  unfold State.loopClaims
  repeat' first | with_reducible assumption | with_reducible apply State.claimSet_keeps | with_reducible apply Keeps.ite
                | with_reducible apply Keeps.foldl | with_reducible apply Keeps.ite_fst | with_reducible apply Keeps.foldl_fst | split | dsimp only
                | (intro _; rfl) | (intro _; intros)

theorem State.objServe_keeps {σ s : State} (d : Sys2Proof.Machine.Demand) (hσ : Keeps σ s) : Keeps σ (State.objServe s d) := by
  unfold State.objServe
  repeat' first | with_reducible assumption | with_reducible apply State.loopClaims_keeps | with_reducible apply State.chServe_keeps
                | with_reducible apply State.ldServe_keeps | with_reducible apply State.mxServe_keeps | with_reducible apply State.svServe_keeps
                | with_reducible apply State.bstServe_keeps | with_reducible apply State.hbServe_keeps | with_reducible apply State.loopEngage_keeps
                | with_reducible apply Keeps.ite | with_reducible apply Keeps.foldl | with_reducible apply Keeps.ite_fst
                | with_reducible apply Keeps.foldl_fst | split | dsimp only | (intro _; rfl) | (intro _; intros)

theorem State.objWant_keeps {σ s : State} (o : Nat) (w : Sys2Proof.Machine.Want) (hσ : Keeps σ s) : Keeps σ (State.objWant s o w).1 := by
  unfold State.objWant
  repeat' first | with_reducible assumption | with_reducible apply State.chWant_keeps | with_reducible apply State.ldWant_keeps
                | with_reducible apply State.mxWant_keeps | with_reducible apply State.svWant_keeps | with_reducible apply State.hbWant_keeps
                | with_reducible apply Keeps.ite | with_reducible apply Keeps.foldl | with_reducible apply Keeps.ite_fst
                | with_reducible apply Keeps.foldl_fst | split | dsimp only | (intro _; rfl) | (intro _; intros)

theorem State.shed_keeps {σ s : State} (o : Nat) (b : Nat) (hσ : Keeps σ s) : Keeps σ (State.shed s o b) := by
  unfold State.shed
  repeat' first | with_reducible assumption | with_reducible apply State.bump_keeps | with_reducible apply State.raise_keeps
                | with_reducible apply State.arbLog_keeps | with_reducible apply State.objOff_keeps | with_reducible apply State.showUse_keeps
                | with_reducible apply State.setLoad_keeps | with_reducible apply Keeps.ite | with_reducible apply Keeps.foldl
                | with_reducible apply Keeps.ite_fst | with_reducible apply Keeps.foldl_fst | split | dsimp only | (intro _; rfl) | (intro _; intros)
                | (refine Keeps.same (by rfl) (by rfl) (by rfl) (by rfl) ?_)

theorem State.preempt_keeps {σ s : State} (d : Sys2Proof.Machine.Demand) (hσ : Keeps σ s) : Keeps σ (State.preempt s d).1 := by
  unfold State.preempt
  repeat' first | with_reducible assumption | with_reducible apply State.shed_keeps | with_reducible apply Keeps.ite
                | with_reducible apply Keeps.foldl | with_reducible apply Keeps.ite_fst | with_reducible apply Keeps.foldl_fst | split | dsimp only
                | (intro _; rfl) | (intro _; intros)

theorem State.refuse_keeps {σ s : State} (c : Sys2Proof.Machine.Cmd) (d : Sys2Proof.Machine.Demand) (code : Sys2Proof.Machine.Code) (sub : Nat) (hσ :
    Keeps σ s) : Keeps σ (State.refuse s c d code sub) := by
  unfold State.refuse
  repeat' first | with_reducible assumption | with_reducible apply State.arbLog_keeps | with_reducible apply State.complete_keeps
                | with_reducible apply Keeps.ite | with_reducible apply Keeps.foldl | with_reducible apply Keeps.ite_fst
                | with_reducible apply Keeps.foldl_fst | split | dsimp only | (intro _; rfl) | (intro _; intros)

theorem State.submit_keeps {σ s : State} (d : Sys2Proof.Machine.Demand) (hσ : Keeps σ s) : Keeps σ (State.submit s d) := by
  unfold State.submit
  repeat' first | with_reducible assumption | with_reducible apply State.refuse_keeps | with_reducible apply State.preempt_keeps
                | with_reducible apply State.demandClamp_keeps | with_reducible apply State.count_keeps | with_reducible apply State.bump_keeps
                | with_reducible apply State.arbLog_keeps | with_reducible apply State.objServe_keeps | with_reducible apply State.defer_keeps
                | with_reducible apply State.await_keeps | with_reducible apply Keeps.ite | with_reducible apply Keeps.foldl
                | with_reducible apply Keeps.ite_fst | with_reducible apply Keeps.foldl_fst | split | dsimp only | (intro _; rfl) | (intro _; intros)

theorem State.noteServe_keeps {σ s : State} (o : Nat) (hσ : Keeps σ s) : Keeps σ (State.noteServe s o) := by
  unfold State.noteServe
  repeat' first | with_reducible assumption | with_reducible apply Keeps.ite | with_reducible apply Keeps.foldl | with_reducible apply Keeps.ite_fst
                | with_reducible apply Keeps.foldl_fst | split | dsimp only | (intro _; rfl) | (intro _; intros)
                | (refine Keeps.same (by rfl) (by rfl) (by rfl) (by rfl) ?_)

theorem State.dieServe_keeps {σ s : State} (d : Sys2Proof.Machine.Demand) (hσ : Keeps σ s) : Keeps σ (State.dieServe s d) := by
  unfold State.dieServe
  repeat' first | with_reducible assumption | with_reducible apply State.objServe_keeps | with_reducible apply State.noteServe_keeps
                | with_reducible apply Keeps.ite | with_reducible apply Keeps.foldl | with_reducible apply Keeps.ite_fst
                | with_reducible apply Keeps.foldl_fst | split | dsimp only | (intro _; rfl) | (intro _; intros)

theorem State.arbServe_keeps {σ s : State} (d : Sys2Proof.Machine.Demand) (hσ : Keeps σ s) : Keeps σ (State.arbServe s d) := by
  unfold State.arbServe
  repeat' first | with_reducible assumption | with_reducible apply State.objServe_keeps | with_reducible apply State.noteServe_keeps
                | with_reducible apply Keeps.ite | with_reducible apply Keeps.foldl | with_reducible apply Keeps.ite_fst
                | with_reducible apply Keeps.foldl_fst | split | dsimp only | (intro _; rfl) | (intro _; intros)

theorem State.submitOwn_keeps {σ s : State} (d : Sys2Proof.Machine.Demand) (hσ : Keeps σ s) : Keeps σ (State.submitOwn s d) := by
  unfold State.submitOwn
  repeat' first | with_reducible assumption | with_reducible apply State.boostNotReady_keeps | with_reducible apply State.modObj_keeps
                | with_reducible apply State.unwaitOwn_keeps | with_reducible apply State.preempt_keeps | with_reducible apply State.arbServe_keeps
                | with_reducible apply State.await_keeps | with_reducible apply State.dieServe_keeps | with_reducible apply Keeps.ite
                | with_reducible apply Keeps.foldl | with_reducible apply Keeps.ite_fst | with_reducible apply Keeps.foldl_fst | split | dsimp only
                | (intro _; rfl) | (intro _; intros)

theorem State.mxIcolSet_keeps {σ s : State} (old : Nat) (v : Nat) (hσ : Keeps σ s) : Keeps σ (State.mxIcolSet s old v) := by
  unfold State.mxIcolSet
  repeat' first | with_reducible assumption | with_reducible apply State.modMx_keeps | with_reducible apply State.submitOwn_keeps
                | with_reducible apply State.unwaitOwn_keeps | with_reducible apply Keeps.ite | with_reducible apply Keeps.foldl
                | with_reducible apply Keeps.ite_fst | with_reducible apply Keeps.foldl_fst | split | dsimp only | (intro _; rfl) | (intro _; intros)

theorem State.submitAll_keeps {σ s : State} (ds : List Sys2Proof.Machine.Demand) (hσ : Keeps σ s) : Keeps σ (State.submitAll s ds) := by
  unfold State.submitAll
  repeat' first | with_reducible assumption | with_reducible apply State.submitOwn_keeps | with_reducible apply Keeps.ite
                | with_reducible apply Keeps.foldl | with_reducible apply Keeps.ite_fst | with_reducible apply Keeps.foldl_fst | split | dsimp only
                | (intro _; rfl) | (intro _; intros)

theorem State.takeState_keeps {σ s : State} (r : Nat) (w : Sys2Proof.Machine.Want) (exempt : Bool) (hσ : Keeps σ s) : Keeps σ
    (State.takeState s r w exempt) := by
  unfold State.takeState
  repeat' first | with_reducible assumption | with_reducible apply State.hbOff_keeps | with_reducible apply State.objWant_keeps
                | with_reducible apply State.submitAll_keeps | with_reducible apply Keeps.ite | with_reducible apply Keeps.foldl
                | with_reducible apply Keeps.ite_fst | with_reducible apply Keeps.foldl_fst | split | dsimp only | (intro _; rfl) | (intro _; intros)

theorem State.dropCmds_keeps {σ s : State} (o : Nat) (yy : Nat) (hσ : Keeps σ s) : Keeps σ (State.dropCmds s o yy) := by
  unfold State.dropCmds
  repeat' first | with_reducible assumption | with_reducible apply State.complete_keeps | with_reducible apply State.forget_keeps
                | with_reducible apply Keeps.ite | with_reducible apply Keeps.foldl | with_reducible apply Keeps.ite_fst
                | with_reducible apply Keeps.foldl_fst | split | dsimp only | (intro _; rfl) | (intro _; intros)

theorem State.limpDrop_keeps {σ s : State} (o : Nat) (hσ : Keeps σ s) : Keeps σ (State.limpDrop s o) := by
  unfold State.limpDrop
  repeat' first | with_reducible assumption | with_reducible apply State.dropCmds_keeps | with_reducible apply State.modObj_keeps
                | with_reducible apply State.unwaitOwn_keeps | with_reducible apply Keeps.ite | with_reducible apply Keeps.foldl
                | with_reducible apply Keeps.ite_fst | with_reducible apply Keeps.foldl_fst | split | dsimp only | (intro _; rfl) | (intro _; intros)

theorem State.limpApply_keeps {σ s : State} (r : Nat) (hσ : Keeps σ s) : Keeps σ (State.limpApply s r) := by
  unfold State.limpApply
  repeat' first | with_reducible assumption | with_reducible apply State.wr_keeps | with_reducible apply State.limpDrop_keeps
                | with_reducible apply State.modLimp_keeps | with_reducible apply State.takeState_keeps | with_reducible apply Keeps.ite
                | with_reducible apply Keeps.foldl | with_reducible apply Keeps.ite_fst | with_reducible apply Keeps.foldl_fst | split | dsimp only
                | (intro _; rfl) | (intro _; intros)

theorem State.limpEnter_keeps {σ s : State} (cause : Nat) (hσ : Keeps σ s) : Keeps σ (State.limpEnter s cause) := by
  unfold State.limpEnter
  repeat' first | with_reducible assumption | with_reducible apply State.wr_keeps | with_reducible apply State.raise_keeps
                | with_reducible apply State.bump_keeps | with_reducible apply State.limpApply_keeps | with_reducible apply Keeps.ite
                | with_reducible apply Keeps.foldl | with_reducible apply Keeps.ite_fst | with_reducible apply Keeps.foldl_fst | split | dsimp only
                | (intro _; rfl) | (intro _; intros)

theorem State.limpKeep_keeps {σ s : State} (r : Nat) (hσ : Keeps σ s) : Keeps σ (State.limpKeep s r) := by
  unfold State.limpKeep
  repeat' first | with_reducible assumption | with_reducible apply State.modLimp_keeps | with_reducible apply State.wr_keeps
                | with_reducible apply State.modObj_keeps | with_reducible apply State.unwaitOwn_keeps | with_reducible apply State.setLoad_keeps
                | with_reducible apply State.modLed_keeps | with_reducible apply Keeps.ite | with_reducible apply Keeps.foldl
                | with_reducible apply Keeps.ite_fst | with_reducible apply Keeps.foldl_fst | split | dsimp only | (intro _; rfl) | (intro _; intros)

theorem State.limpExit_keeps {σ s : State} (cause : Nat) (hσ : Keeps σ s) : Keeps σ (State.limpExit s cause) := by
  unfold State.limpExit
  repeat' first | with_reducible assumption | with_reducible apply State.wr_keeps | with_reducible apply State.raise_keeps
                | with_reducible apply State.limpKeep_keeps | with_reducible apply Keeps.ite | with_reducible apply Keeps.foldl
                | with_reducible apply Keeps.ite_fst | with_reducible apply Keeps.foldl_fst | split | dsimp only | (intro _; rfl) | (intro _; intros)

theorem State.orphanState_keeps {σ s : State} (r : Nat) (hσ : Keeps σ s) : Keeps σ (State.orphanState s r) := by
  unfold State.orphanState
  repeat' first | with_reducible assumption | with_reducible apply State.takeState_keeps | with_reducible apply State.hbStopMode_keeps
                | with_reducible apply Keeps.ite | with_reducible apply Keeps.foldl | with_reducible apply Keeps.ite_fst
                | with_reducible apply Keeps.foldl_fst | split | dsimp only | (intro _; rfl) | (intro _; intros)

theorem State.orphan_keeps {σ s : State} (r : Nat) (hσ : Keeps σ s) : Keeps σ (State.orphan s r) := by
  unfold State.orphan
  repeat' first | with_reducible assumption | with_reducible apply State.bump_keeps | with_reducible apply State.wr_keeps
                | with_reducible apply State.modLimp_keeps | with_reducible apply State.orphanState_keeps | with_reducible apply Keeps.ite
                | with_reducible apply Keeps.foldl | with_reducible apply Keeps.ite_fst | with_reducible apply Keeps.foldl_fst | split | dsimp only
                | (intro _; rfl) | (intro _; intros)

theorem State.ioOff_keeps {σ s : State} (n : Nat) (hσ : Keeps σ s) : Keeps σ (State.ioOff s n) := by
  unfold State.ioOff
  repeat' first | with_reducible assumption | with_reducible apply State.endCmds_keeps | with_reducible apply State.modObj_keeps
                | with_reducible apply State.wr_keeps | with_reducible apply State.setSt_keeps | with_reducible apply Keeps.ite
                | with_reducible apply Keeps.foldl | with_reducible apply Keeps.ite_fst | with_reducible apply Keeps.foldl_fst | split | dsimp only
                | (intro _; rfl) | (intro _; intros)

theorem State.ioOffOf_keeps {σ s : State} (pf : Nat) (hσ : Keeps σ s) : Keeps σ (State.ioOffOf s pf) := by
  unfold State.ioOffOf
  repeat' first | with_reducible assumption | with_reducible apply State.ioOff_keeps | with_reducible apply Keeps.ite
                | with_reducible apply Keeps.foldl | with_reducible apply Keeps.ite_fst | with_reducible apply Keeps.foldl_fst | split | dsimp only
                | (intro _; rfl) | (intro _; intros)

theorem State.orphanAll_keeps {σ s : State} (pf : Nat) (hσ : Keeps σ s) : Keeps σ (State.orphanAll s pf) := by
  unfold State.orphanAll
  repeat' first | with_reducible assumption | with_reducible apply State.ioOffOf_keeps | with_reducible apply State.orphan_keeps
                | with_reducible apply Keeps.ite | with_reducible apply Keeps.foldl | with_reducible apply Keeps.ite_fst
                | with_reducible apply Keeps.foldl_fst | split | dsimp only | (intro _; rfl) | (intro _; intros)

theorem State.settleOnce_keeps {σ s : State} (hσ : Keeps σ s) : Keeps σ (State.settleOnce s) := by
  unfold State.settleOnce
  repeat' first | with_reducible assumption | with_reducible apply State.freeze_keeps | with_reducible apply State.orphanAll_keeps
                | with_reducible apply Keeps.ite | with_reducible apply Keeps.foldl | with_reducible apply Keeps.ite_fst
                | with_reducible apply Keeps.foldl_fst | split | dsimp only | (intro _; rfl) | (intro _; intros)
                | (refine Keeps.same (by rfl) (by rfl) (by rfl) (by rfl) ?_)

theorem State.settle_keeps {σ s : State} (h : Keeps σ s) : Keeps σ s.settle :=
  State.settleOnce_keeps (State.settleOnce_keeps (State.settleOnce_keeps (State.settleOnce_keeps (State.settleOnce_keeps h))))

theorem State.cutObj_keeps {σ s : State} (o : Nat) (c : Sys2Proof.Machine.Cause) (hσ : Keeps σ s) : Keeps σ (State.cutObj s o c) := by
  unfold State.cutObj
  repeat' first | with_reducible assumption | with_reducible apply State.setLoad_keeps | with_reducible apply State.objTrip_keeps
                | with_reducible apply Keeps.ite | with_reducible apply Keeps.foldl | with_reducible apply Keeps.ite_fst
                | with_reducible apply Keeps.foldl_fst | split | dsimp only | (intro _; rfl) | (intro _; intros)

theorem State.grpEvent_keeps {σ s : State} (yy : Nat) (g : Nat) (b17 : Nat) (n : Nat) (hσ : Keeps σ s) : Keeps σ (State.grpEvent s yy g b17 n) := by
  unfold State.grpEvent
  repeat' first | with_reducible assumption | with_reducible apply State.raise_keeps | with_reducible apply Keeps.ite
                | with_reducible apply Keeps.foldl | with_reducible apply Keeps.ite_fst | with_reducible apply Keeps.foldl_fst | split | dsimp only
                | (intro _; rfl) | (intro _; intros)

theorem State.setCut_keeps {σ s : State} (g : Nat) (level : Nat) (b : Bool) (hσ : Keeps σ s) : Keeps σ (State.setCut s g level b) := by
  unfold State.setCut
  repeat' first | with_reducible assumption | with_reducible apply State.wrb_keeps | with_reducible apply State.wr_keeps
                | with_reducible apply Keeps.ite | with_reducible apply Keeps.foldl | with_reducible apply Keeps.ite_fst
                | with_reducible apply Keeps.foldl_fst | split | dsimp only | (intro _; rfl) | (intro _; intros)

theorem State.restart_keeps {σ s : State} (o : Nat) (kind : Sys2Proof.Machine.DKind) (hσ : Keeps σ s) : Keeps σ (State.restart s o kind) := by
  unfold State.restart
  repeat' first | with_reducible assumption | with_reducible apply State.hbStop_keeps | with_reducible apply State.submitOwn_keeps
                | with_reducible apply Keeps.ite | with_reducible apply Keeps.foldl | with_reducible apply Keeps.ite_fst
                | with_reducible apply Keeps.foldl_fst | split | dsimp only | (intro _; rfl) | (intro _; intros)

theorem State.loopApply_keeps {σ s : State} (n : Nat) (out : Int) (hσ : Keeps σ s) : Keeps σ (State.loopApply s n out) := by
  unfold State.loopApply
  repeat' first | with_reducible assumption | with_reducible apply State.modLed_keeps | with_reducible apply State.svLoopLevel_keeps
                | with_reducible apply State.modObj_keeps | with_reducible apply State.chTarget_keeps | with_reducible apply Keeps.ite
                | with_reducible apply Keeps.foldl | with_reducible apply Keeps.ite_fst | with_reducible apply Keeps.foldl_fst | split | dsimp only
                | (intro _; rfl) | (intro _; intros)

theorem State.loopKeep_keeps {σ s : State} (n : Nat) (hσ : Keeps σ s) : Keeps σ (State.loopKeep s n) := by
  unfold State.loopKeep
  repeat' first | with_reducible assumption | with_reducible apply State.modLed_keeps | with_reducible apply State.wr_keeps
                | with_reducible apply State.modValve_keeps | with_reducible apply Keeps.ite | with_reducible apply Keeps.foldl
                | with_reducible apply Keeps.ite_fst | with_reducible apply Keeps.foldl_fst | split | dsimp only | (intro _; rfl) | (intro _; intros)

theorem State.loopToOpen_keeps {σ s : State} (n : Nat) (reason : Nat) (code : Sys2Proof.Machine.Code) (sub : Nat) (hσ : Keeps σ s) : Keeps σ
    (State.loopToOpen s n reason code sub) := by
  unfold State.loopToOpen
  repeat' first | with_reducible assumption | with_reducible apply State.wr_keeps | with_reducible apply State.complete_keeps
                | with_reducible apply State.modLoop_keeps | with_reducible apply State.setLoad_keeps | with_reducible apply State.loopCount_keeps
                | with_reducible apply State.loopEvent_keeps | with_reducible apply Keeps.ite | with_reducible apply Keeps.foldl
                | with_reducible apply Keeps.ite_fst | with_reducible apply Keeps.foldl_fst | split | dsimp only | (intro _; rfl) | (intro _; intros)

theorem State.loopMode_keeps {σ s : State} (n : Nat) (mode : Nat) (hσ : Keeps σ s) : Keeps σ (State.loopMode s n mode) := by
  unfold State.loopMode
  repeat' first | with_reducible assumption | with_reducible apply State.loopKeep_keeps | with_reducible apply State.loopApply_keeps
                | with_reducible apply State.hbStopMode_keeps | with_reducible apply State.objOff_keeps | with_reducible apply Keeps.ite
                | with_reducible apply Keeps.foldl | with_reducible apply Keeps.ite_fst | with_reducible apply Keeps.foldl_fst | split | dsimp only
                | (intro _; rfl) | (intro _; intros)

theorem State.loopStep_keeps {σ s : State} (n : Nat) (hσ : Keeps σ s) : Keeps σ (State.loopStep s n) := by
  unfold State.loopStep
  repeat' first | with_reducible assumption | with_reducible apply State.loopToOpen_keeps | with_reducible apply State.loopKeep_keeps
                | with_reducible apply State.loopEvent_keeps | with_reducible apply State.loopCount_keeps | with_reducible apply State.wr_keeps
                | with_reducible apply State.modLoop_keeps | with_reducible apply Keeps.ite | with_reducible apply Keeps.foldl
                | with_reducible apply Keeps.ite_fst | with_reducible apply Keeps.foldl_fst | split | dsimp only | (intro _; rfl) | (intro _; intros)

theorem State.follow_keeps {σ s : State} (hσ : Keeps σ s) : Keeps σ (State.follow s) := by
  unfold State.follow
  repeat' first | with_reducible assumption | with_reducible apply State.loopStep_keeps | with_reducible apply Keeps.ite
                | with_reducible apply Keeps.foldl | with_reducible apply Keeps.ite_fst | with_reducible apply Keeps.foldl_fst | split | dsimp only
                | (intro _; rfl) | (intro _; intros)

theorem State.loopSat_keeps {σ s : State} (n : Nat) (k : Nat) (sat : Bool) (hσ : Keeps σ s) : Keeps σ (State.loopSat s n k sat) := by
  unfold State.loopSat
  repeat' first | with_reducible assumption | with_reducible apply State.loopCount_keeps | with_reducible apply State.bump_keeps
                | with_reducible apply State.raiseFault_keeps | with_reducible apply State.wr_keeps | with_reducible apply Keeps.ite
                | with_reducible apply Keeps.foldl | with_reducible apply Keeps.ite_fst | with_reducible apply Keeps.foldl_fst | split | dsimp only
                | (intro _; rfl) | (intro _; intros)

theorem State.loopMiss_keeps {σ s : State} (n : Nat) (hσ : Keeps σ s) : Keeps σ (State.loopMiss s n) := by
  unfold State.loopMiss
  repeat' first | with_reducible assumption | with_reducible apply State.loopCount_keeps | with_reducible apply State.wr_keeps
                | with_reducible apply State.loopToOpen_keeps | with_reducible apply State.raiseFault_keeps
                | with_reducible apply State.loopMode_keeps | with_reducible apply Keeps.ite | with_reducible apply Keeps.foldl
                | with_reducible apply Keeps.ite_fst | with_reducible apply Keeps.foldl_fst | split | dsimp only | (intro _; rfl) | (intro _; intros)

theorem State.loopOutcome_keeps {σ s : State} (n : Nat) (c : Sys2Proof.Machine.Cmd) (hσ : Keeps σ s) : Keeps σ (State.loopOutcome s n c) := by
  unfold State.loopOutcome
  repeat' first | with_reducible assumption | with_reducible apply State.modObj_keeps | with_reducible apply State.modLoop_keeps
                | with_reducible apply Keeps.ite | with_reducible apply Keeps.foldl | with_reducible apply Keeps.ite_fst
                | with_reducible apply Keeps.foldl_fst | split | dsimp only | (intro _; rfl) | (intro _; intros)

theorem State.loopValid_keeps {σ s : State} (n : Nat) (raw : Int) (hσ : Keeps σ s) : Keeps σ (State.loopValid s n raw) := by
  unfold State.loopValid
  repeat' first | with_reducible assumption | with_reducible apply State.wq_keeps | with_reducible apply State.wr_keeps
                | with_reducible apply State.wrb_keeps | with_reducible apply State.modLoop_keeps | with_reducible apply State.loopSat_keeps
                | with_reducible apply State.flagSet_keeps | with_reducible apply State.loopApply_keeps | with_reducible apply State.loopEvent_keeps
                | with_reducible apply State.loopOutcome_keeps | with_reducible apply State.begin_keeps | with_reducible apply State.loopCount_keeps
                | with_reducible apply State.raiseFault_keeps | with_reducible apply State.loopToOpen_keeps
                | with_reducible apply State.loopMode_keeps | with_reducible apply Keeps.ite | with_reducible apply Keeps.foldl
                | with_reducible apply Keeps.ite_fst | with_reducible apply Keeps.foldl_fst | split | dsimp only | (intro _; rfl) | (intro _; intros)

theorem State.loopsOpen_keeps {σ s : State} (reason : Nat) (hσ : Keeps σ s) : Keeps σ (State.loopsOpen s reason) := by
  unfold State.loopsOpen
  repeat' first | with_reducible assumption | with_reducible apply State.loopKeep_keeps | with_reducible apply State.rstFields_keeps
                | with_reducible apply State.modLoop_keeps | with_reducible apply State.loopToOpen_keeps | with_reducible apply Keeps.ite
                | with_reducible apply Keeps.foldl | with_reducible apply Keeps.ite_fst | with_reducible apply Keeps.foldl_fst | split | dsimp only
                | (intro _; rfl) | (intro _; intros)

theorem State.tw_keeps {σ s : State} (f : Sys2Proof.Machine.TwinState → Sys2Proof.Machine.TwinState) (hσ : Keeps σ s) : Keeps σ (State.tw s f) := by
  unfold State.tw
  repeat' first | with_reducible assumption | with_reducible apply Keeps.ite | with_reducible apply Keeps.foldl | with_reducible apply Keeps.ite_fst
                | with_reducible apply Keeps.foldl_fst | split | dsimp only | (intro _; rfl) | (intro _; intros)
                | (refine Keeps.same (by rfl) (by rfl) (by rfl) (by rfl) ?_)

theorem State.reed_keeps {σ s : State} (m : Sys2Proof.Machine.ReedMsg) (hσ : Keeps σ s) : Keeps σ (State.reed s m) := by
  unfold State.reed
  repeat' first | with_reducible assumption | with_reducible apply State.tw_keeps | with_reducible apply Keeps.ite | with_reducible apply Keeps.foldl
                | with_reducible apply Keeps.ite_fst | with_reducible apply Keeps.foldl_fst | split | dsimp only | (intro _; rfl) | (intro _; intros)

theorem State.driveMsg_keeps {σ s : State} (p : Nat) (hσ : Keeps σ s) : Keeps σ (State.driveMsg s p) := by
  unfold State.driveMsg
  repeat' first | with_reducible assumption | with_reducible apply State.reed_keeps | with_reducible apply State.tw_keeps
                | with_reducible apply Keeps.ite | with_reducible apply Keeps.foldl | with_reducible apply Keeps.ite_fst
                | with_reducible apply Keeps.foldl_fst | split | dsimp only | (intro _; rfl) | (intro _; intros)

theorem State.drives_keeps {σ s : State} (hσ : Keeps σ s) : Keeps σ (State.drives s) := by
  unfold State.drives
  repeat' first | with_reducible assumption | with_reducible apply State.driveMsg_keeps | with_reducible apply Keeps.ite
                | with_reducible apply Keeps.foldl | with_reducible apply Keeps.ite_fst | with_reducible apply Keeps.foldl_fst | split | dsimp only
                | (intro _; rfl) | (intro _; intros)

theorem State.standbyClaims_keeps {σ s : State} (hσ : Keeps σ s) : Keeps σ (State.standbyClaims s) := by
  unfold State.standbyClaims
  repeat' first | with_reducible assumption | with_reducible apply State.showUse_keeps | with_reducible apply State.setLoad_keeps
                | with_reducible apply State.submitOwn_keeps | with_reducible apply Keeps.ite | with_reducible apply Keeps.foldl
                | with_reducible apply Keeps.ite_fst | with_reducible apply Keeps.foldl_fst | split | dsimp only | (intro _; rfl) | (intro _; intros)

theorem State.shadows_keeps {σ s : State} (hσ : Keeps σ s) : Keeps σ (State.shadows s) := by
  unfold State.shadows
  repeat' first | with_reducible assumption | with_reducible apply State.standbyClaims_keeps | with_reducible apply Keeps.ite
                | with_reducible apply Keeps.foldl | with_reducible apply Keeps.ite_fst | with_reducible apply Keeps.foldl_fst | split | dsimp only
                | (intro _; rfl) | (intro _; intros)

theorem State.moves_keeps {σ s : State} (hσ : Keeps σ s) : Keeps σ (State.moves s) := by
  unfold State.moves
  repeat' first | with_reducible assumption | with_reducible apply State.shadows_keeps | with_reducible apply State.drives_keeps
                | with_reducible apply State.chops_keeps | with_reducible apply State.follow_keeps | with_reducible apply State.settle_keeps
                | with_reducible apply Keeps.ite | with_reducible apply Keeps.foldl | with_reducible apply Keeps.ite_fst
                | with_reducible apply Keeps.foldl_fst | split | dsimp only | (intro _; rfl) | (intro _; intros)

theorem State.deliverOnce_keeps {σ s : State} (hσ : Keeps σ s) : Keeps σ (State.deliverOnce s) := by
  unfold State.deliverOnce
  repeat' first | with_reducible assumption | with_reducible apply State.sendCpls_keeps | with_reducible apply State.moves_keeps
                | with_reducible apply Keeps.ite | with_reducible apply Keeps.foldl | with_reducible apply Keeps.ite_fst
                | with_reducible apply Keeps.foldl_fst | split | dsimp only | (intro _; rfl) | (intro _; intros)

theorem State.done_keeps {σ s : State} (hσ : Keeps σ s) : Keeps σ s.done := by
  unfold State.done
  have h : Keeps σ s.moves := State.moves_keeps hσ
  revert h
  generalize s.moves = t
  intro h
  generalize 5 = n
  induction n with
  | zero => exact h
  | succ n ih => exact State.deliverOnce_keeps ih

theorem State.wrote_keeps {σ s : State} (p : Sys2Proof.Machine.Put) (old : Nat) (v : Nat) (hσ : Keeps σ s) : Keeps σ (State.wrote s p old v) := by
  unfold State.wrote
  repeat' first | with_reducible assumption | with_reducible apply State.wrb_keeps | with_reducible apply State.wr_keeps
                | with_reducible apply State.modLed_keeps | with_reducible apply State.modSw_keeps | with_reducible apply State.modIi_keeps
                | with_reducible apply Keeps.ite | with_reducible apply Keeps.foldl | with_reducible apply Keeps.ite_fst
                | with_reducible apply Keeps.foldl_fst | split | dsimp only | (intro _; rfl) | (intro _; intros)

theorem State.putAll_keeps {σ s : State} (w : Nat) (src : Nat) (pf : Nat) (tag : Nat) (obj : Nat) (r : List (Sys2Proof.Machine.Put × Nat)) (hσ :
    Keeps σ s) : Keeps σ (State.putAll s w src pf tag obj r) := by
  unfold State.putAll
  repeat' first | with_reducible assumption | with_reducible apply State.logClamps_keeps | with_reducible apply State.wrote_keeps
                | with_reducible apply State.wr_keeps | with_reducible apply Keeps.ite | with_reducible apply Keeps.foldl
                | with_reducible apply Keeps.ite_fst | with_reducible apply Keeps.foldl_fst | split | dsimp only | (intro _; rfl) | (intro _; intros)

theorem State.putImage_keeps {σ s : State} (c : Sys2Proof.Machine.Cmd) (win : Nat) (ps : List Sys2Proof.Machine.Put) (hσ : Keeps σ s) : Keeps σ
    (State.putImage s c win ps) := by
  unfold State.putImage
  repeat' first | with_reducible assumption | with_reducible apply State.modFlight_keeps | with_reducible apply State.putAll_keeps
                | with_reducible apply Keeps.ite | with_reducible apply Keeps.foldl | with_reducible apply Keeps.ite_fst
                | with_reducible apply Keeps.foldl_fst | split | dsimp only | (intro _; rfl) | (intro _; intros)

theorem State.clampEvent_keeps {σ s : State} (pf : Nat) (win : Nat) (first : Nat) (n : Nat) (hσ : Keeps σ s) : Keeps σ
    (State.clampEvent s pf win first n) := by
  unfold State.clampEvent
  repeat' first | with_reducible assumption | with_reducible apply State.deliver_keeps | with_reducible apply Keeps.ite
                | with_reducible apply Keeps.foldl | with_reducible apply Keeps.ite_fst | with_reducible apply Keeps.foldl_fst | split | dsimp only
                | (intro _; rfl) | (intro _; intros)

theorem State.logSetup_keeps {σ s : State} (w : Nat) (pf : Nat) (es : List Sys2Proof.Machine.ClampEntry) (hσ : Keeps σ s) : Keeps σ
    (State.logSetup s w pf es) := by
  unfold State.logSetup
  repeat' first | with_reducible assumption | with_reducible apply State.clampEvent_keeps | with_reducible apply State.logClamps_keeps
                | with_reducible apply Keeps.ite | with_reducible apply Keeps.foldl | with_reducible apply Keeps.ite_fst
                | with_reducible apply Keeps.foldl_fst | split | dsimp only | (intro _; rfl) | (intro _; intros)

theorem State.clampBit_keeps {σ s : State} (w : Nat) (pf : Nat) (offset : Nat) (lsb : Nat) (width : Nat) (req : Nat) (applied : Nat) (hσ : Keeps σ s)
    : Keeps σ (State.clampBit s w pf offset lsb width req applied) := by
  unfold State.clampBit
  repeat' first | with_reducible assumption | with_reducible apply State.logSetup_keeps | with_reducible apply Keeps.ite
                | with_reducible apply Keeps.foldl | with_reducible apply Keeps.ite_fst | with_reducible apply Keeps.foldl_fst | split | dsimp only
                | (intro _; rfl) | (intro _; intros)

end Sys2Proof.Machine
end

