-- ==== Sys2Proof/Laws/KeepsParts.lean ====
section
/-!
SUPPORT. Sys2Proof/Laws/KeepsParts.lean: what Keeps says of the rows of the channels, diagnostics, arbiter, supplies, LEDs, valves, bridges, loops and inputs.
-/
namespace Sys2Proof.Machine

theorem State.orElse_keeps {σ s : State} (c : Cmd) (bars : List (Option (Code × Nat))) (go : State → State) (h : Keeps σ s)
    (hg : ∀ s, Keeps σ s → Keeps σ (go s)) : Keeps σ (s.orElse c bars go) := by
  unfold State.orElse
  split
  · exact State.complete_keeps _ _ _ h
  · exact hg _ h

theorem State.noteVd_keeps {σ s : State} (o : Nat) (vd : Nat) (hσ : Keeps σ s) : Keeps σ (State.noteVd s o vd) := by
  unfold State.noteVd
  repeat' first | with_reducible assumption | with_reducible apply State.modObj_keeps | with_reducible apply Keeps.ite
                | with_reducible apply Keeps.foldl | with_reducible apply Keeps.ite_fst | with_reducible apply Keeps.foldl_fst | split | dsimp only
                | (intro _; rfl) | (intro _; intros)

theorem State.chOnCmd_keeps {σ s : State} (c : Sys2Proof.Machine.Cmd) (target : Nat) (duty0 : Nat) (inrByte : Nat) (vd : Nat) (hσ : Keeps σ s) :
    Keeps σ (State.chOnCmd s c target duty0 inrByte vd) := by
  unfold State.chOnCmd
  repeat' first | with_reducible assumption | with_reducible apply State.orElse_keeps | with_reducible apply State.descClamp_keeps
                | with_reducible apply State.complete_keeps | with_reducible apply State.commanded_keeps | with_reducible apply State.chChange_keeps
                | with_reducible apply State.submit_keeps | with_reducible apply State.noteVd_keeps | with_reducible apply Keeps.ite
                | with_reducible apply Keeps.foldl | with_reducible apply Keeps.ite_fst | with_reducible apply Keeps.foldl_fst | split | dsimp only
                | (intro _; rfl) | (intro _; intros)

theorem execOutOff_keeps {σ s : State} (dt : Nat) (c : Sys2Proof.Machine.Cmd) (hσ : Keeps σ (s.tick dt)) : AKeeps σ (execOutOff dt c s) := by
  unfold execOutOff
  refine ⟨_, rfl, ?_⟩
  repeat' first | with_reducible assumption | with_reducible apply State.done_keeps | with_reducible apply State.serveOp_keeps
                | with_reducible apply State.orElse_keeps | with_reducible apply State.complete_keeps | with_reducible apply State.commanded_keeps
                | with_reducible apply State.chOff_keeps | with_reducible apply State.begin_keeps | with_reducible apply Keeps.ite
                | with_reducible apply Keeps.foldl | with_reducible apply Keeps.ite_fst | with_reducible apply Keeps.foldl_fst | split | dsimp only
                | (intro _; rfl) | (intro _; intros)

theorem execOutOn_keeps {σ s : State} (dt : Nat) (c : Sys2Proof.Machine.Cmd) (vd : Nat) (hσ : Keeps σ (s.tick dt)) : AKeeps σ
    (execOutOn dt c vd s) := by
  unfold execOutOn
  refine ⟨_, rfl, ?_⟩
  repeat' first | with_reducible assumption | with_reducible apply State.done_keeps | with_reducible apply State.serveOp_keeps
                | with_reducible apply State.chOnCmd_keeps | with_reducible apply Keeps.ite | with_reducible apply Keeps.foldl
                | with_reducible apply Keeps.ite_fst | with_reducible apply Keeps.foldl_fst | split | dsimp only | (intro _; rfl) | (intro _; intros)

theorem execOutPwm_keeps {σ s : State} (dt : Nat) (c : Sys2Proof.Machine.Cmd) (vd : Nat) (hσ : Keeps σ (s.tick dt)) : AKeeps σ
    (execOutPwm dt c vd s) := by
  unfold execOutPwm
  refine ⟨_, rfl, ?_⟩
  repeat' first | with_reducible assumption | with_reducible apply State.done_keeps | with_reducible apply State.serveOp_keeps
                | with_reducible apply State.chOnCmd_keeps | with_reducible apply Keeps.ite | with_reducible apply Keeps.foldl
                | with_reducible apply Keeps.ite_fst | with_reducible apply Keeps.foldl_fst | split | dsimp only | (intro _; rfl) | (intro _; intros)

theorem State.clearPersists_keeps {σ s : State} (c : Sys2Proof.Machine.Cmd) (sub : Nat) (hσ : Keeps σ s) : Keeps σ (State.clearPersists s c sub) := by
  unfold State.clearPersists
  repeat' first | with_reducible assumption | with_reducible apply State.complete_keeps | with_reducible apply State.clearRefused_keeps
                | with_reducible apply Keeps.ite | with_reducible apply Keeps.foldl | with_reducible apply Keeps.ite_fst
                | with_reducible apply Keeps.foldl_fst | split | dsimp only | (intro _; rfl) | (intro _; intros)

theorem execClearFault_keeps {σ s : State} (dt : Nat) (c : Sys2Proof.Machine.Cmd) (hσ : Keeps σ (s.tick dt)) : AKeeps σ (execClearFault dt c s) := by
  unfold execClearFault
  refine ⟨_, rfl, ?_⟩
  repeat' first | with_reducible assumption | with_reducible apply State.done_keeps | with_reducible apply State.serveOp_keeps
                | with_reducible apply State.orElse_keeps | with_reducible apply State.complete_keeps | with_reducible apply State.commanded_keeps
                | with_reducible apply State.clearPersists_keeps | with_reducible apply State.chClear_keeps | with_reducible apply State.begin_keeps
                | with_reducible apply Keeps.ite | with_reducible apply Keeps.foldl | with_reducible apply Keeps.ite_fst
                | with_reducible apply Keeps.foldl_fst | split | dsimp only | (intro _; rfl) | (intro _; intros)

theorem execChConfig_keeps {σ s : State} (dt : Nat) (c : Sys2Proof.Machine.Cmd) (hσ : Keeps σ (s.tick dt)) : AKeeps σ (execChConfig dt c s) := by
  unfold execChConfig
  refine ⟨_, rfl, ?_⟩
  repeat' first | with_reducible assumption | with_reducible apply State.done_keeps | with_reducible apply State.serveOp_keeps
                | with_reducible apply State.orElse_keeps | with_reducible apply State.complete_keeps | with_reducible apply State.putImage_keeps
                | with_reducible apply State.begin_keeps | with_reducible apply Keeps.ite | with_reducible apply Keeps.foldl
                | with_reducible apply Keeps.ite_fst | with_reducible apply Keeps.foldl_fst | split | dsimp only | (intro _; rfl) | (intro _; intros)

theorem execLearnReset_keeps {σ s : State} (dt : Nat) (c : Sys2Proof.Machine.Cmd) (hσ : Keeps σ (s.tick dt)) : AKeeps σ (execLearnReset dt c s) := by
  unfold execLearnReset
  refine ⟨_, rfl, ?_⟩
  repeat' first | with_reducible assumption | with_reducible apply State.done_keeps | with_reducible apply State.serveOp_keeps
                | with_reducible apply State.orElse_keeps | with_reducible apply State.complete_keeps | with_reducible apply State.rstField_keeps
                | with_reducible apply State.begin_keeps | with_reducible apply Keeps.ite | with_reducible apply Keeps.foldl
                | with_reducible apply Keeps.ite_fst | with_reducible apply Keeps.foldl_fst | split | dsimp only | (intro _; rfl) | (intro _; intros)

theorem State.checkCmd_keeps {σ s : State} (c : Sys2Proof.Machine.Cmd) (hσ : Keeps σ s) : Keeps σ (State.checkCmd s c) := by
  unfold State.checkCmd
  repeat' first | with_reducible assumption | with_reducible apply State.commanded_keeps | with_reducible apply State.complete_keeps
                | with_reducible apply State.modObj_keeps | with_reducible apply Keeps.ite | with_reducible apply Keeps.foldl
                | with_reducible apply Keeps.ite_fst | with_reducible apply Keeps.foldl_fst | split | dsimp only | (intro _; rfl) | (intro _; intros)

theorem execDiagCheck_keeps {σ s : State} (dt : Nat) (c : Sys2Proof.Machine.Cmd) (hσ : Keeps σ (s.tick dt)) : AKeeps σ (execDiagCheck dt c s) := by
  unfold execDiagCheck
  refine ⟨_, rfl, ?_⟩
  repeat' first | with_reducible assumption | with_reducible apply State.done_keeps | with_reducible apply State.serveOp_keeps
                | with_reducible apply State.orElse_keeps | with_reducible apply State.checkCmd_keeps | with_reducible apply Keeps.ite
                | with_reducible apply Keeps.foldl | with_reducible apply Keeps.ite_fst | with_reducible apply Keeps.foldl_fst | split | dsimp only
                | (intro _; rfl) | (intro _; intros)

theorem execChOutcomeReached_keeps {σ s : State} (dt : Nat) (o : Sys2Proof.Machine.Seen) (hσ : Keeps σ (s.tick dt)) : AKeeps σ
    (execChOutcomeReached dt o s) := by
  unfold execChOutcomeReached
  refine ⟨_, rfl, ?_⟩
  repeat' first | with_reducible assumption | with_reducible apply State.done_keeps | with_reducible apply State.cmdDone_keeps
                | with_reducible apply State.chgDone_keeps | with_reducible apply Keeps.ite | with_reducible apply Keeps.foldl
                | with_reducible apply Keeps.ite_fst | with_reducible apply Keeps.foldl_fst | split | dsimp only | (intro _; rfl) | (intro _; intros)

theorem execOvercurrentTrip_keeps {σ s : State} (dt : Nat) (o : Nat) (m : Sys2Proof.Machine.Meas) (hσ : Keeps σ (s.tick dt)) : AKeeps σ
    (execOvercurrentTrip dt o m s) := by
  unfold execOvercurrentTrip
  refine ⟨_, rfl, ?_⟩
  repeat' first | with_reducible assumption | with_reducible apply State.measure_keeps | with_reducible apply State.done_keeps
                | with_reducible apply State.chTrip_keeps | with_reducible apply Keeps.ite | with_reducible apply Keeps.foldl
                | with_reducible apply Keeps.ite_fst | with_reducible apply Keeps.foldl_fst | split | dsimp only | (intro _; rfl) | (intro _; intros)

theorem execShortTrip_keeps {σ s : State} (dt : Nat) (o : Nat) (m : Sys2Proof.Machine.Meas) (hσ : Keeps σ (s.tick dt)) : AKeeps σ
    (execShortTrip dt o m s) := by
  unfold execShortTrip
  refine ⟨_, rfl, ?_⟩
  repeat' first | with_reducible assumption | with_reducible apply State.measure_keeps | with_reducible apply State.done_keeps
                | with_reducible apply State.chTrip_keeps | with_reducible apply Keeps.ite | with_reducible apply Keeps.foldl
                | with_reducible apply Keeps.ite_fst | with_reducible apply Keeps.foldl_fst | split | dsimp only | (intro _; rfl) | (intro _; intros)

theorem execClampEventEnd_keeps {σ s : State} (dt : Nat) (o : Nat) (e : Nat) (hσ : Keeps σ (s.tick dt)) : AKeeps σ (execClampEventEnd dt o e s) := by
  unfold execClampEventEnd
  refine ⟨_, rfl, ?_⟩
  repeat' first | with_reducible assumption | with_reducible apply State.done_keeps | with_reducible apply State.addClamp_keeps
                | with_reducible apply State.chTrip_keeps | with_reducible apply State.svTrip_keeps | with_reducible apply Keeps.ite
                | with_reducible apply Keeps.foldl | with_reducible apply Keeps.ite_fst | with_reducible apply Keeps.foldl_fst | split | dsimp only
                | (intro _; rfl) | (intro _; intros)

theorem execReverseCurrent_keeps {σ s : State} (dt : Nat) (o : Nat) (m : Sys2Proof.Machine.Meas) (hσ : Keeps σ (s.tick dt)) : AKeeps σ
    (execReverseCurrent dt o m s) := by
  unfold execReverseCurrent
  refine ⟨_, rfl, ?_⟩
  repeat' first | with_reducible assumption | with_reducible apply State.done_keeps | with_reducible apply State.objEvent_keeps
                | with_reducible apply State.wr_keeps | with_reducible apply State.measure_keeps | with_reducible apply Keeps.ite
                | with_reducible apply Keeps.foldl | with_reducible apply Keeps.ite_fst | with_reducible apply Keeps.foldl_fst | split | dsimp only
                | (intro _; rfl) | (intro _; intros)

theorem execReverseReclose_keeps {σ s : State} (dt : Nat) (o : Sys2Proof.Machine.Seen) (hσ : Keeps σ (s.tick dt)) : AKeeps σ
    (execReverseReclose dt o s) := by
  unfold execReverseReclose
  refine ⟨_, rfl, ?_⟩
  repeat' first | with_reducible assumption | with_reducible apply State.done_keeps | with_reducible apply State.wr_keeps
                | with_reducible apply Keeps.ite | with_reducible apply Keeps.foldl | with_reducible apply Keeps.ite_fst
                | with_reducible apply Keeps.foldl_fst | split | dsimp only | (intro _; rfl) | (intro _; intros)

theorem execThermalTrip_keeps {σ s : State} (dt : Nat) (o : Nat) (m : Sys2Proof.Machine.Meas) (hσ : Keeps σ (s.tick dt)) : AKeeps σ
    (execThermalTrip dt o m s) := by
  unfold execThermalTrip
  refine ⟨_, rfl, ?_⟩
  repeat' first | with_reducible assumption | with_reducible apply State.done_keeps | with_reducible apply State.chThermal_keeps
                | with_reducible apply State.measure_keeps | with_reducible apply Keeps.ite | with_reducible apply Keeps.foldl
                | with_reducible apply Keeps.ite_fst | with_reducible apply Keeps.foldl_fst | split | dsimp only | (intro _; rfl) | (intro _; intros)

theorem execDeltaTTrip_keeps {σ s : State} (dt : Nat) (o : Nat) (m : Sys2Proof.Machine.Meas) (hσ : Keeps σ (s.tick dt)) : AKeeps σ
    (execDeltaTTrip dt o m s) := by
  unfold execDeltaTTrip
  refine ⟨_, rfl, ?_⟩
  repeat' first | with_reducible assumption | with_reducible apply State.done_keeps | with_reducible apply State.chTrip_keeps
                | with_reducible apply State.measure_keeps | with_reducible apply Keeps.ite | with_reducible apply Keeps.foldl
                | with_reducible apply Keeps.ite_fst | with_reducible apply Keeps.foldl_fst | split | dsimp only | (intro _; rfl) | (intro _; intros)

theorem execThermalRestart_keeps {σ s : State} (dt : Nat) (o : Nat) (m : Sys2Proof.Machine.Meas) (hσ : Keeps σ (s.tick dt)) : AKeeps σ
    (execThermalRestart dt o m s) := by
  unfold execThermalRestart
  refine ⟨_, rfl, ?_⟩
  repeat' first | with_reducible assumption | with_reducible apply State.measure_keeps | with_reducible apply State.done_keeps
                | with_reducible apply State.submitOwn_keeps | with_reducible apply Keeps.ite | with_reducible apply Keeps.foldl
                | with_reducible apply Keeps.ite_fst | with_reducible apply Keeps.foldl_fst | split | dsimp only | (intro _; rfl) | (intro _; intros)

theorem State.chStates_keeps {σ s : State} (i : Nat) (v : Nat) (hσ : Keeps σ s) : Keeps σ (State.chStates s i v) := by
  unfold State.chStates
  repeat' first | with_reducible assumption | with_reducible apply State.setSt_keeps | with_reducible apply Keeps.ite
                | with_reducible apply Keeps.foldl | with_reducible apply Keeps.ite_fst | with_reducible apply Keeps.foldl_fst | split | dsimp only
                | (intro _; rfl) | (intro _; intros)

theorem execInrushDwellExpiry_keeps {σ s : State} (dt : Nat) (o : Nat) (m : Sys2Proof.Machine.Meas) (hσ : Keeps σ (s.tick dt)) : AKeeps σ
    (execInrushDwellExpiry dt o m s) := by
  unfold execInrushDwellExpiry
  refine ⟨_, rfl, ?_⟩
  repeat' first | with_reducible assumption | with_reducible apply State.measure_keeps | with_reducible apply State.done_keeps
                | with_reducible apply State.wr_keeps | with_reducible apply State.chStates_keeps | with_reducible apply State.modObj_keeps
                | with_reducible apply State.chTrip_keeps | with_reducible apply Keeps.ite | with_reducible apply Keeps.foldl
                | with_reducible apply Keeps.ite_fst | with_reducible apply Keeps.foldl_fst | split | dsimp only | (intro _; rfl) | (intro _; intros)

theorem execInrushOffEnd_keeps {σ s : State} (dt : Nat) (o : Nat) (hσ : Keeps σ (s.tick dt)) : AKeeps σ (execInrushOffEnd dt o s) := by
  unfold execInrushOffEnd
  refine ⟨_, rfl, ?_⟩
  repeat' first | with_reducible assumption | with_reducible apply State.done_keeps | with_reducible apply State.modObj_keeps
                | with_reducible apply State.chStates_keeps | with_reducible apply Keeps.ite | with_reducible apply Keeps.foldl
                | with_reducible apply Keeps.ite_fst | with_reducible apply Keeps.foldl_fst | split | dsimp only | (intro _; rfl) | (intro _; intros)

theorem execInrushEnd_keeps {σ s : State} (dt : Nat) (o : Nat) (lim : Nat) (m : Sys2Proof.Machine.Meas) (hσ : Keeps σ (s.tick dt)) : AKeeps σ
    (execInrushEnd dt o lim m s) := by
  unfold execInrushEnd
  refine ⟨_, rfl, ?_⟩
  repeat' first | with_reducible assumption | with_reducible apply State.done_keeps | with_reducible apply State.measure_keeps
                | with_reducible apply State.chStates_keeps | with_reducible apply State.wr_keeps | with_reducible apply State.modObj_keeps
                | with_reducible apply State.cmdDone_keeps | with_reducible apply State.endTransient_keeps | with_reducible apply State.raise_keeps
                | with_reducible apply Keeps.ite | with_reducible apply Keeps.foldl | with_reducible apply Keeps.ite_fst
                | with_reducible apply Keeps.foldl_fst | split | dsimp only | (intro _; rfl) | (intro _; intros)

theorem execInrushTimeout_keeps {σ s : State} (dt : Nat) (o : Nat) (m : Sys2Proof.Machine.Meas) (hσ : Keeps σ (s.tick dt)) : AKeeps σ
    (execInrushTimeout dt o m s) := by
  unfold execInrushTimeout
  refine ⟨_, rfl, ?_⟩
  repeat' first | with_reducible assumption | with_reducible apply State.done_keeps | with_reducible apply State.chTrip_keeps
                | with_reducible apply State.measure_keeps | with_reducible apply Keeps.ite | with_reducible apply Keeps.foldl
                | with_reducible apply Keeps.ite_fst | with_reducible apply Keeps.foldl_fst | split | dsimp only | (intro _; rfl) | (intro _; intros)

theorem execSagSet_keeps {σ s : State} (dt : Nat) (g : Sys2Proof.Machine.Seen) (hσ : Keeps σ (s.tick dt)) : AKeeps σ (execSagSet dt g s) := by
  unfold execSagSet
  refine ⟨_, rfl, ?_⟩
  repeat' first | with_reducible assumption | with_reducible apply State.done_keeps | with_reducible apply State.setGroup_keeps
                | with_reducible apply State.bump_keeps | with_reducible apply State.wr_keeps | with_reducible apply Keeps.ite
                | with_reducible apply Keeps.foldl | with_reducible apply Keeps.ite_fst | with_reducible apply Keeps.foldl_fst | split | dsimp only
                | (intro _; rfl) | (intro _; intros)

theorem execSagClear_keeps {σ s : State} (dt : Nat) (g : Sys2Proof.Machine.Seen) (hσ : Keeps σ (s.tick dt)) : AKeeps σ (execSagClear dt g s) := by
  unfold execSagClear
  refine ⟨_, rfl, ?_⟩
  repeat' first | with_reducible assumption | with_reducible apply State.done_keeps | with_reducible apply State.setGroup_keeps
                | with_reducible apply State.wr_keeps | with_reducible apply Keeps.ite | with_reducible apply Keeps.foldl
                | with_reducible apply Keeps.ite_fst | with_reducible apply Keeps.foldl_fst | split | dsimp only | (intro _; rfl) | (intro _; intros)

theorem State.absentNow_keeps {σ s : State} (o : Nat) (need : Nat) (hσ : Keeps σ s) : Keeps σ (State.absentNow s o need) := by
  unfold State.absentNow
  repeat' first | with_reducible assumption | with_reducible apply State.modObj_keeps | with_reducible apply State.judged_keeps
                | with_reducible apply Keeps.ite | with_reducible apply Keeps.foldl | with_reducible apply Keeps.ite_fst
                | with_reducible apply Keeps.foldl_fst | split | dsimp only | (intro _; rfl) | (intro _; intros)

theorem State.presentNow_keeps {σ s : State} (o : Nat) (hσ : Keeps σ s) : Keeps σ (State.presentNow s o) := by
  unfold State.presentNow
  repeat' first | with_reducible assumption | with_reducible apply State.judged_keeps | with_reducible apply State.modObj_keeps
                | with_reducible apply Keeps.ite | with_reducible apply Keeps.foldl | with_reducible apply Keeps.ite_fst
                | with_reducible apply Keeps.foldl_fst | split | dsimp only | (intro _; rfl) | (intro _; intros)

theorem State.chSample_keeps {σ s : State} (o : Nat) (a : Nat) (hσ : Keeps σ s) : Keeps σ (State.chSample s o a) := by
  unfold State.chSample
  repeat' first | with_reducible assumption | with_reducible apply State.took_keeps | with_reducible apply State.wr_keeps
                | with_reducible apply State.judged_keeps | with_reducible apply State.presentNow_keeps | with_reducible apply State.modObj_keeps
                | with_reducible apply State.absentNow_keeps | with_reducible apply State.setVerdict_keeps | with_reducible apply Keeps.ite
                | with_reducible apply Keeps.foldl | with_reducible apply Keeps.ite_fst | with_reducible apply Keeps.foldl_fst | split | dsimp only
                | (intro _; rfl) | (intro _; intros)

theorem State.svSample_keeps {σ s : State} (o : Nat) (a : Nat) (hσ : Keeps σ s) : Keeps σ (State.svSample s o a) := by
  unfold State.svSample
  repeat' first | with_reducible assumption | with_reducible apply State.took_keeps | with_reducible apply State.wr_keeps
                | with_reducible apply State.presentNow_keeps | with_reducible apply Keeps.ite | with_reducible apply Keeps.foldl
                | with_reducible apply Keeps.ite_fst | with_reducible apply Keeps.foldl_fst | split | dsimp only | (intro _; rfl) | (intro _; intros)

theorem State.hbSample_keeps {σ s : State} (o : Nat) (a : Nat) (hσ : Keeps σ s) : Keeps σ (State.hbSample s o a) := by
  unfold State.hbSample
  repeat' first | with_reducible assumption | with_reducible apply State.presentNow_keeps | with_reducible apply State.took_keeps
                | with_reducible apply Keeps.ite | with_reducible apply Keeps.foldl | with_reducible apply Keeps.ite_fst
                | with_reducible apply Keeps.foldl_fst | split | dsimp only | (intro _; rfl) | (intro _; intros)

theorem State.ioSample_keeps {σ s : State} (o : Nat) (a : Nat) (hσ : Keeps σ s) : Keeps σ (State.ioSample s o a) := by
  unfold State.ioSample
  repeat' first | with_reducible assumption | with_reducible apply State.took_keeps | with_reducible apply State.wr_keeps
                | with_reducible apply State.presentNow_keeps | with_reducible apply State.absentNow_keeps | with_reducible apply Keeps.ite
                | with_reducible apply Keeps.foldl | with_reducible apply Keeps.ite_fst | with_reducible apply Keeps.foldl_fst | split | dsimp only
                | (intro _; rfl) | (intro _; intros)

theorem execDiagOnSample_keeps {σ s : State} (dt : Nat) (o : Nat) (a : Nat) (hσ : Keeps σ (s.tick dt)) : AKeeps σ (execDiagOnSample dt o a s) := by
  unfold execDiagOnSample
  refine ⟨_, rfl, ?_⟩
  repeat' first | with_reducible assumption | with_reducible apply State.done_keeps | with_reducible apply State.chSample_keeps
                | with_reducible apply State.svSample_keeps | with_reducible apply State.hbSample_keeps | with_reducible apply State.ioSample_keeps
                | with_reducible apply Keeps.ite | with_reducible apply Keeps.foldl | with_reducible apply Keeps.ite_fst
                | with_reducible apply Keeps.foldl_fst | split | dsimp only | (intro _; rfl) | (intro _; intros)

theorem execOverloadDetect_keeps {σ s : State} (dt : Nat) (o : Nat) (a : Sys2Proof.Machine.Lasting) (hσ : Keeps σ (s.tick dt)) : AKeeps σ
    (execOverloadDetect dt o a s) := by
  unfold execOverloadDetect
  refine ⟨_, rfl, ?_⟩
  repeat' first | with_reducible assumption | with_reducible apply State.done_keeps | with_reducible apply State.judged_keeps
                | with_reducible apply State.took_keeps | with_reducible apply State.wr_keeps | with_reducible apply Keeps.ite
                | with_reducible apply Keeps.foldl | with_reducible apply Keeps.ite_fst | with_reducible apply Keeps.foldl_fst | split | dsimp only
                | (intro _; rfl) | (intro _; intros)

theorem execOffStateTest_keeps {σ s : State} (dt : Nat) (o : Nat) (v0 : Nat) (v1 : Sys2Proof.Machine.OffSeen) (hσ : Keeps σ (s.tick dt)) : AKeeps σ
    (execOffStateTest dt o v0 v1 s) := by
  unfold execOffStateTest
  refine ⟨_, rfl, ?_⟩
  repeat' first | with_reducible assumption | with_reducible apply State.done_keeps | with_reducible apply State.modObj_keeps
                | with_reducible apply State.wr_keeps | with_reducible apply State.judged_keeps | with_reducible apply State.absentNow_keeps
                | with_reducible apply State.presentNow_keeps | with_reducible apply Keeps.ite | with_reducible apply Keeps.foldl
                | with_reducible apply Keeps.ite_fst | with_reducible apply Keeps.foldl_fst | split | dsimp only | (intro _; rfl) | (intro _; intros)

theorem execVerdictStale_keeps {σ s : State} (dt : Nat) (o : Nat) (hσ : Keeps σ (s.tick dt)) : AKeeps σ (execVerdictStale dt o s) := by
  unfold execVerdictStale
  refine ⟨_, rfl, ?_⟩
  repeat' first | with_reducible assumption | with_reducible apply State.done_keeps | with_reducible apply State.mxJudge_keeps
                | with_reducible apply State.setVerdict_keeps | with_reducible apply Keeps.ite | with_reducible apply Keeps.foldl
                | with_reducible apply Keeps.ite_fst | with_reducible apply Keeps.foldl_fst | split | dsimp only | (intro _; rfl) | (intro _; intros)

theorem execDiagCheckTimeout_keeps {σ s : State} (dt : Nat) (o : Nat) (hσ : Keeps σ (s.tick dt)) : AKeeps σ (execDiagCheckTimeout dt o s) := by
  unfold execDiagCheckTimeout
  refine ⟨_, rfl, ?_⟩
  repeat' first | with_reducible assumption | with_reducible apply State.done_keeps | with_reducible apply State.complete_keeps
                | with_reducible apply State.modObj_keeps | with_reducible apply Keeps.ite | with_reducible apply Keeps.foldl
                | with_reducible apply Keeps.ite_fst | with_reducible apply Keeps.foldl_fst | split | dsimp only | (intro _; rfl) | (intro _; intros)

theorem State.lowerIlim_keeps {σ s : State} (o : Nat) (f : Sys2Proof.Machine.Field) (hσ : Keeps σ s) : Keeps σ (State.lowerIlim s o f) := by
  unfold State.lowerIlim
  repeat' first | with_reducible assumption | with_reducible apply State.logClamp_keeps | with_reducible apply State.wr_keeps
                | with_reducible apply Keeps.ite | with_reducible apply Keeps.foldl | with_reducible apply Keeps.ite_fst
                | with_reducible apply Keeps.foldl_fst | split | dsimp only | (intro _; rfl) | (intro _; intros)

theorem State.showDrift_keeps {σ s : State} (o : Nat) (hσ : Keeps σ s) : Keeps σ (State.showDrift s o) := by
  unfold State.showDrift
  repeat' first | with_reducible assumption | with_reducible apply State.wr_keeps | with_reducible apply Keeps.ite | with_reducible apply Keeps.foldl
                | with_reducible apply Keeps.ite_fst | with_reducible apply Keeps.foldl_fst | split | dsimp only | (intro _; rfl) | (intro _; intros)

theorem State.retireSeg_keeps {σ s : State} (o : Nat) (seg : Nat) (reason : Nat) (hσ : Keeps σ s) : Keeps σ (State.retireSeg s o seg reason) := by
  unfold State.retireSeg
  repeat' first | with_reducible assumption | with_reducible apply State.modObj_keeps | with_reducible apply State.wr_keeps
                | with_reducible apply State.showDrift_keeps | with_reducible apply State.objEvent_keeps | with_reducible apply State.bump_keeps
                | with_reducible apply State.retire_keeps | with_reducible apply State.lowerIlim_keeps | with_reducible apply Keeps.ite
                | with_reducible apply Keeps.foldl | with_reducible apply Keeps.ite_fst | with_reducible apply Keeps.foldl_fst | split | dsimp only
                | (intro _; rfl) | (intro _; intros)

theorem execSegmentMeasure_keeps {σ s : State} (dt : Nat) (o : Nat) (ds : Sys2Proof.Machine.SegSeen) (hσ : Keeps σ (s.tick dt)) : AKeeps σ
    (execSegmentMeasure dt o ds s) := by
  unfold execSegmentMeasure
  refine ⟨_, rfl, ?_⟩
  repeat' first | with_reducible assumption | with_reducible apply State.done_keeps | with_reducible apply State.measure_keeps
                | with_reducible apply State.modObj_keeps | with_reducible apply State.showDrift_keeps | with_reducible apply State.retireSeg_keeps
                | with_reducible apply Keeps.ite | with_reducible apply Keeps.foldl | with_reducible apply Keeps.ite_fst
                | with_reducible apply Keeps.foldl_fst | split | dsimp only | (intro _; rfl) | (intro _; intros)

theorem execSegmentFault_keeps {σ s : State} (dt : Nat) (o : Nat) (seg : Nat) (hσ : Keeps σ (s.tick dt)) : AKeeps σ
    (execSegmentFault dt o seg s) := by
  unfold execSegmentFault
  refine ⟨_, rfl, ?_⟩
  repeat' first | with_reducible assumption | with_reducible apply State.done_keeps | with_reducible apply State.retireSeg_keeps
                | with_reducible apply Keeps.ite | with_reducible apply Keeps.foldl | with_reducible apply Keeps.ite_fst
                | with_reducible apply Keeps.foldl_fst | split | dsimp only | (intro _; rfl) | (intro _; intros)

theorem State.serveWaiting_keeps {σ s : State} (d : Sys2Proof.Machine.Demand) (vd : Nat) (hσ : Keeps σ s) : Keeps σ (State.serveWaiting s d vd) := by
  unfold State.serveWaiting
  repeat' first | with_reducible assumption | with_reducible apply State.modObj_keeps | with_reducible apply State.unwait_keeps
                | with_reducible apply State.refuse_keeps | with_reducible apply State.arbLog_keeps | with_reducible apply State.arbServe_keeps
                | with_reducible apply State.noteVd_keeps | with_reducible apply Keeps.ite | with_reducible apply Keeps.foldl
                | with_reducible apply Keeps.ite_fst | with_reducible apply Keeps.foldl_fst | split | dsimp only | (intro _; rfl) | (intro _; intros)

theorem State.endDue_keeps {σ s : State} (hσ : Keeps σ s) : Keeps σ (State.endDue s) := by
  unfold State.endDue
  repeat' first | with_reducible assumption | with_reducible apply State.endTransient_keeps | with_reducible apply Keeps.ite
                | with_reducible apply Keeps.foldl | with_reducible apply Keeps.ite_fst | with_reducible apply Keeps.foldl_fst | split | dsimp only
                | (intro _; rfl) | (intro _; intros)

theorem execDemandServed_keeps {σ s : State} (dt : Nat) (vd : Nat) (hσ : Keeps σ (s.tick dt)) : AKeeps σ (execDemandServed dt vd s) := by
  unfold execDemandServed
  refine ⟨_, rfl, ?_⟩
  repeat' first | with_reducible assumption | with_reducible apply State.endDue_keeps | with_reducible apply State.done_keeps
                | with_reducible apply State.serveWaiting_keeps | with_reducible apply Keeps.ite | with_reducible apply Keeps.foldl
                | with_reducible apply Keeps.ite_fst | with_reducible apply Keeps.foldl_fst | split | dsimp only | (intro _; rfl) | (intro _; intros)

theorem execDemandLatencyExpiry_keeps {σ s : State} (dt : Nat) (o : Nat) (hσ : Keeps σ (s.tick dt)) : AKeeps σ (execDemandLatencyExpiry dt o s) := by
  unfold execDemandLatencyExpiry
  refine ⟨_, rfl, ?_⟩
  repeat' first | with_reducible assumption | with_reducible apply State.done_keeps | with_reducible apply State.unwait_keeps
                | with_reducible apply State.refuse_keeps | with_reducible apply Keeps.ite | with_reducible apply Keeps.foldl
                | with_reducible apply Keeps.ite_fst | with_reducible apply Keeps.foldl_fst | split | dsimp only | (intro _; rfl) | (intro _; intros)

theorem State.warn_keeps {σ s : State} (b : Nat) (hσ : Keeps σ s) : Keeps σ (State.warn s b) := by
  unfold State.warn
  repeat' first | with_reducible assumption | with_reducible apply State.raise_keeps | with_reducible apply Keeps.ite
                | with_reducible apply Keeps.foldl | with_reducible apply Keeps.ite_fst | with_reducible apply Keeps.foldl_fst | split | dsimp only
                | (intro _; rfl) | (intro _; intros) | (refine Keeps.same (by rfl) (by rfl) (by rfl) (by rfl) ?_)

theorem execBudgetShed_keeps {σ s : State} (dt : Nat) (hσ : Keeps σ (s.tick dt)) : AKeeps σ (execBudgetShed dt s) := by
  unfold execBudgetShed
  refine ⟨_, rfl, ?_⟩
  repeat' first | with_reducible assumption | with_reducible apply State.endDue_keeps | with_reducible apply State.warn_keeps
                | with_reducible apply State.done_keeps | with_reducible apply State.shed_keeps | with_reducible apply Keeps.ite
                | with_reducible apply Keeps.foldl | with_reducible apply Keeps.ite_fst | with_reducible apply Keeps.foldl_fst | split | dsimp only
                | (intro _; rfl) | (intro _; intros)

theorem State.sampleLoad_keeps {σ s : State} (a : Sys2Proof.Machine.LoadSeen) (hσ : Keeps σ s) : Keeps σ (State.sampleLoad s a) := by
  unfold State.sampleLoad
  repeat' first | with_reducible assumption | with_reducible apply State.sampled_keeps | with_reducible apply Keeps.ite
                | with_reducible apply Keeps.foldl | with_reducible apply Keeps.ite_fst | with_reducible apply Keeps.foldl_fst | split | dsimp only
                | (intro _; rfl) | (intro _; intros)

theorem State.renewOne_keeps {σ s : State} (a : Sys2Proof.Machine.LoadSeen) (hσ : Keeps σ s) : Keeps σ (State.renewOne s a) := by
  unfold State.renewOne
  repeat' first | with_reducible assumption | with_reducible apply State.sampleLoad_keeps | with_reducible apply State.setLoad_keeps
                | with_reducible apply Keeps.ite | with_reducible apply Keeps.foldl | with_reducible apply Keeps.ite_fst
                | with_reducible apply Keeps.foldl_fst | split | dsimp only | (intro _; rfl) | (intro _; intros)

theorem State.setVolt_keeps {σ s : State} (g : Nat) (v : Nat) (hσ : Keeps σ s) : Keeps σ (State.setVolt s g v) := by
  unfold State.setVolt
  repeat' first | with_reducible assumption | with_reducible apply State.sampled_keeps | with_reducible apply State.wr_keeps
                | with_reducible apply State.setGroup_keeps | with_reducible apply Keeps.ite | with_reducible apply Keeps.foldl
                | with_reducible apply Keeps.ite_fst | with_reducible apply Keeps.foldl_fst | split | dsimp only | (intro _; rfl) | (intro _; intros)

theorem State.globals_keeps {σ s : State} (x : Sys2Proof.Machine.Sample) (hσ : Keeps σ s) : Keeps σ (State.globals s x) := by
  unfold State.globals
  repeat' first | with_reducible assumption | with_reducible apply State.measure_keeps | with_reducible apply State.setVolt_keeps
                | with_reducible apply State.sampled_keeps | with_reducible apply State.wr_keeps | with_reducible apply State.modValve_keeps
                | with_reducible apply State.showDie_keeps | with_reducible apply Keeps.ite | with_reducible apply Keeps.foldl
                | with_reducible apply Keeps.ite_fst | with_reducible apply Keeps.foldl_fst | split | dsimp only | (intro _; rfl) | (intro _; intros)
                | (refine Keeps.same (by rfl) (by rfl) (by rfl) (by rfl) ?_)

theorem State.cancelSlots_keeps {σ s : State} (g : Nat) (level : Nat) (hσ : Keeps σ s) : Keeps σ (State.cancelSlots s g level) := by
  unfold State.cancelSlots
  repeat' first | with_reducible assumption | with_reducible apply State.setGroup_keeps | with_reducible apply Keeps.ite
                | with_reducible apply Keeps.foldl | with_reducible apply Keeps.ite_fst | with_reducible apply Keeps.foldl_fst | split | dsimp only
                | (intro _; rfl) | (intro _; intros)

theorem State.cutGroup_keeps {σ s : State} (g : Nat) (level : Nat) (quiet : Bool) (hσ : Keeps σ s) : Keeps σ (State.cutGroup s g level quiet) := by
  unfold State.cutGroup
  repeat' first | with_reducible assumption | with_reducible apply State.cancelSlots_keeps | with_reducible apply State.setCut_keeps
                | with_reducible apply State.bump_keeps | with_reducible apply State.cutObj_keeps | with_reducible apply State.grpEvent_keeps
                | with_reducible apply Keeps.ite | with_reducible apply Keeps.foldl | with_reducible apply Keeps.ite_fst
                | with_reducible apply Keeps.foldl_fst | split | dsimp only | (intro _; rfl) | (intro _; intros)

theorem execGroupCut_keeps {σ s : State} (dt : Nat) (g : Nat) (level : Nat) (volt : Nat) (hσ : Keeps σ (s.tick dt)) : AKeeps σ
    (execGroupCut dt g level volt s) := by
  unfold execGroupCut
  refine ⟨_, rfl, ?_⟩
  repeat' first | with_reducible assumption | with_reducible apply State.done_keeps | with_reducible apply State.cutGroup_keeps
                | with_reducible apply State.setVolt_keeps | with_reducible apply Keeps.ite | with_reducible apply Keeps.foldl
                | with_reducible apply Keeps.ite_fst | with_reducible apply Keeps.foldl_fst | split | dsimp only | (intro _; rfl) | (intro _; intros)

theorem execCutRelease_keeps {σ s : State} (dt : Nat) (g : Nat) (level : Nat) (volt : Nat) (hσ : Keeps σ (s.tick dt)) : AKeeps σ
    (execCutRelease dt g level volt s) := by
  unfold execCutRelease
  refine ⟨_, rfl, ?_⟩
  repeat' first | with_reducible assumption | with_reducible apply State.done_keeps | with_reducible apply State.setCut_keeps
                | with_reducible apply State.setVolt_keeps | with_reducible apply State.setGroup_keeps | with_reducible apply Keeps.ite
                | with_reducible apply Keeps.foldl | with_reducible apply Keeps.ite_fst | with_reducible apply Keeps.foldl_fst | split | dsimp only
                | (intro _; rfl) | (intro _; intros)

theorem State.runSlot_keeps {σ s : State} (g : Nat) (c : Nat) (cause : Sys2Proof.Machine.Cause) (kind : Sys2Proof.Machine.DKind) (hσ : Keeps σ s) :
    Keeps σ (State.runSlot s g c cause kind) := by
  unfold State.runSlot
  repeat' first | with_reducible assumption | with_reducible apply State.grpEvent_keeps | with_reducible apply State.restart_keeps
                | with_reducible apply Keeps.ite | with_reducible apply Keeps.foldl | with_reducible apply Keeps.ite_fst
                | with_reducible apply Keeps.foldl_fst | split | dsimp only | (intro _; rfl) | (intro _; intros)

theorem execRestartSlot_keeps {σ s : State} (dt : Nat) (g : Nat) (c : Nat) (hσ : Keeps σ (s.tick dt)) : AKeeps σ (execRestartSlot dt g c s) := by
  unfold execRestartSlot
  refine ⟨_, rfl, ?_⟩
  repeat' first | with_reducible assumption | with_reducible apply State.done_keeps | with_reducible apply State.runSlot_keeps
                | with_reducible apply State.setGroup_keeps | with_reducible apply Keeps.ite | with_reducible apply Keeps.foldl
                | with_reducible apply Keeps.ite_fst | with_reducible apply Keeps.foldl_fst | split | dsimp only | (intro _; rfl) | (intro _; intros)

theorem execSlotCancel_keeps {σ s : State} (dt : Nat) (g : Nat) (level : Nat) (volt : Nat) (hσ : Keeps σ (s.tick dt)) : AKeeps σ
    (execSlotCancel dt g level volt s) := by
  unfold execSlotCancel
  refine ⟨_, rfl, ?_⟩
  repeat' first | with_reducible assumption | with_reducible apply State.done_keeps | with_reducible apply State.cutGroup_keeps
                | with_reducible apply State.setVolt_keeps | with_reducible apply Keeps.ite | with_reducible apply Keeps.foldl
                | with_reducible apply Keeps.ite_fst | with_reducible apply Keeps.foldl_fst | split | dsimp only | (intro _; rfl) | (intro _; intros)

theorem execDimUpdate_keeps {σ s : State} (dt : Nat) (g : Nat) (volt : Nat) (hσ : Keeps σ (s.tick dt)) : AKeeps σ (execDimUpdate dt g volt s) := by
  unfold execDimUpdate
  refine ⟨_, rfl, ?_⟩
  repeat' first | with_reducible assumption | with_reducible apply State.done_keeps | with_reducible apply State.setVolt_keeps
                | with_reducible apply State.setGroup_keeps | with_reducible apply State.wr_keeps | with_reducible apply State.raise_keeps
                | with_reducible apply Keeps.ite | with_reducible apply Keeps.foldl | with_reducible apply Keeps.ite_fst
                | with_reducible apply Keeps.foldl_fst | split | dsimp only | (intro _; rfl) | (intro _; intros)

theorem execPowerDieServe_keeps {σ s : State} (dt : Nat) (g : Nat) (vd : Nat) (hσ : Keeps σ (s.tick dt)) : AKeeps σ
    (execPowerDieServe dt g vd s) := by
  unfold execPowerDieServe
  refine ⟨_, rfl, ?_⟩
  repeat' first | with_reducible assumption | with_reducible apply State.done_keeps | with_reducible apply State.dieServe_keeps
                | with_reducible apply State.noteVd_keeps | with_reducible apply State.modObj_keeps | with_reducible apply State.unwait_keeps
                | with_reducible apply Keeps.ite | with_reducible apply Keeps.foldl | with_reducible apply Keeps.ite_fst
                | with_reducible apply Keeps.foldl_fst | split | dsimp only | (intro _; rfl) | (intro _; intros)

theorem State.flagBit_keeps {σ s : State} (f : Sys2Proof.Machine.Field) (i : Nat) (b : Nat) (w : Nat) (off : Nat) (hσ : Keeps σ s) : Keeps σ
    (State.flagBit s f i b w off) := by
  unfold State.flagBit
  repeat' first | with_reducible assumption | with_reducible apply State.raiseFault_keeps | with_reducible apply State.wr_keeps
                | with_reducible apply Keeps.ite | with_reducible apply Keeps.foldl | with_reducible apply Keeps.ite_fst
                | with_reducible apply Keeps.foldl_fst | split | dsimp only | (intro _; rfl) | (intro _; intros)

theorem State.netDeclared_keeps {σ s : State} (hσ : Keeps σ s) : Keeps σ (State.netDeclared s) := by
  unfold State.netDeclared
  repeat' first | with_reducible assumption | with_reducible apply State.wr_keeps | with_reducible apply Keeps.ite | with_reducible apply Keeps.foldl
                | with_reducible apply Keeps.ite_fst | with_reducible apply Keeps.foldl_fst | split | dsimp only | (intro _; rfl) | (intro _; intros)

theorem State.dropDeferred_keeps {σ s : State} (g : Nat) (hσ : Keeps σ s) : Keeps σ (State.dropDeferred s g) := by
  unfold State.dropDeferred
  repeat' first | with_reducible assumption | with_reducible apply State.unwait_keeps | with_reducible apply State.arbLog_keeps
                | with_reducible apply State.complete_keeps | with_reducible apply Keeps.ite | with_reducible apply Keeps.foldl
                | with_reducible apply Keeps.ite_fst | with_reducible apply Keeps.foldl_fst | split | dsimp only | (intro _; rfl) | (intro _; intros)

theorem State.inrushHold_keeps {σ s : State} (g : Nat) (hold : Bool) (hσ : Keeps σ s) : Keeps σ (State.inrushHold s g hold) := by
  unfold State.inrushHold
  repeat' first | with_reducible assumption | with_reducible apply State.modObj_keeps | with_reducible apply Keeps.ite
                | with_reducible apply Keeps.foldl | with_reducible apply Keeps.ite_fst | with_reducible apply Keeps.foldl_fst | split | dsimp only
                | (intro _; rfl) | (intro _; intros)

theorem execOvFreeze_keeps {σ s : State} (dt : Nat) (g : Nat) (volt : Nat) (hσ : Keeps σ (s.tick dt)) : AKeeps σ (execOvFreeze dt g volt s) := by
  unfold execOvFreeze
  refine ⟨_, rfl, ?_⟩
  repeat' first | with_reducible assumption | with_reducible apply State.done_keeps | with_reducible apply State.wr_keeps
                | with_reducible apply State.setVolt_keeps | with_reducible apply State.bump_keeps | with_reducible apply State.setGroup_keeps
                | with_reducible apply State.dropDeferred_keeps | with_reducible apply State.inrushHold_keeps | with_reducible apply Keeps.ite
                | with_reducible apply Keeps.foldl | with_reducible apply Keeps.ite_fst | with_reducible apply Keeps.foldl_fst | split | dsimp only
                | (intro _; rfl) | (intro _; intros)

theorem State.afterFreeze_keeps {σ s : State} (r : Nat) (hσ : Keeps σ s) : Keeps σ (State.afterFreeze s r) := by
  unfold State.afterFreeze
  repeat' first | with_reducible assumption | with_reducible apply State.modLimp_keeps | with_reducible apply State.takeState_keeps
                | with_reducible apply State.orphanState_keeps | with_reducible apply Keeps.ite | with_reducible apply Keeps.foldl
                | with_reducible apply Keeps.ite_fst | with_reducible apply Keeps.foldl_fst | split | dsimp only | (intro _; rfl) | (intro _; intros)

theorem execOvRelease_keeps {σ s : State} (dt : Nat) (g : Nat) (volt : Nat) (hσ : Keeps σ (s.tick dt)) : AKeeps σ (execOvRelease dt g volt s) := by
  unfold execOvRelease
  refine ⟨_, rfl, ?_⟩
  repeat' first | with_reducible assumption | with_reducible apply State.done_keeps | with_reducible apply State.wr_keeps
                | with_reducible apply State.setVolt_keeps | with_reducible apply State.inrushHold_keeps
                | with_reducible apply State.afterFreeze_keeps | with_reducible apply Keeps.ite | with_reducible apply Keeps.foldl
                | with_reducible apply Keeps.ite_fst | with_reducible apply Keeps.foldl_fst | split | dsimp only | (intro _; rfl) | (intro _; intros)

theorem execOvSustained_keeps {σ s : State} (dt : Nat) (g : Nat) (hσ : Keeps σ (s.tick dt)) : AKeeps σ (execOvSustained dt g s) := by
  unfold execOvSustained
  refine ⟨_, rfl, ?_⟩
  repeat' first | with_reducible assumption | with_reducible apply State.done_keeps | with_reducible apply State.setGroup_keeps
                | with_reducible apply State.cutObj_keeps | with_reducible apply State.flagBit_keeps | with_reducible apply State.grpEvent_keeps
                | with_reducible apply Keeps.ite | with_reducible apply Keeps.foldl | with_reducible apply Keeps.ite_fst
                | with_reducible apply Keeps.foldl_fst | split | dsimp only | (intro _; rfl) | (intro _; intros)

theorem execOvSustainedRelease_keeps {σ s : State} (dt : Nat) (g : Nat) (hσ : Keeps σ (s.tick dt)) : AKeeps σ (execOvSustainedRelease dt g s) := by
  unfold execOvSustainedRelease
  refine ⟨_, rfl, ?_⟩
  repeat' first | with_reducible assumption | with_reducible apply State.done_keeps | with_reducible apply State.setGroup_keeps
                | with_reducible apply Keeps.ite | with_reducible apply Keeps.foldl | with_reducible apply Keeps.ite_fst
                | with_reducible apply Keeps.foldl_fst | split | dsimp only | (intro _; rfl) | (intro _; intros)

theorem execGroundOffset_keeps {σ s : State} (dt : Nat) (mv : Nat) (hσ : Keeps σ (s.tick dt)) : AKeeps σ (execGroundOffset dt mv s) := by
  unfold execGroundOffset
  refine ⟨_, rfl, ?_⟩
  repeat' first | with_reducible assumption | with_reducible apply State.done_keeps | with_reducible apply State.flagSet_keeps
                | with_reducible apply Keeps.ite | with_reducible apply Keeps.foldl | with_reducible apply Keeps.ite_fst
                | with_reducible apply Keeps.foldl_fst | split | dsimp only | (intro _; rfl) | (intro _; intros)
                | (refine Keeps.same (by rfl) (by rfl) (by rfl) (by rfl) ?_)

theorem execCaseOvertemp_keeps {σ s : State} (dt : Nat) (tc : Nat) (hσ : Keeps σ (s.tick dt)) : AKeeps σ (execCaseOvertemp dt tc s) := by
  unfold execCaseOvertemp
  refine ⟨_, rfl, ?_⟩
  repeat' first | with_reducible assumption | with_reducible apply State.wr_keeps | with_reducible apply State.done_keeps
                | with_reducible apply State.flagSet_keeps | with_reducible apply Keeps.ite | with_reducible apply Keeps.foldl
                | with_reducible apply Keeps.ite_fst | with_reducible apply Keeps.foldl_fst | split | dsimp only | (intro _; rfl) | (intro _; intros)

theorem State.paceStart_keeps {σ s : State} (v : Nat) (hσ : Keeps σ s) : Keeps σ (State.paceStart s v) := by
  unfold State.paceStart
  repeat' first | with_reducible assumption | with_reducible apply State.flagSet_keeps | with_reducible apply State.wr_keeps
                | with_reducible apply Keeps.ite | with_reducible apply Keeps.foldl | with_reducible apply Keeps.ite_fst
                | with_reducible apply Keeps.foldl_fst | split | dsimp only | (intro _; rfl) | (intro _; intros)
                | (refine Keeps.same (by rfl) (by rfl) (by rfl) (by rfl) ?_)

theorem State.paceRequest_keeps {σ s : State} (v : Nat) (hσ : Keeps σ s) : Keeps σ (State.paceRequest s v) := by
  unfold State.paceRequest
  repeat' first | with_reducible assumption | with_reducible apply State.wr_keeps | with_reducible apply State.paceStart_keeps
                | with_reducible apply Keeps.ite | with_reducible apply Keeps.foldl | with_reducible apply Keeps.ite_fst
                | with_reducible apply Keeps.foldl_fst | split | dsimp only | (intro _; rfl) | (intro _; intros)
                | (refine Keeps.same (by rfl) (by rfl) (by rfl) (by rfl) ?_)

theorem execPaceSettled_keeps {σ s : State} (dt : Nat) (hσ : Keeps σ (s.tick dt)) : AKeeps σ (execPaceSettled dt s) := by
  unfold execPaceSettled
  refine ⟨_, rfl, ?_⟩
  repeat' first | with_reducible assumption | with_reducible apply State.done_keeps | with_reducible apply State.bump_keeps
                | with_reducible apply State.wr_keeps | with_reducible apply State.paceStart_keeps | with_reducible apply Keeps.ite
                | with_reducible apply Keeps.foldl | with_reducible apply Keeps.ite_fst | with_reducible apply Keeps.foldl_fst | split | dsimp only
                | (intro _; rfl) | (intro _; intros) | (refine Keeps.same (by rfl) (by rfl) (by rfl) (by rfl) ?_)

theorem execFabricWindow_keeps {σ s : State} (dt : Nat) (rate : Nat) (pcie : Nat) (reed : Nat) (rest : Nat) (hσ : Keeps σ (s.tick dt)) : AKeeps σ
    (execFabricWindow dt rate pcie reed rest s) := by
  unfold execFabricWindow
  refine ⟨_, rfl, ?_⟩
  repeat' first | with_reducible assumption | with_reducible apply State.done_keeps | with_reducible apply State.wr_keeps
                | with_reducible apply State.bump_keeps | with_reducible apply State.flagSet_keeps | with_reducible apply Keeps.ite
                | with_reducible apply Keeps.foldl | with_reducible apply Keeps.ite_fst | with_reducible apply Keeps.foldl_fst | split | dsimp only
                | (intro _; rfl) | (intro _; intros) | (refine Keeps.same (by rfl) (by rfl) (by rfl) (by rfl) ?_)

theorem State.ldCmd_keeps {σ s : State} (c : Sys2Proof.Machine.Cmd) (on : Bool) (hσ : Keeps σ s) : Keeps σ (State.ldCmd s c on) := by
  unfold State.ldCmd
  repeat' first | with_reducible assumption | with_reducible apply State.orElse_keeps | with_reducible apply State.descClamp_keeps
                | with_reducible apply State.wr_keeps | with_reducible apply State.complete_keeps | with_reducible apply State.commanded_keeps
                | with_reducible apply State.begin_keeps | with_reducible apply State.submit_keeps | with_reducible apply State.ldChange_keeps
                | with_reducible apply Keeps.ite | with_reducible apply Keeps.foldl | with_reducible apply Keeps.ite_fst
                | with_reducible apply Keeps.foldl_fst | split | dsimp only | (intro _; rfl) | (intro _; intros)

theorem execLedOff_keeps {σ s : State} (dt : Nat) (c : Sys2Proof.Machine.Cmd) (hσ : Keeps σ (s.tick dt)) : AKeeps σ (execLedOff dt c s) := by
  unfold execLedOff
  refine ⟨_, rfl, ?_⟩
  repeat' first | with_reducible assumption | with_reducible apply State.done_keeps | with_reducible apply State.serveOp_keeps
                | with_reducible apply State.orElse_keeps | with_reducible apply State.complete_keeps | with_reducible apply State.commanded_keeps
                | with_reducible apply State.ldOff_keeps | with_reducible apply State.begin_keeps | with_reducible apply Keeps.ite
                | with_reducible apply Keeps.foldl | with_reducible apply Keeps.ite_fst | with_reducible apply Keeps.foldl_fst | split | dsimp only
                | (intro _; rfl) | (intro _; intros)

theorem execLedOn_keeps {σ s : State} (dt : Nat) (c : Sys2Proof.Machine.Cmd) (hσ : Keeps σ (s.tick dt)) : AKeeps σ (execLedOn dt c s) := by
  unfold execLedOn
  refine ⟨_, rfl, ?_⟩
  repeat' first | with_reducible assumption | with_reducible apply State.done_keeps | with_reducible apply State.serveOp_keeps
                | with_reducible apply State.ldCmd_keeps | with_reducible apply Keeps.ite | with_reducible apply Keeps.foldl
                | with_reducible apply Keeps.ite_fst | with_reducible apply Keeps.foldl_fst | split | dsimp only | (intro _; rfl) | (intro _; intros)

theorem execLedDim_keeps {σ s : State} (dt : Nat) (c : Sys2Proof.Machine.Cmd) (hσ : Keeps σ (s.tick dt)) : AKeeps σ (execLedDim dt c s) := by
  unfold execLedDim
  refine ⟨_, rfl, ?_⟩
  repeat' first | with_reducible assumption | with_reducible apply State.done_keeps | with_reducible apply State.serveOp_keeps
                | with_reducible apply State.ldCmd_keeps | with_reducible apply Keeps.ite | with_reducible apply Keeps.foldl
                | with_reducible apply Keeps.ite_fst | with_reducible apply Keeps.foldl_fst | split | dsimp only | (intro _; rfl) | (intro _; intros)

theorem execLdClearFault_keeps {σ s : State} (dt : Nat) (c : Sys2Proof.Machine.Cmd) (hσ : Keeps σ (s.tick dt)) : AKeeps σ
    (execLdClearFault dt c s) := by
  unfold execLdClearFault
  refine ⟨_, rfl, ?_⟩
  repeat' first | with_reducible assumption | with_reducible apply State.done_keeps | with_reducible apply State.serveOp_keeps
                | with_reducible apply State.orElse_keeps | with_reducible apply State.complete_keeps | with_reducible apply State.commanded_keeps
                | with_reducible apply State.clearPersists_keeps | with_reducible apply State.ldClear_keeps | with_reducible apply State.begin_keeps
                | with_reducible apply Keeps.ite | with_reducible apply Keeps.foldl | with_reducible apply Keeps.ite_fst
                | with_reducible apply Keeps.foldl_fst | split | dsimp only | (intro _; rfl) | (intro _; intros)

theorem execLdDiagCheck_keeps {σ s : State} (dt : Nat) (c : Sys2Proof.Machine.Cmd) (hσ : Keeps σ (s.tick dt)) : AKeeps σ
    (execLdDiagCheck dt c s) := by
  unfold execLdDiagCheck
  refine ⟨_, rfl, ?_⟩
  repeat' first | with_reducible assumption | with_reducible apply State.done_keeps | with_reducible apply State.serveOp_keeps
                | with_reducible apply State.orElse_keeps | with_reducible apply State.checkCmd_keeps | with_reducible apply Keeps.ite
                | with_reducible apply Keeps.foldl | with_reducible apply Keeps.ite_fst | with_reducible apply Keeps.foldl_fst | split | dsimp only
                | (intro _; rfl) | (intro _; intros)

theorem execLdConfig_keeps {σ s : State} (dt : Nat) (c : Sys2Proof.Machine.Cmd) (hσ : Keeps σ (s.tick dt)) : AKeeps σ (execLdConfig dt c s) := by
  unfold execLdConfig
  refine ⟨_, rfl, ?_⟩
  repeat' first | with_reducible assumption | with_reducible apply State.done_keeps | with_reducible apply State.serveOp_keeps
                | with_reducible apply State.complete_keeps | with_reducible apply State.putImage_keeps | with_reducible apply State.begin_keeps
                | with_reducible apply Keeps.ite | with_reducible apply Keeps.foldl | with_reducible apply Keeps.ite_fst
                | with_reducible apply Keeps.foldl_fst | split | dsimp only | (intro _; rfl) | (intro _; intros)

theorem execTcompLoad_keeps {σ s : State} (dt : Nat) (c : Sys2Proof.Machine.Cmd) (hσ : Keeps σ (s.tick dt)) : AKeeps σ (execTcompLoad dt c s) := by
  unfold execTcompLoad
  refine ⟨_, rfl, ?_⟩
  repeat' first | with_reducible assumption | with_reducible apply State.done_keeps | with_reducible apply State.serveOp_keeps
                | with_reducible apply State.descClamp_keeps | with_reducible apply State.begin_keeps | with_reducible apply State.ldShadow_keeps
                | with_reducible apply State.complete_keeps | with_reducible apply State.ldCommit_keeps | with_reducible apply Keeps.ite
                | with_reducible apply Keeps.foldl | with_reducible apply Keeps.ite_fst | with_reducible apply Keeps.foldl_fst | split | dsimp only
                | (intro _; rfl) | (intro _; intros)

theorem execLdSoftstartDone_keeps {σ s : State} (dt : Nat) (n : Nat) (hσ : Keeps σ (s.tick dt)) : AKeeps σ (execLdSoftstartDone dt n s) := by
  unfold execLdSoftstartDone
  refine ⟨_, rfl, ?_⟩
  repeat' first | with_reducible assumption | with_reducible apply State.done_keeps | with_reducible apply State.modObj_keeps
                | with_reducible apply State.setSt_keeps | with_reducible apply Keeps.ite | with_reducible apply Keeps.foldl
                | with_reducible apply Keeps.ite_fst | with_reducible apply Keeps.foldl_fst | split | dsimp only | (intro _; rfl) | (intro _; intros)

theorem execLdSoftstartTimeout_keeps {σ s : State} (dt : Nat) (n : Nat) (hσ : Keeps σ (s.tick dt)) : AKeeps σ (execLdSoftstartTimeout dt n s) := by
  unfold execLdSoftstartTimeout
  refine ⟨_, rfl, ?_⟩
  repeat' first | with_reducible assumption | with_reducible apply State.done_keeps | with_reducible apply State.ldTrip_keeps
                | with_reducible apply Keeps.ite | with_reducible apply Keeps.foldl | with_reducible apply Keeps.ite_fst
                | with_reducible apply Keeps.foldl_fst | split | dsimp only | (intro _; rfl) | (intro _; intros)

theorem execLdOpenString_keeps {σ s : State} (dt : Nat) (n : Nat) (m : Sys2Proof.Machine.Meas) (hσ : Keeps σ (s.tick dt)) : AKeeps σ
    (execLdOpenString dt n m s) := by
  unfold execLdOpenString
  refine ⟨_, rfl, ?_⟩
  repeat' first | with_reducible assumption | with_reducible apply State.done_keeps | with_reducible apply State.ldTrip_keeps
                | with_reducible apply State.measure_keeps | with_reducible apply Keeps.ite | with_reducible apply Keeps.foldl
                | with_reducible apply Keeps.ite_fst | with_reducible apply Keeps.foldl_fst | split | dsimp only | (intro _; rfl) | (intro _; intros)

theorem execLdShort_keeps {σ s : State} (dt : Nat) (n : Nat) (m : Sys2Proof.Machine.Meas) (hσ : Keeps σ (s.tick dt)) : AKeeps σ
    (execLdShort dt n m s) := by
  unfold execLdShort
  refine ⟨_, rfl, ?_⟩
  repeat' first | with_reducible assumption | with_reducible apply State.done_keeps | with_reducible apply State.ldTrip_keeps
                | with_reducible apply State.measure_keeps | with_reducible apply Keeps.ite | with_reducible apply Keeps.foldl
                | with_reducible apply Keeps.ite_fst | with_reducible apply Keeps.foldl_fst | split | dsimp only | (intro _; rfl) | (intro _; intros)

theorem execLdThermal_keeps {σ s : State} (dt : Nat) (n : Nat) (m : Sys2Proof.Machine.Meas) (hσ : Keeps σ (s.tick dt)) : AKeeps σ
    (execLdThermal dt n m s) := by
  unfold execLdThermal
  refine ⟨_, rfl, ?_⟩
  repeat' first | with_reducible assumption | with_reducible apply State.done_keeps | with_reducible apply State.ldTrip_keeps
                | with_reducible apply State.measure_keeps | with_reducible apply Keeps.ite | with_reducible apply Keeps.foldl
                | with_reducible apply Keeps.ite_fst | with_reducible apply Keeps.foldl_fst | split | dsimp only | (intro _; rfl) | (intro _; intros)

theorem execLdThermalRestart_keeps {σ s : State} (dt : Nat) (n : Nat) (m : Sys2Proof.Machine.Meas) (hσ : Keeps σ (s.tick dt)) : AKeeps σ
    (execLdThermalRestart dt n m s) := by
  unfold execLdThermalRestart
  refine ⟨_, rfl, ?_⟩
  repeat' first | with_reducible assumption | with_reducible apply State.done_keeps | with_reducible apply State.measure_keeps
                | with_reducible apply State.submitOwn_keeps | with_reducible apply Keeps.ite | with_reducible apply Keeps.foldl
                | with_reducible apply Keeps.ite_fst | with_reducible apply Keeps.foldl_fst | split | dsimp only | (intro _; rfl) | (intro _; intros)

theorem execHeadroomSet_keeps {σ s : State} (dt : Nat) (n : Nat) (hσ : Keeps σ (s.tick dt)) : AKeeps σ (execHeadroomSet dt n s) := by
  unfold execHeadroomSet
  refine ⟨_, rfl, ?_⟩
  repeat' first | with_reducible assumption | with_reducible apply State.done_keeps | with_reducible apply State.verdictSet_keeps
                | with_reducible apply State.objEvent_keeps | with_reducible apply State.wr_keeps | with_reducible apply Keeps.ite
                | with_reducible apply Keeps.foldl | with_reducible apply Keeps.ite_fst | with_reducible apply Keeps.foldl_fst | split | dsimp only
                | (intro _; rfl) | (intro _; intros)

theorem execHeadroomClear_keeps {σ s : State} (dt : Nat) (n : Nat) (hσ : Keeps σ (s.tick dt)) : AKeeps σ (execHeadroomClear dt n s) := by
  unfold execHeadroomClear
  refine ⟨_, rfl, ?_⟩
  repeat' first | with_reducible assumption | with_reducible apply State.done_keeps | with_reducible apply State.wr_keeps
                | with_reducible apply Keeps.ite | with_reducible apply Keeps.foldl | with_reducible apply Keeps.ite_fst
                | with_reducible apply Keeps.foldl_fst | split | dsimp only | (intro _; rfl) | (intro _; intros)

theorem execNtcFault_keeps {σ s : State} (dt : Nat) (n : Nat) (hσ : Keeps σ (s.tick dt)) : AKeeps σ (execNtcFault dt n s) := by
  unfold execNtcFault
  refine ⟨_, rfl, ?_⟩
  repeat' first | with_reducible assumption | with_reducible apply State.done_keeps | with_reducible apply State.objEvent_keeps
                | with_reducible apply State.wr_keeps | with_reducible apply Keeps.ite | with_reducible apply Keeps.foldl
                | with_reducible apply Keeps.ite_fst | with_reducible apply Keeps.foldl_fst | split | dsimp only | (intro _; rfl) | (intro _; intros)

theorem execNtcRecover_keeps {σ s : State} (dt : Nat) (n : Nat) (hσ : Keeps σ (s.tick dt)) : AKeeps σ (execNtcRecover dt n s) := by
  unfold execNtcRecover
  refine ⟨_, rfl, ?_⟩
  repeat' first | with_reducible assumption | with_reducible apply State.done_keeps | with_reducible apply State.wr_keeps
                | with_reducible apply Keeps.ite | with_reducible apply Keeps.foldl | with_reducible apply Keeps.ite_fst
                | with_reducible apply Keeps.foldl_fst | split | dsimp only | (intro _; rfl) | (intro _; intros)

theorem execTcompSample_keeps {σ s : State} (dt : Nat) (n : Nat) (t : Nat) (hσ : Keeps σ (s.tick dt)) : AKeeps σ (execTcompSample dt n t s) := by
  unfold execTcompSample
  refine ⟨_, rfl, ?_⟩
  repeat' first | with_reducible assumption | with_reducible apply State.done_keeps | with_reducible apply State.ldMoveGain_keeps
                | with_reducible apply Keeps.ite | with_reducible apply Keeps.foldl | with_reducible apply Keeps.ite_fst
                | with_reducible apply Keeps.foldl_fst | split | dsimp only | (intro _; rfl) | (intro _; intros)

theorem execDimPeriodStart_keeps {σ s : State} (dt : Nat) (n : Nat) (hσ : Keeps σ (s.tick dt)) : AKeeps σ (execDimPeriodStart dt n s) := by
  unfold execDimPeriodStart
  refine ⟨_, rfl, ?_⟩
  repeat' first | with_reducible assumption | with_reducible apply State.done_keeps | with_reducible apply State.wr_keeps
                | with_reducible apply State.modObj_keeps | with_reducible apply State.modLed_keeps | with_reducible apply State.chgDone_keeps
                | with_reducible apply State.cmdDone_keeps | with_reducible apply Keeps.ite | with_reducible apply Keeps.foldl
                | with_reducible apply Keeps.ite_fst | with_reducible apply Keeps.foldl_fst | split | dsimp only | (intro _; rfl) | (intro _; intros)

theorem execLdMeasure_keeps {σ s : State} (dt : Nat) (n : Nat) (a : Nat) (v : Nat) (hσ : Keeps σ (s.tick dt)) : AKeeps σ
    (execLdMeasure dt n a v s) := by
  unfold execLdMeasure
  refine ⟨_, rfl, ?_⟩
  repeat' first | with_reducible assumption | with_reducible apply State.done_keeps | with_reducible apply State.modLed_keeps
                | with_reducible apply State.wr_keeps | with_reducible apply State.took_keeps | with_reducible apply State.judged_keeps
                | with_reducible apply Keeps.ite | with_reducible apply Keeps.foldl | with_reducible apply Keeps.ite_fst
                | with_reducible apply Keeps.foldl_fst | split | dsimp only | (intro _; rfl) | (intro _; intros)

theorem State.mxCmd_keeps {σ s : State} (c : Sys2Proof.Machine.Cmd) (on : Bool) (hσ : Keeps σ s) : Keeps σ (State.mxCmd s c on) := by
  unfold State.mxCmd
  repeat' first | with_reducible assumption | with_reducible apply State.orElse_keeps | with_reducible apply State.complete_keeps
                | with_reducible apply State.commanded_keeps | with_reducible apply State.modMx_keeps | with_reducible apply State.begin_keeps
                | with_reducible apply State.submit_keeps | with_reducible apply State.mxChange_keeps | with_reducible apply Keeps.ite
                | with_reducible apply Keeps.foldl | with_reducible apply Keeps.ite_fst | with_reducible apply Keeps.foldl_fst | split | dsimp only
                | (intro _; rfl) | (intro _; intros)

theorem execMxOff_keeps {σ s : State} (dt : Nat) (c : Sys2Proof.Machine.Cmd) (hσ : Keeps σ (s.tick dt)) : AKeeps σ (execMxOff dt c s) := by
  unfold execMxOff
  refine ⟨_, rfl, ?_⟩
  repeat' first | with_reducible assumption | with_reducible apply State.done_keeps | with_reducible apply State.serveOp_keeps
                | with_reducible apply State.orElse_keeps | with_reducible apply State.complete_keeps | with_reducible apply State.commanded_keeps
                | with_reducible apply State.mxOff_keeps | with_reducible apply State.begin_keeps | with_reducible apply Keeps.ite
                | with_reducible apply Keeps.foldl | with_reducible apply Keeps.ite_fst | with_reducible apply Keeps.foldl_fst | split | dsimp only
                | (intro _; rfl) | (intro _; intros)

theorem execMxOn_keeps {σ s : State} (dt : Nat) (c : Sys2Proof.Machine.Cmd) (hσ : Keeps σ (s.tick dt)) : AKeeps σ (execMxOn dt c s) := by
  unfold execMxOn
  refine ⟨_, rfl, ?_⟩
  repeat' first | with_reducible assumption | with_reducible apply State.done_keeps | with_reducible apply State.serveOp_keeps
                | with_reducible apply State.mxCmd_keeps | with_reducible apply Keeps.ite | with_reducible apply Keeps.foldl
                | with_reducible apply Keeps.ite_fst | with_reducible apply Keeps.foldl_fst | split | dsimp only | (intro _; rfl) | (intro _; intros)

theorem execMxBright_keeps {σ s : State} (dt : Nat) (c : Sys2Proof.Machine.Cmd) (hσ : Keeps σ (s.tick dt)) : AKeeps σ (execMxBright dt c s) := by
  unfold execMxBright
  refine ⟨_, rfl, ?_⟩
  repeat' first | with_reducible assumption | with_reducible apply State.done_keeps | with_reducible apply State.serveOp_keeps
                | with_reducible apply State.mxCmd_keeps | with_reducible apply Keeps.ite | with_reducible apply Keeps.foldl
                | with_reducible apply Keeps.ite_fst | with_reducible apply Keeps.foldl_fst | split | dsimp only | (intro _; rfl) | (intro _; intros)

theorem execMxClearFault_keeps {σ s : State} (dt : Nat) (c : Sys2Proof.Machine.Cmd) (hσ : Keeps σ (s.tick dt)) : AKeeps σ
    (execMxClearFault dt c s) := by
  unfold execMxClearFault
  refine ⟨_, rfl, ?_⟩
  repeat' first | with_reducible assumption | with_reducible apply State.done_keeps | with_reducible apply State.serveOp_keeps
                | with_reducible apply State.orElse_keeps | with_reducible apply State.complete_keeps | with_reducible apply State.commanded_keeps
                | with_reducible apply State.mxClear_keeps | with_reducible apply State.begin_keeps | with_reducible apply Keeps.ite
                | with_reducible apply Keeps.foldl | with_reducible apply Keeps.ite_fst | with_reducible apply Keeps.foldl_fst | split | dsimp only
                | (intro _; rfl) | (intro _; intros)

theorem execMxConfig_keeps {σ s : State} (dt : Nat) (c : Sys2Proof.Machine.Cmd) (hσ : Keeps σ (s.tick dt)) : AKeeps σ (execMxConfig dt c s) := by
  unfold execMxConfig
  refine ⟨_, rfl, ?_⟩
  repeat' first | with_reducible assumption | with_reducible apply State.done_keeps | with_reducible apply State.serveOp_keeps
                | with_reducible apply State.orElse_keeps | with_reducible apply State.modFlight_keeps | with_reducible apply State.logClamps_keeps
                | with_reducible apply State.submit_keeps | with_reducible apply State.complete_keeps | with_reducible apply State.mxImage_keeps
                | with_reducible apply State.begin_keeps | with_reducible apply Keeps.ite | with_reducible apply Keeps.foldl
                | with_reducible apply Keeps.ite_fst | with_reducible apply Keeps.foldl_fst | split | dsimp only | (intro _; rfl) | (intro _; intros)

theorem State.mxSwap_keeps {σ s : State} (hσ : Keeps σ s) : Keeps σ (State.mxSwap s) := by
  unfold State.mxSwap
  repeat' first | with_reducible assumption | with_reducible apply State.wr_keeps | with_reducible apply Keeps.ite | with_reducible apply Keeps.foldl
                | with_reducible apply Keeps.ite_fst | with_reducible apply Keeps.foldl_fst | split | dsimp only | (intro _; rfl) | (intro _; intros)

theorem execMxFrame_keeps {σ s : State} (dt : Nat) (c : Sys2Proof.Machine.Cmd) (px : List Sys2Proof.Byte) (hσ : Keeps σ (s.tick dt)) : AKeeps σ
    (execMxFrame dt c px s) := by
  unfold execMxFrame
  refine ⟨_, rfl, ?_⟩
  repeat' first | with_reducible assumption | with_reducible apply State.done_keeps | with_reducible apply State.serveOp_keeps
                | with_reducible apply State.complete_keeps | with_reducible apply State.dma_keeps | with_reducible apply State.modMx_keeps
                | with_reducible apply State.begin_keeps | with_reducible apply State.mxSwap_keeps | with_reducible apply Keeps.ite
                | with_reducible apply Keeps.foldl | with_reducible apply Keeps.ite_fst | with_reducible apply Keeps.foldl_fst | split | dsimp only
                | (intro _; rfl) | (intro _; intros)

theorem State.mxLed_keeps {σ s : State} (lows : Nat) (b : Nat) (hσ : Keeps σ s) : Keeps σ (State.mxLed s lows b) := by
  unfold State.mxLed
  repeat' first | with_reducible assumption | with_reducible apply State.modMx_keeps | with_reducible apply Keeps.ite
                | with_reducible apply Keeps.foldl | with_reducible apply Keeps.ite_fst | with_reducible apply Keeps.foldl_fst | split | dsimp only
                | (intro _; rfl) | (intro _; intros)

theorem execMxFrameBoundary_keeps {σ s : State} (dt : Nat) (lows : Nat) (hσ : Keeps σ (s.tick dt)) : AKeeps σ (execMxFrameBoundary dt lows s) := by
  unfold execMxFrameBoundary
  refine ⟨_, rfl, ?_⟩
  repeat' first | with_reducible assumption | with_reducible apply State.done_keeps | with_reducible apply State.mxLed_keeps
                | with_reducible apply State.wr_keeps | with_reducible apply State.modMx_keeps | with_reducible apply State.complete_keeps
                | with_reducible apply State.modObj_keeps | with_reducible apply State.chgDone_keeps | with_reducible apply State.mxJudge_keeps
                | with_reducible apply Keeps.ite | with_reducible apply Keeps.foldl | with_reducible apply Keeps.ite_fst
                | with_reducible apply Keeps.foldl_fst | split | dsimp only | (intro _; rfl) | (intro _; intros)

theorem execMxRowShort_keeps {σ s : State} (dt : Nat) (hσ : Keeps σ (s.tick dt)) : AKeeps σ (execMxRowShort dt s) := by
  unfold execMxRowShort
  refine ⟨_, rfl, ?_⟩
  repeat' first | with_reducible assumption | with_reducible apply State.done_keeps | with_reducible apply State.objTrip_keeps
                | with_reducible apply Keeps.ite | with_reducible apply Keeps.foldl | with_reducible apply Keeps.ite_fst
                | with_reducible apply Keeps.foldl_fst | split | dsimp only | (intro _; rfl) | (intro _; intros)

theorem execSvOff_keeps {σ s : State} (dt : Nat) (c : Sys2Proof.Machine.Cmd) (hσ : Keeps σ (s.tick dt)) : AKeeps σ (execSvOff dt c s) := by
  unfold execSvOff
  refine ⟨_, rfl, ?_⟩
  repeat' first | with_reducible assumption | with_reducible apply State.done_keeps | with_reducible apply State.serveOp_keeps
                | with_reducible apply State.orElse_keeps | with_reducible apply State.complete_keeps | with_reducible apply State.commanded_keeps
                | with_reducible apply State.svOff_keeps | with_reducible apply State.begin_keeps | with_reducible apply Keeps.ite
                | with_reducible apply Keeps.foldl | with_reducible apply Keeps.ite_fst | with_reducible apply Keeps.foldl_fst | split | dsimp only
                | (intro _; rfl) | (intro _; intros)

theorem State.svSubmit_keeps {σ s : State} (d : Sys2Proof.Machine.Demand) (c : Sys2Proof.Machine.Cmd) (hσ : Keeps σ s) : Keeps σ
    (State.svSubmit s d c) := by
  unfold State.svSubmit
  repeat' first | with_reducible assumption | with_reducible apply State.submit_keeps | with_reducible apply State.boostNotReady_keeps
                | with_reducible apply State.arbLog_keeps | with_reducible apply State.complete_keeps | with_reducible apply Keeps.ite
                | with_reducible apply Keeps.foldl | with_reducible apply Keeps.ite_fst | with_reducible apply Keeps.foldl_fst | split | dsimp only
                | (intro _; rfl) | (intro _; intros)

theorem execSvOn_keeps {σ s : State} (dt : Nat) (c : Sys2Proof.Machine.Cmd) (hσ : Keeps σ (s.tick dt)) : AKeeps σ (execSvOn dt c s) := by
  unfold execSvOn
  refine ⟨_, rfl, ?_⟩
  repeat' first | with_reducible assumption | with_reducible apply State.done_keeps | with_reducible apply State.serveOp_keeps
                | with_reducible apply State.orElse_keeps | with_reducible apply State.complete_keeps | with_reducible apply State.commanded_keeps
                | with_reducible apply State.modValve_keeps | with_reducible apply State.begin_keeps | with_reducible apply State.svSubmit_keeps
                | with_reducible apply Keeps.ite | with_reducible apply Keeps.foldl | with_reducible apply Keeps.ite_fst
                | with_reducible apply Keeps.foldl_fst | split | dsimp only | (intro _; rfl) | (intro _; intros)

theorem execSvHold_keeps {σ s : State} (dt : Nat) (c : Sys2Proof.Machine.Cmd) (hσ : Keeps σ (s.tick dt)) : AKeeps σ (execSvHold dt c s) := by
  unfold execSvHold
  refine ⟨_, rfl, ?_⟩
  repeat' first | with_reducible assumption | with_reducible apply State.done_keeps | with_reducible apply State.serveOp_keeps
                | with_reducible apply State.orElse_keeps | with_reducible apply State.descClamp_keeps | with_reducible apply State.submit_keeps
                | with_reducible apply State.svServe_keeps | with_reducible apply State.complete_keeps | with_reducible apply State.commanded_keeps
                | with_reducible apply State.wr_keeps | with_reducible apply State.begin_keeps | with_reducible apply Keeps.ite
                | with_reducible apply Keeps.foldl | with_reducible apply Keeps.ite_fst | with_reducible apply Keeps.foldl_fst | split | dsimp only
                | (intro _; rfl) | (intro _; intros)

theorem execSvClearFault_keeps {σ s : State} (dt : Nat) (c : Sys2Proof.Machine.Cmd) (hσ : Keeps σ (s.tick dt)) : AKeeps σ
    (execSvClearFault dt c s) := by
  unfold execSvClearFault
  refine ⟨_, rfl, ?_⟩
  repeat' first | with_reducible assumption | with_reducible apply State.done_keeps | with_reducible apply State.serveOp_keeps
                | with_reducible apply State.orElse_keeps | with_reducible apply State.complete_keeps | with_reducible apply State.commanded_keeps
                | with_reducible apply State.clearPersists_keeps | with_reducible apply State.svClear_keeps | with_reducible apply State.begin_keeps
                | with_reducible apply Keeps.ite | with_reducible apply Keeps.foldl | with_reducible apply Keeps.ite_fst
                | with_reducible apply Keeps.foldl_fst | split | dsimp only | (intro _; rfl) | (intro _; intros)

theorem execSvDiagCheck_keeps {σ s : State} (dt : Nat) (c : Sys2Proof.Machine.Cmd) (hσ : Keeps σ (s.tick dt)) : AKeeps σ
    (execSvDiagCheck dt c s) := by
  unfold execSvDiagCheck
  refine ⟨_, rfl, ?_⟩
  repeat' first | with_reducible assumption | with_reducible apply State.done_keeps | with_reducible apply State.serveOp_keeps
                | with_reducible apply State.orElse_keeps | with_reducible apply State.checkCmd_keeps | with_reducible apply Keeps.ite
                | with_reducible apply Keeps.foldl | with_reducible apply Keeps.ite_fst | with_reducible apply Keeps.foldl_fst | split | dsimp only
                | (intro _; rfl) | (intro _; intros)

theorem execSvConfig_keeps {σ s : State} (dt : Nat) (c : Sys2Proof.Machine.Cmd) (hσ : Keeps σ (s.tick dt)) : AKeeps σ (execSvConfig dt c s) := by
  unfold execSvConfig
  refine ⟨_, rfl, ?_⟩
  repeat' first | with_reducible assumption | with_reducible apply State.done_keeps | with_reducible apply State.serveOp_keeps
                | with_reducible apply State.complete_keeps | with_reducible apply State.putImage_keeps | with_reducible apply State.begin_keeps
                | with_reducible apply Keeps.ite | with_reducible apply Keeps.foldl | with_reducible apply Keeps.ite_fst
                | with_reducible apply Keeps.foldl_fst | split | dsimp only | (intro _; rfl) | (intro _; intros)

theorem execSvLearnReset_keeps {σ s : State} (dt : Nat) (c : Sys2Proof.Machine.Cmd) (hσ : Keeps σ (s.tick dt)) : AKeeps σ
    (execSvLearnReset dt c s) := by
  unfold execSvLearnReset
  refine ⟨_, rfl, ?_⟩
  repeat' first | with_reducible assumption | with_reducible apply State.done_keeps | with_reducible apply State.serveOp_keeps
                | with_reducible apply State.complete_keeps | with_reducible apply State.wr_keeps | with_reducible apply State.begin_keeps
                | with_reducible apply Keeps.ite | with_reducible apply Keeps.foldl | with_reducible apply Keeps.ite_fst
                | with_reducible apply Keeps.foldl_fst | split | dsimp only | (intro _; rfl) | (intro _; intros)

theorem execSvConfig2_keeps {σ s : State} (dt : Nat) (c : Sys2Proof.Machine.Cmd) (hσ : Keeps σ (s.tick dt)) : AKeeps σ (execSvConfig2 dt c s) := by
  unfold execSvConfig2
  refine ⟨_, rfl, ?_⟩
  repeat' first | with_reducible assumption | with_reducible apply State.done_keeps | with_reducible apply State.serveOp_keeps
                | with_reducible apply State.complete_keeps | with_reducible apply State.putImage_keeps | with_reducible apply State.begin_keeps
                | with_reducible apply Keeps.ite | with_reducible apply Keeps.foldl | with_reducible apply Keeps.ite_fst
                | with_reducible apply Keeps.foldl_fst | split | dsimp only | (intro _; rfl) | (intro _; intros)

theorem execBoostEnd_keeps {σ s : State} (dt : Nat) (n : Nat) (e : Nat) (imax : Nat) (ti : Nat) (vbst : Nat) (hσ : Keeps σ (s.tick dt)) : AKeeps σ
    (execBoostEnd dt n e imax ti vbst s) := by
  unfold execBoostEnd
  refine ⟨_, rfl, ?_⟩
  repeat' first | with_reducible assumption | with_reducible apply State.done_keeps | with_reducible apply State.wr_keeps
                | with_reducible apply State.modValve_keeps | with_reducible apply State.svTrip_keeps | with_reducible apply State.svBoostDone_keeps
                | with_reducible apply State.svHold_keeps | with_reducible apply State.setSt_keeps | with_reducible apply Keeps.ite
                | with_reducible apply Keeps.foldl | with_reducible apply Keeps.ite_fst | with_reducible apply Keeps.foldl_fst | split | dsimp only
                | (intro _; rfl) | (intro _; intros)

theorem execPeakEnd_keeps {σ s : State} (dt : Nat) (n : Nat) (hσ : Keeps σ (s.tick dt)) : AKeeps σ (execPeakEnd dt n s) := by
  unfold execPeakEnd
  refine ⟨_, rfl, ?_⟩
  repeat' first | with_reducible assumption | with_reducible apply State.done_keeps | with_reducible apply State.svHold_keeps
                | with_reducible apply Keeps.ite | with_reducible apply Keeps.foldl | with_reducible apply Keeps.ite_fst
                | with_reducible apply Keeps.foldl_fst | split | dsimp only | (intro _; rfl) | (intro _; intros)

theorem execDecayEnd_keeps {σ s : State} (dt : Nat) (n : Nat) (e : Nat) (hσ : Keeps σ (s.tick dt)) : AKeeps σ (execDecayEnd dt n e s) := by
  unfold execDecayEnd
  refine ⟨_, rfl, ?_⟩
  repeat' first | with_reducible assumption | with_reducible apply State.done_keeps | with_reducible apply State.wr_keeps
                | with_reducible apply State.setSt_keeps | with_reducible apply Keeps.ite | with_reducible apply Keeps.foldl
                | with_reducible apply Keeps.ite_fst | with_reducible apply Keeps.foldl_fst | split | dsimp only | (intro _; rfl) | (intro _; intros)

theorem execArmatureDip_keeps {σ s : State} (dt : Nat) (n : Nat) (d : Sys2Proof.Machine.DipSeen) (hσ : Keeps σ (s.tick dt)) : AKeeps σ
    (execArmatureDip dt n d s) := by
  unfold execArmatureDip
  refine ⟨_, rfl, ?_⟩
  repeat' first | with_reducible assumption | with_reducible apply State.done_keeps | with_reducible apply State.wr_keeps
                | with_reducible apply State.modValve_keeps | with_reducible apply Keeps.ite | with_reducible apply Keeps.foldl
                | with_reducible apply Keeps.ite_fst | with_reducible apply Keeps.foldl_fst | split | dsimp only | (intro _; rfl) | (intro _; intros)

theorem execArmatureStuck_keeps {σ s : State} (dt : Nat) (n : Nat) (hσ : Keeps σ (s.tick dt)) : AKeeps σ (execArmatureStuck dt n s) := by
  unfold execArmatureStuck
  refine ⟨_, rfl, ?_⟩
  repeat' first | with_reducible assumption | with_reducible apply State.done_keeps | with_reducible apply State.wr_keeps
                | with_reducible apply State.modValve_keeps | with_reducible apply Keeps.ite | with_reducible apply Keeps.foldl
                | with_reducible apply Keeps.ite_fst | with_reducible apply Keeps.foldl_fst | split | dsimp only | (intro _; rfl) | (intro _; intros)

theorem execSvShort_keeps {σ s : State} (dt : Nat) (n : Nat) (m : Sys2Proof.Machine.Meas) (hσ : Keeps σ (s.tick dt)) : AKeeps σ
    (execSvShort dt n m s) := by
  unfold execSvShort
  refine ⟨_, rfl, ?_⟩
  repeat' first | with_reducible assumption | with_reducible apply State.done_keeps | with_reducible apply State.svTrip_keeps
                | with_reducible apply State.measure_keeps | with_reducible apply Keeps.ite | with_reducible apply Keeps.foldl
                | with_reducible apply Keeps.ite_fst | with_reducible apply Keeps.foldl_fst | split | dsimp only | (intro _; rfl) | (intro _; intros)

theorem execBankShort_keeps {σ s : State} (dt : Nat) (b : Nat) (hσ : Keeps σ (s.tick dt)) : AKeeps σ (execBankShort dt b s) := by
  unfold execBankShort
  refine ⟨_, rfl, ?_⟩
  repeat' first | with_reducible assumption | with_reducible apply State.done_keeps | with_reducible apply State.wr_keeps
                | with_reducible apply State.svTrip_keeps | with_reducible apply Keeps.ite | with_reducible apply Keeps.foldl
                | with_reducible apply Keeps.ite_fst | with_reducible apply Keeps.foldl_fst | split | dsimp only | (intro _; rfl) | (intro _; intros)

theorem execSvThermal_keeps {σ s : State} (dt : Nat) (n : Nat) (m : Sys2Proof.Machine.Meas) (hσ : Keeps σ (s.tick dt)) : AKeeps σ
    (execSvThermal dt n m s) := by
  unfold execSvThermal
  refine ⟨_, rfl, ?_⟩
  repeat' first | with_reducible assumption | with_reducible apply State.done_keeps | with_reducible apply State.svTrip_keeps
                | with_reducible apply State.measure_keeps | with_reducible apply Keeps.ite | with_reducible apply Keeps.foldl
                | with_reducible apply Keeps.ite_fst | with_reducible apply Keeps.foldl_fst | split | dsimp only | (intro _; rfl) | (intro _; intros)

theorem execSvThermalRestart_keeps {σ s : State} (dt : Nat) (n : Nat) (m : Sys2Proof.Machine.Meas) (hσ : Keeps σ (s.tick dt)) : AKeeps σ
    (execSvThermalRestart dt n m s) := by
  unfold execSvThermalRestart
  refine ⟨_, rfl, ?_⟩
  repeat' first | with_reducible assumption | with_reducible apply State.done_keeps | with_reducible apply State.measure_keeps
                | with_reducible apply State.submitOwn_keeps | with_reducible apply Keeps.ite | with_reducible apply Keeps.foldl
                | with_reducible apply Keeps.ite_fst | with_reducible apply Keeps.foldl_fst | split | dsimp only | (intro _; rfl) | (intro _; intros)

theorem execSvOffTest_keeps {σ s : State} (dt : Nat) (n : Nat) (v : Nat) (hσ : Keeps σ (s.tick dt)) : AKeeps σ (execSvOffTest dt n v s) := by
  unfold execSvOffTest
  refine ⟨_, rfl, ?_⟩
  repeat' first | with_reducible assumption | with_reducible apply State.done_keeps | with_reducible apply State.modObj_keeps
                | with_reducible apply State.presentNow_keeps | with_reducible apply State.absentNow_keeps | with_reducible apply Keeps.ite
                | with_reducible apply Keeps.foldl | with_reducible apply Keeps.ite_fst | with_reducible apply Keeps.foldl_fst | split | dsimp only
                | (intro _; rfl) | (intro _; intros)

theorem execBstOff_keeps {σ s : State} (dt : Nat) (c : Sys2Proof.Machine.Cmd) (hσ : Keeps σ (s.tick dt)) : AKeeps σ (execBstOff dt c s) := by
  unfold execBstOff
  refine ⟨_, rfl, ?_⟩
  repeat' first | with_reducible assumption | with_reducible apply State.done_keeps | with_reducible apply State.serveOp_keeps
                | with_reducible apply State.orElse_keeps | with_reducible apply State.complete_keeps | with_reducible apply State.bstOff_keeps
                | with_reducible apply State.begin_keeps | with_reducible apply Keeps.ite | with_reducible apply Keeps.foldl
                | with_reducible apply Keeps.ite_fst | with_reducible apply Keeps.foldl_fst | split | dsimp only | (intro _; rfl) | (intro _; intros)

theorem execBstOn_keeps {σ s : State} (dt : Nat) (c : Sys2Proof.Machine.Cmd) (hσ : Keeps σ (s.tick dt)) : AKeeps σ (execBstOn dt c s) := by
  unfold execBstOn
  refine ⟨_, rfl, ?_⟩
  repeat' first | with_reducible assumption | with_reducible apply State.done_keeps | with_reducible apply State.serveOp_keeps
                | with_reducible apply State.orElse_keeps | with_reducible apply State.bstAgain_keeps | with_reducible apply State.submit_keeps
                | with_reducible apply Keeps.ite | with_reducible apply Keeps.foldl | with_reducible apply Keeps.ite_fst
                | with_reducible apply Keeps.foldl_fst | split | dsimp only | (intro _; rfl) | (intro _; intros)

theorem execBstClearFault_keeps {σ s : State} (dt : Nat) (c : Sys2Proof.Machine.Cmd) (hσ : Keeps σ (s.tick dt)) : AKeeps σ
    (execBstClearFault dt c s) := by
  unfold execBstClearFault
  refine ⟨_, rfl, ?_⟩
  repeat' first | with_reducible assumption | with_reducible apply State.done_keeps | with_reducible apply State.serveOp_keeps
                | with_reducible apply State.complete_keeps | with_reducible apply State.orElse_keeps | with_reducible apply State.bstClear_keeps
                | with_reducible apply State.begin_keeps | with_reducible apply Keeps.ite | with_reducible apply Keeps.foldl
                | with_reducible apply Keeps.ite_fst | with_reducible apply Keeps.foldl_fst | split | dsimp only | (intro _; rfl) | (intro _; intros)

theorem execBstConfig_keeps {σ s : State} (dt : Nat) (c : Sys2Proof.Machine.Cmd) (hσ : Keeps σ (s.tick dt)) : AKeeps σ (execBstConfig dt c s) := by
  unfold execBstConfig
  refine ⟨_, rfl, ?_⟩
  repeat' first | with_reducible assumption | with_reducible apply State.done_keeps | with_reducible apply State.serveOp_keeps
                | with_reducible apply State.orElse_keeps | with_reducible apply State.complete_keeps | with_reducible apply State.putImage_keeps
                | with_reducible apply State.begin_keeps | with_reducible apply Keeps.ite | with_reducible apply Keeps.foldl
                | with_reducible apply Keeps.ite_fst | with_reducible apply Keeps.foldl_fst | split | dsimp only | (intro _; rfl) | (intro _; intros)

theorem State.bstDone_keeps {σ s : State} (hσ : Keeps σ s) : Keeps σ (State.bstDone s) := by
  unfold State.bstDone
  repeat' first | with_reducible assumption | with_reducible apply State.chgDone_keeps | with_reducible apply State.cmdDone_keeps
                | with_reducible apply Keeps.ite | with_reducible apply Keeps.foldl | with_reducible apply Keeps.ite_fst
                | with_reducible apply Keeps.foldl_fst | split | dsimp only | (intro _; rfl) | (intro _; intros)

theorem execBstReady_keeps {σ s : State} (dt : Nat) (vbst : Nat) (hσ : Keeps σ (s.tick dt)) : AKeeps σ (execBstReady dt vbst s) := by
  unfold execBstReady
  refine ⟨_, rfl, ?_⟩
  repeat' first | with_reducible assumption | with_reducible apply State.done_keeps | with_reducible apply State.bstDone_keeps
                | with_reducible apply State.objEvent_keeps | with_reducible apply State.setSt_keeps | with_reducible apply State.wr_keeps
                | with_reducible apply Keeps.ite | with_reducible apply Keeps.foldl | with_reducible apply Keeps.ite_fst
                | with_reducible apply Keeps.foldl_fst | split | dsimp only | (intro _; rfl) | (intro _; intros)

theorem execBstShort_keeps {σ s : State} (dt : Nat) (vbst : Nat) (hσ : Keeps σ (s.tick dt)) : AKeeps σ (execBstShort dt vbst s) := by
  unfold execBstShort
  refine ⟨_, rfl, ?_⟩
  repeat' first | with_reducible assumption | with_reducible apply State.done_keeps | with_reducible apply State.objTrip_keeps
                | with_reducible apply State.wr_keeps | with_reducible apply Keeps.ite | with_reducible apply Keeps.foldl
                | with_reducible apply Keeps.ite_fst | with_reducible apply Keeps.foldl_fst | split | dsimp only | (intro _; rfl) | (intro _; intros)

theorem execBstThermal_keeps {σ s : State} (dt : Nat) (m : Sys2Proof.Machine.Meas) (hσ : Keeps σ (s.tick dt)) : AKeeps σ (execBstThermal dt m s) := by
  unfold execBstThermal
  refine ⟨_, rfl, ?_⟩
  repeat' first | with_reducible assumption | with_reducible apply State.done_keeps | with_reducible apply State.objTrip_keeps
                | with_reducible apply State.measure_keeps | with_reducible apply State.submitOwn_keeps | with_reducible apply Keeps.ite
                | with_reducible apply Keeps.foldl | with_reducible apply Keeps.ite_fst | with_reducible apply Keeps.foldl_fst | split | dsimp only
                | (intro _; rfl) | (intro _; intros)

theorem State.bstHalt_keeps {σ s : State} (b : Bool) (hσ : Keeps σ s) : Keeps σ (State.bstHalt s b) := by
  unfold State.bstHalt
  repeat' first | with_reducible assumption | with_reducible apply Keeps.ite | with_reducible apply Keeps.foldl | with_reducible apply Keeps.ite_fst
                | with_reducible apply Keeps.foldl_fst | split | dsimp only | (intro _; rfl) | (intro _; intros)
                | (refine Keeps.same (by rfl) (by rfl) (by rfl) (by rfl) ?_)

theorem execBstOvervoltageStop_keeps {σ s : State} (dt : Nat) (vbst : Nat) (hσ : Keeps σ (s.tick dt)) : AKeeps σ
    (execBstOvervoltageStop dt vbst s) := by
  unfold execBstOvervoltageStop
  refine ⟨_, rfl, ?_⟩
  repeat' first | with_reducible assumption | with_reducible apply State.done_keeps | with_reducible apply State.bstHalt_keeps
                | with_reducible apply State.wr_keeps | with_reducible apply Keeps.ite | with_reducible apply Keeps.foldl
                | with_reducible apply Keeps.ite_fst | with_reducible apply Keeps.foldl_fst | split | dsimp only | (intro _; rfl) | (intro _; intros)

theorem execBstOvervoltageResume_keeps {σ s : State} (dt : Nat) (vbst : Nat) (hσ : Keeps σ (s.tick dt)) : AKeeps σ
    (execBstOvervoltageResume dt vbst s) := by
  unfold execBstOvervoltageResume
  refine ⟨_, rfl, ?_⟩
  repeat' first | with_reducible assumption | with_reducible apply State.done_keeps | with_reducible apply State.bstHalt_keeps
                | with_reducible apply State.wr_keeps | with_reducible apply Keeps.ite | with_reducible apply Keeps.foldl
                | with_reducible apply Keeps.ite_fst | with_reducible apply Keeps.foldl_fst | split | dsimp only | (intro _; rfl) | (intro _; intros)

theorem execBstHeadroomSet_keeps {σ s : State} (dt : Nat) (vs6 : Nat) (vbst : Nat) (hσ : Keeps σ (s.tick dt)) : AKeeps σ
    (execBstHeadroomSet dt vs6 vbst s) := by
  unfold execBstHeadroomSet
  refine ⟨_, rfl, ?_⟩
  repeat' first | with_reducible assumption | with_reducible apply State.done_keeps | with_reducible apply State.bstDone_keeps
                | with_reducible apply State.wr_keeps | with_reducible apply State.setVolt_keeps | with_reducible apply Keeps.ite
                | with_reducible apply Keeps.foldl | with_reducible apply Keeps.ite_fst | with_reducible apply Keeps.foldl_fst | split | dsimp only
                | (intro _; rfl) | (intro _; intros)

theorem execBstHeadroomClear_keeps {σ s : State} (dt : Nat) (vs6 : Nat) (hσ : Keeps σ (s.tick dt)) : AKeeps σ (execBstHeadroomClear dt vs6 s) := by
  unfold execBstHeadroomClear
  refine ⟨_, rfl, ?_⟩
  repeat' first | with_reducible assumption | with_reducible apply State.done_keeps | with_reducible apply State.wr_keeps
                | with_reducible apply State.setVolt_keeps | with_reducible apply Keeps.ite | with_reducible apply Keeps.foldl
                | with_reducible apply Keeps.ite_fst | with_reducible apply Keeps.foldl_fst | split | dsimp only | (intro _; rfl) | (intro _; intros)

theorem execHbOff_keeps {σ s : State} (dt : Nat) (c : Sys2Proof.Machine.Cmd) (hσ : Keeps σ (s.tick dt)) : AKeeps σ (execHbOff dt c s) := by
  unfold execHbOff
  refine ⟨_, rfl, ?_⟩
  repeat' first | with_reducible assumption | with_reducible apply State.done_keeps | with_reducible apply State.serveOp_keeps
                | with_reducible apply State.orElse_keeps | with_reducible apply State.complete_keeps | with_reducible apply State.commanded_keeps
                | with_reducible apply State.hbOff_keeps | with_reducible apply State.begin_keeps | with_reducible apply Keeps.ite
                | with_reducible apply Keeps.foldl | with_reducible apply Keeps.ite_fst | with_reducible apply Keeps.foldl_fst | split | dsimp only
                | (intro _; rfl) | (intro _; intros)

theorem State.hbCmd_keeps {σ s : State} (c : Sys2Proof.Machine.Cmd) (hσ : Keeps σ s) : Keeps σ (State.hbCmd s c) := by
  unfold State.hbCmd
  repeat' first | with_reducible assumption | with_reducible apply State.orElse_keeps | with_reducible apply State.descClamp_keeps
                | with_reducible apply State.submit_keeps | with_reducible apply State.hbChange_keeps | with_reducible apply Keeps.ite
                | with_reducible apply Keeps.foldl | with_reducible apply Keeps.ite_fst | with_reducible apply Keeps.foldl_fst | split | dsimp only
                | (intro _; rfl) | (intro _; intros)

theorem execHbDrive_keeps {σ s : State} (dt : Nat) (c : Sys2Proof.Machine.Cmd) (hσ : Keeps σ (s.tick dt)) : AKeeps σ (execHbDrive dt c s) := by
  unfold execHbDrive
  refine ⟨_, rfl, ?_⟩
  repeat' first | with_reducible assumption | with_reducible apply State.done_keeps | with_reducible apply State.serveOp_keeps
                | with_reducible apply State.hbCmd_keeps | with_reducible apply Keeps.ite | with_reducible apply Keeps.foldl
                | with_reducible apply Keeps.ite_fst | with_reducible apply Keeps.foldl_fst | split | dsimp only | (intro _; rfl) | (intro _; intros)

theorem execHbMove_keeps {σ s : State} (dt : Nat) (c : Sys2Proof.Machine.Cmd) (hσ : Keeps σ (s.tick dt)) : AKeeps σ (execHbMove dt c s) := by
  unfold execHbMove
  refine ⟨_, rfl, ?_⟩
  repeat' first | with_reducible assumption | with_reducible apply State.done_keeps | with_reducible apply State.serveOp_keeps
                | with_reducible apply State.hbCmd_keeps | with_reducible apply Keeps.ite | with_reducible apply Keeps.foldl
                | with_reducible apply Keeps.ite_fst | with_reducible apply Keeps.foldl_fst | split | dsimp only | (intro _; rfl) | (intro _; intros)

theorem execHbBrake_keeps {σ s : State} (dt : Nat) (c : Sys2Proof.Machine.Cmd) (hσ : Keeps σ (s.tick dt)) : AKeeps σ (execHbBrake dt c s) := by
  unfold execHbBrake
  refine ⟨_, rfl, ?_⟩
  repeat' first | with_reducible assumption | with_reducible apply State.done_keeps | with_reducible apply State.serveOp_keeps
                | with_reducible apply State.orElse_keeps | with_reducible apply State.descClamp_keeps | with_reducible apply State.begin_keeps
                | with_reducible apply State.hbMotionEnd_keeps | with_reducible apply State.complete_keeps
                | with_reducible apply State.commanded_keeps | with_reducible apply State.hbStop_keeps | with_reducible apply State.endWaiting_keeps
                | with_reducible apply Keeps.ite | with_reducible apply Keeps.foldl | with_reducible apply Keeps.ite_fst
                | with_reducible apply Keeps.foldl_fst | split | dsimp only | (intro _; rfl) | (intro _; intros)

theorem execHbClearFault_keeps {σ s : State} (dt : Nat) (c : Sys2Proof.Machine.Cmd) (hσ : Keeps σ (s.tick dt)) : AKeeps σ
    (execHbClearFault dt c s) := by
  unfold execHbClearFault
  refine ⟨_, rfl, ?_⟩
  repeat' first | with_reducible assumption | with_reducible apply State.done_keeps | with_reducible apply State.serveOp_keeps
                | with_reducible apply State.orElse_keeps | with_reducible apply State.complete_keeps | with_reducible apply State.commanded_keeps
                | with_reducible apply State.clearPersists_keeps | with_reducible apply State.hbClear_keeps | with_reducible apply State.begin_keeps
                | with_reducible apply Keeps.ite | with_reducible apply Keeps.foldl | with_reducible apply Keeps.ite_fst
                | with_reducible apply Keeps.foldl_fst | split | dsimp only | (intro _; rfl) | (intro _; intros)

theorem execHbDiagCheck_keeps {σ s : State} (dt : Nat) (c : Sys2Proof.Machine.Cmd) (hσ : Keeps σ (s.tick dt)) : AKeeps σ
    (execHbDiagCheck dt c s) := by
  unfold execHbDiagCheck
  refine ⟨_, rfl, ?_⟩
  repeat' first | with_reducible assumption | with_reducible apply State.done_keeps | with_reducible apply State.serveOp_keeps
                | with_reducible apply State.orElse_keeps | with_reducible apply State.checkCmd_keeps | with_reducible apply Keeps.ite
                | with_reducible apply Keeps.foldl | with_reducible apply Keeps.ite_fst | with_reducible apply Keeps.foldl_fst | split | dsimp only
                | (intro _; rfl) | (intro _; intros)

theorem execHbSetpos_keeps {σ s : State} (dt : Nat) (c : Sys2Proof.Machine.Cmd) (hσ : Keeps σ (s.tick dt)) : AKeeps σ (execHbSetpos dt c s) := by
  unfold execHbSetpos
  refine ⟨_, rfl, ?_⟩
  repeat' first | with_reducible assumption | with_reducible apply State.done_keeps | with_reducible apply State.serveOp_keeps
                | with_reducible apply State.orElse_keeps | with_reducible apply State.complete_keeps | with_reducible apply State.commanded_keeps
                | with_reducible apply State.wr_keeps | with_reducible apply State.begin_keeps | with_reducible apply Keeps.ite
                | with_reducible apply Keeps.foldl | with_reducible apply Keeps.ite_fst | with_reducible apply Keeps.foldl_fst | split | dsimp only
                | (intro _; rfl) | (intro _; intros)

theorem execHbConfig_keeps {σ s : State} (dt : Nat) (c : Sys2Proof.Machine.Cmd) (hσ : Keeps σ (s.tick dt)) : AKeeps σ (execHbConfig dt c s) := by
  unfold execHbConfig
  refine ⟨_, rfl, ?_⟩
  repeat' first | with_reducible assumption | with_reducible apply State.done_keeps | with_reducible apply State.serveOp_keeps
                | with_reducible apply State.orElse_keeps | with_reducible apply State.complete_keeps | with_reducible apply State.putImage_keeps
                | with_reducible apply State.begin_keeps | with_reducible apply Keeps.ite | with_reducible apply Keeps.foldl
                | with_reducible apply Keeps.ite_fst | with_reducible apply Keeps.foldl_fst | split | dsimp only | (intro _; rfl) | (intro _; intros)

theorem execHbConfig2_keeps {σ s : State} (dt : Nat) (c : Sys2Proof.Machine.Cmd) (hσ : Keeps σ (s.tick dt)) : AKeeps σ (execHbConfig2 dt c s) := by
  unfold execHbConfig2
  refine ⟨_, rfl, ?_⟩
  repeat' first | with_reducible assumption | with_reducible apply State.done_keeps | with_reducible apply State.serveOp_keeps
                | with_reducible apply State.orElse_keeps | with_reducible apply State.complete_keeps | with_reducible apply State.putImage_keeps
                | with_reducible apply State.begin_keeps | with_reducible apply Keeps.ite | with_reducible apply Keeps.foldl
                | with_reducible apply Keeps.ite_fst | with_reducible apply Keeps.foldl_fst | split | dsimp only | (intro _; rfl) | (intro _; intros)

theorem State.hbAmps_keeps {σ s : State} (n : Nat) (a : Nat) (hσ : Keeps σ s) : Keeps σ (State.hbAmps s n a) := by
  unfold State.hbAmps
  repeat' first | with_reducible assumption | with_reducible apply State.modBridge_keeps | with_reducible apply State.wr_keeps
                | with_reducible apply Keeps.ite | with_reducible apply Keeps.foldl | with_reducible apply Keeps.ite_fst
                | with_reducible apply Keeps.foldl_fst | split | dsimp only | (intro _; rfl) | (intro _; intros)

theorem execRippleCount_keeps {σ s : State} (dt : Nat) (n : Nat) (rate : Nat) (a : Sys2Proof.Machine.RippleSeen) (hσ : Keeps σ (s.tick dt)) : AKeeps σ
    (execRippleCount dt n rate a s) := by
  unfold execRippleCount
  refine ⟨_, rfl, ?_⟩
  repeat' first | with_reducible assumption | with_reducible apply State.done_keeps | with_reducible apply State.hbAmps_keeps
                | with_reducible apply State.wr_keeps | with_reducible apply State.modBridge_keeps | with_reducible apply State.hbEnd_keeps
                | with_reducible apply Keeps.ite | with_reducible apply Keeps.foldl | with_reducible apply Keeps.ite_fst
                | with_reducible apply Keeps.foldl_fst | split | dsimp only | (intro _; rfl) | (intro _; intros)

theorem execHbStall_keeps {σ s : State} (dt : Nat) (n : Nat) (a : Sys2Proof.Machine.Lasting) (hσ : Keeps σ (s.tick dt)) : AKeeps σ
    (execHbStall dt n a s) := by
  unfold execHbStall
  refine ⟨_, rfl, ?_⟩
  repeat' first | with_reducible assumption | with_reducible apply State.done_keeps | with_reducible apply State.hbAmps_keeps
                | with_reducible apply State.hbEnd_keeps | with_reducible apply State.wr_keeps | with_reducible apply Keeps.ite
                | with_reducible apply Keeps.foldl | with_reducible apply Keeps.ite_fst | with_reducible apply Keeps.foldl_fst | split | dsimp only
                | (intro _; rfl) | (intro _; intros)

theorem execHbTmaxExpiry_keeps {σ s : State} (dt : Nat) (n : Nat) (hσ : Keeps σ (s.tick dt)) : AKeeps σ (execHbTmaxExpiry dt n s) := by
  unfold execHbTmaxExpiry
  refine ⟨_, rfl, ?_⟩
  repeat' first | with_reducible assumption | with_reducible apply State.done_keeps | with_reducible apply State.hbEnd_keeps
                | with_reducible apply Keeps.ite | with_reducible apply Keeps.foldl | with_reducible apply Keeps.ite_fst
                | with_reducible apply Keeps.foldl_fst | split | dsimp only | (intro _; rfl) | (intro _; intros)

theorem execHbTrap_keeps {σ s : State} (dt : Nat) (n : Nat) (a : Nat) (mean : Nat) (hσ : Keeps σ (s.tick dt)) : AKeeps σ
    (execHbTrap dt n a mean s) := by
  unfold execHbTrap
  refine ⟨_, rfl, ?_⟩
  repeat' first | with_reducible assumption | with_reducible apply State.done_keeps | with_reducible apply State.hbAmps_keeps
                | with_reducible apply State.raise_keeps | with_reducible apply State.wr_keeps | with_reducible apply State.hbSt_keeps
                | with_reducible apply State.modBridge_keeps | with_reducible apply Keeps.ite | with_reducible apply Keeps.foldl
                | with_reducible apply Keeps.ite_fst | with_reducible apply Keeps.foldl_fst | split | dsimp only | (intro _; rfl) | (intro _; intros)

theorem execHbRampEnd_keeps {σ s : State} (dt : Nat) (n : Nat) (hσ : Keeps σ (s.tick dt)) : AKeeps σ (execHbRampEnd dt n s) := by
  unfold execHbRampEnd
  refine ⟨_, rfl, ?_⟩
  repeat' first | with_reducible assumption | with_reducible apply State.done_keeps | with_reducible apply State.wr_keeps
                | with_reducible apply State.hbSt_keeps | with_reducible apply State.modBridge_keeps | with_reducible apply Keeps.ite
                | with_reducible apply Keeps.foldl | with_reducible apply Keeps.ite_fst | with_reducible apply Keeps.foldl_fst | split | dsimp only
                | (intro _; rfl) | (intro _; intros)

theorem execHbReverseEnd_keeps {σ s : State} (dt : Nat) (n : Nat) (hσ : Keeps σ (s.tick dt)) : AKeeps σ (execHbReverseEnd dt n s) := by
  unfold execHbReverseEnd
  refine ⟨_, rfl, ?_⟩
  repeat' first | with_reducible assumption | with_reducible apply State.done_keeps | with_reducible apply State.hbEnd_keeps
                | with_reducible apply State.hbGo_keeps | with_reducible apply State.modBridge_keeps | with_reducible apply Keeps.ite
                | with_reducible apply Keeps.foldl | with_reducible apply Keeps.ite_fst | with_reducible apply Keeps.foldl_fst | split | dsimp only
                | (intro _; rfl) | (intro _; intros)

theorem execHbShort_keeps {σ s : State} (dt : Nat) (n : Nat) (m : Sys2Proof.Machine.Meas) (hσ : Keeps σ (s.tick dt)) : AKeeps σ
    (execHbShort dt n m s) := by
  unfold execHbShort
  refine ⟨_, rfl, ?_⟩
  repeat' first | with_reducible assumption | with_reducible apply State.done_keeps | with_reducible apply State.hbTrip_keeps
                | with_reducible apply State.measure_keeps | with_reducible apply Keeps.ite | with_reducible apply Keeps.foldl
                | with_reducible apply Keeps.ite_fst | with_reducible apply Keeps.foldl_fst | split | dsimp only | (intro _; rfl) | (intro _; intros)

theorem execHbThermal_keeps {σ s : State} (dt : Nat) (n : Nat) (m : Sys2Proof.Machine.Meas) (hσ : Keeps σ (s.tick dt)) : AKeeps σ
    (execHbThermal dt n m s) := by
  unfold execHbThermal
  refine ⟨_, rfl, ?_⟩
  repeat' first | with_reducible assumption | with_reducible apply State.done_keeps | with_reducible apply State.hbTrip_keeps
                | with_reducible apply State.measure_keeps | with_reducible apply Keeps.ite | with_reducible apply Keeps.foldl
                | with_reducible apply Keeps.ite_fst | with_reducible apply Keeps.foldl_fst | split | dsimp only | (intro _; rfl) | (intro _; intros)

theorem execHbThermalRestart_keeps {σ s : State} (dt : Nat) (n : Nat) (m : Sys2Proof.Machine.Meas) (hσ : Keeps σ (s.tick dt)) : AKeeps σ
    (execHbThermalRestart dt n m s) := by
  unfold execHbThermalRestart
  refine ⟨_, rfl, ?_⟩
  repeat' first | with_reducible assumption | with_reducible apply State.done_keeps | with_reducible apply State.restart_keeps
                | with_reducible apply State.measure_keeps | with_reducible apply Keeps.ite | with_reducible apply Keeps.foldl
                | with_reducible apply Keeps.ite_fst | with_reducible apply Keeps.foldl_fst | split | dsimp only | (intro _; rfl) | (intro _; intros)

theorem execHbOpenDetect_keeps {σ s : State} (dt : Nat) (n : Nat) (hσ : Keeps σ (s.tick dt)) : AKeeps σ (execHbOpenDetect dt n s) := by
  unfold execHbOpenDetect
  refine ⟨_, rfl, ?_⟩
  repeat' first | with_reducible assumption | with_reducible apply State.done_keeps | with_reducible apply State.judged_keeps
                | with_reducible apply Keeps.ite | with_reducible apply Keeps.foldl | with_reducible apply Keeps.ite_fst
                | with_reducible apply Keeps.foldl_fst | split | dsimp only | (intro _; rfl) | (intro _; intros)

theorem State.hbPeriod_keeps {σ s : State} (n : Nat) (lim : Bool) (hσ : Keeps σ s) : Keeps σ (State.hbPeriod s n lim) := by
  unfold State.hbPeriod
  repeat' first | with_reducible assumption | with_reducible apply State.wrb_keeps | with_reducible apply State.wr_keeps
                | with_reducible apply State.modObj_keeps | with_reducible apply State.chgDone_keeps | with_reducible apply State.cmdDone_keeps
                | with_reducible apply Keeps.ite | with_reducible apply Keeps.foldl | with_reducible apply Keeps.ite_fst
                | with_reducible apply Keeps.foldl_fst | split | dsimp only | (intro _; rfl) | (intro _; intros)

theorem State.hbBrakePeriod_keeps {σ s : State} (n : Nat) (lim : Bool) (hσ : Keeps σ s) : Keeps σ (State.hbBrakePeriod s n lim) := by
  unfold State.hbBrakePeriod
  repeat' first | with_reducible assumption | with_reducible apply State.modBridge_keeps | with_reducible apply State.modObj_keeps
                | with_reducible apply Keeps.ite | with_reducible apply Keeps.foldl | with_reducible apply Keeps.ite_fst
                | with_reducible apply Keeps.foldl_fst | split | dsimp only | (intro _; rfl) | (intro _; intros)

theorem State.chPeriod_keeps {σ s : State} (o : Nat) (hσ : Keeps σ s) : Keeps σ (State.chPeriod s o) := by
  unfold State.chPeriod
  repeat' first | with_reducible assumption | with_reducible apply State.noteGate_keeps | with_reducible apply State.modObj_keeps
                | with_reducible apply State.chgDone_keeps | with_reducible apply State.cmdDone_keeps | with_reducible apply Keeps.ite
                | with_reducible apply Keeps.foldl | with_reducible apply Keeps.ite_fst | with_reducible apply Keeps.foldl_fst | split | dsimp only
                | (intro _; rfl) | (intro _; intros)

theorem execPwmPeriodStart_keeps {σ s : State} (dt : Nat) (o : Sys2Proof.Machine.Seen) (lim : Bool) (hσ : Keeps σ (s.tick dt)) : AKeeps σ
    (execPwmPeriodStart dt o lim s) := by
  unfold execPwmPeriodStart
  refine ⟨_, rfl, ?_⟩
  repeat' first | with_reducible assumption | with_reducible apply State.done_keeps | with_reducible apply State.hbPeriod_keeps
                | with_reducible apply State.hbBrakePeriod_keeps | with_reducible apply State.chPeriod_keeps | with_reducible apply State.noteVd_keeps
                | with_reducible apply Keeps.ite | with_reducible apply Keeps.foldl | with_reducible apply Keeps.ite_fst
                | with_reducible apply Keeps.foldl_fst | split | dsimp only | (intro _; rfl) | (intro _; intros)

theorem execLoopOpen_keeps {σ s : State} (dt : Nat) (c : Sys2Proof.Machine.Cmd) (hσ : Keeps σ (s.tick dt)) : AKeeps σ (execLoopOpen dt c s) := by
  unfold execLoopOpen
  refine ⟨_, rfl, ?_⟩
  repeat' first | with_reducible assumption | with_reducible apply State.done_keeps | with_reducible apply State.serveOp_keeps
                | with_reducible apply State.orElse_keeps | with_reducible apply State.descClamp_keeps | with_reducible apply State.complete_keeps
                | with_reducible apply State.loopToOpen_keeps | with_reducible apply State.loopMode_keeps | with_reducible apply State.begin_keeps
                | with_reducible apply Keeps.ite | with_reducible apply Keeps.foldl | with_reducible apply Keeps.ite_fst
                | with_reducible apply Keeps.foldl_fst | split | dsimp only | (intro _; rfl) | (intro _; intros)

theorem execLoopClose_keeps {σ s : State} (dt : Nat) (c : Sys2Proof.Machine.Cmd) (hσ : Keeps σ (s.tick dt)) : AKeeps σ (execLoopClose dt c s) := by
  unfold execLoopClose
  refine ⟨_, rfl, ?_⟩
  repeat' first | with_reducible assumption | with_reducible apply State.done_keeps | with_reducible apply State.serveOp_keeps
                | with_reducible apply State.orElse_keeps | with_reducible apply State.descClamp_keeps | with_reducible apply State.putImage_keeps
                | with_reducible apply State.loopEngage_keeps | with_reducible apply State.submit_keeps | with_reducible apply Keeps.ite
                | with_reducible apply Keeps.foldl | with_reducible apply Keeps.ite_fst | with_reducible apply Keeps.foldl_fst | split | dsimp only
                | (intro _; rfl) | (intro _; intros)

theorem execLoopSetpoint_keeps {σ s : State} (dt : Nat) (c : Sys2Proof.Machine.Cmd) (hσ : Keeps σ (s.tick dt)) : AKeeps σ
    (execLoopSetpoint dt c s) := by
  unfold execLoopSetpoint
  refine ⟨_, rfl, ?_⟩
  repeat' first | with_reducible assumption | with_reducible apply State.done_keeps | with_reducible apply State.serveOp_keeps
                | with_reducible apply State.complete_keeps | with_reducible apply State.wr_keeps | with_reducible apply State.begin_keeps
                | with_reducible apply Keeps.ite | with_reducible apply Keeps.foldl | with_reducible apply Keeps.ite_fst
                | with_reducible apply Keeps.foldl_fst | split | dsimp only | (intro _; rfl) | (intro _; intros)

theorem execClearFlags_keeps {σ s : State} (dt : Nat) (c : Sys2Proof.Machine.Cmd) (hσ : Keeps σ (s.tick dt)) : AKeeps σ (execClearFlags dt c s) := by
  unfold execClearFlags
  refine ⟨_, rfl, ?_⟩
  repeat' first | with_reducible assumption | with_reducible apply State.done_keeps | with_reducible apply State.serveOp_keeps
                | with_reducible apply State.complete_keeps | with_reducible apply State.wr_keeps | with_reducible apply State.begin_keeps
                | with_reducible apply Keeps.ite | with_reducible apply Keeps.foldl | with_reducible apply Keeps.ite_fst
                | with_reducible apply Keeps.foldl_fst | split | dsimp only | (intro _; rfl) | (intro _; intros)

theorem State.loopImage_keeps {σ s : State} (c : Sys2Proof.Machine.Cmd) (off : Nat) (k : Nat) (hσ : Keeps σ s) : Keeps σ
    (State.loopImage s c off k) := by
  unfold State.loopImage
  repeat' first | with_reducible assumption | with_reducible apply State.complete_keeps | with_reducible apply State.loopCount_keeps
                | with_reducible apply State.putImage_keeps | with_reducible apply State.begin_keeps | with_reducible apply Keeps.ite
                | with_reducible apply Keeps.foldl | with_reducible apply Keeps.ite_fst | with_reducible apply Keeps.foldl_fst | split | dsimp only
                | (intro _; rfl) | (intro _; intros)

theorem execLoopConfig_keeps {σ s : State} (dt : Nat) (c : Sys2Proof.Machine.Cmd) (hσ : Keeps σ (s.tick dt)) : AKeeps σ (execLoopConfig dt c s) := by
  unfold execLoopConfig
  refine ⟨_, rfl, ?_⟩
  repeat' first | with_reducible assumption | with_reducible apply State.done_keeps | with_reducible apply State.serveOp_keeps
                | with_reducible apply State.loopImage_keeps | with_reducible apply Keeps.ite | with_reducible apply Keeps.foldl
                | with_reducible apply Keeps.ite_fst | with_reducible apply Keeps.foldl_fst | split | dsimp only | (intro _; rfl) | (intro _; intros)

theorem execLoopCoef_keeps {σ s : State} (dt : Nat) (c : Sys2Proof.Machine.Cmd) (hσ : Keeps σ (s.tick dt)) : AKeeps σ (execLoopCoef dt c s) := by
  unfold execLoopCoef
  refine ⟨_, rfl, ?_⟩
  repeat' first | with_reducible assumption | with_reducible apply State.done_keeps | with_reducible apply State.serveOp_keeps
                | with_reducible apply State.loopImage_keeps | with_reducible apply Keeps.ite | with_reducible apply Keeps.foldl
                | with_reducible apply Keeps.ite_fst | with_reducible apply Keeps.foldl_fst | split | dsimp only | (intro _; rfl) | (intro _; intros)

theorem execLoopLimits_keeps {σ s : State} (dt : Nat) (c : Sys2Proof.Machine.Cmd) (hσ : Keeps σ (s.tick dt)) : AKeeps σ (execLoopLimits dt c s) := by
  unfold execLoopLimits
  refine ⟨_, rfl, ?_⟩
  repeat' first | with_reducible assumption | with_reducible apply State.done_keeps | with_reducible apply State.serveOp_keeps
                | with_reducible apply State.loopImage_keeps | with_reducible apply Keeps.ite | with_reducible apply Keeps.foldl
                | with_reducible apply Keeps.ite_fst | with_reducible apply Keeps.foldl_fst | split | dsimp only | (intro _; rfl) | (intro _; intros)

theorem execLoopSlew_keeps {σ s : State} (dt : Nat) (c : Sys2Proof.Machine.Cmd) (hσ : Keeps σ (s.tick dt)) : AKeeps σ (execLoopSlew dt c s) := by
  unfold execLoopSlew
  refine ⟨_, rfl, ?_⟩
  repeat' first | with_reducible assumption | with_reducible apply State.done_keeps | with_reducible apply State.serveOp_keeps
                | with_reducible apply State.complete_keeps | with_reducible apply State.putImage_keeps | with_reducible apply State.begin_keeps
                | with_reducible apply Keeps.ite | with_reducible apply Keeps.foldl | with_reducible apply Keeps.ite_fst
                | with_reducible apply Keeps.foldl_fst | split | dsimp only | (intro _; rfl) | (intro _; intros)

theorem execLoopSample_keeps {σ s : State} (dt : Nat) (n : Nat) (age : Nat) (raw : Nat) (hσ : Keeps σ (s.tick dt)) : AKeeps σ
    (execLoopSample dt n age raw s) := by
  unfold execLoopSample
  refine ⟨_, rfl, ?_⟩
  repeat' first | with_reducible assumption | with_reducible apply State.done_keeps | with_reducible apply State.modLoop_keeps
                | with_reducible apply State.loopValid_keeps | with_reducible apply State.loopMiss_keeps | with_reducible apply Keeps.ite
                | with_reducible apply Keeps.foldl | with_reducible apply Keeps.ite_fst | with_reducible apply Keeps.foldl_fst | split | dsimp only
                | (intro _; rfl) | (intro _; intros)

theorem execSwConfig_keeps {σ s : State} (dt : Nat) (c : Sys2Proof.Machine.Cmd) (hσ : Keeps σ (s.tick dt)) : AKeeps σ (execSwConfig dt c s) := by
  unfold execSwConfig
  refine ⟨_, rfl, ?_⟩
  repeat' first | with_reducible assumption | with_reducible apply State.done_keeps | with_reducible apply State.serveOp_keeps
                | with_reducible apply State.complete_keeps | with_reducible apply State.putImage_keeps | with_reducible apply State.begin_keeps
                | with_reducible apply Keeps.ite | with_reducible apply Keeps.foldl | with_reducible apply Keeps.ite_fst
                | with_reducible apply Keeps.foldl_fst | split | dsimp only | (intro _; rfl) | (intro _; intros)

theorem State.parkCheck_keeps {σ s : State} (hσ : Keeps σ s) : Keeps σ (State.parkCheck s) := by
  unfold State.parkCheck
  repeat' first | with_reducible assumption | with_reducible apply State.hbEnd_keeps | with_reducible apply Keeps.ite
                | with_reducible apply Keeps.foldl | with_reducible apply Keeps.ite_fst | with_reducible apply Keeps.foldl_fst | split | dsimp only
                | (intro _; rfl) | (intro _; intros)

theorem State.swTake_keeps {σ s : State} (n : Nat) (vin : Nat) (hσ : Keeps σ s) : Keeps σ (State.swTake s n vin) := by
  unfold State.swTake
  repeat' first | with_reducible assumption | with_reducible apply State.modSw_keeps | with_reducible apply State.wrb_keeps
                | with_reducible apply State.wr_keeps | with_reducible apply State.bump_keeps | with_reducible apply State.tw_keeps
                | with_reducible apply State.raise_keeps | with_reducible apply Keeps.ite | with_reducible apply Keeps.foldl
                | with_reducible apply Keeps.ite_fst | with_reducible apply Keeps.foldl_fst | split | dsimp only | (intro _; rfl) | (intro _; intros)

theorem State.swLatch_keeps {σ s : State} (n : Nat) (poll : Bool) (hσ : Keeps σ s) : Keeps σ (State.swLatch s n poll) := by
  unfold State.swLatch
  repeat' first | with_reducible assumption | with_reducible apply State.modSw_keeps | with_reducible apply State.wr_keeps
                | with_reducible apply Keeps.ite | with_reducible apply Keeps.foldl | with_reducible apply Keeps.ite_fst
                | with_reducible apply Keeps.foldl_fst | split | dsimp only | (intro _; rfl) | (intro _; intros)

theorem State.swStatic_keeps {σ s : State} (n : Nat) (vin : Sys2Proof.Machine.Lasting) (hσ : Keeps σ s) : Keeps σ (State.swStatic s n vin).1 := by
  unfold State.swStatic
  repeat' first | with_reducible assumption | with_reducible apply State.modSw_keeps | with_reducible apply State.swLatch_keeps
                | with_reducible apply Keeps.ite | with_reducible apply Keeps.foldl | with_reducible apply Keeps.ite_fst
                | with_reducible apply Keeps.foldl_fst | split | dsimp only | (intro _; rfl) | (intro _; intros)

theorem State.swPoll_keeps {σ s : State} (n : Nat) (vin : Nat) (hσ : Keeps σ s) : Keeps σ (State.swPoll s n vin).1 := by
  unfold State.swPoll
  repeat' first | with_reducible assumption | with_reducible apply State.modSw_keeps | with_reducible apply State.swLatch_keeps
                | with_reducible apply Keeps.ite | with_reducible apply Keeps.foldl | with_reducible apply Keeps.ite_fst
                | with_reducible apply Keeps.foldl_fst | split | dsimp only | (intro _; rfl) | (intro _; intros)

theorem execIiConfig_keeps {σ s : State} (dt : Nat) (c : Sys2Proof.Machine.Cmd) (hσ : Keeps σ (s.tick dt)) : AKeeps σ (execIiConfig dt c s) := by
  unfold execIiConfig
  refine ⟨_, rfl, ?_⟩
  repeat' first | with_reducible assumption | with_reducible apply State.done_keeps | with_reducible apply State.serveOp_keeps
                | with_reducible apply State.putImage_keeps | with_reducible apply State.begin_keeps | with_reducible apply Keeps.ite
                | with_reducible apply Keeps.foldl | with_reducible apply Keeps.ite_fst | with_reducible apply Keeps.foldl_fst | split | dsimp only
                | (intro _; rfl) | (intro _; intros) | (refine Keeps.same (by rfl) (by rfl) (by rfl) (by rfl) ?_)

theorem execCountClear_keeps {σ s : State} (dt : Nat) (c : Sys2Proof.Machine.Cmd) (hσ : Keeps σ (s.tick dt)) : AKeeps σ (execCountClear dt c s) := by
  unfold execCountClear
  refine ⟨_, rfl, ?_⟩
  repeat' first | with_reducible assumption | with_reducible apply State.done_keeps | with_reducible apply State.serveOp_keeps
                | with_reducible apply State.complete_keeps | with_reducible apply State.modIi_keeps | with_reducible apply State.begin_keeps
                | with_reducible apply Keeps.ite | with_reducible apply Keeps.foldl | with_reducible apply Keeps.ite_fst
                | with_reducible apply Keeps.foldl_fst | split | dsimp only | (intro _; rfl) | (intro _; intros)

theorem execWireBreak_keeps {σ s : State} (dt : Nat) (n : Nat) (a : Sys2Proof.Machine.Lasting) (hσ : Keeps σ (s.tick dt)) : AKeeps σ
    (execWireBreak dt n a s) := by
  unfold execWireBreak
  refine ⟨_, rfl, ?_⟩
  repeat' first | with_reducible assumption | with_reducible apply State.done_keeps | with_reducible apply State.wrb_keeps
                | with_reducible apply State.wr_keeps | with_reducible apply State.modIi_keeps | with_reducible apply State.raise_keeps
                | with_reducible apply Keeps.ite | with_reducible apply Keeps.foldl | with_reducible apply Keeps.ite_fst
                | with_reducible apply Keeps.foldl_fst | split | dsimp only | (intro _; rfl) | (intro _; intros)

theorem State.ioTrip_keeps {σ s : State} (n : Nat) (c : Sys2Proof.Machine.Cause) (st : Nat) (hσ : Keeps σ s) : Keeps σ (State.ioTrip s n c st) := by
  unfold State.ioTrip
  repeat' first | with_reducible assumption | with_reducible apply State.endCmds_keeps | with_reducible apply State.wr_keeps
                | with_reducible apply State.setSt_keeps | with_reducible apply State.setVerdict_keeps | with_reducible apply State.raiseFault_keeps
                | with_reducible apply State.endChecks_keeps | with_reducible apply State.raise_keeps | with_reducible apply Keeps.ite
                | with_reducible apply Keeps.foldl | with_reducible apply Keeps.ite_fst | with_reducible apply Keeps.foldl_fst | split | dsimp only
                | (intro _; rfl) | (intro _; intros)

theorem State.ioRestart_keeps {σ s : State} (n : Nat) (hσ : Keeps σ s) : Keeps σ (State.ioRestart s n) := by
  unfold State.ioRestart
  repeat' first | with_reducible assumption | with_reducible apply State.modObj_keeps | with_reducible apply State.setSt_keeps
                | with_reducible apply State.raise_keeps | with_reducible apply Keeps.ite | with_reducible apply Keeps.foldl
                | with_reducible apply Keeps.ite_fst | with_reducible apply Keeps.foldl_fst | split | dsimp only | (intro _; rfl) | (intro _; intros)

theorem execIoOutOn_keeps {σ s : State} (dt : Nat) (c : Sys2Proof.Machine.Cmd) (hσ : Keeps σ (s.tick dt)) : AKeeps σ (execIoOutOn dt c s) := by
  unfold execIoOutOn
  refine ⟨_, rfl, ?_⟩
  repeat' first | with_reducible assumption | with_reducible apply State.done_keeps | with_reducible apply State.serveOp_keeps
                | with_reducible apply State.orElse_keeps | with_reducible apply State.complete_keeps | with_reducible apply State.modObj_keeps
                | with_reducible apply State.wr_keeps | with_reducible apply State.setSt_keeps | with_reducible apply State.begin_keeps
                | with_reducible apply Keeps.ite | with_reducible apply Keeps.foldl | with_reducible apply Keeps.ite_fst
                | with_reducible apply Keeps.foldl_fst | split | dsimp only | (intro _; rfl) | (intro _; intros)

theorem execIoOutOff_keeps {σ s : State} (dt : Nat) (c : Sys2Proof.Machine.Cmd) (hσ : Keeps σ (s.tick dt)) : AKeeps σ (execIoOutOff dt c s) := by
  unfold execIoOutOff
  refine ⟨_, rfl, ?_⟩
  repeat' first | with_reducible assumption | with_reducible apply State.done_keeps | with_reducible apply State.serveOp_keeps
                | with_reducible apply State.complete_keeps | with_reducible apply State.ioOff_keeps | with_reducible apply State.begin_keeps
                | with_reducible apply Keeps.ite | with_reducible apply Keeps.foldl | with_reducible apply Keeps.ite_fst
                | with_reducible apply Keeps.foldl_fst | split | dsimp only | (intro _; rfl) | (intro _; intros)

theorem execIoClearFault_keeps {σ s : State} (dt : Nat) (c : Sys2Proof.Machine.Cmd) (hσ : Keeps σ (s.tick dt)) : AKeeps σ
    (execIoClearFault dt c s) := by
  unfold execIoClearFault
  refine ⟨_, rfl, ?_⟩
  repeat' first | with_reducible assumption | with_reducible apply State.done_keeps | with_reducible apply State.serveOp_keeps
                | with_reducible apply State.complete_keeps | with_reducible apply State.wr_keeps | with_reducible apply State.setSt_keeps
                | with_reducible apply State.begin_keeps | with_reducible apply State.unverify_keeps | with_reducible apply Keeps.ite
                | with_reducible apply Keeps.foldl | with_reducible apply Keeps.ite_fst | with_reducible apply Keeps.foldl_fst | split | dsimp only
                | (intro _; rfl) | (intro _; intros)

theorem execIoDiagCheck_keeps {σ s : State} (dt : Nat) (c : Sys2Proof.Machine.Cmd) (hσ : Keeps σ (s.tick dt)) : AKeeps σ
    (execIoDiagCheck dt c s) := by
  unfold execIoDiagCheck
  refine ⟨_, rfl, ?_⟩
  repeat' first | with_reducible assumption | with_reducible apply State.done_keeps | with_reducible apply State.serveOp_keeps
                | with_reducible apply State.checkCmd_keeps | with_reducible apply Keeps.ite | with_reducible apply Keeps.foldl
                | with_reducible apply Keeps.ite_fst | with_reducible apply Keeps.foldl_fst | split | dsimp only | (intro _; rfl) | (intro _; intros)

theorem execIoConfig_keeps {σ s : State} (dt : Nat) (c : Sys2Proof.Machine.Cmd) (hσ : Keeps σ (s.tick dt)) : AKeeps σ (execIoConfig dt c s) := by
  unfold execIoConfig
  refine ⟨_, rfl, ?_⟩
  repeat' first | with_reducible assumption | with_reducible apply State.done_keeps | with_reducible apply State.serveOp_keeps
                | with_reducible apply State.complete_keeps | with_reducible apply State.putImage_keeps | with_reducible apply State.begin_keeps
                | with_reducible apply Keeps.ite | with_reducible apply Keeps.foldl | with_reducible apply Keeps.ite_fst
                | with_reducible apply Keeps.foldl_fst | split | dsimp only | (intro _; rfl) | (intro _; intros)

theorem State.ioMeasure_keeps {σ s : State} (n : Nat) (m : Sys2Proof.Machine.Meas) (hσ : Keeps σ s) : Keeps σ (State.ioMeasure s n m) := by
  unfold State.ioMeasure
  repeat' first | with_reducible assumption | with_reducible apply State.wr_keeps | with_reducible apply Keeps.ite | with_reducible apply Keeps.foldl
                | with_reducible apply Keeps.ite_fst | with_reducible apply Keeps.foldl_fst | split | dsimp only | (intro _; rfl) | (intro _; intros)

theorem execIoOvercurrent_keeps {σ s : State} (dt : Nat) (n : Nat) (m : Sys2Proof.Machine.Meas) (hσ : Keeps σ (s.tick dt)) : AKeeps σ
    (execIoOvercurrent dt n m s) := by
  unfold execIoOvercurrent
  refine ⟨_, rfl, ?_⟩
  repeat' first | with_reducible assumption | with_reducible apply State.done_keeps | with_reducible apply State.ioTrip_keeps
                | with_reducible apply State.ioMeasure_keeps | with_reducible apply Keeps.ite | with_reducible apply Keeps.foldl
                | with_reducible apply Keeps.ite_fst | with_reducible apply Keeps.foldl_fst | split | dsimp only | (intro _; rfl) | (intro _; intros)

theorem execIoThermalTrip_keeps {σ s : State} (dt : Nat) (n : Nat) (m : Sys2Proof.Machine.Meas) (hσ : Keeps σ (s.tick dt)) : AKeeps σ
    (execIoThermalTrip dt n m s) := by
  unfold execIoThermalTrip
  refine ⟨_, rfl, ?_⟩
  repeat' first | with_reducible assumption | with_reducible apply State.done_keeps | with_reducible apply State.ioTrip_keeps
                | with_reducible apply State.ioMeasure_keeps | with_reducible apply Keeps.ite | with_reducible apply Keeps.foldl
                | with_reducible apply Keeps.ite_fst | with_reducible apply Keeps.foldl_fst | split | dsimp only | (intro _; rfl) | (intro _; intros)

theorem execIoThermalRestart_keeps {σ s : State} (dt : Nat) (n : Nat) (m : Sys2Proof.Machine.Meas) (hσ : Keeps σ (s.tick dt)) : AKeeps σ
    (execIoThermalRestart dt n m s) := by
  unfold execIoThermalRestart
  refine ⟨_, rfl, ?_⟩
  repeat' first | with_reducible assumption | with_reducible apply State.done_keeps | with_reducible apply State.ioRestart_keeps
                | with_reducible apply Keeps.ite | with_reducible apply Keeps.foldl | with_reducible apply Keeps.ite_fst
                | with_reducible apply Keeps.foldl_fst | split | dsimp only | (intro _; rfl) | (intro _; intros)

theorem State.vfldEvent_keeps {σ s : State} (cut : Bool) (hσ : Keeps σ s) : Keeps σ (State.vfldEvent s cut) := by
  unfold State.vfldEvent
  repeat' first | with_reducible assumption | with_reducible apply State.raise_keeps | with_reducible apply Keeps.ite
                | with_reducible apply Keeps.foldl | with_reducible apply Keeps.ite_fst | with_reducible apply Keeps.foldl_fst | split | dsimp only
                | (intro _; rfl) | (intro _; intros)

theorem execVfldUv_keeps {σ s : State} (dt : Nat) (v : Nat) (hσ : Keeps σ (s.tick dt)) : AKeeps σ (execVfldUv dt v s) := by
  unfold execVfldUv
  refine ⟨_, rfl, ?_⟩
  repeat' first | with_reducible assumption | with_reducible apply State.done_keeps | with_reducible apply State.wr_keeps
                | with_reducible apply State.ioTrip_keeps | with_reducible apply State.vfldEvent_keeps | with_reducible apply Keeps.ite
                | with_reducible apply Keeps.foldl | with_reducible apply Keeps.ite_fst | with_reducible apply Keeps.foldl_fst | split | dsimp only
                | (intro _; rfl) | (intro _; intros)

theorem execVfldRestart_keeps {σ s : State} (dt : Nat) (v : Nat) (hσ : Keeps σ (s.tick dt)) : AKeeps σ (execVfldRestart dt v s) := by
  unfold execVfldRestart
  refine ⟨_, rfl, ?_⟩
  repeat' first | with_reducible assumption | with_reducible apply State.done_keeps | with_reducible apply State.wr_keeps
                | with_reducible apply State.vfldEvent_keeps | with_reducible apply State.ioRestart_keeps | with_reducible apply Keeps.ite
                | with_reducible apply Keeps.foldl | with_reducible apply Keeps.ite_fst | with_reducible apply Keeps.foldl_fst | split | dsimp only
                | (intro _; rfl) | (intro _; intros) | (refine Keeps.same (by rfl) (by rfl) (by rfl) (by rfl) ?_)

theorem State.fieldRead_keeps {σ s : State} (vins : List Nat) (hσ : Keeps σ s) : Keeps σ (State.fieldRead s vins) := by
  unfold State.fieldRead
  repeat' first | with_reducible assumption | with_reducible apply Keeps.ite | with_reducible apply Keeps.foldl | with_reducible apply Keeps.ite_fst
                | with_reducible apply Keeps.foldl_fst | split | dsimp only | (intro _; rfl) | (intro _; intros)
                | (refine Keeps.same (by rfl) (by rfl) (by rfl) (by rfl) ?_)

theorem State.fieldConfig_keeps {σ s : State} (hσ : Keeps σ s) : Keeps σ (State.fieldConfig s) := by
  unfold State.fieldConfig
  repeat' first | with_reducible assumption | with_reducible apply Keeps.ite | with_reducible apply Keeps.foldl | with_reducible apply Keeps.ite_fst
                | with_reducible apply Keeps.foldl_fst | split | dsimp only | (intro _; rfl) | (intro _; intros)
                | (refine Keeps.same (by rfl) (by rfl) (by rfl) (by rfl) ?_)

theorem State.iiTake_keeps {σ s : State} (n : Nat) (v : Bool) (hσ : Keeps σ s) : Keeps σ (State.iiTake s n v) := by
  unfold State.iiTake
  repeat' first | with_reducible assumption | with_reducible apply State.modIi_keeps | with_reducible apply State.wr_keeps
                | with_reducible apply State.raise_keeps | with_reducible apply Keeps.ite | with_reducible apply Keeps.foldl
                | with_reducible apply Keeps.ite_fst | with_reducible apply Keeps.foldl_fst | split | dsimp only | (intro _; rfl) | (intro _; intros)

theorem State.fieldCount_keeps {σ s : State} (rises : List Nat) (falls : List Nat) (hσ : Keeps σ s) : Keeps σ (State.fieldCount s rises falls) := by
  unfold State.fieldCount
  repeat' first | with_reducible assumption | with_reducible apply Keeps.ite | with_reducible apply Keeps.foldl | with_reducible apply Keeps.ite_fst
                | with_reducible apply Keeps.foldl_fst | split | dsimp only | (intro _; rfl) | (intro _; intros)
                | (refine Keeps.same (by rfl) (by rfl) (by rfl) (by rfl) ?_)

theorem State.countsRestarted_keeps {σ s : State} (hσ : Keeps σ s) : Keeps σ (State.countsRestarted s) := by
  unfold State.countsRestarted
  repeat' first | with_reducible assumption | with_reducible apply State.flagSet_keeps | with_reducible apply Keeps.ite
                | with_reducible apply Keeps.foldl | with_reducible apply Keeps.ite_fst | with_reducible apply Keeps.foldl_fst | split | dsimp only
                | (intro _; rfl) | (intro _; intros) | (refine Keeps.same (by rfl) (by rfl) (by rfl) (by rfl) ?_)

theorem State.upGood_keeps {σ s : State} (raw : Nat) (iin : List Nat) (vfld : Nat) (hσ : Keeps σ s) : Keeps σ (State.upGood s raw iin vfld) := by
  unfold State.upGood
  repeat' first | with_reducible assumption | with_reducible apply State.countsRestarted_keeps | with_reducible apply State.bump_keeps
                | with_reducible apply State.wr_keeps | with_reducible apply State.complete_keeps | with_reducible apply State.modIi_keeps
                | with_reducible apply State.wrb_keeps | with_reducible apply State.iiTake_keeps | with_reducible apply State.raise_keeps
                | with_reducible apply Keeps.ite | with_reducible apply Keeps.foldl | with_reducible apply Keeps.ite_fst
                | with_reducible apply Keeps.foldl_fst | split | dsimp only | (intro _; rfl) | (intro _; intros)
                | (refine Keeps.same (by rfl) (by rfl) (by rfl) (by rfl) ?_)

theorem State.uplink_keeps {σ s : State} (crc : Bool) (seq : Nat) (vins : List Nat) (iin : List Nat) (rises : List Nat) (falls : List Nat)
    (vfld : Nat) (hσ : Keeps σ s) : Keeps σ (State.uplink s crc seq vins iin rises falls vfld) := by
  unfold State.uplink
  repeat' first | with_reducible assumption | with_reducible apply State.fieldRead_keeps | with_reducible apply State.fieldCount_keeps
                | with_reducible apply State.upGood_keeps | with_reducible apply State.bump_keeps | with_reducible apply Keeps.ite
                | with_reducible apply Keeps.foldl | with_reducible apply Keeps.ite_fst | with_reducible apply Keeps.foldl_fst | split | dsimp only
                | (intro _; rfl) | (intro _; intros) | (refine Keeps.same (by rfl) (by rfl) (by rfl) (by rfl) ?_)

theorem State.dnTake_keeps {σ s : State} (f : Option (Bool × Nat)) (hσ : Keeps σ s) : Keeps σ (State.dnTake s f).1 := by
  unfold State.dnTake
  repeat' first | with_reducible assumption | with_reducible apply Keeps.ite | with_reducible apply Keeps.foldl | with_reducible apply Keeps.ite_fst
                | with_reducible apply Keeps.foldl_fst | split | dsimp only | (intro _; rfl) | (intro _; intros)
                | (refine Keeps.same (by rfl) (by rfl) (by rfl) (by rfl) ?_)

theorem execBarrierDownlinkFrame_keeps {σ s : State} (dt : Nat) (crc : Bool) (seq : Nat) (hσ : Keeps σ (s.tick dt)) : AKeeps σ
    (execBarrierDownlinkFrame dt crc seq s) := by
  unfold execBarrierDownlinkFrame
  refine ⟨_, rfl, ?_⟩
  repeat' first | with_reducible assumption | with_reducible apply State.done_keeps | with_reducible apply State.dnTake_keeps
                | with_reducible apply State.fieldConfig_keeps | with_reducible apply State.modIi_keeps | with_reducible apply State.complete_keeps
                | with_reducible apply Keeps.ite | with_reducible apply Keeps.foldl | with_reducible apply Keeps.ite_fst
                | with_reducible apply Keeps.foldl_fst | split | dsimp only | (intro _; rfl) | (intro _; intros)
                | (refine Keeps.same (by rfl) (by rfl) (by rfl) (by rfl) ?_)

theorem execBarrierFrameMissing_keeps {σ s : State} (dt : Nat) (uplink : Bool) (hσ : Keeps σ (s.tick dt)) : AKeeps σ
    (execBarrierFrameMissing dt uplink s) := by
  unfold execBarrierFrameMissing
  refine ⟨_, rfl, ?_⟩
  repeat' first | with_reducible assumption | with_reducible apply State.done_keeps | with_reducible apply State.bump_keeps
                | with_reducible apply State.dnTake_keeps | with_reducible apply Keeps.ite | with_reducible apply Keeps.foldl
                | with_reducible apply Keeps.ite_fst | with_reducible apply Keeps.foldl_fst | split | dsimp only | (intro _; rfl) | (intro _; intros)
                | (refine Keeps.same (by rfl) (by rfl) (by rfl) (by rfl) ?_)

theorem execBarrierLoss_keeps {σ s : State} (dt : Nat) (field : Bool) (hσ : Keeps σ (s.tick dt)) : AKeeps σ (execBarrierLoss dt field s) := by
  unfold execBarrierLoss
  refine ⟨_, rfl, ?_⟩
  repeat' first | with_reducible assumption | with_reducible apply State.done_keeps | with_reducible apply State.bump_keeps
                | with_reducible apply State.wr_keeps | with_reducible apply State.endChecks_keeps | with_reducible apply State.endCmds_keeps
                | with_reducible apply State.setSt_keeps | with_reducible apply State.modObj_keeps | with_reducible apply State.modIi_keeps
                | with_reducible apply State.raiseTo_keeps | with_reducible apply Keeps.ite | with_reducible apply Keeps.foldl
                | with_reducible apply Keeps.ite_fst | with_reducible apply Keeps.foldl_fst | split | dsimp only | (intro _; rfl) | (intro _; intros)
                | (refine Keeps.same (by rfl) (by rfl) (by rfl) (by rfl) ?_)

theorem execFieldPowerLoss_keeps {σ s : State} (dt : Nat) (hσ : Keeps σ (s.tick dt)) : AKeeps σ (execFieldPowerLoss dt s) := by
  unfold execFieldPowerLoss
  refine ⟨_, rfl, ?_⟩
  repeat' first | with_reducible assumption | with_reducible apply State.done_keeps | with_reducible apply State.countsRestarted_keeps
                | with_reducible apply Keeps.ite | with_reducible apply Keeps.foldl | with_reducible apply Keeps.ite_fst
                | with_reducible apply Keeps.foldl_fst | split | dsimp only | (intro _; rfl) | (intro _; intros)
                | (refine Keeps.same (by rfl) (by rfl) (by rfl) (by rfl) ?_)

end Sys2Proof.Machine
end

