-- ==== Sys2Proof/Laws/KeepsNet.lean ====
section
/-!
SUPPORT. Sys2Proof/Laws/KeepsNet.lean: what Keeps says of the operations and rows of the networks, the gateway, network sleep and the twin pair.
-/
namespace Sys2Proof.Machine

theorem State.modCan_keeps {σ s : State} (n : Nat) (f : Sys2Proof.Machine.CanCh → Sys2Proof.Machine.CanCh) (hσ : Keeps σ s) : Keeps σ
    (State.modCan s n f) := by
  unfold State.modCan
  repeat' first | with_reducible assumption | with_reducible apply Keeps.ite | with_reducible apply Keeps.foldl | with_reducible apply Keeps.ite_fst
                | with_reducible apply Keeps.foldl_fst | split | dsimp only | (intro _; rfl) | (intro _; intros)
                | (refine Keeps.same (by rfl) (by rfl) (by rfl) (by rfl) ?_)

theorem State.modLin_keeps {σ s : State} (n : Nat) (f : Sys2Proof.Machine.LinCh → Sys2Proof.Machine.LinCh) (hσ : Keeps σ s) : Keeps σ
    (State.modLin s n f) := by
  unfold State.modLin
  repeat' first | with_reducible assumption | with_reducible apply Keeps.ite | with_reducible apply Keeps.foldl | with_reducible apply Keeps.ite_fst
                | with_reducible apply Keeps.foldl_fst | split | dsimp only | (intro _; rfl) | (intro _; intros)
                | (refine Keeps.same (by rfl) (by rfl) (by rfl) (by rfl) ?_)

theorem State.modPort_keeps {σ s : State} (p : Nat) (f : Sys2Proof.Machine.Port → Sys2Proof.Machine.Port) (hσ : Keeps σ s) : Keeps σ
    (State.modPort s p f) := by
  unfold State.modPort
  repeat' first | with_reducible assumption | with_reducible apply Keeps.ite | with_reducible apply Keeps.foldl | with_reducible apply Keeps.ite_fst
                | with_reducible apply Keeps.foldl_fst | split | dsimp only | (intro _; rfl) | (intro _; intros)
                | (refine Keeps.same (by rfl) (by rfl) (by rfl) (by rfl) ?_)

theorem State.modSeg_keeps {σ s : State} (g : Nat) (f : Sys2Proof.Machine.Seg → Sys2Proof.Machine.Seg) (hσ : Keeps σ s) : Keeps σ
    (State.modSeg s g f) := by
  unfold State.modSeg
  repeat' first | with_reducible assumption | with_reducible apply Keeps.ite | with_reducible apply Keeps.foldl | with_reducible apply Keeps.ite_fst
                | with_reducible apply Keeps.foldl_fst | split | dsimp only | (intro _; rfl) | (intro _; intros)
                | (refine Keeps.same (by rfl) (by rfl) (by rfl) (by rfl) ?_)

theorem State.modFit_keeps {σ s : State} (e : Nat) (f : Sys2Proof.Machine.FitEntry → Sys2Proof.Machine.FitEntry) (hσ : Keeps σ s) : Keeps σ
    (State.modFit s e f) := by
  unfold State.modFit
  repeat' first | with_reducible assumption | with_reducible apply Keeps.ite | with_reducible apply Keeps.foldl | with_reducible apply Keeps.ite_fst
                | with_reducible apply Keeps.foldl_fst | split | dsimp only | (intro _; rfl) | (intro _; intros)
                | (refine Keeps.same (by rfl) (by rfl) (by rfl) (by rfl) ?_)

theorem State.modRxq_keeps {σ s : State} (g : Nat) (f : Sys2Proof.Machine.RxQ → Sys2Proof.Machine.RxQ) (hσ : Keeps σ s) : Keeps σ
    (State.modRxq s g f) := by
  unfold State.modRxq
  repeat' first | with_reducible assumption | with_reducible apply Keeps.ite | with_reducible apply Keeps.foldl | with_reducible apply Keeps.ite_fst
                | with_reducible apply Keeps.foldl_fst | split | dsimp only | (intro _; rfl) | (intro _; intros)
                | (refine Keeps.same (by rfl) (by rfl) (by rfl) (by rfl) ?_)

theorem State.canCount_keeps {σ s : State} (n : Nat) (k : Nat) (hσ : Keeps σ s) : Keeps σ (State.canCount s n k) := by
  unfold State.canCount
  repeat' first | with_reducible assumption | with_reducible apply State.modCan_keeps | with_reducible apply Keeps.ite
                | with_reducible apply Keeps.foldl | with_reducible apply Keeps.ite_fst | with_reducible apply Keeps.foldl_fst | split | dsimp only
                | (intro _; rfl) | (intro _; intros)

theorem State.linCount_keeps {σ s : State} (n : Nat) (k : Nat) (hσ : Keeps σ s) : Keeps σ (State.linCount s n k) := by
  unfold State.linCount
  repeat' first | with_reducible assumption | with_reducible apply State.modLin_keeps | with_reducible apply Keeps.ite
                | with_reducible apply Keeps.foldl | with_reducible apply Keeps.ite_fst | with_reducible apply Keeps.foldl_fst | split | dsimp only
                | (intro _; rfl) | (intro _; intros)

theorem State.segCount_keeps {σ s : State} (g : Nat) (canK : Nat) (linK : Nat) (hσ : Keeps σ s) : Keeps σ (State.segCount s g canK linK) := by
  unfold State.segCount
  repeat' first | with_reducible assumption | with_reducible apply State.canCount_keeps | with_reducible apply State.linCount_keeps
                | with_reducible apply Keeps.ite | with_reducible apply Keeps.foldl | with_reducible apply Keeps.ite_fst
                | with_reducible apply Keeps.foldl_fst | split | dsimp only | (intro _; rfl) | (intro _; intros)

theorem State.lineSeen_keeps {σ s : State} (g : Nat) (hσ : Keeps σ s) : Keeps σ (State.lineSeen s g) := by
  unfold State.lineSeen
  repeat' first | with_reducible assumption | with_reducible apply State.modSeg_keeps | with_reducible apply Keeps.ite
                | with_reducible apply Keeps.foldl | with_reducible apply Keeps.ite_fst | with_reducible apply Keeps.foldl_fst | split | dsimp only
                | (intro _; rfl) | (intro _; intros)

theorem State.fitCount_keeps {σ s : State} (e : Nat) (k : Nat) (hσ : Keeps σ s) : Keeps σ (State.fitCount s e k) := by
  unfold State.fitCount
  repeat' first | with_reducible assumption | with_reducible apply State.modFit_keeps | with_reducible apply Keeps.ite
                | with_reducible apply Keeps.foldl | with_reducible apply Keeps.ite_fst | with_reducible apply Keeps.foldl_fst | split | dsimp only
                | (intro _; rfl) | (intro _; intros)

theorem State.showPool_keeps {σ s : State} (hσ : Keeps σ s) : Keeps σ (State.showPool s) := by
  unfold State.showPool
  repeat' first | with_reducible assumption | with_reducible apply State.wr_keeps | with_reducible apply Keeps.ite | with_reducible apply Keeps.foldl
                | with_reducible apply Keeps.ite_fst | with_reducible apply Keeps.foldl_fst | split | dsimp only | (intro _; rfl) | (intro _; intros)

theorem State.storeFrame_keeps {σ s : State} (k : Nat) (len : Nat) (most : Nat) (copies : Nat) (cmd : Option Sys2Proof.Machine.Cmd) (hσ : Keeps σ s) :
    Keeps σ (State.storeFrame s k len most copies cmd).1 := by
  unfold State.storeFrame
  repeat' first | with_reducible assumption | with_reducible apply State.showPool_keeps | with_reducible apply Keeps.ite
                | with_reducible apply Keeps.foldl | with_reducible apply Keeps.ite_fst | with_reducible apply Keeps.foldl_fst | split | dsimp only
                | (intro _; rfl) | (intro _; intros) | (refine Keeps.same (by rfl) (by rfl) (by rfl) (by rfl) ?_)

theorem State.copyLeft_keeps {σ s : State} (sn : Nat) (hσ : Keeps σ s) : Keeps σ (State.copyLeft s sn).1 := by
  unfold State.copyLeft
  repeat' first | with_reducible assumption | with_reducible apply State.showPool_keeps | with_reducible apply Keeps.ite
                | with_reducible apply Keeps.foldl | with_reducible apply Keeps.ite_fst | with_reducible apply Keeps.foldl_fst | split | dsimp only
                | (intro _; rfl) | (intro _; intros) | (refine Keeps.same (by rfl) (by rfl) (by rfl) (by rfl) ?_)

theorem State.noteMark_keeps {σ s : State} (sn : Nat) (hσ : Keeps σ s) : Keeps σ (State.noteMark s sn) := by
  unfold State.noteMark
  repeat' first | with_reducible assumption | with_reducible apply Keeps.ite | with_reducible apply Keeps.foldl | with_reducible apply Keeps.ite_fst
                | with_reducible apply Keeps.foldl_fst | split | dsimp only | (intro _; rfl) | (intro _; intros)
                | (refine Keeps.same (by rfl) (by rfl) (by rfl) (by rfl) ?_)

theorem State.showTxq_keeps {σ s : State} (n : Nat) (hσ : Keeps σ s) : Keeps σ (State.showTxq s n) := by
  unfold State.showTxq
  repeat' first | with_reducible assumption | with_reducible apply State.wr_keeps | with_reducible apply Keeps.ite | with_reducible apply Keeps.foldl
                | with_reducible apply Keeps.ite_fst | with_reducible apply Keeps.foldl_fst | split | dsimp only | (intro _; rfl) | (intro _; intros)

theorem State.order_keeps {σ s : State} (h : Keeps σ s) : Keeps σ s.order.2 := Keeps.same rfl rfl rfl rfl h

theorem State.canPush_keeps {σ s : State} (n : Nat) (t : Sys2Proof.Machine.Tx) (hσ : Keeps σ s) : Keeps σ (State.canPush s n t) := by
  unfold State.canPush
  repeat' first | with_reducible assumption | with_reducible apply State.order_keeps | with_reducible apply State.showTxq_keeps
                | with_reducible apply State.modCan_keeps | with_reducible apply Keeps.ite | with_reducible apply Keeps.foldl
                | with_reducible apply Keeps.ite_fst | with_reducible apply Keeps.foldl_fst | split | dsimp only | (intro _; rfl) | (intro _; intros)

theorem State.portPush_keeps {σ s : State} (p : Nat) (t : Sys2Proof.Machine.Tx) (len : Nat) (hσ : Keeps σ s) : Keeps σ
    (State.portPush s p t len).1 := by
  unfold State.portPush
  repeat' first | with_reducible assumption | with_reducible apply State.order_keeps | with_reducible apply State.modPort_keeps
                | with_reducible apply State.copyLeft_keeps | with_reducible apply State.bump_keeps | with_reducible apply Keeps.ite
                | with_reducible apply Keeps.foldl | with_reducible apply Keeps.ite_fst | with_reducible apply Keeps.foldl_fst | split | dsimp only
                | (intro _; rfl) | (intro _; intros)

theorem State.rxDrop_keeps {σ s : State} (g : Nat) (hσ : Keeps σ s) : Keeps σ (State.rxDrop s g) := by
  unfold State.rxDrop
  repeat' first | with_reducible assumption | with_reducible apply State.canCount_keeps | with_reducible apply State.bump_keeps
                | with_reducible apply Keeps.ite | with_reducible apply Keeps.foldl | with_reducible apply Keeps.ite_fst
                | with_reducible apply Keeps.foldl_fst | split | dsimp only | (intro _; rfl) | (intro _; intros)

theorem State.rxPlace_keeps {σ s : State} (g : Nat) (id : Nat) (fmt : Nat) (flags : Nat) (len : Nat) (time : Nat) (data : List Sys2Proof.Byte) (hσ :
    Keeps σ s) : Keeps σ (State.rxPlace s g id fmt flags len time data) := by
  unfold State.rxPlace
  repeat' first | with_reducible assumption | with_reducible apply State.bump_keeps | with_reducible apply State.rxDrop_keeps
                | with_reducible apply State.modRxq_keeps | with_reducible apply State.raise_keeps | with_reducible apply State.dma_keeps
                | with_reducible apply State.wr_keeps | with_reducible apply Keeps.ite | with_reducible apply Keeps.foldl
                | with_reducible apply Keeps.ite_fst | with_reducible apply Keeps.foldl_fst | split | dsimp only | (intro _; rfl) | (intro _; intros)
                | (refine Keeps.same (by rfl) (by rfl) (by rfl) (by rfl) ?_)

theorem State.rxBus_keeps {σ s : State} (g : Nat) (f : Sys2Proof.Machine.Frame) (time : Nat) (hσ : Keeps σ s) : Keeps σ (State.rxBus s g f time) := by
  unfold State.rxBus
  repeat' first | with_reducible assumption | with_reducible apply State.rxPlace_keeps | with_reducible apply Keeps.ite
                | with_reducible apply Keeps.foldl | with_reducible apply Keeps.ite_fst | with_reducible apply Keeps.foldl_fst | split | dsimp only
                | (intro _; rfl) | (intro _; intros)

theorem State.charge_keeps {σ s : State} (g : Nat) (hσ : Keeps σ s) : Keeps σ (State.charge s g) := by
  unfold State.charge
  repeat' first | with_reducible assumption | with_reducible apply State.modSeg_keeps | with_reducible apply Keeps.ite
                | with_reducible apply Keeps.foldl | with_reducible apply Keeps.ite_fst | with_reducible apply Keeps.foldl_fst | split | dsimp only
                | (intro _; rfl) | (intro _; intros)

theorem State.noteNode_keeps {σ s : State} (g : Nat) (nid : Nat) (hσ : Keeps σ s) : Keeps σ (State.noteNode s g nid) := by
  unfold State.noteNode
  repeat' first | with_reducible assumption | with_reducible apply State.modSeg_keeps | with_reducible apply Keeps.ite
                | with_reducible apply Keeps.foldl | with_reducible apply Keeps.ite_fst | with_reducible apply Keeps.foldl_fst | split | dsimp only
                | (intro _; rfl) | (intro _; intros)

theorem State.nmSet_keeps {σ s : State} (g : Nat) (new : Nat) (hσ : Keeps σ s) : Keeps σ (State.nmSet s g new) := by
  unfold State.nmSet
  repeat' first | with_reducible assumption | with_reducible apply State.charge_keeps | with_reducible apply State.modSeg_keeps
                | with_reducible apply State.raise_keeps | with_reducible apply State.wr_keeps | with_reducible apply Keeps.ite
                | with_reducible apply Keeps.foldl | with_reducible apply Keeps.ite_fst | with_reducible apply Keeps.foldl_fst | split | dsimp only
                | (intro _; rfl) | (intro _; intros)

theorem State.linSleep_keeps {σ s : State} (n : Nat) (hσ : Keeps σ s) : Keeps σ (State.linSleep s n) := by
  unfold State.linSleep
  repeat' first | with_reducible assumption | with_reducible apply State.modLin_keeps | with_reducible apply State.wr_keeps
                | with_reducible apply State.nmSet_keeps | with_reducible apply Keeps.ite | with_reducible apply Keeps.foldl
                | with_reducible apply Keeps.ite_fst | with_reducible apply Keeps.foldl_fst | split | dsimp only | (intro _; rfl) | (intro _; intros)

theorem State.linAwake_keeps {σ s : State} (n : Nat) (hσ : Keeps σ s) : Keeps σ (State.linAwake s n) := by
  unfold State.linAwake
  repeat' first | with_reducible assumption | with_reducible apply State.modLin_keeps | with_reducible apply State.wr_keeps
                | with_reducible apply Keeps.ite | with_reducible apply Keeps.foldl | with_reducible apply Keeps.ite_fst
                | with_reducible apply Keeps.foldl_fst | split | dsimp only | (intro _; rfl) | (intro _; intros)

theorem State.linOp_keeps {σ s : State} (n : Nat) (hσ : Keeps σ s) : Keeps σ (State.linOp s n) := by
  unfold State.linOp
  repeat' first | with_reducible assumption | with_reducible apply State.modLin_keeps | with_reducible apply Keeps.ite
                | with_reducible apply Keeps.foldl | with_reducible apply Keeps.ite_fst | with_reducible apply Keeps.foldl_fst | split | dsimp only
                | (intro _; rfl) | (intro _; intros)

theorem State.linFollow_keeps {σ s : State} (g : Nat) (asleep : Bool) (hσ : Keeps σ s) : Keeps σ (State.linFollow s g asleep) := by
  unfold State.linFollow
  repeat' first | with_reducible assumption | with_reducible apply State.linSleep_keeps | with_reducible apply State.linAwake_keeps
                | with_reducible apply State.nmSet_keeps | with_reducible apply Keeps.ite | with_reducible apply Keeps.foldl
                | with_reducible apply Keeps.ite_fst | with_reducible apply Keeps.foldl_fst | split | dsimp only | (intro _; rfl) | (intro _; intros)

theorem State.nmTo_keeps {σ s : State} (g : Nat) (new : Nat) (hσ : Keeps σ s) : Keeps σ (State.nmTo s g new) := by
  unfold State.nmTo
  repeat' first | with_reducible assumption | with_reducible apply State.nmSet_keeps | with_reducible apply State.linFollow_keeps
                | with_reducible apply Keeps.ite | with_reducible apply Keeps.foldl | with_reducible apply Keeps.ite_fst
                | with_reducible apply Keeps.foldl_fst | split | dsimp only | (intro _; rfl) | (intro _; intros)

theorem State.nmReady_keeps {σ s : State} (g : Nat) (keeper : Nat) (hσ : Keeps σ s) : Keeps σ (State.nmReady s g keeper) := by
  unfold State.nmReady
  repeat' first | with_reducible assumption | with_reducible apply State.charge_keeps | with_reducible apply State.nmTo_keeps
                | with_reducible apply State.modSeg_keeps | with_reducible apply State.wr_keeps | with_reducible apply Keeps.ite
                | with_reducible apply Keeps.foldl | with_reducible apply Keeps.ite_fst | with_reducible apply Keeps.foldl_fst | split | dsimp only
                | (intro _; rfl) | (intro _; intros)

theorem State.kaSend_keeps {σ s : State} (g : Nat) (hσ : Keeps σ s) : Keeps σ (State.kaSend s g) := by
  unfold State.kaSend
  repeat' first | with_reducible assumption | with_reducible apply State.modSeg_keeps | with_reducible apply State.canPush_keeps
                | with_reducible apply State.portPush_keeps | with_reducible apply Keeps.ite | with_reducible apply Keeps.foldl
                | with_reducible apply Keeps.ite_fst | with_reducible apply Keeps.foldl_fst | split | dsimp only | (intro _; rfl) | (intro _; intros)

theorem State.needsDone_keeps {σ s : State} (g : Nat) (hσ : Keeps σ s) : Keeps σ (State.needsDone s g) := by
  unfold State.needsDone
  repeat' first | with_reducible assumption | with_reducible apply State.modSeg_keeps | with_reducible apply State.complete_keeps
                | with_reducible apply Keeps.ite | with_reducible apply Keeps.foldl | with_reducible apply Keeps.ite_fst
                | with_reducible apply Keeps.foldl_fst | split | dsimp only | (intro _; rfl) | (intro _; intros)

theorem State.nmNeed_keeps {σ s : State} (g : Nat) (hσ : Keeps σ s) : Keeps σ (State.nmNeed s g) := by
  unfold State.nmNeed
  repeat' first | with_reducible assumption | with_reducible apply State.modSeg_keeps | with_reducible apply State.nmTo_keeps
                | with_reducible apply State.linAwake_keeps | with_reducible apply State.linOp_keeps | with_reducible apply State.kaSend_keeps
                | with_reducible apply Keeps.ite | with_reducible apply Keeps.foldl | with_reducible apply Keeps.ite_fst
                | with_reducible apply Keeps.foldl_fst | split | dsimp only | (intro _; rfl) | (intro _; intros)

theorem State.nmLeave_keeps {σ s : State} (g : Nat) (hσ : Keeps σ s) : Keeps σ (State.nmLeave s g) := by
  unfold State.nmLeave
  repeat' first | with_reducible assumption | with_reducible apply State.nmReady_keeps | with_reducible apply State.linSleep_keeps
                | with_reducible apply Keeps.ite | with_reducible apply Keeps.foldl | with_reducible apply Keeps.ite_fst
                | with_reducible apply Keeps.foldl_fst | split | dsimp only | (intro _; rfl) | (intro _; intros)

theorem State.wakeEvent_keeps {σ s : State} (g : Nat) (kind : Nat) (inStop : Bool) (hσ : Keeps σ s) : Keeps σ (State.wakeEvent s g kind inStop) := by
  unfold State.wakeEvent
  repeat' first | with_reducible assumption | with_reducible apply State.raise_keeps | with_reducible apply Keeps.ite
                | with_reducible apply Keeps.foldl | with_reducible apply Keeps.ite_fst | with_reducible apply Keeps.foldl_fst | split | dsimp only
                | (intro _; rfl) | (intro _; intros)

theorem State.forwardWake_keeps {σ s : State} (g : Nat) (hσ : Keeps σ s) : Keeps σ (State.forwardWake s g) := by
  unfold State.forwardWake
  repeat' first | with_reducible assumption | with_reducible apply State.wakeEvent_keeps | with_reducible apply State.modSeg_keeps
                | with_reducible apply State.wr_keeps | with_reducible apply State.nmNeed_keeps | with_reducible apply Keeps.ite
                | with_reducible apply Keeps.foldl | with_reducible apply Keeps.ite_fst | with_reducible apply Keeps.foldl_fst | split | dsimp only
                | (intro _; rfl) | (intro _; intros)

theorem State.forwardAll_keeps {σ s : State} (eth : Nat) (can : Nat) (lin : Nat) (hσ : Keeps σ s) : Keeps σ (State.forwardAll s eth can lin) := by
  unfold State.forwardAll
  repeat' first | with_reducible assumption | with_reducible apply State.forwardWake_keeps | with_reducible apply Keeps.ite
                | with_reducible apply Keeps.foldl | with_reducible apply Keeps.ite_fst | with_reducible apply Keeps.foldl_fst | split | dsimp only
                | (intro _; rfl) | (intro _; intros)

theorem State.keepAlive_keeps {σ s : State} (g : Nat) (nid : Nat) (hσ : Keeps σ s) : Keeps σ (State.keepAlive s g nid) := by
  unfold State.keepAlive
  repeat' first | with_reducible assumption | with_reducible apply State.noteNode_keeps | with_reducible apply State.charge_keeps
                | with_reducible apply State.nmReady_keeps | with_reducible apply State.modSeg_keeps | with_reducible apply State.wr_keeps
                | with_reducible apply Keeps.ite | with_reducible apply Keeps.foldl | with_reducible apply Keeps.ite_fst
                | with_reducible apply Keeps.foldl_fst | split | dsimp only | (intro _; rfl) | (intro _; intros)

theorem State.wakeLatch_keeps {σ s : State} (g : Nat) (kind : Nat) (inStop : Bool) (hσ : Keeps σ s) : Keeps σ (State.wakeLatch s g kind inStop) := by
  unfold State.wakeLatch
  repeat' first | with_reducible assumption | with_reducible apply State.modSeg_keeps | with_reducible apply State.bump_keeps
                | with_reducible apply State.wr_keeps | with_reducible apply Keeps.ite | with_reducible apply Keeps.foldl
                | with_reducible apply Keeps.ite_fst | with_reducible apply Keeps.foldl_fst | split | dsimp only | (intro _; rfl) | (intro _; intros)

theorem State.segAwake_keeps {σ s : State} (g : Nat) (hσ : Keeps σ s) : Keeps σ (State.segAwake s g) := by
  unfold State.segAwake
  repeat' first | with_reducible assumption | with_reducible apply State.nmReady_keeps | with_reducible apply State.linAwake_keeps
                | with_reducible apply State.forwardWake_keeps | with_reducible apply Keeps.ite | with_reducible apply Keeps.foldl
                | with_reducible apply Keeps.ite_fst | with_reducible apply Keeps.foldl_fst | split | dsimp only | (intro _; rfl) | (intro _; intros)

theorem State.noteMatch_keeps {σ s : State} (e : Nat) (hσ : Keeps σ s) : Keeps σ (State.noteMatch s e) := by
  unfold State.noteMatch
  repeat' first | with_reducible assumption | with_reducible apply State.fitCount_keeps | with_reducible apply Keeps.ite
                | with_reducible apply Keeps.foldl | with_reducible apply Keeps.ite_fst | with_reducible apply Keeps.foldl_fst | split | dsimp only
                | (intro _; rfl) | (intro _; intros) | (refine Keeps.same (by rfl) (by rfl) (by rfl) (by rfl) ?_)

theorem State.meter_keeps {σ s : State} (e : Nat) (hσ : Keeps σ s) : Keeps σ (s.meter e).1 := by
  unfold State.meter
  extract_lets rate x tok
  clear_value tok
  refine Keeps.ite_fst (Keeps.fst hσ) (Keeps.ite_fst (Keeps.fst ?_) (Keeps.fst ?_))
  · with_reducible exact State.modFit_keeps _ _ hσ
  · with_reducible exact State.fitCount_keeps _ _ (State.modFit_keeps _ _ hσ)

theorem State.freshBack_keeps {σ s : State} (e : Nat) (t : Sys2Proof.Machine.Stamp) (hσ : Keeps σ s) : Keeps σ (State.freshBack s e t) := by
  unfold State.freshBack
  repeat' first | with_reducible assumption | with_reducible apply State.raise_keeps | with_reducible apply Keeps.ite
                | with_reducible apply Keeps.foldl | with_reducible apply Keeps.ite_fst | with_reducible apply Keeps.foldl_fst | split | dsimp only
                | (intro _; rfl) | (intro _; intros) | (refine Keeps.same (by rfl) (by rfl) (by rfl) (by rfl) ?_)

theorem State.sample_keeps {σ s : State} (e : Nat) (v : Sys2Proof.Machine.Value) (hσ : Keeps σ s) : Keeps σ (State.sample s e v) := by
  unfold State.sample
  repeat' first | with_reducible assumption | with_reducible apply State.freshBack_keeps | with_reducible apply State.modFit_keeps
                | with_reducible apply Keeps.ite | with_reducible apply Keeps.foldl | with_reducible apply Keeps.ite_fst
                | with_reducible apply Keeps.foldl_fst | split | dsimp only | (intro _; rfl) | (intro _; intros)

theorem State.freshInputs_keeps {σ s : State} (hσ : Keeps σ s) : Keeps σ (State.freshInputs s) := by
  unfold State.freshInputs
  repeat' first | with_reducible assumption | with_reducible apply State.freshBack_keeps | with_reducible apply Keeps.ite
                | with_reducible apply Keeps.foldl | with_reducible apply Keeps.ite_fst | with_reducible apply Keeps.foldl_fst | split | dsimp only
                | (intro _; rfl) | (intro _; intros)

theorem State.setResp_keeps {σ s : State} (n : Nat) (id : Nat) (r : Sys2Proof.Machine.LinResp) (hσ : Keeps σ s) : Keeps σ
    (State.setResp s n id r) := by
  unfold State.setResp
  repeat' first | with_reducible assumption | with_reducible apply State.modLin_keeps | with_reducible apply Keeps.ite
                | with_reducible apply Keeps.foldl | with_reducible apply Keeps.ite_fst | with_reducible apply Keeps.foldl_fst | split | dsimp only
                | (intro _; rfl) | (intro _; intros)

theorem State.sendValue_keeps {σ s : State} (e client bus : Nat) (b : Body) (t : Option Stamp) (cmd : Option Cmd) (hσ : Keeps σ s) :
    Keeps σ (s.sendValue e client bus b t cmd) := by
  unfold State.sendValue
  extract_lets s1 cans frames okC ports noFit okP lost s2 s3 n r sN s4 tc
  have h1 : Keeps σ s1 := Keeps.foldl hσ fun s n h => Keeps.ite h (Keeps.foldl h fun s r h =>
    Keeps.ite (State.fitCount_keeps _ _ h) (State.setResp_keeps _ _ _ h))
  clear_value s1
  have h2 : Keeps σ s2 := Keeps.foldl h1 fun s _ h => State.fitCount_keeps _ _ h
  clear_value s2
  have h3 : Keeps σ s3 := Keeps.ite (State.bump_keeps _ _ _ h2) h2
  clear_value s3
  refine Keeps.ite ?_ ?_
  · split
    · exact State.complete_keeps _ _ _ h3
    · exact h3
  · have hr : Keeps σ r.1 := State.storeFrame_keeps _ _ _ _ _ h3
    split
    · have h4 : Keeps σ sN := Keeps.ite (State.rxDrop_keeps _ hr) (State.bump_keeps _ _ _ hr)
      clear_value sN
      split
      · exact State.complete_keeps _ _ _ h4
      · exact h4
    · have h4 : Keeps σ s4 := hr
      clear_value s4
      extract_lets base s6
      have h6 : Keeps σ s6 := Keeps.foldl h4 fun s x h => State.canPush_keeps _ _ h
      clear_value s6
      exact Keeps.foldl h6 fun s x h => State.portPush_keeps _ _ _ h

theorem State.wakeRoles_keeps {σ s : State} (e : Nat) (g : Nat) (nid : Nat) (hσ : Keeps σ s) : Keeps σ (State.wakeRoles s e g nid) := by
  unfold State.wakeRoles
  repeat' first | with_reducible assumption | with_reducible apply State.keepAlive_keeps | with_reducible apply State.forwardAll_keeps
                | with_reducible apply Keeps.ite | with_reducible apply Keeps.foldl | with_reducible apply Keeps.ite_fst
                | with_reducible apply Keeps.foldl_fst | split | dsimp only | (intro _; rfl) | (intro _; intros)

theorem State.sendNow_keeps {σ s : State} (e : Nat) (client : Nat) (bus : Nat) (b : Sys2Proof.Machine.Body) (t : Sys2Proof.Machine.Stamp) (hσ :
    Keeps σ s) : Keeps σ (State.sendNow s e client bus b t) := by
  unfold State.sendNow
  repeat' first | with_reducible assumption | with_reducible apply State.sendValue_keeps | with_reducible apply Keeps.ite
                | with_reducible apply Keeps.foldl | with_reducible apply Keeps.ite_fst | with_reducible apply Keeps.foldl_fst | split | dsimp only
                | (intro _; rfl) | (intro _; intros)

theorem State.ingest_keeps {σ s : State} (g : Nat) (f : Sys2Proof.Machine.Frame) (t : Sys2Proof.Machine.Stamp) (hσ : Keeps σ s) : Keeps σ
    (State.ingest s g f t) := by
  unfold State.ingest
  repeat' first | with_reducible assumption | with_reducible apply State.rxDrop_keeps | with_reducible apply State.rxBus_keeps
                | with_reducible apply State.bump_keeps | with_reducible apply State.meter_keeps | with_reducible apply State.noteMatch_keeps
                | with_reducible apply State.wakeRoles_keeps | with_reducible apply State.sample_keeps | with_reducible apply State.sendNow_keeps
                | with_reducible apply Keeps.ite | with_reducible apply Keeps.foldl | with_reducible apply Keeps.ite_fst
                | with_reducible apply Keeps.foldl_fst | split | dsimp only | (intro _; rfl) | (intro _; intros)

theorem execCanSend_keeps {σ s : State} (dt : Nat) (c : Sys2Proof.Machine.Cmd) (rcd : List Sys2Proof.Byte) (hσ : Keeps σ (s.tick dt)) : AKeeps σ
    (execCanSend dt c rcd s) := by
  unfold execCanSend
  refine ⟨_, rfl, ?_⟩
  repeat' first | with_reducible assumption | with_reducible apply State.done_keeps | with_reducible apply State.serveOp_keeps
                | with_reducible apply State.orElse_keeps | with_reducible apply State.descClamp_keeps | with_reducible apply State.canPush_keeps
                | with_reducible apply State.complete_keeps | with_reducible apply State.dma_keeps | with_reducible apply Keeps.ite
                | with_reducible apply Keeps.foldl | with_reducible apply Keeps.ite_fst | with_reducible apply Keeps.foldl_fst | split | dsimp only
                | (intro _; rfl) | (intro _; intros)

theorem execIdUnblock_keeps {σ s : State} (dt : Nat) (c : Sys2Proof.Machine.Cmd) (hσ : Keeps σ (s.tick dt)) : AKeeps σ (execIdUnblock dt c s) := by
  unfold execIdUnblock
  refine ⟨_, rfl, ?_⟩
  repeat' first | with_reducible assumption | with_reducible apply State.done_keeps | with_reducible apply State.serveOp_keeps
                | with_reducible apply State.complete_keeps | with_reducible apply State.modCan_keeps | with_reducible apply State.begin_keeps
                | with_reducible apply Keeps.ite | with_reducible apply Keeps.foldl | with_reducible apply Keeps.ite_fst
                | with_reducible apply Keeps.foldl_fst | split | dsimp only | (intro _; rfl) | (intro _; intros)

theorem State.rxRelease_keeps {σ s : State} (c : Sys2Proof.Machine.Cmd) (hσ : Keeps σ s) : Keeps σ (State.rxRelease s c) := by
  unfold State.rxRelease
  repeat' first | with_reducible assumption | with_reducible apply State.complete_keeps | with_reducible apply State.wr_keeps
                | with_reducible apply State.begin_keeps | with_reducible apply State.modRxq_keeps | with_reducible apply Keeps.ite
                | with_reducible apply Keeps.foldl | with_reducible apply Keeps.ite_fst | with_reducible apply Keeps.foldl_fst | split | dsimp only
                | (intro _; rfl) | (intro _; intros)

theorem execRxRelease_keeps {σ s : State} (dt : Nat) (c : Sys2Proof.Machine.Cmd) (hσ : Keeps σ (s.tick dt)) : AKeeps σ (execRxRelease dt c s) := by
  unfold execRxRelease
  refine ⟨_, rfl, ?_⟩
  repeat' first | with_reducible assumption | with_reducible apply State.done_keeps | with_reducible apply State.serveOp_keeps
                | with_reducible apply State.rxRelease_keeps | with_reducible apply Keeps.ite | with_reducible apply Keeps.foldl
                | with_reducible apply Keeps.ite_fst | with_reducible apply Keeps.foldl_fst | split | dsimp only | (intro _; rfl) | (intro _; intros)

theorem State.canEvent_keeps {σ s : State} (n : Nat) (hσ : Keeps σ s) : Keeps σ (State.canEvent s n) := by
  unfold State.canEvent
  repeat' first | with_reducible assumption | with_reducible apply State.raise_keeps | with_reducible apply Keeps.ite
                | with_reducible apply Keeps.foldl | with_reducible apply Keeps.ite_fst | with_reducible apply Keeps.foldl_fst | split | dsimp only
                | (intro _; rfl) | (intro _; intros)

theorem State.canShow_keeps {σ s : State} (n : Nat) (st : Nat) (hσ : Keeps σ s) : Keeps σ (State.canShow s n st) := by
  unfold State.canShow
  repeat' first | with_reducible assumption | with_reducible apply State.wr_keeps | with_reducible apply State.canEvent_keeps
                | with_reducible apply State.modCan_keeps | with_reducible apply Keeps.ite | with_reducible apply Keeps.foldl
                | with_reducible apply Keeps.ite_fst | with_reducible apply Keeps.foldl_fst | split | dsimp only | (intro _; rfl) | (intro _; intros)

theorem State.canGone_keeps {σ s : State} (t : Sys2Proof.Machine.Tx) (code : Sys2Proof.Machine.Code) (sub : Nat) (hσ : Keeps σ s) : Keeps σ
    (State.canGone s t code sub) := by
  unfold State.canGone
  repeat' first | with_reducible assumption | with_reducible apply State.copyLeft_keeps | with_reducible apply State.complete_keeps
                | with_reducible apply Keeps.ite | with_reducible apply Keeps.foldl | with_reducible apply Keeps.ite_fst
                | with_reducible apply Keeps.foldl_fst | split | dsimp only | (intro _; rfl) | (intro _; intros)

theorem State.canFlush_keeps {σ s : State} (n : Nat) (code : Sys2Proof.Machine.Code) (sub : Nat) (hσ : Keeps σ s) : Keeps σ
    (State.canFlush s n code sub) := by
  unfold State.canFlush
  repeat' first | with_reducible assumption | with_reducible apply State.showTxq_keeps | with_reducible apply State.canGone_keeps
                | with_reducible apply State.modCan_keeps | with_reducible apply Keeps.ite | with_reducible apply Keeps.foldl
                | with_reducible apply Keeps.ite_fst | with_reducible apply Keeps.foldl_fst | split | dsimp only | (intro _; rfl) | (intro _; intros)

theorem State.canStart_keeps {σ s : State} (n : Nat) (hσ : Keeps σ s) : Keeps σ (State.canStart s n) := by
  unfold State.canStart
  repeat' first | with_reducible assumption | with_reducible apply State.canShow_keeps | with_reducible apply State.modCan_keeps
                | with_reducible apply Keeps.ite | with_reducible apply Keeps.foldl | with_reducible apply Keeps.ite_fst
                | with_reducible apply Keeps.foldl_fst | split | dsimp only | (intro _; rfl) | (intro _; intros)

theorem State.canStop_keeps {σ s : State} (n : Nat) (hσ : Keeps σ s) : Keeps σ (State.canStop s n) := by
  unfold State.canStop
  repeat' first | with_reducible assumption | with_reducible apply State.canFlush_keeps | with_reducible apply State.canShow_keeps
                | with_reducible apply State.wr_keeps | with_reducible apply State.modCan_keeps | with_reducible apply Keeps.ite
                | with_reducible apply Keeps.foldl | with_reducible apply Keeps.ite_fst | with_reducible apply Keeps.foldl_fst | split | dsimp only
                | (intro _; rfl) | (intro _; intros)

theorem State.canTest_keeps {σ s : State} (n : Nat) (fail : Bool) (hσ : Keeps σ s) : Keeps σ (State.canTest s n fail).1 := by
  unfold State.canTest
  repeat' first | with_reducible assumption | with_reducible apply State.sparesOut_keeps | with_reducible apply State.retire_keeps
                | with_reducible apply State.wr_keeps | with_reducible apply Keeps.ite | with_reducible apply Keeps.foldl
                | with_reducible apply Keeps.ite_fst | with_reducible apply Keeps.foldl_fst | split | dsimp only | (intro _; rfl) | (intro _; intros)

theorem State.canBoot_keeps {σ s : State} (n : Nat) (fail : Bool) (hσ : Keeps σ s) : Keeps σ (State.canBoot s n fail) := by
  unfold State.canBoot
  repeat' first | with_reducible assumption | with_reducible apply State.canTest_keeps | with_reducible apply State.canStart_keeps
                | with_reducible apply State.logClamp_keeps | with_reducible apply State.wr_keeps | with_reducible apply Keeps.ite
                | with_reducible apply Keeps.foldl | with_reducible apply Keeps.ite_fst | with_reducible apply Keeps.foldl_fst | split | dsimp only
                | (intro _; rfl) | (intro _; intros)

theorem State.canSof_keeps {σ s : State} (n : Nat) (hσ : Keeps σ s) : Keeps σ (State.canSof s n) := by
  unfold State.canSof
  repeat' first | with_reducible assumption | with_reducible apply State.modCan_keeps | with_reducible apply State.lineSeen_keeps
                | with_reducible apply State.showTxq_keeps | with_reducible apply State.copyLeft_keeps | with_reducible apply State.fitCount_keeps
                | with_reducible apply Keeps.ite | with_reducible apply Keeps.foldl | with_reducible apply Keeps.ite_fst
                | with_reducible apply Keeps.foldl_fst | split | dsimp only | (intro _; rfl) | (intro _; intros)

theorem State.sentCount_keeps {σ s : State} (t : Sys2Proof.Machine.Tx) (marked : Bool) (hσ : Keeps σ s) : Keeps σ (State.sentCount s t marked) := by
  unfold State.sentCount
  repeat' first | with_reducible assumption | with_reducible apply State.fitCount_keeps | with_reducible apply Keeps.ite
                | with_reducible apply Keeps.foldl | with_reducible apply Keeps.ite_fst | with_reducible apply Keeps.foldl_fst | split | dsimp only
                | (intro _; rfl) | (intro _; intros)

theorem State.storedDone_keeps {σ s : State} (t : Sys2Proof.Machine.Tx) (hσ : Keeps σ s) : Keeps σ (State.storedDone s t) := by
  unfold State.storedDone
  repeat' first | with_reducible assumption | with_reducible apply State.copyLeft_keeps | with_reducible apply State.complete_keeps
                | with_reducible apply Keeps.ite | with_reducible apply Keeps.foldl | with_reducible apply Keeps.ite_fst
                | with_reducible apply Keeps.foldl_fst | split | dsimp only | (intro _; rfl) | (intro _; intros)

theorem State.canLast_keeps {σ s : State} (n : Nat) (b : Sys2Proof.Machine.OnBus) (hσ : Keeps σ s) : Keeps σ (State.canLast s n b) := by
  unfold State.canLast
  repeat' first | with_reducible assumption | with_reducible apply State.modCan_keeps | with_reducible apply State.canCount_keeps
                | with_reducible apply State.bump_keeps | with_reducible apply State.wr_keeps | with_reducible apply Keeps.ite
                | with_reducible apply Keeps.foldl | with_reducible apply Keeps.ite_fst | with_reducible apply Keeps.foldl_fst | split | dsimp only
                | (intro _; rfl) | (intro _; intros)

theorem State.linOpEnd_keeps {σ s : State} (n : Nat) (hσ : Keeps σ s) : Keeps σ (State.linOpEnd s n) := by
  unfold State.linOpEnd
  repeat' first | with_reducible assumption | with_reducible apply State.lineSeen_keeps | with_reducible apply State.linSleep_keeps
                | with_reducible apply State.modLin_keeps | with_reducible apply State.complete_keeps | with_reducible apply State.linAwake_keeps
                | with_reducible apply State.needsDone_keeps | with_reducible apply Keeps.ite | with_reducible apply Keeps.foldl
                | with_reducible apply Keeps.ite_fst | with_reducible apply Keeps.foldl_fst | split | dsimp only | (intro _; rfl) | (intro _; intros)

theorem execCanFrameSent_keeps {σ s : State} (dt : Nat) (g : Nat) (tdc : Nat) (hσ : Keeps σ (s.tick dt)) : AKeeps σ
    (execCanFrameSent dt g tdc s) := by
  unfold execCanFrameSent
  refine ⟨_, rfl, ?_⟩
  repeat' first | with_reducible assumption | with_reducible apply State.done_keeps | with_reducible apply State.canLast_keeps
                | with_reducible apply State.modCan_keeps | with_reducible apply State.wr_keeps | with_reducible apply State.lineSeen_keeps
                | with_reducible apply State.showTxq_keeps | with_reducible apply State.canCount_keeps | with_reducible apply State.bump_keeps
                | with_reducible apply State.canShow_keeps | with_reducible apply State.storedDone_keeps | with_reducible apply State.sentCount_keeps
                | with_reducible apply State.complete_keeps | with_reducible apply State.needsDone_keeps | with_reducible apply State.linOpEnd_keeps
                | with_reducible apply Keeps.ite | with_reducible apply Keeps.foldl | with_reducible apply Keeps.ite_fst
                | with_reducible apply Keeps.foldl_fst | split | dsimp only | (intro _; rfl) | (intro _; intros)

theorem State.canRetry_keeps {σ s : State} (n : Nat) (b : Sys2Proof.Machine.OnBus) (hσ : Keeps σ s) : Keeps σ (State.canRetry s n b) := by
  unfold State.canRetry
  repeat' first | with_reducible assumption | with_reducible apply State.modCan_keeps | with_reducible apply State.showTxq_keeps
                | with_reducible apply State.canGone_keeps | with_reducible apply Keeps.ite | with_reducible apply Keeps.foldl
                | with_reducible apply Keeps.ite_fst | with_reducible apply Keeps.foldl_fst | split | dsimp only | (intro _; rfl) | (intro _; intros)

theorem execCanArbitrationLost_keeps {σ s : State} (dt : Nat) (n : Nat) (hσ : Keeps σ (s.tick dt)) : AKeeps σ (execCanArbitrationLost dt n s) := by
  unfold execCanArbitrationLost
  refine ⟨_, rfl, ?_⟩
  repeat' first | with_reducible assumption | with_reducible apply State.done_keeps | with_reducible apply State.canRetry_keeps
                | with_reducible apply State.modCan_keeps | with_reducible apply Keeps.ite | with_reducible apply Keeps.foldl
                | with_reducible apply Keeps.ite_fst | with_reducible apply Keeps.foldl_fst | split | dsimp only | (intro _; rfl) | (intro _; intros)

theorem State.canBlock_keeps {σ s : State} (n : Nat) (id : Nat) (hσ : Keeps σ s) : Keeps σ (State.canBlock s n id) := by
  unfold State.canBlock
  repeat' first | with_reducible assumption | with_reducible apply State.modCan_keeps | with_reducible apply State.raise_keeps
                | with_reducible apply State.showTxq_keeps | with_reducible apply State.canGone_keeps | with_reducible apply Keeps.ite
                | with_reducible apply Keeps.foldl | with_reducible apply Keeps.ite_fst | with_reducible apply Keeps.foldl_fst | split | dsimp only
                | (intro _; rfl) | (intro _; intros)

theorem State.collide_keeps {σ s : State} (n : Nat) (id : Nat) (fmt : Nat) (pos : Nat) (hσ : Keeps σ s) : Keeps σ (State.collide s n id fmt pos) := by
  unfold State.collide
  repeat' first | with_reducible assumption | with_reducible apply State.raise_keeps | with_reducible apply State.modCan_keeps
                | with_reducible apply State.canCount_keeps | with_reducible apply State.canBlock_keeps | with_reducible apply Keeps.ite
                | with_reducible apply Keeps.foldl | with_reducible apply Keeps.ite_fst | with_reducible apply Keeps.foldl_fst | split | dsimp only
                | (intro _; rfl) | (intro _; intros)

theorem execCanErrorFrame_keeps {σ s : State} (dt : Nat) (n : Nat) (type : Nat) (pos : Nat) (tx : Bool) (coll : Bool) (exempt : Bool) (more : Nat) (hσ
    : Keeps σ (s.tick dt)) : AKeeps σ (execCanErrorFrame dt n type pos tx coll exempt more s) := by
  unfold execCanErrorFrame
  refine ⟨_, rfl, ?_⟩
  repeat' first | with_reducible assumption | with_reducible apply State.done_keeps | with_reducible apply State.modCan_keeps
                | with_reducible apply State.lineSeen_keeps | with_reducible apply State.bump_keeps | with_reducible apply State.wr_keeps
                | with_reducible apply State.canCount_keeps | with_reducible apply State.canShow_keeps | with_reducible apply State.canRetry_keeps
                | with_reducible apply State.collide_keeps | with_reducible apply Keeps.ite | with_reducible apply Keeps.foldl
                | with_reducible apply Keeps.ite_fst | with_reducible apply Keeps.foldl_fst | split | dsimp only | (intro _; rfl) | (intro _; intros)

theorem execCanBusOff_keeps {σ s : State} (dt : Nat) (n : Nat) (hσ : Keeps σ (s.tick dt)) : AKeeps σ (execCanBusOff dt n s) := by
  unfold execCanBusOff
  refine ⟨_, rfl, ?_⟩
  repeat' first | with_reducible assumption | with_reducible apply State.done_keeps | with_reducible apply State.modCan_keeps
                | with_reducible apply State.canFlush_keeps | with_reducible apply State.canShow_keeps | with_reducible apply State.wr_keeps
                | with_reducible apply State.canCount_keeps | with_reducible apply State.bump_keeps | with_reducible apply Keeps.ite
                | with_reducible apply Keeps.foldl | with_reducible apply Keeps.ite_fst | with_reducible apply Keeps.foldl_fst | split | dsimp only
                | (intro _; rfl) | (intro _; intros)

theorem execCanBusOffRecovery_keeps {σ s : State} (dt : Nat) (n : Nat) (hσ : Keeps σ (s.tick dt)) : AKeeps σ (execCanBusOffRecovery dt n s) := by
  unfold execCanBusOffRecovery
  refine ⟨_, rfl, ?_⟩
  repeat' first | with_reducible assumption | with_reducible apply State.done_keeps | with_reducible apply State.canShow_keeps
                | with_reducible apply State.modCan_keeps | with_reducible apply State.wr_keeps | with_reducible apply Keeps.ite
                | with_reducible apply Keeps.foldl | with_reducible apply Keeps.ite_fst | with_reducible apply Keeps.foldl_fst | split | dsimp only
                | (intro _; rfl) | (intro _; intros)

theorem execCanCancelLatch_keeps {σ s : State} (dt : Nat) (c : Sys2Proof.Machine.Cmd) (hσ : Keeps σ (s.tick dt)) : AKeeps σ
    (execCanCancelLatch dt c s) := by
  unfold execCanCancelLatch
  refine ⟨_, rfl, ?_⟩
  repeat' first | with_reducible assumption | with_reducible apply State.done_keeps | with_reducible apply State.modCan_keeps
                | with_reducible apply State.complete_keeps | with_reducible apply State.showTxq_keeps | with_reducible apply Keeps.ite
                | with_reducible apply Keeps.foldl | with_reducible apply Keeps.ite_fst | with_reducible apply Keeps.foldl_fst | split | dsimp only
                | (intro _; rfl) | (intro _; intros)

theorem State.tmFrom_keeps {σ s : State} (n : Nat) (hσ : Keeps σ s) : Keeps σ (State.tmFrom s n) := by
  unfold State.tmFrom
  repeat' first | with_reducible assumption | with_reducible apply State.modCan_keeps | with_reducible apply Keeps.ite
                | with_reducible apply Keeps.foldl | with_reducible apply Keeps.ite_fst | with_reducible apply Keeps.foldl_fst | split | dsimp only
                | (intro _; rfl) | (intro _; intros)

theorem execTmReferenceDue_keeps {σ s : State} (dt : Nat) (n : Nat) (past : Bool) (hσ : Keeps σ (s.tick dt)) : AKeeps σ
    (execTmReferenceDue dt n past s) := by
  unfold execTmReferenceDue
  refine ⟨_, rfl, ?_⟩
  repeat' first | with_reducible assumption | with_reducible apply State.done_keeps | with_reducible apply State.modCan_keeps
                | with_reducible apply State.raise_keeps | with_reducible apply State.canCount_keeps | with_reducible apply State.bump_keeps
                | with_reducible apply State.showTxq_keeps | with_reducible apply State.canPush_keeps | with_reducible apply Keeps.ite
                | with_reducible apply Keeps.foldl | with_reducible apply Keeps.ite_fst | with_reducible apply Keeps.foldl_fst | split | dsimp only
                | (intro _; rfl) | (intro _; intros)

theorem State.tmHeard_keeps {σ s : State} (n : Nat) (f : Sys2Proof.Machine.Frame) (hσ : Keeps σ s) : Keeps σ (State.tmHeard s n f) := by
  unfold State.tmHeard
  repeat' first | with_reducible assumption | with_reducible apply State.modCan_keeps | with_reducible apply State.setFlag_keeps
                | with_reducible apply Keeps.ite | with_reducible apply Keeps.foldl | with_reducible apply Keeps.ite_fst
                | with_reducible apply Keeps.foldl_fst | split | dsimp only | (intro _; rfl) | (intro _; intros)

theorem execCanFrameReceived_keeps {σ s : State} (dt : Nat) (g : Nat) (f : Sys2Proof.Machine.Frame) (lag : Nat) (hσ : Keeps σ (s.tick dt)) : AKeeps σ
    (execCanFrameReceived dt g f lag s) := by
  unfold execCanFrameReceived
  refine ⟨_, rfl, ?_⟩
  repeat' first | with_reducible assumption | with_reducible apply State.done_keeps | with_reducible apply State.modCan_keeps
                | with_reducible apply State.lineSeen_keeps | with_reducible apply State.canShow_keeps | with_reducible apply State.canCount_keeps
                | with_reducible apply State.bump_keeps | with_reducible apply State.ingest_keeps | with_reducible apply State.tmHeard_keeps
                | with_reducible apply State.linSleep_keeps | with_reducible apply State.linCount_keeps | with_reducible apply Keeps.ite
                | with_reducible apply Keeps.foldl | with_reducible apply Keeps.ite_fst | with_reducible apply Keeps.foldl_fst | split | dsimp only
                | (intro _; rfl) | (intro _; intros)

theorem execLinPublish_keeps {σ s : State} (dt : Nat) (c : Sys2Proof.Machine.Cmd) (hσ : Keeps σ (s.tick dt)) : AKeeps σ (execLinPublish dt c s) := by
  unfold execLinPublish
  refine ⟨_, rfl, ?_⟩
  repeat' first | with_reducible assumption | with_reducible apply State.done_keeps | with_reducible apply State.serveOp_keeps
                | with_reducible apply State.orElse_keeps | with_reducible apply State.descClamp_keeps | with_reducible apply State.complete_keeps
                | with_reducible apply State.setResp_keeps | with_reducible apply State.begin_keeps | with_reducible apply Keeps.ite
                | with_reducible apply Keeps.foldl | with_reducible apply Keeps.ite_fst | with_reducible apply Keeps.foldl_fst | split | dsimp only
                | (intro _; rfl) | (intro _; intros)

theorem State.schedReq_keeps {σ s : State} (n : Nat) (table : Nat) (stop : Bool) (c : Sys2Proof.Machine.Cmd) (hσ : Keeps σ s) : Keeps σ
    (State.schedReq s n table stop c) := by
  unfold State.schedReq
  repeat' first | with_reducible assumption | with_reducible apply State.complete_keeps | with_reducible apply State.modLin_keeps
                | with_reducible apply Keeps.ite | with_reducible apply Keeps.foldl | with_reducible apply Keeps.ite_fst
                | with_reducible apply Keeps.foldl_fst | split | dsimp only | (intro _; rfl) | (intro _; intros)

theorem execLinSched_keeps {σ s : State} (dt : Nat) (c : Sys2Proof.Machine.Cmd) (hσ : Keeps σ (s.tick dt)) : AKeeps σ (execLinSched dt c s) := by
  unfold execLinSched
  refine ⟨_, rfl, ?_⟩
  repeat' first | with_reducible assumption | with_reducible apply State.done_keeps | with_reducible apply State.serveOp_keeps
                | with_reducible apply State.orElse_keeps | with_reducible apply State.complete_keeps | with_reducible apply State.schedReq_keeps
                | with_reducible apply State.begin_keeps | with_reducible apply Keeps.ite | with_reducible apply Keeps.foldl
                | with_reducible apply Keeps.ite_fst | with_reducible apply Keeps.foldl_fst | split | dsimp only | (intro _; rfl) | (intro _; intros)

theorem execLinSleep_keeps {σ s : State} (dt : Nat) (c : Sys2Proof.Machine.Cmd) (hσ : Keeps σ (s.tick dt)) : AKeeps σ (execLinSleep dt c s) := by
  unfold execLinSleep
  refine ⟨_, rfl, ?_⟩
  repeat' first | with_reducible assumption | with_reducible apply State.done_keeps | with_reducible apply State.serveOp_keeps
                | with_reducible apply State.orElse_keeps | with_reducible apply State.modLin_keeps | with_reducible apply State.linOp_keeps
                | with_reducible apply State.begin_keeps | with_reducible apply Keeps.ite | with_reducible apply Keeps.foldl
                | with_reducible apply Keeps.ite_fst | with_reducible apply Keeps.foldl_fst | split | dsimp only | (intro _; rfl) | (intro _; intros)

theorem execLinWake_keeps {σ s : State} (dt : Nat) (c : Sys2Proof.Machine.Cmd) (hσ : Keeps σ (s.tick dt)) : AKeeps σ (execLinWake dt c s) := by
  unfold execLinWake
  refine ⟨_, rfl, ?_⟩
  repeat' first | with_reducible assumption | with_reducible apply State.done_keeps | with_reducible apply State.serveOp_keeps
                | with_reducible apply State.orElse_keeps | with_reducible apply State.modLin_keeps | with_reducible apply State.linOp_keeps
                | with_reducible apply State.begin_keeps | with_reducible apply Keeps.ite | with_reducible apply Keeps.foldl
                | with_reducible apply Keeps.ite_fst | with_reducible apply Keeps.foldl_fst | split | dsimp only | (intro _; rfl) | (intro _; intros)

theorem State.linError_keeps {σ s : State} (n : Nat) (id : Nat) (type : Nat) (hσ : Keeps σ s) : Keeps σ (State.linError s n id type) := by
  unfold State.linError
  repeat' first | with_reducible assumption | with_reducible apply State.raise_keeps | with_reducible apply State.linCount_keeps
                | with_reducible apply State.bump_keeps | with_reducible apply Keeps.ite | with_reducible apply Keeps.foldl
                | with_reducible apply Keeps.ite_fst | with_reducible apply Keeps.foldl_fst | split | dsimp only | (intro _; rfl) | (intro _; intros)

theorem State.linSent_keeps {σ s : State} (n : Nat) (id : Nat) (head : Nat) (data : List Sys2Proof.Byte) (once : Option Sys2Proof.Machine.LinResp)
    (count : Option (Nat × Nat)) (hσ : Keeps σ s) : Keeps σ (State.linSent s n id head data once count) := by
  unfold State.linSent
  repeat' first | with_reducible assumption | with_reducible apply State.modLin_keeps | with_reducible apply State.linCount_keeps
                | with_reducible apply Keeps.ite | with_reducible apply Keeps.foldl | with_reducible apply Keeps.ite_fst
                | with_reducible apply Keeps.foldl_fst | split | dsimp only | (intro _; rfl) | (intro _; intros)

theorem State.linUncount_keeps {σ s : State} (n : Nat) (k : Nat) (hσ : Keeps σ s) : Keeps σ (State.linUncount s n k) := by
  unfold State.linUncount
  repeat' first | with_reducible assumption | with_reducible apply State.modLin_keeps | with_reducible apply Keeps.ite
                | with_reducible apply Keeps.foldl | with_reducible apply Keeps.ite_fst | with_reducible apply Keeps.foldl_fst | split | dsimp only
                | (intro _; rfl) | (intro _; intros)

theorem State.fitUncount_keeps {σ s : State} (e : Nat) (k : Nat) (hσ : Keeps σ s) : Keeps σ (State.fitUncount s e k) := by
  unfold State.fitUncount
  repeat' first | with_reducible assumption | with_reducible apply State.modFit_keeps | with_reducible apply Keeps.ite
                | with_reducible apply Keeps.foldl | with_reducible apply Keeps.ite_fst | with_reducible apply Keeps.foldl_fst | split | dsimp only
                | (intro _; rfl) | (intro _; intros)

theorem State.linBack_keeps {σ s : State} (n : Nat) (hσ : Keeps σ s) : Keeps σ (State.linBack s n) := by
  unfold State.linBack
  repeat' first | with_reducible assumption | with_reducible apply State.modLin_keeps | with_reducible apply State.linUncount_keeps
                | with_reducible apply State.fitUncount_keeps | with_reducible apply Keeps.ite | with_reducible apply Keeps.foldl
                | with_reducible apply Keeps.ite_fst | with_reducible apply Keeps.foldl_fst | split | dsimp only | (intro _; rfl) | (intro _; intros)

theorem State.linRespond_keeps {σ s : State} (n : Nat) (id : Nat) (head : Nat) (hσ : Keeps σ s) : Keeps σ (State.linRespond s n id head) := by
  unfold State.linRespond
  repeat' first | with_reducible assumption | with_reducible apply State.modLin_keeps | with_reducible apply State.fitCount_keeps
                | with_reducible apply State.linSent_keeps | with_reducible apply Keeps.ite | with_reducible apply Keeps.foldl
                | with_reducible apply Keeps.ite_fst | with_reducible apply Keeps.foldl_fst | split | dsimp only | (intro _; rfl) | (intro _; intros)

theorem State.sendHeader_keeps {σ s : State} (n : Nat) (table : Nat) (k : Nat) (hσ : Keeps σ s) : Keeps σ (State.sendHeader s n table k) := by
  unfold State.sendHeader
  repeat' first | with_reducible assumption | with_reducible apply State.wr_keeps | with_reducible apply State.modLin_keeps
                | with_reducible apply State.lineSeen_keeps | with_reducible apply State.linCount_keeps | with_reducible apply State.linRespond_keeps
                | with_reducible apply Keeps.ite | with_reducible apply Keeps.foldl | with_reducible apply Keeps.ite_fst
                | with_reducible apply Keeps.foldl_fst | split | dsimp only | (intro _; rfl) | (intro _; intros)

theorem execLinSlot_keeps {σ s : State} (dt : Nat) (n : Nat) (err : Option Nat) (hσ : Keeps σ (s.tick dt)) : AKeeps σ (execLinSlot dt n err s) := by
  unfold execLinSlot
  refine ⟨_, rfl, ?_⟩
  repeat' first | with_reducible assumption | with_reducible apply State.done_keeps | with_reducible apply State.linError_keeps
                | with_reducible apply State.modLin_keeps | with_reducible apply State.wr_keeps | with_reducible apply State.complete_keeps
                | with_reducible apply State.sendHeader_keeps | with_reducible apply Keeps.ite | with_reducible apply Keeps.foldl
                | with_reducible apply Keeps.ite_fst | with_reducible apply Keeps.foldl_fst | split | dsimp only | (intro _; rfl) | (intro _; intros)

theorem execLinHeaderReceived_keeps {σ s : State} (dt : Nat) (n : Nat) (id : Nat) (err : Option Nat) (hσ : Keeps σ (s.tick dt)) : AKeeps σ
    (execLinHeaderReceived dt n id err s) := by
  unfold execLinHeaderReceived
  refine ⟨_, rfl, ?_⟩
  repeat' first | with_reducible assumption | with_reducible apply State.done_keeps | with_reducible apply State.lineSeen_keeps
                | with_reducible apply State.linCount_keeps | with_reducible apply State.linError_keeps | with_reducible apply State.linRespond_keeps
                | with_reducible apply Keeps.ite | with_reducible apply Keeps.foldl | with_reducible apply Keeps.ite_fst
                | with_reducible apply Keeps.foldl_fst | split | dsimp only | (intro _; rfl) | (intro _; intros)

theorem State.learn_keeps {σ s : State} (p : Nat) (vid : Nat) (mac : List Sys2Proof.Byte) (hσ : Keeps σ s) : Keeps σ (State.learn s p vid mac) := by
  unfold State.learn
  repeat' first | with_reducible assumption | with_reducible apply Keeps.ite | with_reducible apply Keeps.foldl | with_reducible apply Keeps.ite_fst
                | with_reducible apply Keeps.foldl_fst | split | dsimp only | (intro _; rfl) | (intro _; intros)
                | (refine Keeps.same (by rfl) (by rfl) (by rfl) (by rfl) ?_)

theorem State.bridgeEth_keeps {σ s : State} (p : Nat) (f : Sys2Proof.Machine.EthFrame) (hσ : Keeps σ s) : Keeps σ (State.bridgeEth s p f) := by
  unfold State.bridgeEth
  repeat' first | with_reducible assumption | with_reducible apply State.storeFrame_keeps | with_reducible apply State.bump_keeps
                | with_reducible apply State.portPush_keeps | with_reducible apply Keeps.ite | with_reducible apply Keeps.foldl
                | with_reducible apply Keeps.ite_fst | with_reducible apply Keeps.foldl_fst | split | dsimp only | (intro _; rfl) | (intro _; intros)

theorem State.recover_keeps {σ s : State} (e : Nat) (f : Sys2Proof.Machine.EthFrame) (hσ : Keeps σ s) : Keeps σ (State.recover s e f).1 := by
  unfold State.recover
  repeat' first | with_reducible assumption | with_reducible apply State.bump_keeps | with_reducible apply State.modFit_keeps
                | with_reducible apply Keeps.ite | with_reducible apply Keeps.foldl | with_reducible apply Keeps.ite_fst
                | with_reducible apply Keeps.foldl_fst | split | dsimp only | (intro _; rfl) | (intro _; intros)

theorem State.noteUplink_keeps {σ s : State} (e : Nat) (p : Nat) (hσ : Keeps σ s) : Keeps σ (State.noteUplink s e p) := by
  unfold State.noteUplink
  repeat' first | with_reducible assumption | with_reducible apply State.modFit_keeps | with_reducible apply Keeps.ite
                | with_reducible apply Keeps.foldl | with_reducible apply Keeps.ite_fst | with_reducible apply Keeps.foldl_fst | split | dsimp only
                | (intro _; rfl) | (intro _; intros)

theorem State.ethMatched_keeps {σ s : State} (e : Nat) (p : Nat) (f : Sys2Proof.Machine.EthFrame) (t : Sys2Proof.Machine.Stamp) (hσ : Keeps σ s) :
    Keeps σ (State.ethMatched s e p f t).1 := by
  unfold State.ethMatched
  repeat' first | with_reducible assumption | with_reducible apply State.noteMatch_keeps | with_reducible apply State.noteUplink_keeps
                | with_reducible apply State.recover_keeps | with_reducible apply State.meter_keeps | with_reducible apply State.wakeRoles_keeps
                | with_reducible apply State.fitCount_keeps | with_reducible apply State.sample_keeps | with_reducible apply State.sendNow_keeps
                | with_reducible apply Keeps.ite | with_reducible apply Keeps.foldl | with_reducible apply Keeps.ite_fst
                | with_reducible apply Keeps.foldl_fst | split | dsimp only | (intro _; rfl) | (intro _; intros)

theorem execEthFrameReceived_keeps {σ s : State} (dt : Nat) (p : Nat) (fcs : Bool) (bs : List Sys2Proof.Byte) (lag : Nat) (hσ : Keeps σ (s.tick dt))
    : AKeeps σ (execEthFrameReceived dt p fcs bs lag s) := by
  unfold execEthFrameReceived
  refine ⟨_, rfl, ?_⟩
  repeat' first | with_reducible assumption | with_reducible apply State.done_keeps | with_reducible apply State.lineSeen_keeps
                | with_reducible apply State.bump_keeps | with_reducible apply State.learn_keeps | with_reducible apply State.modPort_keeps
                | with_reducible apply State.bridgeEth_keeps | with_reducible apply State.rxPlace_keeps | with_reducible apply State.ethMatched_keeps
                | with_reducible apply Keeps.ite | with_reducible apply Keeps.foldl | with_reducible apply Keeps.ite_fst
                | with_reducible apply Keeps.foldl_fst | split | dsimp only | (intro _; rfl) | (intro _; intros)

theorem State.takeNums_keeps {σ s : State} (t : Sys2Proof.Machine.Tx) (hσ : Keeps σ s) : Keeps σ (State.takeNums s t).1 := by
  unfold State.takeNums
  repeat' first | with_reducible assumption | with_reducible apply State.modFit_keeps | with_reducible apply Keeps.ite
                | with_reducible apply Keeps.foldl | with_reducible apply Keeps.ite_fst | with_reducible apply Keeps.foldl_fst | split | dsimp only
                | (intro _; rfl) | (intro _; intros) | (refine Keeps.same (by rfl) (by rfl) (by rfl) (by rfl) ?_)

theorem State.withhold_keeps {σ s : State} (t : Sys2Proof.Machine.Tx) (hσ : Keeps σ s) : Keeps σ (State.withhold s t) := by
  unfold State.withhold
  repeat' first | with_reducible assumption | with_reducible apply State.copyLeft_keeps | with_reducible apply State.complete_keeps
                | with_reducible apply Keeps.ite | with_reducible apply Keeps.foldl | with_reducible apply Keeps.ite_fst
                | with_reducible apply Keeps.foldl_fst | split | dsimp only | (intro _; rfl) | (intro _; intros)

theorem State.ethStart_keeps {σ s : State} (p : Nat) (hσ : Keeps σ s) : Keeps σ (State.ethStart s p) := by
  unfold State.ethStart
  repeat' first | with_reducible assumption | with_reducible apply State.modPort_keeps | with_reducible apply State.takeNums_keeps
                | with_reducible apply State.withhold_keeps | with_reducible apply State.bump_keeps | with_reducible apply State.fitCount_keeps
                | with_reducible apply State.noteMark_keeps | with_reducible apply State.begin_keeps | with_reducible apply State.lineSeen_keeps
                | with_reducible apply Keeps.ite | with_reducible apply Keeps.foldl | with_reducible apply Keeps.ite_fst
                | with_reducible apply Keeps.foldl_fst | split | dsimp only | (intro _; rfl) | (intro _; intros)

theorem execFrameEgressStart_keeps {σ s : State} (dt : Nat) (g : Nat) (hσ : Keeps σ (s.tick dt)) : AKeeps σ (execFrameEgressStart dt g s) := by
  unfold execFrameEgressStart
  refine ⟨_, rfl, ?_⟩
  repeat' first | with_reducible assumption | with_reducible apply State.done_keeps | with_reducible apply State.canSof_keeps
                | with_reducible apply State.ethStart_keeps | with_reducible apply Keeps.ite | with_reducible apply Keeps.foldl
                | with_reducible apply Keeps.ite_fst | with_reducible apply Keeps.foldl_fst | split | dsimp only | (intro _; rfl) | (intro _; intros)

theorem execEthFrameSent_keeps {σ s : State} (dt : Nat) (p : Nat) (hσ : Keeps σ (s.tick dt)) : AKeeps σ (execEthFrameSent dt p s) := by
  unfold execEthFrameSent
  refine ⟨_, rfl, ?_⟩
  repeat' first | with_reducible assumption | with_reducible apply State.done_keeps | with_reducible apply State.modPort_keeps
                | with_reducible apply State.storedDone_keeps | with_reducible apply State.bump_keeps | with_reducible apply Keeps.ite
                | with_reducible apply Keeps.foldl | with_reducible apply Keeps.ite_fst | with_reducible apply Keeps.foldl_fst | split | dsimp only
                | (intro _; rfl) | (intro _; intros)

theorem execEthSend_keeps {σ s : State} (dt : Nat) (c : Sys2Proof.Machine.Cmd) (rcd : List Sys2Proof.Byte) (hσ : Keeps σ (s.tick dt)) : AKeeps σ
    (execEthSend dt c rcd s) := by
  unfold execEthSend
  refine ⟨_, rfl, ?_⟩
  repeat' first | with_reducible assumption | with_reducible apply State.done_keeps | with_reducible apply State.serveOp_keeps
                | with_reducible apply State.orElse_keeps | with_reducible apply State.dma_keeps | with_reducible apply State.complete_keeps
                | with_reducible apply State.meter_keeps | with_reducible apply State.noteMatch_keeps | with_reducible apply State.sample_keeps
                | with_reducible apply State.wakeRoles_keeps | with_reducible apply State.sendValue_keeps | with_reducible apply State.begin_keeps
                | with_reducible apply State.storeFrame_keeps | with_reducible apply State.bump_keeps | with_reducible apply State.portPush_keeps
                | with_reducible apply Keeps.ite | with_reducible apply Keeps.foldl | with_reducible apply Keeps.ite_fst
                | with_reducible apply Keeps.foldl_fst | split | dsimp only | (intro _; rfl) | (intro _; intros)

theorem State.showUsed_keeps {σ s : State} (hσ : Keeps σ s) : Keeps σ (State.showUsed s) := by
  unfold State.showUsed
  repeat' first | with_reducible assumption | with_reducible apply State.wr_keeps | with_reducible apply Keeps.ite | with_reducible apply Keeps.foldl
                | with_reducible apply Keeps.ite_fst | with_reducible apply Keeps.foldl_fst | split | dsimp only | (intro _; rfl) | (intro _; intros)

theorem State.fitCommit_keeps {σ s : State} (pf : Nat) (hσ : Keeps σ s) : Keeps σ (State.fitCommit s pf) := by
  unfold State.fitCommit
  repeat' first | with_reducible assumption | with_reducible apply State.logSetup_keeps | with_reducible apply State.showUsed_keeps
                | with_reducible apply Keeps.ite | with_reducible apply Keeps.foldl | with_reducible apply Keeps.ite_fst
                | with_reducible apply Keeps.foldl_fst | split | dsimp only | (intro _; rfl) | (intro _; intros)
                | (refine Keeps.same (by rfl) (by rfl) (by rfl) (by rfl) ?_)

theorem State.fitReadOp_keeps {σ s : State} (hσ : Keeps σ s) : Keeps σ (State.fitReadOp s) := by
  unfold State.fitReadOp
  repeat' first | with_reducible assumption | with_reducible apply Keeps.ite | with_reducible apply Keeps.foldl | with_reducible apply Keeps.ite_fst
                | with_reducible apply Keeps.foldl_fst | split | dsimp only | (intro _; rfl) | (intro _; intros)
                | (refine Keeps.same (by rfl) (by rfl) (by rfl) (by rfl) ?_)

theorem State.fitClear_keeps {σ s : State} (hσ : Keeps σ s) : Keeps σ (State.fitClear s) := by
  unfold State.fitClear
  repeat' first | with_reducible assumption | with_reducible apply State.modFit_keeps | with_reducible apply Keeps.ite
                | with_reducible apply Keeps.foldl | with_reducible apply Keeps.ite_fst | with_reducible apply Keeps.foldl_fst | split | dsimp only
                | (intro _; rfl) | (intro _; intros)

theorem execFitPeriodicSend_keeps {σ s : State} (dt : Nat) (e : Nat) (hσ : Keeps σ (s.tick dt)) : AKeeps σ (execFitPeriodicSend dt e s) := by
  unfold execFitPeriodicSend
  refine ⟨_, rfl, ?_⟩
  repeat' first | with_reducible assumption | with_reducible apply State.done_keeps | with_reducible apply State.modFit_keeps
                | with_reducible apply State.sample_keeps | with_reducible apply State.sendValue_keeps | with_reducible apply Keeps.ite
                | with_reducible apply Keeps.foldl | with_reducible apply Keeps.ite_fst | with_reducible apply Keeps.foldl_fst | split | dsimp only
                | (intro _; rfl) | (intro _; intros)

theorem execFreshLost_keeps {σ s : State} (dt : Nat) (e : Nat) (hσ : Keeps σ (s.tick dt)) : AKeeps σ (execFreshLost dt e s) := by
  unfold execFreshLost
  refine ⟨_, rfl, ?_⟩
  repeat' first | with_reducible assumption | with_reducible apply State.done_keeps | with_reducible apply State.raise_keeps
                | with_reducible apply Keeps.ite | with_reducible apply Keeps.foldl | with_reducible apply Keeps.ite_fst
                | with_reducible apply Keeps.foldl_fst | split | dsimp only | (intro _; rfl) | (intro _; intros)
                | (refine Keeps.same (by rfl) (by rfl) (by rfl) (by rfl) ?_)

theorem execPathSilent_keeps {σ s : State} (dt : Nat) (e : Nat) (p : Nat) (hσ : Keeps σ (s.tick dt)) : AKeeps σ (execPathSilent dt e p s) := by
  unfold execPathSilent
  refine ⟨_, rfl, ?_⟩
  repeat' first | with_reducible assumption | with_reducible apply State.done_keeps | with_reducible apply State.raise_keeps
                | with_reducible apply State.modFit_keeps | with_reducible apply Keeps.ite | with_reducible apply Keeps.foldl
                | with_reducible apply Keeps.ite_fst | with_reducible apply Keeps.foldl_fst | split | dsimp only | (intro _; rfl) | (intro _; intros)

theorem execQbvGateChange_keeps {σ s : State} (dt : Nat) (p : Nat) (hσ : Keeps σ (s.tick dt)) : AKeeps σ (execQbvGateChange dt p s) := by
  unfold execQbvGateChange
  refine ⟨_, rfl, ?_⟩
  repeat' first | with_reducible assumption | with_reducible apply State.done_keeps | with_reducible apply State.modPort_keeps
                | with_reducible apply Keeps.ite | with_reducible apply Keeps.foldl | with_reducible apply Keeps.ite_fst
                | with_reducible apply Keeps.foldl_fst | split | dsimp only | (intro _; rfl) | (intro _; intros)

theorem execMacAging_keeps {σ s : State} (dt : Nat) (hσ : Keeps σ (s.tick dt)) : AKeeps σ (execMacAging dt s) := by
  unfold execMacAging
  refine ⟨_, rfl, ?_⟩
  repeat' first | with_reducible assumption | with_reducible apply State.done_keeps | with_reducible apply Keeps.ite
                | with_reducible apply Keeps.foldl | with_reducible apply Keeps.ite_fst | with_reducible apply Keeps.foldl_fst | split | dsimp only
                | (intro _; rfl) | (intro _; intros) | (refine Keeps.same (by rfl) (by rfl) (by rfl) (by rfl) ?_)

theorem execLinkState_keeps {σ s : State} (dt : Nat) (p : Nat) (up : Bool) (sqi : Nat) (hσ : Keeps σ (s.tick dt)) : AKeeps σ
    (execLinkState dt p up sqi s) := by
  unfold execLinkState
  refine ⟨_, rfl, ?_⟩
  repeat' first | with_reducible assumption | with_reducible apply State.done_keeps | with_reducible apply State.bump_keeps
                | with_reducible apply State.wr_keeps | with_reducible apply State.wrb_keeps | with_reducible apply State.raise_keeps
                | with_reducible apply State.modPort_keeps | with_reducible apply State.needsDone_keeps | with_reducible apply Keeps.ite
                | with_reducible apply Keeps.foldl | with_reducible apply Keeps.ite_fst | with_reducible apply Keeps.foldl_fst | split | dsimp only
                | (intro _; rfl) | (intro _; intros)

theorem State.timeJump_keeps {σ s : State} (hσ : Keeps σ s) : Keeps σ (State.timeJump s) := by
  unfold State.timeJump
  repeat' first | with_reducible assumption | with_reducible apply State.tmFrom_keeps | with_reducible apply Keeps.ite
                | with_reducible apply Keeps.foldl | with_reducible apply Keeps.ite_fst | with_reducible apply Keeps.foldl_fst | split | dsimp only
                | (intro _; rfl) | (intro _; intros) | (refine Keeps.same (by rfl) (by rfl) (by rfl) (by rfl) ?_)

theorem State.gptpTo_keeps {σ s : State} (st : Nat) (hσ : Keeps σ s) : Keeps σ (State.gptpTo s st) := by
  unfold State.gptpTo
  repeat' first | with_reducible assumption | with_reducible apply State.wr_keeps | with_reducible apply Keeps.ite | with_reducible apply Keeps.foldl
                | with_reducible apply Keeps.ite_fst | with_reducible apply Keeps.foldl_fst | split | dsimp only | (intro _; rfl) | (intro _; intros)

theorem execGptpSync_keeps {σ s : State} (dt : Nat) (ofs : Nat) (hσ : Keeps σ (s.tick dt)) : AKeeps σ (execGptpSync dt ofs s) := by
  unfold execGptpSync
  refine ⟨_, rfl, ?_⟩
  repeat' first | with_reducible assumption | with_reducible apply State.done_keeps | with_reducible apply State.wr_keeps
                | with_reducible apply State.raise_keeps | with_reducible apply State.timeJump_keeps | with_reducible apply State.bump_keeps
                | with_reducible apply State.gptpTo_keeps | with_reducible apply Keeps.ite | with_reducible apply Keeps.foldl
                | with_reducible apply Keeps.ite_fst | with_reducible apply Keeps.foldl_fst | split | dsimp only | (intro _; rfl) | (intro _; intros)
                | (refine Keeps.same (by rfl) (by rfl) (by rfl) (by rfl) ?_)

theorem execGptpHoldover_keeps {σ s : State} (dt : Nat) (hσ : Keeps σ (s.tick dt)) : AKeeps σ (execGptpHoldover dt s) := by
  unfold execGptpHoldover
  refine ⟨_, rfl, ?_⟩
  repeat' first | with_reducible assumption | with_reducible apply State.done_keeps | with_reducible apply State.gptpTo_keeps
                | with_reducible apply State.raise_keeps | with_reducible apply Keeps.ite | with_reducible apply Keeps.foldl
                | with_reducible apply Keeps.ite_fst | with_reducible apply Keeps.foldl_fst | split | dsimp only | (intro _; rfl) | (intro _; intros)
                | (refine Keeps.same (by rfl) (by rfl) (by rfl) (by rfl) ?_)

theorem execGptpSyncSend_keeps {σ s : State} (dt : Nat) (hσ : Keeps σ (s.tick dt)) : AKeeps σ (execGptpSyncSend dt s) := by
  unfold execGptpSyncSend
  refine ⟨_, rfl, ?_⟩
  repeat' first | with_reducible assumption | with_reducible apply State.done_keeps | with_reducible apply State.portPush_keeps
                | with_reducible apply Keeps.ite | with_reducible apply Keeps.foldl | with_reducible apply Keeps.ite_fst
                | with_reducible apply Keeps.foldl_fst | split | dsimp only | (intro _; rfl) | (intro _; intros)
                | (refine Keeps.same (by rfl) (by rfl) (by rfl) (by rfl) ?_)

theorem execNmNeed_keeps {σ s : State} (dt : Nat) (c : Sys2Proof.Machine.Cmd) (hσ : Keeps σ (s.tick dt)) : AKeeps σ (execNmNeed dt c s) := by
  unfold execNmNeed
  refine ⟨_, rfl, ?_⟩
  repeat' first | with_reducible assumption | with_reducible apply State.done_keeps | with_reducible apply State.serveOp_keeps
                | with_reducible apply State.orElse_keeps | with_reducible apply State.wr_keeps | with_reducible apply State.begin_keeps
                | with_reducible apply State.modSeg_keeps | with_reducible apply State.nmNeed_keeps | with_reducible apply State.needsDone_keeps
                | with_reducible apply Keeps.ite | with_reducible apply Keeps.foldl | with_reducible apply Keeps.ite_fst
                | with_reducible apply Keeps.foldl_fst | split | dsimp only | (intro _; rfl) | (intro _; intros)

theorem State.hostRelease_keeps {σ s : State} (g : Nat) (hσ : Keeps σ s) : Keeps σ (State.hostRelease s g) := by
  unfold State.hostRelease
  repeat' first | with_reducible assumption | with_reducible apply State.modSeg_keeps | with_reducible apply State.wr_keeps
                | with_reducible apply State.nmLeave_keeps | with_reducible apply State.complete_keeps | with_reducible apply Keeps.ite
                | with_reducible apply Keeps.foldl | with_reducible apply Keeps.ite_fst | with_reducible apply Keeps.foldl_fst | split | dsimp only
                | (intro _; rfl) | (intro _; intros)

theorem execNmRelease_keeps {σ s : State} (dt : Nat) (c : Sys2Proof.Machine.Cmd) (hσ : Keeps σ (s.tick dt)) : AKeeps σ (execNmRelease dt c s) := by
  unfold execNmRelease
  refine ⟨_, rfl, ?_⟩
  repeat' first | with_reducible assumption | with_reducible apply State.done_keeps | with_reducible apply State.serveOp_keeps
                | with_reducible apply State.orElse_keeps | with_reducible apply State.complete_keeps | with_reducible apply State.hostRelease_keeps
                | with_reducible apply State.begin_keeps | with_reducible apply Keeps.ite | with_reducible apply Keeps.foldl
                | with_reducible apply Keeps.ite_fst | with_reducible apply Keeps.foldl_fst | split | dsimp only | (intro _; rfl) | (intro _; intros)

theorem State.nmEnable_keeps {σ s : State} (g : Nat) (hσ : Keeps σ s) : Keeps σ (State.nmEnable s g) := by
  unfold State.nmEnable
  repeat' first | with_reducible assumption | with_reducible apply State.nmReady_keeps | with_reducible apply Keeps.ite
                | with_reducible apply Keeps.foldl | with_reducible apply Keeps.ite_fst | with_reducible apply Keeps.foldl_fst | split | dsimp only
                | (intro _; rfl) | (intro _; intros)

theorem State.nmDisable_keeps {σ s : State} (g : Nat) (hσ : Keeps σ s) : Keeps σ (State.nmDisable s g) := by
  unfold State.nmDisable
  repeat' first | with_reducible assumption | with_reducible apply State.wr_keeps | with_reducible apply State.nmTo_keeps
                | with_reducible apply State.modSeg_keeps | with_reducible apply State.complete_keeps | with_reducible apply Keeps.ite
                | with_reducible apply Keeps.foldl | with_reducible apply Keeps.ite_fst | with_reducible apply Keeps.foldl_fst | split | dsimp only
                | (intro _; rfl) | (intro _; intros)

theorem execKeepaliveSend_keeps {σ s : State} (dt : Nat) (g : Nat) (hσ : Keeps σ (s.tick dt)) : AKeeps σ (execKeepaliveSend dt g s) := by
  unfold execKeepaliveSend
  refine ⟨_, rfl, ?_⟩
  repeat' first | with_reducible assumption | with_reducible apply State.done_keeps | with_reducible apply State.kaSend_keeps
                | with_reducible apply Keeps.ite | with_reducible apply Keeps.foldl | with_reducible apply Keeps.ite_fst
                | with_reducible apply Keeps.foldl_fst | split | dsimp only | (intro _; rfl) | (intro _; intros)

theorem execTkaExpiry_keeps {σ s : State} (dt : Nat) (g : Nat) (hσ : Keeps σ (s.tick dt)) : AKeeps σ (execTkaExpiry dt g s) := by
  unfold execTkaExpiry
  refine ⟨_, rfl, ?_⟩
  repeat' first | with_reducible assumption | with_reducible apply State.done_keeps | with_reducible apply State.modSeg_keeps
                | with_reducible apply State.nmTo_keeps | with_reducible apply Keeps.ite | with_reducible apply Keeps.foldl
                | with_reducible apply Keeps.ite_fst | with_reducible apply Keeps.foldl_fst | split | dsimp only | (intro _; rfl) | (intro _; intros)

theorem execTprepExpiry_keeps {σ s : State} (dt : Nat) (g : Nat) (hσ : Keeps σ (s.tick dt)) : AKeeps σ (execTprepExpiry dt g s) := by
  unfold execTprepExpiry
  refine ⟨_, rfl, ?_⟩
  repeat' first | with_reducible assumption | with_reducible apply State.done_keeps | with_reducible apply State.nmTo_keeps
                | with_reducible apply Keeps.ite | with_reducible apply Keeps.foldl | with_reducible apply Keeps.ite_fst
                | with_reducible apply Keeps.foldl_fst | split | dsimp only | (intro _; rfl) | (intro _; intros)

theorem execNeedHoldEnd_keeps {σ s : State} (dt : Nat) (g : Nat) (hσ : Keeps σ (s.tick dt)) : AKeeps σ (execNeedHoldEnd dt g s) := by
  unfold execNeedHoldEnd
  refine ⟨_, rfl, ?_⟩
  repeat' first | with_reducible assumption | with_reducible apply State.done_keeps | with_reducible apply State.hostRelease_keeps
                | with_reducible apply Keeps.ite | with_reducible apply Keeps.foldl | with_reducible apply Keeps.ite_fst
                | with_reducible apply Keeps.foldl_fst | split | dsimp only | (intro _; rfl) | (intro _; intros)

theorem execFwdHoldEnd_keeps {σ s : State} (dt : Nat) (g : Nat) (hσ : Keeps σ (s.tick dt)) : AKeeps σ (execFwdHoldEnd dt g s) := by
  unfold execFwdHoldEnd
  refine ⟨_, rfl, ?_⟩
  repeat' first | with_reducible assumption | with_reducible apply State.done_keeps | with_reducible apply State.nmLeave_keeps
                | with_reducible apply State.wr_keeps | with_reducible apply Keeps.ite | with_reducible apply Keeps.foldl
                | with_reducible apply Keeps.ite_fst | with_reducible apply Keeps.foldl_fst | split | dsimp only | (intro _; rfl) | (intro _; intros)

theorem State.failsafeEvent_keeps {σ s : State} (g : Nat) (k : Nat) (hσ : Keeps σ s) : Keeps σ (State.failsafeEvent s g k) := by
  unfold State.failsafeEvent
  repeat' first | with_reducible assumption | with_reducible apply State.raise_keeps | with_reducible apply Keeps.ite
                | with_reducible apply Keeps.foldl | with_reducible apply Keeps.ite_fst | with_reducible apply Keeps.foldl_fst | split | dsimp only
                | (intro _; rfl) | (intro _; intros)

theorem execFailsafeSleepRequest_keeps {σ s : State} (dt : Nat) (g : Nat) (answered : Bool) (hσ : Keeps σ (s.tick dt)) : AKeeps σ
    (execFailsafeSleepRequest dt g answered s) := by
  unfold execFailsafeSleepRequest
  refine ⟨_, rfl, ?_⟩
  repeat' first | with_reducible assumption | with_reducible apply State.done_keeps | with_reducible apply State.modSeg_keeps
                | with_reducible apply State.failsafeEvent_keeps | with_reducible apply State.linSleep_keeps | with_reducible apply State.nmTo_keeps
                | with_reducible apply Keeps.ite | with_reducible apply Keeps.foldl | with_reducible apply Keeps.ite_fst
                | with_reducible apply Keeps.foldl_fst | split | dsimp only | (intro _; rfl) | (intro _; intros)

theorem execFailsafeTimeout_keeps {σ s : State} (dt : Nat) (g : Nat) (hσ : Keeps σ (s.tick dt)) : AKeeps σ (execFailsafeTimeout dt g s) := by
  unfold execFailsafeTimeout
  refine ⟨_, rfl, ?_⟩
  repeat' first | with_reducible assumption | with_reducible apply State.done_keeps | with_reducible apply State.modSeg_keeps
                | with_reducible apply State.bump_keeps | with_reducible apply State.failsafeEvent_keeps | with_reducible apply State.linSleep_keeps
                | with_reducible apply State.nmTo_keeps | with_reducible apply Keeps.ite | with_reducible apply Keeps.foldl
                | with_reducible apply Keeps.ite_fst | with_reducible apply Keeps.foldl_fst | split | dsimp only | (intro _; rfl) | (intro _; intros)

theorem execNmKeeper_keeps {σ s : State} (dt : Nat) (g : Nat) (hσ : Keeps σ (s.tick dt)) : AKeeps σ (execNmKeeper dt g s) := by
  unfold execNmKeeper
  refine ⟨_, rfl, ?_⟩
  repeat' first | with_reducible assumption | with_reducible apply State.done_keeps | with_reducible apply State.modSeg_keeps
                | with_reducible apply State.charge_keeps | with_reducible apply State.raise_keeps | with_reducible apply Keeps.ite
                | with_reducible apply Keeps.foldl | with_reducible apply Keeps.ite_fst | with_reducible apply Keeps.foldl_fst | split | dsimp only
                | (intro _; rfl) | (intro _; intros)

theorem execLinSilenceSleep_keeps {σ s : State} (dt : Nat) (n : Nat) (hσ : Keeps σ (s.tick dt)) : AKeeps σ (execLinSilenceSleep dt n s) := by
  unfold execLinSilenceSleep
  refine ⟨_, rfl, ?_⟩
  repeat' first | with_reducible assumption | with_reducible apply State.done_keeps | with_reducible apply State.linSleep_keeps
                | with_reducible apply Keeps.ite | with_reducible apply Keeps.foldl | with_reducible apply Keeps.ite_fst
                | with_reducible apply Keeps.foldl_fst | split | dsimp only | (intro _; rfl) | (intro _; intros)

theorem execBarrierUplinkFrame_keeps {σ s : State} (dt : Nat) (crc : Bool) (seq : Nat) (vins : List Nat) (iin : List Nat) (rises : List Nat)
    (falls : List Nat) (vfld : Nat) (hσ : Keeps σ (s.tick dt)) : AKeeps σ (execBarrierUplinkFrame dt crc seq vins iin rises falls vfld s) := by
  unfold execBarrierUplinkFrame
  refine ⟨_, rfl, ?_⟩
  repeat' first | with_reducible assumption | with_reducible apply State.done_keeps | with_reducible apply State.freshInputs_keeps
                | with_reducible apply State.uplink_keeps | with_reducible apply Keeps.ite | with_reducible apply Keeps.foldl
                | with_reducible apply Keeps.ite_fst | with_reducible apply Keeps.foldl_fst | split | dsimp only | (intro _; rfl) | (intro _; intros)

theorem State.clearNodes_keeps {σ s : State} (g : Nat) (hσ : Keeps σ s) : Keeps σ (State.clearNodes s g) := by
  unfold State.clearNodes
  repeat' first | with_reducible assumption | with_reducible apply State.modSeg_keeps | with_reducible apply State.charge_keeps
                | with_reducible apply Keeps.ite | with_reducible apply Keeps.foldl | with_reducible apply Keeps.ite_fst
                | with_reducible apply Keeps.foldl_fst | split | dsimp only | (intro _; rfl) | (intro _; intros)

theorem State.twCount_keeps {σ s : State} (k : Nat) (n : Nat) (hσ : Keeps σ s) : Keeps σ (State.twCount s k n) := by
  unfold State.twCount
  repeat' first | with_reducible assumption | with_reducible apply State.tw_keeps | with_reducible apply Keeps.ite | with_reducible apply Keeps.foldl
                | with_reducible apply Keeps.ite_fst | with_reducible apply Keeps.foldl_fst | split | dsimp only | (intro _; rfl) | (intro _; intros)

theorem State.drive_keeps {σ s : State} (role : Bool) (ok : Bool) (hσ : Keeps σ s) : Keeps σ (State.drive s role ok) := by
  unfold State.drive
  repeat' first | with_reducible assumption | with_reducible apply State.tw_keeps | with_reducible apply State.wrb_keeps
                | with_reducible apply Keeps.ite | with_reducible apply Keeps.foldl | with_reducible apply Keeps.ite_fst
                | with_reducible apply Keeps.foldl_fst | split | dsimp only | (intro _; rfl) | (intro _; intros)

theorem State.peerLines_keeps {σ s : State} (role : Bool) (ok : Bool) (hσ : Keeps σ s) : Keeps σ (State.peerLines s role ok) := by
  unfold State.peerLines
  repeat' first | with_reducible assumption | with_reducible apply State.drive_keeps | with_reducible apply State.tw_keeps
                | with_reducible apply Keeps.ite | with_reducible apply Keeps.foldl | with_reducible apply Keeps.ite_fst
                | with_reducible apply Keeps.foldl_fst | split | dsimp only | (intro _; rfl) | (intro _; intros)

theorem State.joined_keeps {σ s : State} (hσ : Keeps σ s) : Keeps σ (State.joined s) := by
  unfold State.joined
  repeat' first | with_reducible assumption | with_reducible apply State.complete_keeps | with_reducible apply State.tw_keeps
                | with_reducible apply Keeps.ite | with_reducible apply Keeps.foldl | with_reducible apply Keeps.ite_fst
                | with_reducible apply Keeps.foldl_fst | split | dsimp only | (intro _; rfl) | (intro _; intros)

theorem State.twTo_keeps {σ s : State} (st : Nat) (role : Nat) (hσ : Keeps σ s) : Keeps σ (State.twTo s st role) := by
  unfold State.twTo
  repeat' first | with_reducible assumption | with_reducible apply State.wr_keeps | with_reducible apply State.raise_keeps
                | with_reducible apply State.joined_keeps | with_reducible apply Keeps.ite | with_reducible apply Keeps.foldl
                | with_reducible apply Keeps.ite_fst | with_reducible apply Keeps.foldl_fst | split | dsimp only | (intro _; rfl) | (intro _; intros)

theorem State.flagEvent_keeps {σ s : State} (f : Sys2Proof.Machine.Field) (type : Nat) (data : Nat) (hσ : Keeps σ s) : Keeps σ
    (State.flagEvent s f type data) := by
  unfold State.flagEvent
  repeat' first | with_reducible assumption | with_reducible apply State.raise_keeps | with_reducible apply State.setFlag_keeps
                | with_reducible apply Keeps.ite | with_reducible apply Keeps.foldl | with_reducible apply Keeps.ite_fst
                | with_reducible apply Keeps.foldl_fst | split | dsimp only | (intro _; rfl) | (intro _; intros)

theorem State.setLost_keeps {σ s : State} (o : Nat) (cause : Nat) (lost : Bool) (hσ : Keeps σ s) : Keeps σ (State.setLost s o cause lost) := by
  unfold State.setLost
  repeat' first | with_reducible assumption | with_reducible apply State.tw_keeps | with_reducible apply State.wrb_keeps
                | with_reducible apply State.claimSet_keeps | with_reducible apply State.raise_keeps | with_reducible apply Keeps.ite
                | with_reducible apply Keeps.foldl | with_reducible apply Keeps.ite_fst | with_reducible apply Keeps.foldl_fst | split | dsimp only
                | (intro _; rfl) | (intro _; intros)

theorem State.allLost_keeps {σ s : State} (hσ : Keeps σ s) : Keeps σ (State.allLost s) := by
  unfold State.allLost
  repeat' first | with_reducible assumption | with_reducible apply State.setLost_keeps | with_reducible apply Keeps.ite
                | with_reducible apply Keeps.foldl | with_reducible apply Keeps.ite_fst | with_reducible apply Keeps.foldl_fst | split | dsimp only
                | (intro _; rfl) | (intro _; intros)

theorem State.quietOff_keeps {σ s : State} (o : Nat) (hσ : Keeps σ s) : Keeps σ (State.quietOff s o) := by
  unfold State.quietOff
  repeat' first | with_reducible assumption | with_reducible apply State.objOff_keeps | with_reducible apply Keeps.ite
                | with_reducible apply Keeps.foldl | with_reducible apply Keeps.ite_fst | with_reducible apply Keeps.foldl_fst | split | dsimp only
                | (intro _; rfl) | (intro _; intros)

theorem State.toStandby_keeps {σ s : State} (hσ : Keeps σ s) : Keeps σ (State.toStandby s) := by
  unfold State.toStandby
  repeat' first | with_reducible assumption | with_reducible apply State.wr_keeps | with_reducible apply State.quietOff_keeps
                | with_reducible apply Keeps.ite | with_reducible apply Keeps.foldl | with_reducible apply Keeps.ite_fst
                | with_reducible apply Keeps.foldl_fst | split | dsimp only | (intro _; rfl) | (intro _; intros)

theorem State.noStandby_keeps {σ s : State} (hσ : Keeps σ s) : Keeps σ (State.noStandby s) := by
  unfold State.noStandby
  repeat' first | with_reducible assumption | with_reducible apply State.showUse_keeps | with_reducible apply State.setLoad_keeps
                | with_reducible apply State.wr_keeps | with_reducible apply Keeps.ite | with_reducible apply Keeps.foldl
                | with_reducible apply Keeps.ite_fst | with_reducible apply Keeps.foldl_fst | split | dsimp only | (intro _; rfl) | (intro _; intros)

theorem State.journalEnd_keeps {σ s : State} (p : Sys2Proof.Machine.JEntry → Bool) (code : Sys2Proof.Machine.Code) (sub : Nat) (hσ : Keeps σ s) :
    Keeps σ (State.journalEnd s p code sub) := by
  unfold State.journalEnd
  repeat' first | with_reducible assumption | with_reducible apply State.tw_keeps | with_reducible apply State.complete_keeps
                | with_reducible apply Keeps.ite | with_reducible apply Keeps.foldl | with_reducible apply Keeps.ite_fst
                | with_reducible apply Keeps.foldl_fst | split | dsimp only | (intro _; rfl) | (intro _; intros)

theorem State.twRelease_keeps {σ s : State} (hσ : Keeps σ s) : Keeps σ (State.twRelease s) := by
  unfold State.twRelease
  repeat' first | with_reducible assumption | with_reducible apply State.drive_keeps | with_reducible apply State.tw_keeps
                | with_reducible apply Keeps.ite | with_reducible apply Keeps.foldl | with_reducible apply Keeps.ite_fst
                | with_reducible apply Keeps.foldl_fst | split | dsimp only | (intro _; rfl) | (intro _; intros)

theorem State.swapEnd_keeps {σ s : State} (code : Sys2Proof.Machine.Code) (sub : Nat) (n : Nat) (st : Nat) (role : Nat) (hσ : Keeps σ s) : Keeps σ
    (State.swapEnd s code sub n st role) := by
  unfold State.swapEnd
  repeat' first | with_reducible assumption | with_reducible apply State.tw_keeps | with_reducible apply State.twTo_keeps
                | with_reducible apply State.twCount_keeps | with_reducible apply State.bump_keeps | with_reducible apply State.raise_keeps
                | with_reducible apply State.flagEvent_keeps | with_reducible apply State.complete_keeps | with_reducible apply Keeps.ite
                | with_reducible apply Keeps.foldl | with_reducible apply Keeps.ite_fst | with_reducible apply Keeps.foldl_fst | split | dsimp only
                | (intro _; rfl) | (intro _; intros)

theorem State.swapDrop_keeps {σ s : State} (hσ : Keeps σ s) : Keeps σ (State.swapDrop s) := by
  unfold State.swapDrop
  repeat' first | with_reducible assumption | with_reducible apply State.complete_keeps | with_reducible apply State.tw_keeps
                | with_reducible apply Keeps.ite | with_reducible apply Keeps.foldl | with_reducible apply Keeps.ite_fst
                | with_reducible apply Keeps.foldl_fst | split | dsimp only | (intro _; rfl) | (intro _; intros)

theorem State.twLeave_keeps {σ s : State} (hσ : Keeps σ s) : Keeps σ (State.twLeave s) := by
  unfold State.twLeave
  repeat' first | with_reducible assumption | with_reducible apply State.swapDrop_keeps | with_reducible apply State.twRelease_keeps
                | with_reducible apply State.tw_keeps | with_reducible apply State.twTo_keeps | with_reducible apply State.noStandby_keeps
                | with_reducible apply Keeps.ite | with_reducible apply Keeps.foldl | with_reducible apply Keeps.ite_fst
                | with_reducible apply Keeps.foldl_fst | split | dsimp only | (intro _; rfl) | (intro _; intros)
                | (refine Keeps.same (by rfl) (by rfl) (by rfl) (by rfl) ?_)

theorem State.twClaim_keeps {σ s : State} (hσ : Keeps σ s) : Keeps σ (State.twClaim s) := by
  unfold State.twClaim
  repeat' first | with_reducible assumption | with_reducible apply State.twTo_keeps | with_reducible apply State.tw_keeps
                | with_reducible apply Keeps.ite | with_reducible apply Keeps.foldl | with_reducible apply Keeps.ite_fst
                | with_reducible apply Keeps.foldl_fst | split | dsimp only | (intro _; rfl) | (intro _; intros)

theorem State.twEnable_keeps {σ s : State} (hσ : Keeps σ s) : Keeps σ (State.twEnable s) := by
  unfold State.twEnable
  repeat' first | with_reducible assumption | with_reducible apply State.twClaim_keeps | with_reducible apply State.tw_keeps
                | with_reducible apply State.wr_keeps | with_reducible apply Keeps.ite | with_reducible apply Keeps.foldl
                | with_reducible apply Keeps.ite_fst | with_reducible apply Keeps.foldl_fst | split | dsimp only | (intro _; rfl) | (intro _; intros)

theorem State.twDisable_keeps {σ s : State} (hσ : Keeps σ s) : Keeps σ (State.twDisable s) := by
  unfold State.twDisable
  repeat' first | with_reducible assumption | with_reducible apply State.wr_keeps | with_reducible apply State.twLeave_keeps
                | with_reducible apply Keeps.ite | with_reducible apply Keeps.foldl | with_reducible apply Keeps.ite_fst
                | with_reducible apply Keeps.foldl_fst | split | dsimp only | (intro _; rfl) | (intro _; intros)

theorem State.twJoining_keeps {σ s : State} (cfg : List Nat) (hσ : Keeps σ s) : Keeps σ (State.twJoining s cfg) := by
  unfold State.twJoining
  repeat' first | with_reducible assumption | with_reducible apply State.twTo_keeps | with_reducible apply State.tw_keeps
                | with_reducible apply State.raise_keeps | with_reducible apply Keeps.ite | with_reducible apply Keeps.foldl
                | with_reducible apply Keeps.ite_fst | with_reducible apply Keeps.foldl_fst | split | dsimp only | (intro _; rfl) | (intro _; intros)

theorem State.twAlone_keeps {σ s : State} (hσ : Keeps σ s) : Keeps σ (State.twAlone s) := by
  unfold State.twAlone
  repeat' first | with_reducible assumption | with_reducible apply State.drive_keeps | with_reducible apply State.tw_keeps
                | with_reducible apply State.twTo_keeps | with_reducible apply Keeps.ite | with_reducible apply Keeps.foldl
                | with_reducible apply Keeps.ite_fst | with_reducible apply Keeps.foldl_fst | split | dsimp only | (intro _; rfl) | (intro _; intros)

theorem State.restoreImage_keeps {σ s : State} (i : Sys2Proof.Machine.Image) (hσ : Keeps σ s) : Keeps σ (State.restoreImage s i) := by
  unfold State.restoreImage
  repeat' first | with_reducible assumption | with_reducible apply State.setLoad_keeps | with_reducible apply State.wr_keeps
                | with_reducible apply State.charge_keeps | with_reducible apply State.nmSet_keeps | with_reducible apply State.modFit_keeps
                | with_reducible apply Keeps.ite | with_reducible apply Keeps.foldl | with_reducible apply Keeps.ite_fst
                | with_reducible apply Keeps.foldl_fst | split | dsimp only | (intro _; rfl) | (intro _; intros)
                | (refine Keeps.same (by rfl) (by rfl) (by rfl) (by rfl) ?_)

theorem State.startTarget_keeps {σ s : State} (o : Nat) (cls : Nat) (t : Sys2Proof.Machine.TwTarget) (inr : Bool) (hσ : Keeps σ s) : Keeps σ
    (State.startTarget s o cls t inr) := by
  unfold State.startTarget
  repeat' first | with_reducible assumption | with_reducible apply State.quietOff_keeps | with_reducible apply State.svLevel_keeps
                | with_reducible apply State.objServe_keeps | with_reducible apply State.chChange_keeps | with_reducible apply Keeps.ite
                | with_reducible apply Keeps.foldl | with_reducible apply Keeps.ite_fst | with_reducible apply Keeps.foldl_fst | split | dsimp only
                | (intro _; rfl) | (intro _; intros)

theorem State.restoreLoop_keeps {σ s : State} (r : Sys2Proof.Machine.ImgLoop) (hσ : Keeps σ s) : Keeps σ (State.restoreLoop s r) := by
  unfold State.restoreLoop
  repeat' first | with_reducible assumption | with_reducible apply State.wr_keeps | with_reducible apply State.modLoop_keeps
                | with_reducible apply State.loopClaims_keeps | with_reducible apply State.loopApply_keeps | with_reducible apply Keeps.ite
                | with_reducible apply Keeps.foldl | with_reducible apply Keeps.ite_fst | with_reducible apply Keeps.foldl_fst | split | dsimp only
                | (intro _; rfl) | (intro _; intros)

theorem State.takeObjects_keeps {σ s : State} (stale : Bool) (hσ : Keeps σ s) : Keeps σ (State.takeObjects s stale) := by
  unfold State.takeObjects
  repeat' first | with_reducible assumption | with_reducible apply State.allLost_keeps | with_reducible apply State.takeState_keeps
                | with_reducible apply State.noStandby_keeps | with_reducible apply State.startTarget_keeps
                | with_reducible apply State.restoreLoop_keeps | with_reducible apply Keeps.ite | with_reducible apply Keeps.foldl
                | with_reducible apply Keeps.ite_fst | with_reducible apply Keeps.foldl_fst | split | dsimp only | (intro _; rfl) | (intro _; intros)

theorem State.perform_keeps {σ s : State} (c : Cmd) (hσ : Keeps σ s) : Keeps σ (s.perform c) := by
  unfold State.perform
  extract_lets s1 vd
  have h0 : Keeps σ (s1.tick 0) := State.tick_zero_keeps (State.modFlight_keeps _ _ hσ)
  clear_value s1 vd
  apply AKeeps.state
  split
  all_goals first
    | with_reducible exact execLedOff_keeps _ _ h0
    | with_reducible exact execLedOn_keeps _ _ h0
    | with_reducible exact execLedDim_keeps _ _ h0
    | with_reducible exact execLdClearFault_keeps _ _ h0
    | with_reducible exact execLdDiagCheck_keeps _ _ h0
    | with_reducible exact execSvOff_keeps _ _ h0
    | with_reducible exact execSvOn_keeps _ _ h0
    | with_reducible exact execSvHold_keeps _ _ h0
    | with_reducible exact execSvClearFault_keeps _ _ h0
    | with_reducible exact execSvDiagCheck_keeps _ _ h0
    | with_reducible exact execLoopOpen_keeps _ _ h0
    | with_reducible exact execLoopClose_keeps _ _ h0
    | with_reducible exact execLoopSetpoint_keeps _ _ h0
    | with_reducible exact execClearFlags_keeps _ _ h0
    | with_reducible exact execOutOff_keeps _ _ h0
    | with_reducible exact execOutOn_keeps _ _ _ h0
    | with_reducible exact execOutPwm_keeps _ _ _ h0
    | with_reducible exact execClearFault_keeps _ _ h0
    | with_reducible exact execDiagCheck_keeps _ _ h0

theorem State.replay_keeps {σ s : State} (hσ : Keeps σ s) : Keeps σ (State.replay s).1 := by
  unfold State.replay
  repeat' first | with_reducible assumption | with_reducible apply State.tw_keeps | with_reducible apply State.complete_keeps
                | with_reducible apply State.perform_keeps | with_reducible apply Keeps.ite | with_reducible apply Keeps.foldl
                | with_reducible apply Keeps.ite_fst | with_reducible apply Keeps.foldl_fst | split | dsimp only | (intro _; rfl) | (intro _; intros)

theorem State.takeover_keeps {σ s : State} (det : Nat) (on : Nat) (hσ : Keeps σ s) : Keeps σ (State.takeover s det on) := by
  unfold State.takeover
  repeat' first | with_reducible assumption | with_reducible apply State.drive_keeps | with_reducible apply State.tw_keeps
                | with_reducible apply State.twTo_keeps | with_reducible apply State.wr_keeps | with_reducible apply State.restoreImage_keeps
                | with_reducible apply State.takeObjects_keeps | with_reducible apply State.journalEnd_keeps | with_reducible apply State.replay_keeps
                | with_reducible apply State.twCount_keeps | with_reducible apply State.bump_keeps | with_reducible apply State.raise_keeps
                | with_reducible apply Keeps.ite | with_reducible apply Keeps.foldl | with_reducible apply Keeps.ite_fst
                | with_reducible apply Keeps.foldl_fst | split | dsimp only | (intro _; rfl) | (intro _; intros)

theorem execTwJoin_keeps {σ s : State} (dt : Nat) (c : Sys2Proof.Machine.Cmd) (hσ : Keeps σ (s.tick dt)) : AKeeps σ (execTwJoin dt c s) := by
  unfold execTwJoin
  refine ⟨_, rfl, ?_⟩
  repeat' first | with_reducible assumption | with_reducible apply State.done_keeps | with_reducible apply State.serveOp_keeps
                | with_reducible apply State.wr_keeps | with_reducible apply State.begin_keeps | with_reducible apply State.complete_keeps
                | with_reducible apply State.tw_keeps | with_reducible apply State.twClaim_keeps | with_reducible apply Keeps.ite
                | with_reducible apply Keeps.foldl | with_reducible apply Keeps.ite_fst | with_reducible apply Keeps.foldl_fst | split | dsimp only
                | (intro _; rfl) | (intro _; intros)

theorem execTwJoinTimeout_keeps {σ s : State} (dt : Nat) (hσ : Keeps σ (s.tick dt)) : AKeeps σ (execTwJoinTimeout dt s) := by
  unfold execTwJoinTimeout
  refine ⟨_, rfl, ?_⟩
  repeat' first | with_reducible assumption | with_reducible apply State.done_keeps | with_reducible apply State.complete_keeps
                | with_reducible apply State.tw_keeps | with_reducible apply Keeps.ite | with_reducible apply Keeps.foldl
                | with_reducible apply Keeps.ite_fst | with_reducible apply Keeps.foldl_fst | split | dsimp only | (intro _; rfl) | (intro _; intros)

theorem execTwPart_keeps {σ s : State} (dt : Nat) (c : Sys2Proof.Machine.Cmd) (hσ : Keeps σ (s.tick dt)) : AKeeps σ (execTwPart dt c s) := by
  unfold execTwPart
  refine ⟨_, rfl, ?_⟩
  repeat' first | with_reducible assumption | with_reducible apply State.done_keeps | with_reducible apply State.serveOp_keeps
                | with_reducible apply State.begin_keeps | with_reducible apply State.complete_keeps | with_reducible apply State.twLeave_keeps
                | with_reducible apply Keeps.ite | with_reducible apply Keeps.foldl | with_reducible apply Keeps.ite_fst
                | with_reducible apply Keeps.foldl_fst | split | dsimp only | (intro _; rfl) | (intro _; intros)

theorem execReedLaneLoss_keeps {σ s : State} (dt : Nat) (k : Nat) (hσ : Keeps σ (s.tick dt)) : AKeeps σ (execReedLaneLoss dt k s) := by
  unfold execReedLaneLoss
  refine ⟨_, rfl, ?_⟩
  repeat' first | with_reducible assumption | with_reducible apply State.done_keeps | with_reducible apply State.wr_keeps
                | with_reducible apply Keeps.ite | with_reducible apply Keeps.foldl | with_reducible apply Keeps.ite_fst
                | with_reducible apply Keeps.foldl_fst | split | dsimp only | (intro _; rfl) | (intro _; intros)

theorem execReedLaneLock_keeps {σ s : State} (dt : Nat) (k : Nat) (hσ : Keeps σ (s.tick dt)) : AKeeps σ (execReedLaneLock dt k s) := by
  unfold execReedLaneLock
  refine ⟨_, rfl, ?_⟩
  repeat' first | with_reducible assumption | with_reducible apply State.done_keeps | with_reducible apply State.wr_keeps
                | with_reducible apply Keeps.ite | with_reducible apply Keeps.foldl | with_reducible apply Keeps.ite_fst
                | with_reducible apply Keeps.foldl_fst | split | dsimp only | (intro _; rfl) | (intro _; intros)

theorem execClaimDelayExpiry_keeps {σ s : State} (dt : Nat) (rival : Option (Bool × Nat)) (same : List Nat) (hσ : Keeps σ (s.tick dt)) : AKeeps σ
    (execClaimDelayExpiry dt rival same s) := by
  unfold execClaimDelayExpiry
  refine ⟨_, rfl, ?_⟩
  repeat' first | with_reducible assumption | with_reducible apply State.done_keeps | with_reducible apply State.twAlone_keeps
                | with_reducible apply State.twJoining_keeps | with_reducible apply State.peerLines_keeps | with_reducible apply State.drive_keeps
                | with_reducible apply Keeps.ite | with_reducible apply Keeps.foldl | with_reducible apply Keeps.ite_fst
                | with_reducible apply Keeps.foldl_fst | split | dsimp only | (intro _; rfl) | (intro _; intros)

theorem State.handoff_keeps {σ s : State} (hσ : Keeps σ s) : Keeps σ (State.handoff s) := by
  unfold State.handoff
  repeat' first | with_reducible assumption | with_reducible apply State.drive_keeps | with_reducible apply State.tw_keeps
                | with_reducible apply Keeps.ite | with_reducible apply Keeps.foldl | with_reducible apply Keeps.ite_fst
                | with_reducible apply Keeps.foldl_fst | split | dsimp only | (intro _; rfl) | (intro _; intros)

theorem execPairRoleLow_keeps {σ s : State} (dt : Nat) (same : List Nat) (det : Nat) (on : Nat) (hσ : Keeps σ (s.tick dt)) : AKeeps σ
    (execPairRoleLow dt same det on s) := by
  unfold execPairRoleLow
  refine ⟨_, rfl, ?_⟩
  repeat' first | with_reducible assumption | with_reducible apply State.done_keeps | with_reducible apply State.peerLines_keeps
                | with_reducible apply State.twJoining_keeps | with_reducible apply State.wr_keeps | with_reducible apply State.toStandby_keeps
                | with_reducible apply State.tw_keeps | with_reducible apply State.drive_keeps | with_reducible apply State.swapEnd_keeps
                | with_reducible apply Keeps.ite | with_reducible apply Keeps.foldl | with_reducible apply Keeps.ite_fst
                | with_reducible apply Keeps.foldl_fst | split | dsimp only | (intro _; rfl) | (intro _; intros)

theorem execPairOkLow_keeps {σ s : State} (dt : Nat) (hσ : Keeps σ (s.tick dt)) : AKeeps σ (execPairOkLow dt s) := by
  unfold execPairOkLow
  refine ⟨_, rfl, ?_⟩
  repeat' first | with_reducible assumption | with_reducible apply State.done_keeps | with_reducible apply State.peerLines_keeps
                | with_reducible apply State.tw_keeps | with_reducible apply State.twTo_keeps | with_reducible apply State.setLost_keeps
                | with_reducible apply State.swapEnd_keeps | with_reducible apply Keeps.ite | with_reducible apply Keeps.foldl
                | with_reducible apply Keeps.ite_fst | with_reducible apply Keeps.foldl_fst | split | dsimp only | (intro _; rfl) | (intro _; intros)

theorem execTwHeartbeatSend_keeps {σ s : State} (dt : Nat) (hσ : Keeps σ (s.tick dt)) : AKeeps σ (execTwHeartbeatSend dt s) := by
  unfold execTwHeartbeatSend
  refine ⟨_, rfl, ?_⟩
  repeat' first | with_reducible assumption | with_reducible apply State.done_keeps | with_reducible apply State.tw_keeps
                | with_reducible apply State.reed_keeps | with_reducible apply Keeps.ite | with_reducible apply Keeps.foldl
                | with_reducible apply Keeps.ite_fst | with_reducible apply Keeps.foldl_fst | split | dsimp only | (intro _; rfl) | (intro _; intros)

theorem State.linkLostShadow_keeps {σ s : State} (hσ : Keeps σ s) : Keeps σ (State.linkLostShadow s) := by
  unfold State.linkLostShadow
  repeat' first | with_reducible assumption | with_reducible apply State.twTo_keeps | with_reducible apply State.quietOff_keeps
                | with_reducible apply State.journalEnd_keeps | with_reducible apply Keeps.ite | with_reducible apply Keeps.foldl
                | with_reducible apply Keeps.ite_fst | with_reducible apply Keeps.foldl_fst | split | dsimp only | (intro _; rfl) | (intro _; intros)

theorem State.peerSilent_keeps {σ s : State} (hσ : Keeps σ s) : Keeps σ (State.peerSilent s) := by
  unfold State.peerSilent
  repeat' first | with_reducible assumption | with_reducible apply State.raise_keeps | with_reducible apply Keeps.ite
                | with_reducible apply Keeps.foldl | with_reducible apply Keeps.ite_fst | with_reducible apply Keeps.foldl_fst | split | dsimp only
                | (intro _; rfl) | (intro _; intros)

theorem execTwHeartbeatLoss_keeps {σ s : State} (dt : Nat) (role : Bool) (ok : Bool) (parted : Bool) (det : Nat) (on : Nat) (hσ : Keeps σ (s.tick dt))
    : AKeeps σ (execTwHeartbeatLoss dt role ok parted det on s) := by
  unfold execTwHeartbeatLoss
  refine ⟨_, rfl, ?_⟩
  repeat' first | with_reducible assumption | with_reducible apply State.done_keeps | with_reducible apply State.peerLines_keeps
                | with_reducible apply State.tw_keeps | with_reducible apply State.twLeave_keeps | with_reducible apply State.takeover_keeps
                | with_reducible apply State.swapEnd_keeps | with_reducible apply State.linkLostShadow_keeps
                | with_reducible apply State.peerSilent_keeps | with_reducible apply State.drive_keeps | with_reducible apply State.allLost_keeps
                | with_reducible apply State.twTo_keeps | with_reducible apply Keeps.ite | with_reducible apply Keeps.foldl
                | with_reducible apply Keeps.ite_fst | with_reducible apply Keeps.foldl_fst | split | dsimp only | (intro _; rfl) | (intro _; intros)

theorem execPairRoleReleased_keeps {σ s : State} (dt : Nat) (det : Nat) (on : Nat) (hσ : Keeps σ (s.tick dt)) : AKeeps σ
    (execPairRoleReleased dt det on s) := by
  unfold execPairRoleReleased
  refine ⟨_, rfl, ?_⟩
  repeat' first | with_reducible assumption | with_reducible apply State.done_keeps | with_reducible apply State.peerLines_keeps
                | with_reducible apply State.takeover_keeps | with_reducible apply State.tw_keeps | with_reducible apply Keeps.ite
                | with_reducible apply Keeps.foldl | with_reducible apply Keeps.ite_fst | with_reducible apply Keeps.foldl_fst | split | dsimp only
                | (intro _; rfl) | (intro _; intros)

theorem execHeartbeatRestored_keeps {σ s : State} (dt : Nat) (hσ : Keeps σ (s.tick dt)) : AKeeps σ (execHeartbeatRestored dt s) := by
  unfold execHeartbeatRestored
  refine ⟨_, rfl, ?_⟩
  repeat' first | with_reducible assumption | with_reducible apply State.done_keeps | with_reducible apply State.tw_keeps
                | with_reducible apply State.twTo_keeps | with_reducible apply State.drive_keeps | with_reducible apply Keeps.ite
                | with_reducible apply Keeps.foldl | with_reducible apply Keeps.ite_fst | with_reducible apply Keeps.foldl_fst | split | dsimp only
                | (intro _; rfl) | (intro _; intros)

theorem execPartnerLost_keeps {σ s : State} (dt : Nat) (o : Nat) (cause : Nat) (back : Bool) (hσ : Keeps σ (s.tick dt)) : AKeeps σ
    (execPartnerLost dt o cause back s) := by
  unfold execPartnerLost
  refine ⟨_, rfl, ?_⟩
  repeat' first | with_reducible assumption | with_reducible apply State.done_keeps | with_reducible apply State.setLost_keeps
                | with_reducible apply Keeps.ite | with_reducible apply Keeps.foldl | with_reducible apply Keeps.ite_fst
                | with_reducible apply Keeps.foldl_fst | split | dsimp only | (intro _; rfl) | (intro _; intros)

theorem execLineFault_keeps {σ s : State} (dt : Nat) (k : Nat) (bad : Bool) (hσ : Keeps σ (s.tick dt)) : AKeeps σ (execLineFault dt k bad s) := by
  unfold execLineFault
  refine ⟨_, rfl, ?_⟩
  repeat' first | with_reducible assumption | with_reducible apply State.done_keeps | with_reducible apply State.tw_keeps
                | with_reducible apply State.flagEvent_keeps | with_reducible apply Keeps.ite | with_reducible apply Keeps.foldl
                | with_reducible apply Keeps.ite_fst | with_reducible apply Keeps.foldl_fst | split | dsimp only | (intro _; rfl) | (intro _; intros)

theorem execTwinRefreshTimeout_keeps {σ s : State} (dt : Nat) (hσ : Keeps σ (s.tick dt)) : AKeeps σ (execTwinRefreshTimeout dt s) := by
  unfold execTwinRefreshTimeout
  refine ⟨_, rfl, ?_⟩
  repeat' first | with_reducible assumption | with_reducible apply State.done_keeps | with_reducible apply State.twLeave_keeps
                | with_reducible apply Keeps.ite | with_reducible apply Keeps.foldl | with_reducible apply Keeps.ite_fst
                | with_reducible apply Keeps.foldl_fst | split | dsimp only | (intro _; rfl) | (intro _; intros)

theorem execMirrorSnapshot_keeps {σ s : State} (dt : Nat) (hσ : Keeps σ (s.tick dt)) : AKeeps σ (execMirrorSnapshot dt s) := by
  unfold execMirrorSnapshot
  refine ⟨_, rfl, ?_⟩
  repeat' first | with_reducible assumption | with_reducible apply State.done_keeps | with_reducible apply State.tw_keeps
                | with_reducible apply State.reed_keeps | with_reducible apply Keeps.ite | with_reducible apply Keeps.foldl
                | with_reducible apply Keeps.ite_fst | with_reducible apply Keeps.foldl_fst | split | dsimp only | (intro _; rfl) | (intro _; intros)

theorem execMirrorLate_keeps {σ s : State} (dt : Nat) (us : Nat) (hσ : Keeps σ (s.tick dt)) : AKeeps σ (execMirrorLate dt us s) := by
  unfold execMirrorLate
  refine ⟨_, rfl, ?_⟩
  repeat' first | with_reducible assumption | with_reducible apply State.done_keeps | with_reducible apply State.raise_keeps
                | with_reducible apply State.twCount_keeps | with_reducible apply State.bump_keeps | with_reducible apply Keeps.ite
                | with_reducible apply Keeps.foldl | with_reducible apply Keeps.ite_fst | with_reducible apply Keeps.foldl_fst | split | dsimp only
                | (intro _; rfl) | (intro _; intros)

theorem State.commitImage_keeps {σ s : State} (i : Sys2Proof.Machine.Image) (took : Nat) (hσ : Keeps σ s) : Keeps σ (State.commitImage s i took) := by
  unfold State.commitImage
  repeat' first | with_reducible assumption | with_reducible apply State.tw_keeps | with_reducible apply State.journalEnd_keeps
                | with_reducible apply State.twTo_keeps | with_reducible apply State.drive_keeps | with_reducible apply State.toStandby_keeps
                | with_reducible apply State.standbyClaims_keeps | with_reducible apply Keeps.ite | with_reducible apply Keeps.foldl
                | with_reducible apply Keeps.ite_fst | with_reducible apply Keeps.foldl_fst | split | dsimp only | (intro _; rfl) | (intro _; intros)

theorem execImageReceived_keeps {σ s : State} (dt : Nat) (i : Sys2Proof.Machine.Image) (whole : Bool) (crc : Bool) (took : Nat) (hσ : Keeps σ
    (s.tick dt)) : AKeeps σ (execImageReceived dt i whole crc took s) := by
  unfold execImageReceived
  refine ⟨_, rfl, ?_⟩
  repeat' first | with_reducible assumption | with_reducible apply State.done_keeps | with_reducible apply State.handoff_keeps
                | with_reducible apply State.commitImage_keeps | with_reducible apply State.twCount_keeps | with_reducible apply State.bump_keeps
                | with_reducible apply Keeps.ite | with_reducible apply Keeps.foldl | with_reducible apply Keeps.ite_fst
                | with_reducible apply Keeps.foldl_fst | split | dsimp only | (intro _; rfl) | (intro _; intros)

theorem execJournalTimeout_keeps {σ s : State} (dt : Nat) (hσ : Keeps σ (s.tick dt)) : AKeeps σ (execJournalTimeout dt s) := by
  unfold execJournalTimeout
  refine ⟨_, rfl, ?_⟩
  repeat' first | with_reducible assumption | with_reducible apply State.done_keeps | with_reducible apply State.twCount_keeps
                | with_reducible apply State.bump_keeps | with_reducible apply State.journalEnd_keeps | with_reducible apply Keeps.ite
                | with_reducible apply Keeps.foldl | with_reducible apply Keeps.ite_fst | with_reducible apply Keeps.foldl_fst | split | dsimp only
                | (intro _; rfl) | (intro _; intros)

theorem execDriveMessage_keeps {σ s : State} (dt : Nat) (d : Sys2Proof.Machine.DriveMsg) (late : Nat) (hσ : Keeps σ (s.tick dt)) : AKeeps σ
    (execDriveMessage dt d late s) := by
  unfold execDriveMessage
  refine ⟨_, rfl, ?_⟩
  repeat' first | with_reducible assumption | with_reducible apply State.done_keeps | with_reducible apply State.startTarget_keeps
                | with_reducible apply State.raise_keeps | with_reducible apply State.twCount_keeps | with_reducible apply Keeps.ite
                | with_reducible apply Keeps.foldl | with_reducible apply Keeps.ite_fst | with_reducible apply Keeps.foldl_fst | split | dsimp only
                | (intro _; rfl) | (intro _; intros)

theorem execOfftestWindow_keeps {σ s : State} (dt : Nat) (first : Bool) (off : List Nat) (hσ : Keeps σ (s.tick dt)) : AKeeps σ
    (execOfftestWindow dt first off s) := by
  unfold execOfftestWindow
  refine ⟨_, rfl, ?_⟩
  repeat' first | with_reducible assumption | with_reducible apply State.done_keeps | with_reducible apply State.tw_keeps
                | with_reducible apply Keeps.ite | with_reducible apply Keeps.foldl | with_reducible apply Keeps.ite_fst
                | with_reducible apply Keeps.foldl_fst | split | dsimp only | (intro _; rfl) | (intro _; intros)
                | (refine Keeps.same (by rfl) (by rfl) (by rfl) (by rfl) ?_)

theorem execOobHeartbeatSend_keeps {σ s : State} (dt : Nat) (hσ : Keeps σ (s.tick dt)) : AKeeps σ (execOobHeartbeatSend dt s) := by
  unfold execOobHeartbeatSend
  refine ⟨_, rfl, ?_⟩
  repeat' first | with_reducible assumption | with_reducible apply State.done_keeps | with_reducible apply State.forwardWake_keeps
                | with_reducible apply State.tw_keeps | with_reducible apply State.portPush_keeps | with_reducible apply State.canPush_keeps
                | with_reducible apply Keeps.ite | with_reducible apply Keeps.foldl | with_reducible apply Keeps.ite_fst
                | with_reducible apply Keeps.foldl_fst | split | dsimp only | (intro _; rfl) | (intro _; intros)

theorem execOobHeartbeatReceived_keeps {σ s : State} (dt : Nat) (role : Nat) (serial : Nat) (later : Bool) (hσ : Keeps σ (s.tick dt)) : AKeeps σ
    (execOobHeartbeatReceived dt role serial later s) := by
  unfold execOobHeartbeatReceived
  refine ⟨_, rfl, ?_⟩
  repeat' first | with_reducible assumption | with_reducible apply State.done_keeps | with_reducible apply State.tw_keeps
                | with_reducible apply State.wr_keeps | with_reducible apply State.flagEvent_keeps | with_reducible apply State.twCount_keeps
                | with_reducible apply State.toStandby_keeps | with_reducible apply State.twRelease_keeps | with_reducible apply State.quietOff_keeps
                | with_reducible apply State.twClaim_keeps | with_reducible apply Keeps.ite | with_reducible apply Keeps.foldl
                | with_reducible apply Keeps.ite_fst | with_reducible apply Keeps.foldl_fst | split | dsimp only | (intro _; rfl) | (intro _; intros)

theorem execOobHeartbeatSilent_keeps {σ s : State} (dt : Nat) (hσ : Keeps σ (s.tick dt)) : AKeeps σ (execOobHeartbeatSilent dt s) := by
  unfold execOobHeartbeatSilent
  refine ⟨_, rfl, ?_⟩
  repeat' first | with_reducible assumption | with_reducible apply State.done_keeps | with_reducible apply State.wr_keeps
                | with_reducible apply State.peerSilent_keeps | with_reducible apply Keeps.ite | with_reducible apply Keeps.foldl
                | with_reducible apply Keeps.ite_fst | with_reducible apply Keeps.foldl_fst | split | dsimp only | (intro _; rfl) | (intro _; intros)

theorem State.swapBegin_keeps {σ s : State} (cmds : List Sys2Proof.Machine.Cmd) (due : Bool) (hσ : Keeps σ s) : Keeps σ
    (State.swapBegin s cmds due) := by
  unfold State.swapBegin
  repeat' first | with_reducible assumption | with_reducible apply State.tw_keeps | with_reducible apply State.begin_keeps
                | with_reducible apply State.twTo_keeps | with_reducible apply State.reed_keeps | with_reducible apply Keeps.ite
                | with_reducible apply Keeps.foldl | with_reducible apply Keeps.ite_fst | with_reducible apply Keeps.foldl_fst | split | dsimp only
                | (intro _; rfl) | (intro _; intros)

theorem State.swapAsk_keeps {σ s : State} (cmds : List Sys2Proof.Machine.Cmd) (due : Bool) (peer : Bool) (hσ : Keeps σ s) : Keeps σ
    (State.swapAsk s cmds due peer) := by
  unfold State.swapAsk
  repeat' first | with_reducible assumption | with_reducible apply State.swapBegin_keeps | with_reducible apply State.tw_keeps
                | with_reducible apply Keeps.ite | with_reducible apply Keeps.foldl | with_reducible apply Keeps.ite_fst
                | with_reducible apply Keeps.foldl_fst | split | dsimp only | (intro _; rfl) | (intro _; intros)

theorem execTwSolstice_keeps {σ s : State} (dt : Nat) (c : Sys2Proof.Machine.Cmd) (peer : Bool) (hσ : Keeps σ (s.tick dt)) : AKeeps σ
    (execTwSolstice dt c peer s) := by
  unfold execTwSolstice
  refine ⟨_, rfl, ?_⟩
  repeat' first | with_reducible assumption | with_reducible apply State.done_keeps | with_reducible apply State.serveOp_keeps
                | with_reducible apply State.orElse_keeps | with_reducible apply State.swapAsk_keeps | with_reducible apply Keeps.ite
                | with_reducible apply Keeps.foldl | with_reducible apply Keeps.ite_fst | with_reducible apply Keeps.foldl_fst | split | dsimp only
                | (intro _; rfl) | (intro _; intros)

theorem execSolsticeDue_keeps {σ s : State} (dt : Nat) (why : Nat) (peer : Bool) (hσ : Keeps σ (s.tick dt)) : AKeeps σ
    (execSolsticeDue dt why peer s) := by
  unfold execSolsticeDue
  refine ⟨_, rfl, ?_⟩
  repeat' first | with_reducible assumption | with_reducible apply State.done_keeps | with_reducible apply State.swapAsk_keeps
                | with_reducible apply State.tw_keeps | with_reducible apply State.raise_keeps | with_reducible apply State.swapBegin_keeps
                | with_reducible apply Keeps.ite | with_reducible apply Keeps.foldl | with_reducible apply Keeps.ite_fst
                | with_reducible apply Keeps.foldl_fst | split | dsimp only | (intro _; rfl) | (intro _; intros)

theorem execSwapPrecondTimeout_keeps {σ s : State} (dt : Nat) (hσ : Keeps σ (s.tick dt)) : AKeeps σ (execSwapPrecondTimeout dt s) := by
  unfold execSwapPrecondTimeout
  refine ⟨_, rfl, ?_⟩
  repeat' first | with_reducible assumption | with_reducible apply State.done_keeps | with_reducible apply State.complete_keeps
                | with_reducible apply State.tw_keeps | with_reducible apply Keeps.ite | with_reducible apply Keeps.foldl
                | with_reducible apply Keeps.ite_fst | with_reducible apply Keeps.foldl_fst | split | dsimp only | (intro _; rfl) | (intro _; intros)

theorem execSwapProveDone_keeps {σ s : State} (dt : Nat) (seen : Nat) (hσ : Keeps σ (s.tick dt)) : AKeeps σ (execSwapProveDone dt seen s) := by
  unfold execSwapProveDone
  refine ⟨_, rfl, ?_⟩
  repeat' first | with_reducible assumption | with_reducible apply State.done_keeps | with_reducible apply State.reed_keeps
                | with_reducible apply State.tw_keeps | with_reducible apply State.swapEnd_keeps | with_reducible apply Keeps.ite
                | with_reducible apply Keeps.foldl | with_reducible apply Keeps.ite_fst | with_reducible apply Keeps.foldl_fst | split | dsimp only
                | (intro _; rfl) | (intro _; intros)

theorem execTakeoverSlow_keeps {σ s : State} (dt : Nat) (hσ : Keeps σ (s.tick dt)) : AKeeps σ (execTakeoverSlow dt s) := by
  unfold execTakeoverSlow
  refine ⟨_, rfl, ?_⟩
  repeat' first | with_reducible assumption | with_reducible apply State.done_keeps | with_reducible apply State.swapEnd_keeps
                | with_reducible apply State.drive_keeps | with_reducible apply State.tw_keeps | with_reducible apply Keeps.ite
                | with_reducible apply Keeps.foldl | with_reducible apply Keeps.ite_fst | with_reducible apply Keeps.foldl_fst | split | dsimp only
                | (intro _; rfl) | (intro _; intros)

end Sys2Proof.Machine
end

