-- ==== Sys2Proof/Laws/KeepsHost.lean ====
section
/-!
SUPPORT. Sys2Proof/Laws/KeepsHost.lean: what Keeps says of the operations and rows of the records, access, limp, Fife images, reset and the host interface.
-/
namespace Sys2Proof.Machine

theorem State.draw_keeps {σ s : State} (n : Nat) (hσ : Keeps σ s) : Keeps σ (State.draw s n).2 := by
  unfold State.draw
  repeat' first | with_reducible assumption | with_reducible apply Keeps.ite | with_reducible apply Keeps.foldl | with_reducible apply Keeps.ite_fst
                | with_reducible apply Keeps.foldl_fst | split | dsimp only | (intro _; rfl) | (intro _; intros)
                | (refine Keeps.same (by rfl) (by rfl) (by rfl) (by rfl) ?_)

theorem State.accept_keeps {σ s : State} (count : Nat) (hσ : Keeps σ s) : Keeps σ (State.accept s count) := by
  unfold State.accept
  repeat' first | with_reducible assumption | with_reducible apply Keeps.ite | with_reducible apply Keeps.foldl | with_reducible apply Keeps.ite_fst
                | with_reducible apply Keeps.foldl_fst | split | dsimp only | (intro _; rfl) | (intro _; intros)
                | (refine Keeps.same (by rfl) (by rfl) (by rfl) (by rfl) ?_)

theorem State.withRecord_keeps {σ s : State} (c : Cmd) (go : State → State) (hσ : Keeps σ s) (hg : ∀ s, Keeps σ s → Keeps σ (go s)) :
    Keeps σ (s.withRecord c go) := by
  unfold State.withRecord
  dsimp only
  split
  · exact State.complete_keeps _ _ _ hσ
  · split
    · exact hg _ (State.dma_keeps _ _ _ hσ)
    · exact State.complete_keeps _ _ _ (State.dma_keeps _ _ _ hσ)

theorem State.ac_keeps {σ s : State} (f : Sys2Proof.Machine.AccState → Sys2Proof.Machine.AccState) (hσ : Keeps σ s) : Keeps σ (State.ac s f) := by
  unfold State.ac
  repeat' first | with_reducible assumption | with_reducible apply Keeps.ite | with_reducible apply Keeps.foldl | with_reducible apply Keeps.ite_fst
                | with_reducible apply Keeps.foldl_fst | split | dsimp only | (intro _; rfl) | (intro _; intros)
                | (refine Keeps.same (by rfl) (by rfl) (by rfl) (by rfl) ?_)

theorem State.accCount_keeps {σ s : State} (k : Nat) (hσ : Keeps σ s) : Keeps σ (State.accCount s k) := by
  unfold State.accCount
  repeat' first | with_reducible assumption | with_reducible apply State.ac_keeps | with_reducible apply Keeps.ite | with_reducible apply Keeps.foldl
                | with_reducible apply Keeps.ite_fst | with_reducible apply Keeps.foldl_fst | split | dsimp only | (intro _; rfl) | (intro _; intros)

theorem State.accEvent_keeps {σ s : State} (yy : Nat) (data : Nat) (hσ : Keeps σ s) : Keeps σ (State.accEvent s yy data) := by
  unfold State.accEvent
  repeat' first | with_reducible assumption | with_reducible apply State.raise_keeps | with_reducible apply Keeps.ite
                | with_reducible apply Keeps.foldl | with_reducible apply Keeps.ite_fst | with_reducible apply Keeps.foldl_fst | split | dsimp only
                | (intro _; rfl) | (intro _; intros)

theorem State.accShow_keeps {σ s : State} (hσ : Keeps σ s) : Keeps σ (State.accShow s) := by
  unfold State.accShow
  repeat' first | with_reducible assumption | with_reducible apply State.ac_keeps | with_reducible apply State.wr_keeps
                | with_reducible apply Keeps.ite | with_reducible apply Keeps.foldl | with_reducible apply Keeps.ite_fst
                | with_reducible apply Keeps.foldl_fst | split | dsimp only | (intro _; rfl) | (intro _; intros)

theorem State.lfSend_keeps {σ s : State} (bs : List Sys2Proof.Byte) (hσ : Keeps σ s) : Keeps σ (State.lfSend s bs) := by
  unfold State.lfSend
  repeat' first | with_reducible assumption | with_reducible apply State.ac_keeps | with_reducible apply Keeps.ite | with_reducible apply Keeps.foldl
                | with_reducible apply Keeps.ite_fst | with_reducible apply Keeps.foldl_fst | split | dsimp only | (intro _; rfl) | (intro _; intros)

theorem State.accUnknown_keeps {σ s : State} (hσ : Keeps σ s) : Keeps σ (State.accUnknown s) := by
  unfold State.accUnknown
  repeat' first | with_reducible assumption | with_reducible apply State.accCount_keeps | with_reducible apply State.bump_keeps
                | with_reducible apply Keeps.ite | with_reducible apply Keeps.foldl | with_reducible apply Keeps.ite_fst
                | with_reducible apply Keeps.foldl_fst | split | dsimp only | (intro _; rfl) | (intro _; intros)

theorem State.searchRound_keeps {σ s : State} (r : Nat) (hσ : Keeps σ s) : Keeps σ (State.searchRound s r) := by
  unfold State.searchRound
  repeat' first | with_reducible assumption | with_reducible apply State.ac_keeps | with_reducible apply State.lfSend_keeps
                | with_reducible apply Keeps.ite | with_reducible apply Keeps.foldl | with_reducible apply Keeps.ite_fst
                | with_reducible apply Keeps.foldl_fst | split | dsimp only | (intro _; rfl) | (intro _; intros)

theorem State.searchStart_keeps {σ s : State} (why : Nat) (serial : Nat) (hσ : Keeps σ s) : Keeps σ (State.searchStart s why serial) := by
  unfold State.searchStart
  repeat' first | with_reducible assumption | with_reducible apply State.accCount_keeps | with_reducible apply State.accEvent_keeps
                | with_reducible apply State.accShow_keeps | with_reducible apply State.searchRound_keeps | with_reducible apply State.ac_keeps
                | with_reducible apply Keeps.ite | with_reducible apply Keeps.foldl | with_reducible apply Keeps.ite_fst
                | with_reducible apply Keeps.foldl_fst | split | dsimp only | (intro _; rfl) | (intro _; intros)

theorem State.challenge_keeps {σ s : State} (token : Nat) (serial : Nat) (key : Nat) (hσ : Keeps σ s) : Keeps σ
    (State.challenge s token serial key) := by
  unfold State.challenge
  repeat' first | with_reducible assumption | with_reducible apply State.draw_keeps | with_reducible apply State.ac_keeps
                | with_reducible apply State.lfSend_keeps | with_reducible apply Keeps.ite | with_reducible apply Keeps.foldl
                | with_reducible apply Keeps.ite_fst | with_reducible apply Keeps.foldl_fst | split | dsimp only | (intro _; rfl) | (intro _; intros)

theorem State.enrolStart_keeps {σ s : State} (e : Sys2Proof.Machine.Enrol) (hσ : Keeps σ s) : Keeps σ (State.enrolStart s e) := by
  unfold State.enrolStart
  repeat' first | with_reducible assumption | with_reducible apply State.challenge_keeps | with_reducible apply State.ac_keeps
                | with_reducible apply Keeps.ite | with_reducible apply Keeps.foldl | with_reducible apply Keeps.ite_fst
                | with_reducible apply Keeps.foldl_fst | split | dsimp only | (intro _; rfl) | (intro _; intros)

theorem State.accNext_keeps {σ s : State} (hσ : Keeps σ s) : Keeps σ (State.accNext s) := by
  unfold State.accNext
  repeat' first | with_reducible assumption | with_reducible apply State.accShow_keeps | with_reducible apply State.challenge_keeps
                | with_reducible apply State.ac_keeps | with_reducible apply State.enrolStart_keeps | with_reducible apply Keeps.ite
                | with_reducible apply Keeps.foldl | with_reducible apply Keeps.ite_fst | with_reducible apply Keeps.foldl_fst | split | dsimp only
                | (intro _; rfl) | (intro _; intros)

theorem State.roundsEnd_keeps {σ s : State} (hσ : Keeps σ s) : Keeps σ (State.roundsEnd s) := by
  unfold State.roundsEnd
  repeat' first | with_reducible assumption | with_reducible apply State.accNext_keeps | with_reducible apply State.ac_keeps
                | with_reducible apply Keeps.ite | with_reducible apply Keeps.foldl | with_reducible apply Keeps.ite_fst
                | with_reducible apply Keeps.foldl_fst | split | dsimp only | (intro _; rfl) | (intro _; intros)

theorem State.answerHeard_keeps {σ s : State} (serial : Nat) (hσ : Keeps σ s) : Keeps σ (State.answerHeard s serial) := by
  unfold State.answerHeard
  repeat' first | with_reducible assumption | with_reducible apply State.accUnknown_keeps | with_reducible apply State.ac_keeps
                | with_reducible apply Keeps.ite | with_reducible apply Keeps.foldl | with_reducible apply Keeps.ite_fst
                | with_reducible apply Keeps.foldl_fst | split | dsimp only | (intro _; rfl) | (intro _; intros)

theorem State.authResult_keeps {σ s : State} (r : Nat) (hσ : Keeps σ s) : Keeps σ (State.authResult s r) := by
  unfold State.authResult
  repeat' first | with_reducible assumption | with_reducible apply State.accEvent_keeps | with_reducible apply Keeps.ite
                | with_reducible apply Keeps.foldl | with_reducible apply Keeps.ite_fst | with_reducible apply Keeps.foldl_fst | split | dsimp only
                | (intro _; rfl) | (intro _; intros)

theorem State.lockStore_keeps {σ s : State} (hσ : Keeps σ s) : Keeps σ (State.lockStore s) := by
  unfold State.lockStore
  repeat' first | with_reducible assumption | with_reducible apply State.ac_keeps | with_reducible apply Keeps.ite | with_reducible apply Keeps.foldl
                | with_reducible apply Keeps.ite_fst | with_reducible apply Keeps.foldl_fst | split | dsimp only | (intro _; rfl) | (intro _; intros)
                | (refine Keeps.same (by rfl) (by rfl) (by rfl) (by rfl) ?_)

theorem State.enrolFail_keeps {σ s : State} (sub : Nat) (hσ : Keeps σ s) : Keeps σ (State.enrolFail s sub) := by
  unfold State.enrolFail
  repeat' first | with_reducible assumption | with_reducible apply State.complete_keeps | with_reducible apply State.ac_keeps
                | with_reducible apply Keeps.ite | with_reducible apply Keeps.foldl | with_reducible apply Keeps.ite_fst
                | with_reducible apply Keeps.foldl_fst | split | dsimp only | (intro _; rfl) | (intro _; intros)

theorem State.lockBegin_keeps {σ s : State} (hσ : Keeps σ s) : Keeps σ (State.lockBegin s) := by
  unfold State.lockBegin
  repeat' first | with_reducible assumption | with_reducible apply State.ac_keeps | with_reducible apply State.complete_keeps
                | with_reducible apply State.accEvent_keeps | with_reducible apply State.accCount_keeps | with_reducible apply Keeps.ite
                | with_reducible apply Keeps.foldl | with_reducible apply Keeps.ite_fst | with_reducible apply Keeps.foldl_fst | split | dsimp only
                | (intro _; rfl) | (intro _; intros)

theorem State.accFail_keeps {σ s : State} (hσ : Keeps σ s) : Keeps σ (State.accFail s) := by
  unfold State.accFail
  repeat' first | with_reducible assumption | with_reducible apply State.bump_keeps | with_reducible apply State.authResult_keeps
                | with_reducible apply State.ac_keeps | with_reducible apply State.accCount_keeps | with_reducible apply State.accNext_keeps
                | with_reducible apply State.lockBegin_keeps | with_reducible apply State.accShow_keeps | with_reducible apply State.lockStore_keeps
                | with_reducible apply Keeps.ite | with_reducible apply Keeps.foldl | with_reducible apply Keeps.ite_fst
                | with_reducible apply Keeps.foldl_fst | split | dsimp only | (intro _; rfl) | (intro _; intros)

theorem State.relNeed_keeps {σ s : State} (hσ : Keeps σ s) : Keeps σ (State.relNeed s) := by
  unfold State.relNeed
  repeat' first | with_reducible assumption | with_reducible apply State.forwardWake_keeps | with_reducible apply Keeps.ite
                | with_reducible apply Keeps.foldl | with_reducible apply Keeps.ite_fst | with_reducible apply Keeps.foldl_fst | split | dsimp only
                | (intro _; rfl) | (intro _; intros)

theorem State.authorise_keeps {σ s : State} (holder : Nat) (hσ : Keeps σ s) : Keeps σ (State.authorise s holder) := by
  unfold State.authorise
  repeat' first | with_reducible assumption | with_reducible apply State.ac_keeps | with_reducible apply State.wr_keeps
                | with_reducible apply State.relNeed_keeps | with_reducible apply State.accEvent_keeps | with_reducible apply State.accShow_keeps
                | with_reducible apply Keeps.ite | with_reducible apply Keeps.foldl | with_reducible apply Keeps.ite_fst
                | with_reducible apply Keeps.foldl_fst | split | dsimp only | (intro _; rfl) | (intro _; intros)

theorem State.authEnd_keeps {σ s : State} (reason : Nat) (hσ : Keeps σ s) : Keeps σ (State.authEnd s reason) := by
  unfold State.authEnd
  repeat' first | with_reducible assumption | with_reducible apply State.ac_keeps | with_reducible apply State.modSeg_keeps
                | with_reducible apply State.accShow_keeps | with_reducible apply State.accEvent_keeps | with_reducible apply Keeps.ite
                | with_reducible apply Keeps.foldl | with_reducible apply Keeps.ite_fst | with_reducible apply Keeps.foldl_fst | split | dsimp only
                | (intro _; rfl) | (intro _; intros)

theorem State.authSuccess_keeps {σ s : State} (hσ : Keeps σ s) : Keeps σ (State.authSuccess s) := by
  unfold State.authSuccess
  repeat' first | with_reducible assumption | with_reducible apply State.ac_keeps | with_reducible apply State.authResult_keeps
                | with_reducible apply State.accCount_keeps | with_reducible apply State.bump_keeps | with_reducible apply State.accShow_keeps
                | with_reducible apply State.authorise_keeps | with_reducible apply State.draw_keeps | with_reducible apply State.lfSend_keeps
                | with_reducible apply Keeps.ite | with_reducible apply Keeps.foldl | with_reducible apply Keeps.ite_fst
                | with_reducible apply Keeps.foldl_fst | split | dsimp only | (intro _; rfl) | (intro _; intros)

theorem State.enrolCommit_keeps {σ s : State} (e : Sys2Proof.Machine.Enrol) (hσ : Keeps σ s) : Keeps σ (State.enrolCommit s e) := by
  unfold State.enrolCommit
  repeat' first | with_reducible assumption | with_reducible apply State.accept_keeps | with_reducible apply State.ac_keeps
                | with_reducible apply State.complete_keeps | with_reducible apply State.accEvent_keeps | with_reducible apply Keeps.ite
                | with_reducible apply Keeps.foldl | with_reducible apply Keeps.ite_fst | with_reducible apply Keeps.foldl_fst | split | dsimp only
                | (intro _; rfl) | (intro _; intros) | (refine Keeps.same (by rfl) (by rfl) (by rfl) (by rfl) ?_)

theorem State.relLate_keeps {σ s : State} (ctr : Nat) (spent : Nat) (hσ : Keeps σ s) : Keeps σ (State.relLate s ctr spent) := by
  unfold State.relLate
  repeat' first | with_reducible assumption | with_reducible apply State.accEvent_keeps | with_reducible apply State.accCount_keeps
                | with_reducible apply Keeps.ite | with_reducible apply Keeps.foldl | with_reducible apply Keeps.ite_fst
                | with_reducible apply Keeps.foldl_fst | split | dsimp only | (intro _; rfl) | (intro _; intros)

theorem State.relWithdraw_keeps {σ s : State} (n : Nat) (past : Bool) (hσ : Keeps σ s) : Keeps σ (State.relWithdraw s n past) := by
  unfold State.relWithdraw
  repeat' first | with_reducible assumption | with_reducible apply State.modCan_keeps | with_reducible apply State.relLate_keeps
                | with_reducible apply State.showTxq_keeps | with_reducible apply Keeps.ite | with_reducible apply Keeps.foldl
                | with_reducible apply Keeps.ite_fst | with_reducible apply Keeps.foldl_fst | split | dsimp only | (intro _; rfl) | (intro _; intros)

theorem State.relForm_keeps {σ s : State} (kenc : Nat) (kmac : Nat) (n : Nat) (hσ : Keeps σ s) : Keeps σ (State.relForm s kenc kmac n) := by
  unfold State.relForm
  repeat' first | with_reducible assumption | with_reducible apply State.accCount_keeps | with_reducible apply State.ac_keeps
                | with_reducible apply State.canPush_keeps | with_reducible apply State.relLate_keeps | with_reducible apply Keeps.ite
                | with_reducible apply Keeps.foldl | with_reducible apply Keeps.ite_fst | with_reducible apply Keeps.foldl_fst | split | dsimp only
                | (intro _; rfl) | (intro _; intros) | (refine Keeps.same (by rfl) (by rfl) (by rfl) (by rfl) ?_)

theorem State.accRestart_keeps {σ s : State} (hσ : Keeps σ s) : Keeps σ (State.accRestart s) := by
  unfold State.accRestart
  repeat' first | with_reducible assumption | with_reducible apply State.accShow_keeps | with_reducible apply State.wr_keeps
                | with_reducible apply Keeps.ite | with_reducible apply Keeps.foldl | with_reducible apply Keeps.ite_fst
                | with_reducible apply Keeps.foldl_fst | split | dsimp only | (intro _; rfl) | (intro _; intros)
                | (refine Keeps.same (by rfl) (by rfl) (by rfl) (by rfl) ?_)

theorem State.tokenFrame_keeps {σ s : State} (bs : List Sys2Proof.Byte) (hσ : Keeps σ s) : Keeps σ (State.tokenFrame s bs) := by
  unfold State.tokenFrame
  repeat' first | with_reducible assumption | with_reducible apply State.answerHeard_keeps | with_reducible apply State.ac_keeps
                | with_reducible apply State.lfSend_keeps | with_reducible apply State.accNext_keeps | with_reducible apply State.enrolFail_keeps
                | with_reducible apply State.accFail_keeps | with_reducible apply State.authSuccess_keeps
                | with_reducible apply State.enrolCommit_keeps | with_reducible apply Keeps.ite | with_reducible apply Keeps.foldl
                | with_reducible apply Keeps.ite_fst | with_reducible apply Keeps.foldl_fst | split | dsimp only | (intro _; rfl) | (intro _; intros)

theorem execTokenFrameReceived_keeps {σ s : State} (dt : Nat) (uhf : Bool) (bs : List Sys2Proof.Byte) (overlap : Bool) (hσ : Keeps σ (s.tick dt))
    : AKeeps σ (execTokenFrameReceived dt uhf bs overlap s) := by
  unfold execTokenFrameReceived
  refine ⟨_, rfl, ?_⟩
  repeat' first | with_reducible assumption | with_reducible apply State.done_keeps | with_reducible apply State.ac_keeps
                | with_reducible apply State.accUnknown_keeps | with_reducible apply State.searchStart_keeps
                | with_reducible apply State.tokenFrame_keeps | with_reducible apply Keeps.ite | with_reducible apply Keeps.foldl
                | with_reducible apply Keeps.ite_fst | with_reducible apply Keeps.foldl_fst | split | dsimp only | (intro _; rfl) | (intro _; intros)

theorem State.accSearch_keeps {σ s : State} (pf : Nat) (hσ : Keeps σ s) : Keeps σ (State.accSearch s pf) := by
  unfold State.accSearch
  repeat' first | with_reducible assumption | with_reducible apply State.clampBit_keeps | with_reducible apply State.searchStart_keeps
                | with_reducible apply Keeps.ite | with_reducible apply Keeps.foldl | with_reducible apply Keeps.ite_fst
                | with_reducible apply Keeps.foldl_fst | split | dsimp only | (intro _; rfl) | (intro _; intros)

theorem execSearchSlotEnd_keeps {σ s : State} (dt : Nat) (hσ : Keeps σ (s.tick dt)) : AKeeps σ (execSearchSlotEnd dt s) := by
  unfold execSearchSlotEnd
  refine ⟨_, rfl, ?_⟩
  repeat' first | with_reducible assumption | with_reducible apply State.done_keeps | with_reducible apply State.ac_keeps
                | with_reducible apply State.accEvent_keeps | with_reducible apply State.accCount_keeps | with_reducible apply State.bump_keeps
                | with_reducible apply State.searchRound_keeps | with_reducible apply State.roundsEnd_keeps | with_reducible apply Keeps.ite
                | with_reducible apply Keeps.foldl | with_reducible apply Keeps.ite_fst | with_reducible apply Keeps.foldl_fst | split | dsimp only
                | (intro _; rfl) | (intro _; intros)

theorem execResponseTimeout_keeps {σ s : State} (dt : Nat) (hσ : Keeps σ (s.tick dt)) : AKeeps σ (execResponseTimeout dt s) := by
  unfold execResponseTimeout
  refine ⟨_, rfl, ?_⟩
  repeat' first | with_reducible assumption | with_reducible apply State.done_keeps | with_reducible apply State.accNext_keeps
                | with_reducible apply State.enrolFail_keeps | with_reducible apply State.authResult_keeps | with_reducible apply Keeps.ite
                | with_reducible apply Keeps.foldl | with_reducible apply Keeps.ite_fst | with_reducible apply Keeps.foldl_fst | split | dsimp only
                | (intro _; rfl) | (intro _; intros)

theorem execSessionTimeout_keeps {σ s : State} (dt : Nat) (hσ : Keeps σ (s.tick dt)) : AKeeps σ (execSessionTimeout dt s) := by
  unfold execSessionTimeout
  refine ⟨_, rfl, ?_⟩
  repeat' first | with_reducible assumption | with_reducible apply State.done_keeps | with_reducible apply State.accNext_keeps
                | with_reducible apply State.enrolFail_keeps | with_reducible apply Keeps.ite | with_reducible apply Keeps.foldl
                | with_reducible apply Keeps.ite_fst | with_reducible apply Keeps.foldl_fst | split | dsimp only | (intro _; rfl) | (intro _; intros)

theorem execReleaseMessage_keeps {σ s : State} (dt : Nat) (past : Bool) (hσ : Keeps σ (s.tick dt)) : AKeeps σ (execReleaseMessage dt past s) := by
  unfold execReleaseMessage
  refine ⟨_, rfl, ?_⟩
  repeat' first | with_reducible assumption | with_reducible apply State.done_keeps | with_reducible apply State.ac_keeps
                | with_reducible apply State.relNeed_keeps | with_reducible apply State.relWithdraw_keeps | with_reducible apply State.relLate_keeps
                | with_reducible apply State.relForm_keeps | with_reducible apply Keeps.ite | with_reducible apply Keeps.foldl
                | with_reducible apply Keeps.ite_fst | with_reducible apply Keeps.foldl_fst | split | dsimp only | (intro _; rfl) | (intro _; intros)

theorem execAuthTimeout_keeps {σ s : State} (dt : Nat) (hσ : Keeps σ (s.tick dt)) : AKeeps σ (execAuthTimeout dt s) := by
  unfold execAuthTimeout
  refine ⟨_, rfl, ?_⟩
  repeat' first | with_reducible assumption | with_reducible apply State.done_keeps | with_reducible apply State.authEnd_keeps
                | with_reducible apply Keeps.ite | with_reducible apply Keeps.foldl | with_reducible apply Keeps.ite_fst
                | with_reducible apply Keeps.foldl_fst | split | dsimp only | (intro _; rfl) | (intro _; intros)

theorem execAccLockoutEnd_keeps {σ s : State} (dt : Nat) (hσ : Keeps σ (s.tick dt)) : AKeeps σ (execAccLockoutEnd dt s) := by
  unfold execAccLockoutEnd
  refine ⟨_, rfl, ?_⟩
  repeat' first | with_reducible assumption | with_reducible apply State.done_keeps | with_reducible apply State.lockStore_keeps
                | with_reducible apply State.ac_keeps | with_reducible apply State.accShow_keeps | with_reducible apply State.accEvent_keeps
                | with_reducible apply Keeps.ite | with_reducible apply Keeps.foldl | with_reducible apply Keeps.ite_fst
                | with_reducible apply Keeps.foldl_fst | split | dsimp only | (intro _; rfl) | (intro _; intros)

theorem execLockoutStore_keeps {σ s : State} (dt : Nat) (hσ : Keeps σ (s.tick dt)) : AKeeps σ (execLockoutStore dt s) := by
  unfold execLockoutStore
  refine ⟨_, rfl, ?_⟩
  repeat' first | with_reducible assumption | with_reducible apply State.done_keeps | with_reducible apply State.lockStore_keeps
                | with_reducible apply Keeps.ite | with_reducible apply Keeps.foldl | with_reducible apply Keeps.ite_fst
                | with_reducible apply Keeps.foldl_fst | split | dsimp only | (intro _; rfl) | (intro _; intros)

theorem execAccEnrol_keeps {σ s : State} (dt : Nat) (c : Sys2Proof.Machine.Cmd) (rcd : List Sys2Proof.Byte) (sig : Bool) (hσ : Keeps σ (s.tick dt))
    : AKeeps σ (execAccEnrol dt c rcd sig s) := by
  unfold execAccEnrol
  refine ⟨_, rfl, ?_⟩
  repeat' first | with_reducible assumption | with_reducible apply State.done_keeps | with_reducible apply State.serveOp_keeps
                | with_reducible apply State.complete_keeps | with_reducible apply State.withRecord_keeps | with_reducible apply State.orElse_keeps
                | with_reducible apply State.accShow_keeps | with_reducible apply State.enrolStart_keeps | with_reducible apply State.begin_keeps
                | with_reducible apply State.ac_keeps | with_reducible apply Keeps.ite | with_reducible apply Keeps.foldl
                | with_reducible apply Keeps.ite_fst | with_reducible apply Keeps.foldl_fst | split | dsimp only | (intro _; rfl) | (intro _; intros)

theorem State.tokenRecord_keeps {σ s : State} (c : Cmd) (rcd : List Byte) (sig : Bool) (go : State → State) (hσ : Keeps σ s)
    (hg : ∀ s, Keeps σ s → Keeps σ (go s)) : Keeps σ (s.tokenRecord c rcd sig go) := by
  unfold State.tokenRecord
  exact State.withRecord_keeps c _ hσ fun s h => State.orElse_keeps c _ _ h hg

theorem execAccRevoke_keeps {σ s : State} (dt : Nat) (c : Sys2Proof.Machine.Cmd) (rcd : List Sys2Proof.Byte) (sig : Bool) (hσ : Keeps σ (s.tick dt))
    : AKeeps σ (execAccRevoke dt c rcd sig s) := by
  unfold execAccRevoke
  refine ⟨_, rfl, ?_⟩
  repeat' first | with_reducible assumption | with_reducible apply State.done_keeps | with_reducible apply State.serveOp_keeps
                | with_reducible apply State.tokenRecord_keeps | with_reducible apply State.complete_keeps | with_reducible apply State.accept_keeps
                | with_reducible apply State.accEvent_keeps | with_reducible apply State.authEnd_keeps | with_reducible apply State.begin_keeps
                | with_reducible apply Keeps.ite | with_reducible apply Keeps.foldl | with_reducible apply Keeps.ite_fst
                | with_reducible apply Keeps.foldl_fst | split | dsimp only | (intro _; rfl) | (intro _; intros)
                | (refine Keeps.same (by rfl) (by rfl) (by rfl) (by rfl) ?_)

theorem execAccInstallKeys_keeps {σ s : State} (dt : Nat) (c : Sys2Proof.Machine.Cmd) (rcd : List Sys2Proof.Byte) (sig : Bool) (tag : Bool) (hσ :
    Keeps σ (s.tick dt)) : AKeeps σ (execAccInstallKeys dt c rcd sig tag s) := by
  unfold execAccInstallKeys
  refine ⟨_, rfl, ?_⟩
  repeat' first | with_reducible assumption | with_reducible apply State.done_keeps | with_reducible apply State.serveOp_keeps
                | with_reducible apply State.tokenRecord_keeps | with_reducible apply State.complete_keeps | with_reducible apply State.ac_keeps
                | with_reducible apply State.accept_keeps | with_reducible apply State.accEvent_keeps | with_reducible apply State.wr_keeps
                | with_reducible apply State.begin_keeps | with_reducible apply Keeps.ite | with_reducible apply Keeps.foldl
                | with_reducible apply Keeps.ite_fst | with_reducible apply Keeps.foldl_fst | split | dsimp only | (intro _; rfl) | (intro _; intros)
                | (refine Keeps.same (by rfl) (by rfl) (by rfl) (by rfl) ?_)

theorem State.outs_keeps {σ s : State} (f : Sys2Proof.Machine.OutState → Sys2Proof.Machine.OutState) (hσ : Keeps σ s) : Keeps σ (State.outs s f) := by
  unfold State.outs
  repeat' first | with_reducible assumption | with_reducible apply Keeps.ite | with_reducible apply Keeps.foldl | with_reducible apply Keeps.ite_fst
                | with_reducible apply Keeps.foldl_fst | split | dsimp only | (intro _; rfl) | (intro _; intros)
                | (refine Keeps.same (by rfl) (by rfl) (by rfl) (by rfl) ?_)

theorem State.holdBegin_keeps {σ s : State} (hσ : Keeps σ s) : Keeps σ (State.holdBegin s) := by
  unfold State.holdBegin
  repeat' first | with_reducible assumption | with_reducible apply State.outs_keeps | with_reducible apply State.modLimp_keeps
                | with_reducible apply State.wr_keeps | with_reducible apply State.raise_keeps | with_reducible apply State.bump_keeps
                | with_reducible apply Keeps.ite | with_reducible apply Keeps.foldl | with_reducible apply Keeps.ite_fst
                | with_reducible apply Keeps.foldl_fst | split | dsimp only | (intro _; rfl) | (intro _; intros)

theorem State.noticeOn_keeps {σ s : State} (hσ : Keeps σ s) : Keeps σ (State.noticeOn s) := by
  unfold State.noticeOn
  repeat' first | with_reducible assumption | with_reducible apply State.outs_keeps | with_reducible apply Keeps.ite
                | with_reducible apply Keeps.foldl | with_reducible apply Keeps.ite_fst | with_reducible apply Keeps.foldl_fst | split | dsimp only
                | (intro _; rfl) | (intro _; intros)

theorem State.noticeOff_keeps {σ s : State} (hσ : Keeps σ s) : Keeps σ (State.noticeOff s) := by
  unfold State.noticeOff
  repeat' first | with_reducible assumption | with_reducible apply State.outs_keeps | with_reducible apply Keeps.ite
                | with_reducible apply Keeps.foldl | with_reducible apply Keeps.ite_fst | with_reducible apply Keeps.foldl_fst | split | dsimp only
                | (intro _; rfl) | (intro _; intros)

theorem State.holdDone_keeps {σ s : State} (hσ : Keeps σ s) : Keeps σ (State.holdDone s) := by
  unfold State.holdDone
  repeat' first | with_reducible assumption | with_reducible apply State.raise_keeps | with_reducible apply Keeps.ite
                | with_reducible apply Keeps.foldl | with_reducible apply Keeps.ite_fst | with_reducible apply Keeps.foldl_fst | split | dsimp only
                | (intro _; rfl) | (intro _; intros)

theorem State.holdRelease_keeps {σ s : State} (r : Nat) (hσ : Keeps σ s) : Keeps σ (State.holdRelease s r) := by
  unfold State.holdRelease
  repeat' first | with_reducible assumption | with_reducible apply State.outs_keeps | with_reducible apply State.wr_keeps
                | with_reducible apply State.limpApply_keeps | with_reducible apply Keeps.ite | with_reducible apply Keeps.foldl
                | with_reducible apply Keeps.ite_fst | with_reducible apply Keeps.foldl_fst | split | dsimp only | (intro _; rfl) | (intro _; intros)

theorem State.holdExpire_keeps {σ s : State} (r : Nat) (hσ : Keeps σ s) : Keeps σ (State.holdExpire s r) := by
  unfold State.holdExpire
  repeat' first | with_reducible assumption | with_reducible apply State.outs_keeps | with_reducible apply State.wr_keeps
                | with_reducible apply State.limpApply_keeps | with_reducible apply State.holdDone_keeps | with_reducible apply State.orphan_keeps
                | with_reducible apply Keeps.ite | with_reducible apply Keeps.foldl | with_reducible apply Keeps.ite_fst
                | with_reducible apply Keeps.foldl_fst | split | dsimp only | (intro _; rfl) | (intro _; intros)

theorem State.limpNOut_keeps {σ s : State} (hσ : Keeps σ s) : Keeps σ (State.limpNOut s) := by
  unfold State.limpNOut
  repeat' first | with_reducible assumption | with_reducible apply State.limpExit_keeps | with_reducible apply Keeps.ite
                | with_reducible apply Keeps.foldl | with_reducible apply Keeps.ite_fst | with_reducible apply Keeps.foldl_fst | split | dsimp only
                | (intro _; rfl) | (intro _; intros)

theorem State.heartbeat_keeps {σ s : State} (bit0 : Bool) (hσ : Keeps σ s) : Keeps σ (State.heartbeat s bit0) := by
  unfold State.heartbeat
  repeat' first | with_reducible assumption | with_reducible apply State.outs_keeps | with_reducible apply State.holdDone_keeps
                | with_reducible apply State.holdRelease_keeps | with_reducible apply State.limpNOut_keeps | with_reducible apply Keeps.ite
                | with_reducible apply Keeps.foldl | with_reducible apply Keeps.ite_fst | with_reducible apply Keeps.foldl_fst | split | dsimp only
                | (intro _; rfl) | (intro _; intros)

theorem State.limpRelease_keeps {σ s : State} (pf : Nat) (hσ : Keeps σ s) : Keeps σ (State.limpRelease s pf) := by
  unfold State.limpRelease
  repeat' first | with_reducible assumption | with_reducible apply State.limpExit_keeps | with_reducible apply State.wr_keeps
                | with_reducible apply State.clampBit_keeps | with_reducible apply Keeps.ite | with_reducible apply Keeps.foldl
                | with_reducible apply Keeps.ite_fst | with_reducible apply Keeps.foldl_fst | split | dsimp only | (intro _; rfl) | (intro _; intros)

theorem State.debugPolicy_keeps {σ s : State} (r : Nat) (hσ : Keeps σ s) : Keeps σ (State.debugPolicy s r) := by
  unfold State.debugPolicy
  repeat' first | with_reducible assumption | with_reducible apply State.modLimp_keeps | with_reducible apply State.dropCmds_keeps
                | with_reducible apply State.hbStopMode_keeps | with_reducible apply State.takeState_keeps | with_reducible apply Keeps.ite
                | with_reducible apply Keeps.foldl | with_reducible apply Keeps.ite_fst | with_reducible apply Keeps.foldl_fst | split | dsimp only
                | (intro _; rfl) | (intro _; intros)

theorem State.debugPolicies_keeps {σ s : State} (hσ : Keeps σ s) : Keeps σ (State.debugPolicies s) := by
  unfold State.debugPolicies
  repeat' first | with_reducible assumption | with_reducible apply State.ioOffOf_keeps | with_reducible apply State.debugPolicy_keeps
                | with_reducible apply Keeps.ite | with_reducible apply Keeps.foldl | with_reducible apply Keeps.ite_fst
                | with_reducible apply Keeps.foldl_fst | split | dsimp only | (intro _; rfl) | (intro _; intros)

theorem State.debugOver_keeps {σ s : State} (hσ : Keeps σ s) : Keeps σ (State.debugOver s) := by
  unfold State.debugOver
  repeat' first | with_reducible assumption | with_reducible apply State.outs_keeps | with_reducible apply Keeps.ite
                | with_reducible apply Keeps.foldl | with_reducible apply Keeps.ite_fst | with_reducible apply Keeps.foldl_fst | split | dsimp only
                | (intro _; rfl) | (intro _; intros)

theorem State.unfreeze_keeps {σ s : State} (pf : Nat) (reason : Nat) (hσ : Keeps σ s) : Keeps σ (State.unfreeze s pf reason) := by
  unfold State.unfreeze
  repeat' first | with_reducible assumption | with_reducible apply State.setFn_keeps | with_reducible apply State.complete_keeps
                | with_reducible apply State.raise_keeps | with_reducible apply Keeps.ite | with_reducible apply Keeps.foldl
                | with_reducible apply Keeps.ite_fst | with_reducible apply Keeps.foldl_fst | split | dsimp only | (intro _; rfl) | (intro _; intros)
                | (refine Keeps.same (by rfl) (by rfl) (by rfl) (by rfl) ?_)

theorem State.setCore_keeps {σ s : State} (k : Nat) (c : Sys2Proof.Machine.Core) (hσ : Keeps σ s) : Keeps σ (State.setCore s k c) := by
  unfold State.setCore
  repeat' first | with_reducible assumption | with_reducible apply Keeps.ite | with_reducible apply Keeps.foldl | with_reducible apply Keeps.ite_fst
                | with_reducible apply Keeps.foldl_fst | split | dsimp only | (intro _; rfl) | (intro _; intros)
                | (refine Keeps.same (by rfl) (by rfl) (by rfl) (by rfl) ?_)

theorem State.modCore_keeps {σ s : State} (k : Nat) (f : Sys2Proof.Machine.Core → Sys2Proof.Machine.Core) (hσ : Keeps σ s) : Keeps σ
    (State.modCore s k f) := by
  unfold State.modCore
  repeat' first | with_reducible assumption | with_reducible apply State.setCore_keeps | with_reducible apply Keeps.ite
                | with_reducible apply Keeps.foldl | with_reducible apply Keeps.ite_fst | with_reducible apply Keeps.foldl_fst | split | dsimp only
                | (intro _; rfl) | (intro _; intros)

theorem State.fifeMsg_keeps {σ s : State} (k : Nat) (pf : Nat) (ws : List Nat) (hσ : Keeps σ s) : Keeps σ (State.fifeMsg s k pf ws) := by
  unfold State.fifeMsg
  repeat' first | with_reducible assumption | with_reducible apply State.raiseTo_keeps | with_reducible apply Keeps.ite
                | with_reducible apply Keeps.foldl | with_reducible apply Keeps.ite_fst | with_reducible apply Keeps.foldl_fst | split | dsimp only
                | (intro _; rfl) | (intro _; intros)

theorem State.mbxSend_keeps {σ s : State} (k : Nat) (v : Nat) (eom : Bool) (hσ : Keeps σ s) : Keeps σ (State.mbxSend s k v eom) := by
  unfold State.mbxSend
  repeat' first | with_reducible assumption | with_reducible apply State.fifeMsg_keeps | with_reducible apply State.modCore_keeps
                | with_reducible apply Keeps.ite | with_reducible apply Keeps.foldl | with_reducible apply Keeps.ite_fst
                | with_reducible apply Keeps.foldl_fst | split | dsimp only | (intro _; rfl) | (intro _; intros)

theorem State.mbxTake_keeps {σ s : State} (k : Nat) (hσ : Keeps σ s) : Keeps σ (State.mbxTake s k) := by
  unfold State.mbxTake
  repeat' first | with_reducible assumption | with_reducible apply State.modCore_keeps | with_reducible apply Keeps.ite
                | with_reducible apply Keeps.foldl | with_reducible apply Keeps.ite_fst | with_reducible apply Keeps.foldl_fst | split | dsimp only
                | (intro _; rfl) | (intro _; intros)

theorem State.chanRun_keeps {σ s : State} (vd : Nat) (c : Cmd) (hσ : Keeps σ s) : Keeps σ (s.chanRun vd c) := by
  unfold State.chanRun
  extract_lets s1
  have h0 : Keeps σ (s1.tick 0) := State.tick_zero_keeps (State.modFlight_keeps _ _ hσ)
  clear_value s1
  apply AKeeps.state
  split
  all_goals first
    | with_reducible exact execHbOff_keeps _ _ h0
    | with_reducible exact execHbDrive_keeps _ _ h0
    | with_reducible exact execLedOff_keeps _ _ h0
    | with_reducible exact execLedOn_keeps _ _ h0
    | with_reducible exact execLedDim_keeps _ _ h0
    | with_reducible exact execMxOff_keeps _ _ h0
    | with_reducible exact execMxOn_keeps _ _ h0
    | with_reducible exact execMxBright_keeps _ _ h0
    | with_reducible exact execSvOff_keeps _ _ h0
    | with_reducible exact execSvOn_keeps _ _ h0
    | with_reducible exact execSvHold_keeps _ _ h0
    | with_reducible exact execBstOff_keeps _ _ h0
    | with_reducible exact execBstOn_keeps _ _ h0
    | with_reducible exact execIoOutOff_keeps _ _ h0
    | with_reducible exact execIoOutOn_keeps _ _ h0
    | with_reducible exact execOutOff_keeps _ _ h0
    | with_reducible exact execOutOn_keeps _ _ _ h0
    | with_reducible exact execOutPwm_keeps _ _ _ h0

theorem State.chanFire_keeps {σ s : State} (k : Nat) (sk : Nat) (t : Nat) (vd : Nat) (hσ : Keeps σ s) : Keeps σ (State.chanFire s k sk t vd) := by
  unfold State.chanFire
  repeat' first | with_reducible assumption | with_reducible apply State.modCore_keeps | with_reducible apply State.chanRun_keeps
                | with_reducible apply Keeps.ite | with_reducible apply Keeps.foldl | with_reducible apply Keeps.ite_fst
                | with_reducible apply Keeps.foldl_fst | split | dsimp only | (intro _; rfl) | (intro _; intros)
                | (refine Keeps.same (by rfl) (by rfl) (by rfl) (by rfl) ?_)

theorem State.coreFault_keeps {σ s : State} (k : Nat) (cause : Nat) (faddr : Nat) (hσ : Keeps σ s) : Keeps σ (State.coreFault s k cause faddr) := by
  unfold State.coreFault
  repeat' first | with_reducible assumption | with_reducible apply State.modCore_keeps | with_reducible apply State.wr_keeps
                | with_reducible apply State.raiseFault_keeps | with_reducible apply Keeps.ite | with_reducible apply Keeps.foldl
                | with_reducible apply Keeps.ite_fst | with_reducible apply Keeps.foldl_fst | split | dsimp only | (intro _; rfl) | (intro _; intros)
                | (refine Keeps.same (by rfl) (by rfl) (by rfl) (by rfl) ?_)

theorem State.coreAdvance_keeps {σ s : State} (k : Nat) (hσ : Keeps σ s) : Keeps σ (State.coreAdvance s k) := by
  unfold State.coreAdvance
  repeat' first | with_reducible assumption | with_reducible apply State.modCore_keeps | with_reducible apply State.wr_keeps
                | with_reducible apply State.bump_keeps | with_reducible apply Keeps.ite | with_reducible apply Keeps.foldl
                | with_reducible apply Keeps.ite_fst | with_reducible apply Keeps.foldl_fst | split | dsimp only | (intro _; rfl) | (intro _; intros)

theorem State.coreEnd_keeps {σ s : State} (k : Nat) (hσ : Keeps σ s) : Keeps σ (State.coreEnd s k) := by
  unfold State.coreEnd
  repeat' first | with_reducible assumption | with_reducible apply State.coreAdvance_keeps | with_reducible apply State.wr_keeps
                | with_reducible apply Keeps.ite | with_reducible apply Keeps.foldl | with_reducible apply Keeps.ite_fst
                | with_reducible apply Keeps.foldl_fst | split | dsimp only | (intro _; rfl) | (intro _; intros)

theorem State.injected_keeps {σ s : State} (dsts : List Nat) (hσ : Keeps σ s) : Keeps σ (State.injected s dsts) := by
  unfold State.injected
  repeat' first | with_reducible assumption | with_reducible apply State.modCore_keeps | with_reducible apply Keeps.ite
                | with_reducible apply Keeps.foldl | with_reducible apply Keeps.ite_fst | with_reducible apply Keeps.foldl_fst | split | dsimp only
                | (intro _; rfl) | (intro _; intros) | (refine Keeps.same (by rfl) (by rfl) (by rfl) (by rfl) ?_)

theorem State.shwSplit_keeps {σ s : State} (t : Nat) (hσ : Keeps σ s) : Keeps σ (State.shwSplit s t) := by
  unfold State.shwSplit
  repeat' first | with_reducible assumption | with_reducible apply State.modCore_keeps | with_reducible apply State.raise_keeps
                | with_reducible apply State.bump_keeps | with_reducible apply State.wr_keeps | with_reducible apply Keeps.ite
                | with_reducible apply Keeps.foldl | with_reducible apply Keeps.ite_fst | with_reducible apply Keeps.foldl_fst | split | dsimp only
                | (intro _; rfl) | (intro _; intros) | (refine Keeps.same (by rfl) (by rfl) (by rfl) (by rfl) ?_)

theorem State.shwJoin_keeps {σ s : State} (k : Nat) (hσ : Keeps σ s) : Keeps σ (State.shwJoin s k) := by
  unfold State.shwJoin
  repeat' first | with_reducible assumption | with_reducible apply State.modCore_keeps | with_reducible apply Keeps.ite
                | with_reducible apply Keeps.foldl | with_reducible apply Keeps.ite_fst | with_reducible apply Keeps.foldl_fst | split | dsimp only
                | (intro _; rfl) | (intro _; intros) | (refine Keeps.same (by rfl) (by rfl) (by rfl) (by rfl) ?_)

theorem State.shwRls_keeps {σ s : State} (reason : Nat) (hσ : Keeps σ s) : Keeps σ (State.shwRls s reason) := by
  unfold State.shwRls
  repeat' first | with_reducible assumption | with_reducible apply State.modCore_keeps | with_reducible apply State.unfreeze_keeps
                | with_reducible apply Keeps.ite | with_reducible apply Keeps.foldl | with_reducible apply Keeps.ite_fst
                | with_reducible apply Keeps.foldl_fst | split | dsimp only | (intro _; rfl) | (intro _; intros)

theorem State.coreFire_keeps {σ s : State} (k : Nat) (sk : Nat) (v : Nat) (vd : Nat) (hσ : Keeps σ s) : Keeps σ (State.coreFire s k sk v vd) := by
  unfold State.coreFire
  repeat' first | with_reducible assumption | with_reducible apply State.chanFire_keeps | with_reducible apply State.modCore_keeps
                | with_reducible apply State.mbxSend_keeps | with_reducible apply State.mbxTake_keeps | with_reducible apply State.heartbeat_keeps
                | with_reducible apply State.shwRls_keeps | with_reducible apply State.shwSplit_keeps | with_reducible apply State.shwJoin_keeps
                | with_reducible apply Keeps.ite | with_reducible apply Keeps.foldl | with_reducible apply Keeps.ite_fst
                | with_reducible apply Keeps.foldl_fst | split | dsimp only | (intro _; rfl) | (intro _; intros)
                | (refine Keeps.same (by rfl) (by rfl) (by rfl) (by rfl) ?_)

theorem State.issue_keeps {σ s : State} (k : Nat) (vd : Nat) (hσ : Keeps σ s) : Keeps σ (State.issue s k vd) := by
  unfold State.issue
  repeat' first | with_reducible assumption | with_reducible apply State.coreFault_keeps | with_reducible apply State.injected_keeps
                | with_reducible apply State.setCore_keeps | with_reducible apply State.coreFire_keeps | with_reducible apply State.coreEnd_keeps
                | with_reducible apply Keeps.ite | with_reducible apply Keeps.foldl | with_reducible apply Keeps.ite_fst
                | with_reducible apply Keeps.foldl_fst | split | dsimp only | (intro _; rfl) | (intro _; intros)

theorem State.coreStart_keeps {σ s : State} (k : Nat) (hσ : Keeps σ s) : Keeps σ (State.coreStart s k) := by
  unfold State.coreStart
  repeat' first | with_reducible assumption | with_reducible apply State.setCore_keeps | with_reducible apply State.wr_keeps
                | with_reducible apply Keeps.ite | with_reducible apply Keeps.foldl | with_reducible apply Keeps.ite_fst
                | with_reducible apply Keeps.foldl_fst | split | dsimp only | (intro _; rfl) | (intro _; intros)

theorem State.dropAnswers_keeps {σ s : State} (k : Nat) (hσ : Keeps σ s) : Keeps σ (State.dropAnswers s k) := by
  unfold State.dropAnswers
  repeat' first | with_reducible assumption | with_reducible apply Keeps.ite | with_reducible apply Keeps.foldl | with_reducible apply Keeps.ite_fst
                | with_reducible apply Keeps.foldl_fst | split | dsimp only | (intro _; rfl) | (intro _; intros)
                | (refine Keeps.same (by rfl) (by rfl) (by rfl) (by rfl) ?_)

theorem State.coreRetire_keeps {σ s : State} (k : Nat) (lost : Bool) (hσ : Keeps σ s) : Keeps σ (State.coreRetire s k lost) := by
  unfold State.coreRetire
  repeat' first | with_reducible assumption | with_reducible apply State.wr_keeps | with_reducible apply State.retire_keeps
                | with_reducible apply State.modCore_keeps | with_reducible apply State.coreStart_keeps | with_reducible apply State.raise_keeps
                | with_reducible apply State.raiseFault_keeps | with_reducible apply Keeps.ite | with_reducible apply Keeps.foldl
                | with_reducible apply Keeps.ite_fst | with_reducible apply Keeps.foldl_fst | split | dsimp only | (intro _; rfl) | (intro _; intros)

theorem State.bootTests_keeps {σ s : State} (fails : List (Nat × Bool)) (hσ : Keeps σ s) : Keeps σ (State.bootTests s fails) := by
  unfold State.bootTests
  repeat' first | with_reducible assumption | with_reducible apply State.coreRetire_keeps | with_reducible apply State.retire_keeps
                | with_reducible apply State.wr_keeps | with_reducible apply Keeps.ite | with_reducible apply Keeps.foldl
                | with_reducible apply Keeps.ite_fst | with_reducible apply Keeps.foldl_fst | split | dsimp only | (intro _; rfl) | (intro _; intros)

theorem State.setFwSlot_keeps {σ s : State} (k : Nat) (f : Sys2Proof.Machine.FwSlot) (hσ : Keeps σ s) : Keeps σ (State.setFwSlot s k f) := by
  unfold State.setFwSlot
  repeat' first | with_reducible assumption | with_reducible apply Keeps.ite | with_reducible apply Keeps.foldl | with_reducible apply Keeps.ite_fst
                | with_reducible apply Keeps.foldl_fst | split | dsimp only | (intro _; rfl) | (intro _; intros)
                | (refine Keeps.same (by rfl) (by rfl) (by rfl) (by rfl) ?_)

theorem State.setCopy_keeps {σ s : State} (k : Nat) (c : Sys2Proof.Machine.SetCopy) (hσ : Keeps σ s) : Keeps σ (State.setCopy s k c) := by
  unfold State.setCopy
  repeat' first | with_reducible assumption | with_reducible apply Keeps.ite | with_reducible apply Keeps.foldl | with_reducible apply Keeps.ite_fst
                | with_reducible apply Keeps.foldl_fst | split | dsimp only | (intro _; rfl) | (intro _; intros)
                | (refine Keeps.same (by rfl) (by rfl) (by rfl) (by rfl) ?_)

theorem State.saveLive_keeps {σ s : State} (hσ : Keeps σ s) : Keeps σ (State.saveLive s) := by
  unfold State.saveLive
  repeat' first | with_reducible assumption | with_reducible apply State.setCopy_keeps | with_reducible apply Keeps.ite
                | with_reducible apply Keeps.foldl | with_reducible apply Keeps.ite_fst | with_reducible apply Keeps.foldl_fst | split | dsimp only
                | (intro _; rfl) | (intro _; intros)

theorem State.loadSettings_keeps {σ s : State} (vals : Sys2Proof.Tab (Sys2Proof.Tab Nat)) (hσ : Keeps σ s) : Keeps σ
    (State.loadSettings s vals).1 := by
  unfold State.loadSettings
  repeat' first | with_reducible assumption | with_reducible apply State.wrote_keeps | with_reducible apply State.wr_keeps
                | with_reducible apply State.logClamps_keeps | with_reducible apply Keeps.ite | with_reducible apply Keeps.foldl
                | with_reducible apply Keeps.ite_fst | with_reducible apply Keeps.foldl_fst | split | dsimp only | (intro _; rfl) | (intro _; intros)

theorem State.settle0_keeps {σ s : State} (from_ : Nat) (fault : Bool) (hσ : Keeps σ s) : Keeps σ (State.settle0 s from_ fault) := by
  unfold State.settle0
  repeat' first | with_reducible assumption | with_reducible apply State.loadSettings_keeps | with_reducible apply State.setCopy_keeps
                | with_reducible apply State.wr_keeps | with_reducible apply State.raise_keeps | with_reducible apply Keeps.ite
                | with_reducible apply Keeps.foldl | with_reducible apply Keeps.ite_fst | with_reducible apply Keeps.foldl_fst | split | dsimp only
                | (intro _; rfl) | (intro _; intros)

theorem State.pw_keeps {σ s : State} (f : Sys2Proof.Machine.PowerState → Sys2Proof.Machine.PowerState) (hσ : Keeps σ s) : Keeps σ (State.pw s f) := by
  unfold State.pw
  repeat' first | with_reducible assumption | with_reducible apply Keeps.ite | with_reducible apply Keeps.foldl | with_reducible apply Keeps.ite_fst
                | with_reducible apply Keeps.foldl_fst | split | dsimp only | (intro _; rfl) | (intro _; intros)
                | (refine Keeps.same (by rfl) (by rfl) (by rfl) (by rfl) ?_)

theorem State.flr_keeps {σ s : State} (pf : Nat) (hσ : Keeps σ s) : Keeps σ (State.flr s pf) := by
  unfold State.flr
  repeat' first | with_reducible assumption | with_reducible apply State.forget_keeps | with_reducible apply Keeps.ite
                | with_reducible apply Keeps.foldl | with_reducible apply Keeps.ite_fst | with_reducible apply Keeps.foldl_fst | split | dsimp only
                | (intro _; rfl) | (intro _; intros) | (refine Keeps.same (by rfl) (by rfl) (by rfl) (by rfl) ?_)

theorem State.flrAll_keeps {σ s : State} (hσ : Keeps σ s) : Keeps σ (State.flrAll s) := by
  unfold State.flrAll
  repeat' first | with_reducible assumption | with_reducible apply State.flr_keeps | with_reducible apply Keeps.ite | with_reducible apply Keeps.foldl
                | with_reducible apply Keeps.ite_fst | with_reducible apply Keeps.foldl_fst | split | dsimp only | (intro _; rfl) | (intro _; intros)

theorem State.netStop_keeps {σ s : State} (hσ : Keeps σ s) : Keeps σ (State.netStop s) := by
  unfold State.netStop
  repeat' first | with_reducible assumption | with_reducible apply State.wr_keeps | with_reducible apply State.rstFields_keeps
                | with_reducible apply State.showPool_keeps | with_reducible apply Keeps.ite | with_reducible apply Keeps.foldl
                | with_reducible apply Keeps.ite_fst | with_reducible apply Keeps.foldl_fst | split | dsimp only | (intro _; rfl) | (intro _; intros)
                | (refine Keeps.same (by rfl) (by rfl) (by rfl) (by rfl) ?_)

theorem State.barrierDown_keeps {σ s : State} (hσ : Keeps σ s) : Keeps σ (State.barrierDown s) := by
  unfold State.barrierDown
  repeat' first | with_reducible assumption | with_reducible apply State.wr_keeps | with_reducible apply State.modObj_keeps
                | with_reducible apply State.setSt_keeps | with_reducible apply State.modIi_keeps | with_reducible apply Keeps.ite
                | with_reducible apply Keeps.foldl | with_reducible apply Keeps.ite_fst | with_reducible apply Keeps.foldl_fst | split | dsimp only
                | (intro _; rfl) | (intro _; intros) | (refine Keeps.same (by rfl) (by rfl) (by rfl) (by rfl) ?_)

theorem State.twDown_keeps {σ s : State} (hσ : Keeps σ s) : Keeps σ (State.twDown s) := by
  unfold State.twDown
  repeat' first | with_reducible assumption | with_reducible apply State.twLeave_keeps | with_reducible apply State.tw_keeps
                | with_reducible apply Keeps.ite | with_reducible apply Keeps.foldl | with_reducible apply Keeps.ite_fst
                | with_reducible apply Keeps.foldl_fst | split | dsimp only | (intro _; rfl) | (intro _; intros)

theorem State.coresDown_keeps {σ s : State} (hσ : Keeps σ s) : Keeps σ (State.coresDown s) := by
  unfold State.coresDown
  repeat' first | with_reducible assumption | with_reducible apply Keeps.ite | with_reducible apply Keeps.foldl | with_reducible apply Keeps.ite_fst
                | with_reducible apply Keeps.foldl_fst | split | dsimp only | (intro _; rfl) | (intro _; intros)
                | (refine Keeps.same (by rfl) (by rfl) (by rfl) (by rfl) ?_)

theorem State.accDown_keeps {σ s : State} (hσ : Keeps σ s) : Keeps σ (State.accDown s) := by
  unfold State.accDown
  repeat' first | with_reducible assumption | with_reducible apply State.ac_keeps | with_reducible apply State.pw_keeps
                | with_reducible apply Keeps.ite | with_reducible apply Keeps.foldl | with_reducible apply Keeps.ite_fst
                | with_reducible apply Keeps.foldl_fst | split | dsimp only | (intro _; rfl) | (intro _; intros)

theorem State.secDown_keeps {σ s : State} (hσ : Keeps σ s) : Keeps σ (State.secDown s) := by
  unfold State.secDown
  repeat' first | with_reducible assumption | with_reducible apply State.wr_keeps | with_reducible apply Keeps.ite | with_reducible apply Keeps.foldl
                | with_reducible apply Keeps.ite_fst | with_reducible apply Keeps.foldl_fst | split | dsimp only | (intro _; rfl) | (intro _; intros)
                | (refine Keeps.same (by rfl) (by rfl) (by rfl) (by rfl) ?_)

theorem State.trialFails_keeps {σ s : State} (why : Nat) (hσ : Keeps σ s) : Keeps σ (State.trialFails s why) := by
  unfold State.trialFails
  repeat' first | with_reducible assumption | with_reducible apply Keeps.ite | with_reducible apply Keeps.foldl | with_reducible apply Keeps.ite_fst
                | with_reducible apply Keeps.foldl_fst | split | dsimp only | (intro _; rfl) | (intro _; intros)
                | (refine Keeps.same (by rfl) (by rfl) (by rfl) (by rfl) ?_)

theorem State.toPhase_keeps {σ s : State} (p : Sys2Proof.Machine.Phase) (hσ : Keeps σ s) : Keeps σ (State.toPhase s p) := by
  unfold State.toPhase
  repeat' first | with_reducible assumption | with_reducible apply State.pw_keeps | with_reducible apply Keeps.ite | with_reducible apply Keeps.foldl
                | with_reducible apply Keeps.ite_fst | with_reducible apply Keeps.foldl_fst | split | dsimp only | (intro _; rfl) | (intro _; intros)

theorem State.nextGen_keeps {σ s : State} (hσ : Keeps σ s) : Keeps σ (State.nextGen s) := by
  unfold State.nextGen
  repeat' first | with_reducible assumption | with_reducible apply State.setFn_keeps | with_reducible apply Keeps.ite
                | with_reducible apply Keeps.foldl | with_reducible apply Keeps.ite_fst | with_reducible apply Keeps.foldl_fst | split | dsimp only
                | (intro _; rfl) | (intro _; intros)

theorem State.resetDieC_keeps {σ s : State} (brown : Bool) (commit : Bool) (hσ : Keeps σ s) : Keeps σ (State.resetDieC s brown commit) := by
  unfold State.resetDieC
  repeat' first | with_reducible assumption | with_reducible apply State.saveLive_keeps | with_reducible apply State.bump_keeps
                | with_reducible apply State.pw_keeps | with_reducible apply State.toPhase_keeps | with_reducible apply State.trialFails_keeps
                | with_reducible apply State.loopsOpen_keeps | with_reducible apply State.forget_keeps | with_reducible apply State.secDown_keeps
                | with_reducible apply State.accDown_keeps | with_reducible apply State.coresDown_keeps | with_reducible apply State.twDown_keeps
                | with_reducible apply State.barrierDown_keeps | with_reducible apply State.netStop_keeps | with_reducible apply State.nextGen_keeps
                | with_reducible apply State.wr_keeps | with_reducible apply State.noticeOn_keeps | with_reducible apply State.holdBegin_keeps
                | with_reducible apply Keeps.ite | with_reducible apply Keeps.foldl | with_reducible apply Keeps.ite_fst
                | with_reducible apply Keeps.foldl_fst | split | dsimp only | (intro _; rfl) | (intro _; intros)
                | (refine Keeps.same (by rfl) (by rfl) (by rfl) (by rfl) ?_)

theorem State.warmReset_keeps {σ s : State} (hσ : Keeps σ s) : Keeps σ (State.warmReset s) := by
  unfold State.warmReset
  repeat' first | with_reducible assumption | with_reducible apply State.resetDieC_keeps | with_reducible apply Keeps.ite
                | with_reducible apply Keeps.foldl | with_reducible apply Keeps.ite_fst | with_reducible apply Keeps.foldl_fst | split | dsimp only
                | (intro _; rfl) | (intro _; intros)

theorem State.abortAll_keeps {σ s : State} (hσ : Keeps σ s) : Keeps σ (State.abortAll s) := by
  unfold State.abortAll
  repeat' first | with_reducible assumption | with_reducible apply State.completeFlight_keeps | with_reducible apply Keeps.ite
                | with_reducible apply Keeps.foldl | with_reducible apply Keeps.ite_fst | with_reducible apply Keeps.foldl_fst | split | dsimp only
                | (intro _; rfl) | (intro _; intros) | (refine Keeps.same (by rfl) (by rfl) (by rfl) (by rfl) ?_)

theorem State.writeKept_keeps {σ s : State} (hσ : Keeps σ s) : Keeps σ (State.writeKept s) := by
  unfold State.writeKept
  repeat' first | with_reducible assumption | with_reducible apply State.deliver_keeps | with_reducible apply Keeps.ite
                | with_reducible apply Keeps.foldl | with_reducible apply Keeps.ite_fst | with_reducible apply Keeps.foldl_fst | split | dsimp only
                | (intro _; rfl) | (intro _; intros) | (refine Keeps.same (by rfl) (by rfl) (by rfl) (by rfl) ?_)

theorem State.forgetLoads_keeps {σ s : State} (hσ : Keeps σ s) : Keeps σ (State.forgetLoads s) := by
  unfold State.forgetLoads
  repeat' first | with_reducible assumption | with_reducible apply Keeps.ite | with_reducible apply Keeps.foldl | with_reducible apply Keeps.ite_fst
                | with_reducible apply Keeps.foldl_fst | split | dsimp only | (intro _; rfl) | (intro _; intros)
                | (refine Keeps.same (by rfl) (by rfl) (by rfl) (by rfl) ?_)

theorem State.rebuild_keeps {σ s : State} (loads : List Sys2Proof.Machine.LoadSeen) (hσ : Keeps σ s) : Keeps σ (State.rebuild s loads) := by
  unfold State.rebuild
  repeat' first | with_reducible assumption | with_reducible apply State.sampleLoad_keeps | with_reducible apply State.setLoad_keeps
                | with_reducible apply State.showUse_keeps | with_reducible apply State.wr_keeps | with_reducible apply Keeps.ite
                | with_reducible apply Keeps.foldl | with_reducible apply Keeps.ite_fst | with_reducible apply Keeps.foldl_fst | split | dsimp only
                | (intro _; rfl) | (intro _; intros) | (refine Keeps.same (by rfl) (by rfl) (by rfl) (by rfl) ?_)

theorem State.startUnits_keeps {σ s : State} (fromStop : Bool) (canFails : List Nat) (hσ : Keeps σ s) : Keeps σ
    (State.startUnits s fromStop canFails) := by
  unfold State.startUnits
  repeat' first | with_reducible assumption | with_reducible apply State.canBoot_keeps | with_reducible apply State.wr_keeps
                | with_reducible apply State.nmEnable_keeps | with_reducible apply State.gptpTo_keeps | with_reducible apply State.twClaim_keeps
                | with_reducible apply State.tw_keeps | with_reducible apply Keeps.ite | with_reducible apply Keeps.foldl
                | with_reducible apply Keeps.ite_fst | with_reducible apply Keeps.foldl_fst | split | dsimp only | (intro _; rfl) | (intro _; intros)

theorem State.startCores_keeps {σ s : State} (powerUp : Bool) (hσ : Keeps σ s) : Keeps σ (State.startCores s powerUp) := by
  unfold State.startCores
  repeat' first | with_reducible assumption | with_reducible apply State.modCore_keeps | with_reducible apply State.coreStart_keeps
                | with_reducible apply Keeps.ite | with_reducible apply Keeps.foldl | with_reducible apply Keeps.ite_fst
                | with_reducible apply Keeps.foldl_fst | split | dsimp only | (intro _; rfl) | (intro _; intros)
                | (refine Keeps.same (by rfl) (by rfl) (by rfl) (by rfl) ?_)

/-- The second state is the one that changes; the first gives what has been retired. -/

theorem State.keepRetired_keeps {σ w : State} (s : State) (hc : regsCanon σ.regs → regsCanon s.regs) (hσ : Keeps σ w) : Keeps σ
    (s.keepRetired w) := by
  unfold State.keepRetired
  extract_lets regs w1
  have k : ∀ (l : List Field) (t : Tab (Tab Nat)), regsCanon s.regs → regsCanon t → regsCanon (l.foldl (fun t f =>
      let es := tget [] s.regs f.id
      if es.isEmpty then t else tput t f.id es) t) := by
    intro l
    induction l with
    | nil => exact fun _ _ h => h
    | cons f l ih =>
      intro t hs ht
      refine ih _ hs ?_
      dsimp only
      split
      · exact ht
      · exact regsCanon_tput ht (regsCanon_get hs _)
  have h1 : Keeps σ w1 := ⟨hσ.now, hσ.pending, fun c => k _ _ (hc c) (hσ.canon c), hσ.retired⟩
  clear_value w1
  refine Keeps.foldl h1 fun w e h => Keeps.ite h ?_
  extract_lets w2 w3
  have h2 : Keeps σ w2 := State.modObj_keeps _ _ h
  clear_value w2
  have h3 : Keeps σ w3 := State.lowerIlim_keeps _ _ h2
  clear_value w3
  exact Keeps.ite (State.lowerIlim_keeps _ _ h3) h3

theorem State.wipe_keeps {σ s : State} (kept0 : Nat → Bool) (hσ : Keeps σ s) : Keeps σ (s.wipe kept0) := by
  unfold State.wipe
  extract_lets keep kept
  have hc : regsCanon σ.regs → regsCanon (keptRegs s.regs kept) := fun c => regsCanon_kept s.regs kept (hσ.canon c)
  clear_value kept
  generalize keptRegs s.regs kept = t at hc ⊢
  exact State.keepRetired_keeps s hσ.canon ⟨hσ.now, hσ.pending, hc, hσ.retired⟩

theorem State.rcRead_keeps {σ s : State} (pf : Nat) (win : Nat) (off : Nat) (hσ : Keeps σ s) : Keeps σ (State.rcRead s pf win off) := by
  unfold State.rcRead
  repeat' first | with_reducible assumption | with_reducible apply State.rstField_keeps | with_reducible apply Keeps.ite
                | with_reducible apply Keeps.foldl | with_reducible apply Keeps.ite_fst | with_reducible apply Keeps.foldl_fst | split | dsimp only
                | (intro _; rfl) | (intro _; intros) | (refine Keeps.same (by rfl) (by rfl) (by rfl) (by rfl) ?_)

theorem State.doorbellBad_keeps {σ s : State} (pf : Nat) (kind : Nat) (ring : Nat) (v : Nat) (hσ : Keeps σ s) : Keeps σ
    (State.doorbellBad s pf kind ring v) := by
  unfold State.doorbellBad
  repeat' first | with_reducible assumption | with_reducible apply State.raiseTo_keeps | with_reducible apply Keeps.ite
                | with_reducible apply Keeps.foldl | with_reducible apply Keeps.ite_fst | with_reducible apply Keeps.foldl_fst | split | dsimp only
                | (intro _; rfl) | (intro _; intros)

theorem State.dbCmd_keeps {σ s : State} (pf : Nat) (n : Nat) (v : Nat) (hσ : Keeps σ s) : Keeps σ (State.dbCmd s pf n v) := by
  unfold State.dbCmd
  repeat' first | with_reducible assumption | with_reducible apply State.setCmdRing_keeps | with_reducible apply State.doorbellBad_keeps
                | with_reducible apply Keeps.ite | with_reducible apply Keeps.foldl | with_reducible apply Keeps.ite_fst
                | with_reducible apply Keeps.foldl_fst | split | dsimp only | (intro _; rfl) | (intro _; intros)

theorem State.dbCpl_keeps {σ s : State} (pf : Nat) (m : Nat) (v : Nat) (hσ : Keeps σ s) : Keeps σ (State.dbCpl s pf m v) := by
  unfold State.dbCpl
  repeat' first | with_reducible assumption | with_reducible apply State.setCplRing_keeps | with_reducible apply State.doorbellBad_keeps
                | with_reducible apply Keeps.ite | with_reducible apply Keeps.foldl | with_reducible apply Keeps.ite_fst
                | with_reducible apply Keeps.foldl_fst | split | dsimp only | (intro _; rfl) | (intro _; intros)

theorem State.dbEvt_keeps {σ s : State} (pf : Nat) (v : Nat) (hσ : Keeps σ s) : Keeps σ (State.dbEvt s pf v) := by
  unfold State.dbEvt
  repeat' first | with_reducible assumption | with_reducible apply State.setEvtRing_keeps | with_reducible apply State.doorbellBad_keeps
                | with_reducible apply Keeps.ite | with_reducible apply Keeps.foldl | with_reducible apply Keeps.ite_fst
                | with_reducible apply Keeps.foldl_fst | split | dsimp only | (intro _; rfl) | (intro _; intros)

theorem State.doorbell_keeps {σ s : State} (pf : Nat) (off : Nat) (v : Nat) (hσ : Keeps σ s) : Keeps σ (State.doorbell s pf off v) := by
  unfold State.doorbell
  repeat' first | with_reducible assumption | with_reducible apply State.dbCmd_keeps | with_reducible apply State.dbCpl_keeps
                | with_reducible apply State.dbEvt_keeps | with_reducible apply Keeps.ite | with_reducible apply Keeps.foldl
                | with_reducible apply Keeps.ite_fst | with_reducible apply Keeps.foldl_fst | split | dsimp only | (intro _; rfl) | (intro _; intros)

theorem State.ring_keeps {σ s : State} (pf : Nat) (off : Nat) (v : Nat) (hσ : Keeps σ s) : Keeps σ (State.ring s pf off v) := by
  unfold State.ring
  repeat' first | with_reducible assumption | with_reducible apply State.doorbell_keeps | with_reducible apply Keeps.ite
                | with_reducible apply Keeps.foldl | with_reducible apply Keeps.ite_fst | with_reducible apply Keeps.foldl_fst | split | dsimp only
                | (intro _; rfl) | (intro _; intros) | (refine Keeps.same (by rfl) (by rfl) (by rfl) (by rfl) ?_)

theorem State.bar2Write_keeps {σ s : State} (pf : Nat) (off : Nat) (size : Nat) (v : Nat) (hσ : Keeps σ s) : Keeps σ
    (State.bar2Write s pf off size v) := by
  unfold State.bar2Write
  repeat' first | with_reducible assumption | with_reducible apply State.ring_keeps | with_reducible apply Keeps.ite
                | with_reducible apply Keeps.foldl | with_reducible apply Keeps.ite_fst | with_reducible apply Keeps.foldl_fst | split | dsimp only
                | (intro _; rfl) | (intro _; intros)

theorem State.vecMaskWrite_keeps {σ s : State} (pf : Nat) (v : Nat) (mask : Bool) (hσ : Keeps σ s) : Keeps σ (State.vecMaskWrite s pf v mask) := by
  unfold State.vecMaskWrite
  repeat' first | with_reducible assumption | with_reducible apply State.setFn_keeps | with_reducible apply Keeps.ite
                | with_reducible apply Keeps.foldl | with_reducible apply Keeps.ite_fst | with_reducible apply Keeps.foldl_fst | split | dsimp only
                | (intro _; rfl) | (intro _; intros) | (refine Keeps.same (by rfl) (by rfl) (by rfl) (by rfl) ?_)

theorem State.bar4Write_keeps {σ s : State} (pf : Nat) (off : Nat) (v : Nat) (hσ : Keeps σ s) : Keeps σ (State.bar4Write s pf off v) := by
  unfold State.bar4Write
  repeat' first | with_reducible assumption | with_reducible apply State.setFn_keeps | with_reducible apply State.vecMaskWrite_keeps
                | with_reducible apply Keeps.ite | with_reducible apply Keeps.foldl | with_reducible apply Keeps.ite_fst
                | with_reducible apply Keeps.foldl_fst | split | dsimp only | (intro _; rfl) | (intro _; intros)

theorem State.cmdRingWrite_keeps {σ s : State} (pf : Nat) (n : Nat) (reg : Nat) (v : Nat) (hσ : Keeps σ s) : Keeps σ
    (State.cmdRingWrite s pf n reg v).1 := by
  unfold State.cmdRingWrite
  repeat' first | with_reducible assumption | with_reducible apply State.setCmdRing_keeps | with_reducible apply Keeps.ite
                | with_reducible apply Keeps.foldl | with_reducible apply Keeps.ite_fst | with_reducible apply Keeps.foldl_fst | split | dsimp only
                | (intro _; rfl) | (intro _; intros)

theorem State.giveWake_keeps {σ s : State} (pf : Nat) (hσ : Keeps σ s) : Keeps σ (State.giveWake s pf) := by
  unfold State.giveWake
  repeat' first | with_reducible assumption | with_reducible apply Keeps.ite | with_reducible apply Keeps.foldl | with_reducible apply Keeps.ite_fst
                | with_reducible apply Keeps.foldl_fst | split | dsimp only | (intro _; rfl) | (intro _; intros)
                | (refine Keeps.same (by rfl) (by rfl) (by rfl) (by rfl) ?_)

theorem State.evtRingWrite_keeps {σ s : State} (pf : Nat) (reg : Nat) (v : Nat) (hσ : Keeps σ s) : Keeps σ (State.evtRingWrite s pf reg v).1 := by
  unfold State.evtRingWrite
  repeat' first | with_reducible assumption | with_reducible apply State.giveWake_keeps | with_reducible apply State.setEvtRing_keeps
                | with_reducible apply Keeps.ite | with_reducible apply Keeps.foldl | with_reducible apply Keeps.ite_fst
                | with_reducible apply Keeps.foldl_fst | split | dsimp only | (intro _; rfl) | (intro _; intros)

theorem State.hrWrite_keeps {σ s : State} (pf : Nat) (off : Nat) (v : Nat) (hσ : Keeps σ s) : Keeps σ (State.hrWrite s pf off v).1 := by
  unfold State.hrWrite
  repeat' first | with_reducible assumption | with_reducible apply State.setFn_keeps | with_reducible apply State.cmdRingWrite_keeps
                | with_reducible apply State.setCplRing_keeps | with_reducible apply State.evtRingWrite_keeps | with_reducible apply Keeps.ite
                | with_reducible apply Keeps.foldl | with_reducible apply Keeps.ite_fst | with_reducible apply Keeps.foldl_fst | split | dsimp only
                | (intro _; rfl) | (intro _; intros) | (refine Keeps.same (by rfl) (by rfl) (by rfl) (by rfl) ?_)

theorem State.hrSetup_keeps {σ s : State} (pf : Nat) (off : Nat) (v : Nat) (hσ : Keeps σ s) : Keeps σ (State.hrSetup s pf off v) := by
  unfold State.hrSetup
  repeat' first | with_reducible assumption | with_reducible apply State.hrWrite_keeps | with_reducible apply State.logSetup_keeps
                | with_reducible apply Keeps.ite | with_reducible apply Keeps.foldl | with_reducible apply Keeps.ite_fst
                | with_reducible apply Keeps.foldl_fst | split | dsimp only | (intro _; rfl) | (intro _; intros)

theorem State.fetchEntry_keeps {σ s : State} (pf : Nat) (n : Nat) (c0 : Sys2Proof.Machine.Cmd) (hσ : Keeps σ s) : Keeps σ
    (State.fetchEntry s pf n c0).1 := by
  unfold State.fetchEntry
  repeat' first | with_reducible assumption | with_reducible apply State.dma_keeps | with_reducible apply State.takeEntry_keeps
                | with_reducible apply State.setFn_keeps | with_reducible apply State.turnAway_keeps | with_reducible apply State.takeIn_keeps
                | with_reducible apply State.journal_keeps | with_reducible apply Keeps.ite | with_reducible apply Keeps.foldl
                | with_reducible apply Keeps.ite_fst | with_reducible apply Keeps.foldl_fst | split | dsimp only | (intro _; rfl) | (intro _; intros)

theorem State.fetchBatch_keeps {σ s : State} (pf : Nat) (n : Nat) (batch : List Sys2Proof.Machine.Cmd) (hσ : Keeps σ s) : Keeps σ
    (State.fetchBatch s pf n batch) := by
  unfold State.fetchBatch
  repeat' first | with_reducible assumption | with_reducible apply State.fetchEntry_keeps | with_reducible apply State.headWb_keeps
                | with_reducible apply Keeps.ite | with_reducible apply Keeps.foldl | with_reducible apply Keeps.ite_fst
                | with_reducible apply Keeps.foldl_fst | split | dsimp only | (intro _; rfl) | (intro _; intros)

theorem State.fetchFail_keeps {σ s : State} (pf : Nat) (n : Nat) (hσ : Keeps σ s) : Keeps σ (State.fetchFail s pf n) := by
  unfold State.fetchFail
  repeat' first | with_reducible assumption | with_reducible apply State.setCmdRing_keeps | with_reducible apply State.raiseTo_keeps
                | with_reducible apply Keeps.ite | with_reducible apply Keeps.foldl | with_reducible apply Keeps.ite_fst
                | with_reducible apply Keeps.foldl_fst | split | dsimp only | (intro _; rfl) | (intro _; intros)

theorem State.cancelOf_keeps {σ s : State} (c : Sys2Proof.Machine.Cmd) (r : Sys2Proof.Machine.InFlight) (hσ : Keeps σ s) : Keeps σ
    (State.cancelOf s c r) := by
  unfold State.cancelOf
  repeat' first | with_reducible assumption | with_reducible apply State.modFlight_keeps | with_reducible apply State.complete_keeps
                | with_reducible apply State.forget_keeps | with_reducible apply Keeps.ite | with_reducible apply Keeps.foldl
                | with_reducible apply Keeps.ite_fst | with_reducible apply Keeps.foldl_fst | split | dsimp only | (intro _; rfl) | (intro _; intros)

theorem State.cancel_keeps {σ s : State} (c : Sys2Proof.Machine.Cmd) (hσ : Keeps σ s) : Keeps σ (State.cancel s c) := by
  unfold State.cancel
  repeat' first | with_reducible assumption | with_reducible apply State.complete_keeps | with_reducible apply State.cancelOf_keeps
                | with_reducible apply Keeps.ite | with_reducible apply Keeps.foldl | with_reducible apply Keeps.ite_fst
                | with_reducible apply Keeps.foldl_fst | split | dsimp only | (intro _; rfl) | (intro _; intros)

theorem execDbCmd_keeps {σ s : State} (dt : Nat) (pf : Nat) (n : Nat) (v : Nat) (hσ : Keeps σ (s.tick dt)) : AKeeps σ (execDbCmd dt pf n v s) := by
  unfold execDbCmd
  refine ⟨_, rfl, ?_⟩
  repeat' first | with_reducible assumption | with_reducible apply State.done_keeps | with_reducible apply State.ring_keeps
                | with_reducible apply Keeps.ite | with_reducible apply Keeps.foldl | with_reducible apply Keeps.ite_fst
                | with_reducible apply Keeps.foldl_fst | split | dsimp only | (intro _; rfl) | (intro _; intros)

theorem execDbCpl_keeps {σ s : State} (dt : Nat) (pf : Nat) (m : Nat) (v : Nat) (hσ : Keeps σ (s.tick dt)) : AKeeps σ (execDbCpl dt pf m v s) := by
  unfold execDbCpl
  refine ⟨_, rfl, ?_⟩
  repeat' first | with_reducible assumption | with_reducible apply State.done_keeps | with_reducible apply State.ring_keeps
                | with_reducible apply Keeps.ite | with_reducible apply Keeps.foldl | with_reducible apply Keeps.ite_fst
                | with_reducible apply Keeps.foldl_fst | split | dsimp only | (intro _; rfl) | (intro _; intros)

theorem execDbEvt_keeps {σ s : State} (dt : Nat) (pf : Nat) (v : Nat) (hσ : Keeps σ (s.tick dt)) : AKeeps σ (execDbEvt dt pf v s) := by
  unfold execDbEvt
  refine ⟨_, rfl, ?_⟩
  repeat' first | with_reducible assumption | with_reducible apply State.done_keeps | with_reducible apply State.ring_keeps
                | with_reducible apply Keeps.ite | with_reducible apply Keeps.foldl | with_reducible apply Keeps.ite_fst
                | with_reducible apply Keeps.foldl_fst | split | dsimp only | (intro _; rfl) | (intro _; intros)

theorem execCommandFetch_keeps {σ s : State} (dt : Nat) (pf : Nat) (n : Nat) (batch : List Sys2Proof.Machine.Cmd) (fail : Bool) (hσ : Keeps σ
    (s.tick dt)) : AKeeps σ (execCommandFetch dt pf n batch fail s) := by
  unfold execCommandFetch
  refine ⟨_, rfl, ?_⟩
  repeat' first | with_reducible assumption | with_reducible apply State.done_keeps | with_reducible apply State.fetchFail_keeps
                | with_reducible apply State.fetchBatch_keeps | with_reducible apply Keeps.ite | with_reducible apply Keeps.foldl
                | with_reducible apply Keeps.ite_fst | with_reducible apply Keeps.foldl_fst | split | dsimp only | (intro _; rfl) | (intro _; intros)

theorem execDmaReadFail_keeps {σ s : State} (dt : Nat) (c : Sys2Proof.Machine.Cmd) (hσ : Keeps σ (s.tick dt)) : AKeeps σ
    (execDmaReadFail dt c s) := by
  unfold execDmaReadFail
  refine ⟨_, rfl, ?_⟩
  repeat' first | with_reducible assumption | with_reducible apply State.done_keeps | with_reducible apply State.complete_keeps
                | with_reducible apply State.forget_keeps | with_reducible apply State.arrive_keeps | with_reducible apply Keeps.ite
                | with_reducible apply Keeps.foldl | with_reducible apply Keeps.ite_fst | with_reducible apply Keeps.foldl_fst | split | dsimp only
                | (intro _; rfl) | (intro _; intros)

theorem execNop_keeps {σ s : State} (dt : Nat) (c : Sys2Proof.Machine.Cmd) (hσ : Keeps σ (s.tick dt)) : AKeeps σ (execNop dt c s) := by
  unfold execNop
  refine ⟨_, rfl, ?_⟩
  repeat' first | with_reducible assumption | with_reducible apply State.done_keeps | with_reducible apply State.serveOp_keeps
                | with_reducible apply State.complete_keeps | with_reducible apply Keeps.ite | with_reducible apply Keeps.foldl
                | with_reducible apply Keeps.ite_fst | with_reducible apply Keeps.foldl_fst | split | dsimp only | (intro _; rfl) | (intro _; intros)

theorem execCancel_keeps {σ s : State} (dt : Nat) (c : Sys2Proof.Machine.Cmd) (hσ : Keeps σ (s.tick dt)) : AKeeps σ (execCancel dt c s) := by
  unfold execCancel
  refine ⟨_, rfl, ?_⟩
  repeat' first | with_reducible assumption | with_reducible apply State.done_keeps | with_reducible apply State.serveOp_keeps
                | with_reducible apply State.cancel_keeps | with_reducible apply Keeps.ite | with_reducible apply Keeps.foldl
                | with_reducible apply Keeps.ite_fst | with_reducible apply Keeps.foldl_fst | split | dsimp only | (intro _; rfl) | (intro _; intros)

theorem execSetTime_keeps {σ s : State} (dt : Nat) (c : Sys2Proof.Machine.Cmd) (hσ : Keeps σ (s.tick dt)) : AKeeps σ (execSetTime dt c s) := by
  unfold execSetTime
  refine ⟨_, rfl, ?_⟩
  repeat' first | with_reducible assumption | with_reducible apply State.done_keeps | with_reducible apply State.serveOp_keeps
                | with_reducible apply State.complete_keeps | with_reducible apply State.begin_keeps | with_reducible apply State.timeJump_keeps
                | with_reducible apply Keeps.ite | with_reducible apply Keeps.foldl | with_reducible apply Keeps.ite_fst
                | with_reducible apply Keeps.foldl_fst | split | dsimp only | (intro _; rfl) | (intro _; intros)
                | (refine Keeps.same (by rfl) (by rfl) (by rfl) (by rfl) ?_)

theorem execReadStatus_keeps {σ s : State} (dt : Nat) (c : Sys2Proof.Machine.Cmd) (hσ : Keeps σ (s.tick dt)) : AKeeps σ (execReadStatus dt c s) := by
  unfold execReadStatus
  refine ⟨_, rfl, ?_⟩
  repeat' first | with_reducible assumption | with_reducible apply State.done_keeps | with_reducible apply State.serveOp_keeps
                | with_reducible apply State.answerWith_keeps | with_reducible apply Keeps.ite | with_reducible apply Keeps.foldl
                | with_reducible apply Keeps.ite_fst | with_reducible apply Keeps.foldl_fst | split | dsimp only | (intro _; rfl) | (intro _; intros)

theorem execReadHistory_keeps {σ s : State} (dt : Nat) (c : Sys2Proof.Machine.Cmd) (hσ : Keeps σ (s.tick dt)) : AKeeps σ
    (execReadHistory dt c s) := by
  unfold execReadHistory
  refine ⟨_, rfl, ?_⟩
  repeat' first | with_reducible assumption | with_reducible apply State.done_keeps | with_reducible apply State.serveOp_keeps
                | with_reducible apply State.answerWith_keeps | with_reducible apply Keeps.ite | with_reducible apply Keeps.foldl
                | with_reducible apply Keeps.ite_fst | with_reducible apply Keeps.foldl_fst | split | dsimp only | (intro _; rfl) | (intro _; intros)

theorem execReadCounters_keeps {σ s : State} (dt : Nat) (c : Sys2Proof.Machine.Cmd) (hσ : Keeps σ (s.tick dt)) : AKeeps σ
    (execReadCounters dt c s) := by
  unfold execReadCounters
  refine ⟨_, rfl, ?_⟩
  repeat' first | with_reducible assumption | with_reducible apply State.done_keeps | with_reducible apply State.serveOp_keeps
                | with_reducible apply State.answerWith_keeps | with_reducible apply Keeps.ite | with_reducible apply Keeps.foldl
                | with_reducible apply Keeps.ite_fst | with_reducible apply Keeps.foldl_fst | split | dsimp only | (intro _; rfl) | (intro _; intros)

theorem execReadRetirements_keeps {σ s : State} (dt : Nat) (c : Sys2Proof.Machine.Cmd) (hσ : Keeps σ (s.tick dt)) : AKeeps σ
    (execReadRetirements dt c s) := by
  unfold execReadRetirements
  refine ⟨_, rfl, ?_⟩
  repeat' first | with_reducible assumption | with_reducible apply State.done_keeps | with_reducible apply State.serveOp_keeps
                | with_reducible apply State.answerWith_keeps | with_reducible apply Keeps.ite | with_reducible apply Keeps.foldl
                | with_reducible apply Keeps.ite_fst | with_reducible apply Keeps.foldl_fst | split | dsimp only | (intro _; rfl) | (intro _; intros)

theorem execReadIdentity_keeps {σ s : State} (dt : Nat) (c : Sys2Proof.Machine.Cmd) (hσ : Keeps σ (s.tick dt)) : AKeeps σ
    (execReadIdentity dt c s) := by
  unfold execReadIdentity
  refine ⟨_, rfl, ?_⟩
  repeat' first | with_reducible assumption | with_reducible apply State.done_keeps | with_reducible apply State.serveOp_keeps
                | with_reducible apply State.answerWith_keeps | with_reducible apply Keeps.ite | with_reducible apply Keeps.foldl
                | with_reducible apply Keeps.ite_fst | with_reducible apply Keeps.foldl_fst | split | dsimp only | (intro _; rfl) | (intro _; intros)

theorem State.ringEn_keeps {σ s : State} (pf : Nat) (off : Nat) (k : Nat) (on : Bool) (hσ : Keeps σ s) : Keeps σ (State.ringEn s pf off k on) := by
  unfold State.ringEn
  repeat' first | with_reducible assumption | with_reducible apply State.hrSetup_keeps | with_reducible apply Keeps.ite
                | with_reducible apply Keeps.foldl | with_reducible apply Keeps.ite_fst | with_reducible apply Keeps.foldl_fst | split | dsimp only
                | (intro _; rfl) | (intro _; intros)

theorem execCmdRingEnable_keeps {σ s : State} (dt : Nat) (pf : Nat) (n : Nat) (hσ : Keeps σ (s.tick dt)) : AKeeps σ
    (execCmdRingEnable dt pf n s) := by
  unfold execCmdRingEnable
  refine ⟨_, rfl, ?_⟩
  repeat' first | with_reducible assumption | with_reducible apply State.done_keeps | with_reducible apply State.ringEn_keeps
                | with_reducible apply Keeps.ite | with_reducible apply Keeps.foldl | with_reducible apply Keeps.ite_fst
                | with_reducible apply Keeps.foldl_fst | split | dsimp only | (intro _; rfl) | (intro _; intros)

theorem execCmdRingDisable_keeps {σ s : State} (dt : Nat) (pf : Nat) (n : Nat) (hσ : Keeps σ (s.tick dt)) : AKeeps σ
    (execCmdRingDisable dt pf n s) := by
  unfold execCmdRingDisable
  refine ⟨_, rfl, ?_⟩
  repeat' first | with_reducible assumption | with_reducible apply State.done_keeps | with_reducible apply State.ringEn_keeps
                | with_reducible apply Keeps.ite | with_reducible apply Keeps.foldl | with_reducible apply Keeps.ite_fst
                | with_reducible apply Keeps.foldl_fst | split | dsimp only | (intro _; rfl) | (intro _; intros)

theorem execCplRingEnable_keeps {σ s : State} (dt : Nat) (pf : Nat) (m : Nat) (hσ : Keeps σ (s.tick dt)) : AKeeps σ
    (execCplRingEnable dt pf m s) := by
  unfold execCplRingEnable
  refine ⟨_, rfl, ?_⟩
  repeat' first | with_reducible assumption | with_reducible apply State.done_keeps | with_reducible apply State.ringEn_keeps
                | with_reducible apply Keeps.ite | with_reducible apply Keeps.foldl | with_reducible apply Keeps.ite_fst
                | with_reducible apply Keeps.foldl_fst | split | dsimp only | (intro _; rfl) | (intro _; intros)

theorem execCplRingDisable_keeps {σ s : State} (dt : Nat) (pf : Nat) (m : Nat) (hσ : Keeps σ (s.tick dt)) : AKeeps σ
    (execCplRingDisable dt pf m s) := by
  unfold execCplRingDisable
  refine ⟨_, rfl, ?_⟩
  repeat' first | with_reducible assumption | with_reducible apply State.done_keeps | with_reducible apply State.ringEn_keeps
                | with_reducible apply Keeps.ite | with_reducible apply Keeps.foldl | with_reducible apply Keeps.ite_fst
                | with_reducible apply Keeps.foldl_fst | split | dsimp only | (intro _; rfl) | (intro _; intros)

theorem execEvtRingEnable_keeps {σ s : State} (dt : Nat) (pf : Nat) (hσ : Keeps σ (s.tick dt)) : AKeeps σ (execEvtRingEnable dt pf s) := by
  unfold execEvtRingEnable
  refine ⟨_, rfl, ?_⟩
  repeat' first | with_reducible assumption | with_reducible apply State.done_keeps | with_reducible apply State.ringEn_keeps
                | with_reducible apply Keeps.ite | with_reducible apply Keeps.foldl | with_reducible apply Keeps.ite_fst
                | with_reducible apply Keeps.foldl_fst | split | dsimp only | (intro _; rfl) | (intro _; intros)

theorem execEvtRingDisable_keeps {σ s : State} (dt : Nat) (pf : Nat) (hσ : Keeps σ (s.tick dt)) : AKeeps σ (execEvtRingDisable dt pf s) := by
  unfold execEvtRingDisable
  refine ⟨_, rfl, ?_⟩
  repeat' first | with_reducible assumption | with_reducible apply State.done_keeps | with_reducible apply State.ringEn_keeps
                | with_reducible apply Keeps.ite | with_reducible apply Keeps.foldl | with_reducible apply Keeps.ite_fst
                | with_reducible apply Keeps.foldl_fst | split | dsimp only | (intro _; rfl) | (intro _; intros)

theorem execOwnerChange_keeps {σ s : State} (dt : Nat) (o : Nat) (v : Nat) (hσ : Keeps σ (s.tick dt)) : AKeeps σ (execOwnerChange dt o v s) := by
  unfold execOwnerChange
  refine ⟨_, rfl, ?_⟩
  repeat' first | with_reducible assumption | with_reducible apply State.done_keeps | with_reducible apply State.hrSetup_keeps
                | with_reducible apply Keeps.ite | with_reducible apply Keeps.foldl | with_reducible apply Keeps.ite_fst
                | with_reducible apply Keeps.foldl_fst | split | dsimp only | (intro _; rfl) | (intro _; intros)

theorem execMsixModtimeExpiry_keeps {σ s : State} (dt : Nat) (pf : Nat) (kind : Nat) (m : Nat) (hσ : Keeps σ (s.tick dt)) : AKeeps σ
    (execMsixModtimeExpiry dt pf kind m s) := by
  unfold execMsixModtimeExpiry
  refine ⟨_, rfl, ?_⟩
  repeat' first | with_reducible assumption | with_reducible apply State.done_keeps | with_reducible apply State.modRxq_keeps
                | with_reducible apply Keeps.ite | with_reducible apply Keeps.foldl | with_reducible apply Keeps.ite_fst
                | with_reducible apply Keeps.foldl_fst | split | dsimp only | (intro _; rfl) | (intro _; intros)
                | (refine Keeps.same (by rfl) (by rfl) (by rfl) (by rfl) ?_)

theorem execMsixUnmask_keeps {σ s : State} (dt : Nat) (pf : Nat) (v : Nat) (mask : Bool) (hσ : Keeps σ (s.tick dt)) : AKeeps σ
    (execMsixUnmask dt pf v mask s) := by
  unfold execMsixUnmask
  refine ⟨_, rfl, ?_⟩
  repeat' first | with_reducible assumption | with_reducible apply State.done_keeps | with_reducible apply State.vecMaskWrite_keeps
                | with_reducible apply Keeps.ite | with_reducible apply Keeps.foldl | with_reducible apply Keeps.ite_fst
                | with_reducible apply Keeps.foldl_fst | split | dsimp only | (intro _; rfl) | (intro _; intros)

theorem execFunctionLevelReset_keeps {σ s : State} (dt : Nat) (pf : Nat) (hσ : Keeps σ (s.tick dt)) : AKeeps σ (execFunctionLevelReset dt pf s) := by
  unfold execFunctionLevelReset
  refine ⟨_, rfl, ?_⟩
  repeat' first | with_reducible assumption | with_reducible apply State.done_keeps | with_reducible apply State.flr_keeps
                | with_reducible apply Keeps.ite | with_reducible apply Keeps.foldl | with_reducible apply Keeps.ite_fst
                | with_reducible apply Keeps.foldl_fst | split | dsimp only | (intro _; rfl) | (intro _; intros)

theorem execPePerstAssert_keeps {σ s : State} (dt : Nat) (hσ : Keeps σ (s.tick dt)) : AKeeps σ (execPePerstAssert dt s) := by
  unfold execPePerstAssert
  refine ⟨_, rfl, ?_⟩
  repeat' first | with_reducible assumption | with_reducible apply State.done_keeps | with_reducible apply State.flrAll_keeps
                | with_reducible apply Keeps.ite | with_reducible apply Keeps.foldl | with_reducible apply Keeps.ite_fst
                | with_reducible apply Keeps.foldl_fst | split | dsimp only | (intro _; rfl) | (intro _; intros)
                | (refine Keeps.same (by rfl) (by rfl) (by rfl) (by rfl) ?_)

theorem execPcieLinkDown_keeps {σ s : State} (dt : Nat) (hσ : Keeps σ (s.tick dt)) : AKeeps σ (execPcieLinkDown dt s) := by
  unfold execPcieLinkDown
  refine ⟨_, rfl, ?_⟩
  repeat' first | with_reducible assumption | with_reducible apply State.done_keeps | with_reducible apply Keeps.ite
                | with_reducible apply Keeps.foldl | with_reducible apply Keeps.ite_fst | with_reducible apply Keeps.foldl_fst | split | dsimp only
                | (intro _; rfl) | (intro _; intros) | (refine Keeps.same (by rfl) (by rfl) (by rfl) (by rfl) ?_)

theorem execPcieLinkUp_keeps {σ s : State} (dt : Nat) (hσ : Keeps σ (s.tick dt)) : AKeeps σ (execPcieLinkUp dt s) := by
  unfold execPcieLinkUp
  refine ⟨_, rfl, ?_⟩
  repeat' first | with_reducible assumption | with_reducible apply State.done_keeps | with_reducible apply Keeps.ite
                | with_reducible apply Keeps.foldl | with_reducible apply Keeps.ite_fst | with_reducible apply Keeps.foldl_fst | split | dsimp only
                | (intro _; rfl) | (intro _; intros) | (refine Keeps.same (by rfl) (by rfl) (by rfl) (by rfl) ?_)

theorem State.setRef_keeps {σ s : State} (b : Bool) (hσ : Keeps σ s) : Keeps σ (State.setRef s b) := by
  unfold State.setRef
  repeat' first | with_reducible assumption | with_reducible apply State.wrb_keeps | with_reducible apply State.wr_keeps
                | with_reducible apply Keeps.ite | with_reducible apply Keeps.foldl | with_reducible apply Keeps.ite_fst
                | with_reducible apply Keeps.foldl_fst | split | dsimp only | (intro _; rfl) | (intro _; intros)
                | (refine Keeps.same (by rfl) (by rfl) (by rfl) (by rfl) ?_)

theorem State.refLostEarly_keeps {σ s : State} (hσ : Keeps σ s) : Keeps σ (State.refLostEarly s) := by
  unfold State.refLostEarly
  repeat' first | with_reducible assumption | with_reducible apply State.modCan_keeps | with_reducible apply State.setRef_keeps
                | with_reducible apply Keeps.ite | with_reducible apply Keeps.foldl | with_reducible apply Keeps.ite_fst
                | with_reducible apply Keeps.foldl_fst | split | dsimp only | (intro _; rfl) | (intro _; intros)
                | (refine Keeps.same (by rfl) (by rfl) (by rfl) (by rfl) ?_)

theorem State.portBack_keeps {σ s : State} (p : Nat) (hσ : Keeps σ s) : Keeps σ (State.portBack s p) := by
  unfold State.portBack
  repeat' first | with_reducible assumption | with_reducible apply State.modPort_keeps | with_reducible apply Keeps.ite
                | with_reducible apply Keeps.foldl | with_reducible apply Keeps.ite_fst | with_reducible apply Keeps.foldl_fst | split | dsimp only
                | (intro _; rfl) | (intro _; intros)

theorem State.canBack_keeps {σ s : State} (n : Nat) (hσ : Keeps σ s) : Keeps σ (State.canBack s n) := by
  unfold State.canBack
  repeat' first | with_reducible assumption | with_reducible apply State.canRetry_keeps | with_reducible apply Keeps.ite
                | with_reducible apply Keeps.foldl | with_reducible apply Keeps.ite_fst | with_reducible apply Keeps.foldl_fst | split | dsimp only
                | (intro _; rfl) | (intro _; intros)

theorem State.reedBack_keeps {σ s : State} (hσ : Keeps σ s) : Keeps σ (State.reedBack s) := by
  unfold State.reedBack
  repeat' first | with_reducible assumption | with_reducible apply State.tw_keeps | with_reducible apply Keeps.ite | with_reducible apply Keeps.foldl
                | with_reducible apply Keeps.ite_fst | with_reducible apply Keeps.foldl_fst | split | dsimp only | (intro _; rfl) | (intro _; intros)

theorem State.lfBack_keeps {σ s : State} (hσ : Keeps σ s) : Keeps σ (State.lfBack s) := by
  unfold State.lfBack
  repeat' first | with_reducible assumption | with_reducible apply State.ac_keeps | with_reducible apply Keeps.ite | with_reducible apply Keeps.foldl
                | with_reducible apply Keeps.ite_fst | with_reducible apply Keeps.foldl_fst | split | dsimp only | (intro _; rfl) | (intro _; intros)

theorem State.refLost_keeps {σ s : State} (hσ : Keeps σ s) : Keeps σ (State.refLost s) := by
  unfold State.refLost
  repeat' first | with_reducible assumption | with_reducible apply State.flagSet_keeps | with_reducible apply State.setRef_keeps
                | with_reducible apply State.linBack_keeps | with_reducible apply State.portBack_keeps | with_reducible apply State.canBack_keeps
                | with_reducible apply State.lfBack_keeps | with_reducible apply State.reedBack_keeps | with_reducible apply Keeps.ite
                | with_reducible apply Keeps.foldl | with_reducible apply Keeps.ite_fst | with_reducible apply Keeps.foldl_fst | split | dsimp only
                | (intro _; rfl) | (intro _; intros) | (refine Keeps.same (by rfl) (by rfl) (by rfl) (by rfl) ?_)

theorem execRefclkLoss_keeps {σ s : State} (dt : Nat) (hσ : Keeps σ (s.tick dt)) : AKeeps σ (execRefclkLoss dt s) := by
  unfold execRefclkLoss
  refine ⟨_, rfl, ?_⟩
  repeat' first | with_reducible assumption | with_reducible apply State.done_keeps | with_reducible apply State.refLost_keeps
                | with_reducible apply State.refLostEarly_keeps | with_reducible apply Keeps.ite | with_reducible apply Keeps.foldl
                | with_reducible apply Keeps.ite_fst | with_reducible apply Keeps.foldl_fst | split | dsimp only | (intro _; rfl) | (intro _; intros)

theorem execRefclkReturn_keeps {σ s : State} (dt : Nat) (hσ : Keeps σ (s.tick dt)) : AKeeps σ (execRefclkReturn dt s) := by
  unfold execRefclkReturn
  refine ⟨_, rfl, ?_⟩
  repeat' first | with_reducible assumption | with_reducible apply State.done_keeps | with_reducible apply State.setRef_keeps
                | with_reducible apply Keeps.ite | with_reducible apply Keeps.foldl | with_reducible apply Keeps.ite_fst
                | with_reducible apply Keeps.foldl_fst | split | dsimp only | (intro _; rfl) | (intro _; intros)

end Sys2Proof.Machine
end

