-- ==== Sys2Proof/Laws/KeepsSystem.lean ====
section
/-!
SUPPORT. Sys2Proof/Laws/KeepsSystem.lean: what Keeps says of the operations and rows of power, security, stop, limp, Fife, update, faults, samples and setup.
-/
namespace Sys2Proof.Machine

theorem State.wakeSrc_keeps {σ s : State} (k : Nat) (hσ : Keeps σ s) : Keeps σ (State.wakeSrc s k) := by
  unfold State.wakeSrc
  repeat' first | with_reducible assumption | with_reducible apply State.wr_keeps | with_reducible apply State.pw_keeps
                | with_reducible apply Keeps.ite | with_reducible apply Keeps.foldl | with_reducible apply Keeps.ite_fst
                | with_reducible apply Keeps.foldl_fst | split | dsimp only | (intro _; rfl) | (intro _; intros)

theorem State.stopVerdicts_keeps {σ s : State} (hσ : Keeps σ s) : Keeps σ (State.stopVerdicts s) := by
  unfold State.stopVerdicts
  repeat' first | with_reducible assumption | with_reducible apply State.modObj_keeps | with_reducible apply State.wr_keeps
                | with_reducible apply Keeps.ite | with_reducible apply Keeps.foldl | with_reducible apply Keeps.ite_fst
                | with_reducible apply Keeps.foldl_fst | split | dsimp only | (intro _; rfl) | (intro _; intros)

theorem State.stopThermal_keeps {σ s : State} (hσ : Keeps σ s) : Keeps σ (State.stopThermal s) := by
  unfold State.stopThermal
  repeat' first | with_reducible assumption | with_reducible apply State.wr_keeps | with_reducible apply Keeps.ite | with_reducible apply Keeps.foldl
                | with_reducible apply Keeps.ite_fst | with_reducible apply Keeps.foldl_fst | split | dsimp only | (intro _; rfl) | (intro _; intros)
                | (refine Keeps.same (by rfl) (by rfl) (by rfl) (by rfl) ?_)

theorem State.stopSamples_keeps {σ s : State} (hσ : Keeps σ s) : Keeps σ (State.stopSamples s) := by
  unfold State.stopSamples
  repeat' first | with_reducible assumption | with_reducible apply State.modSw_keeps | with_reducible apply State.wr_keeps
                | with_reducible apply State.modIi_keeps | with_reducible apply Keeps.ite | with_reducible apply Keeps.foldl
                | with_reducible apply Keeps.ite_fst | with_reducible apply Keeps.foldl_fst | split | dsimp only | (intro _; rfl) | (intro _; intros)
                | (refine Keeps.same (by rfl) (by rfl) (by rfl) (by rfl) ?_)

theorem State.stopReturn_keeps {σ s : State} (hσ : Keeps σ s) : Keeps σ (State.stopReturn s) := by
  unfold State.stopReturn
  repeat' first | with_reducible assumption | with_reducible apply State.pw_keeps | with_reducible apply State.stopSamples_keeps
                | with_reducible apply State.stopThermal_keeps | with_reducible apply State.stopVerdicts_keeps | with_reducible apply Keeps.ite
                | with_reducible apply Keeps.foldl | with_reducible apply Keeps.ite_fst | with_reducible apply Keeps.foldl_fst | split | dsimp only
                | (intro _; rfl) | (intro _; intros)

theorem State.returnOrder_keeps {σ s : State} (k : Nat) (hσ : Keeps σ s) : Keeps σ (State.returnOrder s k) := by
  unfold State.returnOrder
  repeat' first | with_reducible assumption | with_reducible apply State.pw_keeps | with_reducible apply State.toPhase_keeps
                | with_reducible apply State.stopReturn_keeps | with_reducible apply State.wr_keeps | with_reducible apply Keeps.ite
                | with_reducible apply Keeps.foldl | with_reducible apply Keeps.ite_fst | with_reducible apply Keeps.foldl_fst | split | dsimp only
                | (intro _; rfl) | (intro _; intros)

theorem State.stopEnd_keeps {σ s : State} (hσ : Keeps σ s) : Keeps σ (State.stopEnd s) := by
  unfold State.stopEnd
  repeat' first | with_reducible assumption | with_reducible apply State.returnOrder_keeps | with_reducible apply State.wr_keeps
                | with_reducible apply Keeps.ite | with_reducible apply Keeps.foldl | with_reducible apply Keeps.ite_fst
                | with_reducible apply Keeps.foldl_fst | split | dsimp only | (intro _; rfl) | (intro _; intros)

theorem State.wakes_keeps {σ s : State} (hσ : Keeps σ s) : Keeps σ (State.wakes s) := by
  unfold State.wakes
  repeat' first | with_reducible assumption | with_reducible apply State.pw_keeps | with_reducible apply State.stopEnd_keeps
                | with_reducible apply Keeps.ite | with_reducible apply Keeps.foldl | with_reducible apply Keeps.ite_fst
                | with_reducible apply Keeps.foldl_fst | split | dsimp only | (intro _; rfl) | (intro _; intros)

theorem State.setRdy_keeps {σ s : State} (k : Nat) (hσ : Keeps σ s) : Keeps σ (State.setRdy s k) := by
  unfold State.setRdy
  repeat' first | with_reducible assumption | with_reducible apply State.wr_keeps | with_reducible apply Keeps.ite | with_reducible apply Keeps.foldl
                | with_reducible apply Keeps.ite_fst | with_reducible apply Keeps.foldl_fst | split | dsimp only | (intro _; rfl) | (intro _; intros)

theorem State.holdEvent_keeps {σ s : State} (type : Nat) (obj : Nat) (data : Nat) (time : Nat) (fault : Bool) (hσ : Keeps σ s) : Keeps σ
    (State.holdEvent s type obj data time fault) := by
  unfold State.holdEvent
  repeat' first | with_reducible assumption | with_reducible apply State.deliver_keeps | with_reducible apply Keeps.ite
                | with_reducible apply Keeps.foldl | with_reducible apply Keeps.ite_fst | with_reducible apply Keeps.foldl_fst | split | dsimp only
                | (intro _; rfl) | (intro _; intros) | (refine Keeps.same (by rfl) (by rfl) (by rfl) (by rfl) ?_)

theorem State.wakeReports_keeps {σ s : State} (hσ : Keeps σ s) : Keeps σ (State.wakeReports s) := by
  unfold State.wakeReports
  repeat' first | with_reducible assumption | with_reducible apply State.holdEvent_keeps | with_reducible apply State.pw_keeps
                | with_reducible apply Keeps.ite | with_reducible apply Keeps.foldl | with_reducible apply Keeps.ite_fst
                | with_reducible apply Keeps.foldl_fst | split | dsimp only | (intro _; rfl) | (intro _; intros)
                | (refine Keeps.same (by rfl) (by rfl) (by rfl) (by rfl) ?_)

theorem State.itemFails_keeps {σ s : State} (e : Nat × Nat) (hσ : Keeps σ s) : Keeps σ (State.itemFails s e) := by
  unfold State.itemFails
  repeat' first | with_reducible assumption | with_reducible apply State.raise_keeps | with_reducible apply Keeps.ite
                | with_reducible apply Keeps.foldl | with_reducible apply Keeps.ite_fst | with_reducible apply Keeps.foldl_fst | split | dsimp only
                | (intro _; rfl) | (intro _; intros) | (refine Keeps.same (by rfl) (by rfl) (by rfl) (by rfl) ?_)

theorem State.chooseImage_keeps {σ s : State} (b : Sys2Proof.Machine.BootCheck) (hσ : Keeps σ s) : Keeps σ (State.chooseImage s b).1 := by
  unfold State.chooseImage
  repeat' first | with_reducible assumption | with_reducible apply State.setFwSlot_keeps | with_reducible apply State.pw_keeps
                | with_reducible apply Keeps.ite | with_reducible apply Keeps.foldl | with_reducible apply Keeps.ite_fst
                | with_reducible apply Keeps.foldl_fst | split | dsimp only | (intro _; rfl) | (intro _; intros)
                | (refine Keeps.same (by rfl) (by rfl) (by rfl) (by rfl) ?_)

theorem State.updBoot_keeps {σ s : State} (hσ : Keeps σ s) : Keeps σ (State.updBoot s) := by
  unfold State.updBoot
  repeat' first | with_reducible assumption | with_reducible apply State.raise_keeps | with_reducible apply Keeps.ite
                | with_reducible apply Keeps.foldl | with_reducible apply Keeps.ite_fst | with_reducible apply Keeps.foldl_fst | split | dsimp only
                | (intro _; rfl) | (intro _; intros)

theorem State.reclose_keeps {σ s : State} (r : Nat × Nat × Nat × Nat × Nat) (hσ : Keeps σ s) : Keeps σ (State.reclose s r) := by
  unfold State.reclose
  repeat' first | with_reducible assumption | with_reducible apply State.wr_keeps | with_reducible apply State.modLoop_keeps
                | with_reducible apply State.loopClaims_keeps | with_reducible apply Keeps.ite | with_reducible apply Keeps.foldl
                | with_reducible apply Keeps.ite_fst | with_reducible apply Keeps.foldl_fst | split | dsimp only | (intro _; rfl) | (intro _; intros)

theorem State.resumeSeg_keeps {σ s : State} (r : Nat × Nat × Nat) (hσ : Keeps σ s) : Keeps σ (State.resumeSeg s r) := by
  unfold State.resumeSeg
  repeat' first | with_reducible assumption | with_reducible apply State.wr_keeps | with_reducible apply State.modSeg_keeps
                | with_reducible apply Keeps.ite | with_reducible apply Keeps.foldl | with_reducible apply Keeps.ite_fst
                | with_reducible apply Keeps.foldl_fst | split | dsimp only | (intro _; rfl) | (intro _; intros)

theorem State.takeHandover_keeps {σ s : State} (ok : Bool) (hσ : Keeps σ s) : Keeps σ (State.takeHandover s ok) := by
  unfold State.takeHandover
  repeat' first | with_reducible assumption | with_reducible apply State.forgetLoads_keeps | with_reducible apply State.pw_keeps
                | with_reducible apply State.raise_keeps | with_reducible apply State.setLoad_keeps | with_reducible apply State.resumeSeg_keeps
                | with_reducible apply State.reclose_keeps | with_reducible apply Keeps.ite | with_reducible apply Keeps.foldl
                | with_reducible apply Keeps.ite_fst | with_reducible apply Keeps.foldl_fst | split | dsimp only | (intro _; rfl) | (intro _; intros)

theorem State.bootFirmware_keeps {σ s : State} (b : BootCheck) (fromStop : Bool) (hσ : Keeps σ s) : Keeps σ (s.bootFirmware b fromStop) := by
  unfold State.bootFirmware
  extract_lets trial r s1 old s2 s3 src s4 s5 s6 s7 s8
  have h1 : Keeps σ s1 := State.chooseImage_keeps b hσ
  clear_value s1
  refine Keeps.ite (State.updBoot_keeps (State.forgetLoads_keeps h1)) ?_
  · have h2 : Keeps σ s2 := Keeps.ite h1 (State.settle0_keeps _ _ h1)
    clear_value s2
    have h3 : Keeps σ s3 := Keeps.ite (State.takeHandover_keeps _ h2) h2
    clear_value s3
    have h4 : Keeps σ s4 := Keeps.ite (State.pw_keeps _ (Keeps.same rfl rfl rfl rfl h3)) h3
    clear_value s4
    have h5 : Keeps σ s5 := State.startCores_keeps _ h4
    clear_value s5
    have h6 : Keeps σ s6 := State.bootTests_keeps _ h5
    clear_value s6
    have h7 : Keeps σ s7 := State.startUnits_keeps _ _ h6
    clear_value s7
    have h8 : Keeps σ s8 := Keeps.ite h7 (State.paceRequest_keeps _ h7)
    clear_value s8
    exact Keeps.ite (State.updBoot_keeps h8) h8

theorem State.bootRejoin_keeps {σ s : State} (b : Sys2Proof.Machine.BootCheck) (hσ : Keeps σ s) : Keeps σ (State.bootRejoin s b) := by
  unfold State.bootRejoin
  repeat' first | with_reducible assumption | with_reducible apply State.abortAll_keeps | with_reducible apply State.rebuild_keeps
                | with_reducible apply State.logMissed_keeps | with_reducible apply State.writeKept_keeps | with_reducible apply Keeps.ite
                | with_reducible apply Keeps.foldl | with_reducible apply Keeps.ite_fst | with_reducible apply Keeps.foldl_fst | split | dsimp only
                | (intro _; rfl) | (intro _; intros)

theorem State.bootEvents_keeps {σ s : State} (hσ : Keeps σ s) : Keeps σ (State.bootEvents s) := by
  unfold State.bootEvents
  repeat' first | with_reducible assumption | with_reducible apply State.raiseFault_keeps | with_reducible apply State.pw_keeps
                | with_reducible apply State.flagSet_keeps | with_reducible apply State.raise_keeps | with_reducible apply State.accEvent_keeps
                | with_reducible apply Keeps.ite | with_reducible apply Keeps.foldl | with_reducible apply Keeps.ite_fst
                | with_reducible apply Keeps.foldl_fst | split | dsimp only | (intro _; rfl) | (intro _; intros)
                | (refine Keeps.same (by rfl) (by rfl) (by rfl) (by rfl) ?_)

theorem State.restartDone_keeps {σ s : State} (hσ : Keeps σ s) : Keeps σ (State.restartDone s) := by
  unfold State.restartDone
  repeat' first | with_reducible assumption | with_reducible apply State.pw_keeps | with_reducible apply State.bump_keeps
                | with_reducible apply State.wr_keeps | with_reducible apply Keeps.ite | with_reducible apply Keeps.foldl
                | with_reducible apply Keeps.ite_fst | with_reducible apply Keeps.foldl_fst | split | dsimp only | (intro _; rfl) | (intro _; intros)

theorem State.logicRdy_keeps {σ s : State} (b : Sys2Proof.Machine.BootCheck) (hσ : Keeps σ s) : Keeps σ (State.logicRdy s b) := by
  unfold State.logicRdy
  repeat' first | with_reducible assumption | with_reducible apply State.toPhase_keeps | with_reducible apply State.setRdy_keeps
                | with_reducible apply State.wr_keeps | with_reducible apply State.itemFails_keeps | with_reducible apply State.debugOver_keeps
                | with_reducible apply State.bootRejoin_keeps | with_reducible apply State.bootFirmware_keeps | with_reducible apply State.pw_keeps
                | with_reducible apply State.accRestart_keeps | with_reducible apply State.restartDone_keeps
                | with_reducible apply State.bootEvents_keeps | with_reducible apply State.segAwake_keeps | with_reducible apply State.holdEvent_keeps
                | with_reducible apply State.wakeReports_keeps | with_reducible apply State.raise_keeps | with_reducible apply State.doorbell_keeps
                | with_reducible apply State.limpEnter_keeps | with_reducible apply Keeps.ite | with_reducible apply Keeps.foldl
                | with_reducible apply Keeps.ite_fst | with_reducible apply Keeps.foldl_fst | split | dsimp only | (intro _; rfl) | (intro _; intros)
                | (refine Keeps.same (by rfl) (by rfl) (by rfl) (by rfl) ?_)

theorem execVkeepLoss_keeps {σ s : State} (dt : Nat) (kept : Nat) (hσ : Keeps σ (s.tick dt)) : AKeeps σ (execVkeepLoss dt kept s) := by
  unfold execVkeepLoss
  refine ⟨_, rfl, ?_⟩
  repeat' first | with_reducible assumption | with_reducible apply State.resetDieC_keeps | with_reducible apply State.done_keeps
                | with_reducible apply State.wipe_keeps | with_reducible apply Keeps.ite | with_reducible apply Keeps.foldl
                | with_reducible apply Keeps.ite_fst | with_reducible apply Keeps.foldl_fst | split | dsimp only | (intro _; rfl) | (intro _; intros)

theorem execPowerUpReset_keeps {σ s : State} (dt : Nat) (hσ : Keeps σ (s.tick dt)) : AKeeps σ (execPowerUpReset dt s) := by
  unfold execPowerUpReset
  refine ⟨_, rfl, ?_⟩
  repeat' first | with_reducible assumption | with_reducible apply State.done_keeps | with_reducible apply State.toPhase_keeps
                | with_reducible apply State.pw_keeps | with_reducible apply Keeps.ite | with_reducible apply Keeps.foldl
                | with_reducible apply Keeps.ite_fst | with_reducible apply Keeps.foldl_fst | split | dsimp only | (intro _; rfl) | (intro _; intros)
                | (refine Keeps.same (by rfl) (by rfl) (by rfl) (by rfl) ?_)

theorem execDieCBrownout_keeps {σ s : State} (dt : Nat) (hσ : Keeps σ (s.tick dt)) : AKeeps σ (execDieCBrownout dt s) := by
  unfold execDieCBrownout
  refine ⟨_, rfl, ?_⟩
  repeat' first | with_reducible assumption | with_reducible apply State.done_keeps | with_reducible apply State.parkCheck_keeps
                | with_reducible apply State.resetDieC_keeps | with_reducible apply State.pw_keeps | with_reducible apply Keeps.ite
                | with_reducible apply Keeps.foldl | with_reducible apply Keeps.ite_fst | with_reducible apply Keeps.foldl_fst | split | dsimp only
                | (intro _; rfl) | (intro _; intros)

theorem execDieCResetRelease_keeps {σ s : State} (dt : Nat) (hσ : Keeps σ (s.tick dt)) : AKeeps σ (execDieCResetRelease dt s) := by
  unfold execDieCResetRelease
  refine ⟨_, rfl, ?_⟩
  repeat' first | with_reducible assumption | with_reducible apply State.done_keeps | with_reducible apply State.noticeOff_keeps
                | with_reducible apply State.flrAll_keeps | with_reducible apply State.wr_keeps | with_reducible apply State.toPhase_keeps
                | with_reducible apply State.pw_keeps | with_reducible apply Keeps.ite | with_reducible apply Keeps.foldl
                | with_reducible apply Keeps.ite_fst | with_reducible apply Keeps.foldl_fst | split | dsimp only | (intro _; rfl) | (intro _; intros)
                | (refine Keeps.same (by rfl) (by rfl) (by rfl) (by rfl) ?_)

theorem execWarmReset_keeps {σ s : State} (dt : Nat) (hσ : Keeps σ (s.tick dt)) : AKeeps σ (execWarmReset dt s) := by
  unfold execWarmReset
  refine ⟨_, rfl, ?_⟩
  repeat' first | with_reducible assumption | with_reducible apply State.done_keeps | with_reducible apply State.warmReset_keeps
                | with_reducible apply Keeps.ite | with_reducible apply Keeps.foldl | with_reducible apply Keeps.ite_fst
                | with_reducible apply Keeps.foldl_fst | split | dsimp only | (intro _; rfl) | (intro _; intros)

theorem execRegRdy_keeps {σ s : State} (dt : Nat) (hσ : Keeps σ (s.tick dt)) : AKeeps σ (execRegRdy dt s) := by
  unfold execRegRdy
  refine ⟨_, rfl, ?_⟩
  repeat' first | with_reducible assumption | with_reducible apply State.done_keeps | with_reducible apply State.setRdy_keeps
                | with_reducible apply State.wr_keeps | with_reducible apply State.noticeOff_keeps | with_reducible apply State.pw_keeps
                | with_reducible apply State.toPhase_keeps | with_reducible apply Keeps.ite | with_reducible apply Keeps.foldl
                | with_reducible apply Keeps.ite_fst | with_reducible apply Keeps.foldl_fst | split | dsimp only | (intro _; rfl) | (intro _; intros)

theorem execRegRdyTimeout_keeps {σ s : State} (dt : Nat) (hσ : Keeps σ (s.tick dt)) : AKeeps σ (execRegRdyTimeout dt s) := by
  unfold execRegRdyTimeout
  refine ⟨_, rfl, ?_⟩
  repeat' first | with_reducible assumption | with_reducible apply State.done_keeps | with_reducible apply State.pw_keeps
                | with_reducible apply State.toPhase_keeps | with_reducible apply State.bump_keeps | with_reducible apply Keeps.ite
                | with_reducible apply Keeps.foldl | with_reducible apply Keeps.ite_fst | with_reducible apply Keeps.foldl_fst | split | dsimp only
                | (intro _; rfl) | (intro _; intros)

theorem execOscRdy_keeps {σ s : State} (dt : Nat) (hσ : Keeps σ (s.tick dt)) : AKeeps σ (execOscRdy dt s) := by
  unfold execOscRdy
  refine ⟨_, rfl, ?_⟩
  repeat' first | with_reducible assumption | with_reducible apply State.done_keeps | with_reducible apply State.toPhase_keeps
                | with_reducible apply State.setRef_keeps | with_reducible apply State.setRdy_keeps | with_reducible apply State.wr_keeps
                | with_reducible apply Keeps.ite | with_reducible apply Keeps.foldl | with_reducible apply Keeps.ite_fst
                | with_reducible apply Keeps.foldl_fst | split | dsimp only | (intro _; rfl) | (intro _; intros)

theorem execOscRdyTimeout_keeps {σ s : State} (dt : Nat) (hσ : Keeps σ (s.tick dt)) : AKeeps σ (execOscRdyTimeout dt s) := by
  unfold execOscRdyTimeout
  refine ⟨_, rfl, ?_⟩
  repeat' first | with_reducible assumption | with_reducible apply State.done_keeps | with_reducible apply State.toPhase_keeps
                | with_reducible apply State.refLostEarly_keeps | with_reducible apply State.wr_keeps | with_reducible apply Keeps.ite
                | with_reducible apply Keeps.foldl | with_reducible apply Keeps.ite_fst | with_reducible apply Keeps.foldl_fst | split | dsimp only
                | (intro _; rfl) | (intro _; intros)

theorem State.retainLost_keeps {σ s : State} (hσ : Keeps σ s) : Keeps σ (State.retainLost s) := by
  unfold State.retainLost
  repeat' first | with_reducible assumption | with_reducible apply State.wipe_keeps | with_reducible apply State.wr_keeps
                | with_reducible apply Keeps.ite | with_reducible apply Keeps.foldl | with_reducible apply Keeps.ite_fst
                | with_reducible apply Keeps.foldl_fst | split | dsimp only | (intro _; rfl) | (intro _; intros)
                | (refine Keeps.same (by rfl) (by rfl) (by rfl) (by rfl) ?_)

theorem execMemRdy_keeps {σ s : State} (dt : Nat) (ok : Bool) (hσ : Keeps σ (s.tick dt)) : AKeeps σ (execMemRdy dt ok s) := by
  unfold execMemRdy
  refine ⟨_, rfl, ?_⟩
  repeat' first | with_reducible assumption | with_reducible apply State.done_keeps | with_reducible apply State.setRdy_keeps
                | with_reducible apply State.wr_keeps | with_reducible apply State.retainLost_keeps | with_reducible apply State.toPhase_keeps
                | with_reducible apply Keeps.ite | with_reducible apply Keeps.foldl | with_reducible apply Keeps.ite_fst
                | with_reducible apply Keeps.foldl_fst | split | dsimp only | (intro _; rfl) | (intro _; intros)

theorem execLogicRdy_keeps {σ s : State} (dt : Nat) (b : Sys2Proof.Machine.BootCheck) (hσ : Keeps σ (s.tick dt)) : AKeeps σ
    (execLogicRdy dt b s) := by
  unfold execLogicRdy
  refine ⟨_, rfl, ?_⟩
  repeat' first | with_reducible assumption | with_reducible apply State.done_keeps | with_reducible apply State.pw_keeps
                | with_reducible apply State.resetDieC_keeps | with_reducible apply State.trialFails_keeps | with_reducible apply State.logicRdy_keeps
                | with_reducible apply Keeps.ite | with_reducible apply Keeps.foldl | with_reducible apply Keeps.ite_fst
                | with_reducible apply Keeps.foldl_fst | split | dsimp only | (intro _; rfl) | (intro _; intros)

theorem execPeWakeRelease_keeps {σ s : State} (dt : Nat) (hσ : Keeps σ (s.tick dt)) : AKeeps σ (execPeWakeRelease dt s) := by
  unfold execPeWakeRelease
  refine ⟨_, rfl, ?_⟩
  repeat' first | with_reducible assumption | with_reducible apply State.done_keeps | with_reducible apply State.pw_keeps
                | with_reducible apply Keeps.ite | with_reducible apply Keeps.foldl | with_reducible apply Keeps.ite_fst
                | with_reducible apply Keeps.foldl_fst | split | dsimp only | (intro _; rfl) | (intro _; intros)

theorem State.se_keeps {σ s : State} (f : Sys2Proof.Machine.SecState → Sys2Proof.Machine.SecState) (hσ : Keeps σ s) : Keeps σ (State.se s f) := by
  unfold State.se
  repeat' first | with_reducible assumption | with_reducible apply Keeps.ite | with_reducible apply Keeps.foldl | with_reducible apply Keeps.ite_fst
                | with_reducible apply Keeps.foldl_fst | split | dsimp only | (intro _; rfl) | (intro _; intros)
                | (refine Keeps.same (by rfl) (by rfl) (by rfl) (by rfl) ?_)

theorem State.dbgTo_keeps {σ s : State} (new : Nat) (slot : Nat) (hσ : Keeps σ s) : Keeps σ (State.dbgTo s new slot) := by
  unfold State.dbgTo
  repeat' first | with_reducible assumption | with_reducible apply State.wr_keeps | with_reducible apply State.raise_keeps
                | with_reducible apply State.warmReset_keeps | with_reducible apply Keeps.ite | with_reducible apply Keeps.foldl
                | with_reducible apply Keeps.ite_fst | with_reducible apply Keeps.foldl_fst | split | dsimp only | (intro _; rfl) | (intro _; intros)

theorem State.dapFail_keeps {σ s : State} (result : Nat) (hσ : Keeps σ s) : Keeps σ (State.dapFail s result) := by
  unfold State.dapFail
  repeat' first | with_reducible assumption | with_reducible apply State.raise_keeps | with_reducible apply State.se_keeps
                | with_reducible apply Keeps.ite | with_reducible apply Keeps.foldl | with_reducible apply Keeps.ite_fst
                | with_reducible apply Keeps.foldl_fst | split | dsimp only | (intro _; rfl) | (intro _; intros)

theorem State.lcChange_keeps {σ s : State} (old : Nat) (new : Nat) (count : Nat) (hσ : Keeps σ s) : Keeps σ (State.lcChange s old new count) := by
  unfold State.lcChange
  repeat' first | with_reducible assumption | with_reducible apply State.raise_keeps | with_reducible apply Keeps.ite
                | with_reducible apply Keeps.foldl | with_reducible apply Keeps.ite_fst | with_reducible apply Keeps.foldl_fst | split | dsimp only
                | (intro _; rfl) | (intro _; intros)

theorem State.lcTo_keeps {σ s : State} (new : Nat) (count : Nat) (svcEnd : Option Sys2Proof.Ns) (hσ : Keeps σ s) : Keeps σ
    (State.lcTo s new count svcEnd) := by
  unfold State.lcTo
  repeat' first | with_reducible assumption | with_reducible apply State.se_keeps | with_reducible apply State.lcChange_keeps
                | with_reducible apply Keeps.ite | with_reducible apply Keeps.foldl | with_reducible apply Keeps.ite_fst
                | with_reducible apply Keeps.foldl_fst | split | dsimp only | (intro _; rfl) | (intro _; intros)
                | (refine Keeps.same (by rfl) (by rfl) (by rfl) (by rfl) ?_)

theorem State.lcLeft_keeps {σ s : State} (old : Nat) (hσ : Keeps σ s) : Keeps σ (State.lcLeft s old) := by
  unfold State.lcLeft
  repeat' first | with_reducible assumption | with_reducible apply State.dbgTo_keeps | with_reducible apply Keeps.ite
                | with_reducible apply Keeps.foldl | with_reducible apply Keeps.ite_fst | with_reducible apply Keeps.foldl_fst | split | dsimp only
                | (intro _; rfl) | (intro _; intros)

theorem State.abortNets_keeps {σ s : State} (hσ : Keeps σ s) : Keeps σ (State.abortNets s) := by
  unfold State.abortNets
  repeat' first | with_reducible assumption | with_reducible apply State.complete_keeps | with_reducible apply Keeps.ite
                | with_reducible apply Keeps.foldl | with_reducible apply Keeps.ite_fst | with_reducible apply Keeps.foldl_fst | split | dsimp only
                | (intro _; rfl) | (intro _; intros)

theorem State.firmwareStops_keeps {σ s : State} (hσ : Keeps σ s) : Keeps σ (State.firmwareStops s) := by
  unfold State.firmwareStops
  repeat' first | with_reducible assumption | with_reducible apply State.twDown_keeps | with_reducible apply State.abortNets_keeps
                | with_reducible apply State.netStop_keeps | with_reducible apply State.coresDown_keeps | with_reducible apply State.wr_keeps
                | with_reducible apply Keeps.ite | with_reducible apply Keeps.foldl | with_reducible apply Keeps.ite_fst
                | with_reducible apply Keeps.foldl_fst | split | dsimp only | (intro _; rfl) | (intro _; intros)

theorem State.allOff_keeps {σ s : State} (hσ : Keeps σ s) : Keeps σ (State.allOff s) := by
  unfold State.allOff
  repeat' first | with_reducible assumption | with_reducible apply State.ioOff_keeps | with_reducible apply State.objOff_keeps
                | with_reducible apply Keeps.ite | with_reducible apply Keeps.foldl | with_reducible apply Keeps.ite_fst
                | with_reducible apply Keeps.foldl_fst | split | dsimp only | (intro _; rfl) | (intro _; intros)

theorem State.eraseKeys_keeps {σ s : State} (hσ : Keeps σ s) : Keeps σ (State.eraseKeys s) := by
  unfold State.eraseKeys
  repeat' first | with_reducible assumption | with_reducible apply State.wr_keeps | with_reducible apply Keeps.ite | with_reducible apply Keeps.foldl
                | with_reducible apply Keeps.ite_fst | with_reducible apply Keeps.foldl_fst | split | dsimp only | (intro _; rfl) | (intro _; intros)
                | (refine Keeps.same (by rfl) (by rfl) (by rfl) (by rfl) ?_)

theorem State.secRecord_keeps {σ s : State} (dt : Ns) (c : Cmd) (r : List Byte) (sig : Bool) (row : Nat) (own : State → Option (Code × Nat))
    (go : State → State) (hσ : Keeps σ (s.tick dt)) (hg : ∀ s, Keeps σ s → Keeps σ (go s)) : Keeps σ (s.secRecord dt c r sig row own go) := by
  unfold State.secRecord
  refine Keeps.ite hσ (State.serveOp_keeps _ _ _ _ _ hσ fun s h => State.withRecord_keeps _ _ h fun s h => State.orElse_keeps _ _ _ h fun s h => ?_)
  exact State.lcLeft_keeps _ (State.complete_keeps _ _ _ (State.begin_keeps _ (hg _ (State.accept_keeps _ h))))

theorem execSecProvision_keeps {σ s : State} (dt : Nat) (c : Sys2Proof.Machine.Cmd) (rcd : List Sys2Proof.Byte) (sig : Bool) (hσ : Keeps σ
    (s.tick dt)) : AKeeps σ (execSecProvision dt c rcd sig s) := by
  unfold execSecProvision
  refine ⟨_, rfl, ?_⟩
  repeat' first | with_reducible assumption | with_reducible apply State.done_keeps | with_reducible apply State.serveOp_keeps
                | with_reducible apply State.withRecord_keeps | with_reducible apply State.orElse_keeps | with_reducible apply State.complete_keeps
                | with_reducible apply State.begin_keeps | with_reducible apply State.lcTo_keeps | with_reducible apply State.accept_keeps
                | with_reducible apply Keeps.ite | with_reducible apply Keeps.foldl | with_reducible apply Keeps.ite_fst
                | with_reducible apply Keeps.foldl_fst | split | dsimp only | (intro _; rfl) | (intro _; intros)
                | (refine Keeps.same (by rfl) (by rfl) (by rfl) (by rfl) ?_)

theorem execKeySlotProgram_keeps {σ s : State} (dt : Nat) (c : Sys2Proof.Machine.Cmd) (rcd : List Sys2Proof.Byte) (sig : Bool) (hσ : Keeps σ
    (s.tick dt)) : AKeeps σ (execKeySlotProgram dt c rcd sig s) := by
  unfold execKeySlotProgram
  refine ⟨_, rfl, ?_⟩
  repeat' first | with_reducible assumption | with_reducible apply State.done_keeps | with_reducible apply State.secRecord_keeps
                | with_reducible apply State.raise_keeps | with_reducible apply Keeps.ite | with_reducible apply Keeps.foldl
                | with_reducible apply Keeps.ite_fst | with_reducible apply Keeps.foldl_fst | split | dsimp only | (intro _; rfl) | (intro _; intros)
                | (refine Keeps.same (by rfl) (by rfl) (by rfl) (by rfl) ?_)

theorem execKeySlotRevoke_keeps {σ s : State} (dt : Nat) (c : Sys2Proof.Machine.Cmd) (rcd : List Sys2Proof.Byte) (sig : Bool) (hσ : Keeps σ
    (s.tick dt)) : AKeeps σ (execKeySlotRevoke dt c rcd sig s) := by
  unfold execKeySlotRevoke
  refine ⟨_, rfl, ?_⟩
  repeat' first | with_reducible assumption | with_reducible apply State.done_keeps | with_reducible apply State.secRecord_keeps
                | with_reducible apply State.raise_keeps | with_reducible apply Keeps.ite | with_reducible apply Keeps.foldl
                | with_reducible apply Keeps.ite_fst | with_reducible apply Keeps.foldl_fst | split | dsimp only | (intro _; rfl) | (intro _; intros)
                | (refine Keeps.same (by rfl) (by rfl) (by rfl) (by rfl) ?_)

theorem execLcToField_keeps {σ s : State} (dt : Nat) (c : Sys2Proof.Machine.Cmd) (rcd : List Sys2Proof.Byte) (sig : Bool) (hσ : Keeps σ (s.tick dt))
    : AKeeps σ (execLcToField dt c rcd sig s) := by
  unfold execLcToField
  refine ⟨_, rfl, ?_⟩
  repeat' first | with_reducible assumption | with_reducible apply State.done_keeps | with_reducible apply State.secRecord_keeps
                | with_reducible apply State.lcTo_keeps | with_reducible apply Keeps.ite | with_reducible apply Keeps.foldl
                | with_reducible apply Keeps.ite_fst | with_reducible apply Keeps.foldl_fst | split | dsimp only | (intro _; rfl) | (intro _; intros)

theorem execLcToFieldService_keeps {σ s : State} (dt : Nat) (c : Sys2Proof.Machine.Cmd) (rcd : List Sys2Proof.Byte) (sig : Bool) (hσ : Keeps σ
    (s.tick dt)) : AKeeps σ (execLcToFieldService dt c rcd sig s) := by
  unfold execLcToFieldService
  refine ⟨_, rfl, ?_⟩
  repeat' first | with_reducible assumption | with_reducible apply State.done_keeps | with_reducible apply State.secRecord_keeps
                | with_reducible apply State.lcTo_keeps | with_reducible apply Keeps.ite | with_reducible apply Keeps.foldl
                | with_reducible apply Keeps.ite_fst | with_reducible apply Keeps.foldl_fst | split | dsimp only | (intro _; rfl) | (intro _; intros)

theorem execLcBackToField_keeps {σ s : State} (dt : Nat) (c : Sys2Proof.Machine.Cmd) (rcd : List Sys2Proof.Byte) (sig : Bool) (hσ : Keeps σ
    (s.tick dt)) : AKeeps σ (execLcBackToField dt c rcd sig s) := by
  unfold execLcBackToField
  refine ⟨_, rfl, ?_⟩
  repeat' first | with_reducible assumption | with_reducible apply State.done_keeps | with_reducible apply State.secRecord_keeps
                | with_reducible apply State.lcTo_keeps | with_reducible apply Keeps.ite | with_reducible apply Keeps.foldl
                | with_reducible apply Keeps.ite_fst | with_reducible apply Keeps.foldl_fst | split | dsimp only | (intro _; rfl) | (intro _; intros)

theorem execLcToRetired_keeps {σ s : State} (dt : Nat) (c : Sys2Proof.Machine.Cmd) (rcd : List Sys2Proof.Byte) (sig : Bool) (hσ : Keeps σ (s.tick dt))
    : AKeeps σ (execLcToRetired dt c rcd sig s) := by
  unfold execLcToRetired
  refine ⟨_, rfl, ?_⟩
  repeat' first | with_reducible assumption | with_reducible apply State.done_keeps | with_reducible apply State.secRecord_keeps
                | with_reducible apply State.authEnd_keeps | with_reducible apply State.eraseKeys_keeps
                | with_reducible apply State.firmwareStops_keeps | with_reducible apply State.allOff_keeps | with_reducible apply State.lcTo_keeps
                | with_reducible apply Keeps.ite | with_reducible apply Keeps.foldl | with_reducible apply Keeps.ite_fst
                | with_reducible apply Keeps.foldl_fst | split | dsimp only | (intro _; rfl) | (intro _; intros)

theorem execSecAttest_keeps {σ s : State} (dt : Nat) (c : Sys2Proof.Machine.Cmd) (nonce : List Sys2Proof.Byte) (partner : Nat) (hσ : Keeps σ
    (s.tick dt)) : AKeeps σ (execSecAttest dt c nonce partner s) := by
  unfold execSecAttest
  refine ⟨_, rfl, ?_⟩
  repeat' first | with_reducible assumption | with_reducible apply State.done_keeps | with_reducible apply State.serveOp_keeps
                | with_reducible apply State.answerWith_keeps | with_reducible apply Keeps.ite | with_reducible apply Keeps.foldl
                | with_reducible apply Keeps.ite_fst | with_reducible apply Keeps.foldl_fst | split | dsimp only | (intro _; rfl) | (intro _; intros)

theorem execFieldServiceExpiry_keeps {σ s : State} (dt : Nat) (hσ : Keeps σ (s.tick dt)) : AKeeps σ (execFieldServiceExpiry dt s) := by
  unfold execFieldServiceExpiry
  refine ⟨_, rfl, ?_⟩
  repeat' first | with_reducible assumption | with_reducible apply State.done_keeps | with_reducible apply State.lcLeft_keeps
                | with_reducible apply State.lcTo_keeps | with_reducible apply Keeps.ite | with_reducible apply Keeps.foldl
                | with_reducible apply Keeps.ite_fst | with_reducible apply Keeps.foldl_fst | split | dsimp only | (intro _; rfl) | (intro _; intros)

theorem execDapChallenge_keeps {σ s : State} (dt : Nat) (hσ : Keeps σ (s.tick dt)) : AKeeps σ (execDapChallenge dt s) := by
  unfold execDapChallenge
  refine ⟨_, rfl, ?_⟩
  repeat' first | with_reducible assumption | with_reducible apply State.done_keeps | with_reducible apply State.se_keeps
                | with_reducible apply State.draw_keeps | with_reducible apply Keeps.ite | with_reducible apply Keeps.foldl
                | with_reducible apply Keeps.ite_fst | with_reducible apply Keeps.foldl_fst | split | dsimp only | (intro _; rfl) | (intro _; intros)

theorem execDapSubmit_keeps {σ s : State} (dt : Nat) (req : Nat) (rcd : List Sys2Proof.Byte) (sig : Bool) (hσ : Keeps σ (s.tick dt)) : AKeeps σ
    (execDapSubmit dt req rcd sig s) := by
  unfold execDapSubmit
  refine ⟨_, rfl, ?_⟩
  repeat' first | with_reducible assumption | with_reducible apply State.done_keeps | with_reducible apply State.se_keeps
                | with_reducible apply State.dbgTo_keeps | with_reducible apply State.dapFail_keeps | with_reducible apply Keeps.ite
                | with_reducible apply Keeps.foldl | with_reducible apply Keeps.ite_fst | with_reducible apply Keeps.foldl_fst | split | dsimp only
                | (intro _; rfl) | (intro _; intros)

theorem execDapLeave_keeps {σ s : State} (dt : Nat) (hσ : Keeps σ (s.tick dt)) : AKeeps σ (execDapLeave dt s) := by
  unfold execDapLeave
  refine ⟨_, rfl, ?_⟩
  repeat' first | with_reducible assumption | with_reducible apply State.done_keeps | with_reducible apply State.dbgTo_keeps
                | with_reducible apply Keeps.ite | with_reducible apply Keeps.foldl | with_reducible apply Keeps.ite_fst
                | with_reducible apply Keeps.foldl_fst | split | dsimp only | (intro _; rfl) | (intro _; intros)

theorem execDapNonceExpiry_keeps {σ s : State} (dt : Nat) (hσ : Keeps σ (s.tick dt)) : AKeeps σ (execDapNonceExpiry dt s) := by
  unfold execDapNonceExpiry
  refine ⟨_, rfl, ?_⟩
  repeat' first | with_reducible assumption | with_reducible apply State.done_keeps | with_reducible apply State.se_keeps
                | with_reducible apply Keeps.ite | with_reducible apply Keeps.foldl | with_reducible apply Keeps.ite_fst
                | with_reducible apply Keeps.foldl_fst | split | dsimp only | (intro _; rfl) | (intro _; intros)

theorem execDapLockoutEnd_keeps {σ s : State} (dt : Nat) (hσ : Keeps σ (s.tick dt)) : AKeeps σ (execDapLockoutEnd dt s) := by
  unfold execDapLockoutEnd
  refine ⟨_, rfl, ?_⟩
  repeat' first | with_reducible assumption | with_reducible apply State.done_keeps | with_reducible apply State.se_keeps
                | with_reducible apply Keeps.ite | with_reducible apply Keeps.foldl | with_reducible apply Keeps.ite_fst
                | with_reducible apply Keeps.foldl_fst | split | dsimp only | (intro _; rfl) | (intro _; intros)

theorem State.stopResult_keeps {σ s : State} (code : Sys2Proof.Machine.Code) (abort : Nat) (sub : Nat) (hσ : Keeps σ s) : Keeps σ
    (State.stopResult s code abort sub) := by
  unfold State.stopResult
  repeat' first | with_reducible assumption | with_reducible apply State.wr_keeps | with_reducible apply State.deliver_keeps
                | with_reducible apply State.pw_keeps | with_reducible apply Keeps.ite | with_reducible apply Keeps.foldl
                | with_reducible apply Keeps.ite_fst | with_reducible apply Keeps.foldl_fst | split | dsimp only | (intro _; rfl) | (intro _; intros)

theorem State.stopAbandon_keeps {σ s : State} (k : Nat) (sub : Nat) (hσ : Keeps σ s) : Keeps σ (State.stopAbandon s k sub) := by
  unfold State.stopAbandon
  repeat' first | with_reducible assumption | with_reducible apply State.pw_keeps | with_reducible apply State.toPhase_keeps
                | with_reducible apply State.stopResult_keeps | with_reducible apply State.bump_keeps | with_reducible apply State.wr_keeps
                | with_reducible apply Keeps.ite | with_reducible apply Keeps.foldl | with_reducible apply Keeps.ite_fst
                | with_reducible apply Keeps.foldl_fst | split | dsimp only | (intro _; rfl) | (intro _; intros)

theorem State.stopRequest_keeps {σ s : State} (force : Bool) (hσ : Keeps σ s) : Keeps σ (State.stopRequest s force) := by
  unfold State.stopRequest
  repeat' first | with_reducible assumption | with_reducible apply State.stopResult_keeps | with_reducible apply State.stopAbandon_keeps
                | with_reducible apply State.pw_keeps | with_reducible apply State.toPhase_keeps | with_reducible apply State.modSw_keeps
                | with_reducible apply State.wr_keeps | with_reducible apply Keeps.ite | with_reducible apply Keeps.foldl
                | with_reducible apply Keeps.ite_fst | with_reducible apply Keeps.foldl_fst | split | dsimp only | (intro _; rfl) | (intro _; intros)

theorem State.refuseDeferred_keeps {σ s : State} (hσ : Keeps σ s) : Keeps σ (State.refuseDeferred s) := by
  unfold State.refuseDeferred
  repeat' first | with_reducible assumption | with_reducible apply State.complete_keeps | with_reducible apply State.forget_keeps
                | with_reducible apply Keeps.ite | with_reducible apply Keeps.foldl | with_reducible apply Keeps.ite_fst
                | with_reducible apply Keeps.foldl_fst | split | dsimp only | (intro _; rfl) | (intro _; intros)

theorem State.forceSleep_keeps {σ s : State} (hσ : Keeps σ s) : Keeps σ (State.forceSleep s) := by
  unfold State.forceSleep
  repeat' first | with_reducible assumption | with_reducible apply State.wr_keeps | with_reducible apply State.linSleep_keeps
                | with_reducible apply State.nmTo_keeps | with_reducible apply State.modSeg_keeps | with_reducible apply Keeps.ite
                | with_reducible apply Keeps.foldl | with_reducible apply Keeps.ite_fst | with_reducible apply Keeps.foldl_fst | split | dsimp only
                | (intro _; rfl) | (intro _; intros)

theorem State.saveBegin_keeps {σ s : State} (hσ : Keeps σ s) : Keeps σ (State.saveBegin s) := by
  unfold State.saveBegin
  repeat' first | with_reducible assumption | with_reducible apply State.barrierDown_keeps | with_reducible apply State.forceSleep_keeps
                | with_reducible apply Keeps.ite | with_reducible apply Keeps.foldl | with_reducible apply Keeps.ite_fst
                | with_reducible apply Keeps.foldl_fst | split | dsimp only | (intro _; rfl) | (intro _; intros)

theorem State.saveEnd_keeps {σ s : State} (hσ : Keeps σ s) : Keeps σ (State.saveEnd s) := by
  unfold State.saveEnd
  repeat' first | with_reducible assumption | with_reducible apply State.pw_keeps | with_reducible apply State.stopResult_keeps
                | with_reducible apply State.lcTo_keeps | with_reducible apply State.dbgTo_keeps | with_reducible apply Keeps.ite
                | with_reducible apply Keeps.foldl | with_reducible apply Keeps.ite_fst | with_reducible apply Keeps.foldl_fst | split | dsimp only
                | (intro _; rfl) | (intro _; intros)

theorem State.diesStop_keeps {σ s : State} (hσ : Keeps σ s) : Keeps σ (State.diesStop s) := by
  unfold State.diesStop
  repeat' first | with_reducible assumption | with_reducible apply State.allOff_keeps | with_reducible apply Keeps.ite
                | with_reducible apply Keeps.foldl | with_reducible apply Keeps.ite_fst | with_reducible apply Keeps.foldl_fst | split | dsimp only
                | (intro _; rfl) | (intro _; intros)

theorem State.intoStop_keeps {σ s : State} (hσ : Keeps σ s) : Keeps σ (State.intoStop s) := by
  unfold State.intoStop
  repeat' first | with_reducible assumption | with_reducible apply State.secDown_keeps | with_reducible apply State.accDown_keeps
                | with_reducible apply State.coresDown_keeps | with_reducible apply State.wr_keeps | with_reducible apply Keeps.ite
                | with_reducible apply Keeps.foldl | with_reducible apply Keeps.ite_fst | with_reducible apply Keeps.foldl_fst | split | dsimp only
                | (intro _; rfl) | (intro _; intros) | (refine Keeps.same (by rfl) (by rfl) (by rfl) (by rfl) ?_)

theorem State.stopReturnAt_keeps {σ s : State} (k : Nat) (hσ : Keeps σ s) : Keeps σ (State.stopReturnAt s k) := by
  unfold State.stopReturnAt
  repeat' first | with_reducible assumption | with_reducible apply State.returnOrder_keeps | with_reducible apply State.bump_keeps
                | with_reducible apply State.intoStop_keeps | with_reducible apply Keeps.ite | with_reducible apply Keeps.foldl
                | with_reducible apply Keeps.ite_fst | with_reducible apply Keeps.foldl_fst | split | dsimp only | (intro _; rfl) | (intro _; intros)

theorem State.stopBegin_keeps {σ s : State} (hσ : Keeps σ s) : Keeps σ (State.stopBegin s) := by
  unfold State.stopBegin
  repeat' first | with_reducible assumption | with_reducible apply State.pw_keeps | with_reducible apply State.bump_keeps
                | with_reducible apply State.toPhase_keeps | with_reducible apply State.intoStop_keeps | with_reducible apply State.stopEnd_keeps
                | with_reducible apply Keeps.ite | with_reducible apply Keeps.foldl | with_reducible apply Keeps.ite_fst
                | with_reducible apply Keeps.foldl_fst | split | dsimp only | (intro _; rfl) | (intro _; intros)

theorem State.wakeBy_keeps {σ s : State} (k : Nat) (hσ : Keeps σ s) : Keeps σ (State.wakeBy s k) := by
  unfold State.wakeBy
  repeat' first | with_reducible assumption | with_reducible apply State.wakes_keeps | with_reducible apply State.wakeSrc_keeps
                | with_reducible apply Keeps.ite | with_reducible apply Keeps.foldl | with_reducible apply Keeps.ite_fst
                | with_reducible apply Keeps.foldl_fst | split | dsimp only | (intro _; rfl) | (intro _; intros)

theorem State.segWake_keeps {σ s : State} (g : Nat) (kind : Nat) (hσ : Keeps σ s) : Keeps σ (State.segWake s g kind) := by
  unfold State.segWake
  repeat' first | with_reducible assumption | with_reducible apply State.wakeBy_keeps | with_reducible apply State.segAwake_keeps
                | with_reducible apply State.wakeEvent_keeps | with_reducible apply State.wakeLatch_keeps | with_reducible apply Keeps.ite
                | with_reducible apply Keeps.foldl | with_reducible apply Keeps.ite_fst | with_reducible apply Keeps.foldl_fst | split | dsimp only
                | (intro _; rfl) | (intro _; intros)

theorem execStopDrainEnd_keeps {σ s : State} (dt : Nat) (hσ : Keeps σ (s.tick dt)) : AKeeps σ (execStopDrainEnd dt s) := by
  unfold execStopDrainEnd
  refine ⟨_, rfl, ?_⟩
  repeat' first | with_reducible assumption | with_reducible apply State.done_keeps | with_reducible apply State.stopAbandon_keeps
                | with_reducible apply State.toPhase_keeps | with_reducible apply State.loopsOpen_keeps
                | with_reducible apply State.refuseDeferred_keeps | with_reducible apply State.allOff_keeps | with_reducible apply Keeps.ite
                | with_reducible apply Keeps.foldl | with_reducible apply Keeps.ite_fst | with_reducible apply Keeps.foldl_fst | split | dsimp only
                | (intro _; rfl) | (intro _; intros)

theorem execStopDrainTimeout_keeps {σ s : State} (dt : Nat) (hσ : Keeps σ (s.tick dt)) : AKeeps σ (execStopDrainTimeout dt s) := by
  unfold execStopDrainTimeout
  refine ⟨_, rfl, ?_⟩
  repeat' first | with_reducible assumption | with_reducible apply State.done_keeps | with_reducible apply State.stopAbandon_keeps
                | with_reducible apply Keeps.ite | with_reducible apply Keeps.foldl | with_reducible apply Keeps.ite_fst
                | with_reducible apply Keeps.foldl_fst | split | dsimp only | (intro _; rfl) | (intro _; intros)

theorem execStopOutputsEnd_keeps {σ s : State} (dt : Nat) (hσ : Keeps σ (s.tick dt)) : AKeeps σ (execStopOutputsEnd dt s) := by
  unfold execStopOutputsEnd
  refine ⟨_, rfl, ?_⟩
  repeat' first | with_reducible assumption | with_reducible apply State.done_keeps | with_reducible apply State.stopAbandon_keeps
                | with_reducible apply State.authEnd_keeps | with_reducible apply State.toPhase_keeps | with_reducible apply State.saveBegin_keeps
                | with_reducible apply Keeps.ite | with_reducible apply Keeps.foldl | with_reducible apply Keeps.ite_fst
                | with_reducible apply Keeps.foldl_fst | split | dsimp only | (intro _; rfl) | (intro _; intros)

theorem execStopSaveEnd_keeps {σ s : State} (dt : Nat) (hσ : Keeps σ (s.tick dt)) : AKeeps σ (execStopSaveEnd dt s) := by
  unfold execStopSaveEnd
  refine ⟨_, rfl, ?_⟩
  repeat' first | with_reducible assumption | with_reducible apply State.done_keeps | with_reducible apply State.saveEnd_keeps
                | with_reducible apply State.stopReturnAt_keeps | with_reducible apply State.toPhase_keeps | with_reducible apply Keeps.ite
                | with_reducible apply Keeps.foldl | with_reducible apply Keeps.ite_fst | with_reducible apply Keeps.foldl_fst | split | dsimp only
                | (intro _; rfl) | (intro _; intros)

theorem execStopCommitEnd_keeps {σ s : State} (dt : Nat) (hσ : Keeps σ (s.tick dt)) : AKeeps σ (execStopCommitEnd dt s) := by
  unfold execStopCommitEnd
  refine ⟨_, rfl, ?_⟩
  repeat' first | with_reducible assumption | with_reducible apply State.done_keeps | with_reducible apply State.diesStop_keeps
                | with_reducible apply State.stopReturnAt_keeps | with_reducible apply State.toPhase_keeps | with_reducible apply Keeps.ite
                | with_reducible apply Keeps.foldl | with_reducible apply Keeps.ite_fst | with_reducible apply Keeps.foldl_fst | split | dsimp only
                | (intro _; rfl) | (intro _; intros) | (refine Keeps.same (by rfl) (by rfl) (by rfl) (by rfl) ?_)

theorem execStopClocksEnd_keeps {σ s : State} (dt : Nat) (hσ : Keeps σ (s.tick dt)) : AKeeps σ (execStopClocksEnd dt s) := by
  unfold execStopClocksEnd
  refine ⟨_, rfl, ?_⟩
  repeat' first | with_reducible assumption | with_reducible apply State.done_keeps | with_reducible apply State.stopReturnAt_keeps
                | with_reducible apply State.toPhase_keeps | with_reducible apply Keeps.ite | with_reducible apply Keeps.foldl
                | with_reducible apply Keeps.ite_fst | with_reducible apply Keeps.foldl_fst | split | dsimp only | (intro _; rfl) | (intro _; intros)

theorem execStopRailsEnd_keeps {σ s : State} (dt : Nat) (hσ : Keeps σ (s.tick dt)) : AKeeps σ (execStopRailsEnd dt s) := by
  unfold execStopRailsEnd
  refine ⟨_, rfl, ?_⟩
  repeat' first | with_reducible assumption | with_reducible apply State.done_keeps | with_reducible apply State.stopBegin_keeps
                | with_reducible apply Keeps.ite | with_reducible apply Keeps.foldl | with_reducible apply Keeps.ite_fst
                | with_reducible apply Keeps.foldl_fst | split | dsimp only | (intro _; rfl) | (intro _; intros)

theorem execStopTimerWake_keeps {σ s : State} (dt : Nat) (hσ : Keeps σ (s.tick dt)) : AKeeps σ (execStopTimerWake dt s) := by
  unfold execStopTimerWake
  refine ⟨_, rfl, ?_⟩
  repeat' first | with_reducible assumption | with_reducible apply State.done_keeps | with_reducible apply State.wakeBy_keeps
                | with_reducible apply Keeps.ite | with_reducible apply Keeps.foldl | with_reducible apply Keeps.ite_fst
                | with_reducible apply Keeps.foldl_fst | split | dsimp only | (intro _; rfl) | (intro _; intros)

theorem execTokenIrqWake_keeps {σ s : State} (dt : Nat) (hσ : Keeps σ (s.tick dt)) : AKeeps σ (execTokenIrqWake dt s) := by
  unfold execTokenIrqWake
  refine ⟨_, rfl, ?_⟩
  repeat' first | with_reducible assumption | with_reducible apply State.done_keeps | with_reducible apply State.wakeBy_keeps
                | with_reducible apply Keeps.ite | with_reducible apply Keeps.foldl | with_reducible apply Keeps.ite_fst
                | with_reducible apply Keeps.foldl_fst | split | dsimp only | (intro _; rfl) | (intro _; intros)

theorem execPePerstRelease_keeps {σ s : State} (dt : Nat) (hσ : Keeps σ (s.tick dt)) : AKeeps σ (execPePerstRelease dt s) := by
  unfold execPePerstRelease
  refine ⟨_, rfl, ?_⟩
  repeat' first | with_reducible assumption | with_reducible apply State.done_keeps | with_reducible apply State.wakeBy_keeps
                | with_reducible apply Keeps.ite | with_reducible apply Keeps.foldl | with_reducible apply Keeps.ite_fst
                | with_reducible apply Keeps.foldl_fst | split | dsimp only | (intro _; rfl) | (intro _; intros)
                | (refine Keeps.same (by rfl) (by rfl) (by rfl) (by rfl) ?_)

theorem execStaticWake_keeps {σ s : State} (dt : Nat) (n : Nat) (v : Sys2Proof.Machine.Lasting) (hσ : Keeps σ (s.tick dt)) : AKeeps σ
    (execStaticWake dt n v s) := by
  unfold execStaticWake
  refine ⟨_, rfl, ?_⟩
  repeat' first | with_reducible assumption | with_reducible apply State.done_keeps | with_reducible apply State.swStatic_keeps
                | with_reducible apply State.wakeBy_keeps | with_reducible apply Keeps.ite | with_reducible apply Keeps.foldl
                | with_reducible apply Keeps.ite_fst | with_reducible apply Keeps.foldl_fst | split | dsimp only | (intro _; rfl) | (intro _; intros)

theorem execPollWake_keeps {σ s : State} (dt : Nat) (n : Nat) (vin : Nat) (hσ : Keeps σ (s.tick dt)) : AKeeps σ (execPollWake dt n vin s) := by
  unfold execPollWake
  refine ⟨_, rfl, ?_⟩
  repeat' first | with_reducible assumption | with_reducible apply State.done_keeps | with_reducible apply State.swPoll_keeps
                | with_reducible apply State.wakeBy_keeps | with_reducible apply Keeps.ite | with_reducible apply Keeps.foldl
                | with_reducible apply Keeps.ite_fst | with_reducible apply Keeps.foldl_fst | split | dsimp only | (intro _; rfl) | (intro _; intros)

theorem execSegmentWake_keeps {σ s : State} (dt : Nat) (g : Nat) (b : Sys2Proof.Machine.BusSign) (hσ : Keeps σ (s.tick dt)) : AKeeps σ
    (execSegmentWake dt g b s) := by
  unfold execSegmentWake
  refine ⟨_, rfl, ?_⟩
  repeat' first | with_reducible assumption | with_reducible apply State.done_keeps | with_reducible apply State.modSeg_keeps
                | with_reducible apply State.segWake_keeps | with_reducible apply Keeps.ite | with_reducible apply Keeps.foldl
                | with_reducible apply Keeps.ite_fst | with_reducible apply Keeps.foldl_fst | split | dsimp only | (intro _; rfl) | (intro _; intros)

theorem execSwSample_keeps {σ s : State} (dt : Nat) (n : Nat) (vin : Nat) (hσ : Keeps σ (s.tick dt)) : AKeeps σ (execSwSample dt n vin s) := by
  unfold execSwSample
  refine ⟨_, rfl, ?_⟩
  repeat' first | with_reducible assumption | with_reducible apply State.done_keeps | with_reducible apply State.freshInputs_keeps
                | with_reducible apply State.parkCheck_keeps | with_reducible apply State.swTake_keeps | with_reducible apply State.searchStart_keeps
                | with_reducible apply Keeps.ite | with_reducible apply Keeps.foldl | with_reducible apply Keeps.ite_fst
                | with_reducible apply Keeps.foldl_fst | split | dsimp only | (intro _; rfl) | (intro _; intros)

theorem execLimpNAssert_keeps {σ s : State} (dt : Nat) (hσ : Keeps σ (s.tick dt)) : AKeeps σ (execLimpNAssert dt s) := by
  unfold execLimpNAssert
  refine ⟨_, rfl, ?_⟩
  repeat' first | with_reducible assumption | with_reducible apply State.wr_keeps | with_reducible apply State.limpEnter_keeps
                | with_reducible apply State.done_keeps | with_reducible apply State.wakeBy_keeps | with_reducible apply Keeps.ite
                | with_reducible apply Keeps.foldl | with_reducible apply Keeps.ite_fst | with_reducible apply Keeps.foldl_fst | split | dsimp only
                | (intro _; rfl) | (intro _; intros)

theorem execLimpNRelease_keeps {σ s : State} (dt : Nat) (hσ : Keeps σ (s.tick dt)) : AKeeps σ (execLimpNRelease dt s) := by
  unfold execLimpNRelease
  refine ⟨_, rfl, ?_⟩
  repeat' first | with_reducible assumption | with_reducible apply State.done_keeps | with_reducible apply State.limpNOut_keeps
                | with_reducible apply State.wr_keeps | with_reducible apply Keeps.ite | with_reducible apply Keeps.foldl
                | with_reducible apply Keeps.ite_fst | with_reducible apply Keeps.foldl_fst | split | dsimp only | (intro _; rfl) | (intro _; intros)

theorem execLhChange_keeps {σ s : State} (dt : Nat) (mask : Nat) (hσ : Keeps σ (s.tick dt)) : AKeeps σ (execLhChange dt mask s) := by
  unfold execLhChange
  refine ⟨_, rfl, ?_⟩
  repeat' first | with_reducible assumption | with_reducible apply State.wr_keeps | with_reducible apply State.done_keeps
                | with_reducible apply State.limpApply_keeps | with_reducible apply Keeps.ite | with_reducible apply Keeps.foldl
                | with_reducible apply Keeps.ite_fst | with_reducible apply Keeps.foldl_fst | split | dsimp only | (intro _; rfl) | (intro _; intros)

theorem execHeartbeat_keeps {σ s : State} (dt : Nat) (ready : Bool) (hσ : Keeps σ (s.tick dt)) : AKeeps σ (execHeartbeat dt ready s) := by
  unfold execHeartbeat
  refine ⟨_, rfl, ?_⟩
  repeat' first | with_reducible assumption | with_reducible apply State.done_keeps | with_reducible apply State.heartbeat_keeps
                | with_reducible apply Keeps.ite | with_reducible apply Keeps.foldl | with_reducible apply Keeps.ite_fst
                | with_reducible apply Keeps.foldl_fst | split | dsimp only | (intro _; rfl) | (intro _; intros)

theorem execHeartbeatLoss_keeps {σ s : State} (dt : Nat) (hσ : Keeps σ (s.tick dt)) : AKeeps σ (execHeartbeatLoss dt s) := by
  unfold execHeartbeatLoss
  refine ⟨_, rfl, ?_⟩
  repeat' first | with_reducible assumption | with_reducible apply State.done_keeps | with_reducible apply State.limpEnter_keeps
                | with_reducible apply State.wr_keeps | with_reducible apply State.pw_keeps | with_reducible apply Keeps.ite
                | with_reducible apply Keeps.foldl | with_reducible apply Keeps.ite_fst | with_reducible apply Keeps.foldl_fst | split | dsimp only
                | (intro _; rfl) | (intro _; intros)

theorem execHoldWindowExpiry_keeps {σ s : State} (dt : Nat) (o : Nat) (hσ : Keeps σ (s.tick dt)) : AKeeps σ (execHoldWindowExpiry dt o s) := by
  unfold execHoldWindowExpiry
  refine ⟨_, rfl, ?_⟩
  repeat' first | with_reducible assumption | with_reducible apply State.done_keeps | with_reducible apply State.holdExpire_keeps
                | with_reducible apply Keeps.ite | with_reducible apply Keeps.foldl | with_reducible apply Keeps.ite_fst
                | with_reducible apply Keeps.foldl_fst | split | dsimp only | (intro _; rfl) | (intro _; intros)

theorem execPairedHeartbeatGap_keeps {σ s : State} (dt : Nat) (o : Nat) (hσ : Keeps σ (s.tick dt)) : AKeeps σ (execPairedHeartbeatGap dt o s) := by
  unfold execPairedHeartbeatGap
  refine ⟨_, rfl, ?_⟩
  repeat' first | with_reducible assumption | with_reducible apply State.done_keeps | with_reducible apply State.hbStopMode_keeps
                | with_reducible apply State.takeState_keeps | with_reducible apply Keeps.ite | with_reducible apply Keeps.foldl
                | with_reducible apply Keeps.ite_fst | with_reducible apply Keeps.foldl_fst | split | dsimp only | (intro _; rfl) | (intro _; intros)

theorem State.purge_keeps {σ s : State} (k : Nat) (hσ : Keeps σ s) : Keeps σ (State.purge s k) := by
  unfold State.purge
  repeat' first | with_reducible assumption | with_reducible apply Keeps.ite | with_reducible apply Keeps.foldl | with_reducible apply Keeps.ite_fst
                | with_reducible apply Keeps.foldl_fst | split | dsimp only | (intro _; rfl) | (intro _; intros)
                | (refine Keeps.same (by rfl) (by rfl) (by rfl) (by rfl) ?_)

theorem execBundleIssue_keeps {σ s : State} (dt : Nat) (k : Nat) (ecc : Option Nat) (vd : Nat) (hσ : Keeps σ (s.tick dt)) : AKeeps σ
    (execBundleIssue dt k ecc vd s) := by
  unfold execBundleIssue
  refine ⟨_, rfl, ?_⟩
  repeat' first | with_reducible assumption | with_reducible apply State.done_keeps | with_reducible apply State.coreFault_keeps
                | with_reducible apply State.issue_keeps | with_reducible apply State.purge_keeps | with_reducible apply Keeps.ite
                | with_reducible apply Keeps.foldl | with_reducible apply Keeps.ite_fst | with_reducible apply Keeps.foldl_fst | split | dsimp only
                | (intro _; rfl) | (intro _; intros)

theorem State.released_keeps {σ s : State} (k : Nat) (hσ : Keeps σ s) : Keeps σ (State.released s k) := by
  unfold State.released
  repeat' first | with_reducible assumption | with_reducible apply State.coreAdvance_keeps | with_reducible apply State.wr_keeps
                | with_reducible apply State.modCore_keeps | with_reducible apply Keeps.ite | with_reducible apply Keeps.foldl
                | with_reducible apply Keeps.ite_fst | with_reducible apply Keeps.foldl_fst | split | dsimp only | (intro _; rfl) | (intro _; intros)

theorem State.takeAnswer_keeps {σ s : State} (k : Nat) (c : Sys2Proof.Machine.Cmd) (hσ : Keeps σ s) : Keeps σ (State.takeAnswer s k c) := by
  unfold State.takeAnswer
  repeat' first | with_reducible assumption | with_reducible apply State.modCore_keeps | with_reducible apply Keeps.ite
                | with_reducible apply Keeps.foldl | with_reducible apply Keeps.ite_fst | with_reducible apply Keeps.foldl_fst | split | dsimp only
                | (intro _; rfl) | (intro _; intros)

theorem execChannelTriggerAnswer_keeps {σ s : State} (dt : Nat) (k : Nat) (vd : Nat) (hσ : Keeps σ (s.tick dt)) : AKeeps σ
    (execChannelTriggerAnswer dt k vd s) := by
  unfold execChannelTriggerAnswer
  refine ⟨_, rfl, ?_⟩
  repeat' first | with_reducible assumption | with_reducible apply State.done_keeps | with_reducible apply State.chanRun_keeps
                | with_reducible apply State.takeAnswer_keeps | with_reducible apply State.released_keeps | with_reducible apply State.purge_keeps
                | with_reducible apply Keeps.ite | with_reducible apply Keeps.foldl | with_reducible apply Keeps.ite_fst
                | with_reducible apply Keeps.foldl_fst | split | dsimp only | (intro _; rfl) | (intro _; intros)

theorem execTmrWaitExpiry_keeps {σ s : State} (dt : Nat) (k : Nat) (hσ : Keeps σ (s.tick dt)) : AKeeps σ (execTmrWaitExpiry dt k s) := by
  unfold execTmrWaitExpiry
  refine ⟨_, rfl, ?_⟩
  repeat' first | with_reducible assumption | with_reducible apply State.done_keeps | with_reducible apply State.released_keeps
                | with_reducible apply State.modCore_keeps | with_reducible apply Keeps.ite | with_reducible apply Keeps.foldl
                | with_reducible apply Keeps.ite_fst | with_reducible apply Keeps.foldl_fst | split | dsimp only | (intro _; rfl) | (intro _; intros)

theorem execMbxRxWake_keeps {σ s : State} (dt : Nat) (k : Nat) (hσ : Keeps σ (s.tick dt)) : AKeeps σ (execMbxRxWake dt k s) := by
  unfold execMbxRxWake
  refine ⟨_, rfl, ?_⟩
  repeat' first | with_reducible assumption | with_reducible apply State.done_keeps | with_reducible apply State.released_keeps
                | with_reducible apply State.mbxTake_keeps | with_reducible apply State.modCore_keeps | with_reducible apply Keeps.ite
                | with_reducible apply Keeps.foldl | with_reducible apply Keeps.ite_fst | with_reducible apply Keeps.foldl_fst | split | dsimp only
                | (intro _; rfl) | (intro _; intros)

theorem State.fifeRun_keeps {σ s : State} (k : Nat) (hσ : Keeps σ s) : Keeps σ (State.fifeRun s k) := by
  unfold State.fifeRun
  repeat' first | with_reducible assumption | with_reducible apply State.wr_keeps | with_reducible apply Keeps.ite | with_reducible apply Keeps.foldl
                | with_reducible apply Keeps.ite_fst | with_reducible apply Keeps.foldl_fst | split | dsimp only | (intro _; rfl) | (intro _; intros)

theorem State.fifeHalt_keeps {σ s : State} (k : Nat) (hσ : Keeps σ s) : Keeps σ (State.fifeHalt s k) := by
  unfold State.fifeHalt
  repeat' first | with_reducible assumption | with_reducible apply State.wr_keeps | with_reducible apply State.modCore_keeps
                | with_reducible apply Keeps.ite | with_reducible apply Keeps.foldl | with_reducible apply Keeps.ite_fst
                | with_reducible apply Keeps.foldl_fst | split | dsimp only | (intro _; rfl) | (intro _; intros)

theorem State.fifeRestart_keeps {σ s : State} (k : Nat) (hσ : Keeps σ s) : Keeps σ (State.fifeRestart s k) := by
  unfold State.fifeRestart
  repeat' first | with_reducible assumption | with_reducible apply State.coreStart_keeps | with_reducible apply State.dropAnswers_keeps
                | with_reducible apply Keeps.ite | with_reducible apply Keeps.foldl | with_reducible apply Keeps.ite_fst
                | with_reducible apply Keeps.foldl_fst | split | dsimp only | (intro _; rfl) | (intro _; intros)

theorem State.fifeBist_keeps {σ s : State} (k : Nat) (fail : Bool) (lost : Bool) (hσ : Keeps σ s) : Keeps σ (State.fifeBist s k fail lost) := by
  unfold State.fifeBist
  repeat' first | with_reducible assumption | with_reducible apply State.coreRetire_keeps | with_reducible apply State.dropAnswers_keeps
                | with_reducible apply Keeps.ite | with_reducible apply Keeps.foldl | with_reducible apply Keeps.ite_fst
                | with_reducible apply Keeps.foldl_fst | split | dsimp only | (intro _; rfl) | (intro _; intros)

theorem State.mdataNext_keeps {σ s : State} (hσ : Keeps σ s) : Keeps σ (State.mdataNext s) := by
  unfold State.mdataNext
  repeat' first | with_reducible assumption | with_reducible apply State.wr_keeps | with_reducible apply Keeps.ite | with_reducible apply Keeps.foldl
                | with_reducible apply Keeps.ite_fst | with_reducible apply Keeps.foldl_fst | split | dsimp only | (intro _; rfl) | (intro _; intros)

theorem State.mdataRead_keeps {σ s : State} (hσ : Keeps σ s) : Keeps σ (State.mdataRead s) := by
  unfold State.mdataRead
  repeat' first | with_reducible assumption | with_reducible apply State.mdataNext_keeps | with_reducible apply Keeps.ite
                | with_reducible apply Keeps.foldl | with_reducible apply Keeps.ite_fst | with_reducible apply Keeps.foldl_fst | split | dsimp only
                | (intro _; rfl) | (intro _; intros) | (refine Keeps.same (by rfl) (by rfl) (by rfl) (by rfl) ?_)

theorem State.mdataWrite_keeps {σ s : State} (pf : Nat) (v : Nat) (hσ : Keeps σ s) : Keeps σ (State.mdataWrite s pf v) := by
  unfold State.mdataWrite
  repeat' first | with_reducible assumption | with_reducible apply State.modCore_keeps | with_reducible apply State.logSetup_keeps
                | with_reducible apply State.mdataNext_keeps | with_reducible apply Keeps.ite | with_reducible apply Keeps.foldl
                | with_reducible apply Keeps.ite_fst | with_reducible apply Keeps.foldl_fst | split | dsimp only | (intro _; rfl) | (intro _; intros)

theorem State.disagree_keeps {σ s : State} (m : Sys2Proof.Machine.Mismatch) (hσ : Keeps σ s) : Keeps σ (State.disagree s m) := by
  unfold State.disagree
  repeat' first | with_reducible assumption | with_reducible apply State.wr_keeps | with_reducible apply State.bump_keeps
                | with_reducible apply State.warmReset_keeps | with_reducible apply Keeps.ite | with_reducible apply Keeps.foldl
                | with_reducible apply Keeps.ite_fst | with_reducible apply Keeps.foldl_fst | split | dsimp only | (intro _; rfl) | (intro _; intros)
                | (refine Keeps.same (by rfl) (by rfl) (by rfl) (by rfl) ?_)

theorem execLockstepMismatch_keeps {σ s : State} (dt : Nat) (m : Sys2Proof.Machine.Mismatch) (hσ : Keeps σ (s.tick dt)) : AKeeps σ
    (execLockstepMismatch dt m s) := by
  unfold execLockstepMismatch
  refine ⟨_, rfl, ?_⟩
  repeat' first | with_reducible assumption | with_reducible apply State.done_keeps | with_reducible apply State.disagree_keeps
                | with_reducible apply Keeps.ite | with_reducible apply Keeps.foldl | with_reducible apply Keeps.ite_fst
                | with_reducible apply Keeps.foldl_fst | split | dsimp only | (intro _; rfl) | (intro _; intros)

theorem execShawmJoin_keeps {σ s : State} (dt : Nat) (diff : Option Sys2Proof.Machine.Mismatch) (hσ : Keeps σ (s.tick dt)) : AKeeps σ
    (execShawmJoin dt diff s) := by
  unfold execShawmJoin
  refine ⟨_, rfl, ?_⟩
  repeat' first | with_reducible assumption | with_reducible apply State.done_keeps | with_reducible apply State.disagree_keeps
                | with_reducible apply State.wr_keeps | with_reducible apply State.modCore_keeps | with_reducible apply State.released_keeps
                | with_reducible apply State.raise_keeps | with_reducible apply Keeps.ite | with_reducible apply Keeps.foldl
                | with_reducible apply Keeps.ite_fst | with_reducible apply Keeps.foldl_fst | split | dsimp only | (intro _; rfl) | (intro _; intros)
                | (refine Keeps.same (by rfl) (by rfl) (by rfl) (by rfl) ?_)

theorem execSplitmaxExpiry_keeps {σ s : State} (dt : Nat) (hσ : Keeps σ (s.tick dt)) : AKeeps σ (execSplitmaxExpiry dt s) := by
  unfold execSplitmaxExpiry
  refine ⟨_, rfl, ?_⟩
  repeat' first | with_reducible assumption | with_reducible apply State.done_keeps | with_reducible apply Keeps.ite
                | with_reducible apply Keeps.foldl | with_reducible apply Keeps.ite_fst | with_reducible apply Keeps.foldl_fst | split | dsimp only
                | (intro _; rfl) | (intro _; intros) | (refine Keeps.same (by rfl) (by rfl) (by rfl) (by rfl) ?_)

theorem execLockstepLostDebug_keeps {σ s : State} (dt : Nat) (hσ : Keeps σ (s.tick dt)) : AKeeps σ (execLockstepLostDebug dt s) := by
  unfold execLockstepLostDebug
  refine ⟨_, rfl, ?_⟩
  repeat' first | with_reducible assumption | with_reducible apply State.done_keeps | with_reducible apply State.setFlag_keeps
                | with_reducible apply State.wr_keeps | with_reducible apply State.debugPolicies_keeps | with_reducible apply State.twLeave_keeps
                | with_reducible apply State.authEnd_keeps | with_reducible apply Keeps.ite | with_reducible apply Keeps.foldl
                | with_reducible apply Keeps.ite_fst | with_reducible apply Keeps.foldl_fst | split | dsimp only | (intro _; rfl) | (intro _; intros)
                | (refine Keeps.same (by rfl) (by rfl) (by rfl) (by rfl) ?_)

theorem State.nvm_keeps {σ s : State} (f : NvState → NvState) (hσ : Keeps σ s) (hf : ∀ n, (f n).retired = n.retired) : Keeps σ (s.nvm f) :=
  Keeps.same rfl rfl rfl (hf _) hσ

theorem execUpdStage_keeps {σ s : State} (dt : Nat) (c : Sys2Proof.Machine.Cmd) (chunk : List Sys2Proof.Byte) (hσ : Keeps σ (s.tick dt)) : AKeeps σ
    (execUpdStage dt c chunk s) := by
  unfold execUpdStage
  refine ⟨_, rfl, ?_⟩
  repeat' first | with_reducible assumption | with_reducible apply State.done_keeps | with_reducible apply State.serveOp_keeps
                | with_reducible apply State.orElse_keeps | with_reducible apply State.dma_keeps | with_reducible apply State.complete_keeps
                | with_reducible apply State.nvm_keeps | with_reducible apply State.setFwSlot_keeps | with_reducible apply Keeps.ite
                | with_reducible apply Keeps.foldl | with_reducible apply Keeps.ite_fst | with_reducible apply Keeps.foldl_fst | split | dsimp only
                | (intro _; rfl) | (intro _; intros)

theorem execUpdVerify_keeps {σ s : State} (dt : Nat) (c : Sys2Proof.Machine.Cmd) (sig : Bool) (hσ : Keeps σ (s.tick dt)) : AKeeps σ
    (execUpdVerify dt c sig s) := by
  unfold execUpdVerify
  refine ⟨_, rfl, ?_⟩
  repeat' first | with_reducible assumption | with_reducible apply State.done_keeps | with_reducible apply State.serveOp_keeps
                | with_reducible apply State.orElse_keeps | with_reducible apply State.complete_keeps | with_reducible apply State.nvm_keeps
                | with_reducible apply State.setFwSlot_keeps | with_reducible apply Keeps.ite | with_reducible apply Keeps.foldl
                | with_reducible apply Keeps.ite_fst | with_reducible apply Keeps.foldl_fst | split | dsimp only | (intro _; rfl) | (intro _; intros)

theorem State.commitRecord_keeps {σ s : State} (hσ : Keeps σ s) : Keeps σ (State.commitRecord s) := by
  unfold State.commitRecord
  repeat' first | with_reducible assumption | with_reducible apply State.saveLive_keeps | with_reducible apply State.setCopy_keeps
                | with_reducible apply State.nvm_keeps | with_reducible apply Keeps.ite | with_reducible apply Keeps.foldl
                | with_reducible apply Keeps.ite_fst | with_reducible apply Keeps.foldl_fst | split | dsimp only | (intro _; rfl) | (intro _; intros)

theorem State.commitRestart_keeps {σ s : State} (hσ : Keeps σ s) : Keeps σ (State.commitRestart s) := by
  unfold State.commitRestart
  repeat' first | with_reducible assumption | with_reducible apply State.pw_keeps | with_reducible apply State.resetDieC_keeps
                | with_reducible apply Keeps.ite | with_reducible apply Keeps.foldl | with_reducible apply Keeps.ite_fst
                | with_reducible apply Keeps.foldl_fst | split | dsimp only | (intro _; rfl) | (intro _; intros)

theorem execUpdCommit_keeps {σ s : State} (dt : Nat) (c : Sys2Proof.Machine.Cmd) (sig : Bool) (hσ : Keeps σ (s.tick dt)) : AKeeps σ
    (execUpdCommit dt c sig s) := by
  unfold execUpdCommit
  refine ⟨_, rfl, ?_⟩
  repeat' first | with_reducible assumption | with_reducible apply State.done_keeps | with_reducible apply State.serveOp_keeps
                | with_reducible apply State.orElse_keeps | with_reducible apply State.complete_keeps | with_reducible apply State.nvm_keeps
                | with_reducible apply State.setFwSlot_keeps | with_reducible apply State.commitRestart_keeps | with_reducible apply State.begin_keeps
                | with_reducible apply State.commitRecord_keeps | with_reducible apply Keeps.ite | with_reducible apply Keeps.foldl
                | with_reducible apply Keeps.ite_fst | with_reducible apply Keeps.foldl_fst | split | dsimp only | (intro _; rfl) | (intro _; intros)

theorem State.confirm_keeps {σ s : State} (hσ : Keeps σ s) : Keeps σ (State.confirm s) := by
  unfold State.confirm
  repeat' first | with_reducible assumption | with_reducible apply State.raise_keeps | with_reducible apply State.nvm_keeps
                | with_reducible apply Keeps.ite | with_reducible apply Keeps.foldl | with_reducible apply Keeps.ite_fst
                | with_reducible apply Keeps.foldl_fst | split | dsimp only | (intro _; rfl) | (intro _; intros)

theorem execUpdConfirm_keeps {σ s : State} (dt : Nat) (c : Sys2Proof.Machine.Cmd) (hσ : Keeps σ (s.tick dt)) : AKeeps σ (execUpdConfirm dt c s) := by
  unfold execUpdConfirm
  refine ⟨_, rfl, ?_⟩
  repeat' first | with_reducible assumption | with_reducible apply State.done_keeps | with_reducible apply State.serveOp_keeps
                | with_reducible apply State.orElse_keeps | with_reducible apply State.complete_keeps | with_reducible apply State.confirm_keeps
                | with_reducible apply Keeps.ite | with_reducible apply Keeps.foldl | with_reducible apply Keeps.ite_fst
                | with_reducible apply Keeps.foldl_fst | split | dsimp only | (intro _; rfl) | (intro _; intros)

theorem execUpdAbort_keeps {σ s : State} (dt : Nat) (c : Sys2Proof.Machine.Cmd) (hσ : Keeps σ (s.tick dt)) : AKeeps σ (execUpdAbort dt c s) := by
  unfold execUpdAbort
  refine ⟨_, rfl, ?_⟩
  repeat' first | with_reducible assumption | with_reducible apply State.done_keeps | with_reducible apply State.serveOp_keeps
                | with_reducible apply State.orElse_keeps | with_reducible apply State.nvm_keeps | with_reducible apply State.setFwSlot_keeps
                | with_reducible apply State.complete_keeps | with_reducible apply Keeps.ite | with_reducible apply Keeps.foldl
                | with_reducible apply Keeps.ite_fst | with_reducible apply Keeps.foldl_fst | split | dsimp only | (intro _; rfl) | (intro _; intros)

theorem execSetDefaults_keeps {σ s : State} (dt : Nat) (c : Sys2Proof.Machine.Cmd) (hσ : Keeps σ (s.tick dt)) : AKeeps σ
    (execSetDefaults dt c s) := by
  unfold execSetDefaults
  refine ⟨_, rfl, ?_⟩
  repeat' first | with_reducible assumption | with_reducible apply State.done_keeps | with_reducible apply State.serveOp_keeps
                | with_reducible apply State.setCopy_keeps | with_reducible apply State.wr_keeps | with_reducible apply State.complete_keeps
                | with_reducible apply State.raise_keeps | with_reducible apply Keeps.ite | with_reducible apply Keeps.foldl
                | with_reducible apply Keeps.ite_fst | with_reducible apply Keeps.foldl_fst | split | dsimp only | (intro _; rfl) | (intro _; intros)

theorem execAutoConfirm_keeps {σ s : State} (dt : Nat) (hσ : Keeps σ (s.tick dt)) : AKeeps σ (execAutoConfirm dt s) := by
  unfold execAutoConfirm
  refine ⟨_, rfl, ?_⟩
  repeat' first | with_reducible assumption | with_reducible apply State.done_keeps | with_reducible apply State.confirm_keeps
                | with_reducible apply Keeps.ite | with_reducible apply Keeps.foldl | with_reducible apply Keeps.ite_fst
                | with_reducible apply Keeps.foldl_fst | split | dsimp only | (intro _; rfl) | (intro _; intros)

theorem execTrialTimeout_keeps {σ s : State} (dt : Nat) (hσ : Keeps σ (s.tick dt)) : AKeeps σ (execTrialTimeout dt s) := by
  unfold execTrialTimeout
  refine ⟨_, rfl, ?_⟩
  repeat' first | with_reducible assumption | with_reducible apply State.done_keeps | with_reducible apply State.pw_keeps
                | with_reducible apply State.resetDieC_keeps | with_reducible apply State.trialFails_keeps | with_reducible apply Keeps.ite
                | with_reducible apply Keeps.foldl | with_reducible apply Keeps.ite_fst | with_reducible apply Keeps.foldl_fst | split | dsimp only
                | (intro _; rfl) | (intro _; intros)

theorem State.eqEvent_keeps {σ s : State} (step : Nat) (fail : Nat) (hσ : Keeps σ s) : Keeps σ (State.eqEvent s step fail) := by
  unfold State.eqEvent
  repeat' first | with_reducible assumption | with_reducible apply State.raise_keeps | with_reducible apply Keeps.ite
                | with_reducible apply Keeps.foldl | with_reducible apply Keeps.ite_fst | with_reducible apply Keeps.foldl_fst | split | dsimp only
                | (intro _; rfl) | (intro _; intros)

theorem State.eqEnd_keeps {σ s : State} (code : Sys2Proof.Machine.Code) (sub : Nat) (hσ : Keeps σ s) : Keeps σ (State.eqEnd s code sub) := by
  unfold State.eqEnd
  repeat' first | with_reducible assumption | with_reducible apply State.tw_keeps | with_reducible apply State.complete_keeps
                | with_reducible apply Keeps.ite | with_reducible apply Keeps.foldl | with_reducible apply Keeps.ite_fst
                | with_reducible apply Keeps.foldl_fst | split | dsimp only | (intro _; rfl) | (intro _; intros)

theorem execTwEquinox_keeps {σ s : State} (dt : Nat) (c : Sys2Proof.Machine.Cmd) (peer : Bool) (fmt : Bool) (hσ : Keeps σ (s.tick dt)) : AKeeps σ
    (execTwEquinox dt c peer fmt s) := by
  unfold execTwEquinox
  refine ⟨_, rfl, ?_⟩
  repeat' first | with_reducible assumption | with_reducible apply State.done_keeps | with_reducible apply State.serveOp_keeps
                | with_reducible apply State.orElse_keeps | with_reducible apply State.complete_keeps | with_reducible apply State.eqEvent_keeps
                | with_reducible apply State.nvm_keeps | with_reducible apply State.tw_keeps | with_reducible apply State.begin_keeps
                | with_reducible apply Keeps.ite | with_reducible apply Keeps.foldl | with_reducible apply Keeps.ite_fst
                | with_reducible apply Keeps.foldl_fst | split | dsimp only | (intro _; rfl) | (intro _; intros)

theorem State.eqCommit_keeps {σ s : State} (sig : Bool) (hσ : Keeps σ s) : Keeps σ (State.eqCommit s sig) := by
  unfold State.eqCommit
  repeat' first | with_reducible assumption | with_reducible apply State.commitRestart_keeps | with_reducible apply State.nvm_keeps
                | with_reducible apply State.commitRecord_keeps | with_reducible apply State.twLeave_keeps | with_reducible apply Keeps.ite
                | with_reducible apply Keeps.foldl | with_reducible apply Keeps.ite_fst | with_reducible apply Keeps.foldl_fst | split | dsimp only
                | (intro _; rfl) | (intro _; intros)

theorem execEquinoxStep_keeps {σ s : State} (dt : Nat) (step : Nat) (fail : Bool) (sig : Bool) (peer : Bool) (hσ : Keeps σ (s.tick dt)) : AKeeps σ
    (execEquinoxStep dt step fail sig peer s) := by
  unfold execEquinoxStep
  refine ⟨_, rfl, ?_⟩
  repeat' first | with_reducible assumption | with_reducible apply State.done_keeps | with_reducible apply State.eqEnd_keeps
                | with_reducible apply State.eqEvent_keeps | with_reducible apply State.nvm_keeps | with_reducible apply State.eqCommit_keeps
                | with_reducible apply State.swapAsk_keeps | with_reducible apply Keeps.ite | with_reducible apply Keeps.foldl
                | with_reducible apply Keeps.ite_fst | with_reducible apply Keeps.foldl_fst | split | dsimp only | (intro _; rfl) | (intro _; intros)

theorem State.objClear_keeps {σ s : State} (o : Nat) (hσ : Keeps σ s) : Keeps σ (State.objClear s o) := by
  unfold State.objClear
  repeat' first | with_reducible assumption | with_reducible apply State.chClear_keeps | with_reducible apply State.ldClear_keeps
                | with_reducible apply State.mxClear_keeps | with_reducible apply State.svClear_keeps | with_reducible apply State.bstClear_keeps
                | with_reducible apply State.hbClear_keeps | with_reducible apply State.unverify_keeps | with_reducible apply State.wr_keeps
                | with_reducible apply State.setSt_keeps | with_reducible apply Keeps.ite | with_reducible apply Keeps.foldl
                | with_reducible apply Keeps.ite_fst | with_reducible apply Keeps.foldl_fst | split | dsimp only | (intro _; rfl) | (intro _; intros)

theorem State.w1cBit_keeps {σ s : State} (pf : Nat) (win : Nat) (off : Nat) (f : Sys2Proof.Machine.Field) (i : Nat) (k : Nat) (hσ : Keeps σ s) :
    Keeps σ (State.w1cBit s pf win off f i k) := by
  unfold State.w1cBit
  repeat' first | with_reducible assumption | with_reducible apply State.clearRefused_keeps | with_reducible apply State.objClear_keeps
                | with_reducible apply State.wr_keeps | with_reducible apply Keeps.ite | with_reducible apply Keeps.foldl
                | with_reducible apply Keeps.ite_fst | with_reducible apply Keeps.foldl_fst | split | dsimp only | (intro _; rfl) | (intro _; intros)

theorem State.w1cWrite_keeps {σ s : State} (pf : Nat) (win : Nat) (off : Nat) (v : Nat) (hσ : Keeps σ s) : Keeps σ
    (State.w1cWrite s pf win off v) := by
  unfold State.w1cWrite
  repeat' first | with_reducible assumption | with_reducible apply State.w1cBit_keeps | with_reducible apply Keeps.ite
                | with_reducible apply Keeps.foldl | with_reducible apply Keeps.ite_fst | with_reducible apply Keeps.foldl_fst | split | dsimp only
                | (intro _; rfl) | (intro _; intros)

theorem State.activeClear_keeps {σ s : State} (pf : Nat) (w : Nat) (hσ : Keeps σ s) : Keeps σ (State.activeClear s pf w) := by
  unfold State.activeClear
  repeat' first | with_reducible assumption | with_reducible apply State.clearRefused_keeps | with_reducible apply Keeps.ite
                | with_reducible apply Keeps.foldl | with_reducible apply Keeps.ite_fst | with_reducible apply Keeps.foldl_fst | split | dsimp only
                | (intro _; rfl) | (intro _; intros) | (refine Keeps.same (by rfl) (by rfl) (by rfl) (by rfl) ?_)

theorem State.frzRelease_keeps {σ s : State} (pf : Nat) (v : Nat) (hσ : Keeps σ s) : Keeps σ (State.frzRelease s pf v) := by
  unfold State.frzRelease
  repeat' first | with_reducible assumption | with_reducible apply State.clampBit_keeps | with_reducible apply State.unfreeze_keeps
                | with_reducible apply Keeps.ite | with_reducible apply Keeps.foldl | with_reducible apply Keeps.ite_fst
                | with_reducible apply Keeps.foldl_fst | split | dsimp only | (intro _; rfl) | (intro _; intros)

theorem State.loseFrame_keeps {σ s : State} (sn : Nat) (hσ : Keeps σ s) : Keeps σ (State.loseFrame s sn) := by
  unfold State.loseFrame
  repeat' first | with_reducible assumption | with_reducible apply State.modPort_keeps | with_reducible apply State.showPool_keeps
                | with_reducible apply State.rxDrop_keeps | with_reducible apply State.bump_keeps | with_reducible apply State.complete_keeps
                | with_reducible apply Keeps.ite | with_reducible apply Keeps.foldl | with_reducible apply Keeps.ite_fst
                | with_reducible apply Keeps.foldl_fst | split | dsimp only | (intro _; rfl) | (intro _; intros)
                | (refine Keeps.same (by rfl) (by rfl) (by rfl) (by rfl) ?_)

theorem State.loseRow_keeps {σ s : State} (u : Sys2Proof.Machine.ArrayUse) (hσ : Keeps σ s) : Keeps σ (State.loseRow s u) := by
  unfold State.loseRow
  repeat' first | with_reducible assumption | with_reducible apply State.loseFrame_keeps | with_reducible apply State.modCore_keeps
                | with_reducible apply State.coreFault_keeps | with_reducible apply Keeps.ite | with_reducible apply Keeps.foldl
                | with_reducible apply Keeps.ite_fst | with_reducible apply Keeps.foldl_fst | split | dsimp only | (intro _; rfl) | (intro _; intros)

theorem State.bankRetire_keeps {σ s : State} (b : Nat) (reason : Nat) (hσ : Keeps σ s) : Keeps σ (State.bankRetire s b reason) := by
  unfold State.bankRetire
  repeat' first | with_reducible assumption | with_reducible apply State.wr_keeps | with_reducible apply State.bump_keeps
                | with_reducible apply State.retire_keeps | with_reducible apply State.showUsed_keeps | with_reducible apply Keeps.ite
                | with_reducible apply Keeps.foldl | with_reducible apply Keeps.ite_fst | with_reducible apply Keeps.foldl_fst | split | dsimp only
                | (intro _; rfl) | (intro _; intros) | (refine Keeps.same (by rfl) (by rfl) (by rfl) (by rfl) ?_)

theorem State.rowLost_keeps {σ s : State} (h : Sys2Proof.Machine.ScrubHit) (hσ : Keeps σ s) : Keeps σ (State.rowLost s h) := by
  unfold State.rowLost
  repeat' first | with_reducible assumption | with_reducible apply State.showPool_keeps | with_reducible apply Keeps.ite
                | with_reducible apply Keeps.foldl | with_reducible apply Keeps.ite_fst | with_reducible apply Keeps.foldl_fst | split | dsimp only
                | (intro _; rfl) | (intro _; intros) | (refine Keeps.same (by rfl) (by rfl) (by rfl) (by rfl) ?_)

theorem State.rowRetire_keeps {σ s : State} (h : Sys2Proof.Machine.ScrubHit) (hσ : Keeps σ s) : Keeps σ (State.rowRetire s h) := by
  unfold State.rowRetire
  repeat' first | with_reducible assumption | with_reducible apply State.retire_keeps | with_reducible apply State.bump_keeps
                | with_reducible apply State.sparesOut_keeps | with_reducible apply State.rowLost_keeps | with_reducible apply State.bankRetire_keeps
                | with_reducible apply Keeps.ite | with_reducible apply Keeps.foldl | with_reducible apply Keeps.ite_fst
                | with_reducible apply Keeps.foldl_fst | split | dsimp only | (intro _; rfl) | (intro _; intros)
                | (refine Keeps.same (by rfl) (by rfl) (by rfl) (by rfl) ?_)

theorem State.scrubHit_keeps {σ s : State} (h : Sys2Proof.Machine.ScrubHit) (hσ : Keeps σ s) : Keeps σ (State.scrubHit s h) := by
  unfold State.scrubHit
  repeat' first | with_reducible assumption | with_reducible apply State.rowRetire_keeps | with_reducible apply State.loseRow_keeps
                | with_reducible apply Keeps.ite | with_reducible apply Keeps.foldl | with_reducible apply Keeps.ite_fst
                | with_reducible apply Keeps.foldl_fst | split | dsimp only | (intro _; rfl) | (intro _; intros)
                | (refine Keeps.same (by rfl) (by rfl) (by rfl) (by rfl) ?_)

theorem execSramScrub_keeps {σ s : State} (dt : Nat) (hits : List Sys2Proof.Machine.ScrubHit) (hσ : Keeps σ (s.tick dt)) : AKeeps σ
    (execSramScrub dt hits s) := by
  unfold execSramScrub
  refine ⟨_, rfl, ?_⟩
  repeat' first | with_reducible assumption | with_reducible apply State.done_keeps | with_reducible apply State.scrubHit_keeps
                | with_reducible apply Keeps.ite | with_reducible apply Keeps.foldl | with_reducible apply Keeps.ite_fst
                | with_reducible apply Keeps.foldl_fst | split | dsimp only | (intro _; rfl) | (intro _; intros)
                | (refine Keeps.same (by rfl) (by rfl) (by rfl) (by rfl) ?_)

theorem State.adcRetire_keeps {σ s : State} (k : Nat) (hσ : Keeps σ s) : Keeps σ (State.adcRetire s k) := by
  unfold State.adcRetire
  repeat' first | with_reducible assumption | with_reducible apply State.retire_keeps | with_reducible apply State.wr_keeps
                | with_reducible apply Keeps.ite | with_reducible apply Keeps.foldl | with_reducible apply Keeps.ite_fst
                | with_reducible apply Keeps.foldl_fst | split | dsimp only | (intro _; rfl) | (intro _; intros)

theorem execAdcCalibration_keeps {σ s : State} (dt : Nat) (drifts : List Int) (hσ : Keeps σ (s.tick dt)) : AKeeps σ
    (execAdcCalibration dt drifts s) := by
  unfold execAdcCalibration
  refine ⟨_, rfl, ?_⟩
  repeat' first | with_reducible assumption | with_reducible apply State.done_keeps | with_reducible apply State.adcRetire_keeps
                | with_reducible apply Keeps.ite | with_reducible apply Keeps.foldl | with_reducible apply Keeps.ite_fst
                | with_reducible apply Keeps.foldl_fst | split | dsimp only | (intro _; rfl) | (intro _; intros)
                | (refine Keeps.same (by rfl) (by rfl) (by rfl) (by rfl) ?_)

theorem State.groupDown_keeps {σ s : State} (g : Nat) (hσ : Keeps σ s) : Keeps σ (State.groupDown s g) := by
  unfold State.groupDown
  repeat' first | with_reducible assumption | with_reducible apply State.setGroup_keeps | with_reducible apply State.setCut_keeps
                | with_reducible apply State.wr_keeps | with_reducible apply Keeps.ite | with_reducible apply Keeps.foldl
                | with_reducible apply Keeps.ite_fst | with_reducible apply Keeps.foldl_fst | split | dsimp only | (intro _; rfl) | (intro _; intros)
                | (refine Keeps.same (by rfl) (by rfl) (by rfl) (by rfl) ?_)

theorem State.dieLost_keeps {σ s : State} (d : Nat) (hσ : Keeps σ s) : Keeps σ (s.dieLost d) := by
  unfold State.dieLost
  extract_lets cs s1 was src a1 f1 h1' t1 t2 t2' t3
  have h1 : Keeps σ s1 := Keeps.foldl hσ fun s c h => State.complete_keeps _ _ _ (State.forget_keeps _ h)
  have hc : regsCanon s1.regs → regsCanon (regsWithout d s1.regs) := regsCanon_without d
  have ht : Keeps σ t1 := by
    unfold t1
    generalize regsWithout d s1.regs = t at hc
    exact h1.trans ⟨rfl, rfl, hc, List.prefix_refl _⟩
  clear_value t1
  have h2 : Keeps σ t2 := Keeps.foldl (State.keepRetired_keeps _ h1.canon ht) fun s g h => State.groupDown_keeps _ h
  clear_value t2
  have h3 : Keeps σ t3 := State.showUse_keeps (State.wr_keeps _ _ _ (State.wr_keeps _ _ _ h2))
  clear_value t3
  exact Keeps.ite h3 (State.holdDone_keeps h3)

theorem State.dieFed_keeps {σ s : State} (d : Nat) (hσ : Keeps σ s) : Keeps σ (State.dieFed s d) := by
  unfold State.dieFed
  repeat' first | with_reducible assumption | with_reducible apply State.pw_keeps | with_reducible apply State.limpApply_keeps
                | with_reducible apply Keeps.ite | with_reducible apply Keeps.foldl | with_reducible apply Keeps.ite_fst
                | with_reducible apply Keeps.foldl_fst | split | dsimp only | (intro _; rfl) | (intro _; intros)

theorem State.dieSupplies_keeps {σ s : State} (x : Sys2Proof.Machine.Sample) (hσ : Keeps σ s) : Keeps σ (State.dieSupplies s x) := by
  unfold State.dieSupplies
  repeat' first | with_reducible assumption | with_reducible apply State.dieLost_keeps | with_reducible apply State.dieFed_keeps
                | with_reducible apply Keeps.ite | with_reducible apply Keeps.foldl | with_reducible apply Keeps.ite_fst
                | with_reducible apply Keeps.foldl_fst | split | dsimp only | (intro _; rfl) | (intro _; intros)

theorem execClaimRenew_keeps {σ s : State} (dt : Nat) (x : Sys2Proof.Machine.Sample) (hσ : Keeps σ (s.tick dt)) : AKeeps σ
    (execClaimRenew dt x s) := by
  unfold execClaimRenew
  refine ⟨_, rfl, ?_⟩
  repeat' first | with_reducible assumption | with_reducible apply State.endDue_keeps | with_reducible apply State.dieSupplies_keeps
                | with_reducible apply State.globals_keeps | with_reducible apply State.done_keeps | with_reducible apply State.showUse_keeps
                | with_reducible apply State.renewOne_keeps | with_reducible apply Keeps.ite | with_reducible apply Keeps.foldl
                | with_reducible apply Keeps.ite_fst | with_reducible apply Keeps.foldl_fst | split | dsimp only | (intro _; rfl) | (intro _; intros)

theorem State.linTurn_keeps {σ s : State} (n : Nat) (on : Bool) (hσ : Keeps σ s) : Keeps σ (State.linTurn s n on) := by
  unfold State.linTurn
  repeat' first | with_reducible assumption | with_reducible apply State.lineSeen_keeps | with_reducible apply State.wr_keeps
                | with_reducible apply State.modLin_keeps | with_reducible apply State.complete_keeps | with_reducible apply Keeps.ite
                | with_reducible apply Keeps.foldl | with_reducible apply Keeps.ite_fst | with_reducible apply Keeps.foldl_fst | split | dsimp only
                | (intro _; rfl) | (intro _; intros)

theorem State.portStop_keeps {σ s : State} (p : Nat) (hσ : Keeps σ s) : Keeps σ (State.portStop s p) := by
  unfold State.portStop
  repeat' first | with_reducible assumption | with_reducible apply State.modPort_keeps | with_reducible apply State.canGone_keeps
                | with_reducible apply State.bump_keeps | with_reducible apply State.wr_keeps | with_reducible apply State.raise_keeps
                | with_reducible apply Keeps.ite | with_reducible apply Keeps.foldl | with_reducible apply Keeps.ite_fst
                | with_reducible apply Keeps.foldl_fst | split | dsimp only | (intro _; rfl) | (intro _; intros)

theorem State.rxqStart_keeps {σ s : State} (g : Nat) (hσ : Keeps σ s) : Keeps σ (State.rxqStart s g) := by
  unfold State.rxqStart
  repeat' first | with_reducible assumption | with_reducible apply State.modRxq_keeps | with_reducible apply State.wr_keeps
                | with_reducible apply Keeps.ite | with_reducible apply Keeps.foldl | with_reducible apply Keeps.ite_fst
                | with_reducible apply Keeps.foldl_fst | split | dsimp only | (intro _; rfl) | (intro _; intros)

theorem State.tmBegin_keeps {σ s : State} (n : Nat) (hσ : Keeps σ s) : Keeps σ (State.tmBegin s n) := by
  unfold State.tmBegin
  repeat' first | with_reducible assumption | with_reducible apply State.modCan_keeps | with_reducible apply State.tmFrom_keeps
                | with_reducible apply Keeps.ite | with_reducible apply Keeps.foldl | with_reducible apply Keeps.ite_fst
                | with_reducible apply Keeps.foldl_fst | split | dsimp only | (intro _; rfl) | (intro _; intros)

theorem State.dbgCap_keeps {σ s : State} (hσ : Keeps σ s) : Keeps σ (State.dbgCap s) := by
  unfold State.dbgCap
  repeat' first | with_reducible assumption | with_reducible apply State.dbgTo_keeps | with_reducible apply Keeps.ite
                | with_reducible apply Keeps.foldl | with_reducible apply Keeps.ite_fst | with_reducible apply Keeps.foldl_fst | split | dsimp only
                | (intro _; rfl) | (intro _; intros)

theorem State.fieldHook_keeps {σ s : State} (p : Sys2Proof.Machine.Put) (old : Nat) (v : Nat) (hσ : Keeps σ s) : Keeps σ
    (State.fieldHook s p old v) := by
  unfold State.fieldHook
  repeat' first | with_reducible assumption | with_reducible apply State.netDeclared_keeps | with_reducible apply State.paceRequest_keeps
                | with_reducible apply State.wr_keeps | with_reducible apply State.mxIcolSet_keeps | with_reducible apply State.mxJudge_keeps
                | with_reducible apply State.canStart_keeps | with_reducible apply State.canStop_keeps | with_reducible apply State.rxqStart_keeps
                | with_reducible apply State.tmBegin_keeps | with_reducible apply State.tmFrom_keeps | with_reducible apply State.linTurn_keeps
                | with_reducible apply State.portStop_keeps | with_reducible apply State.showPool_keeps | with_reducible apply State.modPort_keeps
                | with_reducible apply State.gptpTo_keeps | with_reducible apply State.nmEnable_keeps | with_reducible apply State.nmDisable_keeps
                | with_reducible apply State.twEnable_keeps | with_reducible apply State.twDisable_keeps | with_reducible apply State.fifeRun_keeps
                | with_reducible apply State.fifeHalt_keeps | with_reducible apply State.dbgCap_keeps | with_reducible apply Keeps.ite
                | with_reducible apply Keeps.foldl | with_reducible apply Keeps.ite_fst | with_reducible apply Keeps.foldl_fst | split | dsimp only
                | (intro _; rfl) | (intro _; intros)

theorem State.fitOp_keeps {σ s : State} (pf : Nat) (op : Nat) (hσ : Keeps σ s) : Keeps σ (State.fitOp s pf op) := by
  unfold State.fitOp
  repeat' first | with_reducible assumption | with_reducible apply State.fitReadOp_keeps | with_reducible apply State.fitCommit_keeps
                | with_reducible apply State.fitClear_keeps | with_reducible apply Keeps.ite | with_reducible apply Keeps.foldl
                | with_reducible apply Keeps.ite_fst | with_reducible apply Keeps.foldl_fst | split | dsimp only | (intro _; rfl) | (intro _; intros)

theorem State.fifeCtl_keeps {σ s : State} (t : Sys2Proof.Machine.SelfTest) (k : Nat) (v : Nat) (hσ : Keeps σ s) : Keeps σ
    (State.fifeCtl s t k v) := by
  unfold State.fifeCtl
  repeat' first | with_reducible assumption | with_reducible apply State.fifeRestart_keeps | with_reducible apply State.fifeBist_keeps
                | with_reducible apply Keeps.ite | with_reducible apply Keeps.foldl | with_reducible apply Keeps.ite_fst
                | with_reducible apply Keeps.foldl_fst | split | dsimp only | (intro _; rfl) | (intro _; intros)

theorem State.accCtl_keeps {σ s : State} (pf : Nat) (v : Nat) (hσ : Keeps σ s) : Keeps σ (State.accCtl s pf v) := by
  unfold State.accCtl
  repeat' first | with_reducible assumption | with_reducible apply State.accSearch_keeps | with_reducible apply State.authEnd_keeps
                | with_reducible apply Keeps.ite | with_reducible apply Keeps.foldl | with_reducible apply Keeps.ite_fst
                | with_reducible apply Keeps.foldl_fst | split | dsimp only | (intro _; rfl) | (intro _; intros)

theorem State.woWrite_keeps {σ s : State} (pf : Nat) (win : Nat) (off : Nat) (v : Nat) (t : Sys2Proof.Machine.SelfTest) (hσ : Keeps σ s) : Keeps σ
    (State.woWrite s pf win off v t) := by
  unfold State.woWrite
  repeat' first | with_reducible assumption | with_reducible apply State.stopRequest_keeps | with_reducible apply State.limpRelease_keeps
                | with_reducible apply State.ldCommit_keeps | with_reducible apply State.mxSwap_keeps | with_reducible apply State.fitOp_keeps
                | with_reducible apply State.clearNodes_keeps | with_reducible apply State.fifeCtl_keeps | with_reducible apply State.accCtl_keeps
                | with_reducible apply Keeps.ite | with_reducible apply Keeps.foldl | with_reducible apply Keeps.ite_fst
                | with_reducible apply Keeps.foldl_fst | split | dsimp only | (intro _; rfl) | (intro _; intros)

theorem State.enTest_keeps {σ s : State} (t : Sys2Proof.Machine.SelfTest) (r : List (Sys2Proof.Machine.Put × Nat)) (hσ : Keeps σ s) : Keeps σ
    (State.enTest s t r).1 := by
  unfold State.enTest
  repeat' first | with_reducible assumption | with_reducible apply State.canTest_keeps | with_reducible apply Keeps.ite
                | with_reducible apply Keeps.foldl | with_reducible apply Keeps.ite_fst | with_reducible apply Keeps.foldl_fst | split | dsimp only
                | (intro _; rfl) | (intro _; intros)

theorem State.fieldWrite_keeps {σ s : State} (pf : Nat) (win : Nat) (off : Nat) (v : Nat) (t : Sys2Proof.Machine.SelfTest) (hσ : Keeps σ s) : Keeps σ
    (State.fieldWrite s pf win off v t) := by
  unfold State.fieldWrite
  repeat' first | with_reducible assumption | with_reducible apply State.w1cWrite_keeps | with_reducible apply State.enTest_keeps
                | with_reducible apply State.clampEvent_keeps | with_reducible apply State.putAll_keeps | with_reducible apply State.loopCount_keeps
                | with_reducible apply State.fieldHook_keeps | with_reducible apply State.woWrite_keeps | with_reducible apply Keeps.ite
                | with_reducible apply Keeps.foldl | with_reducible apply Keeps.ite_fst | with_reducible apply Keeps.foldl_fst | split | dsimp only
                | (intro _; rfl) | (intro _; intros)

theorem State.fltWrite_keeps {σ s : State} (pf : Nat) (off : Nat) (v : Nat) (t : Sys2Proof.Machine.SelfTest) (hσ : Keeps σ s) : Keeps σ
    (State.fltWrite s pf off v t) := by
  unfold State.fltWrite
  repeat' first | with_reducible assumption | with_reducible apply State.activeClear_keeps | with_reducible apply State.setFn_keeps
                | with_reducible apply State.frzRelease_keeps | with_reducible apply State.fieldWrite_keeps | with_reducible apply Keeps.ite
                | with_reducible apply Keeps.foldl | with_reducible apply Keeps.ite_fst | with_reducible apply Keeps.foldl_fst | split | dsimp only
                | (intro _; rfl) | (intro _; intros)

theorem State.gateWrite_keeps {σ s : State} (pf : Nat) (v : Nat) (hσ : Keeps σ s) : Keeps σ (State.gateWrite s pf v) := by
  unfold State.gateWrite
  repeat' first | with_reducible assumption | with_reducible apply State.clampBit_keeps | with_reducible apply Keeps.ite
                | with_reducible apply Keeps.foldl | with_reducible apply Keeps.ite_fst | with_reducible apply Keeps.foldl_fst | split | dsimp only
                | (intro _; rfl) | (intro _; intros) | (refine Keeps.same (by rfl) (by rfl) (by rfl) (by rfl) ?_)

theorem State.setupWrite_keeps {σ s : State} (pf : Nat) (win : Nat) (off : Nat) (v : Nat) (t : Sys2Proof.Machine.SelfTest) (hσ : Keeps σ s) : Keeps σ
    (State.setupWrite s pf win off v t) := by
  unfold State.setupWrite
  repeat' first | with_reducible assumption | with_reducible apply State.fltWrite_keeps | with_reducible apply State.modMx_keeps
                | with_reducible apply State.gateWrite_keeps | with_reducible apply State.mdataWrite_keeps
                | with_reducible apply State.fieldWrite_keeps | with_reducible apply Keeps.ite | with_reducible apply Keeps.foldl
                | with_reducible apply Keeps.ite_fst | with_reducible apply Keeps.foldl_fst | split | dsimp only | (intro _; rfl) | (intro _; intros)
                | (refine Keeps.same (by rfl) (by rfl) (by rfl) (by rfl) ?_)

theorem State.writeReg_keeps {σ s : State} (pf : Nat) (win : Nat) (off : Nat) (size : Nat) (v : Nat) (t : Sys2Proof.Machine.SelfTest) (hσ : Keeps σ s)
    : Keeps σ (State.writeReg s pf win off size v t) := by
  unfold State.writeReg
  repeat' first | with_reducible assumption | with_reducible apply State.bar2Write_keeps | with_reducible apply State.bar4Write_keeps
                | with_reducible apply State.hrSetup_keeps | with_reducible apply State.violate_keeps | with_reducible apply State.setupWrite_keeps
                | with_reducible apply Keeps.ite | with_reducible apply Keeps.foldl | with_reducible apply Keeps.ite_fst
                | with_reducible apply Keeps.foldl_fst | split | dsimp only | (intro _; rfl) | (intro _; intros)

theorem State.writeField_keeps {σ s : State} (pf : Nat) (f : Sys2Proof.Machine.Field) (i : Nat) (v : Nat) (t : Sys2Proof.Machine.SelfTest) (hσ :
    Keeps σ s) : Keeps σ (State.writeField s pf f i v t) := by
  unfold State.writeField
  repeat' first | with_reducible assumption | with_reducible apply State.writeReg_keeps | with_reducible apply Keeps.ite
                | with_reducible apply Keeps.foldl | with_reducible apply Keeps.ite_fst | with_reducible apply Keeps.foldl_fst | split | dsimp only
                | (intro _; rfl) | (intro _; intros)

theorem State.readReg_keeps {σ s : State} (pf : Nat) (win : Nat) (off : Nat) (size : Nat) (hσ : Keeps σ s) : Keeps σ
    (State.readReg s pf win off size) := by
  unfold State.readReg
  repeat' first | with_reducible assumption | with_reducible apply State.mdataRead_keeps | with_reducible apply State.rcRead_keeps
                | with_reducible apply Keeps.ite | with_reducible apply Keeps.foldl | with_reducible apply Keeps.ite_fst
                | with_reducible apply Keeps.foldl_fst | split | dsimp only | (intro _; rfl) | (intro _; intros)
                | (refine Keeps.same (by rfl) (by rfl) (by rfl) (by rfl) ?_)

theorem execSetupWrite_keeps {σ s : State} (dt : Nat) (pf : Nat) (win : Nat) (off : Nat) (size : Nat) (v : Nat) (fail : Bool) (lost : Bool) (hσ :
    Keeps σ (s.tick dt)) : AKeeps σ (execSetupWrite dt pf win off size v fail lost s) := by
  unfold execSetupWrite
  refine ⟨_, rfl, ?_⟩
  repeat' first | with_reducible assumption | with_reducible apply State.done_keeps | with_reducible apply State.writeReg_keeps
                | with_reducible apply Keeps.ite | with_reducible apply Keeps.foldl | with_reducible apply Keeps.ite_fst
                | with_reducible apply Keeps.foldl_fst | split | dsimp only | (intro _; rfl) | (intro _; intros)

theorem execRcRead_keeps {σ s : State} (dt : Nat) (pf : Nat) (win : Nat) (off : Nat) (size : Nat) (hσ : Keeps σ (s.tick dt)) : AKeeps σ
    (execRcRead dt pf win off size s) := by
  unfold execRcRead
  refine ⟨_, rfl, ?_⟩
  repeat' first | with_reducible assumption | with_reducible apply State.done_keeps | with_reducible apply State.readReg_keeps
                | with_reducible apply Keeps.ite | with_reducible apply Keeps.foldl | with_reducible apply Keeps.ite_fst
                | with_reducible apply Keeps.foldl_fst | split | dsimp only | (intro _; rfl) | (intro _; intros)

theorem execNetDeclare_keeps {σ s : State} (dt : Nat) (pf : Nat) (v : Nat) (hσ : Keeps σ (s.tick dt)) : AKeeps σ (execNetDeclare dt pf v s) := by
  unfold execNetDeclare
  refine ⟨_, rfl, ?_⟩
  repeat' first | with_reducible assumption | with_reducible apply State.done_keeps | with_reducible apply State.writeField_keeps
                | with_reducible apply Keeps.ite | with_reducible apply Keeps.foldl | with_reducible apply Keeps.ite_fst
                | with_reducible apply Keeps.foldl_fst | split | dsimp only | (intro _; rfl) | (intro _; intros)

theorem execPaceRequest_keeps {σ s : State} (dt : Nat) (pf : Nat) (v : Nat) (hσ : Keeps σ (s.tick dt)) : AKeeps σ (execPaceRequest dt pf v s) := by
  unfold execPaceRequest
  refine ⟨_, rfl, ?_⟩
  repeat' first | with_reducible assumption | with_reducible apply State.done_keeps | with_reducible apply State.writeField_keeps
                | with_reducible apply Keeps.ite | with_reducible apply Keeps.foldl | with_reducible apply Keeps.ite_fst
                | with_reducible apply Keeps.foldl_fst | split | dsimp only | (intro _; rfl) | (intro _; intros)

theorem execW1cFaultClear_keeps {σ s : State} (dt : Nat) (pf : Nat) (win : Nat) (off : Nat) (v : Nat) (hσ : Keeps σ (s.tick dt)) : AKeeps σ
    (execW1cFaultClear dt pf win off v s) := by
  unfold execW1cFaultClear
  refine ⟨_, rfl, ?_⟩
  repeat' first | with_reducible assumption | with_reducible apply State.done_keeps | with_reducible apply State.writeReg_keeps
                | with_reducible apply Keeps.ite | with_reducible apply Keeps.foldl | with_reducible apply Keeps.ite_fst
                | with_reducible apply Keeps.foldl_fst | split | dsimp only | (intro _; rfl) | (intro _; intros)

theorem execLimpRelease_keeps {σ s : State} (dt : Nat) (pf : Nat) (hσ : Keeps σ (s.tick dt)) : AKeeps σ (execLimpRelease dt pf s) := by
  unfold execLimpRelease
  refine ⟨_, rfl, ?_⟩
  repeat' first | with_reducible assumption | with_reducible apply State.done_keeps | with_reducible apply State.writeReg_keeps
                | with_reducible apply Keeps.ite | with_reducible apply Keeps.foldl | with_reducible apply Keeps.ite_fst
                | with_reducible apply Keeps.foldl_fst | split | dsimp only | (intro _; rfl) | (intro _; intros)

theorem execTccommit_keeps {σ s : State} (dt : Nat) (pf : Nat) (v : Nat) (hσ : Keeps σ (s.tick dt)) : AKeeps σ (execTccommit dt pf v s) := by
  unfold execTccommit
  refine ⟨_, rfl, ?_⟩
  repeat' first | with_reducible assumption | with_reducible apply State.done_keeps | with_reducible apply State.writeReg_keeps
                | with_reducible apply Keeps.ite | with_reducible apply Keeps.foldl | with_reducible apply Keeps.ite_fst
                | with_reducible apply Keeps.foldl_fst | split | dsimp only | (intro _; rfl) | (intro _; intros)

theorem execMxSwapRequest_keeps {σ s : State} (dt : Nat) (pf : Nat) (hσ : Keeps σ (s.tick dt)) : AKeeps σ (execMxSwapRequest dt pf s) := by
  unfold execMxSwapRequest
  refine ⟨_, rfl, ?_⟩
  repeat' first | with_reducible assumption | with_reducible apply State.done_keeps | with_reducible apply State.writeReg_keeps
                | with_reducible apply Keeps.ite | with_reducible apply Keeps.foldl | with_reducible apply Keeps.ite_fst
                | with_reducible apply Keeps.foldl_fst | split | dsimp only | (intro _; rfl) | (intro _; intros)

theorem execCanEnable_keeps {σ s : State} (dt : Nat) (pf : Nat) (n : Nat) (fail : Bool) (hσ : Keeps σ (s.tick dt)) : AKeeps σ
    (execCanEnable dt pf n fail s) := by
  unfold execCanEnable
  refine ⟨_, rfl, ?_⟩
  repeat' first | with_reducible assumption | with_reducible apply State.done_keeps | with_reducible apply State.writeField_keeps
                | with_reducible apply Keeps.ite | with_reducible apply Keeps.foldl | with_reducible apply Keeps.ite_fst
                | with_reducible apply Keeps.foldl_fst | split | dsimp only | (intro _; rfl) | (intro _; intros)

theorem execRxqEnable_keeps {σ s : State} (dt : Nat) (pf : Nat) (g : Nat) (hσ : Keeps σ (s.tick dt)) : AKeeps σ (execRxqEnable dt pf g s) := by
  unfold execRxqEnable
  refine ⟨_, rfl, ?_⟩
  repeat' first | with_reducible assumption | with_reducible apply State.done_keeps | with_reducible apply State.writeField_keeps
                | with_reducible apply Keeps.ite | with_reducible apply Keeps.foldl | with_reducible apply Keeps.ite_fst
                | with_reducible apply Keeps.foldl_fst | split | dsimp only | (intro _; rfl) | (intro _; intros)

theorem execFitRead_keeps {σ s : State} (dt : Nat) (pf : Nat) (hσ : Keeps σ (s.tick dt)) : AKeeps σ (execFitRead dt pf s) := by
  unfold execFitRead
  refine ⟨_, rfl, ?_⟩
  repeat' first | with_reducible assumption | with_reducible apply State.done_keeps | with_reducible apply State.writeReg_keeps
                | with_reducible apply Keeps.ite | with_reducible apply Keeps.foldl | with_reducible apply Keeps.ite_fst
                | with_reducible apply Keeps.foldl_fst | split | dsimp only | (intro _; rfl) | (intro _; intros)

theorem execFitCommit_keeps {σ s : State} (dt : Nat) (pf : Nat) (hσ : Keeps σ (s.tick dt)) : AKeeps σ (execFitCommit dt pf s) := by
  unfold execFitCommit
  refine ⟨_, rfl, ?_⟩
  repeat' first | with_reducible assumption | with_reducible apply State.done_keeps | with_reducible apply State.writeReg_keeps
                | with_reducible apply Keeps.ite | with_reducible apply Keeps.foldl | with_reducible apply Keeps.ite_fst
                | with_reducible apply Keeps.foldl_fst | split | dsimp only | (intro _; rfl) | (intro _; intros)

theorem execFitClearCounters_keeps {σ s : State} (dt : Nat) (pf : Nat) (hσ : Keeps σ (s.tick dt)) : AKeeps σ (execFitClearCounters dt pf s) := by
  unfold execFitClearCounters
  refine ⟨_, rfl, ?_⟩
  repeat' first | with_reducible assumption | with_reducible apply State.done_keeps | with_reducible apply State.writeReg_keeps
                | with_reducible apply Keeps.ite | with_reducible apply Keeps.foldl | with_reducible apply Keeps.ite_fst
                | with_reducible apply Keeps.foldl_fst | split | dsimp only | (intro _; rfl) | (intro _; intros)

theorem execNmEnable_keeps {σ s : State} (dt : Nat) (pf : Nat) (g : Nat) (hσ : Keeps σ (s.tick dt)) : AKeeps σ (execNmEnable dt pf g s) := by
  unfold execNmEnable
  refine ⟨_, rfl, ?_⟩
  repeat' first | with_reducible assumption | with_reducible apply State.done_keeps | with_reducible apply State.writeField_keeps
                | with_reducible apply Keeps.ite | with_reducible apply Keeps.foldl | with_reducible apply Keeps.ite_fst
                | with_reducible apply Keeps.foldl_fst | split | dsimp only | (intro _; rfl) | (intro _; intros)

theorem execNmDisable_keeps {σ s : State} (dt : Nat) (pf : Nat) (g : Nat) (hσ : Keeps σ (s.tick dt)) : AKeeps σ (execNmDisable dt pf g s) := by
  unfold execNmDisable
  refine ⟨_, rfl, ?_⟩
  repeat' first | with_reducible assumption | with_reducible apply State.done_keeps | with_reducible apply State.writeField_keeps
                | with_reducible apply Keeps.ite | with_reducible apply Keeps.foldl | with_reducible apply Keeps.ite_fst
                | with_reducible apply Keeps.foldl_fst | split | dsimp only | (intro _; rfl) | (intro _; intros)

theorem execNodeTableClear_keeps {σ s : State} (dt : Nat) (pf : Nat) (g : Nat) (hσ : Keeps σ (s.tick dt)) : AKeeps σ
    (execNodeTableClear dt pf g s) := by
  unfold execNodeTableClear
  refine ⟨_, rfl, ?_⟩
  repeat' first | with_reducible assumption | with_reducible apply State.done_keeps | with_reducible apply State.writeReg_keeps
                | with_reducible apply Keeps.ite | with_reducible apply Keeps.foldl | with_reducible apply Keeps.ite_fst
                | with_reducible apply Keeps.foldl_fst | split | dsimp only | (intro _; rfl) | (intro _; intros)

theorem execTwEnable_keeps {σ s : State} (dt : Nat) (pf : Nat) (hσ : Keeps σ (s.tick dt)) : AKeeps σ (execTwEnable dt pf s) := by
  unfold execTwEnable
  refine ⟨_, rfl, ?_⟩
  repeat' first | with_reducible assumption | with_reducible apply State.done_keeps | with_reducible apply State.writeField_keeps
                | with_reducible apply Keeps.ite | with_reducible apply Keeps.foldl | with_reducible apply Keeps.ite_fst
                | with_reducible apply Keeps.foldl_fst | split | dsimp only | (intro _; rfl) | (intro _; intros)

theorem execTwDisable_keeps {σ s : State} (dt : Nat) (pf : Nat) (hσ : Keeps σ (s.tick dt)) : AKeeps σ (execTwDisable dt pf s) := by
  unfold execTwDisable
  refine ⟨_, rfl, ?_⟩
  repeat' first | with_reducible assumption | with_reducible apply State.done_keeps | with_reducible apply State.writeField_keeps
                | with_reducible apply Keeps.ite | with_reducible apply Keeps.foldl | with_reducible apply Keeps.ite_fst
                | with_reducible apply Keeps.foldl_fst | split | dsimp only | (intro _; rfl) | (intro _; intros)

theorem execFifeRun_keeps {σ s : State} (dt : Nat) (pf : Nat) (k : Nat) (hσ : Keeps σ (s.tick dt)) : AKeeps σ (execFifeRun dt pf k s) := by
  unfold execFifeRun
  refine ⟨_, rfl, ?_⟩
  repeat' first | with_reducible assumption | with_reducible apply State.done_keeps | with_reducible apply State.writeField_keeps
                | with_reducible apply Keeps.ite | with_reducible apply Keeps.foldl | with_reducible apply Keeps.ite_fst
                | with_reducible apply Keeps.foldl_fst | split | dsimp only | (intro _; rfl) | (intro _; intros)

theorem execFifeHalt_keeps {σ s : State} (dt : Nat) (pf : Nat) (k : Nat) (hσ : Keeps σ (s.tick dt)) : AKeeps σ (execFifeHalt dt pf k s) := by
  unfold execFifeHalt
  refine ⟨_, rfl, ?_⟩
  repeat' first | with_reducible assumption | with_reducible apply State.done_keeps | with_reducible apply State.writeField_keeps
                | with_reducible apply Keeps.ite | with_reducible apply Keeps.foldl | with_reducible apply Keeps.ite_fst
                | with_reducible apply Keeps.foldl_fst | split | dsimp only | (intro _; rfl) | (intro _; intros)

theorem execFifeRestart_keeps {σ s : State} (dt : Nat) (pf : Nat) (k : Nat) (hσ : Keeps σ (s.tick dt)) : AKeeps σ (execFifeRestart dt pf k s) := by
  unfold execFifeRestart
  refine ⟨_, rfl, ?_⟩
  repeat' first | with_reducible assumption | with_reducible apply State.done_keeps | with_reducible apply State.writeField_keeps
                | with_reducible apply Keeps.ite | with_reducible apply Keeps.foldl | with_reducible apply Keeps.ite_fst
                | with_reducible apply Keeps.foldl_fst | split | dsimp only | (intro _; rfl) | (intro _; intros)

theorem execFifeBist_keeps {σ s : State} (dt : Nat) (pf : Nat) (k : Nat) (fail : Bool) (lost : Bool) (hσ : Keeps σ (s.tick dt)) : AKeeps σ
    (execFifeBist dt pf k fail lost s) := by
  unfold execFifeBist
  refine ⟨_, rfl, ?_⟩
  repeat' first | with_reducible assumption | with_reducible apply State.done_keeps | with_reducible apply State.writeField_keeps
                | with_reducible apply Keeps.ite | with_reducible apply Keeps.foldl | with_reducible apply Keeps.ite_fst
                | with_reducible apply Keeps.foldl_fst | split | dsimp only | (intro _; rfl) | (intro _; intros)

theorem execFifeMemAccess_keeps {σ s : State} (dt : Nat) (pf : Nat) (w : Option Nat) (hσ : Keeps σ (s.tick dt)) : AKeeps σ
    (execFifeMemAccess dt pf w s) := by
  unfold execFifeMemAccess
  refine ⟨_, rfl, ?_⟩
  repeat' first | with_reducible assumption | with_reducible apply State.done_keeps | with_reducible apply State.readReg_keeps
                | with_reducible apply State.writeReg_keeps | with_reducible apply Keeps.ite | with_reducible apply Keeps.foldl
                | with_reducible apply Keeps.ite_fst | with_reducible apply Keeps.foldl_fst | split | dsimp only | (intro _; rfl) | (intro _; intros)

theorem execFltActiveClear_keeps {σ s : State} (dt : Nat) (pf : Nat) (w : Nat) (hσ : Keeps σ (s.tick dt)) : AKeeps σ
    (execFltActiveClear dt pf w s) := by
  unfold execFltActiveClear
  refine ⟨_, rfl, ?_⟩
  repeat' first | with_reducible assumption | with_reducible apply State.done_keeps | with_reducible apply State.writeReg_keeps
                | with_reducible apply Keeps.ite | with_reducible apply Keeps.foldl | with_reducible apply Keeps.ite_fst
                | with_reducible apply Keeps.foldl_fst | split | dsimp only | (intro _; rfl) | (intro _; intros)

theorem execFrzRel_keeps {σ s : State} (dt : Nat) (pf : Nat) (k : Nat) (reason : Nat) (hσ : Keeps σ (s.tick dt)) : AKeeps σ
    (execFrzRel dt pf k reason s) := by
  unfold execFrzRel
  refine ⟨_, rfl, ?_⟩
  repeat' first | with_reducible assumption | with_reducible apply State.done_keeps | with_reducible apply State.writeReg_keeps
                | with_reducible apply Keeps.ite | with_reducible apply Keeps.foldl | with_reducible apply Keeps.ite_fst
                | with_reducible apply Keeps.foldl_fst | split | dsimp only | (intro _; rfl) | (intro _; intros)

theorem execStopRequest_keeps {σ s : State} (dt : Nat) (pf : Nat) (force : Bool) (hσ : Keeps σ (s.tick dt)) : AKeeps σ
    (execStopRequest dt pf force s) := by
  unfold execStopRequest
  refine ⟨_, rfl, ?_⟩
  repeat' first | with_reducible assumption | with_reducible apply State.done_keeps | with_reducible apply State.writeReg_keeps
                | with_reducible apply Keeps.ite | with_reducible apply Keeps.foldl | with_reducible apply Keeps.ite_fst
                | with_reducible apply Keeps.foldl_fst | split | dsimp only | (intro _; rfl) | (intro _; intros)

theorem execDbgmaxWrite_keeps {σ s : State} (dt : Nat) (pf : Nat) (v : Nat) (hσ : Keeps σ (s.tick dt)) : AKeeps σ (execDbgmaxWrite dt pf v s) := by
  unfold execDbgmaxWrite
  refine ⟨_, rfl, ?_⟩
  repeat' first | with_reducible assumption | with_reducible apply State.done_keeps | with_reducible apply State.writeField_keeps
                | with_reducible apply Keeps.ite | with_reducible apply Keeps.foldl | with_reducible apply Keeps.ite_fst
                | with_reducible apply Keeps.foldl_fst | split | dsimp only | (intro _; rfl) | (intro _; intros)

theorem execDmaLock_keeps {σ s : State} (dt : Nat) (pf : Nat) (hσ : Keeps σ (s.tick dt)) : AKeeps σ (execDmaLock dt pf s) := by
  unfold execDmaLock
  refine ⟨_, rfl, ?_⟩
  repeat' first | with_reducible assumption | with_reducible apply State.done_keeps | with_reducible apply State.writeField_keeps
                | with_reducible apply Keeps.ite | with_reducible apply Keeps.foldl | with_reducible apply Keeps.ite_fst
                | with_reducible apply Keeps.foldl_fst | split | dsimp only | (intro _; rfl) | (intro _; intros)

theorem execAccSearch_keeps {σ s : State} (dt : Nat) (pf : Nat) (hσ : Keeps σ (s.tick dt)) : AKeeps σ (execAccSearch dt pf s) := by
  unfold execAccSearch
  refine ⟨_, rfl, ?_⟩
  repeat' first | with_reducible assumption | with_reducible apply State.done_keeps | with_reducible apply State.writeReg_keeps
                | with_reducible apply Keeps.ite | with_reducible apply Keeps.foldl | with_reducible apply Keeps.ite_fst
                | with_reducible apply Keeps.foldl_fst | split | dsimp only | (intro _; rfl) | (intro _; intros)

theorem execAccDeauth_keeps {σ s : State} (dt : Nat) (pf : Nat) (hσ : Keeps σ (s.tick dt)) : AKeeps σ (execAccDeauth dt pf s) := by
  unfold execAccDeauth
  refine ⟨_, rfl, ?_⟩
  repeat' first | with_reducible assumption | with_reducible apply State.done_keeps | with_reducible apply State.writeReg_keeps
                | with_reducible apply Keeps.ite | with_reducible apply Keeps.foldl | with_reducible apply Keeps.ite_fst
                | with_reducible apply Keeps.foldl_fst | split | dsimp only | (intro _; rfl) | (intro _; intros)

end Sys2Proof.Machine
end

