-- ==== Sys2Proof/Laws/Memory.lean ====
section
/-!
SUPPORT. Sys2Proof/Laws/Memory.lean: the memories of the cores and of the firmware slots: reading after a write, and the canonical form that every
write keeps.
-/
namespace Sys2Proof.Machine

theorem Memory.wf_iff (m : Tab Nat) : Memory.wf m = true ↔ tsorted m = true ∧ ∀ e ∈ m, e.2 ≠ 0 := by
  simp [Memory.wf, List.all_eq_true]

/-- An address below every listed one is not listed. -/
theorem tget_below {α : Type} (d : α) (t : Tab α) (k : Nat) (h : ∀ e ∈ t, k < e.1) : tget d t k = d := by
  induction t with
  | nil => rfl
  | cons x t ih =>
    obtain ⟨j, w⟩ := x
    have hj : k < j := h (j, w) (List.mem_cons_self ..)
    rw [tget, if_neg (by omega)]
    exact ih fun e he => h e (List.mem_cons_of_mem _ he)

/-- What a sorted table reads after an entry is removed. -/
theorem tget_tdel {α : Type} (d : α) (t : Tab α) (k j : Nat) (h : tsorted t = true) : tget d (tdel t k) j = if j = k then d else tget d t j := by
  induction t with
  | nil => simp [tdel, tget]
  | cons x t ih =>
    obtain ⟨i, w⟩ := x
    have hx := (tsorted_cons i w t).1 h
    rw [tdel]
    by_cases hi : i = k
    · subst hi
      rw [if_pos rfl, tget]
      by_cases hj : j = i
      · subst hj; rw [if_pos rfl]; exact tget_below d t j hx.1
      · rw [if_neg hj, if_neg (Ne.symm hj)]
    · rw [if_neg hi, tget, tget, ih hx.2]
      by_cases hj : i = j
      · subst hj; simp [hi]
      · simp [hj]

/-- A write keeps the canonical form. -/
theorem memPut_wf {m : Tab Nat} (a v : Nat) (h : Memory.wf m = true) : Memory.wf (memPut m a v) = true := by
  have hm := (Memory.wf_iff m).1 h
  rw [Memory.wf_iff, memPut]
  split
  · exact ⟨(tsorted_tdel a hm.1).1, fun e he => hm.2 e ((tsorted_tdel a hm.1).2 e he)⟩
  · next hv =>
    refine ⟨tsorted_tput a v hm.1, fun e he => ?_⟩
    rcases mem_tput he with rfl | he
    · exact hv
    · exact hm.2 e he

/-- What a memory reads after a write: the value at the address, the old word elsewhere. -/
theorem tget_memPut {m : Tab Nat} (a b v : Nat) (h : Memory.wf m = true) : tget 0 (memPut m a v) b = if b = a then v else tget 0 m b := by
  rw [memPut]
  split
  · next hv => subst hv; exact tget_tdel 0 m a b ((Memory.wf_iff m).1 h).1
  · exact tget_tput 0 m a b v

/-- Several writes keep the canonical form. -/
theorem memPuts_wf {α : Type} (l : List α) (a v : α → Nat) {m : Tab Nat} (h : Memory.wf m = true) :
    Memory.wf (l.foldl (fun m x => memPut m (a x) (v x)) m) = true := by
  induction l generalizing m with
  | nil => exact h
  | cons x l ih => exact ih (memPut_wf _ _ h)

/-- Equal memories are equal lists. -/
theorem Memory.ext_wf {m n : Tab Nat} (hm : Memory.wf m = true) (hn : Memory.wf n = true) (h : ∀ a, tget 0 m a = tget 0 n a) : m = n := by
  induction m generalizing n with
  | nil =>
    cases n with
    | nil => rfl
    | cons y n =>
      obtain ⟨j, w⟩ := y
      have := h j
      simp only [tget] at this
      exact absurd this.symm (((Memory.wf_iff _).1 hn).2 (j, w) (List.mem_cons_self ..))
  | cons x m ih =>
    obtain ⟨i, v⟩ := x
    have hm' := (Memory.wf_iff _).1 hm
    have hmx := (tsorted_cons i v m).1 hm'.1
    have hv : v ≠ 0 := hm'.2 (i, v) (List.mem_cons_self ..)
    cases n with
    | nil => exact absurd (by simpa [tget] using h i) hv
    | cons y n =>
      obtain ⟨j, w⟩ := y
      have hn' := (Memory.wf_iff _).1 hn
      have hnx := (tsorted_cons j w n).1 hn'.1
      have hw : w ≠ 0 := hn'.2 (j, w) (List.mem_cons_self ..)
      have hij : i = j := by
        rcases Nat.lt_trichotomy i j with hlt | heq | hgt
        · have e := h i
          rw [tget, if_pos rfl, tget, if_neg (by omega), tget_below 0 n i fun e he => Nat.lt_trans hlt (hnx.1 e he)] at e
          exact absurd e hv
        · exact heq
        · have e := h j
          rw [tget, if_neg (by omega), tget_below 0 m j fun e he => Nat.lt_trans hgt (hmx.1 e he), tget, if_pos rfl] at e
          exact absurd e.symm hw
      subst hij
      have hvw : v = w := by simpa [tget] using h i
      subst hvw
      congr 1
      refine ih ((Memory.wf_iff _).2 ⟨hmx.2, fun e he => hm'.2 e (List.mem_cons_of_mem _ he)⟩)
        ((Memory.wf_iff _).2 ⟨hnx.2, fun e he => hn'.2 e (List.mem_cons_of_mem _ he)⟩) fun a => ?_
      by_cases ha : i = a
      · subst ha; rw [tget_below 0 m i hmx.1, tget_below 0 n i hnx.1]
      · have e := h a
        rwa [tget, if_neg ha, tget, if_neg ha] at e

/-- A store of a core keeps its data memory canonical (R754). -/
theorem Core.fire_dmem_wf (c : Core) (sk v : Nat) (h : Memory.wf c.dmem = true) : Memory.wf (c.fire sk v).dmem = true := by
  unfold Core.fire
  repeat' split
  all_goals first | exact memPut_wf _ _ h | exact h

/-- The memories of the machine right after reset. -/
theorem reset_memories_wf (k : Nat) : Memory.wf (State.reset.coreK k).dmem = true ∧ Memory.wf (State.reset.slot 0).bytes = true := by
  constructor
  · unfold State.coreK; repeat' split
    all_goals rfl
  · rfl

end Sys2Proof.Machine
end

