-- ==== Sys2Proof/Laws/Ops.lean ====
section
/-!
SUPPORT. Sys2Proof/Laws/Ops.lean: what the shared operations do, for the proofs that meet them: a command that starts its service, a record and a firmware
image that pass every check, bytes and numbers, token frames.
-/
namespace Sys2Proof.Machine

/-- A command that starts is served by its body in the state in which it meets its block (R116 to R118). -/
theorem State.serveOp_starts {s : State} {dt : Ns} {c : Cmd} {op : Nat} {ks : List Kind} (h : s.starts dt c op ks = true) (body : State → State) :
    s.serveOp dt c op ks body = body (s.taken dt c) := by
  unfold State.starts at h
  simp only [Bool.and_eq_true, Bool.not_eq_true', and_assoc] at h
  obtain ⟨h1, h3, h4⟩ := h
  unfold State.serveOp State.serve State.taken
  simp [h1, h3, h4]

/-- The other conditions of a command are looked at in their order: one that holds decides. -/
theorem firstBar_cons_some (b : Code × Nat) (l : List (Option (Code × Nat))) : firstBar (some b :: l) = some b := rfl
theorem firstBar_cons_none (l : List (Option (Code × Nat))) : firstBar (none :: l) = firstBar l := rfl

/-- A record that passes every check of R851 has no bar. -/
theorem State.recBar_none {s : State} {r : List Byte} {sig : Bool} {u : RecRule}
    (h1 : (!(u.defined (recNum r 0 2) (recNum r 17 1)) || recNum r 2 2 != 0 || recNum r 18 2 != 0 || recNum r 255 1 != 0) = false)
    (h2 : (recNum r 4 8 != s.nv.serial) = false)
    (h3 : (decide (recNum r 16 1 < 3) && (s.nv.keySlot (recNum r 16 1)).programmed && !(s.nv.keySlot (recNum r 16 1)).revoked) = true)
    (h4 : sig = true) (h5 : shake (recBytes r 84 57) = (s.nv.keySlot (recNum r 16 1)).digest)
    (h6 : (u.counted && decide (recNum r 12 4 ≤ s.nv.secCtr)) = false) (h7 : u.admitted = true) : s.recBar r sig u = none := by
  unfold State.recBar
  simp only [h1, h2, h3, h4, h5, h6, h7]
  simp [barIf, firstBar]

/-- A number that fits in `n` bytes reads back from them. -/
theorem ofLe_leBytes (n v : Nat) : ofLe ((leBytes n v).map (· % 256)) = v % 256 ^ n := by
  induction n generalizing v with
  | zero => simp [leBytes, ofLe, Nat.mod_one]
  | succ n ih =>
    simp only [leBytes, List.map_cons, ofLe]
    rw [ih, Nat.pow_succ, Nat.mul_comm (256 ^ n), Nat.mod_mul]
    omega

/-- An image that passes the checks of R909 fails none. -/
theorem State.imageFail_zero {s : State} {f : FwSlot} {sig : Bool} (h1 : (f.headerOk && decide (128 ≤ f.bodyLen) && (List.range 16).all f.sectionOk) = true)
    (h2 : shake (f.bytesAt 512 f.bodyLen) = f.num 32 64)
    (h3 : (decide (f.signer < 3) && (s.nv.keySlot f.signer).programmed && !(s.nv.keySlot f.signer).revoked) = true)
    (h4 : shake (f.bytesAt 104 57) = (s.nv.keySlot f.signer).digest) (h5 : sig = true) (h6 : ¬ f.svn < s.nv.fusedSvn) :
    s.imageFail f sig = 0 := by
  have e : f.formOk = true := by unfold FwSlot.formOk; rw [h1, h2]; simp
  unfold State.imageFail
  simp only [e, h3, h4, h5, h6]
  simp

/-- A frame that ends with its CRC is a valid frame (R883). -/
theorem tokenFrameOk_crc (l : List Byte) (h : 1 ≤ l.length) : tokenFrameOk (l ++ [crc8 l]) = true := by
  have e : (l ++ [crc8 l]).dropLast = l := by simp
  simp only [tokenFrameOk, e]
  simp; omega

end Sys2Proof.Machine
end

