-- ==== Sys2Proof/Laws/State.lean ====
section
/-!
SUPPORT. Sys2Proof/Laws/State.lean: one lemma for each component of State and each update that touches one component: the others stand.
-/
namespace Sys2Proof.Machine

-- tick changes now only.
@[simp] theorem State.tick_pending (s : State) (dt : Ns) : (s.tick dt).pending = s.pending := rfl
@[simp] theorem State.tick_regs (s : State) (dt : Ns) : (s.tick dt).regs = s.regs := rfl
@[simp] theorem State.tick_host (s : State) (dt : Ns) : (s.tick dt).host = s.host := rfl
@[simp] theorem State.tick_flt (s : State) (dt : Ns) : (s.tick dt).flt = s.flt := rfl
@[simp] theorem State.tick_pwr (s : State) (dt : Ns) : (s.tick dt).pwr = s.pwr := rfl
@[simp] theorem State.tick_arb (s : State) (dt : Ns) : (s.tick dt).arb = s.arb := rfl
@[simp] theorem State.tick_out (s : State) (dt : Ns) : (s.tick dt).out = s.out := rfl
@[simp] theorem State.tick_inp (s : State) (dt : Ns) : (s.tick dt).inp = s.inp := rfl
@[simp] theorem State.tick_net (s : State) (dt : Ns) : (s.tick dt).net = s.net := rfl
@[simp] theorem State.tick_twin (s : State) (dt : Ns) : (s.tick dt).twin = s.twin := rfl
@[simp] theorem State.tick_core (s : State) (dt : Ns) : (s.tick dt).core = s.core := rfl
@[simp] theorem State.tick_nv (s : State) (dt : Ns) : (s.tick dt).nv = s.nv := rfl
@[simp] theorem State.tick_sec (s : State) (dt : Ns) : (s.tick dt).sec = s.sec := rfl
@[simp] theorem State.tick_acc (s : State) (dt : Ns) : (s.tick dt).acc = s.acc := rfl

-- setFn changes host only.
@[simp] theorem State.setFn_now (s : State) (k : Nat) (f : Func) : (s.setFn k f).now = s.now := rfl
@[simp] theorem State.setFn_ntime (s : State) (k : Nat) (f : Func) : (s.setFn k f).ntime = s.ntime := rfl
@[simp] theorem State.setFn_pending (s : State) (k : Nat) (f : Func) : (s.setFn k f).pending = s.pending := rfl
@[simp] theorem State.setFn_regs (s : State) (k : Nat) (f : Func) : (s.setFn k f).regs = s.regs := rfl
@[simp] theorem State.setFn_flt (s : State) (k : Nat) (f : Func) : (s.setFn k f).flt = s.flt := rfl
@[simp] theorem State.setFn_pwr (s : State) (k : Nat) (f : Func) : (s.setFn k f).pwr = s.pwr := rfl
@[simp] theorem State.setFn_arb (s : State) (k : Nat) (f : Func) : (s.setFn k f).arb = s.arb := rfl
@[simp] theorem State.setFn_out (s : State) (k : Nat) (f : Func) : (s.setFn k f).out = s.out := rfl
@[simp] theorem State.setFn_inp (s : State) (k : Nat) (f : Func) : (s.setFn k f).inp = s.inp := rfl
@[simp] theorem State.setFn_net (s : State) (k : Nat) (f : Func) : (s.setFn k f).net = s.net := rfl
@[simp] theorem State.setFn_twin (s : State) (k : Nat) (f : Func) : (s.setFn k f).twin = s.twin := rfl
@[simp] theorem State.setFn_core (s : State) (k : Nat) (f : Func) : (s.setFn k f).core = s.core := rfl
@[simp] theorem State.setFn_nv (s : State) (k : Nat) (f : Func) : (s.setFn k f).nv = s.nv := rfl
@[simp] theorem State.setFn_sec (s : State) (k : Nat) (f : Func) : (s.setFn k f).sec = s.sec := rfl
@[simp] theorem State.setFn_acc (s : State) (k : Nat) (f : Func) : (s.setFn k f).acc = s.acc := rfl

-- setCmdRing changes host only.
@[simp] theorem State.setCmdRing_now (s : State) (pf n : Nat) (r : CmdRing) : (s.setCmdRing pf n r).now = s.now := rfl
@[simp] theorem State.setCmdRing_ntime (s : State) (pf n : Nat) (r : CmdRing) : (s.setCmdRing pf n r).ntime = s.ntime := rfl
@[simp] theorem State.setCmdRing_pending (s : State) (pf n : Nat) (r : CmdRing) : (s.setCmdRing pf n r).pending = s.pending := rfl
@[simp] theorem State.setCmdRing_regs (s : State) (pf n : Nat) (r : CmdRing) : (s.setCmdRing pf n r).regs = s.regs := rfl
@[simp] theorem State.setCmdRing_flt (s : State) (pf n : Nat) (r : CmdRing) : (s.setCmdRing pf n r).flt = s.flt := rfl
@[simp] theorem State.setCmdRing_pwr (s : State) (pf n : Nat) (r : CmdRing) : (s.setCmdRing pf n r).pwr = s.pwr := rfl
@[simp] theorem State.setCmdRing_arb (s : State) (pf n : Nat) (r : CmdRing) : (s.setCmdRing pf n r).arb = s.arb := rfl
@[simp] theorem State.setCmdRing_out (s : State) (pf n : Nat) (r : CmdRing) : (s.setCmdRing pf n r).out = s.out := rfl
@[simp] theorem State.setCmdRing_inp (s : State) (pf n : Nat) (r : CmdRing) : (s.setCmdRing pf n r).inp = s.inp := rfl
@[simp] theorem State.setCmdRing_net (s : State) (pf n : Nat) (r : CmdRing) : (s.setCmdRing pf n r).net = s.net := rfl
@[simp] theorem State.setCmdRing_twin (s : State) (pf n : Nat) (r : CmdRing) : (s.setCmdRing pf n r).twin = s.twin := rfl
@[simp] theorem State.setCmdRing_core (s : State) (pf n : Nat) (r : CmdRing) : (s.setCmdRing pf n r).core = s.core := rfl
@[simp] theorem State.setCmdRing_nv (s : State) (pf n : Nat) (r : CmdRing) : (s.setCmdRing pf n r).nv = s.nv := rfl
@[simp] theorem State.setCmdRing_sec (s : State) (pf n : Nat) (r : CmdRing) : (s.setCmdRing pf n r).sec = s.sec := rfl
@[simp] theorem State.setCmdRing_acc (s : State) (pf n : Nat) (r : CmdRing) : (s.setCmdRing pf n r).acc = s.acc := rfl

-- setCplRing changes host only.
@[simp] theorem State.setCplRing_now (s : State) (pf m : Nat) (r : OutRing) : (s.setCplRing pf m r).now = s.now := rfl
@[simp] theorem State.setCplRing_ntime (s : State) (pf m : Nat) (r : OutRing) : (s.setCplRing pf m r).ntime = s.ntime := rfl
@[simp] theorem State.setCplRing_pending (s : State) (pf m : Nat) (r : OutRing) : (s.setCplRing pf m r).pending = s.pending := rfl
@[simp] theorem State.setCplRing_regs (s : State) (pf m : Nat) (r : OutRing) : (s.setCplRing pf m r).regs = s.regs := rfl
@[simp] theorem State.setCplRing_flt (s : State) (pf m : Nat) (r : OutRing) : (s.setCplRing pf m r).flt = s.flt := rfl
@[simp] theorem State.setCplRing_pwr (s : State) (pf m : Nat) (r : OutRing) : (s.setCplRing pf m r).pwr = s.pwr := rfl
@[simp] theorem State.setCplRing_arb (s : State) (pf m : Nat) (r : OutRing) : (s.setCplRing pf m r).arb = s.arb := rfl
@[simp] theorem State.setCplRing_out (s : State) (pf m : Nat) (r : OutRing) : (s.setCplRing pf m r).out = s.out := rfl
@[simp] theorem State.setCplRing_inp (s : State) (pf m : Nat) (r : OutRing) : (s.setCplRing pf m r).inp = s.inp := rfl
@[simp] theorem State.setCplRing_net (s : State) (pf m : Nat) (r : OutRing) : (s.setCplRing pf m r).net = s.net := rfl
@[simp] theorem State.setCplRing_twin (s : State) (pf m : Nat) (r : OutRing) : (s.setCplRing pf m r).twin = s.twin := rfl
@[simp] theorem State.setCplRing_core (s : State) (pf m : Nat) (r : OutRing) : (s.setCplRing pf m r).core = s.core := rfl
@[simp] theorem State.setCplRing_nv (s : State) (pf m : Nat) (r : OutRing) : (s.setCplRing pf m r).nv = s.nv := rfl
@[simp] theorem State.setCplRing_sec (s : State) (pf m : Nat) (r : OutRing) : (s.setCplRing pf m r).sec = s.sec := rfl
@[simp] theorem State.setCplRing_acc (s : State) (pf m : Nat) (r : OutRing) : (s.setCplRing pf m r).acc = s.acc := rfl

-- setEvtRing changes host only.
@[simp] theorem State.setEvtRing_now (s : State) (pf : Nat) (r : OutRing) : (s.setEvtRing pf r).now = s.now := rfl
@[simp] theorem State.setEvtRing_ntime (s : State) (pf : Nat) (r : OutRing) : (s.setEvtRing pf r).ntime = s.ntime := rfl
@[simp] theorem State.setEvtRing_pending (s : State) (pf : Nat) (r : OutRing) : (s.setEvtRing pf r).pending = s.pending := rfl
@[simp] theorem State.setEvtRing_regs (s : State) (pf : Nat) (r : OutRing) : (s.setEvtRing pf r).regs = s.regs := rfl
@[simp] theorem State.setEvtRing_flt (s : State) (pf : Nat) (r : OutRing) : (s.setEvtRing pf r).flt = s.flt := rfl
@[simp] theorem State.setEvtRing_pwr (s : State) (pf : Nat) (r : OutRing) : (s.setEvtRing pf r).pwr = s.pwr := rfl
@[simp] theorem State.setEvtRing_arb (s : State) (pf : Nat) (r : OutRing) : (s.setEvtRing pf r).arb = s.arb := rfl
@[simp] theorem State.setEvtRing_out (s : State) (pf : Nat) (r : OutRing) : (s.setEvtRing pf r).out = s.out := rfl
@[simp] theorem State.setEvtRing_inp (s : State) (pf : Nat) (r : OutRing) : (s.setEvtRing pf r).inp = s.inp := rfl
@[simp] theorem State.setEvtRing_net (s : State) (pf : Nat) (r : OutRing) : (s.setEvtRing pf r).net = s.net := rfl
@[simp] theorem State.setEvtRing_twin (s : State) (pf : Nat) (r : OutRing) : (s.setEvtRing pf r).twin = s.twin := rfl
@[simp] theorem State.setEvtRing_core (s : State) (pf : Nat) (r : OutRing) : (s.setEvtRing pf r).core = s.core := rfl
@[simp] theorem State.setEvtRing_nv (s : State) (pf : Nat) (r : OutRing) : (s.setEvtRing pf r).nv = s.nv := rfl
@[simp] theorem State.setEvtRing_sec (s : State) (pf : Nat) (r : OutRing) : (s.setEvtRing pf r).sec = s.sec := rfl
@[simp] theorem State.setEvtRing_acc (s : State) (pf : Nat) (r : OutRing) : (s.setEvtRing pf r).acc = s.acc := rfl

-- modFlight changes host only.
@[simp] theorem State.modFlight_now (s : State) (c : Cmd) (f : InFlight → InFlight) : (s.modFlight c f).now = s.now := rfl
@[simp] theorem State.modFlight_ntime (s : State) (c : Cmd) (f : InFlight → InFlight) : (s.modFlight c f).ntime = s.ntime := rfl
@[simp] theorem State.modFlight_pending (s : State) (c : Cmd) (f : InFlight → InFlight) : (s.modFlight c f).pending = s.pending := rfl
@[simp] theorem State.modFlight_regs (s : State) (c : Cmd) (f : InFlight → InFlight) : (s.modFlight c f).regs = s.regs := rfl
@[simp] theorem State.modFlight_flt (s : State) (c : Cmd) (f : InFlight → InFlight) : (s.modFlight c f).flt = s.flt := rfl
@[simp] theorem State.modFlight_pwr (s : State) (c : Cmd) (f : InFlight → InFlight) : (s.modFlight c f).pwr = s.pwr := rfl
@[simp] theorem State.modFlight_arb (s : State) (c : Cmd) (f : InFlight → InFlight) : (s.modFlight c f).arb = s.arb := rfl
@[simp] theorem State.modFlight_out (s : State) (c : Cmd) (f : InFlight → InFlight) : (s.modFlight c f).out = s.out := rfl
@[simp] theorem State.modFlight_inp (s : State) (c : Cmd) (f : InFlight → InFlight) : (s.modFlight c f).inp = s.inp := rfl
@[simp] theorem State.modFlight_net (s : State) (c : Cmd) (f : InFlight → InFlight) : (s.modFlight c f).net = s.net := rfl
@[simp] theorem State.modFlight_twin (s : State) (c : Cmd) (f : InFlight → InFlight) : (s.modFlight c f).twin = s.twin := rfl
@[simp] theorem State.modFlight_core (s : State) (c : Cmd) (f : InFlight → InFlight) : (s.modFlight c f).core = s.core := rfl
@[simp] theorem State.modFlight_nv (s : State) (c : Cmd) (f : InFlight → InFlight) : (s.modFlight c f).nv = s.nv := rfl
@[simp] theorem State.modFlight_sec (s : State) (c : Cmd) (f : InFlight → InFlight) : (s.modFlight c f).sec = s.sec := rfl
@[simp] theorem State.modFlight_acc (s : State) (c : Cmd) (f : InFlight → InFlight) : (s.modFlight c f).acc = s.acc := rfl

-- dropFlight changes host only.
@[simp] theorem State.dropFlight_now (s : State) (c : Cmd) : (s.dropFlight c).now = s.now := rfl
@[simp] theorem State.dropFlight_ntime (s : State) (c : Cmd) : (s.dropFlight c).ntime = s.ntime := rfl
@[simp] theorem State.dropFlight_pending (s : State) (c : Cmd) : (s.dropFlight c).pending = s.pending := rfl
@[simp] theorem State.dropFlight_regs (s : State) (c : Cmd) : (s.dropFlight c).regs = s.regs := rfl
@[simp] theorem State.dropFlight_flt (s : State) (c : Cmd) : (s.dropFlight c).flt = s.flt := rfl
@[simp] theorem State.dropFlight_pwr (s : State) (c : Cmd) : (s.dropFlight c).pwr = s.pwr := rfl
@[simp] theorem State.dropFlight_arb (s : State) (c : Cmd) : (s.dropFlight c).arb = s.arb := rfl
@[simp] theorem State.dropFlight_out (s : State) (c : Cmd) : (s.dropFlight c).out = s.out := rfl
@[simp] theorem State.dropFlight_inp (s : State) (c : Cmd) : (s.dropFlight c).inp = s.inp := rfl
@[simp] theorem State.dropFlight_net (s : State) (c : Cmd) : (s.dropFlight c).net = s.net := rfl
@[simp] theorem State.dropFlight_twin (s : State) (c : Cmd) : (s.dropFlight c).twin = s.twin := rfl
@[simp] theorem State.dropFlight_core (s : State) (c : Cmd) : (s.dropFlight c).core = s.core := rfl
@[simp] theorem State.dropFlight_nv (s : State) (c : Cmd) : (s.dropFlight c).nv = s.nv := rfl
@[simp] theorem State.dropFlight_sec (s : State) (c : Cmd) : (s.dropFlight c).sec = s.sec := rfl
@[simp] theorem State.dropFlight_acc (s : State) (c : Cmd) : (s.dropFlight c).acc = s.acc := rfl

-- completeFlight changes host only.
@[simp] theorem State.completeFlight_now (s : State) (c : Cmd) (code : Code) (sub : Nat) : (s.completeFlight c code sub).now = s.now := rfl
@[simp] theorem State.completeFlight_ntime (s : State) (c : Cmd) (code : Code) (sub : Nat) : (s.completeFlight c code sub).ntime = s.ntime := rfl
@[simp] theorem State.completeFlight_pending (s : State) (c : Cmd) (code : Code) (sub : Nat) : (s.completeFlight c code sub).pending = s.pending := rfl
@[simp] theorem State.completeFlight_regs (s : State) (c : Cmd) (code : Code) (sub : Nat) : (s.completeFlight c code sub).regs = s.regs := rfl
@[simp] theorem State.completeFlight_flt (s : State) (c : Cmd) (code : Code) (sub : Nat) : (s.completeFlight c code sub).flt = s.flt := rfl
@[simp] theorem State.completeFlight_pwr (s : State) (c : Cmd) (code : Code) (sub : Nat) : (s.completeFlight c code sub).pwr = s.pwr := rfl
@[simp] theorem State.completeFlight_arb (s : State) (c : Cmd) (code : Code) (sub : Nat) : (s.completeFlight c code sub).arb = s.arb := rfl
@[simp] theorem State.completeFlight_out (s : State) (c : Cmd) (code : Code) (sub : Nat) : (s.completeFlight c code sub).out = s.out := rfl
@[simp] theorem State.completeFlight_inp (s : State) (c : Cmd) (code : Code) (sub : Nat) : (s.completeFlight c code sub).inp = s.inp := rfl
@[simp] theorem State.completeFlight_net (s : State) (c : Cmd) (code : Code) (sub : Nat) : (s.completeFlight c code sub).net = s.net := rfl
@[simp] theorem State.completeFlight_twin (s : State) (c : Cmd) (code : Code) (sub : Nat) : (s.completeFlight c code sub).twin = s.twin := rfl
@[simp] theorem State.completeFlight_core (s : State) (c : Cmd) (code : Code) (sub : Nat) : (s.completeFlight c code sub).core = s.core := rfl
@[simp] theorem State.completeFlight_nv (s : State) (c : Cmd) (code : Code) (sub : Nat) : (s.completeFlight c code sub).nv = s.nv := rfl
@[simp] theorem State.completeFlight_sec (s : State) (c : Cmd) (code : Code) (sub : Nat) : (s.completeFlight c code sub).sec = s.sec := rfl
@[simp] theorem State.completeFlight_acc (s : State) (c : Cmd) (code : Code) (sub : Nat) : (s.completeFlight c code sub).acc = s.acc := rfl

-- pushFlight changes host only.
@[simp] theorem State.pushFlight_now (s : State) (c : Cmd) : (s.pushFlight c).now = s.now := rfl
@[simp] theorem State.pushFlight_ntime (s : State) (c : Cmd) : (s.pushFlight c).ntime = s.ntime := rfl
@[simp] theorem State.pushFlight_pending (s : State) (c : Cmd) : (s.pushFlight c).pending = s.pending := rfl
@[simp] theorem State.pushFlight_regs (s : State) (c : Cmd) : (s.pushFlight c).regs = s.regs := rfl
@[simp] theorem State.pushFlight_flt (s : State) (c : Cmd) : (s.pushFlight c).flt = s.flt := rfl
@[simp] theorem State.pushFlight_pwr (s : State) (c : Cmd) : (s.pushFlight c).pwr = s.pwr := rfl
@[simp] theorem State.pushFlight_arb (s : State) (c : Cmd) : (s.pushFlight c).arb = s.arb := rfl
@[simp] theorem State.pushFlight_out (s : State) (c : Cmd) : (s.pushFlight c).out = s.out := rfl
@[simp] theorem State.pushFlight_inp (s : State) (c : Cmd) : (s.pushFlight c).inp = s.inp := rfl
@[simp] theorem State.pushFlight_net (s : State) (c : Cmd) : (s.pushFlight c).net = s.net := rfl
@[simp] theorem State.pushFlight_twin (s : State) (c : Cmd) : (s.pushFlight c).twin = s.twin := rfl
@[simp] theorem State.pushFlight_core (s : State) (c : Cmd) : (s.pushFlight c).core = s.core := rfl
@[simp] theorem State.pushFlight_nv (s : State) (c : Cmd) : (s.pushFlight c).nv = s.nv := rfl
@[simp] theorem State.pushFlight_sec (s : State) (c : Cmd) : (s.pushFlight c).sec = s.sec := rfl
@[simp] theorem State.pushFlight_acc (s : State) (c : Cmd) : (s.pushFlight c).acc = s.acc := rfl

-- postResult changes host only.
@[simp] theorem State.postResult_now (s : State) (pf addr : Nat) (bytes : List Byte) : (s.postResult pf addr bytes).now = s.now := rfl
@[simp] theorem State.postResult_ntime (s : State) (pf addr : Nat) (bytes : List Byte) : (s.postResult pf addr bytes).ntime = s.ntime := rfl
@[simp] theorem State.postResult_pending (s : State) (pf addr : Nat) (bytes : List Byte) : (s.postResult pf addr bytes).pending = s.pending := rfl
@[simp] theorem State.postResult_regs (s : State) (pf addr : Nat) (bytes : List Byte) : (s.postResult pf addr bytes).regs = s.regs := rfl
@[simp] theorem State.postResult_flt (s : State) (pf addr : Nat) (bytes : List Byte) : (s.postResult pf addr bytes).flt = s.flt := rfl
@[simp] theorem State.postResult_pwr (s : State) (pf addr : Nat) (bytes : List Byte) : (s.postResult pf addr bytes).pwr = s.pwr := rfl
@[simp] theorem State.postResult_arb (s : State) (pf addr : Nat) (bytes : List Byte) : (s.postResult pf addr bytes).arb = s.arb := rfl
@[simp] theorem State.postResult_out (s : State) (pf addr : Nat) (bytes : List Byte) : (s.postResult pf addr bytes).out = s.out := rfl
@[simp] theorem State.postResult_inp (s : State) (pf addr : Nat) (bytes : List Byte) : (s.postResult pf addr bytes).inp = s.inp := rfl
@[simp] theorem State.postResult_net (s : State) (pf addr : Nat) (bytes : List Byte) : (s.postResult pf addr bytes).net = s.net := rfl
@[simp] theorem State.postResult_twin (s : State) (pf addr : Nat) (bytes : List Byte) : (s.postResult pf addr bytes).twin = s.twin := rfl
@[simp] theorem State.postResult_core (s : State) (pf addr : Nat) (bytes : List Byte) : (s.postResult pf addr bytes).core = s.core := rfl
@[simp] theorem State.postResult_nv (s : State) (pf addr : Nat) (bytes : List Byte) : (s.postResult pf addr bytes).nv = s.nv := rfl
@[simp] theorem State.postResult_sec (s : State) (pf addr : Nat) (bytes : List Byte) : (s.postResult pf addr bytes).sec = s.sec := rfl
@[simp] theorem State.postResult_acc (s : State) (pf addr : Nat) (bytes : List Byte) : (s.postResult pf addr bytes).acc = s.acc := rfl

-- alsoIn changes flt only.
@[simp] theorem State.alsoIn_now (s : State) (w type obj data : Nat) (refused : Bool) : (s.alsoIn w type obj data refused).now = s.now := rfl
@[simp] theorem State.alsoIn_ntime (s : State) (w type obj data : Nat) (refused : Bool) : (s.alsoIn w type obj data refused).ntime = s.ntime := rfl
@[simp] theorem State.alsoIn_pending (s : State) (w type obj data : Nat) (refused : Bool) : (s.alsoIn w type obj data refused).pending = s.pending := rfl
@[simp] theorem State.alsoIn_regs (s : State) (w type obj data : Nat) (refused : Bool) : (s.alsoIn w type obj data refused).regs = s.regs := rfl
@[simp] theorem State.alsoIn_host (s : State) (w type obj data : Nat) (refused : Bool) : (s.alsoIn w type obj data refused).host = s.host := rfl
@[simp] theorem State.alsoIn_pwr (s : State) (w type obj data : Nat) (refused : Bool) : (s.alsoIn w type obj data refused).pwr = s.pwr := rfl
@[simp] theorem State.alsoIn_arb (s : State) (w type obj data : Nat) (refused : Bool) : (s.alsoIn w type obj data refused).arb = s.arb := rfl
@[simp] theorem State.alsoIn_out (s : State) (w type obj data : Nat) (refused : Bool) : (s.alsoIn w type obj data refused).out = s.out := rfl
@[simp] theorem State.alsoIn_inp (s : State) (w type obj data : Nat) (refused : Bool) : (s.alsoIn w type obj data refused).inp = s.inp := rfl
@[simp] theorem State.alsoIn_net (s : State) (w type obj data : Nat) (refused : Bool) : (s.alsoIn w type obj data refused).net = s.net := rfl
@[simp] theorem State.alsoIn_twin (s : State) (w type obj data : Nat) (refused : Bool) : (s.alsoIn w type obj data refused).twin = s.twin := rfl
@[simp] theorem State.alsoIn_core (s : State) (w type obj data : Nat) (refused : Bool) : (s.alsoIn w type obj data refused).core = s.core := rfl
@[simp] theorem State.alsoIn_nv (s : State) (w type obj data : Nat) (refused : Bool) : (s.alsoIn w type obj data refused).nv = s.nv := rfl
@[simp] theorem State.alsoIn_sec (s : State) (w type obj data : Nat) (refused : Bool) : (s.alsoIn w type obj data refused).sec = s.sec := rfl
@[simp] theorem State.alsoIn_acc (s : State) (w type obj data : Nat) (refused : Bool) : (s.alsoIn w type obj data refused).acc = s.acc := rfl

-- setLoad changes arb only.
@[simp] theorem State.setLoad_now (s : State) (o : Nat) (l : Load) : (s.setLoad o l).now = s.now := rfl
@[simp] theorem State.setLoad_ntime (s : State) (o : Nat) (l : Load) : (s.setLoad o l).ntime = s.ntime := rfl
@[simp] theorem State.setLoad_pending (s : State) (o : Nat) (l : Load) : (s.setLoad o l).pending = s.pending := rfl
@[simp] theorem State.setLoad_regs (s : State) (o : Nat) (l : Load) : (s.setLoad o l).regs = s.regs := rfl
@[simp] theorem State.setLoad_host (s : State) (o : Nat) (l : Load) : (s.setLoad o l).host = s.host := rfl
@[simp] theorem State.setLoad_flt (s : State) (o : Nat) (l : Load) : (s.setLoad o l).flt = s.flt := rfl
@[simp] theorem State.setLoad_pwr (s : State) (o : Nat) (l : Load) : (s.setLoad o l).pwr = s.pwr := rfl
@[simp] theorem State.setLoad_out (s : State) (o : Nat) (l : Load) : (s.setLoad o l).out = s.out := rfl
@[simp] theorem State.setLoad_inp (s : State) (o : Nat) (l : Load) : (s.setLoad o l).inp = s.inp := rfl
@[simp] theorem State.setLoad_net (s : State) (o : Nat) (l : Load) : (s.setLoad o l).net = s.net := rfl
@[simp] theorem State.setLoad_twin (s : State) (o : Nat) (l : Load) : (s.setLoad o l).twin = s.twin := rfl
@[simp] theorem State.setLoad_core (s : State) (o : Nat) (l : Load) : (s.setLoad o l).core = s.core := rfl
@[simp] theorem State.setLoad_nv (s : State) (o : Nat) (l : Load) : (s.setLoad o l).nv = s.nv := rfl
@[simp] theorem State.setLoad_sec (s : State) (o : Nat) (l : Load) : (s.setLoad o l).sec = s.sec := rfl
@[simp] theorem State.setLoad_acc (s : State) (o : Nat) (l : Load) : (s.setLoad o l).acc = s.acc := rfl

-- setGroup changes arb only.
@[simp] theorem State.setGroup_now (s : State) (g : Nat) (x : Group) : (s.setGroup g x).now = s.now := rfl
@[simp] theorem State.setGroup_ntime (s : State) (g : Nat) (x : Group) : (s.setGroup g x).ntime = s.ntime := rfl
@[simp] theorem State.setGroup_pending (s : State) (g : Nat) (x : Group) : (s.setGroup g x).pending = s.pending := rfl
@[simp] theorem State.setGroup_regs (s : State) (g : Nat) (x : Group) : (s.setGroup g x).regs = s.regs := rfl
@[simp] theorem State.setGroup_host (s : State) (g : Nat) (x : Group) : (s.setGroup g x).host = s.host := rfl
@[simp] theorem State.setGroup_flt (s : State) (g : Nat) (x : Group) : (s.setGroup g x).flt = s.flt := rfl
@[simp] theorem State.setGroup_pwr (s : State) (g : Nat) (x : Group) : (s.setGroup g x).pwr = s.pwr := rfl
@[simp] theorem State.setGroup_out (s : State) (g : Nat) (x : Group) : (s.setGroup g x).out = s.out := rfl
@[simp] theorem State.setGroup_inp (s : State) (g : Nat) (x : Group) : (s.setGroup g x).inp = s.inp := rfl
@[simp] theorem State.setGroup_net (s : State) (g : Nat) (x : Group) : (s.setGroup g x).net = s.net := rfl
@[simp] theorem State.setGroup_twin (s : State) (g : Nat) (x : Group) : (s.setGroup g x).twin = s.twin := rfl
@[simp] theorem State.setGroup_core (s : State) (g : Nat) (x : Group) : (s.setGroup g x).core = s.core := rfl
@[simp] theorem State.setGroup_nv (s : State) (g : Nat) (x : Group) : (s.setGroup g x).nv = s.nv := rfl
@[simp] theorem State.setGroup_sec (s : State) (g : Nat) (x : Group) : (s.setGroup g x).sec = s.sec := rfl
@[simp] theorem State.setGroup_acc (s : State) (g : Nat) (x : Group) : (s.setGroup g x).acc = s.acc := rfl

-- setObj changes out only.
@[simp] theorem State.setObj_now (s : State) (o : Nat) (x : Obj) : (s.setObj o x).now = s.now := rfl
@[simp] theorem State.setObj_ntime (s : State) (o : Nat) (x : Obj) : (s.setObj o x).ntime = s.ntime := rfl
@[simp] theorem State.setObj_pending (s : State) (o : Nat) (x : Obj) : (s.setObj o x).pending = s.pending := rfl
@[simp] theorem State.setObj_regs (s : State) (o : Nat) (x : Obj) : (s.setObj o x).regs = s.regs := rfl
@[simp] theorem State.setObj_host (s : State) (o : Nat) (x : Obj) : (s.setObj o x).host = s.host := rfl
@[simp] theorem State.setObj_flt (s : State) (o : Nat) (x : Obj) : (s.setObj o x).flt = s.flt := rfl
@[simp] theorem State.setObj_pwr (s : State) (o : Nat) (x : Obj) : (s.setObj o x).pwr = s.pwr := rfl
@[simp] theorem State.setObj_arb (s : State) (o : Nat) (x : Obj) : (s.setObj o x).arb = s.arb := rfl
@[simp] theorem State.setObj_inp (s : State) (o : Nat) (x : Obj) : (s.setObj o x).inp = s.inp := rfl
@[simp] theorem State.setObj_net (s : State) (o : Nat) (x : Obj) : (s.setObj o x).net = s.net := rfl
@[simp] theorem State.setObj_twin (s : State) (o : Nat) (x : Obj) : (s.setObj o x).twin = s.twin := rfl
@[simp] theorem State.setObj_core (s : State) (o : Nat) (x : Obj) : (s.setObj o x).core = s.core := rfl
@[simp] theorem State.setObj_nv (s : State) (o : Nat) (x : Obj) : (s.setObj o x).nv = s.nv := rfl
@[simp] theorem State.setObj_sec (s : State) (o : Nat) (x : Obj) : (s.setObj o x).sec = s.sec := rfl
@[simp] theorem State.setObj_acc (s : State) (o : Nat) (x : Obj) : (s.setObj o x).acc = s.acc := rfl

-- modLed changes out only.
@[simp] theorem State.modLed_now (s : State) (n : Nat) (f : Led → Led) : (s.modLed n f).now = s.now := rfl
@[simp] theorem State.modLed_ntime (s : State) (n : Nat) (f : Led → Led) : (s.modLed n f).ntime = s.ntime := rfl
@[simp] theorem State.modLed_pending (s : State) (n : Nat) (f : Led → Led) : (s.modLed n f).pending = s.pending := rfl
@[simp] theorem State.modLed_regs (s : State) (n : Nat) (f : Led → Led) : (s.modLed n f).regs = s.regs := rfl
@[simp] theorem State.modLed_host (s : State) (n : Nat) (f : Led → Led) : (s.modLed n f).host = s.host := rfl
@[simp] theorem State.modLed_flt (s : State) (n : Nat) (f : Led → Led) : (s.modLed n f).flt = s.flt := rfl
@[simp] theorem State.modLed_pwr (s : State) (n : Nat) (f : Led → Led) : (s.modLed n f).pwr = s.pwr := rfl
@[simp] theorem State.modLed_arb (s : State) (n : Nat) (f : Led → Led) : (s.modLed n f).arb = s.arb := rfl
@[simp] theorem State.modLed_inp (s : State) (n : Nat) (f : Led → Led) : (s.modLed n f).inp = s.inp := rfl
@[simp] theorem State.modLed_net (s : State) (n : Nat) (f : Led → Led) : (s.modLed n f).net = s.net := rfl
@[simp] theorem State.modLed_twin (s : State) (n : Nat) (f : Led → Led) : (s.modLed n f).twin = s.twin := rfl
@[simp] theorem State.modLed_core (s : State) (n : Nat) (f : Led → Led) : (s.modLed n f).core = s.core := rfl
@[simp] theorem State.modLed_nv (s : State) (n : Nat) (f : Led → Led) : (s.modLed n f).nv = s.nv := rfl
@[simp] theorem State.modLed_sec (s : State) (n : Nat) (f : Led → Led) : (s.modLed n f).sec = s.sec := rfl
@[simp] theorem State.modLed_acc (s : State) (n : Nat) (f : Led → Led) : (s.modLed n f).acc = s.acc := rfl

-- modValve changes out only.
@[simp] theorem State.modValve_now (s : State) (n : Nat) (f : Valve → Valve) : (s.modValve n f).now = s.now := rfl
@[simp] theorem State.modValve_ntime (s : State) (n : Nat) (f : Valve → Valve) : (s.modValve n f).ntime = s.ntime := rfl
@[simp] theorem State.modValve_pending (s : State) (n : Nat) (f : Valve → Valve) : (s.modValve n f).pending = s.pending := rfl
@[simp] theorem State.modValve_regs (s : State) (n : Nat) (f : Valve → Valve) : (s.modValve n f).regs = s.regs := rfl
@[simp] theorem State.modValve_host (s : State) (n : Nat) (f : Valve → Valve) : (s.modValve n f).host = s.host := rfl
@[simp] theorem State.modValve_flt (s : State) (n : Nat) (f : Valve → Valve) : (s.modValve n f).flt = s.flt := rfl
@[simp] theorem State.modValve_pwr (s : State) (n : Nat) (f : Valve → Valve) : (s.modValve n f).pwr = s.pwr := rfl
@[simp] theorem State.modValve_arb (s : State) (n : Nat) (f : Valve → Valve) : (s.modValve n f).arb = s.arb := rfl
@[simp] theorem State.modValve_inp (s : State) (n : Nat) (f : Valve → Valve) : (s.modValve n f).inp = s.inp := rfl
@[simp] theorem State.modValve_net (s : State) (n : Nat) (f : Valve → Valve) : (s.modValve n f).net = s.net := rfl
@[simp] theorem State.modValve_twin (s : State) (n : Nat) (f : Valve → Valve) : (s.modValve n f).twin = s.twin := rfl
@[simp] theorem State.modValve_core (s : State) (n : Nat) (f : Valve → Valve) : (s.modValve n f).core = s.core := rfl
@[simp] theorem State.modValve_nv (s : State) (n : Nat) (f : Valve → Valve) : (s.modValve n f).nv = s.nv := rfl
@[simp] theorem State.modValve_sec (s : State) (n : Nat) (f : Valve → Valve) : (s.modValve n f).sec = s.sec := rfl
@[simp] theorem State.modValve_acc (s : State) (n : Nat) (f : Valve → Valve) : (s.modValve n f).acc = s.acc := rfl

-- modBridge changes out only.
@[simp] theorem State.modBridge_now (s : State) (n : Nat) (f : Bridge → Bridge) : (s.modBridge n f).now = s.now := rfl
@[simp] theorem State.modBridge_ntime (s : State) (n : Nat) (f : Bridge → Bridge) : (s.modBridge n f).ntime = s.ntime := rfl
@[simp] theorem State.modBridge_pending (s : State) (n : Nat) (f : Bridge → Bridge) : (s.modBridge n f).pending = s.pending := rfl
@[simp] theorem State.modBridge_regs (s : State) (n : Nat) (f : Bridge → Bridge) : (s.modBridge n f).regs = s.regs := rfl
@[simp] theorem State.modBridge_host (s : State) (n : Nat) (f : Bridge → Bridge) : (s.modBridge n f).host = s.host := rfl
@[simp] theorem State.modBridge_flt (s : State) (n : Nat) (f : Bridge → Bridge) : (s.modBridge n f).flt = s.flt := rfl
@[simp] theorem State.modBridge_pwr (s : State) (n : Nat) (f : Bridge → Bridge) : (s.modBridge n f).pwr = s.pwr := rfl
@[simp] theorem State.modBridge_arb (s : State) (n : Nat) (f : Bridge → Bridge) : (s.modBridge n f).arb = s.arb := rfl
@[simp] theorem State.modBridge_inp (s : State) (n : Nat) (f : Bridge → Bridge) : (s.modBridge n f).inp = s.inp := rfl
@[simp] theorem State.modBridge_net (s : State) (n : Nat) (f : Bridge → Bridge) : (s.modBridge n f).net = s.net := rfl
@[simp] theorem State.modBridge_twin (s : State) (n : Nat) (f : Bridge → Bridge) : (s.modBridge n f).twin = s.twin := rfl
@[simp] theorem State.modBridge_core (s : State) (n : Nat) (f : Bridge → Bridge) : (s.modBridge n f).core = s.core := rfl
@[simp] theorem State.modBridge_nv (s : State) (n : Nat) (f : Bridge → Bridge) : (s.modBridge n f).nv = s.nv := rfl
@[simp] theorem State.modBridge_sec (s : State) (n : Nat) (f : Bridge → Bridge) : (s.modBridge n f).sec = s.sec := rfl
@[simp] theorem State.modBridge_acc (s : State) (n : Nat) (f : Bridge → Bridge) : (s.modBridge n f).acc = s.acc := rfl

-- modLimp changes out only.
@[simp] theorem State.modLimp_now (s : State) (r : Nat) (f : Limp → Limp) : (s.modLimp r f).now = s.now := rfl
@[simp] theorem State.modLimp_ntime (s : State) (r : Nat) (f : Limp → Limp) : (s.modLimp r f).ntime = s.ntime := rfl
@[simp] theorem State.modLimp_pending (s : State) (r : Nat) (f : Limp → Limp) : (s.modLimp r f).pending = s.pending := rfl
@[simp] theorem State.modLimp_regs (s : State) (r : Nat) (f : Limp → Limp) : (s.modLimp r f).regs = s.regs := rfl
@[simp] theorem State.modLimp_host (s : State) (r : Nat) (f : Limp → Limp) : (s.modLimp r f).host = s.host := rfl
@[simp] theorem State.modLimp_flt (s : State) (r : Nat) (f : Limp → Limp) : (s.modLimp r f).flt = s.flt := rfl
@[simp] theorem State.modLimp_pwr (s : State) (r : Nat) (f : Limp → Limp) : (s.modLimp r f).pwr = s.pwr := rfl
@[simp] theorem State.modLimp_arb (s : State) (r : Nat) (f : Limp → Limp) : (s.modLimp r f).arb = s.arb := rfl
@[simp] theorem State.modLimp_inp (s : State) (r : Nat) (f : Limp → Limp) : (s.modLimp r f).inp = s.inp := rfl
@[simp] theorem State.modLimp_net (s : State) (r : Nat) (f : Limp → Limp) : (s.modLimp r f).net = s.net := rfl
@[simp] theorem State.modLimp_twin (s : State) (r : Nat) (f : Limp → Limp) : (s.modLimp r f).twin = s.twin := rfl
@[simp] theorem State.modLimp_core (s : State) (r : Nat) (f : Limp → Limp) : (s.modLimp r f).core = s.core := rfl
@[simp] theorem State.modLimp_nv (s : State) (r : Nat) (f : Limp → Limp) : (s.modLimp r f).nv = s.nv := rfl
@[simp] theorem State.modLimp_sec (s : State) (r : Nat) (f : Limp → Limp) : (s.modLimp r f).sec = s.sec := rfl
@[simp] theorem State.modLimp_acc (s : State) (r : Nat) (f : Limp → Limp) : (s.modLimp r f).acc = s.acc := rfl

-- modMx changes out only.
@[simp] theorem State.modMx_now (s : State) (f : Matrix → Matrix) : (s.modMx f).now = s.now := rfl
@[simp] theorem State.modMx_ntime (s : State) (f : Matrix → Matrix) : (s.modMx f).ntime = s.ntime := rfl
@[simp] theorem State.modMx_pending (s : State) (f : Matrix → Matrix) : (s.modMx f).pending = s.pending := rfl
@[simp] theorem State.modMx_regs (s : State) (f : Matrix → Matrix) : (s.modMx f).regs = s.regs := rfl
@[simp] theorem State.modMx_host (s : State) (f : Matrix → Matrix) : (s.modMx f).host = s.host := rfl
@[simp] theorem State.modMx_flt (s : State) (f : Matrix → Matrix) : (s.modMx f).flt = s.flt := rfl
@[simp] theorem State.modMx_pwr (s : State) (f : Matrix → Matrix) : (s.modMx f).pwr = s.pwr := rfl
@[simp] theorem State.modMx_arb (s : State) (f : Matrix → Matrix) : (s.modMx f).arb = s.arb := rfl
@[simp] theorem State.modMx_inp (s : State) (f : Matrix → Matrix) : (s.modMx f).inp = s.inp := rfl
@[simp] theorem State.modMx_net (s : State) (f : Matrix → Matrix) : (s.modMx f).net = s.net := rfl
@[simp] theorem State.modMx_twin (s : State) (f : Matrix → Matrix) : (s.modMx f).twin = s.twin := rfl
@[simp] theorem State.modMx_core (s : State) (f : Matrix → Matrix) : (s.modMx f).core = s.core := rfl
@[simp] theorem State.modMx_nv (s : State) (f : Matrix → Matrix) : (s.modMx f).nv = s.nv := rfl
@[simp] theorem State.modMx_sec (s : State) (f : Matrix → Matrix) : (s.modMx f).sec = s.sec := rfl
@[simp] theorem State.modMx_acc (s : State) (f : Matrix → Matrix) : (s.modMx f).acc = s.acc := rfl

-- modLoop changes out only.
@[simp] theorem State.modLoop_now (s : State) (n : Nat) (f : Loop → Loop) : (s.modLoop n f).now = s.now := rfl
@[simp] theorem State.modLoop_ntime (s : State) (n : Nat) (f : Loop → Loop) : (s.modLoop n f).ntime = s.ntime := rfl
@[simp] theorem State.modLoop_pending (s : State) (n : Nat) (f : Loop → Loop) : (s.modLoop n f).pending = s.pending := rfl
@[simp] theorem State.modLoop_regs (s : State) (n : Nat) (f : Loop → Loop) : (s.modLoop n f).regs = s.regs := rfl
@[simp] theorem State.modLoop_host (s : State) (n : Nat) (f : Loop → Loop) : (s.modLoop n f).host = s.host := rfl
@[simp] theorem State.modLoop_flt (s : State) (n : Nat) (f : Loop → Loop) : (s.modLoop n f).flt = s.flt := rfl
@[simp] theorem State.modLoop_pwr (s : State) (n : Nat) (f : Loop → Loop) : (s.modLoop n f).pwr = s.pwr := rfl
@[simp] theorem State.modLoop_arb (s : State) (n : Nat) (f : Loop → Loop) : (s.modLoop n f).arb = s.arb := rfl
@[simp] theorem State.modLoop_inp (s : State) (n : Nat) (f : Loop → Loop) : (s.modLoop n f).inp = s.inp := rfl
@[simp] theorem State.modLoop_net (s : State) (n : Nat) (f : Loop → Loop) : (s.modLoop n f).net = s.net := rfl
@[simp] theorem State.modLoop_twin (s : State) (n : Nat) (f : Loop → Loop) : (s.modLoop n f).twin = s.twin := rfl
@[simp] theorem State.modLoop_core (s : State) (n : Nat) (f : Loop → Loop) : (s.modLoop n f).core = s.core := rfl
@[simp] theorem State.modLoop_nv (s : State) (n : Nat) (f : Loop → Loop) : (s.modLoop n f).nv = s.nv := rfl
@[simp] theorem State.modLoop_sec (s : State) (n : Nat) (f : Loop → Loop) : (s.modLoop n f).sec = s.sec := rfl
@[simp] theorem State.modLoop_acc (s : State) (n : Nat) (f : Loop → Loop) : (s.modLoop n f).acc = s.acc := rfl

-- outs changes out only.
@[simp] theorem State.outs_now (s : State) (f : OutState → OutState) : (s.outs f).now = s.now := rfl
@[simp] theorem State.outs_ntime (s : State) (f : OutState → OutState) : (s.outs f).ntime = s.ntime := rfl
@[simp] theorem State.outs_pending (s : State) (f : OutState → OutState) : (s.outs f).pending = s.pending := rfl
@[simp] theorem State.outs_regs (s : State) (f : OutState → OutState) : (s.outs f).regs = s.regs := rfl
@[simp] theorem State.outs_host (s : State) (f : OutState → OutState) : (s.outs f).host = s.host := rfl
@[simp] theorem State.outs_flt (s : State) (f : OutState → OutState) : (s.outs f).flt = s.flt := rfl
@[simp] theorem State.outs_pwr (s : State) (f : OutState → OutState) : (s.outs f).pwr = s.pwr := rfl
@[simp] theorem State.outs_arb (s : State) (f : OutState → OutState) : (s.outs f).arb = s.arb := rfl
@[simp] theorem State.outs_inp (s : State) (f : OutState → OutState) : (s.outs f).inp = s.inp := rfl
@[simp] theorem State.outs_net (s : State) (f : OutState → OutState) : (s.outs f).net = s.net := rfl
@[simp] theorem State.outs_twin (s : State) (f : OutState → OutState) : (s.outs f).twin = s.twin := rfl
@[simp] theorem State.outs_core (s : State) (f : OutState → OutState) : (s.outs f).core = s.core := rfl
@[simp] theorem State.outs_nv (s : State) (f : OutState → OutState) : (s.outs f).nv = s.nv := rfl
@[simp] theorem State.outs_sec (s : State) (f : OutState → OutState) : (s.outs f).sec = s.sec := rfl
@[simp] theorem State.outs_acc (s : State) (f : OutState → OutState) : (s.outs f).acc = s.acc := rfl

-- modSw changes inp only.
@[simp] theorem State.modSw_now (s : State) (n : Nat) (f : SwIn → SwIn) : (s.modSw n f).now = s.now := rfl
@[simp] theorem State.modSw_ntime (s : State) (n : Nat) (f : SwIn → SwIn) : (s.modSw n f).ntime = s.ntime := rfl
@[simp] theorem State.modSw_pending (s : State) (n : Nat) (f : SwIn → SwIn) : (s.modSw n f).pending = s.pending := rfl
@[simp] theorem State.modSw_regs (s : State) (n : Nat) (f : SwIn → SwIn) : (s.modSw n f).regs = s.regs := rfl
@[simp] theorem State.modSw_host (s : State) (n : Nat) (f : SwIn → SwIn) : (s.modSw n f).host = s.host := rfl
@[simp] theorem State.modSw_flt (s : State) (n : Nat) (f : SwIn → SwIn) : (s.modSw n f).flt = s.flt := rfl
@[simp] theorem State.modSw_pwr (s : State) (n : Nat) (f : SwIn → SwIn) : (s.modSw n f).pwr = s.pwr := rfl
@[simp] theorem State.modSw_arb (s : State) (n : Nat) (f : SwIn → SwIn) : (s.modSw n f).arb = s.arb := rfl
@[simp] theorem State.modSw_out (s : State) (n : Nat) (f : SwIn → SwIn) : (s.modSw n f).out = s.out := rfl
@[simp] theorem State.modSw_net (s : State) (n : Nat) (f : SwIn → SwIn) : (s.modSw n f).net = s.net := rfl
@[simp] theorem State.modSw_twin (s : State) (n : Nat) (f : SwIn → SwIn) : (s.modSw n f).twin = s.twin := rfl
@[simp] theorem State.modSw_core (s : State) (n : Nat) (f : SwIn → SwIn) : (s.modSw n f).core = s.core := rfl
@[simp] theorem State.modSw_nv (s : State) (n : Nat) (f : SwIn → SwIn) : (s.modSw n f).nv = s.nv := rfl
@[simp] theorem State.modSw_sec (s : State) (n : Nat) (f : SwIn → SwIn) : (s.modSw n f).sec = s.sec := rfl
@[simp] theorem State.modSw_acc (s : State) (n : Nat) (f : SwIn → SwIn) : (s.modSw n f).acc = s.acc := rfl

-- modIi changes inp only.
@[simp] theorem State.modIi_now (s : State) (n : Nat) (f : IiIn → IiIn) : (s.modIi n f).now = s.now := rfl
@[simp] theorem State.modIi_ntime (s : State) (n : Nat) (f : IiIn → IiIn) : (s.modIi n f).ntime = s.ntime := rfl
@[simp] theorem State.modIi_pending (s : State) (n : Nat) (f : IiIn → IiIn) : (s.modIi n f).pending = s.pending := rfl
@[simp] theorem State.modIi_regs (s : State) (n : Nat) (f : IiIn → IiIn) : (s.modIi n f).regs = s.regs := rfl
@[simp] theorem State.modIi_host (s : State) (n : Nat) (f : IiIn → IiIn) : (s.modIi n f).host = s.host := rfl
@[simp] theorem State.modIi_flt (s : State) (n : Nat) (f : IiIn → IiIn) : (s.modIi n f).flt = s.flt := rfl
@[simp] theorem State.modIi_pwr (s : State) (n : Nat) (f : IiIn → IiIn) : (s.modIi n f).pwr = s.pwr := rfl
@[simp] theorem State.modIi_arb (s : State) (n : Nat) (f : IiIn → IiIn) : (s.modIi n f).arb = s.arb := rfl
@[simp] theorem State.modIi_out (s : State) (n : Nat) (f : IiIn → IiIn) : (s.modIi n f).out = s.out := rfl
@[simp] theorem State.modIi_net (s : State) (n : Nat) (f : IiIn → IiIn) : (s.modIi n f).net = s.net := rfl
@[simp] theorem State.modIi_twin (s : State) (n : Nat) (f : IiIn → IiIn) : (s.modIi n f).twin = s.twin := rfl
@[simp] theorem State.modIi_core (s : State) (n : Nat) (f : IiIn → IiIn) : (s.modIi n f).core = s.core := rfl
@[simp] theorem State.modIi_nv (s : State) (n : Nat) (f : IiIn → IiIn) : (s.modIi n f).nv = s.nv := rfl
@[simp] theorem State.modIi_sec (s : State) (n : Nat) (f : IiIn → IiIn) : (s.modIi n f).sec = s.sec := rfl
@[simp] theorem State.modIi_acc (s : State) (n : Nat) (f : IiIn → IiIn) : (s.modIi n f).acc = s.acc := rfl

-- modCan changes net only.
@[simp] theorem State.modCan_now (s : State) (n : Nat) (f : CanCh → CanCh) : (s.modCan n f).now = s.now := rfl
@[simp] theorem State.modCan_ntime (s : State) (n : Nat) (f : CanCh → CanCh) : (s.modCan n f).ntime = s.ntime := rfl
@[simp] theorem State.modCan_pending (s : State) (n : Nat) (f : CanCh → CanCh) : (s.modCan n f).pending = s.pending := rfl
@[simp] theorem State.modCan_regs (s : State) (n : Nat) (f : CanCh → CanCh) : (s.modCan n f).regs = s.regs := rfl
@[simp] theorem State.modCan_host (s : State) (n : Nat) (f : CanCh → CanCh) : (s.modCan n f).host = s.host := rfl
@[simp] theorem State.modCan_flt (s : State) (n : Nat) (f : CanCh → CanCh) : (s.modCan n f).flt = s.flt := rfl
@[simp] theorem State.modCan_pwr (s : State) (n : Nat) (f : CanCh → CanCh) : (s.modCan n f).pwr = s.pwr := rfl
@[simp] theorem State.modCan_arb (s : State) (n : Nat) (f : CanCh → CanCh) : (s.modCan n f).arb = s.arb := rfl
@[simp] theorem State.modCan_out (s : State) (n : Nat) (f : CanCh → CanCh) : (s.modCan n f).out = s.out := rfl
@[simp] theorem State.modCan_inp (s : State) (n : Nat) (f : CanCh → CanCh) : (s.modCan n f).inp = s.inp := rfl
@[simp] theorem State.modCan_twin (s : State) (n : Nat) (f : CanCh → CanCh) : (s.modCan n f).twin = s.twin := rfl
@[simp] theorem State.modCan_core (s : State) (n : Nat) (f : CanCh → CanCh) : (s.modCan n f).core = s.core := rfl
@[simp] theorem State.modCan_nv (s : State) (n : Nat) (f : CanCh → CanCh) : (s.modCan n f).nv = s.nv := rfl
@[simp] theorem State.modCan_sec (s : State) (n : Nat) (f : CanCh → CanCh) : (s.modCan n f).sec = s.sec := rfl
@[simp] theorem State.modCan_acc (s : State) (n : Nat) (f : CanCh → CanCh) : (s.modCan n f).acc = s.acc := rfl

-- modLin changes net only.
@[simp] theorem State.modLin_now (s : State) (n : Nat) (f : LinCh → LinCh) : (s.modLin n f).now = s.now := rfl
@[simp] theorem State.modLin_ntime (s : State) (n : Nat) (f : LinCh → LinCh) : (s.modLin n f).ntime = s.ntime := rfl
@[simp] theorem State.modLin_pending (s : State) (n : Nat) (f : LinCh → LinCh) : (s.modLin n f).pending = s.pending := rfl
@[simp] theorem State.modLin_regs (s : State) (n : Nat) (f : LinCh → LinCh) : (s.modLin n f).regs = s.regs := rfl
@[simp] theorem State.modLin_host (s : State) (n : Nat) (f : LinCh → LinCh) : (s.modLin n f).host = s.host := rfl
@[simp] theorem State.modLin_flt (s : State) (n : Nat) (f : LinCh → LinCh) : (s.modLin n f).flt = s.flt := rfl
@[simp] theorem State.modLin_pwr (s : State) (n : Nat) (f : LinCh → LinCh) : (s.modLin n f).pwr = s.pwr := rfl
@[simp] theorem State.modLin_arb (s : State) (n : Nat) (f : LinCh → LinCh) : (s.modLin n f).arb = s.arb := rfl
@[simp] theorem State.modLin_out (s : State) (n : Nat) (f : LinCh → LinCh) : (s.modLin n f).out = s.out := rfl
@[simp] theorem State.modLin_inp (s : State) (n : Nat) (f : LinCh → LinCh) : (s.modLin n f).inp = s.inp := rfl
@[simp] theorem State.modLin_twin (s : State) (n : Nat) (f : LinCh → LinCh) : (s.modLin n f).twin = s.twin := rfl
@[simp] theorem State.modLin_core (s : State) (n : Nat) (f : LinCh → LinCh) : (s.modLin n f).core = s.core := rfl
@[simp] theorem State.modLin_nv (s : State) (n : Nat) (f : LinCh → LinCh) : (s.modLin n f).nv = s.nv := rfl
@[simp] theorem State.modLin_sec (s : State) (n : Nat) (f : LinCh → LinCh) : (s.modLin n f).sec = s.sec := rfl
@[simp] theorem State.modLin_acc (s : State) (n : Nat) (f : LinCh → LinCh) : (s.modLin n f).acc = s.acc := rfl

-- modPort changes net only.
@[simp] theorem State.modPort_now (s : State) (p : Nat) (f : Port → Port) : (s.modPort p f).now = s.now := rfl
@[simp] theorem State.modPort_ntime (s : State) (p : Nat) (f : Port → Port) : (s.modPort p f).ntime = s.ntime := rfl
@[simp] theorem State.modPort_pending (s : State) (p : Nat) (f : Port → Port) : (s.modPort p f).pending = s.pending := rfl
@[simp] theorem State.modPort_regs (s : State) (p : Nat) (f : Port → Port) : (s.modPort p f).regs = s.regs := rfl
@[simp] theorem State.modPort_host (s : State) (p : Nat) (f : Port → Port) : (s.modPort p f).host = s.host := rfl
@[simp] theorem State.modPort_flt (s : State) (p : Nat) (f : Port → Port) : (s.modPort p f).flt = s.flt := rfl
@[simp] theorem State.modPort_pwr (s : State) (p : Nat) (f : Port → Port) : (s.modPort p f).pwr = s.pwr := rfl
@[simp] theorem State.modPort_arb (s : State) (p : Nat) (f : Port → Port) : (s.modPort p f).arb = s.arb := rfl
@[simp] theorem State.modPort_out (s : State) (p : Nat) (f : Port → Port) : (s.modPort p f).out = s.out := rfl
@[simp] theorem State.modPort_inp (s : State) (p : Nat) (f : Port → Port) : (s.modPort p f).inp = s.inp := rfl
@[simp] theorem State.modPort_twin (s : State) (p : Nat) (f : Port → Port) : (s.modPort p f).twin = s.twin := rfl
@[simp] theorem State.modPort_core (s : State) (p : Nat) (f : Port → Port) : (s.modPort p f).core = s.core := rfl
@[simp] theorem State.modPort_nv (s : State) (p : Nat) (f : Port → Port) : (s.modPort p f).nv = s.nv := rfl
@[simp] theorem State.modPort_sec (s : State) (p : Nat) (f : Port → Port) : (s.modPort p f).sec = s.sec := rfl
@[simp] theorem State.modPort_acc (s : State) (p : Nat) (f : Port → Port) : (s.modPort p f).acc = s.acc := rfl

-- modSeg changes net only.
@[simp] theorem State.modSeg_now (s : State) (g : Nat) (f : Seg → Seg) : (s.modSeg g f).now = s.now := rfl
@[simp] theorem State.modSeg_ntime (s : State) (g : Nat) (f : Seg → Seg) : (s.modSeg g f).ntime = s.ntime := rfl
@[simp] theorem State.modSeg_pending (s : State) (g : Nat) (f : Seg → Seg) : (s.modSeg g f).pending = s.pending := rfl
@[simp] theorem State.modSeg_regs (s : State) (g : Nat) (f : Seg → Seg) : (s.modSeg g f).regs = s.regs := rfl
@[simp] theorem State.modSeg_host (s : State) (g : Nat) (f : Seg → Seg) : (s.modSeg g f).host = s.host := rfl
@[simp] theorem State.modSeg_flt (s : State) (g : Nat) (f : Seg → Seg) : (s.modSeg g f).flt = s.flt := rfl
@[simp] theorem State.modSeg_pwr (s : State) (g : Nat) (f : Seg → Seg) : (s.modSeg g f).pwr = s.pwr := rfl
@[simp] theorem State.modSeg_arb (s : State) (g : Nat) (f : Seg → Seg) : (s.modSeg g f).arb = s.arb := rfl
@[simp] theorem State.modSeg_out (s : State) (g : Nat) (f : Seg → Seg) : (s.modSeg g f).out = s.out := rfl
@[simp] theorem State.modSeg_inp (s : State) (g : Nat) (f : Seg → Seg) : (s.modSeg g f).inp = s.inp := rfl
@[simp] theorem State.modSeg_twin (s : State) (g : Nat) (f : Seg → Seg) : (s.modSeg g f).twin = s.twin := rfl
@[simp] theorem State.modSeg_core (s : State) (g : Nat) (f : Seg → Seg) : (s.modSeg g f).core = s.core := rfl
@[simp] theorem State.modSeg_nv (s : State) (g : Nat) (f : Seg → Seg) : (s.modSeg g f).nv = s.nv := rfl
@[simp] theorem State.modSeg_sec (s : State) (g : Nat) (f : Seg → Seg) : (s.modSeg g f).sec = s.sec := rfl
@[simp] theorem State.modSeg_acc (s : State) (g : Nat) (f : Seg → Seg) : (s.modSeg g f).acc = s.acc := rfl

-- modFit changes net only.
@[simp] theorem State.modFit_now (s : State) (e : Nat) (f : FitEntry → FitEntry) : (s.modFit e f).now = s.now := rfl
@[simp] theorem State.modFit_ntime (s : State) (e : Nat) (f : FitEntry → FitEntry) : (s.modFit e f).ntime = s.ntime := rfl
@[simp] theorem State.modFit_pending (s : State) (e : Nat) (f : FitEntry → FitEntry) : (s.modFit e f).pending = s.pending := rfl
@[simp] theorem State.modFit_regs (s : State) (e : Nat) (f : FitEntry → FitEntry) : (s.modFit e f).regs = s.regs := rfl
@[simp] theorem State.modFit_host (s : State) (e : Nat) (f : FitEntry → FitEntry) : (s.modFit e f).host = s.host := rfl
@[simp] theorem State.modFit_flt (s : State) (e : Nat) (f : FitEntry → FitEntry) : (s.modFit e f).flt = s.flt := rfl
@[simp] theorem State.modFit_pwr (s : State) (e : Nat) (f : FitEntry → FitEntry) : (s.modFit e f).pwr = s.pwr := rfl
@[simp] theorem State.modFit_arb (s : State) (e : Nat) (f : FitEntry → FitEntry) : (s.modFit e f).arb = s.arb := rfl
@[simp] theorem State.modFit_out (s : State) (e : Nat) (f : FitEntry → FitEntry) : (s.modFit e f).out = s.out := rfl
@[simp] theorem State.modFit_inp (s : State) (e : Nat) (f : FitEntry → FitEntry) : (s.modFit e f).inp = s.inp := rfl
@[simp] theorem State.modFit_twin (s : State) (e : Nat) (f : FitEntry → FitEntry) : (s.modFit e f).twin = s.twin := rfl
@[simp] theorem State.modFit_core (s : State) (e : Nat) (f : FitEntry → FitEntry) : (s.modFit e f).core = s.core := rfl
@[simp] theorem State.modFit_nv (s : State) (e : Nat) (f : FitEntry → FitEntry) : (s.modFit e f).nv = s.nv := rfl
@[simp] theorem State.modFit_sec (s : State) (e : Nat) (f : FitEntry → FitEntry) : (s.modFit e f).sec = s.sec := rfl
@[simp] theorem State.modFit_acc (s : State) (e : Nat) (f : FitEntry → FitEntry) : (s.modFit e f).acc = s.acc := rfl

-- modRxq changes net only.
@[simp] theorem State.modRxq_now (s : State) (g : Nat) (f : RxQ → RxQ) : (s.modRxq g f).now = s.now := rfl
@[simp] theorem State.modRxq_ntime (s : State) (g : Nat) (f : RxQ → RxQ) : (s.modRxq g f).ntime = s.ntime := rfl
@[simp] theorem State.modRxq_pending (s : State) (g : Nat) (f : RxQ → RxQ) : (s.modRxq g f).pending = s.pending := rfl
@[simp] theorem State.modRxq_regs (s : State) (g : Nat) (f : RxQ → RxQ) : (s.modRxq g f).regs = s.regs := rfl
@[simp] theorem State.modRxq_host (s : State) (g : Nat) (f : RxQ → RxQ) : (s.modRxq g f).host = s.host := rfl
@[simp] theorem State.modRxq_flt (s : State) (g : Nat) (f : RxQ → RxQ) : (s.modRxq g f).flt = s.flt := rfl
@[simp] theorem State.modRxq_pwr (s : State) (g : Nat) (f : RxQ → RxQ) : (s.modRxq g f).pwr = s.pwr := rfl
@[simp] theorem State.modRxq_arb (s : State) (g : Nat) (f : RxQ → RxQ) : (s.modRxq g f).arb = s.arb := rfl
@[simp] theorem State.modRxq_out (s : State) (g : Nat) (f : RxQ → RxQ) : (s.modRxq g f).out = s.out := rfl
@[simp] theorem State.modRxq_inp (s : State) (g : Nat) (f : RxQ → RxQ) : (s.modRxq g f).inp = s.inp := rfl
@[simp] theorem State.modRxq_twin (s : State) (g : Nat) (f : RxQ → RxQ) : (s.modRxq g f).twin = s.twin := rfl
@[simp] theorem State.modRxq_core (s : State) (g : Nat) (f : RxQ → RxQ) : (s.modRxq g f).core = s.core := rfl
@[simp] theorem State.modRxq_nv (s : State) (g : Nat) (f : RxQ → RxQ) : (s.modRxq g f).nv = s.nv := rfl
@[simp] theorem State.modRxq_sec (s : State) (g : Nat) (f : RxQ → RxQ) : (s.modRxq g f).sec = s.sec := rfl
@[simp] theorem State.modRxq_acc (s : State) (g : Nat) (f : RxQ → RxQ) : (s.modRxq g f).acc = s.acc := rfl

-- setCore changes core only.
@[simp] theorem State.setCore_now (s : State) (k : Nat) (c : Core) : (s.setCore k c).now = s.now := rfl
@[simp] theorem State.setCore_ntime (s : State) (k : Nat) (c : Core) : (s.setCore k c).ntime = s.ntime := rfl
@[simp] theorem State.setCore_pending (s : State) (k : Nat) (c : Core) : (s.setCore k c).pending = s.pending := rfl
@[simp] theorem State.setCore_regs (s : State) (k : Nat) (c : Core) : (s.setCore k c).regs = s.regs := rfl
@[simp] theorem State.setCore_host (s : State) (k : Nat) (c : Core) : (s.setCore k c).host = s.host := rfl
@[simp] theorem State.setCore_flt (s : State) (k : Nat) (c : Core) : (s.setCore k c).flt = s.flt := rfl
@[simp] theorem State.setCore_pwr (s : State) (k : Nat) (c : Core) : (s.setCore k c).pwr = s.pwr := rfl
@[simp] theorem State.setCore_arb (s : State) (k : Nat) (c : Core) : (s.setCore k c).arb = s.arb := rfl
@[simp] theorem State.setCore_out (s : State) (k : Nat) (c : Core) : (s.setCore k c).out = s.out := rfl
@[simp] theorem State.setCore_inp (s : State) (k : Nat) (c : Core) : (s.setCore k c).inp = s.inp := rfl
@[simp] theorem State.setCore_net (s : State) (k : Nat) (c : Core) : (s.setCore k c).net = s.net := rfl
@[simp] theorem State.setCore_twin (s : State) (k : Nat) (c : Core) : (s.setCore k c).twin = s.twin := rfl
@[simp] theorem State.setCore_nv (s : State) (k : Nat) (c : Core) : (s.setCore k c).nv = s.nv := rfl
@[simp] theorem State.setCore_sec (s : State) (k : Nat) (c : Core) : (s.setCore k c).sec = s.sec := rfl
@[simp] theorem State.setCore_acc (s : State) (k : Nat) (c : Core) : (s.setCore k c).acc = s.acc := rfl

-- tw changes twin only.
@[simp] theorem State.tw_now (s : State) (f : TwinState → TwinState) : (s.tw f).now = s.now := rfl
@[simp] theorem State.tw_ntime (s : State) (f : TwinState → TwinState) : (s.tw f).ntime = s.ntime := rfl
@[simp] theorem State.tw_pending (s : State) (f : TwinState → TwinState) : (s.tw f).pending = s.pending := rfl
@[simp] theorem State.tw_regs (s : State) (f : TwinState → TwinState) : (s.tw f).regs = s.regs := rfl
@[simp] theorem State.tw_host (s : State) (f : TwinState → TwinState) : (s.tw f).host = s.host := rfl
@[simp] theorem State.tw_flt (s : State) (f : TwinState → TwinState) : (s.tw f).flt = s.flt := rfl
@[simp] theorem State.tw_pwr (s : State) (f : TwinState → TwinState) : (s.tw f).pwr = s.pwr := rfl
@[simp] theorem State.tw_arb (s : State) (f : TwinState → TwinState) : (s.tw f).arb = s.arb := rfl
@[simp] theorem State.tw_out (s : State) (f : TwinState → TwinState) : (s.tw f).out = s.out := rfl
@[simp] theorem State.tw_inp (s : State) (f : TwinState → TwinState) : (s.tw f).inp = s.inp := rfl
@[simp] theorem State.tw_net (s : State) (f : TwinState → TwinState) : (s.tw f).net = s.net := rfl
@[simp] theorem State.tw_core (s : State) (f : TwinState → TwinState) : (s.tw f).core = s.core := rfl
@[simp] theorem State.tw_nv (s : State) (f : TwinState → TwinState) : (s.tw f).nv = s.nv := rfl
@[simp] theorem State.tw_sec (s : State) (f : TwinState → TwinState) : (s.tw f).sec = s.sec := rfl
@[simp] theorem State.tw_acc (s : State) (f : TwinState → TwinState) : (s.tw f).acc = s.acc := rfl

-- pw changes pwr only.
@[simp] theorem State.pw_now (s : State) (f : PowerState → PowerState) : (s.pw f).now = s.now := rfl
@[simp] theorem State.pw_ntime (s : State) (f : PowerState → PowerState) : (s.pw f).ntime = s.ntime := rfl
@[simp] theorem State.pw_pending (s : State) (f : PowerState → PowerState) : (s.pw f).pending = s.pending := rfl
@[simp] theorem State.pw_regs (s : State) (f : PowerState → PowerState) : (s.pw f).regs = s.regs := rfl
@[simp] theorem State.pw_host (s : State) (f : PowerState → PowerState) : (s.pw f).host = s.host := rfl
@[simp] theorem State.pw_flt (s : State) (f : PowerState → PowerState) : (s.pw f).flt = s.flt := rfl
@[simp] theorem State.pw_arb (s : State) (f : PowerState → PowerState) : (s.pw f).arb = s.arb := rfl
@[simp] theorem State.pw_out (s : State) (f : PowerState → PowerState) : (s.pw f).out = s.out := rfl
@[simp] theorem State.pw_inp (s : State) (f : PowerState → PowerState) : (s.pw f).inp = s.inp := rfl
@[simp] theorem State.pw_net (s : State) (f : PowerState → PowerState) : (s.pw f).net = s.net := rfl
@[simp] theorem State.pw_twin (s : State) (f : PowerState → PowerState) : (s.pw f).twin = s.twin := rfl
@[simp] theorem State.pw_core (s : State) (f : PowerState → PowerState) : (s.pw f).core = s.core := rfl
@[simp] theorem State.pw_nv (s : State) (f : PowerState → PowerState) : (s.pw f).nv = s.nv := rfl
@[simp] theorem State.pw_sec (s : State) (f : PowerState → PowerState) : (s.pw f).sec = s.sec := rfl
@[simp] theorem State.pw_acc (s : State) (f : PowerState → PowerState) : (s.pw f).acc = s.acc := rfl

-- ac changes acc only.
@[simp] theorem State.ac_now (s : State) (f : AccState → AccState) : (s.ac f).now = s.now := rfl
@[simp] theorem State.ac_ntime (s : State) (f : AccState → AccState) : (s.ac f).ntime = s.ntime := rfl
@[simp] theorem State.ac_pending (s : State) (f : AccState → AccState) : (s.ac f).pending = s.pending := rfl
@[simp] theorem State.ac_regs (s : State) (f : AccState → AccState) : (s.ac f).regs = s.regs := rfl
@[simp] theorem State.ac_host (s : State) (f : AccState → AccState) : (s.ac f).host = s.host := rfl
@[simp] theorem State.ac_flt (s : State) (f : AccState → AccState) : (s.ac f).flt = s.flt := rfl
@[simp] theorem State.ac_pwr (s : State) (f : AccState → AccState) : (s.ac f).pwr = s.pwr := rfl
@[simp] theorem State.ac_arb (s : State) (f : AccState → AccState) : (s.ac f).arb = s.arb := rfl
@[simp] theorem State.ac_out (s : State) (f : AccState → AccState) : (s.ac f).out = s.out := rfl
@[simp] theorem State.ac_inp (s : State) (f : AccState → AccState) : (s.ac f).inp = s.inp := rfl
@[simp] theorem State.ac_net (s : State) (f : AccState → AccState) : (s.ac f).net = s.net := rfl
@[simp] theorem State.ac_twin (s : State) (f : AccState → AccState) : (s.ac f).twin = s.twin := rfl
@[simp] theorem State.ac_core (s : State) (f : AccState → AccState) : (s.ac f).core = s.core := rfl
@[simp] theorem State.ac_nv (s : State) (f : AccState → AccState) : (s.ac f).nv = s.nv := rfl
@[simp] theorem State.ac_sec (s : State) (f : AccState → AccState) : (s.ac f).sec = s.sec := rfl

-- nvm changes nv only.
@[simp] theorem State.nvm_now (s : State) (f : NvState → NvState) : (s.nvm f).now = s.now := rfl
@[simp] theorem State.nvm_ntime (s : State) (f : NvState → NvState) : (s.nvm f).ntime = s.ntime := rfl
@[simp] theorem State.nvm_pending (s : State) (f : NvState → NvState) : (s.nvm f).pending = s.pending := rfl
@[simp] theorem State.nvm_regs (s : State) (f : NvState → NvState) : (s.nvm f).regs = s.regs := rfl
@[simp] theorem State.nvm_host (s : State) (f : NvState → NvState) : (s.nvm f).host = s.host := rfl
@[simp] theorem State.nvm_flt (s : State) (f : NvState → NvState) : (s.nvm f).flt = s.flt := rfl
@[simp] theorem State.nvm_pwr (s : State) (f : NvState → NvState) : (s.nvm f).pwr = s.pwr := rfl
@[simp] theorem State.nvm_arb (s : State) (f : NvState → NvState) : (s.nvm f).arb = s.arb := rfl
@[simp] theorem State.nvm_out (s : State) (f : NvState → NvState) : (s.nvm f).out = s.out := rfl
@[simp] theorem State.nvm_inp (s : State) (f : NvState → NvState) : (s.nvm f).inp = s.inp := rfl
@[simp] theorem State.nvm_net (s : State) (f : NvState → NvState) : (s.nvm f).net = s.net := rfl
@[simp] theorem State.nvm_twin (s : State) (f : NvState → NvState) : (s.nvm f).twin = s.twin := rfl
@[simp] theorem State.nvm_core (s : State) (f : NvState → NvState) : (s.nvm f).core = s.core := rfl
@[simp] theorem State.nvm_sec (s : State) (f : NvState → NvState) : (s.nvm f).sec = s.sec := rfl
@[simp] theorem State.nvm_acc (s : State) (f : NvState → NvState) : (s.nvm f).acc = s.acc := rfl

-- se changes sec only.
@[simp] theorem State.se_now (s : State) (f : SecState → SecState) : (s.se f).now = s.now := rfl
@[simp] theorem State.se_ntime (s : State) (f : SecState → SecState) : (s.se f).ntime = s.ntime := rfl
@[simp] theorem State.se_pending (s : State) (f : SecState → SecState) : (s.se f).pending = s.pending := rfl
@[simp] theorem State.se_regs (s : State) (f : SecState → SecState) : (s.se f).regs = s.regs := rfl
@[simp] theorem State.se_host (s : State) (f : SecState → SecState) : (s.se f).host = s.host := rfl
@[simp] theorem State.se_flt (s : State) (f : SecState → SecState) : (s.se f).flt = s.flt := rfl
@[simp] theorem State.se_pwr (s : State) (f : SecState → SecState) : (s.se f).pwr = s.pwr := rfl
@[simp] theorem State.se_arb (s : State) (f : SecState → SecState) : (s.se f).arb = s.arb := rfl
@[simp] theorem State.se_out (s : State) (f : SecState → SecState) : (s.se f).out = s.out := rfl
@[simp] theorem State.se_inp (s : State) (f : SecState → SecState) : (s.se f).inp = s.inp := rfl
@[simp] theorem State.se_net (s : State) (f : SecState → SecState) : (s.se f).net = s.net := rfl
@[simp] theorem State.se_twin (s : State) (f : SecState → SecState) : (s.se f).twin = s.twin := rfl
@[simp] theorem State.se_core (s : State) (f : SecState → SecState) : (s.se f).core = s.core := rfl
@[simp] theorem State.se_nv (s : State) (f : SecState → SecState) : (s.se f).nv = s.nv := rfl
@[simp] theorem State.se_acc (s : State) (f : SecState → SecState) : (s.se f).acc = s.acc := rfl

-- setFwSlot changes nv only.
@[simp] theorem State.setFwSlot_now (s : State) (k : Nat) (f : FwSlot) : (s.setFwSlot k f).now = s.now := rfl
@[simp] theorem State.setFwSlot_ntime (s : State) (k : Nat) (f : FwSlot) : (s.setFwSlot k f).ntime = s.ntime := rfl
@[simp] theorem State.setFwSlot_pending (s : State) (k : Nat) (f : FwSlot) : (s.setFwSlot k f).pending = s.pending := rfl
@[simp] theorem State.setFwSlot_regs (s : State) (k : Nat) (f : FwSlot) : (s.setFwSlot k f).regs = s.regs := rfl
@[simp] theorem State.setFwSlot_host (s : State) (k : Nat) (f : FwSlot) : (s.setFwSlot k f).host = s.host := rfl
@[simp] theorem State.setFwSlot_flt (s : State) (k : Nat) (f : FwSlot) : (s.setFwSlot k f).flt = s.flt := rfl
@[simp] theorem State.setFwSlot_pwr (s : State) (k : Nat) (f : FwSlot) : (s.setFwSlot k f).pwr = s.pwr := rfl
@[simp] theorem State.setFwSlot_arb (s : State) (k : Nat) (f : FwSlot) : (s.setFwSlot k f).arb = s.arb := rfl
@[simp] theorem State.setFwSlot_out (s : State) (k : Nat) (f : FwSlot) : (s.setFwSlot k f).out = s.out := rfl
@[simp] theorem State.setFwSlot_inp (s : State) (k : Nat) (f : FwSlot) : (s.setFwSlot k f).inp = s.inp := rfl
@[simp] theorem State.setFwSlot_net (s : State) (k : Nat) (f : FwSlot) : (s.setFwSlot k f).net = s.net := rfl
@[simp] theorem State.setFwSlot_twin (s : State) (k : Nat) (f : FwSlot) : (s.setFwSlot k f).twin = s.twin := rfl
@[simp] theorem State.setFwSlot_core (s : State) (k : Nat) (f : FwSlot) : (s.setFwSlot k f).core = s.core := rfl
@[simp] theorem State.setFwSlot_sec (s : State) (k : Nat) (f : FwSlot) : (s.setFwSlot k f).sec = s.sec := rfl
@[simp] theorem State.setFwSlot_acc (s : State) (k : Nat) (f : FwSlot) : (s.setFwSlot k f).acc = s.acc := rfl

-- setCopy changes nv only.
@[simp] theorem State.setCopy_now (s : State) (k : Nat) (c : SetCopy) : (s.setCopy k c).now = s.now := rfl
@[simp] theorem State.setCopy_ntime (s : State) (k : Nat) (c : SetCopy) : (s.setCopy k c).ntime = s.ntime := rfl
@[simp] theorem State.setCopy_pending (s : State) (k : Nat) (c : SetCopy) : (s.setCopy k c).pending = s.pending := rfl
@[simp] theorem State.setCopy_regs (s : State) (k : Nat) (c : SetCopy) : (s.setCopy k c).regs = s.regs := rfl
@[simp] theorem State.setCopy_host (s : State) (k : Nat) (c : SetCopy) : (s.setCopy k c).host = s.host := rfl
@[simp] theorem State.setCopy_flt (s : State) (k : Nat) (c : SetCopy) : (s.setCopy k c).flt = s.flt := rfl
@[simp] theorem State.setCopy_pwr (s : State) (k : Nat) (c : SetCopy) : (s.setCopy k c).pwr = s.pwr := rfl
@[simp] theorem State.setCopy_arb (s : State) (k : Nat) (c : SetCopy) : (s.setCopy k c).arb = s.arb := rfl
@[simp] theorem State.setCopy_out (s : State) (k : Nat) (c : SetCopy) : (s.setCopy k c).out = s.out := rfl
@[simp] theorem State.setCopy_inp (s : State) (k : Nat) (c : SetCopy) : (s.setCopy k c).inp = s.inp := rfl
@[simp] theorem State.setCopy_net (s : State) (k : Nat) (c : SetCopy) : (s.setCopy k c).net = s.net := rfl
@[simp] theorem State.setCopy_twin (s : State) (k : Nat) (c : SetCopy) : (s.setCopy k c).twin = s.twin := rfl
@[simp] theorem State.setCopy_core (s : State) (k : Nat) (c : SetCopy) : (s.setCopy k c).core = s.core := rfl
@[simp] theorem State.setCopy_sec (s : State) (k : Nat) (c : SetCopy) : (s.setCopy k c).sec = s.sec := rfl
@[simp] theorem State.setCopy_acc (s : State) (k : Nat) (c : SetCopy) : (s.setCopy k c).acc = s.acc := rfl

-- wr changes regs only.
@[simp] theorem State.wr_now (s : State) (f : Field) (i v : Nat) : (s.wr f i v).now = s.now := rfl
@[simp] theorem State.wr_ntime (s : State) (f : Field) (i v : Nat) : (s.wr f i v).ntime = s.ntime := rfl
@[simp] theorem State.wr_pending (s : State) (f : Field) (i v : Nat) : (s.wr f i v).pending = s.pending := rfl
@[simp] theorem State.wr_host (s : State) (f : Field) (i v : Nat) : (s.wr f i v).host = s.host := rfl
@[simp] theorem State.wr_flt (s : State) (f : Field) (i v : Nat) : (s.wr f i v).flt = s.flt := rfl
@[simp] theorem State.wr_pwr (s : State) (f : Field) (i v : Nat) : (s.wr f i v).pwr = s.pwr := rfl
@[simp] theorem State.wr_arb (s : State) (f : Field) (i v : Nat) : (s.wr f i v).arb = s.arb := rfl
@[simp] theorem State.wr_out (s : State) (f : Field) (i v : Nat) : (s.wr f i v).out = s.out := rfl
@[simp] theorem State.wr_inp (s : State) (f : Field) (i v : Nat) : (s.wr f i v).inp = s.inp := rfl
@[simp] theorem State.wr_net (s : State) (f : Field) (i v : Nat) : (s.wr f i v).net = s.net := rfl
@[simp] theorem State.wr_twin (s : State) (f : Field) (i v : Nat) : (s.wr f i v).twin = s.twin := rfl
@[simp] theorem State.wr_core (s : State) (f : Field) (i v : Nat) : (s.wr f i v).core = s.core := rfl
@[simp] theorem State.wr_nv (s : State) (f : Field) (i v : Nat) : (s.wr f i v).nv = s.nv := rfl
@[simp] theorem State.wr_sec (s : State) (f : Field) (i v : Nat) : (s.wr f i v).sec = s.sec := rfl
@[simp] theorem State.wr_acc (s : State) (f : Field) (i v : Nat) : (s.wr f i v).acc = s.acc := rfl

-- What the updates write.
@[simp] theorem State.tick_now (s : State) (dt : Ns) : (s.tick dt).now = s.now + dt := rfl

end Sys2Proof.Machine
end

