-- ==== Sys2Proof/Tests/Slice0.lean ====
section
/-!
SUPPORT. Sys2Proof/Tests/Slice0.lean: the checks of WellFormed, small results worked out by hand from the rules, and for each statement of
Sys2Proof/Certificates/Slice0/Obligations.lean a theorem that shows, clause by clause, a state and operands that meet its hypotheses together.
-/
set_option maxRecDepth 8000
open Sys2Proof Sys2Proof.Machine
namespace Sys2Proof.Tests
/-- Die C runs, the link is up. -/
def live : State := { State.reset with pwr := { phase := .run }, now := 1000000000000, ntime := 1000000000000, host := { linkUp := true }, nv := { lc := 2 } }
/-- Die C is absent. -/
def dark : State := { live with pwr := { phase := .unpowered } }
def m0 : Meas := { i := 0, tj := 0 }
/-- A measurement with a high current that lasts. -/
def mHigh : Meas := { i := 30000, tj := 300, lim := some 10000000000, held := 10000000000 }
/-- A demand of class 2 for HS03 that waits, with no claims. -/
def dem (cmd : Option Cmd := none) (latest : Option Ns := none) : Demand :=
  { obj := 3, cls := 2, kind := .restart, cmd, arrival := 0, latest, stand := [], trans := [], dur := 0 }
def sample0 : Sample := { vbat := 0, volt := [], curr := [], tcase := 0, tdie := [], pd := 0, vbst := 0, loads := [], boosts := [], meas := [] }
/-- A command of `pf` in entry 0 of its ring 0. -/
def cmd (op o : Nat) (param : Nat := 0) (pf : Nat := 1) : Cmd :=
  { pf, ring := 0, slot := 0, op, flags := 0, tag := 0, object := o, seq := 0, maxlat := 0, param }
def frm0 : Frame := { id := 0, fmt := 0 }
def tx0 (f : From) : Tx := { ord := 0, frm := f, body := .bus frm0 }
def bus0 (f : From) : OnBus := { tx := tx0 f, frame := .bus frm0, sof := 0 }
/-- Channel CAN00 runs. -/
def canOn : State := (((live.wr Reg.CAN_CTL_EN 0 1).wr Reg.CAN_STAT_STATE 0 0).wr Reg.CAN_XCVR_MODE 0 2).wr Reg.NM_STAT_STATE 0 1
/-- The twin object in state `st` with role `role`. -/
def tw (st role : Nat) : State := (live.wr Reg.TW_STAT_STATE 0 st).wr Reg.TW_STAT_ROLE 0 role
/-- The same with the Reed link up. -/
def twR (st role : Nat) : State := let s := (tw st role).wr Reg.TW_STAT_LANES 0 1; { s with pwr := { s.pwr with refPresent := true } }
/-- The module in power phase `p`. -/
def ph (p : Phase) : State := { live with pwr := { live.pwr with phase := p } }
def swap0 (k : Nat) : Swap := { phase := k, since := 0 }
/-- Ring 0 of function 0 and its completion ring, enabled. -/
def rings : State := ((live.setCmdRing 0 0 { en := true, tail := 1 }).setCplRing 0 0 { en := true }).setFn 0 { enable := true }
end Sys2Proof.Tests
namespace Sys2Proof.Machine
/-- `c` is in flight. -/
def State.has (s : State) (c : Cmd) : State := { s with host := { s.host with inflight := [{ cmd := c }] } }
def State.onHost (s : State) (f : HostState → HostState) : State := { s with host := f s.host }
def State.onNet (s : State) (f : NetState → NetState) : State := { s with net := f s.net }
def State.onArb (s : State) (f : ArbState → ArbState) : State := { s with arb := f s.arb }
def State.onCore (s : State) (f : CoreState → CoreState) : State := { s with core := f s.core }
def State.onOut (s : State) (f : OutState → OutState) : State := { s with out := f s.out }
def State.onInp (s : State) (f : InState → InState) : State := { s with inp := f s.inp }
def State.onFlt (s : State) (f : FaultState → FaultState) : State := { s with flt := f s.flt }
end Sys2Proof.Machine
namespace Sys2Proof.Tests
/-- A read command for HS03 into 512 bytes, and a state in which it is in flight. -/
def rdCmd (op : Nat) : Cmd := cmd op 3 (512 * 2 ^ 64)
def rdState (op : Nat) : State := live.has (rdCmd op)
def rdTaken (op : Nat) : State := (rdState op).taken 0 (rdCmd op)
/-- A token frame with its CRC. -/
def tok (l : List Byte) : List Byte := l ++ [crc8 l]
/-- Lifecycle state `n`, with key slot 0 programmed for a public key of zeros. -/
def keyed (n : Nat) : State :=
  { live with nv := { live.nv with lc := n, slots := [(0, { programmed := true, digest := shake (List.replicate 57 0) })] } }
/-- A command with a record at address 0, a state with lifecycle `n` in which it is in flight, and the state in which it meets its block. -/
def recCmd (op : Nat) (o : Nat := 0xFFFF) : Cmd := cmd op o (256 * 2 ^ 64)
def recIn (n op : Nat) (o : Nat := 0xFFFF) : State := (keyed n).has (recCmd op o)
def recAt (n op : Nat) (o : Nat := 0xFFFF) : State := (recIn n op o).taken 0 (recCmd op o)
/-- An RF_RESPONSE of serial 0 with RT 0 and the tag `x`. -/
def answer (x : Nat) : List Byte := tok ([5, 0, 0, 0, 0, 0, 0, 0, 0, 0, 0, 0, 0] ++ leBytes 8 x)
theorem answer_mac (x : Nat) : recNum (answer x) 13 8 = x % 2 ^ 64 := by
  have e : recNum (answer x) 13 8 = ofLe ((leBytes 8 x).map (· % 256)) := rfl
  rw [e]
  simp [leBytes, ofLe]
  omega
/-- A firmware image with a body of 128 zeros that reads state-image format 0102h, signed by slot 0. -/
def image0 : FwSlot :=
  { valid := true, bytes := [(0, 0x4C), (1, 0x4E), (2, 0x46), (3, 0x57), (5, 1), (18, 1), (20, 2), (21, 1), (28, 128)] ++
      (List.range 64).map fun j => (32 + j, (leBytes 64 (shake (List.replicate 128 0))).getD j 0) }
theorem image0_digest : shake (image0.bytesAt 512 image0.bodyLen) = image0.num 32 64 := by
  have e : image0.num 32 64 = ofLe ((leBytes 64 (shake (List.replicate 128 0))).map (· % 256)) := rfl
  rw [e, ofLe_leBytes]
  show shake (List.replicate 128 0) = _
  unfold shake; omega
/-- State `st` of the update, with `image0` staged. -/
def staged (st : Nat) : State := { keyed 2 with nv := { (keyed 2).nv with updState := st, fw := [(1, image0)] } }

/-! ### An operand out of its width is refused -/

theorem test_wf_pf : (Instr.dbEvt 0 4 0).wf = false := by decide
theorem test_wf_cmd_pf : (Instr.nop 0 { cmd 0 0 with pf := 4 }).wf = false := by decide
theorem test_wf_cmd_ring : (Instr.nop 0 { cmd 0 0 with ring := 32 }).wf = false := by decide
theorem test_wf_cmd_slot : (Instr.nop 0 { cmd 0 0 with slot := 4096 }).wf = false := by decide
theorem test_wf_cmd_op : (Instr.nop 0 { cmd 0 0 with op := 65536 }).wf = false := by decide
theorem test_wf_cmd_flags : (Instr.nop 0 { cmd 0 0 with flags := 65536 }).wf = false := by decide
theorem test_wf_cmd_tag : (Instr.nop 0 { cmd 0 0 with tag := 65536 }).wf = false := by decide
theorem test_wf_cmd_object : (Instr.nop 0 { cmd 0 0 with object := 65536 }).wf = false := by decide
theorem test_wf_cmd_seq : (Instr.nop 0 { cmd 0 0 with seq := 2 ^ 32 }).wf = false := by decide
theorem test_wf_cmd_maxlat : (Instr.nop 0 { cmd 0 0 with maxlat := 65536 }).wf = false := by decide
theorem test_wf_cmd_rsv : (Instr.nop 0 { cmd 0 0 with rsv := 65536 }).wf = false := by decide
theorem test_wf_cmd_param : (Instr.nop 0 { cmd 0 0 with param := 2 ^ 128 }).wf = false := by decide
theorem test_wf_cmd_core : (Instr.nop 0 { cmd 0 0 with src := .core 5 }).wf = false := by decide
theorem test_wf_batch : (Instr.commandFetch 0 0 0 [cmd 0 0, { cmd 0 0 with pf := 4 }] false).wf = false := by decide
theorem test_wf_meas_i : ({ m0 with i := 65536 } : Meas).wf = false := by decide
theorem test_wf_meas_tj : ({ m0 with tj := 256 } : Meas).wf = false := by decide
theorem test_wf_meas_vout : ({ m0 with vout := 65536 } : Meas).wf = false := by decide
theorem test_wf_segment : (Instr.segmentMeasure 0 3 { meas := { m0 with tj := 256 }, drifts := [] }).wf = false := by decide
theorem test_wf_sample : (Instr.claimRenew 0 { sample0 with meas := [(3, { m0 with i := 65536 })] }).wf = false := by decide
theorem test_wf_bytes : bytesWf [0, 256] = false := by decide
theorem test_wf_accepts : (Instr.commandFetch 0 3 0 [cmd 0x2002 3] false).wf = true := by decide

/-! ### Results worked out by hand -/

/-- The state after a command, and the state before it where it does not go on. -/
def after (i : Instr) (s : State) : State := match exec i s with | .next t => t | _ => s

/-- The check value of CRC-8 SAE J1850, 4Bh, before its final inversion (R883). -/
theorem test_crc8 : crc8 [0x31, 0x32, 0x33, 0x34, 0x35, 0x36, 0x37, 0x38, 0x39] = 0xB4 := by decide
/-- Half a step rounds toward plus infinity, on both sides of 0 (R474). -/
theorem test_q_ties : qMul 32768 1 = (1, false) ∧ qMul (-32768) 1 = (0, false) := by decide
/-- 32767 × 2 saturates (R475). -/
theorem test_q_saturates : qMul (32767 * 65536) 131072 = (2147483647, true) := by decide
/-- An empty queue idles (log entry 1). -/
theorem test_idle : step State.reset = .next State.reset := rfl
/-- OUT_ON takes HS03 into INRUSH, and its outcome is not reached yet (R154, R192, R211). -/
theorem test_out_on : (after (.outOn 0 (cmd 0x2002 3) 0) (live.has (cmd 0x2002 3))).st 3 = 1 := by decide
/-- OUT_OFF switches HS03 off and completes (R154). -/
theorem test_out_off : (after (.outOff 0 (cmd 0x2001 3)) ((live.setSt 3 2).has (cmd 0x2001 3))).st 3 = 0 := by decide
theorem test_out_off_completes : (after (.outOff 0 (cmd 0x2001 3)) ((live.setSt 3 2).has (cmd 0x2001 3))).host.inflight = [] := by decide
/-- TBST of SV00 has the range 1 to 1000: 0 is raised to 1 (R135). -/
theorem test_clamp : (after (.setupWrite 0 0 0x0D 4 4 0 false false) live).rd Reg.SV_CFG1_TBST 0 = 1 := by decide
/-- Function 2 may not write window 0Dh: the field keeps its reset value (R86). -/
theorem test_no_window : (after (.setupWrite 0 2 0x0D 4 4 5 false false) live).rd Reg.SV_CFG1_TBST 0 = 100 := by decide
/-- MX_CONFIG of a scanning matrix takes a lower ICOL from byte 16 of the descriptor at once (R371). -/
theorem test_mx_config : (after (.mxConfig 0 (cmd 0x3001 0xA0 5)) (((live.setSt mxObj 1).wr Reg.MX_CFG0_ICOL 0 9).has (cmd 0x3001 0xA0 5))).mxIcol = 5 := by decide

/-! ### The hypotheses of each statement are met -/

/-- Hypotheses of `Obligations.ChannelCommandsComplete`. -/
theorem test_witness_ChannelCommandsComplete :
    (∃ (s : State) (dt : Ns) (c : Cmd), let b := s.taken dt c; let o := c.object; s.starts dt c 0x2001 [.hs, .ls] = true ∧ b.chMemberBar o = none ∧
      b.limpBar o = none ∧ (b.st o = 0 ∨ b.latched o = true ∨ b.ovBar o = none)) ∧
    (∃ (s : State) (dt : Ns) (c : Cmd), let b := s.taken dt c; let o := c.object; s.starts dt c 0x2002 [.hs, .ls] = true ∧ b.chMemberBar o = none ∧
      b.limpBar o = none ∧ b.onBar o = none ∧ b.isOn o = true ∧ (b.obj o).target = 1) ∧
    (∃ (s : State) (dt : Ns) (c : Cmd) (vd : Nat), let b := s.taken dt c; let o := c.object;
      let w := fun (k : Nat) (t : State) => if isKind .hs o then t else t.descClamp c (objWin o) k 0 1 (c.argBits k 0 1) 0; let x := w 16 b;
      s.starts dt c 0x2002 [.hs, .ls] = true ∧ b.chMemberBar o = none ∧ b.limpBar o = none ∧ b.onBar o = none ∧ b.ovBar o = none ∧ b.isOn o = false ∧
      ∃ inr z, inr = (isKind .hs o && c.argBits 16 0 1 == 1) ∧ z = x.noteVd o vd) ∧
    (∃ (s : State) (dt : Ns) (c : Cmd), let b := s.taken dt c; let o := c.object; s.starts dt c 0x2002 [.hs, .ls] = true ∧ b.chMemberBar o = none ∧
      b.limpBar o = none ∧ b.onBar o = none ∧ b.ovBar o = none ∧ b.isOn o = true ∧ (b.obj o).target ≠ 1) ∧
    (∃ (s : State) (dt : Ns) (c : Cmd), let b := s.taken dt c; let o := c.object; let i := chIx o; let d := b.chMinDuty i (c.arg 16 2);
      s.starts dt c 0x2003 [.hs, .ls] = true ∧ b.chMemberBar o = none ∧ b.limpBar o = none ∧ b.onBar o = none ∧ b.isOn o = true ∧
      (b.obj o).target = 2 ∧ b.setDuty o = d) ∧
    (∃ (s : State) (dt : Ns) (c : Cmd) (vd : Nat), let b := s.taken dt c; let o := c.object; let i := chIx o;
      let w := fun (k : Nat) (t : State) => if isKind .hs o then t else t.descClamp c (objWin o) k 0 1 (c.argBits k 0 1) 0;
      let d := b.chMinDuty i (c.arg 16 2); let y := w 18 (b.descClamp c (objWin o) 16 0 16 (c.arg 16 2) d); s.starts dt c 0x2003 [.hs, .ls] = true ∧
      b.chMemberBar o = none ∧ b.limpBar o = none ∧ b.onBar o = none ∧ b.ovBar o = none ∧ b.loopBar o = none ∧ b.isOn o = false ∧ ∃ inr z,
      inr = (isKind .hs o && c.argBits 18 0 1 == 1) ∧ z = y.noteVd o vd) ∧
    (∃ (s : State) (dt : Ns) (c : Cmd), let b := s.taken dt c; let o := c.object; let i := chIx o; let d := b.chMinDuty i (c.arg 16 2);
      s.starts dt c 0x2003 [.hs, .ls] = true ∧ b.chMemberBar o = none ∧ b.limpBar o = none ∧ b.onBar o = none ∧ b.ovBar o = none ∧
      b.loopBar o = none ∧ b.isOn o = true ∧ ((b.obj o).target ≠ 2 ∨ b.setDuty o ≠ d) ∧ d ≤ b.chDuty o) ∧
    (∃ (s : State) (dt : Ns) (c : Cmd), let b := s.taken dt c; let o := c.object; let i := chIx o; let d := b.chMinDuty i (c.arg 16 2);
      s.starts dt c 0x2003 [.hs, .ls] = true ∧ b.chMemberBar o = none ∧ b.limpBar o = none ∧ b.onBar o = none ∧ b.ovBar o = none ∧
      b.loopBar o = none ∧ b.isOn o = true ∧ ((b.obj o).target ≠ 2 ∨ b.setDuty o ≠ d) ∧ b.chDuty o < d) ∧
    (∃ (s : State) (dt : Ns) (c : Cmd), let b := s.taken dt c; let o := c.object; s.starts dt c 0x2004 [.hs, .ls] = true ∧ b.chMemberBar o = none ∧
      b.limpBar o = none ∧ b.latched o = false) ∧
    (∃ (s : State) (dt : Ns) (c : Cmd), let b := s.taken dt c; let o := c.object; let i := chIx o; s.starts dt c 0x2004 [.hs, .ls] = true ∧
      b.chMemberBar o = none ∧ b.limpBar o = none ∧ b.latched o = true ∧ (b.chMembers i).all b.chGone = true ∧ b.ovBar o = none) ∧
    (∃ (s : State) (dt : Ns) (c : Cmd), let b := s.taken dt c; let o := c.object; let i := chIx o; s.starts dt c 0x2004 [.hs, .ls] = true ∧
      b.chMemberBar o = none ∧ b.limpBar o = none ∧ b.latched o = true ∧ (b.chMembers i).all b.chGone = false) ∧
    (∃ (s : State) (dt : Ns) (c : Cmd), let b := s.taken dt c; let o := c.object; s.starts dt c 0x3001 [.hs, .ls] = true ∧ b.chMemberBar o = none ∧
      b.parBar o (c.argBits 28 0 2) = none) ∧
    (∃ (s : State) (dt : Ns) (c : Cmd), let b := s.taken dt c; let o := c.object; s.starts dt c 0x3002 [.hs, .ls] = true ∧ b.chMemberBar o = none) ∧
    (∃ (s : State) (dt : Ns) (c : Cmd), let b := s.taken dt c; let o := c.object; s.starts dt c 0x2005 [.hs, .ls] = true ∧ b.chMemberBar o = none ∧
      b.limpBar o = none ∧ (b.commanded o).latched o = false) ∧
    (∃ (s : State) (dt : Ns) (c : Cmd), let b := s.taken dt c; let o := c.object; s.starts dt c 0x2005 [.hs, .ls] = true ∧ b.chMemberBar o = none ∧
      b.limpBar o = none ∧ ∃ v, (b.commanded o).latched o = true ∧ latchVerdict (kindOf o) ((b.commanded o).causeOf o) = some v) :=
  ⟨⟨(((live.setSt ((cmd 0x2001 3).object) 0).setSt ((cmd 0x2001 3).object) (stLatched (kindOf ((cmd 0x2001 3).object)))).has (cmd 0x2001 3)), 0,
    (cmd 0x2001 3), by decide, by decide, by decide, by decide⟩,
  ⟨(((live.setSt ((cmd 0x2002 3).object) 1).modObj ((cmd 0x2002 3).object) (fun q => { q with target := 1 })).has (cmd 0x2002 3)), 0, (cmd 0x2002 3),
    by decide, by decide, by decide, by decide, by decide, by decide⟩,
  ⟨(live.has (cmd 0x2002 3)), 0, (cmd 0x2002 3), 0, by decide, by decide, by decide, by decide, by decide, by decide, _, _, rfl, rfl⟩,
  ⟨((live.setSt ((cmd 0x2002 3).object) 1).has (cmd 0x2002 3)), 0, (cmd 0x2002 3), by decide, by decide, by decide, by decide, by decide, by decide,
    by decide⟩,
  ⟨(((live.setSt ((cmd 0x2003 3).object) 1).modObj ((cmd 0x2003 3).object) (fun q => { q with target := 2 })).has (cmd 0x2003 3)), 0, (cmd 0x2003 3),
    by decide, by decide, by decide, by decide, by decide, by decide, by decide⟩,
  ⟨(live.has (cmd 0x2003 3)), 0, (cmd 0x2003 3), 0, by decide, by decide, by decide, by decide, by decide, by decide, by decide, _, _, rfl, rfl⟩,
  ⟨((live.setSt ((cmd 0x2003 3).object) 1).has (cmd 0x2003 3)), 0, (cmd 0x2003 3), by decide, by decide, by decide, by decide, by decide, by decide,
    by decide, by decide, by decide⟩,
  ⟨((live.setSt ((cmd 0x2003 3 1000).object) 1).has (cmd 0x2003 3 1000)), 0, (cmd 0x2003 3 1000), by decide, by decide, by decide, by decide,
    by decide, by decide, by decide, by decide, by decide⟩,
  ⟨(live.has (cmd 0x2004 3)), 0, (cmd 0x2004 3), by decide, by decide, by decide, by decide⟩,
  ⟨((live.setSt ((cmd 0x2004 3).object) (stLatched (kindOf ((cmd 0x2004 3).object)))).has (cmd 0x2004 3)), 0, (cmd 0x2004 3), by decide, by decide,
    by decide, by decide, by decide, by decide⟩,
  ⟨((((live.setSt ((cmd 0x2004 3).object) (stLatched (kindOf ((cmd 0x2004 3).object)))).wr Reg.CH_STAT_CAUSE 3 4).wr Reg.CH_MEAS_TJ 3 250).has (cmd 0x2004 3)),
    0, (cmd 0x2004 3), by decide, by decide, by decide, by decide, by decide⟩,
  ⟨(live.has (cmd 0x3001 3)), 0, (cmd 0x3001 3), by decide, by decide, by decide⟩,
  ⟨(live.has (cmd 0x3002 3)), 0, (cmd 0x3002 3), by decide, by decide⟩,
  ⟨(live.has (cmd 0x2005 3)), 0, (cmd 0x2005 3), by decide, by decide, by decide, by decide⟩,
  ⟨(((live.setSt 3 (stLatched .hs)).wr Reg.CH_STAT_CAUSE 3 1).has (cmd 0x2005 3)), 0, (cmd 0x2005 3), by decide, by decide, by decide, _, by decide,
    rfl⟩⟩

/-- Hypotheses of `Obligations.ChannelTripsAndOutcomes`. -/
theorem test_witness_ChannelTripsAndOutcomes :
    (∃ (s : State) (dt : Nat) (o : Nat) (v : Nat), let u := s.tick dt; u.isCh o = true ∧ u.st o = 1 ∧ (u.obj o).target = 1 ∧ u.settled o v = true ∧
      ((u.cmdDone o).obj o).next.isSome = true) ∧
    (∃ (s : State) (dt : Nat) (o : Nat) (v : Nat), let u := s.tick dt; u.isCh o = true ∧ u.st o = 1 ∧ (u.obj o).target = 1 ∧ u.settled o v = true ∧
      ((u.cmdDone o).obj o).next = none) ∧
    (∃ (s : State) (dt : Nat) (o : Nat) (m : Meas), let u := s.tick dt; let t := u.measure o m; let i := u.chIdx o; u.isCh o = true ∧ u.st o = 1 ∧
      u.rd Reg.CH_CFG0_TLIM i * 10000 ≤ t.grpDwell i) ∧
    (∃ (s : State) (dt : Nat) (o : Nat) (m : Meas), let u := s.tick dt; let i := u.chIdx o; u.isCh o = true ∧ u.inLimit o m = true ∧
      belowShort o m = true ∧ u.rd Reg.CH_CFG0_TSCB i * 10000 ≤ min m.held (u.now - (u.obj o).onAt)) ∧
    (∃ (s : State) (dt : Nat) (o : Nat) (e : Nat), let u := s.tick dt; u.isCh o = true ∧ (u.addClamp o e).2 = false) ∧
    (∃ (s : State) (dt : Nat) (o : Nat) (e : Nat), let u := s.tick dt; u.isCh o = true ∧ (u.addClamp o e).2 = true) ∧
    (∃ (s : State) (dt : Nat) (o : Nat) (m : Meas), let u := s.tick dt; isKind .hs o = true ∧ u.supplied o = true ∧ (u.st o = 1 ∨ u.st o = 2) ∧
      u.flag Reg.CH_STAT_REVOPEN (chIx o) = false ∧ m.ma < -(revThr (chIx o) : Int) ∧ 2000 ≤ m.held) ∧
    (∃ (s : State) (dt : Nat) (o : Nat) (v : Nat), let u := s.tick dt; isKind .hs o = true ∧ u.supplied o = true ∧ 50 < v) ∧
    (∃ (s : State) (dt : Nat) (o : Nat) (m : Meas), let u := s.tick dt; u.isCh o = true ∧ u.isOn o = true ∧ 225 ≤ m.tj) ∧
    (∃ (s : State) (dt : Nat) (o : Nat) (m : Meas), let u := s.tick dt; let i := u.chIdx o; u.isCh o = true ∧ u.isOn o = true ∧
      8 * ((u.rd Reg.CH_CFG1_DT_OFF i : Nat) : Int) ≤ u.deltaT m.tj) ∧
    (∃ (s : State) (dt : Nat) (o : Nat) (m : Meas), let u := s.tick dt; let t := u.measure o m; let i := u.chIdx o; u.isCh o = true ∧ i = chIx o ∧
      u.st o = 4 ∧ (u.obj o).asked = false ∧ (u.chMembers i).all (fun k => u.cooled i (t.tjOf (chObj k))) = true) :=
  ⟨⟨(((live.setSt 0 1).modObj 0 (fun q => { q with target := 1 })).modObj 0 (fun q => { q with next := some 0 })), 0, 0, 0, by decide, by decide,
    by decide, by decide, by decide⟩,
  ⟨((live.setSt 0 1).modObj 0 (fun q => { q with target := 1 })), 0, 0, 60000, by decide, by decide, by decide, by decide, by decide⟩,
  ⟨(live.setSt 0 1), 0, 0, mHigh, by decide, by decide, by decide⟩,
  ⟨(live.setSt 0 1), 0, 0, mHigh, by decide, by decide, by decide, by decide⟩,
  ⟨live, 0, 0, 0, by decide, by decide⟩,
  ⟨live, 0, 0, 30000, by decide, by decide⟩,
  ⟨((live.setSt 0 1).wr Reg.CH_STAT_REVOPEN ((chIx 0)) 0), 0, 0, { m0 with i := 60000, held := 10000 }, by decide, by decide, by decide, by decide,
    by decide, by decide⟩,
  ⟨live, 0, 0, 51, by decide, by decide, by decide⟩,
  ⟨(live.setSt 0 1), 0, 0, { m0 with tj := 225 }, by decide, by decide, by decide⟩,
  ⟨(live.setSt 0 1), 0, 0, { m0 with tj := 300 }, by decide, by decide, by decide⟩,
  ⟨((live.setSt 0 4).modObj 0 (fun q => { q with asked := false })), 0, 0, m0, by decide, by decide, by decide, by decide, by decide⟩⟩

/-- Hypotheses of `Obligations.InrushAndSag`. -/
theorem test_witness_InrushAndSag :
    (∃ (s : State) (dt : Nat) (o : Nat) (m : Meas), let u := s.tick dt; let t := u.measure o m; let i := u.chIdx o; isKind .hs o = true ∧
      u.isCh o = true ∧ u.st o = 2 ∧ u.sag o = false ∧ u.rd Reg.CH_CFG1_TLIM_INR i * 10000 ≤ t.grpDwell i ∧
      t.rd Reg.CH_STAT_RETRIES i < t.rd Reg.CH_CFG1_NRETRY i) ∧
    (∃ (s : State) (dt : Nat) (o : Nat) (m : Meas), let u := s.tick dt; let t := u.measure o m; let i := u.chIdx o; isKind .hs o = true ∧
      u.isCh o = true ∧ u.st o = 2 ∧ u.sag o = false ∧ u.rd Reg.CH_CFG1_TLIM_INR i * 10000 ≤ t.grpDwell i ∧
      t.rd Reg.CH_CFG1_NRETRY i ≤ t.rd Reg.CH_STAT_RETRIES i) ∧
    (∃ (s : State) (dt : Nat) (o : Nat), let u := s.tick dt; let i := u.chIdx o; isKind .hs o = true ∧ u.isCh o = true ∧ u.st o = 3 ∧
      u.ovFrozen o = false ∧ (u.obj o).offAt + u.rd Reg.CH_CFG1_TOFF i * 20000 ≤ u.now) ∧
    (∃ (s : State) (dt : Nat) (o : Nat) (m : Meas), let u := s.tick dt; let i := u.chIdx o; isKind .hs o = true ∧ u.isCh o = true ∧ u.st o = 2 ∧
      m.ma < ((u.rd Reg.CH_CFG0_ILIM i * ilimStep i * 125 : Nat) : Int) ∧ 100000 ≤ min m.held (u.now - (u.obj o).onAt)) ∧
    (∃ (s : State) (dt : Nat) (o : Nat), let u := s.tick dt; isKind .hs o = true ∧ u.isCh o = true ∧ (u.st o = 2 ∨ u.st o = 3) ∧
      100000000 ≤ u.inrSoFar (u.chLead o)) ∧
    (∃ (s : State) (dt : Nat) (g : Nat) (v : Nat), let u := s.tick dt; 1 ≤ g ∧ g ≤ 4 ∧ bit (u.rd Reg.HS_GRP_SAG) (g - 1) = false ∧
      100 * v < 92 * (u.group g).avg) ∧
    (∃ (s : State) (dt : Nat) (g : Nat) (v : Nat), let u := s.tick dt; 1 ≤ g ∧ g ≤ 4 ∧ 96 * (u.group g).avg ≤ 100 * v) :=
  ⟨⟨(live.setSt 0 2), 0, 0, mHigh, by decide, by decide, by decide, by decide, by decide, by decide⟩,
  ⟨((live.setSt 0 2).wr Reg.CH_STAT_RETRIES 0 10), 0, 0, mHigh, by decide, by decide, by decide, by decide, by decide, by decide⟩,
  ⟨(live.setSt 0 3), 0, 0, by decide, by decide, by decide, by decide, by decide⟩,
  ⟨(live.setSt 0 2), 0, 0, { m0 with held := 1000000 }, by decide, by decide, by decide, by decide, by decide⟩,
  ⟨((live.setSt 0 2).modObj 0 (fun q => { q with inrTime := 100000000 })), 0, 0, by decide, by decide, by decide, by decide⟩,
  ⟨(live.setGroup 1 { avg := 1000 }), 0, 1, 0, by decide, by decide, by decide, by decide⟩,
  ⟨live, 0, 1, 0, by decide, by decide, by decide⟩⟩

/-- Hypotheses of `Obligations.DiagnosticsComplete`. -/
theorem test_witness_DiagnosticsComplete :
    (∃ (s : State) (dt : Nat) (o : Nat) (a : Nat), let u := s.tick dt; let i := chIx o; (kindOf o = .hs ∨ kindOf o = .ls) ∧ u.adcLost o = false ∧
      u.isCh o = true ∧ u.st o = 1 ∧ (u.obj o).onAt + 1000000 ≤ u.now ∧ ∃ k, u.onMethod i = some k ∧ u.sampleDue i k = true ∧ ∃ (v : State),
      v = ((u.wr Reg.DG_DSTAT_ILOW i (min 0xFFFF a)).wr Reg.DG_DSTAT_METHOD i k).took o ∧ (v.rd Reg.DG_DSTAT_VERDICT i ≠ 4 ∨ v.iwarn i = 0) ∧
      v.iol i ≤ a) ∧
    (∃ (s : State) (dt : Nat) (o : Nat) (a : Nat), let u := s.tick dt; let i := chIx o; (kindOf o = .hs ∨ kindOf o = .ls) ∧ u.adcLost o = false ∧
      u.isCh o = true ∧ u.st o = 1 ∧ (u.obj o).onAt + 1000000 ≤ u.now ∧ ∃ k, u.onMethod i = some k ∧ u.sampleDue i k = true ∧ ∃ (v : State),
      v = ((u.wr Reg.DG_DSTAT_ILOW i (min 0xFFFF a)).wr Reg.DG_DSTAT_METHOD i k).took o ∧ (v.rd Reg.DG_DSTAT_VERDICT i ≠ 4 ∨ v.iwarn i = 0) ∧
      a < v.iol i) ∧
    (∃ (s : State) (dt : Nat) (o : Nat) (a : Nat), let u := s.tick dt; let i := chIx o; (kindOf o = .hs ∨ kindOf o = .ls) ∧ u.adcLost o = false ∧
      u.isCh o = true ∧ u.st o = 1 ∧ (u.obj o).onAt + 1000000 ≤ u.now ∧ ∃ k, u.onMethod i = some k ∧ u.sampleDue i k = true ∧ ∃ (v : State),
      v = ((u.wr Reg.DG_DSTAT_ILOW i (min 0xFFFF a)).wr Reg.DG_DSTAT_METHOD i k).took o ∧ v.rd Reg.DG_DSTAT_VERDICT i = 4 ∧ v.iwarn i ≠ 0 ∧
      v.iwarn i ≤ a) ∧
    (∃ (s : State) (dt : Nat) (o : Nat) (a : Nat), let u := s.tick dt; let i := chIx o; (kindOf o = .hs ∨ kindOf o = .ls) ∧ u.adcLost o = false ∧
      u.isCh o = true ∧ u.st o = 1 ∧ (u.obj o).onAt + 1000000 ≤ u.now ∧ ∃ k, u.onMethod i = some k ∧ u.sampleDue i k = true ∧ ∃ (v : State),
      v = ((u.wr Reg.DG_DSTAT_ILOW i (min 0xFFFF a)).wr Reg.DG_DSTAT_METHOD i k).took o ∧ v.rd Reg.DG_DSTAT_VERDICT i = 4 ∧ v.iwarn i ≠ 0 ∧
      a < v.iwarn i ∧ v.iol i ≤ a) ∧
    (∃ (s : State) (dt : Nat) (o : Nat) (a : Nat), let u := s.tick dt; kindOf o = .sv ∧ u.adcLost o = false ∧ u.supplied o = true ∧ u.st o = 3 ∧
      u.apart o 1000000 = true ∧ 16 * u.svHoldMa (objNum o) ≤ 10 * a ∧ 10 * a ≤ 24 * u.svHoldMa (objNum o)) ∧
    (∃ (s : State) (dt : Nat) (o : Nat) (a : Nat), let u := s.tick dt; kindOf o = .hb ∧ u.adcLost o = false ∧ u.supplied o = true ∧
      u.hbLeader (objNum o) = objNum o ∧ u.st o = 2 ∧ 16384 ≤ u.rd Reg.HB_OUT_DEFF (objNum o) ∧ u.apart o 10000000 = true ∧ 200 ≤ a) ∧
    (∃ (s : State) (dt : Nat) (o : Nat) (a : Nat), let u := s.tick dt; kindOf o = .io ∧ u.adcLost o = false ∧ u.dieC = true ∧ u.st o = 1 ∧
      u.apart o 1000000 = true ∧ ∃ (v : State), v = (u.wr Reg.IO_STAT_IOUT (objNum o) (min 0xFFFF (a / 2))).took o ∧
      2 * v.rd Reg.IO_CFG_IOL (objNum o) ≤ a) ∧
    (∃ (s : State) (dt : Nat) (o : Nat) (a : Nat), let u := s.tick dt; kindOf o = .io ∧ u.adcLost o = false ∧ u.dieC = true ∧ u.st o = 1 ∧
      u.apart o 1000000 = true ∧ ∃ (v : State), v = (u.wr Reg.IO_STAT_IOUT (objNum o) (min 0xFFFF (a / 2))).took o ∧
      a < 2 * v.rd Reg.IO_CFG_IOL (objNum o)) ∧
    (∃ (s : State) (dt : Nat) (o : Nat) (w : Lasting), let u := s.tick dt; let i := chIx o; u.isCh o = true ∧ u.adcLost o = false ∧ u.st o = 1 ∧
      u.iwarn i ≠ 0 ∧ u.iwarn i ≤ w.v ∧ u.rd Reg.DG_DCFG1_TOVL i * 1000000 ≤ min w.held (u.now - (u.obj o).onAt)) ∧
    (∃ (s : State) (dt : Nat) (o : Nat) (v0 : Nat), let u := s.tick dt; let i := chIx o; u.isCh o = true ∧ u.offTestOk o = true ∧
      u.adcLost o = false ∧ ∃ (v : State),
      v = (u.wr Reg.DG_DSTAT_METHOD i 3).modObj o (fun x => { x with tookAt := some u.now, testAt := some u.now }) ∧ isKind .hs o = true ∧
      v.supply o < 2 * v0) ∧
    (∃ (s : State) (dt : Nat) (o : Nat) (v0 : Nat) (v1 : Nat), let u := s.tick dt; let i := chIx o; u.isCh o = true ∧ u.offTestOk o = true ∧
      u.adcLost o = false ∧ ∃ (v : State),
      v = (u.wr Reg.DG_DSTAT_METHOD i 3).modObj o (fun x => { x with tookAt := some u.now, testAt := some u.now }) ∧
      let vol := 100 + 50 * v.rd Reg.DG_DCFG0_VOL_OFF i; isKind .hs o = true ∧ 2 * v0 ≤ v.supply o ∧ vol ≤ v1) ∧
    (∃ (s : State) (dt : Nat) (o : Nat) (v0 : Nat) (v1 : Nat), let u := s.tick dt; let i := chIx o; u.isCh o = true ∧ u.offTestOk o = true ∧
      u.adcLost o = false ∧ ∃ (v : State),
      v = (u.wr Reg.DG_DSTAT_METHOD i 3).modObj o (fun x => { x with tookAt := some u.now, testAt := some u.now }) ∧
      let vol := 100 + 50 * v.rd Reg.DG_DCFG0_VOL_OFF i; isKind .hs o = true ∧ 2 * v0 ≤ v.supply o ∧ v1 < vol) ∧
    (∃ (s : State) (dt : Nat) (o : Nat) (v1 : Nat), let u := s.tick dt; let i := chIx o; u.isCh o = true ∧ u.offTestOk o = true ∧
      u.adcLost o = false ∧ ∃ (v : State),
      v = (u.wr Reg.DG_DSTAT_METHOD i 3).modObj o (fun x => { x with tookAt := some u.now, testAt := some u.now }) ∧
      let vol := 100 + 50 * v.rd Reg.DG_DCFG0_VOL_OFF i; isKind .hs o = false ∧ v1 ≤ vol) ∧
    (∃ (s : State) (dt : Nat) (o : Nat) (v1 : Nat), let u := s.tick dt; let i := chIx o; u.isCh o = true ∧ u.offTestOk o = true ∧
      u.adcLost o = false ∧ ∃ (v : State),
      v = (u.wr Reg.DG_DSTAT_METHOD i 3).modObj o (fun x => { x with tookAt := some u.now, testAt := some u.now }) ∧
      let vol := 100 + 50 * v.rd Reg.DG_DCFG0_VOL_OFF i; isKind .hs o = false ∧ vol < v1) ∧
    (∃ (s : State) (dt : Nat) (o : Nat), let u := s.tick dt; (verdField (kindOf o)).isSome = true ∧ isKind .mx o = false ∧ u.isStale o = true ∧
      u.verdictHeld o = false) ∧
    (∃ (s : State) (dt : Nat) (o : Nat), let u := s.tick dt; ∃ c t, (u.obj o).checks = [(c, t)] ∧ t + u.dfresh o ≤ u.now) ∧
    (∃ (s : State) (dt : Nat) (o : Nat) (ds : SegSeen), let u := s.tick dt; let i := chIx o; let m := ds.meas; u.isCh o = true ∧
      (u.st o = 1 ∨ u.st o = 2) ∧ ((u.obj o).segAt = none ∨ (∃ t, (u.obj o).segAt = some t ∧ t + 10000000000 ≤ u.now)) ∧
      (u.chNominal i : Int) ≤ 4 * m.ma ∧ 1000000 ≤ min m.held (u.now - (u.obj o).onAt)) ∧
    (∃ (s : State) (dt : Nat) (o : Nat) (seg : Nat), let u := s.tick dt; u.isCh o = true ∧ (u.activeSegs o).contains seg = true) :=
  ⟨⟨((live.setSt 0 1).modObj 0 (fun q => { q with target := 1 })), 0, 0, 65535, by decide, by decide, by decide, by decide, by decide, _, rfl,
    by decide, _, rfl, by decide, by decide⟩,
  ⟨((live.setSt 0 1).modObj 0 (fun q => { q with target := 1 })), 0, 0, 0, by decide, by decide, by decide, by decide, by decide, _, rfl, by decide,
    _, rfl, by decide, by decide⟩,
  ⟨((((live.setSt 0 1).modObj 0 (fun q => { q with target := 1 })).wr Reg.DG_DCFG1_IWARN 0 1).wr Reg.DG_DSTAT_VERDICT 0 4), 0, 0, 65535, by decide,
    by decide, by decide, by decide, by decide, _, rfl, by decide, _, rfl, by decide, by decide, by decide⟩,
  ⟨((((live.setSt 0 1).modObj 0 (fun q => { q with target := 1 })).wr Reg.DG_DCFG1_IWARN 0 63).wr Reg.DG_DSTAT_VERDICT 0 4), 0, 0, 60000, by decide,
    by decide, by decide, by decide, by decide, _, rfl, by decide, _, rfl, by decide, by decide, by decide, by decide⟩,
  ⟨(((live.setSt 0xC0 3).modValve 0 (fun q => { q with level := 500 })).setSt 0xC0 3), 0, 0xC0, 1000, by decide, by decide, by decide, by decide,
    by decide, by decide, by decide⟩,
  ⟨(((live.setSt 0x60 2).setSt 0x60 2).wr Reg.HB_OUT_DEFF 0 16384), 0, 0x60, 300, by decide, by decide, by decide, by decide, by decide, by decide,
    by decide, by decide⟩,
  ⟨((live.setSt 0x150 1).setSt 0x150 1), 0, 0x150, 60000, by decide, by decide, by decide, by decide, by decide, _, rfl, by decide⟩,
  ⟨(((live.setSt 0x150 1).setSt 0x150 1).wr Reg.IO_CFG_IOL 0 5), 0, 0x150, 0, by decide, by decide, by decide, by decide, by decide, _, rfl,
    by decide⟩,
  ⟨((live.setSt 0 1).wr Reg.DG_DCFG1_IWARN 0 1), 0, 0, { v := 65535, held := 10000000000 }, by decide, by decide, by decide, by decide, by decide,
    by decide⟩,
  ⟨(live.wr Reg.DG_DCFG0_OFFTEST 0 1), 0, 0, 1000, by decide, by decide, by decide, _, rfl, by decide, by decide⟩,
  ⟨(live.wr Reg.DG_DCFG0_OFFTEST 0 1), 0, 0, 0, 60000, by decide, by decide, by decide, _, rfl, by decide, by decide, by decide⟩,
  ⟨(live.wr Reg.DG_DCFG0_OFFTEST 0 1), 0, 0, 0, 0, by decide, by decide, by decide, _, rfl, by decide, by decide, by decide⟩,
  ⟨(live.wr Reg.DG_DCFG0_OFFTEST 48 1), 0, 0x40, 0, by decide, by decide, by decide, _, rfl, by decide, by decide⟩,
  ⟨(live.wr Reg.DG_DCFG0_OFFTEST 48 1), 0, 0x40, 5000, by decide, by decide, by decide, _, rfl, by decide, by decide⟩,
  ⟨live, 0, 0, by decide, by decide, by decide, by decide⟩,
  ⟨(live.modObj 0 (fun q => { q with checks := [(cmd 0x2005 0, 0)] })), 0, 0, (cmd 0x2005 0), 0, by decide, by decide⟩,
  ⟨((live.setSt 0 1).modObj 0 (fun q => { q with segAt := none })), 0, 0, { meas := mHigh, drifts := [] }, by decide, by decide, by decide, by decide,
    by decide⟩,
  ⟨live, 0, 0, 0, by decide, by decide⟩⟩

/-- Hypotheses of `Obligations.ArbiterServesInTime`. -/
theorem test_witness_ArbiterServesInTime :
    (∃ (s : State) (dt : Nat), let u := s.tick dt; let w := u.endDue; ∃ d, w.dieC = true ∧ w.arb.waiting.find? w.ready = some d) ∧
    (∃ (s : State) (dt : Nat) (o : Nat), let u := s.tick dt; ∃ (d : Demand) (c : Cmd),
      u.arb.waiting.find? (fun d : Demand => d.obj == o && d.late u.now) = some d ∧ d.cmd = some c ∧ ∃ k,
      k = u.binds d (match u.plan d with | some (_, bs) => bs | none => [])) ∧
    (∃ (s : State) (dt : Nat) (o : Nat) (b : Nat), let u := s.tick dt; let w := u.endDue; ∃ (full : List Nat) (t : State) (k : Nat), w.dieC = true ∧
      full = (List.range 13).filter w.mustShed ∧ t = (full.filter fun b => (w.shedFor b).isNone).foldl State.warn w ∧
      full.findSome? (fun b => (w.shedFor b).map fun o => (b, o)) = some (b, k) ∧ (w.arb.lastShed = 0 ∨ w.arb.lastShed + 1000000 ≤ w.now)) ∧
    (∃ (s : State) (dt : Nat) (o : Nat) (b : Nat), let u := s.tick dt; let w := u.endDue; ∃ (full : List Nat), w.dieC = true ∧
      full = (List.range 13).filter w.mustShed ∧ full.findSome? (fun b => (w.shedFor b).map fun o => (b, o)) = none) ∧
    (∃ (s : State) (dt : Nat) (x : Sample), let u := s.tick dt; ((u.globals x).dieSupplies x).endDue.dieC = true) ∧
    (∃ (s : State) (dt : Nat) (b : Nat) (g : Nat), let u := s.tick dt; ∃ d, u.dieC = false ∧ u.spaced g = true ∧
      ((u.arb.waiting ++ sortBy (fun a b : Demand => decide (a.obj ≤ b.obj)) u.arb.dieQueue).filter fun d => groupKey d.obj == g).find? (fun d => u.supplied d.obj && !u.ovFrozen d.obj && !u.cutFor d.obj d.cls && u.dieFits d) = some d) :=
  ⟨⟨(live.onArb (fun q => { q with waiting := [dem] })), 0, dem, by decide, by decide⟩,
  ⟨(live.onArb (fun q => { q with waiting := [dem (some (cmd 0x2002 3)) (some 5)] })), 0, 3, (dem (some (cmd 0x2002 3)) (some 5)), (cmd 0x2002 3),
    by decide, by decide, _, rfl⟩,
  ⟨(live.onArb (fun q => { q with ovr := [(1, 0)], loads := [(3, { on := true, stand := [⟨1, 5, 0, 0⟩] })] })), 0, 0, 1, _, _, 3, by decide, rfl, rfl,
    by decide, by decide⟩,
  ⟨(live.onArb (fun q => { q with ovr := [(1, 0)] })), 0, 0, 1, _, by decide, rfl, by decide⟩,
  ⟨live, 0, sample0, by decide⟩,
  ⟨(dark.onArb (fun q => { q with waiting := [dem] })), 0, 0, (groupKey 3), dem, by decide, by decide, by decide⟩⟩

/-- Hypotheses of `Obligations.GroupMonitorsAct`. -/
theorem test_witness_GroupMonitorsAct :
    (∃ (s : State) (dt : Nat) (g : Nat) (level : Nat) (volt : Nat), let u := s.tick dt; let av := u.vAvg g volt; u.monitors g = true ∧ level ≤ 1 ∧
      u.isCut g level = false ∧ av < u.cutAt g level) ∧
    (∃ (s : State) (dt : Nat) (g : Nat) (level : Nat) (volt : Nat), let u := s.tick dt; let av := u.vAvg g volt; u.monitors g = true ∧ level ≤ 1 ∧
      u.isCut g level = true ∧ u.cutAt g level + 25 * u.rd Reg.ARB_UV_HYS (uvIx g) < av ∧ ∃ (v : State), v = (u.setVolt g volt).setCut g level false) ∧
    (∃ (s : State) (dt : Nat) (g : Nat) (k : Nat), let u := s.tick dt; u.monitors g = true ∧ slotDue (u.group g).slots k u.now = true ∧ ∃ (v : State),
      v = (u.setGroup g { u.group g with slots := tdel (u.group g).slots k }).runSlot g k .uvCut .slot ∧ slotDue (v.group g).ovSlots k v.now = false) ∧
    (∃ (s : State) (dt : Nat) (g : Nat) (k : Nat), let u := s.tick dt; u.monitors g = true ∧ slotDue (u.group g).slots k u.now = true ∧ ∃ (v : State),
      v = (u.setGroup g { u.group g with slots := tdel (u.group g).slots k }).runSlot g k .uvCut .slot ∧ slotDue (v.group g).ovSlots k v.now = true) ∧
    (∃ (s : State) (dt : Nat) (g : Nat) (k : Nat), let u := s.tick dt; u.monitors g = true ∧ slotDue (u.group g).slots k u.now = false ∧
      slotDue (u.group g).ovSlots k u.now = true) ∧
    (∃ (s : State) (dt : Nat) (g : Nat) (level : Nat) (volt : Nat), let u := s.tick dt; let av := u.vAvg g volt; u.monitors g = true ∧ level ≤ 1 ∧
      ((u.group g).slots.any fun p => if level = 0 then p.1 ≠ 0 else p.1 = 0) = true ∧ av < u.cutAt g level) ∧
    (∃ (s : State) (dt : Nat) (g : Nat) (volt : Nat), let u := s.tick dt; let av := u.vAvg g volt; ∃ (dim : Nat) (uv : Nat) (v : State) (w : State),
      u.monitors g = true ∧ 1 ≤ g ∧ g ≤ 4 ∧ dim = 25 * (u.setVolt g volt).rd Reg.ARB_UV_VS_DIM (uvIx g) ∧ uv = (u.setVolt g volt).cutAt g 0 ∧
      v = (u.setVolt g volt).setGroup g { (u.setVolt g volt).group g with kNum := av - uv, kDen := dim - uv } ∧
      w = (u.setVolt g volt).setGroup g { (u.setVolt g volt).group g with kNum := 1, kDen := 1 } ∧ av < dim ∧
      bit (v.rd Reg.ARB_GRPSTAT_DIM) (g - 1) = false) ∧
    (∃ (s : State) (dt : Nat) (g : Nat) (volt : Nat), let u := s.tick dt; let av := u.vAvg g volt; ∃ (dim : Nat) (uv : Nat) (v : State) (w : State),
      u.monitors g = true ∧ 1 ≤ g ∧ g ≤ 4 ∧ dim = 25 * (u.setVolt g volt).rd Reg.ARB_UV_VS_DIM (uvIx g) ∧ uv = (u.setVolt g volt).cutAt g 0 ∧
      v = (u.setVolt g volt).setGroup g { (u.setVolt g volt).group g with kNum := av - uv, kDen := dim - uv } ∧
      w = (u.setVolt g volt).setGroup g { (u.setVolt g volt).group g with kNum := 1, kDen := 1 } ∧ av < dim ∧
      bit (v.rd Reg.ARB_GRPSTAT_DIM) (g - 1) = true) ∧
    (∃ (s : State) (dt : Nat) (g : Nat) (volt : Nat), let u := s.tick dt; let av := u.vAvg g volt; ∃ (dim : Nat) (uv : Nat) (v : State) (w : State),
      u.monitors g = true ∧ 1 ≤ g ∧ g ≤ 4 ∧ dim = 25 * (u.setVolt g volt).rd Reg.ARB_UV_VS_DIM (uvIx g) ∧ uv = (u.setVolt g volt).cutAt g 0 ∧
      v = (u.setVolt g volt).setGroup g { (u.setVolt g volt).group g with kNum := av - uv, kDen := dim - uv } ∧
      w = (u.setVolt g volt).setGroup g { (u.setVolt g volt).group g with kNum := 1, kDen := 1 } ∧ dim ≤ av ∧
      bit (w.rd Reg.ARB_GRPSTAT_DIM) (g - 1) = true) ∧
    (∃ (s : State) (dt : Nat) (g : Nat) (volt : Nat), let u := s.tick dt; let av := u.vAvg g volt;
      ∃ (dim : Nat) (uv : Nat) (q : Nat) (v : State) (w : State), u.monitors g = true ∧ (g = 5 ∨ g = 6) ∧
      dim = 25 * (u.setVolt g volt).rd Reg.ARB_UV_VS_DIM (uvIx g) ∧ uv = (u.setVolt g volt).cutAt g 0 ∧ av < dim ∧
      q = min 255 (roundDiv (255 * (av - uv)) (dim - uv)) ∧
      v = (u.setVolt g volt).setGroup g { (u.setVolt g volt).group g with kNum := av - uv, kDen := dim - uv } ∧
      w = (if g = 5 then v.wr Reg.ARB_DIMK_K5 0 q else v.wr Reg.ARB_DIMK_K6 0 q) ∧ bit (w.rd Reg.ARB_GRPSTAT_DIM) (g - 1) = false) ∧
    (∃ (s : State) (dt : Nat) (g : Nat) (volt : Nat), let u := s.tick dt; 1 ≤ g ∧ g ≤ 6 ∧ u.monitors g = true ∧ u.groupFrozen g = false ∧
      u.ovAt < volt ∧ ∃ (v : State),
      v = ((u.setVolt g volt).wr Reg.GLB_OVSTAT_OV 0 (setBit (u.rd Reg.GLB_OVSTAT_OV) (g - 1))).bump Reg.GLB_OVSTAT_OVCNT 0) ∧
    (∃ (s : State) (dt : Nat) (g : Nat) (volt : Nat), let u := s.tick dt; 1 ≤ g ∧ g ≤ 6 ∧ u.groupFrozen g = true ∧ volt < u.ovRelease) ∧
    (∃ (s : State) (dt : Nat) (g : Nat), let u := s.tick dt; 1 ≤ g ∧ g ≤ 6 ∧ u.groupFrozen g = true ∧ (u.group g).ovCut = false ∧
      (u.group g).frozenAt + 500000000 ≤ u.now ∧ ∃ (v : State) (os : List Nat), v = u.setGroup g { u.group g with sustained := true, ovCut := true } ∧
      os = (v.groupObjs g).filter v.ovHits) ∧
    (∃ (s : State) (dt : Nat) (g : Nat), let u := s.tick dt; 1 ≤ g ∧ g ≤ 6 ∧ (u.group g).sustained = true ∧ u.groupFrozen g = false) :=
  ⟨⟨live, 0, 0, 0, 0, by decide, by decide, by decide, by decide⟩,
  ⟨(live.setCut 1 0 true), 0, 1, 0, 3000, by decide, by decide, by decide, by decide, _, rfl⟩,
  ⟨(live.setGroup 1 { slots := [(2, 0)] }), 0, 1, 2, by decide, by decide, _, rfl, by decide⟩,
  ⟨(live.setGroup 1 { slots := [(2, 0)], ovSlots := [(2, 0)] }), 0, 1, 2, by decide, by decide, _, rfl, by decide⟩,
  ⟨(live.setGroup 1 { ovSlots := [(2, 0)] }), 0, 1, 2, by decide, by decide, by decide⟩,
  ⟨(live.setGroup 1 { slots := [(2, 0)] }), 0, 1, 0, 0, by decide, by decide, by decide, by decide⟩,
  ⟨live, 0, 1, 0, _, _, _, _, by decide, by decide, by decide, rfl, rfl, rfl, rfl, by decide, by decide⟩,
  ⟨(live.wr Reg.ARB_GRPSTAT_DIM 0 1), 0, 1, 0, _, _, _, _, by decide, by decide, by decide, rfl, rfl, rfl, rfl, by decide, by decide⟩,
  ⟨(live.wr Reg.ARB_GRPSTAT_DIM 0 1), 0, 1, 60000, _, _, _, _, by decide, by decide, by decide, rfl, rfl, rfl, rfl, by decide, by decide⟩,
  ⟨live, 0, 5, 0, _, _, _, _, _, by decide, by decide, rfl, rfl, by decide, rfl, rfl, rfl, by decide⟩,
  ⟨live, 0, 1, 7000, by decide, by decide, by decide, by decide, by decide, _, rfl⟩,
  ⟨(live.wr Reg.GLB_OVSTAT_OV 0 1), 0, 1, 0, by decide, by decide, by decide, by decide⟩,
  ⟨(live.wr Reg.GLB_OVSTAT_OV 0 1), 0, 1, by decide, by decide, by decide, by decide, by decide, _, _, rfl, rfl⟩,
  ⟨(live.setGroup 1 { sustained := true }), 0, 1, by decide, by decide, by decide, by decide⟩⟩

/-- Hypotheses of `Obligations.GlobalSuppliesAndFabric`. -/
theorem test_witness_GlobalSuppliesAndFabric :
    (∃ (s : State) (dt : Nat) (mv : Nat), let u := s.tick dt; u.dieC = true ∧ 1000 < mv) ∧
    (∃ (s : State) (dt : Nat) (tc : Nat), let u := s.tick dt; (u.wr Reg.GLB_TCASE_TC 0 tc).dieC = true ∧ 840 < (u.wr Reg.GLB_TCASE_TC 0 tc).tcase) ∧
    (∃ (s : State) (dt : Nat), let u := s.tick dt; u.flag Reg.GLB_PACE_BUSY = true ∧ ∃ (v : State) (w : State),
      v = ((u.wr Reg.GLB_PACE_CUR 0 u.pwr.paceTo).wr Reg.GLB_PACE_BUSY 0 0).bump Reg.GLB_PACECNT_CHG 0 ∧
      w = { v with pwr := { v.pwr with paceNext := none } } ∧ u.pwr.paceNext = none) ∧
    (∃ (s : State) (dt : Nat), let u := s.tick dt; u.flag Reg.GLB_PACE_BUSY = true ∧ ∃ (v : State) (w : State),
      v = ((u.wr Reg.GLB_PACE_CUR 0 u.pwr.paceTo).wr Reg.GLB_PACE_BUSY 0 0).bump Reg.GLB_PACECNT_CHG 0 ∧
      w = { v with pwr := { v.pwr with paceNext := none } } ∧ ∃ k, u.pwr.paceNext = some k) ∧
    (∃ (s : State) (dt : Nat) (rate : Nat) (rest : Nat), let u := s.tick dt; ∃ (v : State) (w : State), u.dieC = true ∧ u.windowEnd ≤ u.now ∧
      u.flag Reg.TB_STAT_REFBKP = true ∧ rest * 1000 ≤ rate * 384 ∧
      v = (u.wr Reg.TB_FABRATE_RATE 0 (min (rate / 100) 0xFFFF)).wr Reg.TB_FABLOAD_DEMAND 0 (min (0 + 0 + rest) 0xFFFF) ∧
      v.rd Reg.TB_FABRATE_MIN ≤ min (rate / 100) 0xFFFF ∧ u.minRate ≤ rate ∧
      w = { v with pwr := { v.pwr with fabricOk := true, throttled := (false, false), windowAt := v.now } }) ∧
    (∃ (s : State) (dt : Nat) (rate : Nat) (rest : Nat), let u := s.tick dt; ∃ (v : State) (w : State), u.dieC = true ∧ u.windowEnd ≤ u.now ∧
      u.flag Reg.TB_STAT_REFBKP = true ∧ rest * 1000 ≤ rate * 384 ∧
      v = (u.wr Reg.TB_FABRATE_RATE 0 (min (rate / 100) 0xFFFF)).wr Reg.TB_FABLOAD_DEMAND 0 (min (0 + 0 + rest) 0xFFFF) ∧
      v.rd Reg.TB_FABRATE_MIN ≤ min (rate / 100) 0xFFFF ∧ rate < u.minRate ∧
      w = { v with pwr := { v.pwr with fabricOk := false, throttled := (false, false), windowAt := v.now } }) ∧
    (∃ (s : State) (dt : Nat), let u := s.tick dt; u.pwr.refPresent = true ∧ u.dieC = true) ∧
    (∃ (s : State) (dt : Nat), let u := s.tick dt; u.pwr.refPresent = false ∧ u.dieC = true) :=
  ⟨⟨live, 0, 1001, by decide, by decide⟩,
  ⟨live, 0, 841, by decide, by decide⟩,
  ⟨(live.wr Reg.GLB_PACE_BUSY (0) 1), 0, by decide, _, _, rfl, rfl, by decide⟩,
  ⟨((live.wr Reg.GLB_PACE_BUSY (0) 1).pw (fun q => { q with paceNext := some 0 })), 0, by decide, _, _, rfl, rfl, 0, by decide⟩,
  ⟨((live.wr Reg.TB_STAT_REFBKP (0) 1).wr Reg.TB_FABRATE_MIN 0 0), 0, 40000, 0, _, _, by decide, by decide, by decide, by decide, rfl, by decide,
    by decide, rfl⟩,
  ⟨((live.wr Reg.TB_STAT_REFBKP (0) 1).wr Reg.TB_FABRATE_MIN 0 0), 0, 400, 0, _, _, by decide, by decide, by decide, by decide, rfl, by decide,
    by decide, rfl⟩,
  ⟨(live.pw (fun q => { q with refPresent := true })), 0, by decide, by decide⟩,
  ⟨(live.pw (fun q => { q with refPresent := false })), 0, by decide, by decide⟩⟩

/-- Hypotheses of `Obligations.LedCommandsComplete`. -/
theorem test_witness_LedCommandsComplete :
    (∃ (s : State) (dt : Ns) (c : Cmd), let b := s.taken dt c; let o := c.object; let n := objNum o; s.starts dt c 0x2001 [.ld] = true ∧
      b.mxBar n = none ∧ b.limpBar o = none ∧ (b.st o = 0 ∨ b.latched o = true ∨ b.ovBar o = none)) ∧
    (∃ (s : State) (dt : Ns) (c : Cmd), let b := s.taken dt c; let o := c.object; let n := objNum o; let d := c.arg 16 2; let is := c.arg 18 2;
      let iv := clampNat 20 2000 is; let x := b.descClamp c 0x0B 16 0 16 d (b.ldMinDuty n d);
      let y := if is = 0 then x else x.descClamp c 0x0B 18 0 16 is iv; let free := (b.mxBar n = none ∧ b.limpBar o = none ∧ b.onBar o = none ∧
      (is = 0 ∨ b.loopBar o = none)); s.starts dt c 0x2002 [.ld] = true ∧ free ∧ y.ovBar o = none ∧ y.isOn o = false ∧ ∃ e,
      e = y.ldDeffAs n (b.demandClass c) false d) ∧
    (∃ (s : State) (dt : Ns) (c : Cmd), let b := s.taken dt c; let o := c.object; let n := objNum o; let d := c.arg 16 2; let is := c.arg 18 2;
      let iv := clampNat 20 2000 is; let x := b.descClamp c 0x0B 16 0 16 d (b.ldMinDuty n d);
      let y := if is = 0 then x else x.descClamp c 0x0B 18 0 16 is iv; let want := if is = 0 then y.ldIset n else iv; let free := (b.mxBar n = none ∧
      b.limpBar o = none ∧ b.onBar o = none ∧ (is = 0 ∨ b.loopBar o = none)); s.starts dt c 0x2002 [.ld] = true ∧ free ∧ y.ovBar o = none ∧
      y.isOn o = true ∧ ∃ e, e = y.ldMore n d want) ∧
    (∃ (s : State) (dt : Ns) (c : Cmd), let b := s.taken dt c; let o := c.object; let n := objNum o; let d := c.arg 16 2; let is := c.arg 18 2;
      let iv := clampNat 20 2000 is; let x := b.descClamp c 0x0B 16 0 16 d (b.ldMinDuty n d);
      let y := if is = 0 then x else x.descClamp c 0x0B 18 0 16 is iv; let free := (b.mxBar n = none ∧ b.limpBar o = none ∧ b.onBar o = none ∧
      (is = 0 ∨ b.loopBar o = none)); s.starts dt c 0x2003 [.ld] = true ∧ free ∧ y.st o = 0 ∧ ∃ z,
      z = (if is = 0 then y else y.wr Reg.LD_CFG0_ISET n iv)) ∧
    (∃ (s : State) (dt : Ns) (c : Cmd), let b := s.taken dt c; let o := c.object; let n := objNum o; let d := c.arg 16 2; let is := c.arg 18 2;
      let iv := clampNat 20 2000 is; let x := b.descClamp c 0x0B 16 0 16 d (b.ldMinDuty n d);
      let y := if is = 0 then x else x.descClamp c 0x0B 18 0 16 is iv; let want := if is = 0 then y.ldIset n else iv; let free := (b.mxBar n = none ∧
      b.limpBar o = none ∧ b.onBar o = none ∧ (is = 0 ∨ b.loopBar o = none)); s.starts dt c 0x2003 [.ld] = true ∧ free ∧ y.st o ≠ 0 ∧
      y.ovBar o = none ∧ y.isOn o = true ∧ y.ldItgt n (y.ldIset n) * y.setDuty o < y.ldItgt n want * d) ∧
    (∃ (s : State) (dt : Ns) (c : Cmd), let b := s.taken dt c; let o := c.object; let n := objNum o; let d := c.arg 16 2; let is := c.arg 18 2;
      let iv := clampNat 20 2000 is; let x := b.descClamp c 0x0B 16 0 16 d (b.ldMinDuty n d);
      let y := if is = 0 then x else x.descClamp c 0x0B 18 0 16 is iv; let want := if is = 0 then y.ldIset n else iv; let free := (b.mxBar n = none ∧
      b.limpBar o = none ∧ b.onBar o = none ∧ (is = 0 ∨ b.loopBar o = none)); s.starts dt c 0x2003 [.ld] = true ∧ free ∧ y.st o ≠ 0 ∧
      y.ovBar o = none ∧ y.isOn o = true ∧ y.ldItgt n want * d ≤ y.ldItgt n (y.ldIset n) * y.setDuty o) ∧
    (∃ (s : State) (dt : Ns) (c : Cmd), let b := s.taken dt c; let o := c.object; let n := objNum o; s.starts dt c 0x2004 [.ld] = true ∧
      b.mxBar n = none ∧ b.limpBar o = none ∧ b.latched o = false) ∧
    (∃ (s : State) (dt : Ns) (c : Cmd), let b := s.taken dt c; let o := c.object; let n := objNum o; s.starts dt c 0x2004 [.ld] = true ∧
      b.mxBar n = none ∧ b.limpBar o = none ∧ b.latched o = true ∧ b.ldGone n = true ∧ b.ovBar o = none) ∧
    (∃ (s : State) (dt : Ns) (c : Cmd), let b := s.taken dt c; let o := c.object; let n := objNum o; s.starts dt c 0x2004 [.ld] = true ∧
      b.mxBar n = none ∧ b.limpBar o = none ∧ b.latched o = true ∧ b.ldGone n = false) ∧
    (∃ (s : State) (dt : Ns) (c : Cmd), let b := s.taken dt c; let o := c.object; let n := objNum o; s.starts dt c 0x2005 [.ld] = true ∧
      b.mxBar n = none ∧ b.limpBar o = none ∧ (b.commanded o).latched o = false) ∧
    (∃ (s : State) (dt : Ns) (c : Cmd), s.starts dt c 0x3001 [.ld] = true) ∧
    (∃ (s : State) (dt : Ns) (c : Cmd), s.starts dt c 0x3003 [.ld] = true) :=
  ⟨⟨(((live.setSt ((cmd 0x2001 0x80).object) 0).setSt ((cmd 0x2001 0x80).object) (stLatched (kindOf ((cmd 0x2001 0x80).object)))).has (cmd 0x2001 0x80)),
    0, (cmd 0x2001 0x80), by decide, by decide, by decide, by decide⟩,
  ⟨(live.has (cmd 0x2002 0x80)), 0, (cmd 0x2002 0x80), by decide, by decide, by decide, by decide, _, rfl⟩,
  ⟨((live.setSt 0x80 2).has (cmd 0x2002 0x80)), 0, (cmd 0x2002 0x80), by decide, by decide, by decide, by decide, _, rfl⟩,
  ⟨(live.has (cmd 0x2003 0x80)), 0, (cmd 0x2003 0x80), by decide, by decide, by decide, _, rfl⟩,
  ⟨((live.setSt 0x80 2).has (cmd 0x2003 0x80 60000)), 0, (cmd 0x2003 0x80 60000), by decide, by decide, by decide, by decide, by decide, by decide⟩,
  ⟨((live.setSt 0x80 2).has (cmd 0x2003 0x80)), 0, (cmd 0x2003 0x80), by decide, by decide, by decide, by decide, by decide, by decide⟩,
  ⟨(live.has (cmd 0x2004 0x80)), 0, (cmd 0x2004 0x80), by decide, by decide, by decide, by decide⟩,
  ⟨((live.setSt ((cmd 0x2004 0x80).object) (stLatched (kindOf ((cmd 0x2004 0x80).object)))).has (cmd 0x2004 0x80)), 0, (cmd 0x2004 0x80), by decide,
    by decide, by decide, by decide, by decide, by decide⟩,
  ⟨((((live.setSt ((cmd 0x2004 0x80).object) (stLatched (kindOf ((cmd 0x2004 0x80).object)))).wr Reg.LD_STAT_CAUSE 0 3).wr Reg.GLB_TDIE_P2 0 250).has (cmd 0x2004 0x80)),
    0, (cmd 0x2004 0x80), by decide, by decide, by decide, by decide, by decide⟩,
  ⟨(live.has (cmd 0x2005 0x80)), 0, (cmd 0x2005 0x80), by decide, by decide, by decide, by decide⟩,
  ⟨(live.has (cmd 0x3001 0x80)), 0, (cmd 0x3001 0x80), by decide⟩,
  ⟨(live.has (cmd 0x3003 0x80)), 0, (cmd 0x3003 0x80), by decide⟩⟩

/-- Hypotheses of `Obligations.LedStringEvents`. -/
theorem test_witness_LedStringEvents :
    (∃ (s : State) (dt : Nat) (n : Nat), let u := s.tick dt; let o := ldObj n; u.ldRuns n = true ∧ u.st o = 1) ∧
    (∃ (s : State) (dt : Nat) (n : Nat), let u := s.tick dt; let o := ldObj n; u.ldRuns n = true ∧ u.st o = 1 ∧ (u.obj o).onAt + 1000000 ≤ u.now) ∧
    (∃ (s : State) (dt : Nat) (n : Nat), let u := s.tick dt; u.ldRuns n = true) ∧
    (∃ (s : State) (dt : Nat) (n : Nat), let u := s.tick dt; u.ldRuns n = true) ∧
    (∃ (s : State) (dt : Nat) (n : Nat) (m : Meas), let u := s.tick dt; u.ldRuns n = true ∧ 225 ≤ m.tj) ∧
    (∃ (s : State) (dt : Nat) (n : Nat) (m : Meas), let u := s.tick dt; let o := ldObj n; n < 12 ∧ u.supplied o = true ∧ u.st o = 3 ∧
      (u.obj o).asked = false ∧ m.tj ≤ 200) ∧
    (∃ (s : State) (dt : Nat) (n : Nat), let u := s.tick dt; let o := ldObj n; u.ldRuns n = true ∧ u.st o = 2 ∧ u.flag Reg.LD_STAT_HEADROOM n = false) ∧
    (∃ (s : State) (dt : Nat) (n : Nat), let u := s.tick dt; let o := ldObj n; n < 12 ∧ u.supplied o = true) ∧
    (∃ (s : State) (dt : Nat) (n : Nat), let u := s.tick dt; let o := ldObj n; n < 12 ∧ u.supplied o = true ∧ u.flag Reg.LD_STAT_NTCFAULT n = false) ∧
    (∃ (s : State) (dt : Nat) (n : Nat), let u := s.tick dt; let o := ldObj n; n < 12 ∧ u.supplied o = true) ∧
    (∃ (s : State) (dt : Nat) (n : Nat), let u := s.tick dt; let o := ldObj n; n < 12 ∧ u.supplied o = true ∧ ((u.led n).tempAt = none ∨ (∃ k,
      (u.led n).tempAt = some k ∧ k + 10000000 ≤ u.now))) ∧
    (∃ (s : State) (dt : Nat) (n : Nat), let u := s.tick dt; let o := ldObj n; u.ldRuns n = true ∧ u.st o = 2 ∧ 10 * u.ldNext n ≤ u.now ∧
      ∃ (p : Ns) (x : State), p = 10 * (u.ldNext n + (u.now / 10 - u.ldNext n) / u.ldPer n * u.ldPer n) ∧
      x = (u.modObj o fun x => { x with duty := u.setDuty o, next := none, period := x.period + 1, perAt := p }).wr Reg.LD_OUT_DEFF n (u.ldDeff n (u.setDuty o))) ∧
    (∃ (s : State) (dt : Nat) (n : Nat) (a : Nat) (v : Nat), let u := s.tick dt; let o := ldObj n; u.ldRuns n = true ∧ u.st o = 2 ∧
      u.ldMeasured n = true ∧ ∃ (w : State) (lo : Nat) (i : Nat),
      w = (((u.wr Reg.LD_MEAS_IMEAS n a).wr Reg.LD_MEAS_VSTR n v).modLed n (fun l => { l with vrem := some v, measAt := some u.now })).took o ∧
      lo = w.rd Reg.LD_CFG2_VLO n * 25 ∧ i = w.ldItgt n (w.led n).iset ∧ w.flag Reg.LD_STAT_HEADROOM n = true) ∧
    (∃ (s : State) (dt : Nat) (n : Nat) (a : Nat) (v : Nat), let u := s.tick dt; let o := ldObj n; u.ldRuns n = true ∧ u.st o = 2 ∧
      u.ldMeasured n = true ∧ ∃ (w : State) (lo : Nat) (i : Nat),
      w = (((u.wr Reg.LD_MEAS_IMEAS n a).wr Reg.LD_MEAS_VSTR n v).modLed n (fun l => { l with vrem := some v, measAt := some u.now })).took o ∧
      lo = w.rd Reg.LD_CFG2_VLO n * 25 ∧ i = w.ldItgt n (w.led n).iset ∧ w.flag Reg.LD_STAT_HEADROOM n = false ∧
      w.rd Reg.LD_CFG2_VSHORT n * 25 ≤ 2 * v ∧ 2 * v < lo ∧ (w.led n).shorts < 2) ∧
    (∃ (s : State) (dt : Nat) (n : Nat) (a : Nat) (v : Nat), let u := s.tick dt; let o := ldObj n; u.ldRuns n = true ∧ u.st o = 2 ∧
      u.ldMeasured n = true ∧ ∃ (w : State) (lo : Nat) (i : Nat),
      w = (((u.wr Reg.LD_MEAS_IMEAS n a).wr Reg.LD_MEAS_VSTR n v).modLed n (fun l => { l with vrem := some v, measAt := some u.now })).took o ∧
      lo = w.rd Reg.LD_CFG2_VLO n * 25 ∧ i = w.ldItgt n (w.led n).iset ∧ w.flag Reg.LD_STAT_HEADROOM n = false ∧
      w.rd Reg.LD_CFG2_VSHORT n * 25 ≤ 2 * v ∧ 2 * v < lo ∧ 2 ≤ (w.led n).shorts) ∧
    (∃ (s : State) (dt : Nat) (n : Nat) (a : Nat) (v : Nat), let u := s.tick dt; let o := ldObj n; u.ldRuns n = true ∧ u.st o = 2 ∧
      u.ldMeasured n = true ∧ ∃ (w : State) (lo : Nat) (i : Nat),
      w = (((u.wr Reg.LD_MEAS_IMEAS n a).wr Reg.LD_MEAS_VSTR n v).modLed n (fun l => { l with vrem := some v, measAt := some u.now })).took o ∧
      lo = w.rd Reg.LD_CFG2_VLO n * 25 ∧ i = w.ldItgt n (w.led n).iset ∧ w.flag Reg.LD_STAT_HEADROOM n = false ∧ lo ≤ 2 * v ∧ ∃ x,
      x = w.modLed n (fun l => { l with shorts := 0 }) ∧ 2 * v ≤ x.rd Reg.LD_CFG2_VOVP n * 25 ∧ 9 * i ≤ 10 * a ∧ 10 * a ≤ 11 * i) :=
  ⟨⟨(live.setSt (ldObj 0) 1), 0, 0, by decide, by decide⟩,
  ⟨(live.setSt (ldObj 0) 1), 0, 0, by decide, by decide, by decide⟩,
  ⟨(live.setSt (ldObj 0) 2), 0, 0, by decide⟩,
  ⟨(live.setSt (ldObj 0) 2), 0, 0, by decide⟩,
  ⟨(live.setSt (ldObj 0) 2), 0, 0, { m0 with tj := 225 }, by decide, by decide⟩,
  ⟨((live.setSt (ldObj 0) 3).modObj (ldObj 0) (fun q => { q with asked := false })), 0, 0, m0, by decide, by decide, by decide, by decide, by decide⟩,
  ⟨((live.setSt (ldObj 0) 2).wr Reg.LD_STAT_HEADROOM (0) 0), 0, 0, by decide, by decide, by decide⟩,
  ⟨live, 0, 0, by decide, by decide⟩,
  ⟨(live.wr Reg.LD_STAT_NTCFAULT (0) 0), 0, 0, by decide, by decide, by decide⟩,
  ⟨live, 0, 0, by decide, by decide⟩,
  ⟨live, 0, 0, by decide, by decide, by decide⟩,
  ⟨(live.setSt (ldObj 0) 2), 0, 0, by decide, by decide, by decide, _, _, rfl, rfl⟩,
  ⟨(((live.setSt (ldObj 0) 2).wr Reg.LD_OUT_DEFF 0 65535).wr Reg.LD_STAT_HEADROOM 0 1), 0, 0, 0, 0, by decide, by decide, by decide, _, _, _, rfl,
    rfl, rfl, by decide⟩,
  ⟨((((live.setSt (ldObj 0) 2).wr Reg.LD_OUT_DEFF 0 65535).wr Reg.LD_CFG2_VLO 0 200).wr Reg.LD_CFG2_VSHORT 0 10), 0, 0, 0, 1000, by decide, by decide,
    by decide, _, _, _, rfl, rfl, rfl, by decide, by decide, by decide, by decide⟩,
  ⟨(((((live.setSt (ldObj 0) 2).wr Reg.LD_OUT_DEFF 0 65535).wr Reg.LD_CFG2_VLO 0 200).wr Reg.LD_CFG2_VSHORT 0 10).modLed 0 (fun q => { q with shorts := 2 })),
    0, 0, 0, 1000, by decide, by decide, by decide, _, _, _, rfl, rfl, rfl, by decide, by decide, by decide, by decide⟩,
  ⟨(((((live.setSt (ldObj 0) 2).wr Reg.LD_OUT_DEFF 0 65535).wr Reg.LD_CFG2_VLO 0 10).wr Reg.LD_CFG2_VSHORT 0 10).wr Reg.LD_CFG2_VOVP 0 200), 0, 0, 0,
    1000, by decide, by decide, by decide, _, _, _, rfl, rfl, rfl, by decide, by decide, _, rfl, by decide, by decide, by decide⟩⟩

/-- Hypotheses of `Obligations.MatrixCommandsAndFrames`. -/
theorem test_witness_MatrixCommandsAndFrames :
    (∃ (s : State) (dt : Ns) (c : Cmd), let b := s.taken dt c; s.starts dt c 0x2001 [.mx] = true ∧ b.limpBar mxObj = none ∧
      (b.st mxObj = 0 ∨ b.latched mxObj = true ∨ b.ovBar mxObj = none)) ∧
    (∃ (s : State) (dt : Ns) (c : Cmd), let b := s.taken dt c; s.starts dt c 0x2002 [.mx] = true ∧ b.limpBar mxObj = none ∧ b.onBar mxObj = none ∧
      b.ovBar mxObj = none ∧ b.isOn mxObj = false) ∧
    (∃ (s : State) (dt : Ns) (c : Cmd), let b := s.taken dt c; s.starts dt c 0x2002 [.mx] = true ∧ b.limpBar mxObj = none ∧ b.onBar mxObj = none ∧
      b.ovBar mxObj = none ∧ b.isOn mxObj = true) ∧
    (∃ (s : State) (dt : Ns) (c : Cmd), let b := s.taken dt c; s.starts dt c 0x2003 [.mx] = true ∧ b.limpBar mxObj = none ∧ b.onBar mxObj = none ∧
      b.st mxObj = 0) ∧
    (∃ (s : State) (dt : Ns) (c : Cmd), let b := s.taken dt c; let g := c.arg 16 1; s.starts dt c 0x2003 [.mx] = true ∧ b.limpBar mxObj = none ∧
      b.onBar mxObj = none ∧ b.st mxObj ≠ 0 ∧ b.ovBar mxObj = none ∧ b.isOn mxObj = true ∧ b.mxSet < g) ∧
    (∃ (s : State) (dt : Ns) (c : Cmd), let b := s.taken dt c; let g := c.arg 16 1; s.starts dt c 0x2003 [.mx] = true ∧ b.limpBar mxObj = none ∧
      b.onBar mxObj = none ∧ b.st mxObj ≠ 0 ∧ b.ovBar mxObj = none ∧ b.isOn mxObj = true ∧ g ≤ b.mxSet) ∧
    (∃ (s : State) (dt : Ns) (c : Cmd), let b := s.taken dt c; s.starts dt c 0x2004 [.mx] = true ∧ b.limpBar mxObj = none ∧ b.latched mxObj = false) ∧
    (∃ (s : State) (dt : Ns) (c : Cmd), let b := s.taken dt c; s.starts dt c 0x2004 [.mx] = true ∧ b.limpBar mxObj = none ∧ b.latched mxObj = true ∧
      b.ovBar mxObj = none) ∧
    (∃ (s : State) (dt : Ns) (c : Cmd), let b := s.taken dt c; s.starts dt c 0x3001 [.mx] = true ∧
      (c.argBits 16 24 1 = b.rd Reg.MX_CFG0_SUPSRC ∨ b.mxFree = true) ∧ ∃ r w v, r = b.clampAll c.pf 1 (imagePuts c 0x0C 0 2) ∧
      w = packAt r 16 + 2 ^ 32 * packAt r 20 ∧
      v = (b.logClamps 0x0C (clampsOf 1 c.pf c.tag c.object r)).modFlight c (fun x => { x with clamps := x.clamps + (clampsOf 1 c.pf c.tag c.object r).length }) ∧
      (v.isOn mxObj = false ∨ bits (packAt r 16) 0 6 ≤ v.mxIcol)) ∧
    (∃ (s : State) (dt : Ns) (c : Cmd), let b := s.taken dt c; s.starts dt c 0x3001 [.mx] = true ∧
      (c.argBits 16 24 1 = b.rd Reg.MX_CFG0_SUPSRC ∨ b.mxFree = true) ∧ ∃ r w v, r = b.clampAll c.pf 1 (imagePuts c 0x0C 0 2) ∧
      w = packAt r 16 + 2 ^ 32 * packAt r 20 ∧
      v = (b.logClamps 0x0C (clampsOf 1 c.pf c.tag c.object r)).modFlight c (fun x => { x with clamps := x.clamps + (clampsOf 1 c.pf c.tag c.object r).length }) ∧
      v.isOn mxObj = true ∧ v.mxIcol < bits (packAt r 16) 0 6 ∧ v.ovBar mxObj = none) ∧
    (∃ (s : State) (dt : Ns) (c : Cmd) (px : List Byte), let b := s.taken dt c; s.starts dt c 0x3004 [.mx] = true ∧ c.arg 16 8 % 8 = 0 ∧
      (b.dma c.pf (c.arg 16 8) 128).2 = true ∧ ∃ (v : State),
      v = ((b.dma c.pf (c.arg 16 8) 128).1.begin c).modMx (fun m => { m with back := (List.range 128).map fun k => px.getD k 0 % 256 }) ∧
      c.argBits 24 0 1 = 0) ∧
    (∃ (s : State) (dt : Ns) (c : Cmd) (px : List Byte), let b := s.taken dt c; s.starts dt c 0x3004 [.mx] = true ∧ c.arg 16 8 % 8 = 0 ∧
      (b.dma c.pf (c.arg 16 8) 128).2 = true ∧ ∃ (v : State),
      v = ((b.dma c.pf (c.arg 16 8) 128).1.begin c).modMx (fun m => { m with back := (List.range 128).map fun k => px.getD k 0 % 256 }) ∧
      c.argBits 24 0 1 = 1) ∧
    (∃ (s : State) (dt : Ns) (c : Cmd) (lows : Nat), let u := s.tick dt; let g := c.arg 16 1; ∃ (v : State) (w : State) (x : State) (y : State),
      u.supplied mxObj = true ∧ u.st mxObj = 1 ∧ u.out.mx.frameAt + u.out.mx.frameLen ≤ u.now ∧
      v = (List.range 128).foldl (fun s k => s.mxLed lows k) u ∧ w = v.wr Reg.MX_STAT_FRAMES 0 (v.rd Reg.MX_STAT_FRAMES + 1) ∧
      x = (if w.flag Reg.MX_STAT_SWAPPEND then w.out.mx.swapCmds.foldl (fun s c => s.complete c .done) ((w.modMx fun m => { m with front := m.back, back := m.front, swapCmds := [] }).wr Reg.MX_STAT_SWAPPEND 0 0) else w) ∧
      y = (match (x.obj mxObj).next with | some g => (x.modMx fun m => { m with gduty := g }).modObj mxObj fun z => { z with next := none } | none => x)) ∧
    (∃ (s : State) (dt : Ns), let u := s.tick dt; u.supplied mxObj = true ∧ u.st mxObj = 1) :=
  ⟨⟨(((live.setSt mxObj 0).setSt mxObj (stLatched (kindOf mxObj))).has (cmd 0x2001 0xA0)), 0, (cmd 0x2001 0xA0), by decide, by decide, by decide⟩,
  ⟨(live.has (cmd 0x2002 0xA0)), 0, (cmd 0x2002 0xA0), by decide, by decide, by decide, by decide, by decide⟩,
  ⟨((live.setSt mxObj 1).has (cmd 0x2002 0xA0)), 0, (cmd 0x2002 0xA0), by decide, by decide, by decide, by decide, by decide⟩,
  ⟨((live.setSt mxObj 0).has (cmd 0x2003 0xA0)), 0, (cmd 0x2003 0xA0), by decide, by decide, by decide, by decide⟩,
  ⟨((live.setSt mxObj 1).has (cmd 0x2003 0xA0 200)), 0, (cmd 0x2003 0xA0 200), by decide, by decide, by decide, by decide, by decide, by decide,
    by decide⟩,
  ⟨((live.setSt mxObj 1).has (cmd 0x2003 0xA0)), 0, (cmd 0x2003 0xA0), by decide, by decide, by decide, by decide, by decide, by decide, by decide⟩,
  ⟨(live.has (cmd 0x2004 0xA0)), 0, (cmd 0x2004 0xA0), by decide, by decide, by decide⟩,
  ⟨((live.setSt mxObj (stLatched (kindOf mxObj))).has (cmd 0x2004 0xA0)), 0, (cmd 0x2004 0xA0), by decide, by decide, by decide, by decide⟩,
  ⟨(live.has (cmd 0x3001 0xA0)), 0, (cmd 0x3001 0xA0), by decide, by decide, _, _, _, rfl, rfl, rfl, by decide⟩,
  ⟨(((live.setSt mxObj 1).wr Reg.MX_CFG0_ICOL 0 1).has (cmd 0x3001 0xA0 63)), 0, (cmd 0x3001 0xA0 63), by decide, by decide, _, _, _, rfl, rfl, rfl,
    by decide, by decide, by decide⟩,
  ⟨(live.has (cmd 0x3004 0xA0)), 0, (cmd 0x3004 0xA0), [], by decide, by decide, by decide, _, rfl, by decide⟩,
  ⟨(live.has (cmd 0x3004 0xA0 (2 ^ 64))), 0, (cmd 0x3004 0xA0 (2 ^ 64)), [], by decide, by decide, by decide, _, rfl, by decide⟩,
  ⟨((live.setSt mxObj 1).wr Reg.MX_STAT_SWAPPEND 0 1), 0, (cmd 0 3), 0, _, _, _, _, by decide, by decide, by decide, rfl, rfl, rfl, rfl⟩,
  ⟨(live.setSt mxObj 1), 0, by decide, by decide⟩⟩

/-- Hypotheses of `Obligations.ValveCommandsComplete`. -/
theorem test_witness_ValveCommandsComplete :
    (∃ (s : State) (dt : Ns) (c : Cmd), let b := s.taken dt c; let o := c.object; s.starts dt c 0x2001 [.sv] = true ∧ b.limpBar o = none ∧
      (b.st o = 0 ∨ b.latched o = true ∨ b.ovBar o = none)) ∧
    (∃ (s : State) (dt : Ns) (c : Cmd), let b := s.taken dt c; let o := c.object; s.starts dt c 0x2002 [.sv] = true ∧ b.limpBar o = none ∧
      b.onBar o = none ∧ b.st o = 3) ∧
    (∃ (s : State) (dt : Ns) (c : Cmd), let b := s.taken dt c; let o := c.object; s.starts dt c 0x2002 [.sv] = true ∧ b.limpBar o = none ∧
      b.onBar o = none ∧ b.st o ≠ 3 ∧ b.isOn o = true) ∧
    (∃ (s : State) (dt : Ns) (c : Cmd), let b := s.taken dt c; let o := c.object; s.starts dt c 0x2002 [.sv] = true ∧ b.limpBar o = none ∧
      b.onBar o = none ∧ b.st o ≠ 3 ∧ b.isOn o = false ∧ b.ovBar o = none) ∧
    (∃ (s : State) (dt : Ns) (c : Cmd), let b := s.taken dt c; let o := c.object; let n := objNum o;
      let lv := clampNat 5 (max 5 (min 400 (b.rd Reg.SV_CFG0_IPK n * 25 / 10))) (c.arg 16 2); let x := b.descClamp c 0x0D 16 0 16 (c.arg 16 2) lv;
      s.starts dt c 0x2003 [.sv] = true ∧ b.limpBar o = none ∧ b.onBar o = none ∧ b.loopBar o = none ∧ x.isOn o = false) ∧
    (∃ (s : State) (dt : Ns) (c : Cmd), let b := s.taken dt c; let o := c.object; let n := objNum o;
      let lv := clampNat 5 (max 5 (min 400 (b.rd Reg.SV_CFG0_IPK n * 25 / 10))) (c.arg 16 2); let x := b.descClamp c 0x0D 16 0 16 (c.arg 16 2) lv;
      s.starts dt c 0x2003 [.sv] = true ∧ b.limpBar o = none ∧ b.onBar o = none ∧ b.loopBar o = none ∧ x.isOn o = true ∧ x.ovBar o = none ∧
      x.svSetMa n < lv * 10) ∧
    (∃ (s : State) (dt : Ns) (c : Cmd), let b := s.taken dt c; let o := c.object; let n := objNum o;
      let lv := clampNat 5 (max 5 (min 400 (b.rd Reg.SV_CFG0_IPK n * 25 / 10))) (c.arg 16 2); let x := b.descClamp c 0x0D 16 0 16 (c.arg 16 2) lv;
      s.starts dt c 0x2003 [.sv] = true ∧ b.limpBar o = none ∧ b.onBar o = none ∧ b.loopBar o = none ∧ x.isOn o = true ∧ x.ovBar o = none ∧
      lv * 10 ≤ x.svSetMa n) ∧
    (∃ (s : State) (dt : Ns) (c : Cmd), let b := s.taken dt c; let o := c.object; s.starts dt c 0x2004 [.sv] = true ∧ b.limpBar o = none ∧
      b.latched o = false) ∧
    (∃ (s : State) (dt : Ns) (c : Cmd), let b := s.taken dt c; let o := c.object; let n := objNum o; s.starts dt c 0x2004 [.sv] = true ∧
      b.limpBar o = none ∧ b.latched o = true ∧ b.svGone n = true ∧ b.ovBar o = none) ∧
    (∃ (s : State) (dt : Ns) (c : Cmd), let b := s.taken dt c; let o := c.object; let n := objNum o; s.starts dt c 0x2004 [.sv] = true ∧
      b.limpBar o = none ∧ b.latched o = true ∧ b.svGone n = false) ∧
    (∃ (s : State) (dt : Ns) (c : Cmd), let b := s.taken dt c; let o := c.object; s.starts dt c 0x2005 [.sv] = true ∧ b.limpBar o = none ∧
      (b.commanded o).latched o = false) ∧
    (∃ (s : State) (dt : Ns) (c : Cmd), s.starts dt c 0x3001 [.sv] = true) ∧
    (∃ (s : State) (dt : Ns) (c : Cmd), s.starts dt c 0x3002 [.sv] = true) ∧
    (∃ (s : State) (dt : Ns) (c : Cmd), s.starts dt c 0x3005 [.sv] = true) ∧
    (∃ (s : State) (dt : Ns) (c : Cmd), let b := s.taken dt c; s.starts dt c 0x2001 [.bst] = true ∧
      (b.st bstObj = 0 ∨ b.latched bstObj = true ∨ b.ovBar bstObj = none)) ∧
    (∃ (s : State) (dt : Ns) (c : Cmd), let b := s.taken dt c; s.starts dt c 0x2002 [.bst] = true ∧ b.onBar bstObj = none ∧ b.isOn bstObj = false ∧
      b.ovBar bstObj = none) ∧
    (∃ (s : State) (dt : Ns) (c : Cmd), let b := s.taken dt c; s.starts dt c 0x2002 [.bst] = true ∧ b.onBar bstObj = none ∧ b.isOn bstObj = true) ∧
    (∃ (s : State) (dt : Ns) (c : Cmd), let b := s.taken dt c; s.starts dt c 0x2004 [.bst] = true ∧ b.latched bstObj = false) ∧
    (∃ (s : State) (dt : Ns) (c : Cmd), let b := s.taken dt c; s.starts dt c 0x2004 [.bst] = true ∧ b.latched bstObj = true ∧ b.ovBar bstObj = none) ∧
    (∃ (s : State) (dt : Ns) (c : Cmd), let b := s.taken dt c; s.starts dt c 0x3001 [.bst] = true ∧ b.st bstObj = 0) ∧
    (∃ (s : State) (dt : Ns) (c : Cmd), let b := s.taken dt c; s.starts dt c 0x3001 [.bst] = true ∧ b.st bstObj ≠ 0) :=
  ⟨⟨(((live.setSt ((cmd 0x2001 0xC0).object) 0).setSt ((cmd 0x2001 0xC0).object) (stLatched (kindOf ((cmd 0x2001 0xC0).object)))).has (cmd 0x2001 0xC0)),
    0, (cmd 0x2001 0xC0), by decide, by decide, by decide⟩,
  ⟨(((((live.setSt ((cmd 0x2002 0xC0).object) 3).setSt bstObj 2).wr Reg.BST_STAT_VBST 0 6500).wr Reg.BST_CFG_CBST 0 255).has (cmd 0x2002 0xC0)), 0,
    (cmd 0x2002 0xC0), by decide, by decide, by decide, by decide⟩,
  ⟨(((((live.setSt ((cmd 0x2002 0xC0).object) 1).setSt bstObj 2).wr Reg.BST_STAT_VBST 0 6500).wr Reg.BST_CFG_CBST 0 255).has (cmd 0x2002 0xC0)), 0,
    (cmd 0x2002 0xC0), by decide, by decide, by decide, by decide, by decide⟩,
  ⟨((((live.setSt bstObj 2).wr Reg.BST_STAT_VBST 0 6500).wr Reg.BST_CFG_CBST 0 255).has (cmd 0x2002 0xC0)), 0, (cmd 0x2002 0xC0), by decide,
    by decide, by decide, by decide, by decide, by decide⟩,
  ⟨(live.has (cmd 0x2003 0xC0 50)), 0, (cmd 0x2003 0xC0 50), by decide, by decide, by decide, by decide, by decide⟩,
  ⟨((((live.setSt 0xC0 3).wr Reg.SV_CFG0_IPK 0 50).modValve 0 (fun q => { q with level := 10 })).has (cmd 0x2003 0xC0 50)), 0, (cmd 0x2003 0xC0 50),
    by decide, by decide, by decide, by decide, by decide, by decide, by decide⟩,
  ⟨((((live.setSt 0xC0 3).wr Reg.SV_CFG0_IPK 0 50).modValve 0 (fun q => { q with level := 10000 })).has (cmd 0x2003 0xC0 50)), 0,
    (cmd 0x2003 0xC0 50), by decide, by decide, by decide, by decide, by decide, by decide, by decide⟩,
  ⟨(live.has (cmd 0x2004 0xC0)), 0, (cmd 0x2004 0xC0), by decide, by decide, by decide⟩,
  ⟨((live.setSt ((cmd 0x2004 0xC0).object) (stLatched (kindOf ((cmd 0x2004 0xC0).object)))).has (cmd 0x2004 0xC0)), 0, (cmd 0x2004 0xC0), by decide,
    by decide, by decide, by decide, by decide⟩,
  ⟨((((live.setSt ((cmd 0x2004 0xC0).object) (stLatched (kindOf ((cmd 0x2004 0xC0).object)))).wr Reg.SV_STAT_CAUSE 0 3).wr Reg.GLB_TDIE_P2 0 250).has (cmd 0x2004 0xC0)),
    0, (cmd 0x2004 0xC0), by decide, by decide, by decide, by decide⟩,
  ⟨(live.has (cmd 0x2005 0xC0)), 0, (cmd 0x2005 0xC0), by decide, by decide, by decide⟩,
  ⟨(live.has (cmd 0x3001 0xC0)), 0, (cmd 0x3001 0xC0), by decide⟩,
  ⟨(live.has (cmd 0x3002 0xC0)), 0, (cmd 0x3002 0xC0), by decide⟩,
  ⟨(live.has (cmd 0x3005 0xC0)), 0, (cmd 0x3005 0xC0), by decide⟩,
  ⟨(((live.setSt bstObj 0).setSt bstObj (stLatched (kindOf bstObj))).has (cmd 0x2001 0xD0)), 0, (cmd 0x2001 0xD0), by decide, by decide⟩,
  ⟨(live.has (cmd 0x2002 0xD0)), 0, (cmd 0x2002 0xD0), by decide, by decide, by decide, by decide⟩,
  ⟨((live.setSt bstObj 1).has (cmd 0x2002 0xD0)), 0, (cmd 0x2002 0xD0), by decide, by decide, by decide⟩,
  ⟨(live.has (cmd 0x2004 0xD0)), 0, (cmd 0x2004 0xD0), by decide, by decide⟩,
  ⟨((live.setSt bstObj (stLatched (kindOf bstObj))).has (cmd 0x2004 0xD0)), 0, (cmd 0x2004 0xD0), by decide, by decide, by decide⟩,
  ⟨((live.setSt bstObj 0).has (cmd 0x3001 0xD0)), 0, (cmd 0x3001 0xD0), by decide, by decide⟩,
  ⟨((live.setSt bstObj 2).has (cmd 0x3001 0xD0)), 0, (cmd 0x3001 0xD0), by decide, by decide⟩⟩

/-- Hypotheses of `Obligations.ValveActuation`. -/
theorem test_witness_ValveActuation :
    (∃ (s : State) (dt : Nat) (n : Nat) (e : Nat) (imax : Nat) (ti : Nat) (vbst : Nat) (v : Nat), let u := s.tick dt; let o := svObj n; ∃ (w : State),
      u.svRuns n = true ∧ u.st o = 1 ∧ (u.valve n).phaseEnd ≤ u.now + 30 ∧
      w = (((u.wr Reg.SV_ACT1_EBST n (min 0xFFFF e)).wr Reg.SV_ACT0_TIBST n (min 0xFFFF ti)).wr Reg.BST_STAT_VBST 0 vbst).modValve n (fun v => { v with drawn := e }) ∧
      imax * 10 < (u.valve n).ibst) ∧
    (∃ (s : State) (dt : Nat) (n : Nat) (e : Nat) (imax : Nat) (ti : Nat) (vbst : Nat) (v : Nat), let u := s.tick dt; let o := svObj n; ∃ (w : State),
      u.svRuns n = true ∧ u.st o = 1 ∧ (u.valve n).phaseEnd ≤ u.now + 30 ∧
      w = (((u.wr Reg.SV_ACT1_EBST n (min 0xFFFF e)).wr Reg.SV_ACT0_TIBST n (min 0xFFFF ti)).wr Reg.BST_STAT_VBST 0 vbst).modValve n (fun v => { v with drawn := e }) ∧
      (u.valve n).ibst ≤ imax * 10 ∧ (u.valve n).tpk = 0) ∧
    (∃ (s : State) (dt : Nat) (n : Nat) (e : Nat) (imax : Nat) (ti : Nat) (vbst : Nat) (v : Nat), let u := s.tick dt; let o := svObj n; ∃ (w : State),
      u.svRuns n = true ∧ u.st o = 1 ∧ (u.valve n).phaseEnd ≤ u.now + 30 ∧
      w = (((u.wr Reg.SV_ACT1_EBST n (min 0xFFFF e)).wr Reg.SV_ACT0_TIBST n (min 0xFFFF ti)).wr Reg.BST_STAT_VBST 0 vbst).modValve n (fun v => { v with drawn := e }) ∧
      (u.valve n).ibst ≤ imax * 10 ∧ (u.valve n).tpk ≠ 0) ∧
    (∃ (s : State) (dt : Nat) (n : Nat), let u := s.tick dt; let o := svObj n; u.svRuns n = true ∧ u.st o = 2 ∧ (u.valve n).phaseEnd ≤ u.now + 30) ∧
    (∃ (s : State) (dt : Nat) (n : Nat) (e : Nat), let u := s.tick dt; let o := svObj n; n < 16 ∧ u.supplied o = true ∧ u.isOn o = false ∧
      u.st o ≠ 0 ∧ ∃ (w : State), w = u.wr Reg.SV_ACT1_EREC n (if u.flag Reg.SV_CFG2_RECOV n then min 0xFFFF e else 0) ∧ w.st o = 4) ∧
    (∃ (s : State) (dt : Nat) (n : Nat) (d : DipSeen), let u := s.tick dt; let o := svObj n; u.svRuns n = true ∧ (u.st o = 1 ∨ u.st o = 2) ∧
      (u.valve n).judging = true ∧ (u.valve n).fwlo ≤ d.t ∧ d.t ≤ (u.valve n).fwhi ∧ u.svDipCounts n d = true ∧ ∃ (inside : Bool),
      inside = (!(u.flag Reg.SV_STAT_LEARNED n && !u.flag Reg.SV_STAT_NOBOOST n) || decide ((u.svWindow n).1 ≤ d.t ∧ d.t ≤ (u.svWindow n).2)) ∧
      (inside = true ∨ u.rd Reg.SV_STAT_ARM n = 0)) ∧
    (∃ (s : State) (dt : Nat) (n : Nat), let u := s.tick dt; let o := svObj n; u.svRuns n = true ∧ (u.st o = 1 ∨ u.st o = 2) ∧
      (u.valve n).judging = true ∧ (u.valve n).startAt + (u.valve n).fwhi * 10000 ≤ u.now) ∧
    (∃ (s : State) (dt : Nat) (n : Nat) (m : Meas), let u := s.tick dt; u.svRuns n = true ∧ 9000 ≤ m.i ∧ 10000 ≤ m.held) ∧
    (∃ (s : State) (dt : Nat) (bank : Nat), let u := s.tick dt; ((List.range 16).filter fun k => bankOf k == bank).any u.svRuns = true) ∧
    (∃ (s : State) (dt : Nat) (n : Nat) (m : Meas), let u := s.tick dt; u.svRuns n = true ∧ 225 ≤ m.tj) ∧
    (∃ (s : State) (dt : Nat) (n : Nat) (m : Meas), let u := s.tick dt; let o := svObj n; n < 16 ∧ u.supplied o = true ∧ u.st o = 5 ∧
      (u.obj o).asked = false ∧ m.tj ≤ 200) ∧
    (∃ (s : State) (dt : Nat) (n : Nat), let u := s.tick dt; let o := svObj n; n < 16 ∧ u.supplied o = true ∧ u.st o = 0 ∧
      u.flag Reg.SV_CFG4_OFFTEST n = true ∧ u.adcLost o = false ∧ ((u.obj o).testAt = none ∨ (∃ k, (u.obj o).testAt = some k ∧
      k + 10000000 ≤ u.now)) ∧ ∃ (w : State), w = u.modObj o (fun x => { x with tookAt := some u.now, testAt := some u.now })) :=
  ⟨⟨((live.setSt (svObj 0) 1).modValve 0 (fun q => { q with ibst := 10 })), 0, 0, 0, 0, 0, 0, 0, _, by decide, by decide, by decide, rfl, by decide⟩,
  ⟨((live.setSt (svObj 0) 1).modValve 0 (fun q => { q with tpk := 0 })), 0, 0, 0, 65535, 0, 0, 0, _, by decide, by decide, by decide, rfl, by decide,
    by decide⟩,
  ⟨((live.setSt (svObj 0) 1).modValve 0 (fun q => { q with boosting := true, tpk := 10 })), 0, 0, 0, 65535, 0, 0, 0, _, by decide, by decide,
    by decide, rfl, by decide, by decide⟩,
  ⟨(live.setSt (svObj 0) 2), 0, 0, by decide, by decide, by decide⟩,
  ⟨(live.setSt (svObj 0) 4), 0, 0, 0, by decide, by decide, by decide, by decide, _, rfl, by decide⟩,
  ⟨((((live.setSt (svObj 0) 1).modValve 0 (fun q => { q with judging := true })).wr Reg.SV_STAT_ARM (0) 0).modValve 0 (fun q => { q with fwhi := 60000 })),
    0, 0, { t := 1000, fall := 60000, rise := 60000 }, by decide, by decide, by decide, by decide, by decide, by decide, _, rfl, by decide⟩,
  ⟨(((live.setSt (svObj 0) 1).modValve 0 (fun q => { q with judging := true })).modValve 0 (fun q => { q with judging := true })), 0, 0, by decide,
    by decide, by decide, by decide⟩,
  ⟨(live.setSt (svObj 0) 1), 0, 0, { m0 with i := 9000, held := 10000 }, by decide, by decide, by decide⟩,
  ⟨(live.setSt (svObj 0) 1), 0, 0, by decide⟩,
  ⟨(live.setSt (svObj 0) 1), 0, 0, { m0 with tj := 225 }, by decide, by decide⟩,
  ⟨((live.setSt (svObj 0) 5).modObj (svObj 0) (fun q => { q with asked := false })), 0, 0, m0, by decide, by decide, by decide, by decide, by decide⟩,
  ⟨(((live.setSt (svObj 0) 0).wr Reg.SV_CFG4_OFFTEST (0) 1).modObj (svObj 0) (fun q => { q with testAt := none })), 0, 0, by decide, by decide,
    by decide, by decide, by decide, by decide, _, rfl⟩⟩

/-- Hypotheses of `Obligations.BoostConverterEvents`. -/
theorem test_witness_BoostConverterEvents :
    (∃ (s : State) (dt : Nat) (vbst : Nat), let u := s.tick dt; u.bstOn = true ∧ u.st bstObj = 1 ∧ 98 * (u.rd Reg.BST_CFG_VSET * 50) ≤ 100 * vbst) ∧
    (∃ (s : State) (dt : Nat) (vbst : Nat), let u := s.tick dt; u.bstOn = true ∧ u.st bstObj = 1 ∧ vbst < 500 ∧ u.out.bstOnAt + 2000000 ≤ u.now) ∧
    (∃ (s : State) (dt : Nat) (m : Meas), let u := s.tick dt; u.bstOn = true ∧ 225 ≤ m.tj) ∧
    (∃ (s : State) (dt : Nat) (m : Meas), let u := s.tick dt; u.supplied bstObj = true ∧ u.st bstObj = 3 ∧ (u.obj bstObj).asked = false ∧ m.tj ≤ 200) ∧
    (∃ (s : State) (dt : Nat) (vbst : Nat), let u := s.tick dt; u.bstOn = true ∧ 6800 < vbst) ∧
    (∃ (s : State) (dt : Nat) (vbst : Nat), let u := s.tick dt; u.out.bstStop = true ∧ vbst < 6600) ∧
    (∃ (s : State) (dt : Nat) (vs6 : Nat), let u := s.tick dt; u.bstOn = true ∧ u.rd Reg.BST_CFG_VSET * 50 < vs6 + 300) ∧
    (∃ (s : State) (dt : Nat) (vs6 : Nat), let u := s.tick dt; u.supplied bstObj = true ∧ vs6 + 400 < u.rd Reg.BST_CFG_VSET * 50) :=
  ⟨⟨(live.setSt bstObj 1), 0, 65535, by decide, by decide, by decide⟩,
  ⟨(live.setSt bstObj 1), 0, 0, by decide, by decide, by decide, by decide⟩,
  ⟨(live.setSt bstObj 2), 0, { m0 with tj := 225 }, by decide, by decide⟩,
  ⟨((live.setSt bstObj 3).modObj bstObj (fun q => { q with asked := false })), 0, m0, by decide, by decide, by decide, by decide⟩,
  ⟨(live.setSt bstObj 2), 0, 6801, by decide, by decide⟩,
  ⟨(live.onOut (fun q => { q with bstStop := true })), 0, 0, by decide, by decide⟩,
  ⟨(live.setSt bstObj 2), 0, 6500, by decide, by decide⟩,
  ⟨live, 0, 0, by decide, by decide⟩⟩

/-- Hypotheses of `Obligations.BridgeCommandsComplete`. -/
theorem test_witness_BridgeCommandsComplete :
    (∃ (s : State) (dt : Ns) (c : Cmd), let b := s.taken dt c; let o := c.object; s.starts dt c 0x2001 [.hb] = true ∧ b.hbMemberBar o = none ∧
      b.limpBar o = none ∧ (b.st o = 0 ∨ b.latched o = true ∨ b.ovBar o = none)) ∧
    (∃ (s : State) (dt : Ns) (c : Cmd), let b := s.taken dt c; let o := c.object; let n := objNum o; let d := b.hbRaise n (c.arg 18 2);
      let free := (b.hbMemberBar o = none ∧ b.limpBar o = none ∧ b.onBar o = none ∧ b.loopBar o = none); s.starts dt c 0x2002 [.hb] = true ∧ free ∧
      ∃ z, z = b.descClamp c 0x0A 18 0 16 (c.arg 18 2) d ∧ z.ovBar o = none ∧ (z.hbRuns n = false ∨ (hbDriveOf c d).dir ≠ z.hbDir n)) ∧
    (∃ (s : State) (dt : Ns) (c : Cmd), let b := s.taken dt c; let o := c.object; let n := objNum o; let d := b.hbRaise n (c.arg 18 2);
      let free := (b.hbMemberBar o = none ∧ b.limpBar o = none ∧ b.onBar o = none ∧ b.loopBar o = none); s.starts dt c 0x2002 [.hb] = true ∧ free ∧
      ∃ z, z = b.descClamp c 0x0A 18 0 16 (c.arg 18 2) d ∧ z.ovBar o = none ∧ z.hbRuns n = true ∧ (hbDriveOf c d).dir = z.hbDir n ∧
      z.rd Reg.HB_OUT_DUTY n < d) ∧
    (∃ (s : State) (dt : Ns) (c : Cmd), let b := s.taken dt c; let o := c.object; let n := objNum o; let d := b.hbRaise n (c.arg 18 2);
      let free := (b.hbMemberBar o = none ∧ b.limpBar o = none ∧ b.onBar o = none ∧ b.loopBar o = none); s.starts dt c 0x2002 [.hb] = true ∧ free ∧
      ∃ z, z = b.descClamp c 0x0A 18 0 16 (c.arg 18 2) d ∧ z.ovBar o = none ∧ z.hbRuns n = true ∧ (hbDriveOf c d).dir = z.hbDir n ∧
      d ≤ z.rd Reg.HB_OUT_DUTY n) ∧
    (∃ (s : State) (dt : Ns) (c : Cmd), let b := s.taken dt c; let o := c.object; let n := objNum o; let d := b.hbRaise n (c.arg 18 2);
      let g := c.argBits 16 2 2; let free := (b.hbMemberBar o = none ∧ b.limpBar o = none ∧ b.onBar o = none ∧ b.loopBar o = none);
      s.starts dt c 0x2006 [.hb] = true ∧ free ∧ (g = 0 → b.flag Reg.HB_STAT_POSVALID n = true) ∧ ∃ z,
      z = (b.descClamp c 0x0A 16 2 2 g (min 2 g)).descClamp c 0x0A 18 0 16 (c.arg 18 2) d ∧ z.ovBar o = none ∧
      (z.hbRuns n = false ∨ (hbDriveOf c d).dir ≠ z.hbDir n)) ∧
    (∃ (s : State) (dt : Ns) (c : Cmd), let b := s.taken dt c; let o := c.object; let n := objNum o; let d := b.hbRaise n (c.arg 18 2);
      let g := c.argBits 16 2 2; let free := (b.hbMemberBar o = none ∧ b.limpBar o = none ∧ b.onBar o = none ∧ b.loopBar o = none);
      s.starts dt c 0x2006 [.hb] = true ∧ free ∧ (g = 0 → b.flag Reg.HB_STAT_POSVALID n = true) ∧ ∃ z,
      z = (b.descClamp c 0x0A 16 2 2 g (min 2 g)).descClamp c 0x0A 18 0 16 (c.arg 18 2) d ∧ z.ovBar o = none ∧ z.hbRuns n = true ∧
      (hbDriveOf c d).dir = z.hbDir n ∧ z.rd Reg.HB_OUT_DUTY n < d) ∧
    (∃ (s : State) (dt : Ns) (c : Cmd), let b := s.taken dt c; let o := c.object; let n := objNum o; let d := b.hbRaise n (c.arg 18 2);
      let g := c.argBits 16 2 2; let free := (b.hbMemberBar o = none ∧ b.limpBar o = none ∧ b.onBar o = none ∧ b.loopBar o = none);
      s.starts dt c 0x2006 [.hb] = true ∧ free ∧ (g = 0 → b.flag Reg.HB_STAT_POSVALID n = true) ∧ ∃ z,
      z = (b.descClamp c 0x0A 16 2 2 g (min 2 g)).descClamp c 0x0A 18 0 16 (c.arg 18 2) d ∧ z.ovBar o = none ∧ z.hbRuns n = true ∧
      (hbDriveOf c d).dir = z.hbDir n ∧ d ≤ z.rd Reg.HB_OUT_DUTY n) ∧
    (∃ (s : State) (dt : Ns) (c : Cmd), let b := s.taken dt c; let o := c.object; let n := objNum o; s.starts dt c 0x2003 [.hb] = true ∧
      b.hbMemberBar o = none ∧ b.limpBar o = none ∧ b.onBar o = none ∧ ∃ k z, k = (if 1 < c.argBits 16 0 2 then 0 else c.argBits 16 0 2) ∧
      z = b.descClamp c 0x0A 16 0 2 (c.argBits 16 0 2) k ∧ z.ovBar o = none ∧ ∃ y,
      y = (if (z.begin c).hbRuns n then (z.begin c).hbMotionEnd n 6 else z.begin c)) ∧
    (∃ (s : State) (dt : Ns) (c : Cmd), let b := s.taken dt c; let o := c.object; s.starts dt c 0x2004 [.hb] = true ∧ b.hbMemberBar o = none ∧
      b.limpBar o = none ∧ b.latched o = false) ∧
    (∃ (s : State) (dt : Ns) (c : Cmd), let b := s.taken dt c; let o := c.object; let n := objNum o; s.starts dt c 0x2004 [.hb] = true ∧
      b.hbMemberBar o = none ∧ b.limpBar o = none ∧ b.latched o = true ∧ (b.rd Reg.HB_STAT_CAUSE n ≠ 2 ∨ b.tjOf o ≤ 200) ∧ b.ovBar o = none) ∧
    (∃ (s : State) (dt : Ns) (c : Cmd), let b := s.taken dt c; let o := c.object; let n := objNum o; s.starts dt c 0x2004 [.hb] = true ∧
      b.hbMemberBar o = none ∧ b.limpBar o = none ∧ b.latched o = true ∧ b.rd Reg.HB_STAT_CAUSE n = 2 ∧ 200 < b.tjOf o) ∧
    (∃ (s : State) (dt : Ns) (c : Cmd), let b := s.taken dt c; let o := c.object; s.starts dt c 0x2005 [.hb] = true ∧ b.hbMemberBar o = none ∧
      b.limpBar o = none ∧ (b.commanded o).latched o = false) ∧
    (∃ (s : State) (dt : Ns) (c : Cmd), let b := s.taken dt c; let o := c.object; s.starts dt c 0x2007 [.hb] = true ∧ b.hbMemberBar o = none ∧
      b.limpBar o = none) ∧
    (∃ (s : State) (dt : Ns) (c : Cmd), let b := s.taken dt c; let o := c.object; s.starts dt c 0x3001 [.hb] = true ∧ b.hbMemberBar o = none ∧
      b.modeBar o (c.argBits 16 0 2) = none) ∧
    (∃ (s : State) (dt : Ns) (c : Cmd), let b := s.taken dt c; let o := c.object; s.starts dt c 0x3005 [.hb] = true ∧ b.hbMemberBar o = none) :=
  ⟨⟨(((live.setSt ((cmd 0x2001 0x60).object) 0).setSt ((cmd 0x2001 0x60).object) (stLatched (kindOf ((cmd 0x2001 0x60).object)))).has (cmd 0x2001 0x60)),
    0, (cmd 0x2001 0x60), by decide, by decide, by decide, by decide⟩,
  ⟨(live.has (cmd 0x2002 0x60)), 0, (cmd 0x2002 0x60), by decide, by decide, _, rfl, by decide, by decide⟩,
  ⟨((live.setSt 0x60 2).has (cmd 0x2002 0x60 (60000 * 2 ^ 16))), 0, (cmd 0x2002 0x60 (60000 * 2 ^ 16)), by decide, by decide, _, rfl, by decide,
    by decide, by decide, by decide⟩,
  ⟨(((live.setSt 0x60 2).wr Reg.HB_OUT_DUTY 0 65535).has (cmd 0x2002 0x60)), 0, (cmd 0x2002 0x60), by decide, by decide, _, rfl, by decide, by decide,
    by decide, by decide⟩,
  ⟨((live.wr Reg.HB_STAT_POSVALID ((objNum ((cmd 0x2006 0x60).object))) 1).has (cmd 0x2006 0x60)), 0, (cmd 0x2006 0x60), by decide, by decide,
    by decide, _, rfl, by decide, by decide⟩,
  ⟨(((live.wr Reg.HB_STAT_POSVALID ((objNum ((cmd 0x2006 0x60 (60000 * 2 ^ 16)).object))) 1).setSt 0x60 2).has (cmd 0x2006 0x60 (60000 * 2 ^ 16))), 0,
    (cmd 0x2006 0x60 (60000 * 2 ^ 16)), by decide, by decide, by decide, _, rfl, by decide, by decide, by decide, by decide⟩,
  ⟨((((live.wr Reg.HB_STAT_POSVALID ((objNum ((cmd 0x2006 0x60).object))) 1).setSt 0x60 2).wr Reg.HB_OUT_DUTY 0 65535).has (cmd 0x2006 0x60)), 0,
    (cmd 0x2006 0x60), by decide, by decide, by decide, _, rfl, by decide, by decide, by decide, by decide⟩,
  ⟨(live.has (cmd 0x2003 0x60)), 0, (cmd 0x2003 0x60), by decide, by decide, by decide, by decide, _, _, rfl, rfl, by decide, _, rfl⟩,
  ⟨(live.has (cmd 0x2004 0x60)), 0, (cmd 0x2004 0x60), by decide, by decide, by decide, by decide⟩,
  ⟨((live.setSt ((cmd 0x2004 0x60).object) (stLatched (kindOf ((cmd 0x2004 0x60).object)))).has (cmd 0x2004 0x60)), 0, (cmd 0x2004 0x60), by decide,
    by decide, by decide, by decide, by decide, by decide⟩,
  ⟨((((live.setSt ((cmd 0x2004 0x60).object) (stLatched (kindOf ((cmd 0x2004 0x60).object)))).wr Reg.HB_STAT_CAUSE ((objNum ((cmd 0x2004 0x60).object))) 2).wr Reg.GLB_TDIE_P2 0 250).has (cmd 0x2004 0x60)),
    0, (cmd 0x2004 0x60), by decide, by decide, by decide, by decide, by decide, by decide⟩,
  ⟨(live.has (cmd 0x2005 0x60)), 0, (cmd 0x2005 0x60), by decide, by decide, by decide, by decide⟩,
  ⟨(live.has (cmd 0x2007 0x60)), 0, (cmd 0x2007 0x60), by decide, by decide, by decide⟩,
  ⟨(live.has (cmd 0x3001 0x60)), 0, (cmd 0x3001 0x60), by decide, by decide, by decide⟩,
  ⟨(live.has (cmd 0x3005 0x60)), 0, (cmd 0x3005 0x60), by decide, by decide⟩⟩

/-- Hypotheses of `Obligations.BridgeMotions`. -/
theorem test_witness_BridgeMotions :
    (∃ (s : State) (dt : Nat) (n : Nat) (rate : Nat) (p : Nat) (r : RippleSeen), let u := s.tick dt; let o := hbObj n; u.hbLive n = true ∧
      u.hbRipples n rate r = true ∧ p = (u.rd Reg.HB_POS_POS n + (if u.rd Reg.HB_STAT_DIR n = 0 then 1 else 65535)) % 65536 ∧ ∃ (v : State),
      v = (((u.wr Reg.HB_POS_POS n p).wr Reg.HB_MEAS_RIPRATE n (min 0xFFFF rate)).hbAmps n r.i).modBridge n (fun b => { b with ripples := b.ripples + 1, rippleAt := (((u.wr Reg.HB_POS_POS n p).wr Reg.HB_MEAS_RIPRATE n (min 0xFFFF rate)).hbAmps n r.i).now }) ∧
      v.st o ≠ 1 ∧ v.st o ≠ 2) ∧
    (∃ (s : State) (dt : Nat) (n : Nat) (rate : Nat) (p : Nat) (r : RippleSeen), let u := s.tick dt; let o := hbObj n; u.hbLive n = true ∧
      u.hbRipples n rate r = true ∧ p = (u.rd Reg.HB_POS_POS n + (if u.rd Reg.HB_STAT_DIR n = 0 then 1 else 65535)) % 65536 ∧ ∃ (v : State),
      v = (((u.wr Reg.HB_POS_POS n p).wr Reg.HB_MEAS_RIPRATE n (min 0xFFFF rate)).hbAmps n r.i).modBridge n (fun b => { b with ripples := b.ripples + 1, rippleAt := (((u.wr Reg.HB_POS_POS n p).wr Reg.HB_MEAS_RIPRATE n (min 0xFFFF rate)).hbAmps n r.i).now }) ∧
      (v.st o = 1 ∨ v.st o = 2) ∧ (v.bridge n).trap = none ∧ (v.bridge n).goal = some 0 ∧ p = v.rd Reg.HB_POS_TARGET n) ∧
    (∃ (s : State) (dt : Nat) (n : Nat) (rate : Nat) (p : Nat) (r : RippleSeen), let u := s.tick dt; let o := hbObj n; u.hbLive n = true ∧
      u.hbRipples n rate r = true ∧ p = (u.rd Reg.HB_POS_POS n + (if u.rd Reg.HB_STAT_DIR n = 0 then 1 else 65535)) % 65536 ∧ ∃ (v : State),
      v = (((u.wr Reg.HB_POS_POS n p).wr Reg.HB_MEAS_RIPRATE n (min 0xFFFF rate)).hbAmps n r.i).modBridge n (fun b => { b with ripples := b.ripples + 1, rippleAt := (((u.wr Reg.HB_POS_POS n p).wr Reg.HB_MEAS_RIPRATE n (min 0xFFFF rate)).hbAmps n r.i).now }) ∧
      (v.st o = 1 ∨ v.st o = 2) ∧ (v.bridge n).trap = none ∧ ((v.bridge n).goal ≠ some 0 ∨ p ≠ v.rd Reg.HB_POS_TARGET n)) ∧
    (∃ (s : State) (dt : Nat) (n : Nat) (rate : Nat) (p : Nat) (r : RippleSeen), let u := s.tick dt; let o := hbObj n; u.hbLive n = true ∧
      u.hbRipples n rate r = true ∧ p = (u.rd Reg.HB_POS_POS n + (if u.rd Reg.HB_STAT_DIR n = 0 then 1 else 65535)) % 65536 ∧ ∃ (v : State),
      v = (((u.wr Reg.HB_POS_POS n p).wr Reg.HB_MEAS_RIPRATE n (min 0xFFFF rate)).hbAmps n r.i).modBridge n (fun b => { b with ripples := b.ripples + 1, rippleAt := (((u.wr Reg.HB_POS_POS n p).wr Reg.HB_MEAS_RIPRATE n (min 0xFFFF rate)).hbAmps n r.i).now }) ∧
      ∃ k, (v.st o = 1 ∨ v.st o = 2) ∧ (v.bridge n).trap = some k ∧ k ≤ 1) ∧
    (∃ (s : State) (dt : Nat) (n : Nat) (rate : Nat) (p : Nat) (r : RippleSeen), let u := s.tick dt; let o := hbObj n; u.hbLive n = true ∧
      u.hbRipples n rate r = true ∧ p = (u.rd Reg.HB_POS_POS n + (if u.rd Reg.HB_STAT_DIR n = 0 then 1 else 65535)) % 65536 ∧ ∃ (v : State),
      v = (((u.wr Reg.HB_POS_POS n p).wr Reg.HB_MEAS_RIPRATE n (min 0xFFFF rate)).hbAmps n r.i).modBridge n (fun b => { b with ripples := b.ripples + 1, rippleAt := (((u.wr Reg.HB_POS_POS n p).wr Reg.HB_MEAS_RIPRATE n (min 0xFFFF rate)).hbAmps n r.i).now }) ∧
      ∃ k, (v.st o = 1 ∨ v.st o = 2) ∧ (v.bridge n).trap = some k ∧ 1 < k) ∧
    (∃ (s : State) (dt : Nat) (n : Nat) (l : Lasting), let u := s.tick dt; let o := hbObj n; u.hbLive n = true ∧ u.st o = 2 ∧
      6554 ≤ u.rd Reg.HB_OUT_DEFF n ∧ u.hbStalled n l = true ∧ ∃ v, v = u.hbAmps n l.v ∧ (v.bridge n).goal = some 1) ∧
    (∃ (s : State) (dt : Nat) (n : Nat) (l : Lasting), let u := s.tick dt; let o := hbObj n; u.hbLive n = true ∧ u.st o = 2 ∧
      6554 ≤ u.rd Reg.HB_OUT_DEFF n ∧ u.hbStalled n l = true ∧ ∃ v, v = u.hbAmps n l.v ∧ (v.bridge n).goal ≠ some 1 ∧ (v.bridge n).trap.isSome = true) ∧
    (∃ (s : State) (dt : Nat) (n : Nat) (l : Lasting), let u := s.tick dt; let o := hbObj n; u.hbLive n = true ∧ u.st o = 2 ∧
      6554 ≤ u.rd Reg.HB_OUT_DEFF n ∧ u.hbStalled n l = true ∧ ∃ v, v = u.hbAmps n l.v ∧ (v.bridge n).goal ≠ some 1 ∧ (v.bridge n).trap = none) ∧
    (∃ (s : State) (dt : Nat) (n : Nat), let u := s.tick dt; u.hbLive n = true ∧ u.hbRuns n = true ∧ (u.bridge n).timed = true ∧
      (u.bridge n).startAt + u.rd Reg.HB_CFG2_TMAX n * 100000000 ≤ u.now) ∧
    (∃ (s : State) (dt : Nat) (n : Nat) (a : Nat) (mean : Nat), let u := s.tick dt; let o := hbObj n; u.hbLive n = true ∧ u.st o = 2 ∧
      u.rd Reg.HB_CFG3_TRAPTH n ≠ 0 ∧ u.rd Reg.HB_STAT_DIR n = u.rd Reg.HB_CFG3_TRAPDIR n ∧ u.inZone n = true ∧ 16 ≤ (u.bridge n).ripples ∧
      (u.bridge n).trap = none ∧ (sgn 16 mean).natAbs + 10 * u.rd Reg.HB_CFG3_TRAPTH n < (sgn 16 a).natAbs ∧ ∃ (v : State),
      v = ((((u.hbAmps n a).raise 0x0A84 o (atByte 18 ((u.hbAmps n a).rd Reg.HB_POS_POS n) + atByte 20 a + atByte 22 mean)).hbSt n 4).wr Reg.HB_OUT_DEFF n 0)) ∧
    (∃ (s : State) (dt : Nat) (n : Nat), let u := s.tick dt; let o := hbObj n; ∃ (t : Nat), u.hbLive n = true ∧ u.st o = 1 ∧
      (u.bridge n).rampEnd = some t ∧ t ≤ u.now ∧ ∃ v, v = (u.hbSt n 2).wr Reg.HB_OUT_DEFF n (u.hbMinDuty n (u.rd Reg.HB_OUT_DUTY n))) ∧
    (∃ (s : State) (dt : Nat) (n : Nat), let u := s.tick dt; let o := hbObj n; ∃ (dir : Nat) (duty : Nat), u.hbLive n = true ∧ u.st o = 4 ∧
      (u.bridge n).revEnd ≤ u.now ∧ (u.bridge n).trap ≠ some 0 ∧ (u.bridge n).after = some (dir, duty)) ∧
    (∃ (s : State) (dt : Nat) (n : Nat), let u := s.tick dt; let o := hbObj n; u.hbLive n = true ∧ u.st o = 4 ∧ (u.bridge n).revEnd ≤ u.now ∧
      (u.bridge n).trap = some 0) ∧
    (∃ (s : State) (dt : Nat) (n : Nat) (m : Meas), let u := s.tick dt; let o := hbObj n; u.hbLive n = true ∧ (u.hbRuns n = true ∨ u.st o = 3) ∧
      300 < m.vout ∧ 1000 ≤ m.held) ∧
    (∃ (s : State) (dt : Nat) (n : Nat) (m : Meas), let u := s.tick dt; let o := hbObj n; u.hbLive n = true ∧ (u.hbRuns n = true ∨ u.st o = 3) ∧
      225 ≤ m.tj) ∧
    (∃ (s : State) (dt : Nat) (n : Nat) (m : Meas), let u := s.tick dt; let o := hbObj n; u.hbLive n = true ∧ u.st o = 5 ∧ (u.obj o).asked = false ∧
      m.tj ≤ 200) ∧
    (∃ (s : State) (dt : Nat) (n : Nat), let u := s.tick dt; let o := hbObj n; u.hbLive n = true ∧ u.st o = 2 ∧ 16384 ≤ u.rd Reg.HB_OUT_DEFF n ∧
      (u.bridge n).runAt + 200000000 ≤ u.now ∧ u.adcLost o = false) :=
  ⟨⟨(live.wr Reg.HB_STAT_DIR (0) 0), 0, 0, 100, _, { i := 0, fall := 60000, emf := 60000 }, by decide, by decide, rfl, _, rfl, by decide, by decide⟩,
  ⟨((((live.setSt (hbObj 0) 1).modBridge 0 (fun q => { q with goal := some 0 })).wr Reg.HB_POS_TARGET 0 1).wr Reg.HB_STAT_DIR 0 0), 0, 0, 100, _,
    { i := 0, fall := 60000, emf := 60000 }, by decide, by decide, rfl, _, rfl, by decide, by decide, by decide, by decide⟩,
  ⟨((live.wr Reg.HB_STAT_DIR (0) 0).setSt (hbObj 0) 1), 0, 0, 100, _, { i := 0, fall := 60000, emf := 60000 }, by decide, by decide, rfl, _, rfl,
    by decide, by decide, by decide⟩,
  ⟨(((live.wr Reg.HB_STAT_DIR (0) 0).setSt (hbObj 0) 1).modBridge 0 (fun q => { q with trap := some 1 })), 0, 0, 100, _,
    { i := 0, fall := 60000, emf := 60000 }, by decide, by decide, rfl, _, rfl, 1, by decide, by decide, by decide⟩,
  ⟨((live.setSt (hbObj 0) 1).modBridge 0 (fun q => { q with trap := some 2 })), 0, 0, 100, _, { i := 0, fall := 60000, emf := 60000 }, by decide,
    by decide, rfl, _, rfl, 2, by decide, by decide, by decide⟩,
  ⟨(((live.setSt (hbObj 0) 2).modBridge 0 (fun q => { q with goal := some 1 })).wr Reg.HB_OUT_DEFF 0 6554), 0, 0, { v := 0, held := 0 }, by decide,
    by decide, by decide, by decide, _, rfl, by decide⟩,
  ⟨(((live.setSt (hbObj 0) 2).modBridge 0 (fun q => { q with trap := some 0 })).wr Reg.HB_OUT_DEFF 0 6554), 0, 0, { v := 0, held := 0 }, by decide,
    by decide, by decide, by decide, _, rfl, by decide, by decide⟩,
  ⟨((live.setSt (hbObj 0) 2).wr Reg.HB_OUT_DEFF 0 6554), 0, 0, { v := 0, held := 0 }, by decide, by decide, by decide, by decide, _, rfl, by decide,
    by decide⟩,
  ⟨(((live.modBridge 0 (fun q => { q with timed := true })).setSt (hbObj 0) 2).modBridge 0 (fun q => { q with goal := some 1 })), 0, 0, by decide,
    by decide, by decide, by decide⟩,
  ⟨(((((live.setSt (hbObj 0) 2).wr Reg.HB_CFG3_TRAPTH 0 1).wr Reg.HB_CFG3_TRAPDIR 0 0).wr Reg.HB_STAT_DIR 0 0).modBridge 0 (fun q => { q with ripples := 16 })),
    0, 0, 1000, 0, by decide, by decide, by decide, by decide, by decide, by decide, by decide, by decide, _, rfl⟩,
  ⟨(((live.setSt (hbObj 0) 1).modBridge 0 (fun q => { q with rampEnd := some 0 })).modBridge 0 (fun q => { q with rampEnd := some 0 })), 0, 0, 0,
    by decide, by decide, by decide, by decide, _, rfl⟩,
  ⟨((live.setSt (hbObj 0) 4).modBridge 0 (fun q => { q with after := some (0, 0) })), 0, 0, 0, 0, by decide, by decide, by decide, by decide,
    by decide⟩,
  ⟨((live.setSt (hbObj 0) 4).modBridge 0 (fun q => { q with trap := some 0 })), 0, 0, by decide, by decide, by decide, by decide⟩,
  ⟨(live.setSt (hbObj 0) 2), 0, 0, { m0 with vout := 400, held := 10000 }, by decide, by decide, by decide, by decide⟩,
  ⟨(live.setSt (hbObj 0) 2), 0, 0, { m0 with tj := 225 }, by decide, by decide, by decide⟩,
  ⟨((live.setSt (hbObj 0) 5).modObj (hbObj 0) (fun q => { q with asked := false })), 0, 0, m0, by decide, by decide, by decide, by decide⟩,
  ⟨((live.setSt (hbObj 0) 2).wr Reg.HB_OUT_DEFF 0 16384), 0, 0, by decide, by decide, by decide, by decide, by decide⟩⟩

/-- Hypotheses of `Obligations.PeriodStarts`. -/
theorem test_witness_PeriodStarts :
    (∃ (s : State) (dt : Nat) (o : Nat) (vd : Nat), let u := s.tick dt; let x := u.noteVd o vd; kindOf o ≠ .hb ∧ u.isCh o = true ∧ u.chLead o = o ∧
      u.st o = 1 ∧ u.chPeriodDue (chIx o) = true ∧ (x.obj o).target = 2 ∧ ∃ (y : State) (v : State),
      y = (if x.setDuty o = 0 then x else (x.chMembers (chIx o)).foldl (fun s m => s.noteGate (chObj m)) x) ∧
      v = y.modObj o (fun z => { z with duty := x.setDuty o, next := none, period := z.period + 1, perAt := y.now, lastOff := if x.setDuty o = 0 ∧ z.duty ≠ 0 then min y.now ((x.obj o).perAt + 10 * x.chOnTime (chIx o)) else z.lastOff })) ∧
    (∃ (s : State) (dt : Nat) (o : Nat) (vd : Nat) (lim : Bool), let u := s.tick dt; let x := u.noteVd o vd; kindOf o = .hb ∧
      u.hbLive (objNum o) = true ∧ u.hbPeriodDue (objNum o) = true ∧ (u.st o = 1 ∨ u.st o = 2) ∧ ∃ (q : Nat) (x : State) (v : State),
      x = u.wrb Reg.HB_STAT_INLIMIT (objNum o) lim ∧ (u.bridge (objNum o)).rampEnd = none ∧ q = u.setDuty o ∧
      v = (x.wr Reg.HB_OUT_DEFF (objNum o) (x.hbMinDuty (objNum o) q)).modObj (hbObj (objNum o)) (fun z => { z with duty := u.setDuty o, next := none }) ∧
      hbObj (objNum o) = o) ∧
    (∃ (s : State) (dt : Nat) (o : Nat) (vd : Nat) (lim : Bool), let u := s.tick dt; let x := u.noteVd o vd; kindOf o = .hb ∧
      u.hbLive (objNum o) = true ∧ u.hbPeriodDue (objNum o) = true ∧ (u.st o = 1 ∨ u.st o = 2) ∧ ∃ (q : Nat) (x : State) (v : State),
      x = u.wrb Reg.HB_STAT_INLIMIT (objNum o) lim ∧ ∃ t full, (u.bridge (objNum o)).rampEnd = some t ∧
      full = x.rd Reg.HB_CFG1_TRAMP (objNum o) * 10000000 ∧ q = (if t ≤ x.now then u.setDuty o else u.setDuty o * (full - (t - x.now)) / max 1 full) ∧
      v = x.wr Reg.HB_OUT_DEFF (objNum o) (x.hbMinDuty (objNum o) q) ∧ hbObj (objNum o) = o) ∧
    (∃ (s : State) (dt : Nat) (o : Nat), let u := s.tick dt; kindOf o = .hb ∧ u.hbLive (objNum o) = true ∧ u.hbPeriodDue (objNum o) = true ∧
      u.st o = 3) :=
  ⟨⟨(((live.setSt 0 1).setSt 0 1).modObj 0 (fun q => { q with target := 2 })), 0, 0, 0, by decide, by decide, by decide, by decide, by decide,
    by decide, _, _, rfl, rfl⟩,
  ⟨(live.setSt 0x60 1), 0, 0x60, 0, false, by decide, by decide, by decide, by decide, _, _, _, rfl, by decide, rfl, rfl, by decide⟩,
  ⟨(((live.setSt 0x60 1).setSt 0x60 1).modBridge 0 (fun q => { q with rampEnd := some 0 })), 0, 0x60, 0, false, by decide, by decide, by decide,
    by decide, _, _, _, rfl, _, _, rfl, rfl, rfl, rfl, by decide⟩,
  ⟨(live.setSt 0x60 3), 0, 0x60, by decide, by decide, by decide, by decide⟩⟩

/-- Hypotheses of `Obligations.LoopRows`. -/
theorem test_witness_LoopRows :
    (∃ (s : State) (dt : Ns) (c : Cmd), let b := s.taken dt c; let i := objNum c.object; s.starts dt c 0x2001 [.loop] = true ∧
      b.rd Reg.LP_STAT_STATE i = 0) ∧
    (∃ (s : State) (dt : Ns) (c : Cmd), let b := s.taken dt c; let i := objNum c.object; let m := min 2 (c.argBits 16 0 2);
      s.starts dt c 0x2001 [.loop] = true ∧ b.rd Reg.LP_STAT_STATE i ≠ 0 ∧ (m = 0 ∨ b.ovBar (b.loopObj i) = none)) ∧
    (∃ (s : State) (dt : Ns) (c : Cmd), let b := s.taken dt c; let i := objNum c.object; let m := min 2 (c.argBits 16 0 2);
      s.starts dt c 0x2002 [.loop] = true ∧ b.closedBar i = none ∧ b.ownerFor c (b.loopObj i) = c.pf ∧ b.loopBound i = true ∧ (∀ m,
      m < 48 → m ≠ i → b.loopObj m = b.loopObj i → b.rd Reg.LP_STAT_STATE m = 0) ∧ b.loopDriven i = true ∧ b.ovBar (b.loopObj i) = none ∧
      ∃ (y : State) (v : State), y = (if b.flag Reg.LP_STAT_EVER i then b else b.descClamp c 0x10 16 0 1 (c.argBits 16 0 1) 0) ∧
      v = y.putImage c 0x10 (y.limitPuts i) ∧ ∃ (d : Demand), d = { v.cmdDemand c (.on 0 0) (v.loopExtra i) [] 0 with cls := b.demandClass c } ∧
      v.loopExtra i ≠ []) ∧
    (∃ (s : State) (dt : Ns) (c : Cmd), let b := s.taken dt c; let i := objNum c.object; let m := min 2 (c.argBits 16 0 2);
      s.starts dt c 0x2002 [.loop] = true ∧ b.closedBar i = none ∧ b.ownerFor c (b.loopObj i) = c.pf ∧ b.loopBound i = true ∧ (∀ m,
      m < 48 → m ≠ i → b.loopObj m = b.loopObj i → b.rd Reg.LP_STAT_STATE m = 0) ∧ b.loopDriven i = true ∧ b.ovBar (b.loopObj i) = none ∧
      ∃ (y : State) (v : State), y = (if b.flag Reg.LP_STAT_EVER i then b else b.descClamp c 0x10 16 0 1 (c.argBits 16 0 1) 0) ∧
      v = y.putImage c 0x10 (y.limitPuts i) ∧ ∃ (d : Demand), d = { v.cmdDemand c (.on 0 0) (v.loopExtra i) [] 0 with cls := b.demandClass c } ∧
      v.loopExtra i = []) ∧
    (∃ (s : State) (dt : Ns) (c : Cmd), s.starts dt c 0x2003 [.loop] = true) ∧
    (∃ (s : State) (dt : Ns) (c : Cmd), s.starts dt c 0x2004 [.loop] = true) ∧
    (∃ (s : State) (dt : Ns) (c : Cmd), let b := s.taken dt c; let i := objNum c.object; s.starts dt c 0x3001 [.loop] = true ∧
      b.rd Reg.LP_STAT_STATE i = 0) ∧
    (∃ (s : State) (dt : Ns) (c : Cmd), let b := s.taken dt c; let i := objNum c.object; s.starts dt c 0x3006 [.loop] = true ∧
      b.rd Reg.LP_STAT_STATE i = 0) ∧
    (∃ (s : State) (dt : Ns) (c : Cmd), let b := s.taken dt c; let i := objNum c.object; s.starts dt c 0x3007 [.loop] = true ∧
      b.rd Reg.LP_STAT_STATE i = 0) ∧
    (∃ (s : State) (dt : Ns) (c : Cmd), s.starts dt c 0x3008 [.loop] = true) ∧
    (∃ (s : State) (dt : Ns) (n : Nat) (age : Nat), let u := s.tick dt; u.dieC = true ∧ n < 48 ∧
      (u.rd Reg.LP_STAT_STATE n = 1 ∨ u.rd Reg.LP_STAT_STATE n = 2) ∧ u.loopDue n = true ∧ ∃ (v : State),
      v = u.modLoop n (fun l => { l with sampleAt := u.now }) ∧ age ≤ 2 * v.loopRefresh n ∧ 2 ≤ u.rd Reg.LP_CFG0_FBSRC n) ∧
    (∃ (s : State) (dt : Ns) (n : Nat) (age : Nat), let u := s.tick dt; u.dieC = true ∧ n < 48 ∧
      (u.rd Reg.LP_STAT_STATE n = 1 ∨ u.rd Reg.LP_STAT_STATE n = 2) ∧ u.loopDue n = true ∧ ∃ (v : State),
      v = u.modLoop n (fun l => { l with sampleAt := u.now }) ∧ age ≤ 2 * v.loopRefresh n ∧ u.rd Reg.LP_CFG0_FBSRC n = 0 ∧
      u.adcLost (u.loopObj n) = false) ∧
    (∃ (s : State) (dt : Ns) (n : Nat) (age : Nat), let u := s.tick dt; u.dieC = true ∧ n < 48 ∧
      (u.rd Reg.LP_STAT_STATE n = 1 ∨ u.rd Reg.LP_STAT_STATE n = 2) ∧ u.loopDue n = true ∧ ∃ (v : State),
      v = u.modLoop n (fun l => { l with sampleAt := u.now }) ∧ age ≤ 2 * v.loopRefresh n ∧ u.rd Reg.LP_CFG0_FBSRC n = 1 ∧
      u.flag Reg.LD_STAT_NTCFAULT (u.rd Reg.LP_CFG0_FBIDX n) = false) ∧
    (∃ (s : State) (dt : Ns) (n : Nat) (age : Nat), let u := s.tick dt; u.dieC = true ∧ n < 48 ∧
      (u.rd Reg.LP_STAT_STATE n = 1 ∨ u.rd Reg.LP_STAT_STATE n = 2) ∧ u.loopDue n = true ∧ ∃ (v : State),
      v = u.modLoop n (fun l => { l with sampleAt := u.now }) ∧ 2 * v.loopRefresh n < age) :=
  ⟨⟨((live.wr Reg.LP_STAT_STATE ((objNum (cmd 0x2001 0x301).object)) 0).has (cmd 0x2001 0x301)), 0, (cmd 0x2001 0x301), by decide, by decide⟩,
  ⟨((live.wr Reg.LP_STAT_STATE 1 1).has (cmd 0x2001 0x301)), 0, (cmd 0x2001 0x301), by decide, by decide, by decide⟩,
  ⟨((((((live.wr Reg.LP_CFG0_OBJECT 1 3).wr Reg.LP_CFG0_KIND 1 5).setSt 3 1).wr Reg.LP_STAT_EVER 1 1).wr Reg.LP_OUTMAX 1 65536).has (cmd 0x2002 0x301)),
    0, (cmd 0x2002 0x301), by decide, by decide, by decide, by decide, by decide, by decide, by decide, _, _, rfl, rfl, _, rfl, by decide⟩,
  ⟨(((((live.wr Reg.LP_CFG0_OBJECT 1 3).wr Reg.LP_CFG0_KIND 1 5).setSt 3 1).wr Reg.LP_STAT_EVER 1 1).has (cmd 0x2002 0x301)), 0, (cmd 0x2002 0x301),
    by decide, by decide, by decide, by decide, by decide, by decide, by decide, _, _, rfl, rfl, _, rfl, by decide⟩,
  ⟨(live.has (cmd 0x2003 0x301)), 0, (cmd 0x2003 0x301), by decide⟩,
  ⟨(live.has (cmd 0x2004 0x301)), 0, (cmd 0x2004 0x301), by decide⟩,
  ⟨((live.wr Reg.LP_STAT_STATE ((objNum (cmd 0x3001 0x301).object)) 0).has (cmd 0x3001 0x301)), 0, (cmd 0x3001 0x301), by decide, by decide⟩,
  ⟨((live.wr Reg.LP_STAT_STATE ((objNum (cmd 0x3006 0x301).object)) 0).has (cmd 0x3006 0x301)), 0, (cmd 0x3006 0x301), by decide, by decide⟩,
  ⟨((live.wr Reg.LP_STAT_STATE ((objNum (cmd 0x3007 0x301).object)) 0).has (cmd 0x3007 0x301)), 0, (cmd 0x3007 0x301), by decide, by decide⟩,
  ⟨(live.has (cmd 0x3008 0x301)), 0, (cmd 0x3008 0x301), by decide⟩,
  ⟨((live.wr Reg.LP_STAT_STATE (0) 1).wr Reg.LP_CFG0_FBSRC 0 2), 0, 0, 0, by decide, by decide, by decide, by decide, _, rfl, by decide, by decide⟩,
  ⟨((live.wr Reg.LP_STAT_STATE (0) 1).wr Reg.LP_CFG0_FBSRC (0) 0), 0, 0, 0, by decide, by decide, by decide, by decide, _, rfl, by decide, by decide,
    by decide⟩,
  ⟨((live.wr Reg.LP_STAT_STATE 0 1).wr Reg.LP_CFG0_FBSRC 0 1), 0, 0, 0, by decide, by decide, by decide, by decide, _, rfl, by decide, by decide,
    by decide⟩,
  ⟨(live.wr Reg.LP_STAT_STATE (0) 1), 0, 0, (10 ^ 12), by decide, by decide, by decide, by decide, _, rfl, by decide⟩⟩

/-- Hypotheses of `Obligations.InputRows`. -/
theorem test_witness_InputRows :
    (∃ (s : State) (dt : Ns) (c : Cmd), s.starts dt c 0x3001 [.sw] = true) ∧
    (∃ (s : State) (dt : Ns) (c : Cmd), let b := s.taken dt c; let i := objNum c.object; s.starts dt c 0x3001 [.ii] = true ∧ ∃ (w : State),
      w = (b.begin c).putImage c 0x12 (imagePuts c 0x12 (0x10 * i) 2)) ∧
    (∃ (s : State) (dt : Ns) (c : Cmd), let i := objNum c.object; s.starts dt c 0x2006 [.ii] = true ∧ i ≤ 3) ∧
    (∃ (s : State) (dt : Ns) (c : Cmd), let i := objNum c.object; s.starts dt c 0x2006 [.ii] = true ∧ 3 < i) ∧
    (∃ (s : State) (dt : Ns) (n : Nat) (vin : Nat), let u := s.tick dt; let x := (u.swTake n vin).parkCheck.freshInputs; n < 64 ∧ u.frontEnd = true ∧
      u.swDue n = true ∧
      (x.flag Reg.SW_STAT_LEVEL n = false ∨ u.flag Reg.SW_STAT_LEVEL n = true ∨ x.flag Reg.ACC_CFG_STARTEN = false ∨ x.rd Reg.ACC_CFG_STARTSW ≠ n)) ∧
    (∃ (s : State) (dt : Ns) (n : Nat) (vin : Nat), let u := s.tick dt; let x := (u.swTake n vin).parkCheck.freshInputs; n < 64 ∧ u.frontEnd = true ∧
      u.swDue n = true ∧ x.flag Reg.SW_STAT_LEVEL n = true ∧ u.flag Reg.SW_STAT_LEVEL n = false ∧ x.dieC = true ∧ x.flag Reg.ACC_CFG_STARTEN = true ∧
      x.rd Reg.ACC_CFG_STARTSW = n ∧ x.accBusy = false) ∧
    (∃ (s : State) (dt : Ns) (n : Nat) (v : Lasting), let u := s.tick dt; u.stopWatch = true ∧ (u.swStatic n v).2 = true) ∧
    (∃ (s : State) (dt : Ns) (n : Nat) (vin : Nat), let u := s.tick dt; u.stopWatch = true ∧ (u.swPoll n vin).2 = true) ∧
    (∃ (s : State) (dt : Ns) (n : Nat) (a : Lasting), let u := s.tick dt; n < 16 ∧ u.dieC = true ∧ u.flag Reg.BAR_STAT_UP = true ∧ 10000000 ≤ a.held ∧
      u.flag Reg.II_CFG0_WBEN n = true ∧ u.flag Reg.II_STAT_WIREBRK n = false ∧ a.v < u.rd Reg.II_CFG1_WBTH n) ∧
    (∃ (s : State) (dt : Ns) (n : Nat) (a : Lasting), let u := s.tick dt; n < 16 ∧ u.dieC = true ∧ u.flag Reg.BAR_STAT_UP = true ∧ 10000000 ≤ a.held ∧
      u.flag Reg.II_STAT_WIREBRK n = true ∧ u.rd Reg.II_CFG1_WBTH n ≤ a.v) :=
  ⟨⟨(live.has (cmd 0x3001 0x101)), 0, (cmd 0x3001 0x101), by decide⟩,
  ⟨(live.has (cmd 0x3001 0x141)), 0, (cmd 0x3001 0x141), by decide, _, rfl⟩,
  ⟨(live.has (cmd 0x2006 0x141)), 0, (cmd 0x2006 0x141), by decide, by decide⟩,
  ⟨(live.has (cmd 0x2006 0x145)), 0, (cmd 0x2006 0x145), by decide, by decide⟩,
  ⟨live, 0, 0, 0, by decide, by decide, by decide, by decide⟩,
  ⟨(((live.wr Reg.SW_STAT_LEVEL (0) 0).wr Reg.ACC_CFG_STARTEN 0 1).wr Reg.SW_CFG0_DEBN 0 0), 0, 0, 65535, by decide, by decide, by decide, by decide,
    by decide, by decide, by decide, by decide, by decide⟩,
  ⟨((ph .stop).wr Reg.SW_CFG1_WAKE 0 1), 0, 0, { v := 60000, held := 100000 }, by decide, by decide⟩,
  ⟨(((live.pw (fun q => { q with phase := .stop })).wr Reg.SW_CFG1_WAKE 0 2).modSw 0 (fun q => { q with polls := 15 })), 0, 0, 65535, by decide,
    by decide⟩,
  ⟨((((live.wr Reg.BAR_STAT_UP (0) 1).wr Reg.II_CFG0_WBEN (0) 1).wr Reg.II_STAT_WIREBRK (0) 0).wr Reg.II_CFG1_WBTH 0 10), 0, 0,
    { v := 0, held := 100000000 }, by decide, by decide, by decide, by decide, by decide, by decide, by decide⟩,
  ⟨((live.wr Reg.BAR_STAT_UP (0) 1).wr Reg.II_STAT_WIREBRK (0) 1), 0, 0, { v := 60000, held := 100000000 }, by decide, by decide, by decide,
    by decide, by decide, by decide⟩⟩

/-- Hypotheses of `Obligations.IsolatedOutputRows`. -/
theorem test_witness_IsolatedOutputRows :
    (∃ (s : State) (dt : Ns) (c : Cmd), let b := s.taken dt c; let o := c.object; let i := objNum o; s.starts dt c 0x2002 [.io] = true ∧
      b.onBar o = none ∧ b.st o ≠ 1 ∧ b.flag Reg.BAR_STAT_UP = true ∧ 1600 ≤ b.rd Reg.BAR_VFLD_VFLD ∧ ∃ (w : State),
      w = ((b.begin c).setSt o 1).wr Reg.IO_STAT_CAUSE i 0) ∧
    (∃ (s : State) (dt : Ns) (c : Cmd), let b := s.taken dt c; let o := c.object; s.starts dt c 0x2002 [.io] = true ∧ b.onBar o = none ∧ b.st o = 1) ∧
    (∃ (s : State) (dt : Ns) (c : Cmd), s.starts dt c 0x2001 [.io] = true) ∧
    (∃ (s : State) (dt : Ns) (c : Cmd), let b := s.taken dt c; let o := c.object; s.starts dt c 0x2004 [.io] = true ∧ b.latched o = true) ∧
    (∃ (s : State) (dt : Ns) (c : Cmd), let b := s.taken dt c; let o := c.object; s.starts dt c 0x2004 [.io] = true ∧ b.latched o = false) ∧
    (∃ (s : State) (dt : Ns) (c : Cmd), let b := s.taken dt c; let o := c.object; s.starts dt c 0x2005 [.io] = true ∧
      (b.commanded o).latched o = false) ∧
    (∃ (s : State) (dt : Ns) (c : Cmd), s.starts dt c 0x3001 [.io] = true) ∧
    (∃ (s : State) (dt : Ns) (n : Nat) (m : Meas), let u := s.tick dt; n < 8 ∧ u.dieC = true ∧ u.st (ioObj n) = 1 ∧ 720 ≤ m.i ∧
      1800000 ≤ min m.held (u.now - (u.obj (ioObj n)).onAt)) ∧
    (∃ (s : State) (dt : Ns) (n : Nat) (m : Meas), let u := s.tick dt; n < 8 ∧ u.dieC = true ∧ u.st (ioObj n) = 1 ∧ 225 ≤ m.tj) ∧
    (∃ (s : State) (dt : Ns) (n : Nat) (m : Meas), let u := s.tick dt; n < 8 ∧ u.dieC = true ∧ u.st (ioObj n) = 2 ∧ m.tj ≤ 200) ∧
    (∃ (s : State) (dt : Ns) (v : Nat), let u := s.tick dt; u.dieC = true ∧ v < 1600 ∧ u.flag Reg.BAR_VFLD_VFLDUV = false) ∧
    (∃ (s : State) (dt : Ns) (v : Nat), let u := s.tick dt; ∃ (x : State) (w : State), u.dieC = true ∧ 1700 < v ∧
      x = { u.wr Reg.BAR_VFLD_VFLD 0 v with inp := { u.inp with turnAt := u.now } } ∧ (u.flag Reg.BAR_VFLD_VFLDUV = true ∧
      w = (x.wr Reg.BAR_VFLD_VFLDUV 0 0).vfldEvent false ∨ u.flag Reg.BAR_VFLD_VFLDUV = false ∧ u.inp.turnAt + 1000000 ≤ u.now ∧ w = x)) :=
  ⟨⟨(((live.wr Reg.BAR_STAT_UP (0) 1).wr Reg.BAR_VFLD_VFLD 0 1600).has (cmd 0x2002 0x150)), 0, (cmd 0x2002 0x150), by decide, by decide, by decide,
    by decide, by decide, _, rfl⟩,
  ⟨(((live.setSt ((cmd 0x2002 0x150).object) 1).wr Reg.BAR_VFLD_VFLD 0 1600).has (cmd 0x2002 0x150)), 0, (cmd 0x2002 0x150), by decide, by decide,
    by decide⟩,
  ⟨(live.has (cmd 0x2001 0x150)), 0, (cmd 0x2001 0x150), by decide⟩,
  ⟨((live.setSt ((cmd 0x2004 0x150).object) (stLatched (kindOf ((cmd 0x2004 0x150).object)))).has (cmd 0x2004 0x150)), 0, (cmd 0x2004 0x150),
    by decide, by decide⟩,
  ⟨(live.has (cmd 0x2004 0x150)), 0, (cmd 0x2004 0x150), by decide, by decide⟩,
  ⟨(live.has (cmd 0x2005 0x150)), 0, (cmd 0x2005 0x150), by decide, by decide⟩,
  ⟨(live.has (cmd 0x3001 0x150)), 0, (cmd 0x3001 0x150), by decide⟩,
  ⟨(live.setSt (ioObj 0) 1), 0, 0, { m0 with i := 800, held := 10000000 }, by decide, by decide, by decide, by decide, by decide⟩,
  ⟨(live.setSt (ioObj 0) 1), 0, 0, { m0 with tj := 225 }, by decide, by decide, by decide, by decide⟩,
  ⟨(live.setSt (ioObj 0) 2), 0, 0, m0, by decide, by decide, by decide, by decide⟩,
  ⟨(live.wr Reg.BAR_VFLD_VFLDUV (0) 0), 0, 0, by decide, by decide, by decide⟩,
  ⟨(live.wr Reg.BAR_VFLD_VFLDUV 0 1), 0, 1701, _, _, by decide, by decide, rfl, .inl ⟨by decide, rfl⟩⟩⟩

/-- Hypotheses of `Obligations.BarrierRows`. -/
theorem test_witness_BarrierRows :
    (∃ (s : State) (dt : Nat) (seq : Nat) (vins : List Nat) (rises : List Nat) (falls : List Nat) (crc : Bool), let u := s.tick dt;
      ∃ (v : State) (w : State), u.barDue u.inp.up = true ∧ v = (u.fieldCount rises falls).fieldRead vins ∧ v.dieC = true ∧
      w = ({ v with inp := { v.inp with up := (v.inp.up.take v.now (some (crc, seq))).1 } } : State) ∧ (v.inp.up.take v.now (some (crc,
      seq))).2 = true) ∧
    (∃ (s : State) (dt : Nat) (seq : Nat) (vins : List Nat) (rises : List Nat) (falls : List Nat) (crc : Bool), let u := s.tick dt;
      ∃ (v : State) (w : State), u.barDue u.inp.up = true ∧ v = (u.fieldCount rises falls).fieldRead vins ∧ v.dieC = true ∧
      w = ({ v with inp := { v.inp with up := (v.inp.up.take v.now (some (crc, seq))).1 } } : State) ∧ (v.inp.up.take v.now (some (crc,
      seq))).2 = false) ∧
    (∃ (s : State) (dt : Nat) (seq : Nat) (crc : Bool), let u := s.tick dt; u.dieC = true ∧ u.barDue u.inp.dn = true ∧ ∃ (v : State) (w : State),
      v = (u.dnTake (some (crc, seq))).1 ∧
      w = (List.range 4).foldl (fun s n => if (s.ii n).clears.isEmpty then s else ({ s with inp := { s.inp with counts := tput s.inp.counts n 0 } } : State).modIi n fun x => { x with told := true }) v.fieldConfig ∧
      (u.dnTake (some (crc, seq))).2 = false) ∧
    (∃ (s : State) (dt : Nat) (seq : Nat) (crc : Bool), let u := s.tick dt; u.dieC = true ∧ u.barDue u.inp.dn = true ∧ ∃ (v : State) (w : State),
      v = (u.dnTake (some (crc, seq))).1 ∧
      w = (List.range 4).foldl (fun s n => if (s.ii n).clears.isEmpty then s else ({ s with inp := { s.inp with counts := tput s.inp.counts n 0 } } : State).modIi n fun x => { x with told := true }) v.fieldConfig ∧
      (u.dnTake (some (crc, seq))).2 = true) ∧
    (∃ (s : State) (dt : Nat), let u := s.tick dt; u.dieC = true ∧ u.barDue u.inp.up = true) ∧
    (∃ (s : State) (dt : Nat), let u := s.tick dt; u.barDue u.inp.dn = true) ∧
    (∃ (s : State) (dt : Nat) (field : Bool), let u := s.tick dt; u.dieC = true ∧ u.flag Reg.BAR_STAT_UP = true ∧
      (if field = true then u.inp.dn.bad else u.inp.up.bad) = 3) ∧
    (∃ (s : State) (dt : Nat) (field : Bool), let u := s.tick dt; ∃ (v : State),
      v = ({ u with inp := { u.inp with counts := [], edges := [], field := [], dn := {}, dnBad := 0, restarted := true } } : State) ∧ v.dieC = true) :=
  ⟨⟨live, 0, 0, [], [], [], true, _, _, by decide, rfl, by decide, rfl, by decide⟩,
  ⟨live, 0, 0, [], [], [], false, _, _, by decide, rfl, by decide, rfl, by decide⟩,
  ⟨live, 0, 0, false, by decide, by decide, _, _, rfl, rfl, by decide⟩,
  ⟨live, 0, 0, true, by decide, by decide, _, _, rfl, rfl, by decide⟩,
  ⟨live, 0, by decide, by decide⟩,
  ⟨live, 0, by decide⟩,
  ⟨((live.wr Reg.BAR_STAT_UP (0) 1).onInp (fun q => { q with up := { q.up with bad := 3 } })), 0, false, by decide, by decide, by decide⟩,
  ⟨live, 0, false, _, rfl, by decide⟩⟩

/-- Hypotheses of `Obligations.CanCommandsAndFrames`. -/
theorem test_witness_CanCommandsAndFrames :
    (∃ (s : State) (dt : Ns) (c : Cmd), let b := s.taken dt c; let i := objNum c.object; let id := c.arg 16 4; let fmt := c.arg 20 1 % 4;
      s.starts dt c 0x4001 [.can] = true ∧ firstBar (b.canSendBars i id fmt) = none ∧ c.argBits 21 0 1 = 1) ∧
    (∃ (s : State) (dt : Ns) (c : Cmd), let b := s.taken dt c; let i := objNum c.object; let id := c.arg 16 4; let fmt := c.arg 20 1 % 4;
      let l0 := c.arg 22 2; let len := if fmt = 3 then clampNat 1 2048 l0 else if fmt = 0 then min 8 l0 else min 64 l0;
      let hdr := if fmt = 3 then 8 else 0; let w := b.descClamp c (clampWin c.object) 22 0 16 l0 len; s.starts dt c 0x4001 [.can] = true ∧
      firstBar (b.canSendBars i id fmt) = none ∧ c.argBits 21 0 1 ≠ 1 ∧ c.arg 24 8 % 8 = 0 ∧ (w.dma c.pf (c.arg 24 8) (hdr + len)).2 = true) ∧
    (∃ (s : State) (dt : Ns) (c : Cmd), s.starts dt c 0x2011 [.can] = true) ∧
    (∃ (s : State) (dt : Ns) (c : Cmd), let b := s.taken dt c; let fmt := c.arg 20 1 % 4; let l0 := c.arg 22 2;
      let len := if fmt = 3 then clampNat 1 2048 l0 else if fmt = 0 then min 8 l0 else min 64 l0;
      let w := b.descClamp c (clampWin c.object) 22 0 16 l0 len; ∃ g, g = objSeg c.object ∧ s.starts dt c 0x2010 [.can, .lin, .eth] = true ∧
      (c.arg 16 2 + 65536 - b.rd Reg.RXQ_IDX_HEAD g) % 65536 ≤ (b.rd Reg.RXQ_IDX_TAIL g + 65536 - b.rd Reg.RXQ_IDX_HEAD g) % 65536 ∧ ∃ (w : State),
      w = (b.begin c).wr Reg.RXQ_IDX_HEAD g (c.arg 16 2)) ∧
    (∃ (s : State) (dt : Ns) (c : Cmd), let b := s.taken dt c; ∃ g, g = objSeg c.object ∧ s.starts dt c 0x2010 [.can, .lin, .eth] = true ∧
      (b.rd Reg.RXQ_IDX_TAIL g + 65536 - b.rd Reg.RXQ_IDX_HEAD g) % 65536 < (c.arg 16 2 + 65536 - b.rd Reg.RXQ_IDX_HEAD g) % 65536) ∧
    (∃ (s : State) (dt : Ns) (c : Cmd) (n : Nat) (f : Frame), let b := s.taken dt c; let u := s.tick dt; let fmt := c.arg 20 1 % 4;
      let l0 := c.arg 22 2; let len := if fmt = 3 then clampNat 1 2048 l0 else if fmt = 0 then min 8 l0 else min 64 l0;
      let w := b.descClamp c (clampWin c.object) 22 0 16 l0 len; n < 16 ∧ u.canRuns n = true ∧ u.nmSt n ≠ 4 ∧ u.rd Reg.CAN_XCVR_MODE n ≠ 0 ∧
      u.rd Reg.CAN_XCVR_MODE n ≠ 1 ∧ f.fmt ≤ 3 ∧ ∃ (v : State) (w : State),
      w = (u.lineSeen n).modCan n (fun x => { x with rec_ := if x.rec_ = 0 then 0 else if x.rec_ ≤ 127 then x.rec_ - 1 else clampNat 119 127 (Config.recAfter x.rec_) }) ∧
      v = ((w.bump Reg.CAN_TXRX_RXOK n).canCount n 1).canShow n (w.canActive n)) ∧
    (∃ (s : State) (dt : Ns) (n : Nat) (f : Frame), let u := s.tick dt; n < 8 ∧ u.buses = true ∧ u.flag Reg.LIN_CFG_EN n = true ∧ f.fmt = 4 ∧
      (f.id % 64 ≠ 0x3C ∨ u.flag Reg.LIN_CFG_ROLE n = true) ∧ (u.lineSeen (16 + n)).linTakes n (f.id % 64) = true) ∧
    (∃ (s : State) (dt : Ns) (c : Cmd) (n : Nat) (f : Frame) (x : OnBus) (d : Cmd), let b := s.taken dt c; let u := s.tick dt;
      let fmt := c.arg 20 1 % 4; let l0 := c.arg 22 2; let len := if fmt = 3 then clampNat 1 2048 l0 else if fmt = 0 then min 8 l0 else min 64 l0;
      let w := b.descClamp c (clampWin c.object) 22 0 16 l0 len; n < 16 ∧ u.canRuns n = true ∧ (u.can n).bus = some x ∧ x.frame = .bus f ∧
      (f.fmt = 0 ∨ u.flag Reg.CAN_TDC_TDCEN n = false) ∧ ∃ (v : State) (w : State),
      w = ((((u.modCan n fun y => { y with bus := none, tec := y.tec - 1, coll := onColl y.coll f.id fun e => { e with count := 0 } }).bump Reg.CAN_TXRX_TXOK n).canCount n 0).showTxq n).lineSeen n ∧
      v = ((w.canShow n (w.canActive n)).sentCount x.tx x.marked).storedDone x.tx ∧ x.tx.frm = .cmd d) ∧
    (∃ (s : State) (dt : Ns) (c : Cmd) (n : Nat) (f : Frame) (x : OnBus), let b := s.taken dt c; let u := s.tick dt; let fmt := c.arg 20 1 % 4;
      let l0 := c.arg 22 2; let len := if fmt = 3 then clampNat 1 2048 l0 else if fmt = 0 then min 8 l0 else min 64 l0;
      let w := b.descClamp c (clampWin c.object) 22 0 16 l0 len; n < 16 ∧ u.canRuns n = true ∧ (u.can n).bus = some x ∧ x.frame = .bus f ∧
      (f.fmt = 0 ∨ u.flag Reg.CAN_TDC_TDCEN n = false) ∧ ∃ (v : State) (w : State),
      w = ((((u.modCan n fun y => { y with bus := none, tec := y.tec - 1, coll := onColl y.coll f.id fun e => { e with count := 0 } }).bump Reg.CAN_TXRX_TXOK n).canCount n 0).showTxq n).lineSeen n ∧
      v = ((w.canShow n (w.canActive n)).sentCount x.tx x.marked).storedDone x.tx ∧ x.tx.frm = .ref) ∧
    (∃ (s : State) (dt : Ns) (n : Nat) (x : OnBus), let u := s.tick dt; (u.can n).bus = some x ∧ u.canRuns n = true) ∧
    (∃ (s : State) (dt : Ns) (n : Nat) (x : OnBus), let u := s.tick dt; ∃ v, x.cancel = false ∧ v = u.canRetry n x) ∧
    (∃ (s : State) (dt : Ns) (c : Cmd) (n : Nat) (type : Nat) (pos : Nat) (more : Nat) (x : OnBus) (ex : Bool), let b := s.taken dt c;
      let u := s.tick dt; let fmt := c.arg 20 1 % 4; let l0 := c.arg 22 2;
      let len := if fmt = 3 then clampNat 1 2048 l0 else if fmt = 0 then min 8 l0 else min 64 l0;
      let w := b.descClamp c (clampWin c.object) 22 0 16 l0 len; ∃ tx v, u.canRuns n = true ∧
      v = ((((((u.lineSeen n).modCan n fun x => { x with tec := if tx then x.tec + (if ex then 0 else 8) + 8 * more else x.tec, rec_ := if tx then x.rec_ else x.rec_ + 1 + 8 * more }).wr Reg.CAN_LASTERR_TYPE n type).wr Reg.CAN_LASTERR_TX n (b2n tx)).wr Reg.CAN_LASTERR_POS n pos).bump Reg.CAN_ERRCNT_ERRFR n).canCount n 2 ∧
      ∃ (w : State), w = v.canShow n (v.canActive n) ∧ ((w.can n).bus = none ∨ tx = false)) ∧
    (∃ (s : State) (dt : Ns) (c : Cmd) (n : Nat) (type : Nat) (pos : Nat) (more : Nat) (x : OnBus) (ex : Bool), let b := s.taken dt c;
      let u := s.tick dt; let fmt := c.arg 20 1 % 4; let l0 := c.arg 22 2;
      let len := if fmt = 3 then clampNat 1 2048 l0 else if fmt = 0 then min 8 l0 else min 64 l0;
      let w := b.descClamp c (clampWin c.object) 22 0 16 l0 len; ∃ tx v, u.canRuns n = true ∧
      v = ((((((u.lineSeen n).modCan n fun x => { x with tec := if tx then x.tec + (if ex then 0 else 8) + 8 * more else x.tec, rec_ := if tx then x.rec_ else x.rec_ + 1 + 8 * more }).wr Reg.CAN_LASTERR_TYPE n type).wr Reg.CAN_LASTERR_TX n (b2n tx)).wr Reg.CAN_LASTERR_POS n pos).bump Reg.CAN_ERRCNT_ERRFR n).canCount n 2 ∧
      ∃ (w : State), w = v.canShow n (v.canActive n) ∧ (w.can n).bus = some x ∧ tx = true) ∧
    (∃ (s : State) (dt : Ns) (n : Nat), let u := s.tick dt; u.canRuns n = true ∧ 256 ≤ (u.can n).tec ∧ ∃ (v : State),
      v = (u.canFlush n .faulted 0x1403).modCan n (fun x => { x with offAt := (u.canFlush n .faulted 0x1403).now })) ∧
    (∃ (s : State) (dt : Ns) (n : Nat), let u := s.tick dt; n < 16 ∧ u.buses = true ∧ u.rd Reg.CAN_STAT_STATE n = 2 ∧
      (u.can n).offAt + 17600 * u.canBit n ≤ u.now) ∧
    (∃ (s : State) (dt : Ns) (c : Cmd) (fl : InFlight), let i := objNum c.object; let u := s.tick dt; isKind .can c.object = true ∧
      u.flight c = some fl ∧ fl.cancels ≠ [] ∧ (u.can i).bus = none) ∧
    (∃ (s : State) (dt : Ns) (c : Cmd) (n : Nat), let b := s.taken dt c; let u := s.tick dt; let fmt := c.arg 20 1 % 4; let l0 := c.arg 22 2;
      let len := if fmt = 3 then clampNat 1 2048 l0 else if fmt = 0 then min 8 l0 else min 64 l0;
      let w := b.descClamp c (clampWin c.object) 22 0 16 l0 len; ∃ k, k = u.ntime / (u.rd Reg.TM_CFG_REFPER n * 100000) ∧ u.tmSends n = true ∧
      (u.can n).tmLast < k ∧ ∃ (w : State), w = u.modCan n (fun x => { x with tmLast := k }) ∧ (w.can n).bus = none ∧ (w.can n).queue = [] ∧
      (w.can n).held < 32) :=
  ⟨⟨(canOn.has (cmd 0x4001 0x200 (2 ^ 40))), 0, (cmd 0x4001 0x200 (2 ^ 40)), by decide, by decide, by decide⟩,
  ⟨(canOn.has (cmd 0x4001 0x200)), 0, (cmd 0x4001 0x200), by decide, by decide, by decide, by decide, by decide⟩,
  ⟨(live.has (cmd 0x2011 0x200)), 0, (cmd 0x2011 0x200), by decide⟩,
  ⟨(live.has (cmd 0x2010 0x200)), 0, (cmd 0x2010 0x200), _, rfl, by decide, by decide, _, rfl⟩,
  ⟨(live.has (cmd 0x2010 0x200 5)), 0, (cmd 0x2010 0x200 5), _, rfl, by decide, by decide⟩,
  ⟨(canOn.modCan 0 (fun q => { q with rec_ := 5 })), 0, (cmd 0 3), 0, frm0, by decide, by decide, by decide, by decide, by decide, by decide, _, _,
    rfl, rfl⟩,
  ⟨((live.wr Reg.LIN_CFG_EN (0) 1).wr Reg.LIN_SLOT_TYPE 0 2), 0, 0, { id := 0, fmt := 4 }, by decide, by decide, by decide, by decide, by decide,
    by decide⟩,
  ⟨(canOn.modCan 0 (fun q => { q with bus := some (bus0 (.cmd (cmd 0 0x200))) })), 0, (cmd 0 3), 0, frm0, (bus0 (.cmd (cmd 0 0x200))), (cmd 0 0x200),
    by decide, by decide, by decide, rfl, by decide, _, _, rfl, rfl, rfl⟩,
  ⟨(canOn.modCan 0 (fun q => { q with bus := some (bus0 .ref) })), 0, (cmd 0 3), 0, frm0, (bus0 .ref), by decide, by decide, by decide, by decide,
    by decide, _, _, rfl, rfl, by decide⟩,
  ⟨(canOn.modCan 0 (fun q => { q with bus := some (bus0 (.cmd (cmd 0 0x200))) })), 0, 0, (bus0 (.cmd (cmd 0 0x200))), by decide, by decide⟩,
  ⟨live, 0, 0, (bus0 .ref), _, by decide, rfl⟩,
  ⟨canOn, 0, (cmd 0 3), 0, 0, 0, 0, (bus0 .ref), false, false, _, by decide, rfl, _, rfl, by decide⟩,
  ⟨(canOn.modCan 0 (fun q => { q with bus := some (bus0 .ref) })), 0, (cmd 0 3), 0, 0, 0, 0, (bus0 .ref), false, true, _, by decide, rfl, _, rfl,
    by decide, by decide⟩,
  ⟨(canOn.modCan 0 (fun q => { q with tec := 256 })), 0, 0, by decide, by decide, _, rfl⟩,
  ⟨(live.wr Reg.CAN_STAT_STATE (0) 2), 0, 0, by decide, by decide, by decide, by decide⟩,
  ⟨(canOn.onHost (fun q => { q with inflight := [{ cmd := cmd 0 0x200, cancels := [cmd 4 0] }] })), 0, (cmd 0 0x200),
    { cmd := cmd 0 0x200, cancels := [cmd 4 0] }, by decide, by decide, by decide, by decide⟩,
  ⟨(({ canOn with ntime := 10 ^ 15 }.wr Reg.TM_CFG_TMEN 0 1).pw (fun q => { q with timeSet := true })), 0, (cmd 0 3), 0, _, rfl, by decide, by decide,
    _, rfl, by decide, by decide, by decide⟩⟩

/-- Hypotheses of `Obligations.LinRows`. -/
theorem test_witness_LinRows :
    (∃ (s : State) (dt : Ns) (c : Cmd), let b := s.taken dt c; let i := objNum c.object; let len := clampNat 1 8 (c.arg 17 1);
      s.starts dt c 0x4001 [.lin] = true ∧ b.linOff i = none ∧ b.nmQuiet (16 + i) = false ∧ ∃ (w : State),
      w = b.descClamp c 0x18 17 0 8 (c.arg 17 1) len) ∧
    (∃ (s : State) (dt : Ns) (c : Cmd), let b := s.taken dt c; let i := objNum c.object; s.starts dt c 0x2012 [.lin] = true ∧ b.linOff i = none ∧
      b.linNotCom i = none ∧ (c.argBits 16 1 1 = 0 ∨ b.rd Reg.LIN_STAT_STATE i = 2)) ∧
    (∃ (s : State) (dt : Ns) (c : Cmd), let b := s.taken dt c; let i := objNum c.object; s.starts dt c 0x2012 [.lin] = true ∧ b.linOff i = none ∧
      b.linNotCom i = none ∧ c.argBits 16 1 1 = 1 ∧ b.rd Reg.LIN_STAT_STATE i ≠ 2) ∧
    (∃ (s : State) (dt : Ns) (c : Cmd), let b := s.taken dt c; let i := objNum c.object; s.starts dt c 0x2013 [.lin] = true ∧ b.linOff i = none ∧
      b.linNotCom i = none) ∧
    (∃ (s : State) (dt : Ns) (c : Cmd), let b := s.taken dt c; let i := objNum c.object; s.starts dt c 0x2014 [.lin] = true ∧ b.linOff i = none) ∧
    (∃ (s : State) (dt : Ns) (n : Nat) (k : Nat), let u := s.tick dt; n < 8 ∧ u.buses = true ∧ u.flag Reg.LIN_CFG_EN n = true ∧
      u.flag Reg.LIN_CFG_ROLE n = true ∧ u.nmQuiet (16 + n) = false ∧ u.rd Reg.LIN_STAT_STATE n = 2 ∧ (u.lin n).slotAt ≤ u.now ∧
      (u.lin n).req = none ∧ u.nextSlot n (u.rd Reg.LIN_STAT_TABLE n) 70 (u.rd Reg.LIN_STAT_SLOT n + 1) false = some k) ∧
    (∃ (s : State) (dt : Ns) (c : Cmd) (n : Nat) (k : Nat) (t : Nat), let u := s.tick dt; n < 8 ∧ u.buses = true ∧ u.flag Reg.LIN_CFG_EN n = true ∧
      u.flag Reg.LIN_CFG_ROLE n = true ∧ u.nmQuiet (16 + n) = false ∧ ∃ (w : State), (u.rd Reg.LIN_STAT_STATE n ≠ 2 ∨ (u.lin n).slotAt ≤ u.now) ∧
      (u.lin n).req = some (t, false, c) ∧ w = u.modLin n (fun x => { x with req := none, changed := u.ntime }) ∧ w.nextSlot n t 70 0 true = some k) ∧
    (∃ (s : State) (dt : Ns) (c : Cmd) (n : Nat) (t : Nat), let u := s.tick dt; n < 8 ∧ u.buses = true ∧ u.flag Reg.LIN_CFG_EN n = true ∧
      u.flag Reg.LIN_CFG_ROLE n = true ∧ u.nmQuiet (16 + n) = false ∧ u.rd Reg.LIN_STAT_STATE n = 2 ∧ (u.lin n).slotAt ≤ u.now ∧
      (u.lin n).req = some (t, true, c)) ∧
    (∃ (s : State) (dt : Ns) (n : Nat), let u := s.tick dt; n < 8 ∧ u.buses = true ∧ u.flag Reg.LIN_CFG_EN n = true ∧
      u.flag Reg.LIN_CFG_ROLE n = false ∧ u.nmSt (16 + n) ≠ 4) ∧
    (∃ (s : State) (dt : Ns) (n : Nat) (id : Nat), let u := s.tick dt; let v := (u.linCount n 0).lineSeen (16 + n); n < 8 ∧ u.buses = true ∧
      u.flag Reg.LIN_CFG_EN n = true ∧ u.flag Reg.LIN_CFG_ROLE n = false ∧ u.nmSt (16 + n) ≠ 4 ∧ v.rd Reg.LIN_SLOT_TYPE (64 * n + id % 64) = 1 ∧
      v.nmQuiet (16 + n) = false) :=
  ⟨⟨(((live.wr Reg.LIN_CFG_EN 1 1).wr Reg.LIN_CFG_ROLE 1 1).has (cmd 0x4001 0x211)), 0, (cmd 0x4001 0x211), by decide, by decide, by decide, _, rfl⟩,
  ⟨(((live.wr Reg.LIN_CFG_EN 1 1).wr Reg.LIN_CFG_ROLE 1 1).has (cmd 0x2012 0x211)), 0, (cmd 0x2012 0x211), by decide, by decide, by decide,
    by decide⟩,
  ⟨(((live.wr Reg.LIN_CFG_EN 1 1).wr Reg.LIN_CFG_ROLE 1 1).has (cmd 0x2012 0x211 2)), 0, (cmd 0x2012 0x211 2), by decide, by decide, by decide,
    by decide, by decide⟩,
  ⟨(((live.wr Reg.LIN_CFG_EN 1 1).wr Reg.LIN_CFG_ROLE 1 1).has (cmd 0x2013 0x211)), 0, (cmd 0x2013 0x211), by decide, by decide, by decide⟩,
  ⟨(((live.wr Reg.LIN_CFG_EN 1 1).wr Reg.LIN_CFG_ROLE 1 1).has (cmd 0x2014 0x211)), 0, (cmd 0x2014 0x211), by decide, by decide⟩,
  ⟨((((live.wr Reg.LIN_CFG_EN (0) 1).wr Reg.LIN_CFG_ROLE (0) 1).wr Reg.LIN_STAT_STATE (0) 2).wr Reg.LIN_SLOT_TYPE 1 1), 0, 0, 1, by decide, by decide,
    by decide, by decide, by decide, by decide, by decide, by decide, by decide⟩,
  ⟨((((live.wr Reg.LIN_CFG_EN (0) 1).wr Reg.LIN_CFG_ROLE (0) 1).wr Reg.LIN_SLOT_TYPE 0 1).modLin 0 (fun q => { q with req := some (0, false, (cmd 0 0x210)) })),
    0, (cmd 0 0x210), 0, 0, 0, by decide, by decide, by decide, by decide, by decide, _, by decide, by decide, rfl, by decide⟩,
  ⟨((((live.wr Reg.LIN_CFG_EN (0) 1).wr Reg.LIN_CFG_ROLE (0) 1).wr Reg.LIN_STAT_STATE (0) 2).modLin 0 (fun q => { q with req := some (0, true, cmd 0 3) })),
    0, (cmd 0 3), 0, 0, by decide, by decide, by decide, by decide, by decide, by decide, by decide, by decide⟩,
  ⟨((live.wr Reg.LIN_CFG_EN (0) 1).wr Reg.LIN_CFG_ROLE (0) 0), 0, 0, by decide, by decide, by decide, by decide, by decide⟩,
  ⟨(((live.wr Reg.LIN_CFG_EN (0) 1).wr Reg.LIN_CFG_ROLE (0) 0).wr Reg.LIN_SLOT_TYPE 0 1), 0, 0, 0, by decide, by decide, by decide, by decide,
    by decide, by decide, by decide⟩⟩

/-- Hypotheses of `Obligations.EthernetRows`. -/
theorem test_witness_EthernetRows :
    (∃ (s : State) (dt : Ns) (p : Nat), let u := s.tick dt; p < 10 ∧ u.buses = true ∧ u.flag Reg.ETH_PCFG_EN p = true ∧
      u.flag Reg.ETH_STAT_LINK p = true ∧ u.nmSt (24 + p) ≠ 4) ∧
    (∃ (s : State) (dt : Ns) (p : Nat) (bs : List Byte), let u := s.tick dt; let y := u.lineSeen (24 + p); p < 10 ∧ u.buses = true ∧
      u.flag Reg.ETH_PCFG_EN p = true ∧ u.flag Reg.ETH_STAT_LINK p = true ∧ u.nmSt (24 + p) ≠ 4 ∧ y.rd Reg.ETH_PCFG_MAXFRM p < bs.length + 4) ∧
    (∃ (s : State) (dt : Ns) (p : Nat) (bs : List Byte), let u := s.tick dt; let y := u.lineSeen (24 + p); p < 10 ∧ u.buses = true ∧
      u.flag Reg.ETH_PCFG_EN p = true ∧ u.flag Reg.ETH_STAT_LINK p = true ∧ u.nmSt (24 + p) ≠ 4 ∧ bs.length + 4 ≤ y.rd Reg.ETH_PCFG_MAXFRM p ∧
      60 ≤ bs.length ∧ y.cellsFor (24 + p) (cells (y.rd Reg.ETH_PCFG_MAXFRM p)) = none) ∧
    (∃ (s : State) (dt : Ns) (p : Nat) (bs : List Byte) (f : EthFrame), let u := s.tick dt; let y := u.lineSeen (24 + p); p < 10 ∧ u.buses = true ∧
      u.flag Reg.ETH_PCFG_EN p = true ∧ u.flag Reg.ETH_STAT_LINK p = true ∧ u.nmSt (24 + p) ≠ 4 ∧ bs.length + 4 ≤ y.rd Reg.ETH_PCFG_MAXFRM p ∧
      60 ≤ bs.length ∧ (y.cellsFor (24 + p) (cells (y.rd Reg.ETH_PCFG_MAXFRM p))).isSome = true ∧ f = parseEth bs ∧
      ∃ (v : State) (w : State) (host : Bool), v = y.bump Reg.ETH_TRAF_RXFR p ∧
      w = (v.modPort p fun x => { x with counts := bumpT x.counts 0 }).learn p (v.tciOf (24 + p) f % 4096) f.sa ∧
      host = (f.da == w.hostMac || f.da == broadcast || w.flag Reg.RXQ_CFG_ALL (24 + p)) ∧ w.lookup (0x20 + p) (w.keysOf (24 + p) (.eth f)) = none) ∧
    (∃ (s : State) (dt : Ns) (p : Nat) (e : Nat) (bs : List Byte) (f : EthFrame), let u := s.tick dt; let y := u.lineSeen (24 + p); p < 10 ∧
      u.buses = true ∧ u.flag Reg.ETH_PCFG_EN p = true ∧ u.flag Reg.ETH_STAT_LINK p = true ∧ u.nmSt (24 + p) ≠ 4 ∧
      bs.length + 4 ≤ y.rd Reg.ETH_PCFG_MAXFRM p ∧ 60 ≤ bs.length ∧ (y.cellsFor (24 + p) (cells (y.rd Reg.ETH_PCFG_MAXFRM p))).isSome = true ∧
      f = parseEth bs ∧ ∃ (v : State) (w : State) (host : Bool), v = y.bump Reg.ETH_TRAF_RXFR p ∧
      w = (v.modPort p fun x => { x with counts := bumpT x.counts 0 }).learn p (v.tciOf (24 + p) f % 4096) f.sa ∧
      host = (f.da == w.hostMac || f.da == broadcast || w.flag Reg.RXQ_CFG_ALL (24 + p)) ∧ w.lookup (0x20 + p) (w.keysOf (24 + p) (.eth f)) = some e) ∧
    (∃ (g : Nat), g < 16) ∧
    (∃ (g : Nat), 24 ≤ g ∧ g < 34) ∧
    (∃ (s : State) (dt : Ns) (p : Nat) (x : OnBus), let u := s.tick dt; (u.port p).line = some x) ∧
    (∃ (s : State) (dt : Ns) (c : Cmd) (rcd : List Byte) (sn : Nat) (f : EthFrame), let b := s.taken dt c; let i := objNum c.object;
      let len := c.arg 24 2; ∃ (v : State) (w : State), s.starts dt c 0x4001 [.eth] = true ∧ len ≤ b.rd Reg.ETH_PCFG_MAXFRM i - 4 ∧
      b.nmQuiet (24 + i) = false ∧ b.flag Reg.ETH_STAT_LINK i = true ∧ b.hostFrames i < 64 ∧ c.arg 16 8 % 8 = 0 ∧
      b.dma c.pf (c.arg 16 8) (8 + len) = (v, true) ∧ ∃ (q : Nat) (ts : Stamp), q = ofLe ((List.range 8).map fun k => rcd.getD k 0 % 256) ∧
      ts = (if q = 0 then ⟨v.now, v.ntime⟩ else ⟨v.now - (v.ntime - q), q⟩) ∧
      f = parseEth ((List.range (max 60 len)).map fun k => if k < len then rcd.getD (8 + k) 0 % 256 else 0) ∧
      v.lookup hostIngress (v.keysOf 34 (.eth f)) = none ∧ v.storeFrame hostClient f.len f.len 1 (some c) = (w, some sn) ∧ ∃ z,
      z = w.portPush i { ord := 0, frm := .cmd c, body := .eth f, stamp := some ts, limit := if q = 0 then none else some (c.arg 28 2 * 100000), tc := c.argBits 26 0 3, sn } f.len) ∧
    (∃ (s : State) (dt : Ns) (c : Cmd) (rcd : List Byte) (e : Nat) (f : EthFrame), let b := s.taken dt c; let i := objNum c.object;
      let len := c.arg 24 2; ∃ (v : State), s.starts dt c 0x4001 [.eth] = true ∧ len ≤ b.rd Reg.ETH_PCFG_MAXFRM i - 4 ∧ b.nmQuiet (24 + i) = false ∧
      b.flag Reg.ETH_STAT_LINK i = true ∧ b.hostFrames i < 64 ∧ c.arg 16 8 % 8 = 0 ∧ b.dma c.pf (c.arg 16 8) (8 + len) = (v, true) ∧
      ∃ (q : Nat) (ts : Stamp), q = ofLe ((List.range 8).map fun k => rcd.getD k 0 % 256) ∧ ts = (if q = 0 then ⟨v.now,
      v.ntime⟩ else ⟨v.now - (v.ntime - q), q⟩) ∧
      f = parseEth ((List.range (max 60 len)).map fun k => if k < len then rcd.getD (8 + k) 0 % 256 else 0) ∧
      v.lookup hostIngress (v.keysOf 34 (.eth f)) = some e ∧ ∃ m, m = (v.noteMatch e).meter e ∧ m.2 = false) ∧
    (∃ (s : State) (dt : Ns) (c : Cmd) (rcd : List Byte) (e : Nat) (f : EthFrame), let b := s.taken dt c; let i := objNum c.object;
      let len := c.arg 24 2; ∃ (v : State), s.starts dt c 0x4001 [.eth] = true ∧ len ≤ b.rd Reg.ETH_PCFG_MAXFRM i - 4 ∧ b.nmQuiet (24 + i) = false ∧
      b.flag Reg.ETH_STAT_LINK i = true ∧ b.hostFrames i < 64 ∧ c.arg 16 8 % 8 = 0 ∧ b.dma c.pf (c.arg 16 8) (8 + len) = (v, true) ∧
      ∃ (q : Nat) (ts : Stamp), q = ofLe ((List.range 8).map fun k => rcd.getD k 0 % 256) ∧ ts = (if q = 0 then ⟨v.now,
      v.ntime⟩ else ⟨v.now - (v.ntime - q), q⟩) ∧
      f = parseEth ((List.range (max 60 len)).map fun k => if k < len then rcd.getD (8 + k) 0 % 256 else 0) ∧
      v.lookup hostIngress (v.keysOf 34 (.eth f)) = some e ∧ ∃ m, m = (v.noteMatch e).meter e ∧ m.2 = true ∧ ∃ z,
      z = (m.1.wakeRoles e 34 0).sample e { body := .eth f, stamp := ts }) ∧
    (∃ (s : State) (dt : Ns) (p : Nat), let u := s.tick dt; p < 10 ∧ u.dieC = true ∧ u.flag Reg.QBV_CFG_EN p = true) ∧
    (∃ (s : State) (dt : Ns), let u := s.tick dt; ∃ l, l = u.net.macs.filter (fun x => decide (u.now < x.at_ + u.rd Reg.ETH_GCFG_AGE * 1000000000))) ∧
    (∃ (s : State) (dt : Ns) (p : Nat) (sqi : Nat) (up : Bool), let u := s.tick dt; p < 10 ∧ u.buses = true ∧ u.flag Reg.ETH_PCFG_EN p = true ∧
      u.flag Reg.ETH_STAT_LINK p ≠ up ∧ ∃ (v : State) (w : State),
      v = ((u.wrb Reg.ETH_STAT_LINK p up).wr Reg.ETH_STAT_SQI p (min 7 sqi)).bump Reg.ETH_STAT_LINKCHG p ∧
      w = (v.modPort p fun x => { x with changed := v.ntime }).raise 0x1981 (0x220 + p) (atByte 16 (b2n up) + atByte 17 (min 7 sqi)) ∧
      (up = false ∨ w.nmSt (24 + p) ≠ 1)) ∧
    (∃ (s : State) (dt : Ns) (p : Nat) (sqi : Nat) (up : Bool), let u := s.tick dt; p < 10 ∧ u.buses = true ∧ u.flag Reg.ETH_PCFG_EN p = true ∧
      u.flag Reg.ETH_STAT_LINK p ≠ up ∧ ∃ (v : State) (w : State),
      v = ((u.wrb Reg.ETH_STAT_LINK p up).wr Reg.ETH_STAT_SQI p (min 7 sqi)).bump Reg.ETH_STAT_LINKCHG p ∧
      w = (v.modPort p fun x => { x with changed := v.ntime }).raise 0x1981 (0x220 + p) (atByte 16 (b2n up) + atByte 17 (min 7 sqi)) ∧ up = true ∧
      w.nmSt (24 + p) = 1) :=
  ⟨⟨((live.wr Reg.ETH_PCFG_EN (0) 1).wr Reg.ETH_STAT_LINK (0) 1), 0, 0, by decide, by decide, by decide, by decide, by decide⟩,
  ⟨(((live.wr Reg.ETH_PCFG_EN (0) 1).wr Reg.ETH_STAT_LINK (0) 1).wr Reg.ETH_PCFG_MAXFRM 0 0), 0, 0, [], by decide, by decide, by decide, by decide,
    by decide, by decide⟩,
  ⟨((((live.wr Reg.ETH_PCFG_EN (0) 1).wr Reg.ETH_STAT_LINK (0) 1).wr Reg.ETH_RSV_SHMAX 0 0).wr Reg.ETH_RSV_PRSV 0 0), 0, 0, (List.replicate 60 0),
    by decide, by decide, by decide, by decide, by decide, by decide, by decide, by decide⟩,
  ⟨((live.wr Reg.ETH_PCFG_EN (0) 1).wr Reg.ETH_STAT_LINK (0) 1), 0, 0, (List.replicate 60 0), _, by decide, by decide, by decide, by decide,
    by decide, by decide, by decide, by decide, rfl, _, _, _, rfl, rfl, rfl, by decide⟩,
  ⟨(((live.wr Reg.ETH_PCFG_EN (0) 1).wr Reg.ETH_STAT_LINK (0) 1).modFit 0 (fun q => { q with word := 8211 })), 0, 0, 0, (List.replicate 60 0), _,
    by decide, by decide, by decide, by decide, by decide, by decide, by decide, by decide, rfl, _, _, _, rfl, rfl, rfl, by decide⟩,
  ⟨0, by decide⟩,
  ⟨24, by decide, by decide⟩,
  ⟨(live.modPort 0 (fun q => { q with line := some (bus0 .oob) })), 0, 0, (bus0 .oob), by decide⟩,
  ⟨((live.wr Reg.ETH_STAT_LINK ((objNum (cmd 0x4001 0x221).object)) 1).has (cmd 0x4001 0x221)), 0, (cmd 0x4001 0x221), [], 1, _, _, _, by decide,
    by decide, by decide, by decide, by decide, by decide, rfl, _, _, rfl, rfl, rfl, by decide, Prod.ext rfl (by decide), _, rfl⟩,
  ⟨(((live.wr Reg.ETH_STAT_LINK ((objNum (cmd 0x4001 0x221).object)) 1).modFit 0 (fun q => { q with word := 12307 + 2 ^ 224 * 2 ^ 224 })).has (cmd 0x4001 0x221)),
    0, (cmd 0x4001 0x221), [], 0, _, _, by decide, by decide, by decide, by decide, by decide, by decide, Prod.ext rfl (by decide), _, _, rfl, rfl,
    rfl, by decide, _, rfl, by decide⟩,
  ⟨(((live.wr Reg.ETH_STAT_LINK ((objNum (cmd 0x4001 0x221).object)) 1).modFit 0 (fun q => { q with word := 12307 })).has (cmd 0x4001 0x221)), 0,
    (cmd 0x4001 0x221), [], 0, _, _, by decide, by decide, by decide, by decide, by decide, by decide, Prod.ext rfl (by decide), _, _, rfl, rfl, rfl,
    by decide, _, rfl, by decide, _, rfl⟩,
  ⟨(live.wr Reg.QBV_CFG_EN (0) 1), 0, 0, by decide, by decide, by decide⟩,
  ⟨live, 0, _, rfl⟩,
  ⟨((live.wr Reg.ETH_PCFG_EN 0 1).wr Reg.ETH_STAT_LINK 0 1), 0, 0, 0, false, by decide, by decide, by decide, by decide, _, _, rfl, rfl, .inl rfl⟩,
  ⟨((live.wr Reg.ETH_PCFG_EN 0 1).wr Reg.NM_STAT_STATE 24 1), 0, 0, 0, true, by decide, by decide, by decide, by decide, _, _, rfl, rfl, by decide,
    by decide⟩⟩

/-- Hypotheses of `Obligations.FreshnessRows`. -/
theorem test_witness_FreshnessRows :
    (∃ (s : State) (dt : Nat) (e : Nat) (v : Value), let u := s.tick dt; let per := u.fitPeriod e * 1000000; let off := e * 10000; let x := u.fit e;
      ∃ (w : State), u.dieC = true ∧ u.fitBits e 0 4 1 = 1 ∧ per ≠ 0 ∧ off ≤ u.ntime ∧ x.sent < (u.ntime - off) / per * per + off ∧
      w = u.modFit e (fun x => { x with sent := (u.ntime - off) / per * per + off }) ∧ w.fitKind e ≠ 5 ∧ (w.fit e).value = some v ∧ ∃ g,
      g = w.fitBits e 1 0 8) ∧
    (∃ (s : State) (dt : Nat) (e : Nat) (b : Body), let u := s.tick dt; let per := u.fitPeriod e * 1000000; let off := e * 10000; let x := u.fit e;
      ∃ (w : State), u.dieC = true ∧ u.fitBits e 0 4 1 = 1 ∧ per ≠ 0 ∧ off ≤ u.ntime ∧ x.sent < (u.ntime - off) / per * per + off ∧
      w = u.modFit e (fun x => { x with sent := (u.ntime - off) / per * per + off }) ∧ w.fitKind e = 5 ∧
      b = .bus { id := 0, fmt := 0, data := w.published e } ∧ ∃ t, t = (if w.srcFld e = 0 ∨ w.srcFld e = 3 then w.entryStamp e else w.srcStamp e)) ∧
    (∃ (s : State) (dt : Nat) (e : Nat), let u := s.tick dt; let x := u.fit e; u.dieC = true ∧ u.fitBits e 0 4 1 = 1 ∧ e ∉ u.net.wd ∧ (∀ x,
      u.entryStamp e = some x → x.at_ + u.fitDeadline e < u.now) ∧ ∃ (w : State), w = { u with net := { u.net with wd := e :: u.net.wd } } ∧
      w.fitEven e = false) ∧
    (∃ (s : State) (dt : Nat) (e : Nat), let u := s.tick dt; let x := u.fit e; u.dieC = true ∧ u.fitBits e 0 4 1 = 1 ∧ e ∉ u.net.wd ∧ (∀ x,
      u.entryStamp e = some x → x.at_ + u.fitDeadline e < u.now) ∧ ∃ (w : State), w = { u with net := { u.net with wd := e :: u.net.wd } } ∧
      w.fitEven e = true) ∧
    (∃ (s : State) (dt : Nat) (e : Nat) (p : Nat) (t0 : Ns) (t2 : Ns), let u := s.tick dt; let lat := u.rd Reg.CB_CFG_LATENT * 1000000;
      let x := u.fit e; p < 2 ∧ u.dieC = true ∧ u.fitRtag e = true ∧ (if p = 0 then x.lastE.2 else x.lastE.1) = some t2 ∧
      t0 = (match (if p = 0 then x.lastE.1 else x.lastE.2) with | some t => t | none => x.startAt) ∧ t0 < t2 ∧ u.now < t2 + lat ∧ t0 + lat ≤ u.now ∧
      (if p = 0 then x.silent.1 else x.silent.2) = false) :=
  ⟨⟨(live.modFit 0 (fun q => { q with word := 16 + 2 ^ 192 * 2 ^ 192, value := some { body := .bus frm0, stamp := ⟨0, 0⟩ } })), 0, 0,
    { body := .bus frm0, stamp := ⟨0, 0⟩ }, _, by decide, by decide, by decide, by decide, by decide, rfl, by decide, by decide, _, rfl⟩,
  ⟨(live.modFit 0 (fun q => { q with word := 21 + 2 ^ 192 * 2 ^ 192 })), 0, 0, _, _, by decide, by decide, by decide, by decide, by decide, rfl,
    by decide, rfl, _, rfl⟩,
  ⟨(live.modFit 0 (fun q => { q with word := 16 })), 0, 0, by decide, by decide, by decide, (by intro x h; cases h), _, rfl, by decide⟩,
  ⟨(live.modFit 0 (fun q => { q with word := 48 })), 0, 0, by decide, by decide, by decide, (by intro x h; cases h), _, rfl, by decide⟩,
  ⟨(live.modFit 0 (fun q => { q with word := 2 ^ 20, lastE := (some 0, some (10 ^ 12)) })), 0, 0, 0, _, (10 ^ 12), by decide, by decide, by decide,
    by decide, rfl, by decide, by decide, by decide, by decide⟩⟩

/-- Hypotheses of `Obligations.GptpRows`. -/
theorem test_witness_GptpRows :
    (∃ (s : State) (dt : Nat) (ofs : Nat), let u := s.tick dt; let o := sgn 64 ofs;
      let v := u.wr Reg.GPTP_OFS 0 (unsgn 32 (clampInt (-2147483648) 2147483647 o)); u.buses = true ∧ u.rd Reg.GPTP_CFG_ROLE = 2 ∧ 1000 < o.natAbs ∧
      ∃ (w : State),
      w = ({ v.bump Reg.GPTP_STAT_STEPS 0 with ntime := unsgn 64 ((v.ntime : Int) - o) } : State).timeJump.raise 0x198A 0xFFFF (atByte 24 (unsgn 64 (-o)))) ∧
    (∃ (s : State) (dt : Nat) (ofs : Nat), let u := s.tick dt; let o := sgn 64 ofs;
      let v := u.wr Reg.GPTP_OFS 0 (unsgn 32 (clampInt (-2147483648) 2147483647 o)); u.buses = true ∧ u.rd Reg.GPTP_CFG_ROLE = 2 ∧ o.natAbs ≤ 100 ∧
      ∃ (w : State),
      w = ({ v with ntime := unsgn 64 ((v.ntime : Int) - clampInt (-1000) 1000 (Config.slew o)), net := { v.net with syncOk := min 8 (v.net.syncOk + 1), syncAt := v.now } } : State) ∧
      v.net.syncOk < 7) ∧
    (∃ (s : State) (dt : Nat) (ofs : Nat), let u := s.tick dt; let o := sgn 64 ofs;
      let v := u.wr Reg.GPTP_OFS 0 (unsgn 32 (clampInt (-2147483648) 2147483647 o)); u.buses = true ∧ u.rd Reg.GPTP_CFG_ROLE = 2 ∧ o.natAbs ≤ 100 ∧
      ∃ (w : State),
      w = ({ v with ntime := unsgn 64 ((v.ntime : Int) - clampInt (-1000) 1000 (Config.slew o)), net := { v.net with syncOk := min 8 (v.net.syncOk + 1), syncAt := v.now } } : State) ∧
      7 ≤ v.net.syncOk) ∧
    (∃ (s : State) (dt : Nat), let u := s.tick dt; u.dieC = true ∧ u.rd Reg.GPTP_CFG_ROLE = 2 ∧
      (u.rd Reg.GPTP_STAT_STATE = 1 ∨ u.rd Reg.GPTP_STAT_STATE = 2) ∧ u.net.syncAt + 3 * u.syncNs ≤ u.now ∧ ∃ (w : State),
      w = ({ u.gptpTo 3 with net := { u.net with syncOk := 0 } } : State)) ∧
    (∃ (s : State) (dt : Nat), let u := s.tick dt; u.buses = true ∧ u.rd Reg.GPTP_CFG_ROLE = 1 ∧ u.pwr.timeSet = true ∧
      u.net.syncAt + u.syncNs ≤ u.now ∧ ∃ (w : State), w = ({ u with net := { u.net with syncAt := u.now } } : State)) :=
  ⟨⟨(live.wr Reg.GPTP_CFG_ROLE (0) 2), 0, 2000, by decide, by decide, by decide, _, rfl⟩,
  ⟨(live.wr Reg.GPTP_CFG_ROLE (0) 2), 0, 0, by decide, by decide, by decide, _, rfl, by decide⟩,
  ⟨((live.wr Reg.GPTP_CFG_ROLE (0) 2).onNet (fun q => { q with syncOk := 7 })), 0, 0, by decide, by decide, by decide, _, rfl, by decide⟩,
  ⟨((live.wr Reg.GPTP_CFG_ROLE (0) 2).wr Reg.GPTP_STAT_STATE (0) 1), 0, by decide, by decide, by decide, by decide, _, rfl⟩,
  ⟨((live.wr Reg.GPTP_CFG_ROLE (0) 1).pw (fun q => { q with timeSet := true })), 0, by decide, by decide, by decide, by decide, _, rfl⟩⟩

/-- Hypotheses of `Obligations.NetworkSleepRows`. -/
theorem test_witness_NetworkSleepRows :
    (∃ (s : State) (dt : Ns) (c : Cmd), let b := s.taken dt c; let i := objSeg c.object; s.starts dt c 0x2015 [.can, .lin, .eth] = true ∧
      b.nmOffBar i = none ∧ ∃ (v : State),
      v = ((((b.begin c).wr Reg.NM_STAT_HOSTNEED i 1).modSeg i fun x => { x with holdAt := none, needs := x.needs ++ [c] }).nmNeed i)) ∧
    (∃ (s : State) (dt : Ns) (c : Cmd), let b := s.taken dt c; let i := objSeg c.object; s.starts dt c 0x2016 [.can, .lin, .eth] = true ∧
      b.nmOffBar i = none) ∧
    (∃ (s : State) (dt : Ns) (g : Nat), let u := s.tick dt; u.segLive g = true ∧ u.nmSt g = 1 ∧ (g < 16 ∨ 24 ≤ g) ∧ (u.seg g).kaAt ≤ u.now) ∧
    (∃ (s : State) (dt : Ns) (g : Nat), let u := s.tick dt; u.segLive g = true ∧ u.nmSt g = 2 ∧ (g < 16 ∨ 24 ≤ g) ∧ (u.seg g).tkaAt ≤ u.now) ∧
    (∃ (s : State) (dt : Ns) (g : Nat), let u := s.tick dt; u.segLive g = true ∧ u.nmSt g = 3 ∧ (u.seg g).prepAt ≤ u.now) ∧
    (∃ (s : State) (dt : Ns) (g : Nat) (t : Ns), let u := s.tick dt; u.segLive g = true ∧ u.flag Reg.NM_STAT_HOSTNEED g = true ∧
      (u.seg g).holdAt = some t ∧ t ≤ u.now) ∧
    (∃ (s : State) (dt : Ns) (g : Nat), let u := s.tick dt; u.segLive g = true ∧ u.flag Reg.NM_STAT_FWDNEED g = true ∧ (u.seg g).fwdAt ≤ u.now ∧
      u.relHold g = false) ∧
    (∃ (s : State) (dt : Ns) (g : Nat), let u := s.tick dt; u.segLive g = true ∧
      max (u.seg g).busAt (u.seg g).idleAt + u.rd Reg.NM_GCFG_TFSIDLE * 97000000 ≤ u.now ∧ (u.nmSt g = 1 ∨ u.nmSt g = 2 ∨ u.nmSt g = 3)) ∧
    (∃ (s : State) (dt : Ns) (g : Nat), let u := s.tick dt; u.segLive g = true ∧
      max (u.seg g).busAt (u.seg g).idleAt + u.rd Reg.NM_GCFG_TFSIDLE * 97000000 ≤ u.now ∧ u.nmSt g = 3) ∧
    (∃ (s : State) (dt : Ns) (g : Nat), let u := s.tick dt; u.segLive g = true ∧
      max (u.seg g).busAt (u.seg g).idleAt + u.rd Reg.NM_GCFG_TFSIDLE * 97000000 ≤ u.now ∧ (u.nmSt g = 1 ∨ u.nmSt g = 2)) ∧
    (∃ (s : State) (dt : Ns) (g : Nat) (t : Ns), let u := s.tick dt; u.segLive g = true ∧ (u.seg g).fsAt = some t ∧
      t + u.rd Reg.NM_GCFG_TFS * 1000000 ≤ u.now) ∧
    (∃ (s : State) (dt : Ns) (g : Nat), let u := s.tick dt; ∃ per q, per = u.rd Reg.NM_GCFG_STUCKT * 1000000000 ∧ u.segLive g = true ∧ per ≠ 0 ∧
      (u.nmSt g = 2 ∨ u.nmSt g = 3) ∧ (u.seg g).stuckAt + per ≤ u.now ∧ ∃ (v : State),
      v = (u.charge g).modSeg g (fun x => { x with stuckAt := x.stuckAt + per }) ∧ q = v.rd Reg.NM_STAT_KEEPER g ∧ ∃ r,
      r = (match (v.seg g).nodes.find? fun p => p.2.nid == q with | some p => p.2 | none => { nid := q })) ∧
    (∃ (s : State) (dt : Ns) (n : Nat), let u := s.tick dt; n < 8 ∧ u.dieC = true ∧ u.flag Reg.LIN_CFG_EN n = true ∧
      u.flag Reg.LIN_CFG_ROLE n = false ∧ u.rd Reg.LIN_STAT_STATE n ≠ 3 ∧ u.nmSt (16 + n) ≠ 1 ∧ (u.seg (16 + n)).busAt + 4000000000 ≤ u.now) ∧
    (∃ (s : State) (dt : Ns) (g : Nat) (k : Nat) (sign : BusSign), let u := s.tick dt; u.detects g = true ∧ (u.senses g sign).1 = some k) :=
  ⟨⟨((live.wr Reg.NM_CFG_EN 0 1).has (cmd 0x2015 0x200)), 0, (cmd 0x2015 0x200), by decide, by decide, _, rfl⟩,
  ⟨((live.wr Reg.NM_CFG_EN 0 1).has (cmd 0x2016 0x200)), 0, (cmd 0x2016 0x200), by decide, by decide⟩,
  ⟨(live.wr Reg.NM_STAT_STATE 0 1), 0, 0, by decide, by decide, by decide, by decide⟩,
  ⟨(live.wr Reg.NM_STAT_STATE 0 2), 0, 0, by decide, by decide, by decide, by decide⟩,
  ⟨(live.wr Reg.NM_STAT_STATE 0 3), 0, 0, by decide, by decide, by decide⟩,
  ⟨((live.wr Reg.NM_STAT_HOSTNEED 0 1).modSeg 0 (fun q => { q with holdAt := some 0 })), 0, 0, 0, by decide, by decide, by decide, by decide⟩,
  ⟨(live.wr Reg.NM_STAT_FWDNEED (0) 1), 0, 0, by decide, by decide, by decide, by decide⟩,
  ⟨(live.wr Reg.NM_STAT_STATE 0 1), 0, 0, by decide, by decide, by decide⟩,
  ⟨(live.wr Reg.NM_STAT_STATE 0 3), 0, 0, by decide, by decide, by decide⟩,
  ⟨(live.wr Reg.NM_STAT_STATE 0 1), 0, 0, by decide, by decide, by decide⟩,
  ⟨(live.modSeg 0 (fun q => { q with fsAt := some 0 })), 0, 0, 0, by decide, by decide, by decide⟩,
  ⟨(live.wr Reg.NM_STAT_STATE 0 2), 0, 0, _, _, rfl, by decide, by decide, by decide, by decide, _, rfl, rfl, _, rfl⟩,
  ⟨((live.wr Reg.LIN_CFG_EN (0) 1).wr Reg.LIN_CFG_ROLE (0) 0), 0, 0, by decide, by decide, by decide, by decide, by decide, by decide, by decide⟩,
  ⟨((live.wr Reg.NM_STAT_STATE 0 4).modSeg 0 (fun q => { q with armed := true })), 0, 0, 0, (.pattern 1000 5000), by decide, by decide⟩⟩

/-- Hypotheses of `Obligations.TwinPairing`. -/
theorem test_witness_TwinPairing :
    (∃ (s : State) (dt : Ns) (c : Cmd), let b := s.taken dt c; s.starts dt c 0x2020 [.twin] = true ∧ ∃ (v : State),
      v = (b.begin c).wr Reg.TW_CFG_EN 0 1 ∧ (v.twSt = 3 ∨ v.twSt = 4)) ∧
    (∃ (s : State) (dt : Ns) (c : Cmd), let b := s.taken dt c; s.starts dt c 0x2020 [.twin] = true ∧ ∃ (v : State),
      v = (b.begin c).wr Reg.TW_CFG_EN 0 1 ∧ (v.tw fun t => { t with joins := t.joins ++ [(c, v.now)] }).twSt ≠ 0 ∧ v.twSt ≠ 3 ∧ v.twSt ≠ 4) ∧
    (∃ (s : State) (dt : Ns) (c : Cmd), let b := s.taken dt c; s.starts dt c 0x2020 [.twin] = true ∧ ∃ (v : State),
      v = (b.begin c).wr Reg.TW_CFG_EN 0 1 ∧ (v.tw fun t => { t with joins := t.joins ++ [(c, v.now)] }).twSt = 0 ∧ v.twSt ≠ 3 ∧ v.twSt ≠ 4) ∧
    (∃ (s : State) (dt : Ns) (c : Cmd), let u := s.tick dt; ∃ t0, u.twin.joins = [(c, t0)] ∧ t0 + 100000000 ≤ u.now) ∧
    (∃ (s : State) (dt : Ns) (c : Cmd), let b := s.taken dt c; s.starts dt c 0x2021 [.twin] = true ∧ (b.begin c).twSt = 0) ∧
    (∃ (s : State) (dt : Ns) (c : Cmd), let b := s.taken dt c; s.starts dt c 0x2021 [.twin] = true ∧ (b.begin c).twSt ≠ 0) ∧
    (∃ (s : State) (dt : Ns) (rival : Option (Bool × Nat)), let u := s.tick dt; u.twLive = true ∧ u.twSt = 1 ∧ u.twin.peerRole = false ∧
      u.twin.claimAt + u.claimDelay ≤ u.now ∧ (rival = none ∨ u.twAlone.reedUp = false)) ∧
    (∃ (s : State) (dt : Ns) (rival : Option (Bool × Nat)), let u := s.tick dt; u.twLive = true ∧ u.twSt = 1 ∧ u.twin.peerRole = false ∧
      u.twin.claimAt + u.claimDelay ≤ u.now ∧ ∃ p n, rival = some (p, n) ∧ u.twAlone.reedUp = true ∧
      ((u.twAlone.flag Reg.TW_CFG_PREF && !p) || (u.twAlone.flag Reg.TW_CFG_PREF == p && decide (u.twAlone.nv.serial < n))) = true) ∧
    (∃ (s : State) (dt : Ns) (rival : Option (Bool × Nat)), let u := s.tick dt; u.twLive = true ∧ u.twSt = 1 ∧ u.twin.peerRole = false ∧
      u.twin.claimAt + u.claimDelay ≤ u.now ∧ ∃ p n, rival = some (p, n) ∧ u.twAlone.reedUp = true ∧
      ((u.twAlone.flag Reg.TW_CFG_PREF && !p) || (u.twAlone.flag Reg.TW_CFG_PREF == p && decide (u.twAlone.nv.serial < n))) = false) ∧
    (∃ (s : State) (dt : Ns), let u := s.tick dt; u.dieC = true ∧ (u.peerLines true u.twin.peerOk).twSt = 1) ∧
    (∃ (s : State) (dt : Ns), let u := s.tick dt; ∃ (v : State), u.dieC = true ∧ (u.peerLines u.twin.peerRole true).reedUp = true ∧
      v = (u.peerLines u.twin.peerRole true).tw (fun t => { t with hbeat := true }) ∧ v.twSt = 5) ∧
    (∃ (s : State) (dt : Ns), let u := s.tick dt; u.twLive = true ∧ u.twin.beats = true ∧ u.twin.beatAt + 4900 ≤ u.now ∧ ∃ (v : State),
      v = u.reed (.heartbeat u.twRole u.twSt (u.twin.cycle % 65536))) ∧
    (∃ (s : State) (dt : Ns) (role : Bool) (ok : Bool), let u := s.tick dt; ∃ (v : State), u.twLive = true ∧ (u.twSt = 3 ∨ u.twSt = 4) ∧
      v = (u.tw fun t => { t with hbeat := false }).peerLines role ok) ∧
    (∃ (s : State) (dt : Ns) (role : Bool) (ok : Bool), let u := s.tick dt; ∃ (v : State), u.twLive = true ∧ (u.twSt = 3 ∨ u.twSt = 4) ∧
      v = (u.tw fun t => { t with hbeat := false }).peerLines role ok ∧ v.twRole ≠ 2) ∧
    (∃ (s : State) (dt : Ns) (role : Bool) (ok : Bool), let u := s.tick dt; ∃ (v : State), u.twLive = true ∧ (u.twSt = 3 ∨ u.twSt = 4) ∧
      v = (u.tw fun t => { t with hbeat := false }).peerLines role ok ∧ v.twRole = 2 ∧ role = false) ∧
    (∃ (s : State) (dt : Ns) (role : Bool) (ok : Bool), let u := s.tick dt; ∃ (v : State), u.twLive = true ∧ (u.twSt = 3 ∨ u.twSt = 4) ∧
      v = (u.tw fun t => { t with hbeat := false }).peerLines role ok ∧ v.twRole = 2 ∧ role = true) ∧
    (∃ (s : State) (dt : Ns), let u := s.tick dt; u.dieC = true ∧ (u.peerLines false u.twin.peerOk).twSt = 6 ∧
      (u.peerLines false u.twin.peerOk).twRole = 2) ∧
    (∃ (s : State) (dt : Ns), let u := s.tick dt; u.dieC = true ∧ u.twin.peerRole = true ∧ (u.peerLines false u.twin.peerOk).twSt = 1) ∧
    (∃ (s : State) (dt : Ns), let u := s.tick dt; u.reedUp = true ∧ u.twSt = 6 ∧ ∃ (v : State), v = u.tw (fun t => { t with hbeat := true }) ∧
      v.twRole = 2) ∧
    (∃ (s : State) (dt : Ns), let u := s.tick dt; u.reedUp = true ∧ u.twSt = 6 ∧ ∃ (v : State), v = u.tw (fun t => { t with hbeat := true }) ∧
      v.twRole ≠ 2) ∧
    (∃ (s : State) (dt : Ns) (k : Nat), let u := s.tick dt; u.dieC = true ∧ k < 2) ∧
    (∃ (s : State) (dt : Ns) (k : Nat), let u := s.tick dt; u.buses = true ∧ k < 2) ∧
    (∃ (s : State) (dt : Ns), let u := s.tick dt; u.twLive = true ∧ (∀ t0, u.core.twAt = some t0 → t0 + 100000 ≤ u.now)) :=
  ⟨⟨((tw 3 1).has (cmd 0x2020 0x400)), 0, (cmd 0x2020 0x400), by decide, _, rfl, by decide⟩,
  ⟨((tw 5 1).has (cmd 0x2020 0x400)), 0, (cmd 0x2020 0x400), by decide, _, rfl, by decide, by decide, by decide⟩,
  ⟨((tw 0 0).has (cmd 0x2020 0x400)), 0, (cmd 0x2020 0x400), by decide, _, rfl, by decide, by decide, by decide⟩,
  ⟨((tw 1 0).tw (fun q => { q with joins := [(cmd 0x2020 0x400, 0)] })), 0, (cmd 0x2020 0x400), 0, by decide, by decide⟩,
  ⟨(live.has (cmd 0x2021 0x400)), 0, (cmd 0x2021 0x400), by decide, by decide⟩,
  ⟨((tw 3 1).has (cmd 0x2021 0x400)), 0, (cmd 0x2021 0x400), by decide, by decide⟩,
  ⟨(twR 1 0), 0, none, by decide, by decide, by decide, by decide, .inl rfl⟩,
  ⟨(twR 1 0), 0, (some (false, 5)), by decide, by decide, by decide, by decide, false, 5, by decide, by decide, by decide⟩,
  ⟨(twR 1 0), 0, (some (false, 0)), by decide, by decide, by decide, by decide, false, 0, by decide, by decide, by decide⟩,
  ⟨(tw 1 0), 0, by decide, by decide⟩,
  ⟨(twR 5 1), 0, _, by decide, by decide, rfl, by decide⟩,
  ⟨((tw 3 1).tw (fun q => { q with beats := true })), 0, by decide, by decide, by decide, _, rfl⟩,
  ⟨((tw 4 2).wr Reg.TW_STAT_STATE 0 3), 0, false, false, _, by decide, by decide, rfl⟩,
  ⟨((tw 3 1).wr Reg.TW_STAT_STATE 0 3), 0, false, false, _, by decide, by decide, rfl, by decide⟩,
  ⟨((tw 4 2).wr Reg.TW_STAT_STATE 0 3), 0, _, false, _, by decide, by decide, rfl, by decide, rfl⟩,
  ⟨(tw 4 2), 0, true, false, _, by decide, by decide, rfl, by decide, by decide⟩,
  ⟨(tw 6 2), 0, by decide, by decide, by decide⟩,
  ⟨((tw 1 0).tw (fun q => { q with peerRole := true })), 0, by decide, by decide, by decide⟩,
  ⟨(twR 6 2), 0, by decide, by decide, _, rfl, by decide⟩,
  ⟨(twR 6 1), 0, by decide, by decide, _, rfl, by decide⟩,
  ⟨live, 0, 0, by decide, by decide⟩,
  ⟨live, 0, 0, by decide, by decide⟩,
  ⟨(tw 3 1), 0, by decide, by decide⟩⟩

/-- Hypotheses of `Obligations.TwinMirror`. -/
theorem test_witness_TwinMirror :
    (∃ (s : State) (dt : Ns), let u := s.tick dt; u.twLive = true ∧ (u.twSt = 3 ∨ u.twSt = 7) ∧ u.twRole = 1 ∧ (∀ w,
      u.twin.swap = some w → w.phase ≤ 2) ∧ u.twin.cycleAt + u.rd Reg.TW_CYC_CYCLE * 1000 ≤ u.now ∧ ∃ (v : State),
      v = u.tw (fun t => { t with cycle := t.cycle + 1, cycleAt := u.now })) ∧
    (∃ (s : State) (dt : Ns) (i : Image), let u := s.tick dt; u.reedUp = true ∧ u.twRole = 2 ∧ u.twSt ≠ 6 ∧ (∀ a,
      u.twin.active = some a → a.cycle < i.cycle)) ∧
    (∃ (s : State) (dt : Ns) (i : Image) (whole : Bool) (crc : Bool), let u := s.tick dt; u.reedUp = true ∧ u.twRole = 2 ∧ u.twSt ≠ 6 ∧
      (whole = false ∨ crc = false ∨ ∃ a, u.twin.active = some a ∧ i.cycle ≤ a.cycle)) ∧
    (∃ (s : State) (dt : Ns) (us : Nat), let u := s.tick dt; u.twLive = true ∧ u.twRole = 2 ∧ (u.twSt = 2 ∨ u.twSt = 4 ∨ u.twSt = 7) ∧
      u.rd Reg.TW_CYC_CYCLE ≤ 2 * us) ∧
    (∃ (s : State) (dt : Ns), let u := s.tick dt; u.dieC = true ∧ ∃ (due : JEntry → Bool), due = (fun e => decide (e.at_ + 1000000000 ≤ u.now))) ∧
    (∃ (s : State) (dt : Ns) (p : Nat) (d : DriveMsg), let u := s.tick dt; recIx d.obj = some p ∧ u.reedUp = true ∧ u.twRole = 2 ∧
      (u.twSt = 4 ∨ u.twSt = 7) ∧ u.twMode p = 2 ∧ u.inLimp p = false ∧ ∃ (v : State), v = u.startTarget d.obj (u.load d.obj).cls d.target false) ∧
    (∃ (s : State) (dt : Ns) (p : Nat) (late : Nat) (d : DriveMsg), let u := s.tick dt; recIx d.obj = some p ∧ u.reedUp = true ∧ u.twRole = 2 ∧
      (u.twSt = 4 ∨ u.twSt = 7) ∧ u.twMode p = 2 ∧ u.inLimp p = false ∧ ∃ (v : State), v = u.startTarget d.obj (u.load d.obj).cls d.target false ∧
      late ≠ 0) ∧
    (∃ (s : State) (dt : Ns) (o : Nat) (p : Nat) (back : Bool), let u := s.tick dt; recIx o = some p ∧ u.twLive = true ∧ u.twMode p = 2 ∧
      (back = false ∨ u.isOn o = true)) ∧
    (∃ (s : State) (dt : Ns) (o : Nat) (first : Bool) (off : List Nat), let u := s.tick dt; u.twLive = true ∧ ((first = true ∧ u.twRole = 1 ∧
      u.epochNs % 20000000 < 10000000) ∨ (first = false ∧ u.twRole = 2 ∧ u.twin.active.isSome = true ∧ 10000000 ≤ u.epochNs % 20000000)) ∧ ∃ l,
      l = ((u.pairs 0).map recObj).filter (fun o => u.st o == 0 && off.contains o)) ∧
    (∃ (s : State) (dt : Ns), let u := s.tick dt; u.twLive = true ∧ u.twRole ≠ 0 ∧ u.twin.oobSent + u.rd Reg.TW_CFG_OOBPER * 1000000 ≤ u.now ∧
      ∃ (v : State), v = (u.tw fun t => { t with oobSent := u.now }).forwardWake (u.rd Reg.TW_CFG_OOBSEG) ∧ v.rd Reg.TW_CFG_OOBKIND ≠ 2 ∧
      v.canTakes (u.rd Reg.TW_CFG_OOBSEG) 0 = true) ∧
    (∃ (s : State) (dt : Ns), let u := s.tick dt; u.twLive = true ∧ u.twRole ≠ 0 ∧ u.twin.oobSent + u.rd Reg.TW_CFG_OOBPER * 1000000 ≤ u.now ∧
      ∃ (v : State), v = (u.tw fun t => { t with oobSent := u.now }).forwardWake (u.rd Reg.TW_CFG_OOBSEG) ∧ v.rd Reg.TW_CFG_OOBKIND = 2 ∧
      ∃ (f : EthFrame),
      f = { da := leBytes 4 (v.rd Reg.TW_OOBID_ID + v.rd Reg.TW_OOBID_IDE * 2 ^ 29 + v.rd Reg.TW_OOBID_TOP * 2 ^ 30) ++ leBytes 2 (v.rd Reg.TW_OOBDA_HI), sa := v.hostMac, type := 0x88B5, body := List.replicate 8 0 ++ v.oobBytes ++ List.replicate 30 0 }) ∧
    (∃ (s : State) (dt : Ns) (role : Nat), let u := s.tick dt; u.twLive = true ∧ u.twRole ≠ 0 ∧ role ≠ 1) ∧
    (∃ (s : State) (dt : Ns), let u := s.tick dt; u.twLive = true ∧ u.flag Reg.TW_STAT_OOBOK = true ∧
      u.twin.oobAt + 3 * u.rd Reg.TW_CFG_OOBPER * 1000000 ≤ u.now ∧ ∃ (v : State), v = u.wr Reg.TW_STAT_OOBOK 0 0 ∧ (v.twSt = 6 ∧ v.twRole = 2)) ∧
    (∃ (s : State) (dt : Ns), let u := s.tick dt; u.twLive = true ∧ u.flag Reg.TW_STAT_OOBOK = true ∧
      u.twin.oobAt + 3 * u.rd Reg.TW_CFG_OOBPER * 1000000 ≤ u.now ∧ ∃ (v : State), v = u.wr Reg.TW_STAT_OOBOK 0 0 ∧ ¬ (v.twSt = 6 ∧ v.twRole = 2)) ∧
    (∃ (s : State) (dt : Ns) (k : Nat), let u := s.tick dt; u.dieC = true ∧ k < 2 ∧ (if k = 0 then u.twin.holdRole else u.twin.holdOk) = true) ∧
    (∃ (s : State) (dt : Ns) (k : Nat), let u := s.tick dt; u.dieC = true ∧ k < 2 ∧ (if k = 0 then u.twin.holdRole else u.twin.holdOk) = true ∧
      u.twin.lineOkAt = none) :=
  ⟨⟨((live.wr Reg.TW_STAT_STATE 0 3).wr Reg.TW_STAT_ROLE 0 1), 0, by decide, by decide, by decide, by decide, by decide, _, rfl⟩,
  ⟨(twR 4 2), 0, { cycle := 1, size := 0, snap := 0, serial := 0 }, by decide, by decide, by decide, (by intro a h; cases h)⟩,
  ⟨(twR 4 2), 0, { cycle := 1, size := 0, snap := 0, serial := 0 }, false, false, by decide, by decide, by decide, by decide⟩,
  ⟨(twR 4 2), 0, 100000, by decide, by decide, by decide, by decide⟩,
  ⟨live, 0, by decide, _, rfl⟩,
  ⟨((twR 4 2).wr Reg.TW_OBJ_MODE 1 2), 0, 1, { obj := 1, target := {}, edge := 0 }, by decide, by decide, by decide, by decide, by decide, by decide,
    _, rfl⟩,
  ⟨((twR 4 2).wr Reg.TW_OBJ_MODE 1 2), 0, 1, 1, { obj := 1, target := {}, edge := 0 }, by decide, by decide, by decide, by decide, by decide,
    by decide, _, rfl, by decide⟩,
  ⟨(((tw 4 2).setSt 1 1).wr Reg.TW_OBJ_MODE 1 2), 0, 1, 1, false, by decide, by decide, by decide, by decide⟩,
  ⟨(twR 3 1), 0, 0, true, [], by decide, .inl ⟨rfl, by decide, by decide⟩, _, rfl⟩,
  ⟨(((((tw 3 1).wr Reg.CAN_CTL_EN 0 1).wr Reg.CAN_STAT_STATE 0 0).wr Reg.NM_STAT_STATE 0 1).wr Reg.TW_CFG_OOBSEG 0 0), 0, by decide, by decide,
    by decide, _, rfl, by decide, by decide⟩,
  ⟨((tw 3 1).wr Reg.TW_CFG_OOBKIND 0 2), 0, by decide, by decide, by decide, _, rfl, by decide, _, rfl⟩,
  ⟨(tw 4 2), 0, 0, by decide, by decide, by decide⟩,
  ⟨((tw 6 2).wr Reg.TW_STAT_OOBOK (0) 1), 0, by decide, by decide, by decide, _, rfl, by decide⟩,
  ⟨((tw 3 1).wr Reg.TW_STAT_OOBOK (0) 1), 0, by decide, by decide, by decide, _, rfl, by decide⟩,
  ⟨((tw 3 1).tw (fun q => { q with holdRole := true })), 0, 0, by decide, by decide, by decide⟩,
  ⟨((tw 3 1).tw (fun q => { q with holdRole := true, lineOkAt := none })), 0, 0, by decide, by decide, by decide, by decide⟩⟩

/-- Hypotheses of `Obligations.TwinSwaps`. -/
theorem test_witness_TwinSwaps :
    (∃ (s : State) (dt : Ns) (c : Cmd), let b := s.taken dt c; s.starts dt c 0x2022 [.twin] = true ∧ b.flag Reg.TW_CFG_EN = true ∧
      b.twin.swap = none ∧ b.twin.equinox = none) ∧
    (∃ (s : State) (dt : Ns), let u := s.tick dt; u.twLive = true ∧ 1440 ≤ u.sinceMin ∧ u.twin.swap = none ∧ u.twin.equinox = none ∧
      u.twin.retryAt = 0) ∧
    (∃ (s : State) (dt : Ns), let u := s.tick dt; u.twLive = true ∧ 1440 ≤ u.sinceMin ∧ u.twin.swap = none ∧ u.twin.equinox = none ∧
      u.twin.retryAt ≠ 0 ∧ u.twin.retryAt ≤ u.now ∧ ∃ (v : State), v = u.raise 0x1D8D twObjId (atByte 16 (u.sinceMin / 60))) ∧
    (∃ (s : State) (dt : Ns) (t0 : Nat), let u := s.tick dt; u.twLive = true ∧ u.flag Reg.TW_SOL_IGNEN = true ∧ u.twin.swap = none ∧
      u.twin.equinox = none ∧ u.twin.ignAt = some t0 ∧ t0 + u.rd Reg.TW_SOL_IGNDLY * 1000000000 ≤ u.now) ∧
    (∃ (s : State) (dt : Ns) (peer : Bool) (w : Swap), let u := s.tick dt; u.twLive = true ∧ u.swapWaits = some w ∧ u.swapReady peer = true) ∧
    (∃ (s : State) (dt : Ns) (c : Cmd) (w : Swap), let u := s.tick dt; u.swapWaits = some w ∧ w.cmds = [c] ∧ w.since + 10000000000 ≤ u.now) ∧
    (∃ (s : State) (dt : Ns) (w : Swap), let u := s.tick dt; u.twin.swap = some w ∧ u.twLive = true ∧ w.phase = 1 ∧ u.twSt = 7 ∧ u.sharedBad = false) ∧
    (∃ (s : State) (dt : Ns) (fail : Nat) (w : Swap), let u := s.tick dt; u.twin.swap = some w ∧ u.twLive = true ∧ w.phase = 1 ∧ u.twSt = 7 ∧
      fail ≠ 0) ∧
    (∃ (s : State) (dt : Ns) (w : Swap), let u := s.tick dt; u.twin.swap = some w ∧ u.twLive = true ∧ w.phase = 1 ∧ u.twSt = 7 ∧ u.sharedBad = true) ∧
    (∃ (s : State) (dt : Ns) (i : Image) (w : Swap), let u := s.tick dt; u.reedUp = true ∧ u.twSt = 7 ∧ u.twRole = 1 ∧ u.twin.swap = some w ∧
      w.phase = 2 ∧ w.finalAt ≤ u.twin.cycleAt ∧ i.cycle = u.twin.cycle) ∧
    (∃ (s : State) (dt : Ns) (det : Nat) (on : Nat), let u := s.tick dt; u.dieC = true ∧ ∃ (v : State), v = u.peerLines true u.twin.peerOk ∧
      v.twSt = 7 ∧ v.twRole = 1 ∧ v.swapPhase = 3 ∧ ∃ (x : State),
      x = ((((v.wr Reg.TW_SOLSTAT_LASTDET 0 (min 255 det)).wr Reg.TW_SOLSTAT_LASTON 0 (min 255 on)).tw fun t => { t with beats := true, hbeat := true, active := none }).toStandby).drive false true) ∧
    (∃ (s : State) (dt : Ns), let u := s.tick dt; u.dieC = true ∧ (u.peerLines u.twin.peerRole true).reedUp = true ∧ ∃ (v : State),
      v = (u.peerLines u.twin.peerRole true).tw (fun t => { t with hbeat := true }) ∧ v.twSt = 7 ∧ v.twRole = 1 ∧ v.swapPhase = 4 ∧ ∃ (x : State),
      x = ((v.pairs 2).filter fun p => v.isOn (recObj p)).foldl (fun s p => s.setLost (recObj p) 0 false) v) ∧
    (∃ (s : State) (dt : Ns) (w : Swap), let u := s.tick dt; u.twin.swap = some w ∧ u.twLive = true ∧ w.phase = 3 ∧ u.twRole = 1 ∧
      w.offAt + 100000 ≤ u.now) :=
  ⟨⟨((live.wr Reg.TW_CFG_EN (0) 1).has (cmd 0x2022 0x400)), 0, (cmd 0x2022 0x400), by decide, by decide, by decide, by decide⟩,
  ⟨({ tw 3 1 with now := 10 ^ 17 }.tw (fun q => { q with retryAt := 0 })), 0, by decide, by decide, by decide, by decide, by decide⟩,
  ⟨({ tw 3 1 with now := 10 ^ 17 }.tw (fun q => { q with retryAt := 1 })), 0, by decide, by decide, by decide, by decide, by decide, by decide, _,
    rfl⟩,
  ⟨(({ tw 3 1 with now := 10 ^ 17 }.wr Reg.TW_SOL_IGNEN (0) 1).tw (fun q => { q with ignAt := some 0 })), 0, 0, by decide, by decide, by decide,
    by decide, by decide, by decide⟩,
  ⟨(((tw 3 1).wr Reg.TW_STAT_LANES 0 3).tw (fun q => { q with swap := some (swap0 0), hbeat := true, cycleAt := 10 ^ 12, snapAt := 10 ^ 12 })), 0,
    true, (swap0 0), by decide, by decide, by decide⟩,
  ⟨((tw 3 1).tw (fun q => { q with swap := some { swap0 0 with cmds := [cmd 0 3] } })), 0, (cmd 0 3), { swap0 0 with cmds := [cmd 0 3] }, by decide,
    by decide, by decide⟩,
  ⟨((tw 7 1).tw (fun q => { q with swap := some (swap0 1) })), 0, (swap0 1), by decide, by decide, by decide, by decide, by decide⟩,
  ⟨((tw 7 1).tw (fun q => { q with swap := some (swap0 1) })), 0, 1, (swap0 1), by decide, by decide, by decide, by decide, by decide⟩,
  ⟨(((tw 7 2).tw (fun q => { q with swap := some (swap0 1) })).wr Reg.TW_OBJ_MODE 0 2), 0, (swap0 1), by decide, by decide, by decide, by decide,
    by decide⟩,
  ⟨((twR 7 1).tw (fun q => { q with swap := some (swap0 2) })), 0, { cycle := 0, size := 0, snap := 0, serial := 0 }, (swap0 2), by decide, by decide,
    by decide, by decide, by decide, by decide, by decide⟩,
  ⟨((tw 7 1).tw (fun q => { q with swap := some (swap0 3) })), 0, 0, 0, by decide, _, rfl, by decide, by decide, by decide, _, rfl⟩,
  ⟨((twR 7 1).tw (fun q => { q with swap := some (swap0 4) })), 0, by decide, by decide, _, rfl, by decide, by decide, by decide, _, rfl⟩,
  ⟨((tw 7 1).tw (fun q => { q with swap := some (swap0 3) })), 0, (swap0 3), by decide, by decide, by decide, by decide, by decide⟩⟩

/-- Hypotheses of `Obligations.DoorbellsAndFetch`. -/
theorem test_witness_DoorbellsAndFetch :
    (∃ (s : State) (dt : Nat) (pf : Nat) (n : Nat) (v : Nat), let u := s.tick dt; n < 32 ∧ pf < 4 ∧ u.host.linkUp = true ∧ (u.fn pf).frozen = false ∧
      u.running = true ∧ ((u.cmdRing pf n).en = true ∧ v < 65536 ∧ (v + 65536 - (u.cmdRing pf n).head) % 65536 ≤ 2 ^ (u.cmdRing pf n).log2sz ∧
      (v + 65536 - (u.cmdRing pf n).tail) % 65536 ≤ 2 ^ (u.cmdRing pf n).log2sz)) ∧
    (∃ (s : State) (dt : Nat) (pf : Nat) (n : Nat) (v : Nat), let u := s.tick dt; n < 32 ∧ pf < 4 ∧ u.host.linkUp = true ∧ (u.fn pf).frozen = false ∧
      u.running = true ∧ ¬ ((u.cmdRing pf n).en = true ∧ v < 65536 ∧ (v + 65536 - (u.cmdRing pf n).head) % 65536 ≤ 2 ^ (u.cmdRing pf n).log2sz ∧
      (v + 65536 - (u.cmdRing pf n).tail) % 65536 ≤ 2 ^ (u.cmdRing pf n).log2sz)) ∧
    (∃ (s : State) (dt : Nat) (pf : Nat) (n : Nat) (v : Nat), let u := s.tick dt; n < 32 ∧ pf < 4 ∧ u.host.linkUp = true ∧ (u.fn pf).frozen = false ∧
      u.running = true ∧ (u.cplRing pf n).headOk v = true) ∧
    (∃ (s : State) (dt : Nat) (pf : Nat) (n : Nat) (v : Nat), let u := s.tick dt; n < 32 ∧ pf < 4 ∧ u.host.linkUp = true ∧ (u.fn pf).frozen = false ∧
      u.running = true ∧ (u.cplRing pf n).headOk v = false) ∧
    (∃ (s : State) (dt : Nat) (pf : Nat) (n : Nat) (v : Nat), let u := s.tick dt; n < 32 ∧ pf < 4 ∧ u.host.linkUp = true ∧ (u.fn pf).frozen = false ∧
      u.running = true ∧ (u.evtRing pf).headOk v = true) ∧
    (∃ (s : State) (dt : Nat) (pf : Nat) (n : Nat) (v : Nat), let u := s.tick dt; n < 32 ∧ pf < 4 ∧ u.host.linkUp = true ∧ (u.fn pf).frozen = false ∧
      u.running = true ∧ (u.evtRing pf).headOk v = false) ∧
    (∃ (s : State) (dt : Nat) (pf : Nat) (n : Nat), let u := s.tick dt; n < 32 ∧ pf < 4 ∧ u.host.linkUp = true ∧ (u.fn pf).frozen = false ∧
      u.running = false) ∧
    (∃ (s : State) (dt : Nat) (pf : Nat) (n : Nat) (c : Cmd), let u := s.tick dt;
      let e := { c with pf := pf, ring := n, slot := (u.cmdRing pf n).head % 2 ^ (u.cmdRing pf n).log2sz, src := .host }; ∃ (x : State × Bool),
      pf < 4 ∧ n < 32 ∧ u.canFetch pf n = true ∧ (u.cmdRing pf n).head ≠ (u.cmdRing pf n).tail ∧ u.fetchTurn pf n = true ∧ (u.fn pf).frzTail = [] ∧
      u.journals e = false ∧ u.dmaOk pf (u.cmdRing pf n).addr 32 = true ∧ x = (u.takeEntry pf n).takeIn e ∧ x.1.journals e = false ∧
      (x.1.fn pf).frozen = false) ∧
    (∃ (s : State) (dt : Nat) (pf : Nat) (n : Nat), let u := s.tick dt; pf < 4 ∧ n < 32 ∧ u.fetchable (32 * pf + n) = true ∧ u.fetchTurn pf n = true) ∧
    (∃ (s : State) (dt : Nat) (c : Cmd) (r : InFlight), let u := s.tick dt; needsRead c = true ∧ u.flight c = some r ∧ r.begun = false) ∧
    (∃ (s : State) (dt : Nat) (c : Cmd), let u := s.tick dt; needsRead c = true ∧ u.flight c = none ∧ (u.arrive c).2 = true) :=
  ⟨⟨rings, 0, 0, 0, 1, by decide, by decide, by decide, by decide, by decide, by decide⟩,
  ⟨(live.onHost (fun q => { q with linkUp := true })), 0, 0, 0, 65536, by decide, by decide, by decide, by decide, by decide, by decide⟩,
  ⟨rings, 0, 0, 0, 0, by decide, by decide, by decide, by decide, by decide, by decide⟩,
  ⟨(live.onHost (fun q => { q with linkUp := true })), 0, 0, 0, 0, by decide, by decide, by decide, by decide, by decide, by decide⟩,
  ⟨(live.setEvtRing 0 { en := true }), 0, 0, 0, 0, by decide, by decide, by decide, by decide, by decide, by decide⟩,
  ⟨(live.onHost (fun q => { q with linkUp := true })), 0, 0, 0, 70000, by decide, by decide, by decide, by decide, by decide, by decide⟩,
  ⟨(ph .logic), 0, 0, 0, by decide, by decide, by decide, by decide, by decide⟩,
  ⟨rings, 0, 0, 0, (cmd 0 3), _, by decide, by decide, by decide, by decide, by decide, by decide, by decide, by decide, rfl, by decide, by decide⟩,
  ⟨rings, 0, 0, 0, by decide, by decide, by decide, by decide⟩,
  ⟨(live.has (cmd 0x4001 0x221)), 0, (cmd 0x4001 0x221), { cmd := cmd 0x4001 0x221 }, by decide, by decide, by decide⟩,
  ⟨(((live.setCmdRing 3 0 { en := true, tail := 1 }).setCplRing 3 0 { en := true }).setFn 3 { enable := true }), 0,
    { cmd 0x5030 0xFFFF (8 * 2 ^ 64) 3 with seq := 1 }, by decide, by decide, by decide⟩⟩

/-- Hypotheses of `Obligations.GenericAndReadCommands`. -/
theorem test_witness_GenericAndReadCommands :
    (∃ (s : State) (dt : Ns) (c : Cmd), s.starts dt c 0x0000 [] = true) ∧
    (∃ (s : State) (dt : Ns) (c : Cmd) (r : InFlight), let b := s.taken dt c; s.starts dt c 0x0001 [] = true ∧
      b.host.inflight.find? (fun r => r.cmd.pf == c.pf && r.cmd.src == .host && r.cmd.tag == c.arg 16 2) = some r ∧ c.arg 16 2 ≠ c.tag ∧
      r.begun = false ∧ r.latched = false) ∧
    (∃ (s : State) (dt : Ns) (c : Cmd) (r : InFlight), let b := s.taken dt c; s.starts dt c 0x0001 [] = true ∧
      b.host.inflight.find? (fun r => r.cmd.pf == c.pf && r.cmd.src == .host && r.cmd.tag == c.arg 16 2) = some r ∧ c.arg 16 2 ≠ c.tag ∧
      (r.begun = true ∨ r.latched = true)) ∧
    (∃ (s : State) (dt : Ns) (c : Cmd) (r : InFlight), let b := s.taken dt c; s.starts dt c 0x0001 [] = true ∧
      b.host.inflight.find? (fun r => r.cmd.pf == c.pf && r.cmd.src == .host && r.cmd.tag == c.arg 16 2) = some r ∧ c.arg 16 2 = c.tag) ∧
    (∃ (s : State) (dt : Ns) (c : Cmd), let b := s.taken dt c; s.starts dt c 0x0001 [] = true ∧
      b.host.inflight.find? (fun r => r.cmd.pf == c.pf && r.cmd.src == .host && r.cmd.tag == c.arg 16 2) = none) ∧
    (∃ (s : State) (dt : Ns) (c : Cmd), let b := s.taken dt c; s.starts dt c 0x0002 [] = true ∧ b.rd Reg.GPTP_CFG_ROLE ≠ 2) ∧
    (∃ (s : State) (dt : Ns) (c : Cmd), let b := s.taken dt c; s.starts dt c 0x0002 [] = true ∧ b.rd Reg.GPTP_CFG_ROLE = 2) ∧
    (∃ (s : State) (dt : Ns) (c : Cmd) (bytes : List Byte), let b := s.taken dt c; c.arg 16 8 % 8 = 0 ∧ bytes.length ≤ c.arg 24 2 ∧
      b.dmaOk c.pf (c.arg 16 8) bytes.length = true ∧ s.starts dt c 0x1000 allKinds = true ∧ bytes = b.statusBytes c.object) ∧
    (∃ (s : State) (dt : Ns) (c : Cmd) (bytes : List Byte), let b := s.taken dt c; c.arg 16 8 % 8 = 0 ∧ bytes.length ≤ c.arg 24 2 ∧
      b.dmaOk c.pf (c.arg 16 8) bytes.length = true ∧ s.starts dt c 0x1001 allKinds = true ∧ bytes = b.historyBytes c.object) ∧
    (∃ (s : State) (dt : Ns) (c : Cmd) (bytes : List Byte), let b := s.taken dt c; c.arg 16 8 % 8 = 0 ∧ bytes.length ≤ c.arg 24 2 ∧
      b.dmaOk c.pf (c.arg 16 8) bytes.length = true ∧ s.starts dt c 0x1002 allKinds = true ∧ bytes = b.counterBytes c.object) ∧
    (∃ (s : State) (dt : Ns) (c : Cmd) (bytes : List Byte), let b := s.taken dt c; c.arg 16 8 % 8 = 0 ∧ bytes.length ≤ c.arg 24 2 ∧
      b.dmaOk c.pf (c.arg 16 8) bytes.length = true ∧ s.starts dt c 0x1005 [] = true ∧
      bytes = ((b.nv.retired.drop (c.arg 26 2)).take (c.arg 24 2 / 16)).flatMap (fun r => leBytes 16 r.data)) ∧
    (∃ (s : State) (dt : Ns) (c : Cmd) (bytes : List Byte), let b := s.taken dt c; c.arg 16 8 % 8 = 0 ∧ bytes.length ≤ c.arg 24 2 ∧
      b.dmaOk c.pf (c.arg 16 8) bytes.length = true ∧ s.starts dt c 0x1006 [] = true ∧
      bytes = recBytes b.nv.identity 0 336 ++ leBytes 2 b.nv.certificate.length ++ leBytes 6 0 ++ b.nv.certificate) :=
  ⟨⟨(live.has (cmd 0x0000 0xFFFF)), 0, (cmd 0x0000 0xFFFF), by decide⟩,
  ⟨{ live with host := { live.host with inflight := [{ cmd := { cmd 0x2001 3 with tag := 1, slot := 1 }, started := true }, { cmd := cmd 1 0xFFFF 1 }] } },
    0, (cmd 0x0001 0xFFFF 1), { cmd := { cmd 0x2001 3 with tag := 1, slot := 1 }, started := true }, by decide, by decide, by decide, by decide,
    by decide⟩,
  ⟨{ live with host := { live.host with inflight := [{ cmd := { cmd 0x2001 3 with tag := 1, slot := 1 }, started := true, begun := true }, { cmd := cmd 1 0xFFFF 1 }] } },
    0, (cmd 0x0001 0xFFFF 1), { cmd := { cmd 0x2001 3 with tag := 1, slot := 1 }, started := true, begun := true }, by decide, by decide, by decide,
    by decide⟩,
  ⟨(live.has (cmd 0x0001 0xFFFF)), 0, (cmd 0x0001 0xFFFF), { cmd := cmd 0x0001 0xFFFF, started := true }, by decide, by decide, by decide⟩,
  ⟨(live.has (cmd 0x0001 0xFFFF 1)), 0, (cmd 0x0001 0xFFFF 1), by decide, by decide⟩,
  ⟨(live.has (cmd 0x0002 0xFFFF)), 0, (cmd 0x0002 0xFFFF), by decide, by decide⟩,
  ⟨((live.wr Reg.GPTP_CFG_ROLE (0) 2).has (cmd 0x0002 0xFFFF)), 0, (cmd 0x0002 0xFFFF), by decide, by decide⟩,
  ⟨(rdState 0x1000), 0, (rdCmd 0x1000), ((rdTaken 0x1000).statusBytes (rdCmd 0x1000).object), by decide, by decide +kernel, by decide +kernel,
    by decide +kernel, rfl⟩,
  ⟨(rdState 0x1001), 0, (rdCmd 0x1001), ((rdTaken 0x1001).historyBytes (rdCmd 0x1001).object), by decide, by decide +kernel, by decide +kernel,
    by decide +kernel, rfl⟩,
  ⟨(rdState 0x1002), 0, (rdCmd 0x1002), ((rdTaken 0x1002).counterBytes (rdCmd 0x1002).object), by decide, by decide +kernel, by decide +kernel,
    by decide +kernel, rfl⟩,
  ⟨(live.has (cmd 0x1005 0xFFFF)), 0, (cmd 0x1005 0xFFFF), _, by decide, by decide, by decide, by decide, rfl⟩,
  ⟨(live.has (cmd 0x1006 0xFFFF (4096 * 2 ^ 64))), 0, (cmd 0x1006 0xFFFF (4096 * 2 ^ 64)), _, by decide, by decide, by decide, by decide, rfl⟩⟩

/-- Hypotheses of `Obligations.RingsAndOwners`. -/
theorem test_witness_RingsAndOwners :
    (∃ (s : State) (dt : Nat) (pf : Nat) (n : Nat), let u := s.tick dt; n < 32 ∧ u.hrReach pf = true ∧ (u.cmdRing pf n).en = false ∧
      u.ringBusy pf n = false ∧ (u.cplRing pf (bits (u.hrWord pf (0x108 + 32 * n)) 4 5)).en = true) ∧
    (∃ (s : State) (dt : Nat) (pf : Nat) (n : Nat), let u := s.tick dt; n < 32 ∧ u.hrReach pf = true ∧ (u.cmdRing pf n).en = false ∧
      (u.ringBusy pf n = true ∨ (u.cplRing pf (bits (u.hrWord pf (0x108 + 32 * n)) 4 5)).en = false)) ∧
    (∃ (s : State) (dt : Nat) (pf : Nat) (n : Nat), let u := s.tick dt; n < 32 ∧ u.hrReach pf = true) ∧
    (∃ (s : State) (dt : Nat) (pf : Nat) (n : Nat), let u := s.tick dt; n < 32 ∧ u.hrReach pf = true ∧ (u.cplRing pf n).en = false) ∧
    (∃ (s : State) (dt : Nat) (pf : Nat) (n : Nat), let u := s.tick dt; n < 32 ∧ u.hrReach pf = true) ∧
    (∃ (s : State) (dt : Nat) (pf : Nat), let u := s.tick dt; u.hrReach pf = true ∧ (u.evtRing pf).en = false) ∧
    (∃ (s : State) (dt : Nat) (pf : Nat), let u := s.tick dt; u.hrReach pf = true) ∧
    (∃ (s : State) (dt : Nat) (o : Nat) (v : Nat), let u := s.tick dt; u.hrReach 0 = true ∧ o < 65536 ∧ (objKind o).isSome = true ∧ v < 4) :=
  ⟨⟨(live.setCplRing 0 0 { en := true }), 0, 0, 0, by decide, by decide, by decide, by decide, by decide⟩,
  ⟨live, 0, 0, 0, by decide, by decide, by decide, by decide⟩,
  ⟨live, 0, 0, 0, by decide, by decide⟩,
  ⟨live, 0, 0, 0, by decide, by decide, by decide⟩,
  ⟨live, 0, 0, 0, by decide, by decide⟩,
  ⟨live, 0, 0, by decide, by decide⟩,
  ⟨live, 0, 0, by decide⟩,
  ⟨live, 0, 0, 0, by decide, by decide, by decide, by decide⟩⟩

/-- Hypotheses of `Obligations.MsixFunctionsAndLink`. -/
theorem test_witness_MsixFunctionsAndLink :
    (∃ (s : State) (dt : Nat) (pf : Nat) (m : Nat), let u := s.tick dt; u.dieC = true ∧ pf < 4 ∧ 0 < (u.cplRing pf m).unsig ∧
      0 < (u.cplRing pf m).modtime ∧ (u.cplRing pf m).unsigAt + (u.cplRing pf m).modtime * 1000 ≤ u.now) ∧
    (∃ (s : State) (dt : Nat) (pf : Nat), let u := s.tick dt; u.dieC = true ∧ pf < 4 ∧ 0 < (u.evtRing pf).unsig ∧ 0 < (u.evtRing pf).modtime ∧
      (u.evtRing pf).unsigAt + (u.evtRing pf).modtime * 1000 ≤ u.now) ∧
    (∃ (s : State) (dt : Nat) (pf : Nat) (m : Nat), let u := s.tick dt; u.dieC = true ∧ pf < 4 ∧ m < 34 ∧ 0 < (u.rxq m).unsig ∧
      0 < u.rd Reg.RXQ_CFG_MODTIME m ∧ (u.rxq m).unsigAt + u.rd Reg.RXQ_CFG_MODTIME m * 1000 ≤ u.now ∧ ∃ (w : State),
      w = u.modRxq m (fun q => { q with unsig := 0 })) ∧
    (∃ (s : State) (dt : Nat) (pf : Nat) (v : Nat), let u := s.tick dt; u.host.linkUp = true ∧ pf < 4 ∧ v < 16) ∧
    (∃ (s : State) (dt : Nat) (pf : Nat) (v : Nat), let u := s.tick dt; u.host.linkUp = true ∧ pf < 4 ∧ v < 16 ∧ ∃ (h : HostState),
      h = u.host.setFn pf { u.fn pf with vecMask := clrBit (u.fn pf).vecMask v, vecPend := clrBit (u.fn pf).vecPend v }) ∧
    (∃ (s : State) (dt : Nat) (pf : Nat), let u := s.tick dt; u.host.linkUp = true ∧ pf < 4) ∧
    (∃ (s : State) (dt : Nat), let u := s.tick dt; let d := ({ u with host := { u.host with perst := true, linkUp := false } } : State);
      d.inReset = false ∧ d.dieCOut = true) ∧
    (∃ (s : State) (dt : Nat), let u := s.tick dt; let d := ({ u with host := { u.host with perst := true, linkUp := false } } : State);
      d.inReset = true) ∧
    (∃ (s : State) (dt : Nat), let u := s.tick dt; u.linkCan = true ∧ ∃ (t : State),
      t = { u with host := { u.host with linkUp := true }.sendWaiting, pwr := { u.pwr with peWake := false } }) ∧
    (∃ (s : State) (dt : Nat), let u := s.tick dt; u.pwr.peWake = true ∧ (u.host.linkUp = true ∨ u.pwr.peWakeAt + 1000000000 ≤ u.now)) :=
  ⟨⟨(live.setCplRing 0 0 { en := true, unsig := 1, modtime := 1 }), 0, 0, 0, by decide, by decide, by decide, by decide, by decide⟩,
  ⟨(live.setEvtRing 0 { en := true, unsig := 1, modtime := 1 }), 0, 0, by decide, by decide, by decide, by decide, by decide⟩,
  ⟨((live.modRxq 0 (fun q => { q with unsig := 1 })).wr Reg.RXQ_CFG_MODTIME 0 1), 0, 0, 0, by decide, by decide, by decide, by decide, by decide,
    by decide, _, rfl⟩,
  ⟨(live.setFn 0 { vecPend := 1 }), 0, 0, 0, by decide, by decide, by decide⟩,
  ⟨(live.setFn 0 { vecPend := 1 }), 0, 0, 0, by decide, by decide, by decide, _, rfl⟩,
  ⟨(live.onHost (fun q => { q with linkUp := true })), 0, 0, by decide, by decide⟩,
  ⟨live, 0, by decide, by decide⟩,
  ⟨(ph .resetHold), 0, by decide⟩,
  ⟨live, 0, by decide, _, rfl⟩,
  ⟨(live.pw (fun q => { q with peWake := true })), 0, by decide, by decide⟩⟩

/-- Hypotheses of `Obligations.StartRows`. -/
theorem test_witness_StartRows :
    (∃ (s : State) (dt : Nat), let u := s.tick dt; u.dieCOut = true) ∧
    (∃ (s : State) (dt : Nat), let u := s.tick dt; u.dieCOut = false) ∧
    (∃ (s : State) (dt : Nat), let u := s.tick dt; u.pwr.phase = .unpowered ∧ ∃ (v : State),
      v = ({ u with nv := { u.nv with powerUps := u.nv.powerUps + 1 }, twin := { u.twin with sinceAt := u.now } } : State).toPhase .resetHold) ∧
    (∃ (s : State) (dt : Nat), let u := s.tick dt; u.dieCOut = true) ∧
    (∃ (s : State) (dt : Nat), let u := s.tick dt; u.inReset = true ∧ u.dieCOut = false) ∧
    (∃ (s : State) (dt : Nat), let u := s.tick dt; u.inReset = true ∧ u.pwr.phaseAt + 1000000 ≤ u.now ∧ ∃ (x : State) (v : State), x = u.noticeOff ∧
      v = ({ (if x.host.perstLatched then x.flrAll else x) with host := { (if x.host.perstLatched then x.flrAll else x).host with perstLatched := false } } : State) ∧
      ∃ (w : State), (v.pwr.start ≠ 2 ∨ u.pwr.brownout = true) ∧ w = (v.toPhase .regulator).wr Reg.PWR_STAT_RDY 0 0) ∧
    (∃ (s : State) (dt : Nat), let u := s.tick dt; u.inReset = true ∧ u.pwr.phaseAt + 1000000 ≤ u.now ∧ ∃ (x : State) (v : State), x = u.noticeOff ∧
      v = ({ (if x.host.perstLatched then x.flrAll else x) with host := { (if x.host.perstLatched then x.flrAll else x).host with perstLatched := false } } : State) ∧
      ∃ (w : State), v.pwr.start = 2 ∧ u.pwr.brownout = false ∧ w = (v.toPhase .logic).wr Reg.PWR_STAT_RDY 0 7) ∧
    (∃ (s : State) (dt : Nat), let u := s.tick dt; u.dieCOut = true) ∧
    (∃ (s : State) (dt : Nat), let u := s.tick dt; u.tries = true ∧ u.phaseEnds u.tryAt = true ∧ ∃ (v : State),
      v = (u.wr Reg.PWR_RDY_REGT 0 (min 255 ((u.now - u.tryAt) / 100000))).setRdy 0 ∧ ∃ (w : State),
      w = (v.wr Reg.GLB_PACE_CUR 0 (if v.pwr.start = 1 then v.rd Reg.GLB_PACE_REQ else 1)).wr Reg.GLB_PACE_BUSY 0 0) ∧
    (∃ (s : State) (dt : Nat), let u := s.tick dt; u.tries = true ∧ u.pwr.start = 1 ∧ u.tryAt + 5000000 ≤ u.now) ∧
    (∃ (s : State) (dt : Nat), let u := s.tick dt; u.pwr.phase = .oscillator ∧ u.phaseEnds u.pwr.phaseAt = true) ∧
    (∃ (s : State) (dt : Nat), let u := s.tick dt; u.pwr.phase = .oscillator ∧ u.pwr.phaseAt + 10000000 ≤ u.now) ∧
    (∃ (s : State) (dt : Nat) (ok : Bool), let u := s.tick dt; u.pwr.phase = .memory ∧ u.phaseEnds u.pwr.phaseAt = true ∧ ∃ (v : State),
      v = (u.wr Reg.PWR_RDY_MEMT 0 u.phaseLen).setRdy 2 ∧ (v.pwr.start ≠ 1 ∨ ok = true)) ∧
    (∃ (s : State) (dt : Nat), let u := s.tick dt; u.pwr.phase = .memory ∧ u.phaseEnds u.pwr.phaseAt = true ∧ ∃ (v : State),
      v = (u.wr Reg.PWR_RDY_MEMT 0 u.phaseLen).setRdy 2 ∧ v.pwr.start = 1) ∧
    (∃ (s : State) (dt : Nat) (b : BootCheck), let u := s.tick dt; u.pwr.phase = .logic ∧ u.phaseEnds u.pwr.phaseAt = true ∧
      (b.testFail = false ∨ u.nv.updState ≠ 3)) ∧
    (∃ (s : State) (dt : Nat) (b : BootCheck), let u := s.tick dt; u.pwr.phase = .logic ∧ u.phaseEnds u.pwr.phaseAt = true ∧ b.testFail = true ∧
      u.nv.updState = 3) :=
  ⟨⟨live, 0, by decide⟩,
  ⟨(ph .unpowered), 0, by decide⟩,
  ⟨(live.pw (fun q => { q with phase := .unpowered })), 0, by decide, _, rfl⟩,
  ⟨live, 0, by decide⟩,
  ⟨(ph .resetHold), 0, by decide, by decide⟩,
  ⟨(ph .resetHold), 0, by decide, by decide, _, _, rfl, rfl, _, by decide, rfl⟩,
  ⟨((ph .resetHold).pw (fun q => { q with start := 2 })), 0, by decide, by decide, _, _, rfl, rfl, _, by decide, by decide, rfl⟩,
  ⟨live, 0, by decide⟩,
  ⟨(ph .regulator), 0, by decide, by decide, _, rfl, _, rfl⟩,
  ⟨((ph .regulator).pw (fun q => { q with start := 1 })), 0, by decide, by decide, by decide⟩,
  ⟨((ph .oscillator).pw (fun q => { q with phaseAt := 10 ^ 12 - 1000000 })), 0, by decide, by decide⟩,
  ⟨(live.pw (fun q => { q with phase := .oscillator })), 0, by decide, by decide⟩,
  ⟨(ph .memory), 0, true, by decide, by decide, _, rfl, .inr rfl⟩,
  ⟨((ph .memory).pw (fun q => { q with start := 1 })), 0, by decide, by decide, _, rfl, by decide⟩,
  ⟨(ph .logic), 0, {}, by decide, by decide, by decide⟩,
  ⟨((ph .logic).nvm (fun q => { q with updState := 3 })), 0, { testFail := true }, by decide, by decide, by decide, by decide⟩⟩

/-- Hypotheses of `Obligations.StopEntryRows`. -/
theorem test_witness_StopEntryRows :
    (∃ (s : State) (dt : Nat), let u := s.tick dt; u.inEntry 2 = true ∧ u.host.inflight.all (·.deferred) = true ∧ u.now ≤ u.pwr.phaseAt + 50000000 ∧
      u.pwr.wakeHit = false ∧ ∃ (v : State), v = (u.refuseDeferred.loopsOpen 6).toPhase (.entering 3)) ∧
    (∃ (s : State) (dt : Nat), let u := s.tick dt; u.inEntry 2 = true ∧ u.host.inflight.all (·.deferred) = true ∧ u.now ≤ u.pwr.phaseAt + 50000000 ∧
      u.pwr.wakeHit = true) ∧
    (∃ (s : State) (dt : Nat), let u := s.tick dt; u.inEntry 2 = true ∧ u.pwr.phaseAt + 50000000 ≤ u.now ∧
      u.host.inflight.any (fun r => !r.deferred) = true) ∧
    (∃ (s : State) (dt : Nat), let u := s.tick dt; u.inEntry 3 = true ∧ u.pwr.wakeHit = false ∧ u.pwr.forced = false) ∧
    (∃ (s : State) (dt : Nat), let u := s.tick dt; u.inEntry 3 = true ∧ u.pwr.wakeHit = false ∧ u.pwr.forced = true) ∧
    (∃ (s : State) (dt : Nat), let u := s.tick dt; u.inEntry 3 = true ∧ u.pwr.wakeHit = true) ∧
    (∃ (s : State) (dt : Nat), let u := s.tick dt; ∃ (v : State), u.inEntry 4 1000000 = true ∧ v = u.saveEnd ∧ v.pwr.wakeHit = false) ∧
    (∃ (s : State) (dt : Nat), let u := s.tick dt; ∃ (v : State), u.inEntry 4 1000000 = true ∧ v = u.saveEnd ∧ v.pwr.wakeHit = true) ∧
    (∃ (s : State) (dt : Nat), let u := s.tick dt; ∃ (v : State), u.inEntry 5 200000 = true ∧
      v = ({ u.diesStop with host := { u.diesStop.host with linkUp := false } } : State) ∧ v.pwr.wakeHit = false) ∧
    (∃ (s : State) (dt : Nat), let u := s.tick dt; ∃ (v : State), u.inEntry 5 200000 = true ∧
      v = ({ u.diesStop with host := { u.diesStop.host with linkUp := false } } : State) ∧ v.pwr.wakeHit = true) ∧
    (∃ (s : State) (dt : Nat), let u := s.tick dt; u.inEntry 6 20000 = true ∧ u.pwr.wakeHit = false) ∧
    (∃ (s : State) (dt : Nat), let u := s.tick dt; u.inEntry 6 20000 = true ∧ u.pwr.wakeHit = true) ∧
    (∃ (s : State) (dt : Nat), let u := s.tick dt; u.inEntry 7 50000 = true) :=
  ⟨⟨((ph (.entering 2)).pw (fun q => { q with wakeHit := false, phaseAt := 10 ^ 12 })), 0, by decide, by decide, by decide, by decide, _, rfl⟩,
  ⟨((ph (.entering 2)).pw (fun q => { q with wakeHit := true, phaseAt := 10 ^ 12 })), 0, by decide, by decide, by decide, by decide⟩,
  ⟨((ph (.entering 2)).has (cmd 0x2001 3)), 0, by decide, by decide, by decide⟩,
  ⟨(((ph (.entering 3)).pw (fun q => { q with wakeHit := false })).pw (fun q => { q with forced := false })), 0, by decide, by decide, by decide⟩,
  ⟨(((ph (.entering 3)).pw (fun q => { q with wakeHit := false })).pw (fun q => { q with forced := true })), 0, by decide, by decide, by decide⟩,
  ⟨((ph (.entering 3)).pw (fun q => { q with wakeHit := true })), 0, by decide, by decide⟩,
  ⟨(ph (.entering 4)), 0, _, by decide, rfl, by decide⟩,
  ⟨((ph (.entering 4)).pw (fun q => { q with wakeHit := true })), 0, _, by decide, rfl, by decide⟩,
  ⟨(ph (.entering 5)), 0, _, by decide, rfl, by decide⟩,
  ⟨((ph (.entering 5)).pw (fun q => { q with wakeHit := true })), 0, _, by decide, rfl, by decide⟩,
  ⟨((ph (.entering 6)).pw (fun q => { q with wakeHit := false })), 0, by decide, by decide⟩,
  ⟨((ph (.entering 6)).pw (fun q => { q with wakeHit := true })), 0, by decide, by decide⟩,
  ⟨(ph (.entering 7)), 0, by decide⟩⟩

/-- Hypotheses of `Obligations.WakeAndLimpRows`. -/
theorem test_witness_WakeAndLimpRows :
    (∃ (s : State) (dt : Nat), let u := s.tick dt; u.pwr.phase = .stop ∧ u.rd Reg.PWR_TMR ≠ 0 ∧
      u.rd Reg.PWR_TMR * 1000000000 ≤ (u.now - u.pwr.stopAt) * 1024) ∧
    (∃ (s : State) (dt : Nat), let u := s.tick dt; u.flag Reg.PWR_CFG_TKWAKE = true) ∧
    (∃ (s : State) (dt : Nat), let u := s.tick dt; ∃ (v : State), v = ({ u with host := { u.host with perst := false } } : State) ∧
      u.host.perst = true ∧ v.flag Reg.PWR_CFG_PERSTWAKE = true) ∧
    (∃ (s : State) (dt : Nat), let u := s.tick dt; ∃ (v : State), v = ({ u with host := { u.host with perst := false } } : State) ∧
      u.host.perst = true ∧ v.flag Reg.PWR_CFG_PERSTWAKE = false) ∧
    (∃ (s : State) (dt : Nat), let u := s.tick dt; ∃ (v : State), v = u.wr Reg.LIMP_STAT_LIMPN 0 1 ∧ v.diesAct = true ∧ v.diesUp ≠ 0) ∧
    (∃ (s : State) (dt : Nat), let u := s.tick dt; ∃ (v : State), v = u.wr Reg.LIMP_STAT_LIMPN 0 1 ∧ (v.diesAct = false ∨ v.diesUp = 0)) ∧
    (∃ (s : State) (dt : Nat) (mask : Nat) (r : Nat), let u := s.tick dt; ∃ (v : State) (l : List Nat), v = u.wr Reg.LIMP_STAT_LH 0 (mask % 256) ∧
      v.diesAct = true ∧ v.flag Reg.LIMP_STAT_ACTIVE = true ∧
      l = recOrder.filter (fun r => v.flag Reg.LH_LHR1_INLIMP r && !v.flag Reg.LH_LHR0_EXEMPT r && v.rd Reg.LH_LHR0_LSRC r != 0 && bit (u.rd Reg.LIMP_STAT_LH) (v.rd Reg.LH_LHR0_LSRC r - 1) != bit mask (v.rd Reg.LH_LHR0_LSRC r - 1))) ∧
    (∃ (s : State) (dt : Nat) (mask : Nat), let u := s.tick dt; ∃ (v : State), v = u.wr Reg.LIMP_STAT_LH 0 (mask % 256) ∧
      (v.diesAct = false ∨ v.flag Reg.LIMP_STAT_ACTIVE = false)) ∧
    (∃ (s : State) (dt : Nat) (ready : Bool), let u := s.tick dt; u.out.notice = false ∧ u.dieCOut = true ∧ u.out.noticeAt + 2000000 ≤ u.now ∧
      ∃ (v : State), v = u.outs (fun x => { x with hbAt := u.now, hbSeen := true, hbReady := ready && u.ready1 }) ∧
      ((ready && u.ready1) = false ∨ v.holding = [])) ∧
    (∃ (s : State) (dt : Nat) (ready : Bool), let u := s.tick dt; u.out.notice = false ∧ u.dieCOut = true ∧ u.out.noticeAt + 2000000 ≤ u.now ∧
      ∃ (v : State), v = u.outs (fun x => { x with hbAt := u.now, hbSeen := true, hbReady := ready && u.ready1 }) ∧ (ready && u.ready1) = true ∧
      v.holding ≠ []) ∧
    (∃ (s : State) (dt : Nat), let u := s.tick dt; (u.out.notice = true ∨ u.now < u.out.noticeAt + 2000000)) ∧
    (∃ (s : State) (dt : Nat), let u := s.tick dt; u.out.notice = false ∧ u.diesAct = true ∧ maskOf u.hbLate 3 ≠ 0 ∧ ∃ (v : State),
      v = (u.wr Reg.LIMP_STAT_HBLOSS 0 (Nat.lor (u.rd Reg.LIMP_STAT_HBLOSS) (maskOf u.hbLate 3))).limpEnter 2 ∧ v.pwr.phase = .run) ∧
    (∃ (s : State) (dt : Nat), let u := s.tick dt; u.out.notice = false ∧ u.diesAct = true ∧ maskOf u.hbLate 3 ≠ 0 ∧ ∃ (v : State),
      v = (u.wr Reg.LIMP_STAT_HBLOSS 0 (Nat.lor (u.rd Reg.LIMP_STAT_HBLOSS) (maskOf u.hbLate 3))).limpEnter 2 ∧ ∃ k, v.pwr.phase = .entering k) ∧
    (∃ (s : State) (dt : Nat) (o : Nat) (r : Nat), let u := s.tick dt; recIx o = some r ∧ u.flag Reg.LH_LHR1_INHOLD r = true ∧
      (u.limp r).holdEnd ≤ u.now + u.holdw r / 50) ∧
    (∃ (s : State) (dt : Nat) (o : Nat) (r : Nat), let u := s.tick dt; recIx o = some r ∧ u.pairedOff r = true ∧ u.diesAct = true ∧
      u.recActs r = true ∧ u.ovFrozen o = false) :=
  ⟨⟨(((ph .stop).pw (fun q => { q with phase := .stop })).wr Reg.PWR_TMR 0 1), 0, by decide, by decide, by decide⟩,
  ⟨(live.wr Reg.PWR_CFG_TKWAKE (0) 1), 0, by decide⟩,
  ⟨((live.onHost (fun q => { q with perst := true })).wr Reg.PWR_CFG_PERSTWAKE 0 1), 0, _, rfl, by decide, by decide⟩,
  ⟨(live.onHost (fun q => { q with perst := true })), 0, _, rfl, by decide, by decide⟩,
  ⟨live, 0, _, rfl, by decide, by decide⟩,
  ⟨(ph .stop), 0, _, rfl, by decide⟩,
  ⟨(live.wr Reg.LIMP_STAT_ACTIVE 0 1), 0, 0, 0, _, _, rfl, by decide, by decide, rfl⟩,
  ⟨live, 0, 0, _, rfl, by decide⟩,
  ⟨(live.onOut (fun q => { q with notice := false })), 0, false, by decide, by decide, by decide, _, rfl, by decide⟩,
  ⟨((live.onOut (fun q => { q with notice := false })).wr Reg.LH_LHR1_INHOLD 0 1), 0, true, by decide, by decide, by decide, _, rfl, by decide,
    by decide⟩,
  ⟨live, 0, by decide⟩,
  ⟨(live.onOut (fun q => { q with notice := false })), 0, by decide, by decide, by decide, _, rfl, by decide⟩,
  ⟨((ph (.entering 0)).onOut (fun q => { q with notice := false })), 0, by decide, by decide, by decide, _, rfl, 0, by decide⟩,
  ⟨(live.wr Reg.LH_LHR1_INHOLD (1) 1), 0, 1, 1, by decide, by decide, by decide⟩,
  ⟨((live.wr Reg.LH_LHR0_PAIRED 1 1).onOut (fun q => { q with notice := false })), 0, 1, 1, by decide, by decide, by decide, by decide, by decide⟩⟩

/-- Hypotheses of `Obligations.FifeAndShawm`. -/
theorem test_witness_FifeAndShawm :
    (∃ (s : State) (dt : Nat) (k : Nat), let u := s.tick dt; isCore k = true ∧ u.coreRuns k = true) ∧
    (∃ (s : State) (dt : Nat) (k : Nat), let u := s.tick dt; isCore k = true ∧ u.coreRuns k = true) ∧
    (∃ (s : State) (dt : Nat) (k : Nat) (l : List Cmd), let u := s.tick dt; ∃ (v : State), isCore k = true ∧ u.firmware = true ∧ l = u.triggered k ∧
      l ≠ [] ∧ (∀ c ∈ l, (u.firstAnswer c).isSome = true) ∧ v = l.foldl (fun s c => s.takeAnswer k c) u ∧ (v.triggered k).length ≠ l.length) ∧
    (∃ (s : State) (dt : Nat) (k : Nat), let u := s.tick dt; isCore k = true ∧ u.firmware = true ∧
      ((u.coreK k).holds.filter fun h => !u.waitOver h).length ≠ (u.coreK k).holds.length ∧ ∃ hs,
      hs = (u.coreK k).holds.filter (fun h => !u.waitOver h)) ∧
    (∃ (s : State) (dt : Nat) (k : Nat), let u := s.tick dt; isCore k = true ∧ u.firmware = true ∧ (u.coreK k).mbx ≠ [] ∧ Hold.rx ∈ (u.coreK k).holds) ∧
    (∃ (s : State) (dt : Nat), let u := s.tick dt; u.running = true ∧ u.rd Reg.SHW_STAT_MODE = 0) ∧
    (∃ (s : State) (dt : Nat), let u := s.tick dt; u.joining = true ∧ u.core.runB = false) ∧
    (∃ (s : State) (dt : Nat), let u := s.tick dt; u.joining = true ∧ u.core.runB = false ∧ ∃ (v : State),
      v = (u.modCore 8 fun c => { c.put 0x20E 0 with holds := c.holds.erase .join }).wr Reg.SHW_STAT_MODE 0 0) ∧
    (∃ (s : State) (dt : Nat), let u := s.tick dt; u.joining = true ∧ u.core.runB = true ∧
      u.core.splitAt + u.rd Reg.SHW_CFG_SPLITMAX * 1000000 ≤ u.now) ∧
    (∃ (s : State) (dt : Nat), let u := s.tick dt; ∃ (v : State) (w : State), u.running = true ∧ u.dbgLevel = 2 ∧ u.rd Reg.SHW_STAT_MODE ≠ 2 ∧
      v = (u.wr Reg.SHW_STAT_MODE 0 2).setFlag Reg.SHW_STAT_LLDBG 0 0x1F82 0xFFFF 0 ∧
      w = ({ v with core := { v.core with runB := false, inj := none } } : State).debugPolicies ∧ w.twSt = 0) ∧
    (∃ (s : State) (dt : Nat), let u := s.tick dt; ∃ (v : State) (w : State), u.running = true ∧ u.dbgLevel = 2 ∧ u.rd Reg.SHW_STAT_MODE ≠ 2 ∧
      v = (u.wr Reg.SHW_STAT_MODE 0 2).setFlag Reg.SHW_STAT_LLDBG 0 0x1F82 0xFFFF 0 ∧
      w = ({ v with core := { v.core with runB := false, inj := none } } : State).debugPolicies ∧ w.twSt ≠ 0) :=
  ⟨⟨(live.wr Reg.FIFE_STAT_STATE 0 1), 0, 0, by decide, by decide⟩,
  ⟨(live.wr Reg.FIFE_STAT_STATE 0 1), 0, 0, by decide, by decide⟩,
  ⟨((live.modCore 0 (fun q => { q with holds := [.chan [cmd 0x2001 3]] })).onHost (fun q => { q with inflight := [{ cmd := cmd 0x2001 3, begun := true }] })),
    0, 0, _, _, by decide, by decide, rfl, by decide, by decide, rfl, by decide⟩,
  ⟨(live.modCore 0 (fun q => { q with holds := [.wait (10 ^ 9 % 65536)] })), 0, 0, by decide, by decide, by decide, _, rfl⟩,
  ⟨(live.modCore 0 (fun q => { q with holds := [.rx], mbx := [1] })), 0, 0, by decide, by decide, by decide, by decide⟩,
  ⟨(live.wr Reg.SHW_STAT_MODE (0) 0), 0, by decide, by decide⟩,
  ⟨(((live.onCore (fun q => { q with runB := false })).wr Reg.SHW_STAT_MODE 0 1).modCore 8 (fun q => { q with holds := [.join] })), 0, by decide,
    by decide⟩,
  ⟨(((live.onCore (fun q => { q with runB := false })).wr Reg.SHW_STAT_MODE 0 1).modCore 8 (fun q => { q with holds := [.join] })), 0, by decide,
    by decide, _, rfl⟩,
  ⟨(((live.onCore (fun q => { q with runB := true })).wr Reg.SHW_STAT_MODE 0 1).modCore 8 (fun q => { q with holds := [.join] })), 0, by decide,
    by decide, by decide⟩,
  ⟨(live.wr Reg.SEC_DBG_LEVEL 0 2), 0, _, _, by decide, by decide, by decide, rfl, rfl, by decide⟩,
  ⟨((tw 3 1).wr Reg.SEC_DBG_LEVEL 0 2), 0, _, _, by decide, by decide, by decide, rfl, rfl, by decide⟩⟩

/-- Hypotheses of `Obligations.AccessRows`. -/
theorem test_witness_AccessRows_1 :
    (∃ (s : State) (dt : Ns) (bs : List Byte), let u := s.tick dt; let a := u.acc; u.firmware = true ∧ u.pwr.refPresent = true ∧
      u.flag Reg.ACC_CFG_TKEN = true ∧ tokenFrameOk bs = true ∧ recNum bs 0 1 = 1 ∧ bs.length = 7 ∧ u.accBusy = false ∧ a.phase ≠ .rounds ∧
      a.lockEnd = none) ∧
    (∃ (s : State) (dt : Ns) (bs : List Byte), let u := s.tick dt; let a := u.acc; u.firmware = true ∧ u.pwr.refPresent = true ∧
      u.flag Reg.ACC_CFG_TKEN = true ∧ tokenFrameOk bs = true ∧ recNum bs 0 1 = 1 ∧ bs.length = 7 ∧ a.phase ≠ .rounds ∧ a.lockEnd.isSome = true) ∧
    (∃ (s : State) (dt : Ns) (bs : List Byte), let u := s.tick dt; let a := u.acc; u.firmware = true ∧ u.pwr.refPresent = true ∧
      u.flag Reg.ACC_CFG_LFEN = true ∧ a.phase = .rounds ∧ u.inSlot = true ∧ ∃ (v : State), v = u.ac (fun x => { x with bad := true }) ∧
      tokenFrameOk bs = false) ∧
    (∃ (s : State) (dt : Ns) (bs : List Byte), let u := s.tick dt; let a := u.acc; u.firmware = true ∧ u.pwr.refPresent = true ∧
      u.flag Reg.ACC_CFG_LFEN = true ∧ a.phase = .rounds ∧ u.inSlot = true ∧ ∃ (v : State), v = u.ac (fun x => { x with bad := true }) ∧
      tokenFrameOk bs = true ∧ recNum bs 0 1 = 3 ∧ bs.length = 6 ∧ v.acc.phase = .rounds ∧ v.inSlot = true) ∧
    (∃ (s : State) (dt : Ns) (bs : List Byte), let u := s.tick dt; let a := u.acc; u.firmware = true ∧ u.pwr.refPresent = true ∧
      u.flag Reg.ACC_CFG_LFEN = true ∧ a.phase = .rounds ∧ u.inSlot = true ∧ ∃ (v : State), v = u.ac (fun x => { x with bad := true }) ∧
      tokenFrameOk bs = true ∧ recNum bs 0 1 = 3 ∧ bs.length = 6) ∧
    (∃ (s : State) (dt : Ns) (bs : List Byte), let u := s.tick dt; let a := u.acc;
      let hears := u.firmware && u.pwr.refPresent && u.flag Reg.ACC_CFG_LFEN && tokenFrameOk bs; hears = true ∧ a.phase = .response ∧
      recNum bs 0 1 = 5 ∧ recNum bs 1 4 = a.serial ∧ a.opens ≤ u.now ∧ u.now ≤ a.closes ∧ bs.length = 22 ∧
      recNum bs 13 8 ≠ Config.aes128 a.key (a.rc + recNum bs 5 8 * 2 ^ 64) % 2 ^ 64) ∧
    (∃ (s : State) (dt : Ns) (bs : List Byte), let u := s.tick dt; let a := u.acc;
      let hears := u.firmware && u.pwr.refPresent && u.flag Reg.ACC_CFG_LFEN && tokenFrameOk bs; hears = true ∧ a.phase = .response ∧
      recNum bs 0 1 = 5 ∧ recNum bs 1 4 = a.serial ∧ a.opens ≤ u.now ∧ u.now ≤ a.closes ∧ bs.length = 22 ∧
      recNum bs 13 8 = Config.aes128 a.key (a.rc + recNum bs 5 8 * 2 ^ 64) % 2 ^ 64) ∧
    (∃ (s : State) (dt : Ns) (bs : List Byte), let u := s.tick dt; let a := u.acc;
      let hears := u.firmware && u.pwr.refPresent && u.flag Reg.ACC_CFG_LFEN && tokenFrameOk bs; hears = true ∧ a.phase = .acknowledge ∧
      recNum bs 0 1 = 7 ∧ recNum bs 1 4 = a.serial ∧ a.opens ≤ u.now ∧ u.now ≤ a.closes ∧ bs.length = 7 ∧ recNum bs 5 1 = 0) ∧
    (∃ (s : State) (dt : Ns) (bs : List Byte), let u := s.tick dt; let a := u.acc;
      let hears := u.firmware && u.pwr.refPresent && u.flag Reg.ACC_CFG_LFEN && tokenFrameOk bs; hears = true ∧ a.phase = .acknowledge ∧
      recNum bs 0 1 = 7 ∧ recNum bs 1 4 = a.serial ∧ a.opens ≤ u.now ∧ u.now ≤ a.closes ∧ bs.length = 7 ∧ recNum bs 5 1 = 1) ∧
    (∃ (s : State) (dt : Ns), let u := s.tick dt; let a := u.acc; a.phase = .rounds ∧ a.slotEnd ≤ u.now ∧ ∃ (v : State),
      v = (if a.bad then (((u.bump Reg.ACC_CNT_COLL 0).accCount 3).accEvent 0x85 (atByte 16 a.round + atByte 17 a.slot)).ac fun x => { x with collided := true, bad := false } else u) ∧
      a.slot < 7) ∧
    (∃ (s : State) (dt : Ns), let u := s.tick dt; let a := u.acc; a.phase = .rounds ∧ a.slotEnd ≤ u.now ∧ ∃ (v : State),
      v = (if a.bad then (((u.bump Reg.ACC_CNT_COLL 0).accCount 3).accEvent 0x85 (atByte 16 a.round + atByte 17 a.slot)).ac fun x => { x with collided := true, bad := false } else u) ∧
      a.slot = 7 ∧ v.acc.collided = true ∧ a.round < 2) ∧
    (∃ (s : State) (dt : Ns), let u := s.tick dt; let a := u.acc; a.phase = .rounds ∧ a.slotEnd ≤ u.now ∧ ∃ (v : State),
      v = (if a.bad then (((u.bump Reg.ACC_CNT_COLL 0).accCount 3).accEvent 0x85 (atByte 16 a.round + atByte 17 a.slot)).ac fun x => { x with collided := true, bad := false } else u) ∧
      a.slot = 7 ∧ (v.acc.collided = false ∨ 2 ≤ a.round)) :=
  ⟨⟨((live.pw (fun q => { q with refPresent := true })).wr Reg.ACC_CFG_TKEN (0) 1), 0, (tok [1, 0, 0, 0, 0, 0]), by decide, by decide, by decide,
    by decide, by decide, by decide, by decide, by decide, by decide⟩,
  ⟨(((live.pw (fun q => { q with refPresent := true })).wr Reg.ACC_CFG_TKEN (0) 1).ac (fun q => { q with lockEnd := some 0 })), 0,
    (tok [1, 0, 0, 0, 0, 0]), by decide, by decide, by decide, by decide, by decide, by decide, by decide, by decide⟩,
  ⟨((((live.pw (fun q => { q with refPresent := true })).wr Reg.ACC_CFG_LFEN (0) 1).ac (fun q => { q with phase := .rounds })).ac (fun q => { q with slotEnd := 10 ^ 12 })),
    0, [], by decide, by decide, by decide, by decide, by decide, _, rfl, by decide⟩,
  ⟨((((live.pw (fun q => { q with refPresent := true })).wr Reg.ACC_CFG_LFEN (0) 1).ac (fun q => { q with phase := .rounds })).ac (fun q => { q with slotEnd := 10 ^ 12 })),
    0, (tok [3, 0, 0, 0, 0]), by decide, by decide, by decide, by decide, by decide, _, rfl, by decide, by decide, by decide, by decide, by decide⟩,
  ⟨((((live.pw (fun q => { q with refPresent := true })).wr Reg.ACC_CFG_LFEN (0) 1).ac (fun q => { q with phase := .rounds })).ac (fun q => { q with slotEnd := 10 ^ 12 })),
    0, (tok [3, 0, 0, 0, 0]), by decide, by decide, by decide, by decide, by decide, _, rfl, by decide, by decide, by decide⟩,
  ⟨((((live.ac (fun q => { q with phase := .response })).pw (fun q => { q with refPresent := true })).wr Reg.ACC_CFG_LFEN 0 1).ac (fun q => { q with closes := 10 ^ 13 })),
    0, (answer (Config.aes128 0 0 + 1)), (by show (_ && tokenFrameOk (_ ++ [crc8 _])) = true; rw [tokenFrameOk_crc _ (Nat.le_add_left 1 _)]; decide),
    by decide, rfl, rfl, by decide, by decide, rfl, (by rw [answer_mac]; show _ ≠ Config.aes128 0 0 % 2 ^ 64; omega)⟩,
  ⟨((((live.ac (fun q => { q with phase := .response })).pw (fun q => { q with refPresent := true })).wr Reg.ACC_CFG_LFEN 0 1).ac (fun q => { q with closes := 10 ^ 13 })),
    0, (answer (Config.aes128 0 0)), (by show (_ && tokenFrameOk (_ ++ [crc8 _])) = true; rw [tokenFrameOk_crc _ (Nat.le_add_left 1 _)]; decide),
    by decide, rfl, rfl, by decide, by decide, rfl, answer_mac _⟩,
  ⟨((((live.ac (fun q => { q with phase := .acknowledge })).pw (fun q => { q with refPresent := true })).wr Reg.ACC_CFG_LFEN 0 1).ac (fun q => { q with closes := 10 ^ 13 })),
    0, (tok [7, 0, 0, 0, 0, 0]), by decide, by decide, by decide, by decide, by decide, by decide, by decide, by decide⟩,
  ⟨((((live.ac (fun q => { q with phase := .acknowledge })).pw (fun q => { q with refPresent := true })).wr Reg.ACC_CFG_LFEN 0 1).ac (fun q => { q with closes := 10 ^ 13 })),
    0, (tok [7, 0, 0, 0, 0, 1]), by decide, by decide, by decide, by decide, by decide, by decide, by decide, by decide⟩,
  ⟨(live.ac (fun q => { q with phase := .rounds })), 0, by decide, by decide, _, rfl, by decide⟩,
  ⟨(((live.ac (fun q => { q with phase := .rounds })).ac (fun q => { q with slot := 7 })).ac (fun q => { q with collided := true, slot := 7 })), 0,
    by decide, by decide, _, rfl, by decide, by decide, by decide⟩,
  ⟨((live.ac (fun q => { q with phase := .rounds })).ac (fun q => { q with slot := 7 })), 0, by decide, by decide, _, rfl, by decide, by decide⟩⟩

/-- Hypotheses of `Obligations.AccessRows`. -/
theorem test_witness_AccessRows_2 :
    (∃ (s : State) (dt : Ns), let u := s.tick dt; let a := u.acc; ((a.phase = .response ∧ a.closes ≤ u.now) ∨ (a.phase = .acknowledge ∧
      a.closes ≤ u.now + 1000000))) ∧
    (∃ (s : State) (dt : Ns), let u := s.tick dt; let a := u.acc; a.phase = .session ∧ a.lastAt + 500000000 ≤ u.now) ∧
    (∃ (s : State) (dt : Ns) (past : Bool) (t0 : Nat) (kenc : Nat) (kmac : Nat), let u := s.tick dt; let a := u.acc; u.firmware = true ∧
      a.authAt = some t0 ∧ a.relAt ≤ u.now + 1000000 ∧ u.nv.relKeys = some (kenc, kmac) ∧ ∃ (v : State),
      v = ((u.ac fun x => { x with relAt := u.now + 100000000 }).relNeed).relWithdraw (u.rd Reg.ACC_CFG_RELCH) past ∧ v.acc.ctr < 0xFFFFF000 ∧
      (u.ac fun x => { x with relAt := u.now + 100000000 }).acc.authAt = some t0) ∧
    (∃ (s : State) (dt : Ns) (t0 : Nat), let u := s.tick dt; let a := u.acc; a.authAt = some t0 ∧ u.rd Reg.ACC_CFG_AUTHT ≠ 0 ∧
      t0 + u.rd Reg.ACC_CFG_AUTHT * 1000000000 ≤ u.now) ∧
    (∃ (s : State) (dt : Ns) (t0 : Nat), let u := s.tick dt; let a := u.acc; a.lockEnd = some t0 ∧ t0 ≤ u.now ∧ u.dieC = true ∧ ∃ (v : State),
      v = (u.ac fun x => { x with lockEnd := none, fails := [] }).lockStore) ∧
    (∃ (s : State) (dt : Ns), let u := s.tick dt; let a := u.acc; a.lockEnd.isSome = true ∧ u.dieC = true ∧ a.storedAt + 60000000000 ≤ u.now) ∧
    (∃ (s : State) (dt : Ns) (c : Cmd), let b := s.taken dt c; s.starts dt c 0x5020 [.access] = true ∧ b.acc.lockEnd.isSome = true) ∧
    (∃ (s : State) (dt : Ns) (c : Cmd) (rcd : List Byte) (past : Bool), let b := s.taken dt c; c.arg 16 8 % 8 = 0 ∧ 256 ≤ c.arg 24 2 ∧
      b.dmaOk c.pf (c.arg 16 8) 256 = true ∧ s.starts dt c 0x5020 [.access] = true ∧ b.acc.lockEnd = none ∧ ∃ (slot : Nat) (serial : Nat) (e : Enrol),
      slot = recNum rcd 24 1 ∧ serial = recNum rcd 20 4 ∧ slot < 16 ∧ recNum rcd 25 3 = 0 ∧ recNum rcd 44 40 = 0 ∧
      b.recBar rcd past { defined := fun t op => t == 5 && op == 1, admitted := b.tokenAdmits } = none ∧
      ((b.nv.token slot).state = 1 → (b.nv.token slot).serial = serial) ∧
      ((List.range 16).any fun k => k != slot && (b.nv.token k).state == 1 && (b.nv.token k).serial == serial) = false ∧
      e = { cmd := c, serial, slot, key := recNum rcd 28 16, count := recNum rcd 12 4 } ∧ b.acc.phase = .idle) ∧
    (∃ (s : State) (dt : Ns) (c : Cmd) (rcd : List Byte) (past : Bool), let b := s.taken dt c; c.arg 16 8 % 8 = 0 ∧ 256 ≤ c.arg 24 2 ∧
      b.dmaOk c.pf (c.arg 16 8) 256 = true ∧ s.starts dt c 0x5020 [.access] = true ∧ b.acc.lockEnd = none ∧ ∃ (slot : Nat) (serial : Nat) (e : Enrol),
      slot = recNum rcd 24 1 ∧ serial = recNum rcd 20 4 ∧ slot < 16 ∧ recNum rcd 25 3 = 0 ∧ recNum rcd 44 40 = 0 ∧
      b.recBar rcd past { defined := fun t op => t == 5 && op == 1, admitted := b.tokenAdmits } = none ∧
      ((b.nv.token slot).state = 1 → (b.nv.token slot).serial = serial) ∧
      ((List.range 16).any fun k => k != slot && (b.nv.token k).state == 1 && (b.nv.token k).serial == serial) = false ∧
      e = { cmd := c, serial, slot, key := recNum rcd 28 16, count := recNum rcd 12 4 } ∧ b.acc.phase ≠ .idle) ∧
    (∃ (s : State) (dt : Ns) (c : Cmd) (rcd : List Byte) (past : Bool), let b := s.taken dt c; c.arg 16 8 % 8 = 0 ∧ 256 ≤ c.arg 24 2 ∧
      b.dmaOk c.pf (c.arg 16 8) 256 = true ∧ s.starts dt c 0x5021 [.access] = true ∧
      b.recBar rcd past { defined := fun t op => t == 5 && (op == 2 || op == 3), admitted := b.tokenAdmits } = none ∧ recNum rcd 17 1 = 2 ∧
      ∃ (v : State) (k : Nat), k = recNum rcd 24 1 ∧ k < 16 ∧ recNum rcd 20 4 = 0 ∧ recNum rcd 25 59 = 0 ∧
      v = (({ b with nv := { b.nv with tokens := tput b.nv.tokens k { b.nv.token k with state := 2, key := 0 } } } : State).accept (recNum rcd 12 4)).accEvent 0x87 (atByte 16 2 + atByte 17 k + atByte 20 (b.nv.token k).serial)) ∧
    (∃ (s : State) (dt : Ns) (c : Cmd) (rcd : List Byte) (past : Bool), let b := s.taken dt c; c.arg 16 8 % 8 = 0 ∧ 256 ≤ c.arg 24 2 ∧
      b.dmaOk c.pf (c.arg 16 8) 256 = true ∧ s.starts dt c 0x5021 [.access] = true ∧
      b.recBar rcd past { defined := fun t op => t == 5 && (op == 2 || op == 3), admitted := b.tokenAdmits } = none ∧ recNum rcd 17 1 = 3 ∧
      recNum rcd 20 8 = 0 ∧ recNum rcd 76 8 = 0 ∧ ∃ (v : State) (w : State) (keys : Nat),
      keys = Config.transportPlain (recBytes rcd 4 12) (recBytes rcd 0 20) (recBytes rcd 28 32) ∧
      v = ({ b with nv := { b.nv with relKeys := some (keys % 2 ^ 128, keys / 2 ^ 128 % 2 ^ 128), relCtr := 0 } } : State).accept (recNum rcd 12 4) ∧
      w = v.ac (fun x => { x with ctr := 0, spent := false, relAt := max x.relAt v.now })) :=
  ⟨⟨(live.ac (fun q => { q with phase := .response })), 0, by decide⟩,
  ⟨(live.ac (fun q => { q with phase := .session })), 0, by decide, by decide⟩,
  ⟨{ live.ac (fun q => { q with authAt := some 0 }) with nv := { live.nv with relKeys := some (1, 2) } }, 0, false, 0, 1, 2, by decide, by decide,
    by decide, by decide, _, rfl, by decide, by decide⟩,
  ⟨(live.ac (fun q => { q with authAt := some 0 })), 0, 0, by decide, by decide, by decide⟩,
  ⟨(live.ac (fun q => { q with lockEnd := some 0 })), 0, 0, by decide, by decide, by decide, _, rfl⟩,
  ⟨(live.ac (fun q => { q with lockEnd := some 0 })), 0, by decide, by decide, by decide⟩,
  ⟨((live.ac (fun q => { q with lockEnd := some 0 })).has (cmd 0x5020 0x500)), 0, (cmd 0x5020 0x500), by decide, by decide⟩,
  ⟨(recIn 1 0x5020 0x500), 0, (recCmd 0x5020 0x500), [5, 0, 0, 0, 0, 0, 0, 0, 0, 0, 0, 0, 1, 0, 0, 0, 0, 1], true, by decide, by decide, rfl,
    by decide, by decide, 0, 0, _, by decide, by decide, by decide, by decide, by decide,
    State.recBar_none (by decide) (by decide) (by decide) rfl rfl (by decide) (by decide), by decide, by decide, rfl, by decide⟩,
  ⟨(((keyed 1).ac (fun q => { q with phase := .rounds })).has (recCmd 0x5020 0x500)), 0, (recCmd 0x5020 0x500),
    [5, 0, 0, 0, 0, 0, 0, 0, 0, 0, 0, 0, 1, 0, 0, 0, 0, 1], true, by decide, by decide, rfl, by decide, by decide, 0, 0, _, by decide, by decide,
    by decide, by decide, by decide, State.recBar_none (by decide) (by decide) (by decide) rfl rfl (by decide) (by decide), by decide, by decide, rfl,
    by decide⟩,
  ⟨(recIn 1 0x5021 0x500), 0, (recCmd 0x5021 0x500), [5, 0, 0, 0, 0, 0, 0, 0, 0, 0, 0, 0, 1, 0, 0, 0, 0, 2], true, by decide, by decide, rfl,
    by decide, State.recBar_none (by decide) (by decide) (by decide) rfl rfl (by decide) (by decide), by decide, _, _, rfl, by decide, by decide,
    by decide, rfl⟩,
  ⟨(recIn 1 0x5021 0x500), 0, (recCmd 0x5021 0x500), [5, 0, 0, 0, 0, 0, 0, 0, 0, 0, 0, 0, 1, 0, 0, 0, 0, 3], true, by decide, by decide, rfl,
    by decide, State.recBar_none (by decide) (by decide) (by decide) rfl rfl (by decide) (by decide), by decide, by decide, by decide, _, _, _, rfl,
    rfl, rfl⟩⟩

/-- Hypotheses of `Obligations.SecurityRecords`. -/
theorem test_witness_SecurityRecords_1 :
    (∃ (s : State) (dt : Ns) (c : Cmd) (rcd : List Byte) (sig : Bool), let b := s.taken dt c; c.arg 16 8 % 8 = 0 ∧ 256 ≤ c.arg 24 2 ∧
      b.dmaOk c.pf (c.arg 16 8) 256 = true ∧ s.starts dt c 0x5010 [] = true ∧
      b.recBar rcd sig { defined := fun t op => t == 1 && op == 0, installs := true, admitted := b.lifecycle == 0 } = none ∧ recNum rcd 16 1 = 0 ∧
      dataZero rcd 0 = true) ∧
    (∃ (s : State) (dt : Ns) (c : Cmd) (rcd : List Byte) (sig : Bool), let b := s.taken dt c; let k := recNum rcd 17 1; c.arg 16 8 % 8 = 0 ∧
      256 ≤ c.arg 24 2 ∧ b.dmaOk c.pf (c.arg 16 8) 256 = true ∧ s.starts dt c 0x5011 [] = true ∧ b.recBar rcd sig (b.secRule rcd) = none ∧
      recRow rcd = some 0 ∧ (b.nv.keySlot k).programmed = false) ∧
    (∃ (s : State) (dt : Ns) (c : Cmd) (rcd : List Byte) (sig : Bool), let b := s.taken dt c; let k := recNum rcd 17 1; c.arg 16 8 % 8 = 0 ∧
      256 ≤ c.arg 24 2 ∧ b.dmaOk c.pf (c.arg 16 8) 256 = true ∧ s.starts dt c 0x5011 [] = true ∧ b.recBar rcd sig (b.secRule rcd) = none ∧
      recRow rcd = some 1 ∧ b.revokeBar (k - 0x10) (recNum rcd 16 1) rcd = none) ∧
    (∃ (s : State) (dt : Ns) (c : Cmd) (rcd : List Byte) (sig : Bool), let b := s.taken dt c; c.arg 16 8 % 8 = 0 ∧ 256 ≤ c.arg 24 2 ∧
      b.dmaOk c.pf (c.arg 16 8) 256 = true ∧ s.starts dt c 0x5011 [] = true ∧ b.recBar rcd sig (b.secRule rcd) = none ∧ recRow rcd = some 2 ∧
      dataZero rcd 0 = true) ∧
    (∃ (s : State) (dt : Ns) (c : Cmd) (rcd : List Byte) (sig : Bool), let b := s.taken dt c; c.arg 16 8 % 8 = 0 ∧ 256 ≤ c.arg 24 2 ∧
      b.dmaOk c.pf (c.arg 16 8) 256 = true ∧ s.starts dt c 0x5011 [] = true ∧ b.recBar rcd sig (b.secRule rcd) = none ∧ recRow rcd = some 3 ∧
      1 ≤ recNum rcd 20 2 ∧ recNum rcd 20 2 ≤ 480 ∧ dataZero rcd 2 = true) :=
  ⟨⟨(recIn 0 0x5010), 0, (recCmd 0x5010), [1, 0, 0, 0, 0, 0, 0, 0, 0, 0, 0, 0, 1], true, by decide, by decide, rfl, by decide, by decide, by decide,
    by decide⟩,
  ⟨(recIn 1 0x5011), 0, (recCmd 0x5011), [2, 0, 0, 0, 0, 0, 0, 0, 0, 0, 0, 0, 1, 0, 0, 0, 0, 1], true, by decide, by decide, rfl, by decide,
    State.recBar_none (by decide) (by decide) (by decide) rfl rfl (by decide) (by decide), by decide, by decide⟩,
  ⟨(recIn 1 0x5011), 0, (recCmd 0x5011), [2, 0, 0, 0, 0, 0, 0, 0, 0, 0, 0, 0, 1, 0, 0, 0, 0, 0x11], true, by decide, by decide, rfl, by decide,
    State.recBar_none (by decide) (by decide) (by decide) rfl rfl (by decide) (by decide), by decide, by decide⟩,
  ⟨(recIn 1 0x5011), 0, (recCmd 0x5011), [3, 0, 0, 0, 0, 0, 0, 0, 0, 0, 0, 0, 1, 0, 0, 0, 0, 1], true, by decide, by decide, rfl, by decide,
    State.recBar_none (by decide) (by decide) (by decide) rfl rfl (by decide) (by decide), by decide, by decide⟩,
  ⟨(recIn 2 0x5011), 0, (recCmd 0x5011), [3, 0, 0, 0, 0, 0, 0, 0, 0, 0, 0, 0, 1, 0, 0, 0, 0, 2, 0, 0, 5], true, by decide, by decide, rfl, by decide,
    State.recBar_none (by decide) (by decide) (by decide) rfl rfl (by decide) (by decide), by decide, by decide, by decide, by decide⟩⟩

/-- Hypotheses of `Obligations.SecurityRecords`. -/
theorem test_witness_SecurityRecords_2 :
    (∃ (s : State) (dt : Ns) (c : Cmd) (rcd : List Byte) (sig : Bool), let b := s.taken dt c; c.arg 16 8 % 8 = 0 ∧ 256 ≤ c.arg 24 2 ∧
      b.dmaOk c.pf (c.arg 16 8) 256 = true ∧ s.starts dt c 0x5011 [] = true ∧ b.recBar rcd sig (b.secRule rcd) = none ∧ recRow rcd = some 4 ∧
      dataZero rcd 0 = true) ∧
    (∃ (s : State) (dt : Ns) (c : Cmd) (rcd : List Byte) (sig : Bool), let b := s.taken dt c; c.arg 16 8 % 8 = 0 ∧ 256 ≤ c.arg 24 2 ∧
      b.dmaOk c.pf (c.arg 16 8) 256 = true ∧ s.starts dt c 0x5011 [] = true ∧ b.recBar rcd sig (b.secRule rcd) = none ∧ recRow rcd = some 5 ∧
      dataZero rcd 0 = true) ∧
    (∃ (s : State) (dt : Ns) (c : Cmd), let b := s.taken dt c; c.arg 16 8 % 8 = 0 ∧ 256 ≤ c.arg 24 2 ∧ b.dmaOk c.pf (c.arg 16 8) 256 = true ∧
      s.starts dt c 0x5013 [] = true) ∧
    (∃ (s : State) (dt : Ns) (c : Cmd) (t0 : Nat), let b := s.taken dt c; let u := s.tick dt; c.arg 16 8 % 8 = 0 ∧ 256 ≤ c.arg 24 2 ∧
      b.dmaOk c.pf (c.arg 16 8) 256 = true ∧ u.dieC = true ∧ u.lifecycle = 3 ∧ u.sec.svcEnd = some t0 ∧ t0 ≤ u.now) :=
  ⟨⟨(((keyed 2).se (fun q => { q with svcEnd := some 1 })).has (cmd 0x5011 0xFFFF (256 * 2 ^ 64))), 0, (cmd 0x5011 0xFFFF (256 * 2 ^ 64)),
    [3, 0, 0, 0, 0, 0, 0, 0, 0, 0, 0, 0, 1, 0, 0, 0, 0xff, 3], false, by decide, by decide, by decide, by decide, by decide, by decide, by decide⟩,
  ⟨(recIn 2 0x5011), 0, (recCmd 0x5011), [3, 0, 0, 0, 0, 0, 0, 0, 0, 0, 0, 0, 1, 0, 0, 0, 0, 4], true, by decide, by decide, rfl, by decide,
    State.recBar_none (by decide) (by decide) (by decide) rfl rfl (by decide) (by decide), by decide, by decide⟩,
  ⟨(recIn 2 0x5013), 0, (recCmd 0x5013), by decide, by decide, rfl, by decide⟩,
  ⟨((keyed 2).se (fun q => { q with svcEnd := some 0 })), 0, (cmd 0 0 (256 * 2 ^ 64)), 0, by decide, by decide, by decide, by decide, by decide,
    by decide, by decide⟩⟩

/-- Hypotheses of `Obligations.DebugPort`. -/
theorem test_witness_DebugPort :
    (∃ (s : State) (dt : Ns), let u := s.tick dt; u.running = true ∧ (∀ t, u.sec.lockEnd = some t → t ≤ u.now)) ∧
    (∃ (s : State) (dt : Ns) (t0 : Nat), let u := s.tick dt; u.running = true ∧ u.sec.lockEnd = some t0 ∧ u.now < t0) ∧
    (∃ (s : State) (dt : Ns) (req : Nat) (rcd : List Byte) (sig : Bool), let u := s.tick dt; u.running = true ∧ u.dapResult req rcd sig = 1) ∧
    (∃ (s : State) (dt : Ns) (req : Nat) (rcd : List Byte) (sig : Bool), let u := s.tick dt; u.running = true ∧ u.dapResult req rcd sig = 2) ∧
    (∃ (s : State) (dt : Ns) (req : Nat) (rcd : List Byte) (sig : Bool), let u := s.tick dt; u.running = true ∧ ∃ r, u.dapResult req rcd sig = r ∧
      4 ≤ r) ∧
    (∃ (s : State) (dt : Ns), let u := s.tick dt; u.running = true) ∧
    (∃ (s : State) (dt : Ns), let u := s.tick dt; u.sec.nonceOk = true ∧ u.sec.nonceAt + 60000000000 ≤ u.now) ∧
    (∃ (s : State) (dt : Ns) (t0 : Nat), let u := s.tick dt; u.sec.lockEnd = some t0 ∧ t0 ≤ u.now) :=
  ⟨⟨live, 0, by decide, by decide⟩,
  ⟨(live.se (fun q => { q with lockEnd := some (10 ^ 13) })), 0, (10 ^ 13), by decide, by decide, by decide⟩,
  ⟨(((keyed 0).se (fun q => { q with nonceOk := true, nonceAt := 10 ^ 12 })).wr Reg.SEC_DBG_DBGMAX 0 2), 0, 1,
    [4, 0, 0, 0, 0, 0, 0, 0, 0, 0, 0, 0, 0, 0, 0, 0, 0xff, 0, 0, 0, 0, 0, 0, 0, 0, 0, 0, 0, 0, 0, 0, 0, 0, 0, 0, 0, 0, 0, 0, 0, 0, 0, 0, 0, 0, 0, 0, 0, 0, 0, 0, 0, 1],
    false, by decide, by decide⟩,
  ⟨live, 0, 0, [], false, by decide, by decide⟩,
  ⟨((keyed 0).wr Reg.SEC_DBG_DBGMAX 0 2), 0, 1,
    [0, 0, 0, 0, 0, 0, 0, 0, 0, 0, 0, 0, 0, 0, 0, 0, 0, 0, 0, 0, 0, 0, 0, 0, 0, 0, 0, 0, 0, 0, 0, 0, 0, 0, 0, 0, 0, 0, 0, 0, 0, 0, 0, 0, 0, 0, 0, 0, 0, 0, 0, 0, 1],
    false, by decide, 4, by decide, by decide⟩,
  ⟨live, 0, by decide⟩,
  ⟨(live.se (fun q => { q with nonceOk := true })), 0, by decide, by decide⟩,
  ⟨(live.se (fun q => { q with lockEnd := some 0 })), 0, 0, by decide, by decide⟩⟩

/-- Hypotheses of `Obligations.FirmwareUpdate`. -/
theorem test_witness_FirmwareUpdate :
    (∃ (s : State) (dt : Ns) (c : Cmd), let b := s.taken dt c; let k := b.stagingSlot; let st := b.nv.updState; s.starts dt c 0x5030 [] = true ∧
      c.arg 16 8 % 8 = 0 ∧ 8 ≤ c.arg 24 2 ∧ c.arg 24 2 ≤ 32768 ∧ c.arg 24 2 % 8 = 0 ∧ c.arg 28 4 % 8 = 0 ∧ c.arg 28 4 + c.arg 24 2 ≤ slotSize ∧
      st ≠ 3 ∧ st ≠ 4 ∧ b.dmaOk c.pf (c.arg 16 8) (c.arg 24 2) = true ∧ ∃ (f : FwSlot),
      f = (if st = 1 then b.slot k else { valid := false, bytes := (b.slot k).bytes, top := 0 })) ∧
    (∃ (s : State) (dt : Ns) (c : Cmd) (sig : Bool), let b := s.taken dt c; let k := b.stagingSlot; let st := b.nv.updState;
      s.starts dt c 0x5031 [] = true ∧ st ≠ 3 ∧ st ≠ 4 ∧ b.imageFail (b.slot k) sig = 0) ∧
    (∃ (s : State) (dt : Ns) (c : Cmd) (sig : Bool), let b := s.taken dt c; let k := b.stagingSlot; let st := b.nv.updState;
      s.starts dt c 0x5031 [] = true ∧ st ≠ 3 ∧ st ≠ 4 ∧ ∃ e, b.imageFail (b.slot k) sig = e ∧ e ≠ 0) ∧
    (∃ (s : State) (dt : Ns) (c : Cmd) (sig : Bool), let b := s.taken dt c; let k := b.stagingSlot; let st := b.nv.updState;
      s.starts dt c 0x5032 [] = true ∧ st = 2 ∧ b.flag Reg.TW_CFG_EN = false ∧ b.flag Reg.LIMP_STAT_ACTIVE = false ∧ b.imageFail (b.slot k) sig = 0 ∧
      (c.argBits 16 0 1 = 1 ∨ b.holdShort = false)) ∧
    (∃ (s : State) (dt : Ns) (c : Cmd), let b := s.taken dt c; let st := b.nv.updState; s.starts dt c 0x5033 [] = true ∧ st = 4) ∧
    (∃ (s : State) (dt : Ns) (c : Cmd), let b := s.taken dt c; let st := b.nv.updState; s.starts dt c 0x5034 [] = true ∧ (st = 1 ∨ st = 2)) ∧
    (∃ (s : State) (dt : Ns) (c : Cmd), let b := s.taken dt c; let st := b.nv.updState; s.starts dt c 0x5034 [] = true ∧ st = 0) ∧
    (∃ (s : State) (dt : Ns) (c : Cmd), let b := s.taken dt c; s.starts dt c 0x5035 [] = true ∧ ∃ (f : FwSlot) (v : State), f = b.slot b.nv.active ∧
      v = ((b.setCopy b.nv.active { ok := true, live := false, schema := f.schema, vals := f.defaults }).wr Reg.SET_STAT_RESULT 0 2).wr Reg.SET_STAT_REASON 0 5) ∧
    (∃ (s : State) (dt : Ns), let u := s.tick dt; u.running = true ∧ u.nv.updState = 4 ∧ u.flag Reg.UPD_CFG_AUTOCONF = true ∧ u.trialOver = true) ∧
    (∃ (s : State) (dt : Ns), let u := s.tick dt; u.running = true ∧ u.nv.updState = 4 ∧ u.flag Reg.UPD_CFG_AUTOCONF = false ∧ u.trialOver = true) ∧
    (∃ (s : State) (dt : Ns) (c : Cmd), let b := s.taken dt c; let k := b.stagingSlot; let st := b.nv.updState; s.starts dt c 0x5001 [.twin] = true ∧
      b.flag Reg.TW_CFG_EN = true ∧ b.twin.swap = none ∧ b.twin.equinox = none ∧ b.twRole ≠ 2 ∧ st = 2 ∧ (b.slot k).valid = true ∧ b.twSt = 3 ∧
      ((b.slot k).formats.contains 0x0102) = true) ∧
    (∃ (s : State) (dt : Ns), let u := s.tick dt; u.twLive = true ∧ ∃ n, u.nv.eqStep = n ∧ ∃ (v : State),
      v = (u.nvm fun x => { x with eqStep := n + 1 }).eqEvent (n + 1) 0 ∧ n = 1) ∧
    (∃ (s : State) (dt : Ns), let u := s.tick dt; u.twLive = true ∧ ∃ n, u.nv.eqStep = n ∧ ∃ (v : State),
      v = (u.nvm fun x => { x with eqStep := n + 1 }).eqEvent (n + 1) 0 ∧ n = 2 ∧ v.twRole = 1) ∧
    (∃ (s : State) (dt : Ns), let u := s.tick dt; u.twLive = true ∧ ∃ n, u.nv.eqStep = n ∧ ∃ (v : State),
      v = (u.nvm fun x => { x with eqStep := n + 1 }).eqEvent (n + 1) 0 ∧ n = 3 ∧ v.twRole = 2) ∧
    (∃ (s : State) (dt : Ns), let u := s.tick dt; u.twLive = true ∧ ∃ n, u.nv.eqStep = n ∧ ∃ (v : State),
      v = (u.nvm fun x => { x with eqStep := n + 1 }).eqEvent (n + 1) 0 ∧ n = 4) ∧
    (∃ (s : State) (dt : Ns), let u := s.tick dt; u.twLive = true ∧ ∃ n, u.nv.eqStep = n ∧ ∃ (v : State),
      v = (u.nvm fun x => { x with eqStep := n + 1 }).eqEvent (n + 1) 0 ∧ 1 ≤ n ∧ n ≤ 4) :=
  ⟨⟨(((staged 1).has (cmd 0x5030 0xFFFF (8 * 2 ^ 64))).has (cmd 0x5030 0xFFFF (8 * 2 ^ 64))), 0, (cmd 0x5030 0xFFFF (8 * 2 ^ 64)), by decide,
    by decide, by decide, by decide, by decide, by decide, by decide, by decide, by decide, by decide, _, rfl⟩,
  ⟨((staged 1).has (cmd 0x5031 0xFFFF)), 0, (cmd 0x5031 0xFFFF), true, by decide, by decide, by decide,
    State.imageFail_zero (by decide +kernel) image0_digest (by decide) rfl rfl (by decide)⟩,
  ⟨((keyed 2).has (cmd 0x5031 0xFFFF)), 0, (cmd 0x5031 0xFFFF), false, by decide, by decide, by decide, _, rfl, by decide⟩,
  ⟨((((staged 2).wr Reg.TW_CFG_EN (0) 0).wr Reg.LIMP_STAT_ACTIVE (0) 0).has (cmd 0x5032 0xFFFF)), 0, (cmd 0x5032 0xFFFF), true, by decide, by decide,
    by decide, by decide, State.imageFail_zero (by decide +kernel) image0_digest (by decide) rfl rfl (by decide), by decide⟩,
  ⟨((staged 4).has (cmd 0x5033 0xFFFF)), 0, (cmd 0x5033 0xFFFF), by decide, by decide⟩,
  ⟨((staged 1).has (cmd 0x5034 0xFFFF)), 0, (cmd 0x5034 0xFFFF), by decide, by decide⟩,
  ⟨(live.has (cmd 0x5034 0xFFFF)), 0, (cmd 0x5034 0xFFFF), by decide, by decide⟩,
  ⟨(live.has (cmd 0x5035 0xFFFF)), 0, (cmd 0x5035 0xFFFF), by decide, _, _, rfl, rfl⟩,
  ⟨((live.nvm (fun q => { q with updState := 4 })).wr Reg.UPD_CFG_AUTOCONF (0) 1), 0, by decide, by decide, by decide, by decide⟩,
  ⟨((live.nvm (fun q => { q with updState := 4 })).wr Reg.UPD_CFG_AUTOCONF (0) 0), 0, by decide, by decide, by decide, by decide⟩,
  ⟨((((((staged 2).wr Reg.TW_STAT_ROLE 0 1).wr Reg.TW_CFG_EN 0 1).wr Reg.TW_CFG_EN (0) 1).wr Reg.TW_STAT_STATE 0 3).has (cmd 0x5001 0x400)), 0,
    (cmd 0x5001 0x400), by decide, by decide, by decide, by decide, by decide, by decide, by decide, by decide, by decide⟩,
  ⟨((tw 3 1).nvm (fun q => { q with eqStep := 1 })), 0, by decide, 1, by decide, _, rfl, by decide⟩,
  ⟨((tw 3 1).nvm (fun q => { q with eqStep := 2 })), 0, by decide, 2, by decide, _, rfl, by decide, by decide⟩,
  ⟨(((tw 3 2).nvm (fun q => { q with eqStep := 3 })).nvm (fun q => { q with eqStep := 3 })), 0, by decide, 3, by decide, _, rfl, by decide,
    by decide⟩,
  ⟨((tw 3 1).nvm (fun q => { q with eqStep := 4 })), 0, by decide, 4, by decide, _, rfl, by decide⟩,
  ⟨((tw 3 1).nvm (fun q => { q with eqStep := 1 })), 0, by decide, 1, by decide, _, rfl, by decide, by decide⟩⟩

/-- Hypotheses of `Obligations.ScrubAndCalibration`. -/
theorem test_witness_ScrubAndCalibration :
    (∃ (s : State) (dt : Ns), let u := s.tick dt; u.dieC = true ∧ (∀ t, u.flt.scrubAt = some t → t + 10000000000 ≤ u.now)) ∧
    (∃ (s : State) (dt : Ns) (x : Int), let u := s.tick dt; u.dieC = true ∧ (∀ t, u.flt.calAt = some t → t + 1000000000 ≤ u.now) ∧ x.natAbs ≤ 4) ∧
    (∃ (s : State) (dt : Ns) (k : Nat) (x : Int), let u := s.tick dt; u.dieC = true ∧ (∀ t, u.flt.calAt = some t → t + 1000000000 ≤ u.now) ∧ k < 4 ∧
      4 < x.natAbs) ∧
    (∃ (s : State) (dt : Ns) (k : Nat), let u := s.tick dt; bit (u.rd Reg.SPR_MISC_ADCLOST) k = true) ∧
    (∃ (s : State) (dt : Ns) (k : Nat), let u := s.tick dt; u.dieC = true ∧ k < 4 ∧ bit (u.rd Reg.SPR_MISC_ADCLOST) k = false ∧
      bit (u.rd Reg.SPR_MISC_ADCSP) k = false) ∧
    (∃ (s : State) (dt : Ns) (k : Nat), let u := s.tick dt; u.dieC = true ∧ k < 4 ∧ bit (u.rd Reg.SPR_MISC_ADCLOST) k = false ∧
      bit (u.rd Reg.SPR_MISC_ADCSP) k = true) :=
  ⟨⟨live, 0, by decide, by decide⟩,
  ⟨live, 0, 3, by decide, by decide, by decide⟩,
  ⟨live, 0, 0, 5, by decide, by decide, by decide, by decide⟩,
  ⟨(live.wr Reg.SPR_MISC_ADCLOST 0 1), 0, 0, by decide⟩,
  ⟨live, 0, 0, by decide, by decide, by decide, by decide⟩,
  ⟨(live.wr Reg.SPR_MISC_ADCSP 0 1), 0, 0, by decide, by decide, by decide, by decide⟩⟩

/-- Hypotheses of `Obligations.SetupReadsAndWrites`. -/
theorem test_witness_SetupReadsAndWrites :
    (∃ (s : State) (dt : Ns) (pf : Nat) (win : Nat) (off : Nat), let u := s.tick dt; u.writable pf win off = true ∧ win < 34 ∧ off < 4096 ∧
      reservedWin win = false ∧ win ≠ 1 ∧ off % 4 = 0) ∧
    (∃ (s : State) (dt : Ns) (pf : Nat) (win : Nat) (off : Nat), let u := s.tick dt; u.writable pf win off = true ∧ win < 34 ∧ off < 4096 ∧
      reservedWin win = false ∧ win = 1 ∧ off % 4 = 0) ∧
    (∃ (s : State) (dt : Ns) (pf : Nat) (win : Nat) (off : Nat) (size : Nat), let u := s.tick dt; u.writable pf win off = true ∧ win < 34 ∧
      off < 4096 ∧ reservedWin win = false ∧ (size ≠ 4 ∨ off % 4 ≠ 0)) ∧
    (∃ (s : State) (dt : Ns) (pf : Nat) (win : Nat) (off : Nat), let u := s.tick dt; u.hrReach pf = true ∧ u.running = true ∧
      mayWrite pf win off = false ∧ win < 34 ∧ off < 4096 ∧ reservedWin win = false) ∧
    (∃ (win : Nat), reservedWin win = true ∧ win < 256) ∧
    (∃ (s : State) (dt : Ns) (pf : Nat) (win : Nat) (off : Nat), let u := s.tick dt; u.host.linkUp = true ∧ pf < 4 ∧ win < 256 ∧ off < 4096 ∧
      off % 4 = 0 ∧ ¬ (win = 0x1E ∧ off = 0x804)) ∧
    (∃ (s : State) (dt : Ns) (pf : Nat) (win : Nat) (off : Nat) (size : Nat), let u := s.tick dt; u.host.linkUp = true ∧ pf < 4 ∧ win < 256 ∧
      off < 4096 ∧ (size ≠ 4 ∨ off % 4 ≠ 0)) ∧
    (∃ (s : State) (dt : Ns) (v : Nat), let u := s.tick dt; u.writable 0 0 0 = true ∧ v ≤ 2) ∧
    (∃ (s : State) (dt : Ns) (v : Nat), let u := s.tick dt; u.writable 0 0 0 = true ∧ v ≤ 2 ∧ ∃ (x : State),
      x = (u.wr Reg.GLB_PACE_REQ 0 v).wr Reg.GLB_PACE_REQ 0 (u.rd Reg.GLB_PACE_REQ)) ∧
    (∃ (s : State) (dt : Ns), let u := s.tick dt; u.writable 0 5 0x608 = true ∧ u.rd Reg.FLT_GLB_CASE_OVERTEMP = 1) ∧
    (∃ (s : State) (dt : Ns) (pf : Nat), let u := s.tick dt; u.writable pf 8 0xD04 = true ∧ pf = 0 ∧ bit (u.rd Reg.LIMP_STAT_CAUSE) 1 = true ∧
      u.hbPresent = true ∧ u.out.hbReady = true ∧ u.flag Reg.LIMP_STAT_LIMPN = false) ∧
    (∃ (s : State) (dt : Ns) (pf : Nat), let u := s.tick dt; u.writable pf 8 0xD04 = true ∧
      (pf ≠ 0 ∨ bit (u.rd Reg.LIMP_STAT_CAUSE) 1 = false ∨ u.hbPresent = false ∨ u.out.hbReady = false ∨ u.flag Reg.LIMP_STAT_LIMPN = true)) ∧
    (∃ (s : State) (dt : Ns) (pf : Nat) (v : Nat), let u := s.tick dt; u.writable pf 0x0B 0xC04 = true ∧ v < 4096) ∧
    (∃ (s : State) (dt : Ns) (pf : Nat), let u := s.tick dt; u.writable pf 0x0C 8 = true) ∧
    (∃ (s : State) (dt : Ns) (pf : Nat), let u := s.tick dt; u.writable pf 3 0 = true) ∧
    (∃ (s : State) (dt : Ns) (pf : Nat) (v : Nat), let u := s.tick dt; u.writable pf 4 4 = true ∧ v < 4) ∧
    (∃ (s : State) (dt : Ns) (pf : Nat), let u := s.tick dt; u.writable pf 4 0x18 = true) ∧
    (∃ (s : State) (dt : Ns) (pf : Nat), let u := s.tick dt; u.writable pf 0x20 0xC = true) ∧
    (∃ (s : State) (dt : Ns) (pf : Nat) (g : Nat), let u := s.tick dt; u.writable pf 0x1C 0xC20 = true ∧ g < 64) :=
  ⟨⟨live, 0, 0, 0, 0, by decide, by decide, by decide, by decide, by decide, by decide⟩,
  ⟨live, 0, 0, 1, 0, by decide, by decide, by decide, by decide, by decide, by decide⟩,
  ⟨live, 0, 0, 0, 0, 0, by decide, by decide, by decide, by decide, by decide⟩,
  ⟨live, 0, 2, 0, 0, by decide, by decide, by decide, by decide, by decide, by decide⟩,
  ⟨6, by decide, by decide⟩,
  ⟨(live.onHost (fun q => { q with linkUp := true })), 0, 0, 0, 0, by decide, by decide, by decide, by decide, by decide, by decide⟩,
  ⟨(live.onHost (fun q => { q with linkUp := true })), 0, 0, 0, 0, 0, by decide, by decide, by decide, by decide, by decide⟩,
  ⟨live, 0, 0, by decide, by decide⟩,
  ⟨live, 0, 0, by decide, by decide, _, rfl⟩,
  ⟨(live.wr Reg.FLT_GLB_CASE_OVERTEMP (0) 1), 0, by decide, by decide⟩,
  ⟨((((live.onOut (fun q => { q with hbReady := true })).wr Reg.LIMP_STAT_LIMPN (0) 0).onOut (fun q => { q with hbReady := true, hbSeen := true, notice := false, hbAt := 10 ^ 12 })).wr Reg.LIMP_STAT_CAUSE 0 2),
    0, 0, by decide, by decide, by decide, by decide, by decide, by decide⟩,
  ⟨live, 0, 0, by decide, by decide⟩,
  ⟨live, 0, 0, 0, by decide, by decide⟩,
  ⟨live, 0, 0, by decide⟩,
  ⟨live, 0, 0, by decide⟩,
  ⟨live, 0, 3, 0, by decide, by decide⟩,
  ⟨live, 0, 3, by decide⟩,
  ⟨live, 0, 3, by decide⟩,
  ⟨live, 0, 0, 0, by decide, by decide⟩⟩

/-- Hypotheses of `Obligations.EnablesAndCores`. -/
theorem test_witness_EnablesAndCores :
    (∃ (s : State) (dt : Ns) (pf : Nat) (n : Nat), let u := s.tick dt; u.hrReach pf = true ∧ n < 16) ∧
    (∃ (s : State) (dt : Ns) (pf : Nat) (g : Nat), let u := s.tick dt; u.hrReach pf = true ∧ g < 34) ∧
    (∃ (s : State) (dt : Ns) (pf : Nat), let u := s.tick dt; u.hrReach pf = true) ∧
    (∃ (s : State) (dt : Ns) (pf : Nat) (k : Nat), let u := s.tick dt; u.writable pf 0x1E 4 = true ∧ k < 4) ∧
    (∃ (s : State) (dt : Ns) (pf : Nat) (k : Nat), let u := s.tick dt; u.writable pf 0x1E 4 = true ∧ k < 4 ∧ ∃ (x : State),
      ((u.rd Reg.FIFE_CTL_RUN k = 1 ∧ x = (u.wr Reg.FIFE_CTL_RUN k 1).fifeRun k) ∨ (u.rd Reg.FIFE_CTL_RUN k = 0 ∧
      x = (u.wr Reg.FIFE_CTL_RUN k 0).fifeHalt k))) ∧
    (∃ (s : State) (dt : Ns) (pf : Nat), let u := s.tick dt; u.writable pf 0x1E 0x804 = true) ∧
    (∃ (s : State) (dt : Ns) (pf : Nat), let u := s.tick dt; u.host.linkUp = true ∧ pf < 4) ∧
    (∃ (s : State) (dt : Ns) (pf : Nat), let u := s.tick dt; u.writable pf 0x1A 4 = true) ∧
    (∃ (s : State) (dt : Ns) (pf : Nat) (w : Nat), let u := s.tick dt; u.writable pf 5 0 = true ∧ pf ≤ 1 ∧ isBlock w = true ∧
      (u.blk w).active = true ∧ u.persists w = false) ∧
    (∃ (s : State) (dt : Ns) (pf : Nat) (w : Nat), let u := s.tick dt; u.writable pf 5 0 = true ∧ pf ≤ 1 ∧ isBlock w = true ∧
      (u.blk w).active = true ∧ u.persists w = true) ∧
    (∃ (s : State) (dt : Ns) (k : Nat) (reason : Nat), let u := s.tick dt; u.writable 0 5 0x704 = true ∧ 1 ≤ k ∧ k < 4 ∧ (u.fn k).frozen = true ∧
      1 ≤ reason ∧ reason < 65536) ∧
    (∃ (s : State) (dt : Ns) (k : Nat), let u := s.tick dt; u.writable 0 5 0x704 = true ∧ 1 ≤ k ∧ k < 4 ∧ (u.fn k).frozen = true) :=
  ⟨⟨live, 0, 0, 0, by decide, by decide⟩,
  ⟨live, 0, 0, 0, by decide, by decide⟩,
  ⟨live, 0, 0, by decide⟩,
  ⟨live, 0, 0, 0, by decide, by decide⟩,
  ⟨(live.wr Reg.FIFE_CTL_RUN 0 1), 0, 0, 0, by decide, by decide, _, .inl ⟨by decide, rfl⟩⟩,
  ⟨live, 0, 0, by decide⟩,
  ⟨(live.onHost (fun q => { q with linkUp := true })), 0, 0, by decide, by decide⟩,
  ⟨live, 0, 0, by decide⟩,
  ⟨{ live with flt := { live.flt with blks := [(8, { active := true })] } }, 0, 0, 8, by decide, by decide, by decide, by decide, by decide⟩,
  ⟨{ live.setFn 3 { frozen := true } with flt := { live.flt with blks := [(1, { active := true })] } }, 0, 0, 1, by decide, by decide, by decide,
    by decide, by decide⟩,
  ⟨(live.setFn 1 { frozen := true }), 0, 1, 1, by decide, by decide, by decide, by decide, by decide, by decide⟩,
  ⟨(live.setFn 1 { frozen := true }), 0, 1, by decide, by decide, by decide, by decide⟩⟩

/-- Hypotheses of `Obligations.StepTakesTheFrontCommand`. -/
theorem test_witness_StepTakesTheFrontCommand :
    ∃ (s : State), s.pending = [] :=
  ⟨live, by decide⟩

/-- Hypotheses of `Obligations.RetirementsAreIrreversible`. -/
theorem test_witness_RetirementsAreIrreversible :
    ∃ (s : State) (t : State), step s = .next t :=
  ⟨live, _, rfl⟩

/-- Hypotheses of `Obligations.RegisterFileStaysCanonical`. -/
theorem test_witness_RegisterFileStaysCanonical :
    ∃ (s : State) (t : State), regsCanon s.regs ∧ step s = .next t :=
  ⟨live, _, ⟨rfl, fun _ h => nomatch h⟩, rfl⟩

/-- Hypotheses of `Obligations.ResetState`. -/
theorem test_witness_ResetState :
    ∃ o, o ≠ 0x400 ∧ o ≠ 0x500 :=
  ⟨0, by decide, by decide⟩

/-- Hypotheses of `Obligations.RegistersReadBack`. -/
theorem test_witness_RegistersReadBack :
    ∃ (f : Field) (g : Field) (i : Nat) (j : Nat), (f.id ≠ g.id ∨ i ≠ j) :=
  ⟨Reg.CH_STAT_RETRIES, Reg.TW_STAT_ROLE, 0, 0, by decide⟩

/-- Hypotheses of `Obligations.OperationsLeaveTheRest`. -/
theorem test_witness_OperationsLeaveTheRest :
    ∃ (s : State), s.quiet = true :=
  ⟨live, by decide⟩

/-- Hypotheses of `Obligations.CompletionReachesItsRing`. -/
theorem test_witness_CompletionReachesItsRing :
    ∃ (s : State) (c : Cmd) (r : InFlight), s.flight c = some r ∧ r.cmd = c ∧ r.cancels = [] ∧ c.src = .host ∧ s.host.outbox = [] ∧
      s.host.staleCmds.contains c = false ∧ (s.fn c.pf).frozen = false ∧ (s.cplRing c.pf r.cpl).en = true ∧
      s.dmaOk c.pf ((s.cplRing c.pf r.cpl).addr 16) 16 = true :=
  ⟨(rings.has (cmd 0x2001 3 0 0)), (cmd 0x2001 3 0 0), { cmd := cmd 0x2001 3 0 0 }, by decide, by decide, by decide, by decide, by decide, by decide,
    by decide, by decide, by decide⟩

/-- Hypotheses of `Obligations.FullEventRing`. -/
theorem test_witness_FullEventRing :
    (∃ (h : HostState) (pf : Nat) (r : OutRing), (tget {} h.fns pf : Func).frozen = false ∧ r = tget {} h.evtRings pf ∧ r.en = true ∧ r.used = r.size) ∧
    (∃ (ok : Nat → Nat → Nat → Bool) (h : HostState) (pf : Nat) (r : OutRing), (tget {} h.fns pf : Func).frozen = false ∧ r = tget {} h.evtRings pf ∧
      r.en = true ∧ r.used ≠ r.size ∧ ok pf (r.addr 32) 32 = true) :=
  ⟨⟨{ evtRings := [(0, { en := true, tail := 16 })] }, 0, _, by decide, rfl, by decide, by decide⟩,
  ⟨fun _ _ _ => true, { evtRings := [(0, { en := true })] }, 0, _, by decide, rfl, by decide, by decide, by decide⟩⟩

/-- Hypotheses of `Obligations.BlockFaultState`. -/
theorem test_witness_BlockFaultState :
    (∃ (s : State) (type : Nat), s.dieC = true ∧ let b := s.blk (blockOf type); b.active = false) ∧
    (∃ (s : State) (type : Nat), s.dieC = true ∧ let b := s.blk (blockOf type); b.active = true) ∧
    (∃ (s : State), s.dieC = true) :=
  ⟨⟨live, 0, by decide, by decide⟩,
  ⟨{ live with flt := { live.flt with blks := [(8, { active := true })] } }, 0x0880, by decide, by decide⟩,
  ⟨live, by decide⟩⟩

/-- Hypotheses of `Obligations.ClampsAndTheirLog`. -/
theorem test_witness_ClampsAndTheirLog :
    (∃ (s : State) (pf : Nat) (src : Nat) (lo : Nat) (hi : Nat) (p : Put), s.fieldLocked pf src p.f p.i = false ∧ p.f.rng = .range lo hi ∧ lo ≤ hi ∧
      p.v < lo) ∧
    (∃ (s : State) (pf : Nat) (src : Nat) (lo : Nat) (hi : Nat) (p : Put), s.fieldLocked pf src p.f p.i = false ∧ p.f.rng = .range lo hi ∧ lo ≤ hi ∧
      hi < p.v) ∧
    (∃ (s : State) (pf : Nat) (src : Nat) (lo : Nat) (hi : Nat) (p : Put), s.fieldLocked pf src p.f p.i = false ∧ p.f.rng = .range lo hi ∧ lo ≤ hi ∧
      lo ≤ p.v ∧ p.v ≤ hi) ∧
    (∃ (s : State) (w : Nat), let l := fun (s : State) (w : Nat) => tget ({} : ClampLog) s.flt.clogs w; (l s w).next < 16) ∧
    (∃ (s : State) (w : Nat), let l := fun (s : State) (w : Nat) => tget ({} : ClampLog) s.flt.clogs w; (l s w).next < 16) ∧
    (∃ (s : State) (w : Nat) (j : Nat), let l := fun (s : State) (w : Nat) => tget ({} : ClampLog) s.flt.clogs w; (l s w).next < 16 ∧
      j ≠ (l s w).next) ∧
    (∃ (s : State) (w : Nat), let l := fun (s : State) (w : Nat) => tget ({} : ClampLog) s.flt.clogs w; (l s w).next < 16) ∧
    (∃ (w : Nat) (w' : Nat), w' ≠ w) ∧
    (∃ (s : State) (w : Nat), let l := fun (s : State) (w : Nat) => tget ({} : ClampLog) s.flt.clogs w; ∃ (es : List ClampEntry), (l s w).next < 16 ∧
      es.length = 16 ∧ ∃ k, k < 16) :=
  ⟨⟨live, 0, 0, 1, 1000, { f := Reg.SV_CFG1_TBST, i := 0, off := 4, v := 0 }, by decide, rfl, by decide, by decide⟩,
  ⟨live, 0, 0, 1, 1000, { f := Reg.SV_CFG1_TBST, i := 0, off := 4, v := 1001 }, by decide, rfl, by decide, by decide⟩,
  ⟨live, 0, 0, 1, 1000, { f := Reg.SV_CFG1_TBST, i := 0, off := 4, v := 1000 }, by decide, rfl, by decide, by decide, by decide⟩,
  ⟨live, 0, by decide⟩,
  ⟨live, 0, by decide⟩,
  ⟨live, 0, 1, by decide, by decide⟩,
  ⟨live, 0, by decide⟩,
  ⟨1, 0, by decide⟩,
  ⟨live, 0, List.replicate 16 { offset := 0, lsb := 0, width := 1, src := 1, pf := 0, req := 0, applied := 0 }, by decide, by decide, 0, by decide⟩⟩

/-- Hypotheses of `Obligations.DebugRequestsOutOfReach`. -/
theorem test_witness_DebugRequestsOutOfReach :
    (∃ (s : State) (dt : Ns) (rcd : List Byte), let u := s.tick dt; let level := recNum rcd 52 1; u.running = true ∧
      (offers u.lifecycle level = false ∨ u.rd Reg.SEC_DBG_DBGMAX < level)) ∧
    (∃ (s : State) (dt : Ns) (req : Nat) (rcd : List Byte) (sig : Bool), let u := s.tick dt; let level := recNum rcd 52 1; u.running = true ∧
      offers u.lifecycle level = true ∧ level ≤ u.rd Reg.SEC_DBG_DBGMAX ∧ u.dapResult req rcd sig ≠ 1) :=
  ⟨⟨live, 0, [], by decide, by decide⟩,
  ⟨live, 0, 0,
    [0, 0, 0, 0, 0, 0, 0, 0, 0, 0, 0, 0, 0, 0, 0, 0, 0, 0, 0, 0, 0, 0, 0, 0, 0, 0, 0, 0, 0, 0, 0, 0, 0, 0, 0, 0, 0, 0, 0, 0, 0, 0, 0, 0, 0, 0, 0, 0, 0, 0, 0, 0, 1],
    false, by decide, by decide, by decide, by decide⟩⟩

/-- Hypotheses of `Obligations.DmaLockHolds`. -/
theorem test_witness_DmaLockHolds :
    (∃ (s : State) (dt : Ns) (pf : Nat), let u := s.tick dt; u.writable pf 4 0x18 = true) ∧
    (∃ (s : State) (i : Nat) (f : Field), s.flag Reg.SEC_DMALOCK_LOCK = true ∧ f ∈ Reg.SEC_DMALOCK_LOCK :: dmaRange ∧ i < 16) :=
  ⟨⟨live, 0, 3, by decide⟩,
  ⟨(live.wr Reg.SEC_DMALOCK_LOCK (0) 1), 0, Reg.SEC_DMAW_BASE_HI, by decide, by simp [dmaRange], by decide⟩⟩

/-- Hypotheses of `Obligations.FrozenFunction`. -/
theorem test_witness_FrozenFunction :
    (∃ (s : State) (dt : Ns) (pf : Nat), let u := s.tick dt; (u.fn pf).frozen = true) ∧
    (∃ (s : State) (dt : Ns) (pf : Nat) (win : Nat), let u := s.tick dt; (u.fn pf).frozen = true ∧ win < 256) ∧
    (∃ (s : State) (dt : Ns) (pf : Nat) (off : Nat) (win : Nat), let u := s.tick dt; (u.fn pf).frozen = true ∧ u.host.linkUp = true ∧ pf < 4 ∧
      win < 34 ∧ off < 4096 ∧ off % 4 = 0 ∧ reservedWin win = false) ∧
    (∃ (dt : Ns) (pf : Nat) (ok : Nat → Nat → Nat → Bool) (h : HostState) (e : Event), (tget {} h.fns pf : Func).frozen = true ∧ ∃ (x : HostState),
      x = h.putEvent ok dt pf e) ∧
    (∃ (dt : Ns) (pf : Nat) (ok : Nat → Nat → Nat → Bool) (h : HostState) (m : Nat) (c : Completion), (tget {} h.fns pf : Func).frozen = true ∧
      ∃ (x : HostState), x = h.putCompletion ok dt pf m c) ∧
    (∃ (pf : Nat) (h : HostState) (m : Nat), (tget {} h.fns pf : Func).frozen = true ∧ ∃ (x : HostState), x = h.signal pf m) :=
  ⟨⟨(live.setFn 0 { frozen := true }), 0, 0, by decide⟩,
  ⟨(live.setFn 0 { frozen := true }), 0, 0, 0, by decide, by decide⟩,
  ⟨(live.setFn 0 { frozen := true }), 0, 0, 0, 0, by decide, by decide, by decide, by decide, by decide, by decide, by decide⟩,
  ⟨0, 0, fun _ _ _ => true, { fns := [(0, { frozen := true })] }, { type := 0, object := 0, time := 0, data := 0 }, by decide, _, rfl⟩,
  ⟨0, 0, fun _ _ _ => true, { fns := [(0, { frozen := true })] }, 0,
    { tag := 0, code := .done, ring := 0, phase := 0, sub := 0, slot := 0, time := 0 }, by decide, _, rfl⟩,
  ⟨0, { fns := [(0, { frozen := true })] }, 0, by decide, _, rfl⟩⟩

/-- Hypotheses of `Obligations.StageWaveforms`. -/
theorem test_witness_StageWaveforms :
    (∃ (s : State) (n : Nat), let fsw := s.rd Reg.LD_CFG0_FSW n; fsw ≠ 0) ∧
    (∃ (d : Nat), d ≠ 0) ∧
    (∃ (s : State) (n : Nat) (d : Nat), d ≠ 0 ∧ s.flag Reg.LD_CFG1_HYB n = false) ∧
    (∃ (s : State) (n : Nat) (d : Nat), d ≠ 0 ∧ s.flag Reg.LD_CFG1_HYB n = true ∧ 16 * s.ldExact n d < 100) ∧
    (∃ (s : State) (k : Nat), s.rd Reg.MX_CFG0_LINE ≠ 0 ∧ s.now = s.out.mx.frameAt + k * (s.rd Reg.MX_CFG0_LINE * 1000)) ∧
    (∃ (s : State) (n : Nat) (m : Nat), let o := hbObj n; (s.st o = 1 ∨ s.st o = 2) ∧ m < n + s.hbSide n) ∧
    (∃ (s : State) (n : Nat) (m : Nat), let o := hbObj n; (s.st o = 1 ∨ s.st o = 2) ∧ n + s.hbSide n ≤ m) ∧
    (∃ (s : State) (n : Nat), let o := hbObj n; (s.st o = 1 ∨ s.st o = 2)) ∧
    (∃ (s : State) (n : Nat), let o := hbObj n; (s.st o = 0 ∨ 4 < s.st o)) ∧
    (∃ (s : State) (n : Nat), s.flag Reg.SV_CFG2_RECOV n = false) ∧
    (∃ (s : State), s.frontEnd = false ∧ s.pwr.phase ≠ .stop) :=
  ⟨⟨live, 0, by decide⟩,
  ⟨1, by decide⟩,
  ⟨(live.wr Reg.LD_CFG1_HYB (0) 0), 0, 1, by decide, by decide⟩,
  ⟨(live.wr Reg.LD_CFG1_HYB (0) 1), 0, 1, by decide, by decide, by decide⟩,
  ⟨(live.onOut (fun q => { q with mx := { q.mx with frameAt := 10 ^ 12 } })), 0, by decide, by decide⟩,
  ⟨(live.setSt (hbObj 0) 1), 0, 0, by decide, by decide⟩,
  ⟨(live.setSt (hbObj 0) 1), 0, 5, by decide, by decide⟩,
  ⟨(live.setSt (hbObj 0) 1), 0, by decide⟩,
  ⟨(live.setSt (hbObj 0) 0), 0, by decide⟩,
  ⟨(live.wr Reg.SV_CFG2_RECOV (0) 0), 0, by decide⟩,
  ⟨(ph .unpowered), by decide, by decide⟩⟩

end Sys2Proof.Tests
end

/-!
What every command keeps: the queue, the monotonic count, the canonical register file and the retirement records, from the rows' own `_keeps` lemmas.
-/
namespace Sys2Proof.Machine

/-- What is shown of the meaning that `exec` calls for a command is shown of the command. -/
theorem answersKeeping {c : Instr} {s : State} {dt : Ns} {a : Answered} (he : exec c s = a) (hk : AKeeps (s.tick dt) a) :
    ∃ dt, AKeeps (s.tick dt) (exec c s) := ⟨dt, he ▸ hk⟩

-- One nested alternative for each of the 358 rows of the opcode table.
set_option maxRecDepth 2000 in
/-- Every command answers a next state, and beside its own time it keeps what `Keeps` names. -/
theorem exec_keeps (c : Instr) (s : State) : ∃ dt, AKeeps (s.tick dt) (exec c s) := by
  cases c with
  | setupWrite dt pf win off size v fail lost =>
    exact answersKeeping (exec_setupWrite s dt pf win off size v fail lost) (execSetupWrite_keeps dt pf win off size v fail lost (.refl _))
  | rcRead dt pf win off size => exact answersKeeping (exec_rcRead s dt pf win off size) (execRcRead_keeps dt pf win off size (.refl _))
  | dbCmd dt pf n v => exact answersKeeping (exec_dbCmd s dt pf n v) (execDbCmd_keeps dt pf n v (.refl _))
  | dbCpl dt pf m v => exact answersKeeping (exec_dbCpl s dt pf m v) (execDbCpl_keeps dt pf m v (.refl _))
  | dbEvt dt pf v => exact answersKeeping (exec_dbEvt s dt pf v) (execDbEvt_keeps dt pf v (.refl _))
  | commandFetch dt pf n batch fail =>
    exact answersKeeping (exec_commandFetch s dt pf n batch fail) (execCommandFetch_keeps dt pf n batch fail (.refl _))
  | dmaReadFail dt c => exact answersKeeping (exec_dmaReadFail s dt c) (execDmaReadFail_keeps dt c (.refl _))
  | nop dt c => exact answersKeeping (exec_nop s dt c) (execNop_keeps dt c (.refl _))
  | cancel dt c => exact answersKeeping (exec_cancel s dt c) (execCancel_keeps dt c (.refl _))
  | setTime dt c => exact answersKeeping (exec_setTime s dt c) (execSetTime_keeps dt c (.refl _))
  | readStatus dt c => exact answersKeeping (exec_readStatus s dt c) (execReadStatus_keeps dt c (.refl _))
  | readHistory dt c => exact answersKeeping (exec_readHistory s dt c) (execReadHistory_keeps dt c (.refl _))
  | readCounters dt c => exact answersKeeping (exec_readCounters s dt c) (execReadCounters_keeps dt c (.refl _))
  | readRetirements dt c => exact answersKeeping (exec_readRetirements s dt c) (execReadRetirements_keeps dt c (.refl _))
  | readIdentity dt c => exact answersKeeping (exec_readIdentity s dt c) (execReadIdentity_keeps dt c (.refl _))
  | cmdRingEnable dt pf n => exact answersKeeping (exec_cmdRingEnable s dt pf n) (execCmdRingEnable_keeps dt pf n (.refl _))
  | cmdRingDisable dt pf n => exact answersKeeping (exec_cmdRingDisable s dt pf n) (execCmdRingDisable_keeps dt pf n (.refl _))
  | cplRingEnable dt pf m => exact answersKeeping (exec_cplRingEnable s dt pf m) (execCplRingEnable_keeps dt pf m (.refl _))
  | cplRingDisable dt pf m => exact answersKeeping (exec_cplRingDisable s dt pf m) (execCplRingDisable_keeps dt pf m (.refl _))
  | evtRingEnable dt pf => exact answersKeeping (exec_evtRingEnable s dt pf) (execEvtRingEnable_keeps dt pf (.refl _))
  | evtRingDisable dt pf => exact answersKeeping (exec_evtRingDisable s dt pf) (execEvtRingDisable_keeps dt pf (.refl _))
  | ownerChange dt o v => exact answersKeeping (exec_ownerChange s dt o v) (execOwnerChange_keeps dt o v (.refl _))
  | msixModtimeExpiry dt pf kind m =>
    exact answersKeeping (exec_msixModtimeExpiry s dt pf kind m) (execMsixModtimeExpiry_keeps dt pf kind m (.refl _))
  | msixUnmask dt pf v mask => exact answersKeeping (exec_msixUnmask s dt pf v mask) (execMsixUnmask_keeps dt pf v mask (.refl _))
  | functionLevelReset dt pf => exact answersKeeping (exec_functionLevelReset s dt pf) (execFunctionLevelReset_keeps dt pf (.refl _))
  | pePerstAssert dt => exact answersKeeping (exec_pePerstAssert s dt) (execPePerstAssert_keeps dt (.refl _))
  | powerUpReset dt => exact answersKeeping (exec_powerUpReset s dt) (execPowerUpReset_keeps dt (.refl _))
  | dieCBrownout dt => exact answersKeeping (exec_dieCBrownout s dt) (execDieCBrownout_keeps dt (.refl _))
  | dieCResetRelease dt => exact answersKeeping (exec_dieCResetRelease s dt) (execDieCResetRelease_keeps dt (.refl _))
  | warmReset dt => exact answersKeeping (exec_warmReset s dt) (execWarmReset_keeps dt (.refl _))
  | regRdy dt => exact answersKeeping (exec_regRdy s dt) (execRegRdy_keeps dt (.refl _))
  | oscRdy dt => exact answersKeeping (exec_oscRdy s dt) (execOscRdy_keeps dt (.refl _))
  | memRdy dt ok => exact answersKeeping (exec_memRdy s dt ok) (execMemRdy_keeps dt ok (.refl _))
  | logicRdy dt b => exact answersKeeping (exec_logicRdy s dt b) (execLogicRdy_keeps dt b (.refl _))
  | oscRdyTimeout dt => exact answersKeeping (exec_oscRdyTimeout s dt) (execOscRdyTimeout_keeps dt (.refl _))
  | regRdyTimeout dt => exact answersKeeping (exec_regRdyTimeout s dt) (execRegRdyTimeout_keeps dt (.refl _))
  | peWakeRelease dt => exact answersKeeping (exec_peWakeRelease s dt) (execPeWakeRelease_keeps dt (.refl _))
  | netDeclare dt pf v => exact answersKeeping (exec_netDeclare s dt pf v) (execNetDeclare_keeps dt pf v (.refl _))
  | ovFreeze dt g volt => exact answersKeeping (exec_ovFreeze s dt g volt) (execOvFreeze_keeps dt g volt (.refl _))
  | ovRelease dt g volt => exact answersKeeping (exec_ovRelease s dt g volt) (execOvRelease_keeps dt g volt (.refl _))
  | ovSustained dt g => exact answersKeeping (exec_ovSustained s dt g) (execOvSustained_keeps dt g (.refl _))
  | ovSustainedRelease dt g => exact answersKeeping (exec_ovSustainedRelease s dt g) (execOvSustainedRelease_keeps dt g (.refl _))
  | groundOffset dt mv => exact answersKeeping (exec_groundOffset s dt mv) (execGroundOffset_keeps dt mv (.refl _))
  | caseOvertemp dt tc => exact answersKeeping (exec_caseOvertemp s dt tc) (execCaseOvertemp_keeps dt tc (.refl _))
  | paceRequest dt pf v => exact answersKeeping (exec_paceRequest s dt pf v) (execPaceRequest_keeps dt pf v (.refl _))
  | paceSettled dt => exact answersKeeping (exec_paceSettled s dt) (execPaceSettled_keeps dt (.refl _))
  | fabricWindow dt rate pcie reed rest =>
    exact answersKeeping (exec_fabricWindow s dt rate pcie reed rest) (execFabricWindow_keeps dt rate pcie reed rest (.refl _))
  | refclkLoss dt => exact answersKeeping (exec_refclkLoss s dt) (execRefclkLoss_keeps dt (.refl _))
  | refclkReturn dt => exact answersKeeping (exec_refclkReturn s dt) (execRefclkReturn_keeps dt (.refl _))
  | outOff dt c => exact answersKeeping (exec_outOff s dt c) (execOutOff_keeps dt c (.refl _))
  | outOn dt c vd => exact answersKeeping (exec_outOn s dt c vd) (execOutOn_keeps dt c vd (.refl _))
  | outPwm dt c vd => exact answersKeeping (exec_outPwm s dt c vd) (execOutPwm_keeps dt c vd (.refl _))
  | clearFault dt c => exact answersKeeping (exec_clearFault s dt c) (execClearFault_keeps dt c (.refl _))
  | chConfig dt c => exact answersKeeping (exec_chConfig s dt c) (execChConfig_keeps dt c (.refl _))
  | learnReset dt c => exact answersKeeping (exec_learnReset s dt c) (execLearnReset_keeps dt c (.refl _))
  | diagCheck dt c => exact answersKeeping (exec_diagCheck s dt c) (execDiagCheck_keeps dt c (.refl _))
  | diagCheckTimeout dt o => exact answersKeeping (exec_diagCheckTimeout s dt o) (execDiagCheckTimeout_keeps dt o (.refl _))
  | w1cFaultClear dt pf win off v => exact answersKeeping (exec_w1cFaultClear s dt pf win off v) (execW1cFaultClear_keeps dt pf win off v (.refl _))
  | chOutcomeReached dt o => exact answersKeeping (exec_chOutcomeReached s dt o) (execChOutcomeReached_keeps dt o (.refl _))
  | pwmPeriodStart dt o lim => exact answersKeeping (exec_pwmPeriodStart s dt o lim) (execPwmPeriodStart_keeps dt o lim (.refl _))
  | overcurrentTrip dt o m => exact answersKeeping (exec_overcurrentTrip s dt o m) (execOvercurrentTrip_keeps dt o m (.refl _))
  | shortTrip dt o m => exact answersKeeping (exec_shortTrip s dt o m) (execShortTrip_keeps dt o m (.refl _))
  | clampEventEnd dt o e => exact answersKeeping (exec_clampEventEnd s dt o e) (execClampEventEnd_keeps dt o e (.refl _))
  | reverseCurrent dt o m => exact answersKeeping (exec_reverseCurrent s dt o m) (execReverseCurrent_keeps dt o m (.refl _))
  | reverseReclose dt o => exact answersKeeping (exec_reverseReclose s dt o) (execReverseReclose_keeps dt o (.refl _))
  | thermalTrip dt o m => exact answersKeeping (exec_thermalTrip s dt o m) (execThermalTrip_keeps dt o m (.refl _))
  | deltaTTrip dt o m => exact answersKeeping (exec_deltaTTrip s dt o m) (execDeltaTTrip_keeps dt o m (.refl _))
  | thermalRestart dt o m => exact answersKeeping (exec_thermalRestart s dt o m) (execThermalRestart_keeps dt o m (.refl _))
  | inrushDwellExpiry dt o m => exact answersKeeping (exec_inrushDwellExpiry s dt o m) (execInrushDwellExpiry_keeps dt o m (.refl _))
  | inrushOffEnd dt o => exact answersKeeping (exec_inrushOffEnd s dt o) (execInrushOffEnd_keeps dt o (.refl _))
  | inrushEnd dt o lim m => exact answersKeeping (exec_inrushEnd s dt o lim m) (execInrushEnd_keeps dt o lim m (.refl _))
  | inrushTimeout dt o m => exact answersKeeping (exec_inrushTimeout s dt o m) (execInrushTimeout_keeps dt o m (.refl _))
  | sagSet dt g => exact answersKeeping (exec_sagSet s dt g) (execSagSet_keeps dt g (.refl _))
  | sagClear dt g => exact answersKeeping (exec_sagClear s dt g) (execSagClear_keeps dt g (.refl _))
  | diagOnSample dt o a => exact answersKeeping (exec_diagOnSample s dt o a) (execDiagOnSample_keeps dt o a (.refl _))
  | offStateTest dt o v0 v1 => exact answersKeeping (exec_offStateTest s dt o v0 v1) (execOffStateTest_keeps dt o v0 v1 (.refl _))
  | overloadDetect dt o a => exact answersKeeping (exec_overloadDetect s dt o a) (execOverloadDetect_keeps dt o a (.refl _))
  | verdictStale dt o => exact answersKeeping (exec_verdictStale s dt o) (execVerdictStale_keeps dt o (.refl _))
  | segmentMeasure dt o ds => exact answersKeeping (exec_segmentMeasure s dt o ds) (execSegmentMeasure_keeps dt o ds (.refl _))
  | segmentFault dt o seg => exact answersKeeping (exec_segmentFault s dt o seg) (execSegmentFault_keeps dt o seg (.refl _))
  | limpNAssert dt => exact answersKeeping (exec_limpNAssert s dt) (execLimpNAssert_keeps dt (.refl _))
  | limpNRelease dt => exact answersKeeping (exec_limpNRelease s dt) (execLimpNRelease_keeps dt (.refl _))
  | lhChange dt mask => exact answersKeeping (exec_lhChange s dt mask) (execLhChange_keeps dt mask (.refl _))
  | heartbeat dt ready => exact answersKeeping (exec_heartbeat s dt ready) (execHeartbeat_keeps dt ready (.refl _))
  | heartbeatLoss dt => exact answersKeeping (exec_heartbeatLoss s dt) (execHeartbeatLoss_keeps dt (.refl _))
  | limpRelease dt pf => exact answersKeeping (exec_limpRelease s dt pf) (execLimpRelease_keeps dt pf (.refl _))
  | holdWindowExpiry dt o => exact answersKeeping (exec_holdWindowExpiry s dt o) (execHoldWindowExpiry_keeps dt o (.refl _))
  | pairedHeartbeatGap dt o => exact answersKeeping (exec_pairedHeartbeatGap s dt o) (execPairedHeartbeatGap_keeps dt o (.refl _))
  | powerDieServe dt g vd => exact answersKeeping (exec_powerDieServe s dt g vd) (execPowerDieServe_keeps dt g vd (.refl _))
  | demandServed dt vd => exact answersKeeping (exec_demandServed s dt vd) (execDemandServed_keeps dt vd (.refl _))
  | demandLatencyExpiry dt o => exact answersKeeping (exec_demandLatencyExpiry s dt o) (execDemandLatencyExpiry_keeps dt o (.refl _))
  | budgetShed dt => exact answersKeeping (exec_budgetShed s dt) (execBudgetShed_keeps dt (.refl _))
  | claimRenew dt x => exact answersKeeping (exec_claimRenew s dt x) (execClaimRenew_keeps dt x (.refl _))
  | groupCut dt g level volt => exact answersKeeping (exec_groupCut s dt g level volt) (execGroupCut_keeps dt g level volt (.refl _))
  | cutRelease dt g level volt => exact answersKeeping (exec_cutRelease s dt g level volt) (execCutRelease_keeps dt g level volt (.refl _))
  | restartSlot dt g c => exact answersKeeping (exec_restartSlot s dt g c) (execRestartSlot_keeps dt g c (.refl _))
  | slotCancel dt g level volt => exact answersKeeping (exec_slotCancel s dt g level volt) (execSlotCancel_keeps dt g level volt (.refl _))
  | dimUpdate dt g volt => exact answersKeeping (exec_dimUpdate s dt g volt) (execDimUpdate_keeps dt g volt (.refl _))
  | ledOff dt c => exact answersKeeping (exec_ledOff s dt c) (execLedOff_keeps dt c (.refl _))
  | ledOn dt c => exact answersKeeping (exec_ledOn s dt c) (execLedOn_keeps dt c (.refl _))
  | ledDim dt c => exact answersKeeping (exec_ledDim s dt c) (execLedDim_keeps dt c (.refl _))
  | ldClearFault dt c => exact answersKeeping (exec_ldClearFault s dt c) (execLdClearFault_keeps dt c (.refl _))
  | ldDiagCheck dt c => exact answersKeeping (exec_ldDiagCheck s dt c) (execLdDiagCheck_keeps dt c (.refl _))
  | ldConfig dt c => exact answersKeeping (exec_ldConfig s dt c) (execLdConfig_keeps dt c (.refl _))
  | tcompLoad dt c => exact answersKeeping (exec_tcompLoad s dt c) (execTcompLoad_keeps dt c (.refl _))
  | tccommit dt pf v => exact answersKeeping (exec_tccommit s dt pf v) (execTccommit_keeps dt pf v (.refl _))
  | ldSoftstartDone dt n => exact answersKeeping (exec_ldSoftstartDone s dt n) (execLdSoftstartDone_keeps dt n (.refl _))
  | ldSoftstartTimeout dt n => exact answersKeeping (exec_ldSoftstartTimeout s dt n) (execLdSoftstartTimeout_keeps dt n (.refl _))
  | ldOpenString dt n m => exact answersKeeping (exec_ldOpenString s dt n m) (execLdOpenString_keeps dt n m (.refl _))
  | ldShort dt n m => exact answersKeeping (exec_ldShort s dt n m) (execLdShort_keeps dt n m (.refl _))
  | ldThermal dt n m => exact answersKeeping (exec_ldThermal s dt n m) (execLdThermal_keeps dt n m (.refl _))
  | ldThermalRestart dt n m => exact answersKeeping (exec_ldThermalRestart s dt n m) (execLdThermalRestart_keeps dt n m (.refl _))
  | headroomSet dt n => exact answersKeeping (exec_headroomSet s dt n) (execHeadroomSet_keeps dt n (.refl _))
  | headroomClear dt n => exact answersKeeping (exec_headroomClear s dt n) (execHeadroomClear_keeps dt n (.refl _))
  | ntcFault dt n => exact answersKeeping (exec_ntcFault s dt n) (execNtcFault_keeps dt n (.refl _))
  | ntcRecover dt n => exact answersKeeping (exec_ntcRecover s dt n) (execNtcRecover_keeps dt n (.refl _))
  | tcompSample dt n t => exact answersKeeping (exec_tcompSample s dt n t) (execTcompSample_keeps dt n t (.refl _))
  | dimPeriodStart dt n => exact answersKeeping (exec_dimPeriodStart s dt n) (execDimPeriodStart_keeps dt n (.refl _))
  | ldMeasure dt n a v => exact answersKeeping (exec_ldMeasure s dt n a v) (execLdMeasure_keeps dt n a v (.refl _))
  | mxOff dt c => exact answersKeeping (exec_mxOff s dt c) (execMxOff_keeps dt c (.refl _))
  | mxOn dt c => exact answersKeeping (exec_mxOn s dt c) (execMxOn_keeps dt c (.refl _))
  | mxBright dt c => exact answersKeeping (exec_mxBright s dt c) (execMxBright_keeps dt c (.refl _))
  | mxClearFault dt c => exact answersKeeping (exec_mxClearFault s dt c) (execMxClearFault_keeps dt c (.refl _))
  | mxConfig dt c => exact answersKeeping (exec_mxConfig s dt c) (execMxConfig_keeps dt c (.refl _))
  | mxFrame dt c px => exact answersKeeping (exec_mxFrame s dt c px) (execMxFrame_keeps dt c px (.refl _))
  | mxSwapRequest dt pf => exact answersKeeping (exec_mxSwapRequest s dt pf) (execMxSwapRequest_keeps dt pf (.refl _))
  | mxFrameBoundary dt lows => exact answersKeeping (exec_mxFrameBoundary s dt lows) (execMxFrameBoundary_keeps dt lows (.refl _))
  | mxRowShort dt => exact answersKeeping (exec_mxRowShort s dt) (execMxRowShort_keeps dt (.refl _))
  | svOff dt c => exact answersKeeping (exec_svOff s dt c) (execSvOff_keeps dt c (.refl _))
  | svOn dt c => exact answersKeeping (exec_svOn s dt c) (execSvOn_keeps dt c (.refl _))
  | svHold dt c => exact answersKeeping (exec_svHold s dt c) (execSvHold_keeps dt c (.refl _))
  | svClearFault dt c => exact answersKeeping (exec_svClearFault s dt c) (execSvClearFault_keeps dt c (.refl _))
  | svDiagCheck dt c => exact answersKeeping (exec_svDiagCheck s dt c) (execSvDiagCheck_keeps dt c (.refl _))
  | svConfig dt c => exact answersKeeping (exec_svConfig s dt c) (execSvConfig_keeps dt c (.refl _))
  | svLearnReset dt c => exact answersKeeping (exec_svLearnReset s dt c) (execSvLearnReset_keeps dt c (.refl _))
  | svConfig2 dt c => exact answersKeeping (exec_svConfig2 s dt c) (execSvConfig2_keeps dt c (.refl _))
  | boostEnd dt n e imax ti vbst => exact answersKeeping (exec_boostEnd s dt n e imax ti vbst) (execBoostEnd_keeps dt n e imax ti vbst (.refl _))
  | peakEnd dt n => exact answersKeeping (exec_peakEnd s dt n) (execPeakEnd_keeps dt n (.refl _))
  | decayEnd dt n e => exact answersKeeping (exec_decayEnd s dt n e) (execDecayEnd_keeps dt n e (.refl _))
  | armatureDip dt n d => exact answersKeeping (exec_armatureDip s dt n d) (execArmatureDip_keeps dt n d (.refl _))
  | armatureStuck dt n => exact answersKeeping (exec_armatureStuck s dt n) (execArmatureStuck_keeps dt n (.refl _))
  | svShort dt n m => exact answersKeeping (exec_svShort s dt n m) (execSvShort_keeps dt n m (.refl _))
  | bankShort dt b => exact answersKeeping (exec_bankShort s dt b) (execBankShort_keeps dt b (.refl _))
  | svThermal dt n m => exact answersKeeping (exec_svThermal s dt n m) (execSvThermal_keeps dt n m (.refl _))
  | svThermalRestart dt n m => exact answersKeeping (exec_svThermalRestart s dt n m) (execSvThermalRestart_keeps dt n m (.refl _))
  | svOffTest dt n v => exact answersKeeping (exec_svOffTest s dt n v) (execSvOffTest_keeps dt n v (.refl _))
  | bstOff dt c => exact answersKeeping (exec_bstOff s dt c) (execBstOff_keeps dt c (.refl _))
  | bstOn dt c => exact answersKeeping (exec_bstOn s dt c) (execBstOn_keeps dt c (.refl _))
  | bstClearFault dt c => exact answersKeeping (exec_bstClearFault s dt c) (execBstClearFault_keeps dt c (.refl _))
  | bstConfig dt c => exact answersKeeping (exec_bstConfig s dt c) (execBstConfig_keeps dt c (.refl _))
  | bstReady dt vbst => exact answersKeeping (exec_bstReady s dt vbst) (execBstReady_keeps dt vbst (.refl _))
  | bstShort dt vbst => exact answersKeeping (exec_bstShort s dt vbst) (execBstShort_keeps dt vbst (.refl _))
  | bstThermal dt m => exact answersKeeping (exec_bstThermal s dt m) (execBstThermal_keeps dt m (.refl _))
  | bstOvervoltageStop dt vbst => exact answersKeeping (exec_bstOvervoltageStop s dt vbst) (execBstOvervoltageStop_keeps dt vbst (.refl _))
  | bstOvervoltageResume dt vbst => exact answersKeeping (exec_bstOvervoltageResume s dt vbst) (execBstOvervoltageResume_keeps dt vbst (.refl _))
  | bstHeadroomSet dt vs6 vbst => exact answersKeeping (exec_bstHeadroomSet s dt vs6 vbst) (execBstHeadroomSet_keeps dt vs6 vbst (.refl _))
  | bstHeadroomClear dt vs6 => exact answersKeeping (exec_bstHeadroomClear s dt vs6) (execBstHeadroomClear_keeps dt vs6 (.refl _))
  | hbOff dt c => exact answersKeeping (exec_hbOff s dt c) (execHbOff_keeps dt c (.refl _))
  | hbDrive dt c => exact answersKeeping (exec_hbDrive s dt c) (execHbDrive_keeps dt c (.refl _))
  | hbBrake dt c => exact answersKeeping (exec_hbBrake s dt c) (execHbBrake_keeps dt c (.refl _))
  | hbClearFault dt c => exact answersKeeping (exec_hbClearFault s dt c) (execHbClearFault_keeps dt c (.refl _))
  | hbDiagCheck dt c => exact answersKeeping (exec_hbDiagCheck s dt c) (execHbDiagCheck_keeps dt c (.refl _))
  | hbMove dt c => exact answersKeeping (exec_hbMove s dt c) (execHbMove_keeps dt c (.refl _))
  | hbSetpos dt c => exact answersKeeping (exec_hbSetpos s dt c) (execHbSetpos_keeps dt c (.refl _))
  | hbConfig dt c => exact answersKeeping (exec_hbConfig s dt c) (execHbConfig_keeps dt c (.refl _))
  | hbConfig2 dt c => exact answersKeeping (exec_hbConfig2 s dt c) (execHbConfig2_keeps dt c (.refl _))
  | rippleCount dt n rate a => exact answersKeeping (exec_rippleCount s dt n rate a) (execRippleCount_keeps dt n rate a (.refl _))
  | hbStall dt n a => exact answersKeeping (exec_hbStall s dt n a) (execHbStall_keeps dt n a (.refl _))
  | hbTmaxExpiry dt n => exact answersKeeping (exec_hbTmaxExpiry s dt n) (execHbTmaxExpiry_keeps dt n (.refl _))
  | hbTrap dt n a mean => exact answersKeeping (exec_hbTrap s dt n a mean) (execHbTrap_keeps dt n a mean (.refl _))
  | hbRampEnd dt n => exact answersKeeping (exec_hbRampEnd s dt n) (execHbRampEnd_keeps dt n (.refl _))
  | hbReverseEnd dt n => exact answersKeeping (exec_hbReverseEnd s dt n) (execHbReverseEnd_keeps dt n (.refl _))
  | hbShort dt n m => exact answersKeeping (exec_hbShort s dt n m) (execHbShort_keeps dt n m (.refl _))
  | hbThermal dt n m => exact answersKeeping (exec_hbThermal s dt n m) (execHbThermal_keeps dt n m (.refl _))
  | hbThermalRestart dt n m => exact answersKeeping (exec_hbThermalRestart s dt n m) (execHbThermalRestart_keeps dt n m (.refl _))
  | hbOpenDetect dt n => exact answersKeeping (exec_hbOpenDetect s dt n) (execHbOpenDetect_keeps dt n (.refl _))
  | loopOpen dt c => exact answersKeeping (exec_loopOpen s dt c) (execLoopOpen_keeps dt c (.refl _))
  | loopClose dt c => exact answersKeeping (exec_loopClose s dt c) (execLoopClose_keeps dt c (.refl _))
  | loopSetpoint dt c => exact answersKeeping (exec_loopSetpoint s dt c) (execLoopSetpoint_keeps dt c (.refl _))
  | clearFlags dt c => exact answersKeeping (exec_clearFlags s dt c) (execClearFlags_keeps dt c (.refl _))
  | loopConfig dt c => exact answersKeeping (exec_loopConfig s dt c) (execLoopConfig_keeps dt c (.refl _))
  | loopCoef dt c => exact answersKeeping (exec_loopCoef s dt c) (execLoopCoef_keeps dt c (.refl _))
  | loopLimits dt c => exact answersKeeping (exec_loopLimits s dt c) (execLoopLimits_keeps dt c (.refl _))
  | loopSlew dt c => exact answersKeeping (exec_loopSlew s dt c) (execLoopSlew_keeps dt c (.refl _))
  | loopSample dt n age raw => exact answersKeeping (exec_loopSample s dt n age raw) (execLoopSample_keeps dt n age raw (.refl _))
  | swConfig dt c => exact answersKeeping (exec_swConfig s dt c) (execSwConfig_keeps dt c (.refl _))
  | swSample dt n vin => exact answersKeeping (exec_swSample s dt n vin) (execSwSample_keeps dt n vin (.refl _))
  | staticWake dt n vin => exact answersKeeping (exec_staticWake s dt n vin) (execStaticWake_keeps dt n vin (.refl _))
  | pollWake dt n vin => exact answersKeeping (exec_pollWake s dt n vin) (execPollWake_keeps dt n vin (.refl _))
  | iiConfig dt c => exact answersKeeping (exec_iiConfig s dt c) (execIiConfig_keeps dt c (.refl _))
  | countClear dt c => exact answersKeeping (exec_countClear s dt c) (execCountClear_keeps dt c (.refl _))
  | wireBreak dt n a => exact answersKeeping (exec_wireBreak s dt n a) (execWireBreak_keeps dt n a (.refl _))
  | ioOutOn dt c => exact answersKeeping (exec_ioOutOn s dt c) (execIoOutOn_keeps dt c (.refl _))
  | ioOutOff dt c => exact answersKeeping (exec_ioOutOff s dt c) (execIoOutOff_keeps dt c (.refl _))
  | ioClearFault dt c => exact answersKeeping (exec_ioClearFault s dt c) (execIoClearFault_keeps dt c (.refl _))
  | ioDiagCheck dt c => exact answersKeeping (exec_ioDiagCheck s dt c) (execIoDiagCheck_keeps dt c (.refl _))
  | ioConfig dt c => exact answersKeeping (exec_ioConfig s dt c) (execIoConfig_keeps dt c (.refl _))
  | ioOvercurrent dt n m => exact answersKeeping (exec_ioOvercurrent s dt n m) (execIoOvercurrent_keeps dt n m (.refl _))
  | ioThermalTrip dt n m => exact answersKeeping (exec_ioThermalTrip s dt n m) (execIoThermalTrip_keeps dt n m (.refl _))
  | ioThermalRestart dt n m => exact answersKeeping (exec_ioThermalRestart s dt n m) (execIoThermalRestart_keeps dt n m (.refl _))
  | vfldUv dt v => exact answersKeeping (exec_vfldUv s dt v) (execVfldUv_keeps dt v (.refl _))
  | vfldRestart dt v => exact answersKeeping (exec_vfldRestart s dt v) (execVfldRestart_keeps dt v (.refl _))
  | barrierUplinkFrame dt crc seq vins iin rises falls vfld =>
    exact answersKeeping (exec_barrierUplinkFrame s dt crc seq vins iin rises falls vfld)
      (execBarrierUplinkFrame_keeps dt crc seq vins iin rises falls vfld (.refl _))
  | barrierDownlinkFrame dt crc seq =>
    exact answersKeeping (exec_barrierDownlinkFrame s dt crc seq) (execBarrierDownlinkFrame_keeps dt crc seq (.refl _))
  | barrierLoss dt field => exact answersKeeping (exec_barrierLoss s dt field) (execBarrierLoss_keeps dt field (.refl _))
  | fieldPowerLoss dt => exact answersKeeping (exec_fieldPowerLoss s dt) (execFieldPowerLoss_keeps dt (.refl _))
  | canSend dt c rcd => exact answersKeeping (exec_canSend s dt c rcd) (execCanSend_keeps dt c rcd (.refl _))
  | idUnblock dt c => exact answersKeeping (exec_idUnblock s dt c) (execIdUnblock_keeps dt c (.refl _))
  | rxRelease dt c => exact answersKeeping (exec_rxRelease s dt c) (execRxRelease_keeps dt c (.refl _))
  | linPublish dt c => exact answersKeeping (exec_linPublish s dt c) (execLinPublish_keeps dt c (.refl _))
  | linSched dt c => exact answersKeeping (exec_linSched s dt c) (execLinSched_keeps dt c (.refl _))
  | linSleep dt c => exact answersKeeping (exec_linSleep s dt c) (execLinSleep_keeps dt c (.refl _))
  | linWake dt c => exact answersKeeping (exec_linWake s dt c) (execLinWake_keeps dt c (.refl _))
  | canEnable dt pf n fail => exact answersKeeping (exec_canEnable s dt pf n fail) (execCanEnable_keeps dt pf n fail (.refl _))
  | rxqEnable dt pf g => exact answersKeeping (exec_rxqEnable s dt pf g) (execRxqEnable_keeps dt pf g (.refl _))
  | canFrameReceived dt g f lag => exact answersKeeping (exec_canFrameReceived s dt g f lag) (execCanFrameReceived_keeps dt g f lag (.refl _))
  | canFrameSent dt g tdc => exact answersKeeping (exec_canFrameSent s dt g tdc) (execCanFrameSent_keeps dt g tdc (.refl _))
  | canArbitrationLost dt n => exact answersKeeping (exec_canArbitrationLost s dt n) (execCanArbitrationLost_keeps dt n (.refl _))
  | canErrorFrame dt n type pos tx coll exempt more =>
    exact answersKeeping (exec_canErrorFrame s dt n type pos tx coll exempt more) (execCanErrorFrame_keeps dt n type pos tx coll exempt more (.refl _))
  | canBusOff dt n => exact answersKeeping (exec_canBusOff s dt n) (execCanBusOff_keeps dt n (.refl _))
  | canBusOffRecovery dt n => exact answersKeeping (exec_canBusOffRecovery s dt n) (execCanBusOffRecovery_keeps dt n (.refl _))
  | canCancelLatch dt c => exact answersKeeping (exec_canCancelLatch s dt c) (execCanCancelLatch_keeps dt c (.refl _))
  | tmReferenceDue dt n past => exact answersKeeping (exec_tmReferenceDue s dt n past) (execTmReferenceDue_keeps dt n past (.refl _))
  | linSlot dt n err => exact answersKeeping (exec_linSlot s dt n err) (execLinSlot_keeps dt n err (.refl _))
  | linHeaderReceived dt n id err => exact answersKeeping (exec_linHeaderReceived s dt n id err) (execLinHeaderReceived_keeps dt n id err (.refl _))
  | ethFrameReceived dt p fcs bs lag =>
    exact answersKeeping (exec_ethFrameReceived s dt p fcs bs lag) (execEthFrameReceived_keeps dt p fcs bs lag (.refl _))
  | ethSend dt c rcd => exact answersKeeping (exec_ethSend s dt c rcd) (execEthSend_keeps dt c rcd (.refl _))
  | ethFrameSent dt p => exact answersKeeping (exec_ethFrameSent s dt p) (execEthFrameSent_keeps dt p (.refl _))
  | fitRead dt pf => exact answersKeeping (exec_fitRead s dt pf) (execFitRead_keeps dt pf (.refl _))
  | fitCommit dt pf => exact answersKeeping (exec_fitCommit s dt pf) (execFitCommit_keeps dt pf (.refl _))
  | fitClearCounters dt pf => exact answersKeeping (exec_fitClearCounters s dt pf) (execFitClearCounters_keeps dt pf (.refl _))
  | frameEgressStart dt g => exact answersKeeping (exec_frameEgressStart s dt g) (execFrameEgressStart_keeps dt g (.refl _))
  | fitPeriodicSend dt e => exact answersKeeping (exec_fitPeriodicSend s dt e) (execFitPeriodicSend_keeps dt e (.refl _))
  | freshLost dt e => exact answersKeeping (exec_freshLost s dt e) (execFreshLost_keeps dt e (.refl _))
  | qbvGateChange dt p => exact answersKeeping (exec_qbvGateChange s dt p) (execQbvGateChange_keeps dt p (.refl _))
  | pathSilent dt e p => exact answersKeeping (exec_pathSilent s dt e p) (execPathSilent_keeps dt e p (.refl _))
  | gptpSync dt ofs => exact answersKeeping (exec_gptpSync s dt ofs) (execGptpSync_keeps dt ofs (.refl _))
  | gptpHoldover dt => exact answersKeeping (exec_gptpHoldover s dt) (execGptpHoldover_keeps dt (.refl _))
  | gptpSyncSend dt => exact answersKeeping (exec_gptpSyncSend s dt) (execGptpSyncSend_keeps dt (.refl _))
  | macAging dt => exact answersKeeping (exec_macAging s dt) (execMacAging_keeps dt (.refl _))
  | linkState dt p up sqi => exact answersKeeping (exec_linkState s dt p up sqi) (execLinkState_keeps dt p up sqi (.refl _))
  | nmNeed dt c => exact answersKeeping (exec_nmNeed s dt c) (execNmNeed_keeps dt c (.refl _))
  | nmRelease dt c => exact answersKeeping (exec_nmRelease s dt c) (execNmRelease_keeps dt c (.refl _))
  | nmEnable dt pf g => exact answersKeeping (exec_nmEnable s dt pf g) (execNmEnable_keeps dt pf g (.refl _))
  | nmDisable dt pf g => exact answersKeeping (exec_nmDisable s dt pf g) (execNmDisable_keeps dt pf g (.refl _))
  | keepaliveSend dt g => exact answersKeeping (exec_keepaliveSend s dt g) (execKeepaliveSend_keeps dt g (.refl _))
  | tkaExpiry dt g => exact answersKeeping (exec_tkaExpiry s dt g) (execTkaExpiry_keeps dt g (.refl _))
  | tprepExpiry dt g => exact answersKeeping (exec_tprepExpiry s dt g) (execTprepExpiry_keeps dt g (.refl _))
  | needHoldEnd dt g => exact answersKeeping (exec_needHoldEnd s dt g) (execNeedHoldEnd_keeps dt g (.refl _))
  | fwdHoldEnd dt g => exact answersKeeping (exec_fwdHoldEnd s dt g) (execFwdHoldEnd_keeps dt g (.refl _))
  | segmentWake dt g b => exact answersKeeping (exec_segmentWake s dt g b) (execSegmentWake_keeps dt g b (.refl _))
  | failsafeSleepRequest dt g answered =>
    exact answersKeeping (exec_failsafeSleepRequest s dt g answered) (execFailsafeSleepRequest_keeps dt g answered (.refl _))
  | failsafeTimeout dt g => exact answersKeeping (exec_failsafeTimeout s dt g) (execFailsafeTimeout_keeps dt g (.refl _))
  | nmKeeper dt g => exact answersKeeping (exec_nmKeeper s dt g) (execNmKeeper_keeps dt g (.refl _))
  | linSilenceSleep dt n => exact answersKeeping (exec_linSilenceSleep s dt n) (execLinSilenceSleep_keeps dt n (.refl _))
  | nodeTableClear dt pf g => exact answersKeeping (exec_nodeTableClear s dt pf g) (execNodeTableClear_keeps dt pf g (.refl _))
  | twJoin dt c => exact answersKeeping (exec_twJoin s dt c) (execTwJoin_keeps dt c (.refl _))
  | twPart dt c => exact answersKeeping (exec_twPart s dt c) (execTwPart_keeps dt c (.refl _))
  | twSolstice dt c peer => exact answersKeeping (exec_twSolstice s dt c peer) (execTwSolstice_keeps dt c peer (.refl _))
  | twEquinox dt c peer fmt => exact answersKeeping (exec_twEquinox s dt c peer fmt) (execTwEquinox_keeps dt c peer fmt (.refl _))
  | twEnable dt pf => exact answersKeeping (exec_twEnable s dt pf) (execTwEnable_keeps dt pf (.refl _))
  | twDisable dt pf => exact answersKeeping (exec_twDisable s dt pf) (execTwDisable_keeps dt pf (.refl _))
  | claimDelayExpiry dt rival same =>
    exact answersKeeping (exec_claimDelayExpiry s dt rival same) (execClaimDelayExpiry_keeps dt rival same (.refl _))
  | pairRoleLow dt same det on => exact answersKeeping (exec_pairRoleLow s dt same det on) (execPairRoleLow_keeps dt same det on (.refl _))
  | pairOkLow dt => exact answersKeeping (exec_pairOkLow s dt) (execPairOkLow_keeps dt (.refl _))
  | twHeartbeatSend dt => exact answersKeeping (exec_twHeartbeatSend s dt) (execTwHeartbeatSend_keeps dt (.refl _))
  | twHeartbeatLoss dt role ok parted det on =>
    exact answersKeeping (exec_twHeartbeatLoss s dt role ok parted det on) (execTwHeartbeatLoss_keeps dt role ok parted det on (.refl _))
  | pairRoleReleased dt det on => exact answersKeeping (exec_pairRoleReleased s dt det on) (execPairRoleReleased_keeps dt det on (.refl _))
  | heartbeatRestored dt => exact answersKeeping (exec_heartbeatRestored s dt) (execHeartbeatRestored_keeps dt (.refl _))
  | reedLaneLoss dt k => exact answersKeeping (exec_reedLaneLoss s dt k) (execReedLaneLoss_keeps dt k (.refl _))
  | mirrorSnapshot dt => exact answersKeeping (exec_mirrorSnapshot s dt) (execMirrorSnapshot_keeps dt (.refl _))
  | imageReceived dt im whole crc took =>
    exact answersKeeping (exec_imageReceived s dt im whole crc took) (execImageReceived_keeps dt im whole crc took (.refl _))
  | mirrorLate dt us => exact answersKeeping (exec_mirrorLate s dt us) (execMirrorLate_keeps dt us (.refl _))
  | driveMessage dt d late => exact answersKeeping (exec_driveMessage s dt d late) (execDriveMessage_keeps dt d late (.refl _))
  | partnerLost dt o cause back => exact answersKeeping (exec_partnerLost s dt o cause back) (execPartnerLost_keeps dt o cause back (.refl _))
  | journalTimeout dt => exact answersKeeping (exec_journalTimeout s dt) (execJournalTimeout_keeps dt (.refl _))
  | oobHeartbeatSend dt => exact answersKeeping (exec_oobHeartbeatSend s dt) (execOobHeartbeatSend_keeps dt (.refl _))
  | oobHeartbeatReceived dt role serial later =>
    exact answersKeeping (exec_oobHeartbeatReceived s dt role serial later) (execOobHeartbeatReceived_keeps dt role serial later (.refl _))
  | lineFault dt k bad => exact answersKeeping (exec_lineFault s dt k bad) (execLineFault_keeps dt k bad (.refl _))
  | solsticeDue dt why peer => exact answersKeeping (exec_solsticeDue s dt why peer) (execSolsticeDue_keeps dt why peer (.refl _))
  | swapPrecondTimeout dt => exact answersKeeping (exec_swapPrecondTimeout s dt) (execSwapPrecondTimeout_keeps dt (.refl _))
  | swapProveDone dt fail => exact answersKeeping (exec_swapProveDone s dt fail) (execSwapProveDone_keeps dt fail (.refl _))
  | takeoverSlow dt => exact answersKeeping (exec_takeoverSlow s dt) (execTakeoverSlow_keeps dt (.refl _))
  | equinoxStep dt step fail sig peer =>
    exact answersKeeping (exec_equinoxStep s dt step fail sig peer) (execEquinoxStep_keeps dt step fail sig peer (.refl _))
  | offtestWindow dt first off => exact answersKeeping (exec_offtestWindow s dt first off) (execOfftestWindow_keeps dt first off (.refl _))
  | bundleIssue dt k ecc vd => exact answersKeeping (exec_bundleIssue s dt k ecc vd) (execBundleIssue_keeps dt k ecc vd (.refl _))
  | channelTriggerAnswer dt k vd => exact answersKeeping (exec_channelTriggerAnswer s dt k vd) (execChannelTriggerAnswer_keeps dt k vd (.refl _))
  | tmrWaitExpiry dt k => exact answersKeeping (exec_tmrWaitExpiry s dt k) (execTmrWaitExpiry_keeps dt k (.refl _))
  | mbxRxWake dt k => exact answersKeeping (exec_mbxRxWake s dt k) (execMbxRxWake_keeps dt k (.refl _))
  | fifeRun dt pf k => exact answersKeeping (exec_fifeRun s dt pf k) (execFifeRun_keeps dt pf k (.refl _))
  | fifeHalt dt pf k => exact answersKeeping (exec_fifeHalt s dt pf k) (execFifeHalt_keeps dt pf k (.refl _))
  | fifeRestart dt pf k => exact answersKeeping (exec_fifeRestart s dt pf k) (execFifeRestart_keeps dt pf k (.refl _))
  | fifeBist dt pf k fail lost => exact answersKeeping (exec_fifeBist s dt pf k fail lost) (execFifeBist_keeps dt pf k fail lost (.refl _))
  | fifeMemAccess dt pf w => exact answersKeeping (exec_fifeMemAccess s dt pf w) (execFifeMemAccess_keeps dt pf w (.refl _))
  | lockstepMismatch dt m => exact answersKeeping (exec_lockstepMismatch s dt m) (execLockstepMismatch_keeps dt m (.refl _))
  | shawmJoin dt diff => exact answersKeeping (exec_shawmJoin s dt diff) (execShawmJoin_keeps dt diff (.refl _))
  | splitmaxExpiry dt => exact answersKeeping (exec_splitmaxExpiry s dt) (execSplitmaxExpiry_keeps dt (.refl _))
  | lockstepLostDebug dt => exact answersKeeping (exec_lockstepLostDebug s dt) (execLockstepLostDebug_keeps dt (.refl _))
  | fltActiveClear dt pf w => exact answersKeeping (exec_fltActiveClear s dt pf w) (execFltActiveClear_keeps dt pf w (.refl _))
  | frzRel dt pf k reason => exact answersKeeping (exec_frzRel s dt pf k reason) (execFrzRel_keeps dt pf k reason (.refl _))
  | sramScrub dt hits => exact answersKeeping (exec_sramScrub s dt hits) (execSramScrub_keeps dt hits (.refl _))
  | adcCalibration dt drifts => exact answersKeeping (exec_adcCalibration s dt drifts) (execAdcCalibration_keeps dt drifts (.refl _))
  | stopRequest dt pf force => exact answersKeeping (exec_stopRequest s dt pf force) (execStopRequest_keeps dt pf force (.refl _))
  | stopDrainEnd dt => exact answersKeeping (exec_stopDrainEnd s dt) (execStopDrainEnd_keeps dt (.refl _))
  | stopDrainTimeout dt => exact answersKeeping (exec_stopDrainTimeout s dt) (execStopDrainTimeout_keeps dt (.refl _))
  | stopOutputsEnd dt => exact answersKeeping (exec_stopOutputsEnd s dt) (execStopOutputsEnd_keeps dt (.refl _))
  | stopSaveEnd dt => exact answersKeeping (exec_stopSaveEnd s dt) (execStopSaveEnd_keeps dt (.refl _))
  | stopCommitEnd dt => exact answersKeeping (exec_stopCommitEnd s dt) (execStopCommitEnd_keeps dt (.refl _))
  | stopClocksEnd dt => exact answersKeeping (exec_stopClocksEnd s dt) (execStopClocksEnd_keeps dt (.refl _))
  | stopRailsEnd dt => exact answersKeeping (exec_stopRailsEnd s dt) (execStopRailsEnd_keeps dt (.refl _))
  | stopTimerWake dt => exact answersKeeping (exec_stopTimerWake s dt) (execStopTimerWake_keeps dt (.refl _))
  | tokenIrqWake dt => exact answersKeeping (exec_tokenIrqWake s dt) (execTokenIrqWake_keeps dt (.refl _))
  | pePerstRelease dt => exact answersKeeping (exec_pePerstRelease s dt) (execPePerstRelease_keeps dt (.refl _))
  | secProvision dt c rcd sig => exact answersKeeping (exec_secProvision s dt c rcd sig) (execSecProvision_keeps dt c rcd sig (.refl _))
  | keySlotProgram dt c rcd sig => exact answersKeeping (exec_keySlotProgram s dt c rcd sig) (execKeySlotProgram_keeps dt c rcd sig (.refl _))
  | keySlotRevoke dt c rcd sig => exact answersKeeping (exec_keySlotRevoke s dt c rcd sig) (execKeySlotRevoke_keeps dt c rcd sig (.refl _))
  | lcToField dt c rcd sig => exact answersKeeping (exec_lcToField s dt c rcd sig) (execLcToField_keeps dt c rcd sig (.refl _))
  | lcToFieldService dt c rcd sig => exact answersKeeping (exec_lcToFieldService s dt c rcd sig) (execLcToFieldService_keeps dt c rcd sig (.refl _))
  | lcBackToField dt c rcd sig => exact answersKeeping (exec_lcBackToField s dt c rcd sig) (execLcBackToField_keeps dt c rcd sig (.refl _))
  | lcToRetired dt c rcd sig => exact answersKeeping (exec_lcToRetired s dt c rcd sig) (execLcToRetired_keeps dt c rcd sig (.refl _))
  | secAttest dt c nonce partner => exact answersKeeping (exec_secAttest s dt c nonce partner) (execSecAttest_keeps dt c nonce partner (.refl _))
  | fieldServiceExpiry dt => exact answersKeeping (exec_fieldServiceExpiry s dt) (execFieldServiceExpiry_keeps dt (.refl _))
  | dapChallenge dt => exact answersKeeping (exec_dapChallenge s dt) (execDapChallenge_keeps dt (.refl _))
  | dapSubmit dt req rcd sig => exact answersKeeping (exec_dapSubmit s dt req rcd sig) (execDapSubmit_keeps dt req rcd sig (.refl _))
  | dapLeave dt => exact answersKeeping (exec_dapLeave s dt) (execDapLeave_keeps dt (.refl _))
  | dapNonceExpiry dt => exact answersKeeping (exec_dapNonceExpiry s dt) (execDapNonceExpiry_keeps dt (.refl _))
  | dapLockoutEnd dt => exact answersKeeping (exec_dapLockoutEnd s dt) (execDapLockoutEnd_keeps dt (.refl _))
  | dbgmaxWrite dt pf v => exact answersKeeping (exec_dbgmaxWrite s dt pf v) (execDbgmaxWrite_keeps dt pf v (.refl _))
  | dmaLock dt pf => exact answersKeeping (exec_dmaLock s dt pf) (execDmaLock_keeps dt pf (.refl _))
  | accSearch dt pf => exact answersKeeping (exec_accSearch s dt pf) (execAccSearch_keeps dt pf (.refl _))
  | accDeauth dt pf => exact answersKeeping (exec_accDeauth s dt pf) (execAccDeauth_keeps dt pf (.refl _))
  | tokenFrameReceived dt uhf bs overlap =>
    exact answersKeeping (exec_tokenFrameReceived s dt uhf bs overlap) (execTokenFrameReceived_keeps dt uhf bs overlap (.refl _))
  | searchSlotEnd dt => exact answersKeeping (exec_searchSlotEnd s dt) (execSearchSlotEnd_keeps dt (.refl _))
  | responseTimeout dt => exact answersKeeping (exec_responseTimeout s dt) (execResponseTimeout_keeps dt (.refl _))
  | sessionTimeout dt => exact answersKeeping (exec_sessionTimeout s dt) (execSessionTimeout_keeps dt (.refl _))
  | releaseMessage dt past => exact answersKeeping (exec_releaseMessage s dt past) (execReleaseMessage_keeps dt past (.refl _))
  | authTimeout dt => exact answersKeeping (exec_authTimeout s dt) (execAuthTimeout_keeps dt (.refl _))
  | accLockoutEnd dt => exact answersKeeping (exec_accLockoutEnd s dt) (execAccLockoutEnd_keeps dt (.refl _))
  | lockoutStore dt => exact answersKeeping (exec_lockoutStore s dt) (execLockoutStore_keeps dt (.refl _))
  | accEnrol dt c rcd sig => exact answersKeeping (exec_accEnrol s dt c rcd sig) (execAccEnrol_keeps dt c rcd sig (.refl _))
  | accRevoke dt c rcd sig => exact answersKeeping (exec_accRevoke s dt c rcd sig) (execAccRevoke_keeps dt c rcd sig (.refl _))
  | accInstallKeys dt c rcd sig tag =>
    exact answersKeeping (exec_accInstallKeys s dt c rcd sig tag) (execAccInstallKeys_keeps dt c rcd sig tag (.refl _))
  | updStage dt c chunk => exact answersKeeping (exec_updStage s dt c chunk) (execUpdStage_keeps dt c chunk (.refl _))
  | updVerify dt c sig => exact answersKeeping (exec_updVerify s dt c sig) (execUpdVerify_keeps dt c sig (.refl _))
  | updCommit dt c sig => exact answersKeeping (exec_updCommit s dt c sig) (execUpdCommit_keeps dt c sig (.refl _))
  | updConfirm dt c => exact answersKeeping (exec_updConfirm s dt c) (execUpdConfirm_keeps dt c (.refl _))
  | updAbort dt c => exact answersKeeping (exec_updAbort s dt c) (execUpdAbort_keeps dt c (.refl _))
  | setDefaults dt c => exact answersKeeping (exec_setDefaults s dt c) (execSetDefaults_keeps dt c (.refl _))
  | autoConfirm dt => exact answersKeeping (exec_autoConfirm s dt) (execAutoConfirm_keeps dt (.refl _))
  | trialTimeout dt => exact answersKeeping (exec_trialTimeout s dt) (execTrialTimeout_keeps dt (.refl _))
  | vkeepLoss dt kept => exact answersKeeping (exec_vkeepLoss s dt kept) (execVkeepLoss_keeps dt kept (.refl _))
  | pcieLinkDown dt => exact answersKeeping (exec_pcieLinkDown s dt) (execPcieLinkDown_keeps dt (.refl _))
  | pcieLinkUp dt => exact answersKeeping (exec_pcieLinkUp s dt) (execPcieLinkUp_keeps dt (.refl _))
  | reedLaneLock dt k => exact answersKeeping (exec_reedLaneLock s dt k) (execReedLaneLock_keeps dt k (.refl _))
  | twJoinTimeout dt => exact answersKeeping (exec_twJoinTimeout s dt) (execTwJoinTimeout_keeps dt (.refl _))
  | twinRefreshTimeout dt => exact answersKeeping (exec_twinRefreshTimeout s dt) (execTwinRefreshTimeout_keeps dt (.refl _))
  | oobHeartbeatSilent dt => exact answersKeeping (exec_oobHeartbeatSilent s dt) (execOobHeartbeatSilent_keeps dt (.refl _))
  | barrierFrameMissing dt uplink => exact answersKeeping (exec_barrierFrameMissing s dt uplink) (execBarrierFrameMissing_keeps dt uplink (.refl _))

/-- What a next state keeps of the state in which its command began. -/
theorem exec_next_keeps {c : Instr} {s t : State} (h : exec c s = .next t) : ∃ dt, Keeps (s.tick dt) t := by
  obtain ⟨dt, t', ht, hk⟩ := exec_keeps c s
  cases ht.symm.trans h
  exact ⟨dt, hk⟩

theorem step_nil {s : State} (h : s.pending = []) : step s = .next s := by rw [step, h]

theorem step_cons {s : State} {c : Instr} {q : List Instr} (h : s.pending = c :: q) : step s = exec c { s with pending := q } := by rw [step, h]

/-- A step that answers a next state either idles, or runs the front command on the state with the queue's rest, which `Keeps` then ties to it. -/
theorem step_next_cases {s t : State} (h : step s = .next t) : t = s ∨ ∃ dt q, Keeps (({ s with pending := q } : State).tick dt) t := by
  cases hq : s.pending with
  | nil =>
    cases (step_nil hq).symm.trans h
    exact .inl rfl
  | cons c q =>
    obtain ⟨dt, hk⟩ := exec_next_keeps ((step_cons hq).symm.trans h)
    exact .inr ⟨dt, q, hk⟩

theorem step_safe (s : State) : SafeStep s := by
  cases hq : s.pending with
  | nil => exact ⟨s, step_nil hq⟩
  | cons c q =>
    obtain ⟨-, t, ht, -⟩ := exec_keeps c { s with pending := q }
    exact ⟨t, (step_cons hq).trans ht⟩

/-- Settles O46: every row's meaning answers a next state that keeps the queue, at a monotonic time raised by the command's own time. -/
theorem everyCommandAnswers : Obligations.EveryCommandAnswers := by
  refine ⟨fun c s => ?_, step_safe⟩
  obtain ⟨dt, t, ht, hk⟩ := exec_keeps c s
  exact ⟨t, ht, hk.pending, hk.now ▸ Nat.le_add_right s.now dt⟩

/-- Settles O48: time and the queue are no part of the register file, and every row's meaning keeps the file canonical. -/
theorem registerFileStaysCanonical : Obligations.RegisterFileStaysCanonical := by
  intro s t hs h
  obtain rfl | ⟨dt, q, hk⟩ := step_next_cases h
  · exact hs
  · exact hk.canon hs

/-- Settles O45: by the definition of a step. -/
theorem stepTakesTheFrontCommand : Obligations.StepTakesTheFrontCommand :=
  fun _ _ _ => ⟨step_cons rfl, step_nil⟩

end Sys2Proof.Machine

/-!
The register file: reading back a write, and the state after power-up reset.
-/
namespace Sys2Proof.Machine

theorem State.rd_wr_same (s : State) (f : Field) (i v : Nat) : (s.wr f i v).rd f i = v % 2 ^ f.width := by
  rw [State.rd_wr, if_pos ⟨rfl, rfl⟩]

theorem State.rd_wr_other (s : State) {f g : Field} {i j : Nat} (v : Nat) (h : f.id ≠ g.id ∨ i ≠ j) : (s.wr f i v).rd g j = s.rd g j := by
  rw [State.rd_wr, if_neg]
  rintro ⟨hf, hj⟩
  exact h.elim (absurd hf.symm) (absurd hj.symm)

/-- Settles O50: what a table reads after a write, for the table of fields and for the field's own table of indices. -/
theorem registersReadBack : Obligations.RegistersReadBack :=
  fun s f _ i _ v => ⟨s.rd_wr_same f i v, s.rd_wr_other v, rfl⟩

theorem regsCanon_nil : regsCanon [] := ⟨rfl, fun _ h => absurd h List.not_mem_nil⟩

/-- Settles O49: after reset every table is empty, and an absent entry reads its default. -/
theorem resetState : Obligations.ResetState := by
  refine ⟨regsCanon_nil, fun _ _ => rfl, rfl, rfl, fun _ _ => ⟨rfl, rfl, rfl, rfl⟩, fun _ => rfl, rfl, rfl, rfl, fun o h4 h5 => ?_⟩
  change defOwner o = 1
  rw [defOwner, if_neg h4, if_neg h5]

end Sys2Proof.Machine

/-!
What the shared operations leave alone, and what ends a row in which nothing falls due.
-/
namespace Sys2Proof.Machine

/-! ### Operations that change one component (R13, R131, R138, R139) -/

theorem State.complete_frame (s : State) (c : Cmd) (code : Code) (sub : Nat) : { s.complete c code sub with host := s.host } = s := by
  unfold State.complete
  split <;> rfl

theorem State.defer_frame (s : State) (c : Cmd) (planned sub : Nat) : { s.defer c planned sub with host := s.host } = s := by
  unfold State.defer
  dsimp only
  split
  · rfl
  · split
    · rfl
    · split <;> rfl

theorem State.raiseTo_frame (s : State) (type obj data : Nat) (fault : Bool) (pfs : List Nat) :
    { s.raiseTo type obj data fault pfs with host := s.host, flt := s.flt } = s := by
  unfold State.raiseTo
  split <;> rfl

/-! ### The end of a row -/

/-- A fold whose every step stands still stands still. -/
theorem foldl_fixed {α β : Type} {g : β → α → β} {b : β} : ∀ {l : List α}, (∀ a ∈ l, g b a = b) → l.foldl g b = b
  | [], _ => rfl
  | a :: l, h => by
    rw [List.foldl_cons, h a List.mem_cons_self]
    exact foldl_fixed fun x hx => h x (List.mem_cons_of_mem _ hx)

theorem repeat_fixed {α : Type} {g : α → α} {a : α} (h : g a = a) : ∀ n, Nat.repeat g n a = a
  | 0 => rfl
  | n + 1 => by rw [Nat.repeat, repeat_fixed h n, h]

theorem State.withViols_nil {s : State} (h : s.host.viols = []) : ({ s with host := { s.host with viols := [] } } : State) = s := by rw [← h]

theorem State.withOrphanDue_nil {s : State} (h : s.out.orphanDue = []) : ({ s with out := { s.out with orphanDue := [] } } : State) = s := by rw [← h]

theorem State.withOutbox_nil {s : State} (h : s.host.outbox = []) : ({ s with host := { s.host with outbox := [] } } : State) = s := by rw [← h]

/-- No freeze and no orphan policy waits (R131, R271). -/
theorem State.settle_idle {s : State} (hv : s.host.viols = []) (ho : s.out.orphanDue = []) : s.settle = s := by
  refine repeat_fixed ?_ 5
  unfold State.settleOnce
  simp only [hv, State.withViols_nil hv, List.foldl_nil, ho, State.withOrphanDue_nil ho]

/-- No loop is closed or held (R488). -/
theorem State.follow_idle {s : State} (h : ∀ n < 48, s.rd Reg.LP_STAT_STATE n = 0) : s.follow = s :=
  foldl_fixed fun n hn => by rw [State.loopStep, if_pos (h n (List.mem_range.1 hn))]

theorem State.chops_idle {s : State} (h : ∀ n < 16, s.svChopDue n = false) : s.chops = s :=
  foldl_fixed fun n hn => by rw [h n (List.mem_range.1 hn)]; rfl

theorem State.drives_idle {s : State} (h : s.twSt ≠ 3) : s.drives = s := if_neg h

theorem State.shadows_idle {s : State} (h : s.twRole ≠ 2) : s.shadows = s := if_neg h

theorem State.sendCpls_idle {s : State} (h : s.host.outbox = []) : s.sendCpls = s := by
  rw [State.sendCpls, h]
  exact State.withOutbox_nil h

theorem State.deliverOnce_idle {s : State} (ho : s.host.outbox = []) (hv : s.host.viols = []) : s.deliverOnce = s := by
  rw [State.deliverOnce, State.sendCpls_idle ho, hv]
  rfl

/-- What `State.quiet` says, part by part. -/
theorem State.quiet_iff {s : State} : s.quiet = true ↔ s.host.outbox = [] ∧ s.host.viols = [] ∧ s.out.orphanDue = []
    ∧ (∀ n < 48, s.rd Reg.LP_STAT_STATE n = 0) ∧ (∀ n < 16, s.svChopDue n = false) ∧ s.twSt ≠ 3 ∧ s.twRole ≠ 2 := by
  simp [State.quiet, and_assoc]

theorem State.moves_quiet {s : State} (h : s.quiet = true) : s.moves = s := by
  obtain ⟨-, hviols, horphan, hloops, hchops, hlead, hshadow⟩ := State.quiet_iff.1 h
  rw [State.moves, State.settle_idle hviols horphan, State.follow_idle hloops, State.chops_idle hchops, State.drives_idle hlead,
    State.shadows_idle hshadow]

/-- A row that leaves nothing falling due ends as it is. -/
theorem State.done_quiet {s : State} (h : s.quiet = true) : s.done = s := by
  obtain ⟨houtbox, hviols, -⟩ := State.quiet_iff.1 h
  rw [State.done, State.moves_quiet h]
  exact repeat_fixed (State.deliverOnce_idle houtbox hviols) 5

/-- Settles O51: each operation by its own record update, the end of a row by the operations it is made of. -/
theorem operationsLeaveTheRest : Obligations.OperationsLeaveTheRest :=
  fun s c code sub dt type obj data _ fault _ pfs =>
    ⟨s.complete_frame c code sub, rfl, s.defer_frame c dt sub, s.raiseTo_frame type obj data fault pfs, rfl, rfl, State.done_quiet⟩

end Sys2Proof.Machine

/-!
The way of a final completion: from the command in flight to the completions owed, and from there into its ring (R13, R17, R101, R119, R136).
-/
namespace Sys2Proof.Machine

/-! ### Posted writes and messages -/

@[simp] theorem HostState.post_inflight (h : HostState) (w : HostWrite) : (h.post w).inflight = h.inflight := by
  unfold HostState.post; split <;> rfl

@[simp] theorem HostState.post_cplRings (h : HostState) (w : HostWrite) : (h.post w).cplRings = h.cplRings := by
  unfold HostState.post; split <;> rfl

/-- What was sent or waits, and the new write, are sent or wait. -/
theorem HostState.mem_post {h : HostState} {w x : HostWrite} :
    x ∈ (h.post w).sent ++ (h.post w).waiting ↔ x = w ∨ x ∈ h.sent ++ h.waiting := by
  unfold HostState.post
  split
  · simp only [List.cons_append, List.mem_cons]
  · simp only [List.mem_append, List.mem_cons]
    exact or_left_comm

@[simp] theorem HostState.signal_inflight (h : HostState) (pf vec : Nat) : (h.signal pf vec).inflight = h.inflight := by
  unfold HostState.signal
  dsimp only
  split
  · rfl
  · split
    · rfl
    · exact h.post_inflight _

@[simp] theorem HostState.signal_cplRings (h : HostState) (pf vec : Nat) : (h.signal pf vec).cplRings = h.cplRings := by
  unfold HostState.signal
  dsimp only
  split
  · rfl
  · split
    · rfl
    · exact h.post_cplRings _

/-- Signalling a vector takes back no write. -/
theorem HostState.mem_signal {h : HostState} {pf vec : Nat} {x : HostWrite} (hx : x ∈ h.sent ++ h.waiting) :
    x ∈ (h.signal pf vec).sent ++ (h.signal pf vec).waiting := by
  unfold HostState.signal
  dsimp only
  split
  · exact hx
  · split
    · exact hx
    · exact HostState.mem_post.2 (.inr hx)

/-! ### A completion enters its ring (R92, R101, R102, R142) -/

@[simp] theorem HostState.setCplRing_cplRings (h : HostState) (pf m : Nat) (r : OutRing) :
    (h.setCplRing pf m r).cplRings = tput h.cplRings (32 * pf + m) r := rfl

/-- A completion for the enabled ring of a function that is not frozen, inside the function's ranges: commands in flight stand, the tail moves by one, and
the tail entry holds the completion with the ring's PHASE. -/
theorem HostState.putCompletion_written {ok : Nat → Nat → Nat → Bool} {now : Ns} {h : HostState} {pf m : Nat} {c : Completion} {r : OutRing}
    (hr : tget {} h.cplRings (32 * pf + m) = r) (hf : (tget {} h.fns pf : Func).frozen = false) (hen : r.en = true)
    (hok : ok pf (r.addr 16) 16 = true) :
    let t := h.putCompletion ok now pf m c
    t.inflight = h.inflight ∧ (tget {} t.cplRings (32 * pf + m) : OutRing).tail = (r.tail + 1) % 65536
    ∧ .completion pf m (r.tail % r.size) { c with phase := r.phase } ∈ t.sent ++ t.waiting := by
  subst hr
  unfold HostState.putCompletion
  simp only [hf, hen, hok, Bool.not_true, Bool.false_eq_true, if_false]
  split
  · refine ⟨by simp [HostState.setCplRing], by simp [tget_tput, OutRing.advance], HostState.mem_signal (HostState.mem_post.2 (.inl rfl))⟩
  · refine ⟨by simp [HostState.setCplRing], by simp [tget_tput, OutRing.advance], HostState.mem_post.2 (.inl rfl)⟩

/-! ### The final completion is decided (R13, R17, R136) -/

/-- The final completion of a host command for which no CANCEL waits, before its ring gives it a PHASE. -/
def InFlight.completion (r : InFlight) (code : Code) (sub time : Nat) : Completion :=
  { tag := r.cmd.tag, code := if code = .done ∧ 0 < r.clamps then .doneClamped else code, ring := r.cmd.ring, phase := 0, sub, slot := r.cmd.slot, time }

/-- The answer to a host command for which no CANCEL waits: one more completion is owed; commands in flight, rings and freezes stand. -/
theorem HostState.answer_host {h : HostState} {r : InFlight} (code : Code) (sub time : Nat) (hsrc : r.cmd.src = .host) (hc : r.cancels = []) :
    let t := h.answer r code sub time
    t.outbox = h.outbox ++ [(r.cmd.pf, r.cpl, r.completion code sub time)] ∧ t.inflight = h.inflight ∧ t.cplRings = h.cplRings
    ∧ (tget {} t.fns r.cmd.pf : Func).frozen = (tget {} h.fns r.cmd.pf : Func).frozen := by
  unfold HostState.answer
  simp only [hsrc, hc, List.isEmpty_nil, Bool.not_true, Bool.false_eq_true, and_false, if_false]
  refine ⟨rfl, rfl, rfl, ?_⟩
  simp only [HostState.setFn, tget_tput, if_true, apply_ite Func.frozen, ite_self]

theorem HostState.finishWaiting_nil (time n : Nat) (h : HostState) : HostState.finishWaiting time n h [] = h := by
  cases n <;> rfl

/-- The completion of a command in flight that is no stale reply and for which no CANCEL waits. -/
theorem State.complete_flight {s : State} {c : Cmd} {r : InFlight} (code : Code) (sub : Nat) (hr : s.flight c = some r) (hc : r.cancels = [])
    (hstale : s.host.staleCmds.contains c = false) : s.complete c code sub = { s with host := s.host.finishOne r code sub s.ntime } := by
  unfold State.complete State.completeFlight HostState.finish
  unfold State.flight at hr
  simp only [hstale, hr, hc, HostState.finishWaiting_nil, Bool.false_eq_true, if_false]

/-- One completion is owed: the row's end puts it into its ring. -/
theorem State.sendCpls_one {s : State} {pf m : Nat} {k : Completion} (h : s.host.outbox = [(pf, m, k)]) :
    s.sendCpls = { s with host := ({ s.host with outbox := [] } : HostState).putCompletion s.dmaOk s.now pf m k } := by
  rw [State.sendCpls, h]
  rfl

/-- A command whose record is gone is in flight no longer. -/
theorem find_filter_sameCmd (l : List InFlight) (c : Cmd) : (l.filter fun x => !sameCmd x.cmd c).find? (fun x => sameCmd x.cmd c) = none := by
  simp [List.find?_eq_none]

/-- Settles O52: the answer leaves one owed completion, and its ring takes it. -/
theorem completionReachesItsRing : Obligations.CompletionReachesItsRing := by
  rintro s c code sub r hr rfl hc hsrc houtbox hstale hfrozen hen hok
  dsimp only
  rw [State.complete_flight code sub hr hc hstale]
  obtain ⟨howed, hflying, hrings, hfn⟩ := HostState.answer_host (h := { s.host with inflight := s.host.inflight.filter fun x => !sameCmd x.cmd r.cmd })
    code sub s.ntime hsrc hc
  rw [houtbox] at howed
  rw [State.sendCpls_one howed]
  obtain ⟨hinflight, htail, hmem⟩ := HostState.putCompletion_written (ok := s.dmaOk) (now := s.now)
    (h := { s.host.finishOne r code sub s.ntime with outbox := [] }) (c := r.completion code sub s.ntime) (r := s.cplRing r.cmd.pf r.cpl)
    (congrArg (tget {} · (32 * r.cmd.pf + r.cpl)) hrings) (hfn.trans hfrozen) hen hok
  exact ⟨(congrArg (List.find? _) (hinflight.trans hflying)).trans (find_filter_sameCmd _ _), htail, hmem⟩

end Sys2Proof.Machine

/-!
Setup writes and reads (R10, R11, R18, R19, R86, R134 to R138): where a write goes, and what the write of a register comes to whose fields it does not
clear.
-/
namespace Sys2Proof.Machine

/-! ### Where a write or a read of BAR0 goes (R10, R11, R86) -/

theorem State.writable_iff {s : State} {pf win off : Nat} :
    s.writable pf win off = true ↔ s.hrReach pf = true ∧ s.running = true ∧ mayWrite pf win off = true := by
  simp only [State.writable, Bool.and_eq_true, and_assoc]

/-- A window number of BAR0 stands for no other BAR. -/
theorem bar0_ne {win : Nat} (h : win < 256) : win ≠ bar2 ∧ win ≠ bar4 := by
  unfold bar2 bar4; omega

theorem reservedWin_lt {win : Nat} (h : reservedWin win = false) : win < 34 := by
  simp only [reservedWin, Bool.or_eq_false_iff, decide_eq_false_iff_not] at h
  exact Nat.lt_of_not_le h.2

section Write
variable {s : State} {pf win off size v : Nat} {t : SelfTest}

theorem State.writeReg_reserved (hw : win < 256) (hr : reservedWin win = true) : s.writeReg pf win off size v t = s := by
  obtain ⟨h2, h4⟩ := bar0_ne hw
  simp [State.writeReg, h2, h4, hr]

/-- A write of a function that reaches the registers, at an offset of a window that is not reserved. -/
theorem State.writeReg_window (hreach : s.hrReach pf = true) (hr : reservedWin win = false) (ho : off < 4096) :
    s.writeReg pf win off size v t =
      if win = 1 then (if size == 4 && off % 4 == 0 then s.hrSetup pf off (v % 2 ^ 32) else s)
      else if !s.running then s
      else if !mayWrite pf win off then s.violate { pf, kind := 0, win, off, time := s.ntime }
      else if size == 4 && off % 4 == 0 then s.setupWrite pf win off (v % 2 ^ 32) t else s := by
  have hw := reservedWin_lt hr
  obtain ⟨h2, h4⟩ := bar0_ne (Nat.lt_trans hw (by decide))
  have hle : ¬ (256 ≤ win ∨ 4096 ≤ off) := by omega
  simp [State.writeReg, h2, h4, hreach, hr, hle]

theorem State.writeReg_setup (h : s.writable pf win off = true) (hr : reservedWin win = false) (ho : off < 4096) (h1 : win ≠ 1) (ha : off % 4 = 0) :
    s.writeReg pf win off 4 v t = s.setupWrite pf win off (v % 2 ^ 32) t := by
  obtain ⟨hreach, hrun, hmay⟩ := State.writable_iff.1 h
  simp [State.writeReg_window hreach hr ho, h1, hrun, hmay, ha]

theorem State.writeReg_host (h : s.writable pf 1 off = true) (ho : off < 4096) (ha : off % 4 = 0) :
    s.writeReg pf 1 off 4 v t = s.hrSetup pf off (v % 2 ^ 32) := by
  simp [State.writeReg_window (win := 1) (State.writable_iff.1 h).1 (by decide) ho, ha]

/-- A write of another width or alignment changes nothing (R11). -/
theorem State.writeReg_misfit (h : s.writable pf win off = true) (hr : reservedWin win = false) (ho : off < 4096) (hm : size ≠ 4 ∨ off % 4 ≠ 0) :
    s.writeReg pf win off size v t = s := by
  obtain ⟨hreach, hrun, hmay⟩ := State.writable_iff.1 h
  have hwhole : (size == 4 && off % 4 == 0) = false := by
    rw [Bool.and_eq_false_iff, beq_eq_false_iff_ne, beq_eq_false_iff_ne]
    exact hm
  simp [State.writeReg_window hreach hr ho, hrun, hmay, hwhole]

theorem State.writeReg_forbidden (hreach : s.hrReach pf = true) (hrun : s.running = true) (hmay : mayWrite pf win off = false)
    (hr : reservedWin win = false) (ho : off < 4096) :
    s.writeReg pf win off size v t = s.violate { pf, kind := 0, win, off, time := s.ntime } := by
  have h1 : win ≠ 1 := by rintro rfl; simp [mayWrite] at hmay
  simp [State.writeReg_window hreach hr ho, h1, hrun, hmay]

theorem State.readReg_word (hl : s.host.linkUp = true) (hp : pf < 4) (hw : win < 256) (ho : off < 4096) (ha : off % 4 = 0)
    (hm : ¬ (win = 0x1E ∧ off = 0x804)) :
    s.readReg pf win off 4 =
      ({ s with host := { s.host with readback := if reservedWin win then 0 else s.readWord pf win off } } : State).rcRead pf win off := by
  obtain ⟨h2, h4⟩ := bar0_ne hw
  have hle : ¬ (4 ≤ pf ∨ 4096 ≤ off) := by omega
  simp [State.readReg, h2, h4, hl, hle, Nat.not_le.2 hw, ha, hm]

theorem State.readReg_misfit (hl : s.host.linkUp = true) (hp : pf < 4) (hw : win < 256) (ho : off < 4096) (hm : size ≠ 4 ∨ off % 4 ≠ 0) :
    s.readReg pf win off size = { s with host := { s.host with readback := 2 ^ (8 * size) - 1 } } := by
  obtain ⟨h2, h4⟩ := bar0_ne hw
  have hle : ¬ (4 ≤ pf ∨ 4096 ≤ off) := by omega
  simp only [State.readReg, h2, h4, hl, hle, Nat.not_le.2 hw, hm, Bool.not_true, decide_false, Bool.or_self, Bool.false_eq_true, if_false, if_true]

end Write

/-! ### Fields that do more than take their value -/

theorem Field.isIn_eq_false {f : Field} {fs : List Field} : f.isIn fs = false ↔ ∀ g ∈ fs, f.id ≠ g.id := by
  simp [Field.isIn, eq_comm (b := f.id)]

theorem Field.isIn_append (f : Field) (a b : List Field) : f.isIn (a ++ b) = (f.isIn a || f.isIn b) := List.any_append

/-- The fields that a state of their block locks (R134); those of the DMA ranges stand apart. -/
def blockLocks : List Field :=
  lhRec ++ chCfg ++ lpLocked ++ [Reg.LD_CFG0_ISET] ++ [Reg.SV_CFG0_IHOLD] ++ canLocked ++ rxqLocked ++ [Reg.TM_ID_ID, Reg.TM_ID_IDE]
  ++ [Reg.LIN_CFG_ROLE, Reg.LIN_CFG_BAUD, Reg.LIN_CFG_V24] ++ linSlot ++ [Reg.QBV_CFG_LEN, Reg.QBV_CYCLE, Reg.QBV_BASE_LO, Reg.QBV_BASE_HI]
  ++ nmLocked ++ twLocked

/-- A field that no state of a block locks is locked by SEC_DMALOCK alone (R878). -/
theorem State.fieldLocked_eq (s : State) (pf src : Nat) {f : Field} (i : Nat) (h : f.isIn blockLocks = false) :
    s.fieldLocked pf src f i = (f.isIn (Reg.SEC_DMALOCK_LOCK :: dmaRange) && s.flag Reg.SEC_DMALOCK_LOCK) := by
  simp only [blockLocks, Field.isIn_append, Bool.or_eq_false_iff, and_assoc] at h
  obtain ⟨h1, h2, h3, h4, h5, h6, h7, h8, h9, h10, h11, h12, h13⟩ := h
  unfold State.fieldLocked
  rw [h1, h2, h3, h4, h5, h6, h7, h8, h9, h10, h11, h12, h13]
  simp only [Bool.and_false, Bool.false_and, Bool.false_or]

/-- The fields that some state locks. -/
def lockFields : List Field := blockLocks ++ (Reg.SEC_DMALOCK_LOCK :: dmaRange)

theorem State.fieldLocked_free (s : State) (pf src : Nat) {f : Field} (i : Nat) (h : f.isIn lockFields = false) : s.fieldLocked pf src f i = false := by
  rw [lockFields, Field.isIn_append, Bool.or_eq_false_iff] at h
  rw [s.fieldLocked_eq pf src i h.1, h.2, Bool.false_and]

/-- The fields whose write is tested, checks other fields again, counts in a loop or moves something elsewhere. -/
def sideFields : List Field :=
  lpLocked ++ [Reg.CAN_CTL_EN, Reg.SW_CFG0_SAMPLED, Reg.TW_OBJ_MODE, Reg.HB_CFG0_MODE, Reg.LD_CFG3_TSRC, Reg.LD_CFG3_TNTC, Reg.SW_CFG0_DEBN,
    Reg.II_CFG0_DEBN, Reg.SW_CFG1_INV, Reg.II_CFG0_INV]

/-- The fields for which `State.fieldHook` has a line, but for DBGMAX. -/
def hookFields : List Field :=
  [Reg.GLB_NETCFG_NET, Reg.GLB_PACE_REQ, Reg.MX_CFG0_ICOL, Reg.MX_CFG0_NROWSM1, Reg.MX_CFG1_COLEN, Reg.CAN_CTL_EN, Reg.RXQ_CFG_EN, Reg.TM_CFG_TMEN,
   Reg.TM_CFG_REFPER, Reg.LIN_CFG_EN, Reg.ETH_PCFG_EN, Reg.ETH_RSV_PRSV, Reg.QBV_CFG_EN, Reg.GPTP_CFG_ROLE, Reg.NM_CFG_EN, Reg.TW_CFG_EN,
   Reg.FIFE_CTL_RUN]

section Put
variable {p : Put}

theorem State.wrote_plain (s : State) (old v : Nat) (h : p.f.isIn sideFields = false) : s.wrote p old v = s := by
  have hne := Field.isIn_eq_false.1 h
  simp only [sideFields, List.forall_mem_append, List.forall_mem_cons] at hne
  obtain ⟨-, -, -, hmode, hhb, htsrc, htntc, hdebn, hidebn, hinv, hiinv, -⟩ := hne
  simp only [State.wrote, hmode, hhb, htsrc, htntc, hdebn, hidebn, hinv, hiinv, false_and, or_self, if_false]

theorem State.implied_plain (s : State) (h : p.f.isIn sideFields = false) : s.implied [p] = [] := by
  have hne := Field.isIn_eq_false.1 h
  have hkind : p.f.id ≠ Reg.LP_CFG0_KIND.id := hne _ (by simp [sideFields, lpLocked])
  have hsampled : p.f.id ≠ Reg.SW_CFG0_SAMPLED.id := hne _ (by simp [sideFields])
  simp only [State.implied, List.flatMap_cons, List.flatMap_nil, hkind, hsampled, false_and, if_false, List.append_nil]

/-- A field with no line of `State.fieldHook` does nothing beside taking its value; DBGMAX, whose line is the last, caps the level (R863). -/
theorem State.fieldHook_eq (s : State) (old v : Nat) (h : p.f.isIn hookFields = false) :
    s.fieldHook p old v = if p.f.id = Reg.SEC_DBG_DBGMAX.id then s.dbgCap else s := by
  have hne := Field.isIn_eq_false.1 h
  simp only [hookFields, List.forall_mem_cons] at hne
  obtain ⟨h1, h2, h3, h4, h5, h6, h7, h8, h9, h10, h11, h12, h13, h14, h15, h16, h17, -⟩ := hne
  have hcol : p.f.isIn [Reg.MX_CFG0_NROWSM1, Reg.MX_CFG1_COLEN] = false := Field.isIn_eq_false.2 (by simp [h4, h5])
  simp only [State.fieldHook, h1, h2, h3, hcol, h6, h7, h8, h9, h10, h11, h12, h13, h14, h15, h16, h17, if_false, Bool.false_eq_true]

end Put

/-! ### The write of one register (R18, R19, R134, R135, R137) -/

/-- No bit of the word clears anything: the W1C bits that it carries are 0. -/
theorem State.w1cWrite_none {s : State} {pf win off v : Nat}
    (h : ∀ p ∈ fieldsAt win off, p.1.acc = .w1c → ∀ k < p.1.width, bit v (p.1.lo + k) = false) : s.w1cWrite pf win off v = s := by
  refine foldl_fixed fun p hp => ?_
  split
  · next hacc =>
    have hnone : (List.range p.1.width).filter (fun k => bit v (p.1.lo + k)) = [] :=
      List.filter_eq_nil_iff.2 fun k hk => by simp [h p hp hacc k (List.mem_range.1 hk)]
    rw [hnone, List.foldl_nil]
  · rfl

theorem State.logSetup_nil (s : State) (w pf : Nat) : s.logSetup w pf [] = s := rfl

/-- The write of a register with no RW field: what its W1C bits and then its WO bits do. -/
theorem State.fieldWrite_noRw {s : State} {pf win off v : Nat} {t : SelfTest} (hp : putsOf win off v = []) :
    s.fieldWrite pf win off v t = (s.w1cWrite pf win off v).woWrite pf win off v t := by
  unfold State.fieldWrite
  rw [hp]
  rfl

section OneField
variable {s : State} {pf win off v : Nat} {t : SelfTest} {p : Put}

theorem State.clampAll_one (hs : p.f.isIn sideFields = false) :
    s.clampAll pf 0 [p] = [(p, s.clampOne pf 0 [] p % 2 ^ p.f.width)] := by
  unfold State.clampAll
  rw [State.implied_plain s hs, List.append_nil]
  cases hd : p.f.rng.isDep <;> simp [hd]

/-- The clamp entry of a field that took `x`, where it asked for another value. -/
def clampOf (pf : Nat) (p : Put) (x : Nat) : List ClampEntry := clampsOf 0 pf 0 0xFFFF [(p, x)]

theorem clampOf_same (pf : Nat) (p : Put) : clampOf pf p p.v = [] := by simp [clampOf, clampsOf]

theorem clampOf_other {pf x : Nat} {p : Put} (h : p.v ≠ x) :
    clampOf pf p x = [{ offset := p.off, lsb := p.f.lo, width := p.f.width, src := 0, pf, req := p.v, applied := x }] := by
  simp [clampOf, clampsOf, h]

/-- The write of a register with one RW field and no bit that clears: the field takes its checked value, a clamp is logged and reported, and then comes
what the field and the WO bits do. -/
theorem State.fieldWrite_one (hw : s.w1cWrite pf win off v = s) (hp : putsOf win off v = [p]) (hs : p.f.isIn sideFields = false) {x : Nat}
    (hx : s.clampOne pf 0 [] p % 2 ^ p.f.width = x) :
    s.fieldWrite pf win off v t =
      ((((s.wr p.f p.i x).logSetup win pf (clampOf pf p x)).fieldHook p (s.rd p.f p.i) x).woWrite pf win off v t) := by
  have hne := Field.isIn_eq_false.1 hs
  have hcan : p.f.id ≠ Reg.CAN_CTL_EN.id := hne _ (by simp [sideFields])
  have hloop : p.f.isIn lpLocked = false := Field.isIn_eq_false.2 fun g hg => hne g (List.mem_append_left _ hg)
  unfold State.fieldWrite
  simp only [hw, hp, State.clampAll_one hs, hx, State.enTest, List.foldl_cons, List.foldl_nil, hcan, false_and, if_false, List.nil_append,
    State.putAll, State.wrote_plain _ _ _ hs, List.find?_cons, List.find?_nil, hloop, Bool.false_and]
  rfl

/-- The same where the value asked for is in range. -/
theorem State.fieldWrite_fits (hw : s.w1cWrite pf win off v = s) (hp : putsOf win off v = [p]) (hs : p.f.isIn sideFields = false)
    (hx : s.clampOne pf 0 [] p % 2 ^ p.f.width = p.v) :
    s.fieldWrite pf win off v t = ((s.wr p.f p.i p.v).fieldHook p (s.rd p.f p.i) p.v).woWrite pf win off v t := by
  rw [State.fieldWrite_one hw hp hs hx, clampOf_same, State.logSetup_nil]

end OneField

/-! ### The registers whose writes have rows of their own -/

/-- The register at `win`, `off` stands in the register file, outside window 05h: its write is that of its fields. -/
abbrev fieldReg (win off : Nat) : Prop :=
  reservedWin win = false ∧ win ≠ 1 ∧ win ≠ 5 ∧ ¬ (win = 0x0C ∧ 0x100 ≤ off ∧ off < 0x180) ∧ ¬ (win = 0x1A ∧ 0x40 ≤ off ∧ off < 0x80)
  ∧ ¬ (win = 0x19 ∧ off = 0xC44) ∧ ¬ (win = 0x1E ∧ off = 0x804)

theorem State.writeReg_fields {s : State} {pf win off v : Nat} {t : SelfTest} (h : s.writable pf win off = true) (hreg : fieldReg win off)
    (ho : off < 4096) (ha : off % 4 = 0) (hv : v < 2 ^ 32) : s.writeReg pf win off 4 v t = s.fieldWrite pf win off v t := by
  obtain ⟨hr, h1, h5, hpixel, hstage, hgate, hmdata⟩ := hreg
  rw [State.writeReg_setup h hr ho h1 ha, Nat.mod_eq_of_lt hv, State.setupWrite, if_neg h5, if_neg hpixel, if_neg hstage, if_neg hgate, if_neg hmdata]

theorem fieldsAt_pace : fieldsAt 0 0x100 = [(Reg.GLB_PACE_REQ, 0), (Reg.GLB_PACE_CUR, 0), (Reg.GLB_PACE_BUSY, 0), (Reg.GLB_PACE_REJ_MIRROR, 0)] := rfl

theorem bits_of_lt {v w : Nat} (h : v < 2 ^ w) : bits v 0 w = v := by
  rw [bits, Nat.pow_zero, Nat.div_one, Nat.mod_eq_of_lt h]

theorem bit_of_lt {v k : Nat} (h : v < 2 ^ k) : bit v k = false := by
  simp [bit, bits, Nat.div_eq_of_lt h]

section Rows
variable {s : State} {pf src v : Nat} {t : SelfTest} {dn : Done} {p : Put}

/-- A field that no state locks takes a value inside its limits as it is. -/
theorem State.clampOne_range {lo hi : Nat} (hf : p.f.isIn lockFields = false) (hr : p.f.rng = .range lo hi) (hlo : lo ≤ p.v) (hhi : p.v ≤ hi)
    (hw : hi < 2 ^ p.f.width) : s.clampOne pf src dn p % 2 ^ p.f.width = p.v := by
  rw [State.clampOne, s.fieldLocked_free pf src p.i hf, hr]
  simp only [Bool.false_eq_true, if_false, clampNat, Nat.not_lt.2 hlo, Nat.not_lt.2 hhi]
  exact Nat.mod_eq_of_lt (Nat.lt_of_le_of_lt hhi hw)

/-- The supply nets are declared (R312). -/
theorem State.writeField_net (h : s.writable 0 0 0x200 = true) (hv : v ≤ 2) :
    s.writeField 0 Reg.GLB_NETCFG_NET 0 v t = (s.wr Reg.GLB_NETCFG_NET 0 v).netDeclared := by
  have hput : putsOf 0 0x200 v = [{ f := Reg.GLB_NETCFG_NET, i := 0, off := 0x200, v }] := by
    change [({ f := Reg.GLB_NETCFG_NET, i := 0, off := 0x200, v := bits v 0 2 } : Put)] = _
    rw [bits_of_lt (by omega)]
  have hx : s.clampOne 0 0 [] { f := Reg.GLB_NETCFG_NET, i := 0, off := 0x200, v } % 2 ^ 2 = v :=
    State.clampOne_range rfl rfl (Nat.zero_le v) hv (by decide : 2 < 2 ^ 2)
  calc s.writeField 0 Reg.GLB_NETCFG_NET 0 v t
      = s.writeReg 0 0 0x200 4 (0 + v % 2 ^ 2 * 2 ^ 0) t := rfl
    _ = s.fieldWrite 0 0 0x200 v t := by
      rw [show 0 + v % 2 ^ 2 * 2 ^ 0 = v by omega, State.writeReg_fields h (by decide) (by decide) rfl (by omega)]
    _ = (s.wr Reg.GLB_NETCFG_NET 0 v).netDeclared := by
      rw [State.fieldWrite_fits rfl hput rfl hx]
      rfl

/-- A mode leaves REJ_MIRROR, which stands beside REQ, as it is. -/
theorem State.w1cWrite_pace (hv : v ≤ 2) : s.w1cWrite pf 0 0x100 v = s := by
  refine State.w1cWrite_none fun q hq hacc k hk => ?_
  rw [fieldsAt_pace] at hq
  simp only [List.mem_cons, List.not_mem_nil, or_false] at hq
  obtain rfl | rfl | rfl | rfl := hq
  · cases hacc
  · cases hacc
  · cases hacc
  · exact bit_of_lt (Nat.lt_of_lt_of_le (by omega : v < 2 ^ 12) (Nat.pow_le_pow_right (by decide) (Nat.le_add_right 12 k)))

/-- A Pace mode is requested: REQ takes the value, reads its present one while the request is judged, and the request is made (R68). -/
theorem State.writeField_pace (h : s.writable 0 0 0x100 = true) (hv : v ≤ 2) :
    s.writeField 0 Reg.GLB_PACE_REQ 0 v t = ((s.wr Reg.GLB_PACE_REQ 0 v).wr Reg.GLB_PACE_REQ 0 (s.rd Reg.GLB_PACE_REQ)).paceRequest v := by
  have hput : putsOf 0 0x100 v = [{ f := Reg.GLB_PACE_REQ, i := 0, off := 0x100, v }] := by
    change [({ f := Reg.GLB_PACE_REQ, i := 0, off := 0x100, v := bits v 0 2 } : Put)] = _
    rw [bits_of_lt (by omega)]
  have hx : s.clampOne 0 0 [] { f := Reg.GLB_PACE_REQ, i := 0, off := 0x100, v } % 2 ^ 2 = v :=
    State.clampOne_range rfl rfl (Nat.zero_le v) hv (by decide : 2 < 2 ^ 2)
  calc s.writeField 0 Reg.GLB_PACE_REQ 0 v t
      = s.writeReg 0 0 0x100 4 (0 + v % 2 ^ 2 * 2 ^ 0) t := rfl
    _ = s.fieldWrite 0 0 0x100 v t := by
      rw [show 0 + v % 2 ^ 2 * 2 ^ 0 = v by omega, State.writeReg_fields h (by decide) (by decide) rfl (by omega)]
    _ = ((s.wr Reg.GLB_PACE_REQ 0 v).wr Reg.GLB_PACE_REQ 0 (s.rd Reg.GLB_PACE_REQ)).paceRequest v := by
      rw [State.fieldWrite_fits (State.w1cWrite_pace hv) hput rfl hx]
      rfl

/-- A flag's clearing by 1 of CASE_OVERTEMP: its cause has gone, or the clearing is refused (R48, R792, R793). -/
theorem State.writeReg_caseOvertemp (h : s.writable 0 5 0x608 = true) (hset : s.rd Reg.FLT_GLB_CASE_OVERTEMP = 1) :
    s.writeReg 0 5 0x608 4 2 t =
      if s.tcase ≤ 800 then s.wr Reg.FLT_GLB_CASE_OVERTEMP 0 0 else s.clearRefused 5 5 0x608 1 0 0xFFFF := by
  have hbit : s.w1cBit 0 5 0x608 Reg.FLT_GLB_CASE_OVERTEMP 0 0 =
      if s.tcase ≤ 800 then s.wr Reg.FLT_GLB_CASE_OVERTEMP 0 0 else s.clearRefused 5 5 0x608 1 0 0xFFFF := by
    have hobj : faultObj Reg.FLT_GLB_CASE_OVERTEMP 0 = none := rfl
    have hgone : s.flagGone Reg.FLT_GLB_CASE_OVERTEMP 0 = decide (s.tcase ≤ 800) := rfl
    unfold State.w1cBit
    rw [hset, hobj, hgone]
    by_cases hc : s.tcase ≤ 800
    · simp only [hc, decide_true, if_true]; rfl
    · simp only [hc, decide_false, if_false]; rfl
  calc s.writeReg 0 5 0x608 4 2 t
      = s.fieldWrite 0 5 0x608 2 t := State.writeReg_setup h rfl (by decide) (by decide) rfl
    _ = (s.w1cWrite 0 5 0x608 2).woWrite 0 5 0x608 2 t := State.fieldWrite_noRw rfl
    _ = s.w1cBit 0 5 0x608 Reg.FLT_GLB_CASE_OVERTEMP 0 0 := rfl
    _ = _ := hbit

/-- A register with WO bits alone does what they say. -/
theorem State.writeReg_wo {win off : Nat} (h : s.writable pf win off = true) (hreg : fieldReg win off) (ho : off < 4096)
    (ha : off % 4 = 0) (hv : v < 2 ^ 32) (hw : s.w1cWrite pf win off v = s) (hp : putsOf win off v = []) :
    s.writeReg pf win off 4 v t = s.woWrite pf win off v t := by
  rw [State.writeReg_fields h hreg ho ha hv, State.fieldWrite_noRw hp, hw]

theorem State.writeReg_limpRelease (h : s.writable pf 8 0xD04 = true) : s.writeReg pf 0x08 0xD04 4 1 = s.limpRelease pf :=
  State.writeReg_wo h (by decide) (by decide) rfl (by decide) rfl rfl

theorem State.writeReg_tccommit (h : s.writable pf 0x0B 0xC04 = true) (hv : v < 4096) :
    s.writeReg pf 0x0B 0xC04 4 v = ((List.range 12).filter (bit v)).foldl State.ldCommit s :=
  State.writeReg_wo h (by decide) (by decide) rfl (by omega) rfl rfl

theorem State.writeReg_mxSwap (h : s.writable pf 0x0C 8 = true) : s.writeReg pf 0x0C 8 4 1 = s.wr Reg.MX_STAT_SWAPPEND 0 1 :=
  State.writeReg_wo h (by decide) (by decide) rfl (by decide) rfl rfl

theorem State.writeReg_stop (h : s.writable pf 3 0 = true) (force : Bool) : s.writeReg pf 3 0 4 (1 + 2 * b2n force) = s.stopRequest force := by
  cases force
  · exact State.writeReg_wo h (by decide) (by decide) rfl (by decide) rfl rfl
  · exact State.writeReg_wo h (by decide) (by decide) rfl (by decide) rfl rfl

theorem State.writeReg_search (h : s.writable pf 0x20 0xC = true) : s.writeReg pf 0x20 0xC 4 1 = s.accSearch pf :=
  State.writeReg_wo h (by decide) (by decide) rfl (by decide) rfl rfl

theorem State.writeReg_deauth (h : s.writable pf 0x20 0xC = true) : s.writeReg pf 0x20 0xC 4 2 = s.authEnd 2 :=
  State.writeReg_wo h (by decide) (by decide) rfl (by decide) rfl rfl

/-- DBGMAX takes the lower of the value and its present one; a value above is a clamp (R863). -/
theorem State.writeField_dbgmax (h : s.writable pf 4 4 = true) (hv : v < 4) :
    s.writeField pf Reg.SEC_DBG_DBGMAX 0 v t =
      if v ≤ s.rd Reg.SEC_DBG_DBGMAX then (s.wr Reg.SEC_DBG_DBGMAX 0 v).dbgCap
      else ((s.wr Reg.SEC_DBG_DBGMAX 0 (s.rd Reg.SEC_DBG_DBGMAX)).logSetup 4 pf
        [{ offset := 4, lsb := 4, width := 2, src := 0, pf, req := v, applied := s.rd Reg.SEC_DBG_DBGMAX % 4 }]).dbgCap := by
  have hput : putsOf 4 4 (0 + v % 2 ^ 2 * 2 ^ 4) = [{ f := Reg.SEC_DBG_DBGMAX, i := 0, off := 4, v }] := by
    change [({ f := Reg.SEC_DBG_DBGMAX, i := 0, off := 4, v := bits (0 + v % 2 ^ 2 * 2 ^ 4) 4 2 } : Put)] = _
    rw [show bits (0 + v % 2 ^ 2 * 2 ^ 4) 4 2 = v by unfold bits; omega]
  have hx : s.clampOne pf 0 [] { f := Reg.SEC_DBG_DBGMAX, i := 0, off := 4, v } = min v (s.rd Reg.SEC_DBG_DBGMAX) := by
    rw [State.clampOne, s.fieldLocked_free pf 0 0 rfl]
    rfl
  have hword : s.writeField pf Reg.SEC_DBG_DBGMAX 0 v t = s.writeReg pf 4 4 4 (0 + v % 2 ^ 2 * 2 ^ 4) t := rfl
  rw [hword, State.writeReg_fields h (by decide) (by decide) rfl (by omega)]
  by_cases hle : v ≤ s.rd Reg.SEC_DBG_DBGMAX
  · have hfit : s.clampOne pf 0 [] { f := Reg.SEC_DBG_DBGMAX, i := 0, off := 4, v } % 2 ^ 2 = v := by
      rw [hx, Nat.min_eq_left hle]
      exact Nat.mod_eq_of_lt hv
    rw [State.fieldWrite_fits rfl hput rfl hfit, State.fieldHook_eq _ _ _ rfl, if_pos rfl, if_pos hle]
    rfl
  · have hlow : s.rd Reg.SEC_DBG_DBGMAX < v := Nat.lt_of_not_le hle
    have hclamp : s.clampOne pf 0 [] { f := Reg.SEC_DBG_DBGMAX, i := 0, off := 4, v } % 2 ^ 2 = s.rd Reg.SEC_DBG_DBGMAX := by
      rw [hx, Nat.min_eq_right (Nat.le_of_lt hlow)]
      exact Nat.mod_eq_of_lt (Nat.lt_trans hlow hv)
    rw [State.fieldWrite_one rfl hput rfl hclamp, clampOf_other (Nat.ne_of_gt hlow), State.fieldHook_eq _ _ _ rfl, if_pos rfl, if_neg hle,
      Nat.mod_eq_of_lt (Nat.lt_trans hlow hv)]
    rfl

/-- LOCK takes a 1, and keeps the 1 that it reads once it is locked (R878). -/
theorem State.writeField_dmaLock (h : s.writable pf 4 0x18 = true) :
    s.writeField pf Reg.SEC_DMALOCK_LOCK 0 1 t = s.wr Reg.SEC_DMALOCK_LOCK 0 1 := by
  have hx : s.clampOne pf 0 [] { f := Reg.SEC_DMALOCK_LOCK, i := 0, off := 0x18, v := 1 } % 2 ^ 1 = 1 := by
    rw [State.clampOne, s.fieldLocked_eq pf 0 0 rfl]
    split
    · next hlocked =>
      have hone : s.rd Reg.SEC_DMALOCK_LOCK = 1 := beq_iff_eq.1 (Bool.and_eq_true_iff.1 hlocked).2
      exact congrArg (· % 2 ^ 1) hone
    · rfl
  have hword : s.writeField pf Reg.SEC_DMALOCK_LOCK 0 1 t = s.writeReg pf 4 0x18 4 1 t := rfl
  rw [hword, State.writeReg_fields h (by decide) (by decide) rfl (by decide),
    State.fieldWrite_fits (p := { f := Reg.SEC_DMALOCK_LOCK, i := 0, off := 0x18, v := 1 }) rfl rfl rfl hx, State.fieldHook_eq _ _ _ rfl,
    if_neg (by decide)]
  rfl

/-- CLR empties the table of the segment that SEG names in the same word (R678). -/
theorem State.writeReg_nodeClear {g : Nat} (h : s.writable pf 0x1C 0xC20 = true) (hg : g < 64) :
    s.writeReg pf 0x1C 0xC20 4 (g % 64 + 256) t = (s.wr Reg.NM_NSEL_SEG 0 g).clearNodes g := by
  have hput : putsOf 0x1C 0xC20 (g % 64 + 256) = [{ f := Reg.NM_NSEL_SEG, i := 0, off := 0xC20, v := g }] := by
    change [({ f := Reg.NM_NSEL_SEG, i := 0, off := 0xC20, v := bits (g % 64 + 256) 0 6 } : Put)] = _
    rw [show bits (g % 64 + 256) 0 6 = g by unfold bits; omega]
  have hx : s.clampOne pf 0 [] { f := Reg.NM_NSEL_SEG, i := 0, off := 0xC20, v := g } % 2 ^ 6 = g := by
    rw [State.clampOne, s.fieldLocked_free pf 0 0 rfl]
    exact Nat.mod_eq_of_lt hg
  have hclr : bit (g % 64 + 256) 8 = true := by
    rw [bit, show bits (g % 64 + 256) 8 1 = 1 by unfold bits; omega]
    rfl
  have hseg : (s.wr Reg.NM_NSEL_SEG 0 g).rd Reg.NM_NSEL_SEG = g := (s.rd_wr_same _ _ _).trans (Nat.mod_eq_of_lt hg)
  rw [State.writeReg_fields h (by decide) (by decide) rfl (by omega), State.fieldWrite_fits rfl hput rfl hx, State.fieldHook_eq _ _ _ rfl,
    if_neg (by decide : Reg.NM_NSEL_SEG.id ≠ Reg.SEC_DBG_DBGMAX.id)]
  change (if bit (g % 64 + 256) 8 then _ else _) = _
  rw [hclr, if_pos rfl, hseg]

/-- Limp-home through heartbeat loss ends where PF0 may end it (R259). -/
theorem State.limpRelease_granted (hp : pf = 0) (hcause : bit (s.rd Reg.LIMP_STAT_CAUSE) 1 = true) (hbeat : s.hbPresent = true)
    (hready : s.out.hbReady = true) (hpin : s.flag Reg.LIMP_STAT_LIMPN = false) : s.limpRelease pf = (s.wr Reg.LIMP_STAT_HBLOSS 0 0).limpExit 2 := by
  simp [State.limpRelease, hp, hcause, hbeat, hready, hpin]

/-- Elsewhere RELEASE is a clamp (R259). -/
theorem State.limpRelease_clamped (h : pf ≠ 0 ∨ bit (s.rd Reg.LIMP_STAT_CAUSE) 1 = false ∨ s.hbPresent = false ∨ s.out.hbReady = false
    ∨ s.flag Reg.LIMP_STAT_LIMPN = true) : s.limpRelease pf = s.clampBit 0x08 pf 0x0D04 0 1 1 0 := by
  obtain h | h | h | h | h := h <;> simp [State.limpRelease, h]

end Rows

/-- Equal states end a row alike. -/
theorem next_done {a b : State} (h : a = b) : (.next a.done : Answered) = .next b.done := by rw [h]

/-- Settles O43: each row is a setup write or read, which comes to what its register's lemma says. -/
theorem setupReadsAndWrites : Obligations.SetupReadsAndWrites := by
  intro s dt pf win off size v g fail lost force u
  refine ⟨fun h _ ho hr => ⟨fun h1 ha => ?_, fun h1 ha => ?_, fun hm => ?_⟩, fun hreach hrun hmay _ ho hr => ?_, fun hr hw => ?_,
    fun hl hp hw ho => ⟨fun ha hm => ?_, fun hm => ?_⟩, fun h hv => ?_, fun h hv x hx => ?_, fun h hset => ?_,
    fun h => ⟨fun hp hcause hbeat hready hpin => ?_, fun hbar => ?_⟩, fun h hv => ?_, fun h => ?_, fun h => ?_, fun h hv => ?_, fun h => ?_,
    fun h => ⟨?_, ?_⟩, fun h hg => ?_⟩
  · exact (exec_setupWrite ..).trans (next_done (State.writeReg_setup h hr ho h1 ha))
  · subst h1
    exact (exec_setupWrite ..).trans (next_done (State.writeReg_host h ho ha))
  · exact (exec_setupWrite ..).trans (next_done (State.writeReg_misfit h hr ho hm))
  · exact (exec_setupWrite ..).trans (next_done (State.writeReg_forbidden hreach hrun hmay hr ho))
  · exact (exec_setupWrite ..).trans (next_done (State.writeReg_reserved hw hr))
  · exact (exec_rcRead ..).trans (next_done (State.readReg_word hl hp hw ho ha hm))
  · exact (exec_rcRead ..).trans (next_done (State.readReg_misfit hl hp hw ho hm))
  · exact (exec_netDeclare ..).trans (next_done (State.writeField_net h hv))
  · subst hx
    exact (exec_paceRequest ..).trans (next_done (State.writeField_pace h hv))
  · exact (exec_w1cFaultClear ..).trans (next_done (State.writeReg_caseOvertemp h hset))
  · exact (exec_limpRelease ..).trans (next_done ((State.writeReg_limpRelease h).trans (State.limpRelease_granted hp hcause hbeat hready hpin)))
  · exact (exec_limpRelease ..).trans (next_done ((State.writeReg_limpRelease h).trans (State.limpRelease_clamped hbar)))
  · exact (exec_tccommit ..).trans (next_done (State.writeReg_tccommit h hv))
  · exact (exec_mxSwapRequest ..).trans (next_done (State.writeReg_mxSwap h))
  · exact (exec_stopRequest ..).trans (next_done (State.writeReg_stop h force))
  · exact (exec_dbgmaxWrite ..).trans (next_done (State.writeField_dbgmax h hv))
  · exact (exec_dmaLock ..).trans (next_done (State.writeField_dmaLock h))
  · exact (exec_accSearch ..).trans (next_done (State.writeReg_search h))
  · exact (exec_accDeauth ..).trans (next_done (State.writeReg_deauth h))
  · exact (exec_nodeTableClear ..).trans (next_done (State.writeReg_nodeClear h hg))

end Sys2Proof.Machine

/-!
The monitors of the supply groups (R42 to R46, R315 to R322): restart slots and dimming as the steps that their rows are made of.
-/
namespace Sys2Proof.Machine

theorem and_holds {a b : Bool} (ha : a = true) (hb : b = true) : (a && b) = true := Bool.and_eq_true_iff.2 ⟨ha, hb⟩

/-- The restart slot of class `c` after a cut, if it has come (R318). -/
def State.cutSlot (s : State) (g c : Nat) : State :=
  if slotDue (s.group g).slots c s.now then (s.setGroup g { s.group g with slots := tdel (s.group g).slots c }).runSlot g c .uvCut .slot else s

/-- The restart slot of class `c` after a sustained overvoltage, if it has come (R46). -/
def State.ovSlot (s : State) (g c : Nat) : State :=
  if slotDue (s.group g).ovSlots c s.now then (s.setGroup g { s.group g with ovSlots := tdel (s.group g).ovSlots c }).runSlot g c .overvoltage .slot
  else s

section Slots
variable {s : State} {dt g c : Nat}

theorem State.cutSlot_due (h : slotDue (s.group g).slots c s.now = true) :
    s.cutSlot g c = (s.setGroup g { s.group g with slots := tdel (s.group g).slots c }).runSlot g c .uvCut .slot := if_pos h

theorem State.cutSlot_none (h : slotDue (s.group g).slots c s.now = false) : s.cutSlot g c = s := if_neg (Bool.eq_false_iff.1 h)

theorem State.ovSlot_due (h : slotDue (s.group g).ovSlots c s.now = true) :
    s.ovSlot g c = (s.setGroup g { s.group g with ovSlots := tdel (s.group g).ovSlots c }).runSlot g c .overvoltage .slot := if_pos h

theorem State.ovSlot_none (h : slotDue (s.group g).ovSlots c s.now = false) : s.ovSlot g c = s := if_neg (Bool.eq_false_iff.1 h)

/-- While the group is monitored, the slot after a cut comes first, and then that after a sustained overvoltage. -/
theorem exec_restartSlot_monitored (h : (s.tick dt).monitors g = true) :
    exec (.restartSlot dt g c) s = .next (((s.tick dt).cutSlot g c).ovSlot g c).done :=
  (exec_restartSlot ..).trans (next_done (if_neg (by simp [h])))

end Slots

/-- The dimming ratio of VS5 and VS6 as its register shows it (R315). -/
def State.showRatio (s : State) (g k : Nat) : State :=
  if g = 5 then s.wr Reg.ARB_DIMK_K5 0 k else if g = 6 then s.wr Reg.ARB_DIMK_K6 0 k else s

/-- The DIM bit of a group goes to `low`, with the event of a change (R315). -/
def State.showDim (s : State) (g volt : Nat) (low : Bool) : State :=
  let v := s.rd Reg.ARB_GRPSTAT_DIM
  if bit v (g - 1) == low then s
  else (s.wr Reg.ARB_GRPSTAT_DIM 0 (if low then setBit v (g - 1) else clrBit v (g - 1))).raise 0x0E85 0xFFFF
    (atByte 16 g + atByte 17 (b2n low) + atByte 18 volt)

section Dimming
variable {s v : State} {dt g volt k : Nat}

theorem State.showRatio_none (h : g ≤ 4) : s.showRatio g k = s := by
  rw [State.showRatio, if_neg (by omega), if_neg (by omega)]

theorem State.showRatio_vs5_vs6 (h : g = 5 ∨ g = 6) :
    s.showRatio g k = if g = 5 then s.wr Reg.ARB_DIMK_K5 0 k else s.wr Reg.ARB_DIMK_K6 0 k := by
  obtain rfl | rfl := h <;> rfl

theorem State.showDim_same {low : Bool} (h : bit (s.rd Reg.ARB_GRPSTAT_DIM) (g - 1) = low) : s.showDim g volt low = s :=
  if_pos (beq_iff_eq.2 h)

theorem State.showDim_begin (h : bit (s.rd Reg.ARB_GRPSTAT_DIM) (g - 1) = false) : s.showDim g volt true =
    (s.wr Reg.ARB_GRPSTAT_DIM 0 (setBit (s.rd Reg.ARB_GRPSTAT_DIM) (g - 1))).raise 0x0E85 0xFFFF (atByte 16 g + atByte 17 1 + atByte 18 volt) := by
  rw [State.showDim, h]
  rfl

theorem State.showDim_end (h : bit (s.rd Reg.ARB_GRPSTAT_DIM) (g - 1) = true) : s.showDim g volt false =
    (s.wr Reg.ARB_GRPSTAT_DIM 0 (clrBit (s.rd Reg.ARB_GRPSTAT_DIM) (g - 1))).raise 0x0E85 0xFFFF (atByte 16 g + atByte 17 0 + atByte 18 volt) := by
  rw [State.showDim, h]
  rfl

/-- The average is below VS_DIM: the ratio dims the group (R315). -/
theorem exec_dimUpdate_low {av dim uv : Nat} (hm : (s.tick dt).monitors g = true) (hg : g ≠ 0) (hav : av = (s.tick dt).vAvg g volt)
    (hdim : dim = 25 * ((s.tick dt).setVolt g volt).rd Reg.ARB_UV_VS_DIM (uvIx g)) (huv : uv = ((s.tick dt).setVolt g volt).cutAt g 0) (hlow : av < dim)
    (hv : v = ((s.tick dt).setVolt g volt).setGroup g { ((s.tick dt).setVolt g volt).group g with kNum := av - uv, kDen := dim - uv }) :
    exec (.dimUpdate dt g volt) s = .next ((v.showRatio g (min 255 (roundDiv (255 * (av - uv)) (dim - uv)))).showDim g volt true).done := by
  rw [hav, hdim] at hlow
  subst hv huv hdim hav
  refine (exec_dimUpdate ..).trans (next_done ((if_neg (by simp [hm, hg])).trans ?_))
  simp only [hlow, decide_true, if_true, Bool.not_true, Bool.false_eq_true, if_false]
  rfl

/-- The average is not below VS_DIM: the group is not dimmed (R315). -/
theorem exec_dimUpdate_full (hm : (s.tick dt).monitors g = true) (hg : g ≠ 0)
    (hfull : 25 * ((s.tick dt).setVolt g volt).rd Reg.ARB_UV_VS_DIM (uvIx g) ≤ (s.tick dt).vAvg g volt)
    (hv : v = ((s.tick dt).setVolt g volt).setGroup g { ((s.tick dt).setVolt g volt).group g with kNum := 1, kDen := 1 }) :
    exec (.dimUpdate dt g volt) s = .next ((v.showRatio g 255).showDim g volt false).done := by
  subst hv
  refine (exec_dimUpdate ..).trans (next_done ((if_neg (by simp [hm, hg])).trans ?_))
  simp only [Nat.not_lt.2 hfull, decide_false, if_true, Bool.not_false, Bool.false_eq_true, if_false]
  rfl

end Dimming

/-- Settles O6: each row by the branch that its conditions choose; the slots and the dimming in the order of their parts. -/
theorem groupMonitorsAct : Obligations.GroupMonitorsAct := by
  intro s dt g level volt k u av
  refine ⟨fun hm hl hc hv => ?_, fun hm hl hc hv v hx => ?_, fun hm hd v hv => ⟨fun ho => ?_, fun ho => ?_⟩, fun hm hd ho => ?_, fun hm hl hs hv => ?_,
    fun dim uv v w hm h1 h4 hdim huv hv hw => ⟨fun hlow hb => ?_, fun hlow hb => ?_, fun hfull hb => ?_⟩,
    fun dim uv q v w hm hg hdim huv hlow hq hv hw hb => ?_, fun h1 h6 hm hf ho v hv => ?_, fun h1 h6 hf hr => ?_,
    fun h1 h6 hf hc ht v os hv hos => ?_, fun h1 h6 hsus hf => ?_⟩
  · exact (exec_groupCut ..).trans (next_done (if_pos
      (and_holds (and_holds (and_holds hm (decide_eq_true hl)) (congrArg not hc)) (decide_eq_true hv))))
  · subst hx
    exact (exec_cutRelease ..).trans (next_done (if_pos
      (and_holds (and_holds (and_holds hm (decide_eq_true hl)) hc) (decide_eq_true hv))))
  · rw [exec_restartSlot_monitored hm, State.cutSlot_due hd, ← hv, State.ovSlot_none ho]
  · rw [exec_restartSlot_monitored hm, State.cutSlot_due hd, ← hv, State.ovSlot_due ho]
  · rw [exec_restartSlot_monitored hm, State.cutSlot_none hd, State.ovSlot_due ho]
  · exact (exec_slotCancel ..).trans (next_done (if_pos
      (and_holds (and_holds (and_holds hm (decide_eq_true hl)) hs) (decide_eq_true hv))))
  · rw [exec_dimUpdate_low hm (by omega) rfl hdim huv hlow hv, State.showRatio_none h4, State.showDim_begin hb]
  · rw [exec_dimUpdate_low hm (by omega) rfl hdim huv hlow hv, State.showRatio_none h4, State.showDim_same hb]
  · rw [exec_dimUpdate_full hm (by omega) (hdim ▸ hfull) hw, State.showRatio_none h4, State.showDim_end hb]
  · subst hq
    rw [exec_dimUpdate_low hm (by omega) rfl hdim huv hlow hv, State.showRatio_vs5_vs6 hg, ← hw, State.showDim_begin hb]
  · subst hv
    exact (exec_ovFreeze ..).trans (next_done (if_pos ⟨h1, h6, hm, congrArg not hf, ho⟩))
  · exact (exec_ovRelease ..).trans (next_done (if_pos ⟨h1, h6, hf, hr⟩))
  · subst hv hos
    exact (exec_ovSustained ..).trans (next_done (if_pos ⟨h1, h6, hf, congrArg not hc, ht⟩))
  · exact (exec_ovSustainedRelease ..).trans (next_done (if_pos ⟨h1, h6, hsus, congrArg not hf⟩))

end Sys2Proof.Machine

/-!
Ground offset, case temperature, Pace, the fabric window and the reference clock (R32, R53, R64 to R77).
-/
namespace Sys2Proof.Machine

/-! ### What a lost reference leaves alone (R73, R74) -/

/-- The reference is there, and the PCIe link is up. -/
def State.refLink (s : State) : Bool × Bool := (s.pwr.refPresent, s.host.linkUp)

/-- A fold whose every step leaves a part alone leaves that part alone. -/
theorem foldl_leaves {α β γ : Type} (part : β → γ) {g : β → α → β} (h : ∀ b a, part (g b a) = part b) (l : List α) (b : β) :
    part (l.foldl g b) = part b :=
  (List.foldl_hom part (g₂ := fun x _ => x) fun b a => (h b a).symm).symm.trans (foldl_fixed fun _ _ => rfl)

theorem HostState.answer_linkUp (h : HostState) (r : InFlight) (code : Code) (sub time : Nat) : (h.answer r code sub time).linkUp = h.linkUp := by
  unfold HostState.answer
  dsimp only
  split <;> rfl

theorem HostState.finishOne_linkUp (h : HostState) (r : InFlight) (code : Code) (sub time : Nat) :
    (h.finishOne r code sub time).linkUp = h.linkUp := HostState.answer_linkUp ..

theorem HostState.finishWaiting_linkUp (time : Nat) : ∀ (n : Nat) (h : HostState) (cs : List Cmd), (HostState.finishWaiting time n h cs).linkUp = h.linkUp
  | 0, _, _ => rfl
  | n + 1, h, cs => by
    rw [HostState.finishWaiting]
    refine foldl_leaves HostState.linkUp (fun h c => ?_) cs h
    split
    · rfl
    · exact (HostState.finishWaiting_linkUp time n _ _).trans (HostState.finishOne_linkUp ..)

theorem HostState.finish_linkUp (h : HostState) (c : Cmd) (code : Code) (sub time : Nat) : (h.finish c code sub time).linkUp = h.linkUp := by
  unfold HostState.finish
  split
  · rfl
  · exact (HostState.finishWaiting_linkUp ..).trans (HostState.finishOne_linkUp ..)

theorem State.complete_refLink (s : State) (c : Cmd) (code : Code) (sub : Nat) : (s.complete c code sub).refLink = s.refLink := by
  unfold State.complete
  split
  · rfl
  · exact Prod.ext rfl (HostState.finish_linkUp ..)

theorem State.copyLeft_refLink (s : State) (sn : Nat) : (s.copyLeft sn).1.refLink = s.refLink := by
  unfold State.copyLeft
  split
  · rfl
  · split <;> rfl

theorem State.canGone_refLink (s : State) (t : Tx) (code : Code) (sub : Nat) : (s.canGone t code sub).refLink = s.refLink := by
  unfold State.canGone
  dsimp only
  split
  · exact (State.complete_refLink ..).trans (s.copyLeft_refLink _)
  · exact s.copyLeft_refLink _

theorem State.canBack_refLink (s : State) (n : Nat) : (s.canBack n).refLink = s.refLink := by
  unfold State.canBack
  split
  · unfold State.canRetry
    split
    · exact State.canGone_refLink ..
    · rfl
  · rfl

theorem State.portBack_refLink (s : State) (p : Nat) : (s.portBack p).refLink = s.refLink := by
  unfold State.portBack
  split <;> rfl

theorem State.modLin_refLink (s : State) (n : Nat) (f : LinCh → LinCh) : (s.modLin n f).refLink = s.refLink := rfl

theorem State.linUncount_refLink (s : State) (n k : Nat) : (s.linUncount n k).refLink = s.refLink := rfl

theorem State.fitUncount_refLink (s : State) (e k : Nat) : (s.fitUncount e k).refLink = s.refLink := rfl

theorem State.linBack_refLink (s : State) (n : Nat) : (s.linBack n).refLink = s.refLink := by
  cases hout : (s.lin n).out with
  | none => simp only [State.linBack, hout, apply_ite State.refLink, State.modLin_refLink, State.linUncount_refLink, ite_self]
  | some o =>
    cases honce : o.once <;> cases hcount : o.count <;>
      simp only [State.linBack, hout, honce, hcount, apply_ite State.refLink, State.modLin_refLink, State.linUncount_refLink,
        State.fitUncount_refLink, ite_self]

theorem State.lfBack_refLink (s : State) : s.lfBack.refLink = s.refLink := by
  unfold State.lfBack
  split <;> rfl

theorem State.raiseTo_pwr (s : State) (type obj data : Nat) (fault : Bool) (pfs : List Nat) : (s.raiseTo type obj data fault pfs).pwr = s.pwr :=
  (congrArg State.pwr (s.raiseTo_frame type obj data fault pfs) :)

theorem State.flagSet_pwr (s : State) (f : Field) (i w off b : Nat) : (s.flagSet f i w off b).pwr = s.pwr := by
  unfold State.flagSet State.setFlag
  split
  · rfl
  · exact State.raiseTo_pwr ..

/-- The reference is gone and the link is down, whatever the interfaces take back (R73, R74). -/
theorem State.refLost_refLink (s : State) : s.refLost.refLink = (false, false) :=
  calc s.refLost.refLink
    _ = _ := foldl_leaves State.refLink State.linBack_refLink ..
    _ = _ := foldl_leaves State.refLink State.portBack_refLink ..
    _ = _ := foldl_leaves State.refLink State.canBack_refLink ..
    _ = _ := State.lfBack_refLink _
    _ = (false, false) := Prod.ext (congrArg PowerState.refPresent (State.flagSet_pwr ..)) rfl

/-! ### The fabric window with the reference lost (R64, R77) -/

/-- With the reference lost, PCIe ingress and the Reed link demand nothing (R74): a demand within the rate throttles neither, and the window shows its
rate and demand, MIN where it is no new minimum. -/
theorem exec_fabricWindow_backup {s v w : State} {dt rate pcie reed rest : Nat} {slow : Bool} (hdie : (s.tick dt).dieC = true)
    (hend : (s.tick dt).windowEnd ≤ (s.tick dt).now) (hbkp : (s.tick dt).flag Reg.TB_STAT_REFBKP = true)
    (hv : v = ((s.tick dt).wr Reg.TB_FABRATE_RATE 0 (min (rate / 100) 0xFFFF)).wr Reg.TB_FABLOAD_DEMAND 0 (min (0 + 0 + rest) 0xFFFF))
    (hmin : v.rd Reg.TB_FABRATE_MIN ≤ min (rate / 100) 0xFFFF) (hslow : decide (rate < (s.tick dt).minRate) = slow)
    (hw : w = { v with pwr := { v.pwr with fabricOk := !slow, throttled := (false, false), windowAt := v.now } }) :
    exec (.fabricWindow dt rate pcie reed rest) s = .next (if slow then w.flagSet Reg.TB_STAT_FABRIC_SLOW 0 2 4 17 else w).done := by
  subst hw hslow hv
  refine (exec_fabricWindow ..).trans (next_done ((if_neg (by rw [hdie, decide_eq_false (Nat.not_lt.2 hend)]; decide)).trans ?_))
  simp only [hbkp, if_true, if_neg (Nat.not_lt.2 hmin), Nat.not_lt_zero, decide_false, Bool.and_false, Bool.false_eq_true, if_false]

/-- Settles O7: each row by the branch that its conditions choose, and the loss of the reference by what the interfaces that stop leave alone. -/
theorem globalSuppliesAndFabric : Obligations.GlobalSuppliesAndFabric := by
  intro s dt mv tc rate pcie reed rest u
  refine ⟨fun hc hmv => ?_, fun hc ht => ?_, fun hb v w hv hw => ⟨fun hn => ?_, fun k hn => ?_⟩,
    fun v w hc hend hbkp hfit hv hmin => ⟨fun hrate hw => ?_, fun hrate hw => ?_⟩, fun hr hc => ?_, ?_, fun hr hc => ?_⟩
  · exact (exec_groundOffset ..).trans (next_done ((if_neg (by rw [hc]; decide)).trans (if_pos hmv)))
  · exact (exec_caseOvertemp ..).trans (next_done (if_pos (and_holds hc (decide_eq_true ht))))
  · subst hw hv
    refine (exec_paceSettled ..).trans (next_done ((if_neg (by rw [hb]; decide)).trans ?_))
    dsimp only
    rw [hn]
  · subst hw hv
    refine (exec_paceSettled ..).trans (next_done ((if_neg (by rw [hb]; decide)).trans ?_))
    dsimp only
    rw [hn]
  · exact (exec_fabricWindow_backup hc hend hbkp hv hmin (decide_eq_false (Nat.not_lt.2 hrate)) hw).trans
      (next_done (if_neg Bool.false_ne_true))
  · exact (exec_fabricWindow_backup hc hend hbkp hv hmin (decide_eq_true hrate) hw).trans (next_done (if_pos rfl))
  · exact (exec_refclkLoss ..).trans (next_done ((if_neg (by rw [hr]; decide)).trans (if_pos hc)))
  · exact Prod.mk.inj u.refLost_refLink
  · exact (exec_refclkReturn ..).trans (next_done (if_pos (and_holds (Bool.or_eq_true_iff.2 (.inl hc)) (congrArg not hr))))

end Sys2Proof.Machine

/-!
The rows that begin and end the phases of a start (R124, R818 to R842).
-/
namespace Sys2Proof.Machine

theorem or_fails {a b : Bool} (ha : a = false) (hb : b = false) : ¬ (a || b) = true := Bool.eq_false_iff.1 (Bool.or_eq_false_iff.2 ⟨ha, hb⟩)

theorem and_fails {a b : Bool} (h : a = false ∨ b = false) : ¬ (a && b) = true := Bool.eq_false_iff.1 (Bool.and_eq_false_iff.2 h)

/-- A signal that ends a phase of the start is taken while the phase runs, no sooner than it may end (R820). -/
theorem State.phase_over {s : State} {p : Phase} (hp : s.pwr.phase = p) (hend : s.phaseEnds s.pwr.phaseAt = true) :
    ¬ (s.pwr.phase ≠ p ∨ (!s.phaseEnds s.pwr.phaseAt) = true) := by
  simp [hp, hend]

/-- Settles O34: in the state to which its time has passed, each row takes the branch that its conditions choose. -/
theorem startRows : Obligations.StartRows := by
  intro s dt kept ok b u
  refine ⟨fun h => ?_, fun h => ?_, fun h v hv => ?_, fun h => ?_, fun hr hout => ?_, fun hr ht x v hx hv => ⟨fun w hs hw => ?_, fun w hs hb hw => ?_⟩,
    fun h => ?_, fun htry hend v hv w hw => ?_, fun htry hs ht => ?_, fun hp hend => ?_, fun hp ht => ?_,
    fun hp hend v hv => ⟨fun h => ?_, fun h => ?_⟩, fun hp hend => ⟨fun h => ?_, fun hf hu => ?_⟩⟩
  · exact (exec_vkeepLoss ..).trans (next_done (congrArg (State.wipe · (bit kept)) (if_pos h)))
  · exact (exec_vkeepLoss ..).trans (next_done (congrArg (State.wipe · (bit kept)) (if_neg (Bool.eq_false_iff.1 h))))
  · subst hv
    exact (exec_powerUpReset ..).trans (next_done (if_pos h))
  · exact (exec_dieCBrownout ..).trans (next_done (if_pos h))
  · exact (exec_dieCBrownout ..).trans (next_done ((if_neg (Bool.eq_false_iff.1 hout)).trans (if_pos hr)))
  · subst hw
    refine (exec_dieCResetRelease ..).trans (next_done ((if_neg (or_fails (congrArg not hr) (decide_eq_false (Nat.not_lt.2 ht)))).trans ?_))
    have hcold : ¬ (decide (v.pwr.start = 2) && !u.pwr.brownout) = true := and_fails (hs.imp decide_eq_false (congrArg not))
    subst hx hv
    dsimp only
    rw [if_neg hcold]
  · subst hw
    refine (exec_dieCResetRelease ..).trans (next_done ((if_neg (or_fails (congrArg not hr) (decide_eq_false (Nat.not_lt.2 ht)))).trans ?_))
    have hwarm : (decide (v.pwr.start = 2) && !u.pwr.brownout) = true := and_holds (decide_eq_true hs) (congrArg not hb)
    subst hx hv
    dsimp only
    rw [if_pos hwarm]
  · exact (exec_warmReset ..).trans (next_done (if_pos h))
  · subst hw hv
    exact (exec_regRdy ..).trans (next_done (if_neg (or_fails (congrArg not htry) (congrArg not hend))))
  · exact (exec_regRdyTimeout ..).trans (next_done (if_pos (and_holds (and_holds htry (beq_iff_eq.2 hs)) (decide_eq_true ht))))
  · exact (exec_oscRdy ..).trans (next_done (if_pos ⟨hp, hend⟩))
  · exact (exec_oscRdyTimeout ..).trans (next_done (if_pos ⟨hp, ht⟩))
  · subst hv
    have hgood : ¬ (decide (u.pwr.start = 1) && !ok) = true := and_fails (h.imp decide_eq_false (congrArg not))
    exact (exec_memRdy ..).trans (next_done ((if_neg (State.phase_over hp hend)).trans (congrArg (State.toPhase · .logic) (if_neg hgood))))
  · subst hv
    have hbad : (decide (u.pwr.start = 1) && !false) = true := and_holds (decide_eq_true h) rfl
    exact (exec_memRdy ..).trans (next_done ((if_neg (State.phase_over hp hend)).trans (congrArg (State.toPhase · .logic) (if_pos hbad))))
  · have hboot : ¬ (b.testFail && u.nv.updState == 3) = true := and_fails (h.imp_right beq_eq_false_iff_ne.2)
    exact (exec_logicRdy ..).trans (next_done ((if_neg (State.phase_over hp hend)).trans (if_neg hboot)))
  · exact (exec_logicRdy ..).trans (next_done ((if_neg (State.phase_over hp hend)).trans
      (if_pos (and_holds hf (beq_iff_eq.2 hu)))))

end Sys2Proof.Machine

/-!
Events on their way into a ring (R140, R948), and what a freeze holds (R131, R132, R144).
-/
namespace Sys2Proof.Machine

/-! ### What posting and signalling leave alone -/

theorem HostState.post_frame (h : HostState) (w : HostWrite) : { h.post w with sent := h.sent, waiting := h.waiting } = h := by
  unfold HostState.post
  split <;> rfl

theorem HostState.signal_frame (h : HostState) (pf vec : Nat) :
    { h.signal pf vec with fns := h.fns, sent := h.sent, waiting := h.waiting } = h := by
  unfold HostState.signal
  dsimp only
  split
  · rfl
  · split
    · rfl
    · exact congrArg (fun x : HostState => { x with fns := h.fns }) (h.post_frame _)

@[simp] theorem HostState.post_evtRings (h : HostState) (w : HostWrite) : (h.post w).evtRings = h.evtRings :=
  (congrArg HostState.evtRings (h.post_frame w) :)

@[simp] theorem HostState.signal_evtRings (h : HostState) (pf vec : Nat) : (h.signal pf vec).evtRings = h.evtRings :=
  (congrArg HostState.evtRings (h.signal_frame pf vec) :)

@[simp] theorem HostState.setEvtRing_evtRings (h : HostState) (pf : Nat) (r : OutRing) :
    (h.setEvtRing pf r).evtRings = tput h.evtRings pf r := rfl

theorem HostState.setFn_same (h : HostState) (pf : Nat) (f : Func) : tget {} (h.setFn pf f).fns pf = f := by
  rw [HostState.setFn, tget_tput, if_pos rfl]

/-! ### An event for an enabled ring (R140) -/

section Events
variable {ok : Nat → Nat → Nat → Bool} {now : Ns} {h : HostState} {pf : Nat} {e : Event} {r : OutRing}

theorem HostState.putEvent_full (hr : tget {} h.evtRings pf = r) (hf : (tget {} h.fns pf : Func).frozen = false) (hen : r.en = true)
    (hfull : r.used = r.size) :
    h.putEvent ok now pf e = h.setEvtRing pf { r with lost := satAdd 16 r.lost 1, lostFlag := true, evseq := (r.evseq + 1) % 65536 } := by
  subst hr
  simp only [HostState.putEvent, hf, hen, hfull, Bool.not_true, Bool.false_eq_true, if_false, if_true]

/-- The ring after an event that was written, before its vector is judged. -/
def OutRing.tookEvent (r : OutRing) (now : Ns) : OutRing := { r.advance now with lostFlag := false, evseq := (r.evseq + 1) % 65536 }

/-- A ring that is not full takes the event into its tail entry; only the count of unsignalled entries depends on the vector. -/
theorem HostState.putEvent_written (hr : tget {} h.evtRings pf = r) (hf : (tget {} h.fns pf : Func).frozen = false) (hen : r.en = true)
    (hroom : r.used ≠ r.size) (hok : ok pf (r.addr 32) 32 = true) :
    let t := h.putEvent ok now pf e
    .event pf (r.tail % r.size) { e with phase := r.phase, lost := r.lostFlag, seq := r.evseq } ∈ t.sent ++ t.waiting
    ∧ ∃ n, tget {} t.evtRings pf = { r.tookEvent now with unsig := n } := by
  subst hr
  simp only [HostState.putEvent, hf, hen, hroom, hok, Bool.not_true, Bool.false_eq_true, if_false]
  split
  · refine ⟨HostState.mem_signal (HostState.mem_post.2 (.inl rfl)), 0, ?_⟩
    rw [HostState.signal_evtRings, HostState.setEvtRing_evtRings, tget_tput, if_pos rfl]
    rfl
  · refine ⟨HostState.mem_post.2 (.inl rfl), ((tget {} h.evtRings pf : OutRing).tookEvent now).unsig, ?_⟩
    rw [HostState.setEvtRing_evtRings, tget_tput, if_pos rfl]
    rfl

end Events

/-- Settles O53: what `putEvent` writes into a full ring, and into one with room. -/
theorem fullEventRing : Obligations.FullEventRing := by
  intro ok now h pf e r hf hr hen
  refine ⟨fun hfull => ?_, fun hroom hok => ?_⟩
  · rw [HostState.putEvent_full hr.symm hf hen hfull]
    simp [tget_tput, HostState.setEvtRing, satAdd]
  · obtain ⟨hmem, n, hring⟩ := HostState.putEvent_written (now := now) (e := e) hr.symm hf hen hroom hok
    rw [hring]
    exact ⟨hmem, rfl, rfl, rfl, rfl⟩

end Sys2Proof.Machine

/-!
Clamps: the value that a field takes, and the log of each window as a ring of 16 slots (R134, R138, R141).
-/
namespace Sys2Proof.Machine

/-- The log of a window. -/
def State.clampLog (s : State) (w : Nat) : ClampLog := tget {} s.flt.clogs w

/-- A clamp enters a log. -/
def ClampLog.put (l : ClampLog) (e : ClampEntry) : ClampLog :=
  { entries := tput l.entries l.next e, next := (l.next + 1) % 16, total := satAdd 16 l.total 1 }

theorem State.clampLog_logClamp (s : State) (w : Nat) (e : ClampEntry) (v : Nat) :
    (s.logClamp w e).clampLog v = if v = w then (s.clampLog w).put e else s.clampLog v := tget_tput ..

theorem State.clampLog_logClamps (w : Nat) : ∀ (es : List ClampEntry) (s : State),
    (s.logClamps w es).clampLog w = es.foldl ClampLog.put (s.clampLog w)
  | [], _ => rfl
  | e :: es, s => by
    change ((s.logClamp w e).logClamps w es).clampLog w = _
    rw [State.clampLog_logClamps w es, State.clampLog_logClamp, if_pos rfl, List.foldl_cons]

theorem ClampLog.put_slot (d : ClampEntry) (l : ClampLog) (e : ClampEntry) (j : Nat) :
    tget d (l.put e).entries j = if j = l.next then e else tget d l.entries j := tget_tput ..

/-- Clamps that come before a slot's turn leave its entry. -/
theorem ClampLog.puts_before (d : ClampEntry) {j : Nat} : ∀ (es : List ClampEntry) {l : ClampLog}, l.next < 16 →
    (∀ k < es.length, (l.next + k) % 16 ≠ j) → tget d (es.foldl ClampLog.put l).entries j = tget d l.entries j
  | [], _, _, _ => rfl
  | e :: es, l, hl, hj => by
    have hrest : ∀ k < es.length, ((l.put e).next + k) % 16 ≠ j := fun k hk => by
      have := hj (k + 1) (Nat.succ_lt_succ hk)
      simp only [ClampLog.put]
      omega
    have hfirst : j ≠ l.next := by
      have := hj 0 (Nat.succ_pos _)
      omega
    rw [List.foldl_cons, ClampLog.puts_before d es (Nat.mod_lt _ (by decide)) hrest, ClampLog.put_slot, if_neg hfirst]

/-- Of at most 16 clamps, each keeps the slot of its turn. -/
theorem ClampLog.puts_slot (d : ClampEntry) : ∀ (es : List ClampEntry) {l : ClampLog} {k : Nat}, l.next < 16 → es.length ≤ 16 → k < es.length →
    tget d (es.foldl ClampLog.put l).entries ((l.next + k) % 16) = es.getD k d
  | e :: es, l, 0, hl, hn, _ => by
    have hn : es.length < 16 := hn
    have hrest : ∀ k < es.length, ((l.put e).next + k) % 16 ≠ l.next := fun k hk => by
      simp only [ClampLog.put]
      omega
    rw [Nat.add_zero, Nat.mod_eq_of_lt hl, List.foldl_cons, ClampLog.puts_before d es (Nat.mod_lt _ (by decide)) hrest, ClampLog.put_slot,
      if_pos rfl, List.getD_cons_zero]
  | e :: es, l, k + 1, hl, hn, hk => by
    have hturn : (l.next + (k + 1)) % 16 = ((l.put e).next + k) % 16 := by
      simp only [ClampLog.put]
      omega
    rw [hturn, List.foldl_cons, ClampLog.puts_slot d es (Nat.mod_lt _ (by decide)) (Nat.le_of_succ_le hn) (Nat.lt_of_succ_lt_succ hk),
      List.getD_cons_succ]

section Limits
variable {lo hi v : Nat}

theorem clampNat_below (h : v < lo) : clampNat lo hi v = lo := if_pos h

theorem clampNat_above (hle : lo ≤ hi) (h : hi < v) : clampNat lo hi v = hi := by
  rw [clampNat, if_neg (by omega), if_pos h]

theorem clampNat_inside (hlo : lo ≤ v) (hhi : v ≤ hi) : clampNat lo hi v = v := by
  rw [clampNat, if_neg (by omega), if_neg (by omega)]

theorem State.clampOne_limits {s : State} {pf src : Nat} {dn : Done} {p : Put} (hfree : s.fieldLocked pf src p.f p.i = false)
    (hrng : p.f.rng = .range lo hi) : s.clampOne pf src dn p = clampNat lo hi p.v := by
  rw [State.clampOne, hfree, hrng]
  rfl

end Limits

/-- Settles O55: the nearest limit by cases, and the log by the turns of its slots. -/
theorem clampsAndTheirLog : Obligations.ClampsAndTheirLog := by
  intro s pf src w w' lo hi j dn p e l t
  have hput : l t w = (l s w).put e := (s.clampLog_logClamp w e w).trans (if_pos rfl)
  refine ⟨fun hfree hrng hle => ?_, fun hnext => ?_, fun hw => (s.clampLog_logClamp w e w').trans (if_neg hw), fun es hnext hlen k hk => ?_⟩
  · rw [State.clampOne_limits hfree hrng]
    exact ⟨clampNat_below, clampNat_above hle, clampNat_inside⟩
  · rw [hput]
    refine ⟨rfl, ?_, fun hj => ?_, rfl⟩
    · rw [ClampLog.put_slot, if_pos rfl]
    · rw [ClampLog.put_slot, if_neg hj]
  · have hlogs : l (s.logClamps w es) w = es.foldl ClampLog.put (l s w) := s.clampLog_logClamps w es
    rw [hlogs]
    exact ClampLog.puts_slot e es hnext (Nat.le_of_eq hlen) (hlen ▸ hk)

end Sys2Proof.Machine

/-!
Doorbells, and what reaches and leaves a frozen function (R103, R104, R131, R132, R144, R821).
-/
namespace Sys2Proof.Machine

/-! ### Doorbells -/

section Doorbells
variable {s : State} {dt pf n off v : Nat}

theorem exec_dbCmd_ring (hn : n < 32) : exec (.dbCmd dt pf n v) s = .next ((s.tick dt).ring pf (4 * n) v).done :=
  (exec_dbCmd ..).trans (next_done (if_pos hn))

theorem exec_dbCpl_ring (hn : n < 32) : exec (.dbCpl dt pf n v) s = .next ((s.tick dt).ring pf (0x80 + 4 * n) v).done :=
  (exec_dbCpl ..).trans (next_done (if_pos hn))

theorem State.ring_frozen (hf : (s.fn pf).frozen = true) : s.ring pf off v = s := by
  rw [State.ring, if_pos hf, ite_self]

theorem State.ring_early (hp : pf < 4) (hl : s.host.linkUp = true) (hf : (s.fn pf).frozen = false) (hrun : s.running = false) :
    s.ring pf off v = { s with host := { s.host with earlyDb := s.host.earlyDb ++ [(pf, off, v)] } } := by
  simp [State.ring, hl, hf, hrun, Nat.not_le.2 hp]

theorem State.ring_running (hp : pf < 4) (hl : s.host.linkUp = true) (hf : (s.fn pf).frozen = false) (hrun : s.running = true) :
    s.ring pf off v = s.doorbell pf off v := by
  simp [State.ring, hl, hf, hrun, Nat.not_le.2 hp]

theorem State.doorbell_cmd (hn : n < 32) : s.doorbell pf (4 * n) v = s.dbCmd pf n v := by
  rw [State.doorbell, if_pos (by omega), Nat.mul_div_cancel_left n (by decide)]

theorem State.doorbell_cpl (hn : n < 32) : s.doorbell pf (0x80 + 4 * n) v = s.dbCpl pf n v := by
  rw [State.doorbell, if_neg (by omega), if_pos (by omega), show (0x80 + 4 * n) / 4 - 32 = n by omega]

theorem State.doorbell_evt : s.doorbell pf 0x100 v = s.dbEvt pf v := rfl

end Doorbells

/-! ### A frozen function -/

section Frozen
variable {ok : Nat → Nat → Nat → Bool} {now : Ns} {h : HostState} {pf : Nat}

theorem HostState.putEvent_frozen (e : Event) (hf : (tget {} h.fns pf : Func).frozen = true) :
    h.putEvent ok now pf e = h.setFn pf { (tget {} h.fns pf : Func) with held := (tget {} h.fns pf : Func).held ++ [.event e] } := if_pos hf

theorem HostState.putCompletion_frozen (m : Nat) (c : Completion) (hf : (tget {} h.fns pf : Func).frozen = true) :
    h.putCompletion ok now pf m c = h.setFn pf { (tget {} h.fns pf : Func) with held := (tget {} h.fns pf : Func).held ++ [.completion m c] } :=
  if_pos hf

theorem HostState.signal_frozen (m : Nat) (hf : (tget {} h.fns pf : Func).frozen = true) :
    h.signal pf m = h.setFn pf { (tget {} h.fns pf : Func) with held := (tget {} h.fns pf : Func).held ++ [.msix m] } := if_pos hf

/-- A function that holds one thing more has sent nothing, and posts nothing. -/
theorem HostState.setFn_held {x : HostState} {k : Held}
    (hx : x = h.setFn pf { (tget {} h.fns pf : Func) with held := (tget {} h.fns pf : Func).held ++ [k] }) :
    x.sent = h.sent ∧ x.waiting = h.waiting ∧ (tget {} x.fns pf : Func).held = (tget {} h.fns pf : Func).held ++ [k] := by
  subst hx
  exact ⟨rfl, rfl, congrArg Func.held (h.setFn_same pf _)⟩

end Frozen

section Reads
variable {s : State} {pf win off : Nat}

theorem State.writeReg_frozen {size v : Nat} {t : SelfTest} (hf : (s.fn pf).frozen = true) (hw : win < 256) :
    s.writeReg pf win off size v t = s := by
  obtain ⟨h2, h4⟩ := bar0_ne hw
  have hreach : s.hrReach pf = false := by simp [State.hrReach, hf]
  simp [State.writeReg, h2, h4, hreach]

theorem HostState.rcRead_readback (h : HostState) : (h.rcRead pf off).readback = h.readback := by
  unfold HostState.rcRead
  dsimp only
  (repeat' split) <;> rfl

/-- What a read clears is not what it has returned (R19). -/
theorem State.rcRead_readback (s : State) : (s.rcRead pf win off).host.readback = s.host.readback := by
  have hfields : ((fieldsAt win off).foldl (fun s p => if p.1.acc = .rc then s.rstField p.1 p.2 else s) s).host = s.host :=
    foldl_leaves State.host (fun s p => by split <;> rfl) _ _
  unfold State.rcRead
  dsimp only
  split
  · exact (HostState.rcRead_readback _).trans (congrArg HostState.readback hfields)
  · (repeat' split) <;> exact congrArg HostState.readback hfields

theorem State.mdataNext_host (s : State) : s.mdataNext.host = s.host := by
  unfold State.mdataNext
  split <;> rfl

/-- FIFE_MDATA0 shows a word of a core's memory, whoever reads and whatever was read before (R771). -/
theorem State.readWord_mdata (s : State) (v pf : Nat) :
    ({ s with host := { s.host with readback := v } } : State).readWord 0 0x1E 0x804 = s.readWord pf 0x1E 0x804 := rfl

/-- An aligned 32-bit read of a window that is not reserved returns the register's word. -/
theorem State.readReg_readback (hl : s.host.linkUp = true) (hp : pf < 4) (hr : reservedWin win = false) (ho : off < 4096) (ha : off % 4 = 0) :
    (s.readReg pf win off 4).host.readback = s.readWord pf win off := by
  have hw : win < 256 := Nat.lt_trans (reservedWin_lt hr) (by decide)
  by_cases hm : win = 0x1E ∧ off = 0x804
  · obtain ⟨rfl, rfl⟩ := hm
    have hread : s.readReg pf 0x1E 0x804 4 =
        ({ s with host := { s.host with readback := s.readWord pf 0x1E 0x804 } } : State).mdataRead := by
      simp [State.readReg, hl, Nat.not_le.2 hp, bar2, bar4, hr]
    rw [hread, State.mdataRead, State.mdataNext_host]
    exact s.readWord_mdata _ pf
  · rw [State.readReg_word hl hp hw ho ha hm, State.rcRead_readback, hr]
    rfl

end Reads

/-- Settles O58: a freeze lets no write in, answers reads, and lengthens what is held. -/
theorem frozenFunction : Obligations.FrozenFunction := by
  intro s dt pf off v win size t ok h e m c u
  refine ⟨fun hf => ⟨?_, ?_, (exec_dbEvt ..).trans (next_done (State.ring_frozen hf))⟩, fun hf hw => State.writeReg_frozen hf hw,
    fun _ hl hp _ ho ha hr => State.readReg_readback hl hp hr ho ha, fun hf x => ⟨fun hx => ?_, fun hx => ?_, fun hx => ?_⟩⟩
  · exact (exec_dbCmd ..).trans (next_done (by rw [State.ring_frozen hf, ite_self]))
  · exact (exec_dbCpl ..).trans (next_done (by rw [State.ring_frozen hf, ite_self]))
  · exact HostState.setFn_held (hx.trans (HostState.putEvent_frozen e hf))
  · exact HostState.setFn_held (hx.trans (HostState.putCompletion_frozen m c hf))
  · exact HostState.setFn_held (hx.trans (HostState.signal_frozen m hf))

end Sys2Proof.Machine

/-!
Fetching from a command ring, and a read of host memory that fails (R96, R100, R103, R104, R111, R942).
-/
namespace Sys2Proof.Machine

/-! ### A new tail and a new head (R104) -/

section Heads
variable {s : State} {pf n v : Nat}

theorem State.dbCpl_taken (h : (s.cplRing pf n).headOk v = true) : s.dbCpl pf n v = s.setCplRing pf n { s.cplRing pf n with head := v } := if_pos h

theorem State.dbCpl_bad (h : (s.cplRing pf n).headOk v = false) : s.dbCpl pf n v =
    (s.setCplRing pf n { s.cplRing pf n with dberr := satAdd 8 (s.cplRing pf n).dberr 1 }).doorbellBad pf 1 n v := if_neg (Bool.eq_false_iff.1 h)

theorem State.dbEvt_taken (h : (s.evtRing pf).headOk v = true) : s.dbEvt pf v = s.setEvtRing pf { s.evtRing pf with head := v } := if_pos h

theorem State.dbEvt_bad (h : (s.evtRing pf).headOk v = false) : s.dbEvt pf v =
    (s.setEvtRing pf { s.evtRing pf with dberr := satAdd 8 (s.evtRing pf).dberr 1 }).doorbellBad pf 2 0 v := if_neg (Bool.eq_false_iff.1 h)

end Heads

/-! ### A batch (R96, R100, R111) -/

section Fetches
variable {s : State} {pf n : Nat} {c : Cmd}

/-- The command that ring `n` of `pf` has at HEAD, where the entry read there spells `c`. -/
def State.headCmd (s : State) (pf n : Nat) (c : Cmd) : Cmd :=
  { c with pf, ring := n, slot := (s.cmdRing pf n).head % 2 ^ (s.cmdRing pf n).log2sz, src := .host }

/-- An entry that no freeze caught, read inside the function's ranges, is checked and taken up; none of it enters a journal. -/
theorem State.fetchEntry_taken (hcan : s.canFetch pf n = true) (hne : (s.cmdRing pf n).head ≠ (s.cmdRing pf n).tail) (hturn : s.fetchTurn pf n = true)
    (hfrz : (s.fn pf).frzTail = []) (hj : s.journals (s.headCmd pf n c) = false) (hok : s.dmaOk pf (s.cmdRing pf n).addr 32 = true)
    (hj' : ((s.takeEntry pf n).takeIn (s.headCmd pf n c)).1.journals (s.headCmd pf n c) = false) :
    s.fetchEntry pf n c = (((s.takeEntry pf n).takeIn (s.headCmd pf n c)).1, true) := by
  have hdma : s.dma pf (s.cmdRing pf n).addr 32 = (s, true) := if_pos hok
  unfold State.headCmd at hj hj' ⊢
  simp only [State.fetchEntry, hcan, beq_eq_false_iff_ne.2 hne, hturn, hj, hdma, hfrz, hj', List.find?_nil, Option.map_none, Bool.not_true,
    Bool.false_and, Bool.and_false, Bool.or_self, Bool.false_eq_true, if_false]

/-- A batch of one entry that is taken up ends with the head write-back (R100). -/
theorem State.fetchBatch_one {x : State} (h : s.fetchEntry pf n c = (x, true)) (hf : (x.fn pf).frozen = false) :
    s.fetchBatch pf n [c] = x.headWb pf n := by
  simp [State.fetchBatch, h, hf]

end Fetches

section FetchRows
variable {s : State} {dt pf n : Nat} {c : Cmd}

theorem exec_commandFetch_batch {batch : List Cmd} (hp : pf < 4) (hn : n < 32) :
    exec (.commandFetch dt pf n batch false) s = .next ((s.tick dt).fetchBatch pf n batch).done :=
  (exec_commandFetch ..).trans (next_done ((if_neg (by omega)).trans (if_neg Bool.false_ne_true)))

theorem exec_commandFetch_fail {batch : List Cmd} (hp : pf < 4) (hn : n < 32) (hcan : (s.tick dt).fetchable (32 * pf + n) = true)
    (hturn : (s.tick dt).fetchTurn pf n = true) : exec (.commandFetch dt pf n batch true) s = .next ((s.tick dt).fetchFail pf n).done :=
  (exec_commandFetch ..).trans (next_done ((if_neg (by omega)).trans ((if_pos rfl).trans (if_pos (and_holds hcan hturn)))))

/-- A failed read withdraws the command that needs it, unless it has begun (R942). -/
theorem exec_dmaReadFail_flight {r : InFlight} (hread : needsRead c = true) (hr : (s.tick dt).flight c = some r) (hb : r.begun = false) :
    exec (.dmaReadFail dt c) s = .next (((s.tick dt).forget fun d => sameCmd d c).complete c .faulted 0x010B).done := by
  refine (exec_dmaReadFail ..).trans (next_done ((if_neg (by simp [hread])).trans ?_))
  simp only [hr, hb, Bool.false_eq_true, if_false]

theorem exec_dmaReadFail_arrives (hread : needsRead c = true) (hr : (s.tick dt).flight c = none) (ha : ((s.tick dt).arrive c).2 = true) :
    exec (.dmaReadFail dt c) s = .next (((s.tick dt).arrive c).1.complete c .faulted 0x010B).done := by
  refine (exec_dmaReadFail ..).trans (next_done ((if_neg (by simp [hread])).trans ?_))
  simp only [hr, ha, if_true]

end FetchRows

/-- Settles O30: each doorbell by the branch of its ring, each fetch by what its entry or its failure comes to. -/
theorem doorbellsAndFetch : Obligations.DoorbellsAndFetch := by
  intro s dt pf n v c batch r u e
  refine ⟨fun hn hp hl hf hrun => ?_, fun hn hp hl hf hrun => ?_, fun x hp hn hcan hne hturn hfrz hj hok hx hj' hf => ?_,
    fun hp hn hcan hturn => exec_commandFetch_fail hp hn hcan hturn, fun hread hr hb => exec_dmaReadFail_flight hread hr hb,
    fun hread hr ha => exec_dmaReadFail_arrives hread hr ha⟩
  · have hring : ∀ off, u.ring pf off v = u.doorbell pf off v := fun _ => State.ring_running hp hl hf hrun
    have hcmd : exec (.dbCmd dt pf n v) s = .next (u.dbCmd pf n v).done := by rw [exec_dbCmd_ring hn, hring, State.doorbell_cmd hn]
    have hcpl : exec (.dbCpl dt pf n v) s = .next (u.dbCpl pf n v).done := by rw [exec_dbCpl_ring hn, hring, State.doorbell_cpl hn]
    have hevt : exec (.dbEvt dt pf v) s = .next (u.dbEvt pf v).done := 
      (exec_dbEvt ..).trans (next_done ((hring 0x100).trans State.doorbell_evt))
    exact ⟨fun h => hcmd.trans (next_done (if_pos h)), fun h => hcmd.trans (next_done (if_neg h)),
      fun h => hcpl.trans (next_done (State.dbCpl_taken h)), fun h => hcpl.trans (next_done (State.dbCpl_bad h)),
      fun h => hevt.trans (next_done (State.dbEvt_taken h)), fun h => hevt.trans (next_done (State.dbEvt_bad h))⟩
  · have hring : ∀ off, u.ring pf off v = _ := fun _ => State.ring_early hp hl hf hrun
    exact ⟨(exec_dbCmd_ring hn).trans (next_done (hring _)), (exec_dbCpl_ring hn).trans (next_done (hring _)),
      (exec_dbEvt ..).trans (next_done (hring _))⟩
  · subst hx
    exact (exec_commandFetch_batch hp hn).trans
      (next_done (State.fetchBatch_one (State.fetchEntry_taken hcan hne hturn hfrz hj hok hj') hf))

end Sys2Proof.Machine

/-!
The generic commands and the reads (R90, R91, R121 to R123, R876).
-/
namespace Sys2Proof.Machine

/-! ### CANCEL (R121 to R123) -/

/-- The command in flight that CANCEL `c` names. -/
def State.cancelled (s : State) (c : Cmd) : Option InFlight :=
  s.host.inflight.find? fun r => r.cmd.pf == c.pf && r.cmd.src == .host && r.cmd.tag == c.arg 16 2

section Cancel
variable {s : State} {c : Cmd} {r : InFlight}

theorem State.cancel_none (h : s.cancelled c = none) : s.cancel c = s.complete c .refusedState 0x0106 := by
  unfold State.cancelled at h
  simp only [State.cancel, h]

theorem State.cancel_some (h : s.cancelled c = some r) :
    s.cancel c = if c.arg 16 2 = c.tag then s.complete c .refusedState 0x0106 else s.cancelOf c r := by
  unfold State.cancelled at h
  simp only [State.cancel, h]

theorem State.cancelOf_withdraws (hb : r.begun = false) (hl : r.latched = false) :
    s.cancelOf c r = ((s.forget fun d => sameCmd d r.cmd).complete r.cmd .cancelled).complete c .done := if_neg (by simp [hb, hl])

theorem State.cancelOf_waits (h : r.begun = true ∨ r.latched = true) :
    s.cancelOf c r = s.modFlight r.cmd fun x => { x with cancels := x.cancels ++ [c] } := if_pos (Bool.or_eq_true_iff.2 h)

end Cancel

/-- A command whose aligned buffer is large enough and inside the function's ranges posts its bytes and completes DONE (R91, R119). -/
theorem State.answerWith_done {s : State} {c : Cmd} {bytes : List Byte} (ha : c.arg 16 8 % 8 = 0) (hlen : bytes.length ≤ c.arg 24 2)
    (hok : s.dmaOk c.pf (c.arg 16 8) bytes.length = true) :
    s.answerWith c bytes = (s.postResult c.pf (c.arg 16 8) bytes).complete c .done := by
  have hdma : s.dma c.pf (c.arg 16 8) bytes.length = (s, true) := if_pos hok
  have hfits : ¬ (c.arg 16 8 % 8 ≠ 0 ∨ c.arg 24 2 < bytes.length) := by omega
  simp only [State.answerWith, hfits, hdma, if_false, if_true]

/-- A read that starts posts the bytes of the state in which it meets its block. -/
theorem State.serveOp_reads {s : State} {dt : Ns} {c : Cmd} {op : Nat} {ks : List Kind} {bytes : List Byte} {read : State → List Byte}
    (ha : c.arg 16 8 % 8 = 0) (hlen : bytes.length ≤ c.arg 24 2) (hok : (s.taken dt c).dmaOk c.pf (c.arg 16 8) bytes.length = true)
    (h : s.starts dt c op ks = true) (hbytes : bytes = read (s.taken dt c)) :
    s.serveOp dt c op ks (fun s => s.answerWith c (read s)) = ((s.taken dt c).postResult c.pf (c.arg 16 8) bytes).complete c .done := by
  rw [State.serveOp_starts h, ← hbytes, State.answerWith_done ha hlen hok]

/-- Settles O31: each command in the state in which it meets its block, CANCEL by what it finds in flight. -/
theorem genericAndReadCommands : Obligations.GenericAndReadCommands := by
  intro s dt c r bytes b
  refine ⟨fun h => ?_, fun h hr => ⟨fun ht hb hl => ?_, fun ht hb => ?_, fun ht => ?_⟩, fun h hr => ?_, fun h hrole => ?_, fun h hrole => ?_,
    fun ha hlen hok => ⟨fun h hbytes => ?_, fun h hbytes => ?_, fun h hbytes => ?_, fun h hbytes => ?_, fun h hbytes => ?_⟩⟩
  · exact (exec_nop ..).trans (next_done (State.serveOp_starts h _))
  · exact (exec_cancel ..).trans (next_done ((State.serveOp_starts h _).trans
      ((State.cancel_some hr).trans ((if_neg ht).trans (State.cancelOf_withdraws hb hl)))))
  · exact (exec_cancel ..).trans (next_done ((State.serveOp_starts h _).trans
      ((State.cancel_some hr).trans ((if_neg ht).trans (State.cancelOf_waits hb)))))
  · exact (exec_cancel ..).trans (next_done ((State.serveOp_starts h _).trans ((State.cancel_some hr).trans (if_pos ht))))
  · exact (exec_cancel ..).trans (next_done ((State.serveOp_starts h _).trans (State.cancel_none hr)))
  · exact (exec_setTime ..).trans (next_done ((State.serveOp_starts h _).trans (if_neg hrole)))
  · exact (exec_setTime ..).trans (next_done ((State.serveOp_starts h _).trans (if_pos hrole)))
  · exact (exec_readStatus ..).trans (next_done (State.serveOp_reads ha hlen hok h hbytes))
  · exact (exec_readHistory ..).trans (next_done (State.serveOp_reads ha hlen hok h hbytes))
  · exact (exec_readCounters ..).trans (next_done (State.serveOp_reads ha hlen hok h hbytes))
  · exact (exec_readRetirements ..).trans (next_done (State.serveOp_reads ha hlen hok h hbytes))
  · exact (exec_readIdentity ..).trans (next_done (State.serveOp_reads ha hlen hok h hbytes))

end Sys2Proof.Machine

/-!
Ring enables and owners: the setup writes of window 01h (R82, R105 to R108, R145, R843, R948).
-/
namespace Sys2Proof.Machine

/-! ### One bit of a word -/

theorem bit_eq_true_iff {v k : Nat} : bit v k = true ↔ v / 2 ^ k % 2 = 1 := by simp [bit, bits]

theorem bit_eq_false_iff {v k : Nat} : bit v k = false ↔ v / 2 ^ k % 2 = 0 := by simp [bit, bits]

theorem bit_setBit (v k : Nat) : bit (setBit v k) k = true := by
  unfold setBit
  split
  · assumption
  · next h =>
    have hclear := bit_eq_false_iff.1 (Bool.eq_false_iff.2 h)
    rw [bit_eq_true_iff, Nat.add_div_right _ (Nat.two_pow_pos k)]
    omega

theorem bit_clrBit (v k : Nat) : bit (clrBit v k) k = false := by
  unfold clrBit
  split
  · next h =>
    have hset := bit_eq_true_iff.1 h
    have hdiv : (v - 2 ^ k) / 2 ^ k = v / 2 ^ k - 1 := by simpa using Nat.sub_mul_div v (2 ^ k) 1
    rw [bit_eq_false_iff, hdiv]
    omega
  · next h => exact Bool.eq_false_iff.2 h

/-- A field below the bit reads as before. -/
theorem bits_setBit_below {lo w k : Nat} (v : Nat) (h : lo + w ≤ k) : bits (setBit v k) lo w = bits v lo w := by
  have hk : 2 ^ k = 2 ^ lo * (2 ^ w * 2 ^ (k - lo - w)) := by
    rw [← Nat.pow_add, ← Nat.pow_add]
    congr 1
    omega
  unfold setBit
  split
  · rfl
  · rw [bits, hk, Nat.add_mul_div_left _ _ (Nat.two_pow_pos lo), Nat.add_mul_mod_self_left, bits]

/-! ### The CFG registers of the rings -/

section Cfg
variable {s : State} {pf n v : Nat}

/-- EN written 1 to a disabled command ring that nothing keeps from it: the ring begins with empty indices (R105, R107, R108). -/
theorem State.cmdRingWrite_enables (hen : (s.cmdRing pf n).en = false) (hv : bit v 16 = true) (hbusy : s.ringBusy pf n = false)
    (hcpl : (s.cplRing pf (bits v 4 5)).en = true) :
    ∃ (x : CmdRing) (es : List ClampEntry), s.cmdRingWrite pf n 2 v = (s.setCmdRing pf n x, es)
      ∧ x.en = true ∧ x.head = 0 ∧ x.tail = 0 ∧ x.last = 0 ∧ x.stopped = false := by
  refine ⟨_, _, rfl, ?_⟩
  simp [keepIf, hen, hv, hbusy, hcpl]

/-- EN written 1 to a disabled command ring that has commands left, or whose completion ring is disabled: a clamp. -/
theorem State.cmdRingWrite_refuses (hen : (s.cmdRing pf n).en = false)
    (h : s.ringBusy pf n = true ∨ (s.cplRing pf (bits v 4 5)).en = false) :
    ∃ (x : CmdRing) (es : List ClampEntry), s.cmdRingWrite pf n 2 v = (s.setCmdRing pf n x, es)
      ∧ x.en = false ∧ x.head = (s.cmdRing pf n).head ∧ x.tail = (s.cmdRing pf n).tail := by
  refine ⟨_, _, rfl, ?_⟩
  obtain h | h := h <;> simp [keepIf, hen, h]

/-- EN written 0: the command ring keeps its indices (R107). -/
theorem State.cmdRingWrite_disables (hv : bit v 16 = false) :
    ∃ (x : CmdRing) (es : List ClampEntry), s.cmdRingWrite pf n 2 v = (s.setCmdRing pf n x, es)
      ∧ x.en = false ∧ x.head = (s.cmdRing pf n).head ∧ x.tail = (s.cmdRing pf n).tail := by
  refine ⟨_, _, rfl, ?_⟩
  simp [hv]

theorem OutRing.write_enables {r : OutRing} {o : Nat} {stays : Bool} (hen : r.en = false) (hv : bit v 31 = true) :
    (r.write pf o 2 v stays).1.en = true ∧ (r.write pf o 2 v stays).1.head = 0 ∧ (r.write pf o 2 v stays).1.tail = 0 := by
  simp [OutRing.write, hen, hv]

/-- EN written 0 stays 1 only where the ring is enabled and needed (R105). -/
theorem OutRing.write_disables {r : OutRing} {o : Nat} {stays : Bool} (hv : bit v 31 = false) :
    (r.write pf o 2 v stays).1.en = (r.en && stays) := by
  cases hen : r.en <;> simp [OutRing.write, hen, hv]

/-- The event ring begins with EVSEQ 0, and is given the events that a return from Stop holds for it (R108, R843). -/
theorem State.evtRingWrite_enables (hen : (s.evtRing pf).en = false) (hv : bit v 31 = true) :
    ∃ (x : OutRing) (es : List ClampEntry), s.evtRingWrite pf 2 v = ((s.setEvtRing pf x).giveWake pf, es)
      ∧ x.en = true ∧ x.head = 0 ∧ x.tail = 0 ∧ x.evseq = 0 := by
  obtain ⟨hon, hhead, htail⟩ := OutRing.write_enables (r := s.evtRing pf) (pf := pf) (o := 0x900 + 4 * 2) (stays := false) hen hv
  refine ⟨{ ((s.evtRing pf).write pf (0x900 + 4 * 2) 2 v false).1 with evseq := 0 }, ((s.evtRing pf).write pf (0x900 + 4 * 2) 2 v false).2,
    if_pos (and_holds hon (congrArg not hen)), hon, hhead, htail, rfl⟩

theorem State.evtRingWrite_disables (hv : bit v 31 = false) :
    ∃ (x : OutRing) (es : List ClampEntry), s.evtRingWrite pf 2 v = (s.setEvtRing pf x, es) ∧ x.en = false := by
  have hoff : ((s.evtRing pf).write pf (0x900 + 4 * 2) 2 v false).1.en = false := (OutRing.write_disables hv).trans (Bool.and_false _)
  exact ⟨_, _, if_neg (and_fails (.inl hoff)), hoff⟩

end Cfg

/-! ### Where EN of each ring stands (R145) -/

/-- The word that a write of EN carries: the register as it reads, with bit `k` at `on`. -/
def State.enWord (s : State) (pf off k : Nat) (on : Bool) : Nat := if on then setBit (s.hrWord pf off) k else clrBit (s.hrWord pf off) k

theorem State.bit_enWord (s : State) (pf off k : Nat) (on : Bool) : bit (s.enWord pf off k on) k = on := by
  cases on
  · exact bit_clrBit ..
  · exact bit_setBit ..

section Rings
variable {s : State} {pf n : Nat} {on : Bool}

theorem State.ringEn_write {off k : Nat} (hreach : s.hrReach pf = true) : s.ringEn pf off k on = s.hrSetup pf off (s.enWord pf off k on) :=
  if_neg (by simp [hreach])

theorem State.hrWrite_cmdCfg (v : Nat) (hn : n < 32) : s.hrWrite pf (0x108 + 32 * n) v = s.cmdRingWrite pf n 2 v := by
  unfold State.hrWrite
  dsimp only
  rw [if_neg (by omega), if_neg (by omega), if_neg (by omega), if_pos (by omega), show (0x108 + 32 * n - 0x100) / 32 = n by omega,
    show (0x108 + 32 * n - 0x100) % 32 / 4 = 2 by omega]

theorem State.hrWrite_cplCfg (v : Nat) (hn : n < 32) : s.hrWrite pf (0x508 + 32 * n) v =
    (s.setCplRing pf n ((s.cplRing pf n).write pf (0x508 + 32 * n) 2 v (s.cplNeeded pf n)).1,
      ((s.cplRing pf n).write pf (0x508 + 32 * n) 2 v (s.cplNeeded pf n)).2) := by
  unfold State.hrWrite
  dsimp only
  rw [if_neg (by omega), if_neg (by omega), if_neg (by omega), if_neg (by omega), if_pos (by omega), show (0x508 + 32 * n - 0x500) / 32 = n by omega,
    show (0x508 + 32 * n - 0x500) % 32 / 4 = 2 by omega]

/-- A write of window 01h whose outcome is known ends with the log of its clamps. -/
theorem State.hrSetup_of {off v : Nat} {t : State} {es : List ClampEntry} (h : s.hrWrite pf off v = (t, es)) :
    s.hrSetup pf off v = t.logSetup 1 pf es := by
  rw [State.hrSetup, h]

theorem State.ringEn_cmd {t : State} {es : List ClampEntry} (hreach : s.hrReach pf = true) (hn : n < 32)
    (h : s.cmdRingWrite pf n 2 (s.enWord pf (0x108 + 32 * n) 16 on) = (t, es)) :
    s.ringEn pf (0x108 + 32 * n) 16 on = t.logSetup 1 pf es :=
  (State.ringEn_write hreach).trans (State.hrSetup_of ((State.hrWrite_cmdCfg _ hn).trans h))

theorem State.ringEn_cpl (hreach : s.hrReach pf = true) (hn : n < 32) :
    s.ringEn pf (0x508 + 32 * n) 31 on =
      (s.setCplRing pf n ((s.cplRing pf n).write pf (0x508 + 32 * n) 2 (s.enWord pf (0x508 + 32 * n) 31 on) (s.cplNeeded pf n)).1).logSetup 1 pf
        ((s.cplRing pf n).write pf (0x508 + 32 * n) 2 (s.enWord pf (0x508 + 32 * n) 31 on) (s.cplNeeded pf n)).2 :=
  (State.ringEn_write hreach).trans (State.hrSetup_of (State.hrWrite_cplCfg _ hn))

theorem State.ringEn_evt {t : State} {es : List ClampEntry} (hreach : s.hrReach pf = true)
    (h : s.evtRingWrite pf 2 (s.enWord pf 0x908 31 on) = (t, es)) : s.ringEn pf 0x908 31 on = t.logSetup 1 pf es :=
  (State.ringEn_write hreach).trans (State.hrSetup_of h)

end Rings

/-! ### Owners (R82, R83) -/

@[simp] theorem HostState.post_owners (h : HostState) (w : HostWrite) : (h.post w).owners = h.owners :=
  (congrArg HostState.owners (h.post_frame w) :)

@[simp] theorem HostState.signal_owners (h : HostState) (pf vec : Nat) : (h.signal pf vec).owners = h.owners :=
  (congrArg HostState.owners (h.signal_frame pf vec) :)

theorem HostState.putEvent_owners (ok : Nat → Nat → Nat → Bool) (now : Ns) (h : HostState) (pf : Nat) (e : Event) :
    (h.putEvent ok now pf e).owners = h.owners := by
  unfold HostState.putEvent
  dsimp only
  split
  · rfl
  split
  · rfl
  split
  · rfl
  split
  · rfl
  split
  · exact (HostState.signal_owners ..).trans (HostState.post_owners ..)
  · exact HostState.post_owners ..

/-- Clamps that are logged and reported leave the owners. -/
theorem State.logSetup_owner (s : State) (w pf : Nat) (es : List ClampEntry) (o : Nat) : (s.logSetup w pf es).owner o = s.owner o := by
  have hlog : (s.logClamps w es).host = s.host := foldl_leaves State.host (g := fun s e => s.logClamp w e) (fun _ _ => rfl) es s
  have howners : (s.logSetup w pf es).host.owners = s.host.owners := by
    unfold State.logSetup State.clampEvent
    split
    · rw [hlog]
    · exact (HostState.putEvent_owners ..).trans (congrArg HostState.owners hlog)
  rw [State.owner, howners, State.owner]

/-- A write of HR_OWNDAT by PF0 gives the object of HR_OWNSEL its owner (R82). -/
theorem State.hrSetup_owner {s : State} {o v : Nat} (ho : (s.fn 0).ownsel = o) (hk : (objKind o).isSome = true) :
    (s.hrSetup 0 0x14 v).owner o = ownerClamp o (s.owner o) (bits v 0 2) := by
  subst ho
  have hw : s.hrWrite 0 0x14 v = ({ s with host := { s.host with
      owners := tput s.host.owners (s.fn 0).ownsel (ownerClamp (s.fn 0).ownsel (s.owner (s.fn 0).ownsel) (bits v 0 2)) } },
      pick 0 0x14 0 2 (bits v 0 2) (ownerClamp (s.fn 0).ownsel (s.owner (s.fn 0).ownsel) (bits v 0 2))) := by
    simp [State.hrWrite, hk]
  rw [State.hrSetup_of hw, State.logSetup_owner, State.owner, tget_tput, if_pos rfl]

theorem ownerClamp_listed {o old v : Nat} (hk : (objKind o).isSome = true) :
    ownerClamp o old v = if o = 0x500 then 3 else if v = 2 then old else v :=
  if_neg (by simpa [Option.isSome_iff_ne_none] using hk)

/-- Settles O32: each write of EN by what its CFG register does with it, an owner by the two writes that give it. -/
theorem ringsAndOwners : Obligations.RingsAndOwners := by
  intro s dt pf n o v u
  have hcplsel : bits (u.enWord pf (0x108 + 32 * n) 16 true) 4 5 = bits (u.hrWord pf (0x108 + 32 * n)) 4 5 := bits_setBit_below _ (by decide)
  refine ⟨fun hn hreach hen => ⟨fun hbusy hcpl => ?_, fun h => ?_⟩, fun hn hreach => ?_, fun hn hreach hen => ?_, fun hn hreach => ?_,
    fun hreach hen => ?_, fun hreach => ?_, fun hreach ho hk hv => ?_⟩
  · rw [← hcplsel] at hcpl
    obtain ⟨x, es, hx, hring⟩ := State.cmdRingWrite_enables hen (u.bit_enWord ..) hbusy hcpl
    exact ⟨x, es, (exec_cmdRingEnable ..).trans (next_done ((if_pos hn).trans (State.ringEn_cmd hreach hn hx))), hring⟩
  · rw [← hcplsel] at h
    obtain ⟨x, es, hx, hring⟩ := State.cmdRingWrite_refuses hen h
    exact ⟨x, es, (exec_cmdRingEnable ..).trans (next_done ((if_pos hn).trans (State.ringEn_cmd hreach hn hx))), hring⟩
  · obtain ⟨x, es, hx, hring⟩ := State.cmdRingWrite_disables (n := n) (u.bit_enWord pf (0x108 + 32 * n) 16 false)
    exact ⟨x, es, (exec_cmdRingDisable ..).trans (next_done ((if_pos hn).trans (State.ringEn_cmd hreach hn hx))), hring⟩
  · exact ⟨_, _, (exec_cplRingEnable ..).trans (next_done ((if_pos hn).trans (State.ringEn_cpl hreach hn))),
      OutRing.write_enables hen (u.bit_enWord ..)⟩
  · exact ⟨_, _, (exec_cplRingDisable ..).trans (next_done ((if_pos hn).trans (State.ringEn_cpl hreach hn))),
      OutRing.write_disables (u.bit_enWord ..)⟩
  · obtain ⟨x, es, hx, hring⟩ := State.evtRingWrite_enables hen (u.bit_enWord pf 0x908 31 true)
    exact ⟨x, es, (exec_evtRingEnable ..).trans (next_done (State.ringEn_evt hreach hx)), hring⟩
  · obtain ⟨x, es, hx, hoff⟩ := State.evtRingWrite_disables (u.bit_enWord pf 0x908 31 false)
    exact ⟨x, es, (exec_evtRingDisable ..).trans (next_done (State.ringEn_evt hreach hx)), hoff⟩
  · refine ⟨_, (exec_ownerChange ..).trans (next_done (if_pos hreach)), ?_⟩
    have hsel : ((u.hrSetup 0 0x10 o).fn 0).ownsel = o := by
      change ((u.setFn 0 { u.fn 0 with ownsel := bits o 0 16 }).fn 0).ownsel = o
      exact (congrArg Func.ownsel (u.host.setFn_same 0 _)).trans (bits_of_lt ho)
    rw [State.hrSetup_owner hsel hk, ownerClamp_listed hk, bits_of_lt hv]
    rfl

end Sys2Proof.Machine

/-!
MSI-X, resets of functions and the PCIe link (R129 to R131, R142, R144, R842, R942, R943).
-/
namespace Sys2Proof.Machine

section Link
variable {s : State} {dt pf m v : Nat}

/-- MODTIME after the first unsignalled entry: there is one, MODTIME is not 0, and its time has passed (R142). -/
theorem modtime_over {unsig since time now : Nat} (hu : 0 < unsig) (ht : 0 < time) (hnow : since + time * 1000 ≤ now) :
    decide (0 < unsig ∧ 0 < time ∧ since + time * 1000 ≤ now) = true := decide_eq_true ⟨hu, ht, hnow⟩

/-- Die C serves its blocks, and the function exists: the row judges the queue of its kind. -/
theorem modtime_judged (hc : s.dieC = true) (hp : pf < 4) : ¬ (!s.dieC || decide (4 ≤ pf)) = true :=
  or_fails (congrArg not hc) (decide_eq_false (Nat.not_le.2 hp))

theorem exec_msixUnmask_reaches {mask : Bool} (hl : (s.tick dt).host.linkUp = true) (hp : pf < 4) (hv : v < 16) :
    exec (.msixUnmask dt pf v mask) s = .next ((s.tick dt).vecMaskWrite pf v mask).done :=
  (exec_msixUnmask ..).trans (next_done (if_neg (or_fails (congrArg not hl) (decide_eq_false (by omega)))))

/-- With the link up, what waits is sent, but for the writes of frozen functions (R131, R942). -/
theorem HostState.sendWaiting_up {h : HostState} (hl : h.linkUp = true) :
    h.sendWaiting.linkUp = true ∧ h.sendWaiting.waiting = h.waiting.filter (fun w => (tget {} h.fns w.pf : Func).frozen)
    ∧ h.sendWaiting.sent = h.waiting.filter (fun w => !(tget {} h.fns w.pf : Func).frozen) ++ h.sent := by
  unfold HostState.sendWaiting
  rw [if_neg (by simp [hl])]
  exact ⟨hl, rfl, rfl⟩

end Link

/-- Settles O33: each row by the branch that its conditions choose. -/
theorem msixFunctionsAndLink : Obligations.MsixFunctionsAndLink := by
  intro s dt pf m v u d
  refine ⟨fun hc hp hu ht hnow => ?_, fun hc hp hu ht hnow => ?_, fun hc hp hm hu ht hnow w hw => ?_, fun hl hp hv => ⟨?_, fun h hh => ?_⟩,
    fun hl hp => ?_, fun hreset hout => ?_, fun hreset => ?_, rfl, fun hcan t ht => ?_, fun hwake h => ?_⟩
  · exact (exec_msixModtimeExpiry ..).trans (next_done ((if_neg (modtime_judged hc hp)).trans (if_pos (modtime_over hu ht hnow))))
  · exact (exec_msixModtimeExpiry ..).trans (next_done ((if_neg (modtime_judged hc hp)).trans (if_pos (modtime_over hu ht hnow))))
  · subst hw
    exact (exec_msixModtimeExpiry ..).trans (next_done ((if_neg (modtime_judged hc hp)).trans
      (if_pos (and_holds (decide_eq_true hm) (modtime_over hu ht hnow)))))
  · exact exec_msixUnmask_reaches hl hp hv
  · subst hh
    exact exec_msixUnmask_reaches hl hp hv
  · exact (exec_functionLevelReset ..).trans (next_done (if_pos (and_holds hl (decide_eq_true hp))))
  · exact (exec_pePerstAssert ..).trans (next_done ((if_neg (Bool.eq_false_iff.1 hreset)).trans (if_pos hout)))
  · exact (exec_pePerstAssert ..).trans (next_done (if_pos hreset))
  · subst ht
    exact ⟨(exec_pcieLinkUp ..).trans (next_done (if_pos hcan)), HostState.sendWaiting_up rfl⟩
  · exact (exec_peWakeRelease ..).trans (next_done (if_pos (and_holds hwake (Bool.or_eq_true_iff.2 (h.imp_right decide_eq_true)))))

end Sys2Proof.Machine

/-!
The commands of the HS and LS channels (R154 to R164, R198, R207 to R210, R240, R947).
-/
namespace Sys2Proof.Machine

theorem bnot_holds {a : Bool} (ha : a = false) : (!a) = true := by simp [ha]

theorem bnot_fails {a : Bool} (ha : a = true) : ¬ (!a) = true := by simp [ha]

theorem or_beq_iff {a b c : Nat} : (a == b || a == c) = true ↔ a = b ∨ a = c := by simp

/-- A row that a command starts answers what its body makes of the state in which the command meets its block. -/
theorem next_starts {s t : State} {dt : Ns} {c : Cmd} {op : Nat} {ks : List Kind} {body : State → State} (h : s.starts dt c op ks = true)
    (hbody : body (s.taken dt c) = t) : (.next (s.serveOp dt c op ks body).done : Answered) = .next t.done :=
  next_done ((State.serveOp_starts h body).trans hbody)

section Bars
variable {s t : State} {c : Cmd} {b : Option (Code × Nat)} {bars : List (Option (Code × Nat))} {go : State → State}

/-- A condition that does not hold leaves the others to decide; where none is left, the command is served. -/
theorem State.orElse_skip (hb : b = none) (hrest : s.orElse c bars go = t) : s.orElse c (b :: bars) go = t := by
  subst hb
  exact hrest

theorem State.orElse_last (hb : b = none) (hgo : go s = t) : s.orElse c [b] go = t := State.orElse_skip hb hgo

end Bars

/-! ### What a clamped operand leaves alone (R135, R138) -/

/-- The states differ in the host's side and in the fault and clamp logs only. -/
def State.SameButLogs (s t : State) : Prop := ({ t with host := s.host, flt := s.flt } : State) = s

namespace State.SameButLogs

variable {s t : State}

theorem refl (s : State) : s.SameButLogs s := rfl

/-- What depends on neither the host's side nor the logs is the same. -/
theorem reads {α : Type} (h : s.SameButLogs t) (part : State → α) (hpart : part { t with host := s.host, flt := s.flt } = part t) : part t = part s :=
  hpart.symm.trans (congrArg part h)

theorem descClamp (h : s.SameButLogs t) (c : Cmd) (w off lsb width req applied : Nat) : s.SameButLogs (t.descClamp c w off lsb width req applied) := by
  unfold State.descClamp
  split <;> exact h

end State.SameButLogs

/-! ### The commands that switch a channel on (R154 to R164, R207, R317) -/

section SwitchOn
variable {s : State} {c : Cmd} {target duty0 inrByte vd : Nat}

/-- The duty of a switch-on command: that of a PWM target is no shorter than R161 allows. -/
def State.onDuty (s : State) (c : Cmd) (target duty0 : Nat) : Nat := if target = 2 then s.chMinDuty (chIx c.object) duty0 else 65535

/-- The state in which the duty of a switch-on command has been clamped, and that in which its INR bit has been clamped too. -/
def State.dutyClamped (s : State) (c : Cmd) (target duty0 : Nat) : State :=
  if target = 2 then s.descClamp c (objWin c.object) 16 0 16 duty0 (s.onDuty c target duty0) else s
def State.onClamped (s : State) (c : Cmd) (target duty0 inrByte : Nat) : State :=
  if isKind .hs c.object then s.dutyClamped c target duty0
  else (s.dutyClamped c target duty0).descClamp c (objWin c.object) inrByte 0 1 (c.argBits inrByte 0 1) 0

theorem State.dutyClamped_sameButLogs (s : State) (c : Cmd) (target duty0 : Nat) : s.SameButLogs (s.dutyClamped c target duty0) := by
  unfold State.dutyClamped
  split
  · exact (SameButLogs.refl s).descClamp ..
  · exact SameButLogs.refl s

theorem State.onClamped_sameButLogs (s : State) (c : Cmd) (target duty0 inrByte : Nat) : s.SameButLogs (s.onClamped c target duty0 inrByte) := by
  unfold State.onClamped
  split
  · exact s.dutyClamped_sameButLogs ..
  · exact (s.dutyClamped_sameButLogs ..).descClamp ..

/-- The channel is on with the target and the duty that a command asks for (R158). -/
def State.HasTarget (s : State) (c : Cmd) (target duty0 : Nat) : Prop :=
  s.isOn c.object = true ∧ (s.obj c.object).target = target ∧ (target = 1 ∨ s.setDuty c.object = s.onDuty c target duty0)

theorem State.hasTarget_iff : s.HasTarget c target duty0 ↔
    (s.isOn c.object && (s.obj c.object).target == target && (target == 1 || s.setDuty c.object == s.onDuty c target duty0)) = true := by
  simp [State.HasTarget, and_assoc]

theorem State.not_hasTarget_of_off (hoff : s.isOn c.object = false) : ¬ s.HasTarget c target duty0 := fun h => Bool.eq_false_iff.1 hoff h.1

theorem State.not_hasTarget_of_pwm (h : (s.obj c.object).target ≠ 2 ∨ s.setDuty c.object ≠ s.onDuty c 2 duty0) : ¬ s.HasTarget c 2 duty0 := by
  rintro ⟨-, htarget, hduty⟩
  exact h.elim (absurd htarget) (absurd (hduty.resolve_left (by decide)))

theorem State.onClamped_isOn : (s.onClamped c target duty0 inrByte).isOn c.object = s.isOn c.object :=
  (s.onClamped_sameButLogs c target duty0 inrByte).reads (·.isOn c.object) rfl

theorem State.onClamped_chDuty : (s.onClamped c target duty0 inrByte).chDuty c.object = s.chDuty c.object :=
  (s.onClamped_sameButLogs c target duty0 inrByte).reads (·.chDuty c.object) rfl

/-- A command that asks for another state changes a running channel, or switches it on (R154, R156, R285). -/
def State.onServed (s : State) (c : Cmd) (target duty : Nat) (inr : Bool) (vd : Nat) : State :=
  if s.isOn c.object then
    if target = 2 && decide (duty ≤ s.chDuty c.object) then s.chChange (chIx c.object) target duty (some c)
    else s.submit (s.cmdDemand c (chKind target duty false true) (s.chStand (chIx c.object) (duty - s.chDuty c.object)) [] 0)
  else
    let s := s.noteVd c.object vd
    s.submit (s.cmdDemand c (chKind target duty inr false) (s.chStand (chIx c.object) duty)
      (if inr then s.chTrans (chIx c.object) else []) (if inr then s.chTil (chIx c.object) else 0))

theorem State.onServed_starts {duty : Nat} {inr : Bool} {z : State} (hoff : s.isOn c.object = false) (hz : z = s.noteVd c.object vd) :
    s.onServed c target duty inr vd = z.submit (z.cmdDemand c (chKind target duty inr false) (z.chStand (chIx c.object) duty)
      (if inr then z.chTrans (chIx c.object) else []) (if inr then z.chTil (chIx c.object) else 0)) := by
  subst hz
  exact if_neg (Bool.eq_false_iff.1 hoff)

theorem State.onServed_rises {duty : Nat} {inr : Bool} (hon : s.isOn c.object = true) (hrise : target = 2 → s.chDuty c.object < duty) :
    s.onServed c target duty inr vd =
      s.submit (s.cmdDemand c (chKind target duty false true) (s.chStand (chIx c.object) (duty - s.chDuty c.object)) [] 0) :=
  (if_pos hon).trans (if_neg (by simpa using hrise))

theorem State.onServed_falls {duty : Nat} {inr : Bool} (hon : s.isOn c.object = true) (hfall : duty ≤ s.chDuty c.object) :
    s.onServed c 2 duty inr vd = s.chChange (chIx c.object) 2 duty (some c) :=
  (if_pos hon).trans (if_pos (and_holds rfl (decide_eq_true hfall)))

section Passes
variable (hpar : s.chMemberBar c.object = none) (hlimp : s.limpBar c.object = none) (hbar : s.onBar c.object = none)
include hpar hlimp hbar

theorem State.chOnCmd_same (hsame : s.HasTarget c target duty0) :
    s.chOnCmd c target duty0 inrByte vd = ((s.onClamped c target duty0 inrByte).commanded c.object).complete c .done := by
  unfold State.chOnCmd
  exact State.orElse_skip hpar (State.orElse_skip hlimp (State.orElse_last hbar (if_pos (State.hasTarget_iff.1 hsame))))

/-- The clamps of a command leave its other conditions as they were. -/
theorem State.chOnCmd_other (hother : ¬ s.HasTarget c target duty0) (hov : s.ovBar c.object = none)
    (hloop : target = 2 → s.loopBar c.object = none) :
    s.chOnCmd c target duty0 inrByte vd = (s.onClamped c target duty0 inrByte).onServed c target (s.onDuty c target duty0)
      (isKind .hs c.object && c.argBits inrByte 0 1 == 1) vd := by
  have hx := s.onClamped_sameButLogs c target duty0 inrByte
  have hov' : (s.onClamped c target duty0 inrByte).ovBar c.object = none := (hx.reads (·.ovBar c.object) rfl).trans hov
  have hloop' : (if target = 2 then (s.onClamped c target duty0 inrByte).loopBar c.object else none) = none := by
    split
    · next h => exact (hx.reads (·.loopBar c.object) rfl).trans (hloop h)
    · rfl
  unfold State.chOnCmd
  exact State.orElse_skip hpar (State.orElse_skip hlimp (State.orElse_last hbar ((if_neg (mt State.hasTarget_iff.2 hother)).trans
    (State.orElse_skip hov' (State.orElse_last hloop' rfl)))))

end Passes

end SwitchOn

/-! ### DIAG_CHECK (R240, R267) -/

section Checks
variable {s : State} {c : Cmd}

theorem State.checkCmd_waits (h : (s.commanded c.object).latched c.object = false) :
    s.checkCmd c = (s.commanded c.object).modObj c.object fun z => { z with checks := z.checks ++ [(c, (s.commanded c.object).now)] } := by
  simp [State.checkCmd, h]

theorem State.checkCmd_latched {v : Nat} (h : (s.commanded c.object).latched c.object = true)
    (hv : latchVerdict (kindOf c.object) ((s.commanded c.object).causeOf c.object) = some v) :
    s.checkCmd c = (s.commanded c.object).complete c .faulted (verdictSub c.object v ((s.commanded c.object).causeOf c.object)) := by
  simp [State.checkCmd, h, hv]

end Checks

/-- Settles O1: each command in the state in which it meets its block, by the conditions that it passes and the branch that it then takes. -/
theorem channelCommandsComplete : Obligations.ChannelCommandsComplete := by
  intro s dt c vd b o i w d x y
  refine ⟨fun h hpar hlimp hov => ?_, fun h hpar hlimp hbar => ⟨fun hon ht => ?_, fun hov hoff inr z hinr hz => ?_, fun hov hon ht => ?_⟩,
    fun h hpar hlimp hbar => ⟨fun hon ht hd => ?_, fun hov hloop hoff inr z hinr hz => ?_, fun hov hloop hon ht => ⟨fun hfall => ?_, fun hrise => ?_⟩⟩,
    fun h hpar hlimp => ⟨fun hl => ?_, fun hl hgone hov => ?_, fun hl hgone => ?_⟩, fun h hpar hsize => ?_, fun h hpar => ?_,
    fun h hpar hlimp => ⟨fun hl => ?_, fun v hl hv => ?_⟩⟩
  · have hfree : (if b.st o = 0 ∨ b.latched o = true then none else b.ovBar o) = none := by
      split
      · rfl
      · next hn => exact (or_assoc.2 hov).resolve_left hn
    exact (exec_outOff ..).trans (next_starts h (State.orElse_skip hpar (State.orElse_skip hlimp (State.orElse_last hfree rfl))))
  · exact (exec_outOn ..).trans (next_starts h (State.chOnCmd_same hpar hlimp hbar ⟨hon, ht, .inl rfl⟩))
  · subst hinr
    refine (exec_outOn ..).trans (next_starts h
      ((State.chOnCmd_other hpar hlimp hbar (State.not_hasTarget_of_off hoff) hov (absurd · (by decide))).trans ?_))
    exact State.onServed_starts (State.onClamped_isOn.trans hoff) hz
  · refine (exec_outOn ..).trans (next_starts h
      ((State.chOnCmd_other hpar hlimp hbar (fun hsame => ht hsame.2.1) hov (absurd · (by decide))).trans ?_))
    exact State.onServed_rises (State.onClamped_isOn.trans hon) (absurd · (by decide))
  · exact (exec_outPwm ..).trans (next_starts h (State.chOnCmd_same hpar hlimp hbar ⟨hon, ht, .inr hd⟩))
  · subst hinr
    refine (exec_outPwm ..).trans (next_starts h ((State.chOnCmd_other hpar hlimp hbar (State.not_hasTarget_of_off hoff) hov fun _ => hloop).trans ?_))
    exact State.onServed_starts (State.onClamped_isOn.trans hoff) hz
  · refine (exec_outPwm ..).trans (next_starts h ((State.chOnCmd_other hpar hlimp hbar (State.not_hasTarget_of_pwm ht) hov fun _ => hloop).trans ?_))
    exact State.onServed_falls (State.onClamped_isOn.trans hon) (Nat.le_trans hfall (Nat.le_of_eq State.onClamped_chDuty.symm))
  · have hduty : y.chDuty o = b.chDuty o := State.onClamped_chDuty (target := 2) (duty0 := c.arg 16 2) (inrByte := 18)
    rw [← hduty] at hrise ⊢
    refine (exec_outPwm ..).trans (next_starts h ((State.chOnCmd_other hpar hlimp hbar (State.not_hasTarget_of_pwm ht) hov fun _ => hloop).trans ?_))
    exact State.onServed_rises (State.onClamped_isOn.trans hon) fun _ => hrise
  · exact (exec_clearFault ..).trans (next_starts h (State.orElse_skip hpar (State.orElse_last hlimp (if_pos (bnot_holds hl)))))
  · exact (exec_clearFault ..).trans (next_starts h (State.orElse_skip hpar (State.orElse_last hlimp
      ((if_neg (bnot_fails hl)).trans ((if_neg (bnot_fails hgone)).trans (State.orElse_last hov rfl))))))
  · exact (exec_clearFault ..).trans (next_starts h (State.orElse_skip hpar (State.orElse_last hlimp
      ((if_neg (bnot_fails hl)).trans (if_pos (bnot_holds hgone))))))
  · exact (exec_chConfig ..).trans (next_starts h (State.orElse_skip hpar (State.orElse_last hsize rfl)))
  · exact (exec_learnReset ..).trans (next_starts h (State.orElse_last hpar rfl))
  · exact (exec_diagCheck ..).trans (next_starts h (State.orElse_skip hpar (State.orElse_last hlimp (State.checkCmd_waits hl))))
  · exact (exec_diagCheck ..).trans (next_starts h (State.orElse_skip hpar (State.orElse_last hlimp (State.checkCmd_latched hl hv))))

end Sys2Proof.Machine

/-!
The trips and outcomes of the HS and LS channels (R153, R154, R156, R165 to R173, R184 to R186).
-/
namespace Sys2Proof.Machine

/-- Settles O2: each event by the branch that its conditions choose. -/
theorem channelTripsAndOutcomes : Obligations.ChannelTripsAndOutcomes := by
  intro s dt o e v m u t i
  refine ⟨fun hch hst ht hv => ?_, fun hch hst hdwell => ?_, fun hch hlim hshort hheld => ?_, fun hch hfills => ?_, fun hch hfills => ?_,
    fun hhs hsup hst hrev hma hheld => ?_, fun hhs hsup hv => ?_, fun hch hon htj => ?_, fun z k => rfl, fun hch hon hdt => ?_,
    fun hch hi hst hasked hcool => ?_⟩
  · have hreached := and_holds (and_holds (and_holds hch (beq_iff_eq.2 hst)) (beq_iff_eq.2 ht)) hv
    exact ⟨fun hnext => (exec_chOutcomeReached ..).trans (next_done ((if_pos hreached).trans
        (if_neg (Bool.eq_false_iff.1 (Option.isNone_eq_false_iff.2 hnext))))),
      fun hnext => (exec_chOutcomeReached ..).trans (next_done ((if_pos hreached).trans (if_pos (Option.isNone_iff_eq_none.2 hnext))))⟩
  · exact (exec_overcurrentTrip ..).trans (next_done (if_pos (and_holds (and_holds hch (beq_iff_eq.2 hst)) (decide_eq_true hdwell))))
  · exact (exec_shortTrip ..).trans (next_done (if_pos (and_holds (and_holds (and_holds hch hlim) hshort) (decide_eq_true hheld))))
  · exact (exec_clampEventEnd ..).trans (next_done ((if_pos hch).trans (if_neg (Bool.eq_false_iff.1 hfills))))
  · exact (exec_clampEventEnd ..).trans (next_done ((if_pos hch).trans (if_pos hfills)))
  · exact (exec_reverseCurrent ..).trans (next_done (if_pos (and_holds (and_holds (and_holds (and_holds (and_holds hhs hsup) (or_beq_iff.2 hst))
      (bnot_holds hrev)) (decide_eq_true hma)) (decide_eq_true hheld))))
  · exact (exec_reverseReclose ..).trans (next_done (if_pos (and_holds (and_holds hhs hsup) (decide_eq_true hv))))
  · exact (exec_thermalTrip ..).trans (next_done (if_pos (and_holds (and_holds hch hon) (decide_eq_true htj))))
  · exact (exec_deltaTTrip ..).trans (next_done (if_pos (and_holds (and_holds hch hon) (decide_eq_true hdt))))
  · exact (exec_thermalRestart ..).trans (next_done (if_pos (and_holds (and_holds (and_holds (and_holds hch (beq_iff_eq.2 hi)) (beq_iff_eq.2 hst))
      (bnot_holds hasked)) hcool)))

end Sys2Proof.Machine

/-!
Inrush and the sag of a supply group (R182, R189 to R197).
-/
namespace Sys2Proof.Machine

/-- Settles O3: each event by the branch that its conditions choose. -/
theorem inrushAndSag : Obligations.InrushAndSag := by
  intro s dt o lim g v m u t i
  refine ⟨fun hhs hch hst hsag hdwell => ?_, fun hhs hch hst hov hoff => ?_, fun hhs hch hst hma hheld => ⟨_, rfl, ?_⟩, fun hhs hch hst htime => ?_,
    fun hlo hhi hclear hlow => ?_, fun hlo hhi hback => ?_⟩
  · have hover := and_holds (and_holds (and_holds (and_holds hhs hch) (beq_iff_eq.2 hst)) (bnot_holds hsag)) (decide_eq_true hdwell)
    exact ⟨fun hleft => (exec_inrushDwellExpiry ..).trans (next_done ((if_pos hover).trans (if_pos hleft))),
      fun hnone => (exec_inrushDwellExpiry ..).trans (next_done ((if_pos hover).trans (if_neg (Nat.not_lt.2 hnone))))⟩
  · exact (exec_inrushOffEnd ..).trans (next_done (if_pos (and_holds (and_holds (and_holds (and_holds hhs hch) (beq_iff_eq.2 hst)) (bnot_holds hov))
      (decide_eq_true hoff))))
  · exact (exec_inrushEnd ..).trans (next_done (if_pos (and_holds (and_holds (and_holds (and_holds hhs hch) (beq_iff_eq.2 hst)) (decide_eq_true hma))
      (decide_eq_true hheld))))
  · exact (exec_inrushTimeout ..).trans (next_done (if_pos (and_holds (and_holds (and_holds hhs hch) (or_beq_iff.2 hst)) (decide_eq_true htime))))
  · exact (exec_sagSet ..).trans (next_done (if_pos ⟨hlo, hhi, hclear, hlow⟩))
  · exact (exec_sagClear ..).trans (next_done (if_pos ⟨hlo, hhi, hback⟩))

end Sys2Proof.Machine

/-!
PWM period starts of the channels and the bridges (R162 to R164, R438, R442, R445, R447, R448).
-/
namespace Sys2Proof.Machine

section Periods
variable {s x y v : State} {dt o n vd q : Nat} {lim : Bool}

/-! ### A channel -/

theorem exec_pwmPeriodStart_channel (hk : kindOf o ≠ .hb) (hch : (s.tick dt).isCh o = true) (hlead : (s.tick dt).chLead o = o)
    (hst : (s.tick dt).st o = 1) (hdue : (s.tick dt).chPeriodDue (chIx o) = true) :
    exec (.pwmPeriodStart dt { n := o, v := vd } lim) s = .next (((s.tick dt).noteVd o vd).chPeriod o).done := by
  refine (exec_pwmPeriodStart ..).trans (next_done ?_)
  split
  · next h => exact absurd h hk
  · exact if_pos (and_holds (and_holds (and_holds hch (beq_iff_eq.2 hlead)) (beq_iff_eq.2 hst)) hdue)

/-- The set duty acts, and the commands that wait for the period complete (R162, R163). -/
theorem State.chPeriod_pwm (htarget : (s.obj o).target = 2)
    (hy : y = if s.setDuty o = 0 then s else (s.chMembers (chIx o)).foldl (fun s m => s.noteGate (chObj m)) s)
    (hv : v = y.modObj o fun z => { z with
      duty := s.setDuty o, next := none, period := z.period + 1, perAt := y.now
      lastOff := if s.setDuty o = 0 ∧ z.duty ≠ 0 then min y.now ((s.obj o).perAt + 10 * s.chOnTime (chIx o)) else z.lastOff }) :
    s.chPeriod o = (v.cmdDone o).chgDone o := by
  subst hv hy
  exact if_pos (beq_iff_eq.2 htarget)

/-! ### A bridge -/

theorem exec_pwmPeriodStart_bridge (hk : kindOf o = .hb) (hlive : (s.tick dt).hbLive (objNum o) = true)
    (hdue : (s.tick dt).hbPeriodDue (objNum o) = true) :
    exec (.pwmPeriodStart dt { n := o, v := vd } lim) s = .next
      (if (s.tick dt).st o == 1 || (s.tick dt).st o == 2 then (s.tick dt).hbPeriod (objNum o) lim
      else if (s.tick dt).st o == 3 then (s.tick dt).hbBrakePeriod (objNum o) lim else s.tick dt).done := by
  refine (exec_pwmPeriodStart ..).trans (next_done ?_)
  split
  · exact if_neg (bnot_fails (and_holds hlive hdue))
  · next h => exact absurd hk h

/-- Without a ramp the set duty acts (R448). -/
theorem State.hbPeriod_steady (ho : hbObj n = o) (hramp : (s.bridge n).rampEnd = none) (hx : x = s.wrb Reg.HB_STAT_INLIMIT n lim) (hq : q = s.setDuty o)
    (hv : v = (x.wr Reg.HB_OUT_DEFF n (x.hbMinDuty n q)).modObj (hbObj n) fun z => { z with duty := s.setDuty o, next := none }) :
    s.hbPeriod n lim = ((v.modObj o fun z => { z with perAt := v.now }).cmdDone o).chgDone o := by
  subst hv hq hx ho
  unfold State.hbPeriod
  simp only [hramp]
  rfl

/-- The effective duty of a ramp grows with the time since its start (R442). -/
theorem State.hbPeriod_ramps {t full : Nat} (ho : hbObj n = o) (hramp : (s.bridge n).rampEnd = some t) (hx : x = s.wrb Reg.HB_STAT_INLIMIT n lim)
    (hfull : full = x.rd Reg.HB_CFG1_TRAMP n * 10000000)
    (hq : q = if t ≤ x.now then s.setDuty o else s.setDuty o * (full - (t - x.now)) / max 1 full)
    (hv : v = x.wr Reg.HB_OUT_DEFF n (x.hbMinDuty n q)) :
    s.hbPeriod n lim = ((v.modObj o fun z => { z with perAt := v.now }).cmdDone o).chgDone o := by
  subst hv hq hfull hx ho
  unfold State.hbPeriod
  simp only [hramp]
  rfl

end Periods

/-- Settles O16: each period start by the kind and the state of its group, a bridge's by whether it ramps. -/
theorem periodStarts : Obligations.PeriodStarts := by
  intro s dt o vd lim u x
  refine ⟨fun hk hch hlead hst hdue ht y v hy hv => ?_, fun hk hlive hdue hst q x v hx => ⟨fun hramp hq hv ho => ?_,
    fun t full hramp hfull hq hv ho => ?_⟩, fun hk hlive hdue hst => ?_⟩
  · exact (exec_pwmPeriodStart_channel hk hch hlead hst hdue).trans (next_done (State.chPeriod_pwm ht hy hv))
  · exact (exec_pwmPeriodStart_bridge hk hlive hdue).trans (next_done ((if_pos (or_beq_iff.2 hst)).trans (State.hbPeriod_steady ho hramp hx hq hv)))
  · exact (exec_pwmPeriodStart_bridge hk hlive hdue).trans (next_done ((if_pos (or_beq_iff.2 hst)).trans (State.hbPeriod_ramps ho hramp hx hfull hq hv)))
  · have hbrakes : ¬ (u.st o = 1 ∨ u.st o = 2) := by omega
    exact (exec_pwmPeriodStart_bridge hk hlive hdue).trans (next_done ((if_neg (mt or_beq_iff.1 hbrakes)).trans (if_pos (beq_iff_eq.2 hst))))

end Sys2Proof.Machine

/-!
The isolated outputs and their field supply (R523 to R527).
-/
namespace Sys2Proof.Machine

/-- A supply that has returned restarts the first output that waits for it (R524). -/
theorem exec_vfldRestart_turn {s x w : State} {dt v : Nat} (hdie : (s.tick dt).dieC = true) (hv : 1700 < v)
    (hx : x = { (s.tick dt).wr Reg.BAR_VFLD_VFLD 0 v with inp := { (s.tick dt).inp with turnAt := (s.tick dt).now } })
    (hturn : (s.tick dt).flag Reg.BAR_VFLD_VFLDUV = true ∧ w = (x.wr Reg.BAR_VFLD_VFLDUV 0 0).vfldEvent false
      ∨ (s.tick dt).flag Reg.BAR_VFLD_VFLDUV = false ∧ (s.tick dt).inp.turnAt + 1000000 ≤ (s.tick dt).now ∧ w = x) :
    exec (.vfldRestart dt v) s = .next (match (List.range 8).find? fun n => w.st (ioObj n) == 3 with | some n => w.ioRestart n | none => w).done := by
  have hdue : ((s.tick dt).flag Reg.BAR_VFLD_VFLDUV || decide ((s.tick dt).inp.turnAt + 1000000 ≤ (s.tick dt).now)) = true :=
    Bool.or_eq_true_iff.2 (hturn.imp And.left fun h => decide_eq_true h.2.1)
  have hw : (if (s.tick dt).flag Reg.BAR_VFLD_VFLDUV then (x.wr Reg.BAR_VFLD_VFLDUV 0 0).vfldEvent false else x) = w := by
    rcases hturn with ⟨hfirst, rfl⟩ | ⟨hlater, -, rfl⟩
    · exact if_pos hfirst
    · exact if_neg (Bool.eq_false_iff.1 hlater)
  subst hw hx
  exact (exec_vfldRestart ..).trans (next_done (if_neg (bnot_fails (and_holds (and_holds hdie (decide_eq_true hv)) hdue))))

/-- Settles O19: each command in the state in which it meets its block, each event by the branch that its conditions choose. -/
theorem isolatedOutputRows : Obligations.IsolatedOutputRows := by
  intro s dt c n v m b o i u
  refine ⟨fun h hbar hoff hup hvfld w hw => ?_, fun h hbar hon => ?_, fun h => ?_, fun h => ⟨fun hl => ?_, fun hl => ?_⟩, fun h hl => ?_, fun h => ?_,
    fun hn hdie hst hi hheld => ?_, fun hn hdie hst htj => ?_, fun hn hdie hst htj => ?_, fun hdie hv huv => ?_,
    fun x w hdie hv hx hturn => exec_vfldRestart_turn hdie hv hx hturn⟩
  · subst hw
    have hbarrier : barIf (!b.flag Reg.BAR_STAT_UP) .refusedState 0x1208 = none := if_neg (bnot_fails hup)
    have hsupply : barIf (decide (b.rd Reg.BAR_VFLD_VFLD < 1600)) .refusedState 0x1209 = none := if_neg (by simpa using hvfld)
    exact (exec_ioOutOn ..).trans (next_starts h (State.orElse_last hbar ((if_neg hoff).trans (State.orElse_skip hbarrier (State.orElse_last hsupply rfl)))))
  · exact (exec_ioOutOn ..).trans (next_starts h (State.orElse_last hbar (if_pos hon)))
  · exact (exec_ioOutOff ..).trans (next_starts h rfl)
  · exact (exec_ioClearFault ..).trans (next_starts h (if_neg (bnot_fails hl)))
  · exact (exec_ioClearFault ..).trans (next_starts h (if_pos (bnot_holds hl)))
  · exact (exec_ioDiagCheck ..).trans (next_starts h (State.checkCmd_waits hl))
  · exact (exec_ioConfig ..).trans (next_starts h rfl)
  · exact (exec_ioOvercurrent ..).trans (next_done (if_pos (and_holds (and_holds (and_holds (and_holds (decide_eq_true hn) hdie) (beq_iff_eq.2 hst))
      (decide_eq_true hi)) (decide_eq_true hheld))))
  · exact (exec_ioThermalTrip ..).trans (next_done (if_pos (and_holds (and_holds (and_holds (decide_eq_true hn) hdie) (beq_iff_eq.2 hst))
      (decide_eq_true htj))))
  · exact (exec_ioThermalRestart ..).trans (next_done (if_pos (and_holds (and_holds (and_holds (decide_eq_true hn) hdie) (beq_iff_eq.2 hst))
      (decide_eq_true htj))))
  · exact (exec_vfldUv ..).trans (next_done (if_neg (bnot_fails (and_holds (and_holds hdie (decide_eq_true hv)) (bnot_holds huv)))))

end Sys2Proof.Machine

/-!
Load diagnostics: on-state samples, the off-state test, staleness and segments (R224 to R246, R421, R453, R527).
-/
namespace Sys2Proof.Machine

section Samples
variable {s v : State} {dt o a k : Nat}

/-! ### On-state samples -/

/-- The judgement of a sample that a channel has taken (R228 to R230). -/
def State.chJudge (s : State) (o a : Nat) : State :=
  let i := chIx o
  let nf := s.rd Reg.DG_DCFG0_NFILT i + 1
  if s.rd Reg.DG_DSTAT_VERDICT i = 4 ∧ s.iwarn i ≠ 0 then
    if s.iwarn i ≤ a then s.judged o 4
    else if s.iol i ≤ a then s.presentNow o
    else
      let s := s.modObj o fun x => { x with absent := 0 }
      if nf = 1 then s.absentNow o 1 else (s.modObj o fun x => { x with absent := 1 }).setVerdict o 0
  else if s.iol i ≤ a then s.presentNow o
  else s.absentNow o nf

theorem exec_diagOnSample_channel (hk : kindOf o = .hs ∨ kindOf o = .ls) (hadc : (s.tick dt).adcLost o = false) :
    exec (.diagOnSample dt o a) s = .next ((s.tick dt).chSample o a).done := by
  refine (exec_diagOnSample ..).trans (next_done ((if_neg (Bool.eq_false_iff.1 hadc)).trans ?_))
  obtain hk | hk := hk <;> rw [hk]

theorem exec_diagOnSample_valve (hk : kindOf o = .sv) (hadc : (s.tick dt).adcLost o = false) :
    exec (.diagOnSample dt o a) s = .next ((s.tick dt).svSample o a).done :=
  (exec_diagOnSample ..).trans (next_done ((if_neg (Bool.eq_false_iff.1 hadc)).trans (by rw [hk])))

theorem exec_diagOnSample_bridge (hk : kindOf o = .hb) (hadc : (s.tick dt).adcLost o = false) :
    exec (.diagOnSample dt o a) s = .next ((s.tick dt).hbSample o a).done :=
  (exec_diagOnSample ..).trans (next_done ((if_neg (Bool.eq_false_iff.1 hadc)).trans (by rw [hk])))

theorem exec_diagOnSample_isolated (hk : kindOf o = .io) (hadc : (s.tick dt).adcLost o = false) :
    exec (.diagOnSample dt o a) s = .next ((s.tick dt).ioSample o a).done :=
  (exec_diagOnSample ..).trans (next_done ((if_neg (Bool.eq_false_iff.1 hadc)).trans (by rw [hk])))

/-- A due sample of a channel that has been on for 1 ms is shown with its method and judged (R226). -/
theorem State.chSample_due (hch : s.isCh o = true) (hst : s.st o = 1) (hon : (s.obj o).onAt + 1000000 ≤ s.now) (hm : s.onMethod (chIx o) = some k)
    (hdue : s.sampleDue (chIx o) k = true)
    (hv : v = ((s.wr Reg.DG_DSTAT_ILOW (chIx o) (min 0xFFFF a)).wr Reg.DG_DSTAT_METHOD (chIx o) k).took o) : s.chSample o a = v.chJudge o a := by
  subst hv
  refine (if_neg (bnot_fails (and_holds (and_holds hch (beq_iff_eq.2 hst)) (decide_eq_true hon)))).trans ?_
  rw [hm]
  exact if_neg (bnot_fails hdue)

theorem State.chJudge_present (hfree : s.rd Reg.DG_DSTAT_VERDICT (chIx o) ≠ 4 ∨ s.iwarn (chIx o) = 0) (ha : s.iol (chIx o) ≤ a) :
    s.chJudge o a = s.presentNow o :=
  (if_neg fun h => hfree.elim (absurd h.1) h.2).trans (if_pos ha)

theorem State.chJudge_absent (hfree : s.rd Reg.DG_DSTAT_VERDICT (chIx o) ≠ 4 ∨ s.iwarn (chIx o) = 0) (ha : a < s.iol (chIx o)) :
    s.chJudge o a = s.absentNow o (s.rd Reg.DG_DCFG0_NFILT (chIx o) + 1) :=
  (if_neg fun h => hfree.elim (absurd h.1) h.2).trans (if_neg (Nat.not_le.2 ha))

/-- In OVERLOAD a current at the warning keeps the verdict (R229). -/
theorem State.chJudge_overload (hover : s.rd Reg.DG_DSTAT_VERDICT (chIx o) = 4) (hwarn : s.iwarn (chIx o) ≠ 0) (ha : s.iwarn (chIx o) ≤ a) :
    s.chJudge o a = s.judged o 4 :=
  (if_pos ⟨hover, hwarn⟩).trans (if_pos ha)

/-- In OVERLOAD a current between the thresholds is a load present (R229). -/
theorem State.chJudge_recovers (hover : s.rd Reg.DG_DSTAT_VERDICT (chIx o) = 4) (hwarn : s.iwarn (chIx o) ≠ 0) (hlow : a < s.iwarn (chIx o))
    (ha : s.iol (chIx o) ≤ a) : s.chJudge o a = s.presentNow o :=
  (if_pos ⟨hover, hwarn⟩).trans ((if_neg (Nat.not_le.2 hlow)).trans (if_pos ha))

/-- A hold sample within 20 % of the hold level finds the load present (R421). -/
theorem State.svSample_present (hup : s.supplied o = true) (hst : s.st o = 3) (hdue : s.apart o 1000000 = true)
    (hlo : 16 * s.svHoldMa (objNum o) ≤ 10 * a) (hhi : 10 * a ≤ 24 * s.svHoldMa (objNum o)) :
    s.svSample o a = ((s.wr Reg.SV_MEAS_IMEAS (objNum o) (a / 2)).took o).presentNow o :=
  (if_neg (bnot_fails (and_holds (and_holds hup (beq_iff_eq.2 hst)) hdue))).trans (if_pos ⟨by omega, by omega⟩)

/-- A running bridge that draws 200 units has its load present (R453). -/
theorem State.hbSample_present (hup : s.supplied o = true) (hlead : s.hbLeader (objNum o) = objNum o) (hst : s.st o = 2)
    (hduty : 16384 ≤ s.rd Reg.HB_OUT_DEFF (objNum o)) (hdue : s.apart o 10000000 = true) (ha : 200 ≤ a) :
    s.hbSample o a = (s.took o).presentNow o :=
  (if_neg (bnot_fails (and_holds (and_holds (and_holds (and_holds hup (beq_iff_eq.2 hlead)) (beq_iff_eq.2 hst)) (decide_eq_true hduty)) hdue))).trans
    (if_pos ha)

/-- A due sample of an isolated output is shown and judged (R527). -/
theorem State.ioSample_due (hdie : s.dieC = true) (hst : s.st o = 1) (hdue : s.apart o 1000000 = true)
    (hv : v = (s.wr Reg.IO_STAT_IOUT (objNum o) (min 0xFFFF (a / 2))).took o) :
    s.ioSample o a = if 2 * v.rd Reg.IO_CFG_IOL (objNum o) ≤ a then v.presentNow o else v.absentNow o 2 := by
  subst hv
  exact if_neg (bnot_fails (and_holds (and_holds hdie (beq_iff_eq.2 hst)) hdue))

end Samples

/-! ### The off-state test (R231 to R234) -/

section OffState
variable {s v : State} {dt o v0 v1 : Nat}

/-- The judgement of an off-state test: `v0` the output with no test current, `v1` with it (R232 to R234). -/
def State.offJudge (s : State) (o v0 v1 : Nat) : State :=
  let vol := 100 + 50 * s.rd Reg.DG_DCFG0_VOL_OFF (chIx o)
  if isKind .hs o && decide (s.supply o < 2 * v0) then (s.modObj o fun x => { x with absent := 0 }).judged o 3
  else if (if isKind .hs o then vol ≤ v1 else v1 ≤ vol) then s.absentNow o (s.rd Reg.DG_DCFG0_NFILT (chIx o) + 1)
  else s.presentNow o

/-- A test that may run shows METHOD 3 and is judged (R231). -/
theorem exec_offStateTest_runs (hch : (s.tick dt).isCh o = true) (hok : (s.tick dt).offTestOk o = true) (hadc : (s.tick dt).adcLost o = false)
    (hv : v = ((s.tick dt).wr Reg.DG_DSTAT_METHOD (chIx o) 3).modObj o fun x =>
      { x with tookAt := some (s.tick dt).now, testAt := some (s.tick dt).now }) :
    exec (.offStateTest dt o v0 { v := v1, clamp := false }) s = .next (v.offJudge o v0 v1).done := by
  subst hv
  exact (exec_offStateTest ..).trans (next_done (if_neg (or_fails (Bool.or_eq_false_iff.2 ⟨congrArg not (and_holds hch hok), hadc⟩) rfl)))

theorem State.offJudge_short (hhs : isKind .hs o = true) (hshort : s.supply o < 2 * v0) :
    s.offJudge o v0 v1 = (s.modObj o fun x => { x with absent := 0 }).judged o 3 :=
  if_pos (and_holds hhs (decide_eq_true hshort))

/-- An HS output that the test current lifts to VOL_OFF has no load (R232). -/
theorem State.offJudge_high (hhs : isKind .hs o = true) (hlow : 2 * v0 ≤ s.supply o) :
    s.offJudge o v0 v1 = if 100 + 50 * s.rd Reg.DG_DCFG0_VOL_OFF (chIx o) ≤ v1 then s.absentNow o (s.rd Reg.DG_DCFG0_NFILT (chIx o) + 1)
      else s.presentNow o := by
  simp [State.offJudge, hhs, Nat.not_lt.2 hlow]

/-- An LS drain that the test current pulls down to VOL_OFF has no load (R233). -/
theorem State.offJudge_low (hls : isKind .hs o = false) :
    s.offJudge o v0 v1 = if v1 ≤ 100 + 50 * s.rd Reg.DG_DCFG0_VOL_OFF (chIx o) then s.absentNow o (s.rd Reg.DG_DCFG0_NFILT (chIx o) + 1)
      else s.presentNow o := by
  simp [State.offJudge, hls]

end OffState

/-! ### Staleness and segments (R224, R240, R242 to R246) -/

section Verdicts
variable {s : State} {dt o : Nat}

theorem exec_verdictStale_stale (hf : (verdField (kindOf o)).isSome = true) (hmx : isKind .mx o = false) (hstale : (s.tick dt).isStale o = true)
    (hheld : (s.tick dt).verdictHeld o = false) : exec (.verdictStale dt o) s = .next ((s.tick dt).setVerdict o 0).done := by
  obtain ⟨f, hf⟩ := Option.isSome_iff_exists.1 hf
  refine (exec_verdictStale ..).trans (next_done ?_)
  rw [hf]
  exact (if_neg (Bool.eq_false_iff.1 hmx)).trans (if_pos (and_holds hstale (bnot_holds hheld)))

/-- A single check that has waited DFRESH completes UNVERIFIED (R240). -/
theorem exec_diagCheckTimeout_single {c : Cmd} {t : Ns} (hc : ((s.tick dt).obj o).checks = [(c, t)])
    (ht : t + (s.tick dt).dfresh o ≤ (s.tick dt).now) :
    exec (.diagCheckTimeout dt o) s = .next (((s.tick dt).modObj o fun x =>
      { x with checks := x.checks.filter fun p => !decide (p.2 + (s.tick dt).dfresh o ≤ (s.tick dt).now) }).complete c .unverified 0).done := by
  have hold : ((s.tick dt).obj o).checks.filter (fun p => decide (p.2 + (s.tick dt).dfresh o ≤ (s.tick dt).now)) = [(c, t)] := by
    rw [hc]
    exact List.filter_cons_of_pos (decide_eq_true ht)
  refine (exec_diagCheckTimeout ..).trans (next_done ?_)
  rw [hold]
  rfl

/-- A measurement that is due at a steady current stores the drift of each and retires those with 16 drifts in a row (R242, R243). -/
theorem exec_segmentMeasure_due {v : State} {ds : SegSeen} {segs : List (Nat × Nat)} (hch : (s.tick dt).isCh o = true)
    (hst : (s.tick dt).st o = 1 ∨ (s.tick dt).st o = 2)
    (hlast : ((s.tick dt).obj o).segAt = none ∨ ∃ t, ((s.tick dt).obj o).segAt = some t ∧ t + 10000000000 ≤ (s.tick dt).now)
    (hflow : ((s.tick dt).chNominal (chIx o) : Int) ≤ 4 * ds.meas.ma)
    (hheld : 1000000 ≤ min ds.meas.held ((s.tick dt).now - ((s.tick dt).obj o).onAt))
    (hsegs : segs = (((s.tick dt).measure o ds.meas).activeSegs o).zip ds.drifts)
    (hv : v = (((s.tick dt).measure o ds.meas).modObj o fun x => { x with
      segAt := some ((s.tick dt).measure o ds.meas).now
      drifts := segs.foldl (fun t p => tput t p.1 (if 25 ≤ p.2 then tget 0 t p.1 + 1 else 0)) x.drifts
      driftPct := segs.foldl (fun t p => tput t p.1 p.2) x.driftPct }).showDrift o) :
    exec (.segmentMeasure dt o ds) s =
      .next ((segs.filter fun p => decide (16 ≤ tget 0 (v.obj o).drifts p.1)).foldl (fun s p => s.retireSeg o p.1 1) v).done := by
  subst hv hsegs
  refine (exec_segmentMeasure ..).trans (next_done (if_neg (bnot_fails (and_holds (and_holds (and_holds hch (or_beq_iff.2 hst)) ?_)
    (and_holds (decide_eq_true hflow) (decide_eq_true hheld))))))
  obtain hlast | ⟨t, hlast, ht⟩ := hlast
  · rw [hlast]
  · rw [hlast]
    exact decide_eq_true ht

end Verdicts

/-- Settles O4: each sample by the kind that its object is of and then by its thresholds, each other row by the branch that its conditions choose. -/
theorem diagnosticsComplete : Obligations.DiagnosticsComplete := by
  intro s dt o a v0 v1 seg w ds u i m
  refine ⟨fun hk hadc hch hst hon k hm hdue v hv => ?_, fun hk hadc hup hst hdue hlo hhi => ?_, fun hk hadc hup hlead hst hduty hdue ha => ?_,
    fun hk hadc hdie hst hdue v hv => ?_, fun hch hadc hst hwarn hi hheld => ?_, fun hch hok hadc v hv => ?_,
    fun hf hmx hstale hheld => exec_verdictStale_stale hf hmx hstale hheld, fun c t hc ht => exec_diagCheckTimeout_single hc ht,
    fun hch hst hlast hflow hheld => ⟨_, _, rfl, rfl, exec_segmentMeasure_due hch hst hlast hflow hheld rfl rfl⟩, fun hch hseg => ?_⟩
  · have hrow := (exec_diagOnSample_channel hk hadc).trans (next_done (State.chSample_due hch hst hon hm hdue hv))
    exact ⟨fun hfree => ⟨fun ha => hrow.trans (next_done (State.chJudge_present hfree ha)),
        fun ha => hrow.trans (next_done (State.chJudge_absent hfree ha))⟩,
      fun hover hwarn => ⟨fun ha => hrow.trans (next_done (State.chJudge_overload hover hwarn ha)),
        fun hlow ha => hrow.trans (next_done (State.chJudge_recovers hover hwarn hlow ha))⟩⟩
  · exact (exec_diagOnSample_valve hk hadc).trans (next_done (State.svSample_present hup hst hdue hlo hhi))
  · exact (exec_diagOnSample_bridge hk hadc).trans (next_done (State.hbSample_present hup hlead hst hduty hdue ha))
  · have hrow := (exec_diagOnSample_isolated hk hadc).trans (next_done (State.ioSample_due hdie hst hdue hv))
    exact ⟨fun ha => hrow.trans (next_done (if_pos ha)), fun ha => hrow.trans (next_done (if_neg (Nat.not_le.2 ha)))⟩
  · exact (exec_overloadDetect ..).trans (next_done (if_pos (and_holds (and_holds (and_holds (and_holds (and_holds hch (bnot_holds hadc))
      (beq_iff_eq.2 hst)) (bne_iff_ne.2 hwarn)) (decide_eq_true hi)) (decide_eq_true hheld))))
  · have hrow := exec_offStateTest_runs (v0 := v0) (v1 := v1) hch hok hadc hv
    refine ⟨fun hhs => ⟨fun hshort => ?_, fun hlow hopen => ?_, fun hlow hload => ?_⟩, fun hls => ⟨fun hopen => ?_, fun hload => ?_⟩⟩
    · exact hrow.trans (next_done (State.offJudge_short hhs hshort))
    · exact hrow.trans (next_done ((State.offJudge_high hhs hlow).trans (if_pos hopen)))
    · exact hrow.trans (next_done ((State.offJudge_high hhs hlow).trans (if_neg (Nat.not_le.2 hload))))
    · exact hrow.trans (next_done ((State.offJudge_low hls).trans (if_pos hopen)))
    · exact hrow.trans (next_done ((State.offJudge_low hls).trans (if_neg (Nat.not_le.2 hload))))
  · exact (exec_segmentFault ..).trans (next_done (if_pos (and_holds hch hseg)))

end Sys2Proof.Machine

/-!
Wake sources, LIMP_N, the LH inputs, the heartbeat and hold windows (R249 to R275, R832, R835, R837).
-/
namespace Sys2Proof.Machine

/-- A lost heartbeat on the way into Stop acts as a wake (R832). -/
def State.lossWakes (s : State) : State :=
  match s.pwr.phase with
  | .entering _ => s.pw fun p => { p with wakeHit := true }
  | _ => s

section Heartbeat
variable {s v : State} {dt : Nat} {ready : Bool}

/-- A heartbeat during the reset notice, or sooner than 2 ms after it, is dropped (R249, R250). -/
theorem State.heartbeat_dropped (h : s.out.notice = true ∨ s.now < s.out.noticeAt + 2000000) : s.heartbeat ready = s := by
  refine if_pos ?_
  obtain h | h := h <;> simp [h]

/-- Any other is taken with its READY, and the holds that run end where READY is set (R265). -/
theorem State.heartbeat_taken (hnotice : s.out.notice = false) (hdie : s.dieCOut = true) (hat : s.out.noticeAt + 2000000 ≤ s.now)
    (hv : v = s.outs fun x => { x with hbAt := s.now, hbSeen := true, hbReady := ready && s.ready1 }) :
    s.heartbeat ready =
      (if !(ready && s.ready1) || v.holding.isEmpty then v else (v.holding.foldl State.holdRelease v).holdDone).limpNOut := by
  subst hv
  exact if_neg (or_fails (Bool.or_eq_false_iff.2 ⟨hnotice, congrArg not hdie⟩) (decide_eq_false (Nat.not_lt.2 hat)))

theorem State.lossWakes_run (h : s.pwr.phase = .run) : s.lossWakes = s := by
  rw [State.lossWakes, h]

theorem State.lossWakes_entering {k : Nat} (h : s.pwr.phase = .entering k) : s.lossWakes = s.pw fun p => { p with wakeHit := true } := by
  rw [State.lossWakes, h]

/-- Power dies that miss the heartbeat go into limp-home by cause 2 and show it (R251). -/
theorem exec_heartbeatLoss_late (hnotice : (s.tick dt).out.notice = false) (hact : (s.tick dt).diesAct = true)
    (hlate : maskOf (s.tick dt).hbLate 3 ≠ 0)
    (hv : v = ((s.tick dt).wr Reg.LIMP_STAT_HBLOSS 0 (Nat.lor ((s.tick dt).rd Reg.LIMP_STAT_HBLOSS) (maskOf (s.tick dt).hbLate 3))).limpEnter 2) :
    exec (.heartbeatLoss dt) s = .next v.lossWakes.done := by
  have hlost := or_fails (Bool.or_eq_false_iff.2 ⟨hnotice, congrArg not hact⟩) (beq_eq_false_iff_ne.2 hlate)
  refine (exec_heartbeatLoss ..).trans (next_done ((if_neg hlost).trans ?_))
  rw [← hv]
  rfl

end Heartbeat

/-- Settles O36: each event by the branch that its conditions choose, a heartbeat by its READY and the holds that run. -/
theorem wakeAndLimpRows : Obligations.WakeAndLimpRows := by
  intro s dt mask o r ready u
  refine ⟨fun hstop hset hout => ?_, fun hen => ?_, fun v hv => ⟨fun hwas hen => ?_, fun _ hoff => ?_⟩,
    fun v hv => ⟨fun hact hup => ?_, fun hno => ?_⟩, exec_limpNRelease .., fun v l hv => ⟨fun hact hlimp hl => ?_, fun hno => ?_⟩,
    fun hnotice hdie hat v hv => ⟨fun hno => ?_, fun hready hhold => ?_⟩, fun hdrop => ?_,
    fun hnotice hact hlate v hv => ⟨fun hrun => ?_, fun k hentering => ?_⟩, fun hr hin hend => ?_, fun hr hoff hact hacts hov => ?_⟩
  · exact (exec_stopTimerWake ..).trans (next_done (if_pos (and_holds (and_holds (beq_iff_eq.2 hstop) (bne_iff_ne.2 hset)) (decide_eq_true hout))))
  · exact (exec_tokenIrqWake ..).trans (next_done (if_pos hen))
  · subst hv
    exact (exec_pePerstRelease ..).trans (next_done (if_pos (and_holds hwas hen)))
  · subst hv
    exact (exec_pePerstRelease ..).trans (next_done (if_neg (and_fails (.inr hoff))))
  · subst hv
    exact (exec_limpNAssert ..).trans (next_done (congrArg (State.wakeBy · 4) (if_pos (and_holds hact (bne_iff_ne.2 hup)))))
  · subst hv
    exact (exec_limpNAssert ..).trans (next_done (congrArg (State.wakeBy · 4) (if_neg (and_fails (hno.imp_right bne_eq_false_iff_eq.2)))))
  · subst hv hl
    exact (exec_lhChange ..).trans (next_done (if_pos (and_holds hact hlimp)))
  · subst hv
    exact (exec_lhChange ..).trans (next_done (if_neg (and_fails hno)))
  · refine (exec_heartbeat ..).trans (next_done ((State.heartbeat_taken hnotice hdie hat hv).trans (congrArg State.limpNOut (if_pos ?_))))
    exact Bool.or_eq_true_iff.2 (hno.imp bnot_holds List.isEmpty_iff.2)
  · refine (exec_heartbeat ..).trans (next_done ((State.heartbeat_taken hnotice hdie hat hv).trans (congrArg State.limpNOut (if_neg ?_))))
    exact or_fails (congrArg not hready) (List.isEmpty_eq_false_iff.2 hhold)
  · exact (exec_heartbeat ..).trans (next_done (State.heartbeat_dropped hdrop))
  · exact (exec_heartbeatLoss_late hnotice hact hlate hv).trans (next_done (State.lossWakes_run hrun))
  · exact (exec_heartbeatLoss_late hnotice hact hlate hv).trans (next_done (State.lossWakes_entering hentering))
  · refine (exec_holdWindowExpiry ..).trans (next_done ?_)
    rw [hr]
    exact if_pos (and_holds hin (decide_eq_true hend))
  · refine (exec_pairedHeartbeatGap ..).trans (next_done ?_)
    rw [hr]
    exact if_neg (or_fails (Bool.or_eq_false_iff.2 ⟨Bool.or_eq_false_iff.2 ⟨congrArg not hoff, congrArg not hact⟩, congrArg not hacts⟩) hov)

end Sys2Proof.Machine

/-!
The rows of the arbiter, of the standing claims and of a power die without die C (R256, R286, R291 to R309, R944).
-/
namespace Sys2Proof.Machine

/-- Settles O5: each row in the state to which its time has passed, by what its search finds: the demand that is ready, late or
that fits, or the object to shed. -/
theorem arbiterServesInTime : Obligations.ArbiterServesInTime := by
  intro s dt vd o b g x u w
  refine ⟨fun d hdie hready => ?_, fun d c hlate hcmd k hk => ?_, fun full t k hdie hfull ht hfirst hlast => ?_,
    fun full hdie hfull hnone => ?_, fun hdie => ?_, fun d hdie hspaced hfits => ?_⟩
  · refine (exec_demandServed ..).trans (next_done ((if_neg (bnot_fails hdie)).trans ?_))
    rw [hready]
  · subst hk
    refine (exec_demandLatencyExpiry ..).trans (next_done ?_)
    rw [hlate]
    dsimp only
    rw [hcmd]
    rfl
  · subst hfull ht
    refine (exec_budgetShed ..).trans (next_done ((if_neg (bnot_fails hdie)).trans ?_))
    rw [hfirst]
    exact if_pos hlast
  · subst hfull
    refine (exec_budgetShed ..).trans (next_done ((if_neg (bnot_fails hdie)).trans ?_))
    rw [hnone]
  · exact (exec_claimRenew ..).trans (next_done (if_pos hdie))
  · refine (exec_powerDieServe ..).trans (next_done ((if_neg ?_).trans ?_))
    · exact not_or.2 ⟨Bool.eq_false_iff.1 hdie, bnot_fails hspaced⟩
    · rw [hfits]

end Sys2Proof.Machine

/-!
The commands of the LED strings (R285, R328, R337, R339, R348 to R353).
-/
namespace Sys2Proof.Machine

/-! ### LED_ON and LED_DIM (R328, R337, R339, R349, R351) -/

/-- The ISET that a command of a string names, inside the limits of R328; 0 names none. -/
def Cmd.ledIset (c : Cmd) : Option Nat := if c.arg 18 2 = 0 then none else some (clampNat 20 2000 (c.arg 18 2))

/-- The ISET of a string at `now` once the command is in force. -/
def Cmd.ledIsetOr (c : Cmd) (now : Nat) : Nat := if c.arg 18 2 = 0 then now else clampNat 20 2000 (c.arg 18 2)

theorem Cmd.ledIsetOr_eq (c : Cmd) (now : Nat) : c.ledIsetOr now = match c.ledIset with | some v => v | none => now := by
  unfold Cmd.ledIsetOr Cmd.ledIset
  split <;> rfl

/-- The state in which the duty of a command of a string, and the ISET that it names, have been clamped. -/
def State.ldClamped (s : State) (c : Cmd) : State :=
  let x := s.descClamp c 0x0B 16 0 16 (c.arg 16 2) (s.ldMinDuty (objNum c.object) (c.arg 16 2))
  if c.arg 18 2 = 0 then x else x.descClamp c 0x0B 18 0 16 (c.arg 18 2) (clampNat 20 2000 (c.arg 18 2))

/-- The string's ISET register takes the ISET that a command names. -/
def State.ldStoreIset (s : State) (c : Cmd) : State :=
  if c.arg 18 2 = 0 then s else s.wr Reg.LD_CFG0_ISET (objNum c.object) (clampNat 20 2000 (c.arg 18 2))

theorem State.ldStoreIset_eq (s : State) (c : Cmd) :
    s.ldStoreIset c = match c.ledIset with | some v => s.wr Reg.LD_CFG0_ISET (objNum c.object) v | none => s := by
  unfold State.ldStoreIset Cmd.ledIset
  split <;> rfl

/-- A command that asks for the duty it carries and for ISET `want` starts a string, or changes a running one (R285, R339, R351). -/
def State.ldServed (s : State) (c : Cmd) (on : Bool) (cls want : Nat) : State :=
  let o := c.object
  let n := objNum o
  let duty := c.arg 16 2
  let kind := DKind.on (if c.arg 18 2 = 0 then 0 else clampNat 20 2000 (c.arg 18 2) + 1) duty
  if s.isOn o then
    if on then s.submit (s.cmdDemand c kind (s.ldMore n duty want) (s.ldTransBy n want (s.ldMore n duty want)) 1000000)
    else if s.ldItgt n (s.ldIset n) * s.setDuty o < s.ldItgt n want * duty then s.submit (s.cmdDemand c kind (s.ldMore n duty want) [] 0)
    else s.ldChange n duty c.ledIset false (some c)
  else s.submit (s.cmdDemand c kind (s.ldStand n (s.ldDeffAs n cls false duty) want) (s.ldTrans n (s.ldDeffAs n cls false duty) want) 1000000)

section Passes
variable {s : State} {c : Cmd} (hmx : s.mxBar (objNum c.object) = none) (hlimp : s.limpBar c.object = none) (hbar : s.onBar c.object = none)
  (hloop : c.arg 18 2 = 0 ∨ s.loopBar c.object = none)
include hmx hlimp hbar hloop

/-- LED_DIM of an OFF string stores what it carries, which R349 leaves open and the model chooses (log entry 79). -/
theorem State.ldCmd_stores (hoff : (s.ldClamped c).st c.object = 0) :
    s.ldCmd c false =
      (((((s.ldClamped c).ldStoreIset c).begin c).wr Reg.LD_OUT_DUTY (objNum c.object) (c.arg 16 2)).commanded c.object).complete c .done := by
  rw [State.ldStoreIset_eq]
  unfold State.ldCmd
  exact State.orElse_skip hmx (State.orElse_skip hlimp (State.orElse_skip hbar (State.orElse_last (ite_eq_left_iff.2 hloop.resolve_left)
    (if_pos (and_holds rfl (beq_iff_eq.2 hoff))))))

/-- LED_ON, and LED_DIM of a string that is not OFF, are served with their clamped operands where no overvoltage stands. -/
theorem State.ldCmd_serves {on : Bool} (hst : on = true ∨ (s.ldClamped c).st c.object ≠ 0) (hov : (s.ldClamped c).ovBar c.object = none) :
    s.ldCmd c on = (s.ldClamped c).ldServed c on (s.demandClass c) (c.ledIsetOr ((s.ldClamped c).ldIset (objNum c.object))) := by
  rw [Cmd.ledIsetOr_eq]
  unfold State.ldCmd
  exact State.orElse_skip hmx (State.orElse_skip hlimp (State.orElse_skip hbar (State.orElse_last (ite_eq_left_iff.2 hloop.resolve_left)
    ((if_neg (and_fails (hst.imp (congrArg not) beq_eq_false_iff_ne.2))).trans (State.orElse_last hov rfl)))))

end Passes

/-- Settles O8: each command in the state in which it meets its block, by the conditions that it passes and the branch that it then takes. -/
theorem ledCommandsComplete : Obligations.LedCommandsComplete := by
  intro s dt c b o n d is iv x y a want free
  refine ⟨fun h hmx hlimp hov => ?_, fun h hfree hov => ?_, fun h hfree => ?_,
    fun h hmx hlimp => ⟨fun hl => ?_, fun hl hgone hov => ?_, fun hl hgone => ?_⟩, fun h hmx hlimp hl => ?_, fun h => ?_, fun h => ?_⟩
  · exact (exec_ledOff ..).trans (next_starts h (State.orElse_skip hmx (State.orElse_skip hlimp
      (State.orElse_last (ite_eq_left_iff.2 (or_assoc.2 hov).resolve_left) rfl))))
  · obtain ⟨hmx, hlimp, hbar, hloop⟩ := hfree
    have hrow := (exec_ledOn ..).trans (next_starts h (State.ldCmd_serves hmx hlimp hbar hloop (.inl rfl) hov))
    refine ⟨fun hoff e he => ?_, fun hon e he => ?_⟩
    · subst he
      exact hrow.trans (next_done (if_neg (Bool.eq_false_iff.1 hoff)))
    · subst he
      exact hrow.trans (next_done ((if_pos hon).trans (if_pos rfl)))
  · obtain ⟨hmx, hlimp, hbar, hloop⟩ := hfree
    refine ⟨fun hoff z hz => ?_, fun hst hov hon => ?_⟩
    · subst hz
      exact (exec_ledDim ..).trans (next_starts h (State.ldCmd_stores hmx hlimp hbar hloop hoff))
    · have hrow := (exec_ledDim ..).trans (next_starts h (State.ldCmd_serves hmx hlimp hbar hloop (.inr hst) hov))
      refine ⟨fun hrise => ?_, fun hfall => ?_⟩
      · exact hrow.trans (next_done ((if_pos hon).trans ((if_neg Bool.false_ne_true).trans (if_pos hrise))))
      · exact hrow.trans (next_done ((if_pos hon).trans ((if_neg Bool.false_ne_true).trans (if_neg (Nat.not_lt.2 hfall)))))
  · exact (exec_ldClearFault ..).trans (next_starts h (State.orElse_skip hmx (State.orElse_last hlimp (if_pos (bnot_holds hl)))))
  · exact (exec_ldClearFault ..).trans (next_starts h (State.orElse_skip hmx (State.orElse_last hlimp
      ((if_neg (bnot_fails hl)).trans ((if_neg (bnot_fails hgone)).trans (State.orElse_last hov rfl))))))
  · exact (exec_ldClearFault ..).trans (next_starts h (State.orElse_skip hmx (State.orElse_last hlimp
      ((if_neg (bnot_fails hl)).trans (if_pos (bnot_holds hgone))))))
  · exact (exec_ldDiagCheck ..).trans (next_starts h (State.orElse_skip hmx (State.orElse_last hlimp (State.checkCmd_waits hl))))
  · exact (exec_ldConfig ..).trans (next_starts h rfl)
  · exact ⟨_, rfl, (exec_tcompLoad ..).trans (next_starts h rfl)⟩

end Sys2Proof.Machine

/-!
What the stages put out between commands: switching edges, hybrid currents, the row in scan, the switches that conduct (R333, R338, R365, R408, R441,
R506).
-/
namespace Sys2Proof.Machine

section Waveforms
variable {s : State} {n m d k : Nat}

/-! ### Switching edges and on-times of a string (R333, R337, R338) -/

/-- FSW periods take 8,000 counts together: what each drops of a count comes back within them. -/
theorem State.ldSwEdge_add_fsw (h : s.rd Reg.LD_CFG0_FSW n ≠ 0) (j : Nat) :
    s.ldSwEdge n (j + s.rd Reg.LD_CFG0_FSW n) = s.ldSwEdge n j + 8000 := by
  rw [State.ldSwEdge, State.ldSwEdge, Nat.add_mul, Nat.add_mul_div_left _ _ (Nat.pos_of_ne_zero h), Nat.add_assoc]

/-- One period has the whole part of 8,000 / FSW counts, or one more where the dropped parts make up a count. -/
theorem State.ldSwEdge_succ (h : s.rd Reg.LD_CFG0_FSW n ≠ 0) (j : Nat) :
    s.ldSwEdge n (j + 1) = s.ldSwEdge n j + 8000 / s.rd Reg.LD_CFG0_FSW n
      ∨ s.ldSwEdge n (j + 1) = s.ldSwEdge n j + 8000 / s.rd Reg.LD_CFG0_FSW n + 1 := by
  rw [State.ldSwEdge, State.ldSwEdge, Nat.add_mul, Nat.one_mul, Nat.add_div (Nat.pos_of_ne_zero h)]
  split
  · exact .inr (by omega)
  · exact .inl (by omega)

theorem State.ldOnTime_least (hd : d ≠ 0) : 100 ≤ s.ldOnTime n d := by
  rw [State.ldOnTime, if_neg hd]
  exact Nat.le_max_left ..

theorem State.ldCurrent_full (hd : d ≠ 0) (hhyb : s.flag Reg.LD_CFG1_HYB n = false) : s.ldCurrent n d = s.ldItgt n (s.led n).iset :=
  (if_neg hd).trans (if_pos (.inl (bnot_holds hhyb)))

theorem State.ldCurrent_least (hd : d ≠ 0) (hhyb : s.flag Reg.LD_CFG1_HYB n = true) (ht : 16 * s.ldExact n d < 100) :
    s.ldCurrent n d = roundDiv (s.ldItgt n (s.led n).iset) 16 :=
  (if_neg hd).trans ((if_neg (not_or.2 ⟨bnot_fails hhyb, by omega⟩)).trans (if_pos ht))

/-! ### The row in scan (R365) -/

theorem State.mxRow_lt : s.mxRow < s.rd Reg.MX_CFG0_NROWSM1 + 1 := Nat.mod_lt _ (Nat.succ_pos _)

/-- Each LINE since the frame's start moves the scan on by one row. -/
theorem State.mxRow_at_line (hline : s.rd Reg.MX_CFG0_LINE ≠ 0) (hnow : s.now = s.out.mx.frameAt + k * (s.rd Reg.MX_CFG0_LINE * 1000)) :
    s.mxRow = k % (s.rd Reg.MX_CFG0_NROWSM1 + 1) := by
  rw [State.mxRow, hnow, Nat.add_sub_cancel_left, Nat.mul_div_cancel _ (by omega)]

/-! ### The switches of a bridge (R441) -/

/-- While the bridge drives, DIR gives the switches of the on-time, and DECAY those of the off-time. -/
theorem State.hbHalf_drives (hst : s.st (hbObj n) = 1 ∨ s.st (hbObj n) = 2) (onTime : Bool) :
    s.hbHalf n m onTime =
      if onTime then (if decide (m < n + s.hbSide n) == (s.rd Reg.HB_STAT_DIR n == 0) then .high else .low)
      else if s.flag Reg.HB_CFG0_DECAY n then .none else .low := by
  obtain hst | hst := hst <;> simp only [State.hbHalf, hst]

theorem State.hbHalf_sideA (hst : s.st (hbObj n) = 1 ∨ s.st (hbObj n) = 2) (hm : m < n + s.hbSide n) :
    s.hbHalf n m true = if s.rd Reg.HB_STAT_DIR n = 0 then .high else .low := by
  simp [State.hbHalf_drives hst, hm]

theorem State.hbHalf_sideB (hst : s.st (hbObj n) = 1 ∨ s.st (hbObj n) = 2) (hm : n + s.hbSide n ≤ m) :
    s.hbHalf n m true = if s.rd Reg.HB_STAT_DIR n = 0 then .low else .high := by
  by_cases hdir : s.rd Reg.HB_STAT_DIR n = 0 <;> simp [State.hbHalf_drives hst, Nat.not_lt.2 hm, hdir]

theorem State.hbHalf_idle (hst : s.st (hbObj n) = 0 ∨ 4 < s.st (hbObj n)) (onTime : Bool) : s.hbHalf n m onTime = .none := by
  unfold State.hbHalf
  split
  · omega
  · omega
  · omega
  · omega
  · rfl

/-! ### Coils and switch inputs (R408, R506) -/

theorem State.svDecayVolt_diode (h : s.flag Reg.SV_CFG2_RECOV n = false) : s.svDecayVolt n = 50 := if_pos (bnot_holds h)

theorem State.swWet_unpowered (hfront : s.frontEnd = false) (hphase : s.pwr.phase ≠ .stop) : s.swWet n = 0 :=
  (if_neg (Bool.eq_false_iff.1 hfront)).trans
    (if_neg (and_fails (.inl (Bool.and_eq_false_iff.2 (.inl (Bool.and_eq_false_iff.2 (.inl (beq_eq_false_iff_ne.2 hphase))))))))

end Waveforms

/-- Settles O59: each stage by the lemmas that say what it puts out. -/
theorem stageWaveforms : Obligations.StageWaveforms := by
  intro s n m j k d o fsw itgt
  refine ⟨fun hfsw => ⟨State.ldSwEdge_add_fsw hfsw j, State.ldSwEdge_succ hfsw j⟩,
    fun hd => ⟨State.ldOnTime_least hd, State.ldCurrent_full hd, State.ldCurrent_least hd⟩, State.mxRow_lt, State.mxRow_at_line,
    fun hst => ⟨State.hbHalf_sideA hst, State.hbHalf_sideB hst, State.hbHalf_drives hst false⟩, State.hbHalf_idle,
    State.svDecayVolt_diode, State.swWet_unpowered⟩

end Sys2Proof.Machine

/-!
What happens to a string that runs: soft start, faults, compensation, dimming periods and measurements (R331 to R357).
-/
namespace Sys2Proof.Machine

section StringEvents
variable {s w x : State} {dt n a v t p lo i : Nat}

/-- A source's sample is taken 10 ms after the last one (R342). -/
theorem exec_tcompSample_due (hn : n < 12) (hup : (s.tick dt).supplied (ldObj n) = true)
    (hdue : ((s.tick dt).led n).tempAt = none ∨ ∃ k, ((s.tick dt).led n).tempAt = some k ∧ k + 10000000 ≤ (s.tick dt).now) :
    exec (.tcompSample dt n t) s = .next ((s.tick dt).ldMoveGain n ((s.tick dt).ldSource n t)).done := by
  refine (exec_tcompSample ..).trans (next_done (if_pos ⟨hn, hup, ?_⟩))
  obtain hfirst | ⟨k, hlast, hlate⟩ := hdue
  · rw [hfirst]
  · rw [hlast]
    exact decide_eq_true hlate

/-- A period that has run ends with the set duty and current in effect (R335, R339, R341, R349). -/
theorem exec_dimPeriodStart_due (hruns : (s.tick dt).ldRuns n = true) (hst : (s.tick dt).st (ldObj n) = 2)
    (hdue : 10 * (s.tick dt).ldNext n ≤ (s.tick dt).now)
    (hp : p = 10 * ((s.tick dt).ldNext n + ((s.tick dt).now / 10 - (s.tick dt).ldNext n) / (s.tick dt).ldPer n * (s.tick dt).ldPer n))
    (hx : x = ((s.tick dt).modObj (ldObj n) fun x => { x with
        duty := (s.tick dt).setDuty (ldObj n), next := none, period := x.period + 1, perAt := p }).wr Reg.LD_OUT_DEFF n
      ((s.tick dt).ldDeff n ((s.tick dt).setDuty (ldObj n)))) :
    exec (.dimPeriodStart dt n) s =
      .next (((x.modLed n fun l => { l with iset := x.ldIset n, per := (s.tick dt).ldPer n }).cmdDone (ldObj n)).chgDone (ldObj n)).done := by
  subst hx hp
  exact (exec_dimPeriodStart ..).trans (next_done (if_pos (and_holds (and_holds hruns (beq_iff_eq.2 hst)) (decide_eq_true hdue))))

/-! ### The judgement of a measurement (R352, R356, R357) -/

/-- A measurement of `a` mA and `v` units of 20 mV is shown and remembered (R352, R356). -/
def State.ldShow (s : State) (n a v : Nat) : State :=
  (((s.wr Reg.LD_MEAS_IMEAS n a).wr Reg.LD_MEAS_VSTR n v).modLed n fun l => { l with vrem := some v, measAt := some s.now }).took (ldObj n)

/-- The judgement of a measurement that is shown (R357). -/
def State.ldJudge (s : State) (n a v : Nat) : State :=
  let lo := s.rd Reg.LD_CFG2_VLO n * 25
  let itgt := s.ldItgt n (s.led n).iset
  if s.flag Reg.LD_STAT_HEADROOM n then s.judged (ldObj n) 5
  else if s.rd Reg.LD_CFG2_VSHORT n * 25 ≤ 2 * v ∧ 2 * v < lo then
    let k := (s.led n).shorts + 1
    let s := s.modLed n fun l => { l with shorts := k }
    if 3 ≤ k then s.judged (ldObj n) 4 else s
  else
    let s := s.modLed n fun l => { l with shorts := 0 }
    if lo ≤ 2 * v ∧ 2 * v ≤ s.rd Reg.LD_CFG2_VOVP n * 25 ∧ 9 * itgt ≤ 10 * a ∧ 10 * a ≤ 11 * itgt then s.judged (ldObj n) 1 else s

/-- An on-time of a string in ON that may be measured is shown and judged (R356). -/
theorem exec_ldMeasure_taken (hruns : (s.tick dt).ldRuns n = true) (hst : (s.tick dt).st (ldObj n) = 2) (hmay : (s.tick dt).ldMeasured n = true)
    (hw : w = (s.tick dt).ldShow n a v) : exec (.ldMeasure dt n a v) s = .next (w.ldJudge n a v).done := by
  subst hw
  exact (exec_ldMeasure ..).trans (next_done (if_neg (bnot_fails (and_holds (and_holds hruns (beq_iff_eq.2 hst)) hmay))))

theorem State.ldJudge_headroom (h : s.flag Reg.LD_STAT_HEADROOM n = true) : s.ldJudge n a v = s.judged (ldObj n) 5 := if_pos h

/-- A voltage between VSHORT and VLO counts, and the third in a row is LED_SHORT. -/
theorem State.ldJudge_low (hhead : s.flag Reg.LD_STAT_HEADROOM n = false) (hshort : s.rd Reg.LD_CFG2_VSHORT n * 25 ≤ 2 * v)
    (hlow : 2 * v < s.rd Reg.LD_CFG2_VLO n * 25) :
    s.ldJudge n a v =
      if 3 ≤ (s.led n).shorts + 1 then (s.modLed n fun l => { l with shorts := (s.led n).shorts + 1 }).judged (ldObj n) 4
      else s.modLed n fun l => { l with shorts := (s.led n).shorts + 1 } :=
  (if_neg (Bool.eq_false_iff.1 hhead)).trans (if_pos ⟨hshort, hlow⟩)

/-- A voltage between VLO and VOVP with the current within 10 % of ITGT is OK. -/
theorem State.ldJudge_ok (hhead : s.flag Reg.LD_STAT_HEADROOM n = false) (hlo : s.rd Reg.LD_CFG2_VLO n * 25 ≤ 2 * v)
    (hx : x = s.modLed n fun l => { l with shorts := 0 }) (hhi : 2 * v ≤ x.rd Reg.LD_CFG2_VOVP n * 25)
    (hmin : 9 * s.ldItgt n (s.led n).iset ≤ 10 * a) (hmax : 10 * a ≤ 11 * s.ldItgt n (s.led n).iset) :
    s.ldJudge n a v = x.judged (ldObj n) 1 := by
  subst hx
  exact (if_neg (Bool.eq_false_iff.1 hhead)).trans ((if_neg fun h => Nat.not_lt.2 hlo h.2).trans (if_pos ⟨hlo, hhi, hmin, hmax⟩))

end StringEvents

/-- Settles O9: each event by the branch that its conditions choose, a measurement by how it is then judged. -/
theorem ledStringEvents : Obligations.LedStringEvents := by
  intro s dt n a v t m u o
  refine ⟨fun hruns hst => ?_, fun hruns hst hlate => ?_, fun hruns => ?_, fun hruns => ?_, fun hruns htj => ?_,
    fun hn hup hst hasked htj => ?_, fun hruns hst hhead => ?_, fun hn hup => ?_, fun hn hup hntc => ?_, fun hn hup => ?_,
    fun hn hup hdue => exec_tcompSample_due hn hup hdue, fun hruns hst hdue p x hp hx => exec_dimPeriodStart_due hruns hst hdue hp hx,
    fun hruns hst hmay w lo i hw hlo hi => ?_⟩
  · exact (exec_ldSoftstartDone ..).trans (next_done (if_pos (and_holds hruns (beq_iff_eq.2 hst))))
  · exact (exec_ldSoftstartTimeout ..).trans (next_done (if_pos (and_holds (and_holds hruns (beq_iff_eq.2 hst)) (decide_eq_true hlate))))
  · exact (exec_ldOpenString ..).trans (next_done (if_pos hruns))
  · exact (exec_ldShort ..).trans (next_done (if_pos hruns))
  · exact (exec_ldThermal ..).trans (next_done (if_pos (and_holds hruns (decide_eq_true htj))))
  · exact (exec_ldThermalRestart ..).trans (next_done (if_pos ⟨hn, hup, hst, bnot_holds hasked, htj⟩))
  · exact (exec_headroomSet ..).trans (next_done (if_pos (and_holds (and_holds hruns (beq_iff_eq.2 hst)) (bnot_holds hhead))))
  · exact (exec_headroomClear ..).trans (next_done (if_pos ⟨hn, hup⟩))
  · exact (exec_ntcFault ..).trans (next_done (if_pos ⟨hn, hup, bnot_holds hntc⟩))
  · exact (exec_ntcRecover ..).trans (next_done (if_pos ⟨hn, hup⟩))
  · subst hlo hi
    have hrow := exec_ldMeasure_taken hruns hst hmay hw
    refine ⟨fun hhead => ?_, fun hhead hshort hlow => ⟨fun hfew => ?_, fun hthird => ?_⟩, fun hhead hlo x hx hhi hmin hmax => ?_⟩
    · exact hrow.trans (next_done (State.ldJudge_headroom hhead))
    · exact hrow.trans (next_done ((State.ldJudge_low hhead hshort hlow).trans (if_neg (by omega))))
    · exact hrow.trans (next_done ((State.ldJudge_low hhead hshort hlow).trans (if_pos (by omega))))
    · exact hrow.trans (next_done (State.ldJudge_ok hhead hlo hx hhi hmin hmax))

end Sys2Proof.Machine

/-!
Commands, frames and row shorts of the LED matrix (R363 to R373).
-/
namespace Sys2Proof.Machine

section Matrix
variable {s v w y : State} {c : Cmd} {dt lows : Nat} {px : List Byte} {on : Bool}

/-! ### MX_ON and MX_BRIGHT (R370, R371) -/

/-- The demand of a brightness above the one that is set: the difference of the standing claims. -/
def State.mxRise (s : State) (c : Cmd) : State :=
  s.submit (s.cmdDemand c (.on 1 (c.arg 16 1)) (claimsOver (s.mxStand s.mxIcol (c.arg 16 1)) (s.mxStand s.mxIcol s.mxSet)) [] 0)

section Passes
variable (hlimp : s.limpBar mxObj = none) (hbar : s.onBar mxObj = none)
include hlimp hbar

/-- MX_BRIGHT of an OFF matrix stores the brightness, which R370 leaves open and the model chooses (log entry 79). -/
theorem State.mxCmd_stores (hoff : s.st mxObj = 0) :
    s.mxCmd c false = (((s.begin c).modMx fun m => { m with gduty := c.arg 16 1 }).commanded mxObj).complete c .done := by
  unfold State.mxCmd
  exact State.orElse_skip hlimp (State.orElse_last hbar (if_pos (and_holds rfl (beq_iff_eq.2 hoff))))

/-- MX_ON, and MX_BRIGHT of a matrix that is not OFF, are served where no overvoltage stands. -/
theorem State.mxCmd_serves (hst : on = true ∨ s.st mxObj ≠ 0) (hov : s.ovBar mxObj = none) :
    s.mxCmd c on =
      if s.isOn mxObj then if on = true ∨ s.mxSet < c.arg 16 1 then s.mxRise c else s.mxChange (c.arg 16 1) (some c)
      else s.submit (s.cmdDemand c (.on 0 (c.arg 16 1)) (s.mxStand s.mxIcol (c.arg 16 1)) [] 0) := by
  unfold State.mxCmd
  exact State.orElse_skip hlimp (State.orElse_last hbar ((if_neg (and_fails (hst.imp (congrArg not) beq_eq_false_iff_ne.2))).trans
    (State.orElse_last hov rfl)))

end Passes

/-! ### MX_CONFIG and MX_FRAME (R363, R368, R370) -/

/-- A checked image asks for its rise of ICOL while the matrix scans, and is written otherwise. -/
def State.mxConfigure (s : State) (c : Cmd) (r : List (Put × Nat)) : State :=
  let image := packAt r 16 + 2 ^ 32 * packAt r 20
  if s.isOn mxObj && decide (s.mxIcol < bits (packAt r 16) 0 6) then
    s.orElse c [s.ovBar mxObj] fun s =>
      s.submit (s.cmdDemand c (.on 2 image) (claimsOver (s.mxStandImage image s.mxSet) (s.mxStand s.mxIcol s.mxSet)) [] 0)
  else ((s.begin c).mxImage image).complete c .done

section Config
variable {r : List (Put × Nat)} {image : Nat}

/-- Where the supply source may be as the image has it, the fields are checked and their clamps logged (R134, R363). -/
theorem exec_mxConfig_checked (h : s.starts dt c 0x3001 [.mx] = true)
    (hfree : c.argBits 16 24 1 = (s.taken dt c).rd Reg.MX_CFG0_SUPSRC ∨ (s.taken dt c).mxFree = true)
    (hr : r = (s.taken dt c).clampAll c.pf 1 (imagePuts c 0x0C 0 2))
    (hv : v = ((s.taken dt c).logClamps 0x0C (clampsOf 1 c.pf c.tag c.object r)).modFlight c
      fun x => { x with clamps := x.clamps + (clampsOf 1 c.pf c.tag c.object r).length }) :
    exec (.mxConfig dt c) s = .next (v.mxConfigure c r).done := by
  subst hv hr
  exact (exec_mxConfig ..).trans (next_starts h (State.orElse_last (if_neg (and_fails (hfree.imp bne_eq_false_iff_eq.2 (congrArg not)))) rfl))

theorem State.mxConfigure_writes (himage : image = packAt r 16 + 2 ^ 32 * packAt r 20)
    (hfall : s.isOn mxObj = false ∨ bits (packAt r 16) 0 6 ≤ s.mxIcol) : s.mxConfigure c r = ((s.begin c).mxImage image).complete c .done := by
  subst himage
  exact if_neg (and_fails (hfall.imp_right fun hle => decide_eq_false (Nat.not_lt.2 hle)))

/-- A rise of ICOL while scanning is a demand of the difference (R371). -/
theorem State.mxConfigure_rises (himage : image = packAt r 16 + 2 ^ 32 * packAt r 20) (hon : s.isOn mxObj = true)
    (hrise : s.mxIcol < bits (packAt r 16) 0 6) (hov : s.ovBar mxObj = none) :
    s.mxConfigure c r =
      s.submit (s.cmdDemand c (.on 2 image) (claimsOver (s.mxStandImage image s.mxSet) (s.mxStand s.mxIcol s.mxSet)) [] 0) := by
  subst himage
  exact (if_pos (and_holds hon (decide_eq_true hrise))).trans (State.orElse_last hov rfl)

end Config

/-- A frame at an aligned address whose bytes arrive fills the back buffer (R91, R368). -/
theorem exec_mxFrame_filled (h : s.starts dt c 0x3004 [.mx] = true) (haddr : c.arg 16 8 % 8 = 0)
    (hdma : ((s.taken dt c).dma c.pf (c.arg 16 8) 128).2 = true)
    (hv : v = (((s.taken dt c).dma c.pf (c.arg 16 8) 128).1.begin c).modMx fun m =>
      { m with back := (List.range 128).map fun k => px.getD k 0 % 256 }) :
    exec (.mxFrame dt c px) s =
      .next (if c.argBits 24 0 1 = 1 then v.mxSwap.modMx fun m => { m with swapCmds := m.swapCmds ++ [c] } else v.complete c .done).done := by
  subst hv
  exact (exec_mxFrame ..).trans (next_starts h ((if_neg (not_not_intro haddr)).trans (if_neg (bnot_fails hdma))))

/-! ### Frames (R365, R368, R370, R374, R375) -/

/-- The buffers change places where a swap is pending, which completes the commands that wait for it (R368). -/
def State.mxSwapped (s : State) : State :=
  if s.flag Reg.MX_STAT_SWAPPEND then s.out.mx.swapCmds.foldl (fun s c => s.complete c .done)
    ((s.modMx fun m => { m with front := m.back, back := m.front, swapCmds := [] }).wr Reg.MX_STAT_SWAPPEND 0 0)
  else s

/-- A brightness that waits for the next frame takes effect (R370). -/
def State.mxDimmed (s : State) : State :=
  match (s.obj mxObj).next with
  | some g => (s.modMx fun m => { m with gduty := g }).modObj mxObj fun z => { z with next := none }
  | none => s

/-- The boundary of a frame that has run. -/
theorem exec_mxFrameBoundary_due (hup : (s.tick dt).supplied mxObj = true) (hst : (s.tick dt).st mxObj = 1)
    (hdue : (s.tick dt).out.mx.frameAt + (s.tick dt).out.mx.frameLen ≤ (s.tick dt).now)
    (hv : v = (List.range 128).foldl (fun s k => s.mxLed lows k) (s.tick dt))
    (hw : w = v.wr Reg.MX_STAT_FRAMES 0 (v.rd Reg.MX_STAT_FRAMES + 1)) (hy : y = w.mxSwapped.mxDimmed) :
    exec (.mxFrameBoundary dt lows) s = .next ((y.modMx fun m => { m with
      frameAt := m.frameAt + (y.now - m.frameAt) / max 1 m.frameLen * m.frameLen, frameLen := y.mxFrame }).mxJudge.chgDone mxObj).done := by
  subst hy hw
  have hends := and_holds (and_holds hup (beq_iff_eq.2 hst)) (decide_eq_true hdue)
  refine (exec_mxFrameBoundary ..).trans (next_done ((if_neg (bnot_fails hends)).trans ?_))
  rw [← hv]
  rfl

end Matrix

/-- Settles O10: each command in the state in which it meets its block, by the conditions that it passes and the branch that it then takes; a frame
boundary by the steps that it is made of. -/
theorem matrixCommandsAndFrames : Obligations.MatrixCommandsAndFrames := by
  intro s dt c px lows b u g rise
  refine ⟨fun h hlimp hov => ?_, fun h hlimp hbar hov => ⟨fun hoff => ?_, fun hon => ?_⟩,
    fun h hlimp hbar => ⟨fun hoff => ?_, fun hst hov hon hrise => ?_, fun hst hov hon hfall => ?_⟩,
    fun h hlimp => ⟨fun hl => ?_, fun hl hov => ?_⟩, fun h hfree r w v hr hw hv => ⟨fun hfall => ?_, fun hon hrise hov => ?_⟩,
    fun h haddr hdma v hv => ⟨fun hswap => ?_, fun hswap => ?_⟩, fun v w x y hup hst hdue hv hw hx hy => ?_, fun hup hst => ?_⟩
  · exact (exec_mxOff ..).trans (next_starts h (State.orElse_skip hlimp (State.orElse_last (ite_eq_left_iff.2 (or_assoc.2 hov).resolve_left) rfl)))
  · exact (exec_mxOn ..).trans (next_starts h ((State.mxCmd_serves hlimp hbar (.inl rfl) hov).trans (if_neg (Bool.eq_false_iff.1 hoff))))
  · exact (exec_mxOn ..).trans (next_starts h ((State.mxCmd_serves hlimp hbar (.inl rfl) hov).trans ((if_pos hon).trans (if_pos (.inl rfl)))))
  · exact (exec_mxBright ..).trans (next_starts h (State.mxCmd_stores hlimp hbar hoff))
  · exact (exec_mxBright ..).trans (next_starts h ((State.mxCmd_serves hlimp hbar (.inr hst) hov).trans ((if_pos hon).trans (if_pos (.inr hrise)))))
  · exact (exec_mxBright ..).trans (next_starts h ((State.mxCmd_serves hlimp hbar (.inr hst) hov).trans ((if_pos hon).trans
      (if_neg (not_or.2 ⟨Bool.false_ne_true, Nat.not_lt.2 hfall⟩)))))
  · exact (exec_mxClearFault ..).trans (next_starts h (State.orElse_last hlimp (if_pos (bnot_holds hl))))
  · exact (exec_mxClearFault ..).trans (next_starts h (State.orElse_last hlimp ((if_neg (bnot_fails hl)).trans (State.orElse_last hov rfl))))
  · exact (exec_mxConfig_checked h hfree hr hv).trans (next_done (State.mxConfigure_writes hw hfall))
  · exact (exec_mxConfig_checked h hfree hr hv).trans (next_done (State.mxConfigure_rises hw hon hrise hov))
  · exact (exec_mxFrame_filled h haddr hdma hv).trans (next_done (if_neg (by omega)))
  · exact (exec_mxFrame_filled h haddr hdma hv).trans (next_done (if_pos hswap))
  · subst hx
    exact exec_mxFrameBoundary_due hup hst hdue hv hw hy
  · exact (exec_mxRowShort ..).trans (next_done (if_pos (and_holds hup (beq_iff_eq.2 hst))))

end Sys2Proof.Machine

/-!
The commands of the solenoid channels and of the boost converter (R388, R389, R403 to R407, R416, R420, R421, R426, R427, R431).
-/
namespace Sys2Proof.Machine

section ValveCommands
variable {s x : State} {c : Cmd} {dt o v : Nat}

/-- What is off or latched is switched off also while an overvoltage stands. -/
theorem State.offBar_none (h : s.st o = 0 ∨ s.latched o = true ∨ s.ovBar o = none) :
    (if s.st o = 0 ∨ s.latched o = true then none else s.ovBar o) = none :=
  ite_eq_left_iff.2 (or_assoc.2 h).resolve_left

/-- A condition that holds refuses the command. -/
theorem State.orElse_refused {code : Code} {sub : Nat} {b : Option (Code × Nat)} {bars : List (Option (Code × Nat))} {go : State → State}
    (hb : b = some (code, sub)) : s.orElse c (b :: bars) go = s.complete c code sub := by
  subst hb
  rfl

/-! ### SV_ON (R404, R405, R427) -/

/-- SV_ON by the state of the channel: in HOLD it has its outcome, in BOOST and PEAK it shares the actuation's, and otherwise it asks for one. -/
def State.svOnServed (s : State) (c : Cmd) : State :=
  if s.st c.object = 3 then (s.commanded c.object).complete c .done
  else if s.isOn c.object then ((s.begin c).commanded c.object).modValve (objNum c.object) fun v => { v with extra := v.extra ++ [c] }
  else s.orElse c [s.ovBar c.object] fun s =>
    s.svSubmit (s.cmdDemand c (.on 0 0) (svStand (objNum c.object) (s.svNextMa (objNum c.object))) (s.svTrans (objNum c.object) true)
      (s.svTbst (objNum c.object) + s.svTpk (objNum c.object))) c

theorem exec_svOn_passes (h : s.starts dt c 0x2002 [.sv] = true) (hlimp : (s.taken dt c).limpBar c.object = none)
    (hbar : (s.taken dt c).onBar c.object = none) : exec (.svOn dt c) s = .next ((s.taken dt c).svOnServed c).done :=
  (exec_svOn ..).trans (next_starts h (State.orElse_skip hlimp (State.orElse_last hbar rfl)))

theorem State.svOnServed_hold (hst : s.st c.object = 3) : s.svOnServed c = (s.commanded c.object).complete c .done := if_pos hst

theorem State.svOnServed_joins (hst : s.st c.object ≠ 3) (hon : s.isOn c.object = true) :
    s.svOnServed c = ((s.begin c).commanded c.object).modValve (objNum c.object) fun v => { v with extra := v.extra ++ [c] } :=
  (if_neg hst).trans (if_pos hon)

theorem State.svOnServed_asks (hst : s.st c.object ≠ 3) (hoff : s.isOn c.object = false) (hov : s.ovBar c.object = none) :
    s.svOnServed c = s.svSubmit (s.cmdDemand c (.on 0 0) (svStand (objNum c.object) (s.svNextMa (objNum c.object)))
      (s.svTrans (objNum c.object) true) (s.svTbst (objNum c.object) + s.svTpk (objNum c.object))) c :=
  (if_neg hst).trans ((if_neg (Bool.eq_false_iff.1 hoff)).trans (State.orElse_last hov rfl))

/-! ### SV_HOLD (R403, R427, R431) -/

/-- A running channel takes a level of `v` units with its next chop period, a rise by a demand of the difference. A channel at rest stores the level,
which completes the command: the model's choice where R427 names no outcome for it (log entries 79 and 87). -/
def State.svHoldServed (s : State) (c : Cmd) (v : Nat) : State :=
  let now := s.svSetMa (objNum c.object)
  if s.isOn c.object then
    s.orElse c [s.ovBar c.object] fun s =>
      if now < v * 10 then
        s.submit (s.cmdDemand c (.on 2 v) (claimsOver (svStand (objNum c.object) (v * 10)) (svStand (objNum c.object) now)) [] 0)
      else s.svServe { s.cmdDemand c (.on 2 v) [] [] 0 with cls := (s.load c.object).cls }
  else (((s.begin c).wr Reg.SV_CFG0_IHOLD (objNum c.object) v).commanded c.object).complete c .done

/-- The level is served within its limits, 50 mA, IPK and 4 A, in units of 10 mA (R431). -/
theorem exec_svHold_passes (h : s.starts dt c 0x2003 [.sv] = true) (hlimp : (s.taken dt c).limpBar c.object = none)
    (hbar : (s.taken dt c).onBar c.object = none) (hloop : (s.taken dt c).loopBar c.object = none)
    (hv : v = clampNat 5 (max 5 (min 400 ((s.taken dt c).rd Reg.SV_CFG0_IPK (objNum c.object) * 25 / 10))) (c.arg 16 2))
    (hx : x = (s.taken dt c).descClamp c 0x0D 16 0 16 (c.arg 16 2) v) :
    exec (.svHold dt c) s = .next (x.svHoldServed c v).done := by
  subst hx hv
  exact (exec_svHold ..).trans (next_starts h (State.orElse_skip hlimp (State.orElse_skip hbar (State.orElse_last hloop rfl))))

theorem State.svHoldServed_stores (hoff : s.isOn c.object = false) :
    s.svHoldServed c v = (((s.begin c).wr Reg.SV_CFG0_IHOLD (objNum c.object) v).commanded c.object).complete c .done :=
  if_neg (Bool.eq_false_iff.1 hoff)

theorem State.svHoldServed_rises (hon : s.isOn c.object = true) (hov : s.ovBar c.object = none) (hrise : s.svSetMa (objNum c.object) < v * 10) :
    s.svHoldServed c v = s.submit (s.cmdDemand c (.on 2 v) (claimsOver (svStand (objNum c.object) (v * 10))
      (svStand (objNum c.object) (s.svSetMa (objNum c.object)))) [] 0) :=
  (if_pos hon).trans (State.orElse_last hov (if_pos hrise))

theorem State.svHoldServed_falls (hon : s.isOn c.object = true) (hov : s.ovBar c.object = none) (hfall : v * 10 ≤ s.svSetMa (objNum c.object)) :
    s.svHoldServed c v = s.svServe { s.cmdDemand c (.on 2 v) [] [] 0 with cls := (s.load c.object).cls } :=
  (if_pos hon).trans (State.orElse_last hov (if_neg (Nat.not_lt.2 hfall)))

/-! ### SV_CLEAR_FAULT (R420) -/

/-- A latch is cleared where its cause has gone. -/
def State.svClearServed (s : State) (c : Cmd) : State :=
  if !s.latched c.object then (s.commanded c.object).complete c .done
  else if !s.svGone (objNum c.object) then s.clearPersists c 0x0D03
  else s.orElse c [s.ovBar c.object] fun s => (((s.begin c).svClear (objNum c.object)).commanded c.object).complete c .done

theorem exec_svClearFault_passes (h : s.starts dt c 0x2004 [.sv] = true) (hlimp : (s.taken dt c).limpBar c.object = none) :
    exec (.svClearFault dt c) s = .next ((s.taken dt c).svClearServed c).done :=
  (exec_svClearFault ..).trans (next_starts h (State.orElse_last hlimp rfl))

theorem State.svClearServed_unlatched (hl : s.latched c.object = false) : s.svClearServed c = (s.commanded c.object).complete c .done :=
  if_pos (bnot_holds hl)

theorem State.svClearServed_clears (hl : s.latched c.object = true) (hgone : s.svGone (objNum c.object) = true) (hov : s.ovBar c.object = none) :
    s.svClearServed c = (((s.begin c).svClear (objNum c.object)).commanded c.object).complete c .done :=
  (if_neg (bnot_fails hl)).trans ((if_neg (bnot_fails hgone)).trans (State.orElse_last hov rfl))

theorem State.svClearServed_persists (hl : s.latched c.object = true) (hgone : s.svGone (objNum c.object) = false) :
    s.svClearServed c = s.clearPersists c 0x0D03 :=
  (if_neg (bnot_fails hl)).trans (if_pos (bnot_holds hgone))

end ValveCommands

/-- Settles O11: each command in the state in which it meets its block, by the conditions that it passes and the branch that it then takes. -/
theorem valveCommandsComplete : Obligations.ValveCommandsComplete := by
  intro s dt c b o n lv x
  refine ⟨fun h hlimp hov => ?_, fun h hlimp hbar => ?_, fun h hlimp hbar hloop => ?_, fun h hlimp => ?_, fun h hlimp hl => ?_, fun h => ?_, fun h => ?_,
    fun h => ?_, fun h hov => ?_, fun h hbar hoff hov => ?_, fun h hbar hon => ?_, fun h => ⟨fun hl => ?_, fun hl hov => ?_⟩,
    fun h => ⟨fun hoff => ?_, fun hon => ?_⟩⟩
  · exact (exec_svOff ..).trans (next_starts h (State.orElse_skip hlimp (State.orElse_last (State.offBar_none hov) rfl)))
  · have hrow := exec_svOn_passes h hlimp hbar
    exact ⟨fun hst => hrow.trans (next_done (State.svOnServed_hold hst)), fun hst hon => hrow.trans (next_done (State.svOnServed_joins hst hon)),
      fun hst hoff hov => hrow.trans (next_done (State.svOnServed_asks hst hoff hov))⟩
  · have hrow : exec (.svHold dt c) s = .next (x.svHoldServed c lv).done := exec_svHold_passes h hlimp hbar hloop rfl rfl
    exact ⟨fun hoff => hrow.trans (next_done (State.svHoldServed_stores hoff)),
      fun hon hov hrise => hrow.trans (next_done (State.svHoldServed_rises hon hov hrise)),
      fun hon hov hfall => hrow.trans (next_done (State.svHoldServed_falls hon hov hfall))⟩
  · have hrow := exec_svClearFault_passes h hlimp
    exact ⟨fun hl => hrow.trans (next_done (State.svClearServed_unlatched hl)),
      fun hl hgone hov => hrow.trans (next_done (State.svClearServed_clears hl hgone hov)),
      fun hl hgone => hrow.trans (next_done (State.svClearServed_persists hl hgone))⟩
  · exact (exec_svDiagCheck ..).trans (next_starts h (State.orElse_last hlimp (State.checkCmd_waits hl)))
  · exact (exec_svConfig ..).trans (next_starts h rfl)
  · exact (exec_svLearnReset ..).trans (next_starts h rfl)
  · exact (exec_svConfig2 ..).trans (next_starts h rfl)
  · exact (exec_bstOff ..).trans (next_starts h (State.orElse_last (State.offBar_none hov) rfl))
  · exact (exec_bstOn ..).trans (next_starts h (State.orElse_last hbar ((if_neg (Bool.eq_false_iff.1 hoff)).trans (State.orElse_last hov rfl))))
  · exact (exec_bstOn ..).trans (next_starts h (State.orElse_last hbar (if_pos hon)))
  · exact (exec_bstClearFault ..).trans (next_starts h (if_pos (bnot_holds hl)))
  · exact (exec_bstClearFault ..).trans (next_starts h ((if_neg (bnot_fails hl)).trans (State.orElse_last hov rfl)))
  · have hfree : barIf (b.st bstObj != 0) .refusedState 0x0D05 = none := if_neg (by simp [hoff])
    exact (exec_bstConfig ..).trans (next_starts h (State.orElse_last hfree rfl))
  · have hbar : barIf (b.st bstObj != 0) .refusedState 0x0D05 = some (.refusedState, 0x0D05) := if_pos (bne_iff_ne.2 hon)
    exact (exec_bstConfig ..).trans (next_starts h (State.orElse_refused hbar))

end Sys2Proof.Machine

/-!
The phases of an actuation, the armature search and the faults of the solenoid channels (R383, R400, R404, R407, R410 to R415, R418, R419, R421).
-/
namespace Sys2Proof.Machine

section Actuation
variable {s w : State} {dt n e imax ti vbst : Nat} {d : DipSeen} {inside : Bool}

/-! ### The end of BOOST (R400, R410, R418) -/

/-- A boost whose current stayed below 10 % of `ibst` latches, and any other goes on to PEAK, or to HOLD where there is none. -/
def State.svBoostOver (s : State) (n imax ibst tpk : Nat) : State :=
  if imax * 10 < ibst then s.svTrip n .openCoil 7
  else if tpk = 0 then (s.svBoostDone n).svHold n
  else ((s.svBoostDone n).setSt (svObj n) 2).modValve n fun v => { v with phaseEnd := tb8 (s.svBoostDone n).now + v.tpk }

theorem exec_boostEnd_due (hruns : (s.tick dt).svRuns n = true) (hst : (s.tick dt).st (svObj n) = 1)
    (hdue : ((s.tick dt).valve n).phaseEnd ≤ (s.tick dt).now + 30)
    (hw : w = ((((s.tick dt).wr Reg.SV_ACT1_EBST n (min 0xFFFF e)).wr Reg.SV_ACT0_TIBST n (min 0xFFFF ti)).wr Reg.BST_STAT_VBST 0 vbst).modValve n
      fun v => { v with drawn := e }) :
    exec (.boostEnd dt n e imax ti vbst) s =
      .next (w.svBoostOver n imax ((s.tick dt).valve n).ibst ((s.tick dt).valve n).tpk).done := by
  subst hw
  exact (exec_boostEnd ..).trans (next_done (if_neg (bnot_fails (and_holds (and_holds hruns (beq_iff_eq.2 hst)) (decide_eq_true hdue)))))

/-! ### The armature search (R411 to R413) -/

/-- A dip that counts in the open window ends the search where it lies inside, and else is kept where none was found before. -/
theorem exec_armatureDip_found (hruns : (s.tick dt).svRuns n = true) (hst : (s.tick dt).st (svObj n) = 1 ∨ (s.tick dt).st (svObj n) = 2)
    (hjudging : ((s.tick dt).valve n).judging = true) (hlo : ((s.tick dt).valve n).fwlo ≤ d.t) (hhi : d.t ≤ ((s.tick dt).valve n).fwhi)
    (hcounts : (s.tick dt).svDipCounts n d = true)
    (hinside : inside = (!((s.tick dt).flag Reg.SV_STAT_LEARNED n && !(s.tick dt).flag Reg.SV_STAT_NOBOOST n) ||
      decide (((s.tick dt).svWindow n).1 ≤ d.t ∧ d.t ≤ ((s.tick dt).svWindow n).2)))
    (hfirst : inside = true ∨ (s.tick dt).rd Reg.SV_STAT_ARM n = 0) :
    exec (.armatureDip dt n d) s = .next ((((s.tick dt).wr Reg.SV_STAT_ARM n (if inside then 1 else 3)).wr Reg.SV_ACT0_TDET n d.t).modValve n
      fun v => { v with fixedWin := !inside, judging := !inside }).done := by
  subst hinside
  have hsearched := and_holds (and_holds (and_holds (and_holds hruns (or_beq_iff.2 hst)) hjudging) (decide_eq_true (And.intro hlo hhi))) hcounts
  have hkept := and_fails (hfirst.imp (congrArg not) bne_eq_false_iff_eq.2)
  exact (exec_armatureDip ..).trans (next_done ((if_neg (bnot_fails hsearched)).trans (if_neg hkept)))

/-! ### The off test (R421) -/

/-- A channel in OFF is tested 10 ms after the last test. -/
theorem exec_svOffTest_due {v : Nat} (hn : n < 16) (hup : (s.tick dt).supplied (svObj n) = true) (hst : (s.tick dt).st (svObj n) = 0)
    (htest : (s.tick dt).flag Reg.SV_CFG4_OFFTEST n = true) (hadc : (s.tick dt).adcLost (svObj n) = false)
    (hdue : ((s.tick dt).obj (svObj n)).testAt = none ∨
      ∃ k, ((s.tick dt).obj (svObj n)).testAt = some k ∧ k + 10000000 ≤ (s.tick dt).now)
    (hw : w = (s.tick dt).modObj (svObj n) fun x => { x with tookAt := some (s.tick dt).now, testAt := some (s.tick dt).now }) :
    exec (.svOffTest dt n v) s = .next (if 250 ≤ v then w.presentNow (svObj n) else w.absentNow (svObj n) 2).done := by
  subst hw
  refine (exec_svOffTest ..).trans (next_done (if_pos ⟨hn, hup, hst, htest, ?_, bnot_holds hadc⟩))
  obtain hfirst | ⟨k, hlast, hlate⟩ := hdue
  · rw [hfirst]
  · rw [hlast]
    exact decide_eq_true hlate

end Actuation

/-- Settles O12: each event by the branch that its conditions choose. -/
theorem valveActuation : Obligations.ValveActuation := by
  intro s dt n e imax ti vbst bank v d m u o
  refine ⟨fun w hruns hst hdue hw => ?_, fun hruns hst hdue => ?_, fun hn hup hoff hst w hw hdecay => ?_,
    fun hruns hst hjudging hlo hhi hcounts inside hinside hfirst => exec_armatureDip_found hruns hst hjudging hlo hhi hcounts hinside hfirst,
    fun hruns hst hjudging hclosed => ?_, fun hruns hi hheld => ?_, fun hany => ?_, fun hruns htj => ?_, fun hn hup hst hasked htj => ?_,
    fun hn hup hst htest hadc hdue w hw => exec_svOffTest_due hn hup hst htest hadc hdue hw⟩
  · have hrow : exec (.boostEnd dt n e imax ti vbst) s = .next (w.svBoostOver n imax (u.valve n).ibst (u.valve n).tpk).done :=
      exec_boostEnd_due hruns hst hdue hw
    exact ⟨fun hopen => hrow.trans (next_done (if_pos hopen)),
      fun hcoil htpk => hrow.trans (next_done ((if_neg (Nat.not_lt.2 hcoil)).trans (if_pos htpk))),
      fun hcoil htpk => hrow.trans (next_done ((if_neg (Nat.not_lt.2 hcoil)).trans (if_neg htpk)))⟩
  · exact (exec_peakEnd ..).trans (next_done (if_pos (and_holds (and_holds hruns (beq_iff_eq.2 hst)) (decide_eq_true hdue))))
  · subst hw
    exact (exec_decayEnd ..).trans (next_done ((if_pos ⟨hn, hup, bnot_holds hoff, hst⟩).trans (if_pos hdecay)))
  · exact (exec_armatureStuck ..).trans (next_done (if_pos
      (and_holds (and_holds (and_holds hruns (or_beq_iff.2 hst)) hjudging) (decide_eq_true hclosed))))
  · exact (exec_svShort ..).trans (next_done (if_pos (and_holds hruns (decide_eq_true ⟨hi, hheld⟩))))
  · exact (exec_bankShort ..).trans (next_done (if_pos hany))
  · exact (exec_svThermal ..).trans (next_done (if_pos (and_holds hruns (decide_eq_true htj))))
  · exact (exec_svThermalRestart ..).trans (next_done (if_pos ⟨hn, hup, hst, bnot_holds hasked, htj⟩))

end Sys2Proof.Machine

/-!
What happens to the boost converter (R385 to R388).
-/
namespace Sys2Proof.Machine

/-- Settles O13: each event by the branch that its conditions choose. -/
theorem boostConverterEvents : Obligations.BoostConverterEvents := by
  intro s dt vbst vs6 m u
  refine ⟨fun hon hst hv => ?_, fun hon hst hv ht => ?_, fun hon htj => ?_, fun hup hst hasked htj => ?_, fun hon hv => ⟨_, ?_, rfl, rfl⟩,
    fun hstop hv => ⟨_, ?_, rfl, rfl⟩, fun hon hv => ?_, fun hup hv => ?_⟩
  · exact (exec_bstReady ..).trans (next_done (if_pos (and_holds (and_holds hon (beq_iff_eq.2 hst)) (decide_eq_true hv))))
  · exact (exec_bstShort ..).trans (next_done (if_pos
      (and_holds (and_holds (and_holds hon (beq_iff_eq.2 hst)) (decide_eq_true hv)) (decide_eq_true ht))))
  · exact (exec_bstThermal ..).trans (next_done (if_pos (and_holds hon (decide_eq_true htj))))
  · have hcool : ¬ (u.bstOn && decide (225 ≤ m.tj)) = true := and_fails (.inr (decide_eq_false (by omega)))
    exact (exec_bstThermal ..).trans (next_done ((if_neg hcool).trans (if_pos ⟨hup, hst, bnot_holds hasked, htj⟩)))
  · exact (exec_bstOvervoltageStop ..).trans (next_done (if_pos (and_holds hon (decide_eq_true hv))))
  · exact (exec_bstOvervoltageResume ..).trans (next_done (if_pos (and_holds hstop (decide_eq_true hv))))
  · exact (exec_bstHeadroomSet ..).trans (next_done (if_pos (and_holds hon (decide_eq_true hv))))
  · exact (exec_bstHeadroomClear ..).trans (next_done (if_pos (and_holds hup (decide_eq_true hv))))

end Sys2Proof.Machine

/-!
The commands of the motor bridges (R435, R436, R438, R440, R442, R444, R446, R447, R451, R453, R459).
-/
namespace Sys2Proof.Machine

section BridgeCommands
variable {s z : State} {dt n duty : Nat} {c : Cmd}

/-- A command that starts is one of its row's opcode. -/
theorem State.starts_op {op : Nat} {ks : List Kind} (h : s.starts dt c op ks = true) : c.op = op := by
  simp only [State.starts, spells, Bool.and_eq_true, beq_iff_eq, and_assoc] at h
  exact h.1

/-! ### HB_DRIVE and HB_MOVE (R438, R440, R444, R446, R459) -/

/-- A drive in the running direction raises its duty by a demand or lowers it at once, and any other is a demand for a start or a reversal. -/
def State.hbDriveServed (s : State) (c : Cmd) (n duty : Nat) : State :=
  if s.hbRuns n && (hbDriveOf c duty).dir == s.hbDir n then
    if s.rd Reg.HB_OUT_DUTY n < duty then
      s.submit (s.cmdDemand c (.on 2 duty) (claimsOver (s.hbStand n duty) (s.hbStand n (s.rd Reg.HB_OUT_DUTY n))) [] 0)
    else s.hbChange n (hbDriveOf c duty) (some c)
  else s.submit (s.cmdDemand c (.on (if s.hbRuns n then 1 else 0) duty) (s.hbStand n duty) (s.hbTrans n) (s.hbTransDur n))

/-- What a row answers that serves a drive: by whether the bridge runs in that direction, and by how the duty compares. -/
theorem State.hbDriveServed_answers {a : Answered} (hrow : a = .next (s.hbDriveServed c n duty).done) :
    (s.hbRuns n = false ∨ (hbDriveOf c duty).dir ≠ s.hbDir n → a =
      .next (s.submit (s.cmdDemand c (.on (if s.hbRuns n then 1 else 0) duty) (s.hbStand n duty) (s.hbTrans n) (s.hbTransDur n))).done)
    ∧ (s.hbRuns n = true → (hbDriveOf c duty).dir = s.hbDir n → s.rd Reg.HB_OUT_DUTY n < duty → a =
      .next (s.submit (s.cmdDemand c (.on 2 duty) (claimsOver (s.hbStand n duty) (s.hbStand n (s.rd Reg.HB_OUT_DUTY n))) [] 0)).done)
    ∧ (s.hbRuns n = true → (hbDriveOf c duty).dir = s.hbDir n → duty ≤ s.rd Reg.HB_OUT_DUTY n → a =
      .next (s.hbChange n (hbDriveOf c duty) (some c)).done) := by
  refine ⟨fun hother => ?_, fun hruns hdir hrise => ?_, fun hruns hdir hfall => ?_⟩
  · exact hrow.trans (next_done (if_neg (and_fails (hother.imp_right beq_eq_false_iff_ne.2))))
  · exact hrow.trans (next_done ((if_pos (and_holds hruns (beq_iff_eq.2 hdir))).trans (if_pos hrise)))
  · exact hrow.trans (next_done ((if_pos (and_holds hruns (beq_iff_eq.2 hdir))).trans (if_neg (Nat.not_lt.2 hfall))))

/-- The object `o` leads its group and is neither in limp-home, latched or waiting, nor driven by a loop: nothing but an overvoltage may bar a drive. -/
def State.HbFree (s : State) (o : Nat) : Prop := s.hbMemberBar o = none ∧ s.limpBar o = none ∧ s.onBar o = none ∧ s.loopBar o = none

/-- A drive or a motion is served once its GOAL and its duty are clamped; a motion to a position needs a valid position. -/
theorem State.hbCmd_passes (hfree : s.HbFree c.object)
    (hvalid : c.op = 0x2006 → c.argBits 16 2 2 = 0 → s.flag Reg.HB_STAT_POSVALID (objNum c.object) = true)
    (hd : duty = s.hbRaise (objNum c.object) (c.arg 18 2))
    (hz : z = (if c.op = 0x2006 then s.descClamp c 0x0A 16 2 2 (c.argBits 16 2 2) (min 2 (c.argBits 16 2 2)) else s).descClamp c 0x0A 18 0 16
      (c.arg 18 2) duty)
    (hov : z.ovBar c.object = none) : s.hbCmd c = z.hbDriveServed c (objNum c.object) duty := by
  subst hz hd
  obtain ⟨hmember, hlimp, hon, hloop⟩ := hfree
  have hplaced : barIf (c.op == 0x2006 && c.argBits 16 2 2 == 0 && !s.flag Reg.HB_STAT_POSVALID (objNum c.object)) .refusedState 0x0A09 = none := by
    refine if_neg fun hbar => ?_
    simp only [Bool.and_eq_true, beq_iff_eq, Bool.not_eq_true'] at hbar
    obtain ⟨⟨hmove, hgoal⟩, hlost⟩ := hbar
    exact absurd (hvalid hmove hgoal) (Bool.eq_false_iff.1 hlost)
  unfold State.hbCmd
  exact State.orElse_skip hmember (State.orElse_skip hlimp (State.orElse_skip hon (State.orElse_skip hloop
    (State.orElse_last hplaced (State.orElse_last hov rfl)))))

theorem exec_hbDrive_passes (h : s.starts dt c 0x2002 [.hb] = true) (hfree : (s.taken dt c).HbFree c.object)
    (hd : duty = (s.taken dt c).hbRaise (objNum c.object) (c.arg 18 2))
    (hz : z = (s.taken dt c).descClamp c 0x0A 18 0 16 (c.arg 18 2) duty) (hov : z.ovBar c.object = none) :
    exec (.hbDrive dt c) s = .next (z.hbDriveServed c (objNum c.object) duty).done := by
  have hdrive : c.op ≠ 0x2006 := by simp [State.starts_op h]
  exact (exec_hbDrive ..).trans (next_starts h (State.hbCmd_passes hfree (absurd · hdrive) hd (by rw [if_neg hdrive, hz]) hov))

theorem exec_hbMove_passes (h : s.starts dt c 0x2006 [.hb] = true) (hfree : (s.taken dt c).HbFree c.object)
    (hvalid : c.argBits 16 2 2 = 0 → (s.taken dt c).flag Reg.HB_STAT_POSVALID (objNum c.object) = true)
    (hd : duty = (s.taken dt c).hbRaise (objNum c.object) (c.arg 18 2))
    (hz : z = ((s.taken dt c).descClamp c 0x0A 16 2 2 (c.argBits 16 2 2) (min 2 (c.argBits 16 2 2))).descClamp c 0x0A 18 0 16 (c.arg 18 2) duty)
    (hov : z.ovBar c.object = none) : exec (.hbMove dt c) s = .next (z.hbDriveServed c (objNum c.object) duty).done :=
  (exec_hbMove ..).trans (next_starts h (State.hbCmd_passes hfree (fun _ => hvalid) hd (by rw [if_pos (State.starts_op h), hz]) hov))

/-! ### HB_CLEAR_FAULT (R451) -/

/-- A latch is cleared unless the stage that its temperature has latched is still above 150 degC. -/
def State.hbClearServed (s : State) (c : Cmd) : State :=
  if !s.latched c.object then (s.commanded c.object).complete c .done
  else if s.rd Reg.HB_STAT_CAUSE (objNum c.object) = 2 ∧ 200 < s.tjOf c.object then s.clearPersists c 0x0A03
  else s.orElse c [s.ovBar c.object] fun s => (((s.begin c).hbClear (objNum c.object)).commanded c.object).complete c .done

theorem exec_hbClearFault_passes (h : s.starts dt c 0x2004 [.hb] = true) (hmember : (s.taken dt c).hbMemberBar c.object = none)
    (hlimp : (s.taken dt c).limpBar c.object = none) :
    exec (.hbClearFault dt c) s = .next ((s.taken dt c).hbClearServed c).done :=
  (exec_hbClearFault ..).trans (next_starts h (State.orElse_skip hmember (State.orElse_last hlimp rfl)))

theorem State.hbClearServed_unlatched (hl : s.latched c.object = false) : s.hbClearServed c = (s.commanded c.object).complete c .done :=
  if_pos (bnot_holds hl)

theorem State.hbClearServed_clears (hl : s.latched c.object = true)
    (hgone : s.rd Reg.HB_STAT_CAUSE (objNum c.object) ≠ 2 ∨ s.tjOf c.object ≤ 200) (hov : s.ovBar c.object = none) :
    s.hbClearServed c = (((s.begin c).hbClear (objNum c.object)).commanded c.object).complete c .done :=
  (if_neg (bnot_fails hl)).trans ((if_neg (by omega)).trans (State.orElse_last hov rfl))

theorem State.hbClearServed_persists (hl : s.latched c.object = true) (hcause : s.rd Reg.HB_STAT_CAUSE (objNum c.object) = 2)
    (hhot : 200 < s.tjOf c.object) : s.hbClearServed c = s.clearPersists c 0x0A03 :=
  (if_neg (bnot_fails hl)).trans (if_pos ⟨hcause, hhot⟩)

end BridgeCommands

/-- Settles O14: each command in the state in which it meets its block, by the conditions that it passes and the branch that it then takes. -/
theorem bridgeCommandsComplete : Obligations.BridgeCommandsComplete := by
  intro s dt c b o n d g free put rise
  refine ⟨fun h hmember hlimp hov => ?_, fun h hfree z hz hov => ?_, fun h hfree hvalid z hz hov => ?_,
    fun h hmember hlimp hbar k z hk hz hov y hy => ?_, fun h hmember hlimp => ?_, fun h hmember hlimp hl => ?_, fun h hmember hlimp => ?_,
    fun h hmember hmode => ?_, fun h hmember => ?_⟩
  · exact (exec_hbOff ..).trans (next_starts h (State.orElse_skip hmember (State.orElse_skip hlimp (State.orElse_last (State.offBar_none hov) rfl))))
  · exact State.hbDriveServed_answers (exec_hbDrive_passes h hfree rfl hz hov)
  · exact State.hbDriveServed_answers (exec_hbMove_passes h hfree hvalid rfl hz hov)
  · subst hy hz hk
    exact (exec_hbBrake ..).trans (next_starts h (State.orElse_skip hmember (State.orElse_skip hlimp
      (State.orElse_last hbar (State.orElse_last hov rfl)))))
  · have hrow := exec_hbClearFault_passes h hmember hlimp
    exact ⟨fun hl => hrow.trans (next_done (State.hbClearServed_unlatched hl)),
      fun hl hgone hov => hrow.trans (next_done (State.hbClearServed_clears hl hgone hov)),
      fun hl hcause hhot => hrow.trans (next_done (State.hbClearServed_persists hl hcause hhot))⟩
  · exact (exec_hbDiagCheck ..).trans (next_starts h (State.orElse_skip hmember (State.orElse_last hlimp (State.checkCmd_waits hl))))
  · exact (exec_hbSetpos ..).trans (next_starts h (State.orElse_skip hmember (State.orElse_last hlimp rfl)))
  · exact (exec_hbConfig ..).trans (next_starts h (State.orElse_skip hmember (State.orElse_last hmode rfl)))
  · exact (exec_hbConfig2 ..).trans (next_starts h (State.orElse_last hmember rfl))

end Sys2Proof.Machine

/-!
The motions of the bridges: ripples, stalls, traps, ramps, reversals and faults (R443, R445, R446, R449, R450, R453 to R457).
-/
namespace Sys2Proof.Machine

section Motions
variable {s v : State} {dt n rate a mean p : Nat} {r : RippleSeen} {l : Lasting}

/-! ### RIPPLE_COUNT (R443, R454, R455, R457) -/

/-- A ripple in a drive counts down a trap reversal, which ends at 0, and ends a motion to a position that stands on its TARGET. -/
def State.rippleCounted (s : State) (n pos : Nat) : State :=
  if !(s.st (hbObj n) == 1 || s.st (hbObj n) == 2) then s
  else match (s.bridge n).trap with
    | some k => if k ≤ 1 then s.hbEnd n 4 else s.modBridge n fun b => { b with trap := some (k - 1) }
    | none => if (s.bridge n).goal = some 0 ∧ pos = s.rd Reg.HB_POS_TARGET n then s.hbEnd n 0 else s

/-- The state in which a ripple at the position `pos` has been counted and measured. -/
def State.rippleNoted (s : State) (n pos rate i : Nat) : State :=
  let x := ((s.wr Reg.HB_POS_POS n pos).wr Reg.HB_MEAS_RIPRATE n (min 0xFFFF rate)).hbAmps n i
  x.modBridge n fun b => { b with ripples := b.ripples + 1, rippleAt := x.now }

theorem exec_rippleCount_counts (hlive : (s.tick dt).hbLive n = true) (hripple : (s.tick dt).hbRipples n rate r = true)
    (hp : p = ((s.tick dt).rd Reg.HB_POS_POS n + if (s.tick dt).rd Reg.HB_STAT_DIR n = 0 then 1 else 65535) % 65536)
    (hv : v = (s.tick dt).rippleNoted n p rate r.i) :
    exec (.rippleCount dt n rate r) s = .next (v.rippleCounted n p).done := by
  have hup : (if ((s.tick dt).rd Reg.HB_STAT_DIR n == 0) = true then 1 else 65535) = if (s.tick dt).rd Reg.HB_STAT_DIR n = 0 then 1 else 65535 := by
    simp only [beq_iff_eq]
  rw [← hup] at hp
  subst hv hp
  exact (exec_rippleCount ..).trans (next_done (if_neg (bnot_fails (and_holds hlive hripple))))

theorem State.rippleCounted_coasts (h1 : s.st (hbObj n) ≠ 1) (h2 : s.st (hbObj n) ≠ 2) : s.rippleCounted n p = s :=
  if_pos (by simp [h1, h2])

section Driving
variable (hdrives : s.st (hbObj n) = 1 ∨ s.st (hbObj n) = 2)
include hdrives

theorem State.rippleCounted_motion (htrap : (s.bridge n).trap = none) :
    s.rippleCounted n p = if (s.bridge n).goal = some 0 ∧ p = s.rd Reg.HB_POS_TARGET n then s.hbEnd n 0 else s := by
  refine (if_neg (bnot_fails (or_beq_iff.2 hdrives))).trans ?_
  rw [htrap]

theorem State.rippleCounted_trap {k : Nat} (htrap : (s.bridge n).trap = some k) :
    s.rippleCounted n p = if k ≤ 1 then s.hbEnd n 4 else s.modBridge n fun b => { b with trap := some (k - 1) } := by
  refine (if_neg (bnot_fails (or_beq_iff.2 hdrives))).trans ?_
  rw [htrap]

end Driving

/-! ### HB_STALL (R443, R456) -/

/-- A stall ends a home motion at its TARGET, a trap reversal, or any other drive. -/
def State.stallEnds (s : State) (n : Nat) : State :=
  if (s.bridge n).goal = some 1 then ((s.wr Reg.HB_POS_POS n (s.rd Reg.HB_POS_TARGET n)).wr Reg.HB_STAT_POSVALID n 1).hbEnd n 1
  else if (s.bridge n).trap.isSome then s.hbEnd n 4
  else s.hbEnd n 3

theorem exec_hbStall_stalls (hlive : (s.tick dt).hbLive n = true) (hst : (s.tick dt).st (hbObj n) = 2)
    (hduty : 6554 ≤ (s.tick dt).rd Reg.HB_OUT_DEFF n) (hstalled : (s.tick dt).hbStalled n l = true) (hv : v = (s.tick dt).hbAmps n l.v) :
    exec (.hbStall dt n l) s = .next (v.stallEnds n).done := by
  subst hv
  exact (exec_hbStall ..).trans (next_done (if_neg (bnot_fails
    (and_holds (and_holds (and_holds hlive (beq_iff_eq.2 hst)) (decide_eq_true hduty)) hstalled))))

/-! ### HB_TRAP (R457) -/

theorem exec_hbTrap_reverses (hlive : (s.tick dt).hbLive n = true) (hst : (s.tick dt).st (hbObj n) = 2)
    (hth : (s.tick dt).rd Reg.HB_CFG3_TRAPTH n ≠ 0) (hdir : (s.tick dt).rd Reg.HB_STAT_DIR n = (s.tick dt).rd Reg.HB_CFG3_TRAPDIR n)
    (hzone : (s.tick dt).inZone n = true) (hripples : 16 ≤ ((s.tick dt).bridge n).ripples) (htrap : ((s.tick dt).bridge n).trap = none)
    (hpeak : (sgn 16 mean).natAbs + 10 * (s.tick dt).rd Reg.HB_CFG3_TRAPTH n < (sgn 16 a).natAbs)
    (hv : v = (((((s.tick dt).hbAmps n a).raise 0x0A84 (hbObj n) (atByte 18 (((s.tick dt).hbAmps n a).rd Reg.HB_POS_POS n) + atByte 20 a
      + atByte 22 mean)).hbSt n 4).wr Reg.HB_OUT_DEFF n 0)) :
    exec (.hbTrap dt n a mean) s = .next (v.modBridge n fun b => { b with
      trap := some (v.rd Reg.HB_CFG3_REVCNT n), revEnd := v.now + v.rd Reg.HB_CFG1_TREV n * 1000000, rampEnd := none
      after := some (1 - v.rd Reg.HB_STAT_DIR n, v.rd Reg.HB_OUT_DUTY n) }).done := by
  subst hv
  have hobstacle := and_holds (and_holds (and_holds (and_holds (and_holds (and_holds (and_holds hlive (beq_iff_eq.2 hst)) (bne_iff_ne.2 hth))
    (beq_iff_eq.2 hdir)) hzone) (decide_eq_true hripples)) (Option.isNone_iff_eq_none.2 htrap)) (decide_eq_true hpeak)
  exact (exec_hbTrap ..).trans (next_done (if_neg (bnot_fails hobstacle)))

/-! ### HB_RAMP_END (R445) -/

theorem exec_hbRampEnd_due {t : Nat} (hlive : (s.tick dt).hbLive n = true) (hst : (s.tick dt).st (hbObj n) = 1)
    (hramp : ((s.tick dt).bridge n).rampEnd = some t) (hdue : t ≤ (s.tick dt).now)
    (hv : v = ((s.tick dt).hbSt n 2).wr Reg.HB_OUT_DEFF n ((s.tick dt).hbMinDuty n ((s.tick dt).rd Reg.HB_OUT_DUTY n))) :
    exec (.hbRampEnd dt n) s = .next (v.modBridge n fun b => { b with rampEnd := none, ripples := 0, runAt := v.now }).done := by
  subst hv
  refine (exec_hbRampEnd ..).trans (next_done (if_pos (and_holds (and_holds hlive (beq_iff_eq.2 hst)) ?_)))
  rw [hramp]
  exact decide_eq_true hdue

/-! ### HB_REVERSE_END (R446, R457) -/

/-- After TREV a trap reversal of no ripples ends, and any other drives on in the opposite direction. -/
def State.reverseOver (s : State) (n : Nat) : State :=
  if (s.bridge n).trap = some 0 then s.hbEnd n 4
  else match (s.bridge n).after with
    | some a => (s.modBridge n fun b => { b with after := none }).hbGo n { dir := a.1, duty := a.2 }
    | none => s.hbEnd n 6

theorem exec_hbReverseEnd_due (hlive : (s.tick dt).hbLive n = true) (hst : (s.tick dt).st (hbObj n) = 4)
    (hdue : ((s.tick dt).bridge n).revEnd ≤ (s.tick dt).now) :
    exec (.hbReverseEnd dt n) s = .next ((s.tick dt).reverseOver n).done :=
  (exec_hbReverseEnd ..).trans (next_done (if_neg (bnot_fails (and_holds (and_holds hlive (beq_iff_eq.2 hst)) (decide_eq_true hdue)))))

theorem State.reverseOver_starts {dir duty : Nat} (htrap : (s.bridge n).trap ≠ some 0) (hafter : (s.bridge n).after = some (dir, duty)) :
    s.reverseOver n = (s.modBridge n fun b => { b with after := none }).hbGo n { dir, duty } := by
  refine (if_neg htrap).trans ?_
  rw [hafter]

/-! ### The faults of a bridge (R449, R450) -/

/-- Shorts and overtemperatures are judged in RAMP to REVERSE and in BRAKE. -/
theorem State.hbConducts (hlive : s.hbLive n = true) (hon : s.hbRuns n = true ∨ s.st (hbObj n) = 3) :
    (s.hbLive n && (s.hbRuns n || s.st (hbObj n) == 3)) = true :=
  and_holds hlive (Bool.or_eq_true_iff.2 (hon.imp_right beq_iff_eq.2))

end Motions

/-- Settles O15: each event by the branch that its conditions choose, a ripple, a stall and the end of TREV by what they then find. -/
theorem bridgeMotions : Obligations.BridgeMotions := by
  intro s dt n rate a mean p r l m u o
  refine ⟨fun hlive hripple hp v hv => ?_, fun hlive hst hduty hstalled v hv => ?_, fun hlive hruns htimed hdue => ?_,
    fun hlive hst hth hdir hzone hripples htrap hpeak v hv => exec_hbTrap_reverses hlive hst hth hdir hzone hripples htrap hpeak hv,
    fun t hlive hst hramp hdue v hv => exec_hbRampEnd_due hlive hst hramp hdue hv, fun dir duty hlive hst hdue htrap hafter => ?_,
    fun hlive hst hdue htrap => ?_, fun hlive hon hvds hheld => ?_, fun hlive hon htj => ?_, fun hlive hst hasked htj => ?_,
    fun hlive hst hduty hdue hadc => ?_⟩
  · have hrow : exec (.rippleCount dt n rate r) s = .next (v.rippleCounted n p).done := exec_rippleCount_counts hlive hripple hp hv
    refine ⟨fun h1 h2 => hrow.trans (next_done (State.rippleCounted_coasts h1 h2)), fun hdrives htrap => ?_, fun k hdrives htrap => ?_⟩
    · have hmotion := hrow.trans (next_done (State.rippleCounted_motion hdrives htrap))
      exact ⟨fun hgoal hat => hmotion.trans (next_done (if_pos ⟨hgoal, hat⟩)),
        fun hnot => hmotion.trans (next_done (if_neg fun ⟨hgoal, hat⟩ => hnot.elim (absurd hgoal) (absurd hat)))⟩
    · have htrapped := hrow.trans (next_done (State.rippleCounted_trap hdrives htrap))
      exact ⟨fun hlast => htrapped.trans (next_done (if_pos hlast)), fun hmore => htrapped.trans (next_done (if_neg (Nat.not_le.2 hmore)))⟩
  · have hrow : exec (.hbStall dt n l) s = .next (v.stallEnds n).done := exec_hbStall_stalls hlive hst hduty hstalled hv
    exact ⟨fun hhome => hrow.trans (next_done (if_pos hhome)),
      fun hother htrap => hrow.trans (next_done ((if_neg hother).trans (if_pos htrap))),
      fun hother htrap => hrow.trans (next_done ((if_neg hother).trans (if_neg (by simp [htrap]))))⟩
  · exact (exec_hbTmaxExpiry ..).trans (next_done (if_pos (and_holds (and_holds (and_holds hlive hruns) htimed) (decide_eq_true hdue))))
  · exact (exec_hbReverseEnd_due hlive hst hdue).trans (next_done (State.reverseOver_starts htrap hafter))
  · exact (exec_hbReverseEnd_due hlive hst hdue).trans (next_done (if_pos htrap))
  · exact (exec_hbShort ..).trans (next_done (if_pos (and_holds (State.hbConducts hlive hon) (decide_eq_true ⟨hvds, hheld⟩))))
  · exact (exec_hbThermal ..).trans (next_done (if_pos (and_holds (State.hbConducts hlive hon) (decide_eq_true htj))))
  · exact (exec_hbThermalRestart ..).trans (next_done (if_pos
      (and_holds (and_holds (and_holds hlive (beq_iff_eq.2 hst)) (bnot_holds hasked)) (decide_eq_true htj))))
  · exact (exec_hbOpenDetect ..).trans (next_done (if_pos
      (and_holds (and_holds (and_holds (and_holds hlive (beq_iff_eq.2 hst)) (decide_eq_true hduty)) (decide_eq_true hdue)) (bnot_holds hadc))))

end Sys2Proof.Machine

/-!
The commands of the control loops and a loop's sample (R468, R471, R472, R477, R478, R483, R486, R487, R489, R490, R493).
-/
namespace Sys2Proof.Machine

section LoopRows
variable {s v : State} {dt n m age raw off k : Nat} {c : Cmd}

/-- A loop is not closed exactly where it stands OPEN (R486). -/
theorem State.closedBar_none_iff : s.closedBar n = none ↔ s.rd Reg.LP_STAT_STATE n = 0 := by simp [State.closedBar, barIf]

/-! ### LOOP_OPEN (R489, R490) -/

/-- The condition of LOOP_OPEN: only the way to a mode other than 0 from a loop that is not OPEN stops at an overvoltage. -/
theorem State.loopOpenBar_none (h : s.rd Reg.LP_STAT_STATE n = 0 ∨ m = 0 ∨ s.ovBar (s.loopObj n) = none) :
    (if s.rd Reg.LP_STAT_STATE n == 0 || m == 0 then none else s.ovBar (s.loopObj n)) = none :=
  ite_eq_left_iff.2 fun hasks => by
    obtain hopen | hmode | hov := h
    · exact absurd (by simp [hopen]) hasks
    · exact absurd (by simp [hmode]) hasks
    · exact hov

/-- LOOP_OPEN of an OPEN loop has its outcome, and of any other starts the way to OPEN in the mode `m`. -/
def State.loopOpenServed (s : State) (c : Cmd) (opened : Bool) (m : Nat) : State :=
  if opened then s.complete c .done else (((s.begin c).loopMode (objNum c.object) m).loopToOpen (objNum c.object) 1 .done 0).complete c .done

theorem exec_loopOpen_passes (h : s.starts dt c 0x2001 [.loop] = true) (hm : m = min 2 (c.argBits 16 0 2))
    (hbar : (s.taken dt c).rd Reg.LP_STAT_STATE (objNum c.object) = 0 ∨ m = 0
      ∨ (s.taken dt c).ovBar ((s.taken dt c).loopObj (objNum c.object)) = none) :
    exec (.loopOpen dt c) s = .next (((s.taken dt c).descClamp c 0x10 16 0 2 (c.argBits 16 0 2) m).loopOpenServed c
      ((s.taken dt c).rd Reg.LP_STAT_STATE (objNum c.object) == 0) m).done := by
  subst hm
  exact (exec_loopOpen ..).trans (next_starts h (State.orElse_last (State.loopOpenBar_none hbar) rfl))

/-! ### LOOP_CLOSE (R468, R483, R484, R489) -/

/-- Nothing bars LOOP_CLOSE `c` of loop `n`: each field denies one of its conditions. -/
structure State.MayClose (s : State) (c : Cmd) (n : Nat) : Prop where
  isOpen : s.closedBar n = none
  owned : s.ownerFor c (s.loopObj n) = c.pf
  bound : s.loopBound n = true
  sole : ∀ m, m < 48 → m ≠ n → s.loopObj m = s.loopObj n → s.rd Reg.LP_STAT_STATE m = 0
  driven : s.loopDriven n = true
  unfrozen : s.ovBar (s.loopObj n) = none

theorem State.noRivalLoop (hsole : ∀ m, m < 48 → m ≠ n → s.loopObj m = s.loopObj n → s.rd Reg.LP_STAT_STATE m = 0) :
    ¬ ((List.range 48).any fun m => m != n && s.loopObj m == s.loopObj n && s.rd Reg.LP_STAT_STATE m != 0) = true := by
  intro hrival
  simp only [List.any_eq_true, List.mem_range, Bool.and_eq_true, bne_iff_ne, beq_iff_eq] at hrival
  obtain ⟨m, hm, ⟨hother, hobj⟩, hclosed⟩ := hrival
  exact hclosed (hsole m hm hother hobj)

theorem exec_loopClose_passes {y : State} {d : Demand} (h : s.starts dt c 0x2002 [.loop] = true) (hmay : (s.taken dt c).MayClose c (objNum c.object))
    (hy : y = if (s.taken dt c).flag Reg.LP_STAT_EVER (objNum c.object) then s.taken dt c
      else (s.taken dt c).descClamp c 0x10 16 0 1 (c.argBits 16 0 1) 0)
    (hv : v = y.putImage c 0x10 (y.limitPuts (objNum c.object)))
    (hd : d = { v.cmdDemand c (.on 0 0) (v.loopExtra (objNum c.object)) [] 0 with cls := (s.taken dt c).demandClass c }) :
    exec (.loopClose dt c) s = .next (if (v.loopExtra (objNum c.object)).isEmpty then v.loopEngage d else v.submit d).done := by
  subst hd hv hy
  obtain ⟨hopen, howned, hbound, hsole, hdriven, hov⟩ := hmay
  exact (exec_loopClose ..).trans (next_starts h
    (State.orElse_skip (if_neg (by simp [howned])) (State.orElse_skip (if_neg (bnot_fails hbound))
      (State.orElse_skip (if_neg (State.noRivalLoop hsole)) (State.orElse_skip (if_neg (bnot_fails hdriven))
        (State.orElse_skip hopen (State.orElse_last hov rfl)))))))

/-! ### The configuration commands (R486) -/

theorem State.loopImage_writes (hopen : s.rd Reg.LP_STAT_STATE (objNum c.object) = 0) : s.loopImage c off k =
    ((s.begin c).putImage c 0x10 (imagePuts c 0x10 (0x40 * objNum c.object + off) k)).complete c .done := by
  simp only [State.loopImage, State.closedBar_none_iff.2 hopen]

/-! ### LOOP_SAMPLE (R471, R472, R478) -/

/-- A loop is sampled that is closed or closing, at its place in its period. -/
structure State.SampleDue (s : State) (n : Nat) : Prop where
  alive : s.dieC = true
  isLoop : n < 48
  runs : s.rd Reg.LP_STAT_STATE n = 1 ∨ s.rd Reg.LP_STAT_STATE n = 2
  due : s.loopDue n = true

theorem State.SampleDue.holds (h : s.SampleDue n) :
    (s.dieC && decide (n < 48) && (s.rd Reg.LP_STAT_STATE n == 1 || s.rd Reg.LP_STAT_STATE n == 2) && s.loopDue n) = true :=
  and_holds (and_holds (and_holds h.alive (decide_eq_true h.isLoop)) (or_beq_iff.2 h.runs)) h.due

/-- A loss that bars only the source `k` bars no other source, nor that one while it is in order. -/
theorem bnot_beq_and_holds {src : Nat} {lost : Bool} (h : src = k → lost = false) : (!(src == k && lost)) = true :=
  bnot_holds (Bool.and_eq_false_imp.2 fun hsrc => h (beq_iff_eq.1 hsrc))

theorem exec_loopSample_valid (hdue : (s.tick dt).SampleDue n) (hv : v = (s.tick dt).modLoop n fun l => { l with sampleAt := (s.tick dt).now })
    (hage : age ≤ 2 * v.loopRefresh n)
    (hadc : (s.tick dt).rd Reg.LP_CFG0_FBSRC n = 0 → (s.tick dt).adcLost ((s.tick dt).loopObj n) = false)
    (hntc : (s.tick dt).rd Reg.LP_CFG0_FBSRC n = 1 → (s.tick dt).flag Reg.LD_STAT_NTCFAULT ((s.tick dt).rd Reg.LP_CFG0_FBIDX n) = false) :
    exec (.loopSample dt n age raw) s = .next (v.loopValid n (v.loopFeed n raw)).done := by
  subst hv
  exact (exec_loopSample ..).trans (next_done ((if_pos hdue.holds).trans
    (if_pos (and_holds (and_holds (decide_eq_true hage) (bnot_beq_and_holds hntc)) (bnot_beq_and_holds hadc)))))

theorem exec_loopSample_missed (hdue : (s.tick dt).SampleDue n) (hv : v = (s.tick dt).modLoop n fun l => { l with sampleAt := (s.tick dt).now })
    (hage : 2 * v.loopRefresh n < age) : exec (.loopSample dt n age raw) s = .next (v.loopMiss n).done := by
  subst hv
  exact (exec_loopSample ..).trans (next_done ((if_pos hdue.holds).trans
    (if_neg (and_fails (.inl (Bool.and_eq_false_iff.2 (.inl (decide_eq_false (Nat.not_le.2 hage)))))))))

end LoopRows

/-- Settles O17: each command in the state in which it meets its block, by the branch that it then takes, and a sample by its age and its source. -/
theorem loopRows : Obligations.LoopRows := by
  intro s dt c n age raw b i u m x
  refine ⟨fun h => ⟨fun hopen => ?_, fun hrun hbar => ?_⟩, fun h hopen howned hbound hsole hdriven hov y v hy hv d hd => ?_,
    fun h => ?_, fun h => ?_, fun h hopen => ?_, fun h hopen => ?_, fun h hopen => ?_, fun h => ?_, fun hdie hn hruns hdue v hv => ?_⟩
  · exact (exec_loopOpen_passes h rfl (.inl hopen)).trans (next_done (if_pos (beq_iff_eq.2 hopen)))
  · exact (exec_loopOpen_passes h rfl (.inr hbar)).trans (next_done (if_neg (mt beq_iff_eq.1 hrun)))
  · have hrow := exec_loopClose_passes h ⟨hopen, howned, hbound, hsole, hdriven, hov⟩ hy hv hd
    exact ⟨fun hclaims => hrow.trans (next_done (if_neg (mt List.isEmpty_iff.1 hclaims))),
      fun hnone => hrow.trans (next_done (if_pos (List.isEmpty_iff.2 hnone)))⟩
  · exact (exec_loopSetpoint ..).trans (next_starts h rfl)
  · exact (exec_clearFlags ..).trans (next_starts h rfl)
  · exact (exec_loopConfig ..).trans (next_starts h (State.loopImage_writes hopen))
  · exact (exec_loopCoef ..).trans (next_starts h (State.loopImage_writes hopen))
  · exact (exec_loopLimits ..).trans (next_starts h (State.loopImage_writes hopen))
  · exact (exec_loopSlew ..).trans (next_starts h rfl)
  · have hsample : u.SampleDue n := ⟨hdie, hn, hruns, hdue⟩
    refine ⟨fun hage hsrc => ?_, fun hage hsrc hadc => ?_, fun hage hsrc hntc => ?_, exec_loopSample_missed hsample hv⟩
    · exact exec_loopSample_valid hsample hv hage (fun h0 => absurd (h0 ▸ hsrc) (by decide)) fun h1 => absurd (h1 ▸ hsrc) (by decide)
    · exact exec_loopSample_valid hsample hv hage (fun _ => hadc) fun h1 => absurd (hsrc.symm.trans h1) Nat.zero_ne_one
    · exact exec_loopSample_valid hsample hv hage (fun h0 => absurd (h0.symm.trans hsrc) Nat.zero_ne_one) fun _ => hntc

end Sys2Proof.Machine

/-!
The switch inputs and the isolated inputs: commands, samples, wakes and wire breaks (R502 to R520, R884).
-/
namespace Sys2Proof.Machine

section Inputs
variable {s x w : State} {dt n vin : Nat} {c : Cmd} {was low : Bool} {a : Lasting}

/-- An II_CONFIG whose image is written waits for the next downlink frame (R516). -/
theorem exec_iiConfig_waits (h : s.starts dt c 0x3001 [.ii] = true)
    (hw : w = ((s.taken dt c).begin c).putImage c 0x12 (imagePuts c 0x12 (0x10 * objNum c.object) 2)) :
    exec (.iiConfig dt c) s = .next ({ w with inp := { w.inp with configs := w.inp.configs ++ [c] } } : State).done := by
  rw [hw]
  exact (exec_iiConfig ..).trans (next_starts h rfl)

/-! ### SW_SAMPLE (R503, R884) -/

/-- A sample of input `n`, whose level was `was`, starts a search: the level has risen, and the input is the one that starts searches (R884). -/
def State.searchDue (s : State) (was : Bool) (n : Nat) : Bool :=
  !was && s.flag Reg.SW_STAT_LEVEL n && s.dieC && s.flag Reg.ACC_CFG_STARTEN && s.rd Reg.ACC_CFG_STARTSW == n && !s.accBusy

theorem State.searchDue_holds (hlevel : s.flag Reg.SW_STAT_LEVEL n = true) (hwas : was = false) (hdie : s.dieC = true)
    (hen : s.flag Reg.ACC_CFG_STARTEN = true) (hsw : s.rd Reg.ACC_CFG_STARTSW = n) (hfree : s.accBusy = false) : s.searchDue was n = true := by
  simp [State.searchDue, hlevel, hwas, hdie, hen, hsw, hfree]

theorem State.searchDue_fails (h : s.flag Reg.SW_STAT_LEVEL n = false ∨ was = true ∨ s.flag Reg.ACC_CFG_STARTEN = false
    ∨ s.rd Reg.ACC_CFG_STARTSW ≠ n) : ¬ s.searchDue was n = true := by
  obtain h | h | h | h := h <;> simp [State.searchDue, h]

/-- A sample that is due is taken, and then starts a search or not. -/
theorem exec_swSample_due (hn : n < 64) (hfront : (s.tick dt).frontEnd = true) (hdue : (s.tick dt).swDue n = true)
    (hx : x = ((s.tick dt).swTake n vin).parkCheck.freshInputs) :
    exec (.swSample dt n vin) s =
      .next (if x.searchDue ((s.tick dt).flag Reg.SW_STAT_LEVEL n) n then x.searchStart 2 0 else x).done := by
  have hskip : ¬ (decide (64 ≤ n) || !(s.tick dt).frontEnd || !(s.tick dt).swDue n) = true := by simp [hn, hfront, hdue]
  rw [hx]
  exact (exec_swSample ..).trans (next_done (if_neg hskip))

/-! ### WIRE_BREAK (R518) -/

/-- A current that has stayed for 10 ms on the other side of the threshold changes WIREBRK: `low` says that it lies below (R518). -/
theorem exec_wireBreak_changes (hn : n < 16) (hdie : (s.tick dt).dieC = true) (hup : (s.tick dt).flag Reg.BAR_STAT_UP = true)
    (hheld : 10000000 ≤ a.held) (hlow : decide (a.v < (s.tick dt).rd Reg.II_CFG1_WBTH n) = low)
    (hwas : (s.tick dt).flag Reg.II_STAT_WIREBRK n = !low) (hen : low = true → (s.tick dt).flag Reg.II_CFG0_WBEN n = true) :
    exec (.wireBreak dt n a) s = .next ((((((s.tick dt).wr Reg.II_STAT_IIN n a.v).wrb Reg.II_STAT_WIREBRK n low).wr Reg.II_STAT_VALID n 0).modIi n
      fun x => { x with run := 0 }).raise 0x1282 (0x140 + n) (atByte 16 (b2n low) + atByte 18 (min 0xFFFF a.v))).done := by
  subst hlow
  refine (exec_wireBreak ..).trans (next_done (if_neg ?_))
  simp only [hdie, hup, hwas, Bool.not_true, Bool.or_false, Bool.or_eq_true, Bool.and_eq_true, Bool.not_eq_true', decide_eq_true_eq, beq_iff_eq]
  rintro (((h | h) | ⟨h, hoff⟩) | h)
  · exact absurd h (Nat.not_le.2 hn)
  · exact (Bool.eq_not_self _).1 h
  · exact absurd (hen (decide_eq_true h)) (Bool.eq_false_iff.1 hoff)
  · exact absurd h (Nat.not_lt.2 hheld)

end Inputs

/-- Settles O18: each command in the state in which it meets its block, each event by the branch that its conditions choose. -/
theorem inputRows : Obligations.InputRows := by
  intro s dt c n vin a v b i u x
  refine ⟨fun h => ?_, fun h w hw => exec_iiConfig_waits h hw, fun h hi => ?_, fun h hi => ?_,
    fun hn hfront hdue => ⟨fun hstay => ?_, fun hlevel hwas hdie hen hsw hfree => ?_⟩, fun hwatch hwake => ?_, fun hwatch hwake => ?_,
    fun hn hdie hup hheld => ⟨fun hen hwas hlow => ?_, fun hwas hhigh => ?_⟩⟩
  · exact (exec_swConfig ..).trans (next_starts h rfl)
  · exact (exec_countClear ..).trans (next_starts h (if_neg (Nat.not_lt.2 hi)))
  · exact (exec_countClear ..).trans (next_starts h (if_pos hi))
  · exact (exec_swSample_due hn hfront hdue rfl).trans (next_done (if_neg (State.searchDue_fails hstay)))
  · exact (exec_swSample_due hn hfront hdue rfl).trans (next_done (if_pos (State.searchDue_holds hlevel hwas hdie hen hsw hfree)))
  · exact (exec_staticWake ..).trans (next_done ((if_neg (bnot_fails hwatch)).trans (if_pos hwake)))
  · exact (exec_pollWake ..).trans (next_done ((if_neg (bnot_fails hwatch)).trans (if_pos hwake)))
  · exact exec_wireBreak_changes hn hdie hup hheld (decide_eq_true hlow) hwas fun _ => hen
  · exact exec_wireBreak_changes hn hdie hup hheld (decide_eq_false (Nat.not_lt.2 hhigh)) hwas nofun

end Sys2Proof.Machine

/-!
The serial barrier: its frames, its loss and the loss of the field supply (R516 to R521, R529 to R532).
-/
namespace Sys2Proof.Machine

section Frames
variable {s v w : State} {dt seq vfld : Nat} {vins iin rises falls : List Nat} {crc : Bool}

/-- An uplink frame in its slot is judged once the field side has counted its edges and read its comparators (R517, R520, R530). -/
theorem State.uplink_due (hdue : s.barDue s.inp.up = true) (hv : v = (s.fieldCount rises falls).fieldRead vins) (hdie : v.dieC = true)
    (hw : w = ({ v with inp := { v.inp with up := (v.inp.up.take v.now (some (crc, seq))).1 } } : State)) :
    s.uplink crc seq vins iin rises falls vfld =
      if (v.inp.up.take v.now (some (crc, seq))).2 then w.upGood w.fieldRaw iin vfld else w.bump Reg.BAR_ERR_UPBAD 0 := by
  subst hw hv
  exact (if_neg (bnot_fails hdue)).trans (if_neg (bnot_fails hdie))

/-- The count clears that wait are told to the field side (R520). -/
def State.tellClears (s : State) : State :=
  (List.range 4).foldl (fun s n => if (s.ii n).clears.isEmpty then s
    else ({ s with inp := { s.inp with counts := tput s.inp.counts n 0 } } : State).modIi n fun x => { x with told := true }) s

/-- The II_CONFIG commands that wait for a downlink frame complete (R535). -/
def State.endConfigs (s : State) : State :=
  s.inp.configs.foldl (fun s c => s.complete c .done) ({ s with inp := { s.inp with configs := [] } } : State)

/-- A downlink frame in its slot carries the configuration and the clears where it is good, and ends the wait of the II_CONFIG commands (R516, R520). -/
theorem exec_barrierDownlinkFrame_due (hdie : (s.tick dt).dieC = true) (hdue : (s.tick dt).barDue (s.tick dt).inp.dn = true)
    (hv : v = ((s.tick dt).dnTake (some (crc, seq))).1) :
    exec (.barrierDownlinkFrame dt crc seq) s =
      .next (if !((s.tick dt).dnTake (some (crc, seq))).2 then v else v.fieldConfig.tellClears).endConfigs.done := by
  subst hv
  exact (exec_barrierDownlinkFrame ..).trans (next_done (if_neg (or_fails (congrArg not hdie) (congrArg not hdue))))

end Frames

/-- Settles O20: each frame by how its receiver judges it, each loss by the branch that its conditions choose. -/
theorem barrierRows : Obligations.BarrierRows := by
  intro s dt seq vfld vins iin rises falls crc field u
  refine ⟨fun v w hdue hv hdie hw => ?_, fun hdie hdue v w hv hw => ?_, fun hdie hdue => ?_, fun hdue => ?_, fun hdie hup hbad => ?_,
    fun v hv hdie => ?_⟩
  · exact ⟨fun hgood => (exec_barrierUplinkFrame ..).trans
        (next_done (congrArg State.freshInputs ((State.uplink_due hdue hv hdie hw).trans (if_pos hgood)))),
      fun hbad => (exec_barrierUplinkFrame ..).trans
        (next_done (congrArg State.freshInputs ((State.uplink_due hdue hv hdie hw).trans (if_neg (Bool.eq_false_iff.1 hbad)))))⟩
  · subst hw
    have hrow := exec_barrierDownlinkFrame_due hdie hdue hv
    exact ⟨fun hbad => hrow.trans (next_done (congrArg State.endConfigs (if_pos (bnot_holds hbad)))),
      fun hgood => hrow.trans (next_done (congrArg State.endConfigs (if_neg (bnot_fails hgood))))⟩
  · exact (exec_barrierFrameMissing ..).trans (next_done (if_neg (or_fails (congrArg not hdie) (congrArg not hdue))))
  · exact (exec_barrierFrameMissing ..).trans (next_done (if_neg (bnot_fails hdue)))
  · have hthird : (if field then u.inp.dn.bad == 3 else u.inp.up.bad == 3) = true := by
      cases field <;> exact beq_iff_eq.2 hbad
    exact ⟨_, _, _, rfl, rfl, rfl, (exec_barrierLoss ..).trans (next_done (if_neg (bnot_fails (and_holds (and_holds hdie hup) hthird))))⟩
  · subst hv
    exact (exec_fieldPowerLoss ..).trans (next_done (if_pos hdie))

end Sys2Proof.Machine

/-!
The retirement log (R811 to R813).
-/
namespace Sys2Proof.Machine

/-- Settles O47: time and the queue are no part of the log, and every row's meaning only appends to it. -/
theorem retirementsAreIrreversible : Obligations.RetirementsAreIrreversible := by
  intro s t h
  obtain rfl | ⟨dt, q, hk⟩ := step_next_cases h
  · exact List.prefix_refl _
  · exact hk.retired

end Sys2Proof.Machine

/-!
The fault state of a block and its history queue (R789, R791, R797).
-/
namespace Sys2Proof.Machine

theorem Blk.noteFault_first {b : Blk} (type : Nat) (h : b.active = false) :
    b.noteFault type = { b with active := true, merge := 0, firstev := type % 256, faults := satAdd 16 b.faults 1 } :=
  if_neg (Bool.eq_false_iff.1 h)

theorem Blk.noteFault_merges {b : Blk} (type : Nat) (h : b.active = true) :
    b.noteFault type = { b with merge := min (b.merge + 1) 255, faults := satAdd 16 b.faults 1 } := if_pos h

section Deliver
variable {s : State} {type obj data : Nat} {x : Blk}

theorem State.raise_blk (hdie : s.dieC = true) : (s.raise type obj data).blk (blockOf type) =
    (s.blk (blockOf type)).remember { type, object := obj, merge := 0, time := s.ntime, data } false false false := by
  unfold State.raise State.raiseTo
  rw [if_pos hdie]
  exact (tget_tput ..).trans (if_pos rfl)

theorem State.raiseFault_blk (hdie : s.dieC = true) (hx : (s.blk (blockOf type)).noteFault type = x) :
    (s.raiseFault type obj data).blk (blockOf type) =
      x.remember { type, object := obj, merge := x.merge, time := s.ntime, data } (s.blk (blockOf type)).active true false := by
  subst hx
  unfold State.raiseFault State.raiseTo
  rw [if_pos hdie]
  exact (tget_tput ..).trans (if_pos rfl)

/-- A fault of a block that is in its fault state already signals no block interrupt: its event reaches the rings and nothing else of the host's side
(R790, R791). -/
theorem State.raiseFault_host (hdie : s.dieC = true) (hactive : (s.blk (blockOf type)).active = true)
    (hx : (s.blk (blockOf type)).noteFault type = x) :
    (s.raiseFault type obj data).host = (s.routes obj).foldl (fun h k => h.putEvent s.dmaOk s.now k
      { type, object := obj, merge := x.merge, time := s.ntime, data }) s.host := by
  subst hx
  unfold State.raiseFault State.raiseTo State.deliver
  rw [if_pos hdie]
  dsimp only
  rw [hactive]
  rfl

end Deliver

/-- Settles O54: the block after the event, by whether the event is a fault and whether the block was in its fault state. -/
theorem blockFaultState : Obligations.BlockFaultState := by
  intro s type obj data hdie b t u b' n
  refine ⟨fun hfirst => ?_, fun hmerge => ?_, ?_⟩
  · have hblk : b' = _ := State.raiseFault_blk hdie (Blk.noteFault_first type hfirst)
    rw [hblk]
    exact ⟨rfl, rfl, rfl, _, rfl, rfl, rfl⟩
  · have hblk : b' = _ := State.raiseFault_blk hdie (Blk.noteFault_merges type hmerge)
    rw [hblk]
    exact ⟨hmerge, rfl, rfl, ⟨_, rfl, rfl, rfl⟩, _, rfl, State.raiseFault_host hdie hmerge (Blk.noteFault_merges type hmerge)⟩
  · have hblk : n = _ := State.raise_blk hdie
    rw [hblk]
    exact ⟨rfl, rfl, rfl, _, rfl, rfl, rfl⟩

end Sys2Proof.Machine

/-!
The debug access port (R783, R862 to R868).
-/
namespace Sys2Proof.Machine

section Response
variable {s : State} {dt req r : Nat} {rcd : List Byte} {sig : Bool}

/-- The state in which the response that gave `r` has spent its nonce. -/
def State.dapSpent (s : State) (r : Nat) : State := s.se fun x => { x with result := r, nonceOk := false }

/-- What a response that gave `r` comes to (R864, R866, R867). -/
def State.dapAnswered (s : State) (r : Nat) (rcd : List Byte) : State :=
  if r = 1 then ((s.dapSpent r).se fun x => { x with fails := 0, lockEnd := none }).dbgTo (recNum rcd 52 1) (recNum rcd 16 1)
  else if r = 2 then s.dapSpent r else (s.dapSpent r).dapFail r

theorem exec_dapSubmit_running (hrun : (s.tick dt).running = true) (hr : (s.tick dt).dapResult req rcd sig = r) :
    exec (.dapSubmit dt req rcd sig) s = .next ((s.tick dt).dapAnswered r rcd).done := by
  subst hr
  exact (exec_dapSubmit ..).trans (next_done (if_neg (bnot_fails hrun)))

theorem State.dapAnswered_granted : s.dapAnswered 1 rcd =
    ({ s with sec := { s.sec with result := 1, nonceOk := false, fails := 0, lockEnd := none } } : State).dbgTo (recNum rcd 52 1) (recNum rcd 16 1) :=
  if_pos rfl

theorem State.dapAnswered_unoffered : s.dapAnswered 2 rcd = { s with sec := { s.sec with result := 2, nonceOk := false } } := rfl

theorem State.dapAnswered_failed (h1 : r ≠ 1) (h2 : r ≠ 2) : s.dapAnswered r rcd = (s.dapSpent r).dapFail r := (if_neg h1).trans (if_neg h2)

/-- A failed request raises the count and locks the port; DBG_AUTH_FAIL leaves the port and the registers alone (R866, R867). -/
theorem State.dapFail_sec (s : State) (r : Nat) : (s.dapFail r).sec =
    { s.sec with fails := s.sec.fails + 1, lockEnd := some (s.now + 2 ^ min 10 s.sec.fails * 1000000000) } :=
  (congrArg State.sec (State.raiseTo_frame ..) :)

theorem State.dapFail_regs (s : State) (r : Nat) : (s.dapFail r).regs = s.regs := (congrArg State.regs (State.raiseTo_frame ..) :)

/-- RESULT 2 is the first check that a response meets, and it looks at the level alone (R862, R863, R866). -/
theorem State.dapResult_eq_two_iff : s.dapResult req rcd sig = 2 ↔
    offers s.lifecycle (recNum rcd 52 1) = false ∨ s.rd Reg.SEC_DBG_DBGMAX < recNum rcd 52 1 := by
  have hlevel : (!offers s.lifecycle (recNum rcd 52 1) || decide (s.rd Reg.SEC_DBG_DBGMAX < recNum rcd 52 1)) = true ↔
      offers s.lifecycle (recNum rcd 52 1) = false ∨ s.rd Reg.SEC_DBG_DBGMAX < recNum rcd 52 1 := by simp
  rw [← hlevel]
  unfold State.dapResult
  dsimp only
  split
  · next h => simp only [h]
  · next h =>
    simp only [h]
    (repeat' split) <;> decide

end Response

/-- Settles O40: the challenge by the lock-out, the response by its RESULT, the times by their ends. -/
theorem debugPort : Obligations.DebugPort := by
  intro s dt req rcd sig t0 u
  refine ⟨fun hrun hlock => ?_, fun hrun hlock ht => ?_, fun hrun hr => ?_, fun hrun hr => ?_, fun hrun r hr h4 => ?_, fun hrun => ?_, fun hok ht => ?_,
    fun hlock ht => ?_⟩
  · refine ⟨_, _, rfl, (exec_dapChallenge ..).trans (next_done ((if_neg (bnot_fails hrun)).trans (if_neg ?_)))⟩
    cases hend : (s.tick dt).sec.lockEnd with
    | none => exact Bool.false_ne_true
    | some t => exact Bool.eq_false_iff.1 (decide_eq_false (Nat.not_lt.2 (hlock t hend)))
  · refine (exec_dapChallenge ..).trans (next_done ((if_neg (bnot_fails hrun)).trans (if_pos ?_)))
    rw [hlock]
    exact decide_eq_true ht
  · exact (exec_dapSubmit_running hrun hr).trans (next_done State.dapAnswered_granted)
  · exact (exec_dapSubmit_running hrun hr).trans (next_done State.dapAnswered_unoffered)
  · have hsec := (u.dapSpent r).dapFail_sec r
    refine ⟨_, (exec_dapSubmit_running hrun hr).trans (next_done (State.dapAnswered_failed (by omega) (by omega))),
      congrArg SecState.fails hsec, congrArg SecState.result hsec, congrArg SecState.nonceOk hsec, congrArg SecState.lockEnd hsec, ?_⟩
    unfold State.rd
    rw [State.dapFail_regs]
    rfl
  · exact (exec_dapLeave ..).trans (next_done (if_pos hrun))
  · exact (exec_dapNonceExpiry ..).trans (next_done (if_pos (and_holds hok (decide_eq_true ht))))
  · refine (exec_dapLockoutEnd ..).trans (next_done ?_)
    rw [hlock]
    exact if_pos ht

/-- Settles O56: a level out of reach is the first check to fail, and only a granted response comes past the other checks. -/
theorem debugRequestsOutOfReach : Obligations.DebugRequestsOutOfReach := by
  intro s dt req rcd sig u level hrun
  refine ⟨fun hreach => ?_, fun hoffered hmax hdenied => ?_⟩
  · exact ⟨_, (exec_dapSubmit_running hrun (State.dapResult_eq_two_iff.2 hreach)).trans (next_done State.dapAnswered_unoffered), rfl, rfl⟩
  · have hlevel : u.dapResult req rcd sig ≠ 2 := by
      rw [Ne, State.dapResult_eq_two_iff, not_or]
      exact ⟨ne_false_of_eq_true hoffered, Nat.not_lt.2 hmax⟩
    have hsec := (u.dapSpent (u.dapResult req rcd sig)).dapFail_sec (u.dapResult req rcd sig)
    exact ⟨_, (exec_dapSubmit_running hrun rfl).trans (next_done (State.dapAnswered_failed hdenied hlevel)),
      congrArg SecState.result hsec, congrArg SecState.fails hsec⟩

end Sys2Proof.Machine

/-!
The lock of the DMA ranges (R875, R878).
-/
namespace Sys2Proof.Machine

/-- While LOCK is 1, the fields of the DMA ranges and LOCK itself are locked (R878). -/
theorem State.fieldLocked_dma {s : State} {f : Field} (pf src i : Nat) (hlock : s.flag Reg.SEC_DMALOCK_LOCK = true)
    (hf : f ∈ Reg.SEC_DMALOCK_LOCK :: dmaRange) : s.fieldLocked pf src f i = true := by
  have hin : f.isIn (Reg.SEC_DMALOCK_LOCK :: dmaRange) = true := List.any_eq_true.2 ⟨f, hf, beq_self_eq_true _⟩
  rw [State.fieldLocked, hin, hlock]
  exact Bool.or_true _

/-- Settles O57: the write of 1, the lock that it sets, and the reset value. -/
theorem dmaLockHolds : Obligations.DmaLockHolds := by
  intro s dt pf src v i dn f u
  refine ⟨fun h => ?_, fun hlock hf _ off => if_pos (s.fieldLocked_dma pf src _ hlock hf), rfl⟩
  exact ⟨_, (exec_dmaLock ..).trans (next_done (State.writeField_dmaLock h)), beq_iff_eq.2 (State.rd_wr_same ..)⟩

end Sys2Proof.Machine

/-!
The ECC scrub, and the calibration of the converters (R804 to R809, R811).
-/
namespace Sys2Proof.Machine

theorem setBit_clear {v k : Nat} (h : bit v k = false) : setBit v k = v + 2 ^ k := if_neg (Bool.eq_false_iff.1 h)

/-- What no event changes of the nonvolatile memory. -/
theorem State.raise_nv (s : State) (type obj data : Nat) : (s.raise type obj data).nv = s.nv := (congrArg State.nv (s.raiseTo_frame ..) :)

section Faults
variable {s : State} {dt per k : Nat}

theorem State.dueFrom_holds {t : Option Ns} (h : ∀ a, t = some a → a + per ≤ s.now) : s.dueFrom t per = true := by
  cases t with
  | none => rfl
  | some a => exact decide_eq_true (h a rfl)

theorem exec_sramScrub_due (hits : List ScrubHit) (hdie : (s.tick dt).dieC = true)
    (hdue : ∀ t, (s.tick dt).flt.scrubAt = some t → t + 10000000000 ≤ (s.tick dt).now) :
    exec (.sramScrub dt hits) s =
      .next (hits.foldl State.scrubHit { s.tick dt with flt := { (s.tick dt).flt with scrubAt := some (s.tick dt).now } }).done :=
  (exec_sramScrub ..).trans (next_done (if_pos (and_holds hdie (State.dueFrom_holds hdue))))

/-- The converters, of 0 in die C and 1 to 3 in the power dies, that have drifted by more than 4 LSB (R804). -/
def drifted (drifts : List Int) : List Nat := (List.range 4).filter fun k => decide (4 < (drifts.getD k 0).natAbs)

theorem drifted_none {x : Int} (h : x.natAbs ≤ 4) : drifted [x, x, x, x] = [] := by
  have hx : decide (4 < x.natAbs) = false := decide_eq_false (Nat.not_lt.2 h)
  simp [drifted, List.range, List.range.loop, hx]

theorem drifted_one {x : Int} (hk : k < 4) (h : 4 < x.natAbs) : drifted (List.replicate k 0 ++ [x]) = [k] := by
  have hx : decide (4 < x.natAbs) = true := decide_eq_true h
  obtain rfl | rfl | rfl | rfl : k = 0 ∨ k = 1 ∨ k = 2 ∨ k = 3 := by omega
  all_goals simp [drifted, List.range, List.range.loop, List.replicate, hx]

theorem exec_adcCalibration_due (drifts : List Int) (hdie : (s.tick dt).dieC = true)
    (hdue : ∀ t, (s.tick dt).flt.calAt = some t → t + 1000000000 ≤ (s.tick dt).now) :
    exec (.adcCalibration dt drifts) s =
      .next ((drifted drifts).foldl State.adcRetire { s.tick dt with flt := { (s.tick dt).flt with calAt := some (s.tick dt).now } }).done :=
  (exec_adcCalibration ..).trans (next_done (if_pos (and_holds hdie (State.dueFrom_holds hdue))))

/-- While die C runs, the retirement of what is no output, no stage and no channel appends one record (R811). -/
theorem State.retire_retired {kind reason unit element : Nat} {spare lost : Bool} (hdie : s.dieC = true) (hkind : ¬ (kind = 1 ∨ kind = 6)) :
    (s.retire kind reason unit element spare lost).nv.retired.length = s.nv.retired.length + 1 := by
  unfold State.retire
  rw [if_neg (bnot_fails hdie)]
  dsimp only
  rw [if_neg hkind, if_neg hkind, State.raise_nv]
  exact List.length_append

theorem State.adcRetire_lost (h : bit (s.rd Reg.SPR_MISC_ADCLOST) k = true) : s.adcRetire k = s := if_pos h

theorem State.adcRetire_spare (hvalid : bit (s.rd Reg.SPR_MISC_ADCLOST) k = false) (hspare : bit (s.rd Reg.SPR_MISC_ADCSP) k = false) :
    s.adcRetire k = (s.wr Reg.SPR_MISC_ADCSP 0 (s.rd Reg.SPR_MISC_ADCSP + 2 ^ k)).retire 4 6 k 0xFF true false := by
  rw [← setBit_clear hspare]
  exact (if_neg (Bool.eq_false_iff.1 hvalid)).trans (if_neg (Bool.eq_false_iff.1 hspare))

theorem State.adcRetire_noSpare (hvalid : bit (s.rd Reg.SPR_MISC_ADCLOST) k = false) (hspare : bit (s.rd Reg.SPR_MISC_ADCSP) k = true) :
    s.adcRetire k = (s.wr Reg.SPR_MISC_ADCLOST 0 (s.rd Reg.SPR_MISC_ADCLOST + 2 ^ k)).retire 4 6 k 0xFF false true := by
  rw [← setBit_clear hvalid]
  exact (if_neg (Bool.eq_false_iff.1 hvalid)).trans (if_pos hspare)

end Faults

/-- Settles O42: the scrub by its errors, the calibration by the converters that have drifted, and each of these by the spare that it has left. -/
theorem scrubAndCalibration : Obligations.ScrubAndCalibration := by
  intro s dt hits k x u sc ca
  refine ⟨fun hdie hdue => ⟨exec_sramScrub_due hits hdie hdue, exec_sramScrub_due [] hdie hdue⟩, fun hdie hdue => ⟨fun hx => ?_, fun hk hx => ?_⟩,
    State.adcRetire_lost, fun hdie _ hvalid hspare => ?_, fun hdie _ hvalid hspare => ?_⟩
  · exact (exec_adcCalibration_due _ hdie hdue).trans (next_done (by rw [drifted_none hx]; rfl))
  · exact (exec_adcCalibration_due _ hdie hdue).trans (next_done (by rw [drifted_one hk hx]; rfl))
  · rw [State.adcRetire_spare hvalid hspare]
    exact ⟨rfl, State.retire_retired hdie (by decide)⟩
  · rw [State.adcRetire_noSpare hvalid hspare]
    exact ⟨rfl, State.retire_retired hdie (by decide)⟩

end Sys2Proof.Machine

/-!
The phases of a Stop entry (R825 to R830, R834).
-/
namespace Sys2Proof.Machine

/-- No command is in flight but DEFERRED ones. -/
theorem HostState.none_runs {h : HostState} (hall : h.inflight.all (·.deferred) = true) : h.inflight.any (fun r => !r.deferred) = false := by
  rw [List.any_eq_not_all_not]
  simp only [Bool.not_not]
  exact (congrArg not hall)

section Drain
variable {s v : State} {dt : Ns}

/-- The Drain phase is over: a wake that has come abandons the entry, and otherwise the outputs follow (R828, R830). -/
def State.drainOver (s : State) : State :=
  if s.pwr.wakeHit then s.stopAbandon 2 0x0304
  else
    let s := (s.refuseDeferred.loopsOpen 6).toPhase (.entering 3)
    if s.pwr.forced then s.allOff else s

theorem State.drainOver_goesOn (hwake : s.pwr.wakeHit = false) (hv : v = (s.refuseDeferred.loopsOpen 6).toPhase (.entering 3)) :
    s.drainOver = if v.pwr.forced then v.allOff else v := by
  subst hv
  exact if_neg (Bool.eq_false_iff.1 hwake)

theorem State.drainOver_wakes (hwake : s.pwr.wakeHit = true) : s.drainOver = s.stopAbandon 2 0x0304 := if_pos hwake

/-- The Drain phase ends within its 50 ms once nothing runs (R828, R829). -/
theorem exec_stopDrainEnd_drained (hentry : (s.tick dt).inEntry 2 = true) (hall : (s.tick dt).host.inflight.all (·.deferred) = true)
    (hin : (s.tick dt).now ≤ (s.tick dt).pwr.phaseAt + 50000000) : exec (.stopDrainEnd dt) s = .next (s.tick dt).drainOver.done :=
  (exec_stopDrainEnd ..).trans (next_done (if_neg
    (or_fails (Bool.or_eq_false_iff.2 ⟨congrArg not hentry, HostState.none_runs hall⟩) (decide_eq_false (Nat.not_lt.2 hin)))))

end Drain

/-- Settles O35: each row in its phase, by whether a wake has come. -/
theorem stopEntryRows : Obligations.StopEntryRows := by
  intro s dt u
  refine ⟨fun hentry hall hin => ⟨fun hwake v hv => ?_, fun hwake => ?_⟩, fun hentry ht hruns => ?_, fun hentry hwake hforced => ?_,
    fun hentry hwake hforced => ?_, fun hentry hwake => ?_, fun v hentry hv => ⟨fun hwake => ?_, fun hwake => ?_⟩,
    fun v hentry hv => ⟨fun hwake => ?_, fun hwake => ?_⟩, fun hentry hwake => ?_, fun hentry hwake => ?_, fun hentry => ?_⟩
  · exact (exec_stopDrainEnd_drained hentry hall hin).trans (next_done (State.drainOver_goesOn hwake hv))
  · exact (exec_stopDrainEnd_drained hentry hall hin).trans (next_done (State.drainOver_wakes hwake))
  · exact (exec_stopDrainTimeout ..).trans (next_done (if_pos (and_holds (and_holds hentry (decide_eq_true ht)) hruns)))
  · exact (exec_stopOutputsEnd ..).trans (next_done ((if_neg (bnot_fails hentry)).trans ((if_neg (Bool.eq_false_iff.1 hwake)).trans
      (congrArg (fun v : State => v.saveBegin.toPhase (.entering 4)) (if_neg (Bool.eq_false_iff.1 hforced))))))
  · exact (exec_stopOutputsEnd ..).trans (next_done ((if_neg (bnot_fails hentry)).trans ((if_neg (Bool.eq_false_iff.1 hwake)).trans
      (congrArg (fun v : State => v.saveBegin.toPhase (.entering 4)) (if_pos hforced)))))
  · exact (exec_stopOutputsEnd ..).trans (next_done ((if_neg (bnot_fails hentry)).trans (if_pos hwake)))
  · subst hv
    exact (exec_stopSaveEnd ..).trans (next_done ((if_neg (bnot_fails hentry)).trans (if_neg (Bool.eq_false_iff.1 hwake))))
  · subst hv
    exact (exec_stopSaveEnd ..).trans (next_done ((if_neg (bnot_fails hentry)).trans (if_pos hwake)))
  · subst hv
    exact (exec_stopCommitEnd ..).trans (next_done ((if_neg (bnot_fails hentry)).trans (if_neg (Bool.eq_false_iff.1 hwake))))
  · subst hv
    exact (exec_stopCommitEnd ..).trans (next_done ((if_neg (bnot_fails hentry)).trans (if_pos hwake)))
  · exact (exec_stopClocksEnd ..).trans (next_done ((if_neg (bnot_fails hentry)).trans (if_neg (Bool.eq_false_iff.1 hwake))))
  · exact (exec_stopClocksEnd ..).trans (next_done ((if_neg (bnot_fails hentry)).trans (if_pos hwake)))
  · exact (exec_stopRailsEnd ..).trans (next_done (if_pos hentry))

end Sys2Proof.Machine

/-!
The records of SEC_PROVISION and SEC_RECORD, and attestation (R849 to R858, R874).
-/
namespace Sys2Proof.Machine

theorem barIf_none {b : Bool} {code : Code} {sub : Nat} (h : b = false) : barIf b code sub = none := if_neg (Bool.eq_false_iff.1 h)

theorem bne_fails {α : Type} [BEq α] [LawfulBEq α] {a b : α} (h : a = b) : (a != b) = false := bne_eq_false_iff_eq.2 h

/-- The buffer of command `c` holds a record, and lies inside the function's ranges (R91, R853). -/
structure State.HasRecord (s : State) (c : Cmd) : Prop where
  aligned : c.arg 16 8 % 8 = 0
  fits : 256 ≤ c.arg 24 2
  inside : s.dmaOk c.pf (c.arg 16 8) 256 = true

section Records
variable {s : State} {c : Cmd}

theorem State.withRecord_reads (h : s.HasRecord c) (go : State → State) : s.withRecord c go = go s := by
  have hdma : s.dma c.pf (c.arg 16 8) 256 = (s, true) := if_pos h.inside
  have hfits : ¬ (c.arg 16 8 % 8 ≠ 0 ∨ c.arg 24 2 < 256) := not_or.2 ⟨not_not_intro h.aligned, Nat.not_lt.2 h.fits⟩
  unfold State.withRecord
  rw [if_neg hfits, hdma]
  exact if_pos rfl

variable {dt : Ns} {r : List Byte} {sig : Bool}

/-- A record of SEC_RECORD that passes its checks has the effect of its row, and leaving a lifecycle state ends INVASIVE (R851 to R856). -/
theorem State.secRecord_accepts {row : Nat} {own : State → Option (Code × Nat)} {go : State → State} {t : State} (h : s.starts dt c 0x5011 [] = true)
    (hbuf : (s.taken dt c).HasRecord c) (hbar : (s.taken dt c).recBar r sig ((s.taken dt c).secRule r) = none) (hrow : recRow r = some row)
    (hown : own (s.taken dt c) = none) (hgo : go ((s.taken dt c).accept (recNum r 12 4)) = t) :
    s.secRecord dt c r sig row own go = ((t.begin c).complete c .done).lcLeft (s.taken dt c).lifecycle := by
  subst hgo
  have hmine : ¬ (recRow r).getD row ≠ row := by simp [hrow]
  exact (if_neg hmine).trans ((State.serveOp_starts h _).trans ((State.withRecord_reads hbuf _).trans
    (State.orElse_skip hbar (State.orElse_last hown rfl))))

end Records

/-- Settles O39: each record by the checks that it passes, and FIELD_SERVICE by its end. -/
theorem securityRecords : Obligations.SecurityRecords := by
  intro s dt c rcd sig partner t0 b u n a k fin haddr hlen hok
  have hbuf : (s.taken dt c).HasRecord c := ⟨haddr, hlen, hok⟩
  refine ⟨fun h hbar hslot hzero => ?_, fun h hbar => ⟨fun hrow hfree => ?_, fun hrow hmay => ?_, fun hrow hzero => ?_, fun hrow hlo hhi hzero => ?_,
    fun hrow hzero => ?_, fun hrow hzero => ?_⟩, fun h => ?_, fun hdie hlc hend ht => ?_⟩
  · have hown : (recNum rcd 16 1 != 0 || !dataZero rcd 0) = false := Bool.or_eq_false_iff.2 ⟨bne_fails hslot, congrArg not hzero⟩
    exact (exec_secProvision ..).trans (next_starts h ((State.withRecord_reads hbuf _).trans
      (State.orElse_skip hbar (State.orElse_last (barIf_none hown) rfl))))
  · exact (exec_keySlotProgram ..).trans (next_done (State.secRecord_accepts h hbuf hbar hrow (barIf_none hfree) rfl))
  · exact (exec_keySlotRevoke ..).trans (next_done (State.secRecord_accepts h hbuf hbar hrow hmay rfl))
  · exact (exec_lcToField ..).trans (next_done (State.secRecord_accepts h hbuf hbar hrow (barIf_none (congrArg not hzero)) rfl))
  · have hown : (recNum rcd 20 2 == 0 || decide (480 < recNum rcd 20 2) || !dataZero rcd 2) = false := by
      simp [hzero, Nat.not_lt.2 hhi, Nat.ne_of_gt hlo]
    exact (exec_lcToFieldService ..).trans (next_done (State.secRecord_accepts h hbuf hbar hrow (barIf_none hown) rfl))
  · exact (exec_lcBackToField ..).trans (next_done (State.secRecord_accepts h hbuf hbar hrow (barIf_none (congrArg not hzero)) rfl))
  · exact (exec_lcToRetired ..).trans (next_done (State.secRecord_accepts h hbuf hbar hrow (barIf_none (congrArg not hzero)) rfl))
  · exact (exec_secAttest ..).trans (next_starts h rfl)
  · refine (exec_fieldServiceExpiry ..).trans (next_done ?_)
    rw [hend]
    exact if_pos (and_holds (and_holds hdie (beq_iff_eq.2 hlc)) (decide_eq_true ht))

end Sys2Proof.Machine

/-!
The Fife cores and the Shawm pair (R750, R760 to R766, R773 to R782).
-/
namespace Sys2Proof.Machine

section Cores
variable {s v : State} {dt k vd : Nat} {l : List Cmd}

/-- A list without entries, or without the one looked for, is told by a Boolean that the rows read. -/
theorem isEmpty_false {α : Type} {l : List α} (h : l ≠ []) : l.isEmpty = false := List.isEmpty_eq_false_iff.2 h

/-- No command of the trigger waits for its turn: none is tried again (R760). -/
theorem State.chanRun_none (hall : ∀ c ∈ l, (s.firstAnswer c).isSome = true) :
    l.foldl (fun s c => if (s.firstAnswer c).isSome then s else s.chanRun vd c) s = s :=
  foldl_fixed fun c hc => if_pos (hall c hc)

theorem exec_channelTriggerAnswer_releases (hcore : isCore k = true) (hfw : (s.tick dt).firmware = true) (hl : l = (s.tick dt).triggered k)
    (hne : l ≠ []) (hall : ∀ c ∈ l, ((s.tick dt).firstAnswer c).isSome = true) (hv : v = l.foldl (fun s c => s.takeAnswer k c) (s.tick dt))
    (hlen : (v.triggered k).length ≠ l.length) : exec (.channelTriggerAnswer dt k vd) s = .next ((v.purge k).released k).done := by
  subst hv hl
  refine (exec_channelTriggerAnswer ..).trans (next_done ((if_neg
    (or_fails (Bool.or_eq_false_iff.2 ⟨congrArg not hcore, congrArg not hfw⟩) (isEmpty_false hne))).trans ?_))
  rw [State.chanRun_none hall]
  exact if_neg hlen

/-- Lockstep is lost to invasive debug, and what rests on it ends (R272, R782). -/
def State.debugLoses (s : State) : State :=
  let s := (s.wr Reg.SHW_STAT_MODE 0 2).setFlag Reg.SHW_STAT_LLDBG 0 0x1F82 0xFFFF 0
  ({ s with core := { s.core with runB := false, inj := none } } : State).debugPolicies

/-- A module that has lost lockstep leaves its pair, and its session ends (R687, R897). -/
def State.leavesPair (s : State) : State := (if s.twSt = 0 then s else s.twLeave).authEnd 4

theorem exec_lockstepLostDebug_loses (hrun : (s.tick dt).running = true) (hdbg : (s.tick dt).dbgLevel = 2)
    (hmode : (s.tick dt).rd Reg.SHW_STAT_MODE ≠ 2) : exec (.lockstepLostDebug dt) s = .next (s.tick dt).debugLoses.leavesPair.done :=
  (exec_lockstepLostDebug ..).trans (next_done (if_neg
    (or_fails (Bool.or_eq_false_iff.2 ⟨congrArg not hrun, bne_eq_false_iff_eq.2 hdbg⟩) (beq_eq_false_iff_ne.2 hmode))))

theorem State.leavesPair_alone (hpair : s.twSt = 0) : s.leavesPair = s.authEnd 4 := congrArg (State.authEnd · 4) (if_pos hpair)

theorem State.leavesPair_paired (hpair : s.twSt ≠ 0) : s.leavesPair = s.twLeave.authEnd 4 := congrArg (State.authEnd · 4) (if_neg hpair)

end Cores

/-- Settles O37: each row by the branch that its conditions choose. -/
theorem fifeAndShawm : Obligations.FifeAndShawm := by
  intro s dt k a vd m l u
  refine ⟨fun hcore hruns => ?_, fun hcore hruns => ?_, fun v => exec_channelTriggerAnswer_releases, fun hcore hfw hlen hs hhs => ?_,
    fun hcore hfw hmbx hrx => ?_, fun hrun hmode => ?_, fun hjoin hb => ?_, fun hjoin hb v hv => ?_, fun hjoin hb ht => ?_,
    fun v w hrun hdbg hmode hv hw => ?_⟩
  · exact (exec_bundleIssue ..).trans (next_done (if_neg (or_fails (congrArg not hcore) (congrArg not hruns))))
  · exact (exec_bundleIssue ..).trans (next_done (if_neg (or_fails (congrArg not hcore) (congrArg not hruns))))
  · subst hhs
    exact (exec_tmrWaitExpiry ..).trans (next_done (if_neg
      (or_fails (Bool.or_eq_false_iff.2 ⟨congrArg not hcore, congrArg not hfw⟩) (beq_eq_false_iff_ne.2 hlen))))
  · have hwaits : ((u.coreK k).holds.contains Hold.rx) = true := List.contains_iff_mem.2 hrx
    exact (exec_mbxRxWake ..).trans (next_done (if_neg (or_fails (Bool.or_eq_false_iff.2
      ⟨Bool.or_eq_false_iff.2 ⟨congrArg not hcore, congrArg not hfw⟩, isEmpty_false hmbx⟩) (congrArg not hwaits))))
  · exact (exec_lockstepMismatch ..).trans (next_done (if_pos (and_holds hrun (beq_iff_eq.2 hmode))))
  · exact (exec_shawmJoin ..).trans (next_done (if_neg (or_fails (congrArg not hjoin) hb)))
  · subst hv
    exact (exec_shawmJoin ..).trans (next_done (if_neg (or_fails (congrArg not hjoin) hb)))
  · exact (exec_splitmaxExpiry ..).trans (next_done (if_pos (and_holds (and_holds hjoin hb) (decide_eq_true ht))))
  · have hlost : u.debugLoses = w := by
      rw [hw, hv]
      rfl
    have hrow := exec_lockstepLostDebug_loses hrun hdbg hmode
    rw [hlost] at hrow
    exact ⟨fun hpair => hrow.trans (next_done (State.leavesPair_alone hpair)), fun hpair => hrow.trans (next_done (State.leavesPair_paired hpair))⟩

end Sys2Proof.Machine

/-!
Firmware: staging, verifying, committing, confirming, and the Equinox handover (R735 to R739, R910 to R926).
-/
namespace Sys2Proof.Machine

theorem State.updBar_none {s : State} (h3 : s.nv.updState ≠ 3) (h4 : s.nv.updState ≠ 4) : s.updBar = none :=
  barIf_none (Bool.or_eq_false_iff.2 ⟨beq_eq_false_iff_ne.2 h3, beq_eq_false_iff_ne.2 h4⟩)

section Commands
variable {s : State} {c : Cmd} {dt : Ns} {sig : Bool}

/-- UPD_STAGE of bytes at `addr`, for `len` bytes of a slot from `off` on, is in range (R910). -/
structure Cmd.StageFits (c : Cmd) : Prop where
  aligned : c.arg 16 8 % 8 = 0
  least : 8 ≤ c.arg 24 2
  most : c.arg 24 2 ≤ 32768
  words : c.arg 24 2 % 8 = 0
  place : c.arg 28 4 % 8 = 0
  inside : c.arg 28 4 + c.arg 24 2 ≤ slotSize

/-- What the staging slot holds before the bytes of an UPD_STAGE come: an update that is not STAGING begins anew (R910). -/
def State.stageBase (s : State) : FwSlot :=
  if s.nv.updState = 1 then s.slot s.stagingSlot else { valid := false, bytes := (s.slot s.stagingSlot).bytes, top := 0 }

theorem exec_updStage_stages {chunk : List Byte} {f : FwSlot} (h : s.starts dt c 0x5030 [] = true) (hfits : c.StageFits)
    (h3 : (s.taken dt c).nv.updState ≠ 3) (h4 : (s.taken dt c).nv.updState ≠ 4)
    (hok : (s.taken dt c).dmaOk c.pf (c.arg 16 8) (c.arg 24 2) = true) (hf : f = (s.taken dt c).stageBase) :
    exec (.updStage dt c chunk) s = .next ((((s.taken dt c).setFwSlot (s.taken dt c).stagingSlot { f with
      bytes := (List.range (c.arg 24 2)).foldl (fun t j => memPut t (c.arg 28 4 + j) (chunk.getD j 0 % 256)) f.bytes
      top := max f.top (c.arg 28 4 + c.arg 24 2) }).nvm fun n => { n with updState := 1, fallback := false }).complete c .done).done := by
  obtain ⟨haligned, hleast, hmost, hwords, hplace, hinside⟩ := hfits
  have hrange : ¬ (c.arg 24 2 < 8 ∨ 32768 < c.arg 24 2 ∨ c.arg 24 2 % 8 ≠ 0 ∨ c.arg 28 4 % 8 ≠ 0 ∨ slotSize < c.arg 28 4 + c.arg 24 2) := by omega
  have hdma : (s.taken dt c).dma c.pf (c.arg 16 8) (c.arg 24 2) = (s.taken dt c, true) := if_pos hok
  subst hf
  refine (exec_updStage ..).trans (next_starts h (State.orElse_skip (barIf_none (bne_fails haligned))
    (State.orElse_skip (barIf_none (decide_eq_false hrange)) (State.orElse_last (State.updBar_none h3 h4) ?_))))
  rw [hdma]
  rfl

/-- UPD_COMMIT of a staged image of a module outside a pair and outside limp-home that verifies: what remains is the length of the hold windows. -/
theorem exec_updCommit_commits (h : s.starts dt c 0x5032 [] = true) (hst : (s.taken dt c).nv.updState = 2)
    (hpair : (s.taken dt c).flag Reg.TW_CFG_EN = false) (hlimp : (s.taken dt c).flag Reg.LIMP_STAT_ACTIVE = false)
    (hgood : (s.taken dt c).imageFail ((s.taken dt c).slot (s.taken dt c).stagingSlot) sig = 0)
    (hlong : c.argBits 16 0 1 = 1 ∨ (s.taken dt c).holdShort = false) :
    exec (.updCommit dt c sig) s = .next ((((s.taken dt c).commitRecord.begin c).complete c .done).commitRestart).done := by
  have hhold : ¬ (decide (c.argBits 16 0 1 = 0) && (s.taken dt c).holdShort) = true :=
    and_fails (hlong.imp_left fun hforced => decide_eq_false (by omega))
  exact (exec_updCommit ..).trans (next_starts h (State.orElse_skip (barIf_none (bne_fails hst)) (State.orElse_skip (barIf_none hpair)
    (State.orElse_last (barIf_none hlimp) ((if_neg (not_not_intro hgood)).trans (if_neg hhold))))))

end Commands

section Equinox
variable {s v : State} {dt n : Nat} {sig peer : Bool}

/-- A step of the handover that has ended well, which its event reports (R737). -/
def State.eqDone (s : State) (step : Nat) : State := (s.nvm fun x => { x with eqStep := step }).eqEvent step 0

/-- What follows a step of the handover that has ended well (R737, R738). -/
def State.eqNext (s : State) (step : Nat) (sig peer : Bool) : State :=
  if (step = 1 ∨ step = 4) ∧ s.twRole = 2 then s.eqCommit sig
  else if step = 3 ∧ s.twRole = 1 then s.swapAsk [] false peer
  else if step = 5 then s.eqEnd .done 0
  else s

theorem State.eqNext_begins (hrole : s.twRole = 1) : s.eqNext 3 sig peer = s.swapAsk [] false peer :=
  (if_neg fun h => absurd h.1 (by decide)).trans (if_pos ⟨rfl, hrole⟩)

theorem State.eqNext_commits (hrole : s.twRole = 2) : s.eqNext 4 sig peer = s.eqCommit sig := if_pos ⟨.inr rfl, hrole⟩

/-- A step follows the one before it, from step 2 to step 5. -/
theorem State.eqFollows_holds (hlo : 1 ≤ n) (hhi : n ≤ 4) (hstep : s.nv.eqStep = n) :
    (decide (2 ≤ n + 1 ∧ n + 1 ≤ 5) && s.nv.eqStep + 1 == n + 1) = true :=
  and_holds (decide_eq_true (by omega)) (beq_iff_eq.2 (congrArg (· + 1) hstep))

theorem exec_equinoxStep_follows (hlive : (s.tick dt).twLive = true) (hlo : 1 ≤ n) (hhi : n ≤ 4) (hstep : (s.tick dt).nv.eqStep = n) (fail : Bool) :
    exec (.equinoxStep dt (n + 1) fail sig peer) s =
      .next (if fail then ((s.tick dt).eqEvent (n + 1) 1).eqEnd .faulted 0x1D12 else ((s.tick dt).eqDone (n + 1)).eqNext (n + 1) sig peer).done :=
  (exec_equinoxStep ..).trans (next_done (if_neg (or_fails (congrArg not hlive)
    (congrArg not (Bool.or_eq_true_iff.2 (.inr (State.eqFollows_holds hlo hhi hstep)))))))

theorem exec_equinoxStep_done (hlive : (s.tick dt).twLive = true) (hlo : 1 ≤ n) (hhi : n ≤ 4) (hstep : (s.tick dt).nv.eqStep = n)
    (hv : v = (s.tick dt).eqDone (n + 1)) : exec (.equinoxStep dt (n + 1) false sig peer) s = .next (v.eqNext (n + 1) sig peer).done := by
  subst hv
  exact exec_equinoxStep_follows hlive hlo hhi hstep false

end Equinox

/-- Settles O41: each command by the conditions that it passes, each time and step by the branch that it takes. -/
theorem firmwareUpdate : Obligations.FirmwareUpdate := by
  intro s dt c chunk sig peer b u k st
  refine ⟨fun h h1 h2 h3 h4 h5 h6 hne3 hne4 hok f hf => exec_updStage_stages h ⟨h1, h2, h3, h4, h5, h6⟩ hne3 hne4 hok hf,
    fun h hne3 hne4 => ⟨fun hgood => ?_, fun e he hbad => ?_⟩, fun h hst hpair hlimp hgood hlong => exec_updCommit_commits h hst hpair hlimp hgood hlong,
    fun h hst => ?_, fun h hst => ?_, fun h hst => ?_, fun h f v hf hv => ?_, fun hrun hst hauto hover => ?_, fun hrun hst hauto hover => ?_,
    fun h hen hswap heq hrole hst hvalid hlead hfmt => ?_, fun hlive n hn v hv => ⟨fun h1 => ?_, fun h2 hrole => ?_, fun h3 hrole => ?_, fun h4 => ?_,
      fun hlo hhi => exec_equinoxStep_follows hlive hlo hhi hn true⟩⟩
  · exact (exec_updVerify ..).trans (next_starts h (State.orElse_last (State.updBar_none hne3 hne4) (if_pos hgood)))
  · subst he
    exact (exec_updVerify ..).trans (next_starts h (State.orElse_last (State.updBar_none hne3 hne4) (if_neg hbad)))
  · exact (exec_updConfirm ..).trans (next_starts h (State.orElse_last (barIf_none (bne_fails hst)) rfl))
  · have hlow : b.nv.updState < 3 := by obtain h1 | h2 := hst <;> omega
    exact (exec_updAbort ..).trans (next_starts h (State.orElse_last (State.updBar_none (s := b) (by omega) (by omega))
      (congrArg (State.complete · c .done) (if_pos hst))))
  · have hidle : ¬ (b.nv.updState = 1 ∨ b.nv.updState = 2) := by omega
    exact (exec_updAbort ..).trans (next_starts h (State.orElse_last (State.updBar_none (s := b) (by omega) (by omega))
      (congrArg (State.complete · c .done) (if_neg hidle))))
  · subst hv hf
    exact (exec_setDefaults ..).trans (next_starts h rfl)
  · have hdue : ((u.flag Reg.UPD_CFG_AUTOCONF && u.trialOver) || (u.nv.eqTrial && u.twSt == 4)) = true :=
      Bool.or_eq_true_iff.2 (.inl (and_holds hauto hover))
    exact (exec_autoConfirm ..).trans (next_done (if_pos (and_holds (and_holds hrun (beq_iff_eq.2 hst)) hdue)))
  · exact (exec_trialTimeout ..).trans (next_done (if_pos (and_holds (and_holds (and_holds hrun (beq_iff_eq.2 hst)) (bnot_holds hauto)) hover)))
  · have hfree : (b.twin.swap.isSome || b.twin.equinox.isSome) = false := by rw [hswap, heq]; rfl
    have hstaged : (b.nv.updState == 2 && (b.slot k).valid && true && b.twSt == 3) = true :=
      and_holds (and_holds (and_holds (beq_iff_eq.2 hst) hvalid) rfl) (beq_iff_eq.2 hlead)
    exact (exec_twEquinox ..).trans (next_starts h (State.orElse_skip (barIf_none (congrArg not hen)) (State.orElse_skip (barIf_none hfree)
      (State.orElse_last (barIf_none (beq_eq_false_iff_ne.2 hrole)) ((if_neg (bnot_fails hstaged)).trans
        (if_neg (bnot_fails (and_holds hfmt rfl))))))))
  · subst h1
    exact exec_equinoxStep_done hlive (by decide) (by decide) hn hv
  · subst h2
    exact (exec_equinoxStep_done hlive (by decide) (by decide) hn hv).trans (next_done (State.eqNext_begins hrole))
  · subst h3
    exact (exec_equinoxStep_done hlive (by decide) (by decide) hn hv).trans (next_done (State.eqNext_commits hrole))
  · subst h4
    exact exec_equinoxStep_done hlive (by decide) (by decide) hn hv

end Sys2Proof.Machine

/-!
The twin agent: joining, claiming, heartbeats and lines (R684 to R693, R704, R718 to R726).
-/
namespace Sys2Proof.Machine

section Joins
variable {s v : State} {dt : Ns} {c : Cmd}

/-- TW_JOIN of a module whose EN is set: a running Lead or Shadow completes it, and any other keeps it until it is one (R689, R741). -/
def State.joinServed (s : State) (c : Cmd) : State :=
  if s.twSt = 3 ∨ s.twSt = 4 then s.complete c .done
  else
    let s := s.tw fun t => { t with joins := t.joins ++ [(c, s.now)] }
    if s.twSt = 0 then (s.tw fun t => { t with fromStop := false }).twClaim else s

theorem exec_twJoin_serves (h : s.starts dt c 0x2020 [.twin] = true) (hv : v = ((s.taken dt c).begin c).wr Reg.TW_CFG_EN 0 1) :
    exec (.twJoin dt c) s = .next (v.joinServed c).done := by
  subst hv
  exact (exec_twJoin ..).trans (next_starts h rfl)

theorem State.joinServed_runs (hst : s.twSt = 3 ∨ s.twSt = 4) : s.joinServed c = s.complete c .done := if_pos hst

theorem State.joinServed_claims (h3 : s.twSt ≠ 3) (h4 : s.twSt ≠ 4) (h0 : (s.tw fun t => { t with joins := t.joins ++ [(c, s.now)] }).twSt = 0) :
    s.joinServed c = ((s.tw fun t => { t with joins := t.joins ++ [(c, s.now)] }).tw fun t => { t with fromStop := false }).twClaim :=
  (if_neg (not_or.2 ⟨h3, h4⟩)).trans (if_pos h0)

theorem State.joinServed_waits (h3 : s.twSt ≠ 3) (h4 : s.twSt ≠ 4) (h0 : (s.tw fun t => { t with joins := t.joins ++ [(c, s.now)] }).twSt ≠ 0) :
    s.joinServed c = s.tw fun t => { t with joins := t.joins ++ [(c, s.now)] } :=
  (if_neg (not_or.2 ⟨h3, h4⟩)).trans (if_neg h0)

/-- The one TW_JOIN that waits has waited for 100 ms (R741). -/
theorem exec_twJoinTimeout_late {t0 : Ns} (hjoins : (s.tick dt).twin.joins = [(c, t0)]) (hlate : t0 + 100000000 ≤ (s.tick dt).now) :
    exec (.twJoinTimeout dt) s = .next (((s.tick dt).tw fun t => { t with joins := [] }).complete c .refusedState 0x1D05).done := by
  have hl : decide (t0 + 100000000 ≤ (s.tick dt).now) = true := decide_eq_true hlate
  have hleft : (s.tick dt).tw (fun t => { t with joins := t.joins.filter fun j => !decide (j.2 + 100000000 ≤ (s.tick dt).now) }) =
      (s.tick dt).tw fun t => { t with joins := [] } := by
    simp only [State.tw, hjoins, List.filter_cons, hl, Bool.not_true, Bool.false_eq_true, if_false, List.filter_nil]
  refine (exec_twJoinTimeout ..).trans (next_done ?_)
  simp only [hleft, hjoins, List.filter_cons, hl, if_true, List.filter_nil, List.foldl_cons, List.foldl_nil]

end Joins

section Claims
variable {s v : State} {dt p n : Nat} {pref : Bool} {same : List Nat} {rival : Option (Bool × Nat)}

/-- A module that has claimed is preferred to a rival of preference `pref` and serial number `n` (R690). -/
def State.outranks (s : State) (pref : Bool) (n : Nat) : Bool :=
  (s.flag Reg.TW_CFG_PREF && !pref) || (s.flag Reg.TW_CFG_PREF == pref && decide (s.nv.serial < n))

/-- A module that has claimed yields to the rival that it meets on a link that is up, unless it is preferred (R690). -/
def State.claimMeets (s : State) (rival : Option (Bool × Nat)) (same : List Nat) : State :=
  match if s.reedUp then rival else none with
  | none => s
  | some (pref, n) => if s.outranks pref n then s else ((s.drive false false).peerLines true s.twin.peerOk).twJoining same

theorem exec_claimDelayExpiry_claims (hlive : (s.tick dt).twLive = true) (hst : (s.tick dt).twSt = 1) (hpeer : (s.tick dt).twin.peerRole = false)
    (hdue : (s.tick dt).twin.claimAt + (s.tick dt).claimDelay ≤ (s.tick dt).now) :
    exec (.claimDelayExpiry dt rival same) s = .next ((s.tick dt).twAlone.claimMeets rival same).done :=
  (exec_claimDelayExpiry ..).trans (next_done (if_neg (bnot_fails
    (and_holds (and_holds (and_holds hlive (beq_iff_eq.2 hst)) (bnot_holds hpeer)) (decide_eq_true hdue)))))

theorem State.claimMeets_none (h : rival = none ∨ s.reedUp = false) : s.claimMeets rival same = s := by
  have hnone : (if s.reedUp then rival else none) = none := by
    obtain h | h := h <;> simp [h]
  unfold State.claimMeets
  rw [hnone]

theorem State.claimMeets_rival (hup : s.reedUp = true) : s.claimMeets (some (pref, n)) same =
    if s.outranks pref n then s else ((s.drive false false).peerLines true s.twin.peerOk).twJoining same := by
  unfold State.claimMeets
  rw [if_pos hup]

end Claims

section Losses
variable {s v : State} {dt det on : Nat} {role ok parted : Bool}

/-- The loss of the partner's heartbeat in a running pair (R718, R724 to R726). -/
def State.partnerGone (s : State) (role ok parted : Bool) (det on : Nat) : State :=
  if parted then s.twLeave
  else if s.twRole = 2 then
    if !role then s.takeover det on
    else if s.linkLostShadow.flag Reg.TW_STAT_OOBOK then s.linkLostShadow else s.linkLostShadow.peerSilent
  else (s.twTo (if ok then 6 else 5) 1).allLost

theorem exec_twHeartbeatLoss_pair (hlive : (s.tick dt).twLive = true) (hst : (s.tick dt).twSt = 3 ∨ (s.tick dt).twSt = 4)
    (hv : v = ((s.tick dt).tw fun t => { t with hbeat := false }).peerLines role ok) :
    exec (.twHeartbeatLoss dt role ok parted det on) s = .next (v.partnerGone role ok parted det on).done := by
  have hswap : (s.tick dt).twSt ≠ 7 := by omega
  have hrun : (s.tick dt).twSt = 3 ∨ (s.tick dt).twSt = 4 ∨ (s.tick dt).twSt = 7 := hst.imp_right .inl
  subst hv
  refine (exec_twHeartbeatLoss ..).trans (next_done ((if_neg (bnot_fails hlive)).trans ((if_pos hrun).trans ?_)))
  simp only [hswap, beq_eq_false_iff_ne.2 hswap, false_and, if_false, Bool.false_and, Bool.false_eq_true]
  rfl

theorem State.partnerGone_lead (hrole : s.twRole ≠ 2) : s.partnerGone role ok false det on = (s.twTo (if ok then 6 else 5) 1).allLost :=
  (if_neg Bool.false_ne_true).trans (if_neg hrole)

theorem State.partnerGone_released (hrole : s.twRole = 2) : s.partnerGone false ok false det on = s.takeover det on :=
  (if_neg Bool.false_ne_true).trans ((if_pos hrole).trans (if_pos (bnot_holds rfl)))

theorem State.partnerGone_held (hrole : s.twRole = 2) : s.partnerGone true ok false det on =
    if s.linkLostShadow.flag Reg.TW_STAT_OOBOK then s.linkLostShadow else s.linkLostShadow.peerSilent :=
  (if_neg Bool.false_ne_true).trans ((if_pos hrole).trans (if_neg (bnot_fails rfl)))

end Losses

/-- Settles O27: each command and event by the state and the role of the agent. -/
theorem twinPairing : Obligations.TwinPairing := by
  intro s dt c k det on same rival role ok b u
  refine ⟨fun h v hv => ⟨fun hst => ?_, fun h0 h3 h4 => ?_, fun h0 h3 h4 => ?_⟩, fun t0 => exec_twJoinTimeout_late, fun h h0 => ?_, fun h h0 => ?_,
    fun hlive hst hpeer hdue => ⟨fun hnone => ?_, fun p n hrival hup hfirst => ?_, fun p n hrival hup hlast => ?_⟩, fun hdie hst => ?_,
    fun v hdie hup hv hst => ?_, fun hlive hbeats hdue v hv => ?_,
    fun v hlive hst hv => ⟨exec_twHeartbeatLoss_pair hlive hst hv, fun hrole => ?_, fun hrole hr => ?_, fun hrole hr => ?_⟩,
    fun hdie hst hrole => ?_, fun hdie hwas hst => ?_, fun hup hst v hv => ⟨fun hrole => ?_, fun hrole => ?_⟩, fun hdie hk => ?_, fun hbus hk => ?_,
    fun hlive hlate => ?_⟩
  · exact (exec_twJoin_serves h hv).trans (next_done (State.joinServed_runs hst))
  · exact (exec_twJoin_serves h hv).trans (next_done (State.joinServed_waits h3 h4 h0))
  · exact (exec_twJoin_serves h hv).trans (next_done (State.joinServed_claims h3 h4 h0))
  · exact (exec_twPart ..).trans (next_starts h (congrArg (State.complete · c .done) (if_pos h0)))
  · exact (exec_twPart ..).trans (next_starts h (congrArg (State.complete · c .done) (if_neg h0)))
  · exact (exec_claimDelayExpiry_claims hlive hst hpeer hdue).trans (next_done (State.claimMeets_none hnone))
  · subst hrival
    exact (exec_claimDelayExpiry_claims hlive hst hpeer hdue).trans (next_done ((State.claimMeets_rival hup).trans (if_pos hfirst)))
  · subst hrival
    exact (exec_claimDelayExpiry_claims hlive hst hpeer hdue).trans
      (next_done ((State.claimMeets_rival hup).trans (if_neg (Bool.eq_false_iff.1 hlast))))
  · exact (exec_pairRoleLow ..).trans (next_done ((if_neg (bnot_fails hdie)).trans (if_pos hst)))
  · subst hv
    exact (exec_pairOkLow ..).trans (next_done ((if_neg (bnot_fails hdie)).trans ((if_neg (bnot_fails hup)).trans (if_pos hst))))
  · subst hv
    exact (exec_twHeartbeatSend ..).trans (next_done (if_pos (and_holds (and_holds hlive hbeats) (decide_eq_true hdue))))
  · exact (exec_twHeartbeatLoss_pair hlive hst hv).trans (next_done (State.partnerGone_lead hrole))
  · subst hr
    exact (exec_twHeartbeatLoss_pair hlive hst hv).trans (next_done (State.partnerGone_released hrole))
  · subst hr
    exact (exec_twHeartbeatLoss_pair hlive hst hv).trans (next_done (State.partnerGone_held hrole))
  · exact (exec_pairRoleReleased ..).trans (next_done ((if_neg (bnot_fails hdie)).trans (if_pos ⟨hst, hrole⟩)))
  · exact (exec_pairRoleReleased ..).trans (next_done ((if_neg (bnot_fails hdie)).trans
      ((if_neg fun h => absurd (hst.symm.trans h.1) (by decide)).trans (if_pos ⟨hst, hwas⟩))))
  · subst hv
    exact (exec_heartbeatRestored ..).trans (next_done ((if_neg (bnot_fails (and_holds hup (beq_iff_eq.2 hst)))).trans (if_pos hrole)))
  · subst hv
    exact (exec_heartbeatRestored ..).trans (next_done ((if_neg (bnot_fails (and_holds hup (beq_iff_eq.2 hst)))).trans (if_neg hrole)))
  · exact (exec_reedLaneLoss ..).trans (next_done (if_pos (and_holds hdie (decide_eq_true hk))))
  · exact (exec_reedLaneLock ..).trans (next_done (if_pos (and_holds hbus (decide_eq_true hk))))
  · refine (exec_twinRefreshTimeout ..).trans (next_done (if_pos (and_holds hlive ?_)))
    cases hat : u.core.twAt with
    | none => rfl
    | some t => exact decide_eq_true (hlate t hat)

end Sys2Proof.Machine

/-!
What a twin pair mirrors: images, the journal, shared drives, off-state tests, the out-of-band heartbeat and the lines (R698 to R728).
-/
namespace Sys2Proof.Machine

section Images
variable {s : State} {dt took : Nat} {i : Image} {whole crc : Bool}

/-- The Lead of a running pair, or of a swap that has not reached its handoff, whose cycle is over (R705). -/
structure State.SnapshotDue (s : State) : Prop where
  live : s.twLive = true
  runs : s.twSt = 3 ∨ s.twSt = 7
  lead : s.twRole = 1
  noHandoff : ∀ w, s.twin.swap = some w → w.phase ≤ 2
  cycleOver : s.twin.cycleAt + s.rd Reg.TW_CYC_CYCLE * 1000 ≤ s.now

theorem exec_mirrorSnapshot_due {v : State} (h : (s.tick dt).SnapshotDue)
    (hv : v = (s.tick dt).tw fun t => { t with cycle := t.cycle + 1, cycleAt := (s.tick dt).now }) :
    exec (.mirrorSnapshot dt) s = .next (v.reed (.image v.image (xferNs v.image.size v.reedRate))).done := by
  obtain ⟨hlive, hruns, hlead, hswap, hover⟩ := h
  subst hv
  refine (exec_mirrorSnapshot ..).trans (next_done (if_neg (bnot_fails
    (and_holds (and_holds (and_holds (and_holds hlive (or_beq_iff.2 hruns)) (beq_iff_eq.2 hlead)) ?_) (decide_eq_true hover)))))
  cases hw : (s.tick dt).twin.swap with
  | none => rfl
  | some w => exact decide_eq_true (hswap w hw)

/-- The image is newer than the one that the Shadow holds (R709). -/
def State.isNewer (s : State) (i : Image) : Bool := match s.twin.active with | some a => decide (a.cycle < i.cycle) | none => true

/-- A Shadow whose link is not lost commits an image, or counts it as missed (R709). -/
theorem exec_imageReceived_shadow (hup : (s.tick dt).reedUp = true) (hrole : (s.tick dt).twRole = 2) (hst : (s.tick dt).twSt ≠ 6) :
    exec (.imageReceived dt i whole crc took) s = .next (if whole && crc && (s.tick dt).isNewer i then (s.tick dt).commitImage i took
      else ((s.tick dt).bump Reg.TW_AGE_MISS 0).twCount 4).done := by
  have hlead : ¬ ((s.tick dt).twSt = 7 ∧ (s.tick dt).twRole = 1) := fun h => absurd (hrole.symm.trans h.2) (by decide)
  exact (exec_imageReceived ..).trans (next_done ((if_neg (bnot_fails hup)).trans ((if_neg hlead).trans
    (if_neg (not_or.2 ⟨not_not_intro hrole, hst⟩)))))

theorem State.isNewer_holds (h : ∀ a, s.twin.active = some a → a.cycle < i.cycle) : s.isNewer i = true := by
  unfold State.isNewer
  split
  · next a ha => exact decide_eq_true (h a ha)
  · rfl

theorem State.isNewer_fails {a : Image} (ha : s.twin.active = some a) (hold : i.cycle ≤ a.cycle) : s.isNewer i = false := by
  unfold State.isNewer
  rw [ha]
  exact decide_eq_false (Nat.not_lt.2 hold)

end Images

section Agent
variable {s v : State} {dt o p cause late : Nat}

/-- A running Shadow takes a shared-drive message of a paired object that is not in limp-home (R698, R699). -/
theorem exec_driveMessage_applies {d : DriveMsg} (hp : recIx d.obj = some p) (hup : (s.tick dt).reedUp = true) (hrole : (s.tick dt).twRole = 2)
    (hst : (s.tick dt).twSt = 4 ∨ (s.tick dt).twSt = 7) (hmode : (s.tick dt).twMode p = 2) (hlimp : (s.tick dt).inLimp p = false)
    (hv : v = (s.tick dt).startTarget d.obj ((s.tick dt).load d.obj).cls d.target false) :
    exec (.driveMessage dt d late) s =
      .next (if late = 0 then v else (v.twCount 5).raise 0x1D89 twObjId (atByte 16 d.obj + atByte 18 (min 0xFFFF late))).done := by
  subst hv
  refine (exec_driveMessage ..).trans (next_done ?_)
  rw [hp]
  refine (if_neg (bnot_fails (and_holds (and_holds (and_holds hup (beq_iff_eq.2 hrole)) (or_beq_iff.2 hst)) (beq_iff_eq.2 hmode)))).trans ?_
  simp only [hlimp, Bool.false_eq_true, if_false]

theorem exec_partnerLost_notes {back : Bool} (hp : recIx o = some p) (hlive : (s.tick dt).twLive = true) (hmode : (s.tick dt).twMode p = 2)
    (hback : back = false ∨ (s.tick dt).isOn o = true) :
    exec (.partnerLost dt o cause back) s = .next ((s.tick dt).setLost o cause (!back)).done := by
  refine (exec_partnerLost ..).trans (next_done ?_)
  rw [hp]
  exact if_pos (and_holds (and_holds hlive (beq_iff_eq.2 hmode)) (Bool.or_eq_true_iff.2 (hback.imp_left bnot_holds)))

/-- The half of the off-test span that runs is this module's own (R701). -/
def State.ownWindow (s : State) (first : Bool) : Bool :=
  s.twLive && ((s.twRole == 1 && first) || (s.twRole == 2 && !first && s.twin.active.isSome)) && first == decide (s.epochNs % 20000000 < 10000000)

theorem State.ownWindow_holds {first : Bool} (hlive : s.twLive = true)
    (h : (first = true ∧ s.twRole = 1 ∧ s.epochNs % 20000000 < 10000000)
      ∨ (first = false ∧ s.twRole = 2 ∧ s.twin.active.isSome = true ∧ 10000000 ≤ s.epochNs % 20000000)) : s.ownWindow first = true := by
  obtain ⟨rfl, hrole, ht⟩ | ⟨rfl, hrole, hactive, ht⟩ := h
  · exact and_holds (and_holds hlive (Bool.or_eq_true_iff.2 (.inl (and_holds (beq_iff_eq.2 hrole) rfl)))) (beq_iff_eq.2 (decide_eq_true ht).symm)
  · exact and_holds (and_holds hlive (Bool.or_eq_true_iff.2 (.inr (and_holds (and_holds (beq_iff_eq.2 hrole) rfl) hactive))))
      (beq_iff_eq.2 (decide_eq_false (Nat.not_lt.2 ht)).symm)

theorem exec_offtestWindow_own {first : Bool} {off l : List Nat} (hown : (s.tick dt).ownWindow first = true)
    (hl : l = (((s.tick dt).pairs 0).map recObj).filter fun o => (s.tick dt).st o == 0 && off.contains o) :
    exec (.offtestWindow dt first off) s = .next (({ s.tick dt with out := { (s.tick dt).out with testWin := l } } : State).tw
      fun x => { x with windowAt := (s.tick dt).now + (10000000 - (s.tick dt).epochNs % 20000000 % 10000000) }).done := by
  subst hl
  refine (exec_offtestWindow ..).trans (next_done ?_)
  unfold State.ownWindow at hown
  simp only [hown, if_true]

/-- The out-of-band heartbeat goes into a frame of its port, or into one of its segment's queue (R725). -/
def State.oobPush (s : State) (g : Nat) : State :=
  if s.rd Reg.TW_CFG_OOBKIND = 2 then
    let da := leBytes 4 (s.rd Reg.TW_OOBID_ID + s.rd Reg.TW_OOBID_IDE * 2 ^ 29 + s.rd Reg.TW_OOBID_TOP * 2 ^ 30) ++ leBytes 2 (s.rd Reg.TW_OOBDA_HI)
    let f : EthFrame := { da, sa := s.hostMac, type := 0x88B5, body := List.replicate 8 0 ++ s.oobBytes ++ List.replicate 30 0 }
    (s.portPush (g - 24) { ord := 0, frm := .oob, body := .eth f, tc := bits (s.rd Reg.ETH_PCPMAP (g - 24)) 0 3 } f.len).1
  else
    let t : Tx := { ord := 0, frm := .oob, body := .bus { id := s.rd Reg.TW_OOBID_ID + s.rd Reg.TW_OOBID_IDE * 2 ^ 29, fmt := 0, data := s.oobBytes } }
    if s.canTakes g 0 then s.canPush g t else s

theorem exec_oobHeartbeatSend_due (hlive : (s.tick dt).twLive = true) (hrole : (s.tick dt).twRole ≠ 0)
    (hdue : (s.tick dt).twin.oobSent + (s.tick dt).rd Reg.TW_CFG_OOBPER * 1000000 ≤ (s.tick dt).now)
    (hv : v = ((s.tick dt).tw fun t => { t with oobSent := (s.tick dt).now }).forwardWake ((s.tick dt).rd Reg.TW_CFG_OOBSEG)) :
    exec (.oobHeartbeatSend dt) s = .next (v.oobPush ((s.tick dt).rd Reg.TW_CFG_OOBSEG)).done := by
  subst hv
  exact (exec_oobHeartbeatSend ..).trans (next_done (if_neg (bnot_fails
    (and_holds (and_holds hlive (bne_iff_ne.2 hrole)) (decide_eq_true hdue)))))

theorem State.oobPush_bus {g : Nat} (hkind : s.rd Reg.TW_CFG_OOBKIND ≠ 2) (htakes : s.canTakes g 0 = true) : s.oobPush g = s.canPush g
    { ord := 0, frm := .oob, body := .bus { id := s.rd Reg.TW_OOBID_ID + s.rd Reg.TW_OOBID_IDE * 2 ^ 29, fmt := 0, data := s.oobBytes } } :=
  (if_neg hkind).trans (if_pos htakes)

theorem exec_oobHeartbeatReceived_shadow {role serial : Nat} {later : Bool} (hlive : (s.tick dt).twLive = true) (hmine : (s.tick dt).twRole ≠ 0)
    (hrole : role ≠ 1) : exec (.oobHeartbeatReceived dt role serial later) s =
      .next (((s.tick dt).wr Reg.TW_STAT_OOBOK 0 1).tw fun t => { t with oobAt := (s.tick dt).now }).done :=
  (exec_oobHeartbeatReceived ..).trans (next_done ((if_neg (bnot_fails (and_holds hlive (bne_iff_ne.2 hmine)))).trans (if_pos (.inl hrole))))

theorem exec_oobHeartbeatSilent_due (hlive : (s.tick dt).twLive = true) (hok : (s.tick dt).flag Reg.TW_STAT_OOBOK = true)
    (hdue : (s.tick dt).twin.oobAt + 3 * (s.tick dt).rd Reg.TW_CFG_OOBPER * 1000000 ≤ (s.tick dt).now) (hv : v = (s.tick dt).wr Reg.TW_STAT_OOBOK 0 0) :
    exec (.oobHeartbeatSilent dt) s = .next (if v.twSt = 6 ∧ v.twRole = 2 then v.peerSilent else v).done := by
  subst hv
  exact (exec_oobHeartbeatSilent ..).trans (next_done (if_pos (and_holds (and_holds hlive hok) (decide_eq_true hdue))))

section Line
variable {k : Nat} (hdie : (s.tick dt).dieC = true) (hk : k < 2)
  (hheld : (if k = 0 then (s.tick dt).twin.holdRole else (s.tick dt).twin.holdOk) = true)
include hdie hk hheld

theorem exec_lineFault_bad : exec (.lineFault dt k true) s =
    .next (((s.tick dt).tw fun t => { t with lineOkAt := none }).flagEvent Reg.TW_FLAGS_LINEFLT 0x1D88 (atByte 16 k)).done :=
  (exec_lineFault ..).trans (next_done ((if_neg (bnot_fails (and_holds (and_holds hdie (decide_eq_true hk)) hheld))).trans
    (if_neg (bnot_fails rfl))))

theorem exec_lineFault_good (hok : (s.tick dt).twin.lineOkAt = none) : exec (.lineFault dt k false) s =
    .next ((s.tick dt).tw fun t => { t with lineOkAt := some (s.tick dt).now }).done := by
  refine (exec_lineFault ..).trans (next_done ((if_neg (bnot_fails (and_holds (and_holds hdie (decide_eq_true hk)) hheld))).trans
    ((if_pos (bnot_holds rfl)).trans ?_)))
  simp only [State.tw, hok]

end Line

end Agent

/-- Settles O28: each row by the role of the module and what it has received. -/
theorem twinMirror : Obligations.TwinMirror := by
  intro s dt i whole crc took us o cause p role serial k late d back later first off u
  refine ⟨fun hlive hruns hlead hswap hover v => exec_mirrorSnapshot_due ⟨hlive, hruns, hlead, hswap, hover⟩, fun hup hrole hst hnew => ?_,
    fun hup hrole hst hold => ?_, fun hlive hrole hst hlate => ?_, fun hdie due hdue => ?_,
    fun hp hup hrole hst hmode hlimp v hv => ⟨exec_driveMessage_applies hp hup hrole hst hmode hlimp hv, fun hlate => ?_⟩,
    fun hp hlive hmode hback => exec_partnerLost_notes hp hlive hmode hback,
    fun hlive hwin l hl => exec_offtestWindow_own (State.ownWindow_holds hlive hwin) hl,
    fun hlive hrole hdue v hv => ⟨fun hkind htakes => ?_, fun hkind f hf => ?_⟩, fun hlive hmine hrole => exec_oobHeartbeatReceived_shadow hlive hmine hrole,
    fun hlive hok hdue v hv => ⟨fun hlost => ?_, fun hlost => ?_⟩, fun hdie hk hheld => ⟨exec_lineFault_bad hdie hk hheld, exec_lineFault_good hdie hk hheld⟩⟩
  · exact (exec_imageReceived_shadow hup hrole hst).trans (next_done (if_pos (State.isNewer_holds hnew)))
  · have hmissed : ¬ (whole && crc && u.isNewer i) = true := by
      obtain hwhole | hcrc | ⟨a, ha, hcycle⟩ := hold
      · simp [hwhole]
      · simp [hcrc]
      · simp [State.isNewer_fails ha hcycle]
    exact (exec_imageReceived_shadow hup hrole hst).trans (next_done (if_neg hmissed))
  · have hshadow : (u.twSt == 2 || u.twSt == 4 || u.twSt == 7) = true := by
      simpa only [Bool.or_eq_true, beq_iff_eq, or_assoc] using hst
    exact (exec_mirrorLate ..).trans (next_done (if_pos (and_holds (and_holds (and_holds hlive (beq_iff_eq.2 hrole)) hshadow) (decide_eq_true hlate))))
  · subst hdue
    exact (exec_journalTimeout ..).trans (next_done (if_neg (bnot_fails hdie)))
  · exact (exec_driveMessage_applies hp hup hrole hst hmode hlimp hv).trans (next_done (if_neg hlate))
  · exact (exec_oobHeartbeatSend_due hlive hrole hdue hv).trans (next_done (State.oobPush_bus hkind htakes))
  · subst hf
    exact (exec_oobHeartbeatSend_due hlive hrole hdue hv).trans (next_done (if_pos hkind))
  · exact (exec_oobHeartbeatSilent_due hlive hok hdue hv).trans (next_done (if_pos hlost))
  · exact (exec_oobHeartbeatSilent_due hlive hok hdue hv).trans (next_done (if_neg hlost))

end Sys2Proof.Machine

/-!
Solstice swaps: asking, proving, handing over and reclaiming (R728 to R736).
-/
namespace Sys2Proof.Machine

section Asking
variable {s v : State} {dt : Nat} {c : Cmd} {w : Swap} {peer : Bool}

theorem State.swapIdle (hswap : s.twin.swap = none) (heq : s.twin.equinox = none) : (s.twin.swap.isNone && s.twin.equinox.isNone) = true := by
  rw [hswap, heq]
  rfl

/-- The 24 h after the last swap are over, and a retry is due (R729). -/
theorem exec_solsticeDue_since (hlive : (s.tick dt).twLive = true) (hsince : 1440 ≤ (s.tick dt).sinceMin)
    (hidle : ((s.tick dt).twin.swap.isNone && (s.tick dt).twin.equinox.isNone) = true) (hretry : (s.tick dt).twin.retryAt ≤ (s.tick dt).now)
    (hv : v = if (s.tick dt).twin.retryAt = 0 then s.tick dt else (s.tick dt).raise 0x1D8D twObjId (atByte 16 ((s.tick dt).sinceMin / 60))) :
    exec (.solsticeDue dt 1 peer) s = .next ((v.tw fun t => { t with retryAt := v.now + 600000000000 }).swapAsk [] true peer).done := by
  subst hv
  exact (exec_solsticeDue ..).trans (next_done ((if_neg (bnot_fails hlive)).trans ((if_neg (by decide)).trans ((if_pos rfl).trans
    (if_pos (and_holds (and_holds (decide_eq_true hsince) hidle) (decide_eq_true hretry)))))))

/-- The ignition delay has passed (R729). -/
theorem exec_solsticeDue_ignition {t0 : Ns} (hlive : (s.tick dt).twLive = true) (hen : (s.tick dt).flag Reg.TW_SOL_IGNEN = true)
    (hidle : ((s.tick dt).twin.swap.isNone && (s.tick dt).twin.equinox.isNone) = true) (hign : (s.tick dt).twin.ignAt = some t0)
    (hdue : t0 + (s.tick dt).rd Reg.TW_SOL_IGNDLY * 1000000000 ≤ (s.tick dt).now) :
    exec (.solsticeDue dt 0 peer) s = .next (((s.tick dt).tw fun t => { t with ignAt := none }).swapAsk [] false peer).done := by
  refine (exec_solsticeDue ..).trans (next_done ((if_neg (bnot_fails hlive)).trans ((if_pos rfl).trans (if_pos (and_holds (and_holds hen hidle) ?_)))))
  rw [hign]
  exact decide_eq_true hdue

/-- A swap that waits begins once its preconditions hold (R730). -/
theorem exec_solsticeDue_begins (hlive : (s.tick dt).twLive = true) (hw : (s.tick dt).swapWaits = some w) (hready : (s.tick dt).swapReady peer = true) :
    exec (.solsticeDue dt 3 peer) s = .next ((s.tick dt).swapBegin w.cmds w.due).done := by
  refine (exec_solsticeDue ..).trans (next_done ((if_neg (bnot_fails hlive)).trans ((if_neg (by decide)).trans
    ((if_neg (by decide)).trans ((if_neg (by decide)).trans ?_)))))
  rw [hw]
  exact if_pos hready

theorem exec_swapPrecondTimeout_late (hw : (s.tick dt).swapWaits = some w) (hcmds : w.cmds = [c]) (hlate : w.since + 10000000000 ≤ (s.tick dt).now) :
    exec (.swapPrecondTimeout dt) s = .next (((s.tick dt).tw fun t => { t with swap := none }).complete c .refusedState 0x1D03).done := by
  refine (exec_swapPrecondTimeout ..).trans (next_done ?_)
  rw [hw]
  refine (if_pos (decide_eq_true hlate)).trans ?_
  rw [hcmds]
  rfl

end Asking

section Proving
variable {s v : State} {dt fail took det on : Nat} {w : Swap} {i : Image}

/-- The proof that has failed, as the module sees it: 0 for none, 3 for a fault of a shared object beside the proofs (R732). -/
def State.failedProof (s : State) (fail : Nat) : Nat := if fail = 0 ∧ s.sharedBad then 3 else fail

theorem State.failedProof_fault (hbad : s.sharedBad = true) : s.failedProof 0 = 3 := if_pos ⟨rfl, hbad⟩

theorem State.failedProof_noFault (hgood : s.sharedBad = false) : s.failedProof fail = fail :=
  if_neg fun h => absurd h.2 (Bool.eq_false_iff.1 hgood)

theorem State.failedProof_failed (hfail : fail ≠ 0) : s.failedProof fail = fail := if_neg fun h => hfail h.1

/-- The proofs of a swap end: it goes on to the Final image phase, or ends with the failed proof (R731, R734). -/
def State.proved (s : State) (w : Swap) (fail : Nat) : State :=
  if fail = 0 then (s.tw fun t => { t with swap := some { w with phase := 2, finalAt := s.now } }).reed (.swap 1)
  else (s.reed (.swap 2)).swapEnd .faulted 0x1D10 (min 3 fail) (if s.twRole = 1 then 3 else 4) s.twRole

theorem exec_swapProveDone_proves (hw : (s.tick dt).twin.swap = some w) (hlive : (s.tick dt).twLive = true) (hphase : w.phase = 1)
    (hst : (s.tick dt).twSt = 7) : exec (.swapProveDone dt fail) s = .next ((s.tick dt).proved w ((s.tick dt).failedProof fail)).done := by
  refine (exec_swapProveDone ..).trans (next_done ?_)
  rw [hw]
  exact if_neg (bnot_fails (and_holds (and_holds hlive (beq_iff_eq.2 hphase)) (beq_iff_eq.2 hst)))

/-- The Shadow's report of its commit of the final image starts the handoff (R731). -/
theorem exec_imageReceived_handoff (hup : (s.tick dt).reedUp = true) (hst : (s.tick dt).twSt = 7) (hrole : (s.tick dt).twRole = 1)
    (hw : (s.tick dt).twin.swap = some w) (hphase : w.phase = 2) (hfinal : w.finalAt ≤ (s.tick dt).twin.cycleAt)
    (hcycle : i.cycle = (s.tick dt).twin.cycle) : exec (.imageReceived dt i true true took) s = .next (s.tick dt).handoff.done := by
  refine (exec_imageReceived ..).trans (next_done ((if_neg (bnot_fails hup)).trans ((if_pos ⟨hst, hrole⟩).trans (if_pos ?_))))
  rw [hw]
  exact and_holds (and_holds rfl (beq_iff_eq.2 hcycle)) (and_holds (beq_iff_eq.2 hphase) (decide_eq_true hfinal))

/-- The old Lead settles: the delays of the new one are shown, and it becomes the Shadow (R731, R734). -/
def State.leadSettles (s : State) (det on : Nat) : State :=
  let s := (s.wr Reg.TW_SOLSTAT_LASTDET 0 (min 255 det)).wr Reg.TW_SOLSTAT_LASTON 0 (min 255 on)
  let s := (s.tw fun t => { t with beats := true, hbeat := true, active := none }).toStandby
  s.drive false true

theorem exec_pairRoleLow_settles {same : List Nat} (hdie : (s.tick dt).dieC = true) (hv : v = (s.tick dt).peerLines true (s.tick dt).twin.peerOk)
    (hst : v.twSt = 7) (hrole : v.twRole = 1) (hphase : v.swapPhase = 3) : exec (.pairRoleLow dt same det on) s =
      .next (if 40 < det ∨ 60 < on then (v.leadSettles det on).swapEnd .faulted 0x1D10 4 4 2 else (v.leadSettles det on).swapEnd .done 0 0 4 2).done := by
  subst hv
  exact (exec_pairRoleLow ..).trans (next_done ((if_neg (bnot_fails hdie)).trans ((if_neg fun h => absurd (hst.symm.trans h) (by decide)).trans
    (if_pos ⟨hst, hrole, hphase⟩))))

/-- The partner channels of the shared-drive objects that are on are back at the new Lead (R700, R731). -/
def State.partnersBack (s : State) : State :=
  ((s.pairs 2).filter fun p => s.isOn (recObj p)).foldl (fun s p => s.setLost (recObj p) 0 false) s

theorem exec_pairOkLow_ends (hdie : (s.tick dt).dieC = true) (hup : ((s.tick dt).peerLines (s.tick dt).twin.peerRole true).reedUp = true)
    (hv : v = ((s.tick dt).peerLines (s.tick dt).twin.peerRole true).tw fun t => { t with hbeat := true })
    (hst : v.twSt = 7) (hrole : v.twRole = 1) (hphase : v.swapPhase = 4) : exec (.pairOkLow dt) s =
      .next (if 40 < v.partnersBack.rd Reg.TW_SOLSTAT_LASTDET ∨ 60 < v.partnersBack.rd Reg.TW_SOLSTAT_LASTON
        then v.partnersBack.swapEnd .faulted 0x1D10 4 3 1 else v.partnersBack.swapEnd .done 0 0 3 1).done := by
  subst hv
  exact (exec_pairOkLow ..).trans (next_done ((if_neg (bnot_fails hdie)).trans ((if_neg (bnot_fails hup)).trans
    ((if_neg fun h => absurd (hst.symm.trans h) (by decide)).trans (if_pos ⟨hst, hrole, hphase⟩)))))

/-- No takeover 100 µs after the handoff: the old Lead reclaims (R735). -/
theorem exec_takeoverSlow_reclaims (hw : (s.tick dt).twin.swap = some w) (hlive : (s.tick dt).twLive = true) (hphase : w.phase = 3)
    (hrole : (s.tick dt).twRole = 1) (hlate : w.offAt + 100000 ≤ (s.tick dt).now) : exec (.takeoverSlow dt) s =
      .next ((((s.tick dt).tw fun t => { t with beats := true }).drive true false).swapEnd .faulted 0x1D11 4 3 1).done := by
  refine (exec_takeoverSlow ..).trans (next_done ?_)
  rw [hw]
  exact if_pos (and_holds (and_holds (and_holds hlive (beq_iff_eq.2 hphase)) (beq_iff_eq.2 hrole)) (decide_eq_true hlate))

end Proving

/-- Settles O29: each step of a swap in the state of the agent and the phase of the swap that it meets. -/
theorem twinSwaps : Obligations.TwinSwaps := by
  intro s dt c i peer same fail took t0 det on w b u
  refine ⟨fun h hen hswap heq => ?_, fun hlive hsince hswap heq hretry => ?_, fun hlive hsince hswap heq hretry hdue v hv => ?_,
    fun hlive hen hswap heq hign hdue => ?_, fun hlive hw hready => exec_solsticeDue_begins hlive hw hready,
    fun hw hcmds hlate => exec_swapPrecondTimeout_late hw hcmds hlate, fun hw hlive hphase hst hgood => ?_, fun hw hlive hphase hst hfail => ?_,
    fun hw hlive hphase hst hbad => ?_, fun hup hst hrole hw hphase hfinal hcycle => exec_imageReceived_handoff hup hst hrole hw hphase hfinal hcycle,
    fun hdie v hv hst hrole hphase x hx => ?_, fun hdie hup v hv hst hrole hphase x hx => ?_,
    fun hw hlive hphase hrole hlate => exec_takeoverSlow_reclaims hw hlive hphase hrole hlate⟩
  · have hfree : (b.twin.swap.isSome || b.twin.equinox.isSome) = false := by rw [hswap, heq]; rfl
    exact (exec_twSolstice ..).trans (next_starts h (State.orElse_skip (barIf_none (congrArg not hen)) (State.orElse_last (barIf_none hfree) rfl)))
  · exact exec_solsticeDue_since hlive hsince (State.swapIdle hswap heq) (hretry ▸ Nat.zero_le _) (if_pos hretry).symm
  · exact exec_solsticeDue_since hlive hsince (State.swapIdle hswap heq) hdue (hv.trans (if_neg hretry).symm)
  · exact exec_solsticeDue_ignition hlive hen (State.swapIdle hswap heq) hign hdue
  · have hproof : u.failedProof 0 = 0 := State.failedProof_noFault hgood
    exact (exec_swapProveDone_proves hw hlive hphase hst).trans (next_done (by rw [hproof]; rfl))
  · have hproof : u.failedProof fail = fail := State.failedProof_failed hfail
    exact (exec_swapProveDone_proves hw hlive hphase hst).trans (next_done ((congrArg (u.proved w) hproof).trans (if_neg hfail)))
  · have hproof : u.failedProof 0 = 3 := State.failedProof_fault hbad
    exact (exec_swapProveDone_proves hw hlive hphase hst).trans (next_done ((congrArg (u.proved w) hproof).trans (if_neg (by decide))))
  · subst hx
    exact exec_pairRoleLow_settles hdie hv hst hrole hphase
  · subst hx
    exact exec_pairOkLow_ends hdie hup hv hst hrole hphase

end Sys2Proof.Machine

/-!
The sleep agreement of a segment (R648 to R675).
-/
namespace Sys2Proof.Machine

section Agreement
variable {s v : State} {dt g : Nat} {c : Cmd} {t : Ns}

theorem State.orElse_nmOn {i : Nat} (hen : s.nmOffBar i = none) {go : State → State} : s.orElse c [s.nmOffBar i] go = go s := State.orElse_last hen rfl

/-- A CAN segment or an Ethernet port, which has keepalives of its own (R648). -/
theorem segKeeps_holds (hseg : g < 16 ∨ 24 ≤ g) : (decide (g < 16) || decide (24 ≤ g)) = true :=
  Bool.or_eq_true_iff.2 (hseg.imp decide_eq_true decide_eq_true)

theorem exec_needHoldEnd_due (hlive : (s.tick dt).segLive g = true) (hneed : (s.tick dt).flag Reg.NM_STAT_HOSTNEED g = true)
    (hat : ((s.tick dt).seg g).holdAt = some t) (ht : t ≤ (s.tick dt).now) :
    exec (.needHoldEnd dt g) s = .next ((s.tick dt).hostRelease g).done := by
  refine (exec_needHoldEnd ..).trans (next_done (if_pos (and_holds (and_holds hlive hneed) ?_)))
  rw [hat]
  exact decide_eq_true ht

/-- A request to the failsafe of a segment that does not sleep: `answered` says that die C answers (R661 to R663). -/
def State.failsafeAsked (s : State) (g : Nat) (answered : Bool) : State :=
  if !answered then s.modSeg g fun x => { x with fsAt := some s.now }
  else if s.nmSt g = 3 then (if 16 ≤ g ∧ g < 24 then s.linSleep (g - 16) else s.nmTo g 4).failsafeEvent g 1
  else s.modSeg g fun x => { x with idleAt := s.now }

theorem exec_failsafeSleepRequest_due {answered : Bool} (hlive : (s.tick dt).segLive g = true)
    (hidle : max ((s.tick dt).seg g).busAt ((s.tick dt).seg g).idleAt + (s.tick dt).rd Reg.NM_GCFG_TFSIDLE * 97000000 ≤ (s.tick dt).now)
    (hst : (s.tick dt).nmSt g = 1 ∨ (s.tick dt).nmSt g = 2 ∨ (s.tick dt).nmSt g = 3) :
    exec (.failsafeSleepRequest dt g answered) s = .next ((s.tick dt).failsafeAsked g answered).done := by
  have hawake : ((s.tick dt).nmSt g == 1 || (s.tick dt).nmSt g == 2 || (s.tick dt).nmSt g == 3) = true := by
    simpa only [Bool.or_eq_true, beq_iff_eq, or_assoc] using hst
  exact (exec_failsafeSleepRequest ..).trans (next_done (if_neg (bnot_fails (and_holds (and_holds hlive hawake) (decide_eq_true hidle)))))

theorem State.failsafeAsked_silent : s.failsafeAsked g false = s.modSeg g fun x => { x with fsAt := some s.now } := if_pos (bnot_holds rfl)

theorem State.failsafeAsked_prep (hst : s.nmSt g = 3) :
    s.failsafeAsked g true = (if 16 ≤ g ∧ g < 24 then s.linSleep (g - 16) else s.nmTo g 4).failsafeEvent g 1 :=
  (if_neg (bnot_fails rfl)).trans (if_pos hst)

theorem State.failsafeAsked_awake (hst : s.nmSt g ≠ 3) : s.failsafeAsked g true = s.modSeg g fun x => { x with idleAt := s.now } :=
  (if_neg (bnot_fails rfl)).trans (if_neg hst)

theorem exec_failsafeTimeout_due (hlive : (s.tick dt).segLive g = true) (hat : ((s.tick dt).seg g).fsAt = some t)
    (hlate : t + (s.tick dt).rd Reg.NM_GCFG_TFS * 1000000 ≤ (s.tick dt).now)
    (hv : v = ((s.tick dt).bump Reg.NM_CNT_FSCNT g).modSeg g fun x => { x with fsAt := none }) :
    exec (.failsafeTimeout dt g) s = .next ((if 16 ≤ g ∧ g < 24 then v.linSleep (g - 16) else v.nmTo g 4).failsafeEvent g 0).done := by
  subst hv
  refine (exec_failsafeTimeout ..).trans (next_done (if_neg (bnot_fails (and_holds hlive ?_))))
  rw [hat]
  exact decide_eq_true hlate

theorem exec_segmentWake_sees {k : Nat} {sign : BusSign} (hdet : (s.tick dt).detects g = true) (hk : ((s.tick dt).senses g sign).1 = some k) :
    exec (.segmentWake dt g sign) s =
      .next (((s.tick dt).modSeg g fun x => { x with swErr := ((s.tick dt).senses g sign).2 }).segWake g k).done := by
  refine (exec_segmentWake ..).trans (next_done ((if_neg (bnot_fails hdet)).trans ?_))
  dsimp only
  rw [hk]

end Agreement

/-- Settles O26: each command and timer in the state of the agreement that it meets. -/
theorem networkSleepRows : Obligations.NetworkSleepRows := by
  intro s dt c g n k t sign b i u down
  refine ⟨fun h hbar v hv => ?_, fun h hbar => ?_, fun hlive hst hseg hdue => ?_, fun hlive hst hseg hdue => ?_, fun hlive hst hdue => ?_,
    fun hlive hneed hat ht => exec_needHoldEnd_due hlive hneed hat ht, fun hlive hfwd hdue hrel => ?_,
    fun hlive hidle => ⟨fun hst => ?_, fun hst => ?_, fun hst => ?_⟩, fun hlive hat hlate => exec_failsafeTimeout_due hlive hat hlate rfl,
    fun per q hper hlive hne hst hdue v hv hq r hr => ?_, fun hn hdie hen hrole hst hnm hdue => ?_, fun hdet hk => exec_segmentWake_sees hdet hk⟩
  · subst hv
    exact (exec_nmNeed ..).trans (next_starts h (State.orElse_nmOn hbar))
  · exact (exec_nmRelease ..).trans (next_starts h (State.orElse_nmOn hbar))
  · exact (exec_keepaliveSend ..).trans (next_done (if_pos
      (and_holds (and_holds (and_holds hlive (beq_iff_eq.2 hst)) (segKeeps_holds hseg)) (decide_eq_true hdue))))
  · exact (exec_tkaExpiry ..).trans (next_done (if_pos
      (and_holds (and_holds (and_holds hlive (beq_iff_eq.2 hst)) (segKeeps_holds hseg)) (decide_eq_true hdue))))
  · exact (exec_tprepExpiry ..).trans (next_done (if_pos (and_holds (and_holds hlive (beq_iff_eq.2 hst)) (decide_eq_true hdue))))
  · exact (exec_fwdHoldEnd ..).trans (next_done (if_pos (and_holds (and_holds (and_holds hlive hfwd) (decide_eq_true hdue)) (bnot_holds hrel))))
  · exact (exec_failsafeSleepRequest_due hlive hidle hst).trans (next_done State.failsafeAsked_silent)
  · exact (exec_failsafeSleepRequest_due hlive hidle (.inr (.inr hst))).trans (next_done (State.failsafeAsked_prep hst))
  · have hawake : u.nmSt g ≠ 3 := by omega
    exact (exec_failsafeSleepRequest_due hlive hidle (hst.imp_right .inl)).trans (next_done (State.failsafeAsked_awake hawake))
  · subst hr hq hv hper
    exact (exec_nmKeeper ..).trans (next_done (if_neg (bnot_fails
      (and_holds (and_holds (and_holds hlive (bne_iff_ne.2 hne)) (or_beq_iff.2 hst)) (decide_eq_true hdue)))))
  · exact (exec_linSilenceSleep ..).trans (next_done (if_pos (and_holds (and_holds (and_holds (and_holds (and_holds (and_holds
      (decide_eq_true hn) hdie) hen) (bnot_holds hrole)) (bne_iff_ne.2 hst)) (bne_iff_ne.2 hnm)) (decide_eq_true hdue))))

end Sys2Proof.Machine

/-!
The gPTP clock (R622 to R626).
-/
namespace Sys2Proof.Machine

section Sync
variable {s v w : State} {dt ofs n : Nat} {o : Int}

/-- Network time is corrected by the offset of a Sync: a large one is stepped and reported, a small one slewed (R624, R626). -/
def State.syncCorrects (s : State) (o : Int) : State :=
  if decide (1000 < o.natAbs) then
    ({ s.bump Reg.GPTP_STAT_STEPS 0 with ntime := unsgn 64 ((s.ntime : Int) - o) } : State).timeJump.raise 0x198A 0xFFFF (atByte 24 (unsgn 64 (-o)))
  else { s with ntime := unsgn 64 ((s.ntime : Int) - clampInt (-1000) 1000 (Config.slew o)) }

/-- The clock is locked, and network time valid (R625). -/
def State.syncLocks (s : State) : State := { s.gptpTo 2 with pwr := { s.pwr with timeSet := true } }

/-- The good Syncs in a row become `n`. -/
def State.syncNoted (s : State) (n : Nat) : State := { s with net := { s.net with syncOk := n, syncAt := s.now } }

/-- The good Syncs in a row become `n`, of which eight lock the clock (R625). -/
def State.syncCounts (s : State) (n : Nat) : State := if n = 8 then (s.syncNoted n).syncLocks else s.syncNoted n

theorem exec_gptpSync_follower (hbus : (s.tick dt).buses = true) (hrole : (s.tick dt).rd Reg.GPTP_CFG_ROLE = 2)
    (hv : v = (s.tick dt).wr Reg.GPTP_OFS 0 (unsgn 32 (clampInt (-2147483648) 2147483647 (sgn 64 ofs))))
    (hw : w = v.syncCorrects (sgn 64 ofs)) (hn : n = if (sgn 64 ofs).natAbs ≤ 100 then min 8 (w.net.syncOk + 1) else 0) :
    exec (.gptpSync dt ofs) s = .next (w.syncCounts n).done := by
  subst hn hw hv
  exact (exec_gptpSync ..).trans (next_done (if_neg (bnot_fails (and_holds hbus (beq_iff_eq.2 hrole)))))

theorem State.syncCorrects_steps (h : 1000 < o.natAbs) : s.syncCorrects o =
    ({ s.bump Reg.GPTP_STAT_STEPS 0 with ntime := unsgn 64 ((s.ntime : Int) - o) } : State).timeJump.raise 0x198A 0xFFFF (atByte 24 (unsgn 64 (-o))) :=
  if_pos (decide_eq_true h)

theorem State.syncCorrects_slews (h : o.natAbs ≤ 100) :
    s.syncCorrects o = { s with ntime := unsgn 64 ((s.ntime : Int) - clampInt (-1000) 1000 (Config.slew o)) } := by
  have hsmall : ¬ decide (1000 < o.natAbs) = true := by simp; omega
  exact if_neg hsmall

theorem State.syncCounts_other (h : n ≠ 8) : s.syncCounts n = s.syncNoted n := if_neg h

theorem State.syncCounts_eighth : s.syncCounts 8 = (s.syncNoted 8).syncLocks := if_pos rfl

end Sync

/-- Settles O25: a Sync by the size of its offset and the number of good ones, and the intervals by the role. -/
theorem gptpRows : Obligations.GptpRows := by
  intro s dt ofs u o v
  refine ⟨fun hbus hrole hbig w hw => ?_, fun hbus hrole hgood w hw => ⟨fun hn => ?_, fun hn => ?_⟩, fun hdie hrole hst hlate w hw => ?_,
    fun hbus hrole hset hdue w hw => ?_⟩
  · have hcorrect : w = v.syncCorrects o := hw.trans (State.syncCorrects_steps hbig).symm
    have hcount : 0 = if o.natAbs ≤ 100 then min 8 (w.net.syncOk + 1) else 0 := (if_neg (by omega)).symm
    exact (exec_gptpSync_follower hbus hrole rfl hcorrect hcount).trans (next_done (State.syncCounts_other (by decide)))
  · have hcount : min 8 (v.net.syncOk + 1) = if o.natAbs ≤ 100 then min 8 ((v.syncCorrects o).net.syncOk + 1) else 0 := by
      rw [if_pos hgood, State.syncCorrects_slews hgood]
    refine (exec_gptpSync_follower hbus hrole rfl rfl hcount).trans (next_done ?_)
    rw [State.syncCounts_other (by omega), State.syncCorrects_slews hgood, hw]
    rfl
  · have hcount : 8 = if o.natAbs ≤ 100 then min 8 ((v.syncCorrects o).net.syncOk + 1) else 0 := by
      rw [if_pos hgood, State.syncCorrects_slews hgood]
      exact (Nat.min_eq_left (Nat.succ_le_succ hn)).symm
    refine (exec_gptpSync_follower hbus hrole rfl rfl hcount).trans (next_done ?_)
    have height : min 8 (v.net.syncOk + 1) = 8 := Nat.min_eq_left (Nat.succ_le_succ hn)
    rw [State.syncCounts_eighth, State.syncCorrects_slews hgood, hw, height]
    rfl
  · subst hw
    exact (exec_gptpHoldover ..).trans (next_done (if_pos
      (and_holds (and_holds (and_holds hdie (beq_iff_eq.2 hrole)) (or_beq_iff.2 hst)) (decide_eq_true hlate))))
  · subst hw
    exact (exec_gptpSyncSend ..).trans (next_done (if_neg (bnot_fails
      (and_holds (and_holds (and_holds hbus (beq_iff_eq.2 hrole)) hset) (decide_eq_true hdue)))))

end Sys2Proof.Machine

/-!
The freshness of the entries of the frame identity table (R613, R630, R634, R636).
-/
namespace Sys2Proof.Machine

section Freshness
variable {s w : State} {dt e p per off : Nat}

/-- What a periodic send does once the multiple of the period is noted (R634). -/
def State.fitSends (s : State) (e : Nat) : State :=
  if s.fitKind e = 5 then
    let t := if s.srcFld e = 0 ∨ s.srcFld e = 3 then s.entryStamp e else s.srcStamp e
    let b : Body := .bus { id := 0, fmt := 0, data := s.published e }
    let s := match t with | some x => s.sample e { body := b, stamp := x } | none => s
    s.sendValue e hostClient 0 b t none
  else
    match (s.fit e).value with
    | some v =>
      let g := s.fitBits e 1 0 8
      s.sendValue e (if g < 24 then g else if 0x20 ≤ g ∧ g < 0x2A then g - 8 else if g = 0x2F then 24 else hostClient) v.bus v.body (s.entryStamp e) none
    | none => s

theorem exec_fitPeriodicSend_due (hper : per = (s.tick dt).fitPeriod e * 1000000) (hoff : off = e * 10000) (hdie : (s.tick dt).dieC = true)
    (hen : (s.tick dt).fitBits e 0 4 1 = 1) (hne : per ≠ 0) (hfrom : off ≤ (s.tick dt).ntime)
    (hsent : ((s.tick dt).fit e).sent < ((s.tick dt).ntime - off) / per * per + off) :
    exec (.fitPeriodicSend dt e) s =
      .next (((s.tick dt).modFit e fun x => { x with sent := ((s.tick dt).ntime - off) / per * per + off }).fitSends e).done := by
  subst hper hoff
  exact (exec_fitPeriodicSend ..).trans (next_done (if_neg (bnot_fails
    (and_holds (and_holds (and_holds (and_holds hdie (beq_iff_eq.2 hen)) (bne_iff_ne.2 hne)) (decide_eq_true hfrom)) (decide_eq_true hsent)))))

theorem State.fitSends_value {v : Value} (hk : s.fitKind e ≠ 5) (hv : (s.fit e).value = some v) : s.fitSends e =
    s.sendValue e (if s.fitBits e 1 0 8 < 24 then s.fitBits e 1 0 8 else if 0x20 ≤ s.fitBits e 1 0 8 ∧ s.fitBits e 1 0 8 < 0x2A then s.fitBits e 1 0 8 - 8
      else if s.fitBits e 1 0 8 = 0x2F then 24 else hostClient) v.bus v.body (s.entryStamp e) none := by
  unfold State.fitSends
  rw [if_neg hk, hv]

/-- An entry is lost once it has no sample or an age past its DEADLINE (R636). -/
def State.stampLate (s : State) (e : Nat) : Bool :=
  match s.entryStamp e with | some x => decide (x.at_ + s.fitDeadline e < s.now) | none => true

theorem State.stampLate_holds (h : ∀ x, s.entryStamp e = some x → x.at_ + s.fitDeadline e < s.now) : s.stampLate e = true := by
  unfold State.stampLate
  cases hstamp : s.entryStamp e with
  | some x => exact decide_eq_true (h x hstamp)
  | none => rfl

/-- The other path of an RTAG stream delivered after this one fell silent, and within LATENT (R613). -/
def deliversSince (other : Option Ns) (since now lat : Ns) : Bool :=
  match other with | some t => decide (since < t ∧ now < t + lat) | none => false

theorem deliversSince_holds {other : Option Ns} {t since now lat : Ns} (h : other = some t) (hsince : since < t) (hnow : now < t + lat) :
    deliversSince other since now lat = true := by
  rw [h]
  exact decide_eq_true ⟨hsince, hnow⟩

end Freshness

/-- Settles O24: each row past its conditions, a periodic send by the kind of its entry and a lost value by EVEN. -/
theorem freshnessRows : Obligations.FreshnessRows := by
  intro s dt e p v b t0 t2 u per off lat x
  refine ⟨fun w hdie hen hne hfrom hsent hw => ⟨fun hk hv g hg => ?_, fun hk hb t ht => ?_⟩, fun hdie hen hwd hlate w hw => ?_,
    fun hp hdie htag hother ht0 hsince hnow hlat hquiet => ?_⟩
  · subst hw hg
    exact (exec_fitPeriodicSend_due rfl rfl hdie hen hne hfrom hsent).trans (next_done (State.fitSends_value hk hv))
  · subst hw hb ht
    exact (exec_fitPeriodicSend_due rfl rfl hdie hen hne hfrom hsent).trans (next_done (if_pos hk))
  · subst hw
    have hnot : u.net.wd.contains e = false := by simpa using hwd
    have hlost := and_holds (and_holds (and_holds hdie (beq_iff_eq.2 hen)) (bnot_holds hnot)) (State.stampLate_holds hlate)
    exact ⟨fun heven => (exec_freshLost ..).trans (next_done ((if_neg (bnot_fails hlost)).trans (if_neg (Bool.eq_false_iff.1 heven)))),
      fun heven => (exec_freshLost ..).trans (next_done ((if_neg (bnot_fails hlost)).trans (if_pos heven)))⟩
  · subst ht0
    exact (exec_pathSilent ..).trans (next_done (if_neg (bnot_fails (and_holds (and_holds (and_holds (and_holds (and_holds hdie
      (decide_eq_true hp)) htag) (deliversSince_holds hother hsince hnow)) (decide_eq_true hlat)) (bnot_holds hquiet)))))

end Sys2Proof.Machine

/-!
The setup writes that enable, run and release: the control words of the Fife cores, the commands of the frame identity table, and the fault registers
(R544, R644, R768 to R771, R794, R801).
-/
namespace Sys2Proof.Machine

section Control
variable {s : State} {pf k v w : Nat} {t : SelfTest}

/-- A function that may write one register of window 1Eh may write each. -/
theorem State.writable_core {off : Nat} (h : s.writable pf 0x1E 4 = true) : s.writable pf 0x1E off = true := by
  simpa [State.writable, mayWrite] using h

/-- PF0 and PF1 may write all of window 05h. -/
theorem State.writable_fault {off : Nat} (h : s.writable pf 5 0 = true) (hp : pf ≤ 1) : s.writable pf 5 off = true := by
  obtain ⟨hreach, hrun, -⟩ := State.writable_iff.1 h
  exact State.writable_iff.2 ⟨hreach, hrun, by simp [mayWrite, hp]⟩

theorem fieldsAt_fifeCtl (hk : k < 4) : fieldsAt 0x1E (4 + 0x40 * k) = [(Reg.FIFE_CTL_RUN, k), (Reg.FIFE_CTL_RESTART, k), (Reg.FIFE_CTL_BIST, k)] := by
  match k, hk with
  | 0, _ => rfl
  | 1, _ => rfl
  | 2, _ => rfl
  | 3, _ => rfl

theorem State.fieldHook_run (i off old : Nat) :
    s.fieldHook { f := Reg.FIFE_CTL_RUN, i, off, v } old w = if w = 1 then s.fifeRun i else s.fifeHalt i := by
  simp +decide only [State.fieldHook, if_false, if_true]

theorem State.woWrite_core {off : Nat} (hoff : off < 0x100) (hctl : off % 0x40 = 4) : s.woWrite pf 0x1E off v t = s.fifeCtl t (off / 0x40) v := by
  simp +decide only [State.woWrite, hoff, hctl, false_and, and_true, if_false, if_true]

/-- What RUN asks, with the value it takes (R768). -/
def State.runs (s : State) (k v : Nat) : State :=
  if v = 1 then (s.wr Reg.FIFE_CTL_RUN k v).fifeRun k else (s.wr Reg.FIFE_CTL_RUN k v).fifeHalt k

/-- A core's control word runs or halts it as RUN asks, and then restarts and tests it as RESTART and BIST ask (R768, R769). -/
theorem State.writeReg_fifeCtl (h : s.writable pf 0x1E 4 = true) (hk : k < 4) (hv : v < 8) :
    s.writeReg pf 0x1E (4 + 0x40 * k) 4 v t =
      (s.runs k (v % 2)).fifeCtl t k v := by
  have hput : putsOf 0x1E (4 + 0x40 * k) v = [{ f := Reg.FIFE_CTL_RUN, i := k, off := 4 + 0x40 * k, v := v % 2 }] := by
    rw [putsOf, fieldsAt_fifeCtl hk]
    change [({ f := Reg.FIFE_CTL_RUN, i := k, off := 4 + 0x40 * k, v := bits v 0 1 } : Put)] = _
    rw [show bits v 0 1 = v % 2 by unfold bits; omega]
  have hw1c : s.w1cWrite pf 0x1E (4 + 0x40 * k) v = s := by
    rw [State.w1cWrite, fieldsAt_fifeCtl hk]
    rfl
  have hx : s.clampOne pf 0 [] { f := Reg.FIFE_CTL_RUN, i := k, off := 4 + 0x40 * k, v := v % 2 } % 2 ^ 1 = v % 2 := by
    rw [State.clampOne, s.fieldLocked_free pf 0 k rfl]
    exact Nat.mod_mod v 2
  have hreg : fieldReg 0x1E (4 + 0x40 * k) := ⟨rfl, by omega, by omega, by omega, by omega, by omega, by omega⟩
  rw [State.writeReg_fields (State.writable_core h) hreg (by omega) (by omega) (by omega), State.fieldWrite_fits hw1c hput rfl hx,
    State.fieldHook_run, State.woWrite_core (by omega) (by omega), show (4 + 0x40 * k) / 0x40 = k by omega]
  rfl

theorem State.shown_run : s.shown Reg.FIFE_CTL_RUN k = s.rd Reg.FIFE_CTL_RUN k % 2 := by
  have hout : s.shownOut Reg.FIFE_CTL_RUN k = none := by simp +decide only [State.shownOut, if_false]
  have hnet : s.shownNet Reg.FIFE_CTL_RUN k = none := by simp +decide only [State.shownNet, if_false]
  have hsys : s.shownSys Reg.FIFE_CTL_RUN = none := by simp +decide only [State.shownSys, if_false]
  simp only [State.shown, hout, hnet, hsys]
  rfl

theorem fifeCtl_place (hk : k < 4) {f : Field} (hf : f.locs = Reg.FIFE_CTL_RUN.locs) : f.place k = (0x1E, 4 + 0x40 * k) := by
  match k, hk with
  | 0, _ => rw [Field.place, hf]; rfl
  | 1, _ => rw [Field.place, hf]; rfl
  | 2, _ => rw [Field.place, hf]; rfl
  | 3, _ => rw [Field.place, hf]; rfl

theorem State.writeField_run (hk : k < 4) : s.writeField pf Reg.FIFE_CTL_RUN k v t = s.writeReg pf 0x1E (4 + 0x40 * k) 4 (v % 2) t := by
  rw [State.writeField, fifeCtl_place hk rfl, fieldsAt_fifeCtl hk]
  change s.writeReg pf 0x1E (4 + 0x40 * k) 4 (0 + v % 2 * 1) t = _
  rw [Nat.zero_add, Nat.mul_one]

/-- RESTART and BIST are written beside RUN as it reads. -/
theorem State.writeField_core {f : Field} (hk : k < 4) (hf : f = Reg.FIFE_CTL_RESTART ∨ f = Reg.FIFE_CTL_BIST) :
    s.writeField pf f k 1 t = s.writeReg pf 0x1E (4 + 0x40 * k) 4 (s.rd Reg.FIFE_CTL_RUN k % 2 + 2 ^ f.lo) t := by
  have hloc : f.locs = Reg.FIFE_CTL_RUN.locs := by obtain rfl | rfl := hf <;> rfl
  have hword : s.writeField pf f k 1 t = s.writeReg pf 0x1E (4 + 0x40 * k) 4 (0 + s.shown Reg.FIFE_CTL_RUN k * 1 + 1 * 2 ^ f.lo) t := by
    rw [State.writeField, fifeCtl_place hk hloc, fieldsAt_fifeCtl hk]
    obtain rfl | rfl := hf <;> rfl
  rw [hword, State.shown_run, Nat.zero_add, Nat.mul_one, Nat.one_mul]

/-- A word with RUN alone. -/
theorem State.fifeCtl_none (hv : v < 2) : s.fifeCtl t k v = s := by
  match v, hv with
  | 0, _ => rfl
  | 1, _ => rfl

theorem State.fifeCtl_restart (hv : v < 2) : s.fifeCtl t k (v + 2) = s.fifeRestart k := by
  match v, hv with
  | 0, _ => rfl
  | 1, _ => rfl

theorem State.fifeCtl_bist (hv : v < 2) : s.fifeCtl t k (v + 4) = s.fifeBist k t.fail t.lost := by
  match v, hv with
  | 0, _ => rfl
  | 1, _ => rfl

theorem State.runs_reads {x : State} (h : (s.rd Reg.FIFE_CTL_RUN k = 1 ∧ x = (s.wr Reg.FIFE_CTL_RUN k 1).fifeRun k)
    ∨ (s.rd Reg.FIFE_CTL_RUN k = 0 ∧ x = (s.wr Reg.FIFE_CTL_RUN k 0).fifeHalt k)) :
    s.rd Reg.FIFE_CTL_RUN k < 2 ∧ s.runs k (s.rd Reg.FIFE_CTL_RUN k) = x := by
  obtain ⟨hr, rfl⟩ | ⟨hr, rfl⟩ := h
  · rw [hr]
    exact ⟨by decide, if_pos rfl⟩
  · rw [hr]
    exact ⟨by decide, if_neg (by decide)⟩

theorem State.writeField_runs (h : s.writable pf 0x1E 4 = true) (hk : k < 4) (hv : v < 2) :
    s.writeField pf Reg.FIFE_CTL_RUN k v t = s.runs k v := by
  rw [State.writeField_run hk, State.writeReg_fifeCtl h hk (by omega), Nat.mod_mod, Nat.mod_eq_of_lt hv, State.fifeCtl_none hv]

theorem State.writeField_restart (h : s.writable pf 0x1E 4 = true) (hk : k < 4) (hr : s.rd Reg.FIFE_CTL_RUN k < 2) :
    s.writeField pf Reg.FIFE_CTL_RESTART k 1 t = (s.runs k (s.rd Reg.FIFE_CTL_RUN k)).fifeRestart k := by
  rw [State.writeField_core hk (.inl rfl), Nat.mod_eq_of_lt hr]
  change s.writeReg pf 0x1E (4 + 0x40 * k) 4 (s.rd Reg.FIFE_CTL_RUN k + 2) t = _
  rw [State.writeReg_fifeCtl h hk (by omega), Nat.add_mod_right, Nat.mod_eq_of_lt hr, State.fifeCtl_restart hr]

theorem State.writeField_bist (h : s.writable pf 0x1E 4 = true) (hk : k < 4) (hr : s.rd Reg.FIFE_CTL_RUN k < 2) :
    s.writeField pf Reg.FIFE_CTL_BIST k 1 t = (s.runs k (s.rd Reg.FIFE_CTL_RUN k)).fifeBist k t.fail t.lost := by
  have hmod : (s.rd Reg.FIFE_CTL_RUN k + 4) % 2 = s.rd Reg.FIFE_CTL_RUN k := by omega
  rw [State.writeField_core hk (.inr rfl), Nat.mod_eq_of_lt hr]
  change s.writeReg pf 0x1E (4 + 0x40 * k) 4 (s.rd Reg.FIFE_CTL_RUN k + 4) t = _
  rw [State.writeReg_fifeCtl h hk (by omega), hmod, State.fifeCtl_bist hr]

theorem State.writeReg_mdata (h : s.writable pf 0x1E 0x804 = true) : s.writeReg pf 0x1E 0x804 4 v t = s.mdataWrite pf (v % 2 ^ 32) :=
  State.writeReg_setup h rfl (by decide) (by decide) rfl

theorem State.readReg_mdata (hl : s.host.linkUp = true) (hp : pf < 4) :
    s.readReg pf 0x1E 0x804 4 = ({ s with host := { s.host with readback := s.readWord pf 0x1E 0x804 } } : State).mdataRead := by
  have hin : ¬ (!s.host.linkUp || decide (4 ≤ pf ∨ 4096 ≤ 0x804)) = true := by simp [hl, hp]
  exact (if_neg hin).trans rfl

/-- FIT_CMD.OP acts (R616, R644). -/
theorem State.writeReg_fitCmd (h : s.writable pf 0x1A 4 = true) (hv : v < 4) : s.writeReg pf 0x1A 4 4 v t = s.fitOp pf v := by
  refine (State.writeReg_wo h (by decide) (by decide) rfl (by omega) rfl rfl).trans ?_
  match v, hv with
  | 0, _ => rfl
  | 1, _ => rfl
  | 2, _ => rfl
  | 3, _ => rfl

/-- FLT_STAT.ACTIVE of block `w` is written 1 (R794). -/
theorem State.writeReg_active (h : s.writable pf 5 0 = true) (hp : pf ≤ 1) (hw : w < 34) : s.writeReg pf 5 (0x20 * w) 4 1 t = s.activeClear pf w := by
  rw [State.writeReg_setup (State.writable_fault h hp) rfl (by omega) (by decide) (by omega)]
  change s.fltWrite pf (0x20 * w) 1 t = _
  have hoff : 0x20 * w < 0x440 := by omega
  rw [State.fltWrite, if_pos hoff, show 0x20 * w % 32 = 0 by omega, show 0x20 * w / 32 = w by omega]
  rfl

theorem State.activeClear_clears (hblk : isBlock w = true) (hact : (s.blk w).active = true) (hp : s.persists w = false) :
    s.activeClear pf w = { s with flt := { s.flt with
      blks := tput s.flt.blks w { s.blk w with active := false, merge := 0, firstev := 0 }, shawm := s.flt.shawm.filter (· != w) } } := by
  simp only [State.activeClear, hblk, hact, hp, Bool.not_true, Bool.or_self, Bool.false_eq_true, if_false]

theorem State.activeClear_refused (hblk : isBlock w = true) (hact : (s.blk w).active = true) (hp : s.persists w = true) :
    s.activeClear pf w = s.clearRefused w 5 (0x20 * w) 0 pf 0xFFFF := by
  simp only [State.activeClear, hblk, hact, hp, Bool.not_true, Bool.or_self, Bool.false_eq_true, if_false, if_true]

/-- FRZ_REL of a frozen function: with a reason it releases it, without one it is a clamp (R801). -/
theorem State.writeReg_frzRel {reason : Nat} (h : s.writable 0 5 0x704 = true) (hk : 1 ≤ k) (hk4 : k < 4) (hr : reason < 65536)
    (hfr : (s.fn k).frozen = true) : s.writeReg 0 5 0x704 4 (k % 4 + reason % 65536 * 65536) t =
      if reason = 0 then s.clampBit 5 0 0x704 16 16 0 0 else s.unfreeze k reason := by
  have hword : (k % 4 + reason % 65536 * 65536) % 2 ^ 32 = k + reason * 65536 := by omega
  have hfn : bits (k + reason * 65536) 0 2 = k := by unfold bits; omega
  have hreason : bits (k + reason * 65536) 16 16 = reason := by unfold bits; omega
  rw [State.writeReg_setup h rfl (by decide) (by decide) rfl, hword]
  change s.frzRelease 0 (k + reason * 65536) = _
  have hmay : ¬ (0 ≠ 0 ∨ k = 0 ∨ (!(s.fn k).frozen) = true) := by simp [hfr]; omega
  simp only [State.frzRelease, hfn, hreason, if_neg hmay]

end Control

/-- Settles O44: each row is a setup write or read, which comes to what its register's lemma says. -/
theorem enablesAndCores : Obligations.EnablesAndCores := by
  intro s dt pf n g k v w reason fail lost u
  refine ⟨fun _ hn => ?_, fun _ hg => ⟨?_, ?_, ?_⟩, fun _ => ⟨?_, ?_⟩, fun h hk => ⟨?_, ?_⟩, fun h hk x hx => ?_, fun h => ?_, fun hl hp => ?_,
    fun h => ⟨?_, ?_, ?_⟩, fun h hp hblk hact => ?_, fun h hk hk4 hfr => ⟨fun hlo hhi => ?_, ?_⟩⟩
  · exact (exec_canEnable ..).trans (next_done (if_pos hn))
  · exact (exec_rxqEnable ..).trans (next_done (if_pos hg))
  · exact (exec_nmEnable ..).trans (next_done (if_pos hg))
  · exact (exec_nmDisable ..).trans (next_done (if_pos hg))
  · exact exec_twEnable ..
  · exact exec_twDisable ..
  · exact (exec_fifeRun ..).trans (next_done ((if_pos hk).trans (State.writeField_runs h hk (by decide))))
  · exact (exec_fifeHalt ..).trans (next_done ((if_pos hk).trans (State.writeField_runs h hk (by decide))))
  · obtain ⟨hr, hruns⟩ := State.runs_reads hx
    rw [← hruns]
    exact ⟨(exec_fifeRestart ..).trans (next_done ((if_pos hk).trans (State.writeField_restart h hk hr))),
      (exec_fifeBist ..).trans (next_done ((if_pos hk).trans (State.writeField_bist h hk hr)))⟩
  · exact (exec_fifeMemAccess ..).trans (next_done (State.writeReg_mdata h))
  · exact (exec_fifeMemAccess ..).trans (next_done (State.readReg_mdata hl hp))
  · exact (exec_fitRead ..).trans (next_done (State.writeReg_fitCmd h (by decide)))
  · exact (exec_fitCommit ..).trans (next_done (State.writeReg_fitCmd h (by decide)))
  · exact (exec_fitClearCounters ..).trans (next_done (State.writeReg_fitCmd h (by decide)))
  · have hw : w < 34 := by simp [isBlock] at hblk; omega
    exact ⟨fun hgone => (exec_fltActiveClear ..).trans (next_done ((if_pos hw).trans
        ((State.writeReg_active h hp hw).trans (State.activeClear_clears hblk hact hgone)))),
      fun hstays => (exec_fltActiveClear ..).trans (next_done ((if_pos hw).trans
        ((State.writeReg_active h hp hw).trans (State.activeClear_refused hblk hact hstays))))⟩
  · exact (exec_frzRel ..).trans (next_done ((State.writeReg_frzRel h hk hk4 hhi hfr).trans (if_neg (by omega))))
  · exact (exec_frzRel ..).trans (next_done ((State.writeReg_frzRel h hk hk4 (by decide) hfr).trans (if_pos rfl)))

end Sys2Proof.Machine

/-!
The LIN channels: their commands, the slots of a commander and the headers that a responder receives (R579 to R586).
-/
namespace Sys2Proof.Machine

section Lin
variable {s w : State} {dt n k t : Nat} {c : Cmd}

/-- What the end of a slot without an error leads to: a requested end, a requested table, or the next slot of the table that runs (R582, R583). -/
def State.slotTurn (s : State) (n : Nat) : State :=
  match (s.lin n).req with
  | some (_, true, c) =>
    ((if s.rd Reg.LIN_STAT_STATE n == 2 then (s.wr Reg.LIN_STAT_STATE n 1).modLin n fun x => { x with changed := s.ntime } else s).modLin n
      fun x => { x with req := none }).complete c .done
  | some (t, false, c) =>
    let s := s.modLin n fun x => { x with req := none, changed := s.ntime }
    (match s.nextSlot n t 70 0 true with
      | some k => s.sendHeader n t k
      | none => (((s.wr Reg.LIN_STAT_STATE n 2).wr Reg.LIN_STAT_TABLE n t).wr Reg.LIN_STAT_SLOT n 0)).complete c .done
  | none =>
    match s.nextSlot n (s.rd Reg.LIN_STAT_TABLE n) 70 (s.rd Reg.LIN_STAT_SLOT n + 1) false with
    | some k => s.sendHeader n (s.rd Reg.LIN_STAT_TABLE n) k
    | none => s

/-- The slot that runs has ended, or, while none runs, a request waits. -/
def State.slotOver (s : State) (n : Nat) : Bool :=
  if s.rd Reg.LIN_STAT_STATE n == 2 then decide ((s.lin n).slotAt ≤ s.now) else (s.lin n).req.isSome

theorem exec_linSlot_over (hn : n < 8) (hbus : (s.tick dt).buses = true) (hen : (s.tick dt).flag Reg.LIN_CFG_EN n = true)
    (hrole : (s.tick dt).flag Reg.LIN_CFG_ROLE n = true) (hawake : (s.tick dt).nmQuiet (16 + n) = false)
    (hover : (s.tick dt).slotOver n = true) : exec (.linSlot dt n none) s = .next ((s.tick dt).slotTurn n).done :=
  (exec_linSlot ..).trans (next_done (if_neg (bnot_fails (and_holds (and_holds (and_holds (and_holds (and_holds
    (decide_eq_true hn) hbus) hen) hrole) (bnot_holds hawake)) hover))))

theorem State.slotOver_ended (hst : s.rd Reg.LIN_STAT_STATE n = 2) (hslot : (s.lin n).slotAt ≤ s.now) : s.slotOver n = true :=
  (if_pos (beq_iff_eq.2 hst)).trans (decide_eq_true hslot)

theorem State.slotOver_asked {r : Nat × Bool × Cmd} (hreq : (s.lin n).req = some r)
    (h : s.rd Reg.LIN_STAT_STATE n ≠ 2 ∨ (s.lin n).slotAt ≤ s.now) : s.slotOver n = true := by
  by_cases hst : s.rd Reg.LIN_STAT_STATE n = 2
  · exact State.slotOver_ended hst (h.resolve_left (not_not_intro hst))
  · rw [State.slotOver, if_neg (by simpa using hst), hreq]
    rfl

theorem State.slotTurn_next (hreq : (s.lin n).req = none)
    (hnext : s.nextSlot n (s.rd Reg.LIN_STAT_TABLE n) 70 (s.rd Reg.LIN_STAT_SLOT n + 1) false = some k) :
    s.slotTurn n = s.sendHeader n (s.rd Reg.LIN_STAT_TABLE n) k := by
  unfold State.slotTurn
  rw [hreq, hnext]

theorem State.slotTurn_table (hreq : (s.lin n).req = some (t, false, c)) (hw : w = s.modLin n fun x => { x with req := none, changed := s.ntime })
    (hnext : w.nextSlot n t 70 0 true = some k) : s.slotTurn n = (w.sendHeader n t k).complete c .done := by
  subst hw
  unfold State.slotTurn
  rw [hreq]
  dsimp only
  rw [hnext]

theorem State.slotTurn_end (hst : s.rd Reg.LIN_STAT_STATE n = 2) (hreq : (s.lin n).req = some (t, true, c)) :
    s.slotTurn n = (((s.wr Reg.LIN_STAT_STATE n 1).modLin n fun x => { x with changed := s.ntime }).modLin n fun x => { x with req := none }).complete c
      .done := by
  unfold State.slotTurn
  rw [hreq]
  dsimp only
  rw [if_pos (beq_iff_eq.2 hst)]

end Lin

/-- Settles O22: the commands past their bars, a slot by the request that waits, and a received header by its error. -/
theorem linRows : Obligations.LinRows := by
  intro s dt c n id k t e b i u len v
  refine ⟨fun h hoff hq w hw => ?_, fun h hoff hcom => ⟨fun hrun => ?_, fun hstop hidle => ?_⟩, fun h hoff hcom => ?_, fun h hoff => ?_,
    fun hn hbus hen hrole hawake => ⟨fun hst hslot hreq hnext => ?_, fun w hslot hreq hw hnext => ?_, fun hst hslot hreq => ?_⟩,
    fun hn hbus hen hrole hst => ⟨?_, fun htype hawake => ?_⟩⟩
  · subst hw
    exact (exec_linPublish ..).trans (next_starts h (State.orElse_skip hoff (State.orElse_last (barIf_none hq) rfl)))
  · have hgo : ¬ ((c.argBits 16 1 1 == 1) && b.rd Reg.LIN_STAT_STATE i != 2) = true := and_fails (by
      obtain hzero | hruns := hrun
      · exact .inl (by rw [hzero]; rfl)
      · exact .inr (by rw [hruns]; rfl))
    exact (exec_linSched ..).trans (next_starts h (State.orElse_skip hoff (State.orElse_last hcom (if_neg hgo))))
  · exact (exec_linSched ..).trans (next_starts h (State.orElse_skip hoff (State.orElse_last hcom
      (if_pos (and_holds (beq_iff_eq.2 hstop) (bne_iff_ne.2 hidle))))))
  · exact (exec_linSleep ..).trans (next_starts h (State.orElse_skip hoff (State.orElse_last hcom rfl)))
  · exact (exec_linWake ..).trans (next_starts h (State.orElse_last hoff rfl))
  · exact (exec_linSlot_over hn hbus hen hrole hawake (State.slotOver_ended hst hslot)).trans (next_done (State.slotTurn_next hreq hnext))
  · exact (exec_linSlot_over hn hbus hen hrole hawake (State.slotOver_asked hreq hslot)).trans (next_done (State.slotTurn_table hreq hw hnext))
  · exact (exec_linSlot_over hn hbus hen hrole hawake (State.slotOver_ended hst hslot)).trans (next_done (State.slotTurn_end hst hreq))
  · exact (exec_linHeaderReceived ..).trans (next_done (if_neg (bnot_fails
      (and_holds (and_holds (and_holds (and_holds (decide_eq_true hn) hbus) hen) (bnot_holds hrole)) (bne_iff_ne.2 hst)))))
  · exact (exec_linHeaderReceived ..).trans (next_done ((if_neg (bnot_fails
      (and_holds (and_holds (and_holds (and_holds (decide_eq_true hn) hbus) hen) (bnot_holds hrole)) (bne_iff_ne.2 hst)))).trans
      (if_pos (and_holds (decide_eq_true htype) (bnot_holds hawake)))))

end Sys2Proof.Machine

/-!
The Ethernet ports: received frames by their faults and their entry, ETH_SEND, and the rows of a port (R592 to R645).
-/
namespace Sys2Proof.Machine

section Ethernet
variable {s v w : State} {dt p lag e q sn : Nat} {bs rcd : List Byte} {f : EthFrame} {t ts : Stamp} {host up : Bool} {c : Cmd}

theorem State.buses_iff : s.buses = true ↔ s.dieC = true ∧ s.pwr.refPresent = true := Bool.and_eq_true_iff

/-- A port that takes frames. -/
def State.portLive (s : State) (p : Nat) : Bool :=
  decide (p < 10) && s.buses && s.flag Reg.ETH_PCFG_EN p && s.flag Reg.ETH_STAT_LINK p && s.nmSt (24 + p) != 4

theorem State.portLive_holds (hp : p < 10) (hbus : s.buses = true) (hen : s.flag Reg.ETH_PCFG_EN p = true) (hlink : s.flag Reg.ETH_STAT_LINK p = true)
    (hst : s.nmSt (24 + p) ≠ 4) : s.portLive p = true :=
  and_holds (and_holds (and_holds (and_holds (decide_eq_true hp) hbus) hen) hlink) (bne_iff_ne.2 hst)

/-- A good frame that is counted and learned goes to the host and the bridge, or to its entry (R592, R593, R612). -/
def State.ethGoes (s : State) (p : Nat) (bs : List Byte) (f : EthFrame) (t : Stamp) (host : Bool) : State :=
  match s.lookup (0x20 + p) (s.keysOf (24 + p) (.eth f)) with
  | none => (if host then s.rxPlace (24 + p) 0 5 0 bs.length t.time bs else s).bridgeEth p f
  | some e =>
    let r := s.ethMatched e p f t
    if r.2 && (host || r.1.fitBits e 2 5 1 == 1) then r.1.rxPlace (24 + p) 0 5 0 bs.length t.time bs else r.1

/-- A good frame is counted and learned, and then goes where it belongs. -/
def State.ethTakes (s : State) (p : Nat) (bs : List Byte) (t : Stamp) : State :=
  let f := parseEth bs
  let s := s.bump Reg.ETH_TRAF_RXFR p
  let s := (s.modPort p fun x => { x with counts := bumpT x.counts 0 }).learn p (s.tciOf (24 + p) f % 4096) f.sa
  s.ethGoes p bs f t (f.da == s.hostMac || f.da == broadcast || s.flag Reg.RXQ_CFG_ALL (24 + p))

/-- What a live port does with a frame, by its faults. -/
def State.ethReceives (s : State) (p : Nat) (fcs : Bool) (bs : List Byte) (t : Stamp) : State :=
  if !fcs then s.bump Reg.ETH_DROP_BADFCS p
  else if s.rd Reg.ETH_PCFG_MAXFRM p < bs.length + 4 then s.bump Reg.ETH_DROP_TOOLONG p
  else if bs.length < 60 then s
  else if (s.cellsFor (24 + p) (cells (s.rd Reg.ETH_PCFG_MAXFRM p))).isNone then s.bump Reg.ETH_DROP_NOMEM p
  else s.ethTakes p bs t

theorem exec_ethFrameReceived_live {fcs : Bool} (h : (s.tick dt).portLive p = true)
    (ht : t = ⟨(s.tick dt).now - lag, ((s.tick dt).ntime + 2 ^ 64 - lag % 2 ^ 64) % 2 ^ 64⟩) :
    exec (.ethFrameReceived dt p fcs bs lag) s = .next (((s.tick dt).lineSeen (24 + p)).ethReceives p fcs bs t).done := by
  subst ht
  exact (exec_ethFrameReceived ..).trans (next_done (if_neg (bnot_fails h)))

theorem State.ethReceives_long (h : s.rd Reg.ETH_PCFG_MAXFRM p < bs.length + 4) : s.ethReceives p true bs t = s.bump Reg.ETH_DROP_TOOLONG p := if_pos h

theorem State.ethReceives_noMemory (hmax : bs.length + 4 ≤ s.rd Reg.ETH_PCFG_MAXFRM p) (hmin : 60 ≤ bs.length)
    (h : s.cellsFor (24 + p) (cells (s.rd Reg.ETH_PCFG_MAXFRM p)) = none) : s.ethReceives p true bs t = s.bump Reg.ETH_DROP_NOMEM p :=
  (if_neg (Nat.not_lt.2 hmax)).trans ((if_neg (Nat.not_lt.2 hmin)).trans (if_pos (Option.isNone_iff_eq_none.2 h)))

theorem State.ethReceives_good (hmax : bs.length + 4 ≤ s.rd Reg.ETH_PCFG_MAXFRM p) (hmin : 60 ≤ bs.length)
    (h : (s.cellsFor (24 + p) (cells (s.rd Reg.ETH_PCFG_MAXFRM p))).isSome = true) : s.ethReceives p true bs t = s.ethTakes p bs t :=
  (if_neg (Nat.not_lt.2 hmax)).trans ((if_neg (Nat.not_lt.2 hmin)).trans (if_neg (by simpa using Option.isSome_iff_ne_none.1 h)))

theorem State.ethTakes_goes (hf : f = parseEth bs) (hv : v = s.bump Reg.ETH_TRAF_RXFR p)
    (hw : w = (v.modPort p fun x => { x with counts := bumpT x.counts 0 }).learn p (v.tciOf (24 + p) f % 4096) f.sa)
    (hhost : host = (f.da == w.hostMac || f.da == broadcast || w.flag Reg.RXQ_CFG_ALL (24 + p))) : s.ethTakes p bs t = w.ethGoes p bs f t host := by
  subst hhost hw hv hf
  rfl

theorem State.ethGoes_unknown (h : s.lookup (0x20 + p) (s.keysOf (24 + p) (.eth f)) = none) :
    s.ethGoes p bs f t host = (if host then s.rxPlace (24 + p) 0 5 0 bs.length t.time bs else s).bridgeEth p f := by
  unfold State.ethGoes
  rw [h]

theorem State.ethGoes_known (h : s.lookup (0x20 + p) (s.keysOf (24 + p) (.eth f)) = some e) :
    s.ethGoes p bs f t host = if (s.ethMatched e p f t).2 && (host || (s.ethMatched e p f t).1.fitBits e 2 5 1 == 1) then
      (s.ethMatched e p f t).1.rxPlace (24 + p) 0 5 0 bs.length t.time bs else (s.ethMatched e p f t).1 := by
  unfold State.ethGoes
  rw [h]

/-! ### ETH_SEND (R638 to R641) -/

/-- A frame of the host with no entry is stored and joins its port's queue. -/
def State.ethQueues (s : State) (c : Cmd) (p q : Nat) (f : EthFrame) (t : Stamp) : State :=
  let r := s.storeFrame hostClient f.len f.len 1 (some c)
  match r.2 with
  | none => (r.1.bump Reg.ETH_DROP_NOMEM p).complete c .refusedState 0x1902
  | some sn =>
    let x := r.1.portPush p
      { ord := 0, frm := .cmd c, body := .eth f, stamp := some t, limit := if q = 0 then none else some (c.arg 28 2 * 100000), tc := c.argBits 26 0 3, sn } f.len
    if x.2 then x.1 else x.1.complete c .done

/-- A frame of the host with an entry is policed by it and sent as the entry says. -/
def State.ethPoliced (s : State) (c : Cmd) (e : Nat) (f : EthFrame) (t : Stamp) : State :=
  let m := (s.noteMatch e).meter e
  if !m.2 then m.1.complete c .done
  else
    let s := (m.1.wakeRoles e 34 0).sample e { body := .eth f, stamp := t }
    if s.fitPeriod e = 0 then s.sendValue e hostClient 0 (.eth f) (some t) (some c) else (s.begin c).complete c .done

/-- A frame of the host, by its entry. -/
def State.ethHost (s : State) (c : Cmd) (p q : Nat) (f : EthFrame) (t : Stamp) : State :=
  match s.lookup hostIngress (s.keysOf 34 (.eth f)) with
  | some e => s.ethPoliced c e f t
  | none => s.ethQueues c p q f t

theorem State.ethHost_unknown (h : s.lookup hostIngress (s.keysOf 34 (.eth f)) = none) : s.ethHost c p q f t = s.ethQueues c p q f t := by
  unfold State.ethHost
  rw [h]

theorem State.ethHost_known (h : s.lookup hostIngress (s.keysOf 34 (.eth f)) = some e) : s.ethHost c p q f t = s.ethPoliced c e f t := by
  unfold State.ethHost
  rw [h]

theorem State.ethQueues_stored (h : s.storeFrame hostClient f.len f.len 1 (some c) = (w, some sn)) {z : State × Bool} (hz : z = w.portPush p
      { ord := 0, frm := .cmd c, body := .eth f, stamp := some t, limit := if q = 0 then none else some (c.arg 28 2 * 100000), tc := c.argBits 26 0 3, sn }
      f.len) : s.ethQueues c p q f t = if z.2 then z.1 else z.1.complete c .done := by
  subst hz
  unfold State.ethQueues
  rw [h]

theorem State.ethPoliced_dropped {m : State × Bool} (hm : m = (s.noteMatch e).meter e) (hdrop : m.2 = false) :
    s.ethPoliced c e f t = m.1.complete c .done := by
  subst hm
  exact if_pos (bnot_holds hdrop)

theorem State.ethPoliced_sent {m : State × Bool} (hm : m = (s.noteMatch e).meter e) (hpass : m.2 = true)
    (hw : w = (m.1.wakeRoles e 34 0).sample e { body := .eth f, stamp := t }) : s.ethPoliced c e f t =
      if w.fitPeriod e = 0 then w.sendValue e hostClient 0 (.eth f) (some t) (some c) else (w.begin c).complete c .done := by
  subst hw hm
  exact if_neg (bnot_fails hpass)

/-- ETH_SEND past its bars, with its record read. -/
theorem exec_ethSend_read {b : State} {i len : Nat} (hb : b = s.taken dt c) (hi : i = objNum c.object) (hlen : len = c.arg 24 2)
    (h : s.starts dt c 0x4001 [.eth] = true) (hfits : len ≤ b.rd Reg.ETH_PCFG_MAXFRM i - 4) (hawake : b.nmQuiet (24 + i) = false)
    (hlink : b.flag Reg.ETH_STAT_LINK i = true) (hroom : b.hostFrames i < 64) (haligned : c.arg 16 8 % 8 = 0)
    (hdma : b.dma c.pf (c.arg 16 8) (8 + len) = (v, true)) (hq : q = ofLe ((List.range 8).map fun k => rcd.getD k 0 % 256))
    (ht : t = if q = 0 then ⟨v.now, v.ntime⟩ else ⟨v.now - (v.ntime - q), q⟩)
    (hf : f = parseEth ((List.range (max 60 len)).map fun k => if k < len then rcd.getD (8 + k) 0 % 256 else 0)) :
    exec (.ethSend dt c rcd) s = .next (v.ethHost c i q f t).done := by
  subst hb hi hlen
  refine (exec_ethSend ..).trans (next_starts h (State.orElse_skip (barIf_none (decide_eq_false (Nat.not_lt.2 hfits)))
    (State.orElse_skip (barIf_none hawake) (State.orElse_skip (barIf_none (congrArg not hlink))
    (State.orElse_skip (barIf_none (decide_eq_false (Nat.not_le.2 hroom))) (State.orElse_last (barIf_none (decide_eq_false (not_not_intro haligned))) ?_))))))
  rw [hdma]
  subst hf ht hq
  rfl

/-! ### The link of a port (R645) -/

/-- The link of a port has changed. -/
def State.linkNew (s : State) (p : Nat) (up : Bool) : Bool :=
  decide (p < 10) && s.dieC && (!up || s.pwr.refPresent) && s.flag Reg.ETH_PCFG_EN p && s.flag Reg.ETH_STAT_LINK p != up

theorem State.linkNew_holds (hp : p < 10) (hbus : s.buses = true) (hen : s.flag Reg.ETH_PCFG_EN p = true) (hnew : s.flag Reg.ETH_STAT_LINK p ≠ up) :
    s.linkNew p up = true := by
  obtain ⟨hdie, href⟩ := State.buses_iff.1 hbus
  have hclock : (!up || s.pwr.refPresent) = true := by rw [href, Bool.or_true]
  exact and_holds (and_holds (and_holds (and_holds (decide_eq_true hp) hdie) hclock) hen) (bne_iff_ne.2 hnew)

theorem exec_linkState_new {sqi : Nat} (h : (s.tick dt).linkNew p up = true)
    (hv : v = (((s.tick dt).wrb Reg.ETH_STAT_LINK p up).wr Reg.ETH_STAT_SQI p (min 7 sqi)).bump Reg.ETH_STAT_LINKCHG p)
    (hw : w = (v.modPort p fun x => { x with changed := v.ntime }).raise 0x1981 (0x220 + p) (atByte 16 (b2n up) + atByte 17 (min 7 sqi))) :
    exec (.linkState dt p up sqi) s = .next (if up && w.nmSt (24 + p) == 1 then w.needsDone (24 + p) else w).done := by
  subst hw hv
  exact (exec_linkState ..).trans (next_done (if_neg (bnot_fails h)))

end Ethernet

/-- Settles O23: a received frame by its faults and its entry, ETH_SEND by its entry, and each row of a port past its conditions. -/
theorem ethernetRows : Obligations.EthernetRows := by
  intro s dt c rcd p g lag sqi sn e bs x f up b i u t y len
  refine ⟨fun hp hbus hen hlink hst => ⟨?_, fun hlong => ?_, fun hmax hmin => ⟨fun hmem => ?_, fun hmem hf v w host hv hw hhost => ⟨fun hid => ?_, fun hid => ?_⟩⟩⟩,
    fun hg => ?_, fun hlo hhi => ?_, fun hline => ?_, fun v w h hfits hawake hlink hroom haligned hdma q ts hq hts hf =>
      ⟨fun hid hstored z hz => ?_, fun hid m hm => ⟨fun hdrop => ?_, fun hpass z hz => ?_⟩⟩, fun hp hdie hen => ?_, fun l hl => ?_,
    fun hp hbus hen hnew v w hv hw => ⟨fun hquiet => ?_, fun hup hst => ?_⟩⟩
  · exact exec_ethFrameReceived_live (State.portLive_holds hp hbus hen hlink hst) rfl
  · exact (exec_ethFrameReceived_live (State.portLive_holds hp hbus hen hlink hst) rfl).trans (next_done (State.ethReceives_long hlong))
  · exact (exec_ethFrameReceived_live (State.portLive_holds hp hbus hen hlink hst) rfl).trans (next_done (State.ethReceives_noMemory hmax hmin hmem))
  · exact (exec_ethFrameReceived_live (State.portLive_holds hp hbus hen hlink hst) rfl).trans (next_done ((State.ethReceives_good hmax hmin hmem).trans
      ((State.ethTakes_goes hf hv hw hhost).trans (State.ethGoes_unknown hid))))
  · exact (exec_ethFrameReceived_live (State.portLive_holds hp hbus hen hlink hst) rfl).trans (next_done ((State.ethReceives_good hmax hmin hmem).trans
      ((State.ethTakes_goes hf hv hw hhost).trans (State.ethGoes_known hid))))
  · exact (exec_frameEgressStart ..).trans (next_done (if_pos hg))
  · exact (exec_frameEgressStart ..).trans (next_done ((if_neg (by omega)).trans (if_pos ⟨hlo, hhi⟩)))
  · refine (exec_ethFrameSent ..).trans (next_done ?_)
    rw [hline]
  · exact (exec_ethSend_read rfl rfl rfl h hfits hawake hlink hroom haligned hdma hq hts hf).trans (next_done
      ((State.ethHost_unknown hid).trans (State.ethQueues_stored hstored hz)))
  · exact (exec_ethSend_read rfl rfl rfl h hfits hawake hlink hroom haligned hdma hq hts hf).trans (next_done
      ((State.ethHost_known hid).trans (State.ethPoliced_dropped hm hdrop)))
  · exact (exec_ethSend_read rfl rfl rfl h hfits hawake hlink hroom haligned hdma hq hts hf).trans (next_done
      ((State.ethHost_known hid).trans (State.ethPoliced_sent hm hpass hz)))
  · exact (exec_qbvGateChange ..).trans (next_done (if_pos (and_holds (and_holds (decide_eq_true hp) hdie) hen)))
  · subst hl
    exact exec_macAging ..
  · exact (exec_linkState_new (State.linkNew_holds hp hbus hen hnew) hv hw).trans (next_done (if_neg (and_fails (hquiet.imp id beq_eq_false_iff_ne.2))))
  · exact (exec_linkState_new (State.linkNew_holds hp hbus hen hnew) hv hw).trans (next_done (if_pos (and_holds hup (beq_iff_eq.2 hst))))

end Sys2Proof.Machine

/-!
The CAN channels: commands, received and sent frames, errors and bus-off, and reference messages (R546 to R578), with the frames of a LIN channel.
-/
namespace Sys2Proof.Machine

section CanSend
variable {s t : State} {c : Cmd} {bars : List (Option (Code × Nat))} {go : State → State} {n : Nat} {f : Frame}

theorem State.orElse_free (hbars : firstBar bars = none) (hgo : go s = t) : s.orElse c bars go = t := by
  unfold State.orElse
  rw [hbars]
  exact hgo

/-- The length of a CAN_SEND after its format, from the length asked for (R549). -/
def sendLen (fmt len : Nat) : Nat := if fmt = 3 then clampNat 1 2048 len else if fmt = 0 then min 8 len else min 64 len

/-- The bytes before the data of a frame. -/
def sendHdr (fmt : Nat) : Nat := if fmt = 3 then 8 else 0

/-- The frame of a CAN_SEND with the data bytes `raw`, padded to a CAN FD length (R549). -/
def sendFrame (c : Cmd) (rcd raw : List Byte) : Frame :=
  let fmt := c.arg 20 1 % 4
  let len := sendLen fmt (c.arg 22 2)
  let full := if fmt = 1 ∨ fmt = 2 then fdLen len else len
  { id := c.arg 16 4, fmt, hdr := (List.range (sendHdr fmt)).map fun k => rcd.getD k 0 % 256
    data := if bits (c.arg 16 4) 30 1 = 1 then List.replicate full 0 else raw ++ List.replicate (full - len) 0xCC }

/-- The frame joins the transmit queue for its command. -/
def State.canQueue (s : State) (c : Cmd) (n : Nat) (f : Frame) : State := s.canPush n { ord := 0, frm := .cmd c, body := .bus f }

/-- The bytes in the descriptor (R547). -/
def inlineBytes (c : Cmd) (len : Nat) : List Byte := (List.range len).map fun k => if k < 8 then c.arg (24 + k) 1 else Config.inlineTail k % 256

/-- The bytes in the host's buffer (R548). -/
def bufferBytes (rcd : List Byte) (hdr len : Nat) : List Byte := (List.range len).map fun k => rcd.getD (hdr + k) 0 % 256

/-- The clamp of a CAN_SEND's length is logged. -/
def State.sendClamps (s : State) (c : Cmd) : State :=
  s.descClamp c (clampWin c.object) 22 0 16 (c.arg 22 2) (sendLen (c.arg 20 1 % 4) (c.arg 22 2))

/-- What a CAN_SEND does past its bars. -/
def State.canSends (s : State) (c : Cmd) (rcd : List Byte) : State :=
  let len := sendLen (c.arg 20 1 % 4) (c.arg 22 2)
  let hdr := sendHdr (c.arg 20 1 % 4)
  let inl := c.argBits 21 0 1 == 1
  let f := sendFrame c rcd (if inl then inlineBytes c len else bufferBytes rcd hdr len)
  let s := s.sendClamps c
  if inl then s.canQueue c (objNum c.object) f
  else if c.arg 24 8 % 8 ≠ 0 then s.complete c .refusedPolicy 0x0109
  else let r := s.dma c.pf (c.arg 24 8) (hdr + len); if r.2 then r.1.canQueue c (objNum c.object) f else r.1.complete c .masterFrozen

theorem exec_canSend_free {dt : Ns} {rcd : List Byte} (h : s.starts dt c 0x4001 [.can] = true)
    (hbars : firstBar ((s.taken dt c).canSendBars (objNum c.object) (c.arg 16 4) (c.arg 20 1 % 4)) = none) :
    exec (.canSend dt c rcd) s = .next ((s.taken dt c).canSends c rcd).done :=
  (exec_canSend ..).trans (next_starts h (State.orElse_free hbars rfl))

theorem State.canSends_inline {rcd : List Byte} (h : c.argBits 21 0 1 = 1) : s.canSends c rcd =
    (s.sendClamps c).canQueue c (objNum c.object) (sendFrame c rcd (inlineBytes c (sendLen (c.arg 20 1 % 4) (c.arg 22 2)))) := by
  simp only [State.canSends, h, beq_self_eq_true, if_true]

theorem State.canSends_buffer {rcd : List Byte} {len hdr : Nat} (hlen : len = sendLen (c.arg 20 1 % 4) (c.arg 22 2))
    (hhdr : hdr = sendHdr (c.arg 20 1 % 4)) (h : c.argBits 21 0 1 ≠ 1) (ha : c.arg 24 8 % 8 = 0)
    (hdma : ((s.sendClamps c).dma c.pf (c.arg 24 8) (hdr + len)).2 = true) : s.canSends c rcd =
      ((s.sendClamps c).dma c.pf (c.arg 24 8) (hdr + len)).1.canQueue c (objNum c.object) (sendFrame c rcd (bufferBytes rcd hdr len)) := by
  subst hlen hhdr
  have hinl : (c.argBits 21 0 1 == 1) = false := beq_eq_false_iff_ne.2 h
  simp only [State.canSends, hinl, ha, hdma, Bool.false_eq_true, ne_eq, not_true_eq_false, if_false, if_true]

end CanSend

section Frames
variable {s v w : State} {dt n lag tdc type pos more : Nat} {f : Frame} {x : OnBus} {d : Cmd} {tx ex past : Bool} {c : Cmd}

/-! ### Received frames (R557, R565, R585) -/

theorem exec_canFrameReceived_can (hn : n < 16) (hrun : (s.tick dt).canRuns n = true) (hst : (s.tick dt).nmSt n ≠ 4)
    (hm0 : (s.tick dt).rd Reg.CAN_XCVR_MODE n ≠ 0) (hm1 : (s.tick dt).rd Reg.CAN_XCVR_MODE n ≠ 1) (hfmt : f.fmt ≤ 3)
    (hw : w = ((s.tick dt).lineSeen n).modCan n fun x => { x with
      rec_ := if x.rec_ = 0 then 0 else if x.rec_ ≤ 127 then x.rec_ - 1 else clampNat 119 127 (Config.recAfter x.rec_) })
    (hv : v = ((w.bump Reg.CAN_TXRX_RXOK n).canCount n 1).canShow n (w.canActive n)) :
    exec (.canFrameReceived dt n f lag) s = .next ((v.tmHeard n f).ingest n f
      ⟨(s.tick dt).now - lag, ((s.tick dt).ntime + 2 ^ 64 - lag % 2 ^ 64) % 2 ^ 64⟩).done := by
  subst hv hw
  exact (exec_canFrameReceived ..).trans (next_done ((if_pos hn).trans (if_neg (bnot_fails (and_holds (and_holds (and_holds (and_holds
    hrun (bne_iff_ne.2 hst)) (bne_iff_ne.2 hm0)) (bne_iff_ne.2 hm1)) (decide_eq_true hfmt))))))

/-- What an enabled LIN channel `n`, segment `g`, does with a frame. -/
def State.linHears (s : State) (g n : Nat) (f : Frame) (t : Stamp) : State :=
  let goSleep := f.id % 64 == 0x3C && f.data.head? == some 0 && !s.flag Reg.LIN_CFG_ROLE n
  let s := s.lineSeen g
  let s := if goSleep then s.linSleep n else s
  if s.linTakes n (f.id % 64) then (s.linCount n 2).ingest g f t else s

theorem State.linHears_takes {g : Nat} {t : Stamp} (hid : f.id % 64 ≠ 0x3C ∨ s.flag Reg.LIN_CFG_ROLE n = true)
    (htake : (s.lineSeen g).linTakes n (f.id % 64) = true) : s.linHears g n f t = ((s.lineSeen g).linCount n 2).ingest g f t := by
  have hwake : ¬ (f.id % 64 == 0x3C && f.data.head? == some 0 && !s.flag Reg.LIN_CFG_ROLE n) = true := by
    obtain hother | hrole := hid
    · simp [hother]
    · simp [hrole]
  simp only [State.linHears, if_neg hwake, htake, if_true]

theorem exec_canFrameReceived_lin (hn : n < 8) (hbus : (s.tick dt).buses = true) (hen : (s.tick dt).flag Reg.LIN_CFG_EN n = true) (hfmt : f.fmt = 4) :
    exec (.canFrameReceived dt (16 + n) f lag) s = .next ((s.tick dt).linHears (16 + n) n f
      ⟨(s.tick dt).now - lag, ((s.tick dt).ntime + 2 ^ 64 - lag % 2 ^ 64) % 2 ^ 64⟩).done := by
  have hchan : 16 + n - 16 = n := Nat.add_sub_cancel_left ..
  have hlive : ((s.tick dt).buses && (s.tick dt).flag Reg.LIN_CFG_EN (16 + n - 16) && f.fmt == 4) = true := by
    rw [hchan]
    exact and_holds (and_holds hbus hen) (beq_iff_eq.2 hfmt)
  refine (exec_canFrameReceived ..).trans (next_done ((if_neg (by omega)).trans ((if_pos (by omega)).trans ((if_neg (bnot_fails hlive)).trans ?_))))
  rw [hchan]
  rfl

/-! ### The end of a frame that was sent (R551, R575) -/

/-- What the sender of a frame learns at its end. -/
def State.canSentFor (s : State) (n : Nat) (b : OnBus) : State :=
  match b.tx.frm with
  | .cmd c => s.complete c .done
  | .own => s.needsDone n
  | .ref => (s.wr Reg.TM_STAT_CYCLE n ((s.rd Reg.TM_STAT_CYCLE n + 1) % 64)).modCan n fun x => { x with tmSof := some b.sof }
  | _ => s

theorem State.canSentFor_command (h : x.tx.frm = .cmd d) : s.canSentFor n x = s.complete d .done := by
  unfold State.canSentFor
  rw [h]

theorem State.canSentFor_reference (h : x.tx.frm = .ref) : s.canSentFor n x =
    (s.wr Reg.TM_STAT_CYCLE n ((s.rd Reg.TM_STAT_CYCLE n + 1) % 64)).modCan n fun y => { y with tmSof := some x.sof } := by
  unfold State.canSentFor
  rw [h]

/-- The frame with identifier `id` is off the bus, and counts no collision and one transmit error less. -/
def State.canOffBus (s : State) (n id : Nat) : State :=
  s.modCan n fun x => { x with bus := none, tec := x.tec - 1, coll := onColl x.coll id fun e => { e with count := 0 } }

/-- A CAN FD frame leaves the delay that was measured (R542). -/
def State.tdcNoted (s : State) (n tdc : Nat) (fd : Bool) : State := if fd && s.flag Reg.CAN_TDC_TDCEN n then s.wr Reg.CAN_TDC_TDCV n tdc else s

/-- The sent frame is counted and shown. -/
def State.canTold (s : State) (n : Nat) : State := (((s.bump Reg.CAN_TXRX_TXOK n).canCount n 0).showTxq n).lineSeen n

/-- The frame `b` of channel `n`, with identifier `id`, has been sent. -/
def State.canLands (s : State) (n tdc : Nat) (b : OnBus) (id : Nat) (fd : Bool) : State :=
  let s := ((s.canOffBus n id).tdcNoted n tdc fd).canTold n
  (((s.canShow n (s.canActive n)).sentCount b.tx b.marked).storedDone b.tx).canSentFor n b

theorem State.tdcNoted_plain {fd : Bool} (h : fd = false ∨ s.flag Reg.CAN_TDC_TDCEN n = false) : s.tdcNoted n tdc fd = s := if_neg (and_fails h)

theorem State.canLands_plain {id : Nat} {fd : Bool} (h : fd = false ∨ s.flag Reg.CAN_TDC_TDCEN n = false) (hw : w = (s.canOffBus n id).canTold n)
    (hv : v = ((w.canShow n (w.canActive n)).sentCount x.tx x.marked).storedDone x.tx) : s.canLands n tdc x id fd = v.canSentFor n x := by
  subst hv hw
  unfold State.canLands
  rw [State.tdcNoted_plain (s := s.canOffBus n id) h]

theorem exec_canFrameSent_running (hn : n < 16) (hrun : (s.tick dt).canRuns n = true) (hbus : ((s.tick dt).can n).bus = some x)
    (hf : x.frame = .bus f) (htdc : f.fmt = 0 ∨ (s.tick dt).flag Reg.CAN_TDC_TDCEN n = false)
    (hw : w = ((s.tick dt).canOffBus n f.id).canTold n)
    (hv : v = ((w.canShow n (w.canActive n)).sentCount x.tx x.marked).storedDone x.tx) :
    exec (.canFrameSent dt n tdc) s = .next (v.canSentFor n x).done := by
  refine (exec_canFrameSent ..).trans (next_done ((if_pos hn).trans ?_))
  rw [hbus]
  refine (if_neg (bnot_fails hrun)).trans ?_
  rw [hf]
  exact State.canLands_plain (htdc.imp_left bne_fails) hw hv

/-! ### Errors (R553, R555, R565) -/

/-- The counts and the record of an error frame. -/
def State.canErred (s : State) (n type pos : Nat) (tx ex : Bool) (more : Nat) : State :=
  ((((((s.lineSeen n).modCan n fun x => { x with
      tec := if tx then x.tec + (if ex then 0 else 8) + 8 * more else x.tec
      rec_ := if tx then x.rec_ else x.rec_ + 1 + 8 * more }).wr
    Reg.CAN_LASTERR_TYPE n type).wr Reg.CAN_LASTERR_TX n (b2n tx)).wr Reg.CAN_LASTERR_POS n pos).bump Reg.CAN_ERRCNT_ERRFR n).canCount n 2

/-- A transmitter whose frame an error destroyed offers it again. -/
def State.canAgain (s : State) (n type pos : Nat) (tx coll : Bool) : State :=
  match (s.can n).bus with
  | none => s
  | some b =>
    if !tx then s
    else
      let s := s.canRetry n b
      match b.frame with
      | .bus f => if coll && type == 1 && afterArb f pos then s.collide n f.id f.fmt pos else s
      | _ => s

theorem State.canAgain_none (h : (s.can n).bus = none ∨ tx = false) : s.canAgain n type pos tx false = s := by
  unfold State.canAgain
  obtain hbus | rfl := h
  · rw [hbus]
  · cases (s.can n).bus <;> rfl

theorem State.canAgain_retry (h : (s.can n).bus = some x) : s.canAgain n type pos true false = s.canRetry n x := by
  unfold State.canAgain
  rw [h]
  dsimp only
  cases x.frame <;> rfl

theorem exec_canErrorFrame_running {coll : Bool} (hrun : (s.tick dt).canRuns n = true) (hv : v = (s.tick dt).canErred n type pos tx ex more)
    (hw : w = v.canShow n (v.canActive n)) : exec (.canErrorFrame dt n type pos tx coll ex more) s = .next (w.canAgain n type pos tx coll).done := by
  subst hw hv
  exact (exec_canErrorFrame ..).trans (next_done (if_neg (bnot_fails hrun)))

theorem State.canFlush_now (s : State) (n : Nat) (code : Code) (sub : Nat) : (s.canFlush n code sub).now = s.now :=
  (State.canFlush_keeps n code sub (.refl s)).now

/-! ### Reference messages (R573) -/

/-- A reference message still waits, in the queue or on the bus before its point of no return. -/
def State.refLate (s : State) (n : Nat) (past : Bool) : Bool :=
  (match (s.can n).bus with | some b => b.tx.frm == .ref && !past | none => false) || (s.can n).queue.any fun t => t.frm == .ref

/-- The reference message joins the queue where there is room. -/
def State.refJoins (s : State) (n : Nat) : State :=
  if 32 ≤ (s.can n).held then s.showTxq n else s.canPush n { ord := 0, frm := .ref, body := .bus { id := s.tmId n, fmt := 0 } }

theorem State.refLate_idle (hbus : (s.can n).bus = none) (hq : (s.can n).queue = []) : s.refLate n past = false := by
  unfold State.refLate
  rw [hbus, hq]
  rfl

theorem exec_tmReferenceDue_idle {k : Nat} (hk : k = (s.tick dt).ntime / ((s.tick dt).rd Reg.TM_CFG_REFPER n * 100000))
    (hsend : (s.tick dt).tmSends n = true) (hlast : ((s.tick dt).can n).tmLast < k) (hw : w = (s.tick dt).modCan n fun x => { x with tmLast := k })
    (hlate : w.refLate n past = false) (hroom : (w.can n).held < 32) :
    exec (.tmReferenceDue dt n past) s = .next (w.canPush n { ord := 0, frm := .ref, body := .bus { id := w.tmId n, fmt := 0 } }).done := by
  subst hw hk
  refine (exec_tmReferenceDue ..).trans (next_done ((if_neg (bnot_fails (and_holds hsend (decide_eq_true hlast)))).trans ?_))
  exact Eq.trans (congrArg (State.refJoins · n) (if_pos (bnot_holds hlate))) (if_neg (Nat.not_le.2 hroom))

end Frames

/-- Settles O21: the commands past their bars, and each row of a channel past its conditions. -/
theorem canCommandsAndFrames : Obligations.CanCommandsAndFrames := by
  intro s dt c rcd n lag tdc type pos more f x d past ex fl b i u id fmt l0 len hdr full frame w
  refine ⟨fun h hbars => ⟨fun hinl => ?_, fun hbuf ha hdma => ?_⟩, fun h => ?_, fun g hg h => ⟨fun hin w hw => ?_, fun hout => ?_⟩,
    fun hn hrun hst hm0 hm1 hfmt v w hw hv => ?_, fun hn hbus hen hfmt hid htake => ?_,
    fun hn hrun hbus hf htdc v w hw hv => ⟨fun hd => ?_, fun href => ?_⟩, fun hbus hrun => ?_, fun v hkeep hv => ?_,
    fun tx v hrun hv w hw => ⟨fun hnone => ?_, fun hbus htx => ?_⟩, fun hrun htec v hv => ?_, fun hn hbus hst hoff => ?_,
    fun hkind hfl hcan hbus => ?_, fun k hk hsend hlast w hw hbus hq hroom => ?_⟩
  · exact (exec_canSend_free h hbars).trans (next_done (State.canSends_inline hinl))
  · exact (exec_canSend_free h hbars).trans (next_done (State.canSends_buffer rfl rfl hbuf ha hdma))
  · exact (exec_idUnblock ..).trans (next_starts h rfl)
  · subst hw hg
    exact (exec_rxRelease ..).trans (next_starts h (if_neg (Nat.not_lt.2 hin)))
  · subst hg
    exact (exec_rxRelease ..).trans (next_starts h (if_pos hout))
  · exact exec_canFrameReceived_can hn hrun hst hm0 hm1 hfmt hw hv
  · exact (exec_canFrameReceived_lin hn hbus hen hfmt).trans (next_done (State.linHears_takes hid htake))
  · exact (exec_canFrameSent_running hn hrun hbus hf htdc hw hv).trans (next_done (State.canSentFor_command hd))
  · exact (exec_canFrameSent_running hn hrun hbus hf htdc hw hv).trans (next_done (State.canSentFor_reference href))
  · refine (exec_canArbitrationLost ..).trans (next_done ?_)
    rw [hbus]
    exact if_pos hrun
  · exact hv.trans (if_neg (Bool.eq_false_iff.1 hkeep))
  · exact (exec_canErrorFrame_running hrun hv hw).trans (next_done (State.canAgain_none hnone))
  · subst htx
    exact (exec_canErrorFrame_running hrun hv hw).trans (next_done (State.canAgain_retry hbus))
  · rw [State.canFlush_now] at hv
    subst hv
    exact (exec_canBusOff ..).trans (next_done (if_pos (and_holds hrun (decide_eq_true htec))))
  · exact (exec_canBusOffRecovery ..).trans (next_done (if_pos
      (and_holds (and_holds (and_holds (decide_eq_true hn) hbus) (beq_iff_eq.2 hst)) (decide_eq_true hoff))))
  · refine (exec_canCancelLatch ..).trans (next_done ?_)
    rw [hfl, hbus]
    exact if_neg (or_fails (congrArg not hkind) (by simpa using hcan))
  · exact exec_tmReferenceDue_idle hk hsend hlast hw (State.refLate_idle hbus hq) hroom

end Sys2Proof.Machine

/-!
The access object: frames of tokens, searches and sessions, authorisation, lock-out and the records of the tokens (R881 to R902).
-/
namespace Sys2Proof.Machine

section Tokens
variable {s v w : State} {dt : Ns} {bs : List Byte} {uhf overlap past : Bool}

/-! ### What a token sends (R881 to R890) -/

/-- A frame that overlaps, or has a bad CRC, marks the slot of a round (R885). -/
def State.frameMarks (s : State) (bs : List Byte) (overlap : Bool) : State :=
  if s.acc.phase = .rounds ∧ s.inSlot ∧ (overlap ∨ !tokenFrameOk bs) then s.ac fun a => { a with bad := true } else s

theorem State.frameMarks_other (h : s.acc.phase ≠ .rounds) : s.frameMarks bs overlap = s := if_neg fun hall => h hall.1

theorem State.frameMarks_good (hok : tokenFrameOk bs = true) : s.frameMarks bs false = s := if_neg fun hall => by simp [hok] at hall

theorem State.frameMarks_bad (hp : s.acc.phase = .rounds) (hin : s.inSlot = true) (hbad : overlap = true ∨ tokenFrameOk bs = false) :
    s.frameMarks bs overlap = s.ac fun a => { a with bad := true } := if_pos ⟨hp, hin, hbad.imp_right bnot_holds⟩

/-- What a frame does that the access object hears. -/
def State.frameHeard (s : State) (uhf : Bool) (bs : List Byte) (overlap : Bool) : State :=
  let s := s.frameMarks bs overlap
  if !tokenFrameOk bs then s
  else if recNum bs 0 1 = 1 ∧ uhf ∧ bs.length = 7 then
    (if s.acc.lockEnd.isSome then s.accUnknown else if s.accBusy then s else s.searchStart 0 (recNum bs 1 4))
  else s.tokenFrame bs

theorem exec_tokenFrameReceived_heard (hfw : (s.tick dt).firmware = true) (href : (s.tick dt).pwr.refPresent = true)
    (hrx : (s.tick dt).flag (if uhf then Reg.ACC_CFG_TKEN else Reg.ACC_CFG_LFEN) = true) :
    exec (.tokenFrameReceived dt uhf bs overlap) s = .next ((s.tick dt).frameHeard uhf bs overlap).done :=
  (exec_tokenFrameReceived ..).trans (next_done (if_neg (or_fails (Bool.or_eq_false_iff.2 ⟨congrArg not hfw, congrArg not href⟩) (congrArg not hrx))))

theorem State.frameHeard_bad (hok : tokenFrameOk bs = false) : s.frameHeard uhf bs overlap = s.frameMarks bs overlap := if_pos (bnot_holds hok)

theorem State.frameHeard_wake (hok : tokenFrameOk bs = true) (hkind : recNum bs 0 1 = 1) (hlen : bs.length = 7) (hv : v = s.frameMarks bs overlap) :
    s.frameHeard true bs overlap = if v.acc.lockEnd.isSome then v.accUnknown else if v.accBusy then v else v.searchStart 0 (recNum bs 1 4) := by
  subst hv
  exact (if_neg (bnot_fails hok)).trans (if_pos ⟨hkind, rfl, hlen⟩)

theorem State.frameHeard_token (hok : tokenFrameOk bs = true) (hkind : recNum bs 0 1 ≠ 1) (hv : v = s.frameMarks bs overlap) :
    s.frameHeard uhf bs overlap = v.tokenFrame bs := by
  subst hv
  exact (if_neg (bnot_fails hok)).trans (if_neg fun hwake => hkind hwake.1)

/-- A good frame that is no wake telegram reaches the phase that runs, outside the rounds. -/
theorem exec_tokenFrameReceived_token (hears : ((s.tick dt).firmware && (s.tick dt).pwr.refPresent && (s.tick dt).flag Reg.ACC_CFG_LFEN
    && tokenFrameOk bs) = true) (hp : (s.tick dt).acc.phase ≠ .rounds) (hkind : recNum bs 0 1 ≠ 1) :
    exec (.tokenFrameReceived dt false bs overlap) s = .next ((s.tick dt).tokenFrame bs).done := by
  obtain ⟨⟨⟨hfw, href⟩, hrx⟩, hok⟩ : ((_ ∧ _) ∧ _) ∧ _ := by simpa only [Bool.and_eq_true] using hears
  exact (exec_tokenFrameReceived_heard (uhf := false) hfw href hrx).trans (next_done (State.frameHeard_token hok hkind (State.frameMarks_other hp).symm))

theorem State.tokenFrame_answer (hp : s.acc.phase = .rounds) (hkind : recNum bs 0 1 = 3) (hlen : bs.length = 6) (hin : s.inSlot = true) :
    s.tokenFrame bs = s.answerHeard (recNum bs 1 4) := by
  unfold State.tokenFrame
  dsimp only
  rw [hkind, hp]
  exact if_pos ⟨hlen, hin⟩

/-- A frame of the token that the object talks to, inside its window, with its length. -/
def State.inWindow (s : State) (bs : List Byte) (len : Nat) : Prop :=
  recNum bs 1 4 = s.acc.serial ∧ s.acc.opens ≤ s.now ∧ s.now ≤ s.acc.closes ∧ bs.length = len

/-- What a token's answer to its challenge must say. -/
def State.proof (s : State) (bs : List Byte) : Nat := Config.aes128 s.acc.key (s.acc.rc + recNum bs 5 8 * 2 ^ 64)

/-- A candidate, or the token of an enrolment, has failed. -/
def State.tokenFails (s : State) : State := if s.acc.enrol.isSome then (s.enrolFail 0x2004).accNext else s.accFail

theorem State.tokenFrame_response (hp : s.acc.phase = .response) (hkind : recNum bs 0 1 = 5) (hin : s.inWindow bs 22) :
    s.tokenFrame bs = if recNum bs 13 8 = s.proof bs % 2 ^ 64 then
      (s.lfSend (6 :: leBytes 4 (recNum bs 1 4) ++ leBytes 8 (s.proof bs / 2 ^ 64 % 2 ^ 64))).ac fun x =>
        { x with
          phase := .acknowledge, rt := recNum bs 5 8, ks := Config.aes128 x.key (recNum bs 5 8 + x.rc * 2 ^ 64) % 2 ^ 128
          opens := s.now + 34768000, closes := s.now + 63768000 }
      else s.tokenFails := by
  obtain ⟨hserial, hopen, hclose, hlen⟩ := hin
  unfold State.tokenFrame
  dsimp only
  rw [hkind, hp]
  exact if_neg (by simp [hserial, hopen, hclose, hlen])

theorem State.tokenFrame_confirm (hp : s.acc.phase = .acknowledge) (hkind : recNum bs 0 1 = 7) (hin : s.inWindow bs 7) (hcode : recNum bs 5 1 ≤ 1) :
    s.tokenFrame bs = if recNum bs 5 1 = 0 then s.authSuccess else s.tokenFails := by
  obtain ⟨hserial, hopen, hclose, hlen⟩ := hin
  unfold State.tokenFrame
  dsimp only
  rw [hkind, hp]
  exact if_neg (by simp [hserial, hopen, hclose, hlen, hcode])

/-! ### The slots of a search (R885, R886) -/

/-- A slot with an overlap counts a collision. -/
def State.slotCounted (s : State) : State :=
  if s.acc.bad then
    (((s.bump Reg.ACC_CNT_COLL 0).accCount 3).accEvent 0x85 (atByte 16 s.acc.round + atByte 17 s.acc.slot)).ac fun x => { x with collided := true, bad := false }
  else s

theorem exec_searchSlotEnd_over (hp : (s.tick dt).acc.phase = .rounds) (hend : (s.tick dt).acc.slotEnd ≤ (s.tick dt).now)
    (hv : v = (s.tick dt).slotCounted) : exec (.searchSlotEnd dt) s =
      .next (if (s.tick dt).acc.slot < 7 then v.ac fun x => { x with slot := x.slot + 1, slotEnd := x.slotEnd + x.slotNs }
        else if v.acc.collided ∧ (s.tick dt).acc.round < 2 then v.searchRound ((s.tick dt).acc.round + 1) else v.roundsEnd).done := by
  subst hv
  refine (exec_searchSlotEnd ..).trans (next_done ((if_neg (not_or.2 ⟨not_not_intro hp, Nat.not_lt.2 hend⟩)).trans ?_))
  cases hbad : (s.tick dt).acc.bad <;> simp only [State.slotCounted, hbad] <;> rfl

/-- A window of the session has closed without its frame (R889). -/
def State.windowOver (s : State) : Bool :=
  match s.acc.phase with
  | .response => decide (s.acc.closes ≤ s.now)
  | .acknowledge => decide (s.acc.closes ≤ s.now + 1000000)
  | _ => false

theorem State.windowOver_holds (h : (s.acc.phase = .response ∧ s.acc.closes ≤ s.now) ∨ (s.acc.phase = .acknowledge ∧ s.acc.closes ≤ s.now + 1000000)) :
    s.windowOver = true := by
  unfold State.windowOver
  obtain ⟨hp, hend⟩ | ⟨hp, hend⟩ := h
  · rw [hp]
    exact decide_eq_true hend
  · rw [hp]
    exact decide_eq_true hend

theorem exec_responseTimeout_over (h : (s.tick dt).windowOver = true) : exec (.responseTimeout dt) s =
    .next (if (s.tick dt).acc.enrol.isSome then ((s.tick dt).enrolFail 0x2004).accNext else ((s.tick dt).authResult 2).accNext).done :=
  (exec_responseTimeout ..).trans (next_done (if_neg (bnot_fails h)))

/-! ### Release messages (R894 to R897) -/

/-- A release message that is due is formed while the counter has values left (R895). -/
def State.relSends (s : State) (kenc kmac : Nat) (n : Nat) : State :=
  if 0xFFFFF000 ≤ s.acc.ctr then
    (if s.acc.spent then s else (s.ac fun a => { a with spent := true }).relLate s.acc.ctr 1).ac fun a => { a with withdraw := 0 }
  else s.relForm kenc kmac n

/-- The next release message comes 100 ms from now. -/
def State.relNext (s : State) : State := s.ac fun a => { a with relAt := s.now + 100000000 }

/-- The release channel is kept awake while authorisation runs. -/
def State.relKept (s : State) : State := if s.acc.authAt.isSome then s.relNeed else s

theorem exec_releaseMessage_due {t0 kenc kmac : Nat} (hfw : (s.tick dt).firmware = true) (hauth : (s.tick dt).acc.authAt = some t0)
    (hdue : (s.tick dt).acc.relAt ≤ (s.tick dt).now + 1000000) (hkeys : (s.tick dt).nv.relKeys = some (kenc, kmac))
    (hv : v = ((s.tick dt).relNext.relKept).relWithdraw ((s.tick dt).rd Reg.ACC_CFG_RELCH) past) :
    exec (.releaseMessage dt past) s = .next (v.relSends kenc kmac ((s.tick dt).rd Reg.ACC_CFG_RELCH)).done := by
  subst hv
  have hrun : ((s.tick dt).acc.authAt.isSome || decide (0 < (s.tick dt).acc.withdraw)) = true := by
    rw [hauth]
    rfl
  refine (exec_releaseMessage ..).trans (next_done ((if_neg (or_fails (Bool.or_eq_false_iff.2 ⟨congrArg not hfw, congrArg not hrun⟩)
    (decide_eq_false (Nat.not_lt.2 hdue)))).trans ?_))
  rw [hkeys]
  rfl

theorem State.relKept_authorised {t0 : Nat} (h : s.acc.authAt = some t0) : s.relKept = s.relNeed := if_pos (by rw [h]; rfl)

end Tokens

section TokenRecords
variable {s v w : State} {dt : Ns} {c : Cmd} {rcd : List Byte} {sig : Bool} {k : Nat}

/-- The rule of the records of an ACC_RECORD (R900). -/
def State.tokenRule (s : State) : RecRule := { defined := fun t op => t == 5 && (op == 2 || op == 3), admitted := s.tokenAdmits }

theorem State.tokenRecord_passes {go : State → State} (hbuf : s.HasRecord c) (hbar : s.recBar rcd sig s.tokenRule = none) :
    s.tokenRecord c rcd sig go = go s :=
  (State.withRecord_reads hbuf _).trans (State.orElse_last hbar rfl)

/-- The slot of a token is revoked, and the revocation reported (R902). -/
def State.tokenRevoked (s : State) (rcd : List Byte) (k : Nat) : State :=
  (({ s with nv := { s.nv with tokens := tput s.nv.tokens k { s.nv.token k with state := 2, key := 0 } } } : State).accept (recNum rcd 12 4)).accEvent
    0x87 (atByte 16 2 + atByte 17 k + atByte 20 (s.nv.token k).serial)

theorem exec_accRevoke_passes (h : s.starts dt c 0x5021 [.access] = true) (hbuf : (s.taken dt c).HasRecord c)
    (hbar : (s.taken dt c).recBar rcd sig (s.taken dt c).tokenRule = none) (hop : recNum rcd 17 1 ≠ 3) (hk : recNum rcd 24 1 = k) (hslot : k < 16)
    (h20 : recNum rcd 20 4 = 0) (h25 : recNum rcd 25 59 = 0) (hv : v = (s.taken dt c).tokenRevoked rcd k) :
    exec (.accRevoke dt c rcd sig) s = .next (((if v.acc.holder = k then v.authEnd 3 else v).begin c).complete c .done).done := by
  subst hv hk
  have hshape : ¬ (16 ≤ recNum rcd 24 1 ∨ recNum rcd 20 4 ≠ 0 ∨ recNum rcd 25 59 ≠ 0) := by omega
  exact (exec_accRevoke ..).trans (next_done ((if_neg hop).trans ((State.serveOp_starts h _).trans
    ((State.tokenRecord_passes hbuf hbar).trans (if_neg hshape)))))

/-- The release keys of a record are installed. -/
def State.relInstalled (s : State) (rcd : List Byte) (keys : Nat) : State :=
  ({ s with nv := { s.nv with relKeys := some (keys % 2 ^ 128, keys / 2 ^ 128 % 2 ^ 128), relCtr := 0 } } : State).accept (recNum rcd 12 4)

theorem exec_accInstallKeys_passes {keys : Nat} (h : s.starts dt c 0x5021 [.access] = true) (hbuf : (s.taken dt c).HasRecord c)
    (hbar : (s.taken dt c).recBar rcd sig (s.taken dt c).tokenRule = none) (hop : recNum rcd 17 1 = 3) (h20 : recNum rcd 20 8 = 0)
    (h76 : recNum rcd 76 8 = 0) (hkeys : keys = Config.transportPlain (recBytes rcd 4 12) (recBytes rcd 0 20) (recBytes rcd 28 32))
    (hv : v = (s.taken dt c).relInstalled rcd keys) (hw : w = v.ac fun x => { x with ctr := 0, spent := false, relAt := max x.relAt v.now }) :
    exec (.accInstallKeys dt c rcd sig true) s =
      .next ((((w.wr Reg.ACC_STAT_RELKEYS 0 1).accEvent 0x87 (atByte 16 3)).begin c).complete c .done).done := by
  subst hw hv hkeys
  have hshape : ¬ (recNum rcd 20 8 ≠ 0 ∨ recNum rcd 76 8 ≠ 0 ∨ (!true) = true) := by simp [h20, h76]
  exact (exec_accInstallKeys ..).trans (next_done ((if_neg (not_not_intro hop)).trans ((State.serveOp_starts h _).trans
    ((State.tokenRecord_passes hbuf hbar).trans (if_neg hshape)))))

/-- A checked ACC_ENROL challenges its token, or waits for the search that runs (R901). -/
def State.enrols (s : State) (c : Cmd) (e : Enrol) : State :=
  if s.acc.phase = .idle then ((s.begin c).enrolStart e).accShow else s.ac fun a => { a with enrols := a.enrols ++ [e] }

theorem exec_accEnrol_passes {serial slot : Nat} {e : Enrol} (h : s.starts dt c 0x5020 [.access] = true) (hlock : (s.taken dt c).acc.lockEnd = none)
    (hbuf : (s.taken dt c).HasRecord c) (hslot : slot = recNum rcd 24 1) (hserial : serial = recNum rcd 20 4) (hlt : slot < 16)
    (h25 : recNum rcd 25 3 = 0) (h44 : recNum rcd 44 40 = 0)
    (hbar : (s.taken dt c).recBar rcd sig { defined := fun t op => t == 5 && op == 1, admitted := (s.taken dt c).tokenAdmits } = none)
    (hown : ((s.taken dt c).nv.token slot).state = 1 → ((s.taken dt c).nv.token slot).serial = serial)
    (hother : ((List.range 16).any fun k => k != slot && ((s.taken dt c).nv.token k).state == 1 && ((s.taken dt c).nv.token k).serial == serial) = false)
    (he : e = { cmd := c, serial, slot, key := recNum rcd 28 16, count := recNum rcd 12 4 }) :
    exec (.accEnrol dt c rcd sig) s = .next ((s.taken dt c).enrols c e).done := by
  subst he hserial hslot
  have hopen : ¬ (s.taken dt c).acc.lockEnd.isSome = true := by rw [hlock]; decide
  have hshape : (decide (recNum rcd 24 1 < 16) && recNum rcd 25 3 == 0 && recNum rcd 44 40 == 0) = true :=
    and_holds (and_holds (decide_eq_true hlt) (beq_iff_eq.2 h25)) (beq_iff_eq.2 h44)
  have hsame : (((s.taken dt c).nv.token (recNum rcd 24 1)).state == 1
      && ((s.taken dt c).nv.token (recNum rcd 24 1)).serial != recNum rcd 20 4) = false := by
    by_cases hst : ((s.taken dt c).nv.token (recNum rcd 24 1)).state = 1
    · rw [bne_fails (hown hst), Bool.and_false]
    · rw [beq_eq_false_iff_ne.2 hst, Bool.false_and]
  exact (exec_accEnrol ..).trans (next_starts h ((if_neg hopen).trans ((State.withRecord_reads hbuf _).trans
    (State.orElse_skip hbar (State.orElse_skip (barIf_none (congrArg not hshape)) (State.orElse_skip (barIf_none hsame)
      (State.orElse_last (barIf_none hother) rfl)))))))

end TokenRecords

/-- Settles O38: a token's frame by its kind and the phase, the searches, sessions and timers by their conditions, and a record past its checks. -/
theorem accessRows : Obligations.AccessRows := by
  intro s dt c bs rcd past t0 kenc kmac b u a hears
  refine ⟨fun hfw href hrx hok hkind hlen => ⟨fun hfree hp hlock => ?_, fun hp hlock => ?_⟩, fun hfw href hrx hp hin v hv =>
      ⟨fun hbad => ?_, fun hok hkind hlen hvp hvin => ?_, fun hok hkind hlen => ?_⟩,
    fun hh hp hkind hserial hopen hclose hlen => ⟨fun hwrong => ?_, fun hright => ?_⟩,
    fun hh hp hkind hserial hopen hclose hlen => ⟨fun hcode => ?_, fun hcode => ?_⟩,
    fun hp hend v hv => ⟨fun hslot => ?_, fun hslot hcoll hround => ?_, fun hslot hlast => ?_⟩, fun hover => ?_, fun hp hend => ?_,
    fun hfw hauth hdue hkeys v hv hctr hauth' => ?_, fun hauth hset hdue => ?_, fun hlock hend hdie v hv => ?_, fun hlock hdie hdue => ?_,
    fun h hlock => ?_, fun haddr hlen hdma => ⟨fun h hlock slot serial e hslot hserial hlt h25 h44 hbar hown hother he => ⟨fun hidle => ?_, fun hbusy => ?_⟩,
      fun h hbar => ⟨fun hop v k hk hlt h20 h25 hv => ?_, fun hop h20 h76 v w keys hkeys hv hw => ?_⟩⟩⟩
  · exact (exec_tokenFrameReceived_heard (uhf := true) hfw href hrx).trans (next_done ((State.frameHeard_wake hok hkind hlen
      (State.frameMarks_other hp).symm).trans ((if_neg (by rw [show u.acc.lockEnd = none from hlock]; decide)).trans
        (if_neg (Bool.eq_false_iff.1 hfree)))))
  · exact (exec_tokenFrameReceived_heard (uhf := true) hfw href hrx).trans (next_done ((State.frameHeard_wake hok hkind hlen
      (State.frameMarks_other hp).symm).trans (if_pos hlock)))
  · subst hv
    exact (exec_tokenFrameReceived_heard (uhf := false) hfw href hrx).trans (next_done ((State.frameHeard_bad hbad).trans
      (State.frameMarks_bad hp hin (.inr hbad))))
  · have hmark : v = u.frameMarks bs true := hv.trans (State.frameMarks_bad hp hin (.inl rfl)).symm
    exact (exec_tokenFrameReceived_heard (uhf := false) hfw href hrx).trans (next_done ((State.frameHeard_token hok (by omega) hmark).trans
      (State.tokenFrame_answer hvp hkind hlen hvin)))
  · exact (exec_tokenFrameReceived_heard (uhf := false) hfw href hrx).trans (next_done ((State.frameHeard_token hok (by omega)
      (State.frameMarks_good hok).symm).trans (State.tokenFrame_answer hp hkind hlen hin)))
  · exact (exec_tokenFrameReceived_token hh (hp ▸ nofun) (by omega)).trans (next_done
      ((State.tokenFrame_response hp hkind ⟨hserial, hopen, hclose, hlen⟩).trans (if_neg hwrong)))
  · exact (exec_tokenFrameReceived_token hh (hp ▸ nofun) (by omega)).trans (next_done
      ((State.tokenFrame_response hp hkind ⟨hserial, hopen, hclose, hlen⟩).trans (if_pos hright)))
  · exact (exec_tokenFrameReceived_token hh (hp ▸ nofun) (by omega)).trans (next_done
      ((State.tokenFrame_confirm hp hkind ⟨hserial, hopen, hclose, hlen⟩ (by omega)).trans (if_pos hcode)))
  · exact (exec_tokenFrameReceived_token hh (hp ▸ nofun) (by omega)).trans (next_done
      ((State.tokenFrame_confirm hp hkind ⟨hserial, hopen, hclose, hlen⟩ (by omega)).trans (if_neg (by omega))))
  · exact (exec_searchSlotEnd_over hp hend hv).trans (next_done (if_pos hslot))
  · exact (exec_searchSlotEnd_over hp hend hv).trans (next_done ((if_neg (Nat.not_lt.2 (Nat.le_of_eq hslot.symm))).trans (if_pos ⟨hcoll, hround⟩)))
  · have hdone : ¬ (v.acc.collided = true ∧ u.acc.round < 2) := fun hmore =>
      hlast.elim (fun hnone => Bool.eq_false_iff.1 hnone hmore.1) (fun hround => Nat.not_lt.2 hround hmore.2)
    exact (exec_searchSlotEnd_over hp hend hv).trans (next_done ((if_neg (Nat.not_lt.2 (Nat.le_of_eq hslot.symm))).trans (if_neg hdone)))
  · exact exec_responseTimeout_over (State.windowOver_holds hover)
  · exact (exec_sessionTimeout ..).trans (next_done (if_pos ⟨hp, hend⟩))
  · have hkept : v = (u.relNext.relKept).relWithdraw (u.rd Reg.ACC_CFG_RELCH) past := by
      rw [State.relKept_authorised (s := u.relNext) hauth']
      exact hv
    exact (exec_releaseMessage_due hfw hauth hdue hkeys hkept).trans (next_done (if_neg (Nat.not_le.2 hctr)))
  · refine (exec_authTimeout ..).trans (next_done ?_)
    rw [show (State.tick dt s).acc.authAt = some t0 from hauth]
    exact if_pos ⟨hset, hdue⟩
  · subst hv
    refine (exec_accLockoutEnd ..).trans (next_done ?_)
    rw [show (State.tick dt s).acc.lockEnd = some t0 from hlock]
    exact if_pos ⟨hend, hdie⟩
  · exact (exec_lockoutStore ..).trans (next_done (if_pos ⟨hlock, hdie, hdue⟩))
  · exact (exec_accEnrol ..).trans (next_starts h (if_pos hlock))
  · exact (exec_accEnrol_passes h hlock ⟨haddr, hlen, hdma⟩ hslot hserial hlt h25 h44 hbar hown hother he).trans (next_done (if_pos hidle))
  · exact (exec_accEnrol_passes h hlock ⟨haddr, hlen, hdma⟩ hslot hserial hlt h25 h44 hbar hown hother he).trans (next_done (if_neg hbusy))
  · exact exec_accRevoke_passes h ⟨haddr, hlen, hdma⟩ hbar (by omega) hk.symm hlt h20 h25 hv
  · exact exec_accInstallKeys_passes h ⟨haddr, hlen, hdma⟩ hbar hop h20 h76 hkeys hv hw

end Sys2Proof.Machine
